-- ==== Sys2Proof/Word.lean ====
section
/-! DEFINITION. The word types of the block: bytes, register words and the 64-bit blocks of the lanes. -/

namespace Sys2Proof

/-- A byte of a store or of a byte stream. -/
abbrev Byte := BitVec 8

/-- A register of 32 bits (13 R474). -/
abbrev Word := BitVec 32

/-- A 64-bit block of a Ply packet or of a return response (04 R129, 06 R231). -/
abbrev Block := BitVec 64

/-- A 66-bit block of a lane before scrambling: its sync header, 0b10 for a control block and 0b01 for a data block, and its
payload (04 R126, 05 R188). -/
structure Block66 where
  /-- A control block. -/
  ctrl : Bool
  /-- Payload D[63:0]. -/
  d : Block
  deriving DecidableEq, Repr

/-- Registers that hold something else than their reset value, by address, addresses rising. An active copy stands
at its shadow's address plus 0x800 (00 R5). -/
abbrev RegFile := List (Nat × Word)

end Sys2Proof
end

