-- ==== Sys2Proof/Syntax.lean ====
section
/-! DEFINITION. The commands of the block: one constructor for each row of spec/opcode_table.json, in the table's
order. The table gives no operands; the operands here carry what the governing rule says the event or access brings
with it. Every command carries `t`, the instant of its registration in 1/64 of a time-base tick (11 R396). -/

namespace Sys2Proof

/-- A requester of the register fabric (13 R481, 13 R496). -/
inductive Req where
  /-- The host, through either port. -/
  | host
  /-- Forester. -/
  | forester
  /-- A DMA channel (14 R518). -/
  | dma (ch : Fin 8)
  deriving DecidableEq, Repr

/-- Mechanism of a crossing, as CLK_STALLINFO KIND names it (12 R456). -/
inductive CrossingKind where
  | holdAndFlag | fifo
  deriving DecidableEq, Repr

/-- Who inside the block has an upstream read of host memory (13 R496). -/
inductive UpWho where
  /-- A source line of a layer slot, by source line number (07 R276). -/
  | line (slot : Fin 16) (n : Nat)
  /-- A tag check of a layer slot (07 R283). -/
  | tag (slot : Fin 16)
  /-- A DMA channel (14 R513). -/
  | dma (ch : Fin 8)
  deriving DecidableEq, Repr

/-- Synthesisers (12 R432). -/
inductive Synth where
  | sys | ol | il | pcie
  deriving DecidableEq, Repr

/-- Resets of 13 R463. -/
inductive HostReset where
  | fundamental | hot | linkDown | function
  deriving DecidableEq, Repr

/-- What a completion of an upstream request brings (13 R467). -/
inductive UpAnswer where
  /-- Successful Completion with its data. -/
  | data (bytes : List Byte)
  /-- A completion status other than Successful Completion. -/
  | status
  /-- Poisoned data. -/
  | poisoned
  deriving DecidableEq, Repr

/-- A configuration write (13 R464, R465, R490). -/
inductive CfgWrite where
  /-- Bus Master Enable. -/
  | busMaster (on : Bool)
  /-- Power state: D3hot when true, D0 when false. -/
  | powerState (d3 : Bool)
  /-- MSI-X Enable and Function Mask. -/
  | msix (enable mask : Bool)
  /-- Completion Timeout Value of Device Control 2. -/
  | timeout (v : BitVec 4)
  deriving DecidableEq, Repr

/-- A Forester reset's cause (18 R640). -/
inductive ForCause where
  /-- PORST_N release or core release. -/
  | power
  /-- Thermal or commanded shutdown. -/
  | shutdown
  /-- Firmware watchdog. -/
  | watchdog
  /-- TCM error. -/
  | tcm
  /-- SWRST. -/
  | software
  /-- Debug reset. -/
  | debug
  deriving DecidableEq, Repr

/-- An exception Forester's processor takes (18 R639). -/
inductive ForException where
  /-- A physical memory protection fault, with its RISC-V cause code. -/
  | pmp (code : Word)
  /-- Any other exception, with its RISC-V cause code. -/
  | other (code : Word)
  deriving DecidableEq, Repr

/-- The request of an accepted safety serial port frame (17 R629). -/
structure SspiReq where
  /-- CMD. -/
  cmd : Byte
  /-- ADDR. -/
  addr : BitVec 16
  /-- DATA. -/
  data : Word
  deriving DecidableEq, Repr

/-- The clock windows that end in one CLOCK_MONITOR_WINDOW (12 R435): edges counted in the 4 µs window and the
frequency measured over the last 1 ms of reference, in kHz. -/
structure ClockWindow where
  /-- Domain (12 R432). -/
  dom : Fin 8
  /-- Edges counted in the window. -/
  edges : Nat
  /-- Frequency over the last 1 ms of reference, in kHz. -/
  khz : BitVec 20
  deriving DecidableEq, Repr

/-- One sample of the supply monitors (15 R531): millivolts of the seven rails and current units of the four
monitored rails. -/
structure RailReading where
  /-- Millivolts, in the order of 15 R530. -/
  mv : Vector Nat 7
  /-- Current units, in the order of 15 R530. -/
  cur : Vector Nat 4
  deriving DecidableEq, Repr

/-- Levels Glade samples in one cycle (17 R595): the two channels of each safety input pair and SRST_N. -/
structure GladePins where
  /-- SIN_A1. -/
  a1 : Bool
  /-- SIN_A2. -/
  a2 : Bool
  /-- SIN_B1. -/
  b1 : Bool
  /-- SIN_B2. -/
  b2 : Bool
  /-- SRST_N. -/
  srst : Bool
  deriving DecidableEq, Repr

/-- What the flash reader finds in the flash at LOAD (17 R616, R620). -/
structure FlashLoad where
  /-- GPR copy A, 512 bytes. -/
  gprA : List Byte
  /-- GPR copy B, 512 bytes. -/
  gprB : List Byte
  /-- The pattern as FB_ADDR, FB_LEN and FB_RDCMD of the GPR in force find it. -/
  pattern : List Byte
  deriving DecidableEq, Repr

/-- A debug port action (19 R684). -/
inductive DebugOp where
  /-- IDCODE, available whether debug is open or not (19 R682). -/
  | idcode
  | halt | resume | step | reset
  /-- Read of Forester's address map. -/
  | read (addr : Word)
  /-- Write to Forester's address map. -/
  | write (addr : Word) (data : Word)
  | extest (cells : List Bool)
  | sample
  deriving DecidableEq, Repr

/-- How Forester accesses the TCM word of a TCM_ERROR (18 R638). -/
inductive TcmError where
  /-- One bit in error. -/
  | single (word : Nat)
  /-- Uncorrectable. -/
  | double (word : Nat)
  deriving DecidableEq, Repr

/-- An upset of a store, seen by the next read of the word (03 R80, R81, R92; 09 R331, R349; 10 R381; 17 R624). -/
inductive Upset where
  /-- Show bank of the surface, 64-bit word; more than one bit when `multi`. -/
  | bank (word : Nat) (multi : Bool)
  /-- Emitter health map, 64-bit word. -/
  | health (word : Nat) (multi : Bool)
  /-- Calibration store, 64-bit word. -/
  | calib (word : Nat) (multi : Bool)
  /-- Curve entry, by (set × 4 + table) × 1025 + index: parity. -/
  | curve (i : Nat)
  /-- Derating entry, by tile: parity. -/
  | derate (tile : Nat)
  /-- Fallback store, 16-bit word: parity. -/
  | fallback (halfword : Nat)
  /-- ACTIVE list buffer of the surface: parity. -/
  | list
  deriving DecidableEq, Repr

/-- A bundle as the receiver of a handshake captures it (08 R297–R300). -/
structure Bundle where
  /-- An emitter that it carries. -/
  emitter : Nat
  /-- Rails of the control digit K1. -/
  k1 : BitVec 4
  /-- Rails of the control digit K0. -/
  k0 : BitVec 4
  /-- Each 16 bits of it with their parity bit. -/
  fields : List (BitVec 16 × Bool)
  /-- The canary latches captured a value that differs from the real latches'. -/
  canary : Bool
  deriving DecidableEq, Repr

/-- What an unacknowledged request of a segment is for (08 R312, R313). -/
inductive SegWait where
  /-- The next segment. -/
  | handshake
  /-- A clocked domain, across its crossing. -/
  | crossing (far : Fin 8)
  /-- A line that an output line of the surface needs. -/
  | line (u : Fin 2)
  /-- A token of its ring. -/
  | token
  /-- Space in a lane buffer of the skein. -/
  | laneBuffer (k : Fin 4)
  deriving DecidableEq, Repr

/-- A bundle error of the fabric (08 R311). -/
inductive BundleError where
  /-- A parity error in a bundle that carries the emitter. -/
  | parity (emitter : Nat)
  /-- A code error. -/
  | code
  /-- A canary latch differs (08 R300). -/
  | canary
  deriving DecidableEq, Repr

/-- An AM that a receiver takes (05 R195, R196). -/
structure RxMarker where
  /-- Its payload. -/
  blk : Block
  /-- Parity of the scrambled payload bits received since the AM before. -/
  parity : BitVec 8
  /-- Blocks from the AM before to this one. -/
  gap : Nat
  deriving DecidableEq, Repr

/-- What an intake lane has received as it gains lock (05 R190, R196, R197, R203). -/
structure LockGain where
  /-- The last sync headers, oldest first. -/
  hdrs : List (BitVec 2)
  /-- The AMs since the lane's last event, oldest first. -/
  ams : List RxMarker
  /-- The lane has been brought into line with the others of its stream. -/
  aligned : Bool
  /-- The last TRAIN block of a burst that is being received. -/
  train : Option Block
  deriving DecidableEq, Repr

/-- What an intake lane has received, or missed, as it loses lock (05 R190, R196, R197, R205). -/
structure LockLoss where
  /-- The last sync headers, oldest first. -/
  hdrs : List (BitVec 2)
  /-- How long the amplitude has stayed below the loss-of-signal threshold, in 1/64 ticks. -/
  dark : Nat
  /-- The AMs since the lane's last event, oldest first. -/
  ams : List RxMarker
  /-- Consecutive marker slots without a valid AM. -/
  missed : Nat
  /-- The lane can no longer be brought into line. -/
  skewed : Bool
  /-- A valid EIE came before the loss. -/
  idle : Bool
  deriving DecidableEq, Repr

/-- What a test receiver TRXn takes (05 R219, R220). -/
inductive TestRx where
  /-- Sync headers, oldest first. -/
  | blocks (hdrs : List (BitVec 2))
  /-- Bits of an uncoded pattern, oldest first. -/
  | pattern (bits : List Bool)
  deriving DecidableEq, Repr

/-- A block of a Ply stream that stands where it may not (06 R231, R233). -/
inductive PlyError where
  /-- A control block of no TYPE of 06 R231, outside any packet. -/
  | strayType
  /-- A run of data blocks outside any packet. -/
  | strayData
  /-- A control block that ends a line packet with the given header; of no TYPE of 06 R231 when `unknown`. -/
  | inLine (hdr : Block) (unknown : Bool)
  /-- A control block that ends a side packet; of no TYPE of 06 R231 when `unknown`. -/
  | inSide (unknown : Bool)
  deriving DecidableEq, Repr

/-- The commands. -/
inductive Instr where
  /-- PORST_N_RELEASE (20 R696). -/
  | porstNRelease (t : Nat) (hostSel testEn : Bool)
  /-- PORST_N_ASSERT (20 R694). -/
  | porstNAssert (t : Nat)
  /-- STORE_INIT_DONE (03 R77). -/
  | storeInitDone (t : Nat)
  /-- CRYPTO_SELF_TEST_DONE (19 R678). -/
  | cryptoSelfTestDone (t : Nat) (ok : Bool)
  /-- CORE_UNDER_VOLTAGE (15 R537). -/
  | coreUnderVoltage (t : Nat)
  /-- CORE_RESET (15 R537). -/
  | coreReset (t : Nat)
  /-- CORE_RELEASE (20 R695). -/
  | coreRelease (t : Nat)
  /-- GLADE_POWER_LOSS (17 R588). -/
  | gladePowerLoss (t : Nat)
  /-- GLADE_LOAD_END (17 R617). -/
  | gladeLoadEnd (t : Nat) (flash : FlashLoad)
  /-- TIME_BASE_BOUNDARY (11 R398). -/
  | timeBaseBoundary (t : Nat)
  /-- GENLOCK_EDGE (11 R403). -/
  | genlockEdge (t : Nat) (rise : Bool) (held : Nat)
  /-- GENLOCK_MISSING (11 R403). -/
  | genlockMissing (t : Nat)
  /-- HOLDOVER_EXPIRY (11 R404). -/
  | holdoverExpiry (t : Nat)
  /-- GENLOCK_OUT_PULSE_END (11 R407). -/
  | genlockOutPulseEnd (t : Nat)
  /-- SURFACE_FRAME_BOUNDARY (03 R74). -/
  | surfaceFrameBoundary (t : Nat) (u : Fin 2)
  /-- DERATING_MAP_WRITTEN (09 R344). -/
  | deratingMapWritten (t : Nat) (u : Fin 2)
  /-- DECISION_INSTANT (11 R409). -/
  | decisionInstant (t : Nat) (u : Fin 2)
  /-- PLANE_CUTOFF (10 R383). -/
  | planeCutoff (t : Nat) (k : Fin 4) (upsets : List Upset) (bundles : List (Fin 8 × Bundle))
  /-- PLANE_LOAD_START (03 R105). -/
  | planeLoadStart (t : Nat) (k : Fin 4) (idles : List Nat)
  /-- PLANE_SHOW_INSTANT (04 R137). -/
  | planeShowInstant (t : Nat) (u : Fin 2) (fill : Nat)
  /-- TICK_ROW (04 R141). -/
  | tickRow (t : Nat) (k : Fin 4)
  /-- FALLBACK_SELECT_RISE (17 R609). -/
  | fallbackSelectRise (t : Nat) (u : Fin 2)
  /-- FALLBACK_SELECT_FALL (03 R101). -/
  | fallbackSelectFall (t : Nat) (u : Fin 2)
  /-- SPLICE (10 R384). -/
  | splice (t : Nat) (k : Fin 4) (idles : List Nat) (bundles : List (Fin 8 × Bundle))
  /-- BAR2_FRAME_STORE_READ (03 R83). -/
  | bar2FrameStoreRead (t : Nat) (req : Req) (addr len : Nat)
  /-- BAR2_FRAME_STORE_WRITE (03 R84). -/
  | bar2FrameStoreWrite (t : Nat) (req : Req) (addr : Nat) (data : List Byte)
  /-- BAR2_HEALTH_MAP_WRITE (03 R93). -/
  | bar2HealthMapWrite (t : Nat) (req : Req) (addr : Nat) (data : List Byte)
  /-- BAR2_LAYER_STORE_WRITE (07 R262). -/
  | bar2LayerStoreWrite (t : Nat) (req : Req) (addr : Nat) (data : List Byte)
  /-- BAR2_CALIBRATION_WRITE (09 R350). -/
  | bar2CalibrationWrite (t : Nat) (req : Req) (addr : Nat) (data : List Byte)
  /-- BAR2_CALIBRATION_READ (09 R350). -/
  | bar2CalibrationRead (t : Nat) (req : Req) (addr len : Nat)
  /-- ST_HM_SET (03 R93). -/
  | stHmSet (t : Nat) (req : Req) (v : Word)
  /-- ST_HM_CLR (03 R94). -/
  | stHmClr (t : Nat) (req : Req) (v : Word)
  /-- POLL_INTERVAL (04 R161). -/
  | pollInterval (t : Nat) (b : Fin 2)
  /-- MISSING_POLL (04 R171). -/
  | missingPoll (t : Nat) (b : Fin 2)
  /-- STATUS_RESPONSE (04 R165). -/
  | statusResponse (t : Nat) (b : Fin 2) (blocks : List Block)
  /-- IDENTITY_RESPONSE (04 R170). -/
  | identityResponse (t : Nat) (b : Fin 2) (blocks : List Block)
  /-- REGISTER_READ_RESPONSE (04 R163). -/
  | registerReadResponse (t : Nat) (b : Fin 2) (blocks : List Block)
  /-- RETURN_BLOCK_DISCARD (04 R164). -/
  | returnBlockDiscard (t : Nat) (b : Fin 2) (blocks : List Block66)
  /-- ARRAY_REG_WRITE (04 R142). -/
  | arrayRegWrite (t : Nat) (req : Req) (v : Word)
  /-- ARRAY_REG_READ (04 R163). -/
  | arrayRegRead (t : Nat) (req : Req) (v : Word)
  /-- LALERT_RECEIVED (05 R215). -/
  | lalertReceived (t : Nat) (b : Fin 2) (blk : Block)
  /-- OUTPUT_DRIVER_FAULT (05 R216). -/
  | outputDriverFault (t : Nat) (l : Fin 8)
  /-- TRAINING_BURST_END (05 R211). -/
  | trainingBurstEnd (t : Nat) (l : Fin 8)
  /-- RETRAIN_WAIT_EXPIRY (05 R211). -/
  | retrainWaitExpiry (t : Nat) (l : Fin 8)
  /-- HOLD_CONFIRM_TIMEOUT (05 R211). -/
  | holdConfirmTimeout (t : Nat) (l : Fin 8)
  /-- HOLD_IDLE_TIMEOUT (05 R211). -/
  | holdIdleTimeout (t : Nat) (l : Fin 8)
  /-- SERVICE_STABLE_TIMER (05 R212). -/
  | serviceStableTimer (t : Nat) (l : Fin 8)
  /-- SYNTHESISER_LOCK_LOSS (05 R213). -/
  | synthesiserLockLoss (t : Nat) (syn : Synth)
  /-- SYNTHESISER_RELOCK (05 R213). -/
  | synthesiserRelock (t : Nat) (syn : Synth)
  /-- MARKER_SLOT (05 R194). -/
  | markerSlot (t : Nat) (k : Fin 4)
  /-- RETRY (05 R211). -/
  | retry (t : Nat) (req : Req) (l : Fin 8) (v : Word)
  /-- SK_LOOP_WRITE (05 R219). -/
  | skLoopWrite (t : Nat) (req : Req) (l : Fin 8) (v : Word)
  /-- RETURN_LANE_LOCK_LOSS (05 R225). -/
  | returnLaneLockLoss (t : Nat) (b : Fin 2) (hdrs : List (BitVec 2)) (dark : Nat)
  /-- INTAKE_LANE_LOCK_LOSS (06 R230). -/
  | intakeLaneLockLoss (t : Nat) (l : Fin 4) (w : LockLoss)
  /-- FRAME_START (06 R237). -/
  | frameStart (t : Nat) (st : Fin 4) (blk : Block)
  /-- LINE_PACKET (06 R240). -/
  | linePacket (t : Nat) (st : Fin 4) (blocks : List Block)
  /-- FRAME_END (06 R243). -/
  | frameEnd (t : Nat) (st : Fin 4) (blk : Block)
  /-- SIDE_PACKET (06 R249). -/
  | sidePacket (t : Nat) (st : Fin 4) (blocks : List Block)
  /-- PLY_BLOCK_ERROR (06 R233). -/
  | plyBlockError (t : Nat) (st : Fin 4) (e : PlyError)
  /-- SIDE_PACKET_APERTURE_READ (06 R251). -/
  | sidePacketApertureRead (t : Nat) (ch : Fin 8) (q : Fin 4)
  /-- COMPOSE_OUTPUT_LINE (07 R277). -/
  | composeOutputLine (t : Nat) (u : Fin 2) (upsets : List Upset) (bundles : List (Fin 8 × Bundle))
  /-- LINE_FETCH_ISSUE (07 R276). -/
  | lineFetchIssue (t : Nat) (slot : Fin 16)
  /-- LINE_FETCH_COMPLETE (07 R278). -/
  | lineFetchComplete (t : Nat) (slot : Fin 16)
  /-- FRAME_COMPLETE (03 R75). -/
  | frameComplete (t : Nat) (u : Fin 2)
  /-- SEGMENT_WATCHDOG (08 R312). -/
  | segmentWatchdog (t : Nat) (seg : Fin 8) (wait : SegWait) (ack : Option Nat)
  /-- FB_INJ (08 R315). -/
  | fbInj (t : Nat) (req : Req) (u : Fin 2) (v : Word)
  /-- FB_MREQ (08 R309). -/
  | fbMreq (t : Nat) (req : Req) (u : Fin 2) (v : Word)
  /-- FB_CLR (08 R321). -/
  | fbClr (t : Nat) (req : Req) (u : Fin 2) (v : Word)
  /-- DROOP_TRIP (15 R535). -/
  | droopTrip (t : Nat)
  /-- DROOP_RELEASE (15 R534). -/
  | droopRelease (t : Nat)
  /-- DROOP_LONG (15 R536). -/
  | droopLong (t : Nat)
  /-- RAIL_SAMPLE (15 R531). -/
  | railSample (t : Nat) (r : RailReading)
  /-- MONITOR_SELF_CHECK (15 R532). -/
  | monitorSelfCheck (t : Nat) (m : Fin 4) (pass : Bool)
  /-- DIE_MODEL_STEP (15 R542). -/
  | dieModelStep (t : Nat)
  /-- THROTTLE_STEP (15 R544). -/
  | throttleStep (t : Nat)
  /-- ORDERLY_WINDOW_END (15 R545). -/
  | orderlyWindowEnd (t : Nat)
  /-- TREF_STALE (15 R539). -/
  | trefStale (t : Nat)
  /-- ARRAY_TEMP_STALE (15 R551). -/
  | arrayTempStale (t : Nat) (a : Fin 16)
  /-- THM_TREF (15 R539). -/
  | thmTref (t : Nat) (req : Req) (v : Word)
  /-- THM_TJADD (15 R540). -/
  | thmTjadd (t : Nat) (req : Req) (v : Word)
  /-- THM_LIM (15 R541). -/
  | thmLim (t : Nat) (req : Req) (v : Word)
  /-- CLOCK_MONITOR_WINDOW (12 R435). -/
  | clockMonitorWindow (t : Nat) (w : ClockWindow)
  /-- CROSSING_STALL (12 R452). -/
  | crossingStall (t : Nat) (live far : Fin 8) (kind : CrossingKind) (lost : List Req) (ack : Option Nat)
  /-- HOST_PORT_RESET (13 R463). -/
  | hostPortReset (t : Nat) (kind : HostReset)
  /-- UPSTREAM_COMPLETION (13 R467). -/
  | upstreamCompletion (t : Nat) (tag : Nat) (a : UpAnswer)
  /-- COMPLETION_TIMEOUT (13 R466). -/
  | completionTimeout (t : Nat) (tag : Nat)
  /-- REGISTER_WRITE (13 R481). -/
  | registerWrite (t : Nat) (req : Req) (addr : BitVec 21) (v : Word) (be : BitVec 4)
  /-- QSPI_READ (13 R470). -/
  | qspiRead (t : Nat) (addr : Word) (dwords : Nat)
  /-- QSPI_READ_TIMEOUT (13 R470). -/
  | qspiReadTimeout (t : Nat) (addr : Word)
  /-- QSPI_WRITE (13 R471). -/
  | qspiWrite (t : Nat) (addr : Word) (bytes : List Byte)
  /-- QSPI_STATUS (13 R472). -/
  | qspiStatus (t : Nat)
  /-- QSPI_IDENT (13 R469). -/
  | qspiIdent (t : Nat)
  /-- PG_OWNER_WRITE (13 R482). -/
  | pgOwnerWrite (t : Nat) (req : Req) (page : Byte) (v : Word)
  /-- OWN_LOCK (13 R482). -/
  | ownLock (t : Nat) (req : Req) (page : Byte) (v : Word)
  /-- PG_IRQ_PEND_CLEAR (13 R487). -/
  | pgIrqPendClear (t : Nat) (req : Req) (page : Byte) (v : Word)
  /-- PG_IRQ_FORCE (13 R488). -/
  | pgIrqForce (t : Nat) (req : Req) (page : Byte) (v : Word)
  /-- PG_FLT_FORCE (16 R581). -/
  | pgFltForce (t : Nat) (req : Req) (page : Byte) (v : Word)
  /-- HOST_VEC_ARM (13 R490). -/
  | hostVecArm (t : Nat) (req : Req) (v : Word)
  /-- MSIX_MESSAGE (13 R490). -/
  | msixMessage (t : Nat) (vec : Fin 32)
  /-- MB_DOOR (13 R498). -/
  | mbDoor (t : Nat) (req : Req) (v : Word)
  /-- MAILBOX_TIMEOUT (13 R499). -/
  | mailboxTimeout (t : Nat)
  /-- FP_MB_DONE (18 R662). -/
  | fpMbDone (t : Nat) (v : Word)
  /-- FP_MB_EVT (18 R662). -/
  | fpMbEvt (t : Nat) (v : Word)
  /-- TOP_COMMIT (11 R411). -/
  | topCommit (t : Nat) (req : Req) (v : Word)
  /-- TOP_PHASE_WRITE (20 R701). -/
  | topPhaseWrite (t : Nat) (req : Req) (v : Word)
  /-- SHUTDOWN_START (20 R707). -/
  | shutdownStart (t : Nat) (req : Req) (v : Word)
  /-- SHUTDOWN_END (20 R708). -/
  | shutdownEnd (t : Nat) (req : Req) (v : Word)
  /-- DMA_START (14 R519). -/
  | dmaStart (t : Nat) (req : Req) (n : Fin 8)
  /-- DMA_STOP (14 R523). -/
  | dmaStop (t : Nat) (req : Req) (n : Fin 8)
  /-- DMA_ABORT (14 R524). -/
  | dmaAbort (t : Nat) (req : Req) (n : Fin 8)
  /-- DMA_DOOR (14 R522). -/
  | dmaDoor (t : Nat) (req : Req) (n : Fin 8)
  /-- DMA_SWREQ (14 R510). -/
  | dmaSwreq (t : Nat) (req : Req) (n : Fin 8)
  /-- DESCRIPTOR_FETCHED (14 R521). -/
  | descriptorFetched (t : Nat) (n : Fin 8)
  /-- DMA_REQUEST_TAKEN (14 R509). -/
  | dmaRequestTaken (t : Nat) (n : Fin 8)
  /-- DMA_BURST_GRANT (14 R513). -/
  | dmaBurstGrant (t : Nat) (n : Fin 8)
  /-- DMA_BURST_END (14 R513). -/
  | dmaBurstEnd (t : Nat) (n : Fin 8)
  /-- DMA_BUS_ERROR (14 R514). -/
  | dmaBusError (t : Nat) (n : Fin 8)
  /-- DMA_WRITE_BACK_DONE (14 R515). -/
  | dmaWriteBackDone (t : Nat) (n : Fin 8) (ok : Bool)
  /-- SH_MBPUB_GO (10 R374). -/
  | shMbpubGo (t : Nat) (req : Req) (v : Word)
  /-- MAILBOX_COPY_DONE (10 R375). -/
  | mailboxCopyDone (t : Nat)
  /-- LIST_TAKE_UP (10 R372). -/
  | listTakeUp (t : Nat) (u : Fin 2)
  /-- LIST_LIFE_EXPIRY (10 R379). -/
  | listLifeExpiry (t : Nat) (u : Fin 2)
  /-- CR_TDATA_WRITE (09 R328). -/
  | crTdataWrite (t : Nat) (req : Req) (v : Word)
  /-- CR_MLIM (09 R337). -/
  | crMlim (t : Nat) (req : Req) (u : Fin 2) (v : Word)
  /-- FAULT_ARRIVAL (16 R561). -/
  | faultArrival (t : Nat) (srcs : List (Fin 171))
  /-- EPISODE_CLOSE (16 R568). -/
  | episodeClose (t : Nat)
  /-- FC_SRCCLS (16 R562). -/
  | fcSrccls (t : Nat) (req : Req) (v : Word)
  /-- INJECTION_KEY (16 R579). -/
  | injectionKey (t : Nat) (req : Req) (v : Word)
  /-- INJECTION_LOCK (16 R580). -/
  | injectionLock (t : Nat) (req : Req) (v : Word)
  /-- INJECTION_TIMEOUT (16 R580). -/
  | injectionTimeout (t : Nat) (glade : Bool)
  /-- FC_CHKINV (16 R582). -/
  | fcChkinv (t : Nat) (req : Req) (v : Word)
  /-- HEARTBEAT_TOGGLE (16 R570). -/
  | heartbeatToggle (t : Nat)
  /-- CLASS_LINE_CHANGE (17 R606). -/
  | classLineChange (t : Nat) (lines : BitVec 5)
  /-- HEARTBEAT_TIMEOUT (16 R573). -/
  | heartbeatTimeout (t : Nat)
  /-- CLASS_LINE_FAULT (16 R573). -/
  | classLineFault (t : Nat) (l : Fin 5)
  /-- GLADE_CYCLE (17 R595). -/
  | gladeCycle (t : Nat) (pins : GladePins)
  /-- LINE_MASK_EXPIRY (17 R612). -/
  | lineMaskExpiry (t : Nat)
  /-- RC_CLOCK_WINDOW (17 R590). -/
  | rcClockWindow (t : Nat) (count : Nat)
  /-- SYSCLK_CHECK_WINDOW (17 R591). -/
  | sysclkCheckWindow (t : Nat) (count : Nat)
  /-- GLADE_SUPPLY_FAULT (17 R592). -/
  | gladeSupplyFault (t : Nat) (bad : Bool)
  /-- READBACK_MISMATCH (17 R593). -/
  | readbackMismatch (t : Nat) (aen : BitVec 4) (err : BitVec 2)
  /-- FALLBACK_CRC_CHECK (17 R624). -/
  | fallbackCrcCheck (t : Nat)
  /-- ERR_HOLD_EXPIRY (16 R576). -/
  | errHoldExpiry (t : Nat)
  /-- RETURN_DWELL_EXPIRY (17 R608). -/
  | returnDwellExpiry (t : Nat)
  /-- SSPI_FRAME (17 R628). -/
  | sspiFrame (t began bits : Nat) (bytes : List Byte)
  /-- SSPI_STATUS (17 R629). -/
  | sspiStatus (t : Nat)
  /-- SSPI_READ (17 R629). -/
  | sspiRead (t : Nat)
  /-- SSPI_WRITE (17 R629). -/
  | sspiWrite (t : Nat)
  /-- RESUME (17 R607). -/
  | resume (t : Nat)
  /-- CLEAR (17 R629). -/
  | clear (t : Nat)
  /-- INJKEY (17 R631). -/
  | injkey (t : Nat)
  /-- SSPI_WATCHDOG (17 R630). -/
  | sspiWatchdog (t : Nat)
  /-- FP_WDOG (18 R659). -/
  | fpWdog (t : Nat) (v : Word)
  /-- FIRMWARE_WATCHDOG_EXPIRY (18 R660). -/
  | firmwareWatchdogExpiry (t : Nat)
  /-- FORESTER_RESET (18 R640). -/
  | foresterReset (t : Nat) (cause : ForCause)
  /-- SWRST (18 R640). -/
  | swrst (t : Nat) (v : Word)
  /-- BOOT_SELECT (18 R641). -/
  | bootSelect (t : Nat) (journalA journalB slotA slotB dir : List Byte)
  /-- TCM_ERROR (18 R638). -/
  | tcmError (t : Nat) (e : TcmError)
  /-- FORESTER_EXCEPTION (18 R639). -/
  | foresterException (t : Nat) (e : ForException)
  /-- SPI_NOR_COMMAND (18 R644). -/
  | spiNorCommand (t : Nat) (v : Word)
  /-- SPI_NOR_COMMAND_DONE (18 R646). -/
  | spiNorCommandDone (t : Nat) (data : List Byte)
  /-- SPI_NOR_WIP_TIMEOUT (18 R646). -/
  | spiNorWipTimeout (t : Nat)
  /-- SENSOR_SLOT_DUE (18 R656). -/
  | sensorSlotDue (t : Nat) (n : Fin 8)
  /-- SENSOR_TRANSFER_DONE (18 R658). -/
  | sensorTransferDone (t : Nat) (bus : Fin 2) (ack : Bool) (data : List Byte)
  /-- SENSOR_SCL_TIMEOUT (18 R658). -/
  | sensorSclTimeout (t : Nat) (bus : Fin 2)
  /-- LOG_APPEND_FIRMWARE (18 R652). -/
  | logAppendFirmware (t : Nat) (v : Word)
  /-- FP_LOG_RD (18 R654). -/
  | fpLogRd (t : Nat) (v : Word)
  /-- LOG_EXPORT_READ (18 R655). -/
  | logExportRead (t : Nat) (ch : Fin 8)
  /-- VERIFY (19 R676). -/
  | verify (t : Nat) (v : Word)
  /-- LOAD (19 R677). -/
  | load (t : Nat) (v : Word)
  /-- ARB_RAISE (19 R681). -/
  | arbRaise (t : Nat) (v : Word)
  /-- OTP_PROG (19 R674). -/
  | otpProg (t : Nat) (v : Word)
  /-- CFG_SET (19 R675). -/
  | cfgSet (t : Nat) (v : Word)
  /-- SEC_COMMAND_END (19 R674). -/
  | secCommandEnd (t : Nat) (slot dir : List Byte)
  /-- SEC_CHAL (19 R683). -/
  | secChal (t : Nat)
  /-- SEC_RESP (19 R684). -/
  | secResp (t : Nat) (level : BitVec 2) (k : BitVec 3) (sig : List Byte) (dirKey : List Byte)
  /-- CHALLENGE_EXPIRY (19 R683). -/
  | challengeExpiry (t : Nat)
  /-- INTAKE_LANE_LOCK_GAIN (06 R229). -/
  | intakeLaneLockGain (t : Nat) (l : Fin 4) (w : LockGain)
  /-- INTAKE_IDLE_TIME_EXPIRY (05 R200). -/
  | intakeIdleTimeExpiry (t : Nat) (l : Fin 4)
  /-- RETURN_LANE_LOCK_GAIN (05 R190). -/
  | returnLaneLockGain (t : Nat) (b : Fin 2) (hdrs : List (BitVec 2))
  /-- PRBS_LOCK (05 R220). -/
  | prbsLock (t : Nat) (l : Fin 8) (rx : TestRx)
  /-- LINK_UP (13 R502). -/
  | linkUp (t : Nat) (speed : BitVec 3) (width : BitVec 2)
  /-- CONFIGURATION_WRITE (13 R465). -/
  | configurationWrite (t : Nat) (w : CfgWrite)
  /-- COUNTER_LOW_WORD_READ (11 R425). -/
  | counterLowWordRead (t : Nat) (req : Req) (addr : BitVec 21)
  /-- UART_BYTE_RECEIVED (18 R665). -/
  | uartByteReceived (t : Nat) (byte : Byte)
  /-- DEBUG_ACCESS (19 R684). -/
  | debugAccess (t : Nat) (op : DebugOp)
  deriving DecidableEq, Repr

/-- Instant of a command, in 1/64 ticks since PORST_N release. -/
def Instr.time : Instr → Nat
  | .porstNRelease t .. => t
  | .porstNAssert t .. => t
  | .storeInitDone t .. => t
  | .cryptoSelfTestDone t .. => t
  | .coreUnderVoltage t .. => t
  | .coreReset t .. => t
  | .coreRelease t .. => t
  | .gladePowerLoss t .. => t
  | .gladeLoadEnd t .. => t
  | .timeBaseBoundary t .. => t
  | .genlockEdge t .. => t
  | .genlockMissing t .. => t
  | .holdoverExpiry t .. => t
  | .genlockOutPulseEnd t .. => t
  | .surfaceFrameBoundary t .. => t
  | .deratingMapWritten t .. => t
  | .decisionInstant t .. => t
  | .planeCutoff t .. => t
  | .planeLoadStart t .. => t
  | .planeShowInstant t .. => t
  | .tickRow t .. => t
  | .fallbackSelectRise t .. => t
  | .fallbackSelectFall t .. => t
  | .splice t .. => t
  | .bar2FrameStoreRead t .. => t
  | .bar2FrameStoreWrite t .. => t
  | .bar2HealthMapWrite t .. => t
  | .bar2LayerStoreWrite t .. => t
  | .bar2CalibrationWrite t .. => t
  | .bar2CalibrationRead t .. => t
  | .stHmSet t .. => t
  | .stHmClr t .. => t
  | .pollInterval t .. => t
  | .missingPoll t .. => t
  | .statusResponse t .. => t
  | .identityResponse t .. => t
  | .registerReadResponse t .. => t
  | .returnBlockDiscard t .. => t
  | .arrayRegWrite t .. => t
  | .arrayRegRead t .. => t
  | .lalertReceived t .. => t
  | .outputDriverFault t .. => t
  | .trainingBurstEnd t .. => t
  | .retrainWaitExpiry t .. => t
  | .holdConfirmTimeout t .. => t
  | .holdIdleTimeout t .. => t
  | .serviceStableTimer t .. => t
  | .synthesiserLockLoss t .. => t
  | .synthesiserRelock t .. => t
  | .markerSlot t .. => t
  | .retry t .. => t
  | .skLoopWrite t .. => t
  | .returnLaneLockLoss t .. => t
  | .intakeLaneLockLoss t .. => t
  | .frameStart t .. => t
  | .linePacket t .. => t
  | .frameEnd t .. => t
  | .sidePacket t .. => t
  | .plyBlockError t .. => t
  | .sidePacketApertureRead t .. => t
  | .composeOutputLine t .. => t
  | .lineFetchIssue t .. => t
  | .lineFetchComplete t .. => t
  | .frameComplete t .. => t
  | .segmentWatchdog t .. => t
  | .fbInj t .. => t
  | .fbMreq t .. => t
  | .fbClr t .. => t
  | .droopTrip t .. => t
  | .droopRelease t .. => t
  | .droopLong t .. => t
  | .railSample t .. => t
  | .monitorSelfCheck t .. => t
  | .dieModelStep t .. => t
  | .throttleStep t .. => t
  | .orderlyWindowEnd t .. => t
  | .trefStale t .. => t
  | .arrayTempStale t .. => t
  | .thmTref t .. => t
  | .thmTjadd t .. => t
  | .thmLim t .. => t
  | .clockMonitorWindow t .. => t
  | .crossingStall t .. => t
  | .hostPortReset t .. => t
  | .upstreamCompletion t .. => t
  | .completionTimeout t .. => t
  | .registerWrite t .. => t
  | .qspiRead t .. => t
  | .qspiReadTimeout t .. => t
  | .qspiWrite t .. => t
  | .qspiStatus t .. => t
  | .qspiIdent t .. => t
  | .pgOwnerWrite t .. => t
  | .ownLock t .. => t
  | .pgIrqPendClear t .. => t
  | .pgIrqForce t .. => t
  | .pgFltForce t .. => t
  | .hostVecArm t .. => t
  | .msixMessage t .. => t
  | .mbDoor t .. => t
  | .mailboxTimeout t .. => t
  | .fpMbDone t .. => t
  | .fpMbEvt t .. => t
  | .topCommit t .. => t
  | .topPhaseWrite t .. => t
  | .shutdownStart t .. => t
  | .shutdownEnd t .. => t
  | .dmaStart t .. => t
  | .dmaStop t .. => t
  | .dmaAbort t .. => t
  | .dmaDoor t .. => t
  | .dmaSwreq t .. => t
  | .descriptorFetched t .. => t
  | .dmaRequestTaken t .. => t
  | .dmaBurstGrant t .. => t
  | .dmaBurstEnd t .. => t
  | .dmaBusError t .. => t
  | .dmaWriteBackDone t .. => t
  | .shMbpubGo t .. => t
  | .mailboxCopyDone t .. => t
  | .listTakeUp t .. => t
  | .listLifeExpiry t .. => t
  | .crTdataWrite t .. => t
  | .crMlim t .. => t
  | .faultArrival t .. => t
  | .episodeClose t .. => t
  | .fcSrccls t .. => t
  | .injectionKey t .. => t
  | .injectionLock t .. => t
  | .injectionTimeout t .. => t
  | .fcChkinv t .. => t
  | .heartbeatToggle t .. => t
  | .classLineChange t .. => t
  | .heartbeatTimeout t .. => t
  | .classLineFault t .. => t
  | .gladeCycle t .. => t
  | .lineMaskExpiry t .. => t
  | .rcClockWindow t .. => t
  | .sysclkCheckWindow t .. => t
  | .gladeSupplyFault t .. => t
  | .readbackMismatch t .. => t
  | .fallbackCrcCheck t .. => t
  | .errHoldExpiry t .. => t
  | .returnDwellExpiry t .. => t
  | .sspiFrame t .. => t
  | .sspiStatus t .. => t
  | .sspiRead t .. => t
  | .sspiWrite t .. => t
  | .resume t .. => t
  | .clear t .. => t
  | .injkey t .. => t
  | .sspiWatchdog t .. => t
  | .fpWdog t .. => t
  | .firmwareWatchdogExpiry t .. => t
  | .foresterReset t .. => t
  | .swrst t .. => t
  | .bootSelect t .. => t
  | .tcmError t .. => t
  | .foresterException t .. => t
  | .spiNorCommand t .. => t
  | .spiNorCommandDone t .. => t
  | .spiNorWipTimeout t .. => t
  | .sensorSlotDue t .. => t
  | .sensorTransferDone t .. => t
  | .sensorSclTimeout t .. => t
  | .logAppendFirmware t .. => t
  | .fpLogRd t .. => t
  | .logExportRead t .. => t
  | .verify t .. => t
  | .load t .. => t
  | .arbRaise t .. => t
  | .otpProg t .. => t
  | .cfgSet t .. => t
  | .secCommandEnd t .. => t
  | .secChal t .. => t
  | .secResp t .. => t
  | .challengeExpiry t .. => t
  | .intakeLaneLockGain t .. => t
  | .intakeIdleTimeExpiry t .. => t
  | .returnLaneLockGain t .. => t
  | .prbsLock t .. => t
  | .linkUp t .. => t
  | .configurationWrite t .. => t
  | .counterLowWordRead t .. => t
  | .uartByteReceived t .. => t
  | .debugAccess t .. => t

end Sys2Proof
end

