-- ==== Sys2Proof/Config.lean ====
section
/-! DEFINITION. What an implementation fixes, and the values the spec leaves open, as constants with no body. -/

namespace Sys2Proof.Config

/-- The grade of 00 R9: true for GK4410-CQ, false for GK4410-AQ (DESIGN CHOICE, log entry 5). -/
opaque gradeCQ : Bool

/-- The n-th free value the block reads (DESIGN CHOICE, log entry 7). -/
opaque freeValue : Nat → Nat

/-- What the scrambler of an output lane holds as the lane begins to transmit at an instant: it has no reset and no seed (05 R189;
DESIGN CHOICE, log entry 24). -/
opaque scrambler : Nat → Nat → BitVec 58

/-- What the pattern generator of an output lane holds as a pattern begins at an instant: the spec gives no seed (05 R220; DESIGN
CHOICE, log entry 96). -/
opaque patternSeed : Nat → Nat → BitVec 31

/-- The SHA-256 of Oruakel's public key, in slot 0 of the OTP key store (00 R10, 19 R669), by byte (DEDUCED, log entry 6). -/
opaque slot0Hash : Nat → Byte

/-- What the recovery ROM gives as its firmware version: an image has FWVER, the ROM is none (18 R663, 19 R676; DESIGN CHOICE, log
entry 106). -/
opaque romVersion : BitVec 32

/-- The die identifier fused at Oruakel (19 R683). -/
opaque dieId : BitVec 64

/-- The n-th 256-bit string of the entropy source (19 R683, 19 R687). -/
opaque entropy : Nat → BitVec 256

/-- SHA-256 of a byte string (19 R669, 19 R676): 32 bytes, most significant first. -/
opaque sha256 : List Byte → BitVec 256

/-- ECDSA P-256 verification (19 R676, 19 R684): public key of 64 bytes, digest, signature of 64 bytes. -/
opaque ecdsaVerify : List Byte → BitVec 256 → List Byte → Bool

/-- AES-256-GCM decryption (19 R677): key, IV, associated data, ciphertext, tag; none when the tag fails. -/
opaque aesGcmOpen : List Byte → List Byte → List Byte → List Byte → List Byte → Option (List Byte)

/-- HMAC-SHA-256 (19 R686): key and message; 32 bytes, most significant first. -/
opaque hmacSha256 : List Byte → List Byte → BitVec 256

/-- T_REFU while no GPR is in force: the spec names TREF_HI of the GPR only (15 R539, DESIGN CHOICE, log entry 23). -/
opaque trefNoGpr : BitVec 16

end Sys2Proof.Config
end

