-- ==== Sys2Proof/Machine/FaultTable.lean ====
section
/-! DEFINITION. The 171 fault sources: their numbers, pages, bits and base classes (16 R559). -/

namespace Sys2Proof.Machine

/-- 16 R559. -/
def Src.FC_PAR : Fin 171 := 0
/-- 16 R559. -/
def Src.FC_INJ : Fin 171 := 1
/-- 16 R559. -/
def Src.CLK_SYNSYS : Fin 171 := 2
/-- 16 R559. -/
def Src.CLK_MONCRIT : Fin 171 := 3
/-- 16 R559. -/
def Src.CLK_SYNIL : Fin 171 := 4
/-- 16 R559. -/
def Src.CLK_SYNPCIE : Fin 171 := 5
/-- 16 R559. -/
def Src.CLK_MON : Fin 171 := 6
/-- 16 R559. -/
def Src.CDC_STALL : Fin 171 := 7
/-- 16 R559. -/
def Src.SK_PLL : Fin 171 := 8
/-- 16 R559. -/
def Src.PWR_UV : Fin 171 := 9
/-- 16 R559. -/
def Src.PWR_RAIL : Fin 171 := 10
/-- 16 R559. -/
def Src.PWR_MONFAIL : Fin 171 := 11
/-- 16 R559. -/
def Src.PWR_DROOPL : Fin 171 := 12
/-- 16 R559. -/
def Src.THM_SHUT : Fin 171 := 13
/-- 16 R559. -/
def Src.THM_THROT : Fin 171 := 14
/-- 16 R559. -/
def Src.THM_WARN : Fin 171 := 15
/-- 16 R559. -/
def Src.THM_REFDEF : Fin 171 := 16
/-- 16 R559. -/
def Src.THM_ATEMP : Fin 171 := 17
/-- 16 R559. -/
def Src.GL_CLK : Fin 171 := 18
/-- 16 R559. -/
def Src.GL_SUP : Fin 171 := 19
/-- 16 R559. -/
def Src.GL_GPR : Fin 171 := 20
/-- 16 R559. -/
def Src.GL_DISCA : Fin 171 := 21
/-- 16 R559. -/
def Src.GL_DISCB : Fin 171 := 22
/-- 16 R559. -/
def Src.GL_SRST : Fin 171 := 23
/-- 16 R559. -/
def Src.GL_AENRB : Fin 171 := 24
/-- 16 R559. -/
def Src.GL_SYSCLK : Fin 171 := 25
/-- 16 R559. -/
def Src.GL_FBSTORE : Fin 171 := 26
/-- 16 R559. -/
def Src.GL_ERRRB : Fin 171 := 27
/-- 16 R559. -/
def Src.GL_HB : Fin 171 := 28
/-- 16 R559. -/
def Src.GL_FWDOG : Fin 171 := 29
/-- 16 R559. -/
def Src.ST_NOCAP : Fin 171 := 30
/-- 16 R559. -/
def Src.ST_LATE : Fin 171 := 31
/-- 16 R559. -/
def Src.FS_UE : Fin 171 := 32
/-- 16 R559. -/
def Src.HM_UE : Fin 171 := 33
/-- 16 R559. -/
def Src.HM_OVER : Fin 171 := 34
/-- 16 R559. -/
def Src.ST_DEGRADE : Fin 171 := 35
/-- 16 R559. -/
def Src.FS_REPEAT : Fin 171 := 36
/-- 16 R559. -/
def Src.FS_CE : Fin 171 := 37
/-- 16 R559. -/
def Src.HM_CE : Fin 171 := 38
/-- 16 R559. -/
def Src.FS_HWR : Fin 171 := 39
/-- 16 R559. -/
def Src.HM_CLROVF : Fin 171 := 40
/-- 16 R559. -/
def Src.FB_STLATE : Fin 171 := 41
/-- 16 R559. -/
def Src.FB_STALLP : Fin 171 := 42
/-- 16 R559. -/
def Src.FB_CODE : Fin 171 := 43
/-- 16 R559. -/
def Src.FB_STALL : Fin 171 := 44
/-- 16 R559. -/
def Src.FB_PAR : Fin 171 := 45
/-- 16 R559. -/
def Src.FB_CANARY : Fin 171 := 46
/-- 16 R559. -/
def Src.FB_SLACK (u : Fin 2) : Fin 171 := ⟨47 + 6 * u.val, by omega⟩
/-- 16 R559. -/
def Src.CP_MESHTAG (u : Fin 2) : Fin 171 := ⟨48 + 6 * u.val, by omega⟩
/-- 16 R559. -/
def Src.CP_REACH (u : Fin 2) : Fin 171 := ⟨49 + 6 * u.val, by omega⟩
/-- 16 R559. -/
def Src.LY_TAG (u : Fin 2) : Fin 171 := ⟨50 + 6 * u.val, by omega⟩
/-- 16 R559. -/
def Src.LY_LATE (u : Fin 2) : Fin 171 := ⟨51 + 6 * u.val, by omega⟩
/-- 16 R559. -/
def Src.LY_FETCHERR (u : Fin 2) : Fin 171 := ⟨52 + 6 * u.val, by omega⟩
/-- 16 R559. -/
def Src.CR_CALUE (u : Fin 2) : Fin 171 := ⟨59 + 6 * u.val, by omega⟩
/-- 16 R559. -/
def Src.CR_TPAR (u : Fin 2) : Fin 171 := ⟨60 + 6 * u.val, by omega⟩
/-- 16 R559. -/
def Src.CR_CALCE (u : Fin 2) : Fin 171 := ⟨61 + 6 * u.val, by omega⟩
/-- 16 R559. -/
def Src.CR_DRLATE (u : Fin 2) : Fin 171 := ⟨62 + 6 * u.val, by omega⟩
/-- 16 R559. -/
def Src.CR_LBCLIP (u : Fin 2) : Fin 171 := ⟨63 + 6 * u.val, by omega⟩
/-- 16 R559. -/
def Src.CR_TWERR : Fin 171 := 64
/-- 16 R559. -/
def Src.SH_STALE (u : Fin 2) : Fin 171 := ⟨70 + 5 * u.val, by omega⟩
/-- 16 R559. -/
def Src.SH_SLOW (u : Fin 2) : Fin 171 := ⟨71 + 5 * u.val, by omega⟩
/-- 16 R559. -/
def Src.SH_PAR (u : Fin 2) : Fin 171 := ⟨72 + 5 * u.val, by omega⟩
/-- 16 R559. -/
def Src.SH_BADLIST (u : Fin 2) : Fin 171 := ⟨73 + 5 * u.val, by omega⟩
/-- 16 R559. -/
def Src.SH_OVERRUN (u : Fin 2) : Fin 171 := ⟨74 + 5 * u.val, by omega⟩
/-- 16 R559. -/
def Src.SK_LANEDOWN (i : Fin 8) : Fin 171 := ⟨80 + 2 * i.val, by omega⟩
/-- 16 R559. -/
def Src.SK_LANEFAIL (i : Fin 8) : Fin 171 := ⟨81 + 2 * i.val, by omega⟩
/-- 16 R559. -/
def Src.BL_LOCK (i : Fin 2) : Fin 171 := ⟨96 + 1 * i.val, by omega⟩
/-- 16 R559. -/
def Src.AL_LOST : Fin 171 := 98
/-- 16 R559. -/
def Src.AL_AENMIS : Fin 171 := 99
/-- 16 R559. -/
def Src.AL_EMSTUCK : Fin 171 := 100
/-- 16 R559. -/
def Src.AL_IDMIS : Fin 171 := 101
/-- 16 R559. -/
def Src.AL_NORSP : Fin 171 := 102
/-- 16 R559. -/
def Src.AL_FQOVF : Fin 171 := 103
/-- 16 R559. -/
def Src.AL_OVERTEMP : Fin 171 := 104
/-- 16 R559. -/
def Src.AL_SHOWERR : Fin 171 := 105
/-- 16 R559. -/
def Src.AL_CRCERR : Fin 171 := 106
/-- 16 R559. -/
def Src.AL_CMDERR : Fin 171 := 107
/-- 16 R559. -/
def Src.AL_RETERR : Fin 171 := 108
/-- 16 R559. -/
def Src.AL_EMFLT : Fin 171 := 109
/-- 16 R559. -/
def Src.AL_REGTO : Fin 171 := 110
/-- 16 R559. -/
def Src.IN_LOCK (i : Fin 4) : Fin 171 := ⟨111 + 8 * i.val, by omega⟩
/-- 16 R559. -/
def Src.IN_LOST (i : Fin 4) : Fin 171 := ⟨112 + 8 * i.val, by omega⟩
/-- 16 R559. -/
def Src.IN_MISS (i : Fin 4) : Fin 171 := ⟨113 + 8 * i.val, by omega⟩
/-- 16 R559. -/
def Src.IN_FAIL (i : Fin 4) : Fin 171 := ⟨114 + 8 * i.val, by omega⟩
/-- 16 R559. -/
def Src.IN_LINEFIX (i : Fin 4) : Fin 171 := ⟨115 + 8 * i.val, by omega⟩
/-- 16 R559. -/
def Src.IN_OVF (i : Fin 4) : Fin 171 := ⟨116 + 8 * i.val, by omega⟩
/-- 16 R559. -/
def Src.IN_SPOVF (i : Fin 4) : Fin 171 := ⟨117 + 8 * i.val, by omega⟩
/-- 16 R559. -/
def Src.IN_DROP (i : Fin 4) : Fin 171 := ⟨118 + 8 * i.val, by omega⟩
/-- 16 R559. -/
def Src.TM_FREE : Fin 171 := 143
/-- 16 R559. -/
def Src.TM_HOLD : Fin 171 := 144
/-- 16 R559. -/
def Src.TM_BADEDGE : Fin 171 := 145
/-- 16 R559. -/
def Src.CMT_REF : Fin 171 := 146
/-- 16 R559. -/
def Src.HP_LINKDN : Fin 171 := 147
/-- 16 R559. -/
def Src.HP_CPLTO : Fin 171 := 148
/-- 16 R559. -/
def Src.HP_CPLERR : Fin 171 := 149
/-- 16 R559. -/
def Src.HP_MBTO : Fin 171 := 150
/-- 16 R559. -/
def Src.HP_OWNERR : Fin 171 := 151
/-- 16 R559. -/
def Src.HP_BADACC : Fin 171 := 152
/-- 16 R559. -/
def Src.DMA_FETCH : Fin 171 := 153
/-- 16 R559. -/
def Src.DMA_BAD : Fin 171 := 154
/-- 16 R559. -/
def Src.DMA_WBERR : Fin 171 := 155
/-- 16 R559. -/
def Src.FO_TCMUE : Fin 171 := 156
/-- 16 R559. -/
def Src.FO_TRAP : Fin 171 := 157
/-- 16 R559. -/
def Src.FO_BOOT : Fin 171 := 158
/-- 16 R559. -/
def Src.FO_TCMCE : Fin 171 := 159
/-- 16 R559. -/
def Src.FO_PMP : Fin 171 := 160
/-- 16 R559. -/
def Src.FO_FLASH : Fin 171 := 161
/-- 16 R559. -/
def Src.FO_I2C : Fin 171 := 162
/-- 16 R559. -/
def Src.FO_JRNL : Fin 171 := 163
/-- 16 R559. -/
def Src.FO_LOGOVF : Fin 171 := 164
/-- 16 R559. -/
def Src.SEC_BOOT : Fin 171 := 165
/-- 16 R559. -/
def Src.SEC_OTP : Fin 171 := 166
/-- 16 R559. -/
def Src.SEC_CRYPTO : Fin 171 := 167
/-- 16 R559. -/
def Src.SEC_ROLLBK : Fin 171 := 168
/-- 16 R559. -/
def Src.SEC_DBGFAIL : Fin 171 := 169
/-- 16 R559. -/
def Src.SEC_DBGOPEN : Fin 171 := 170

/-- Runs of sources with consecutive numbers and bits of one page: first number, page, first bit, base classes. -/
def srcRuns : List (Nat × Nat × Nat × List Nat) := [
  (0, 0x48, 0, [4, 0]),
  (2, 0x02, 0, [3, 3, 2, 2, 2, 2]),
  (8, 0x30, 2, [3]),
  (9, 0x40, 0, [3, 2, 2, 2]),
  (13, 0x41, 0, [3, 2, 0, 1, 1]),
  (18, 0x50, 0, [4, 4, 4, 4, 4, 4, 4, 3, 3, 3, 3, 3]),
  (30, 0x2C, 0, [3, 3, 2, 2, 2, 2, 1, 1, 1, 0, 0]),
  (41, 0x20, 0, [3, 3, 2, 2, 1, 1, 1, 1, 1, 1, 1, 1]),
  (53, 0x21, 6, [1, 1, 1, 1, 1, 1]),
  (59, 0x24, 0, [2, 2, 1, 1, 0, 0]),
  (65, 0x25, 0, [2, 2, 1, 1, 0]),
  (70, 0x28, 0, [2, 2, 2, 1, 1]),
  (75, 0x28, 8, [2, 2, 2, 1, 1]),
  (80, 0x30, 0, [2, 2]),
  (82, 0x31, 0, [2, 2]),
  (84, 0x32, 0, [2, 2]),
  (86, 0x33, 0, [2, 2]),
  (88, 0x34, 0, [2, 2]),
  (90, 0x35, 0, [2, 2]),
  (92, 0x36, 0, [2, 2]),
  (94, 0x37, 0, [2, 2]),
  (96, 0x3E, 0, [2, 2]),
  (98, 0x38, 0, [3, 3, 3, 2, 2, 2, 2, 1, 1, 1, 1, 0, 0]),
  (111, 0x04, 0, [1, 2, 1, 1, 1, 1, 1, 0]),
  (119, 0x05, 0, [1, 2, 1, 1, 1, 1, 1, 0]),
  (127, 0x06, 0, [1, 2, 1, 1, 1, 1, 1, 0]),
  (135, 0x07, 0, [1, 2, 1, 1, 1, 1, 1, 0]),
  (143, 0x01, 0, [2, 1, 0]),
  (146, 0x00, 0, [0]),
  (147, 0x08, 0, [2, 1, 1, 1, 0, 0]),
  (153, 0x0A, 0, [2, 1, 1]),
  (156, 0x58, 0, [2, 2, 2, 1, 1, 1, 1, 1, 0]),
  (165, 0x60, 0, [2, 2, 2, 1, 0, 0])]

/-- Page, bit and base class of a source. -/
def srcInfo (n : Nat) : Option (Nat × Nat × Nat) :=
  (srcRuns.find? (fun r => decide (r.1 ≤ n) && decide (n < r.1 + r.2.2.2.length))).map
    (fun r => (r.2.1, r.2.2.1 + (n - r.1), r.2.2.2.getD (n - r.1) 0))

/-- Base class of a source; 0 for an unused number (16 R558). -/
def baseClass (n : Nat) : Nat := ((srcInfo n).map (fun i => i.2.2)).getD 0

/-- The source at a bit of a page's PG_FLT_PEND (16 R560). -/
def srcAt (page b : Nat) : Option Nat :=
  (srcRuns.find? (fun r => r.2.1 == page && decide (r.2.2.1 ≤ b) && decide (b < r.2.2.1 + r.2.2.2.length))).map
    (fun r => r.1 + (b - r.2.2.1))

end Sys2Proof.Machine
end

