-- ==== Sys2Proof/Machine/Bits.lean ====
section
/-! DEFINITION. Bit fields, byte strings, sparse maps, check sums and fixed-point helpers, used by every family. -/

namespace Sys2Proof.Machine

open Sys2Proof

/-! ### Fields of words -/

/-- Bits [lo + n - 1 : lo] of a word, as a number. -/
def fld {w : Nat} (v : BitVec w) (lo n : Nat) : Nat := (v.toNat / 2 ^ lo) % 2 ^ n

/-- Bit [i] of a word. -/
def bit {w : Nat} (v : BitVec w) (i : Nat) : Bool := v.getLsbD i

/-- A number at bit `lo` of a 32-bit word. -/
def at32 (lo x : Nat) : Word := BitVec.ofNat 32 (x * 2 ^ lo)

/-- A flag at bit `lo` of a 32-bit word. -/
def flag32 (lo : Nat) (b : Bool) : Word := if b then BitVec.ofNat 32 (2 ^ lo) else 0

/-- Bit `i` set. -/
def setBit {w : Nat} (v : BitVec w) (i : Nat) : BitVec w := v ||| BitVec.ofNat w (2 ^ i)

/-- Bit `i` cleared. -/
def clearBit {w : Nat} (v : BitVec w) (i : Nat) : BitVec w := v &&& ~~~(BitVec.ofNat w (2 ^ i))

/-- Bit `i` at the given level. -/
def putBit {w : Nat} (v : BitVec w) (i : Nat) (b : Bool) : BitVec w := if b then setBit v i else clearBit v i

/-- The number a two's complement field of `n` bits stands for. -/
def signed (n x : Nat) : Int := if x < 2 ^ (n - 1) then (x : Int) else (x : Int) - (2 ^ n : Nat)

/-- An integer in two's complement on `n` bits. -/
def twos (n : Nat) (x : Int) : Nat := (x % (2 ^ n : Nat)).toNat

/-- An integer held between two limits. -/
def clampInt (lo hi x : Int) : Int := if x < lo then lo else if hi < x then hi else x

/-- A number held between two limits. -/
def clampNat (lo hi x : Nat) : Nat := if x < lo then lo else if hi < x then hi else x

/-- Integer division that rounds up. -/
def divUp (a b : Nat) : Nat := (a + b - 1) / b

/-- Indexes of the bits of a word that are 1, rising, below `n`. -/
def bitsOf {w : Nat} (v : BitVec w) (n : Nat) : List Nat := (List.range n).filter (fun i => bit v i)

/-! ### Byte strings -/

/-- The `n` low bytes of a number, little-endian. -/
def toBytesLE : Nat → Nat → List Byte
  | 0, _ => []
  | n + 1, x => BitVec.ofNat 8 x :: toBytesLE n (x / 256)

/-- The number a little-endian byte string stands for. -/
def ofBytesLE : List Byte → Nat
  | [] => 0
  | b :: r => b.toNat + 256 * ofBytesLE r

/-- The `n` low bytes of a number, most significant first. -/
def toBytesBE (n x : Nat) : List Byte := (toBytesLE n x).reverse

/-- Bytes `a` to `a + n - 1` of a string, little-endian, missing bytes being 0. -/
def leAt (l : List Byte) (a n : Nat) : Nat := ofBytesLE ((l.drop a).take n)

/-- The 32-bit words of a byte string, little-endian. -/
def wordsLE : List Byte → List Word
  | a :: b :: c :: d :: r => BitVec.ofNat 32 (ofBytesLE [a, b, c, d]) :: wordsLE r
  | _ => []

/-! ### Sparse maps: pairs with rising keys, no entry at its key's default -/

/-- The value at a key. -/
def smGet {α : Type} (d : Nat → α) : List (Nat × α) → Nat → α
  | [], k => d k
  | (k', v) :: r, k => if k = k' then v else smGet d r k

/-- The map with a value at a key. -/
def smSet {α : Type} [DecidableEq α] (d : Nat → α) (k : Nat) (v : α) : List (Nat × α) → List (Nat × α)
  | [] => if v = d k then [] else [(k, v)]
  | (k', v') :: r =>
    if k < k' then (if v = d k then (k', v') :: r else (k, v) :: (k', v') :: r)
    else if k = k' then (if v = d k then r else (k, v) :: r)
    else (k', v') :: smSet d k v r

/-- Keys at least `lo`, strictly rising, and no entry at its default. -/
def smWfFrom {α : Type} [DecidableEq α] (d : Nat → α) : Nat → List (Nat × α) → Bool
  | _, [] => true
  | lo, (k, v) :: r => decide (lo ≤ k) && decide (v ≠ d k) && smWfFrom d (k + 1) r

/-- The one canonical form of a sparse map. -/
def smWf {α : Type} [DecidableEq α] (d : Nat → α) (m : List (Nat × α)) : Bool := smWfFrom d 0 m

/-- A rising list of numbers with one more. -/
def insertNat (x : Nat) : List Nat → List Nat
  | [] => [x]
  | y :: r => if x < y then x :: y :: r else if x = y then y :: r else y :: insertNat x r

/-! ### Check sums -/

/-- One bit into a CRC register of `w` bits, most significant first. -/
def crcBit (w poly : Nat) (r : Nat) (b : Bool) : Nat :=
  let top := Nat.testBit r (w - 1)
  let r' := (2 * r) % 2 ^ w
  if top == b then r' else r' ^^^ poly

/-- One byte into a CRC register, most significant bit first. -/
def crcByte (w poly : Nat) (r : Nat) (x : Byte) : Nat :=
  [7, 6, 5, 4, 3, 2, 1, 0].foldl (fun r i => crcBit w poly r (x.getLsbD i)) r

/-- CRC-16: polynomial 0x1021, initial value 0xFFFF, no final inversion; 0x29B1 over "123456789" (04 R129). -/
def crc16 (l : List Byte) : Nat := l.foldl (crcByte 16 0x1021) 0xFFFF

/-- CRC-32: polynomial 0x04C11DB7, initial value 0xFFFFFFFF, no final inversion; 0x0376E6E7 over "123456789". -/
def crc32 (l : List Byte) : Nat := l.foldl (crcByte 32 0x04C11DB7) 0xFFFFFFFF

/-! ### Time: instants and durations in 1/64 of a 2.5 ns tick (11 R396) -/

/-- One tick. -/
def tick : Nat := 64

/-- One microsecond. -/
def usec : Nat := 25600

/-- One millisecond. -/
def msec : Nat := 25600000

end Sys2Proof.Machine
end

