-- ==== Sys2Proof/Machine/RegMap.lean ====
section
/-! DEFINITION. The register map: the address of each register (page × 0x1000 + offset, 13 R474; Forester's own page at
0x100000), and the writable bits and reset values of 00 R5 as the field tables give them. -/

namespace Sys2Proof.Machine

open Sys2Proof

/-- A run of like registers: `n` registers `stride` apart on each of `pages` consecutive pages. -/
structure RegRow where
  /-- Address of the first. -/
  addr : Nat
  /-- Registers in a page. -/
  n : Nat
  /-- Distance in bytes. -/
  stride : Nat
  /-- Consecutive pages. -/
  pages : Nat
  /-- Bits with access RW or SH. -/
  mask : Nat
  /-- Reset value. -/
  reset : Nat
  /-- Shadowed. -/
  sh : Bool
  deriving DecidableEq, Repr

/-! ### Addresses -/

/-- 02 R69. -/
def Reg.ST_MOD (i : Nat) : Nat := 0x2C100 + 4 * i

/-- 02 R70. -/
def Reg.ST_TST (i : Nat) : Nat := 0x2C040 + 4 * i

/-- 02 R70. -/
def Reg.ST_LOAD (i : Nat) : Nat := 0x2C048 + 4 * i

/-- 03 R118. -/
def Reg.ST_STATE (i : Nat) : Nat := 0x2C050 + 4 * i

/-- 03 R118. -/
def Reg.ST_FS_CE : Nat := 0x2C060

/-- 03 R118. -/
def Reg.ST_FS_UE : Nat := 0x2C064

/-- 03 R118. -/
def Reg.ST_FS_UEADDR : Nat := 0x2C068

/-- 03 R118. -/
def Reg.ST_REPEAT (i : Nat) : Nat := 0x2C070 + 4 * i

/-- 03 R118. -/
def Reg.ST_LATE (i : Nat) : Nat := 0x2C078 + 4 * i

/-- 03 R118. -/
def Reg.ST_HM_CNT (i : Nat) : Nat := 0x2C080 + 4 * i

/-- 03 R118. -/
def Reg.ST_HM_SET : Nat := 0x2C088

/-- 03 R118. -/
def Reg.ST_HM_CLR : Nat := 0x2C08C

/-- 03 R118. -/
def Reg.ST_HM_STAT : Nat := 0x2C090

/-- 03 R118. -/
def Reg.ST_DEGCNT (i : Nat) : Nat := 0x2C098 + 4 * i

/-- 03 R119. -/
def Reg.ST_CTRL (i : Nat) : Nat := 0x2C108 + 4 * i

/-- 04 R181. -/
def Reg.AM_CFG (i : Nat) : Nat := 0x3C100 + 0x10 * i

/-- 04 R181. -/
def Reg.AM_ORG (i : Nat) : Nat := 0x3C104 + 0x10 * i

/-- 04 R181. -/
def Reg.AM_SIZE (i : Nat) : Nat := 0x3C108 + 0x10 * i

/-- 04 R181. -/
def Reg.AM_BASE (i : Nat) : Nat := 0x3C10C + 0x10 * i

/-- 04 R182. -/
def Reg.AM_STAT (i : Nat) : Nat := 0x3C040 + 4 * i

/-- 04 R182. -/
def Reg.AM_ID (i : Nat) : Nat := 0x3C080 + 4 * i

/-- 04 R182. -/
def Reg.AM_IDX (i : Nat) : Nat := 0x3C0C0 + 4 * i

/-- 04 R183. -/
def Reg.AL_AREG : Nat := 0x38040

/-- 04 R183. -/
def Reg.AL_ACMD : Nat := 0x38044

/-- 04 R183. -/
def Reg.AL_ASTAT : Nat := 0x38048

/-- 04 R183. -/
def Reg.AL_CRCERR : Nat := 0x38050

/-- 04 R183. -/
def Reg.AL_SHOWERR : Nat := 0x38054

/-- 04 R183. -/
def Reg.AL_CMDERR : Nat := 0x38058

/-- 04 R183. -/
def Reg.AL_RETERR : Nat := 0x3805C

/-- 04 R183. -/
def Reg.AL_MISS : Nat := 0x38060

/-- 04 R183. -/
def Reg.AL_EMFLT : Nat := 0x38064

/-- 04 R183. -/
def Reg.AL_POLL : Nat := 0x38100

/-- 05 R222. -/
def Reg.SK_LSTAT (p : Nat) : Nat := 0x30040 + 0x1000 * p

/-- 05 R222. -/
def Reg.SK_DOWNCNT (p : Nat) : Nat := 0x30048 + 0x1000 * p

/-- 05 R222. -/
def Reg.SK_LCMD (p : Nat) : Nat := 0x3004C + 0x1000 * p

/-- 05 R222. -/
def Reg.SK_LOOP (p : Nat) : Nat := 0x30060 + 0x1000 * p

/-- 05 R222. -/
def Reg.SK_LBSTAT (p : Nat) : Nat := 0x30064 + 0x1000 * p

/-- 05 R222. -/
def Reg.SK_PRBSERR (p : Nat) : Nat := 0x30068 + 0x1000 * p

/-- 05 R223. -/
def Reg.SK_LCFG (p : Nat) : Nat := 0x30100 + 0x1000 * p

/-- 05 R223. -/
def Reg.SK_RTCFG (p : Nat) : Nat := 0x30104 + 0x1000 * p

/-- 05 R224. -/
def Reg.BL_STAT (i : Nat) : Nat := 0x3E040 + 4 * i

/-- 05 R224. -/
def Reg.BL_ALERT (i : Nat) : Nat := 0x3E048 + 4 * i

/-- 05 R224. -/
def Reg.BL_LOCKLOSS (i : Nat) : Nat := 0x3E050 + 4 * i

/-- 05 R224. -/
def Reg.BL_CFG : Nat := 0x3E100

/-- 06 R253. -/
def Reg.IN_LSTAT (p : Nat) : Nat := 0x04040 + 0x1000 * p

/-- 06 R253. -/
def Reg.IN_BIPERR (p : Nat) : Nat := 0x04044 + 0x1000 * p

/-- 06 R253. -/
def Reg.IN_LOCKLOSS (p : Nat) : Nat := 0x04048 + 0x1000 * p

/-- 06 R253. -/
def Reg.IN_FSTAT (p : Nat) : Nat := 0x04050 + 0x1000 * p

/-- 06 R253. -/
def Reg.IN_PHASE (p : Nat) : Nat := 0x04054 + 0x1000 * p

/-- 06 R253. -/
def Reg.IN_SPSTAT (p : Nat) : Nat := 0x04058 + 0x1000 * p

/-- 06 R253. -/
def Reg.IN_FRAMES (p : Nat) : Nat := 0x04060 + 0x1000 * p

/-- 06 R253. -/
def Reg.IN_MISSFR (p : Nat) : Nat := 0x04064 + 0x1000 * p

/-- 06 R253. -/
def Reg.IN_DROPFR (p : Nat) : Nat := 0x04068 + 0x1000 * p

/-- 06 R253. -/
def Reg.IN_FAILFR (p : Nat) : Nat := 0x0406C + 0x1000 * p

/-- 06 R253. -/
def Reg.IN_LINEFIX (p : Nat) : Nat := 0x04070 + 0x1000 * p

/-- 06 R253. -/
def Reg.IN_PKTERR (p : Nat) : Nat := 0x04074 + 0x1000 * p

/-- 06 R253. -/
def Reg.IN_LATE (p : Nat) : Nat := 0x04078 + 0x1000 * p

/-- 06 R253. -/
def Reg.IN_SPCNT (p : Nat) : Nat := 0x0407C + 0x1000 * p

/-- 06 R253. -/
def Reg.IN_SPDROP (p : Nat) : Nat := 0x04080 + 0x1000 * p

/-- 06 R254. -/
def Reg.IN_SCFG (p : Nat) : Nat := 0x04100 + 0x1000 * p

/-- 06 R254. -/
def Reg.IN_SIZE (p : Nat) : Nat := 0x04104 + 0x1000 * p

/-- 06 R254. -/
def Reg.IN_TIM (p : Nat) : Nat := 0x04108 + 0x1000 * p

/-- 06 R254. -/
def Reg.IN_SPEN (p : Nat) : Nat := 0x0410C + 0x1000 * p

/-- 06 R254. -/
def Reg.IN_SPMAP (p : Nat) : Nat := 0x04110 + 0x1000 * p

/-- 07 R288. -/
def Reg.LY_STAT (p : Nat) : Nat := 0x10040 + 0x1000 * p

/-- 07 R288. -/
def Reg.LY_SEENTAG (p : Nat) : Nat := 0x10044 + 0x1000 * p

/-- 07 R288. -/
def Reg.LY_TAGERR (p : Nat) : Nat := 0x10048 + 0x1000 * p

/-- 07 R288. -/
def Reg.LY_LATE (p : Nat) : Nat := 0x1004C + 0x1000 * p

/-- 07 R288. -/
def Reg.LY_URGENT (p : Nat) : Nat := 0x10050 + 0x1000 * p

/-- 07 R289. -/
def Reg.LY_CFG (p : Nat) : Nat := 0x10100 + 0x1000 * p

/-- 07 R289. -/
def Reg.LY_ALPHA (p : Nat) : Nat := 0x10104 + 0x1000 * p

/-- 07 R289. -/
def Reg.LY_ADDR_LO (p : Nat) : Nat := 0x10108 + 0x1000 * p

/-- 07 R289. -/
def Reg.LY_ADDR_HI (p : Nat) : Nat := 0x1010C + 0x1000 * p

/-- 07 R289. -/
def Reg.LY_STRIDE (p : Nat) : Nat := 0x10110 + 0x1000 * p

/-- 07 R289. -/
def Reg.LY_TAG (p : Nat) : Nat := 0x10114 + 0x1000 * p

/-- 07 R289. -/
def Reg.LY_SRC (p : Nat) : Nat := 0x10118 + 0x1000 * p

/-- 07 R289. -/
def Reg.LY_SSIZE (p : Nat) : Nat := 0x1011C + 0x1000 * p

/-- 07 R289. -/
def Reg.LY_DST (p : Nat) : Nat := 0x10120 + 0x1000 * p

/-- 07 R289. -/
def Reg.LY_DSIZE (p : Nat) : Nat := 0x10124 + 0x1000 * p

/-- 07 R289. -/
def Reg.LY_HSTEP (p : Nat) : Nat := 0x10128 + 0x1000 * p

/-- 07 R289. -/
def Reg.LY_VSTEP (p : Nat) : Nat := 0x1012C + 0x1000 * p

/-- 07 R289. -/
def Reg.LY_FETCH (p : Nat) : Nat := 0x10130 + 0x1000 * p

/-- 07 R290. -/
def Reg.CP_STAT (p : Nat) : Nat := 0x20040 + 0x1000 * p

/-- 07 R290. -/
def Reg.CP_RETSEQ (p : Nat) : Nat := 0x20044 + 0x1000 * p

/-- 07 R290. -/
def Reg.CP_RETIRE (p : Nat) : Nat := 0x20048 + 0x1000 * p

/-- 07 R290. -/
def Reg.CP_REACH (p : Nat) : Nat := 0x2004C + 0x1000 * p

/-- 07 R290. -/
def Reg.CP_MESHERR (p : Nat) : Nat := 0x20050 + 0x1000 * p

/-- 07 R290. -/
def Reg.CP_CFG (p : Nat) : Nat := 0x20100 + 0x1000 * p

/-- 07 R290. -/
def Reg.CP_BG0 (p : Nat) : Nat := 0x20104 + 0x1000 * p

/-- 07 R290. -/
def Reg.CP_BG1 (p : Nat) : Nat := 0x20108 + 0x1000 * p

/-- 07 R290. -/
def Reg.CP_MESH (p : Nat) : Nat := 0x2010C + 0x1000 * p

/-- 07 R290. -/
def Reg.CP_MTAG (p : Nat) : Nat := 0x20110 + 0x1000 * p

/-- 07 R290. -/
def Reg.CP_HT0 (p i : Nat) : Nat := 0x20200 + 0x1000 * p + 4 * i

/-- 07 R290. -/
def Reg.CP_HT1 (p i : Nat) : Nat := 0x20400 + 0x1000 * p + 4 * i

/-- 07 R290. -/
def Reg.CP_VT0 (p i : Nat) : Nat := 0x20600 + 0x1000 * p + 4 * i

/-- 07 R290. -/
def Reg.CP_VT1 (p i : Nat) : Nat := 0x20700 + 0x1000 * p + 4 * i

/-- 07 R291. -/
def Reg.CP_SURF (p : Nat) : Nat := 0x2011C + 0x1000 * p

/-- 08 R321. -/
def Reg.FB_FSLACK (p : Nat) : Nat := 0x20060 + 0x1000 * p

/-- 08 R321. -/
def Reg.FB_FSLACK_MIN (p : Nat) : Nat := 0x20064 + 0x1000 * p

/-- 08 R321. -/
def Reg.FB_SSLACK (p : Nat) : Nat := 0x20068 + 0x1000 * p

/-- 08 R321. -/
def Reg.FB_SSLACK_MIN (p : Nat) : Nat := 0x2006C + 0x1000 * p

/-- 08 R321. -/
def Reg.FB_CLR (p : Nat) : Nat := 0x20070 + 0x1000 * p

/-- 08 R321. -/
def Reg.FB_METER (p : Nat) : Nat := 0x20078 + 0x1000 * p

/-- 08 R321. -/
def Reg.FB_STALLCNT (p : Nat) : Nat := 0x2007C + 0x1000 * p

/-- 08 R321. -/
def Reg.FB_PARCNT (p : Nat) : Nat := 0x20080 + 0x1000 * p

/-- 08 R321. -/
def Reg.FB_CODECNT (p : Nat) : Nat := 0x20084 + 0x1000 * p

/-- 08 R321. -/
def Reg.FB_STLATE (p : Nat) : Nat := 0x20088 + 0x1000 * p

/-- 08 R321. -/
def Reg.FB_CANCNT (p : Nat) : Nat := 0x2008C + 0x1000 * p

/-- 08 R321. -/
def Reg.FB_LASTERR (p : Nat) : Nat := 0x20090 + 0x1000 * p

/-- 08 R321. -/
def Reg.FB_INJ (p : Nat) : Nat := 0x20094 + 0x1000 * p

/-- 08 R321. -/
def Reg.FB_MREQ (p : Nat) : Nat := 0x20098 + 0x1000 * p

/-- 08 R321. -/
def Reg.FB_CFG (p : Nat) : Nat := 0x20114 + 0x1000 * p

/-- 08 R321. -/
def Reg.FB_MCFG (p : Nat) : Nat := 0x20118 + 0x1000 * p

/-- 09 R359. -/
def Reg.CR_STAT (p : Nat) : Nat := 0x24040 + 0x1000 * p

/-- 09 R359. -/
def Reg.CR_FADE (p : Nat) : Nat := 0x24044 + 0x1000 * p

/-- 09 R359. -/
def Reg.CR_LBCLIP (p : Nat) : Nat := 0x24048 + 0x1000 * p

/-- 09 R359. -/
def Reg.CR_CALCE (p : Nat) : Nat := 0x2404C + 0x1000 * p

/-- 09 R359. -/
def Reg.CR_CALUE (p : Nat) : Nat := 0x24050 + 0x1000 * p

/-- 09 R359. -/
def Reg.CR_CALUEADDR (p : Nat) : Nat := 0x24054 + 0x1000 * p

/-- 09 R359. -/
def Reg.CR_DRLATE (p : Nat) : Nat := 0x24058 + 0x1000 * p

/-- 09 R360. -/
def Reg.CR_TADDR : Nat := 0x24060

/-- 09 R360. -/
def Reg.CR_TDATA : Nat := 0x24064

/-- 09 R360. -/
def Reg.CR_TSTAT : Nat := 0x24068

/-- 09 R360. -/
def Reg.CR_MLIM : Nat := 0x2406C

/-- 09 R360. -/
def Reg.CR_DRADDR : Nat := 0x24070

/-- 09 R360. -/
def Reg.CR_DRDATA : Nat := 0x24074

/-- 09 R360. -/
def Reg.CR_DRINFO : Nat := 0x24078

/-- 09 R360. -/
def Reg.LB_STAT (i : Nat) : Nat := 0x24080 + 4 * i

/-- 09 R361. -/
def Reg.CR_WSUM (i : Nat) : Nat := 0x25060 + 4 * i

/-- 09 R361. -/
def Reg.CR_WSTAT : Nat := 0x250C0

/-- 09 R362. -/
def Reg.CR_CFG (p : Nat) : Nat := 0x24100 + 0x1000 * p

/-- 09 R362. -/
def Reg.CR_FADECFG (p : Nat) : Nat := 0x24104 + 0x1000 * p

/-- 09 R362. -/
def Reg.CR_LBCFG (p : Nat) : Nat := 0x24108 + 0x1000 * p

/-- 09 R362. -/
def Reg.CR_MAT0 (p : Nat) : Nat := 0x24110 + 0x1000 * p

/-- 09 R362. -/
def Reg.CR_MAT1 (p : Nat) : Nat := 0x24114 + 0x1000 * p

/-- 09 R362. -/
def Reg.CR_MAT2 (p : Nat) : Nat := 0x24118 + 0x1000 * p

/-- 09 R362. -/
def Reg.CR_MAT3 (p : Nat) : Nat := 0x2411C + 0x1000 * p

/-- 09 R362. -/
def Reg.CR_MAT4 (p : Nat) : Nat := 0x24120 + 0x1000 * p

/-- 09 R363. -/
def Reg.LB_BUDGET (i : Nat) : Nat := 0x24140 + 4 * i

/-- 09 R363. -/
def Reg.CR_WORG (i : Nat) : Nat := 0x25140 + 8 * i

/-- 09 R363. -/
def Reg.CR_WSIZE (i : Nat) : Nat := 0x25144 + 8 * i

/-- 10 R390. -/
def Reg.SH_STAT (i : Nat) : Nat := 0x28040 + 4 * i

/-- 10 R390. -/
def Reg.SH_WIN (i : Nat) : Nat := 0x28048 + 4 * i

/-- 10 R390. -/
def Reg.SH_NOW : Nat := 0x28050

/-- 10 R390. -/
def Reg.SH_TAKES : Nat := 0x28054

/-- 10 R390. -/
def Reg.SH_REJ : Nat := 0x28058

/-- 10 R390. -/
def Reg.SH_SPLICE : Nat := 0x2805C

/-- 10 R390. -/
def Reg.SH_RDARK : Nat := 0x28060

/-- 10 R390. -/
def Reg.SH_MBSTAT : Nat := 0x28064

/-- 10 R390. -/
def Reg.SH_MBPUB : Nat := 0x28068

/-- 10 R392. -/
def Reg.SH_CFG (i : Nat) : Nat := 0x28100 + 4 * i

/-- 10 R392. -/
def Reg.SH_SORG (i : Nat) : Nat := 0x28108 + 8 * i

/-- 10 R392. -/
def Reg.SH_SEND (i : Nat) : Nat := 0x2810C + 8 * i

/-- 10 R392. -/
def Reg.SH_REQ (i : Nat) : Nat := 0x28118 + 4 * i

/-- 11 R427. -/
def Reg.TOP_COMMIT : Nat := 0x00040

/-- 11 R427. -/
def Reg.TOP_CMT_STAT : Nat := 0x00044

/-- 11 R427. -/
def Reg.TOP_CMT_SEQ : Nat := 0x00048

/-- 11 R427. -/
def Reg.TOP_CMT_CAUSES : Nat := 0x0004C

/-- 11 R429. -/
def Reg.TM_STAT : Nat := 0x01040

/-- 11 R429. -/
def Reg.TM_PHERR : Nat := 0x01044

/-- 11 R429. -/
def Reg.TM_CURPER : Nat := 0x01048

/-- 11 R429. -/
def Reg.TM_NEXTPER : Nat := 0x0104C

/-- 11 R429. -/
def Reg.TM_EDGEPER : Nat := 0x01050

/-- 11 R429. -/
def Reg.TM_FCNT_LO : Nat := 0x01058

/-- 11 R429. -/
def Reg.TM_FCNT_HI : Nat := 0x0105C

/-- 11 R429. -/
def Reg.TM_GLMISS : Nat := 0x01060

/-- 11 R429. -/
def Reg.TM_GLBAD : Nat := 0x01064

/-- 11 R429. -/
def Reg.TM_HOLDCNT : Nat := 0x01068

/-- 11 R429. -/
def Reg.TM_SHOWSEQ (i : Nat) : Nat := 0x01070 + 4 * i

/-- 11 R430. -/
def Reg.TM_PER : Nat := 0x01100

/-- 11 R430. -/
def Reg.TM_GLCFG : Nat := 0x01104

/-- 11 R430. -/
def Reg.TM_GLDLY : Nat := 0x01108

/-- 11 R430. -/
def Reg.TM_HOLD : Nat := 0x0110C

/-- 11 R430. -/
def Reg.TM_OFS : Nat := 0x01110

/-- 11 R430. -/
def Reg.TM_MODE : Nat := 0x01114

/-- 12 R456. -/
def Reg.CLK_STAT : Nat := 0x02040

/-- 12 R456. -/
def Reg.CLK_STALLCNT : Nat := 0x02044

/-- 12 R456. -/
def Reg.CLK_STALLINFO : Nat := 0x02048

/-- 12 R456. -/
def Reg.CLK_MSEL : Nat := 0x02050

/-- 12 R456. -/
def Reg.CLK_MEAS : Nat := 0x02054

/-- 13 R503. -/
def Reg.HOST_STAT : Nat := 0x08040

/-- 13 R503. -/
def Reg.HOST_VEC_ARM : Nat := 0x08044

/-- 13 R503. -/
def Reg.HOST_VEC_COND : Nat := 0x08048

/-- 13 R503. -/
def Reg.HOST_VEC_ARMED : Nat := 0x0804C

/-- 13 R503. -/
def Reg.HOST_BADACC : Nat := 0x08050

/-- 13 R503. -/
def Reg.HOST_OWNCNT : Nat := 0x08054

/-- 13 R503. -/
def Reg.HOST_CPLTO : Nat := 0x08058

/-- 13 R503. -/
def Reg.HOST_CPLERR : Nat := 0x0805C

/-- 13 R503. -/
def Reg.HOST_CTO : Nat := 0x08060

/-- 13 R503. -/
def Reg.HOST_IRQMAP (i : Nat) : Nat := 0x08080 + 4 * i

/-- 13 R505. -/
def Reg.MB_REQ (i : Nat) : Nat := 0x58040 + 4 * i

/-- 13 R505. -/
def Reg.MB_RSP (i : Nat) : Nat := 0x58080 + 4 * i

/-- 13 R505. -/
def Reg.MB_DOOR : Nat := 0x580C0

/-- 13 R505. -/
def Reg.MB_STAT : Nat := 0x580C4

/-- 13 R505. -/
def Reg.MB_CFG : Nat := 0x580C8

/-- 14 R527. -/
def Reg.DMA_GSTAT : Nat := 0x0A040

/-- 14 R527. -/
def Reg.DMA_REQSTAT : Nat := 0x0A044

/-- 14 R527. -/
def Reg.DMA_WBERR : Nat := 0x0A048

/-- 14 R527. -/
def Reg.DMA_BADCNT (i : Nat) : Nat := 0x0A050 + 4 * i

/-- 14 R527. -/
def Reg.DMA_CTRL (i : Nat) : Nat := 0x0A080 + 0x10 * i

/-- 14 R527. -/
def Reg.DMA_STAT (i : Nat) : Nat := 0x0A084 + 0x10 * i

/-- 14 R527. -/
def Reg.DMA_RESID (i : Nat) : Nat := 0x0A088 + 0x10 * i

/-- 14 R527. -/
def Reg.DMA_DCNT (i : Nat) : Nat := 0x0A08C + 0x10 * i

/-- 14 R528. -/
def Reg.DMA_CFG (i : Nat) : Nat := 0x0A100 + 0x20 * i

/-- 14 R528. -/
def Reg.DMA_DSC_LO (i : Nat) : Nat := 0x0A108 + 0x20 * i

/-- 14 R528. -/
def Reg.DMA_DSC_HI (i : Nat) : Nat := 0x0A10C + 0x20 * i

/-- 14 R528. -/
def Reg.DMA_CUR_LO (i : Nat) : Nat := 0x0A110 + 0x20 * i

/-- 14 R528. -/
def Reg.DMA_CUR_HI (i : Nat) : Nat := 0x0A114 + 0x20 * i

/-- 15 R554. -/
def Reg.PWR_STAT : Nat := 0x40040

/-- 15 R554. -/
def Reg.PWR_RAIL (i : Nat) : Nat := 0x40044 + 4 * i

/-- 15 R554. -/
def Reg.PWR_TOTAL : Nat := 0x40060

/-- 15 R554. -/
def Reg.PWR_DROOPCNT : Nat := 0x40064

/-- 15 R554. -/
def Reg.PWR_DROOPMAX : Nat := 0x40068

/-- 15 R554. -/
def Reg.PWR_DROOPTIME : Nat := 0x4006C

/-- 15 R554. -/
def Reg.PWR_CANRATE : Nat := 0x40070

/-- 15 R555. -/
def Reg.THM_STAT : Nat := 0x41040

/-- 15 R555. -/
def Reg.THM_TJ : Nat := 0x41044

/-- 15 R555. -/
def Reg.THM_TJMAX : Nat := 0x41048

/-- 15 R555. -/
def Reg.THM_TREF : Nat := 0x4104C

/-- 15 R555. -/
def Reg.THM_TREFU : Nat := 0x41050

/-- 15 R555. -/
def Reg.THM_LIM : Nat := 0x41054

/-- 15 R555. -/
def Reg.THM_TJADD : Nat := 0x41058

/-- 15 R555. -/
def Reg.THM_SHUTCNT : Nat := 0x4105C

/-- 15 R555. -/
def Reg.THM_THROTCNT : Nat := 0x41060

/-- 15 R555. -/
def Reg.THM_TADDR : Nat := 0x41064

/-- 15 R555. -/
def Reg.THM_TDATA : Nat := 0x41068

/-- 15 R555. -/
def Reg.THM_ATEMP (i : Nat) : Nat := 0x41080 + 4 * i

/-- 15 R556. -/
def Reg.THM_TCFG (i : Nat) : Nat := 0x41100 + 8 * i

/-- 15 R556. -/
def Reg.THM_DCFG (i : Nat) : Nat := 0x41104 + 8 * i

/-- 16 R586. -/
def Reg.FC_STAT : Nat := 0x48040

/-- 16 R586. -/
def Reg.FC_FIRST : Nat := 0x48044

/-- 16 R586. -/
def Reg.FC_LAST : Nat := 0x48048

/-- 16 R586. -/
def Reg.FC_EPCNT : Nat := 0x4804C

/-- 16 R586. -/
def Reg.FC_EPTIME : Nat := 0x48050

/-- 16 R586. -/
def Reg.FC_EPFRAME : Nat := 0x48054

/-- 16 R586. -/
def Reg.FC_EPSEQ : Nat := 0x48058

/-- 16 R586. -/
def Reg.FC_PREV : Nat := 0x4805C

/-- 16 R586. -/
def Reg.FC_PEND (i : Nat) : Nat := 0x48060 + 4 * i

/-- 16 R586. -/
def Reg.FC_EPMEM (i : Nat) : Nat := 0x48080 + 4 * i

/-- 16 R586. -/
def Reg.FC_SRCSEL : Nat := 0x480A0

/-- 16 R586. -/
def Reg.FC_SRCINFO : Nat := 0x480A4

/-- 16 R586. -/
def Reg.FC_SRCCNT : Nat := 0x480A8

/-- 16 R586. -/
def Reg.FC_SRCCLS : Nat := 0x480AC

/-- 16 R586. -/
def Reg.FC_PREVDUR : Nat := 0x480B0

/-- 16 R586. -/
def Reg.FC_INJ : Nat := 0x480C0

/-- 16 R586. -/
def Reg.FC_INJSTAT : Nat := 0x480C4

/-- 16 R586. -/
def Reg.FC_CHKINV : Nat := 0x480C8

/-- 16 R586. -/
def Reg.FC_CFG : Nat := 0x480D0

/-- 17 R634. -/
def Reg.GL_STAT : Nat := 0x50040

/-- 17 R634. -/
def Reg.GL_OUT : Nat := 0x50044

/-- 17 R634. -/
def Reg.GL_SIN : Nat := 0x50048

/-- 17 R634. -/
def Reg.GL_DISC : Nat := 0x5004C

/-- 17 R634. -/
def Reg.GL_SRST : Nat := 0x50050

/-- 17 R634. -/
def Reg.GL_RAISED : Nat := 0x50054

/-- 17 R634. -/
def Reg.GL_CNT_SLO : Nat := 0x50058

/-- 17 R634. -/
def Reg.GL_CNT_FB : Nat := 0x5005C

/-- 17 R634. -/
def Reg.GL_CNT_LOCK : Nat := 0x50060

/-- 17 R634. -/
def Reg.GL_CNT_SRST : Nat := 0x50064

/-- 17 R634. -/
def Reg.GL_LOAD : Nat := 0x50068

/-- 17 R634. -/
def Reg.GL_SSPI : Nat := 0x5006C

/-- 17 R634. -/
def Reg.GL_CLKCHK : Nat := 0x50070

/-- 17 R634. -/
def Reg.GL_DEMAND : Nat := 0x500C0

/-- 17 R634. -/
def Reg.GL_GPR (i : Nat) : Nat := 0x50200 + 4 * i

/-- 18 R665. -/
def Reg.FP_CTRL : Nat := 0x100000

/-- 18 R665. -/
def Reg.FP_RSTCAUSE : Nat := 0x100004

/-- 18 R665. -/
def Reg.FP_BOOT : Nat := 0x100008

/-- 18 R665. -/
def Reg.FP_IRQ : Nat := 0x100010

/-- 18 R665. -/
def Reg.FP_IRQEN : Nat := 0x100014

/-- 18 R665. -/
def Reg.FP_WDOG : Nat := 0x100020

/-- 18 R665. -/
def Reg.FP_WDSTAT : Nat := 0x100024

/-- 18 R665. -/
def Reg.FP_MB_CTRL : Nat := 0x100040

/-- 18 R665. -/
def Reg.FP_MB_DONE : Nat := 0x100044

/-- 18 R665. -/
def Reg.FP_MB_STAT : Nat := 0x100048

/-- 18 R665. -/
def Reg.FP_MB_EVT : Nat := 0x10004C

/-- 18 R665. -/
def Reg.FP_PGEN (i : Nat) : Nat := 0x100060 + 4 * i

/-- 18 R665. -/
def Reg.FP_MB_REQ (i : Nat) : Nat := 0x100080 + 4 * i

/-- 18 R665. -/
def Reg.FP_MB_RSP (i : Nat) : Nat := 0x1000C0 + 4 * i

/-- 18 R665. -/
def Reg.FP_LOG_WR : Nat := 0x100100

/-- 18 R665. -/
def Reg.FP_LOG_RD : Nat := 0x100104

/-- 18 R665. -/
def Reg.FP_LOG_CFG : Nat := 0x100108

/-- 18 R665. -/
def Reg.FP_LOG_LOST : Nat := 0x10010C

/-- 18 R665. -/
def Reg.FP_LOGW (i : Nat) : Nat := 0x100110 + 4 * i

/-- 18 R665. -/
def Reg.FP_LOGW_CODE : Nat := 0x100118

/-- 18 R665. -/
def Reg.FP_SEN_CFG (i : Nat) : Nat := 0x100200 + 0x10 * i

/-- 18 R665. -/
def Reg.FP_SEN_TIM (i : Nat) : Nat := 0x100204 + 0x10 * i

/-- 18 R665. -/
def Reg.FP_SEN_VAL (i : Nat) : Nat := 0x100208 + 0x10 * i

/-- 18 R665. -/
def Reg.FP_SEN_STAT (i : Nat) : Nat := 0x10020C + 0x10 * i

/-- 18 R665. -/
def Reg.FP_I2C_CFG : Nat := 0x100280

/-- 18 R665. -/
def Reg.FP_SPI_CMD : Nat := 0x100300

/-- 18 R665. -/
def Reg.FP_SPI_ADDR : Nat := 0x100304

/-- 18 R665. -/
def Reg.FP_SPI_STAT : Nat := 0x100308

/-- 18 R665. -/
def Reg.FP_SPI_CFG : Nat := 0x10030C

/-- 18 R665. -/
def Reg.FP_UART_DATA : Nat := 0x100380

/-- 18 R665. -/
def Reg.FP_UART_STAT : Nat := 0x100384

/-- 18 R665. -/
def Reg.FP_UART_CFG : Nat := 0x100388

/-- 18 R665. -/
def Reg.FP_GPIO_OUT : Nat := 0x100390

/-- 18 R665. -/
def Reg.FP_GPIO_OE : Nat := 0x100394

/-- 18 R665. -/
def Reg.FP_GPIO_IN : Nat := 0x100398

/-- 18 R665. -/
def Reg.FP_MTIME (i : Nat) : Nat := 0x1003A0 + 4 * i

/-- 18 R665. -/
def Reg.FP_MTIMECMP (i : Nat) : Nat := 0x1003A8 + 4 * i

/-- 18 R665. -/
def Reg.FP_SPI_BUF (i : Nat) : Nat := 0x100400 + 4 * i

/-- 19 R690. -/
def Reg.SEC_STAT : Nat := 0x60040

/-- 19 R690. -/
def Reg.SEC_DIEID (i : Nat) : Nat := 0x60044 + 4 * i

/-- 19 R690. -/
def Reg.SEC_ARB (i : Nat) : Nat := 0x60050 + 4 * i

/-- 19 R690. -/
def Reg.SEC_IMGCNT (i : Nat) : Nat := 0x60058 + 4 * i

/-- 19 R690. -/
def Reg.SEC_ARB_REQ (i : Nat) : Nat := 0x60060 + 4 * i

/-- 19 R690. -/
def Reg.SEC_CMD : Nat := 0x60068

/-- 19 R690. -/
def Reg.SEC_CMDSTAT : Nat := 0x6006C

/-- 19 R690. -/
def Reg.SEC_OTPADDR : Nat := 0x60070

/-- 19 R690. -/
def Reg.SEC_OTPDATA (i : Nat) : Nat := 0x60074 + 4 * i

/-- 19 R690. -/
def Reg.SEC_KEYSTAT : Nat := 0x60080

/-- 19 R690. -/
def Reg.SEC_RECORDS : Nat := 0x60084

/-- 19 R690. -/
def Reg.SEC_CHAL (i : Nat) : Nat := 0x600A0 + 4 * i

/-- 19 R690. -/
def Reg.SEC_VRES : Nat := 0x600C0

/-- 20 R711. -/
def Reg.TOP_PHASE : Nat := 0x00050

/-- 20 R711. -/
def Reg.TOP_SHDN : Nat := 0x00054

/-- 20 R711. -/
def Reg.TOP_SHDNSTAT : Nat := 0x00058

/-- 20 R711. -/
def Reg.TOP_RSTCAUSE : Nat := 0x0005C

/-- 21 R719. -/
def Reg.TOP_GUAR (i : Nat) : Nat := 0x00060 + 4 * i

/-- 02 R71. -/
def Reg.ST_ORD (i : Nat) : Nat := 0x2C140 + 4 * i

/-- 10 R391. -/
def Reg.SH_MB (i : Nat) : Nat := 0x28070 + 4 * i

/-- 13 R504. -/
def Reg.MSIX_VEC (i : Nat) : Nat := 0x09100 + 0x10 * i

/-- 13 R504. -/
def Reg.MSIX_PBA : Nat := 0x09300

/-! ### Writable bits and reset values -/

/-- Registers of section file 02. -/
def regRows02 : List RegRow := [
  ⟨0x2C100, 2, 0x4, 1, 0x1FFFF333, 0x00010022, true⟩,
  ⟨0x2C170, 32, 0x34, 1, 0x0003FFFF, 0x00000000, true⟩,
  ⟨0x2C140, 416, 0x4, 1, 0x3FFFFFFF, 0x00000000, true⟩]

/-- Registers of section file 03. -/
def regRows03 : List RegRow := [
  ⟨0x2C050, 2, 0x4, 1, 0x00000000, 0x00000022, false⟩,
  ⟨0x2C108, 2, 0x4, 1, 0xFFFF1FF3, 0x10001102, true⟩]

/-- Registers of section file 04. -/
def regRows04 : List RegRow := [
  ⟨0x3C100, 16, 0x10, 1, 0xFFFF3FFF, 0x00001000, true⟩,
  ⟨0x3C104, 16, 0x10, 1, 0x0FFF0FFF, 0x00000000, true⟩,
  ⟨0x3C108, 16, 0x10, 1, 0x1FFF1FFF, 0x00080008, true⟩,
  ⟨0x3C10C, 16, 0x10, 1, 0x003FFFFF, 0x00000000, true⟩,
  ⟨0x38040, 1, 0x4, 1, 0xFFFFFFFF, 0x00000000, false⟩,
  ⟨0x38100, 1, 0x4, 1, 0x001FFF3F, 0x00100006, true⟩]

/-- Registers of section file 05. -/
def regRows05 : List RegRow := [
  ⟨0x30060, 1, 0x4, 8, 0x00000073, 0x00000000, false⟩,
  ⟨0x30100, 1, 0x4, 8, 0x01FFF177, 0x00408070, true⟩,
  ⟨0x30104, 1, 0x4, 8, 0x000003FF, 0x0000030A, true⟩,
  ⟨0x3E100, 1, 0x4, 1, 0x000000DD, 0x00000000, true⟩]

/-- Registers of section file 06. -/
def regRows06 : List RegRow := [
  ⟨0x04100, 1, 0x4, 4, 0xFFFF0FF7, 0x04080070, true⟩,
  ⟨0x04104, 1, 0x4, 4, 0x1FFF1FFF, 0x00010008, true⟩,
  ⟨0x04108, 1, 0x4, 4, 0x00FF07FF, 0x00180064, true⟩,
  ⟨0x0410C, 1, 0x4, 4, 0x0000FFFF, 0x00000000, true⟩,
  ⟨0x04110, 1, 0x4, 4, 0xFFFFFFFF, 0x00000000, true⟩]

/-- Registers of section file 07. -/
def regRows07 : List RegRow := [
  ⟨0x10100, 1, 0x4, 16, 0x003F3F7F, 0x00000000, true⟩,
  ⟨0x10104, 1, 0x4, 16, 0x0000FFFF, 0x0000FFFF, true⟩,
  ⟨0x10108, 1, 0x4, 16, 0xFFFFFFC0, 0x00000000, true⟩,
  ⟨0x1010C, 1, 0x4, 16, 0xFFFFFFFF, 0x00000000, true⟩,
  ⟨0x10110, 1, 0x4, 16, 0x0000FFFF, 0x00000000, true⟩,
  ⟨0x10114, 1, 0x4, 16, 0xFFFFFFFF, 0x00000000, true⟩,
  ⟨0x10118, 1, 0x4, 16, 0x1FFF1FFF, 0x00000000, true⟩,
  ⟨0x1011C, 1, 0x4, 16, 0x1FFF1FFF, 0x00010001, true⟩,
  ⟨0x10120, 1, 0x4, 16, 0x3FFF3FFF, 0x00000000, true⟩,
  ⟨0x10124, 1, 0x4, 16, 0x1FFF1FFF, 0x00010001, true⟩,
  ⟨0x10128, 1, 0x4, 16, 0x000FFFFF, 0x00010000, true⟩,
  ⟨0x1012C, 1, 0x4, 16, 0x000FFFFF, 0x00010000, true⟩,
  ⟨0x10130, 1, 0x4, 16, 0x00001F1F, 0x00000308, true⟩,
  ⟨0x20100, 1, 0x4, 2, 0x00000001, 0x00000000, true⟩,
  ⟨0x20104, 1, 0x4, 2, 0xFFFFFFFF, 0x00000000, true⟩,
  ⟨0x20108, 1, 0x4, 2, 0x0000FFFF, 0x00000000, true⟩,
  ⟨0x2010C, 1, 0x4, 2, 0x007FFFC0, 0x00000000, true⟩,
  ⟨0x20110, 1, 0x4, 2, 0xFFFFFFFF, 0x00000000, true⟩,
  ⟨0x20200, 128, 0x4, 2, 0x0FFF0FFF, 0x00000000, true⟩,
  ⟨0x20400, 128, 0x4, 2, 0x0FFF0FFF, 0x00000000, true⟩,
  ⟨0x20600, 64, 0x4, 2, 0x0FFF0FFF, 0x00000000, true⟩,
  ⟨0x20700, 64, 0x4, 2, 0x0FFF0FFF, 0x00000000, true⟩,
  ⟨0x2011C, 1, 0x4, 2, 0x9FFF1FFF, 0x00000000, true⟩]

/-- Registers of section file 08. -/
def regRows08 : List RegRow := [
  ⟨0x20064, 1, 0x4, 2, 0x00000000, 0x000FFFFF, false⟩,
  ⟨0x20068, 1, 0x4, 2, 0x00000000, 0x00000100, false⟩,
  ⟨0x2006C, 1, 0x4, 2, 0x00000000, 0x00000100, false⟩,
  ⟨0x20098, 1, 0x4, 2, 0x0000000F, 0x00000000, false⟩,
  ⟨0x20114, 1, 0x4, 2, 0x0000FFFF, 0x00000064, true⟩,
  ⟨0x20118, 1, 0x4, 1, 0x0000000F, 0x00000008, true⟩]

/-- Registers of section file 09. -/
def regRows09 : List RegRow := [
  ⟨0x24060, 1, 0x4, 1, 0x00003FFF, 0x00000000, false⟩,
  ⟨0x24064, 1, 0x4, 1, 0x000FFFFF, 0x00000000, false⟩,
  ⟨0x2406C, 1, 0x4, 1, 0x0000FFFF, 0x00000200, false⟩,
  ⟨0x24070, 1, 0x4, 1, 0x000007FF, 0x00000000, false⟩,
  ⟨0x24074, 1, 0x4, 1, 0x00000000, 0x00000FFF, false⟩,
  ⟨0x24080, 16, 0x4, 1, 0x00000000, 0x00001000, false⟩,
  ⟨0x24100, 1, 0x4, 2, 0x00003FFF, 0x00002001, true⟩,
  ⟨0x24104, 1, 0x4, 2, 0x0FFF07FF, 0x00000000, true⟩,
  ⟨0x24108, 1, 0x4, 2, 0x00000FFF, 0x00000010, true⟩,
  ⟨0x24110, 1, 0x4, 2, 0xFFFFFFFF, 0x00004000, true⟩,
  ⟨0x24114, 1, 0x4, 2, 0xFFFFFFFF, 0x00000000, true⟩,
  ⟨0x24118, 1, 0x4, 2, 0xFFFFFFFF, 0x00004000, true⟩,
  ⟨0x2411C, 1, 0x4, 2, 0xFFFFFFFF, 0x00000000, true⟩,
  ⟨0x24120, 1, 0x4, 2, 0x0000FFFF, 0x00004000, true⟩,
  ⟨0x24140, 16, 0x4, 1, 0x007FFFFF, 0x00400000, true⟩,
  ⟨0x25140, 4, 0x8, 1, 0x0FFF0FFF, 0x00000000, true⟩,
  ⟨0x25144, 4, 0x8, 1, 0xDFFF1FFF, 0x00000000, true⟩]

/-- Registers of section file 10. -/
def regRows10 : List RegRow := [
  ⟨0x28100, 2, 0x4, 1, 0x01FF1F07, 0x00001402, true⟩,
  ⟨0x28108, 2, 0x8, 1, 0x1FFF1FFF, 0x00000000, true⟩,
  ⟨0x2810C, 2, 0x8, 1, 0x1FFF1FFF, 0x10001000, true⟩,
  ⟨0x28118, 2, 0x4, 1, 0x0000003F, 0x00000000, true⟩,
  ⟨0x28070, 36, 0x4, 1, 0xFFFFFFFF, 0x00000000, false⟩]

/-- Registers of section file 11. -/
def regRows11 : List RegRow := [
  ⟨0x01100, 1, 0x4, 1, 0xFFFFFFFF, 0x065B9AAB, true⟩,
  ⟨0x01104, 1, 0x4, 1, 0x00FFFF0F, 0x00640A00, true⟩,
  ⟨0x01108, 1, 0x4, 1, 0x00FFFFFF, 0x00000000, true⟩,
  ⟨0x0110C, 1, 0x4, 1, 0x000003FF, 0x00000064, true⟩,
  ⟨0x01110, 1, 0x4, 1, 0x00003F3F, 0x00000000, true⟩,
  ⟨0x01114, 1, 0x4, 1, 0x0000FF07, 0x00000100, true⟩]

/-- Registers of section file 12. -/
def regRows12 : List RegRow := [
  ⟨0x02050, 1, 0x4, 1, 0x00000007, 0x00000000, false⟩]

/-- Registers of section file 13. -/
def regRows13 : List RegRow := [
  ⟨0x0804C, 1, 0x4, 1, 0x00000000, 0xFFFFFFFF, false⟩,
  ⟨0x08060, 1, 0x4, 1, 0x00000000, 0x0000C350, false⟩,
  ⟨0x08080, 32, 0x4, 1, 0x9F9F9F9F, 0x00000000, false⟩,
  ⟨0x58040, 16, 0x4, 1, 0xFFFFFFFF, 0x00000000, false⟩,
  ⟨0x580C8, 1, 0x4, 1, 0x00003FFF, 0x00000064, false⟩,
  ⟨0x09100, 32, 0x10, 1, 0xFFFFFFFC, 0x00000000, false⟩,
  ⟨0x09104, 32, 0x10, 1, 0xFFFFFFFF, 0x00000000, false⟩,
  ⟨0x09108, 32, 0x10, 1, 0xFFFFFFFF, 0x00000000, false⟩,
  ⟨0x0910C, 32, 0x10, 1, 0x00000001, 0x00000001, false⟩]

/-- Registers of section file 14. -/
def regRows14 : List RegRow := [
  ⟨0x0A100, 8, 0x20, 1, 0x0000001F, 0x0000000F, false⟩,
  ⟨0x0A108, 8, 0x20, 1, 0xFFFFFFC0, 0x00000000, false⟩,
  ⟨0x0A10C, 8, 0x20, 1, 0xFFFFFFFF, 0x00000000, false⟩]

/-- Registers of section file 15. -/
def regRows15 : List RegRow := [
  ⟨0x41040, 1, 0x4, 1, 0x00000000, 0x00000010, false⟩,
  ⟨0x41048, 1, 0x4, 1, 0x00000000, 0x00008000, false⟩,
  ⟨0x4104C, 1, 0x4, 1, 0x0000FFFF, 0x00000000, false⟩,
  ⟨0x41054, 1, 0x4, 1, 0x00FFFFFF, 0x00000000, false⟩,
  ⟨0x41058, 1, 0x4, 1, 0x000000FF, 0x00000000, false⟩,
  ⟨0x41064, 1, 0x4, 1, 0x000007FF, 0x00000000, false⟩,
  ⟨0x41100, 2, 0x8, 1, 0x0FFFFFFF, 0x00640000, true⟩,
  ⟨0x41104, 2, 0x8, 1, 0xFFFFFFFF, 0x80000640, true⟩]

/-- Registers of section file 16. -/
def regRows16 : List RegRow := [
  ⟨0x480A0, 1, 0x4, 1, 0x000000FF, 0x00000000, false⟩,
  ⟨0x480AC, 1, 0x4, 1, 0x00000007, 0x00000000, false⟩,
  ⟨0x480D0, 1, 0x4, 1, 0x000003FF, 0x0000000A, false⟩]

/-- Registers of section file 17. -/
def regRows17 : List RegRow := [
  ⟨0x50040, 1, 0x4, 1, 0x00000000, 0x00000200, false⟩,
  ⟨0x50044, 1, 0x4, 1, 0x00000000, 0x00020000, false⟩,
  ⟨0x50048, 1, 0x4, 1, 0x00000000, 0x000000F0, false⟩]

/-- Registers of section file 18. -/
def regRows18 : List RegRow := [
  ⟨0x100004, 1, 0x4, 1, 0x00000018, 0x00000001, false⟩,
  ⟨0x100008, 1, 0x4, 1, 0x00000007, 0x00000000, false⟩,
  ⟨0x100014, 1, 0x4, 1, 0x0000007F, 0x00000000, false⟩,
  ⟨0x100024, 1, 0x4, 1, 0x00000000, 0x00010000, false⟩,
  ⟨0x100040, 1, 0x4, 1, 0x00000001, 0x00000000, false⟩,
  ⟨0x100060, 8, 0x4, 1, 0xFFFFFFFF, 0x00000000, false⟩,
  ⟨0x1000C0, 16, 0x4, 1, 0xFFFFFFFF, 0x00000000, false⟩,
  ⟨0x100104, 1, 0x4, 1, 0x000003FF, 0x00000000, false⟩,
  ⟨0x100108, 1, 0x4, 1, 0x00000001, 0x00000000, false⟩,
  ⟨0x100110, 2, 0x4, 1, 0xFFFFFFFF, 0x00000000, false⟩,
  ⟨0x100200, 8, 0x10, 1, 0x37FF7F1F, 0x00000000, false⟩,
  ⟨0x100204, 8, 0x10, 1, 0xFFFF00FF, 0x00000064, false⟩,
  ⟨0x10020C, 8, 0x10, 1, 0x00000000, 0xFF000000, false⟩,
  ⟨0x100280, 1, 0x4, 1, 0x00000003, 0x00000000, false⟩,
  ⟨0x100304, 1, 0x4, 1, 0x00FFFFFF, 0x00000000, false⟩,
  ⟨0x10030C, 1, 0x4, 1, 0x0000FF07, 0x00000A03, false⟩,
  ⟨0x100380, 1, 0x4, 1, 0x000000FF, 0x00000000, false⟩,
  ⟨0x100388, 1, 0x4, 1, 0x0000FFFF, 0x00000036, false⟩,
  ⟨0x100390, 1, 0x4, 1, 0x000000FF, 0x00000000, false⟩,
  ⟨0x100394, 1, 0x4, 1, 0x000000FF, 0x00000000, false⟩,
  ⟨0x1003A8, 2, 0x4, 1, 0xFFFFFFFF, 0xFFFFFFFF, false⟩,
  ⟨0x100400, 64, 0x4, 1, 0xFFFFFFFF, 0x00000000, false⟩]

/-- Registers of section file 19. -/
def regRows19 : List RegRow := [
  ⟨0x60040, 1, 0x4, 1, 0x00000000, 0x00001000, false⟩,
  ⟨0x60060, 2, 0x4, 1, 0xFFFFFFFF, 0x00000000, false⟩,
  ⟨0x60070, 1, 0x4, 1, 0x000001FF, 0x00000000, false⟩,
  ⟨0x60074, 2, 0x4, 1, 0xFFFFFFFF, 0x00000000, false⟩]

/-- Registers of section file 20. -/
def regRows20 : List RegRow := [
  ⟨0x00050, 1, 0x4, 1, 0x00000003, 0x00000000, false⟩]

/-- Every row. -/
def regRows : List RegRow :=
  regRows02 ++ regRows03 ++ regRows04 ++ regRows05 ++ regRows06 ++ regRows07 ++ regRows08 ++ regRows09 ++
  regRows10 ++ regRows11 ++ regRows12 ++ regRows13 ++ regRows14 ++ regRows15 ++ regRows16 ++
  regRows17 ++ regRows18 ++ regRows19 ++ regRows20

/-- A row holds the register at an address. -/
def RegRow.has (r : RegRow) (a : Nat) : Bool :=
  decide (r.addr ≤ a) && decide ((a - r.addr) / 0x1000 < r.pages) &&
    decide (((a - r.addr) % 0x1000) % r.stride = 0) && decide (((a - r.addr) % 0x1000) / r.stride < r.n)

/-- The row of an address. -/
def regRow (a : Nat) : Option RegRow := regRows.find? (fun r => r.has a)

end Sys2Proof.Machine
end

