-- ==== Sys2Proof/Machine/State.lean ====
section
/-! DEFINITION. The state of the block as plain data, its reset values, and the reasons a command can stop. A default
value of a field is its reset value. Docstrings name the section file and rule of spec/ that gives the field. -/

namespace Sys2Proof.Machine

open Sys2Proof

/-! ### Clock domains (chapter 12) -/

/-- One clock monitor (12 R435). -/
structure Monitor where
  /-- 12 R435: the report, running or stopped (RUN of CLK_STAT). -/
  running : Bool := false
  /-- 12 R435: consecutive good windows, at most 2. -/
  good : Nat := 0
  /-- 12 R435: consecutive bad windows, at most 2. -/
  bad : Nat := 0
  /-- 12 R456: FREQ, the frequency last measured for the domain, in kHz. -/
  khz : BitVec 20 := 0
  deriving DecidableEq, Repr

/-- A crossing, named by its live side, its far side and its kind (12 R452, CLK_STALLINFO). -/
structure Crossing where
  /-- 12 R452: live domain. -/
  live : Fin 8
  /-- 12 R452: far domain. -/
  far : Fin 8
  /-- 12 R452: mechanism of the crossing. -/
  kind : CrossingKind
  deriving DecidableEq, Repr

/-- A hold-and-flag crossing (12 R444): its source half and its destination half. At reset it is idle (12 R455). -/
structure HoldFlag where
  /-- 12 R444: HOLD. -/
  hold : Option (BitVec 32) := none
  /-- 12 R444: PENDING. -/
  pending : Option (BitVec 32) := none
  /-- 12 R444: FLAG. -/
  flag : Bool := false
  /-- 12 R444: ACK. -/
  ack : Bool := false
  /-- 12 R444: ACK as the source has registered it. -/
  acked : Bool := false
  /-- 12 R446: the value that the destination has captured last. -/
  dest : Option (BitVec 32) := none
  /-- 12 R451: instant of the last launch, in 1/64 ticks. -/
  since : Nat := 0
  deriving DecidableEq, Repr

/-- The clock logic (chapter 12). -/
structure Clk where
  /-- 12 R456: LOCK, SYN_SYS locked. -/
  lockSys : Bool := false
  /-- 12 R456, 05 R213: LOCK, SYN_OL locked. -/
  lockOl : Bool := false
  /-- 12 R456: LOCK, SYN_IL locked. -/
  lockIl : Bool := false
  /-- 12 R456: LOCK, SYN_PCIE locked. -/
  lockPcie : Bool := false
  /-- 12 R435: the eight monitors, by domain code. -/
  mon : Vector Monitor 8 := Vector.replicate 8 {}
  /-- 12 R453: the crossings that are STALLED, oldest first. -/
  stalled : List Crossing := []
  /-- 12 R440, R444: hold-and-flag crossings that carry the active settings, as the number of the commit that made them, from CD_TIME to
  CD_FAB, CD_INTAKE and CD_SKEIN. -/
  settings : Vector HoldFlag 3 := Vector.replicate 3 {}
  deriving DecidableEq, Repr

/-! ### Host port (chapter 13) -/

/-- What an upstream request has come to (13 R463–R467). -/
inductive UpResult where
  /-- No completion registered yet. -/
  | waiting
  /-- A completion with data. -/
  | data (bytes : List Byte)
  /-- Ended as an error access. -/
  | error
  deriving DecidableEq, Repr

/-- One upstream read of host memory (13 R464–R467). -/
structure UpReq where
  /-- 13 R459: tag of the request. -/
  tag : Nat
  /-- 13 R496: the internal requester. -/
  who : UpWho
  /-- 13 R494: host address. -/
  addr : Nat
  /-- 13 R459: length in bytes. -/
  len : Nat
  /-- 13 R465: instant of transmission, in 1/64 ticks. -/
  sent : Nat
  /-- 13 R467: what it has come to. -/
  res : UpResult
  deriving DecidableEq, Repr

/-- Errors that the controller reports through AER (13 R467) and that this model meets. -/
inductive AerError where
  | receiver | badTlp | badDllp | replayTimer | replayRollover | advisoryNonFatal
  | poisonedTlp | completionTimeout | completerAbort | unexpectedCompletion | unsupportedRequest
  | dataLinkProtocol | surpriseDown | flowControl | receiverOverflow | malformedTlp
  deriving DecidableEq, Repr

/-- The host port (chapter 13) but for its plain registers. -/
structure HostPort where
  /-- 13 R458: HOSTSEL as sampled; true selects quad-SPI. -/
  portSpi : Bool := false
  /-- 13 R503: LINKUP. -/
  linkUp : Bool := false
  /-- 13 R503: SPEED. -/
  speed : BitVec 3 := 0
  /-- 13 R503: WIDTH. -/
  width : BitVec 2 := 0
  /-- 13 R503: DSTATE. -/
  dstate : BitVec 2 := 0
  /-- 13 R464: Bus Master Enable. -/
  bme : Bool := false
  /-- 13 R490: MSI-X Enable. -/
  msixEn : Bool := false
  /-- 13 R490: MSI-X Function Mask. -/
  msixFmask : Bool := false
  /-- 13 R465: Completion Timeout Value of Device Control 2. -/
  ctoVal : BitVec 4 := 0
  /-- 13 R490: ARMED flag of each vector. -/
  armed : BitVec 32 := 0xFFFFFFFF#32
  /-- 13 R504: the Pending Bit Array. -/
  pba : BitVec 32 := 0
  /-- 13 R467: errors the AER capability has logged, newest first. -/
  aer : List AerError := []
  /-- 13 R471: the quad-SPI write queue, oldest first: address and data. -/
  qspiQ : List (BitVec 32 × BitVec 32) := []
  /-- 13 R472: ERR of the STATUS byte. -/
  qspiErr : Bool := false
  /-- 13 R464: upstream requests outstanding or answered and not yet taken. -/
  up : List UpReq := []
  /-- 13 R459: tag of the next upstream request. -/
  nextTag : Nat := 0
  /-- 13 R498: tick of the sample in which BUSY of MB_STAT last fell. -/
  mbFell : Option Nat := none
  /-- 13 R505: BUSY of MB_STAT. -/
  mbBusy : Bool := false
  /-- 13 R505: DONE of MB_STAT. -/
  mbDone : Bool := false
  /-- 13 R505: REFUSED of MB_STAT. -/
  mbRefused : Bool := false
  /-- 13 R505: TIMEOUT of MB_STAT. -/
  mbTimeout : Bool := false
  /-- 13 R505: HWCODE of MB_STAT. -/
  mbCode : BitVec 4 := 0
  /-- 13 R505: SEQ of MB_STAT, the tag of the last outcome. -/
  mbSeq : BitVec 8 := 0
  /-- 13 R505: RSPLEN of MB_STAT. -/
  mbRspLen : BitVec 5 := 0
  /-- 13 R498: tag of the request in progress. -/
  mbReqSeq : BitVec 8 := 0
  /-- 13 R498: length of the request in progress. -/
  mbReqLen : BitVec 5 := 0
  deriving DecidableEq, Repr

/-! ### Stores (chapters 03, 07, 09, 17) -/

/-- A byte store with error state. Bytes are held in the one canonical form of a sparse memory: addresses
rising, no entry equal to the store's default byte. `ce` and `ue` list the 64-bit words whose check bits disagree. -/
structure Store where
  /-- 03 R72: the bytes that differ from the store's default. -/
  cells : List Host.Cell := []
  /-- 03 R80: words with one bit in error, rising. -/
  ce : List Nat := []
  /-- 03 R81: words with an uncorrectable error, rising. -/
  ue : List Nat := []
  deriving DecidableEq, Repr

/-! ### Frame store and Stitcher (chapters 02, 03) -/

/-- The decision of 03 R109 for the coming frame of one surface. -/
structure Decision where
  /-- 03 R109: lanes of each skein that carry payload, by OL number. -/
  lanes : BitVec 8
  /-- 03 R111: effective S, in S_SEL encoding. -/
  sEff : BitVec 2
  /-- 03 R112: skeins excluded. -/
  excl : BitVec 4
  /-- 03 R100: the coming frame runs under the fallback profile. -/
  profile : Bool
  /-- 03 R100, 20 R698: the coming frame's planes are formed from the fallback source. -/
  fb : Bool
  /-- 03 R74: the fabric had signalled the frame complete when the decision was taken. -/
  swap : Bool
  /-- 03 R115: consecutive boundaries at which the committed S passes, this one included. -/
  pass : Nat
  /-- 03 R115: the same for the fallback profile's S, while the profile runs degraded. -/
  passFb : Nat
  /-- 03 R111, R115: effective S under the surface's own settings, in S_SEL encoding, held also while the profile runs. -/
  own : BitVec 2
  /-- 03 R115: committed S_SEL that `own` was chosen for. -/
  ownCom : BitVec 2
  /-- 20 R698: arrays that are READY, by array number. -/
  arrs : BitVec 16
  /-- 02 R70: LOAD. -/
  load : Nat
  /-- 03 R118: LOAD1. -/
  load1 : Nat
  /-- 21 R716: ISPAN, in 1/64 ticks. -/
  ispan : Nat
  deriving DecidableEq, Repr

/-- One surface's side of the Stitcher (chapters 02, 03). -/
structure Surface where
  /-- 03 R73: show bank. -/
  showBank : Bool := false
  /-- 03 R75: the fabric has signalled the surface's frame complete since its boundary. -/
  complete : Bool := false
  /-- 03 R74: the surface has had its first frame boundary since PORST_N release. -/
  started : Bool := false
  /-- 02 R48: exact instant of the last frame boundary, in 1/64 ticks. -/
  bk : Nat := 0
  /-- 11 R408: period of the frame shown, in 1/64 ticks. -/
  per : Nat := 0
  /-- 02 R48: t_st of the frame shown, in ticks with 16 fractional bits. -/
  tst : Nat := 0
  /-- 04 R134: FN of the frame shown. -/
  fn : BitVec 8 := 0
  /-- 03 R111: effective S of the frame shown, in S_SEL encoding. -/
  sEff : BitVec 2 := 2
  /-- 03 R115: consecutive boundaries at which the committed S passed. -/
  passCnt : Nat := 0
  /-- 03 R115: the same for the fallback profile's S. -/
  passFb : Nat := 0
  /-- 03 R115: effective S under the surface's own settings, in S_SEL encoding. -/
  own : BitVec 2 := 2
  /-- 03 R115: committed S_SEL that `own` was chosen for. -/
  ownCom : BitVec 2 := 2
  /-- 03 R109: lanes that the decision for the frame shown gave each skein, by OL number. -/
  lanes : BitVec 8 := 0
  /-- 03 R109: the decision taken for the next boundary, if its instant has passed. -/
  decided : Option Decision := none
  /-- 05 R218: tick of the sample in which it was taken. -/
  decTick : Nat := 0
  /-- 03 R99: Glade's selection line as the Stitcher registers it. -/
  fbSel : Bool := false
  /-- 03 R100: planes are formed from the fallback source. -/
  fbShow : Bool := false
  /-- 03 R100: the frame shown runs under the fallback profile. -/
  fbProfile : Bool := false
  /-- 03 R100, R101: the line changed after the decision instant, so the change waits one more boundary. -/
  fbHold : Bool := false
  /-- 01 R37, 03 R76: register file that governs the frame shown. -/
  showRegs : RegFile := []
  /-- 01 R37: register file that governs the frame being composed. -/
  compRegs : RegFile := []
  /-- 11 R411: commit sequence of the frame being composed. -/
  compSeq : BitVec 32 := 0
  /-- 04 R140: sequence number of the surface's commit that governs the frame shown; 0 before the first. -/
  showCmt : BitVec 32 := 0
  /-- 04 R140: sequence number of the surface's commit that governs the frame being composed; 0 before the first. -/
  compCmt : BitVec 32 := 0
  /-- 03 R97: health bits of 1 counted at plane 0 of the frame shown. -/
  hmCount : Nat := 0
  /-- 03 R97: health bits of 1 counted at plane 0 of the coming frame, where that plane is formed ahead. -/
  hmNext : Nat := 0
  /-- 03 R97: skeins whose plane 0 of the frame shown has been read and counted. -/
  hmSeen : BitVec 4 := 0
  /-- 03 R97: skeins whose plane 0 of the coming frame has been read and counted. -/
  hmSeenNext : BitVec 4 := 0
  /-- 20 R698: the surface has begun its first fallback frame. -/
  fbBegun : Bool := false
  /-- 11 R399: number k of the time-base frame whose boundary the frame shown began at. -/
  k : Nat := 0
  /-- 02 R53: index of the next plane to show. -/
  nextShow : Nat := 0
  /-- 20 R698: arrays that were READY at the decision for the frame shown, by array number. -/
  arrs : BitVec 16 := 0
  /-- 15 R549: the tile model has still to step on the fallback frame shown, at the end of plane 0. -/
  fbTile : Bool := false
  deriving DecidableEq, Repr

/-- A plane formed for one skein (03 R90). -/
structure Plane where
  /-- 04 R134: sequence number. -/
  seq : BitVec 8
  /-- 02 R53: index of the plane in its frame. -/
  idx : Nat
  /-- 04 R134: frame number it belongs to. -/
  fn : BitVec 8
  /-- 03 R102: formed from the fallback source. -/
  fb : Bool
  /-- 03 R100: formed under the fallback profile. -/
  prof : Bool
  /-- 03 R111: effective S it was formed with, in S_SEL encoding. -/
  sSel : Nat
  /-- 08 R311: a code error has ended the plane; every array is dark at its show instant. -/
  dead : Bool
  /-- 10 R384: number of the box set it was formed with. -/
  boxSet : Nat
  /-- 08 R311, R315: errors of the bundles it was formed from. -/
  errs : List (Fin 8 × BundleError)
  /-- 04 R144: plane bits of each array in link order. -/
  bits : List (Fin 16 × List Bool)
  deriving DecidableEq, Repr

/-- A plane load in flight (03 R105, R106). -/
structure Load where
  /-- 03 R105: the plane. -/
  plane : Plane
  /-- 02 R60: start instant, in 1/64 ticks. -/
  start : Nat
  /-- 02 R61: end instant at the lanes it started on, in 1/64 ticks. -/
  stop : Nat
  /-- 03 R106: lanes the load uses, by skein lane number. -/
  lmask : BitVec 8
  /-- 03 R106: arrays that receive the dark command at the plane's show instant. -/
  dark : BitVec 16
  /-- 03 R106: instant from which the load has used those lanes, in 1/64 ticks. -/
  since : Nat := start
  /-- 03 R106: stream blocks sent before that instant. -/
  sentN : Nat := 0
  /-- 08 R305: IDLE blocks sent for empty lane buffers during the load. -/
  idles : Nat := 0
  /-- 08 R311: segments 5 to 7 were reset before its last block was in the lane buffers. -/
  cut : Bool := false
  deriving DecidableEq, Repr

/-- The Stitcher and link transmitter of one skein (chapters 03, 04, 05). -/
structure SkeinTx where
  /-- 04 R134: SEQ of the next plane. -/
  seq : BitVec 8 := 0
  /-- 04 R127: LMASK in force, by skein lane number. -/
  lmask : BitVec 8 := 0
  /-- 10 R383: index of the next plane to form. -/
  nextForm : Nat := 0
  /-- 10 R383: the plane formed and waiting in the plane buffer. -/
  buffer : Option Plane := none
  /-- 03 R105: end instant of the load last started, its t_lead left out, in 1/64 ticks. -/
  busyTo : Nat := 0
  /-- 02 R60: loads complete or under way whose planes wait for their show instant, oldest first. -/
  queued : List Load := []
  /-- 03 R105: planes that are not loaded, by frame number and index, with the SEQ of their dark command, oldest
  first. -/
  skipped : List (BitVec 8 × Nat × BitVec 8) := []
  /-- 10 R384, 17 R609: splices and the first fallback plane, loaded or under load, with their show instants, which are no
  plane boundaries. -/
  extra : List (Load × Nat) := []
  /-- 17 R609: the instant τ and the index of the plane it shows, from the rise of the selection to that plane's
  load. -/
  tau : Option (Nat × Nat) := none
  /-- 17 R609: SEQ under which a latched plane is loaded again, by frame number and index. -/
  reseq : List (BitVec 8 × Nat × BitVec 8) := []
  /-- 10 R384: copy of the plane shown, for a splice. -/
  shown : Option Plane := none
  /-- 10 R385: a lane loss in the frame shown has taken the skein out of shade scheduling. -/
  early : Bool := false
  /-- 03 R112: the skein is excluded by the decision for the frame shown. -/
  excl : Bool := false
  /-- 08 R311: segments 5 to 7 were reset since the last plane of the skein began to load or was given up. -/
  stalled : Bool := false
  /-- 03 R112: the skein is excluded in a frame that is driven. -/
  nocap : Bool := false
  /-- 05 R194: marker count. -/
  mcnt : BitVec 24 := 0
  deriving DecidableEq, Repr

/-! ### Array link (chapter 04) -/

/-- What the link layer holds of one array (04 R161–R184). -/
structure ArrayLink where
  /-- 04 R170: READY. -/
  ready : Bool := false
  /-- 04 R182: an identity has been accepted. -/
  ident : Bool := false
  /-- 04 R171: consecutive missing polls. -/
  misses : Nat := 0
  /-- 04 R165: status word 0 last accepted. -/
  w0 : BitVec 64 := 0
  /-- 04 R165: status word 1 last accepted. -/
  w1 : BitVec 64 := 0
  /-- 04 R165: identity word 0 last accepted. -/
  id0 : BitVec 64 := 0
  /-- 04 R165: identity word 1 last accepted. -/
  id1 : BitVec 64 := 0
  /-- 04 R167: FACK for the next POLL. -/
  fack : BitVec 4 := 0
  /-- 04 R167: WACK for the next POLL. -/
  wack : Bool := false
  /-- 04 R166: the mod-256 counters have a base. -/
  based : Bool := false
  /-- 04 R173: consecutive status responses whose AEN differs from the pin. -/
  aenMis : Nat := 0
  /-- 20 R698: instant of the identification that made the array READY, in 1/64 ticks. -/
  readyAt : Nat := 0
  /-- 04 R184: AL_LOST raised and its condition not ended. -/
  inLost : Bool := false
  /-- 04 R184: AL_NORSP raised and its condition not ended. -/
  inNorsp : Bool := false
  /-- 04 R184: AL_AENMIS raised and its condition not ended. -/
  inAenmis : Bool := false
  /-- 04 R184: AL_FQOVF raised and its condition not ended. -/
  inFqovf : Bool := false
  /-- 04 R184: AL_OVERTEMP raised and its condition not ended. -/
  inOvertemp : Bool := false
  /-- 05 R215: ASEQ last accepted. -/
  aseq : Option (BitVec 8) := none
  /-- 05 R218: tick of the last accepted LALERT, and its LOCKMASK. -/
  alert : Option (Nat × BitVec 8) := none
  deriving DecidableEq, Repr

/-- The poll outstanding on a return lane (04 R161, R164). -/
structure Poll where
  /-- 04 R134: ADDR. -/
  addr : Fin 16
  /-- 04 R134: KIND. -/
  kind : BitVec 2
  /-- 04 R134: PSEQ. -/
  pseq : BitVec 8
  /-- 04 R173: level of the AEN pin the array's entry names, sampled as the POLL left. -/
  aen : Bool
  /-- 04 R164: instant at which the POLL row left, in 1/64 ticks. -/
  sent : Nat
  deriving DecidableEq, Repr

/-- One return lane (04 R161, 05 R224). -/
structure ReturnLane where
  /-- 05 R224: LOCK of BL_STAT. -/
  lock : Bool := false
  /-- 05 R190: the first block after lock has still to be discarded. -/
  fresh : Bool := false
  /-- 04 R161: array last considered in the round robin. -/
  last : Fin 16 := 15
  /-- 04 R161: PSEQ of the next poll. -/
  pseq : BitVec 8 := 0
  /-- 04 R161: the poll outstanding. -/
  poll : Option Poll := none
  deriving DecidableEq, Repr

/-- The host's array register request (04 R183). -/
structure ArrayReq where
  /-- 04 R183: BUSY of AL_ASTAT. -/
  busy : Bool := false
  /-- 04 R183: DONE of AL_ASTAT. -/
  done : Bool := false
  /-- 04 R183: TIMEOUT of AL_ASTAT. -/
  timeout : Bool := false
  /-- 04 R183: RDATA of AL_ASTAT. -/
  rdata : BitVec 16 := 0
  /-- 04 R183: the request writes. -/
  write : Bool := false
  /-- 04 R183: target array of the request. -/
  addr : Fin 16 := 0
  /-- 04 R183: polls of the array made for the request. -/
  polls : Nat := 0
  deriving DecidableEq, Repr

/-! ### Output lanes (chapter 05) -/

/-- State of an output lane (05 R211), in the order of SK_LSTAT STATE (05 R222). -/
inductive LaneState where
  | off | eidle | train | hold | service | down | failed | loop
  deriving DecidableEq, Repr

/-- What a lane entered TRAIN from (05 R211). -/
inductive TrainFrom where
  /-- From OFF or EIDLE, or after a RATE or SKEIN change. -/
  | fresh
  /-- From DOWN: a retrain attempt. -/
  | down
  /-- From HOLD. -/
  | hold
  deriving DecidableEq, Repr

/-- Kind of a training burst (05 R202). -/
inductive Burst where
  | full | validate | fast
  deriving DecidableEq, Repr

/-- One output lane (05 R211). -/
structure OutLane where
  /-- 05 R211: state. -/
  st : LaneState := .off
  /-- 05 R211: what TRAIN was entered from. -/
  from_ : TrainFrom := .fresh
  /-- 05 R202: kind of the burst sent or last sent. -/
  burst : Burst := .full
  /-- 05 R213: the next attempt follows a relock and sends FULL. -/
  relock : Bool := false
  /-- 05 R212: ATTEMPTS. -/
  attempts : BitVec 2 := 0
  /-- 05 R222: CAUSE. -/
  cause : BitVec 4 := 0
  /-- 05 R222: ADDR, the reporting array. -/
  addr : BitVec 4 := 0
  /-- 05 R212: within 1 s of its return to SERVICE. -/
  recent : Bool := false
  /-- 05 R176: arrays that have reported the lane locked since its burst ended. -/
  conf : BitVec 16 := 0
  /-- 05 R211: the lane has met the 1 ms limit of HOLD with its confirmations complete. -/
  confirmed : Bool := false
  /-- 05 R204: instant at which electrical idle began, in 1/64 ticks. -/
  idleAt : Nat := 0
  /-- 05 R211: instant of the entry to DOWN, in 1/64 ticks. -/
  downAt : Nat := 0
  /-- 05 R202: instant from which the burst was sent, by which lanes are trained together, in 1/64 ticks. -/
  trainAt : Nat := 0
  /-- 05 R209: SWING in the transmitter. -/
  swing : BitVec 4 := 8
  /-- 05 R209: PRE in the transmitter. -/
  pre : BitVec 4 := 0
  /-- 05 R209: POST in the transmitter. -/
  post : BitVec 5 := 4
  /-- 05 R222: LB_LOCK. -/
  lbLock : Bool := false
  /-- 05 R222: PRBS_LOCK. -/
  prbsLock : Bool := false
  /-- 05 R220: the pattern checker's last 31 bits, the latest in bit 0. -/
  prbsReg : BitVec 31 := 0
  /-- 05 R220: error-free bits in a row before PRBS_LOCK. -/
  prbsRun : Nat := 0
  /-- 05 R218: tick of the last RETRY write. -/
  retryAt : Option Nat := none
  deriving DecidableEq, Repr

/-! ### What the output lanes carry (04 R127–R145, 05 R188–R204) -/

/-- What a lane carries until further notice. -/
inductive LineFill where
  /-- Nothing: the driver is in electrical idle. -/
  | quiet
  /-- The skein stream (04 R127). -/
  | stream
  /-- LIDLE blocks (05 R211). -/
  | lidle
  deriving DecidableEq, Repr

/-- What a lane carries for a number of slots. -/
inductive LinePart where
  /-- EIE blocks (05 R204). -/
  | eie
  /-- Electrical idle. -/
  | idle
  /-- TRAIN blocks (05 R202). -/
  | train (kind : Burst)
  deriving DecidableEq, Repr

/-- The transmitter of one output lane. -/
structure LineTx where
  /-- 05 R189: the last 58 scrambled bits, the latest in bit 0. -/
  scr : BitVec 58 := 0
  /-- 05 R195: parity of the scrambled payload bits since the last AM. -/
  bip : BitVec 8 := 0
  /-- 05 R206: skein whose slots the lane keeps. -/
  skein : Fin 4 := 0
  /-- 05 R206: its skein lane number there. -/
  no : Nat := 0
  /-- 05 R202, R204: what the lane carries first, each part with the slots left. -/
  plan : List (LinePart × Nat) := []
  /-- 05 R211: what it carries after that. -/
  fill : LineFill := .quiet
  deriving DecidableEq, Repr

/-- A row that waits for its slot (04 R127, R128). -/
structure RowSlot where
  /-- 04 R127: LMASK that it is sent on. -/
  mask : BitVec 8
  /-- 04 R128: its copies, in ascending lane order. -/
  copies : List Block
  /-- 04 R134: LMASK from the next row. -/
  next : Option (BitVec 8)
  deriving DecidableEq, Repr

/-- The block stream of one skein. -/
structure SkeinLine where
  /-- 05 R194: block index of the next slot. -/
  idx : Nat := 0
  /-- 05 R185: instant at which that slot begins, in 1/64000 ticks. -/
  at_ : Nat := 0
  /-- 04 R127: LMASK of the skein stream. -/
  mask : BitVec 8 := 0
  /-- 04 R128: rows that wait for a slot, oldest first. -/
  rows : List RowSlot := []
  /-- 04 R143: packet blocks that wait for a stream position, oldest first. -/
  pkts : List Block66 := []
  deriving DecidableEq, Repr

/-- What the output lanes carry. -/
structure LaneStream where
  /-- 05 R189: the eight lanes' transmitters. -/
  line : Vector LineTx 8 := Vector.replicate 8 {}
  /-- 04 R127: the four skeins' streams. -/
  skein : Vector SkeinLine 4 := Vector.replicate 4 {}
  deriving DecidableEq, Repr

/-! ### Intake (chapter 06) -/

/-- One line held in the elastic buffer, as received (06 R239). -/
structure InLine where
  /-- 06 R232: LINE. -/
  line : Nat
  /-- 06 R232: FMT. -/
  fmt : BitVec 4
  /-- 06 R232: WIDTH. -/
  width : Nat
  /-- 06 R232: data blocks. -/
  data : List (BitVec 64)
  deriving DecidableEq, Repr

/-- What has come of a frame before its period begins, to be checked there (06 R239, R242, R243). -/
inductive EarlyItem where
  /-- A line packet with a valid CRC-32, and its FN. -/
  | line (fn : BitVec 8) (y : InLine)
  /-- A line whose packet failed or that found the buffer full. -/
  | lost (y : Nat)
  /-- The FE. -/
  | fe
  deriving DecidableEq, Repr

/-- A frame of a stream, bound to a composition period (06 R237). -/
structure InFrame where
  /-- 06 R232: FN. -/
  fn : BitVec 8
  /-- 06 R232: LINES. -/
  lines : Nat
  /-- 06 R239: what has come before b_k, oldest first. -/
  early : List EarlyItem := []
  /-- 06 R240: lines in the elastic buffer, ascending. -/
  held : List InLine := []
  /-- 06 R243: every line below this number is delivered or missing. -/
  upto : Nat := 0
  /-- 06 R243: numbers of missing lines, ascending. -/
  missing : List Nat := []
  /-- 06 R249: last line delivered. -/
  lastLine : Option Nat := none
  /-- 06 R244: delivered lines that have left the buffer, which still replace a missing one. -/
  left : List InLine := []
  /-- 06 R243: the FE has been accepted. -/
  ended : Bool := false
  /-- 06 R246: closed. -/
  closed : Bool := false
  /-- 06 R245: failed. -/
  failed : Bool := false
  deriving DecidableEq, Repr

/-- One intake stream, named by its lowest lane (06 R226). -/
structure Stream where
  /-- 06 R237: frame bound to the composition period that runs. -/
  cur : Option InFrame := none
  /-- 06 R237: frame bound to the next composition period. -/
  next : Option InFrame := none
  /-- 06 R238: FN of a frame being discarded. -/
  drop : Option (BitVec 8) := none
  /-- 06 R246: FN of the frame whose period ended last. -/
  gone : Option (BitVec 8) := none
  /-- 06 R253: FN of IN_FSTAT. -/
  lastFn : BitVec 8 := 0
  /-- 06 R253: LAST_OK. -/
  lastOk : Bool := false
  /-- 06 R247: LOST. -/
  lost : Bool := false
  /-- 06 R247: MISSRUN. -/
  missRun : BitVec 8 := 0
  /-- 06 R253: SPOVF. -/
  spovf : Bool := false
  deriving DecidableEq, Repr

/-- One intake lane (06 R229, R253). -/
structure IntakeLane where
  /-- 06 R253: BLOCK. -/
  block : Bool := false
  /-- 06 R253: MARKER. -/
  marker : Bool := false
  /-- 06 R253: DESKEW. -/
  deskew : Bool := false
  /-- 06 R253: BURST, until the burst ends. -/
  burst : BitVec 2 := 0
  /-- 05 R202: instant at which that burst ends, in 1/64 ticks. -/
  burstTo : Nat := 0
  /-- 06 R253: EIDLE. -/
  eidle : Bool := false
  /-- 06 R253, 05 R200: STALE. -/
  stale : Bool := false
  /-- 06 R253: AMLANE. -/
  amlane : BitVec 3 := 0
  deriving DecidableEq, Repr

/-- A stored side packet (06 R249, R251). -/
structure SideSlot where
  /-- 06 R251: STREAM. -/
  stream : Fin 4
  /-- 06 R251: SPID. -/
  spid : BitVec 4
  /-- 06 R251: LEN. -/
  len : BitVec 5
  /-- 06 R251: FN. -/
  fn : BitVec 8
  /-- 06 R251: LINE_AFTER. -/
  lineAfter : BitVec 13
  /-- 06 R251: DATA. -/
  data : List (BitVec 64)
  deriving DecidableEq, Repr

/-- The intake (chapter 06). -/
structure Intake where
  /-- 06 R253: the four lanes. -/
  lanes : Vector IntakeLane 4 := Vector.replicate 4 {}
  /-- 06 R226: the four streams. -/
  streams : Vector Stream 4 := Vector.replicate 4 {}
  /-- 06 R250: queues of IN_DRQ0 to IN_DRQ3, oldest first. -/
  drq : Vector (List SideSlot) 4 := Vector.replicate 4 []
  deriving DecidableEq, Repr

/-! ### Layer composer (chapter 07) and fabric (chapter 08) -/

/-- A source line of a layer-store or host-memory layer (07 R276). -/
structure SrcLine where
  /-- 07 R260: source line number. -/
  line : Nat
  /-- 07 R278: bytes of the line, or none for a read that failed. -/
  data : Option (List Byte)
  deriving DecidableEq, Repr

/-- One layer slot in the period that runs (07 R275–R284). -/
structure Layer where
  /-- 07 R275: top line of the window. -/
  top : Nat := 0
  /-- 07 R276: next source line to fetch. -/
  nextLine : Nat := 0
  /-- 07 R276, R283: upstream reads under way, by tag: a source line, or none for the buffer's tag. -/
  inFlight : List (Nat × Option Nat) := []
  /-- 07 R276: lines fetched and held. -/
  fetched : List SrcLine := []
  /-- 07 R278: lines to fetch again when the window next moves. -/
  refetch : List Nat := []
  /-- 07 R278: lines to fetch again now, the window having moved. -/
  due : List Nat := []
  /-- 07 R278: lines fetched again already. -/
  again : List Nat := []
  /-- 07 R283: a tag check of the period has been made. -/
  tagged : Bool := false
  /-- 07 R283: the tag check before the first line fetch of a host-memory layer has been issued. -/
  tagFirst : Bool := false
  /-- 07 R283: the tag check after the last line fetch of a host-memory layer has been issued. -/
  tagLast : Bool := false
  /-- 07 R288: ACTIVE of the period that runs. -/
  active : Bool := false
  /-- 07 R284: DROPPED of the period that runs. -/
  dropped : Bool := false
  /-- 07 R284: TORN of the period that runs. -/
  torn : Bool := false
  /-- 07 R279: URGENT. -/
  urgent : Bool := false
  deriving DecidableEq, Repr

/-- The composer of one surface, and its share of fabric segments 0–4 (chapters 07, 08). -/
structure Composer where
  /-- 07 R290: COMPOSING. -/
  composing : Bool := false
  /-- 07 R277: next output line. -/
  line : Nat := 0
  /-- 07 R290: WAIT_INTAKE. -/
  waitIntake : Bool := false
  /-- 07 R270: MESH_FAIL of the period that runs. -/
  meshFail : Bool := false
  /-- 07 R285: the period that runs is withheld. -/
  withheld : Bool := false
  /-- 08 R311: lines of the period that runs were discarded, so its frame is not complete. -/
  discard : Bool := false
  /-- 08 R303: instant of the completion signal of the period, in 1/64 ticks. -/
  doneAt : Option Nat := none
  /-- 08 R306: smallest stitch slack of the frame shown so far, in blocks. -/
  sslack : BitVec 9 := 0x100
  deriving DecidableEq, Repr

/-- Fabric-wide state (chapter 08). -/
structure Fabric where
  /-- 08 R309: M_THERM. -/
  mTherm : BitVec 4 := 0
  /-- 08 R307, R319: tokens in circulation in segments 0 to 4. -/
  tokens : Vector Nat 5 := Vector.replicate 5 16
  /-- 08 R311: the compose-side segments discard everything until the next FSTART. -/
  discard : Bool := false
  /-- 08 R296: surface whose line goes first while both next boundaries fall at the same instant. -/
  turn : Fin 2 := 0
  /-- 08 R315: KIND armed at each segment by FB_INJ. -/
  inj : Vector (BitVec 2) 8 := Vector.replicate 8 0
  /-- 08 R311: instants of the last two stalls of each segment, newest first, in 1/64 ticks. -/
  stalls : Vector (List Nat) 8 := Vector.replicate 8 []
  deriving DecidableEq, Repr

/-! ### Correction chain (chapter 09) -/

/-- One surface's side of the correction chain (chapter 09). -/
structure CorrSurf where
  /-- 09 R333: NOW of CR_FADE. -/
  fadeNow : BitVec 15 := 0
  /-- 09 R356: low 4 bits of the composition period count. -/
  fc : BitVec 4 := 0
  /-- 09 R359: TPAR of the period that runs. -/
  tpar : Bool := false
  /-- 09 R359: a clip has happened in the period that runs (LBLIM). -/
  clipped : Bool := false
  /-- 09 R359: DRSTALE. -/
  drstale : Bool := false
  /-- 09 R344: map entries the tile model has completed since the surface's last boundary, by tile. -/
  mapNew : Option (List (Nat × BitVec 12)) := none
  /-- 09 R331, 16 R582: completed entries whose parity fails, by tile, rising. -/
  mapNewBad : List Nat := []
  /-- 09 R345: sums of light codes per tile in the period that runs, by tile. -/
  sumsNew : List (Nat × Nat) := []
  /-- 09 R345: sums of light codes per tile of the frame on show, by tile. -/
  sumsShow : List (Nat × Nat) := []
  deriving DecidableEq, Repr

/-- The correction chain (chapter 09). -/
structure Corr where
  /-- 09 R326: curve entries that are not 0, by (set × 4 + table) × 1025 + index. -/
  curve : List (Nat × BitVec 20) := []
  /-- 09 R331: curve entries whose parity fails, rising. -/
  curveBad : List Nat := []
  /-- 09 R344: active derating entries that are not 0xFFF, by array × 4096 + tile of the array. -/
  map : List (Nat × BitVec 12) := []
  /-- 09 R331: derating entries whose parity fails, by tile, rising. -/
  mapBad : List Nat := []
  /-- 09 R328: TWERR of CR_TSTAT. -/
  twerr : Bool := false
  /-- 09 R353: gain K of each array. -/
  k : Vector (BitVec 13) 16 := Vector.replicate 16 4096
  /-- 09 R354: demand D of each array in the last period. -/
  dLast : Vector Nat 16 := Vector.replicate 16 0
  /-- 09 R354: demand counts of the period that runs, where not 0, by array × 256 + S_SEL × 64 + stitch. -/
  demand : List (Nat × Nat) := []
  /-- 09 R354: admitted counts of the period that runs, where not 0, by the same key. -/
  admitted : List (Nat × Nat) := []
  /-- 09 R338: window sums of the period that runs, by 3 × window + colour. -/
  wsumNew : Vector Nat 12 := Vector.replicate 12 0
  /-- 09 R339: window sums of the frame on show, by 3 × window + colour. -/
  wsum : Vector (BitVec 64) 12 := Vector.replicate 12 0
  /-- 09 R358: the two surfaces. -/
  surf : Vector CorrSurf 2 := Vector.replicate 2 {}
  deriving DecidableEq, Repr

/-! ### Shade engine (chapter 10) -/

/-- One object box, with its effective timestamp (10 R367, R369). -/
structure Box where
  /-- 10 R367: X0 in quarter pixels. -/
  x0 : Int
  /-- 10 R367: Y0 in quarter pixels. -/
  y0 : Int
  /-- 10 R367: X1 in quarter pixels. -/
  x1 : Int
  /-- 10 R367: Y1 in quarter pixels. -/
  y1 : Int
  /-- 10 R367: VX in 2^-14 pixel per µs. -/
  vx : Int
  /-- 10 R367: VY in 2^-14 pixel per µs. -/
  vy : Int
  /-- 10 R369: effective timestamp in µs, modulo 65,536. -/
  ts : BitVec 16
  /-- 10 R367: ATT. -/
  att : Nat
  /-- 10 R367: FEATHER. -/
  feather : Nat
  /-- 10 R367: EN. -/
  en : Bool
  deriving DecidableEq, Repr

/-- A list taken up (10 R367). -/
structure ObjList where
  /-- 10 R367: NBOX. -/
  nbox : BitVec 8
  /-- 10 R367: LSEQ. -/
  lseq : BitVec 16
  /-- 10 R367: LIFE. -/
  life : BitVec 8
  /-- 10 R367: the boxes. -/
  boxes : List Box
  deriving DecidableEq, Repr

/-- One surface's side of the Shade engine (chapter 10). -/
structure ShadeSurf where
  /-- 10 R370: ACTIVE. -/
  active : Option ObjList := none
  /-- 10 R370: bytes written into FILL since the last arrival, by offset, rising. -/
  fill : List Host.Cell := []
  /-- 10 R372: the arrived image whose take-up is in progress. -/
  taking : Option (List Host.Cell) := none
  /-- 10 R371: SH_NOW at the arrival of the list being taken up. -/
  takeNow : BitVec 32 := 0
  /-- 10 R373: a write of the burst in progress was discarded. -/
  overrun : Bool := false
  /-- 10 R379: the surface is stale. -/
  stale : Bool := false
  /-- 10 R381: a parity error stands in the ACTIVE buffer. -/
  parErr : Bool := false
  /-- 10 R381: the parity error has been found. -/
  parSeen : Bool := false
  /-- 10 R381, 16 R582: a parity error stands in the FILL buffer. -/
  fillBad : Bool := false
  /-- 10 R379: a frame has been shown with EN = 1. -/
  everEn : Bool := false
  /-- 10 R384: number of box set changes, which names the box set in effect. -/
  boxSet : Nat := 0
  /-- 10 R376: request line SH_DRQu. -/
  drq : Bool := false
  /-- 10 R388: the frame shown has FAST = 0 with EN = 1. -/
  slow : Bool := false
  deriving DecidableEq, Repr

/-- The Shade engine (chapter 10). -/
structure Shade where
  /-- 10 R370: the two surfaces. -/
  surf : Vector ShadeSurf 2 := Vector.replicate 2 {}
  /-- 10 R375: MBBUSY, with the surface the copy is for. -/
  mbBusy : Option (Fin 2) := none
  /-- 10 R374: MBERR. -/
  mbErr : Bool := false
  deriving DecidableEq, Repr

/-! ### Time base and commit (chapter 11) -/

/-- GLSTATE (11 R404, R429). -/
inductive GlState where
  | free | acquire | locked | holdover
  deriving DecidableEq, Repr

/-- The time base (chapter 11). -/
structure TimeBase where
  /-- 11 R429: TM_FCNT, boundaries since PORST_N release; boundary B_n makes it n + 1. -/
  fcnt : BitVec 64 := 0
  /-- 11 R396: instant of the last boundary B_n, in 1/64 ticks. -/
  bn : Nat := 0
  /-- 11 R396: P_n in 1/64 ticks. -/
  per : Nat := 0
  /-- 11 R397: P_(n+1) in 1/64 ticks. -/
  next : Nat := 0
  /-- 11 R404: GLSTATE. -/
  gl : GlState := .free
  /-- 11 R404: valid spacings counted, at most 4. -/
  acqn : Nat := 0
  /-- 11 R405: the last valid spacings in ticks, newest first, at most 4. -/
  spacings : List Nat := []
  /-- 11 R403: tick from which the spacing in progress is measured. -/
  edgeFrom : Option Nat := none
  /-- 11 R405: ticks of the last valid edges E, newest first, at most 4. -/
  edges : List Nat := []
  /-- 11 R405: P_ref in 1/64 ticks. -/
  pref : Nat := 0
  /-- 11 R405: consecutive boundaries with a phase error of at most 1 µs, at most 4. -/
  phaseRun : Nat := 0
  /-- 11 R405: e_n at the last B_n, in 1/64 ticks; 0 while not LOCKED. -/
  phErr : Int := 0
  /-- 11 R421: SLEWING. -/
  slewing : Bool := false
  /-- 11 R422: numbers of the time-base frames that the last two hard switches darken, newest first. -/
  darkAt : List Nat := []
  /-- 11 R407: GENLOCK_OUT is at its pulse level. -/
  gloPulse : Bool := false
  /-- 11 R399, R416: OFS_u × τ_u in force for each surface, in ticks. -/
  ofs : Vector Nat 2 := Vector.replicate 2 0
  /-- 11 R416: OFS_u × τ_u from the next boundary on, in ticks. -/
  ofsNext : Vector Nat 2 := Vector.replicate 2 0
  deriving DecidableEq, Repr

/-- STATE of TOP_CMT_STAT (11 R427). -/
inductive CommitState where
  | idle | armed | applying
  deriving DecidableEq, Repr

/-- The commit logic (chapter 11). -/
structure Commit where
  /-- 11 R427: STATE. -/
  st : CommitState := .idle
  /-- 11 R411: SMASK of the commit in progress. -/
  smask : BitVec 2 := 0
  /-- 11 R416: surfaces that have still to apply the accepted commit. -/
  toApply : BitVec 2 := 0
  /-- 11 R413: instant of the arming write, in 1/64 ticks. -/
  armedAt : Nat := 0
  /-- 11 R427: LAST. -/
  last : BitVec 2 := 0
  /-- 11 R427: CAUSE. -/
  cause : BitVec 4 := 0
  /-- 11 R427: PAGE. -/
  page : BitVec 8 := 0
  /-- 11 R427: TOP_CMT_CAUSES, bit c for cause code c. -/
  causes : BitVec 12 := 0
  /-- 11 R427: KEYERR. -/
  keyErr : Bool := false
  /-- 11 R427: ARMERR. -/
  armErr : Bool := false
  /-- 11 R427: SHWLOCK. -/
  shwLock : Bool := false
  /-- 11 R427: SEQ of TOP_CMT_SEQ. -/
  seq : BitVec 32 := 0
  /-- 11 R419: a commit has been accepted since reset. -/
  accepted : Bool := false
  /-- 11 R419: registers whose shadow copies software has written before the first accepted commit, rising. -/
  written : List Nat := []
  /-- 11 R417: surfaces whose CP_RETSEQ has still to take the new sequence number. -/
  toRetire : BitVec 2 := 0
  /-- 11 R413, 23 R747: shadow words at the arming, where not at reset. -/
  snap : RegFile := []
  /-- 11 R416: settings of the accepted commit that are still to become active: address, value, surfaces they belong to. -/
  chg : List (Nat × BitVec 32 × BitVec 2) := []
  /-- 11 R412: pages that the accepted commit has still to reach, with the surfaces of the settings there. -/
  reach : List (Nat × BitVec 2) := []
  deriving DecidableEq, Repr

/-! ### DMA engine (chapter 14) -/

/-- STATE of DMA_CHn_STAT (14 R521). -/
inductive DmaState where
  | idle | fetch | wait | move | wb | parked
  deriving DecidableEq, Repr

/-- OUTCOME of a descriptor (14 R511). -/
inductive DmaOut where
  | none | done | bad | aborted
  deriving DecidableEq, Repr

/-- The fields of a descriptor as fetched (14 R511). -/
structure Desc where
  /-- 14 R511: SRC. -/
  src : BitVec 64 := 0
  /-- 14 R511: DST. -/
  dst : BitVec 64 := 0
  /-- 14 R511: bytes 0x10 to 0x17: NEXT_SP, END, reserved, NEXT. -/
  next : BitVec 64 := 0
  /-- 14 R511: bytes 0x18 to 0x1B: LEN and reserved bits. -/
  len : BitVec 32 := 0
  /-- 14 R511: bytes 0x1C to 0x1F. -/
  ctl : BitVec 32 := 0
  deriving DecidableEq, Repr

/-- One DMA channel (chapter 14). -/
structure DmaCh where
  /-- 14 R521: STATE. -/
  st : DmaState := .idle
  /-- 14 R519: OWNER; true for Forester. -/
  owner : Bool := false
  /-- 14 R523: STOPPEND. -/
  stopPend : Bool := false
  /-- 14 R522: DOORPEND. -/
  doorPend : Bool := false
  /-- 14 R524: an accepted ABORT waits for the burst, fetch or write-back in progress. -/
  abortPend : Bool := false
  /-- 14 R527: LASTOUT. -/
  lastOut : DmaOut := .none
  /-- 14 R527: CAUSE of the last BAD outcome. -/
  cause : BitVec 4 := 0
  /-- 14 R516: FETCHERR. -/
  fetchErr : Bool := false
  /-- 14 R520: BUSYERR. -/
  busyErr : Bool := false
  /-- 14 R524: ABTERR. -/
  abtErr : Bool := false
  /-- 14 R519: CFGERR. -/
  cfgErr : Bool := false
  /-- 14 R510: REQOVF. -/
  reqOvf : Bool := false
  /-- 14 R510: SWPEND. -/
  swPend : BitVec 8 := 0
  /-- 14 R527: RESIDUE of the last outcome. -/
  residue : BitVec 24 := 0
  /-- 14 R527: DONECNT. -/
  doneCnt : BitVec 16 := 0
  /-- 14 R528: CUR. -/
  cur : BitVec 64 := 0
  /-- 14 R521: space of CUR; true for on-chip. -/
  curSp : Bool := false
  /-- 14 R511: the descriptor in progress. -/
  desc : Desc := {}
  /-- 14 R513: bytes of the descriptor moved by bursts that have ended. -/
  moved : Nat := 0
  /-- 14 R513: a burst has been granted and has not ended. -/
  burst : Bool := false
  /-- 14 R513: instant since which the channel is ready to start a burst, in 1/64 ticks. -/
  readyAt : Nat := 0
  /-- 14 R509: tick in which the end of a burst was last signalled to the line's source. -/
  signalAt : Option Nat := none
  /-- 14 R509: the request being answered has been taken from the line. -/
  taken : Bool := false
  /-- 14 R522: a parked channel's re-read of its descriptor is under way. -/
  reread : Bool := false
  /-- 06 R251, 18 R655: bytes read from an aperture for the burst in progress. -/
  buf : List (BitVec 8) := []
  /-- 14 R513: tag of the upstream read of the fetch or burst in progress. -/
  upTag : Option Nat := none
  deriving DecidableEq, Repr

/-- The DMA engine (chapter 14). -/
structure Dma where
  /-- 14 R507: the eight channels. -/
  ch : Vector DmaCh 8 := Vector.replicate 8 {}
  /-- 14 R513: channel granted last. -/
  lastGrant : Fin 8 := 7
  /-- 14 R508: LY_DRQ0 and LY_DRQ1. -/
  lyDrq : BitVec 2 := 0
  deriving DecidableEq, Repr

/-! ### Power and temperature (chapter 15) -/

/-- Supply monitors and droop detector (15 R530–R537). -/
structure Power where
  /-- 15 R534: droop detector active. -/
  droop : Bool := false
  /-- 15 R536: instant of the trip, in 1/64 ticks. -/
  droopAt : Nat := 0
  /-- 15 R534: last instant at which VDD_CORE was at or below 0.71 V while the detector was active, in 1/64 ticks. -/
  lowAt : Nat := 0
  /-- 15 R536: PWR_DROOPL raised for this droop. -/
  droopLong : Bool := false
  /-- 15 R537: UV. -/
  uv : Bool := false
  /-- 15 R532: MONBAD. -/
  monBad : BitVec 4 := 0
  /-- 15 R532: consecutive self-checks passed by a bad monitor. -/
  monPass : Vector Nat 4 := Vector.replicate 4 0
  /-- 15 R532: consecutive samples at full scale, at most 100. -/
  monFull : Vector Nat 4 := Vector.replicate 4 0
  /-- 15 R531: RAILERR. -/
  railErr : BitVec 7 := 0
  /-- 15 R531: consecutive samples outside limits, at most 2. -/
  railOut : Vector Nat 7 := Vector.replicate 7 0
  /-- 15 R531: consecutive samples within limits, at most 100. -/
  railIn : Vector Nat 7 := Vector.replicate 7 0
  /-- 15 R537: consecutive VDD_CORE samples above 0.69 V, at most 2. -/
  uvIn : Nat := 0
  /-- 15 R533: sum over the samples of the step of millivolts × current units, for each monitored rail. -/
  accP : Vector Nat 4 := Vector.replicate 4 0
  /-- 15 R554: sum over the samples of the step of millivolts. -/
  accV : Vector Nat 7 := Vector.replicate 7 0
  /-- 15 R554: sum over the samples of the step of current units. -/
  accI : Vector Nat 4 := Vector.replicate 4 0
  /-- 15 R533: samples of the step so far. -/
  samples : Nat := 0
  /-- 15 R554: FB_CANARY events of the millisecond in progress. -/
  canNow : Nat := 0
  /-- 15 R554: FB_CANARY events of the millisecond before. -/
  canPrev : Nat := 0
  /-- 15 R554: number of the millisecond since PORST_N release that `canNow` counts. -/
  canMs : Nat := 0
  /-- 15 R537: VDD_CORE holds the core in reset. -/
  coreReset : Bool := false
  deriving DecidableEq, Repr

/-- The die model and its states (15 R538–R547). Temperatures are in °C × 2^32. -/
structure Thermal where
  /-- 15 R538: θ_D. -/
  thD : Int := 0
  /-- 15 R538: θ_P. -/
  thP : Int := 0
  /-- 15 R538: θ_B. -/
  thB : Int := 0
  /-- 15 R538: Tj of the last step in 1/16 °C. -/
  tj : Int := 0
  /-- 15 R539: THM_TREF was written within the last 1 s. -/
  trefFresh : Bool := false
  /-- 15 R539: REFDEF. -/
  refDef : Bool := true
  /-- 15 R539: T_REFU of the last step in 1/16 °C. -/
  trefu : Int := 0
  /-- 15 R542: dwell of WARN in model steps. -/
  dwellW : Nat := 0
  /-- 15 R542: dwell of THROT in model steps. -/
  dwellT : Nat := 0
  /-- 15 R542: WARN active. -/
  warn : Bool := false
  /-- 15 R542: THROT active. -/
  throt : Bool := false
  /-- 15 R542: SHUT active. -/
  shut : Bool := false
  /-- 15 R545: WINDOW, the orderly window of a thermal shutdown is open. -/
  window : Bool := false
  /-- 15 R545, 20 R708: the window has ended, and Forester, intake, compose side and DMA grants are stopped. -/
  stopped : Bool := false
  /-- 15 R546: instant the orderly window opened, in 1/64 ticks. -/
  windowAt : Nat := 0
  deriving DecidableEq, Repr

/-- The tile model (15 R549–R551). -/
structure TileModel where
  /-- 15 R550: dt of each tile in 1/16 °C, where it is not 0, by tile. -/
  dt : List (Nat × Int) := []
  /-- 15 R550: tt of each tile at its last step, in 1/16 °C, where it is not 0, by tile. -/
  tt : List (Nat × Int) := []
  /-- 15 R550: u of each tile at its last step, where it is not 0, by tile. -/
  u : List (Nat × Int) := []
  /-- 15 R551: tarr of each array in 1/16 °C. -/
  tarr : Vector Int 16 := Vector.replicate 16 0
  /-- 15 R551: DEF of each array. -/
  atempDef : BitVec 16 := 0
  /-- 15 R551: a status response has been accepted within the last 1 ms. -/
  fresh : BitVec 16 := 0
  deriving DecidableEq, Repr

/-! ### Fault collector (chapter 16) -/

/-- The episode record (16 R566). -/
structure Episode where
  /-- 16 R565: an episode is open. -/
  isOpen : Bool := false
  /-- 16 R566: EPCLASS. -/
  cls : Nat := 0
  /-- 16 R566: SRC of FC_FIRST. -/
  first : Nat := 0
  /-- 16 R569: SIMUL. -/
  simul : Bool := false
  /-- 16 R581: FORCED of FC_FIRST. -/
  firstForced : Bool := false
  /-- 16 R581: EPFORCED. -/
  forced : Bool := false
  /-- 16 R566: FC_LAST. -/
  last : Nat := 0
  /-- 16 R566: ARRIVALS. -/
  arrivals : BitVec 16 := 0
  /-- 16 R567: ESCAL. -/
  escal : BitVec 8 := 0
  /-- 16 R566: FC_EPTIME. -/
  time : BitVec 32 := 0
  /-- 16 R566: FC_EPFRAME. -/
  frame : BitVec 16 := 0
  /-- 16 R566: FC_EPSEQ. -/
  seq : BitVec 32 := 0
  /-- 16 R566: member bits. -/
  mem : BitVec 256 := 0
  /-- 16 R568: instant of the last arrival of class C1 or higher, in 1/64 ticks. -/
  lastAt : Nat := 0
  /-- 16 R568: FIRST of FC_PREV. -/
  prevFirst : BitVec 8 := 0
  /-- 16 R568: CLASS of FC_PREV. -/
  prevCls : BitVec 3 := 0
  /-- 16 R568: FORCED of FC_PREV. -/
  prevForced : Bool := false
  /-- 16 R568: ARRIVALS of FC_PREV. -/
  prevArr : BitVec 16 := 0
  /-- 16 R568: FC_PREVDUR. -/
  prevDur : BitVec 32 := 0
  deriving DecidableEq, Repr

/-- Fault injection (16 R579–R582). -/
structure Injection where
  /-- 16 R579: injection is unlocked. -/
  unlocked : Bool := false
  /-- 16 R586: BY; true for Forester. -/
  by_ : Bool := false
  /-- 16 R579: the requester and instant of an accepted first key. -/
  firstKey : Option (Bool × Nat) := none
  /-- 16 R580: instant of the unlocking or of the last accepted force or check-bit inversion, in 1/64 ticks. -/
  usedAt : Nat := 0
  /-- 16 R586: INJERR. -/
  injErr : Bool := false
  /-- 16 R582: armed TARGET; 0 for none. -/
  target : BitVec 4 := 0
  /-- 16 R582: armed MODE. -/
  mode : BitVec 2 := 0
  /-- 16 R582: armed ADDR. -/
  addr : BitVec 4 := 0
  /-- 16 R582: REMAIN. -/
  remain : BitVec 4 := 0
  deriving DecidableEq, Repr

/-- The fault collector (chapter 16). -/
structure Faults where
  /-- 16 R561: arrivals raised and not yet registered by the collector, oldest first. -/
  raised : List (Fin 171) := []
  /-- 16 R581: forced arrivals not yet registered by the collector, oldest first. -/
  forcedQ : List (Fin 171) := []
  /-- 16 R561: pending bits. -/
  pend : BitVec 256 := 0
  /-- 16 R561: counts of the sources whose count is not 0, by source, rising. -/
  count : List (Nat × BitVec 32) := []
  /-- 16 R562: sources whose effective class is above the base class, with the effective class, by source, rising. -/
  clsUp : List (Nat × Nat) := []
  /-- 16 R581: last arrival was forced, by source. -/
  lastForced : BitVec 256 := 0
  /-- 16 R566: the episode record. -/
  ep : Episode := {}
  /-- 16 R579: fault injection. -/
  inj : Injection := {}
  /-- 16 R570: heartbeat level. -/
  beat : Bool := false
  /-- 17 R596: the reaction table, RX_SEL in bits 0-7 and RX_RAISED in bit 8; ones select Safe Light Off. -/
  rx : BitVec 9 := 0x1FF
  deriving DecidableEq, Repr

/-! ### Glade (chapter 17) -/

/-- STATE of GL_STAT (17 R603). -/
inductive GladeState where
  | load | run | fbeam | slo | lockout
  deriving DecidableEq, Repr

/-- One safety input pair (17 R598–R601). -/
structure SinPair where
  /-- 17 R599: RAW level of channel 1. -/
  raw1 : Bool := false
  /-- 17 R599: RAW level of channel 2. -/
  raw2 : Bool := false
  /-- 17 R599: cycles for which channel 1's samples have been equal, at most 80. -/
  run1 : Nat := 0
  /-- 17 R599: cycles for which channel 2's samples have been equal, at most 80. -/
  run2 : Nat := 0
  /-- 17 R599: filtered level of channel 1. -/
  filt1 : Bool := true
  /-- 17 R599: filtered level of channel 2. -/
  filt2 : Bool := true
  /-- 17 R601: cycles since the levels became different, while the timer runs. -/
  timer : Option Nat := none
  /-- 17 R634: TICKS. -/
  ticks : BitVec 10 := 0
  /-- 17 R600: the demand on the filtered levels of the last cycle. -/
  dem0 : Bool := false
  /-- 17 R600: the demand on the filtered levels of the cycle before the last. -/
  dem1 : Bool := false
  /-- 17 R602: demand changes that wait for their instant under COMPAT, oldest first, in 1/64 ticks. -/
  due : List (Nat × Bool) := []
  /-- 17 R600, R602: the demand in effect at the outputs. -/
  demand : Bool := false
  deriving DecidableEq, Repr

/-- The safety serial port (17 R626–R631). -/
structure Sspi where
  /-- 17 R628: SEQ last accepted; none before the first frame. -/
  lastSeq : Option (BitVec 8) := none
  /-- 17 R628: instant at which the previous frame ended, in 1/64 ticks. -/
  lastEnd : Option Nat := none
  /-- 17 R627: response that the next frame shifts out, ten bytes. -/
  response : List Byte := []
  /-- 17 R628: an accepted request that the next Glade cycle executes. -/
  request : Option SspiReq := none
  /-- 17 R634: ACCEPTED. -/
  accepted : BitVec 16 := 0
  /-- 17 R634: REJECTED. -/
  rejected : BitVec 8 := 0
  /-- 17 R630: the watchdog runs. -/
  wdRun : Bool := false
  /-- 17 R634: WDEXP. -/
  wdExp : Bool := false
  /-- 17 R634: FN of GL_DEMAND. -/
  fn : BitVec 2 := 0
  /-- 17 R631: Glade injection is unlocked. -/
  inj : Bool := false
  /-- 17 R631: the last accepted frame was INJKEY 0x1F17. -/
  key1 : Bool := false
  deriving DecidableEq, Repr

/-- The Glade safety partition (chapter 17). -/
structure Glade where
  /-- 17 R588: VDD_GLD or PORST_N holds Glade in reset. -/
  inReset : Bool := true
  /-- 17 R603: STATE. -/
  st : GladeState := .load
  /-- 17 R606: LOAD has ended. -/
  loadEnded : Bool := false
  /-- 17 R606: REACTED. -/
  reacted : Bool := false
  /-- 17 R634: CAUSE. -/
  cause : BitVec 4 := 0
  /-- 17 R588: instant of Glade reset release, in 1/64 ticks. -/
  resetAt : Nat := 0
  /-- 17 R634: LOAD_US. -/
  loadUs : BitVec 20 := 0
  /-- 17 R617: GPRSRC. -/
  gprSrc : BitVec 2 := 0
  /-- 17 R617: the GPR in force, 512 bytes; empty when none is. -/
  gpr : List Byte := []
  /-- 17 R620: fallback store. -/
  fb : Store := {}
  /-- 17 R620: bytes of pattern in the fallback store. -/
  fbLen : Nat := 0
  /-- 17 R624: 16-bit words of the fallback store whose parity fails, rising. -/
  fbBad : List Nat := []
  /-- 17 R620: FB_OK. -/
  fbOk : Bool := false
  /-- 17 R620: FBERR. -/
  fbErr : BitVec 2 := 0
  /-- 17 R605: GL_RAISED. -/
  raised : BitVec 12 := 0
  /-- 17 R612, R629: the GLADE-page sources whose condition holds now. -/
  cond : BitVec 12 := 0
  /-- 17 R605: class lines L1–L4 in bits 0–3 and LS in bit 4, as seen at Glade's inputs. -/
  lines : BitVec 5 := 0
  /-- 16 R573: lines whose two levels have been equal for 4 µs. -/
  lineBad : BitVec 5 := 0
  /-- 17 R612: lines taken as false since an accepted press, until each is seen false. -/
  masked : BitVec 5 := 0
  /-- 17 R598: pair A. -/
  pairA : SinPair := {}
  /-- 17 R598: pair B. -/
  pairB : SinPair := {}
  /-- 17 R611: SRST_N sampled low. -/
  srstRaw : Bool := false
  /-- 17 R611: consecutive equal samples of SRST_N, at most 8. -/
  srstRun : Nat := 0
  /-- 17 R634: PRESSED. -/
  pressed : Bool := false
  /-- 17 R611: n of the current or last press. -/
  press : Nat := 0
  /-- 17 R613: STUCK. -/
  stuck : Bool := false
  /-- 17 R634: RETOK. -/
  retOk : Bool := false
  /-- 17 R607: an SSPI RESUME has been accepted since the state was entered. -/
  resumed : Bool := false
  /-- 17 R626: the safety serial port. -/
  sspi : Sspi := {}
  /-- 17 R634: GL_CNT_SLO. -/
  cntSlo : BitVec 32 := 0
  /-- 17 R634: GL_CNT_FB. -/
  cntFb : BitVec 32 := 0
  /-- 17 R634: GL_CNT_LOCK. -/
  cntLock : BitVec 32 := 0
  /-- 17 R634: GL_CNT_SRST. -/
  cntSrst : BitVec 32 := 0
  /-- 17 R603: AEN_DRV. -/
  aenDrv : BitVec 4 := 0
  /-- 17 R593: AEN_RB. -/
  aenRb : BitVec 4 := 0
  /-- 17 R593: AEN pads whose level has differed from the driven one for 2 µs and has not followed it since. -/
  aenStuck : BitVec 4 := 0
  /-- 17 R593: the same for ERR_P in bit 0 and ERR_N in bit 1. -/
  errStuck : BitVec 2 := 0
  /-- 17 R593: ERR_RB, ERR_P in bit 0 and ERR_N in bit 1. -/
  errRb : BitVec 2 := 2
  /-- 16 R574: the ERR pair is in the Fault state. -/
  errFault : Bool := true
  /-- 16 R576: the 1 ms minimum of the Fault state has not ended. -/
  errHold : Bool := false
  /-- 17 R590: consecutive bad RC windows, at most 2. -/
  rcBad : Nat := 0
  /-- 17 R634: XCNT. -/
  xcnt : BitVec 11 := 0
  /-- 17 R591: consecutive bad XTAL_SYS windows, at most 2. -/
  sysBad : Nat := 0
  /-- 17 R634: SCNT. -/
  scnt : BitVec 15 := 0
  /-- 17 R590: the RC checker holds the pins until Glade reset. -/
  rcHold : Bool := false
  /-- 18 R659: instant of the last service or of the opening of the boot window, in 1/64 ticks. -/
  wdAt : Nat := 0
  /-- 18 R665: BOOTWIN. -/
  wdBoot : Bool := true
  /-- 18 R660: the watchdog is stopped. -/
  wdStopped : Bool := false
  deriving DecidableEq, Repr

/-! ### Forester (chapter 18) -/

/-- What Forester's processor is doing (18 R640–R642). -/
inductive ForState where
  /-- Held in reset. -/
  | reset
  /-- In the boot ROM. -/
  | rom
  /-- Firmware runs. -/
  | firmware
  /-- In the ROM's recovery set. -/
  | recovery
  deriving DecidableEq, Repr

/-- One transfer slot (18 R656–R658), but for its configuration registers. -/
structure SenSlot where
  /-- 18 R665: VALUE. -/
  value : BitVec 32 := 0
  /-- 18 R665: COUNT. -/
  count : BitVec 16 := 0
  /-- 18 R665: ERR. -/
  err : Bool := false
  /-- 18 R657: due and waiting for its bus. -/
  waiting : Bool := false
  /-- 18 R658: instant of the last good transfer, in 1/64 ticks. -/
  goodAt : Option Nat := none
  deriving DecidableEq, Repr

/-- The SPI NOR master (18 R644–R646). -/
structure SpiNor where
  /-- 18 R665: the command in progress, as FP_SPI_CMD and FP_SPI_ADDR gave it. -/
  cmd : Option (BitVec 32 × BitVec 24) := none
  /-- 18 R665: DONE. -/
  done : Bool := false
  /-- 18 R665: ERR. -/
  err : Bool := false
  /-- 18 R665: REFUSED. -/
  refused : Bool := false
  /-- 18 R665: LOADWAIT. -/
  loadWait : Bool := false
  /-- 15 R546: the last command that has ended. -/
  last : Option (BitVec 32 × BitVec 24) := none
  /-- 18 R650: a journal record is being written. -/
  journal : Bool := false
  /-- 15 R546: the orderly window has ended; the command on the bus is finished and none is issued. -/
  closing : Bool := false
  /-- 15 R546: the flash's status is polled for the end of a program or erase. -/
  polling : Bool := false
  deriving DecidableEq, Repr

/-! ### The recovery ROM (18 R642, R650, R663, R664) -/

/-- A flash command of a long operation. -/
inductive RomStep where
  /-- A 4 KiB sector is erased. -/
  | erase (a : Nat)
  /-- Bytes of one page are programmed. -/
  | program (a : Nat) (bytes : List Byte)
  deriving DecidableEq, Repr

/-- A long operation. -/
inductive RomOp where
  /-- None. -/
  | idle
  /-- UPD_BEGIN: the slot is erased. -/
  | erase
  /-- UPD_WRITE: so many bytes are written. -/
  | write (n : Nat)
  /-- UPD_COMMIT: the slot, B when true, is verified. -/
  | verify (slotB : Bool)
  /-- UPD_COMMIT: a record that names the slot is written to journal slot A, or B when true. -/
  | journal (slotB inB : Bool) (bytes : List Byte)
  deriving DecidableEq, Repr

/-- What UPD_STATUS reports. -/
inductive RomStage where
  | idle | erasing | writing | verified
  deriving DecidableEq, Repr

/-- What the recovery ROM holds. -/
structure Rom where
  /-- 18 R649: the newest valid journal record. -/
  record : Option (List Byte) := none
  /-- 18 R650: that record stands in journal slot B. -/
  inB : Bool := false
  /-- 18 R664: the slot UPD_BEGIN named, B when true. -/
  target : Option Bool := none
  /-- 18 R663: stage of UPD_STATUS. -/
  stage : RomStage := .idle
  /-- 18 R663: bytes written. -/
  written : Nat := 0
  /-- 18 R664: the long operation under way. -/
  op : RomOp := .idle
  /-- 18 R664: its flash commands still to end, the one on the bus first. -/
  steps : List RomStep := []
  /-- 18 R662: SEQ and CMD of the request that the operation answers at its end. -/
  req : Option (BitVec 8 × BitVec 16) := none
  deriving DecidableEq, Repr

/-- The event log (18 R651–R655). -/
structure Log where
  /-- 18 R651: records of the ring that have been written, by index, rising: eight 32-bit words each. -/
  ring : List (Nat × List (BitVec 32)) := []
  /-- 18 R654: WR. -/
  wr : BitVec 10 := 0
  /-- 18 R654: RD. -/
  rd : BitVec 10 := 0
  /-- 18 R654: the ring is full. -/
  full : Bool := false
  /-- 18 R651: LSEQ of the next record. -/
  lseq : BitVec 32 := 0
  /-- 18 R665: LOST. -/
  lost : BitVec 32 := 0
  /-- 19 R688: seal of the record last sealed, eight bytes. -/
  prevSeal : List Byte := List.replicate 8 0
  deriving DecidableEq, Repr

/-- Forester (chapter 18) but for its plain registers. -/
structure Forester where
  /-- 18 R640: what the processor is doing. -/
  st : ForState := .reset
  /-- 18 R640: CAUSE of FP_RSTCAUSE. -/
  cause : BitVec 3 := 1
  /-- 18 R641: TRIED_A. -/
  triedA : Bool := false
  /-- 18 R641: TRIED_B. -/
  triedB : Bool := false
  /-- 18 R665: FP_IRQ bits 0 to 5. -/
  irq : BitVec 6 := 0
  /-- 18 R659: the last FP_WDOG write was the first key. -/
  wdKey : Bool := false
  /-- 18 R662: PENDING. -/
  mbPending : Bool := false
  /-- 18 R662: DISCARD. -/
  mbDiscard : Bool := false
  /-- 18 R665: SEQ of FP_MB_STAT. -/
  mbSeq : BitVec 8 := 0
  /-- 18 R665: LEN of FP_MB_STAT. -/
  mbLen : BitVec 5 := 0
  /-- 18 R638: TCM. -/
  tcm : Store := {}
  /-- 18 R656: the transfer slots. -/
  slots : Vector SenSlot 8 := Vector.replicate 8 {}
  /-- 18 R657: slot whose transfer is under way on each I2C master. -/
  bus : Vector (Option (Fin 8)) 2 := Vector.replicate 2 none
  /-- 18 R645: the SPI NOR master. -/
  spi : SpiNor := {}
  /-- 18 R645: UART transmit FIFO, oldest first. -/
  uartTx : List Byte := []
  /-- 18 R645: UART receive FIFO, oldest first. -/
  uartRx : List Byte := []
  /-- 18 R665: RXOVF. -/
  rxOvf : Bool := false
  /-- 18 R639: last exception taken, by its RISC-V mcause code. -/
  mcause : BitVec 32 := 0
  /-- 19 R684: a debugger holds Forester halted. -/
  halted : Bool := false
  /-- 18 R642: the recovery ROM. -/
  rom : Rom := {}
  deriving DecidableEq, Repr

/-! ### Security functions (chapter 19) -/

/-- A SEC command in progress (19 R674). -/
structure SecJob where
  /-- 19 R674: OP. -/
  op : BitVec 4
  /-- 19 R690: ARG. -/
  arg : Bool
  /-- 19 R674, R681: OTP word index, or the word to program for ARB_RAISE. -/
  addr : Nat
  /-- 19 R674, R681: data to program, or the counter value. -/
  v : BitVec 64
  deriving DecidableEq, Repr

/-- The security functions (chapter 19). -/
structure Sec where
  /-- 19 R669: programmed bytes of the OTP key store, the others being 0. -/
  otp : List Host.Cell := []
  /-- 19 R671: 64-bit words whose check bits do not match, rising. -/
  otpBad : List Nat := []
  /-- 19 R678: SELFTEST_OK. -/
  selfTest : Bool := false
  /-- 19 R685: DBG_OPEN. -/
  dbgOpen : Bool := false
  /-- 19 R685: DBG_LEVEL. -/
  dbgLevel : BitVec 2 := 0
  /-- 19 R690: IMGKEY as SEC_STAT reads it. -/
  imgKey : BitVec 3 := 0
  /-- 19 R690: ENC. -/
  enc : Bool := false
  /-- 19 R674: ROMPHASE. -/
  romPhase : Bool := true
  /-- 19 R677: SEC_IMGCNT. -/
  imgCnt : BitVec 64 := 0
  /-- 19 R674: the command in progress, BUSY. -/
  job : Option SecJob := none
  /-- 19 R690: DONE. -/
  done : Bool := false
  /-- 19 R690: ERR. -/
  err : Bool := false
  /-- 19 R674: ECODE. -/
  ecode : BitVec 4 := 0
  /-- 19 R683: nonce of the last challenge, 32 bytes. -/
  nonce : List Byte := List.replicate 32 0
  /-- 19 R683: instant of the challenge while it is valid, in 1/64 ticks. -/
  chalAt : Option Nat := none
  /-- 19 R685: instant of the last failed response, in 1/64 ticks. -/
  failAt : Option Nat := none
  /-- 19 R690: RES_A. -/
  resA : BitVec 4 := 0
  /-- 19 R690: RES_B. -/
  resB : BitVec 4 := 0
  deriving DecidableEq, Repr

/-! ### Start-up (chapter 20) -/

/-- PHASE (20 R701). -/
inductive Phase where
  | startUp | service | test | recovery
  deriving DecidableEq, Repr

/-- Reset, phases and commanded shutdown (chapter 20, and pins of chapter 22). -/
structure Top where
  /-- 20 R694: PORST_N is low. -/
  porst : Bool := true
  /-- 22 R726: TEST_EN as sampled at PORST_N release. -/
  testEn : Bool := false
  /-- 03 R77: store initialisation has ended. -/
  storesOk : Bool := false
  /-- 20 R701: PHASE. -/
  phase : Phase := .startUp
  /-- 20 R711: PHERR. -/
  phErr : Bool := false
  /-- 20 R711: HOSTRST. -/
  hostRst : Bool := false
  /-- 20 R711: CMDSD. -/
  cmdSd : Bool := false
  /-- 20 R711: SDERR. -/
  sdErr : Bool := false
  /-- 20 R711: POR. -/
  por : Bool := false
  /-- 20 R711: COREUV. -/
  coreUv : Bool := false
  /-- 20 R711: HOSTRSTS. -/
  hostRsts : BitVec 8 := 0
  /-- 20 R695: instant of the last core start, in 1/64 ticks. -/
  startAt : Nat := 0
  /-- 20 R695, R696: instant from which the core takes LOAD as ended, in 1/64 ticks. -/
  loadAt : Option Nat := none
  deriving DecidableEq, Repr

/-! ### What leaves the block -/

/-- What the pins of a lane in OFF or LOOP carry (05 R219, R220). -/
inductive LoopDrive where
  /-- Electrical idle. -/
  | idle
  /-- The lane's own serial output: encoded and scrambled blocks. -/
  | blocks
  /-- An uncoded pattern: 1 PRBS7, 2 PRBS15, 3 PRBS31, from what the generator holds on. -/
  | pattern (k : BitVec 2) (seed : BitVec 31)
  /-- The bits received on an intake lane, on its recovered clock. -/
  | intake (l : Fin 4)
  deriving DecidableEq, Repr

/-- What the block sends, drives or answers, one constructor for each kind of thing that leaves it. -/
inductive Output where
  /-- 04 R133: a control row of a skein, as the block each lane carries. -/
  | row (k : Fin 4) (blk : Block)
  /-- 03 R105: the packets of a plane load, with the lanes that carry it and the arrays whose packets carry an inverted CRC-32. -/
  | plane (k : Fin 4) (lanes : BitVec 8) (p : Plane) (bad : BitVec 16)
  /-- 05 R188, R189: 66-bit blocks as a lane sends them, oldest first: bit 0 of each is sent first, H[1:0] in bits 1 and 0 and
  the scrambled payload above. -/
  | wire (l : Fin 8) (bs : List (BitVec 66))
  /-- 05 R219, R220: what the pins of a lane in OFF or LOOP carry from now on. -/
  | pins (l : Fin 8) (d : LoopDrive)
  /-- 05 R202: a training burst on a lane. -/
  | burst (l : Fin 8) (b : Burst)
  /-- 05 R192: an ordered set on a lane, sent `n` times. -/
  | orderedSet (l : Fin 8) (blk : Block) (n : Nat)
  /-- 13 R490: an MSI-X message, as the posted write it is. -/
  | msix (v : Fin 32) (addr : Nat) (data : Word)
  /-- 13 R497: data of a read, to its requester. -/
  | data (req : Req) (bytes : List Byte)
  /-- 03 R83, 09 R350: a completion with poisoned data, to its requester. -/
  | poisoned (req : Req)
  /-- 13 R497: an error access, to its requester. -/
  | errorAccess (req : Req)
  /-- 13 R468: bytes on the quad-SPI port. -/
  | qspi (bytes : List Byte)
  /-- 13 R464: an upstream read. -/
  | upRead (tag addr len : Nat)
  /-- 13 R464: an upstream write. -/
  | upWrite (addr : Nat) (bytes : List Byte)
  /-- 17 R627: a response on the safety serial port. -/
  | sspi (bytes : List Byte)
  /-- 17 R616: a command of Glade's flash reader: its byte, address and data length. -/
  | flashRead (cmd : BitVec 8) (addr len : Nat)
  /-- 18 R644: a command to the SPI NOR flash. -/
  | nor (cmd : Word) (addr : BitVec 24) (bytes : List Byte)
  /-- 18 R656: an I2C transfer starts. -/
  | i2c (bus : Fin 2) (slot : Fin 8)
  /-- 18 R645: a byte leaves on the UART. -/
  | uart (b : Byte)
  /-- 19 R683: bits shifted out on the JTAG port. -/
  | jtag (bytes : List Byte)
  /-- 19 R684: boundary-scan cells driven. -/
  | extest (cells : List Bool)
  deriving DecidableEq, Repr

/-! ### Samples (00 R8, 12 R437–R439) -/

/-- What the commands of one sample have done that others of the same sample turn on (12 R437). -/
structure Sample where
  /-- The 2.5 ns tick of the sample. -/
  at_ : Nat := 0
  /-- 00 R8: the bits that events have set and that writing 1 clears, those set before included, by register. -/
  hit : RegFile := []
  /-- 13 R483: PG_OWNER and PG_CTRL as they were before the sample, where a write has changed them in it. -/
  was : List (Nat × Word) := []
  /-- 12 R438: commands still in the queue whose event a boundary, a cut-off or a start of the sample has taken already. -/
  ahead : List Instr := []
  deriving DecidableEq, Repr

/-! ### The whole block -/

/-- The state of the block. -/
structure State where
  /-- The MODEL's own: instant of the last command, in 1/64 ticks since PORST_N release. -/
  now : Nat := 0
  /-- The MODEL's own: number of free values read so far. -/
  free : Nat := 0
  /-- 12 R437: what the commands of this sample have done. -/
  sample : Sample := {}
  /-- 13 R474: register words at other values than reset. -/
  regs : RegFile := []
  /-- 11 R424: live counts of the counters that a boundary captures, by the address they are captured at. -/
  live : RegFile := []
  /-- 11 R425: holding register of the 64-bit read of each requester: the host, Forester, DMA channels 0 to 7. -/
  hi : Vector Word 10 := Vector.replicate 10 0
  /-- 20 R694: reset, phases and commanded shutdown. -/
  top : Top := {}
  /-- 12 R432: the clock logic. -/
  clk : Clk := {}
  /-- 13 R458: the host port. -/
  host : HostPort := {}
  /-- 03 R72: frame store bank 0. -/
  bank0 : Store := {}
  /-- 03 R72: frame store bank 1. -/
  bank1 : Store := {}
  /-- 03 R92: emitter health map. -/
  health : Store := {}
  /-- 03 R95: 2.5 ns tick in which health bits were last set, and the emitters set in it, rising. -/
  healthSetAt : Nat := 0
  /-- 03 R95: emitters whose health bits were set in that tick, rising. -/
  healthSet : List Nat := []
  /-- 03 R92: uncorrectable words of the health map already raised, until they are written again, rising. -/
  healthSeen : List Nat := []
  /-- 03 R94: queue of health clears, oldest first. -/
  clearQ : List Nat := []
  /-- 07 R262: layer store. -/
  layers : Store := {}
  /-- 09 R346: calibration store. -/
  calib : Store := {}
  /-- 02 R48: the two surfaces. -/
  surf : Vector Surface 2 := Vector.replicate 2 {}
  /-- 04 R134: the four skeins. -/
  skein : Vector SkeinTx 4 := Vector.replicate 4 {}
  /-- 04 R161: the sixteen arrays. -/
  arr : Vector ArrayLink 16 := Vector.replicate 16 {}
  /-- 04 R161: the two return lanes. -/
  ret : Vector ReturnLane 2 := Vector.replicate 2 {}
  /-- 04 R183: the array register request. -/
  areq : ArrayReq := {}
  /-- 05 R211: the eight output lanes. -/
  lane : Vector OutLane 8 := Vector.replicate 8 {}
  /-- 04 R127, 05 R188: what the output lanes carry. -/
  stream : LaneStream := {}
  /-- 06 R226: the intake. -/
  intake : Intake := {}
  /-- 07 R275: the sixteen layer slots. -/
  layer : Vector Layer 16 := Vector.replicate 16 {}
  /-- 07 R290: the two composers. -/
  comp : Vector Composer 2 := Vector.replicate 2 {}
  /-- 08 R309: the fabric. -/
  fab : Fabric := {}
  /-- 09 R324: the correction chain. -/
  corr : Corr := {}
  /-- 10 R370: the Shade engine. -/
  shade : Shade := {}
  /-- 11 R396: the time base. -/
  tb : TimeBase := {}
  /-- 11 R411: the commit logic. -/
  cmt : Commit := {}
  /-- 14 R507: the DMA engine. -/
  dma : Dma := {}
  /-- 15 R530: supplies. -/
  pwr : Power := {}
  /-- 15 R538: die temperature. -/
  thm : Thermal := {}
  /-- 15 R549: tile model. -/
  tile : TileModel := {}
  /-- 16 R561: fault collector. -/
  flt : Faults := {}
  /-- 17 R587: Glade. -/
  glade : Glade := {}
  /-- 18 R636: Forester. -/
  fst : Forester := {}
  /-- 18 R651: event log. -/
  log : Log := {}
  /-- 19 R667: security functions. -/
  sec : Sec := {}
  /-- The MODEL's own: what has left the block since PORST_N release, newest first. -/
  out : List Output := []
  /-- The MODEL's own: commands waiting, oldest first. -/
  pending : List Instr := []
  deriving DecidableEq, Repr

/-- The block right after reset: PORST_N low, every field at its reset value. -/
def State.reset : State := {}

/-- Reasons a command stops the machine. No command of the table stops it: 21 R712, R713 end every wait. -/
inductive Fault where
  /-- Never raised. Safe. -/
  | none
  deriving DecidableEq, Repr

/-- Reasons a command is refused. -/
inductive Refusal where
  /-- Raised by an arm of `exec` whose command has no meaning yet. Safe. -/
  | notModelled (mnemonic : String)
  deriving DecidableEq, Repr

end Sys2Proof.Machine
end

