-- ==== Sys2Proof/Machine/Ops.lean ====
section
/-! DEFINITION. The operations every family shares: the instant of a command, which parts are out of reset, register
words, counters, interrupt bits, fault sources, byte stores, ownership and free values. -/

namespace Sys2Proof.Machine

open Sys2Proof

/-! ### Pages (13 R474) -/

/-- Runs of pages of one block: first page, pages, block code, clock domain, PG_OWNER at reset. -/
def pageRuns : List (Nat × Nat × Nat × Nat × Nat) := [
  (0x00, 1, 0x0001, 4, 3), (0x01, 1, 0x0002, 4, 3), (0x02, 1, 0x0003, 1, 3), (0x04, 4, 0x0010, 2, 3),
  (0x08, 1, 0x0020, 1, 3), (0x09, 1, 0x0021, 0, 3), (0x0A, 1, 0x0022, 1, 3), (0x10, 16, 0x0030, 1, 3),
  (0x20, 2, 0x0031, 1, 3), (0x24, 2, 0x0032, 1, 3), (0x28, 1, 0x0033, 4, 3), (0x2C, 1, 0x0034, 4, 3),
  (0x30, 8, 0x0040, 3, 3), (0x38, 1, 0x0041, 3, 3), (0x3C, 1, 0x0042, 3, 3), (0x3E, 1, 0x0043, 3, 3),
  (0x40, 1, 0x0050, 1, 3), (0x41, 1, 0x0051, 1, 3), (0x48, 1, 0x0060, 1, 3), (0x50, 1, 0x0061, 6, 4),
  (0x58, 1, 0x0070, 5, 3), (0x60, 1, 0x0071, 1, 2)]

/-- Block code, instance, clock domain and PG_OWNER at reset of a page in use. -/
def pageInfo (p : Nat) : Option (Nat × Nat × Nat × Nat) :=
  (pageRuns.find? (fun r => decide (r.1 ≤ p) && decide (p < r.1 + r.2.1))).map
    (fun r => (r.2.2.1, p - r.1, r.2.2.2.1, r.2.2.2.2))

/-- Clock domain of a page; CD_FAB for a page that is not in use. -/
def pageDomain (p : Nat) : Nat := ((pageInfo p).map (fun i => i.2.2.1)).getD 1

/-! ### Register words -/

/-- Value of a register word right after reset. An active copy resets as its shadow (00 R5); THM_LIM by grade (00 R9,
15 R541); PG_OWNER by page (13 R474). -/
def regReset (a : Nat) : Word :=
  if a = Reg.THM_LIM then (if Config.gradeCQ then 0x007D6E64 else 0x0094877D)
  else if a % 0x1000 = 0x02C then BitVec.ofNat 32 (((pageInfo (a / 0x1000)).map (fun i => i.2.2.2)).getD 0)
  else if a < 0x100000 ∧ 0x800 ≤ a % 0x1000 then
    match regRow (a - 0x800) with
    | some r => if r.sh then BitVec.ofNat 32 r.reset else 0
    | none => 0
  else
    match regRow a with
    | some r => BitVec.ofNat 32 r.reset
    | none => 0

/-- A register word of a register file. -/
def rget (f : RegFile) (a : Nat) : Word := smGet regReset f a

/-- A register file with a word written. -/
def rset (a : Nat) (v : Word) (f : RegFile) : RegFile := smSet regReset a v f

/-- The active copy of a shadowed register (00 R5). -/
def ract (f : RegFile) (a : Nat) : Word := rget f (a + 0x800)

/-- A count raised by `n`, saturating at 0xFFFF_FFFF. -/
def satAdd (v : Word) (n : Nat) : Word := BitVec.ofNat 32 (min (v.toNat + n) 0xFFFFFFFF)

/-- A live count of a counter that a boundary captures. -/
def lget (f : RegFile) (a : Nat) : Word := smGet (fun _ => (0 : Word)) f a

/-- A live count set. -/
def lset (a : Nat) (v : Word) (f : RegFile) : RegFile := smSet (fun _ => (0 : Word)) a v f

/-! ### What a command reports -/

/-- One thing a command reports beside the change of its own block. -/
inductive Note where
  /-- A fault source is raised (16 R561). -/
  | raise (src : Fin 171)
  /-- A live counter counts, saturating. -/
  | count (a : Nat) (n : Nat)
  /-- A counter that a boundary captures counts, saturating (11 R424). -/
  | tally (a : Nat) (n : Nat)
  /-- Bits of a register word are set. -/
  | bits (a : Nat) (m : Nat)
  /-- A register word takes a value. -/
  | word (a : Nat) (v : Word)
  /-- An event sets bits, held elsewhere, that writing 1 to a register clears (00 R8). -/
  | hit (a : Nat) (m : Nat)
  /-- Something leaves the block. -/
  | send (o : Output)
  deriving DecidableEq, Repr

/-- Bit `i` of PG_IRQ_RAW of a page is set (13 R486). -/
def Note.irq (page i : Nat) : Note := .bits (page * 0x1000 + 0x010) (2 ^ i)

/-- Register words after a note. -/
def Note.onRegs (f : RegFile) : Note → RegFile
  | .count a n => rset a (satAdd (rget f a) n) f
  | .bits a m => rset a (rget f a ||| BitVec.ofNat 32 m) f
  | .word a v => rset a v f
  | _ => f

/-- Live counts after a note. -/
def Note.onLive (f : RegFile) : Note → RegFile
  | .tally a n => lset a (satAdd (lget f a) n) f
  | _ => f

/-- The sample of tick t. -/
def Sample.on (x : Sample) (t : Nat) : Sample := if x.at_ = t then x else { at_ := t }

/-- Bits set by an event at tick t (00 R8). -/
def Sample.put (x : Sample) (t a m : Nat) : Sample :=
  let y := x.on t
  { y with hit := lset a (lget y.hit a ||| BitVec.ofNat 32 m) y.hit }

/-- The bits that events have set after a note at tick t. -/
def Note.onSample (t : Nat) (x : Sample) : Note → Sample
  | .bits a m => x.put t a m
  | .hit a m => x.put t a m
  | _ => x

/-- Sources a note raises. -/
def Note.src : Note → Option (Fin 171)
  | .raise s => some s
  | _ => none

/-- What a note sends. -/
def Note.sent : Note → Option Output
  | .send o => some o
  | _ => none

/-- The block with a list of notes carried out, oldest first. -/
def State.report (l : List Note) (s : State) : State :=
  { s with
    regs := l.foldl Note.onRegs s.regs
    live := l.foldl Note.onLive s.live
    sample := l.foldl (Note.onSample (s.now / tick)) s.sample
    flt := { s.flt with raised := s.flt.raised ++ l.filterMap Note.src }
    out := (l.filterMap Note.sent).reverse ++ s.out }

/-- An event sets bits that writing 1 to a register clears, held elsewhere (00 R8). -/
def State.hit (a m : Nat) (s : State) : State := { s with sample := s.sample.put (s.now / tick) a m }

/-- A value written to a register, without the ones for bits that an event of the same sample sets: those stay set (00 R8). -/
def State.cold (s : State) (a : Nat) (v : Word) : Word := v &&& ~~~(lget (s.sample.on (s.now / tick)).hit a)

/-- What stood under a key before this sample, noted at its first change in the sample. -/
def State.kept (s : State) (a : Nat) : Option Word :=
  ((s.sample.on (s.now / tick)).was.find? (fun x => x.1 == a)).map (fun x => x.2)

/-- A register word as it was before this sample (13 R483). -/
def State.before (s : State) (a : Nat) : Word := (s.kept a).getD (rget s.regs a)

/-- A value is about to change whose value before the sample counts. -/
def State.keepAs (a : Nat) (v : Word) (s : State) : State :=
  let y := s.sample.on (s.now / tick)
  { s with sample := { y with was := y.was ++ [(a, v)] } }

/-- A register word is about to change whose value before the sample counts (13 R483). -/
def State.keep (a : Nat) (s : State) : State := s.keepAs a (s.before a)

/-! ### The same-sample rule (12 R437–R439; samples taken as 2.5 ns ticks: DESIGN CHOICE, log entry 98) -/

/-- A waiting command is registered in the sample of this one. -/
def State.inSample (s : State) (c : Instr) : Bool := decide (c.time / tick ≤ s.now / tick)

/-- An event that a wait awaits is registered in this sample, by a command that still waits in the queue: it prevails over the
expiry. -/
def State.awaits (s : State) (p : Instr → Bool) : Bool := s.pending.any (fun c => s.inSample c && p c)

/-- Keys, above every register, of awaited events that set no bit. -/
inductive Awaited where
  /-- 16 R573: a change of the heartbeat. -/
  | beat
  /-- 17 R632: a rise of L4 at Glade's inputs. -/
  | lockLine
  /-- 15 R551: an accepted status response of an array. -/
  | status (a : Fin 16)
  /-- 10 R379: a take-up for a surface. -/
  | list (u : Fin 2)
  /-- 13 R491: a message of a vector. -/
  | message (v : Fin 32)
  deriving DecidableEq, Repr

/-- The key of an awaited event. -/
def Awaited.key : Awaited → Nat
  | .beat => 0x200000
  | .lockLine => 0x200001
  | .status a => 0x200010 + a.val
  | .list u => 0x200020 + u.val
  | .message v => 0x200040 + v.val

/-- The event of a key, or a bit of a register, has come in this sample. -/
def State.hasCome (s : State) (a : Nat) : Bool := lget (s.sample.on (s.now / tick)).hit a != 0

/-- A command whose event has been taken ahead of its turn in this sample does nothing more; any other does `f`. -/
def State.once (c : Instr) (f : State → State) (s : State) : State :=
  let y := s.sample.on (s.now / tick)
  if y.ahead.contains c then { s with sample := { y with ahead := y.ahead.erase c } } else f s

/-- A command taken ahead of its turn: `f` is what it does. -/
def State.takeAhead (c : Instr) (f : State → State) (s : State) : State :=
  let s := f s
  let y := s.sample.on (s.now / tick)
  { s with sample := { y with ahead := c :: y.ahead } }

/-- The commands of a list that have not been taken ahead, each taken one standing for one of its equals. -/
def untaken (taken : List Instr) : List Instr → List Instr
  | [] => []
  | c :: cs => if taken.contains c then untaken (taken.erase c) cs else c :: untaken taken cs

/-- The awaited events of this sample that wait in the queue are taken first, oldest first: `p` says what each does. -/
def State.takeFirst (p : Instr → Option (State → State)) (s : State) : State :=
  (untaken (s.sample.on (s.now / tick)).ahead (s.pending.filter s.inSample)).foldl (fun (s : State) c =>
    match p c with
    | some f => s.takeAhead c f
    | none => s) s

/-- Notes when a condition holds. -/
def noteIf (c : Bool) (l : List Note) : List Note := if c then l else []

/-! ### When a command acts -/

/-- The block at the instant of a command. -/
def State.stamp (t : Nat) (s : State) : State := { s with now := max s.now t }

/-- Everything on VDD_CORE is out of reset (15 R537, 20 R694). -/
def State.coreOn (s : State) : Bool := !s.top.porst && !s.pwr.coreReset

/-- Glade is out of reset (17 R588). -/
def State.gladeOn (s : State) : Bool := !s.top.porst && !s.glade.inReset

/-- A command to the core: no effect while the core is held in reset. -/
def onCore (t : Nat) (s : State) (f : State → State) : Host.Outcome State Fault Refusal :=
  .next (if s.coreOn then f (s.stamp t) else s.stamp t)

/-- A command to Glade: no effect while Glade is held in reset. -/
def onGlade (t : Nat) (s : State) (f : State → State) : Host.Outcome State Fault Refusal :=
  .next (if s.gladeOn then f (s.stamp t) else s.stamp t)

/-- A change made when a condition holds. -/
def State.when (s : State) (c : Bool) (f : State → State) : State := if c then f s else s

/-! ### Free values -/

/-- The next free value, below `n`. -/
def State.freeNat (s : State) (n : Nat) : Nat := Config.freeValue s.free % n

/-- One free value has been read. -/
def State.spend (s : State) : State := { s with free := s.free + 1 }

/-! ### Register accesses -/

/-- A crossing whose far side is the domain is STALLED, as CD_FAB sees it (12 R453), or held idle for as long as the quad-SPI
port is selected (12 R434). -/
def State.stalledTo (s : State) (dom : Nat) : Bool :=
  (dom == 0 && s.host.portSpi) || s.clk.stalled.any (fun c => c.far.val == dom && c.live.val == 1 && c.kind == .fifo)

/-- The PG_OWNER bit that a requester's writes are judged by: 0 the host, 1 Forester (13 R481, 14 R519). -/
def State.ownerBit (s : State) : Req → Nat
  | .host => 0
  | .forester => 1
  | .dma ch => if (s.dma.ch[ch]).owner then 1 else 0

/-- The requester's bit of PG_OWNER of the page was 1 before the sample (13 R481, R483). -/
def State.mayWrite (s : State) (req : Req) (page : Nat) : Bool :=
  bit (s.before (page * 0x1000 + 0x02C)) (s.ownerBit req)

/-- What the host port counts and raises for a malformed, partial or error access (13 R477, R497, R506). -/
def badAccess : List Note := [.count Reg.HOST_BADACC 1, .raise Src.HP_BADACC]

/-- An error access, as its requester sees it (13 R497, 12 R452). -/
def errorAccess (req : Req) : List Note := badAccess ++ [.send (.errorAccess req)]

/-- A write discarded under 13 R481. -/
def ownerError (page : Nat) : List Note :=
  [.bits (page * 0x1000 + 0x00C) 4, .count Reg.HOST_OWNCNT 1, .raise Src.HP_OWNERR]

/-- A write to a register of a page: discarded when the page's domain is behind a STALLED crossing (12 R452) or the
requester does not own the page (13 R481), and otherwise performed. -/
def State.access (req : Req) (page : Nat) (f : State → State) (s : State) : State :=
  if s.stalledTo (pageDomain page) then s.report (errorAccess req)
  else if s.mayWrite req page then f s
  else s.report (ownerError page)

/-! ### Armed checkers (16 R582) -/

/-- MODE of a checker for its next occurrence; 0 when it is not armed. -/
def State.injMode (s : State) (target : Nat) : Nat :=
  if s.flt.inj.remain ≠ 0 ∧ s.flt.inj.target.toNat = target then s.flt.inj.mode.toNat else 0

/-- One occurrence of a checker's operation: REMAIN counts down where the checker is armed. -/
def State.useInj (target : Nat) (s : State) : State :=
  if s.injMode target = 0 then s
  else { s with flt := { s.flt with inj := { s.flt.inj with remain := s.flt.inj.remain - 1 } } }

/-- Occurrences of a checker's operation on the words of a list, each armed one carried out by `put` with the error
uncorrectable or not. -/
def State.injWords (target : Nat) (put : Nat → Bool → State → State) : List Nat → State → State
  | [], s => s
  | w :: r, s => State.injWords target put r (if s.injMode target = 0 then s
      else put w (decide (s.injMode target = 2)) (s.useInj target))

/-! ### Byte stores -/

/-- The canonical form of a byte memory whose unlisted bytes read as `d`. -/
def Memory.wf (d : Nat → Byte) (m : List Host.Cell) : Bool := smWf d m

/-- A byte of a memory. -/
def Memory.read (d : Nat → Byte) (m : List Host.Cell) (a : Nat) : Byte := smGet d m a

/-- A memory with one byte written. -/
def Memory.write (d : Nat → Byte) (m : List Host.Cell) (a : Nat) (b : Byte) : List Host.Cell := smSet d a b m

/-- `n` bytes of a memory from an address. -/
def Memory.readN (d : Nat → Byte) (m : List Host.Cell) (a n : Nat) : List Byte :=
  (List.range n).map (fun i => Memory.read d m (a + i))

/-- A memory with a byte string written from an address. -/
def Memory.writeL (d : Nat → Byte) (m : List Host.Cell) (a : Nat) : List Byte → List Host.Cell
  | [] => m
  | b :: r => Memory.writeL d (Memory.write d m a b) (a + 1) r

/-- Bytes that read 0 where nothing is written. -/
def zeroByte (_ : Nat) : Byte := 0

/-- The calibration store's bytes after initialisation: 0x8000 for each emitter, little-endian (09 R348). -/
def calibByte (a : Nat) : Byte := if a % 2 = 1 then 0x80 else 0

end Sys2Proof.Machine
end

