-- ==== Sys2Proof/Machine/Crossings.lean ====
section
/-! DEFINITION. What crosses between clock domains and how: the mechanisms, hold-and-flag transfers and Gray-coded counts
(12 R440–R455). -/

namespace Sys2Proof.Machine

open Sys2Proof

/-! ### Mechanisms (12 R440) -/

/-- A kind of information that crosses. -/
inductive Information where
  | level | stateValue | access | eventCount | instant | laneData | fabric | pin
  deriving DecidableEq, Repr

/-- A mechanism by which information crosses. -/
inductive Mechanism where
  | twoFlop | holdAndFlag | fifo | grayCount | timeTransfer | elasticBuffer | handshake | pinSynchroniser
  deriving DecidableEq, Repr

/-- The only mechanism by which a kind of information crosses (12 R440). -/
def Information.mechanism : Information → Mechanism
  | .level => .twoFlop
  | .stateValue => .holdAndFlag
  | .access => .fifo
  | .eventCount => .grayCount
  | .instant => .timeTransfer
  | .laneData => .elasticBuffer
  | .fabric => .handshake
  | .pin => .pinSynchroniser

/-- The crossing that waits on its far side, for the two mechanisms that do (12 R450, R451). -/
def Mechanism.waits : Mechanism → Option CrossingKind
  | .holdAndFlag => some .holdAndFlag
  | .fifo => some .fifo
  | _ => none

/-! ### Round trips (12 R450) -/

/-- ρ of two domains whose clocks run at `a` and `b` kHz, in picoseconds. -/
def roundTripPs (a b : Nat) : Nat := 4000000000 * (a + b) / (a * b)

/-- A time in picoseconds in 1/64 ticks. -/
def ofPs (p : Nat) : Nat := p * 64 / 2500

/-! ### Hold-and-flag (12 R444–R446, R452, R453, R455) -/

/-- The source still waits for ACK. -/
def HoldFlag.inFlight (h : HoldFlag) : Bool := h.flag != h.acked

/-- A value goes into HOLD and FLAG toggles (12 R444, step 1). -/
def HoldFlag.launch (t : Nat) (v : Word) (h : HoldFlag) : HoldFlag := { h with hold := some v, flag := !h.flag, since := t }

/-- The sample in which the destination sees the toggle has passed at `t`: it has captured HOLD whole and toggled ACK (12 R444, step 2).
Within the bounds of R446 and R450 the capture is placed half of `ρ` after the launch, and the source's registration of ACK the other
half after it (DESIGN CHOICE, log entry 102). A read in the sample of the capture still finds the value from before (12 R446). -/
def HoldFlag.capture (ρ t : Nat) (h : HoldFlag) : HoldFlag :=
  if h.flag != h.ack && decide ((h.since + ρ / 2) / tick < t / tick) then { h with dest := h.hold, ack := h.flag } else h

/-- The source registers ACK; a full PENDING moves into HOLD and launches at once (12 R444, step 3, R445). -/
def HoldFlag.register (ρ t : Nat) (h : HoldFlag) : HoldFlag :=
  if h.inFlight && h.ack == h.flag && decide ((h.since + ρ) / tick ≤ t / tick) then
    let h := { h with acked := h.ack }
    match h.pending with
    | some v => { h.launch (h.since + ρ) v with pending := none }
    | none => h
  else h

/-- The crossing brought up to `t`: at most the transfer in flight and the one of PENDING end. -/
def HoldFlag.settle (ρ t : Nat) (h : HoldFlag) : HoldFlag := (((h.capture ρ t).register ρ t).capture ρ t).register ρ t

/-- The source produces a value at `t` (12 R445): into PENDING while a transfer is in flight, that which a full PENDING has just launched
included, else into HOLD. -/
def HoldFlag.produce (ρ t : Nat) (v : Word) (h : HoldFlag) : HoldFlag :=
  let h := h.settle ρ t
  if h.inFlight then { h with pending := some v } else h.launch t v

/-- What a read by the destination at `t` returns. -/
def HoldFlag.read (ρ t : Nat) (h : HoldFlag) : Option Word := (h.settle ρ t).dest

/-- The newest value of the source. -/
def HoldFlag.newest (h : HoldFlag) : Option Word := if h.pending.isSome then h.pending else h.hold

/-- Both halves set idle; the destination keeps the last value it delivered, and the source's newest value launches (12 R453, R455). -/
def HoldFlag.restart (t : Nat) (h : HoldFlag) : HoldFlag :=
  let x : HoldFlag := { dest := h.dest, since := t }
  match h.newest with
  | some v => x.launch t v
  | none => x

/-- The stall timer trips when 64 ticks of 1 µs have passed since the launch (12 R451). -/
def HoldFlag.trips (t : Nat) (h : HoldFlag) : Bool := h.inFlight && decide (h.since / usec + 64 ≤ t / usec)

/-! ### Gray-coded counts (12 R448) -/

/-- The Gray code of a 10-bit count. -/
def grayCode (b : BitVec 10) : BitVec 10 := b ^^^ (b >>> 1)

/-- The count of a Gray code. -/
def ofGray (g : BitVec 10) : BitVec 10 :=
  let g := g ^^^ (g >>> 1)
  let g := g ^^^ (g >>> 2)
  let g := g ^^^ (g >>> 4)
  g ^^^ (g >>> 8)

/-- The destination's previous value and its own count after a sample of the code: the difference modulo 1024 is added. -/
def graySample (code : BitVec 10) (x : BitVec 10 × Nat) : BitVec 10 × Nat :=
  let b := ofGray code
  (b, x.2 + (b - x.1).toNat)

end Sys2Proof.Machine
end

