-- ==== Sys2Proof/Machine/Modulation.lean ====
section
/-! DEFINITION. Stitch modulation (chapter 02): stitch and trim counts, plane order, stitch periods, the stitch-order
table, phase classes, the plane bit of 03 R90, and the plane load of a skein. -/

namespace Sys2Proof.Machine

open Sys2Proof

/-- The modulation of a surface (02 R69). -/
structure ModSet where
  /-- S_SEL. -/
  sSel : Nat
  /-- Q_SEL. -/
  qSel : Nat
  /-- DROP. -/
  drop : Nat
  /-- GUARD, in 0.25 µs. -/
  guard : Nat
  /-- PC_SEED. -/
  seed : Nat
  /-- ORD_USER. -/
  ordUser : Bool
  deriving DecidableEq, Repr

/-- The fields of ST_MOD (02 R69). -/
def modOf (w : Word) : ModSet :=
  { sSel := fld w 0 2, qSel := fld w 4 2, drop := fld w 8 2, guard := fld w 12 12, seed := fld w 24 4,
    ordUser := bit w 28 }

/-- Stitches per frame (02 R44). -/
def stitchesOf (sSel : Nat) : Nat := 2 ^ (sSel + 4) - 1

/-- Trim planes (02 R44). -/
def trimsOf (sSel : Nat) : Nat := 12 - sSel

/-- Trim ratio q (02 R44). -/
def ratioOf (qSel : Nat) : Nat := 4 ^ qSel

/-- Planes per frame (02 R55). -/
def ModSet.planes (m : ModSet) : Nat := stitchesOf m.sSel + trimsOf m.sSel - m.drop

/-- A plane is a stitch or a trim plane (02 R45). -/
inductive PlaneKind where
  /-- Stitch s. -/
  | stitch (s : Nat)
  /-- Trim bit j. -/
  | trim (j : Nat)
  deriving DecidableEq, Repr

/-- Trim slots of a setting, in show order: after stitch g, trim bit j (02 R54). -/
def trimSlots (sSel qSel : Nat) : List (Nat × Nat) :=
  match sSel, qSel with
  | 2, 0 => [(2,9),(8,3),(14,6),(21,1),(27,8),(33,4),(40,7),(46,0),(52,5),(59,2)]
  | 2, 1 => [(1,7),(9,0),(17,4),(25,2),(29,9),(33,6),(41,1),(49,5),(57,3),(61,8)]
  | 2, 2 => [(2,1),(8,9),(14,5),(23,2),(29,7),(34,4),(43,3),(49,8),(54,0),(60,6)]
  | 2, _ => [(2,9),(8,3),(14,5),(21,1),(27,7),(33,2),(40,4),(46,0),(52,8),(59,6)]
  | 1, 0 => [(0,10),(3,2),(6,6),(9,0),(12,8),(14,4),(17,9),(20,1),(23,5),(26,3),(29,7)]
  | 1, 1 => [(0,8),(3,0),(6,4),(9,2),(12,10),(15,7),(18,1),(21,5),(24,3),(27,6),(29,9)]
  | 1, 2 => [(0,10),(3,6),(7,0),(9,8),(11,5),(15,1),(18,9),(20,4),(24,2),(26,7),(29,3)]
  | 1, _ => [(0,10),(3,4),(6,6),(9,1),(12,8),(14,3),(17,5),(20,0),(23,9),(26,2),(29,7)]
  | _, 0 => [(0,11),(1,3),(2,7),(4,1),(5,9),(6,5),(8,10),(9,2),(10,6),(11,0),(12,8),(13,4)]
  | _, 1 => [(0,9),(1,1),(2,5),(3,3),(4,7),(6,11),(8,8),(9,0),(10,4),(11,2),(12,6),(13,10)]
  | _, 2 => [(0,11),(1,7),(3,0),(4,9),(5,6),(7,1),(8,10),(9,5),(10,2),(11,8),(12,4),(13,3)]
  | _, _ => [(0,11),(1,5),(2,7),(4,2),(5,9),(6,4),(8,6),(9,0),(10,10),(11,3),(12,8),(13,1)]

/-- The planes of a frame in show order (02 R53, R55). -/
def ModSet.order (m : ModSet) : List PlaneKind :=
  let slots := (trimSlots m.sSel m.qSel).filter (fun x => decide (m.drop ≤ x.2))
  (List.range (stitchesOf m.sSel)).flatMap (fun s =>
    .stitch s :: (slots.filter (fun x => x.1 == s)).map (fun x => .trim x.2))

/-- Denominator of the stitch period: stitches and trim planes in trim units of full current (02 R47). -/
def ModSet.units (m : ModSet) : Nat :=
  stitchesOf m.sSel * 2 ^ trimsOf m.sSel + ratioOf m.qSel * (2 ^ trimsOf m.sSel - 2 ^ m.drop)

/-- Trim units a plane lasts (02 R47). -/
def ModSet.len (m : ModSet) : PlaneKind → Nat
  | .stitch _ => 2 ^ trimsOf m.sSel
  | .trim j => ratioOf m.qSel * 2 ^ j

/-- The guard in 1/64 ticks (02 R49). -/
def ModSet.guardLen (m : ModSet) : Nat := m.guard * 6400

/-- t_st of a frame of `per` 1/64 ticks, in ticks with 16 fractional bits, rounded down (02 R47, R48). -/
def ModSet.tst (m : ModSet) (per : Nat) : Nat :=
  (per - m.guardLen) * 2 ^ (trimsOf m.sSel + 10) / m.units

/-- Trim units from the start of plane 0 to the start of plane `i`. -/
def ModSet.before (m : ModSet) (i : Nat) : Nat := ((m.order.take i).map m.len).sum

/-- Start of plane `i` of a frame with boundary `bk` (1/64 ticks) and stitch period `tst`, on the tick at or before the
exact instant, in 1/64 ticks (02 R48, R49). Plane `planes` is the end of the last plane. -/
def ModSet.start (m : ModSet) (bk tst i : Nat) : Nat :=
  let frac := tst * m.before i * 64 / 2 ^ (trimsOf m.sSel + 16)
  (bk + m.guardLen + frac) / 64 * 64

/-- τ of a surface in whole ticks (11 R399). -/
def ModSet.tau (m : ModSet) (nomPer : Nat) : Nat :=
  (nomPer - m.guardLen) * 2 ^ trimsOf m.sSel / (64 * m.units)

/-! ### Phase classes and the stitch order -/

/-- The table BAYER (02 R56). -/
def bayer (y x : Nat) : Nat :=
  ([0, 8, 2, 10, 12, 4, 14, 6, 3, 11, 1, 9, 15, 7, 13, 5] : List Nat).getD (4 * (y % 4) + x % 4) 0

/-- Phase class of the emitter of pixel (x, y), colour c (02 R56). -/
def phaseClass (seed x y c : Nat) : Nat := (bayer y x + (7 * (x / 4) + 11 * (y / 4)) % 16 + seed + 5 * c) % 16

/-- The low `n` bits of `x` in reverse order (02 R57). -/
def bitrev : Nat → Nat → Nat
  | 0, _ => 0
  | n + 1, x => (x % 2) * 2 ^ n + bitrev n (x / 2)

/-- The default stitch-order table (02 R57). -/
def orderDefault (sSel c s : Nat) : Nat :=
  let S := stitchesOf sSel
  bitrev (sSel + 4) ((s + S - c * S / 16 % S) % S + 1) - 1

/-- Entry of a surface's user table in a register file's active copies (02 R59). -/
def orderUser (f : Nat → Word) (u c s : Nat) : Nat :=
  fld (f (Reg.ST_ORD (13 * 16 * u + 13 * c + s / 5))) (6 * (s % 5)) 6

/-- The bit of a plane before the health map, from the light code and the Shade factor (03 R90, 02 R43, R45). -/
def planeBit (m : ModSet) (order : Nat → Nat → Nat) (c v a : Nat) (p : PlaneKind) : Bool :=
  let v' := v * a / 256 / 2 ^ m.drop * 2 ^ m.drop
  let t := trimsOf m.sSel
  match p with
  | .stitch s => decide (order c s < v' / 2 ^ t)
  | .trim j => Nat.testBit (v' % 2 ^ t) j

/-! ### Plane load (02 R61, R62) -/

/-- λ in hundredths (02 R62). -/
def lambda (sSel qSel : Nat) : Nat :=
  match sSel, qSel with
  | _, 3 => 95
  | 2, 0 => 85
  | 2, 1 => 88
  | 2, _ => 90
  | 1, 0 => 66
  | 1, 1 => 75
  | 1, _ => 80
  | _, _ => 50

/-- Line rate of an output or intake lane in Mb/s (05 R185). -/
def laneRate (code : Nat) : Nat := ([2500, 3125, 5000, 6250, 8000, 10000, 12500, 16000] : List Nat).getD code 16000

/-- Block time of an output or intake lane in 1/64 ticks times 1000 (05 R185). -/
def blockTime (code : Nat) : Nat := 66 * 25600 * 1000 / laneRate code

/-- A plane load as an exact number of ticks: numerator and denominator (02 R61). -/
structure LoadTime where
  /-- Numerator. -/
  num : Nat
  /-- Denominator. -/
  den : Nat
  deriving DecidableEq, Repr

/-- L′ of `emitters` on `lanes` lanes of `rate` Mb/s: N / (n × 0.9375 × rate) + 0.4 µs (02 R61). -/
def loadTime (emitters lanes rate : Nat) : LoadTime :=
  { num := emitters * 6400 + 160 * (15 * lanes * rate), den := 15 * lanes * rate }

/-- The stitch period of a frame period in ticks, exactly: numerator and denominator (02 R47, 11 R400). Periods are
exact fractions `pn / pd` of 1/64 tick. -/
def ModSet.tstExact (m : ModSet) (pn pd : Nat) : Nat × Nat :=
  ((pn - m.guardLen * pd) * 2 ^ trimsOf m.sSel, 64 * pd * m.units)

/-- L′ ≤ λ · t_st,min (02 R62), exactly (02 R750). -/
def loadFits (m : ModSet) (pn pd : Nat) (l : LoadTime) : Bool :=
  let t := m.tstExact pn pd
  decide (l.num * 100 * t.2 ≤ lambda m.sSel m.qSel * t.1 * l.den)

/-- floor(1024 × L′ / (λ · t_st,min)), saturating at 2047 (02 R70). -/
def loadFigure (m : ModSet) (pn pd : Nat) (l : LoadTime) : Nat :=
  let t := m.tstExact pn pd
  if lambda m.sSel m.qSel * t.1 * l.den = 0 then 2047
  else min 2047 (1024 * l.num * 100 * t.2 / (lambda m.sSel m.qSel * t.1 * l.den))

/-- L′ rounded up to a whole tick, in 1/64 ticks (02 R750). -/
def LoadTime.ticks (l : LoadTime) : Nat := divUp l.num l.den * 64

end Sys2Proof.Machine
end

