-- ==== Sys2Proof/Machine/Settings.lean ====
section
/-! DEFINITION. The settings along the light path: array map entries, surfaces, lanes and skeins, the Glade parameter
record and its fallback profile, and the driving map (01 R11–R23, R37, R749; 05 R206; 17 R618). -/

namespace Sys2Proof.Machine

open Sys2Proof

/-! ### Array map entries (04 R181) -/

/-- An array map entry. -/
structure ArrEntry where
  /-- Array number. -/
  n : Fin 16
  /-- EN. -/
  en : Bool
  /-- SURF. -/
  surf : Nat
  /-- ORIENT. -/
  orient : Nat
  /-- CORDER. -/
  corder : Nat
  /-- RET. -/
  ret : Nat
  /-- AEN. -/
  aen : Nat
  /-- SKEIN. -/
  skein : Nat
  /-- STR_RNG. -/
  strRng : Nat
  /-- TRM_RNG. -/
  trmRng : Nat
  /-- I_STITCH. -/
  iStitch : Nat
  /-- X0. -/
  x0 : Nat
  /-- Y0. -/
  y0 : Nat
  /-- WIDTH. -/
  w : Nat
  /-- HEIGHT. -/
  h : Nat
  /-- EBASE. -/
  base : Nat
  deriving DecidableEq, Repr

/-- An entry from its four words. -/
def entryOf (n : Fin 16) (c o z b : Word) : ArrEntry :=
  { n := n, en := bit c 0, surf := fld c 1 1, orient := fld c 2 2, corder := fld c 4 1, ret := fld c 5 1,
    aen := fld c 6 2, skein := fld c 8 2, strRng := fld c 10 2, trmRng := fld c 12 2, iStitch := fld c 16 16,
    x0 := fld o 0 12, y0 := fld o 16 12, w := fld z 0 13, h := fld z 16 13, base := fld b 0 22 }

/-- The sixteen array numbers. -/
def arrays : List (Fin 16) := List.finRange 16

/-- The four skeins. -/
def skeins : List (Fin 4) := List.finRange 4

/-- The eight output lanes. -/
def outLanes : List (Fin 8) := List.finRange 8

/-- The two surfaces. -/
def surfaces : List (Fin 2) := List.finRange 2

/-- The enabled entries that a reading of register words gives. -/
def entriesOf (f : Nat → Word) : List ArrEntry :=
  (arrays.map (fun n => entryOf n (f (Reg.AM_CFG n)) (f (Reg.AM_ORG n)) (f (Reg.AM_SIZE n)) (f (Reg.AM_BASE n)))).filter
    (fun e => e.en)

/-- Colours of an emitter column: 1 in beam mode, 3 in surface mode (01 R18). -/
def colours (surfMode : Bool) : Nat := if surfMode then 3 else 1

/-- Emitters of an entry. -/
def ArrEntry.emitters (e : ArrEntry) (k : Nat) : Nat := e.w * e.h * k

/-- A surface position lies in an entry. -/
def ArrEntry.covers (e : ArrEntry) (x y : Nat) : Bool :=
  decide (e.x0 ≤ x) && decide (x < e.x0 + e.w) && decide (e.y0 ≤ y) && decide (y < e.y0 + e.h)

/-- Array pixel of a surface position, and surface position of an array pixel: the same map both ways (01 R17). -/
def ArrEntry.turn (e : ArrEntry) (lx ly : Nat) : Nat × Nat :=
  ((if e.orient % 2 = 1 then e.w - 1 - lx else lx), (if e.orient / 2 = 1 then e.h - 1 - ly else ly))

/-- Colour at position p of a pixel's columns, and position of a colour: the same map both ways (01 R22, 04 R144). -/
def ArrEntry.colour (e : ArrEntry) (k p : Nat) : Nat := if k = 3 ∧ e.corder = 1 then 2 - p else p

/-- Emitter number of surface position (x, y), colour c (01 R18). -/
def ArrEntry.emitter (e : ArrEntry) (k x y c : Nat) : Nat :=
  let a := e.turn (x - e.x0) (y - e.y0)
  e.base + a.2 * (e.w * k) + a.1 * k + c

/-- Surface position and colour of an emitter of an entry, by its offset from the base. -/
def ArrEntry.place (e : ArrEntry) (k i : Nat) : Nat × Nat × Nat :=
  let l := e.turn (i % (e.w * k) / k) (i / (e.w * k))
  (e.x0 + l.1, e.y0 + l.2, i % k)

/-- An emitter number lies in an entry. -/
def ArrEntry.holds (e : ArrEntry) (k n : Nat) : Bool := decide (e.base ≤ n) && decide (n < e.base + e.emitters k)

/-! ### Surfaces (07 R291) -/

/-- MODE, W and H of a surface. -/
structure SurfSet where
  /-- MODE: surface mode. -/
  surfMode : Bool
  /-- W. -/
  w : Nat
  /-- H. -/
  h : Nat
  deriving DecidableEq, Repr

/-- CP_SURF's fields. -/
def surfOf (v : Word) : SurfSet := { surfMode := bit v 31, w := fld v 0 13, h := fld v 16 13 }

/-- Colours of the surface. -/
def SurfSet.k (x : SurfSet) : Nat := colours x.surfMode

/-! ### The Glade parameter record (17 R618) -/

/-- A little-endian field of the GPR in force: byte offset, low bit, bits. -/
def Glade.gp (g : Glade) (off lo n : Nat) : Nat := (leAt g.gpr off 4 / 2 ^ lo) % 2 ^ n

/-- A word of a GPR image. -/
def gprWord (gpr : List Byte) (off : Nat) : Word := BitVec.ofNat 32 (leAt gpr off 4)

/-- A GPR is in force (17 R617). -/
def Glade.hasGpr (g : Glade) : Bool := !g.gpr.isEmpty

/-- Surface word u of the fallback profile. -/
def gprSurf (gpr : List Byte) (u : Nat) : Word := gprWord gpr (0x064 + 4 * u)

/-- The fallback profile enables surface u. -/
def gprEn (gpr : List Byte) (u : Nat) : Bool := bit (gprSurf gpr u) 0

/-- The fallback profile's modulation of surface u: DROP 0 and the default order (03 R100). -/
def gprMod (gpr : List Byte) (u : Nat) : ModSet :=
  let w := gprSurf gpr u
  { sSel := fld w 2 2, qSel := fld w 4 2, drop := 0, guard := fld w 10 12, seed := fld w 6 4, ordUser := false }

/-- OFS of surface u in the fallback profile. -/
def gprOfs (gpr : List Byte) (u : Nat) : Nat := fld (gprSurf gpr u) 22 6

/-- MODE, W and H of surface u in the fallback profile. -/
def gprSize (gpr : List Byte) (u : Nat) : SurfSet :=
  let w := gprWord gpr (0x06C + 4 * u)
  { surfMode := bit (gprSurf gpr u) 1, w := fld w 0 13, h := fld w 16 13 }

/-- CP_SURF as the profile's surface reads (07 R291). -/
def gprSurfWord (gpr : List Byte) (u : Nat) : Word :=
  let z := gprSize gpr u
  BitVec.ofNat 32 (z.w + z.h * 2 ^ 16 + (if z.surfMode then 2 ^ 31 else 0))

/-- The enabled array map entries of the fallback profile. -/
def gprEntries (gpr : List Byte) : List ArrEntry :=
  (arrays.map (fun n =>
    let o := 0x080 + 0x10 * n.val
    entryOf n (gprWord gpr o) (gprWord gpr (o + 4)) (gprWord gpr (o + 8)) (gprWord gpr (o + 12)))).filter (fun e => e.en)

/-- FB_LCFG_n. -/
def gprLane (gpr : List Byte) (n : Nat) : Word := gprWord gpr (0x040 + 4 * n)

/-- FB_BLCFG. -/
def gprRet (gpr : List Byte) : Word := gprWord gpr 0x060

/-- FB_PER. -/
def gprPer (gpr : List Byte) : Nat := leAt gpr 0x038 4

/-- Skeins that an enabled entry of the profile names (05 R208). -/
def gprSkeins (gpr : List Byte) : List Nat := (gprEntries gpr).map (fun e => e.skein)

/-- AEN pins that the fallback surfaces use: of the profile's enabled entries (17 R603). -/
def gprAenFb (gpr : List Byte) : BitVec 4 := (gprEntries gpr).foldl (fun v e => setBit v e.aen) 0

/-- The profile names an output lane: its image is enabled (05 R211, 20 R697). -/
def gprNamesLane (gpr : List Byte) (n : Nat) : Bool := bit (gprLane gpr n) 0

/-! ### Lanes and skeins (05 R206, R223) -/

/-- SK_LCFG's fields. -/
structure LaneSet where
  /-- EN. -/
  en : Bool
  /-- SKEIN. -/
  skein : Nat
  /-- RATE. -/
  rate : Nat
  /-- IDLE. -/
  idle : Bool
  /-- SWING. -/
  swing : Nat
  /-- PRE. -/
  pre : Nat
  /-- POST. -/
  post : Nat
  deriving DecidableEq, Repr

/-- The fields of an SK_LCFG word. -/
def laneOf (v : Word) : LaneSet :=
  { en := bit v 0, skein := fld v 1 2, rate := fld v 4 3, idle := bit v 8, swing := fld v 12 4, pre := fld v 16 4,
    post := fld v 20 5 }

/-- Settings of lane n that a reading of register words gives. -/
def laneAt (f : Nat → Word) (n : Nat) : LaneSet := laneOf (f (Reg.SK_LCFG n))

/-- Lanes of skein k, by OL number, rising (05 R206). -/
def skeinLanes (f : Nat → Word) (k : Nat) : List (Fin 8) :=
  outLanes.filter (fun n => (laneAt f n).en && (laneAt f n).skein == k)

/-- Lowest OL number of a skein. -/
def skeinBase (f : Nat → Word) (k : Nat) : Nat := ((skeinLanes f k).head?.map (fun n => n.val)).getD 0

/-- The register words that govern composition: the active copies (01 R37). -/
def State.active (s : State) (a : Nat) : Word := ract s.regs a

/-- A shadowed setting as the running composition period of surface u took it at its FSTART (08 R317). -/
def State.composed (s : State) (u : Fin 2) (a : Nat) : Word := ract (s.surf[u]).compRegs a

/-- The register words that govern the frame surface u shows (01 R37, 03 R76). -/
def State.shown (s : State) (u : Fin 2) (a : Nat) : Word := ract (s.surf[u]).showRegs a

/-- The active copies of a register file. -/
def activeOnly (f : RegFile) : RegFile := f.filter (fun x => decide (0x800 ≤ x.1 % 0x1000) && decide (x.1 < 0x100000))

/-- Lane of skein k in service (05 R211). -/
def State.inService (s : State) (n : Fin 8) : Bool := (s.lane[n]).st == .service

/-- Lanes of skein k in service, by OL number. -/
def State.serviceLanes (s : State) (k : Nat) : List (Fin 8) :=
  (skeinLanes s.active k).filter (fun n => s.inService n)

/-- Line rate of the skein in Mb/s. -/
def State.skeinRate (s : State) (k : Nat) : Nat :=
  laneRate (((skeinLanes s.active k).head?.map (fun n => (laneAt s.active n).rate)).getD 7)

/-! ### The driving map (01 R749) -/

/-- Glade selects the fallback source for surface u, as the Stitcher registers it (03 R99). -/
def State.gladeDrives (s : State) (u : Fin 2) : Bool := (s.surf[u]).fbSel

/-- The Stitcher runs surface u under the fallback profile (03 R100, R104): before the first accepted commit every surface
that the profile enables, so that its arrays are identified from the end of LOAD (20 R697). -/
def State.underProfile (s : State) (u : Fin 2) : Bool :=
  if s.cmt.accepted then (s.surf[u]).fbProfile && (s.gladeDrives u || (s.surf[u]).fbShow)
  else s.glade.hasGpr && gprEn s.glade.gpr u.val

/-- The driving map of surface u. -/
def State.driving (s : State) (u : Fin 2) : List ArrEntry :=
  (if s.underProfile u then gprEntries s.glade.gpr else entriesOf (s.shown u)).filter (fun e => e.surf == u.val)

/-- The driving maps of both surfaces. -/
def State.drivingAll (s : State) : List ArrEntry := s.driving 0 ++ s.driving 1

/-- The enabled entries of surface u in the active array map. -/
def State.activeEntries (s : State) (u : Fin 2) : List ArrEntry :=
  (entriesOf s.active).filter (fun e => e.surf == u.val)

/-- Surface u is driven (03 R119). -/
def State.driven (s : State) (u : Fin 2) : Bool :=
  (bit (s.active (Reg.ST_CTRL u)) 0 && !(s.activeEntries u).isEmpty) || s.gladeDrives u

/-- Mode and size of surface u for composition. -/
def State.surfNow (s : State) (u : Fin 2) : SurfSet := surfOf (s.active (Reg.CP_SURF u))

/-- Surface settings of the composition period that runs. -/
def State.surfComp (s : State) (u : Fin 2) : SurfSet := surfOf (s.composed u (Reg.CP_SURF u))

/-- Enabled array map entries of the surface in the composition period that runs. -/
def State.compEntries (s : State) (u : Fin 2) : List ArrEntry :=
  (entriesOf (s.composed u)).filter (fun e => e.surf == u.val)

/-- Mode and size of surface u for the Stitcher. -/
def State.surfShown (s : State) (u : Fin 2) : SurfSet :=
  if s.underProfile u then gprSize s.glade.gpr u.val else surfOf (s.shown u (Reg.CP_SURF u))

/-- Surface of a skein in the driving maps (03 R85). -/
def State.skeinSurf (s : State) (k : Nat) : Option (Fin 2) :=
  surfaces.find? (fun u => (s.driving u).any (fun e => e.skein == k))

/-- Skeins of surface u's driving map. -/
def State.skeinsOf (s : State) (u : Fin 2) : List (Fin 4) :=
  skeins.filter (fun k => (s.driving u).any (fun e => e.skein == k.val))

/-- Emitters that entries put on skein k (02 R61). -/
def emittersOn (l : List ArrEntry) (k colourCount : Nat) : Nat :=
  ((l.filter (fun e => e.skein == k)).map (fun e => e.emitters colourCount)).sum

end Sys2Proof.Machine
end

