-- ==== Sys2Proof/Machine/Clocks.lean ====
section
/-! DEFINITION. Clock monitors and stalled crossings (chapter 12). -/

namespace Sys2Proof.Machine

open Sys2Proof

/-! ### Token metering (08 R307–R310) -/

/-- M_DROOP (08 R309). -/
def State.mDroop (s : State) : Nat := if s.pwr.droop then fld (s.active (Reg.FB_MCFG 0)) 0 4 else 0

/-- M_EFF (08 R309). -/
def State.meterLevel (s : State) (mDroop : Nat) : Nat :=
  max mDroop (max s.fab.mTherm.toNat (fld (rget s.regs (Reg.FB_MREQ 0)) 0 4))

/-- Segments 0 to 4 each hold M_EFF of their 16 tokens out of circulation (08 R307). -/
def State.meter (s : State) : State :=
  { s with fab := { s.fab with tokens := Vector.replicate 5 (16 - s.meterLevel s.mDroop) } }

/-- CD_SKEIN in kHz by RATE (05 R185). -/
def skeinClock (rate : Nat) : Nat := ([250000, 250000, 250000, 250000, 250000, 312500, 390625] : List Nat).getD rate 500000

/-- Line rate code that the enabled output lanes share (05 R186); its reset value while none is enabled. -/
def State.rateCode (s : State) : Nat :=
  ((outLanes.find? (fun (n : Fin 8) => (laneAt s.active n.val).en)).map (fun n => (laneAt s.active n.val).rate)).getD 7

/-- Nominal frequency of a domain in kHz, the halved domains included (12 R432, R433). -/
def State.nominal (s : State) (d : Fin 8) : Nat :=
  match d.val with
  | 0 => 250000
  | 1 => if s.pwr.droop then 250000 else 500000
  | 2 => 500000
  | 3 => skeinClock s.rateCode
  | 4 => 400000
  | 5 => if s.pwr.droop then 200000 else 400000
  | 6 => 16000
  | _ => 100000

/-- ρ of two domains in 1/64 ticks, at the frequencies in force (12 R450). -/
def State.roundTrip (s : State) (a b : Fin 8) : Nat := ofPs (roundTripPs (s.nominal a) (s.nominal b))

/-- The far domain of a crossing that carries the active settings. -/
def settingsFar (i : Fin 3) : Fin 8 := Fin.ofNat 8 (i.val + 1)

/-- The crossing that carries the active settings to a domain waits: it is STALLED, or the domain is reported stopped (12 R452). -/
def State.settingsHeld (s : State) (i : Fin 3) : Bool :=
  !(s.clk.mon[settingsFar i]).running ||
    s.clk.stalled.any (fun c => c.far == settingsFar i && c.live == 4 && c.kind == .holdAndFlag)

/-- The crossing of the active settings to a domain, as it stands now. -/
def State.settingsAt (s : State) (i : Fin 3) : HoldFlag :=
  if s.settingsHeld i then s.clk.settings[i] else (s.clk.settings[i]).settle (s.roundTrip 4 (settingsFar i)) s.now

/-- CD_TIME produces new active settings, those of commit `v`, for the domains that hold shadowed registers (12 R440, R445). While the
crossing waits the newest value stays with the source (12 R452, R453). -/
def State.produceSettings (v : Word) (s : State) : State :=
  { s with clk := { s.clk with settings := Vector.ofFn (fun i =>
      if s.settingsHeld i then
        (if (s.clk.settings[i]).inFlight then { s.clk.settings[i] with pending := some v } else (s.clk.settings[i]).launch s.now v)
      else (s.clk.settings[i]).produce (s.roundTrip 4 (settingsFar i)) s.now v) } }

/-- The monitor of a domain is masked while its synthesiser is unlocked: SYN_SYS for domains 1, 4, 5 and 7 (12 R432, R436). CD_GLADE has
none (12 R435). -/
def State.monMasked (s : State) (d : Fin 8) : Bool :=
  match d.val with
  | 0 => !s.clk.lockPcie || s.host.portSpi
  | 2 => !s.clk.lockIl
  | 3 => !s.clk.lockOl
  | 6 => true
  | _ => !s.clk.lockSys

/-- A window of 4 µs whose count differs from nominal by more than 5 % (12 R435). -/
def windowBad (edges khz : Nat) : Bool :=
  decide (edges * 250 * 20 < khz * 19) || decide (khz * 21 < edges * 250 * 20)

/-- A monitor after a window (12 R435). -/
def Monitor.window (m : Monitor) (masked isBad : Bool) (khz : BitVec 20) : Monitor :=
  if masked then { m with good := 0, bad := 0, khz := khz }
  else if isBad then
    { running := m.running && decide (m.bad = 0), good := 0, bad := min 2 (m.bad + 1), khz := khz }
  else { running := m.running || decide (0 < m.good), good := min 2 (m.good + 1), bad := 0, khz := khz }

/-- What a monitor's change of report brings (12 R456, R457). -/
def monNotes (d : Fin 8) (was is : Bool) : List Note :=
  noteIf (was != is) [.irq 0x02 1] ++
  noteIf (was && !is) [.raise (if d.val = 3 ∨ d.val = 4 then Src.CLK_MONCRIT else Src.CLK_MON)]

/-- The clock logic after a window: a domain reported running frees the crossings towards it, and a hold-and-flag crossing that was
STALLED launches its newest value 2ρ later (12 R453); `ρ` is that of CD_TIME and the domain. -/
def Clk.window (c : Clk) (d : Fin 8) (m : Monitor) (ρ now : Nat) : Clk :=
  let frees := m.running && !(c.mon[d]).running
  let held := c.stalled.any (fun x => x.far == d && x.live == 4 && x.kind == .holdAndFlag)
  { c with
    mon := c.mon.set d m
    stalled := if frees then c.stalled.filter (fun x => x.far != d) else c.stalled
    settings := Vector.ofFn (fun i =>
      if frees && held && settingsFar i == d then (c.settings[i]).restart (now + 2 * ρ) else c.settings[i]) }

/-- A clock monitor's windows end. -/
def State.clockWindow (w : ClockWindow) (s : State) : State :=
  let m := (s.clk.mon[w.dom]).window (s.monMasked w.dom) (windowBad w.edges (s.nominal w.dom)) w.khz
  { s with clk := s.clk.window w.dom m (s.roundTrip 4 w.dom) s.now }.report (monNotes w.dom (s.clk.mon[w.dom]).running m.running)

/-- CLOCK_MONITOR_WINDOW (12 R435). -/
def execClockMonitorWindow (t : Nat) (w : ClockWindow) (s : State) : Host.Outcome State Fault Refusal :=
  onCore t s (State.clockWindow w)

/-- CLK_STALLINFO for a crossing (12 R456). -/
def Crossing.word (c : Crossing) : Word :=
  at32 0 c.live.val ||| at32 4 c.far.val ||| at32 8 (match c.kind with | .holdAndFlag => 0 | .fifo => 1)

/-- What an entry to STALLED counts and raises, and the abandoned transactions (12 R452, R456, R457). -/
def stallNotes (c : Crossing) (lost : List Req) : List Note :=
  [.irq 0x02 0, .raise Src.CDC_STALL, .count Reg.CLK_STALLCNT 1, .word Reg.CLK_STALLINFO c.word] ++
  noteIf (c.kind == .fifo) (lost.flatMap errorAccess)

/-- Upstream requests ended as error accesses where they still wait (12 R452, 13 R463). -/
def endUpstream (l : List UpReq) : List UpReq :=
  l.map (fun r => if r.res = .waiting then { r with res := .error } else r)

/-- The outstanding transfers abandoned in the state (12 R452). -/
def HostPort.stallAt (h : HostPort) (c : Crossing) : HostPort :=
  if c.far.val = 0 ∧ c.kind = .fifo then { h with up := endUpstream h.up } else h

/-- A crossing enters STALLED; a hold-and-flag crossing keeps HOLD, PENDING and what it has delivered (12 R452). -/
def State.stallCrossing (c : Crossing) (lost : List Req) (s : State) : State :=
  { s with
    clk := { s.clk with stalled := s.clk.stalled ++ [c], settings := Vector.ofFn s.settingsAt }
    host := s.host.stallAt c }.report (stallNotes c lost)

/-- The transfer of a crossing that carries the active settings is not outstanding for 64 ticks (12 R451). -/
def State.settingsYoung (s : State) (c : Crossing) : Bool :=
  c.kind == .holdAndFlag && c.live == 4 && (List.finRange 3).any (fun i => settingsFar i == c.far && !(s.settingsAt i).trips s.now)

/-- A crossing's stall timer may trip: it joins two domains, it is not STALLED already (12 R453), it is not held idle, as those of
CD_HOST are while the quad-SPI port is selected (12 R434), and its transfer is old enough where the model holds it (12 R451). -/
def State.mayStall (s : State) (c : Crossing) : Bool :=
  !(c.live == c.far) && !s.clk.stalled.contains c && !(s.host.portSpi && (c.live == 0 || c.far == 0)) && !s.settingsYoung c

/-- The transfer completes no later than in the sample of the trip: the timer does not trip (12 R438, R451). -/
def State.delivered (s : State) (ack : Option Nat) : Bool := (ack.map (fun t => decide (t / tick ≤ s.now / tick))).getD false

/-- CROSSING_STALL (12 R452): `lost` are the requesters whose transactions were outstanding on it, `ack` the instant at which the
acknowledgement, credit or response comes after all. -/
def execCrossingStall (t : Nat) (live far : Fin 8) (kind : CrossingKind) (lost : List Req) (ack : Option Nat) (s : State) :
    Host.Outcome State Fault Refusal :=
  onCore t s (fun s =>
    let c : Crossing := { live := live, far := far, kind := kind }
    s.when (s.mayStall c && !s.delivered ack) (State.stallCrossing c lost))

end Sys2Proof.Machine
end

