-- ==== Sys2Proof/Machine/LaneStream.lean ====
section
/-! DEFINITION. The blocks that the output lanes carry: 66-bit blocks and the scrambler (05 R188, R189), ordered sets (05 R192),
plane packets (04 R143), and the slots of a skein's lanes with their markers (04 R127–R133, 05 R193–R204). -/

namespace Sys2Proof.Machine

open Sys2Proof

/-! ### Check sums of blocks (04 R146) -/

/-- A block with the CRC-16 of its bytes 0–5 in D[63:48] (04 R133, R146). -/
def crcBlock (d : Nat) : Block := BitVec.ofNat 64 (d % 2 ^ 48 + crc16 (toBytesLE 6 d) * 2 ^ 48)

/-- The CRC-16 of a block is valid. -/
def Block.crcOk (b : BitVec 64) : Bool := fld b 48 16 == crc16 (toBytesLE 6 b.toNat)

/-- The CRC-32 of a packet's blocks, the last one's upper half left out (04 R143, R164). -/
def packetCrc (l : List Block) : Nat :=
  crc32 ((l.dropLast.flatMap (fun b => toBytesLE 8 b.toNat)) ++
    (match l.getLast? with | some b => toBytesLE 4 b.toNat | none => []))

/-! ### 66-bit blocks and the scrambler (04 R126; 05 R188, R189) -/

/-- A control block. -/
def ctrlBlock (d : Block) : Block66 := { ctrl := true, d := d }

/-- A data block. -/
def dataBlock (d : Block) : Block66 := { ctrl := false, d := d }

/-- Sync header H[1:0] (05 R188). -/
def syncHeader (b : Block66) : BitVec 2 := if b.ctrl then 0b10#2 else 0b01#2

/-- A sync header is valid (05 R190). -/
def hdrOk (h : BitVec 2) : Bool := h == 0b01#2 || h == 0b10#2

/-- A block as sent: bit 0 first, H[1:0] in bits 1 and 0, the payload above (05 R188). -/
def wireBits (h : BitVec 2) (payload : Block) : BitVec 66 := payload ++ h

/-- Payload bits in transmission order (05 R188). -/
def payloadBits (d : Block) : List Bool := (List.range 64).map (fun i => d.getLsbD i)

/-- The payload that bits in transmission order stand for. -/
def ofPayloadBits : List Bool → Nat
  | [] => 0
  | b :: r => b.toNat + 2 * ofPayloadBits r

/-- Taps of the scrambler over the last 58 scrambled bits, the latest in bit 0: S[k − 39] ⊕ S[k − 58] (05 R189). -/
def scrTaps (r : BitVec 58) : Bool := r.getLsbD 38 ^^ r.getLsbD 57

/-- The last 58 scrambled bits after one more. -/
def scrShift (r : BitVec 58) (b : Bool) : BitVec 58 := r <<< 1 ||| BitVec.ofNat 58 b.toNat

/-- Bits scrambled, oldest first, and what the scrambler then holds (05 R189). -/
def scrambleBits : BitVec 58 → List Bool → List Bool × BitVec 58
  | r, [] => ([], r)
  | r, d :: l =>
    let b := d ^^ scrTaps r
    let x := scrambleBits (scrShift r b) l
    (b :: x.1, x.2)

/-- Bits descrambled, oldest first, and what the descrambler then holds (05 R189). -/
def descrambleBits : BitVec 58 → List Bool → List Bool × BitVec 58
  | r, [] => ([], r)
  | r, b :: l =>
    let x := descrambleBits (scrShift r b) l
    ((b ^^ scrTaps r) :: x.1, x.2)

/-- A payload scrambled. -/
def scramble (r : BitVec 58) (d : Block) : Block × BitVec 58 :=
  let x := scrambleBits r (payloadBits d)
  (BitVec.ofNat 64 (ofPayloadBits x.1), x.2)

/-- Bit i of the parity of a payload: the bits D[b] with b mod 8 = i (05 R195). -/
def payloadParity (d : Block) : BitVec 8 :=
  (List.range 8).foldl (fun p i => p ^^^ BitVec.ofNat 8 (fld d (8 * i) 8)) 0

/-! ### Ordered sets, IDLE and packets -/

/-- The alignment marker of a skein lane with BIP and MCNT (05 R192, R194). -/
def markerBlock (lane bip : Nat) (mcnt : BitVec 24) : Block :=
  crcBlock (0x01 + lane % 8 * 2 ^ 8 + bip % 256 * 2 ^ 16 + mcnt.toNat * 2 ^ 24)

/-- LIDLE on a skein lane (05 R192). -/
def lidleBlock (lane : Nat) : Block := crcBlock (0x02 + lane % 8 * 2 ^ 8)

/-- EIE on a skein lane (05 R192). -/
def eieBlock (lane : Nat) : Block := crcBlock (0x03 + lane % 8 * 2 ^ 8)

/-- KIND of a burst (05 R192). -/
def Burst.code : Burst → Nat
  | .full => 0
  | .validate => 1
  | .fast => 2

/-- TRAIN blocks of a burst (05 R202). -/
def Burst.blocks : Burst → Nat
  | .full => 262144
  | .validate => 32768
  | .fast => 2048

/-- TRAIN on a skein lane with CNT blocks still to follow (05 R192). -/
def trainBlock (lane : Nat) (b : Burst) (cnt : Nat) : Block :=
  crcBlock (0x04 + lane % 8 * 2 ^ 8 + b.code * 2 ^ 13 + cnt % 2 ^ 18 * 2 ^ 16)

/-- IDLE (04 R133). -/
def idleBlock : Block := 0x20#64

/-- A control block that a receiver ignores: IDLE, or an ordered set of TYPE 0x00–0x0F, whatever its CRC-16 (04 R132, R133;
05 R192). -/
def ignoredBlock (b : Block66) : Bool := b.ctrl && (fld b.d 0 8 == 0x20 || decide (fld b.d 0 8 < 0x10))

/-- Data blocks of a share, bit b of block i being link position 64i + b (04 R143). -/
def shareData (share : List Bool) : List Block :=
  (List.range (share.length / 64)).map (fun i => BitVec.ofNat 64 (ofPayloadBits ((share.drop (64 * i)).take 64)))

/-- One plane packet; its CRC-32 inverted where the checker is armed (04 R143, R146; 16 R582). -/
def packetBlocks (a : Fin 16) (seq : BitVec 8) (off : Nat) (data : List Block) (spoil : Bool) : List Block66 :=
  let hdr : Block := BitVec.ofNat 64
    (0x10 + a.val * 2 ^ 8 + seq.toNat * 2 ^ 12 + off % 65536 * 2 ^ 20 + (data.length - 1) % 4096 * 2 ^ 36)
  let tail := 0x11 + a.val * 2 ^ 8 + seq.toNat * 2 ^ 12
  let crc := packetCrc (hdr :: data ++ [BitVec.ofNat 64 tail])
  let crc := if spoil then crc ^^^ 0xFFFFFFFF else crc
  ctrlBlock hdr :: data.map dataBlock ++ [ctrlBlock (BitVec.ofNat 64 (tail + crc * 2 ^ 32))]

/-- The packets of an array's share: ascending OFFSET with neither gap nor overlap, at most `pkt` data blocks each, the first `bad`
of them with the CRC-32 inverted (04 R145, 16 R582). -/
def sharePackets (pkt : Nat) (a : Fin 16) (seq : BitVec 8) (share : List Bool) (bad : Nat) : List Block66 :=
  let d := shareData share
  let p := max 1 pkt
  (List.range (divUp d.length p)).flatMap (fun i =>
    packetBlocks a seq (p * i) ((d.drop (p * i)).take p) (decide (i < bad)))

/-! ### One slot of a lane -/

/-- A block leaves on a lane: its payload scrambled, and counted in the parity (05 R189, R195). -/
def LineTx.send (x : LineTx) (b : Block66) : LineTx × List (BitVec 66) :=
  let y := scramble x.scr b.d
  ({ x with scr := y.2, bip := x.bip ^^^ payloadParity y.1 }, [wireBits (syncHeader b) y.1])

/-- A plan after one slot. -/
def planNext : List (LinePart × Nat) → List (LinePart × Nat)
  | [] => []
  | (p, n) :: r => if n ≤ 1 then r else (p, n - 1) :: r

/-- A slot of a lane that is no marker slot; `b` is what the skein stream brings it (05 R193, R211). -/
def LineTx.slot (x : LineTx) (b : Option Block66) : LineTx × List (BitVec 66) :=
  match x.plan with
  | (p, n) :: _ =>
    let y := { x with plan := planNext x.plan }
    match p with
    | .idle => (y, [])
    | .eie => y.send (ctrlBlock (eieBlock x.no))
    | .train k => y.send (ctrlBlock (trainBlock x.no k (n - 1)))
  | [] =>
    match x.fill with
    | .quiet => (x, [])
    | .lidle => x.send (ctrlBlock (lidleBlock x.no))
    | .stream => x.send (b.getD (ctrlBlock idleBlock))

/-- A lane transmits (05 R194). -/
def LineTx.sends (x : LineTx) : Bool :=
  match x.plan with
  | (.idle, _) :: _ => false
  | _ :: _ => true
  | [] => x.fill != .quiet

/-- A lane is not at rest. -/
def LineTx.alive (x : LineTx) : Bool := !x.plan.isEmpty || x.fill != .quiet

/-- A marker slot of a lane: AM where it transmits, and nothing else; electrical idle goes on (05 R194, R195). -/
def LineTx.marker (x : LineTx) (mcnt : BitVec 24) : LineTx × List (BitVec 66) :=
  if x.sends then
    let y := x.send (ctrlBlock (markerBlock x.no x.bip.toNat mcnt))
    ({ y.1 with bip := 0 }, y.2)
  else ({ x with plan := planNext x.plan }, [])

/-! ### One slot of a skein -/

/-- What the skein stream brings the lanes in a slot, by skein lane number: the oldest row that waits, or packet blocks striped over
the lanes in ascending order (04 R127, R128, R130). -/
def SkeinLine.take (x : SkeinLine) : SkeinLine × List (Nat × Block66) :=
  match x.rows with
  | r :: q => ({ x with rows := q, mask := r.next.getD x.mask }, (bitsOf r.mask 8).zip (r.copies.map ctrlBlock))
  | [] =>
    let l := bitsOf x.mask 8
    ({ x with pkts := x.pkts.drop l.length }, l.zip x.pkts)

/-- The lanes of a skein at one slot, with what each of them sends, newest first. -/
def LaneStream.lanesDo (k : Fin 4) (f : LineTx → LineTx × List (BitVec 66)) (x : LaneStream × List (Fin 8 × BitVec 66)) :
    LaneStream × List (Fin 8 × BitVec 66) :=
  outLanes.foldl (fun (x : LaneStream × List (Fin 8 × BitVec 66)) (l : Fin 8) =>
    if (x.1.line[l]).skein = k then
      let y := f (x.1.line[l])
      ({ x.1 with line := x.1.line.set l y.1 }, y.2.map (fun b => (l, b)) ++ x.2)
    else x) x

/-- A slot of a skein that is no marker slot (05 R185, R194). -/
def LaneStream.slot (k : Fin 4) (bt : Nat) (x : LaneStream × List (Fin 8 × BitVec 66)) : LaneStream × List (Fin 8 × BitVec 66) :=
  let q := (x.1.skein[k]).take
  let y := { x.1 with skein := x.1.skein.set k { q.1 with idx := q.1.idx + 1, at_ := q.1.at_ + bt } }
  LaneStream.lanesDo k (fun l => l.slot ((q.2.find? (fun z => z.1 == l.no)).map (fun z => z.2))) (y, x.2)

/-- A marker slot of a skein (05 R194). -/
def LaneStream.markerSlot (k : Fin 4) (bt : Nat) (mcnt : BitVec 24) (x : LaneStream × List (Fin 8 × BitVec 66)) :
    LaneStream × List (Fin 8 × BitVec 66) :=
  let q := x.1.skein[k]
  let y := { x.1 with skein := x.1.skein.set k { q with idx := q.idx + 1, at_ := q.at_ + bt } }
  LaneStream.lanesDo k (fun l => l.marker mcnt) (y, x.2)

/-- A lane of the skein is not at rest. -/
def LaneStream.alive (x : LaneStream) (k : Fin 4) : Bool :=
  outLanes.any (fun l => (x.line[l]).skein == k && (x.line[l]).alive)

/-- Slots from the next one to the next marker slot (05 R194). -/
def SkeinLine.toMarker (x : SkeinLine) : Nat := (16384 - x.idx % 16384) % 16384

/-- Slots that have passed at an instant, at least `least`, and none from a marker slot on, which MARKER_SLOT brings (DESIGN CHOICE,
log entry 95). -/
def SkeinLine.slotsDue (x : SkeinLine) (now bt least : Nat) : Nat := min (max ((now * 1000 - x.at_) / bt) least) x.toMarker

/-! ### The block's lanes -/

/-- What the lanes have sent, a lane at a time. -/
def wireNotes (l : List (Fin 8 × BitVec 66)) : List Note :=
  outLanes.flatMap (fun n =>
    let bs := (l.filter (fun x => x.1 == n)).map (fun x => x.2)
    noteIf (!bs.isEmpty) [.send (.wire n bs.reverse)])

/-- The slots of a skein up to now, and at least `least` of them. -/
def State.advance (k : Fin 4) (least : Nat) (s : State) : State :=
  if s.stream.alive k then
    let bt := blockTime s.rateCode
    let n := (s.stream.skein[k]).slotsDue s.now bt least
    let x := Nat.repeat (LaneStream.slot k bt) n (s.stream, [])
    { s with stream := x.1 }.report (wireNotes x.2)
  else s

/-- The marker slot of a skein, the slots before it first. -/
def State.markStream (k : Fin 4) (mcnt : BitVec 24) (s : State) : State :=
  if s.stream.alive k then
    let s := s.advance k 16383
    let x := LaneStream.markerSlot k (blockTime s.rateCode) mcnt (s.stream, [])
    { s with stream := x.1 }.report (wireNotes x.2)
  else s

/-- A skein's stream replaced. -/
def State.setSkeinLine (k : Fin 4) (x : SkeinLine) (s : State) : State :=
  { s with stream := { s.stream with skein := s.stream.skein.set k x } }

/-- A lane's transmitter replaced. -/
def State.setLine (l : Fin 8) (x : LineTx) (s : State) : State := { s with stream := { s.stream with line := s.stream.line.set l x } }

/-- A row waits for its slot (04 R128). -/
def State.queueRow (k : Fin 4) (r : RowSlot) (s : State) : State :=
  let s := s.advance k 0
  s.setSkeinLine k { s.stream.skein[k] with rows := (s.stream.skein[k]).rows ++ [r] }

/-- Packets wait for their stream positions (04 R143). -/
def State.queuePackets (k : Fin 4) (l : List Block66) (s : State) : State :=
  let s := s.advance k 0
  s.setSkeinLine k { s.stream.skein[k] with pkts := (s.stream.skein[k]).pkts ++ l }

/-- Packets that have not left are not sent (17 R609). -/
def State.stopPackets (k : Fin 4) (s : State) : State :=
  let s := s.advance k 0
  s.setSkeinLine k { s.stream.skein[k] with pkts := [] }

/-- Blocks that a lane buffer holds (08 R304). -/
def laneBufferBlocks : Nat := 256

/-- The lane buffer of skein lane j: the next blocks that the stream brings that lane (04 R127, 08 R304). -/
def SkeinLine.laneBuffer (x : SkeinLine) (j : Nat) : List Block66 :=
  let l := bitsOf x.mask 8
  (((x.pkts.zipIdx.filter (fun y => l[y.2 % l.length]? == some j)).map (fun y => y.1)).take laneBufferBlocks)

/-- Segments 5 to 7 are reset: what is not yet in the lane buffers is not sent (08 R304, R311). -/
def State.bufferedOnly (k : Fin 4) (s : State) : State :=
  let s := s.advance k 0
  let x := s.stream.skein[k]
  s.setSkeinLine k { x with pkts := x.pkts.take (laneBufferBlocks * (bitsOf x.mask 8).length) }

/-- The stream of a skein with no lane left in service: nothing waits any more. -/
def State.endStream (k : Fin 4) (s : State) : State :=
  let s := s.advance k 0
  s.setSkeinLine k { s.stream.skein[k] with mask := 0, rows := [], pkts := [] }

/-- Slots that an interval lasts, rounded up. -/
def slotsFor (ticks rate : Nat) : Nat := divUp (ticks * 1000) (blockTime rate)

/-- A lane of skein k, its number there `no`, carries a plan and then `fill`. From electrical idle its scrambler starts with what it
holds (05 R189, log entry 24); the slots of a skein whose lanes were all at rest start now. -/
def State.putLine (l : Fin 8) (k : Fin 4) (no : Nat) (plan : List (LinePart × Nat)) (fill : LineFill) (s : State) : State :=
  let s := (s.advance (s.stream.line[l]).skein 0).advance k 0
  let x := s.stream.line[l]
  let s := if s.stream.alive k then s else s.setSkeinLine k { s.stream.skein[k] with at_ := s.now * 1000 }
  let x := if x.alive then x else { x with scr := Config.scrambler l.val s.now, bip := 0 }
  s.setLine l { x with skein := k, no := no, plan := plan, fill := fill }

end Sys2Proof.Machine
end

