-- ==== Sys2Proof/Machine/Link.lean ====
section
/-! DEFINITION. Row commands of the Silesta Array Link (04 R127–R146), and its skeins and arrays. -/

namespace Sys2Proof.Machine

open Sys2Proof

/-! ### Row commands -/

/-- The row commands with their type-specific fields (04 R134). -/
inductive Row where
  | tick (fn : BitVec 8)
  | frame (fn : BitVec 8) (lmask : BitVec 8) (apply : Bool) (fine : Nat)
  | show (seq : BitVec 8) (rng : Nat) (mask : BitVec 16) (fine : Nat)
  | dark (seq : BitVec 8) (mask : BitVec 16) (fine : Nat)
  | lanes (lmask : BitVec 8)
  | range (addr rng code : Nat)
  | poll (addr kind : Nat) (wack : Bool) (pseq : BitVec 8) (fack reg : Nat)
  | arw (addr reg data : Nat)
  deriving DecidableEq, Repr

/-- TYPE of a row command (04 R132). -/
def Row.type : Row → Nat
  | .tick _ => 0x21
  | .frame _ _ _ _ => 0x22
  | .show _ _ _ _ => 0x23
  | .dark _ _ _ => 0x24
  | .lanes _ => 0x25
  | .range _ _ _ => 0x26
  | .poll _ _ _ _ _ _ => 0x27
  | .arw _ _ _ => 0x28

/-- Type-specific fields of a row command in place (04 R134). -/
def Row.fields : Row → Nat
  | .tick fn => fn.toNat * 2 ^ 12
  | .frame fn lm ap fine => fn.toNat * 2 ^ 12 + lm.toNat * 2 ^ 20 + ap.toNat * 2 ^ 28 + fine % 256 * 2 ^ 40
  | .show seq rng mask fine => seq.toNat * 2 ^ 12 + rng % 4 * 2 ^ 20 + mask.toNat * 2 ^ 24 + fine % 256 * 2 ^ 40
  | .dark seq mask fine => seq.toNat * 2 ^ 12 + mask.toNat * 2 ^ 24 + fine % 256 * 2 ^ 40
  | .lanes lm => lm.toNat * 2 ^ 20
  | .range addr rng code => addr % 16 * 2 ^ 12 + rng % 4 * 2 ^ 16 + code % 65536 * 2 ^ 20
  | .poll addr kind wack pseq fack reg =>
    addr % 16 * 2 ^ 12 + kind % 4 * 2 ^ 16 + wack.toNat * 2 ^ 18 + pseq.toNat * 2 ^ 20 + fack % 16 * 2 ^ 28 +
      reg % 65536 * 2 ^ 32
  | .arw addr reg data => addr % 16 * 2 ^ 12 + reg % 65536 * 2 ^ 16 + data % 65536 * 2 ^ 32

/-- The copy of a row command on skein lane `lane` (04 R128, R133). -/
def Row.block (r : Row) (lane : Nat) : Block := crcBlock (r.type + lane % 8 * 2 ^ 8 + r.fields)

/-- A block with its CRC-16 inverted (16 R582). -/
def spoilt (b : Block) : Block := b ^^^ 0xFFFF000000000000

/-- The copies of a row command on the lanes of LMASK (04 R127, R128), the CRC-16 inverted in all copies or in that on
the lowest lane where the checker is armed (16 R582). -/
def rowCopies (lmask : BitVec 8) (r : Row) (mode : Nat) : List Block :=
  match bitsOf lmask 8 with
  | [] => []
  | j :: q => (if mode = 0 then r.block j else spoilt (r.block j)) ::
      q.map (fun i => if mode = 2 then spoilt (r.block i) else r.block i)

/-- LMASK that a row command puts in force from the next row (04 R134). -/
def Row.nextMask : Row → Option (BitVec 8)
  | .frame _ lm _ _ => some lm
  | .lanes lm => some lm
  | _ => none

/-- A row command on a skein (04 R128), which takes the next slot. -/
def State.sendRow (k : Fin 4) (lmask : BitVec 8) (r : Row) (s : State) : State :=
  if lmask = 0 then s
  else
    let copies := rowCopies lmask r (s.injMode 8)
    (s.queueRow k { mask := lmask, copies := copies, next := r.nextMask }).useInj 8 |>.report
      (copies.map (fun b => .send (.row k b)))

/-- FINE of a timed row: what is left of its instant depends on where row boundaries fall, which the spec leaves to the
stream (04 R135). The n-th use in one command reads the n-th free value from here. -/
def State.fine (s : State) (n : Nat) : Nat := Config.freeValue (s.free + n) % 256

/-! ### Skeins and arrays -/

/-- Skein lane number of an output lane in a reading of register words (05 R206). -/
def skLane (f : Nat → Word) (n : Nat) : Nat := n - skeinBase f (laneAt f n).skein

/-- Lanes set in a mask. -/
def laneCount (m : BitVec 8) : Nat := (bitsOf m 8).length

/-- Entries of the driving maps, and every other enabled entry of the active array map (04 R161). -/
def State.linkEntries (s : State) : List ArrEntry :=
  let d := s.drivingAll
  d ++ (entriesOf s.active).filter (fun e => !d.any (fun x => x.n == e.n))

/-- The link entry of an array. -/
def State.linkEntry (s : State) (a : Fin 16) : Option ArrEntry := s.linkEntries.find? (fun e => e.n == a)

/-- Surface mode of an entry's surface, for a link entry. -/
def State.entryMode (s : State) (e : ArrEntry) : Bool :=
  let u : Fin 2 := if e.surf = 0 then 0 else 1
  if (s.driving u).any (fun x => x.n == e.n) then (s.surfShown u).surfMode else (s.surfNow u).surfMode

/-- Bits of arrays that entries on skein k name. -/
def arrayBits (l : List ArrEntry) (k : Nat) : BitVec 16 :=
  (l.filter (fun e => e.skein == k)).foldl (fun m e => setBit m e.n.val) 0

/-- Bits of the READY arrays of entries on skein k. -/
def State.readyBits (s : State) (l : List ArrEntry) (k : Nat) : BitVec 16 :=
  arrayBits (l.filter (fun e => (s.arr[e.n]).ready)) k

/-- Range that a plane shows with: the surface's stitch or trim range (04 R138). -/
def rangeOf (l : List ArrEntry) (p : PlaneKind) : Nat :=
  match l, p with
  | e :: _, .stitch _ => e.strRng
  | e :: _, .trim _ => e.trmRng
  | [], _ => 0

/-- RANGE rows of an entry for stitch and trim range at trim ratio q (04 R180). -/
def rangeRows (e : ArrEntry) (q : Nat) : List Row :=
  [.range e.n.val e.strRng e.iStitch, .range e.n.val e.trmRng (e.iStitch / q)]

end Sys2Proof.Machine
end

