-- ==== Sys2Proof/Machine/ArrayTemp.lean ====
section
/-! DEFINITION. The temperature of an array as the tile model takes it (15 R551). -/

namespace Sys2Proof.Machine

open Sys2Proof

/-- TA_HI of the GPR in force, 200 °C while none is (15 R551, 17 R618). -/
def State.taHi (s : State) : Int := if s.glade.hasGpr then signed 16 (s.glade.gp 0x028 0 16) else 3200

/-- TEMP of a status word 0 in 1/16 °C. -/
def tempOf (w0 : Block) : Int := (fld w0 32 10 : Int) * 4 - 1024

/-- TA_HI takes the place of an array's temperature (15 R551). -/
def State.hotArray (s : State) (a : Fin 16) : Bool :=
  let x := s.arr[a]
  !x.ready || !bit s.tile.fresh a.val || decide (tempOf x.w0 < -640) || decide (3200 < tempOf x.w0) || bit x.w0 17

/-- tarr and DEF of an array brought up to date; an entry to TA_HI raises THM_ATEMP (15 R551). -/
def State.atemp (a : Fin 16) (s : State) : State :=
  let hot := s.hotArray a
  { s with tile := { s.tile with
      tarr := s.tile.tarr.set a (if hot then s.taHi else tempOf (s.arr[a]).w0)
      atempDef := putBit s.tile.atempDef a.val hot } }.report
    (noteIf (hot && !bit s.tile.atempDef a.val) [.raise Src.THM_ATEMP])

/-- No status response from an array has been accepted for 1 ms. -/
def State.tempStale (a : Fin 16) (s : State) : State :=
  State.atemp a { s with tile := { s.tile with fresh := clearBit s.tile.fresh a.val } }

/-- A status response to a poll of the array is registered in this sample (12 R438). -/
def State.answering (s : State) (a : Fin 16) : Bool :=
  s.awaits (fun c => match c with
    | .statusResponse _ b _ => (s.ret[b]).poll.any (fun p => p.addr == a && p.kind == 0)
    | _ => false)

/-- ARRAY_TEMP_STALE (15 R551): nothing where a status response is registered in the same sample. -/
def execArrayTempStale (t : Nat) (a : Fin 16) (s : State) : Host.Outcome State Fault Refusal :=
  onCore t s (fun s => s.when ((s.linkEntry a).isSome && !s.hasCome (Awaited.status a).key && !s.answering a) (State.tempStale a))

end Sys2Proof.Machine
end

