-- ==== Sys2Proof/Machine/FrameStore.lean ====
section
/-! DEFINITION. The frame store banks and the emitter health map: error correction, host accesses, health sets and
clears (03 R72–R98). -/

namespace Sys2Proof.Machine

open Sys2Proof

/-! ### Stores with check bits -/

/-- A byte of a store whose unwritten bytes read 0. -/
def Store.byte (x : Store) (a : Nat) : Byte := Memory.read zeroByte x.cells a

/-- A little-endian field of `n` bytes of a store. -/
def Store.le (x : Store) (a n : Nat) : Nat := ofBytesLE (Memory.readN zeroByte x.cells a n)

/-- A rising list of numbers without one of them. -/
def removeNat (x : Nat) (l : List Nat) : List Nat := l.filter (fun y => y != x)

/-- 64-bit words that `n` bytes from an address touch. -/
def wordsOf (a n : Nat) : List Nat := if n = 0 then [] else (List.range ((a + n - 1) / 8 - a / 8 + 1)).map (· + a / 8)

/-- The words written wholly or in part: check bits valid again, and the bytes of an uncorrectable word taken as
`dead` (03 R84, R92). -/
def Store.repair (x : Store) (dead : Byte) (d : Nat → Byte) (ws : List Nat) : Store :=
  { cells := ws.foldl (fun m w => if x.ue.contains w then Memory.writeL d m (8 * w) (List.replicate 8 dead) else m) x.cells
    ce := x.ce.filter (fun w => !ws.contains w)
    ue := x.ue.filter (fun w => !ws.contains w) }

/-- A byte string written into a store as whole words with valid check bits. -/
def Store.write (x : Store) (dead : Byte) (d : Nat → Byte) (a : Nat) (l : List Byte) : Store :=
  let y := x.repair dead d (wordsOf a l.length)
  { y with cells := Memory.writeL d y.cells a l }

/-- An upset of a word (03 R79). -/
def Store.upset (x : Store) (w : Nat) (multi : Bool) : Store :=
  if multi then { x with ue := insertNat w x.ue, ce := removeNat w x.ce }
  else if x.ue.contains w then x
  else { x with ce := insertNat w x.ce }

/-- Words of a list that lie in a range of bytes. -/
def inBytes (lo hi : Nat) (l : List Nat) : List Nat := l.filter (fun w => decide (lo < 8 * w + 8) && decide (8 * w < hi))

/-- A store whose words in a range of bytes have been read for planes: corrected words written back, uncorrectable ones
written 0 (03 R80, R81). -/
def Store.sweep (x : Store) (lo hi : Nat) : Store :=
  { x.repair 0 zeroByte (inBytes lo hi x.ue) with ce := x.ce.filter (fun w => !(inBytes lo hi x.ce).contains w) }

/-! ### Frame store banks -/

/-- A bank. -/
def State.bank (s : State) (b : Bool) : Store := if b then s.bank1 else s.bank0

/-- A bank put in place. -/
def State.setBank (b : Bool) (x : Store) (s : State) : State := if b then { s with bank1 := x } else { s with bank0 := x }

/-- The code of an emitter in a store of two bytes per emitter (01 R20). -/
def Store.code (x : Store) (n : Nat) : Nat := x.le (2 * n) 2

/-- What a plane's reads of a range of a bank report (03 R80, R81, R118). -/
def sweepNotes (x : Store) (b : Bool) (lo hi : Nat) : List Note :=
  (inBytes lo hi x.ce).flatMap (fun _ => [.tally Reg.ST_FS_CE 1, .raise Src.FS_CE]) ++
  (inBytes lo hi x.ue).flatMap (fun w => [.tally Reg.ST_FS_UE 1, .raise Src.FS_UE,
    .word Reg.ST_FS_UEADDR (at32 0 (4 * w) ||| flag32 24 b)])

/-- The words that a plane share reads from a bank are checked. -/
def State.sweepBank (b : Bool) (lo hi : Nat) (s : State) : State :=
  (s.setBank b ((s.bank b).sweep lo hi)).report (sweepNotes (s.bank b) b lo hi)

/-- Colours of the entry as surface u's driving map or active map has it. -/
def State.entryHolds (s : State) (u : Fin 2) (n : Nat) : Bool :=
  (s.driving u).any (fun e => e.holds (s.surfShown u).k n) || (s.activeEntries u).any (fun e => e.holds (s.surfNow u).k n)

/-- The emitter belongs to a driven surface. -/
def State.emitterDriven (s : State) (n : Nat) : Bool := surfaces.any (fun u => s.driven u && s.entryHolds u n)

/-- Bank and byte in the bank of a frame store window address (13 R476). -/
def bankAt (a : Nat) : Bool × Nat := (a / 0x800000 % 2 = 1, a % 0x800000)

/-- One byte of a host write to the frame store, where its emitter belongs to no driven surface (03 R84). -/
def State.putFrameByte (s : State) (a : Nat) (b : Byte) : State :=
  if s.emitterDriven ((bankAt a).2 / 2) then s
  else s.setBank (bankAt a).1 ((s.bank (bankAt a).1).write 0 zeroByte (bankAt a).2 [b])

/-- A byte string written to the frame store. -/
def State.putFrame : Nat → List Byte → State → State
  | _, [], s => s
  | a, b :: r, s => State.putFrame (a + 1) r (s.putFrameByte a b)

/-- A byte of the write falls on a driven surface. -/
def State.hitsDriven (s : State) (a : Nat) (l : List Byte) : Bool :=
  (List.range l.length).any (fun i => s.emitterDriven ((bankAt (a + i)).2 / 2))

/-- BAR2_FRAME_STORE_WRITE (03 R84). -/
def execBar2FrameStoreWrite (t : Nat) (_req : Req) (addr : Nat) (data : List Byte) (s : State) :
    Host.Outcome State Fault Refusal :=
  onCore t s (fun s => (s.putFrame addr data).report (noteIf (s.hitsDriven addr data) [.raise Src.FS_HWR]))

/-! ### Emitter health map -/

/-- The health bit of an emitter; an uncorrectable word is taken as ones (03 R92). -/
def State.healthBit (s : State) (n : Nat) : Bool :=
  s.health.ue.contains (n / 64) || bit (s.health.byte (n / 8)) (n % 8)

/-- The health map with a byte written; an uncorrectable word starts from ones (03 R92). -/
def State.putHealth (a : Nat) (b : Byte) (s : State) : State :=
  { s with health := s.health.write 0xFF zeroByte a [b], healthSeen := removeNat (a / 8) s.healthSeen }

/-- A health byte as the Stitcher takes it. -/
def State.healthByte (s : State) (a : Nat) : Byte := if s.health.ue.contains (a / 8) then 0xFF else s.health.byte a

/-- What reads of a range of bytes of the health map report (03 R92). -/
def State.healthNotes (s : State) (lo hi : Nat) : List Note :=
  (inBytes lo hi s.health.ce).flatMap (fun _ => [.raise Src.HM_CE]) ++
  ((inBytes lo hi s.health.ue).filter (fun w => !s.healthSeen.contains w)).flatMap (fun _ => [.raise Src.HM_UE])

/-- The words of a range of bytes of the health map are read: corrected ones written back, errors reported. -/
def State.sweepHealth (lo hi : Nat) (s : State) : State :=
  { s with
    health := { s.health with ce := s.health.ce.filter (fun w => !(inBytes lo hi s.health.ce).contains w) }
    healthSeen := (inBytes lo hi s.health.ue).foldl (fun l w => insertNat w l) s.healthSeen }.report (s.healthNotes lo hi)

/-- Check bits of written health words inverted by an armed checker (16 R582). -/
def State.spoilHealth (ws : List Nat) (s : State) : State :=
  s.injWords 2 (fun w multi s => { s with health := s.health.upset w multi }) ws

/-- Emitters whose health bits have been set in this tick (03 R95). -/
def State.setNowHealth (s : State) : List Nat := if s.healthSetAt = s.now / 64 then s.healthSet else []

/-- A set of an emitter's health bit noted for a clear that falls on the same boundary (03 R95). -/
def State.noteSet (n : Nat) (s : State) : State :=
  { s with healthSetAt := s.now / 64, healthSet := insertNat n s.setNowHealth }

/-- A health bit set: its word is read, its errors reported, and written back (03 R92, R93). -/
def State.setHealth (n : Nat) (s : State) : State :=
  ((s.sweepHealth (n / 8) (n / 8 + 1)).putHealth (n / 8) (setBit (s.healthByte (n / 8)) (n % 8))).noteSet n

/-- A health bit cleared, its word read and written back (03 R92, R94). -/
def State.clearHealth (n : Nat) (s : State) : State :=
  (s.sweepHealth (n / 8) (n / 8 + 1)).putHealth (n / 8) (clearBit (s.healthByte (n / 8)) (n % 8))

/-- ST_HM_SET (03 R93). -/
def execStHmSet (t : Nat) (req : Req) (v : Word) (s : State) : Host.Outcome State Fault Refusal :=
  onCore t s (State.access req 0x2C (fun s => (s.setHealth (fld v 0 22)).spoilHealth [fld v 0 22 / 64]))

/-- A clear queued, or discarded when the queue is full (03 R94). -/
def State.queueClear (n : Nat) (s : State) : State :=
  if s.clearQ.length < 16 then { s with clearQ := s.clearQ ++ [n] }
  else s.report [.bits Reg.ST_HM_STAT 0x100, .raise Src.HM_CLROVF]

/-- ST_HM_CLR (03 R94). -/
def execStHmClr (t : Nat) (req : Req) (v : Word) (s : State) : Host.Outcome State Fault Refusal :=
  onCore t s (State.access req 0x2C (State.queueClear (fld v 0 22)))

/-- An enabled entry of the active array map covers the emitter. -/
def State.covered (s : State) (n : Nat) : Bool :=
  surfaces.any (fun u => (s.activeEntries u).any (fun e => e.holds (s.surfNow u).k n))

/-- A queued clear falls due at a boundary of surface u (03 R94). -/
def State.clearDue (s : State) (u : Fin 2) (n : Nat) : Bool := !s.covered n || s.entryHolds u n

/-- The queued clears of a surface applied at its boundary, but for bits that are set on it (03 R94, R95). -/
def State.applyClears (u : Fin 2) (s : State) : State :=
  let due := s.clearQ.filter (fun n => s.clearDue u n && !s.setNowHealth.contains n)
  { due.foldl (fun s n => s.clearHealth n) s with clearQ := s.clearQ.filter (fun n => !s.clearDue u n) }

/-- Bits of a health byte whose emitters belong to a driven surface. -/
def State.drivenBits (s : State) (a : Nat) : Byte :=
  (List.range 8).foldl (fun m i => if s.emitterDriven (8 * a + i) then setBit m i else m) 0

/-- One byte of a BAR2 write to the health map: ORed in where the surface is driven, else as given (03 R93). -/
def State.mergeHealth (a : Nat) (b : Byte) (s : State) : State :=
  ((List.range 8).filter (fun i => bit b i)).foldl (fun (s : State) i => s.noteSet (8 * a + i))
    (s.putHealth a (b ||| (s.healthByte a &&& s.drivenBits a)))

/-- A byte string written to the health map. -/
def State.mergeHealthL : Nat → List Byte → State → State
  | _, [], s => s
  | a, b :: r, s => State.mergeHealthL (a + 1) r (s.mergeHealth a b)

/-- A BAR2 write of `n` bytes from byte `a` replaces word w of the health map whole, no bit of it belonging to a driven
surface. -/
def State.replacesWord (s : State) (a n w : Nat) : Bool :=
  decide (a ≤ 8 * w) && decide (8 * w + 8 ≤ a + n) && (List.range 8).all (fun i => s.drivenBits (8 * w + i) == 0)

/-- A BAR2 write to the health map: the words that it changes in part are read first (03 R92, R93). -/
def State.writeHealth (a : Nat) (l : List Byte) (s : State) : State :=
  ((((wordsOf a l.length).filter (fun w => !s.replacesWord a l.length w)).foldl (fun (s : State) w =>
    s.sweepHealth (8 * w) (8 * w + 8)) s).mergeHealthL a l).spoilHealth (wordsOf a l.length)

/-- BAR2_HEALTH_MAP_WRITE (03 R93): the address counts from the map's first byte, modulo its 512 KiB. -/
def execBar2HealthMapWrite (t : Nat) (_req : Req) (addr : Nat) (data : List Byte) (s : State) :
    Host.Outcome State Fault Refusal :=
  onCore t s (State.writeHealth (addr % 0x80000) data)

end Sys2Proof.Machine
end

