-- ==== Sys2Proof/Machine/Fallback.lean ====
section
/-! DEFINITION. The fallback store's pattern and its expander (17 R621–R624). -/

namespace Sys2Proof.Machine

open Sys2Proof

/-- The pattern header of a surface (17 R621). -/
structure Pattern where
  /-- Offset of the header. -/
  at_ : Nat
  /-- log2 of the cell width. -/
  a : Nat
  /-- log2 of the cell height. -/
  b : Nat
  /-- INTERP. -/
  interp : Bool
  /-- PAL_OFS. -/
  pal : Nat
  /-- CELL_OFS. -/
  cells : Nat
  /-- NCX. -/
  ncx : Nat
  /-- NCY. -/
  ncy : Nat
  deriving DecidableEq, Repr

/-- A 32-bit word of the fallback store. -/
def Glade.fbWord (g : Glade) (off : Nat) : Nat := ofBytesLE (Memory.readN (fun _ => 0) g.fb.cells off 4)

/-- The pattern header of surface u (17 R621). -/
def Glade.pattern (g : Glade) (u : Nat) : Pattern :=
  let w0 := BitVec.ofNat 32 (g.fbWord (0x20 * u))
  let w1 := BitVec.ofNat 32 (g.fbWord (0x20 * u + 4))
  let w2 := BitVec.ofNat 32 (g.fbWord (0x20 * u + 8))
  { at_ := 0x20 * u, a := fld w0 0 2 + 2, b := fld w0 2 2 + 2, interp := bit w0 4, pal := fld w1 0 16, cells := fld w1 16 16,
    ncx := fld w2 0 13, ncy := fld w2 16 13 }

/-- A byte of the fallback store. -/
def Glade.fbByte (g : Glade) (a : Nat) : Byte := Memory.read (fun _ => 0) g.fb.cells a

/-- Palette index of a cell. -/
def Glade.cell (g : Glade) (p : Pattern) (i j : Nat) : Nat := (g.fbByte (p.cells + p.ncx * j + i)).toNat

/-- Light code of a palette entry. -/
def Glade.palette (g : Glade) (p : Pattern) (c : Nat) : Nat := ofBytesLE (Memory.readN (fun _ => 0) g.fb.cells (p.pal + 2 * c) 2)

/-- Light code of a cell. -/
def Glade.cellCode (g : Glade) (p : Pattern) (i j : Nat) : Nat := g.palette p (g.cell p i j)

/-- Cell and fraction of one axis: pixel x, cells of 2^a pixels, n cells (17 R622). -/
def Pattern.axis (x a n : Nat) : Nat × Nat :=
  let h := 2 * x + 1 - 2 ^ a
  let i := h / 2 ^ (a + 1)
  if n - 1 ≤ i then (n - 1, 0) else (i, h * 256 / 2 ^ (a + 1) % 256)

/-- The cells that pixel (x, y) draws on (17 R622). -/
def Pattern.cellsOf (p : Pattern) (x y : Nat) : List (Nat × Nat) :=
  if p.interp then
    let i := (Pattern.axis x p.a p.ncx).1
    let j := (Pattern.axis y p.b p.ncy).1
    let i1 := min (i + 1) (p.ncx - 1)
    let j1 := min (j + 1) (p.ncy - 1)
    [(i, j), (i1, j), (i, j1), (i1, j1)]
  else [(x / 2 ^ p.a, y / 2 ^ p.b)]

/-- fb_lc(u, x, y) (17 R622). -/
def Glade.fbCode (g : Glade) (p : Pattern) (x y : Nat) : Nat :=
  match p.cellsOf x y with
  | [c0, c1, c2, c3] =>
    let fx := (Pattern.axis x p.a p.ncx).2
    let fy := (Pattern.axis y p.b p.ncy).2
    let v := fun (c : Nat × Nat) => g.cellCode p c.1 c.2
    (v c0 * (256 - fx) * (256 - fy) + v c1 * fx * (256 - fy) + v c2 * (256 - fx) * fy + v c3 * fx * fy + 32768) / 65536
  | [c] => g.cellCode p c.1 c.2
  | _ => 0

/-- The 16-bit words that serve pixel (x, y): its header's, its cells' and their palette entries' (17 R624). -/
def Glade.fbWords (g : Glade) (p : Pattern) (x y : Nat) : List Nat :=
  (List.range 6).map (fun i => p.at_ / 2 + i) ++
  (p.cellsOf x y).flatMap (fun c => [(p.cells + p.ncx * c.2 + c.1) / 2, p.pal / 2 + g.cell p c.1 c.2])

/-- A word that serves the pixel fails its parity (17 R624). -/
def Glade.fbDark (g : Glade) (p : Pattern) (x y : Nat) : Bool :=
  !g.fbBad.isEmpty && (g.fbWords p x y).any (fun w => g.fbBad.contains w)

/-! ### Checks at load (17 R620, R621, R623) -/

/-- NCX or NCY of a surface size. -/
def cellCount (n a : Nat) : Nat := divUp n (2 ^ a)

/-- The reserved bits of a pattern header are 0 (17 R621). -/
def Glade.headerClean (g : Glade) (u : Nat) : Bool :=
  g.fbWord (0x20 * u) / 32 == 0 && fld (BitVec.ofNat 32 (g.fbWord (0x20 * u + 8))) 13 3 == 0 &&
    fld (BitVec.ofNat 32 (g.fbWord (0x20 * u + 8))) 29 3 == 0 &&
    (List.range 5).all (fun i => g.fbWord (0x20 * u + 12 + 4 * i) == 0)

/-- NCX and NCY of a surface's header follow their formulas (17 R621). -/
def Glade.headerCells (g : Glade) (u : Nat) : Bool :=
  let p := g.pattern u
  let z := gprSize g.gpr u
  p.ncx == cellCount z.w p.a && p.ncy == cellCount z.h p.b

/-- Palette and grid of a surface lie in the pattern (17 R621). -/
def Glade.headerFits (g : Glade) (u : Nat) : Bool :=
  let p := g.pattern u
  decide (p.pal + 512 ≤ g.fbLen) && decide (p.cells + p.ncx * p.ncy ≤ g.fbLen)

/-- A cell's code reaches a stitch (17 R623). -/
def Glade.cellLit (g : Glade) (p : Pattern) (t i j : Nat) : Bool := decide (2 ^ t ≤ g.cellCode p i j)

/-- A hot cell (17 R623). -/
def Glade.hotCell (g : Glade) (p : Pattern) (t i j : Nat) : Bool :=
  g.cellLit p t i j ||
  (p.interp && (List.range 3).any (fun di => (List.range 3).any (fun dj =>
    decide (1 ≤ i + di) && decide (i + di ≤ p.ncx) && decide (1 ≤ j + dj) && decide (j + dj ≤ p.ncy) &&
      g.cellLit p t (i + di - 1) (j + dj - 1))))

/-- Emitters of an entry that lie in hot cells (17 R623). -/
def Glade.hotEmitters (g : Glade) (e : ArrEntry) : Nat :=
  let p := g.pattern e.surf
  let t := trimsOf (gprMod g.gpr e.surf).sSel
  let k := (gprSize g.gpr e.surf).k
  ((List.range (e.w * e.h)).filter (fun i =>
    g.hotCell p t ((e.x0 + i % e.w) / 2 ^ p.a) ((e.y0 + i / e.w) / 2 ^ p.b))).length * k

/-- CEIL_a of the GPR (17 R618). -/
def gprCeil (gpr : List Byte) (a : Nat) : Nat := fld (gprWord gpr (0x180 + 4 * a)) 0 23

/-- The pattern in the store passes its check (17 R621, R623). -/
def Glade.patternOk (g : Glade) : Bool :=
  ([0, 1] : List Nat).all (fun u => g.headerClean u && g.headerCells u && (!gprEn g.gpr u || g.headerFits u)) &&
    (gprEntries g.gpr).all (fun e => gprCeil g.gpr e.n == 0 || decide (g.hotEmitters e ≤ gprCeil g.gpr e.n))

end Sys2Proof.Machine
end

