-- ==== Sys2Proof/Machine/DmaDesc.lean ====
section
/-! DEFINITION. The fields of a DMA descriptor, and the ranges of a channel's next burst (14 R511, R513, R517). -/

namespace Sys2Proof.Machine

open Sys2Proof

/-- Two ranges meet. -/
def meets (a n b m : Nat) : Bool := decide (0 < n) && decide (0 < m) && decide (a < b + m) && decide (b < a + n)

/-- SRC_SP. -/
def Desc.srcChip (d : Desc) : Bool := bit d.ctl 0

/-- DST_SP. -/
def Desc.dstChip (d : Desc) : Bool := bit d.ctl 1

/-- SRC_FIX. -/
def Desc.srcFix (d : Desc) : Bool := bit d.ctl 2

/-- DST_FIX. -/
def Desc.dstFix (d : Desc) : Bool := bit d.ctl 3

/-- PACE. -/
def Desc.pace (d : Desc) : Bool := bit d.ctl 4

/-- BSIZE. -/
def Desc.bsize (d : Desc) : Nat := fld d.ctl 8 13

/-- LEN. -/
def Desc.count (d : Desc) : Nat := fld d.len 0 24

/-- Length of the source range (14 R512). -/
def Desc.srcLen (d : Desc) : Nat := if d.srcFix then d.bsize else d.count

/-- Length of the destination range. -/
def Desc.dstLen (d : Desc) : Nat := if d.dstFix then d.bsize else d.count

/-- The source and destination ranges overlap in one space. -/
def Desc.overlaps (d : Desc) : Bool :=
  d.srcChip == d.dstChip && meets d.src.toNat d.srcLen d.dst.toNat d.dstLen

/-- Bytes of the descriptor in progress that no ended burst has moved. -/
def DmaCh.left (c : DmaCh) : Nat := c.desc.count - c.moved

/-- Bytes of the next burst. -/
def DmaCh.burstLen (c : DmaCh) : Nat := min c.desc.bsize c.left

/-- The engine moves in descending address order (14 R517). -/
def Desc.descends (d : Desc) : Bool :=
  !d.srcFix && !d.dstFix && d.overlaps && decide (d.src.toNat < d.dst.toNat)

/-- Offset of the next burst in the descriptor's ranges. -/
def DmaCh.burstAt (c : DmaCh) : Nat := if c.desc.descends then c.desc.count - c.moved - c.burstLen else c.moved

/-- Source address of the next burst. -/
def DmaCh.burstSrc (c : DmaCh) : Nat := c.desc.src.toNat + (if c.desc.srcFix then 0 else c.burstAt)

/-- Destination address of the next burst. -/
def DmaCh.burstDst (c : DmaCh) : Nat := c.desc.dst.toNat + (if c.desc.dstFix then 0 else c.burstAt)

end Sys2Proof.Machine
end

