-- ==== Sys2Proof/Machine/ShadeEngine.lean ====
section
/-! DEFINITION. The Shade engine (chapter 10): list images and their checks, arrival and take-up, the factor of a pixel,
latest load starts and the shade window. -/

namespace Sys2Proof.Machine

open Sys2Proof

/-! ### List images (10 R367, R368) -/

/-- A byte written into FILL: presence counts, so a 0 is held too. -/
def fillPut (a : Nat) (b : Byte) : List Host.Cell → List Host.Cell
  | [] => [(a, b)]
  | (k, v) :: r => if a < k then (a, b) :: (k, v) :: r else if a = k then (a, b) :: r else (k, v) :: fillPut a b r

/-- A byte string written into FILL from an offset; bytes beyond 0x80F are discarded (10 R370). -/
def fillPutL (m : List Host.Cell) : Nat → List Byte → List Host.Cell
  | _, [] => m
  | a, b :: r => fillPutL (if a < 0x810 then fillPut a b m else m) (a + 1) r

/-- A byte of FILL, if written since the last arrival. -/
def fillAt (m : List Host.Cell) (a : Nat) : Option Byte := (m.find? (fun x => x.1 == a)).map (fun x => x.2)

/-- The first `n` bytes of an image, all written; none where one is missing. -/
def fillBytes (m : List Host.Cell) (n : Nat) : Option (List Byte) :=
  (List.range n).mapM (fun a => fillAt m a)

/-- Box i of an image with its effective timestamp (10 R367, R369). -/
def boxOf (l : List Byte) (i : Nat) (tsmode : Bool) (now : Nat) : Box :=
  let w0 := leAt l (16 + 16 * i) 8
  let w1 := leAt l (24 + 16 * i) 8
  let f := fun (w lo n : Nat) => w / 2 ^ lo % 2 ^ n
  { x0 := signed 15 (f w0 0 15), y0 := signed 15 (f w0 15 15), x1 := signed 15 (f w0 30 15), y1 := signed 15 (f w0 45 15),
    vx := signed 12 (f w1 0 12), vy := signed 12 (f w1 12 12),
    ts := if tsmode then BitVec.ofNat 16 (now + 65536 - f w1 24 16) else BitVec.ofNat 16 (f w1 24 16),
    att := f w1 40 8, feather := f w1 48 6, en := decide (f w1 63 1 = 1) }

/-- A box with EN = 1 whose edges are out of order (10 R368). -/
def Box.bad (b : Box) : Bool := b.en && (decide (b.x1 ≤ b.x0) || decide (b.y1 ≤ b.y0))

/-- The list of an image for surface u, or none where it is rejected; `now` is SH_NOW at its arrival (10 R368). -/
def listOf (m : List Host.Cell) (u : Fin 2) (now : Nat) : Option ObjList :=
  match fillBytes m 16 with
  | none => none
  | some h =>
    let n := leAt h 0 1
    match fillBytes m (16 + 16 * n) with
    | none => none
    | some l =>
      let boxes := (List.range n).map (fun i => boxOf l i (leAt h 1 1 / 2 % 2 = 1) now)
      if 128 < n ∨ leAt h 1 1 % 2 ≠ u.val ∨ crc32 (l.take 8 ++ l.drop 16) ≠ leAt h 8 4 ∨ boxes.any Box.bad then none
      else some { nbox := BitVec.ofNat 8 n, lseq := BitVec.ofNat 16 (leAt h 2 2), life := BitVec.ofNat 8 (leAt h 4 1),
                  boxes := boxes }

/-! ### Arrival and take-up (10 R370–R375) -/

/-- SH_NOW: whole µs since PORST_N release (10 R369). -/
def State.usecNow (s : State) : Nat := (s.now - s.top.startAt) / usec

/-- First address of a Shade list port (10 R370). -/
def portBase (u : Nat) : Nat := 0x0F100000 + 0x1000 * u

/-- One surface's Shade state replaced. -/
def State.setShade (u : Fin 2) (x : ShadeSurf) (s : State) : State :=
  { s with shade := { s.shade with surf := s.shade.surf.set u x } }

/-- Live key of a field of SH_TAKES, SH_SPLICE or SH_RDARK: surface u. -/
def pairKey (a : Nat) (u : Fin 2) : Nat := a + u.val

/-- Live key of a field of SH_REJ: rejections of surface u, or its overruns. -/
def rejKey (u : Fin 2) (overrun : Bool) : Nat := Reg.SH_REJ + 2 * u.val + overrun.toNat

/-- What an overrun counts and raises (10 R373, R374, R394). -/
def overrunNotes (u : Fin 2) : List Note := [.tally (rejKey u true) 1, .raise (Src.SH_OVERRUN u), .irq 0x28 2]

/-- Bytes of a DMA burst written into the port of surface u at an offset: discarded during a take-up (10 R370, R373). -/
def ShadeSurf.portWrite (x : ShadeSurf) (off : Nat) (l : List Byte) : ShadeSurf :=
  if x.taking.isSome then { x with overrun := true } else { x with fill := fillPutL x.fill off l }

/-- Parity of `n` written words of 16 bits inverted where the checker is armed (16 R582). -/
def State.spoilFill (u : Fin 2) (n : Nat) (s : State) : State :=
  s.injWords 6 (fun _ _ (s : State) => s.setShade u { s.shade.surf[u] with fillBad := true }) (List.range n)

/-- A byte string of a DMA burst written to the list port of surface u (10 R370, R373). -/
def State.shadePort (u : Fin 2) (off : Nat) (l : List Byte) (s : State) : State :=
  let x := s.shade.surf[u]
  let s := s.setShade u (x.portWrite off l)
  if x.taking.isSome then s else s.spoilFill u (divUp l.length 2)

/-- A list arrives by a burst end (10 R371, R373). -/
def State.listArrive (u : Fin 2) (s : State) : State :=
  let x := s.shade.surf[u]
  if x.overrun then (s.setShade u { x with overrun := false }).report (overrunNotes u)
  else if x.taking.isSome then s
  else s.setShade u { x with taking := some x.fill, fill := [], takeNow := BitVec.ofNat 32 s.usecNow }

/-- The mailbox's bytes (10 R391). -/
def mailboxBytes (f : RegFile) : List Byte :=
  (List.range 36).flatMap (fun i => toBytesLE 4 (rget f (Reg.SH_MB i)).toNat)

/-- Surface that the mailbox header names. -/
def mailboxSurf (f : RegFile) : Fin 2 := if bit (rget f (Reg.SH_MB 0)) 8 then 1 else 0

/-- A burst end that waits in this sample makes a list arrive for the surface (10 R371, R374). -/
def State.burstArriving (s : State) (u : Fin 2) : Bool :=
  s.pending.any (fun c => match c with
    | .dmaBurstEnd t n =>
      let x := s.dma.ch[n]
      decide (t / tick ≤ s.now / tick) && x.burst && x.desc.dstChip && meets x.burstDst x.burstLen (portBase u.val) 0x1000
    | _ => false)

/-- A GO is refused (10 R374). -/
def State.goRefused (s : State) (u : Fin 2) : Bool :=
  (s.shade.surf[u]).taking.isSome || !(s.shade.surf[u]).fill.isEmpty || s.shade.mbBusy.isSome || s.burstArriving u

/-- The image that the mailbox holds for a surface, put over what FILL holds: the header and the boxes (10 R375). -/
def State.mailboxImage (s : State) (u : Fin 2) : List Host.Cell :=
  let b := mailboxBytes s.regs
  fillPutL (s.shade.surf[u]).fill 0 (b.take (16 + 16 * leAt b 0 1))

/-- GO of SH_MBPUB: the list arrives as the write is registered, and its take-up is in progress from then; the mailbox keeps its content
while the copy runs (10 R371–R375). -/
def State.mailboxGo (v : Word) (s : State) : State :=
  let u := mailboxSurf s.regs
  if !bit v 0 then s
  else if s.goRefused u then
    { s with shade := { s.shade with mbErr := true } }.report (overrunNotes u ++ [Note.hit Reg.SH_MBSTAT 2])
  else
    { s with shade := { s.shade with
        mbBusy := some u
        surf := s.shade.surf.set u { s.shade.surf[u] with
          taking := some (s.mailboxImage u), fill := [], takeNow := BitVec.ofNat 32 s.usecNow } } }

/-- SH_MBPUB_GO (10 R374). -/
def execShMbpubGo (t : Nat) (req : Req) (v : Word) (s : State) : Host.Outcome State Fault Refusal :=
  onCore t s (State.access req 0x28 (State.mailboxGo v))

/-- The mailbox is copied into FILL (10 R375). -/
def State.mailboxCopied (s : State) : State :=
  match s.shade.mbBusy with
  | none => s
  | some u =>
    State.spoilFill u ((((s.shade.surf[u]).taking.map (fun m => m.length)).getD 0) / 2)
      { s with shade := { s.shade with mbBusy := none } }

/-- MAILBOX_COPY_DONE (10 R375). -/
def execMailboxCopyDone (t : Nat) (s : State) : Host.Outcome State Fault Refusal := onCore t s State.mailboxCopied

/-- Entry to the stale state (10 R379). -/
def State.goStale (u : Fin 2) (s : State) : State :=
  let x := s.shade.surf[u]
  if x.stale then s
  else (s.setShade u { x with stale := true, boxSet := x.boxSet + 1 }).report [.raise (Src.SH_STALE u), .irq 0x28 3]

/-- A parity error found in the list buffer: stale from the next cut-off, until the next take-up (10 R381). -/
def State.listParity (u : Fin 2) (s : State) : State :=
  let x := s.shade.surf[u]
  if x.parErr && !x.parSeen then
    ((s.setShade u { x with parSeen := true }).report [.raise (Src.SH_PAR u)]).goStale u
  else s

/-- The take-up of an arrived list ends, not before a mailbox list is copied (10 R368, R372, R375, R381). -/
def State.takeUp (u : Fin 2) (s : State) : State :=
  let x := s.shade.surf[u]
  match x.taking with
  | none => s
  | some m =>
    if s.shade.mbBusy = some u then s
    else match listOf m u x.takeNow.toNat with
    | none => (s.setShade u { x with taking := none, fillBad := false }).report
        [.tally (rejKey u false) 1, .raise (Src.SH_BADLIST u), .irq 0x28 2]
    | some l => ((s.setShade u { x with active := some l, taking := none, stale := x.stale && x.fillBad, parErr := x.fillBad,
                                        parSeen := false, fillBad := false, boxSet := x.boxSet + 1 }).report
        [.tally (pairKey Reg.SH_TAKES u) 1, .irq 0x28 u, Note.hit (Awaited.list u).key 1]).listParity u

/-- LIST_TAKE_UP (10 R372). -/
def execListTakeUp (t : Nat) (u : Fin 2) (s : State) : Host.Outcome State Fault Refusal :=
  onCore t s (State.once (.listTakeUp t u) (State.takeUp u))

/-- The take-ups that this sample registers come first (10 R379, R383; 12 R438). -/
def State.takeUpsFirst (s : State) : State :=
  s.takeFirst (fun c => match c with
    | .listTakeUp _ u => some (State.takeUp u)
    | _ => none)

/-- LIST_LIFE_EXPIRY (10 R379): nothing without an active list of finite lifetime, or where a take-up is registered in the same
sample. -/
def execListLifeExpiry (t : Nat) (u : Fin 2) (s : State) : Host.Outcome State Fault Refusal :=
  onCore t s (fun s =>
    let s := s.takeUpsFirst
    s.when (((s.shade.surf[u]).active.map (fun l => l.life != 0)).getD false && !s.hasCome (Awaited.list u).key) (State.goStale u))

/-! ### The factor (10 R378) -/

/-- SH_CFG and the stale rectangle of a surface. -/
structure ShadeSet where
  /-- EN. -/
  en : Bool
  /-- SPLICE. -/
  splice : Bool
  /-- STRICT. -/
  strict : Bool
  /-- AGE_MAX in ms. -/
  ageMax : Nat
  /-- STALE_A. -/
  staleA : Nat
  /-- SX0. -/
  sx0 : Nat
  /-- SY0. -/
  sy0 : Nat
  /-- SX1. -/
  sx1 : Nat
  /-- SY1. -/
  sy1 : Nat
  /-- REQ_INT. -/
  reqInt : Nat
  deriving DecidableEq, Repr

/-- The Shade settings of surface u in a reading of register words (10 R392). -/
def shadeSet (f : Nat → Word) (u : Nat) : ShadeSet :=
  let c := f (Reg.SH_CFG u)
  let o := f (Reg.SH_SORG u)
  let e := f (Reg.SH_SEND u)
  { en := bit c 0, splice := bit c 1, strict := bit c 2, ageMax := fld c 8 5, staleA := fld c 16 9,
    sx0 := fld o 0 13, sy0 := fld o 16 13, sx1 := fld e 0 13, sy1 := fld e 16 13, reqInt := fld (f (Reg.SH_REQ u)) 0 6 }

/-- A box's edges at a step instant, in quarter pixels (10 R378). -/
def Box.atStep (b : Box) (ageMax t : Nat) : Int × Int × Int × Int :=
  let age0 := (t + 65536 - b.ts.toNat) % 65536
  let age := min (if 32768 ≤ age0 then 0 else age0) (1000 * ageMax)
  let dx := (b.vx * age) / 4096
  let dy := (b.vy * age) / 4096
  (b.x0 + dx, b.y0 + dy, b.x1 + dx, b.y1 + dy)

/-- Factor of one box for a pixel between two step instants (10 R378). -/
def Box.factor (b : Box) (ageMax t0 t1 x y : Nat) : Nat :=
  let p := b.atStep ageMax t0
  let q := b.atStep ageMax t1
  let x0 := min p.1 q.1
  let y0 := min p.2.1 q.2.1
  let x1 := max p.2.2.1 q.2.2.1
  let y1 := max p.2.2.2 q.2.2.2
  let cx : Int := 4 * x + 2
  let cy : Int := 4 * y + 2
  let dist := max 0 (max (max (x0 - cx) (cx - x1 + 1)) (max (y0 - cy) (cy - y1 + 1)))
  if dist = 0 then b.att
  else if b.feather = 0 ∨ (4 * b.feather : Nat) ≤ dist then 256
  else b.att + (256 - b.att) * dist.toNat / (4 * b.feather)

/-- shade(x, y, g) with the step instants t_g and t_(g+1) (10 R378). -/
def shadeFactor (c : ShadeSet) (z : ShadeSurf) (t0 t1 x y : Nat) : Nat :=
  if !c.en then 256
  else
    let boxes := (z.active.map (fun l => l.boxes.filter (fun b => b.en))).getD []
    let a := boxes.foldl (fun a b => min a (b.factor c.ageMax t0 t1 x y)) 256
    if z.stale && decide (c.sx0 ≤ x) && decide (x < c.sx1) && decide (c.sy0 ≤ y) && decide (y < c.sy1) then min a c.staleA
    else a

/-! ### Latest load starts and the shade window (10 R382, R386) -/

/-- Latest load starts, working backward from the last plane: `load` is L′ and `send` is L′ less t_lead. -/
def latestStarts (load send : Int) : List Int → List Int
  | [] => []
  | x :: r =>
    match latestStarts load send r with
    | [] => [x - load]
    | y :: q => min (x - load) (y - send) :: y :: q

/-- Starts of the planes of a frame relative to its boundary, and its end, exact, in units of tick / `unit`, where `unit`
is 2^(T + 16) times a factor (02 R48, R49). -/
def ModSet.shows (m : ModSet) (tst per factor : Nat) : List Nat × Nat :=
  let unit := 2 ^ (trimsOf m.sSel + 16) * factor
  ((List.range m.planes).map (fun i => m.guardLen * unit / 64 + tst * m.before i * factor), per * unit / 64)

/-- The window of one plane: from just after its load start, or from the last instant at which a splice of it still fits,
to the end of its light (10 R384, R386). All in one unit; `us` is 1 µs. -/
def planeWindow (splice : Bool) (us load send start show_ stop nextStart : Int) : Int :=
  let last := min (nextStart - send - us) (stop - load - 2 * us)
  if splice && decide (show_ ≤ last) then max (show_ + us + load - start) (stop - last) else stop - start

/-- W of one skein in units of which `unit` make a tick, L' being `load` of them: frame `a` is followed by frame `b`, each
given by its plane starts and its end (10 R382, R386). -/
def windowOver (splice : Bool) (unit load : Nat) (a b : List Nat × Nat) : Int :=
  let send : Int := (load : Int) - (160 * unit : Nat)
  let shows : List Int := a.1.map (fun (x : Nat) => (x : Int)) ++ b.1.map (fun x => ((x + a.2 : Nat) : Int))
  let stops : List Int := shows.drop 1 ++ [((a.2 + b.2 : Nat) : Int)]
  let stops := stops.set (a.1.length - 1) (a.2 : Int)
  let ls := latestStarts load send shows
  let ws := (ls.zip (shows.zip (stops.zip (ls.drop 1)))).map (fun x =>
    if x.1 < (a.2 : Int) then planeWindow splice (400 * unit : Nat) load send (max 0 x.1) x.2.1 x.2.2.1 x.2.2.2 else 0)
  ws.foldl max 0

/-- The shade window of one skein in units of 1/256 tick, rounded down: W of a frame with stitch period `tst` and period
`per`, followed by a frame of period `per'` and stitch period `tst'`, both with modulation m (10 R386). -/
def shadeWindow (m : ModSet) (splice : Bool) (tst per tst' per' : Nat) (l : LoadTime) : Nat :=
  let unit : Nat := 2 ^ (trimsOf m.sSel + 16) * l.den
  (windowOver splice unit (l.num * 2 ^ (trimsOf m.sSel + 16)) (m.shows tst per l.den) (m.shows tst' per' l.den) * 256 / unit).toNat

/-- FAST of a skein at the stitch period of a frame of `pn / pd` 1/64 ticks, with exact values (10 R388, 11 R400). -/
def strictFast (m : ModSet) (splice : Bool) (pn pd : Nat) (l : LoadTime) : Bool :=
  let unit := 64 * pd * m.units * l.den
  let w := pn - m.guardLen * pd
  let a := ((List.range m.planes).map (fun i => m.guardLen * pd * m.units * l.den + w * m.before i * l.den),
    pn * m.units * l.den)
  decide (windowOver splice unit (l.num * 64 * pd * m.units) a a ≤ (2 * w * 2 ^ trimsOf m.sSel * l.den : Nat))

/-- FAST: W at most two stitch periods (10 R386). -/
def fastOf (w tst : Nat) : Bool := decide (w * 256 ≤ 2 * tst)

end Sys2Proof.Machine
end

