-- ==== Sys2Proof/Machine/LaneLoss.lean ====
section
/-! DEFINITION. Skeins, their LMASK, and the loss of a lane while a plane load is in flight (03 R106, 04 R127, 05 R211). -/

namespace Sys2Proof.Machine

open Sys2Proof

/-- A number below 4 as a skein. -/
def skeinNo (n : Nat) : Fin 4 := Fin.ofNat 4 n

/-- Skein that an output lane's active settings name (05 R206). -/
def State.laneSkein (s : State) (l : Fin 8) : Fin 4 := skeinNo (laneAt s.active l.val).skein

/-- Skein lane number of an output lane (05 R206). -/
def State.laneNo (s : State) (l : Fin 8) : Nat := skLane s.active l.val

/-- One output lane replaced. -/
def State.setLane (l : Fin 8) (x : OutLane) (s : State) : State := { s with lane := s.lane.set l x }

/-- One skein replaced. -/
def State.setSkein (k : Fin 4) (x : SkeinTx) (s : State) : State := { s with skein := s.skein.set k x }

/-- One array's link state replaced. -/
def State.setArr (a : Fin 16) (x : ArrayLink) (s : State) : State := { s with arr := s.arr.set a x }

/-! ### Loads in flight (03 R106) -/

/-- Blocks of an array's share in packets of at most `pkt` data blocks (04 R143, R145). -/
def shareBlocks (pkt bits : Nat) : Nat := bits / 64 + 2 * divUp (bits / 64) (max 1 pkt)

/-- Arrays of a plane whose share begins before stream block `sent`, the first share starting at block `at_`. -/
def sharesBegun (pkt sent : Nat) : Nat → List (Fin 16 × List Bool) → List (Fin 16)
  | _, [] => []
  | at_, (a, b) :: r =>
    if at_ < sent then a :: sharesBegun pkt sent (at_ + shareBlocks pkt b.length) r else []

/-- Stream blocks that a load has sent at an instant, the block under way included: those sent before its lanes last changed
and those since (03 R106, 04 R127). -/
def Load.sentBy (x : Load) (now rate : Nat) : Nat :=
  x.sentN + laneCount x.lmask * divUp ((now - x.since) * 1000) (blockTime rate)

/-- End instant of a load whose remainder goes from `n` lanes to `m`: its t_lead excepted, what is left lasts n/m times
as long (02 R61, 03 R106). -/
def stopOn (now stop n m : Nat) : Nat := if m = 0 then stop else now + divUp ((stop - 10240 - now) * n) m + 10240

/-- A load in flight, or a splice decided and not begun, after the loss of skein lane j: the arrays whose share had begun go dark, and so does every array
where no lane is left (03 R106). -/
def Load.lose (x : Load) (now pkt rate j : Nat) : Load :=
  if decide (x.stop ≤ now + 10240) || !bit x.lmask j then x
  else
    let at_ := max now x.start
    let m := clearBit x.lmask j
    let hit := if m = 0 then x.plane.bits.map (fun y => y.1) else sharesBegun pkt (x.sentBy now rate) 0 x.plane.bits
    { x with
      lmask := m, dark := hit.foldl (fun d a => setBit d a.val) x.dark, since := at_, sentN := x.sentBy now rate
      stop := stopOn at_ x.stop (laneCount x.lmask) (laneCount m) }

/-- A skein after the loss of its lane j, with the loads in flight; `shade` under shade scheduling, which it leaves for
the rest of the frame (10 R385). -/
def SkeinTx.lose (x : SkeinTx) (now pkt rate j : Nat) (shade : Bool) : SkeinTx :=
  let q := x.queued.map (fun y => y.lose now pkt rate j)
  let e := x.extra.map (fun y => (y.1.lose now pkt rate j, y.2))
  { x with
    lmask := clearBit x.lmask j, queued := q, extra := e, early := x.early || shade
    busyTo := (q ++ e.map (fun y => y.1)).foldl (fun b y => max b (y.stop - 10240)) x.busyTo }

/-- Shade scheduling applies to the frame surface u shows: to fallback frames only under the profile with SHADE_FB
(10 R382, 17 R609). -/
def State.shadeShown (s : State) (u : Fin 2) : Bool :=
  (shadeSet (s.shown u) u.val).en && (!(s.surf[u]).fbShow || ((s.surf[u]).fbProfile && s.glade.gp 0x010 3 1 == 1))

/-- A skein loads under shade scheduling (10 R382). -/
def State.shadeSkein (s : State) (k : Fin 4) : Bool := ((s.skeinSurf k.val).map (fun u => s.shadeShown u)).getD false

/-- A lane leaves LMASK without a row, and the loads in flight go on without it (03 R106). -/
def State.dropMask (l : Fin 8) (s : State) : State :=
  let k := s.laneSkein l
  let x := s.skein[k]
  if !bit x.lmask (s.laneNo l) then s
  else
    let y := x.lose s.now (fld (s.active Reg.AL_POLL) 8 13) s.rateCode (s.laneNo l) (s.shadeSkein k)
    (s.setSkein k y).when (y.lmask == 0) (State.endStream k)

/-- A lane leaves LMASK: a LANES row on what is left (04 R174). -/
def State.leaveMask (l : Fin 8) (s : State) : State :=
  let k := s.laneSkein l
  if !bit (s.skein[k]).lmask (s.laneNo l) then s
  else
    let s := State.dropMask l s
    s.sendRow k (s.skein[k]).lmask (.lanes (s.skein[k]).lmask)

/-- A skein's arrays start again from no missing poll (04 R161). -/
def State.clearMisses (k : Fin 4) (s : State) : State :=
  (s.linkEntries.filter (fun e => e.skein == k.val)).foldl (fun (s : State) e =>
    s.setArr e.n { s.arr[e.n] with misses := 0 }) s

/-- The ARW row of a host request, once its array's skein has a lane: the request then completes (04 R142, R183). REG and DATA are read
from AL_AREG as the row leaves (DESIGN CHOICE, log entry 99). -/
def State.sendArw (s : State) : State :=
  if s.areq.busy && s.areq.write then
    match s.linkEntry s.areq.addr with
    | none => s
    | some e =>
      let k := skeinNo e.skein
      let w := rget s.regs Reg.AL_AREG
      if (s.skein[k]).lmask = 0 then s
      else State.sendRow k (s.skein[k]).lmask (.arw s.areq.addr.val (fld w 0 16) (fld w 16 16))
        (State.hit Reg.AL_ASTAT 2 { s with areq := { s.areq with busy := false, done := true } })
  else s

/-- LMASK of skein k is `m`: a LANES row that names every lane in service (04 R129, R161; 05 R211). -/
def State.putMask (k : Fin 4) (m : BitVec 8) (s : State) : State :=
  let s := if (s.skein[k]).lmask = 0 then s.clearMisses k else s
  ((s.setSkein k { s.skein[k] with lmask := m }).sendRow k m (.lanes m)).sendArw

/-- A lane enters LMASK. -/
def State.joinMask (l : Fin 8) (s : State) : State :=
  s.putMask (s.laneSkein l) (setBit (s.skein[s.laneSkein l]).lmask (s.laneNo l))

end Sys2Proof.Machine
end

