-- ==== Sys2Proof/Machine/Lanes.lean ====
section
/-! DEFINITION. Output lanes: states, bursts, retraining, markers, loopback; return lanes (chapter 05). -/

namespace Sys2Proof.Machine

open Sys2Proof

/-! ### What lanes are told by settings -/

/-- A lane is enabled, and before the first commit named by the profile (05 R211). -/
def State.laneOn (s : State) (l : Fin 8) : Bool :=
  if s.cmt.accepted then (laneAt s.active l.val).en else gprNamesLane s.glade.gpr l.val

/-- RT_MAX of a lane. -/
def State.rtMax (s : State) (l : Fin 8) : Nat := fld (s.active (Reg.SK_RTCFG l.val)) 8 2

/-- RT_WAIT of a lane in 1/64 ticks. -/
def State.rtWait (s : State) (l : Fin 8) : Nat := fld (s.active (Reg.SK_RTCFG l.val)) 0 8 * (100 * usec)

/-- The transmitter takes the settings at once (05 R209). -/
def OutLane.tune (x : OutLane) (c : LaneSet) : OutLane :=
  { x with swing := BitVec.ofNat 4 c.swing, pre := BitVec.ofNat 4 c.pre, post := BitVec.ofNat 5 c.post }

/-- An active array map entry of a driven surface, or an entry of the profile, names the skein (05 R210). -/
def State.skeinWanted (s : State) (k : Nat) : Bool :=
  (gprSkeins s.glade.gpr).contains k ||
  surfaces.any (fun u => s.driven u && (s.activeEntries u).any (fun e => e.skein == k))

/-- The skein's idle condition (05 R210). -/
def State.skeinIdle (s : State) (k : Nat) : Bool :=
  !(skeinLanes s.active k).isEmpty && (skeinLanes s.active k).all (fun n => (laneAt s.active n.val).idle) &&
    !s.skeinWanted k

/-! ### Bursts -/

/-- EIE blocks of the entry to electrical idle (05 R204). -/
def eieNotes (l : Fin 8) (no : Nat) : List Note := [.send (.orderedSet l (eieBlock no) 16)]

/-- Slots of electrical idle, where there are any. -/
def idleSlots (n : Nat) : List (LinePart × Nat) := if n = 0 then [] else [(.idle, n)]

/-- What a lane sends before its next content, from its entry to TRAIN: an attempt's EIE and 10 µs of electrical idle, what is left
of the least 1 µs of electrical idle, or nothing; then the burst (05 R202, R204, R211). -/
def State.trainPlan (s : State) (l : Fin 8) (org : TrainFrom) (b : Burst) : List (LinePart × Nat) :=
  (match org with
    | .down => (.eie, 16) :: idleSlots (slotsFor (10 * usec) s.rateCode)
    | .fresh => (s.stream.line[l]).plan.filter (fun x => x.1 == .eie) ++
        idleSlots (slotsFor ((s.lane[l]).idleAt + usec - s.now) s.rateCode)
    | .hold => []) ++ [(.train b, b.blocks)]

/-- What a lane carries after its burst (05 R211). -/
def TrainFrom.after : TrainFrom → LineFill
  | .fresh => .stream
  | _ => .lidle

/-- A lane enters TRAIN with a burst (05 R202). -/
def State.train (l : Fin 8) (org : TrainFrom) (b : Burst) (s : State) : State :=
  let s := s.putLine l (s.laneSkein l) (s.laneNo l) (s.trainPlan l org b) org.after
  (s.setLane l { s.lane[l] with st := .train, from_ := org, burst := b, relock := false, trainAt := s.now }).report
    [.send (.burst l b)]

/-- A lane enters electrical idle (05 R204): 16 EIE, which the synthesiser must carry. -/
def State.toIdle (l : Fin 8) (s : State) : State :=
  if s.clk.lockOl then (s.putLine l (s.stream.line[l]).skein (s.stream.line[l]).no [(.eie, 16)] .quiet).report (eieNotes l (s.stream.line[l]).no)
  else s.putLine l (s.stream.line[l]).skein (s.stream.line[l]).no [] .quiet

/-- An OFF lane that is enabled trains once the synthesiser is locked (05 R211). -/
def State.offCheck (l : Fin 8) (s : State) : State :=
  s.when ((s.lane[l]).st == .off && s.laneOn l && s.clk.lockOl)
    (fun s => State.train l .fresh .full (s.setLane l ((s.lane[l]).tune (laneAt s.active l.val))))

/-- The burst of an attempt: VALIDATE, or FULL after a relock (05 R204, R213). -/
def OutLane.attemptBurst (x : OutLane) : Burst := if x.relock then .full else .validate

/-- The attempt of a lane in DOWN (05 R211). -/
def State.attempt (l : Fin 8) (s : State) : State :=
  let s := s.setLane l { s.lane[l] with attempts := (s.lane[l]).attempts + 1 }
  State.train l .down (s.lane[l]).attemptBurst (s.report (eieNotes l (s.laneNo l)))

/-! ### Leaving service -/

/-- A lane in DOWN has used its attempts: FAILED, in electrical idle, and from there DOWN with a new series where RETRY was written
in the same sample (05 R211, R218). -/
def State.fail (l : Fin 8) (s : State) : State :=
  let s := (State.toIdle l (s.setLane l { s.lane[l] with st := .failed, idleAt := s.now })).report [.raise (Src.SK_LANEFAIL l)]
  s.when ((s.lane[l]).retryAt == some (s.now / tick) && decide (0 < s.rtMax l))
    (fun s => s.setLane l { s.lane[l] with st := .down, attempts := 0, downAt := s.now })

/-- A lane enters DOWN, and FAILED at once where its series has used its attempts (05 R211, R212). In DOWN it sends nothing (DESIGN
CHOICE, log entry 97). -/
def State.enterDown (l : Fin 8) (cause addr : Nat) (s : State) : State :=
  let x := { s.lane[l] with
    st := .down, cause := BitVec.ofNat 4 cause, addr := BitVec.ofNat 4 addr, recent := false, conf := 0,
    confirmed := false, downAt := s.now }
  let x := x.tune (laneAt s.active l.val)
  let s := (s.setLane l x).putLine l (s.stream.line[l]).skein (s.stream.line[l]).no [] .quiet
  s.when (decide (s.rtMax l ≤ x.attempts.toNat)) (State.fail l)

/-- A lane in SERVICE is lost (05 R211, R212; 03 R106). -/
def State.loseLane (l : Fin 8) (cause addr : Nat) (s : State) : State :=
  if (s.lane[l]).st ≠ .service then s
  else
    let c := if (s.lane[l]).recent then 6 else cause
    let s := (State.leaveMask l s).report [.raise (Src.SK_LANEDOWN l), .tally (Reg.SK_DOWNCNT l.val) 1]
    State.enterDown l c addr s

/-- A lane is in electrical idle. -/
def LaneState.isIdle : LaneState → Bool
  | .off => true
  | .eidle => true
  | .failed => true
  | _ => false

/-- A lane leaves for OFF: driver in electrical idle, no markers (05 R204, R211). -/
def State.laneOff (l : Fin 8) (s : State) : State :=
  let x := s.lane[l]
  let s := s.when (!x.st.isIdle) (State.toIdle l)
  s.setLane l { x with
    st := .off, recent := false, conf := 0, confirmed := false, idleAt := if x.st.isIdle then x.idleAt else s.now }

/-- Lanes of one skein enter SERVICE from a burst that was no attempt: one LANES row names every lane in service (05 R202, R211). -/
def State.serve (k : Fin 4) (ls : List (Fin 8)) (s : State) : State :=
  let s := ls.foldl (fun (s : State) (l : Fin 8) =>
    s.setLane l { s.lane[l] with st := .service, recent := false, conf := 0, confirmed := false }) s
  s.putMask k (ls.foldl (fun m (l : Fin 8) => setBit m (s.laneNo l)) (s.skein[k]).lmask)

/-! ### Electrical idle of a skein (05 R210) -/

/-- A skein's arrays lose READY. -/
def State.unready (k : Fin 4) (s : State) : State :=
  (s.linkEntries.filter (fun e => e.skein == k.val)).foldl (fun (s : State) e =>
    s.setArr e.n { s.arr[e.n] with ready := false, misses := 0 }) s

/-- A lane in SERVICE enters EIDLE, without a LANES row (05 R204, R211; DESIGN CHOICE, log entry 97). -/
def State.enterIdle (l : Fin 8) (s : State) : State :=
  let s := State.toIdle l (State.dropMask l s)
  s.setLane l { s.lane[l] with st := .eidle, recent := false, idleAt := s.now }

/-- FAST after at most 10 ms of electrical idle, VALIDATE after more (05 R204). -/
def OutLane.exitBurst (x : OutLane) (now : Nat) : Burst := if now - x.idleAt ≤ 10 * msec then .fast else .validate

/-- A lane follows its skein's idle condition. -/
def State.idleLane (idle : Bool) (s : State) (l : Fin 8) : State :=
  if idle && (s.lane[l]).st == .service then State.enterIdle l s
  else if !idle && (s.lane[l]).st == .eidle && s.clk.lockOl then State.train l .fresh ((s.lane[l]).exitBurst s.now) s
  else s

/-- The lanes of a skein follow its idle condition; no array of an idle skein is READY (05 R210). -/
def State.idleSkein (s : State) (k : Fin 4) : State :=
  let idle := s.skeinIdle k.val
  let s := s.when idle (State.unready k)
  (skeinLanes s.active k.val).foldl (State.idleLane idle) s

/-- Every skein follows its idle condition. -/
def State.idleCheck (s : State) : State := skeins.foldl State.idleSkein s

/-! ### New settings (05 R207–R211) -/

/-- RATE or SKEIN of a lane changes (05 R207). -/
def laneMoves (a b : LaneSet) : Bool := a.rate != b.rate || a.skein != b.skein

/-- A lane trains from the boundary: its series starts again where it had failed (05 R207, R211). -/
def State.retrain (l : Fin 8) (s : State) : State :=
  let x := (s.lane[l]).tune (laneAt s.active l.val)
  let x := if x.st = .failed then { x with attempts := 0 } else x
  let s := s.setLane l { x with recent := false, conf := 0, confirmed := false, relock := true }
  if s.clk.lockOl then State.train l .fresh .full s else State.enterDown l 1 0 s

/-- A lane after new settings took the place of `old`, in whose skein it no longer counts (05 R207, R209, R211). -/
def State.laneSet (old : Word) (s : State) (l : Fin 8) : State :=
  let new := s.active (Reg.SK_LCFG l.val)
  let s := s.when ((s.lane[l]).st != .service) (fun s => s.setLane l ((s.lane[l]).tune (laneOf new)))
  if (s.lane[l]).st = .loop then s
  else if !s.laneOn l then (if (s.lane[l]).st = .off then s else State.laneOff l s)
  else if (s.lane[l]).st = .off then State.offCheck l s
  else if laneMoves (laneOf old) (laneOf new) then State.retrain l s
  else if (s.lane[l]).st = .failed ∧ old ≠ new then
    State.enterDown l (s.lane[l]).cause.toNat (s.lane[l]).addr.toNat (s.setLane l { s.lane[l] with attempts := 0 })
  else s.when ((s.lane[l]).st == .down && decide (s.rtMax l ≤ (s.lane[l]).attempts.toNat)) (State.fail l)

/-- LMASK of each skein without the lanes that move or leave, before the new settings number the lanes. -/
def State.clearMoved (old : Fin 8 → Word) (new : Fin 8 → Word) (s : State) : State :=
  outLanes.foldl (fun (s : State) l =>
    s.when (laneMoves (laneOf (old l)) (laneOf (new l)) || !(laneOf (new l)).en) (State.leaveMask l)) s

/-- A lane stands in its skein's LMASK. -/
def State.inMask (s : State) (l : Fin 8) : Bool := bit (s.skein[s.laneSkein l]).lmask (s.laneNo l)

/-- LMASK of skein k in the new numbers of the lanes that stood in it (05 R206). -/
def State.renumberSkein (kept : List (Fin 8)) (s : State) (k : Fin 4) : State :=
  let m := (kept.filter (fun l => s.laneSkein l == k)).foldl (fun m (l : Fin 8) => setBit m (s.laneNo l)) (0 : BitVec 8)
  s.when (m != (s.skein[k]).lmask) (fun s => (s.setSkein k { s.skein[k] with lmask := m }).sendRow k m (.lanes m))

/-- The lanes that stay in service under the numbers of the new settings (05 R206). -/
def State.renumber (kept : List (Fin 8)) (s : State) : State :=
  let s := kept.foldl (fun (s : State) (l : Fin 8) => s.setLine l { s.stream.line[l] with no := s.laneNo l }) s
  skeins.foldl (State.renumberSkein kept) s

/-! ### Commands -/

/-- Lanes trained together with lane l: the same burst, from the same instant on (05 R202). -/
def State.trainedWith (s : State) (l : Fin 8) : List (Fin 8) :=
  let x := s.lane[l]
  outLanes.filter (fun m =>
    let y := s.lane[m]
    s.laneSkein m == s.laneSkein l && y.st == .train && y.trainAt == x.trainAt && y.burst == x.burst && y.from_ == x.from_)

/-- Slots of a plan. -/
def planSlots (l : List (LinePart × Nat)) : Nat := (l.map (fun x => x.2)).sum

/-- A lane after its attempt's burst, or after one that was no attempt (05 R211). -/
def OutLane.toHold (x : OutLane) : OutLane :=
  if x.from_ = .down then { x with st := .hold, conf := 0, confirmed := false } else { x with st := .hold }

/-- The burst of a lane ends, and with it that of the lanes trained together with it (05 R202, R211). -/
def State.burstEnd (l : Fin 8) (s : State) : State :=
  let k := s.laneSkein l
  if (s.lane[l]).st ≠ .train then s
  else
    let ls := s.trainedWith l
    let s := s.advance k (planSlots (s.stream.line[l]).plan)
    if (s.lane[l]).from_ = .fresh then (State.serve k ls s).idleSkein k
    else ls.foldl (fun (s : State) (m : Fin 8) => s.setLane m (s.lane[m]).toHold) s

/-- TRAINING_BURST_END (05 R211). -/
def execTrainingBurstEnd (t : Nat) (l : Fin 8) (s : State) : Host.Outcome State Fault Refusal :=
  onCore t s (State.burstEnd l)

/-- RT_WAIT has elapsed: the attempt starts, or waits for the relock (05 R211, R213). -/
def State.retrainWait (l : Fin 8) (s : State) : State :=
  if (s.lane[l]).st ≠ .down then s
  else if s.rtMax l ≤ (s.lane[l]).attempts.toNat then State.fail l s
  else s.when s.clk.lockOl (State.attempt l)

/-- RETRAIN_WAIT_EXPIRY (05 R211). -/
def execRetrainWaitExpiry (t : Nat) (l : Fin 8) (s : State) : Host.Outcome State Fault Refusal :=
  onCore t s (State.retrainWait l)

/-- Every READY array of a lane's skein has reported it locked since its burst (04 R176). -/
def State.laneConfirmed (s : State) (l : Fin 8) : Bool :=
  (s.linkEntries.filter (fun e => e.skein == (s.laneSkein l).val && (s.arr[e.n]).ready)).all
    (fun e => bit (s.lane[l]).conf e.n.val)

/-- The 1 ms limit of HOLD (05 R211). -/
def State.holdConfirm (l : Fin 8) (s : State) : State :=
  let x := s.lane[l]
  if x.st ≠ .hold ∨ x.confirmed = true then s
  else if s.laneConfirmed l then s.setLane l { x with confirmed := true }
  else State.enterDown l 5 x.addr.toNat s

/-- HOLD_IDLE_TIMEOUT (05 R211): a VALIDATE burst, which is no attempt. -/
def execHoldIdleTimeout (t : Nat) (l : Fin 8) (s : State) : Host.Outcome State Fault Refusal :=
  onCore t s (fun s => s.when ((s.lane[l]).st == .hold) (State.train l .hold .validate))

/-- SERVICE_STABLE_TIMER (05 R212). -/
def execServiceStableTimer (t : Nat) (l : Fin 8) (s : State) : Host.Outcome State Fault Refusal :=
  onCore t s (fun s => s.when ((s.lane[l]).st == .service)
    (State.setLane l { s.lane[l] with attempts := 0, recent := false }))

/-- A fault of a lane's driver: a lane in HOLD has lost its confirmations, and does not return (05 R211, R216, R218). -/
def State.driverFault (l : Fin 8) (s : State) : State :=
  if (s.lane[l]).st = .hold then s.setLane l { s.lane[l] with conf := 0 } else State.loseLane l 2 0 s

/-- The synthesiser's loss at one lane (05 R211, R213). -/
def State.pllLane (s : State) (l : Fin 8) : State :=
  match (s.lane[l]).st with
  | .off => s
  | .loop => s
  | .service => let s := State.loseLane l 1 0 s; s.setLane l { s.lane[l] with relock := true }
  | _ => let s := State.enterDown l 1 0 s; s.setLane l { s.lane[l] with relock := true }

/-- A synthesiser loses lock (05 R213, 12 R457). -/
def State.synLoss (syn : Synth) (s : State) : State :=
  match syn with
  | .sys => { s with clk := { s.clk with lockSys := false } }.report (noteIf s.clk.lockSys [.raise Src.CLK_SYNSYS])
  | .il => { s with clk := { s.clk with lockIl := false } }.report (noteIf s.clk.lockIl [.raise Src.CLK_SYNIL])
  | .pcie => { s with clk := { s.clk with lockPcie := false } }.report
      (noteIf (s.clk.lockPcie && !s.host.portSpi) [.raise Src.CLK_SYNPCIE])
  | .ol =>
    if s.clk.lockOl then
      let s := { s with clk := { s.clk with lockOl := false } }.report [.raise Src.SK_PLL]
      outLanes.foldl State.pllLane (outLanes.foldl (fun (s : State) l => State.dropMask l s) s)
    else s

/-- A lane after the output-lane synthesiser's relock (05 R211, R213). -/
def State.relockLane (s : State) (l : Fin 8) : State :=
  if (s.lane[l]).st = .off then State.offCheck l s
  else if (s.lane[l]).st = .down && decide ((s.lane[l]).downAt + s.rtWait l ≤ s.now) then State.attempt l s
  else s

/-- A synthesiser locks. -/
def State.synLock (syn : Synth) (s : State) : State :=
  match syn with
  | .sys => { s with clk := { s.clk with lockSys := true } }
  | .il => { s with clk := { s.clk with lockIl := true } }
  | .pcie => { s with clk := { s.clk with lockPcie := true } }
  | .ol => outLanes.foldl State.relockLane { s with clk := { s.clk with lockOl := true } }

/-- SYNTHESISER_RELOCK (05 R213). -/
def execSynthesiserRelock (t : Nat) (syn : Synth) (s : State) : Host.Outcome State Fault Refusal :=
  onCore t s (State.synLock syn)

/-- One code towards a setting (05 R209). -/
def stepTo {w : Nat} (x : BitVec w) (y : Nat) : BitVec w := if x.toNat < y then x + 1 else if y < x.toNat then x - 1 else x

/-- Transmitter of a lane at a marker slot (05 R209). -/
def OutLane.stepTune (x : OutLane) (c : LaneSet) : OutLane :=
  if x.st = .service then { x with swing := stepTo x.swing c.swing, pre := stepTo x.pre c.pre, post := stepTo x.post c.post }
  else x

/-- A lane transmits: in DOWN it does not (05 R194, R211; DESIGN CHOICE, log entry 97). -/
def OutLane.transmits (x : OutLane) : Bool := x.st == .train || x.st == .hold || x.st == .service

/-- The marker of one lane, with its BIP, and its transmitter's step (05 R194, R195, R209). -/
def State.markLane (mcnt : BitVec 24) (s : State) (l : Fin 8) : State :=
  if (s.lane[l]).transmits then
    (s.setLane l ((s.lane[l]).stepTune (laneAt s.active l.val))).report
      [.send (.orderedSet l (markerBlock (s.laneNo l) (s.stream.line[l]).bip.toNat mcnt) 1)]
  else s

/-- A marker slot of a skein: the blocks before it, then AM on the lanes that transmit. -/
def State.markSkein (k : Fin 4) (s : State) : State :=
  let x := s.skein[k]
  let s := (s.setSkein k { x with mcnt := x.mcnt + 1 }).advance k 16383
  ((skeinLanes s.active k.val).foldl (State.markLane x.mcnt) s).markStream k x.mcnt

/-- MARKER_SLOT (05 R194, R209). -/
def execMarkerSlot (t : Nat) (k : Fin 4) (s : State) : Host.Outcome State Fault Refusal := onCore t s (State.markSkein k)

/-- A write to SK_LCMD (05 R211, R222). -/
def State.writeRetry (l : Fin 8) (v : Word) (s : State) : State :=
  s.when (bit v 0) (fun s =>
    let x := s.lane[l]
    let s := s.setLane l { x with retryAt := some (s.now / tick) }
    s.when (x.st == .failed) (fun s =>
      State.enterDown l x.cause.toNat x.addr.toNat (s.setLane l { s.lane[l] with attempts := 0 })))

/-- RETRY (05 R211). -/
def execRetry (t : Nat) (req : Req) (l : Fin 8) (v : Word) (s : State) : Host.Outcome State Fault Refusal :=
  onCore t s (State.access req (0x30 + l.val) (State.writeRetry l v))

/-- The mode that a write to SK_LOOP leaves (05 R219). -/
def State.loopMode (s : State) (l : Fin 8) (v : Word) : Nat :=
  if fld v 0 2 ≠ 0 ∧ ((s.lane[l]).st ≠ .off ∨ gprNamesLane s.glade.gpr l.val = true) then fld (rget s.regs (Reg.SK_LOOP l.val)) 0 2
  else fld v 0 2

/-- The enabled intake stream over a lane runs at the output rate (05 R219, 06 R227). -/
def State.sameRate (s : State) (l : Fin 8) : Bool :=
  decide (l.val < 4) && ([0, 1, 2, 3] : List Nat).any (fun p =>
    let c := s.active (Reg.IN_SCFG p)
    bit c 0 && decide (p ≤ l.val) && decide (l.val < p + 2 ^ fld c 1 2) && fld c 4 3 == (laneAt s.active l.val).rate)

/-- What the pins of a lane in OFF or LOOP carry under a word of SK_LOOP (05 R219, R220): a pattern leaves MODE 2's pins idle (DESIGN
CHOICE, log entry 96). -/
def State.loopDrive (s : State) (l : Fin 8) (mode prbs : Nat) : LoopDrive :=
  if mode = 2 then .idle
  else if prbs ≠ 0 then .pattern (BitVec.ofNat 2 prbs) (Config.patternSeed l.val s.now)
  else if mode = 1 then .blocks
  else if mode = 3 ∧ s.sameRate l = true then .intake (Fin.ofNat 4 l.val)
  else .idle

/-- A write to SK_LOOP (05 R211, R219, R220). -/
def State.writeLoop (l : Fin 8) (v : Word) (s : State) : State :=
  let old := rget s.regs (Reg.SK_LOOP l.val)
  let mode := s.loopMode l v
  let new : Word := at32 0 mode ||| (v &&& 0x70)
  let x := s.lane[l]
  let x := { x with
    st := if mode ≠ 0 ∧ x.st = .off then .loop else if mode = 0 ∧ x.st = .loop then .off else x.st
    lbLock := x.lbLock && decide (mode = fld old 0 2), prbsLock := x.prbsLock && new == old
    prbsRun := if new = old then x.prbsRun else 0 }
  let drive := s.loopDrive l mode (fld new 4 2)
  let s := (s.setLane l x).report ([.word (Reg.SK_LOOP l.val) new] ++
    noteIf (bit v 6 && !bit old 6) [.word (Reg.SK_PRBSERR l.val) 0] ++
    noteIf ((x.st == .off || x.st == .loop) && new != old) [.send (.pins l drive)])
  State.offCheck l s

/-- SK_LOOP_WRITE (05 R219). -/
def execSkLoopWrite (t : Nat) (req : Req) (l : Fin 8) (v : Word) (s : State) : Host.Outcome State Fault Refusal :=
  onCore t s (State.access req (0x30 + l.val) (State.writeLoop l v))

/-- Taps of a pattern over its last bits, the latest in bit 0: PRBS7 x^7 + x^6 + 1, PRBS15 x^15 + x^14 + 1, PRBS31 x^31 + x^28 + 1
(05 R220). -/
def prbsTaps (k : Nat) : Nat × Nat := if k = 1 then (7, 6) else if k = 2 then (15, 14) else (31, 28)

/-- The next bit of a pattern. -/
def prbsNext (k : Nat) (r : BitVec 31) : Bool := r.getLsbD ((prbsTaps k).1 - 1) ^^ r.getLsbD ((prbsTaps k).2 - 1)

/-- A pattern's last bits after one more. -/
def prbsShift (r : BitVec 31) (b : Bool) : BitVec 31 := r <<< 1 ||| BitVec.ofNat 31 b.toNat

/-- The first `n` bits of a pattern from what its generator holds. -/
def prbsBits (k : Nat) : BitVec 31 → Nat → List Bool
  | _, 0 => []
  | r, n + 1 => prbsNext k r :: prbsBits k (prbsShift r (prbsNext k r)) n

/-- The pattern checker at one received bit, with the bits in error so far: 64 bits in a row as the bits before them give lock it, and
from then on it runs by itself (05 R220). Bits that are all 0 are no pattern. -/
def checkBit (k : Nat) (x : OutLane × Nat) (b : Bool) : OutLane × Nat :=
  let r := x.1.prbsReg
  let p := prbsNext k r
  if x.1.prbsLock then ({ x.1 with prbsReg := prbsShift r p }, if b = p then x.2 else x.2 + 1)
  else
    let run := if b = p ∧ fld r 0 (prbsTaps k).1 ≠ 0 then x.1.prbsRun + 1 else 0
    ({ x.1 with prbsReg := prbsShift r b, prbsRun := run, prbsLock := decide (64 ≤ run) }, x.2)

/-- The last 64 of a list of sync headers are there and valid (05 R190). -/
def hdrsLock (l : List (BitVec 2)) : Bool := decide (64 ≤ l.length) && (l.drop (l.length - 64)).all hdrOk

/-- The test receiver takes what it receives: it locks to blocks in MODE 1 and 2, and checks the pattern that is selected (05 R219,
R220). -/
def State.testLock (l : Fin 8) (rx : TestRx) (s : State) : State :=
  let x := s.lane[l]
  let w := rget s.regs (Reg.SK_LOOP l.val)
  match rx with
  | .pattern bits =>
    s.when ((x.st == .off || x.st == .loop) && bit w 6 && decide (fld w 4 2 ≠ 0)) (fun s =>
      let y := bits.foldl (checkBit (fld w 4 2)) (x, 0)
      (s.setLane l y.1).report [.count (Reg.SK_PRBSERR l.val) y.2])
  | .blocks hdrs =>
    s.when (x.st == .loop && (decide (fld w 0 2 = 1) || decide (fld w 0 2 = 2)) && hdrsLock hdrs)
      (State.setLane l { x with lbLock := true })

/-- PRBS_LOCK (05 R220). -/
def execPrbsLock (t : Nat) (l : Fin 8) (rx : TestRx) (s : State) : Host.Outcome State Fault Refusal :=
  onCore t s (State.testLock l rx)

/-! ### Return lanes (05 R224, R225) -/

/-- EN of a return lane in the active BL_CFG. -/
def State.retOn (s : State) (b : Fin 2) : Bool := bit (s.active Reg.BL_CFG) (4 * b.val)

/-- One return lane replaced. -/
def State.setRet (b : Fin 2) (x : ReturnLane) (s : State) : State := { s with ret := s.ret.set b x }

/-- Rate of a return lane in Mb/s by RATE (05 R185). -/
def retRate (code : Nat) : Nat := ([1250, 2500, 3125] : List Nat).getD code 5000

/-- Block time of a return lane in 1/64000 ticks (05 R185). -/
def retBlockTime (code : Nat) : Nat := 66 * 25600 * 1000 / retRate code

/-- RATE of a return lane. -/
def State.retCode (s : State) (b : Fin 2) : Nat := fld (s.active Reg.BL_CFG) (4 * b.val + 2) 2

/-- What loses block lock: 16 invalid headers among the last 32 received, or 200 ns without amplitude (05 R190). -/
def lockLost (hdrs : List (BitVec 2)) (dark : Nat) : Bool :=
  decide (16 ≤ ((hdrs.drop (hdrs.length - 32)).filter (fun h => !hdrOk h)).length) || decide (80 * tick ≤ dark)

/-- RETURN_LANE_LOCK_LOSS (05 R190, R225): nothing on a lane without lock, nor on headers that keep it. -/
def execReturnLaneLockLoss (t : Nat) (b : Fin 2) (hdrs : List (BitVec 2)) (dark : Nat) (s : State) :
    Host.Outcome State Fault Refusal :=
  onCore t s (fun s => s.when ((s.ret[b]).lock && lockLost hdrs dark) (fun s =>
    (s.setRet b { s.ret[b] with lock := false }).report ([.tally (Reg.BL_LOCKLOSS b.val) 1] ++
      noteIf (s.retOn b) [.raise (Src.BL_LOCK b)])))

/-- RETURN_LANE_LOCK_GAIN (05 R190, R224): nothing on a lane that is not enabled, nor before 64 valid headers in a row. -/
def execReturnLaneLockGain (t : Nat) (b : Fin 2) (hdrs : List (BitVec 2)) (s : State) : Host.Outcome State Fault Refusal :=
  onCore t s (fun s => s.when (s.retOn b && hdrsLock hdrs) (State.setRet b { s.ret[b] with lock := true, fresh := true }))

end Sys2Proof.Machine
end

