-- ==== Sys2Proof/Machine/TimeBase.lean ====
section
/-! DEFINITION. The time base and genlock (11 R396–R407). -/

namespace Sys2Proof.Machine

open Sys2Proof

/-- The timing settings in force (11 R430). -/
structure TimeSet where
  /-- NOMPER, in 1/64 tick. -/
  nom : Nat
  /-- GL_EN. -/
  en : Bool
  /-- POL: the falling edge counts. -/
  pol : Bool
  /-- Frames per reference edge, from MULT. -/
  mult : Nat
  /-- ACC, in 0.1 %. -/
  acc : Nat
  /-- SLEW, in 0.01 %. -/
  slew : Nat
  /-- DELAY in 1/64 tick. -/
  delay : Nat
  /-- HOLD_MS. -/
  hold : Nat
  /-- HARD. -/
  hard : Bool
  /-- GLO_EN. -/
  gloEn : Bool
  /-- GLO_POL. -/
  gloPol : Bool
  /-- GLO_W in µs. -/
  gloW : Nat
  deriving DecidableEq, Repr

/-- The TIME page's fields in a reading of register words. -/
def timeSet (f : Nat → Word) : TimeSet :=
  { nom := (f Reg.TM_PER).toNat, en := bit (f Reg.TM_GLCFG) 0, pol := bit (f Reg.TM_GLCFG) 1, mult := 2 ^ fld (f Reg.TM_GLCFG) 2 2,
    acc := fld (f Reg.TM_GLCFG) 8 8, slew := fld (f Reg.TM_GLCFG) 16 8, delay := fld (f Reg.TM_GLDLY) 0 24 * 256,
    hold := fld (f Reg.TM_HOLD) 0 10, hard := bit (f Reg.TM_MODE) 0, gloEn := bit (f Reg.TM_MODE) 1,
    gloPol := bit (f Reg.TM_MODE) 2, gloW := fld (f Reg.TM_MODE) 8 8 }

/-- The timing settings in force. -/
def State.timing (s : State) : TimeSet := timeSet s.active

/-- A spacing in ticks is too short (11 R403). -/
def TimeSet.early (c : TimeSet) (sp : Nat) : Bool := decide (sp * 64000 < c.mult * c.nom * (1000 - c.acc))

/-- A spacing in ticks is valid (11 R403). -/
def TimeSet.valid (c : TimeSet) (sp : Nat) : Bool :=
  !c.early sp && decide (sp * 64000 ≤ c.mult * c.nom * (1000 + c.acc))

/-- Ticks from a spacing's start to the close of its window (11 R403). -/
def TimeSet.window (c : TimeSet) : Nat := divUp (c.mult * c.nom * (1000 + c.acc)) 64000

/-- FREE, with no spacing in progress. -/
def TimeBase.free (b : TimeBase) : TimeBase :=
  { b with gl := .free, acqn := 0, spacings := [], edges := [], edgeFrom := none, pref := 0 }

/-- What a change of GLSTATE reports (11 R429). -/
def glChange (a b : GlState) : List Note := noteIf (a != b) [.irq 0x01 1]

/-- P_ref of the last four valid spacings (11 R405). -/
def prefOf (c : TimeSet) (l : List Nat) : Nat := (l.take 4).sum * 16 / c.mult

/-- The time base after a valid spacing that ends at tick `e` (11 R404, R405). -/
def TimeBase.good (b : TimeBase) (c : TimeSet) (e sp : Nat) : TimeBase :=
  let l := (sp :: b.spacings).take 4
  let n := min 4 (b.acqn + 1)
  let b := { b with acqn := n, spacings := l, edges := (e :: b.edges).take 4, edgeFrom := some e }
  if n = 4 then { b with gl := .locked, pref := prefOf c l } else b

/-- The time base after an invalid or missing edge; the next spacing starts at tick `e` (11 R403, R404). -/
def TimeBase.lose (b : TimeBase) (e : Nat) : TimeBase :=
  { b with acqn := 0, spacings := [], edgeFrom := some e, gl := if b.gl = .locked then .holdover else b.gl }

/-- What a lost edge reports beside its own count (11 R404). -/
def loseNotes (b : TimeBase) : List Note :=
  noteIf (b.gl == .locked) [.raise Src.TM_HOLD, .tally Reg.TM_HOLDCNT 1, .irq 0x01 1]

/-- The time base after an edge of GENLOCK_IN at tick `e` (11 R403, R404). -/
def TimeBase.edge (b : TimeBase) (c : TimeSet) (e : Nat) : TimeBase :=
  match b.edgeFrom with
  | none => { b with gl := if b.gl = .free then .acquire else b.gl, acqn := 0, spacings := [], edgeFrom := some e }
  | some p =>
    if b.gl = .free then { b with gl := .acquire, acqn := 0, spacings := [], edgeFrom := some e }
    else if c.valid (e - p) then b.good c e (e - p) else b.lose e

/-- What an edge reports (11 R403, R404, R431). -/
def edgeNotes (b : TimeBase) (c : TimeSet) (e : Nat) : List Note :=
  match b.edgeFrom with
  | none => glChange b.gl (b.edge c e).gl
  | some p =>
    if b.gl = .free then [.irq 0x01 1]
    else if c.valid (e - p) then glChange b.gl (b.edge c e).gl
    else noteIf (c.early (e - p)) [.tally Reg.TM_GLBAD 1, .raise Src.TM_BADEDGE] ++ loseNotes b

/-- An edge of GENLOCK_IN with its timestamp. -/
def State.genlockEdge (t : Nat) (s : State) : State :=
  { s with tb := s.tb.edge s.timing (t / 64) }.report (edgeNotes s.tb s.timing (t / 64))

/-- A change of GENLOCK_IN is an edge: to the level that POL selects, held for at least 40 samples (11 R402), while GL_EN is 1 (11
R404). -/
def State.isEdge (s : State) (rise : Bool) (held : Nat) : Bool := s.timing.en && rise != s.timing.pol && decide (40 ≤ held)

/-- A change of GENLOCK_IN whose first sample is at `t`. -/
def State.genlockChange (t : Nat) (rise : Bool) (held : Nat) (s : State) : State :=
  s.when (s.isEdge rise held) (State.genlockEdge t)

/-- GENLOCK_EDGE (11 R402, R403): the new level is high where `rise`, and holds for `held` CD_TIME samples. -/
def execGenlockEdge (t : Nat) (rise : Bool) (held : Nat) (s : State) : Host.Outcome State Fault Refusal :=
  onCore t s (State.once (.genlockEdge t rise held) (State.genlockChange t rise held))

/-- The edges that this sample registers are taken first (11 R406). -/
def State.edgesFirst (s : State) : State :=
  s.takeFirst (fun c => match c with
    | .genlockEdge t rise held => some (State.genlockChange t rise held)
    | _ => none)

/-- The window of the spacing in progress has closed without an edge. -/
def State.genlockMissing (s : State) : State :=
  match s.tb.edgeFrom with
  | none => s
  | some p =>
    if s.now / tick < p + s.timing.window then s
    else { s with tb := s.tb.lose (p + s.timing.window) }.report (.tally Reg.TM_GLMISS 1 :: loseNotes s.tb)

/-- GENLOCK_MISSING (11 R403): an edge of the same sample comes first (12 R438). -/
def execGenlockMissing (t : Nat) (s : State) : Host.Outcome State Fault Refusal :=
  onCore t s (fun s => s.when s.timing.en (fun s => s.edgesFirst.genlockMissing))

/-- HOLDOVER ends in FREE (11 R404). -/
def State.holdoverExpiry (s : State) : State :=
  { s with tb := s.tb.free }.report [.irq 0x01 1, .raise Src.TM_FREE]

/-- HOLDOVER_EXPIRY (11 R404): nothing outside HOLDOVER, an edge of the same sample first (11 R406). -/
def execHoldoverExpiry (t : Nat) (s : State) : Host.Outcome State Fault Refusal :=
  onCore t s (fun s => let s := s.edgesFirst; s.when (s.tb.gl == .holdover) State.holdoverExpiry)

/-- GENLOCK_OUT_PULSE_END (11 R407). -/
def execGenlockOutPulseEnd (t : Nat) (s : State) : Host.Outcome State Fault Refusal :=
  onCore t s (fun s => { s with tb := { s.tb with gloPulse := false } })

/-- Level of GENLOCK_OUT: the level GLO_POL selects during the pulse, and the opposite level otherwise (11 R407). -/
def State.genlockOut (s : State) : Bool := s.tb.gloPulse != s.timing.gloPol

/-! ### The boundary B_n -/

/-- The target instants of the last valid edges, in 1/64 tick (11 R405). -/
def TimeBase.targets (b : TimeBase) (c : TimeSet) : List Nat :=
  b.edges.flatMap (fun e => (List.range c.mult).map (fun i => e * 64 + c.delay + i * b.pref))

/-- The nearest of some instants; of two as near, the earlier. -/
def nearest (x : Nat) : List Nat → Nat
  | [] => x
  | [y] => y
  | y :: r =>
    let z := nearest x r
    let d := fun (a : Nat) => Int.natAbs ((x : Int) - a)
    if d y < d z ∨ (d y = d z ∧ y ≤ z) then y else z

/-- A phase error wrapped into (−p/2, p/2]. -/
def wrapPhase (p : Nat) (e : Int) : Int :=
  if p = 0 then 0 else
    let r := e % p
    if 2 * r ≤ p then r else r - p

/-- e_n of a boundary at `bn` (11 R405). -/
def TimeBase.phase (b : TimeBase) (c : TimeSet) (bn : Nat) : Int :=
  wrapPhase b.pref ((bn : Int) - nearest bn (b.targets c))

/-- The target period G at a boundary with phase error e (11 R398, R404, R405). -/
def TimeBase.target (b : TimeBase) (c : TimeSet) (e : Int) : Nat :=
  match b.gl with
  | .locked => (clampInt (divUp (c.nom * (1000 - c.acc)) 1000 : Nat) (c.nom * (1000 + c.acc) / 1000 : Nat)
      ((b.pref : Int) - e / 8)).toNat
  | .holdover => b.pref
  | _ => c.nom

/-- A period moved towards its target within the slew limit (11 R398). -/
def slewed (per g slew : Nat) : Nat := clampNat (per - per * slew / 10000) (per + per * slew / 10000) g

/-- The exact instant of the next boundary: B_0 in the sample `t` (20 R696), then B_(n+1) = B_n + P_n (11 R396). -/
def TimeBase.nextBn (b : TimeBase) (t : Nat) : Nat := if b.fcnt = 0 then t / 64 * 64 else b.bn + b.per

/-- P_n of the frame that begins: the period fixed at the last boundary, or P_nom at B_0 (11 R397, 20 R696). -/
def TimeBase.thisPer (b : TimeBase) (c : TimeSet) : Nat := if b.fcnt = 0 then c.nom else b.next

/-- The genlock state where GL_EN is 0 (11 R404). -/
def TimeBase.gate (b : TimeBase) (c : TimeSet) : TimeBase := if c.en then b else b.free

/-- The time base after boundary B_n under timing settings `c`, where P_n is `per`; `hard` is a hard switch made at this boundary, and
`ofs` the offsets of b_n (11 R397, R398, R405, R416, R422). -/
def TimeBase.boundary (b : TimeBase) (c : TimeSet) (t per : Nat) (hard : Bool) (ofs : Vector Nat 2) : TimeBase :=
  let bn := b.nextBn t
  let b := b.gate c
  let locked := b.gl == .locked
  let e := if locked then b.phase c bn else 0
  let g := b.target c e
  let p := if hard then g else slewed per g c.slew
  { b with
    fcnt := b.fcnt + 1, bn := bn, per := per, next := p, phErr := e
    phaseRun := if locked && decide (e.natAbs ≤ usec) then min 4 (b.phaseRun + 1) else 0
    slewing := p != g, gloPulse := c.gloEn
    ofs := ofs
    darkAt := if hard then ((b.fcnt.toNat + 1) :: b.darkAt).take 2 else b.darkAt }

/-- What a boundary of the time base reports: TBFRAME, GLCHG and SLEWDONE (11 R429). -/
def boundaryNotes (old new : TimeBase) : List Note :=
  [.irq 0x01 0] ++ glChange old.gl new.gl ++ noteIf (old.slewing && !new.slewing) [.irq 0x01 2]

end Sys2Proof.Machine
end

