-- ==== Sys2Proof/Machine/Frames.lean ====
section
/-! DEFINITION. The settings of a surface's frame, the decision for the coming frame, and the view of a frame by which its
planes are formed (03 R100, R109–R115; 11 R408, R409; 20 R698). -/

namespace Sys2Proof.Machine

open Sys2Proof

/-! ### Settings of a frame -/

/-- The settings that govern a frame of a surface. -/
structure FrameSet where
  /-- 03 R100: the fallback profile. -/
  prof : Bool
  /-- 01 R37: register file. -/
  regs : RegFile
  /-- 02 R69: modulation before the degrade rule. -/
  base : ModSet
  /-- 01 R749: entries of the surface. -/
  es : List ArrEntry
  /-- 07 R291: mode and size. -/
  z : SurfSet
  deriving DecidableEq, Repr

/-- The settings of a frame of surface u under a register file, or under the fallback profile (03 R100). -/
def State.frameSet (s : State) (u : Fin 2) (prof : Bool) (regs : RegFile) : FrameSet :=
  if prof then
    { prof := true, regs := regs, base := gprMod s.glade.gpr u
      es := (gprEntries s.glade.gpr).filter (fun e => e.surf == u.val), z := gprSize s.glade.gpr u }
  else
    { prof := false, regs := regs, base := modOf (ract regs (Reg.ST_MOD u))
      es := (entriesOf (ract regs)).filter (fun e => e.surf == u.val), z := surfOf (ract regs (Reg.CP_SURF u)) }

/-- The modulation at an effective S: the default order where S is degraded (03 R113). -/
def ModSet.atS (m : ModSet) (sEff : Nat) : ModSet := { m with sSel := sEff, ordUser := m.ordUser && sEff == m.sSel }

/-- Skeins that the settings name. -/
def FrameSet.skeins (f : FrameSet) : List (Fin 4) := Machine.skeins.filter (fun k => f.es.any (fun e => e.skein == k.val))

/-- L′ of a skein at a number of lanes (02 R61). -/
def FrameSet.load (f : FrameSet) (k lanes rate : Nat) : LoadTime := loadTime (emittersOn f.es k f.z.k) lanes rate

/-- EN of ST_CTRL (03 R119). -/
def FrameSet.en (f : FrameSet) (u : Nat) : Bool := bit (ract f.regs (Reg.ST_CTRL u)) 0

/-- The surface is lit from the show bank under these settings (03 R119). -/
def FrameSet.fromBank (f : FrameSet) (u : Nat) : Bool := !f.prof && f.en u && !f.es.isEmpty

/-- The settings of the frame surface u shows. -/
def State.setNow (s : State) (u : Fin 2) : FrameSet := s.frameSet u (s.surf[u]).fbProfile (s.surf[u]).showRegs

/-- Surface u shows a driven frame. -/
def State.litNow (s : State) (u : Fin 2) : Bool := (s.surf[u]).fbShow || (s.setNow u).fromBank u

/-- P_min as an exact fraction of 1/64 ticks (11 R400). -/
def TimeSet.pmin (c : TimeSet) : Nat × Nat := if c.en then (c.nom * (1000 - c.acc), 1000) else (c.nom, 1)

/-! ### The choice of S (03 R111, R112) -/

/-- A skein passes R62 at an S and a number of lanes. -/
def FrameSet.fits (f : FrameSet) (pm : Nat × Nat) (rate : Nat) (k sSel lanes : Nat) : Bool :=
  lanes != 0 && loadFits { f.base with sSel := sSel } pm.1 pm.2 (f.load k lanes rate)

/-- A skein passes R62 at an S at its lanes in service. -/
def State.fitsAt (s : State) (f : FrameSet) (sSel : Nat) (k : Fin 4) : Bool :=
  f.fits s.timing.pmin (s.skeinRate k) k sSel (s.serviceLanes k).length

/-- The committed S and the smaller ones, in S_SEL encoding, largest first. -/
def sCandidates (sSel : Nat) : List Nat := (List.range (sSel + 1)).reverse

/-- The first S at which every skein of a list passes. -/
def State.firstS (s : State) (f : FrameSet) (ks : List (Fin 4)) : Option Nat :=
  (sCandidates f.base.sSel).find? (fun c => ks.all (fun k => s.fitsAt f c k))

/-- Skeins as a mask. -/
def skeinMask (ks : List (Fin 4)) : BitVec 4 := ks.foldl (fun m k => setBit m k.val) 0

/-- S by R111, with the skeins that R112 excludes: those that pass at no S, and where the others share none, those that
fail at S = 15. -/
def State.chooseS (s : State) (f : FrameSet) : Nat × BitVec 4 :=
  let out := f.skeins.filter (fun k => !(sCandidates f.base.sSel).any (fun c => s.fitsAt f c k))
  match s.firstS f (f.skeins.filter (fun k => !out.contains k)) with
  | some c => (c, skeinMask out)
  | none =>
    let out := f.skeins.filter (fun k => !s.fitsAt f 0 k)
    ((s.firstS f (f.skeins.filter (fun k => !out.contains k))).getD 0, skeinMask out)

/-- S with the return rule of R115, and the consecutive boundaries passed: whether the settings run degraded at S `cur`, the
boundaries passed before, and DEG_UP with DEG_HOLD in ST_CTRL. -/
def State.holdS (s : State) (f : FrameSet) (ctrl : Word) (degraded : Bool) (cur passed : Nat) (c : Nat × BitVec 4) : Nat × Nat :=
  let pass := if degraded && c.1 == f.base.sSel then passed + 1 else 0
  if !degraded then (c.1, pass)
  else if c.1 = f.base.sSel ∧ bit ctrl 1 = true ∧ fld ctrl 4 8 ≤ pass then (c.1, pass)
  else if cur ≤ c.1 && f.skeins.all (fun k => bit c.2 k.val || s.fitsAt f cur k) then (cur, pass)
  else (c.1, pass)

/-! ### The decision (03 R109, 11 R409) -/

/-- The profile's entries of surface u have been READY for 0.20 ms, or LOAD ended 20 ms ago (20 R698). -/
def State.lightReady (s : State) (u : Fin 2) : Bool :=
  ((gprEntries s.glade.gpr).filter (fun e => e.surf == u.val)).all (fun e =>
    (s.arr[e.n]).ready && decide ((s.arr[e.n]).readyAt + 200 * usec ≤ s.now)) ||
  s.top.loadAt.any (fun e => decide (e + 20 * msec ≤ s.now))

/-- The coming frame runs under the fallback profile's settings: while Glade selects it, and before the first commit on
every surface that the profile enables (03 R100, R104; 11 R419). -/
def State.profileNext (s : State) (u : Fin 2) : Bool :=
  if s.cmt.accepted then (s.surf[u]).fbSel else s.glade.hasGpr && gprEn s.glade.gpr u

/-- The coming frame is formed from the fallback source: the condition of 20 R698 is for the first fallback frame before the
first commit (03 R100). -/
def State.fbNext (s : State) (u : Fin 2) : Bool :=
  (s.surf[u]).fbSel && (s.cmt.accepted || (s.surf[u]).fbBegun || s.lightReady u)

/-- Bits of the READY arrays. -/
def State.readyArrays (s : State) : BitVec 16 := arrays.foldl (fun m a => if (s.arr[a]).ready then setBit m a.val else m) 0

/-! ### Load figures (02 R70, 03 R118) -/

/-- The load figure of a skein `short` lanes short of those in service; 2047 without a lane. -/
def State.loadOf (s : State) (f : FrameSet) (m : ModSet) (short : Nat) (k : Fin 4) : Nat :=
  let n := (s.serviceLanes k).length - short
  let pm := s.timing.pmin
  if n = 0 then 2047 else loadFigure m pm.1 pm.2 (f.load k n (s.skeinRate k))

/-- LOAD, or LOAD1 with `short` 1: the largest over the skeins that are not excluded; 2047 with every skein excluded. -/
def State.loadMax (s : State) (f : FrameSet) (m : ModSet) (excl : BitVec 4) (short : Nat) : Nat :=
  let ks := f.skeins.filter (fun k => !bit excl k.val)
  if ks.isEmpty then (if f.skeins.isEmpty then 0 else 2047) else (ks.map (s.loadOf f m short)).foldl max 0

/-! ### The interruption span (21 R716) -/

/-- Load starts of R60 for planes with given show instants: no earlier than the show instant of the plane two before, nor
than the end of the load before; `a` and `b` are the two show instants before, `busy` the end of the load before. -/
def earliestStarts (send : Int) : Int → Int → Int → List Int → List Int
  | _, _, _, [] => []
  | a, b, busy, x :: r => max a busy :: earliestStarts send b x (max a busy + send) r

/-- The largest span of an interruption set: planes in load order with start, show instant, end and whether they are
stitches; `extra` adds the plane after the set, under shade scheduling. -/
def spanMax (send : Int) (extra : Bool) : List (Int × Int × Int × Bool) → Int
  | [] => 0
  | x :: r =>
    let n := (r.takeWhile (fun y => decide (y.1 ≤ x.1 + send + 204800))).length + extra.toNat
    let l := x :: r.take n
    let here := if 2 ≤ l.length ∧ l.any (fun y => y.2.2.2) = true then
        l.foldl (fun (m : Int) y => max m y.2.2.1) 0 - x.2.1 else 0
    max here (spanMax send extra r)

/-- ISPAN of one skein in 1/64 ticks: `a` and `b` are the last two show instants of the frame before, `busy` the end of
the last load, `bk` and `per` boundary and period of the frame, the next frame being predicted alike (10 R382). -/
def frameSpan (m : ModSet) (bk per tst : Nat) (ticks : Nat) (shade : Bool) (a b busy : Int) : Nat :=
  let n := m.planes
  let send : Int := (ticks - 10240 : Nat)
  let one := fun (o : Nat) => (List.range n).map (fun i => (m.start (bk + o) tst i : Int))
  let shows := one 0 ++ one per
  let ends := (one 0).drop 1 ++ [((bk + per : Nat) : Int)] ++ (one per).drop 1 ++ [((bk + per + per : Nat) : Int)]
  let kinds := (m.order ++ m.order).map (fun p => match p with | .stitch _ => true | .trim _ => false)
  let starts := if shade then latestStarts ticks send shows else earliestStarts send a b busy shows
  (spanMax send shade ((starts.zip (shows.zip (ends.zip kinds))).take (n + 8))).toNat

/-- Show instants of the last two planes of the frame surface u shows (02 R60). -/
def State.lastShows (s : State) (u : Fin 2) (m : ModSet) : Int × Int :=
  let x := s.surf[u]
  ((m.start x.bk x.tst (m.planes - 2) : Int), (m.start x.bk x.tst (m.planes - 1) : Int))

/-- Boundary B_n of the frame that surface u shows is the last that has fallen. -/
def State.inStep (s : State) (u : Fin 2) : Bool := (s.surf[u]).started && s.tb.fcnt.toNat == (s.surf[u]).k + 1

/-- The boundary that follows the frame surface u shows, and the period b_(k+1) − b_k of the frame that begins there (11 R397,
R399, R408). -/
def State.nextStart (s : State) (u : Fin 2) : Nat × Nat :=
  if s.inStep u then (s.tb.bn + s.tb.per + (s.tb.ofsNext[u]) * 64, s.tb.next)
  else (s.tb.bn + (s.tb.ofs[u]) * 64, s.tb.per + (s.tb.ofsNext[u]) * 64 - (s.tb.ofs[u]) * 64)

/-- Number of the time-base frame at whose boundary the next frame of surface u begins (11 R399). -/
def State.nextK (s : State) (u : Fin 2) : Nat :=
  if s.inStep u then (s.surf[u]).k + 1 else s.tb.fcnt.toNat - 1

/-- Shade scheduling applies to a frame under settings f: to fallback frames only under the profile with SHADE_FB (10 R382,
17 R609). -/
def State.shadeFor (s : State) (f : FrameSet) (u : Nat) (fb : Bool) : Bool :=
  (shadeSet (ract f.regs) u).en && (!fb || (f.prof && s.glade.gp 0x010 3 1 == 1))

/-- ISPAN of the coming frame over the skeins that carry it (21 R716). -/
def State.spanOf (s : State) (u : Fin 2) (f : FrameSet) (m : ModSet) (excl : BitVec 4) (fb : Bool) : Nat :=
  let b := s.nextStart u
  let a := s.lastShows u ((s.setNow u).base.atS (s.surf[u]).sEff.toNat)
  let ks := f.skeins.filter (fun k => !bit excl k.val)
  (ks.map (fun (k : Fin 4) => frameSpan m b.1 b.2 (m.tst b.2) (f.load k (s.serviceLanes k).length (s.skeinRate k)).ticks
    (s.shadeFor f u fb) a.1 a.2 (s.skein[k]).busyTo)).foldl max 0

/-- Register file of the coming frame: that of the frame composed where it becomes the show bank (03 R76). -/
def Surface.regsFor (x : Surface) (swap : Bool) : RegFile := if swap then x.compRegs else x.showRegs

/-- Effective S under the surface's own settings `f`, and the boundaries passed: degraded while no commit has changed the
S_SEL that the held S was chosen for (03 R115, R116). -/
def State.ownS (s : State) (u : Fin 2) (f : FrameSet) : Nat × Nat :=
  let x := s.surf[u]
  s.holdS f (ract f.regs (Reg.ST_CTRL u)) (x.ownCom.toNat == f.base.sSel && decide (x.own.toNat < f.base.sSel)) x.own.toNat
    x.passCnt (s.chooseS f)

/-- Effective S under the fallback profile's settings `f`, and the boundaries passed: degraded where the frame shown is. -/
def State.profS (s : State) (u : Fin 2) (f : FrameSet) : Nat × Nat :=
  let x := s.surf[u]
  s.holdS f (ract f.regs (Reg.ST_CTRL u)) (x.fbProfile && decide (x.sEff.toNat < f.base.sSel)) x.sEff.toNat x.passFb (s.chooseS f)

/-- The decision for the coming frame of surface u under the fallback profile or not, formed from the fallback source or not,
the show bank being replaced or repeated, from the state as it stands. -/
def State.decideFor (s : State) (u : Fin 2) (prof fb swap : Bool) : Decision :=
  let regs := (s.surf[u]).regsFor swap
  let f := s.frameSet u prof regs
  let c := s.chooseS f
  let g := s.frameSet u false regs
  let own := s.ownS u g
  let q := if prof then s.profS u f else own
  let m := f.base.atS q.1
  { lanes := f.skeins.foldl (fun (m : BitVec 8) (k : Fin 4) =>
      (s.serviceLanes k).foldl (fun (m : BitVec 8) (l : Fin 8) => setBit m l.val) m) 0
    sEff := BitVec.ofNat 2 q.1
    excl := c.2, profile := prof, fb := fb, swap := swap, pass := own.2, passFb := if prof then q.2 else 0
    own := BitVec.ofNat 2 own.1, ownCom := BitVec.ofNat 2 g.base.sSel, arrs := s.readyArrays
    load := s.loadMax f m c.2 0, load1 := s.loadMax f m c.2 1, ispan := s.spanOf u f m c.2 fb }

/-- The decision for the coming frame of surface u, from the state as it stands. -/
def State.decideNow (s : State) (u : Fin 2) : Decision :=
  s.decideFor u (s.profileNext u) (s.fbNext u) (s.surf[u]).complete

/-- The decision taken, or the one that would be taken now. -/
def State.decision (s : State) (u : Fin 2) : Decision := (s.surf[u]).decided.getD (s.decideNow u)

/-! ### Views of the frame shown and of the coming one -/

/-- A frame of a surface as its planes are formed and shown. -/
structure FrameView where
  /-- Surface. -/
  u : Fin 2
  /-- 03 R102: formed from the fallback source. -/
  fb : Bool
  /-- 03 R119: driven. -/
  lit : Bool
  /-- Settings. -/
  set : FrameSet
  /-- 03 R113: modulation at the effective S. -/
  m : ModSet
  /-- 03 R112: skeins excluded. -/
  excl : BitVec 4
  /-- 20 R698: arrays that receive planes. -/
  arrs : BitVec 16
  /-- 03 R73: show bank. -/
  bank : Bool
  /-- 02 R48: frame boundary, in 1/64 ticks. -/
  bk : Nat
  /-- 02 R48: t_st. -/
  tst : Nat
  /-- 10 R377: the next frame boundary, in 1/64 ticks. -/
  stop : Nat
  /-- 10 R382: period of the frame that follows, in 1/64 ticks. -/
  after : Nat
  /-- 03 R109: lanes of the decision, by OL number. -/
  lanes : BitVec 8
  /-- 04 R134: FN. -/
  fn : BitVec 8
  deriving DecidableEq, Repr

/-- The skeins of surface u that are excluded. -/
def State.exclNow (s : State) : BitVec 4 := skeinMask (skeins.filter (fun k => (s.skein[k]).excl))

/-- The frame surface u shows. -/
def State.viewNow (s : State) (u : Fin 2) : FrameView :=
  let x := s.surf[u]
  let f := s.setNow u
  let b := s.nextStart u
  { u := u, fb := x.fbShow, lit := s.litNow u && !s.tb.darkAt.contains x.k, set := f, m := f.base.atS x.sEff.toNat
    excl := s.exclNow, arrs := x.arrs, bank := x.showBank, bk := x.bk, tst := x.tst, stop := b.1, after := b.2
    lanes := x.lanes, fn := x.fn }

/-- The coming frame's planes are formed from the fallback source, by the decision or by an entry or a fall after it
(03 R100, R101). -/
def State.fbComing (s : State) (u : Fin 2) (d : Decision) : Bool :=
  d.fb || ((s.surf[u]).fbShow && ((s.surf[u]).fbSel || (s.surf[u]).fbHold))

/-- The coming frame of surface u under a decision. -/
def State.viewNext (s : State) (u : Fin 2) : FrameView :=
  let x := s.surf[u]
  let d := s.decision u
  let f := s.frameSet u d.profile (x.regsFor d.swap)
  let m := f.base.atS d.sEff.toNat
  let b := s.nextStart u
  let fb := s.fbComing u d
  let k := s.nextK u
  { u := u, fb := fb, lit := (fb || f.fromBank u) && !s.tb.darkAt.contains k, set := f, m := m, excl := d.excl, arrs := d.arrs
    bank := x.showBank != d.swap, bk := b.1, tst := m.tst b.2, stop := b.1 + b.2
    after := s.tb.next, lanes := d.lanes, fn := BitVec.ofNat 8 k }

/-- Show instant of plane i of a frame, in 1/64 ticks (02 R48, R49). -/
def FrameView.showAt (v : FrameView) (i : Nat) : Nat := v.m.start v.bk v.tst i

/-- Kind of plane i and its step (02 R53, 10 R377). -/
def FrameView.kindAt (v : FrameView) (i : Nat) : PlaneKind × Nat :=
  let l := v.m.order.take (i + 1)
  let g := (l.filter (fun p => match p with | .stitch _ => true | .trim _ => false)).length - 1
  (l.getLast?.getD (.stitch 0), g)

/-- Show instant of stitch g, or the next boundary where g is S (10 R377). -/
def FrameView.stepAt (v : FrameView) (g : Nat) : Nat :=
  if g < stitchesOf v.m.sSel then v.showAt (v.m.order.findIdx (fun p => p == .stitch g)) else v.stop

/-- Entries of a skein that receive planes: those whose arrays were READY at the decision and are. -/
def State.planeEntries (s : State) (v : FrameView) (k : Fin 4) : List ArrEntry :=
  v.set.es.filter (fun e => e.skein == k.val && bit v.arrs e.n.val && (s.arr[e.n]).ready)

/-- Bits of every array on a skein (04 R137). -/
def FrameView.allArrays (v : FrameView) (k : Fin 4) : BitVec 16 := arrayBits v.set.es k.val

/-- L′ of the skein on its lanes in LMASK, in 1/64 ticks rounded up to a tick (02 R61, R750). -/
def State.loadTicks (s : State) (v : FrameView) (k : Fin 4) : Nat :=
  (v.set.load k (laneCount (s.skein[k]).lmask) (s.skeinRate k)).ticks

/-- Lanes of skein k in the decision for a frame. -/
def State.lanesOf (s : State) (v : FrameView) (k : Fin 4) : Nat :=
  ((skeinLanes s.active k.val).filter (fun l => bit v.lanes l.val)).length

/-- The latest load start ls of plane i of a frame on skein k, with the lanes of its decision and the first planes of the
following frame as predicted under 02 R48 (10 R382). -/
def State.latestStart (s : State) (v : FrameView) (k : Fin 4) (i : Nat) : Option Int :=
  let l := (v.set.load k (s.lanesOf v k) (s.skeinRate k)).ticks
  let shows := (List.range v.m.planes).map (fun j => (v.showAt j : Int)) ++
    (List.range v.m.planes).map (fun j => (v.m.start v.stop (v.m.tst v.after) j : Int))
  (latestStarts l (l - 10240 : Nat) (shows.drop i)).head?

end Sys2Proof.Machine
end

