-- ==== Sys2Proof/Machine/Otp.lean ====
section
/-! DEFINITION. The OTP key store as the security functions see it: words, keys, the configuration word and the
anti-rollback counter (19 R669–R673, R679, R680). -/

namespace Sys2Proof.Machine

open Sys2Proof

/-- Bytes of the OTP key store as delivered (00 R10, DEDUCED, log entry 6). -/
def otpByte0 (a : Nat) : Byte := if a < 0x20 then Config.slot0Hash a else 0

/-- A byte of the OTP key store. -/
def Sec.otpByte (x : Sec) (a : Nat) : Byte := Memory.read otpByte0 x.otp a

/-- `n` bytes of the OTP key store. -/
def Sec.otpBytes (x : Sec) (a n : Nat) : List Byte := Memory.readN otpByte0 x.otp a n

/-- A 64-bit word of the OTP key store. -/
def Sec.otpWord (x : Sec) (w : Nat) : Nat := ofBytesLE (x.otpBytes (8 * w) 8)

/-- A word that is blank (19 R671). -/
def Sec.blank (x : Sec) (w : Nat) : Bool := decide (x.otpWord w = 0) && !x.otpBad.contains w

/-- Bits of a word programmed to 1; bits programmed before stay 1 (19 R669). -/
def Sec.program (x : Sec) (w v : Nat) : Sec :=
  { x with otp := Memory.writeL otpByte0 x.otp (8 * w) (toBytesLE 8 (x.otpWord w ||| v)) }

/-- `n` words from a word are programmed and pass their check (19 R671, R673). -/
def Sec.wordsGood (x : Sec) (w n : Nat) : Bool :=
  (List.range n).all (fun i => !x.blank (w + i) && !x.otpBad.contains (w + i))

/-- A word of the list fails its check (19 R671). -/
def Sec.wordsBad (x : Sec) (ws : List Nat) : Bool := ws.any (fun w => x.otpBad.contains w)

/-- Words of slot k's hash. -/
def slotWords (k : Nat) : List Nat := (List.range 4).map (fun i => 4 * k + i)

/-- Words of the image key and of the seal key. -/
def imageWords : List Nat := [20, 21, 22, 23]

/-- Words of the seal key. -/
def sealWords : List Nat := [24, 25, 26, 27]

/-- The image key is programmed and usable (19 R671). -/
def Sec.imageKeyOk (x : Sec) : Bool := x.wordsGood 20 4

/-- The seal key is programmed and usable. -/
def Sec.sealKeyOk (x : Sec) : Bool := x.wordsGood 24 4

/-- A copy of the configuration word (19 R672). -/
def Sec.cfgCopy (x : Sec) (i : Nat) : BitVec 64 := BitVec.ofNat 64 (ofBytesLE (x.otpBytes (0xE0 + 8 * i) 8))

/-- The configuration word: the majority of its copies, bit by bit (19 R672). -/
def Sec.cfg (x : Sec) : BitVec 64 :=
  (x.cfgCopy 0 &&& x.cfgCopy 1) ||| (x.cfgCopy 0 &&& x.cfgCopy 2) ||| (x.cfgCopy 1 &&& x.cfgCopy 2)

/-- The copies of some bit disagree (19 R672). -/
def Sec.cfgSplit (x : Sec) : Bool := x.cfgCopy 0 != x.cfgCopy 1 || x.cfgCopy 1 != x.cfgCopy 2

/-- LCS bits of the configuration word: 0 OPEN, 1 PROVISIONED, 3 SECURED. -/
def lcsOf (c : BitVec 64) : Nat := fld c 24 2

/-- LCS as SEC_STAT and a challenge give it: 0, 1 or 2 (19 R690). A pattern the configuration cannot hold reads as
SECURED. -/
def Sec.lcs (x : Sec) : Nat := if lcsOf x.cfg = 0 then 0 else if lcsOf x.cfg = 1 then 1 else 2

/-- A slot is usable for images under configuration word c (19 R673). -/
def Sec.usableImg (x : Sec) (c : BitVec 64) (k : Nat) : Bool :=
  decide (k < 5) && x.wordsGood (4 * k) 4 && !bit c (16 + k) &&
    (if k = 0 then decide (lcsOf c = 0) else bit c k)

/-- A slot is usable for debug (19 R673). -/
def Sec.usableDbg (x : Sec) (k : Nat) : Bool :=
  let c := x.cfg
  decide (k < 5) && x.wordsGood (4 * k) 4 && !bit c (16 + k) &&
    (if k = 0 then decide (lcsOf c = 0) || (bit c 8 && (decide (lcsOf c = 1) || bit c 26)) else bit c (8 + k))

/-- Word of anti-rollback record i. -/
def recordWord (i : Nat) : Nat := 0x80 + i

/-- Records that are not blank, rising. -/
def Sec.records (x : Sec) : List Nat := (List.range 256).filter (fun i => !x.blank (recordWord i))

/-- The anti-rollback counter (19 R679). -/
def Sec.arb (x : Sec) : Nat :=
  match x.records.reverse with
  | [] => 0
  | i :: r =>
    if x.otpBad.contains (recordWord i) then
      max (x.otpWord (recordWord i))
        (((r.find? (fun j => !x.otpBad.contains (recordWord j))).map (fun j => x.otpWord (recordWord j))).getD 0)
    else x.otpWord (recordWord i)

/-- The highest record fails its check (19 R679). -/
def Sec.arbBad (x : Sec) : Bool :=
  match x.records.reverse with
  | [] => false
  | i :: _ => x.otpBad.contains (recordWord i)

/-- The first blank record (19 R681). -/
def Sec.firstBlank (x : Sec) : Option Nat := (List.range 256).find? (fun i => x.blank (recordWord i))

end Sys2Proof.Machine
end

