-- ==== Sys2Proof/Machine/Log.lean ====
section
/-! DEFINITION. The event log: append, overwrite, seal and the read index (18 R651–R655, 19 R686–R688). -/

namespace Sys2Proof.Machine

open Sys2Proof

/-- A record of the ring; eight words of 0 where nothing has been written. -/
def Log.recAt (g : Log) (i : Nat) : List Word := smGet (fun _ => List.replicate 8 0) g.ring i

/-- A record put into the ring. -/
def Log.put (g : Log) (i : Nat) (r : List Word) : Log :=
  { g with ring := smSet (fun _ => List.replicate 8 0) i r g.ring }

/-- The ring holds no unread record. -/
def Log.empty (g : Log) : Bool := g.wr == g.rd && !g.full

/-- Bytes of the words of a record. -/
def recBytes (r : List Word) : List Byte := r.flatMap (fun w => toBytesLE 4 w.toNat)

/-- Seal of a record: the first 8 bytes of HMAC-SHA-256 under the seal key over the previous seal and the record's
bytes 0x00–0x17 (19 R686). -/
def sealOf (x : Sec) (prev : List Byte) (r : List Word) : List Byte :=
  (toBytesBE 32 (Config.hmacSha256 (x.otpBytes 0xC0 32) (prev ++ (recBytes r).take 24)).toNat).take 8

/-- The record at RD is sealed; nothing while the seal key is blank (19 R688). -/
def Log.seal (g : Log) (x : Sec) : Log :=
  if x.sealKeyOk && !g.empty then
    let r := g.recAt g.rd.toNat
    let z := sealOf x g.prevSeal r
    { g.put g.rd.toNat (r.take 6 ++ wordsLE z) with prevSeal := z }
  else g

/-- A new record without its seal (18 R651). -/
def Log.record (g : Log) (code src : Nat) (fw : Bool) (time data : Nat) : List Word :=
  [g.lseq, at32 0 (code % 65536) ||| at32 16 (src % 256) ||| flag32 24 fw, BitVec.ofNat 32 time,
    BitVec.ofNat 32 (time / 2 ^ 32), BitVec.ofNat 32 data, BitVec.ofNat 32 (data / 2 ^ 32), 0, 0]

/-- The log with RD moved on by one, the record it comes to being sealed (18 R654, 19 R686). -/
def Log.advance (g : Log) (x : Sec) : Log := { g with rd := g.rd + 1, full := false }.seal x

/-- The log with one record appended (18 R654): a full ring gives up the record at RD, and a record that comes into an
empty ring is sealed. -/
def Log.append (g : Log) (x : Sec) (r : List Word) : Log :=
  if g.full then
    { g.put g.wr.toNat r with wr := g.wr + 1, rd := g.rd + 1, lost := satAdd g.lost 1, lseq := g.lseq + 1 }.seal x
  else
    let g' := { g.put g.wr.toNat r with wr := g.wr + 1, full := g.wr + 1 == g.rd, lseq := g.lseq + 1 }
    if g.empty then g'.seal x else g'

/-- mtime and SH_NOW in µs: counted from the last core start (10 R371, 18 R645, 20 R696). -/
def State.usecs (s : State) : Nat := (s.now - s.top.startAt) / usec

/-- A record appended by the log engine or by firmware; nothing while the core is in reset. -/
def State.logBy (fw : Bool) (code src data : Nat) (s : State) : State :=
  if s.coreOn then
    { s with log := s.log.append s.sec (s.log.record code src fw s.usecs data) }.report
      (noteIf s.log.full [.raise Src.FO_LOGOVF])
  else s

/-- A hardware record (18 R652). -/
def State.logHw (code src data : Nat) (s : State) : State := s.logBy false code src data

end Sys2Proof.Machine
end

