-- ==== Sys2Proof/Machine/Faults.lean ====
section
/-! DEFINITION. The fault collector: arrivals, episodes, class lines, classes and fault injection (chapter 16). -/

namespace Sys2Proof.Machine

open Sys2Proof

/-! ### Classes and lines -/

/-- Effective class of a source (16 R562). -/
def Faults.cls (f : Faults) (n : Nat) : Nat := smGet baseClass f.clsUp n

/-- EPCLASS: 0 while no episode is open (16 R586). -/
def Faults.epClass (f : Faults) : Nat := if f.ep.isOpen then f.ep.cls else 0

/-- Sources for which R564 permits Fallback Beam, with their bits of RX_SEL (16 R564, 17 R618): PWR_UV, THM_SHUT,
GL_ERRRB, GL_HB, GL_FWDOG, ST_NOCAP, ST_LATE and AL_LOST. -/
def rxBit (n : Nat) : Option Nat :=
  if n = 9 then some 0 else if n = 13 then some 1 else if n = 27 then some 2 else if n = 28 then some 3
  else if n = 29 then some 4 else if n = 30 then some 5 else if n = 31 then some 6 else if n = 98 then some 7 else none

/-- Reaction of a source of effective class C3 is Safe Light Off (17 R596): a source that firmware raised follows
RX_RAISED, a C3 source of R564's second group has no other reaction. -/
def Faults.isSlo (f : Faults) (n : Nat) : Bool :=
  match rxBit n with
  | some i => bit f.rx i
  | none => if baseClass n < 3 then bit f.rx 8 else true

/-- LS: the open episode has EPCLASS C3 and a member of class C3 whose reaction is Safe Light Off (17 R596). -/
def Faults.ls (f : Faults) : Bool :=
  decide (f.epClass = 3) && (bitsOf f.ep.mem 171).any (fun n => decide (f.cls n = 3) && f.isSlo n)

/-- The lines the collector drives: L1–L4 in bits 0–3 and LS in bit 4 (16 R570). -/
def Faults.lines (f : Faults) : BitVec 5 :=
  BitVec.ofNat 5 ((2 ^ f.epClass - 1) + (if f.ls then 16 else 0))

/-! ### Arrivals (16 R561–R569) -/

/-- One arrival as the collector registers it. -/
structure Arrival where
  /-- Source. -/
  src : Nat
  /-- Effective class before the sample (16 R562). -/
  cls : Nat
  /-- Marked FORCED. -/
  forced : Bool
  deriving DecidableEq, Repr

/-- A list without its first entry that equals `x`. -/
def dropFirst (x : Fin 171) : List (Fin 171) → List (Fin 171)
  | [] => []
  | y :: r => if y = x then r else y :: dropFirst x r

/-- The arrivals of a sample, taken from the raises and forces that wait: a forced and a real arrival of one source are
one, marked FORCED (16 R583). -/
def Faults.take (f : Faults) : List (Fin 171) → Faults × List Arrival
  | [] => (f, [])
  | x :: r =>
    let here : List Arrival :=
      if f.forcedQ.contains x then [{ src := x.val, cls := f.cls x.val, forced := true }]
      else if f.raised.contains x then [{ src := x.val, cls := f.cls x.val, forced := false }]
      else []
    let f' : Faults := { f with raised := dropFirst x f.raised, forcedQ := dropFirst x f.forcedQ }
    let z := f'.take r
    (z.1, here ++ z.2)

/-- Pending bit, count and FORCED mark of an arrival (16 R561, R581). -/
def Faults.count1 (f : Faults) (a : Arrival) : Faults :=
  { f with
    pend := setBit f.pend a.src
    count := smSet (fun _ => (0 : Word)) a.src (satAdd (smGet (fun _ => 0) f.count a.src) 1) f.count
    lastForced := putBit f.lastForced a.src a.forced }

/-- Lowest source of some arrivals. -/
def lowSrc (l : List Arrival) : Nat := l.foldl (fun m a => min m a.src) 255

/-- Highest source of some arrivals. -/
def highSrc (l : List Arrival) : Nat := l.foldl (fun m a => max m a.src) 0

/-- Highest class of some arrivals. -/
def highCls (l : List Arrival) : Nat := l.foldl (fun m a => max m a.cls) 0

/-- Member bits with some arrivals joined. -/
def joinMem (m : BitVec 256) (l : List Arrival) : BitVec 256 := l.foldl (fun m a => setBit m a.src) m

/-- The episode that some arrivals open (16 R566, R569). -/
def Episode.begin (e : Episode) (l : List Arrival) (now us : Nat) (frame : BitVec 16) : Episode :=
  { e with
    isOpen := true, cls := highCls l, first := lowSrc l
    simul := l.any (fun a => a.src != lowSrc l)
    firstForced := l.any (fun a => a.src == lowSrc l && a.forced)
    forced := l.any (fun a => a.forced), last := highSrc l, arrivals := BitVec.ofNat 16 l.length, escal := 0
    time := BitVec.ofNat 32 us, frame := frame, seq := satAdd e.seq 1, mem := joinMem 0 l, lastAt := now }

/-- The episode with some arrivals joined (16 R566, R567). -/
def Episode.join (e : Episode) (l : List Arrival) (now : Nat) : Episode :=
  { e with
    cls := max e.cls (highCls l)
    escal := if e.cls < highCls l then BitVec.ofNat 8 (min 255 (e.escal.toNat + 1)) else e.escal
    forced := e.forced || l.any (fun a => a.forced), last := highSrc l
    arrivals := BitVec.ofNat 16 (min 65535 (e.arrivals.toNat + l.length)), mem := joinMem e.mem l, lastAt := now }

/-- Injection locked (16 R580); REMAIN becomes 0 (16 R582). -/
def Injection.lock (i : Injection) : Injection := { i with unlocked := false, firstKey := none, remain := 0, target := 0 }

/-- What a change between locked and unlocked reports (16 R580, R585). -/
def injNotes : List Note := [.raise Src.FC_INJ, .irq 0x48 4]

/-- Injection has been used at an instant (16 R580). -/
def Injection.used (i : Injection) (now : Nat) : Injection := { i with usedAt := now }

/-- A requester as BY names it; none for a DMA channel. -/
def injBy : Req → Option Bool
  | .host => some false
  | .forester => some true
  | .dma _ => none

/-- A requester may force and arm (16 R580). -/
def State.mayInject (s : State) (req : Req) : Bool :=
  s.flt.inj.unlocked && injBy req == some s.flt.inj.by_

/-- INJERR set. -/
def State.injError (s : State) : State :=
  ({ s with flt := { s.flt with inj := { s.flt.inj with injErr := true } } }).hit Reg.FC_INJSTAT 4

/-- FC_CHKINV written while the requester may (16 R582). -/
def Injection.arm (i : Injection) (v : Word) : Option Injection :=
  let target := fld v 0 4
  let mode := fld v 4 2
  let count := fld v 8 4
  if target = 0 then some { i with target := 0, remain := 0 }
  else if target < 12 ∧ (mode = 1 ∨ mode = 2) ∧ count ≠ 0 then
    some { i with target := BitVec.ofNat 4 target, mode := BitVec.ofNat 2 mode, remain := BitVec.ofNat 4 count,
                  addr := BitVec.ofNat 4 (fld v 12 4) }
  else none

/-- FC_CHKINV written (16 R580, R582). -/
def State.writeChkinv (req : Req) (v : Word) (s : State) : State :=
  match s.flt.inj.arm v with
  | some i => if s.mayInject req then { s with flt := { s.flt with inj := i.used s.now } } else s.injError
  | none => s.injError

/-- Sources of a page that the ones of a word name (16 R560). -/
def forcedSrcs (page : Nat) (v : Word) : List (Fin 171) :=
  (bitsOf v 32).filterMap (fun j => (srcAt page j).bind (fun n => if h : n < 171 then some ⟨n, h⟩ else none))

/-- PG_FLT_FORCE written (16 R580, R581). -/
def State.writeForce (req : Req) (page : Nat) (v : Word) (s : State) : State :=
  if s.mayInject req then
    { s with flt := { s.flt with forcedQ := s.flt.forcedQ ++ forcedSrcs page v, inj := s.flt.inj.used s.now } }
  else s.injError

/-- A write to PG_FLT_FORCE of a page. -/
def State.forcePage (req : Req) (page : Byte) (v : Word) (s : State) : State :=
  s.when ((pageInfo page.toNat).isSome) (State.access req page.toNat (State.writeForce req page.toNat v))

/-- Forces and check-bit inversions that the sample of a return to locked registers are judged by the state before it, and performed
(16 R583). -/
def State.forcesFirst (s : State) : State :=
  s.takeFirst (fun c => match c with
    | .pgFltForce _ req page v => some (State.forcePage req page v)
    | .fcChkinv _ req v => some (State.access req 0x48 (State.writeChkinv req v))
    | _ => none)

/-- Injection of the collector locked, if it is unlocked. -/
def State.lockInj (s : State) : State :=
  if s.flt.inj.unlocked then { s with flt := { s.flt with inj := s.flt.inj.lock } }.report injNotes else s

/-- Injection locked at the opening of a C4 episode or an escalation to C4 (16 R580, 17 R631). -/
def State.lockOnC4 (s : State) : State :=
  let s := s.forcesFirst
  { s with glade := { s.glade with sspi := { s.glade.sspi with inj := false, key1 := false } } }.lockInj

/-- Number of the time-base frame in progress, low 16 bits; 0xFFFF before B_0 (16 R566). -/
def State.frame16 (s : State) : BitVec 16 := BitVec.ofNat 16 (s.tb.fcnt.toNat + 65535)

/-- Arrivals of class C1 or higher open or join the episode; hardware log records follow (16 R565–R569, 18 R652). -/
def State.episode (l : List Arrival) (s : State) : State :=
  if l.isEmpty then s
  else if !s.flt.ep.isOpen then
    let e := s.flt.ep.begin l s.now s.usecs s.frame16
    (({ s with flt := { s.flt with ep := e } }.report [.irq 0x48 0]).logHw 1 e.first (e.cls + e.seq.toNat * 2 ^ 32)).when
      (e.cls == 4) State.lockOnC4
  else
    let e := s.flt.ep.join l s.now
    let s' := { s with flt := { s.flt with ep := e } }
    if s.flt.ep.cls < e.cls then
      ((s'.report [.irq 0x48 1]).logHw 2 (lowSrc (l.filter (fun a => a.cls == e.cls))) e.cls).when (e.cls == 4)
        State.lockOnC4
    else s'

/-- The collector's own parity after an update with the checker armed (16 R582). -/
def State.collectorParity (s : State) : State :=
  if s.injMode 11 = 0 then s else (s.useInj 11).report [.raise Src.FC_PAR]

/-- The pending bit that an arrival sets, as the bit of FC_PEND that it is (00 R8). -/
def Arrival.pending (a : Arrival) : Note := Note.hit (Reg.FC_PEND (a.src / 32)) (2 ^ (a.src % 32))

/-- Key, above every register, of a source's class before the sample (16 R562). -/
def classKey (n : Nat) : Nat := 0x200100 + n

/-- An arrival judged at its source's class before the sample (16 R562, R583). -/
def State.judgeArrival (s : State) (a : Arrival) : Arrival := { a with cls := ((s.kept (classKey a.src)).map (fun w => w.toNat)).getD a.cls }

/-- The collector registers the arrivals of one sample. -/
def State.arrive (srcs : List (Fin 171)) (s : State) : State :=
  let z := s.flt.take srcs
  let z := (z.1, z.2.map s.judgeArrival)
  if z.2.isEmpty then s
  else
    let s := { s with flt := z.2.foldl Faults.count1 z.1 }.report
      (noteIf (z.2.any (fun a => a.cls == 0)) [.irq 0x48 3] ++ z.2.map Arrival.pending)
    (s.episode (z.2.filter (fun a => decide (0 < a.cls)))).collectorParity

/-- FAULT_ARRIVAL (16 R561): the arrivals of one collector sample, among the raises and forces that wait. -/
def execFaultArrival (t : Nat) (srcs : List (Fin 171)) (s : State) : Host.Outcome State Fault Refusal :=
  onCore t s (State.once (.faultArrival t srcs) (State.arrive srcs))

/-! ### Episode close (16 R568) -/

/-- The episode record at a close. -/
def Episode.close (e : Episode) (us : Nat) : Episode :=
  { e with
    isOpen := false, prevFirst := BitVec.ofNat 8 e.first, prevCls := BitVec.ofNat 3 e.cls, prevForced := e.forced
    prevArr := e.arrivals, prevDur := BitVec.ofNat 32 us - e.time }

/-- The open episode closes (16 R568, 18 R652). -/
def State.closeEpisode (s : State) : State :=
  let e := s.flt.ep.close s.usecs
  (({ s with flt := { s.flt with ep := e } }.report [.irq 0x48 2]).logHw 3 e.prevFirst.toNat e.prevDur.toNat)

/-- The close condition but for the quiet time: no member is pending (16 R568). -/
def Faults.mayClose (f : Faults) : Bool :=
  f.ep.isOpen && decide (f.ep.cls < 4) && f.ep.mem &&& f.pend == 0

/-- No arrival of class C1 or higher has been registered for QUIET ms (16 R568). -/
def State.quiet (s : State) : Bool := decide (s.flt.ep.lastAt + fld (rget s.regs Reg.FC_CFG) 0 10 * msec ≤ s.now)

/-- The arrivals that the sample of a close registers come first (16 R583). -/
def State.arrivalsFirst (s : State) : State :=
  s.takeFirst (fun c => match c with
    | .faultArrival _ srcs => some (State.arrive srcs)
    | _ => none)

/-- EPISODE_CLOSE (16 R568). -/
def execEpisodeClose (t : Nat) (s : State) : Host.Outcome State Fault Refusal :=
  onCore t s (fun s =>
    let s := s.arrivalsFirst
    s.when (s.flt.mayClose && s.quiet) State.closeEpisode)

/-! ### Classes (16 R562) -/

/-- FC_SRCCLS written: a class is only raised; above 4 it stores 4. -/
def Faults.raiseCls (f : Faults) (n v : Nat) : Faults :=
  if n < 171 ∧ f.cls n < min 4 v then { f with clsUp := smSet baseClass n (min 4 v) f.clsUp } else f

/-- FC_SRCCLS written: arrivals of this sample keep the class before it (16 R562). -/
def State.writeSrccls (v : Word) (s : State) : State :=
  let n := fld (rget s.regs Reg.FC_SRCSEL) 0 8
  let s := s.keepAs (classKey n) (BitVec.ofNat 32 (s.flt.cls n))
  { s with flt := s.flt.raiseCls n (fld v 0 3) }

/-- FC_SRCCLS (16 R562): of the source in FC_SRCSEL. -/
def execFcSrccls (t : Nat) (req : Req) (v : Word) (s : State) : Host.Outcome State Fault Refusal :=
  onCore t s (State.access req 0x48 (State.writeSrccls v))

/-! ### Fault injection (16 R579–R582) -/

/-- The GPR allows injection (16 R579, 17 R618). -/
def State.injEn (s : State) : Bool := decide ((leAt s.glade.gpr 0x010 1 / 4) % 2 = 1)

/-- Injection unlocked by a requester. -/
def State.unlockInj (by_ : Bool) (s : State) : State :=
  { s with flt := { s.flt with inj := { s.flt.inj with unlocked := true, by_ := by_, firstKey := none, usedAt := s.now } } }.report injNotes

/-- The first key remembered, or forgotten. -/
def State.firstKey (k : Option (Bool × Nat)) (s : State) : State :=
  { s with flt := { s.flt with inj := { s.flt.inj with firstKey := k } } }

/-- The second key meets R579: same requester, within 100 µs, INJ_EN 1. -/
def State.keyGood (s : State) (by_ : Bool) : Bool :=
  s.injEn && (match s.flt.inj.firstKey with
    | some (b, t0) => b == by_ && decide (s.now ≤ t0 + 100 * usec)
    | none => false)

/-- A key written to FC_INJ (16 R579). -/
def State.writeKey (by_ : Bool) (key : Nat) (s : State) : State :=
  if key = 0x1F17 then s.firstKey (some (by_, s.now))
  else if key = 0xE0E8 ∧ s.keyGood by_ then
    (if s.flt.inj.unlocked then s.firstKey none else s.unlockInj by_)
  else (s.firstKey none).injError

/-- FC_INJ written with LOCK = 0: a key. A DMA write has no effect (16 R579). -/
def State.writeInjKey (req : Req) (v : Word) (s : State) : State :=
  match injBy req with
  | some b => s.writeKey b (fld v 0 16)
  | none => s

/-- FC_INJ written with LOCK = 1. -/
def State.writeInjLock (req : Req) (s : State) : State :=
  match injBy req with
  | some _ => (s.firstKey none).lockInj
  | none => s

/-- FC_INJ written: LOCK comes before the key. -/
def State.writeInj (req : Req) (v : Word) (s : State) : State :=
  if bit v 16 then s.writeInjLock req else s.writeInjKey req v

/-- INJECTION_KEY (16 R579). -/
def execInjectionKey (t : Nat) (req : Req) (v : Word) (s : State) : Host.Outcome State Fault Refusal :=
  onCore t s (State.access req 0x48 (State.writeInjKey req v))

/-- INJECTION_LOCK (16 R580): a write of LOCK = 1, whatever its key; a 0 in LOCK writes a key. -/
def execInjectionLock (t : Nat) (req : Req) (v : Word) (s : State) : Host.Outcome State Fault Refusal :=
  onCore t s (State.access req 0x48 (State.writeInj req v))

/-- INJECTION_TIMEOUT (16 R580, 17 R631): 1 s without an accepted force, of the collector's injection or of Glade's. -/
def execInjectionTimeout (t : Nat) (glade : Bool) (s : State) : Host.Outcome State Fault Refusal :=
  if glade then
    onGlade t s (fun s => { s with glade := { s.glade with sspi := { s.glade.sspi with inj := false, key1 := false } } })
  else onCore t s (fun s => s.when (decide (s.flt.inj.usedAt + 1000 * msec ≤ s.now)) (fun s => s.forcesFirst.lockInj))

/-- FC_CHKINV (16 R582). -/
def execFcChkinv (t : Nat) (req : Req) (v : Word) (s : State) : Host.Outcome State Fault Refusal :=
  onCore t s (State.once (.fcChkinv t req v) (State.access req 0x48 (State.writeChkinv req v)))

/-- PG_FLT_FORCE (16 R581). -/
def execPgFltForce (t : Nat) (req : Req) (page : Byte) (v : Word) (s : State) : Host.Outcome State Fault Refusal :=
  onCore t s (State.once (.pgFltForce t req page v) (State.forcePage req page v))

end Sys2Proof.Machine
end

