-- ==== Sys2Proof/Machine/ForesterCore.lean ====
section
/-! DEFINITION. The Forester reset and the firmware watchdog's window (18 R640, R659, R660). -/

namespace Sys2Proof.Machine

open Sys2Proof

/-- CAUSE of a reset (18 R640). -/
def causeCode : ForCause → BitVec 3
  | .power => 1
  | .shutdown => 2
  | .watchdog => 3
  | .tcm => 4
  | .software => 5
  | .debug => 6

/-- Register words after a Forester reset: the local page cleared, FP_BOOT retained but for cause 1 (18 R640, R665). -/
def foresterRegs (c : ForCause) (f : RegFile) : RegFile :=
  f.filter (fun x => decide (x.1 < 0x100000) || (x.1 == Reg.FP_BOOT && c != .power))

/-- The command is a page program. -/
def norProgram (v : Word) : Bool := fld v 0 8 == 0x02 || fld v 0 8 == 0x32 || fld v 0 8 == 0xA2

/-- Size of what an erase clears; 0 for a command that is none (18 R643, R644). -/
def norErase (v : Word) : Nat :=
  let op := fld v 0 8
  if op = 0x20 then 0x1000 else if op = 0x52 then 0x8000 else if op = 0xD8 then 0x10000
  else if op = 0x60 ∨ op = 0xC7 then 0x1000000 else 0

/-- Forester after a reset, held in reset or in the ROM: TCM, pins and the retained fields stay (18 R640, R641), and the SPI NOR
master ends what an orderly window left (15 R546). -/
def Forester.reset (x : Forester) (c : ForCause) (held : Bool) : Forester :=
  { st := if held then .reset else .rom, cause := causeCode c
    triedA := x.triedA && c != .power, triedB := x.triedB && c != .power, tcm := x.tcm
    spi := if held && x.spi.closing then x.spi else {} }

/-- The command programs or erases the flash. -/
def norChanges (c : Option (Word × BitVec 24)) : Bool :=
  match c with
  | some (v, _) => norProgram v || norErase v != 0
  | none => false

/-- What the master holds at an orderly window's end: the command on the bus, and whether the status is polled already
(15 R546). -/
def SpiNor.close (x : SpiNor) : SpiNor :=
  let cmd := if x.loadWait then none else x.cmd
  { cmd := cmd, last := x.last, closing := true, polling := cmd.isNone && norChanges x.last }

/-- The read of the flash's status that the master repeats every 10 µs (15 R546). -/
def norPoll : Note := .send (.nor 0x00010005 0 [])

/-- The watchdog at a Forester reset: the boot window opens at the release (18 R659); it is stopped while Forester is held
(18 R660). -/
def Glade.wdRestart (g : Glade) (now : Nat) (held : Bool) : Glade :=
  { g with wdBoot := true, wdAt := now, wdStopped := held }

/-- A Forester reset with its log record (18 R640, R652). ROMPHASE is set (19 R674); an OTP program goes on. -/
def State.resetForester (c : ForCause) (held : Bool) (s : State) : State :=
  ({ s with
    regs := foresterRegs c s.regs
    fst := s.fst.reset c held
    sec := { s.sec with romPhase := true }
    glade := s.glade.wdRestart s.now held }).logHw 0x0030 0xFF (causeCode c).toNat

/-- WD_BOOT in ms; 5000 for a field of 0 or no GPR in force (18 R659). -/
def Glade.bootMs (g : Glade) : Nat := if g.gp 0x01C 0 16 = 0 then 5000 else g.gp 0x01C 0 16

/-- WD_RUN in ms; 100 for a field of 0 or no GPR in force (18 R659). -/
def Glade.runMs (g : Glade) : Nat := if g.gp 0x01C 16 16 = 0 then 100 else g.gp 0x01C 16 16

/-- Length of the window in progress in ms. -/
def Glade.wdWindow (g : Glade) : Nat := if g.wdBoot then g.bootMs else g.runMs

/-- Whole 1 ms ticks since the last service or the opening of the boot window. -/
def Glade.wdTicks (g : Glade) (now : Nat) : Nat := (now - g.wdAt) / msec

/-- The watchdog counts: after LOAD, with Forester out of reset (18 R659, R660). -/
def State.wdRuns (s : State) : Bool := s.glade.loadEnded && !s.glade.wdStopped && s.fst.st != .reset

end Sys2Proof.Machine
end

