-- ==== Sys2Proof/Machine/PageHeader.lean ====
section
/-! DEFINITION. The header of a register page as it reads (13 R479, 16 R560). -/

namespace Sys2Proof.Machine

open Sys2Proof

/-- PG_FLT_PEND of a page: the FC_PEND bits of its sources (16 R560). -/
def fltPend (f : Faults) (p : Nat) : Word :=
  (List.range 32).foldl (fun w j => match srcAt p j with
    | some n => if bit f.pend n then setBit w j else w
    | none => w) 0

/-- PG_IRQ_PEND of a page: RAW and EN. -/
def irqPend (f : RegFile) (p : Nat) : Word := rget f (p * 0x1000 + 0x010) &&& rget f (p * 0x1000 + 0x018)

/-- PG_ID of a page in use (13 R474, R479). -/
def pgId (p : Nat) : Word :=
  match pageInfo p with
  | some i => at32 0 i.1 ||| at32 16 i.2.1 ||| at32 24 1
  | none => 0

/-- A header word of a page in use. -/
def State.headerWord (s : State) (p off : Nat) : Word :=
  if off = 0x000 then pgId p
  else if off = 0x004 then 0x441000B1
  else if off = 0x00C then
    (rget s.regs (p * 0x1000 + 0x00C) &&& 4) ||| flag32 0 (irqPend s.regs p != 0) ||| flag32 1 (fltPend s.flt p != 0)
  else if off = 0x014 then irqPend s.regs p
  else if off = 0x020 then fltPend s.flt p
  else rget s.regs (p * 0x1000 + off)

end Sys2Proof.Machine
end

