-- ==== Sys2Proof/Machine/GladeCore.lean ====
section
/-! DEFINITION. Glade's decision (17 R596–R608, R574–R576): its conditions, demands, transitions and outputs, and the page
that mirrors them. -/

namespace Sys2Proof.Machine

open Sys2Proof

/-! ### The GPR's fields that the state machine uses (17 R618) -/

/-- FN of a pair: 0 A, 1 B. -/
def Glade.pairFn (g : Glade) (i : Nat) : Nat := g.gp (0x008 + 4 * i) 0 2

/-- FILT of a pair in ms, 10 with COMPAT (17 R602). -/
def Glade.pairFilt (g : Glade) (i : Nat) : Nat := if g.gp 0x010 0 1 = 1 then 10 else g.gp (0x008 + 4 * i) 8 5

/-- DISC of a pair in ms. -/
def Glade.pairDisc (g : Glade) (i : Nat) : Nat := g.gp (0x008 + 4 * i) 16 10

/-- COMPAT. -/
def Glade.compat (g : Glade) : Bool := g.gp 0x010 0 1 == 1

/-- RX_SEL of one of Glade's own three C3 sources with a choice: GL_ERRRB, GL_HB, GL_FWDOG in bits 2–4. -/
def Glade.rxSel (g : Glade) (i : Nat) : Bool := g.gp 0x014 i 1 == 1

/-- AEN_RUN. -/
def Glade.aenRun (g : Glade) : BitVec 4 := BitVec.ofNat 4 (g.gp 0x018 0 4)

/-- AEN_FB (17 R603). -/
def Glade.aenFb (g : Glade) : BitVec 4 := gprAenFb g.gpr

/-- The fallback profile enables a surface. -/
def Glade.anySurf (g : Glade) : Bool := gprEn g.gpr 0 || gprEn g.gpr 1

/-! ### Conditions and demands (17 R605) -/

/-- The lines as Glade takes them: a line whose levels are equal is true (16 R573), a masked line false (17 R612). -/
def Glade.taken (g : Glade) : BitVec 5 := (g.lines ||| g.lineBad) &&& ~~~g.masked

/-- Conditions of the GLADE-page sources that hold now (17 R629, R635). -/
def Glade.holding (g : Glade) : BitVec 12 :=
  putBit (if g.lineBad = 0 then g.cond else setBit g.cond 10) 8 (g.loadEnded && !g.fbOk && g.anySurf)

/-- The SSPI demand: 0 none, 1 Safe Light Off, 2 Fallback Beam (17 R630). -/
def Glade.sspiDemand (g : Glade) : Nat := if g.sspi.wdExp then g.gp 0x010 24 2 else g.sspi.fn.toNat

/-- CAUSE code of the SSPI demand (17 R634). -/
def Glade.sspiCause (g : Glade) : Nat := if g.sspi.wdExp then 7 else 6

/-- CAUSE codes of D_LOCK's components that hold. -/
def Glade.lockCauses (g : Glade) : List Nat :=
  (if bit g.taken 3 then [2] else []) ++ (if (g.raised &&& 0x7F#12) != 0 then [3] else [])

/-- CAUSE codes of the conditions of D_FB that hold, but for FB_OK. -/
def Glade.beamCauses (g : Glade) : List Nat :=
  (if bit g.taken 2 && !bit g.taken 4 then [1] else []) ++
  (if (bit g.raised 9 && !g.rxSel 2) || (bit g.raised 10 && !g.rxSel 3) || (bit g.raised 11 && !g.rxSel 4) then [3]
    else []) ++
  (if g.pairA.demand && g.pairFn 0 == 2 then [4] else []) ++ (if g.pairB.demand && g.pairFn 1 == 2 then [5] else []) ++
  (if g.sspiDemand = 2 then [g.sspiCause] else [])

/-- CAUSE codes of D_SLO's components that hold. -/
def Glade.sloCauses (g : Glade) : List Nat :=
  (if bit g.taken 2 && bit g.taken 4 then [1] else []) ++
  (if bit g.raised 7 || bit g.raised 8 || (bit g.raised 9 && g.rxSel 2) || (bit g.raised 10 && g.rxSel 3) ||
      (bit g.raised 11 && g.rxSel 4) then [3] else []) ++
  (if g.pairA.demand && g.pairFn 0 == 1 then [4] else []) ++ (if g.pairB.demand && g.pairFn 1 == 1 then [5] else []) ++
  (if g.sspiDemand = 1 then [g.sspiCause] else []) ++ (if g.fbOk then [] else g.beamCauses)

/-- CAUSE codes of D_FB's components that hold. -/
def Glade.fbCauses (g : Glade) : List Nat := if g.fbOk then g.beamCauses else []

/-- D_LOCK. -/
def Glade.dLock (g : Glade) : Bool := !g.lockCauses.isEmpty

/-- D_SLO. -/
def Glade.dSlo (g : Glade) : Bool := !g.sloCauses.isEmpty

/-- D_FB. -/
def Glade.dFb (g : Glade) : Bool := !g.fbCauses.isEmpty

/-- Lowest CAUSE code of some components; 0 with none (17 R606). -/
def causeOf (l : List Nat) : BitVec 4 := BitVec.ofNat 4 (if l.isEmpty then 0 else l.foldl min 15)

/-! ### READY and return (17 R607, R608) -/

/-- RDY_u (17 R607). -/
def State.rdy (s : State) (u : Fin 2) : Bool :=
  s.coreOn && bit (s.active (Reg.ST_CTRL u)) 0 && rget s.regs (Reg.TM_SHOWSEQ u) != 0

/-- RDY_u of every surface the profile enables, or of one when it enables none. -/
def rdyAll (gpr : List Byte) (r0 r1 : Bool) : Bool :=
  if gprEn gpr 0 || gprEn gpr 1 then (r0 || !gprEn gpr 0) && (r1 || !gprEn gpr 1) else r0 || r1

/-- READY, from the levels RDY_0 and RDY_1. -/
def Glade.ready (g : Glade) (r0 r1 : Bool) : Bool := rdyAll g.gpr r0 r1 && (g.gp 0x010 4 1 == 0 || g.resumed)

/-- The state's own demand (17 R608). -/
def Glade.ownDemand (g : Glade) : Bool :=
  match g.st with
  | .slo => g.dSlo
  | .fbeam => g.dFb
  | _ => false

/-- A return from the present state is to be permitted under RET_MODE m. -/
def Glade.returnOpen (g : Glade) (m : Nat) : Bool :=
  g.reacted && g.gp 0x010 5 2 == m && (g.st == .slo || g.st == .fbeam) && !g.ownDemand

/-- RETOK as the sample leaves it: lost when the own demand appears; at once with RET_MODE 0 and no dwell. -/
def Glade.retOkNow (g : Glade) : Bool := (g.retOk && !g.ownDemand) || (g.returnOpen 0 && g.gp 0x010 8 8 == 0)

/-! ### Transitions (17 R606) -/

/-- Entry to a state. -/
def Glade.enter (g : Glade) (st : GladeState) (cause : BitVec 4) (reacted : Bool) : Glade :=
  { g with st := st, cause := cause, reacted := reacted, resumed := false, retOk := false }

/-- Reactive entry to SLO. -/
def Glade.toSlo (g : Glade) : Glade := { g.enter .slo (causeOf g.sloCauses) true with cntSlo := satAdd g.cntSlo 1 }

/-- Reactive entry to FBEAM. -/
def Glade.toFb (g : Glade) : Glade := { g.enter .fbeam (causeOf g.fbCauses) true with cntFb := satAdd g.cntFb 1 }

/-- Entry to LOCKOUT. -/
def Glade.toLock (g : Glade) : Glade :=
  { g.enter .lockout (causeOf g.lockCauses) g.reacted with cntLock := satAdd g.cntLock 1 }

/-- The first row of the table that holds, with READY. -/
def Glade.transit (g : Glade) (ready : Bool) : Glade :=
  if g.st != .lockout && g.dLock then g.toLock
  else match g.st with
    | .load => if g.loadEnded then g.enter .slo 0 false else g
    | .run => if g.dSlo then g.toSlo else if g.dFb then g.toFb else g
    | .fbeam =>
      if g.dSlo then g.toSlo
      else if g.dFb then { g with reacted := true }
      else if g.reacted && !g.retOk then g
      else if ready then g.enter .run 0 false
      else g
    | .slo =>
      if g.dSlo then g
      else if g.reacted && !g.retOk then g
      else if g.dFb then g.toFb
      else if ready then g.enter .run 0 false
      else if g.fbOk && g.anySurf then g.enter .fbeam 0 false
      else g
    | .lockout => g

/-! ### Outputs (17 R590, R603, 16 R574–R576) -/

/-- Driven AEN levels of a state. -/
def Glade.aenOut (g : Glade) : BitVec 4 :=
  if g.rcHold then 0 else match g.st with
    | .run => g.aenRun
    | .fbeam => g.aenFb
    | _ => 0

/-- Selection line of surface u. -/
def Glade.select (g : Glade) (u : Nat) : Bool := g.st == .fbeam && gprEn g.gpr u

/-- A condition of R575 for the Fault state, or the hold of R590. -/
def Glade.errWanted (g : Glade) : Bool :=
  bit g.taken 2 || (bit g.taken 1 && g.gp 0x010 1 1 == 1) || g.st != .run || g.raised != 0 || g.rcHold

/-- The ERR pair: once in Fault it stays for 1 ms (16 R576). -/
def Glade.drive (g : Glade) : Glade :=
  let out := g.aenOut
  let flt := g.errWanted || (g.errFault && g.errHold)
  let err : BitVec 2 := if flt then 2 else 1
  { g with
    aenDrv := out, aenRb := (out &&& ~~~g.aenStuck) ||| (g.aenRb &&& g.aenStuck)
    errFault := flt, errHold := if flt && !g.errFault then true else g.errHold && flt
    errRb := (err &&& ~~~g.errStuck) ||| (g.errRb &&& g.errStuck) }

/-! ### A sample -/

/-- Demand changes of COMPAT whose instant has come (17 R602). -/
def SinPair.ripe (p : SinPair) (now : Nat) : SinPair :=
  { p with
    demand := ((p.due.filter (fun x => decide (x.1 ≤ now))).getLast?.map (fun x => x.2)).getD p.demand
    due := p.due.filter (fun x => !decide (x.1 ≤ now)) }

/-- Read-back conditions: they hold while a pad that has differed still differs (17 R593). -/
def Glade.readback (g : Glade) : Glade :=
  let errBad := g.errRb != (if g.errFault then 2 else 1)
  { g with cond := putBit (putBit g.cond 6 (bit g.cond 6 && g.aenRb != g.aenDrv)) 9 (bit g.cond 9 && errBad) }

/-- One sample of the state machine: sources whose condition holds are raised (17 R605, R612), then the table. -/
def Glade.sample (g : Glade) (now : Nat) (r0 r1 : Bool) : Glade :=
  let g := { g with pairA := g.pairA.ripe now, pairB := g.pairB.ripe now }
  let g := { g with raised := g.raised ||| g.readback.holding, cond := g.readback.cond }
  let g := { g with retOk := g.retOkNow }
  (g.transit (g.ready r0 r1)).drive

/-- GLADE-page source j. -/
def gladeSrc (j : Nat) : Fin 171 := if h : 18 + j < 171 then ⟨18 + j, h⟩ else 0

/-- Encoding of STATE (17 R634). -/
def GladeState.code : GladeState → Nat
  | .load => 0
  | .run => 1
  | .fbeam => 2
  | .slo => 3
  | .lockout => 4

/-- What a sample of Glade reports beside its outputs: the new raises as arrivals (17 R605) and the log record of a change
of state (18 R652). -/
def State.gladeReport (old new : Glade) (s : State) : State :=
  let s := s.report ((bitsOf (new.raised &&& ~~~old.raised) 12).map (fun j => .raise (gladeSrc j)))
  if old.st = new.st then s
  else s.logHw 0x0010 0xFF (old.st.code + new.st.code * 2 ^ 8 + new.cause.toNat * 2 ^ 16)

/-- One sample of Glade on the block. -/
def State.gladeSample (s : State) : State :=
  let g := s.glade.sample s.now (s.rdy 0) (s.rdy 1)
  { s with glade := g }.gladeReport s.glade g

/-- Glade's samples after a change of its inputs, up to its next rest: at most four changes of state follow one another
(DEDUCED, log entry 18). -/
def State.gladeSettle (s : State) : State :=
  if s.gladeOn then s.gladeSample.gladeSample.gladeSample.gladeSample else s

/-- A command to Glade, followed by the samples it leads to. -/
def onGladeSettled (t : Nat) (s : State) (f : State → State) : Host.Outcome State Fault Refusal :=
  onGlade t s (fun s => (f s).gladeSettle)

/-- The condition of a source begins or ends. -/
def State.gladeCond (j : Nat) (on : Bool) (s : State) : State :=
  { s with glade := { s.glade with cond := putBit s.glade.cond j on } }

/-! ### The GLADE page (17 R634) -/

/-- Levels of a pair in two bits. -/
def pairBits (a b : Bool) : Nat := a.toNat + 2 * b.toNat

/-- GL_STAT. -/
def State.glStat (s : State) : Word :=
  let g := s.glade
  at32 0 g.st.code ||| at32 3 (pairBits (g.select 0) (g.select 1)) ||| flag32 5 g.fbOk ||| at32 6 g.gprSrc.toNat |||
    at32 8 (if g.errFault then 2 else 1) ||| flag32 10 g.compat ||| flag32 11 g.reacted ||| at32 12 g.cause.toNat |||
    at32 16 g.taken.toNat ||| flag32 21 g.retOk ||| flag32 22 (g.ready (s.rdy 0) (s.rdy 1))

/-- GL_OUT. -/
def Glade.outWord (g : Glade) : Word :=
  at32 0 g.aenDrv.toNat ||| at32 4 g.aenRb.toNat ||| at32 8 g.aenRun.toNat ||| at32 12 g.aenFb.toNat |||
    at32 16 g.errRb.toNat

/-- A pair demands on its filtered levels (17 R600). -/
def SinPair.wants (p : SinPair) : Bool := !p.filt1 || !p.filt2

/-- GL_SIN. -/
def Glade.sinWord (g : Glade) : Word :=
  at32 0 (pairBits g.pairA.raw1 g.pairA.raw2) ||| at32 2 (pairBits g.pairB.raw1 g.pairB.raw2) |||
    at32 4 (pairBits g.pairA.filt1 g.pairA.filt2) ||| at32 6 (pairBits g.pairB.filt1 g.pairB.filt2) |||
    flag32 8 g.pairA.wants ||| flag32 9 g.pairB.wants ||| flag32 10 g.pairA.timer.isSome ||| flag32 11 g.pairB.timer.isSome

/-- A register of the GLADE page at an offset from 0x040. -/
def State.gladeReg (s : State) (off : Nat) : Word :=
  let g := s.glade
  if off = 0x040 then s.glStat
  else if off = 0x044 then g.outWord
  else if off = 0x048 then g.sinWord
  else if off = 0x04C then at32 0 g.pairA.ticks.toNat ||| at32 16 g.pairB.ticks.toNat
  else if off = 0x050 then flag32 0 g.pressed ||| at32 1 g.press ||| flag32 15 g.stuck
  else if off = 0x054 then at32 0 g.raised.toNat
  else if off = 0x058 then g.cntSlo
  else if off = 0x05C then g.cntFb
  else if off = 0x060 then g.cntLock
  else if off = 0x064 then g.cntSrst
  else if off = 0x068 then at32 0 g.loadUs.toNat ||| at32 21 g.fbErr.toNat
  else if off = 0x06C then
    at32 0 g.sspi.accepted.toNat ||| at32 16 g.sspi.rejected.toNat ||| flag32 24 g.sspi.inj ||| flag32 25 g.sspi.wdExp
  else if off = 0x070 then at32 0 g.xcnt.toNat ||| at32 16 g.scnt.toNat
  else if off = 0x0C0 then at32 0 g.sspi.fn.toNat
  else if 0x200 ≤ off ∧ off < 0x400 then gprWord g.gpr (off - 0x200)
  else 0

/-- A register of the GLADE page at any offset. -/
def State.gladePage (s : State) (off : Nat) : Word := if off < 0x040 then s.headerWord 0x50 off else s.gladeReg off

end Sys2Proof.Machine
end

