-- ==== Sys2Proof/Machine/Glade.lean ====
section
/-! DEFINITION. Glade's events: its cycle, lines, checkers, the deliberate reset and the safety serial port
(17 R590–R632, 16 R573, R576). -/

namespace Sys2Proof.Machine

open Sys2Proof

/-! ### The cycle (17 R598–R602, R611–R613) -/

/-- Consecutive equal samples after one more, at most `top`. -/
def runOf (old now : Bool) (n top : Nat) : Nat := if old == now then min top (n + 1) else 1

/-- The samples of a cycle taken into a pair (17 R599); `f` is FILT, `on` that the pair is enabled. -/
def SinPair.samples (p : SinPair) (a b on : Bool) (f : Nat) : SinPair :=
  let r1 := runOf p.raw1 a p.run1 80
  let r2 := runOf p.raw2 b p.run2 80
  { p with
    raw1 := a, raw2 := b, run1 := r1, run2 := r2
    filt1 := !on || (if 4 * f ≤ r1 then a else p.filt1)
    filt2 := !on || (if 4 * f ≤ r2 then b else p.filt2) }

/-- The demand of the cycle moves towards the outputs: two cycles, and 1.48 ms more with COMPAT (17 R600, R602). -/
def SinPair.demands (p : SinPair) (now : Nat) (compat : Bool) : SinPair :=
  let p' := { p with dem0 := p.wants, dem1 := p.dem0 }
  if compat then { p' with due := p.due ++ [(now + 1480 * usec, p.dem1)] } else { p' with demand := p.dem1 }

/-- The discrepancy timer of a pair (17 R601); `d` is DISC. -/
def SinPair.discrepancy (p : SinPair) (on : Bool) : SinPair :=
  if on && p.filt1 != p.filt2 then
    let m := match p.timer with | some j => j + 1 | none => 0
    { p with timer := some m, ticks := BitVec.ofNat 10 (min 1023 (m / 4)) }
  else { p with timer := none }

/-- A discrepancy fault in this cycle: n first equals D (17 R601). -/
def SinPair.discFault (p : SinPair) (d : Nat) : Bool := p.timer == some (4 * d) && decide (0 < d)

/-- A pair after a cycle: 0 A, 1 B. -/
def Glade.pairCycle (g : Glade) (i : Nat) (p : SinPair) (a b : Bool) (now : Nat) : SinPair :=
  let on := g.pairFn i != 0
  ((p.samples a b on (g.pairFilt i)).demands now g.compat).discrepancy on

/-- The conditions GL_DISCA and GL_DISCB: from the fault until the levels are equal. -/
def discCond (cond : BitVec 12) (j : Nat) (p : SinPair) (d : Nat) : BitVec 12 :=
  putBit cond j (p.discFault d || (bit cond j && p.timer.isSome))

/-- The safety inputs in a cycle. -/
def Glade.inputs (g : Glade) (pins : GladePins) (now : Nat) : Glade :=
  let a := g.pairCycle 0 g.pairA pins.a1 pins.a2 now
  let b := g.pairCycle 1 g.pairB pins.b1 pins.b2 now
  { g with pairA := a, pairB := b, cond := discCond (discCond g.cond 3 a (g.pairDisc 0)) 4 b (g.pairDisc 1) }

/-- SRST_N in a cycle (17 R611, R613): the filtered level after 8 equal samples, the length of the press, and STUCK at
12,001 cycles. -/
def Glade.button (g : Glade) (level : Bool) : Glade :=
  let low := !level
  let r := runOf g.srstRaw low g.srstRun 8
  let p := if 8 ≤ r then low else g.pressed
  let n := if p then (if g.pressed then min 16383 (g.press + 1) else 1) else g.press
  let stuck := if p && !g.pressed then false else g.stuck || (p && decide (n = 12001))
  { g with
    srstRaw := low, srstRun := r, pressed := p, press := n, stuck := stuck, cond := putBit g.cond 5 (stuck && p) }

/-- The press released in this cycle may be accepted but for the state of Glade (17 R612). -/
def Glade.pressGood (old new : Glade) : Bool :=
  old.pressed && !new.pressed && decide (200 ≤ new.press) && decide (new.press ≤ 12000) && !new.stuck &&
    (new.pairFn 0 == 0 || new.pairA.filt1 == new.pairA.filt2) && (new.pairFn 1 == 0 || new.pairB.filt1 == new.pairB.filt2)

/-- Glade after an accepted press in LOCKOUT (17 R612). -/
def Glade.pressLock (g : Glade) : Glade :=
  { g.enter .slo 0 false with
    raised := 0, masked := g.lines ||| g.lineBad, cntSrst := satAdd g.cntSrst 1 }

/-- An accepted press: in LOCKOUT, or under RET_MODE 2. -/
def State.pressed (s : State) : State :=
  if s.glade.st == .lockout then
    let g := s.glade.pressLock
    ({ s with glade := g }.gladeReport s.glade g).when (s.coreOn && s.flt.ep.isOpen && s.flt.ep.cls == 4) State.closeEpisode
  else if s.glade.returnOpen 2 && !s.glade.retOk then
    { s with glade := { s.glade with retOk := true, cntSrst := satAdd s.glade.cntSrst 1 } }
  else s

/-- A lock demand arises in this cycle: a lock source newly detected (17 R632). -/
def Glade.newLock (old new : Glade) : Bool := (new.holding &&& ~~~old.raised &&& 0x7F#12) != 0

/-- L4 rises at Glade's inputs in this sample (17 R632). -/
def State.lockRising (s : State) : Bool :=
  s.hasCome Awaited.lockLine.key || s.awaits (fun c => match c with
    | .classLineChange _ l => bit l 3 && !bit s.glade.lines 3
    | .classLineFault _ l => l == 3 && !bit s.glade.lines 3
    | _ => false)

/-- A Glade cycle. -/
def State.gladeCycle (pins : GladePins) (s : State) : State :=
  let g := (s.glade.inputs pins s.now).button pins.srst
  let s' := { s with glade := g }
  s'.when (s.glade.pressGood g && !s.glade.newLock g && !s.lockRising) State.pressed

/-- GLADE_CYCLE (17 R595). -/
def execGladeCycle (t : Nat) (pins : GladePins) (s : State) : Host.Outcome State Fault Refusal :=
  onGladeSettled t s (State.gladeCycle pins)

/-- LINE_MASK_EXPIRY (17 R612). -/
def execLineMaskExpiry (t : Nat) (s : State) : Host.Outcome State Fault Refusal :=
  onGladeSettled t s (fun s => { s with glade := { s.glade with masked := 0 } })

/-! ### Lines and checkers (16 R573, 17 R590–R593, R624) -/

/-- The lines as they come in at Glade's inputs (17 R606): a masked line seen false is taken again (17 R612), and a broken
line seen false has its levels apart again. -/
def Glade.see (g : Glade) (l : BitVec 5) : Glade :=
  { g with lines := l, lineBad := g.lineBad &&& l, masked := g.masked &&& l }

/-- The lines change at Glade's inputs; a rise of L4 is noted for the sample (17 R632). -/
def State.seeLines (l : BitVec 5) (s : State) : State :=
  let rise := bit l 3 && !bit s.glade.lines 3
  State.when { s with glade := s.glade.see l } rise (State.hit Awaited.lockLine.key 1)

/-- CLASS_LINE_CHANGE (17 R606). -/
def execClassLineChange (t : Nat) (lines : BitVec 5) (s : State) : Host.Outcome State Fault Refusal :=
  onGladeSettled t s (State.seeLines lines)

/-- A line whose two levels are equal is taken as true (16 R573). -/
def State.faultLine (l : Fin 5) (s : State) : State :=
  let rise := l == 3 && !bit s.glade.lines 3
  State.when { s with glade := { s.glade with lines := setBit s.glade.lines l, lineBad := setBit s.glade.lineBad l } } rise
    (State.hit Awaited.lockLine.key 1)

/-- CLASS_LINE_FAULT (16 R573): the line's levels have been equal for 4 µs. -/
def execClassLineFault (t : Nat) (l : Fin 5) (s : State) : Host.Outcome State Fault Refusal :=
  onGladeSettled t s (State.faultLine l)

/-- HEARTBEAT_TOGGLE (16 R570): Glade sees the change. -/
def execHeartbeatToggle (t : Nat) (s : State) : Host.Outcome State Fault Refusal :=
  onCore t s (fun s =>
    ((State.hit Awaited.beat.key 1 { s with flt := { s.flt with beat := !s.flt.beat } }).gladeCond 10 false).gladeSettle)

/-- A change of the heartbeat is registered in this sample (12 R438). -/
def State.beating (s : State) : Bool :=
  s.hasCome Awaited.beat.key || s.awaits (fun c => match c with
    | .heartbeatToggle _ => true
    | _ => false)

/-- HEARTBEAT_TIMEOUT (16 R573). -/
def execHeartbeatTimeout (t : Nat) (s : State) : Host.Outcome State Fault Refusal :=
  onGladeSettled t s (fun s => s.when (!s.beating) (State.gladeCond 10 true))

/-- A window of the RC checker (17 R590): the second bad one running holds the pins until Glade reset. -/
def Glade.rcWindow (g : Glade) (count : Nat) : Glade :=
  let isBad := decide (count < 768) || decide (1280 < count)
  let n := if isBad then min 2 (g.rcBad + 1) else 0
  { g with
    xcnt := BitVec.ofNat 11 (min 2047 count), rcBad := n, rcHold := g.rcHold || n == 2
    cond := putBit g.cond 0 (g.rcHold || n == 2) }

/-- Crossings into CD_GLADE run again (12 R453). -/
def Clk.freeGlade (c : Clk) : Clk := { c with stalled := c.stalled.filter (fun x => x.far.val != 6) }

/-- RC_CLOCK_WINDOW (17 R590). -/
def execRcClockWindow (t count : Nat) (s : State) : Host.Outcome State Fault Refusal :=
  onGladeSettled t s (fun s =>
    let g := s.glade.rcWindow count
    { s with glade := g, clk := if g.rcBad = 0 then s.clk.freeGlade else s.clk })

/-- A window of the XTAL_SYS check (17 R591). -/
def Glade.sysWindow (g : Glade) (count : Nat) : Glade :=
  let isBad := decide (count < 24500) || decide (25500 < count)
  let n := if isBad then min 2 (g.sysBad + 1) else 0
  { g with scnt := BitVec.ofNat 15 (min 32767 count), sysBad := n, cond := putBit g.cond 7 (n == 2) }

/-- SYSCLK_CHECK_WINDOW (17 R591). -/
def execSysclkCheckWindow (t count : Nat) (s : State) : Host.Outcome State Fault Refusal :=
  onGladeSettled t s (fun s => { s with glade := s.glade.sysWindow count })

/-- GLADE_SUPPLY_FAULT (17 R592): VDD_GLD outside its limits for 10 µs, or within them again. -/
def execGladeSupplyFault (t : Nat) (bad : Bool) (s : State) : Host.Outcome State Fault Refusal :=
  onGladeSettled t s (State.gladeCond 1 bad)

/-- Pad levels that have stood for 2 µs, against the driven ones (17 R593). -/
def Glade.pads (g : Glade) (aen : BitVec 4) (err : BitVec 2) : Glade :=
  let e : BitVec 2 := if g.errFault then 2 else 1
  { g with
    aenRb := aen, aenStuck := aen ^^^ g.aenDrv, errRb := err, errStuck := err ^^^ e
    cond := putBit (putBit g.cond 6 (aen != g.aenDrv)) 9 (err != e) }

/-- READBACK_MISMATCH (17 R593). -/
def execReadbackMismatch (t : Nat) (aen : BitVec 4) (err : BitVec 2) (s : State) : Host.Outcome State Fault Refusal :=
  onGladeSettled t s (fun s => { s with glade := s.glade.pads aen err })

/-- A fault of the fallback store while FB_OK is 1 (17 R624, R634). -/
def Glade.fbFail (g : Glade) : Glade := if g.fbOk then { g with fbOk := false, fbErr := 3 } else g

/-- The CRC-32 of the fallback store does not match FB_CRC, or a word of it has changed (17 R624). -/
def Glade.fbCrcBad (g : Glade) : Bool :=
  !g.fbBad.isEmpty || crc32 (Memory.readN zeroByte g.fb.cells 0 g.fbLen) != leAt g.gpr 0x034 4

/-- FALLBACK_CRC_CHECK (17 R624). -/
def execFallbackCrcCheck (t : Nat) (s : State) : Host.Outcome State Fault Refusal :=
  onGladeSettled t s (fun s => s.when (s.glade.fbOk && s.glade.fbCrcBad) (fun s => { s with glade := s.glade.fbFail }))

/-- ERR_HOLD_EXPIRY (16 R576): 1 ms in the Fault state. -/
def execErrHoldExpiry (t : Nat) (s : State) : Host.Outcome State Fault Refusal :=
  onGladeSettled t s (fun s => { s with glade := { s.glade with errHold := false } })

/-- RETURN_DWELL_EXPIRY (17 R608): the own demand has been absent for RET_DWELL × 100 ms. -/
def execReturnDwellExpiry (t : Nat) (s : State) : Host.Outcome State Fault Refusal :=
  onGladeSettled t s (fun s => s.when (s.glade.returnOpen 0) (fun s => { s with glade := { s.glade with retOk := true } }))

/-! ### The safety serial port (17 R626–R631) -/

/-- A response frame (17 R627). -/
def Glade.response (g : Glade) (result : Nat) (seq : Byte) (addr : BitVec 16) (data : Word) : List Byte :=
  let l := [BitVec.ofNat 8 (result + g.st.code * 16 + (if g.errFault then 128 else 0)), seq] ++
    toBytesLE 2 addr.toNat ++ toBytesLE 4 data.toNat
  l ++ toBytesLE 2 (crc16 l)

/-- DATA of a response for which the spec gives none: a free value. -/
def State.freeWord (s : State) : Word := BitVec.ofNat 32 (Config.freeValue s.free)

/-- RESULT of a frame as it ends: 0 accepted (17 R628). -/
def Sspi.judge (p : Sspi) (began bits : Nat) (b : List Byte) : Nat :=
  if bits ≠ 80 ∨ b.length ≠ 10 then 3
  else if crc16 (b.take 8) ≠ leAt b 8 2 then 1
  else if p.lastSeq.isSome ∧ p.lastSeq.map (fun x => x + 1) ≠ b[1]? then 2
  else match p.lastEnd with
    | some e => if began < e + 500 * usec then 4 else 0
    | none => 0

/-- The request of a frame. -/
def reqOf (b : List Byte) : SspiReq :=
  { cmd := b.getD 0 0, addr := BitVec.ofNat 16 (leAt b 2 2), data := BitVec.ofNat 32 (leAt b 4 4) }

/-- The commands of R629. -/
def sspiKnown (c : Byte) : Bool := c == 0x00 || c == 0x01 || c == 0x02 || c == 0x10 || c == 0x11 || c == 0x20

/-- The port after an accepted frame: the watchdog runs and its demand ends (17 R630); a first injection key counts only
for the next frame (17 R631). -/
def Sspi.accept (p : Sspi) (b : List Byte) (now wd : Nat) : Sspi :=
  let r := reqOf b
  { p with
    lastSeq := some (b.getD 1 0), lastEnd := some now, request := some r
    accepted := BitVec.ofNat 16 (min 0xFFFF (p.accepted.toNat + 1)), wdRun := wd != 0, wdExp := false
    key1 := p.key1 && r.cmd == 0x20 && fld r.data 0 16 == 0xE0E8 }

/-- The port after a frame that is not accepted. -/
def Sspi.reject (p : Sspi) (now : Nat) : Sspi :=
  { p with lastEnd := some now, request := none, rejected := BitVec.ofNat 8 (min 0xFF (p.rejected.toNat + 1)) }

/-- The response shifted out during a frame. -/
def State.sspiOut (s : State) : List Byte :=
  if s.glade.sspi.response.isEmpty then s.glade.response 15 0 0 s.freeWord else s.glade.sspi.response

/-- A frame ends: the response to the one before has been shifted out, and the request is accepted or not. -/
def State.sspiFrame (began bits : Nat) (b : List Byte) (s : State) : State :=
  let g := s.glade
  let j := g.sspi.judge began bits b
  let p := if j = 0 then g.sspi.accept b s.now (g.gp 0x010 16 8) else g.sspi.reject s.now
  let r := reqOf b
  let code := if j = 0 then 5 else j
  let p := if j = 0 ∧ sspiKnown r.cmd then p
    else { p with request := none, response := g.response code (b.getD 1 0) r.addr s.freeWord }
  ({ s with glade := { g with sspi := p } }.report [.send (.sspi s.sspiOut)]).spend

/-- SSPI_FRAME (17 R628). -/
def execSspiFrame (t began bits : Nat) (bytes : List Byte) (s : State) : Host.Outcome State Fault Refusal :=
  onGladeSettled t s (State.sspiFrame began bits bytes)

/-- An accepted request is answered with a RESULT and DATA. -/
def State.sspiAnswer (result : Nat) (data : Word) (r : SspiReq) (s : State) : State :=
  { s with glade := { s.glade with sspi := { s.glade.sspi with
      request := none, response := s.glade.response result (s.glade.sspi.lastSeq.getD 0) r.addr data } } }

/-- An accepted request is REFUSED; the spec gives its DATA no value. -/
def State.sspiRefuse (r : SspiReq) (s : State) : State := (s.sspiAnswer 6 s.freeWord r).spend

/-- The accepted request, if it is of a CMD. -/
def State.sspiReq (s : State) (cmd : Byte) : Option SspiReq :=
  s.glade.sspi.request.bind (fun r => if r.cmd = cmd then some r else none)

/-- An accepted request of a CMD is executed in the next Glade cycle (17 R628). -/
def onSspi (t : Nat) (cmd : Byte) (s : State) (f : SspiReq → State → State) : Host.Outcome State Fault Refusal :=
  onGladeSettled t s (fun s => match s.sspiReq cmd with
    | some r => f r s
    | none => s)

/-- SSPI_STATUS (17 R629). -/
def execSspiStatus (t : Nat) (s : State) : Host.Outcome State Fault Refusal :=
  onSspi t 0x00 s (fun r s => s.sspiAnswer 0 s.glStat r)

/-- SSPI_READ (17 R629). -/
def execSspiRead (t : Nat) (s : State) : Host.Outcome State Fault Refusal :=
  onSspi t 0x01 s (fun r s =>
    if r.addr.toNat % 4 = 0 ∧ r.addr.toNat < 0x400 then s.sspiAnswer 0 (s.gladePage r.addr.toNat) r else s.sspiRefuse r)

/-- Sources forced by SSPI (17 R631): arrivals marked FORCED, raised without the detection. -/
def State.gladeForce (v : Word) (s : State) : State :=
  { s with
    glade := { s.glade with raised := s.glade.raised ||| BitVec.ofNat 12 v.toNat }
    flt := { s.flt with forcedQ := s.flt.forcedQ ++ (bitsOf v 12).map gladeSrc } }

/-- SSPI_WRITE (17 R629–R631). -/
def execSspiWrite (t : Nat) (s : State) : Host.Outcome State Fault Refusal :=
  onSspi t 0x02 s (fun r s =>
    if r.addr = 0x0C0 ∧ fld r.data 0 2 ≠ 3 then
      { s with glade := { s.glade with sspi := { s.glade.sspi with fn := BitVec.ofNat 2 r.data.toNat } } }.sspiAnswer 0 r.data r
    else if r.addr = 0x024 ∧ s.glade.sspi.inj then (s.gladeForce r.data).sspiAnswer 0 r.data r
    else s.sspiRefuse r)

/-- A RESUME taken (17 R607, R608). -/
def Glade.resume (g : Glade) : Glade := { g with resumed := true, retOk := g.retOk || g.returnOpen 1 }

/-- RESUME (17 R607): REFUSED in LOAD and LOCKOUT. -/
def execResume (t : Nat) (s : State) : Host.Outcome State Fault Refusal :=
  onSspi t 0x10 s (fun r s =>
    if s.glade.st = .load ∨ s.glade.st = .lockout then s.sspiRefuse r
    else (fun s => s.sspiAnswer 0 s.glStat r) { s with glade := s.glade.resume })

/-- GL_RAISED after a CLEAR: the DATA bits whose condition no longer holds (17 R629). -/
def Glade.clearRaised (g : Glade) (v : Word) : Glade :=
  { g with raised := g.raised &&& ~~~(BitVec.ofNat 12 v.toNat &&& ~~~g.holding) }

/-- CLEAR (17 R629): REFUSED whole where DATA names a bit of 0–6. -/
def execClear (t : Nat) (s : State) : Host.Outcome State Fault Refusal :=
  onSspi t 0x11 s (fun r s =>
    if (r.data &&& 0x7F) ≠ 0 then s.sspiRefuse r
    else (fun s => s.sspiAnswer 0 (at32 0 s.glade.raised.toNat) r) { s with glade := s.glade.clearRaised r.data })

/-- The injection key of an accepted INJKEY (17 R631). -/
def Sspi.key (p : Sspi) (injEn : Bool) (k : Nat) : Sspi :=
  if k = 0x1F17 then { p with key1 := true }
  else if k = 0xE0E8 ∧ p.key1 ∧ injEn then { p with inj := true, key1 := false }
  else if k = 0 then { p with inj := false, key1 := false }
  else { p with key1 := false }

/-- INJKEY (17 R631). -/
def execInjkey (t : Nat) (s : State) : Host.Outcome State Fault Refusal :=
  onSspi t 0x20 s (fun r s =>
    (fun s => s.sspiAnswer 0 (s.gladePage 0x06C) r)
      { s with glade := { s.glade with sspi := s.glade.sspi.key s.injEn (fld r.data 0 16) } })

/-- SSPI_WATCHDOG (17 R630): SSPI_WD ms without an accepted frame. -/
def execSspiWatchdog (t : Nat) (s : State) : Host.Outcome State Fault Refusal :=
  onGladeSettled t s (fun s => s.when (s.glade.sspi.wdRun && decide (s.glade.sspi.lastEnd ≠ some s.now))
    (fun s => { s with glade := { s.glade with sspi := { s.glade.sspi with wdExp := true } } }))

/-! ### Power (17 R588) -/

/-- GLADE_POWER_LOSS (17 R588): VDD_GLD below 0.70 V. Glade stays in reset until PORST_N is cycled; the collector keeps
its reaction table. -/
def execGladePowerLoss (t : Nat) (s : State) : Host.Outcome State Fault Refusal :=
  onGlade t s (fun s => { s with glade := {} })

/-! ### The firmware watchdog (18 R659, R660) -/

/-- An expiry: GL_FWDOG is raised, and Forester is reset with cause 3 (18 R660). -/
def State.fwdogExpire (s : State) : State := ((s.gladeCond 11 true).gladeSettle).resetForester .watchdog false

/-- A service that keeps the watchdog from expiring is registered in this sample (12 R438, 18 R659). -/
def State.servicing (s : State) : Bool :=
  (!s.glade.wdBoot && s.glade.wdAt / tick == s.now / tick) ||
    (s.fst.wdKey && s.fst.st != .reset && s.awaits (fun c => match c with
      | .fpWdog _ v => fld v 0 16 == 0xA5A5
      | .registerWrite _ .forester a v _ => a.toNat == Reg.FP_WDOG && fld v 0 16 == 0xA5A5
      | _ => false))

/-- The recovery ROM services the watchdog, unless a debugger holds it (18 R642, R660). -/
def State.romServes (s : State) : Bool := s.fst.st == .recovery && !s.fst.halted

/-- FIRMWARE_WATCHDOG_EXPIRY (18 R660). -/
def execFirmwareWatchdogExpiry (t : Nat) (s : State) : Host.Outcome State Fault Refusal :=
  onGlade t s (fun s => s.when (s.wdRuns && !s.servicing && !s.romServes) State.fwdogExpire)

/-- A service comes too soon after the one before (18 R659). -/
def Glade.wdSoon (g : Glade) (now : Nat) : Bool := !g.wdBoot && decide (g.wdTicks now < g.runMs / 4)

/-- A service (18 R659). -/
def State.fwdogService (s : State) : State :=
  if s.glade.wdSoon s.now then s.fwdogExpire
  else ({ s with glade := { s.glade with wdBoot := false, wdAt := s.now } }.gladeCond 11 false).gladeSettle

/-- The first key remembered or forgotten. -/
def State.wdKey (on : Bool) (s : State) : State := { s with fst := { s.fst with wdKey := on } }

/-- FP_WDOG written (18 R659). A key before the window opens leaves the watchdog alone. -/
def State.writeWdog (v : Word) (s : State) : State :=
  let k := fld v 0 16
  if k = 0x5A5A then s.wdKey true
  else
    let good := k = 0xA5A5 ∧ s.fst.wdKey
    let s := s.wdKey false
    if !(s.wdRuns && s.gladeOn) then s else if good then s.fwdogService else s.fwdogExpire

/-- FP_WDOG (18 R659). -/
def execFpWdog (t : Nat) (v : Word) (s : State) : Host.Outcome State Fault Refusal :=
  onCore t s (fun s => s.when (s.fst.st != .reset) (State.writeWdog v))

end Sys2Proof.Machine
end

