-- ==== Sys2Proof/Machine/Tiles.lean ====
section
/-! DEFINITION. The tiles of the derating map and the emitter-field tile model (09 R341–R345, 15 R549–R551). A tile is
named by its array × 4096 + its number in the array. -/

namespace Sys2Proof.Machine

open Sys2Proof

/-- Tiles across an array (09 R341). -/
def ArrEntry.ntx (e : ArrEntry) : Nat := divUp e.w 64

/-- Tiles down an array (09 R341). -/
def ArrEntry.nty (e : ArrEntry) : Nat := divUp e.h 64

/-- Tiles of an array. -/
def ArrEntry.tiles (e : ArrEntry) : Nat := e.ntx * e.nty

/-- Tile (tx, ty) of an array. -/
def ArrEntry.tileAt (e : ArrEntry) (tx ty : Nat) : Nat := 4096 * e.n.val + ty * e.ntx + tx

/-- Tile of an array pixel. -/
def ArrEntry.tileOf (e : ArrEntry) (ax ay : Nat) : Nat := e.tileAt (ax / 64) (ay / 64)

/-- The tiles of an array, by its own numbers. -/
def ArrEntry.tileList (e : ArrEntry) : List Nat := (List.range e.tiles).map (fun i => 4096 * e.n.val + i)

/-- Emitters of tile i of an array, with k colours (15 R550). -/
def ArrEntry.tileSize (e : ArrEntry) (k i : Nat) : Nat :=
  min 64 (e.w - 64 * (i % e.ntx)) * min 64 (e.h - 64 * (i / e.ntx)) * k

/-- The tile that has a number in the array map's order, entries in ascending array number (09 R341). -/
def tileNamed : List ArrEntry → Nat → Option Nat
  | [], _ => none
  | e :: r, i => if i < e.tiles then some (4096 * e.n.val + i) else tileNamed r (i - e.tiles)

/-- Tiles of an array map (09 R341). -/
def tileCount (l : List ArrEntry) : Nat := (l.map (fun e => e.tiles)).sum

/-- A sum or temperature held by tile, 0 where none is held. -/
def tileGet (m : List (Nat × Int)) (i : Nat) : Int := smGet (fun _ => (0 : Int)) m i

/-- The map with a tile's value. -/
def tilePut (i : Nat) (v : Int) (m : List (Nat × Int)) : List (Nat × Int) := smSet (fun _ => (0 : Int)) i v m

/-- A tile's sum of light codes. -/
def sumGet (m : List (Nat × Nat)) (i : Nat) : Nat := smGet (fun _ => (0 : Nat)) m i

/-- Light codes added to a tile's sum. -/
def sumAdd (i n : Nat) (m : List (Nat × Nat)) : List (Nat × Nat) := smSet (fun _ => (0 : Nat)) i (sumGet m i + n) m

/-! ### The step (15 R549, R550) -/

/-- The tile model's parameters of a surface (15 R552). -/
structure TileSet where
  /-- RT. -/
  rt : Nat
  /-- C. -/
  c : Nat
  /-- TAU in ms. -/
  tau : Nat
  /-- TD0 in 1/16 °C. -/
  td0 : Nat
  /-- SLOPE. -/
  slope : Nat
  /-- DFMIN. -/
  dfmin : Nat
  deriving DecidableEq, Repr

/-- THM_TCFG and THM_DCFG of surface u in force. -/
def State.tileSet (s : State) (u : Fin 2) : TileSet :=
  let a := s.active (Reg.THM_TCFG u)
  let d := s.active (Reg.THM_DCFG u)
  { rt := fld a 0 12, c := fld a 12 4, tau := fld a 16 12, td0 := fld d 0 12, slope := fld d 12 12, dfmin := fld d 24 8 }

/-- alpha of a frame period in 1/64 ticks (15 R550). -/
def TileSet.alpha (c : TileSet) (per : Nat) : Nat := min 65536 (per / usec * 65536 / (c.tau * 1000))

/-- Drive of tile i of an array (15 R550). -/
def ArrEntry.drive (e : ArrEntry) (k i sum iStitch : Nat) : Nat := sum * iStitch / (e.tileSize k i * 65535)

/-- Mean drive of an array (15 R550). -/
def ArrEntry.meanDrive (e : ArrEntry) (k iStitch : Nat) (sums : List (Nat × Nat)) : Nat :=
  ((List.range e.tiles).map (fun i =>
    e.drive k i (sumGet sums (4096 * e.n.val + i)) iStitch * e.tileSize k i)).sum /
  ((List.range e.tiles).map (e.tileSize k)).sum

/-- dt of a tile after the step (15 R550). -/
def TileSet.heat (c : TileSet) (alpha u ubar : Nat) (dt : Int) : Int :=
  let ue := ((16 - c.c) * u + c.c * ubar) / 16
  let tgt : Int := (c.rt * ue / 65536 : Nat)
  dt + (tgt - dt) * alpha / 65536

/-- Map entry of a tile temperature (15 R550). -/
def TileSet.factor (c : TileSet) (tt : Int) : Nat :=
  (max (max (if tt ≤ c.td0 then 4095 else 4095 - (tt - c.td0) * c.slope / 16) (16 * c.dfmin)) 0).toNat

/-- One tile of an array after the step: `tarr` is the array's temperature. -/
def TileModel.stepTile (x : TileModel) (c : TileSet) (alpha t u ubar : Nat) (tarr : Int) : TileModel :=
  let dt := c.heat alpha u ubar (tileGet x.dt t)
  { x with dt := tilePut t dt x.dt, tt := tilePut t (tarr + dt) x.tt, u := tilePut t u x.u }

/-- The tiles of one array after the step. -/
def State.stepArray (c : TileSet) (alpha k : Nat) (sums : List (Nat × Nat)) (iStitch : ArrEntry → Nat)
    (s : State) (e : ArrEntry) : State :=
  let s := s.atemp e.n
  let ubar := e.meanDrive k (iStitch e) sums
  { s with tile := (List.range e.tiles).foldl (fun (x : TileModel) i =>
      let t := 4096 * e.n.val + i
      x.stepTile c alpha t (e.drive k i (sumGet sums t) (iStitch e)) ubar (s.tile.tarr[e.n])) s.tile }

/-- The tile model's step at the boundary of a frame of surface u with period `per` (15 R549, R550). -/
def State.tileStep (u : Fin 2) (per : Nat) (sums : List (Nat × Nat)) (iStitch : ArrEntry → Nat) (s : State) : State :=
  let c := s.tileSet u
  (s.activeEntries u).foldl (State.stepArray c (c.alpha per) (s.surfNow u).k sums iStitch) s

/-- I_STITCH of the active entry. -/
def ownStitch (e : ArrEntry) : Nat := e.iStitch

/-- I_STITCH of the profile's entry of the array, for a fallback frame; the active one where it has none (15 R550). -/
def profileStitch (gpr : List Byte) (e : ArrEntry) : Nat :=
  (((gprEntries gpr).find? (fun x => x.n == e.n)).map (fun x => x.iStitch)).getD e.iStitch

/-- dt of a tile of an array whose map entry changes starts again from 0 (15 R550). -/
def State.coolArray (a : Fin 16) (s : State) : State :=
  { s with tile := { s.tile with dt := s.tile.dt.filter (fun x => x.1 / 4096 != a.val) } }

/-! ### The map (09 R343, R344) -/

/-- DF of a tile in the active map. -/
def State.mapEntry (s : State) (t : Nat) : BitVec 12 := smGet (fun _ => (0xFFF : BitVec 12)) s.corr.map t

/-- Tiles of surface u's active entries. -/
def State.surfTiles (s : State) (u : Fin 2) : List Nat := (s.activeEntries u).flatMap ArrEntry.tileList

/-- Parity of a written entry inverted where the checker is armed (16 R582). -/
def State.spoilMap (u : Fin 2) (ts : List Nat) (s : State) : State :=
  s.injWords 5 (fun t _ (s : State) =>
    let x := s.corr.surf[u]
    { s with corr := { s.corr with surf := s.corr.surf.set u { x with mapNewBad := insertNat t x.mapNewBad } } }) ts

/-- The tile model has written the entries of surface u's last step (09 R344, 15 R549). -/
def State.mapWritten (u : Fin 2) (s : State) : State :=
  let c := s.tileSet u
  let ts := s.surfTiles u
  let x := { s.corr.surf[u] with
    mapNew := some (ts.map (fun t => (t, BitVec.ofNat 12 (c.factor (tileGet s.tile.tt t))))), mapNewBad := [] }
  State.spoilMap u ts { s with corr := { s.corr with surf := s.corr.surf.set u x } }

/-- DERATING_MAP_WRITTEN (09 R344). -/
def execDeratingMapWritten (t : Nat) (u : Fin 2) (s : State) : Host.Outcome State Fault Refusal :=
  onCore t s (State.once (.deratingMapWritten t u) (State.mapWritten u))

/-- The completed entries of surface u become active at its boundary; late where there are none, which its first boundary
does not count (09 R344). -/
def State.activateMap (u : Fin 2) (first : Bool) (s : State) : State :=
  let x := s.corr.surf[u]
  match x.mapNew with
  | some l =>
    let ts := l.map (fun y => y.1)
    { s with corr := { s.corr with
        map := l.foldl (fun m y => smSet (fun _ => (0xFFF : BitVec 12)) y.1 y.2 m) s.corr.map
        mapBad := x.mapNewBad.foldl (fun m t => insertNat t m) (s.corr.mapBad.filter (fun t => !ts.contains t))
        surf := s.corr.surf.set u { x with mapNew := none, mapNewBad := [], drstale := false } } }
  | none =>
    if first then { s with corr := { s.corr with surf := s.corr.surf.set u { x with drstale := false } } }
    else ({ s with corr := { s.corr with surf := s.corr.surf.set u { x with drstale := true } } }).report
      [.tally (Reg.CR_DRLATE u) 1, .raise (Src.CR_DRLATE u)]

/-! ### Tile sums of the fallback source (01 R749, 15 R549) -/

/-- Tile of surface u's active map that a pixel of an array counts towards. -/
def State.activeTile (s : State) (u : Fin 2) (a : Fin 16) (ax ay : Nat) : Option Nat :=
  ((s.activeEntries u).find? (fun e => e.n == a && decide (ax < e.w) && decide (ay < e.h))).map (fun e => e.tileOf ax ay)

end Sys2Proof.Machine
end

