-- ==== Sys2Proof/Machine/Planes.lean ====
section
/-! DEFINITION. The formation of a plane (03 R80–R92, 08 R298–R311, 10 R377–R383), and upsets and errors met on the way. -/

namespace Sys2Proof.Machine

open Sys2Proof

/-! ### Upsets and fabric errors -/

/-- An upset of a stored word; one of the frame store falls in bank `b`. -/
def State.upset (u : Fin 2) (b : Bool) (s : State) (x : Upset) : State :=
  match x with
  | .bank w multi => s.setBank b ((s.bank b).upset w multi)
  | .health w multi => { s with health := s.health.upset w multi }
  | .calib w multi => { s with calib := s.calib.upset w multi }
  | .curve i => { s with corr := { s.corr with curveBad := insertNat i s.corr.curveBad } }
  | .derate i => match tileNamed (entriesOf s.active) i with
    | some t => { s with corr := { s.corr with mapBad := insertNat t s.corr.mapBad } }
    | none => s
  | .fallback h => { s with glade := { s.glade with fbBad := insertNat h s.glade.fbBad } }
  | .list => s.setShade u { s.shade.surf[u] with parErr := true }

/-- An event counted in the millisecond it falls in (15 R554). -/
def Power.canary (p : Power) (now : Nat) : Power :=
  let m := now / msec
  if p.canMs = m then { p with canNow := p.canNow + 1 }
  else if p.canMs + 1 = m then { p with canPrev := p.canNow, canNow := 1, canMs := m }
  else { p with canPrev := 0, canNow := 1, canMs := m }

/-- FB_LASTERR of a segment, a KIND and a surface (08 R321). -/
def lastErr (seg : Fin 8) (kind : Nat) (u : Fin 2) : Note :=
  .word (Reg.FB_LASTERR 0) (at32 0 seg.val ||| at32 4 kind ||| at32 6 (if seg.val < 5 then u.val else 0))

/-- What an error of a segment counts, records and raises (08 R300, R311). -/
def fabricNotes (u : Fin 2) (seg : Fin 8) : BundleError → List Note
  | .parity _ => [.tally (Reg.FB_PARCNT 0) 1, .raise Src.FB_PAR, lastErr seg 0 u]
  | .code => [.tally (Reg.FB_CODECNT 0) 1, .raise Src.FB_CODE, lastErr seg 1 u]
  | .canary => [.tally (Reg.FB_CANCNT 0) 1, .raise Src.FB_CANARY, lastErr seg 3 u]

/-- A 16-bit field with its odd-parity bit (08 R298). -/
def oddParity (x : BitVec 16 × Bool) : Bool := ((List.range 16).foldl (fun p i => p ^^ x.1.getLsbD i) x.2)

/-- The value of a 1-of-4 digit: none where no rail, or more than one, is high (08 R299). -/
def digit (r : BitVec 4) : Option Nat :=
  if r = 1 then some 0 else if r = 2 then some 1 else if r = 4 then some 2 else if r = 8 then some 3 else none

/-- The control code 4 × K1 + K0 of a bundle is one that the table lists (08 R299). -/
def bundleCodeOk (k1 k0 : BitVec 4) : Bool :=
  match digit k1, digit k0 with
  | some a, some b => [0, 1, 2, 3, 4, 5, 8, 9].contains (4 * a + b)
  | _, _ => false

/-- What the checks of the receiver find in a bundle (08 R298–R300). -/
def bundleErrors (b : Bundle) : List BundleError :=
  (if b.canary then [.canary] else []) ++ (if b.fields.all oddParity then [] else [.parity b.emitter]) ++
    (if bundleCodeOk b.k1 b.k0 then [] else [.code])

/-- What the receivers of a side's segments find in bundles, in the order of arrival. -/
def bundlesMet (l : List (Fin 8 × Bundle)) (segs : List (Fin 8)) : List (Fin 8 × BundleError) :=
  (l.filter (fun x => segs.contains x.1)).flatMap (fun x => (bundleErrors x.2).map (fun e => (x.1, e)))

/-- One error of a segment recorded. -/
def State.fabricError (u : Fin 2) (s : State) (x : Fin 8 × BundleError) : State :=
  let s := if x.2 = .canary then { s with pwr := s.pwr.canary s.now } else s
  s.report (fabricNotes u x.1 x.2)

/-- Errors that FB_INJ has armed at segments of a list, on a bundle that carries emitter `e` (08 R315). -/
def State.armedErrors (s : State) (segs : List (Fin 8)) (e : Nat) : List (Fin 8 × BundleError) :=
  segs.filterMap (fun g =>
    if (s.fab.inj[g]) = 1 then some (g, .parity e) else if (s.fab.inj[g]) = 2 then some (g, .code) else none)

/-- Segments of a list with nothing armed. -/
def State.disarm (segs : List (Fin 8)) (s : State) : State :=
  { s with fab := { s.fab with inj := segs.foldl (fun (v : Vector (BitVec 2) 8) (g : Fin 8) => v.set g 0) s.fab.inj } }

/-- The show side's segments. -/
def showSegs : List (Fin 8) := [5, 6, 7]

/-! ### Bits -/

/-- A bundle whose parity failed carries link position `pos` of an entry with `k` colours, whose emitter is `n`: a
64-bit word of four emitters at segment 5, 64 plane bits at segments 6 and 7 (08 R294, R311). -/
def bundleHits (e : ArrEntry) (k n pos : Nat) (x : Fin 8 × BundleError) : Bool :=
  match x.2 with
  | .parity m =>
    if x.1.val = 5 then m / 4 == n / 4
    else
      let i := m - e.base
      e.holds k m && (i / k * k + e.colour k (i % k)) / 64 == pos / 64
  | _ => false

/-- What forms the bits of one plane. -/
structure PlaneForm where
  /-- The frame. -/
  v : FrameView
  /-- Kind of the plane. -/
  kind : PlaneKind
  /-- 10 R377: step instants t_g and t_(g+1), in µs. -/
  t0 : Nat
  /-- 10 R377: t_(g+1). -/
  t1 : Nat
  /-- 10 R378, R380: the Shade settings; EN 0 where the factor is 256. -/
  shade : ShadeSet
  /-- Bundle errors. -/
  errs : List (Fin 8 × BundleError)
  deriving DecidableEq, Repr

/-- Order table of a frame (02 R57, R58; 03 R113). -/
def FrameView.order (v : FrameView) : Nat → Nat → Nat :=
  if v.m.ordUser then orderUser (ract v.set.regs) v.u.val else orderDefault v.m.sSel

/-- The factor acts: under the fallback source only with SHADE_FB (10 R380). -/
def State.shadeActs (s : State) (v : FrameView) : Bool := !v.fb || s.glade.gp 0x010 3 1 == 1

/-- Light code of an emitter at surface position (x, y): from the show bank or the fallback source (03 R90, 17 R624). -/
def State.sourceCode (s : State) (v : FrameView) (n x y : Nat) : Nat :=
  if v.fb then
    let p := s.glade.pattern v.u
    if s.glade.fbDark p x y then 0 else s.glade.fbCode p x y
  else (s.bank v.bank).code n

/-- The bit at link position `pos` of an entry's share (03 R90, 04 R144). -/
def State.linkBit (s : State) (f : PlaneForm) (e : ArrEntry) (pos : Nat) : Bool :=
  let k := f.v.set.z.k
  let i := pos / k * k + e.colour k (pos % k)
  let n := e.base + i
  let w := e.place k i
  let a := shadeFactor f.shade s.shade.surf[f.v.u] f.t0 f.t1 w.1 w.2.1
  planeBit f.v.m f.v.order (phaseClass f.v.m.seed w.1 w.2.1 w.2.2) (s.sourceCode f.v n w.1 w.2.1) a f.kind &&
    !s.healthBit n && !f.errs.any (bundleHits e k n pos)

/-- The share of an entry (04 R144). -/
def State.share (s : State) (f : PlaneForm) (e : ArrEntry) : List Bool :=
  (List.range (e.emitters f.v.set.z.k)).map (s.linkBit f e)

/-! ### What is read for a plane -/

/-- The frame store and health words of an entry's share are read (03 R80, R81, R86, R92). -/
def State.readShare (v : FrameView) (s : State) (e : ArrEntry) : State :=
  let n := e.emitters v.set.z.k
  let s := if v.fb then s else s.sweepBank v.bank (2 * e.base) (2 * (e.base + n))
  s.sweepHealth (e.base / 8) ((e.base + n) / 8)

/-- A parity error met in the fallback store by a share (17 R624). -/
def State.fbParity (s : State) (v : FrameView) (e : ArrEntry) : Bool :=
  v.fb && !s.glade.fbBad.isEmpty && (List.range (e.w * e.h)).any (fun i =>
    s.glade.fbDark (s.glade.pattern v.u) (e.x0 + i % e.w) (e.y0 + i / e.w))

/-- The list buffer's parity, met once the plane of a cut-off or a splice is formed with it (10 R381). -/
def State.checkList (v : FrameView) (s : State) : State :=
  s.when (s.shadeActs v && (shadeSet (ract v.set.regs) v.u).en) (State.listParity v.u)

/-- Health bits of 1 among the emitters of a skein's entries (03 R97). -/
def State.healthCount (s : State) (v : FrameView) (k : Fin 4) : Nat :=
  ((v.set.es.filter (fun e => e.skein == k.val)).map (fun e =>
    ((List.range (e.emitters v.set.z.k)).filter (fun i => s.healthBit (e.base + i))).length)).sum

/-- The clears queued for a coming frame's boundary, taken as applied where its planes are formed and counted (03 R93, R97). -/
def State.clearedFor (s : State) (v : FrameView) : State := if (s.surf[v.u]).bk = v.bk then s else s.applyClears v.u

/-- A surface with skein k's count `c` of plane 0, once a frame; `ahead` for the coming frame's (03 R97). -/
def Surface.counted (x : Surface) (k : Fin 4) (ahead : Bool) (c : Nat) : Surface :=
  if ahead then
    if bit x.hmSeenNext k.val then x else { x with hmNext := x.hmNext + c, hmSeenNext := setBit x.hmSeenNext k.val }
  else if bit x.hmSeen k.val then x else { x with hmCount := x.hmCount + c, hmSeen := setBit x.hmSeen k.val }

/-- The count of plane 0 as its health bits are first read (03 R97). -/
def State.countHealth (v : FrameView) (k : Fin 4) (ahead : Bool) (s : State) : State :=
  { s with surf := s.surf.set v.u ((s.surf[v.u]).counted k ahead ((s.clearedFor v).healthCount v k)) }

/-- The words of a plane's shares are read, its upsets and errors met; `errs` are the errors of this plane's bundles. -/
def State.readPlane (v : FrameView) (k : Fin 4) (upsets : List Upset) (errs : List (Fin 8 × BundleError)) (s : State) :
    State :=
  let s := upsets.foldl (State.upset v.u v.bank) s
  let es := s.planeEntries v k
  let bad := es.any (s.fbParity v)
  let s := es.foldl (State.readShare v) s
  let s := errs.foldl (State.fabricError v.u) s
  if bad then { s with glade := s.glade.fbFail }.gladeSettle else s

/-- SH_NOW at an instant, rounded down (10 R369, R377). -/
def State.shadeTime (s : State) (x : Nat) : Nat := (x - s.top.startAt) / usec

/-- What forms plane i of a frame in the state as it stands. -/
def State.formOf (s : State) (v : FrameView) (i : Nat) (errs : List (Fin 8 × BundleError)) : PlaneForm :=
  let q := v.kindAt i
  let c := shadeSet (ract v.set.regs) v.u
  { v := v, kind := q.1, t0 := s.shadeTime (v.stepAt q.2), t1 := s.shadeTime (v.stepAt (q.2 + 1))
    shade := { c with en := c.en && s.shadeActs v }, errs := errs }

/-- A frame to be shown is the first with the Shade engine's EN = 1, and no list has been taken up: its planes are formed
under the stale state that it enters (10 R379). -/
def State.staleAhead (s : State) (v : FrameView) : Bool :=
  let x := s.shade.surf[v.u]
  (v.fb || v.set.fromBank v.u.val) && (shadeSet (ract v.set.regs) v.u).en && !x.everEn && x.active.isNone && !x.stale

/-- The state under which a frame's planes are formed, Shade's stale state entered where the frame begins with it. -/
def State.formState (s : State) (v : FrameView) : State :=
  let s := s.clearedFor v
  let x := s.shade.surf[v.u]
  if s.staleAhead v then s.setShade v.u { x with stale := true, boxSet := x.boxSet + 1 } else s

/-- Plane i of a frame on a skein under a sequence number, formed from the state as it stands. -/
def State.formPlane (s : State) (v : FrameView) (k : Fin 4) (i : Nat) (seq : BitVec 8)
    (errs : List (Fin 8 × BundleError)) : Plane :=
  let s := s.formState v
  let f := s.formOf v i errs
  { seq := seq, idx := i, fn := v.fn, fb := v.fb, prof := v.set.prof, sSel := v.m.sSel
    dead := errs.any (fun x => x.2 == .code)
    boxSet := (s.shade.surf[v.u]).boxSet, errs := errs, bits := (s.planeEntries v k).map (fun e => (e.n, s.share f e)) }

/-- The bundle errors of a plane: the command's, on the show side, and those that FB_INJ has armed (08 R311, R315). -/
def State.planeErrors (s : State) (v : FrameView) (k : Fin 4) (bundles : List (Fin 8 × Bundle)) :
    List (Fin 8 × BundleError) :=
  bundlesMet bundles showSegs ++
  match s.planeEntries v k with
  | e :: _ => s.armedErrors showSegs e.base
  | [] => []

end Sys2Proof.Machine
end

