-- ==== Sys2Proof/Machine/Correct.lean ====
section
/-! DEFINITION. The correction chain: curve, fade, colour matrix, derating, calibration, light-budget limit and dither
(chapter 09). -/

namespace Sys2Proof.Machine

open Sys2Proof

/-! ### Settings (09 R362) -/

/-- The correction settings of a surface. -/
structure CorrSet where
  /-- CURVE_BYP. -/
  byp : Bool
  /-- CSET. -/
  cset : Nat
  /-- CT0, CT1, CT2. -/
  ct : List Nat
  /-- CAL_EN. -/
  calEn : Bool
  /-- Light codes of a unit of OFFSET, from OFS_UNIT. -/
  unit : Nat
  /-- LB_EN. -/
  lbEn : Bool
  /-- DMODE. -/
  dmode : Nat
  /-- TARGET. -/
  target : Nat
  /-- RATE. -/
  rate : Nat
  /-- KREL. -/
  krel : Nat
  /-- M[c][k], by 3c + k. -/
  mat : List Int
  deriving DecidableEq, Repr

/-- Coefficient 3c + k of the matrix of surface u (09 R362). -/
def matrixCoef (f : Nat → Word) (u i : Nat) : Int :=
  signed 16 (fld (f (Reg.CR_MAT0 u + 4 * (i / 2))) (16 * (i % 2)) 16)

/-- The settings of surface u in a reading of register words. -/
def corrOf (f : Nat → Word) (u : Nat) : CorrSet :=
  let c := f (Reg.CR_CFG u)
  { byp := bit c 0, cset := fld c 1 1, ct := [fld c 2 2, fld c 4 2, fld c 6 2], calEn := bit c 8
    unit := 4 ^ fld c 9 2, lbEn := bit c 11, dmode := fld c 12 2
    target := fld (f (Reg.CR_FADECFG u)) 0 11, rate := fld (f (Reg.CR_FADECFG u)) 16 12
    krel := fld (f (Reg.CR_LBCFG u)) 0 12, mat := (List.range 9).map (matrixCoef f u) }

/-! ### Stages -/

/-- Largest working value (09 R325). -/
def maxWork : Nat := 0xFFFFF

/-- Number of a curve entry (09 R326). -/
def curveKey (set table i : Nat) : Nat := (set * 4 + table) * 1025 + i

/-- A curve entry. -/
def State.curveAt (s : State) (i : Nat) : Nat := (smGet (fun _ => (0 : BitVec 20)) s.corr.curve i).toNat

/-- Curve entries that the chain reads for a composed value: the upper neighbour only where it has weight (09 R326). -/
def curveReads (set table cv : Nat) : List Nat :=
  curveKey set table (cv / 64) :: if cv % 64 = 0 then [] else [curveKey set table (cv / 64 + 1)]

/-- Step 1 (09 R326, R327). -/
def State.curveStep (s : State) (c : CorrSet) (k cv : Nat) : Nat :=
  if c.byp then cv * 16
  else
    let t := fun i => s.curveAt (curveKey c.cset (c.ct.getD k 0) i)
    (t (cv / 64) * (64 - cv % 64) + t (cv / 64 + 1) * (cv % 64) + 32) / 64

/-- mant (09 R332). -/
def fadeMant : List Nat := [
  65536, 64830, 64132, 63441, 62757, 62081, 61413, 60751, 60097, 59449, 58809, 58176, 57549, 56929, 56316, 55709,
  55109, 54515, 53928, 53347, 52773, 52204, 51642, 51085, 50535, 49991, 49452, 48920, 48393, 47871, 47356, 46846] ++ [
  46341, 45842, 45348, 44859, 44376, 43898, 43425, 42958, 42495, 42037, 41584, 41136, 40693, 40255, 39821, 39392,
  38968, 38548, 38133, 37722, 37316, 36914, 36516, 36123, 35734, 35349, 34968, 34591, 34219, 33850, 33486, 33125]

/-- fade_gain (09 R332). -/
def fadeGain (lam : Nat) : Nat := if 1024 ≤ lam then 0 else fadeMant.getD (lam % 64) 0 / 2 ^ (lam / 64)

/-- Step 2 (09 R332). -/
def fadeStep (gain w : Nat) : Nat := min maxWork ((w * gain + 32768) / 65536)

/-- Step 3 for colour c (09 R335). -/
def matrixStep (mat : List Int) (w : List Nat) (c : Nat) : Nat :=
  (clampInt 0 maxWork ((((List.range 3).map (fun k => mat.getD (3 * c + k) 0 * (w.getD k 0 : Nat))).sum + 8192) / 16384)).toNat

/-- Steps 1 to 3 of a pixel (09 R324). -/
def State.colourSteps (s : State) (c : CorrSet) (surfMode : Bool) (gain : Nat) (cv : List Nat) : List Nat :=
  let w := (List.range cv.length).map (fun k => fadeStep gain (s.curveStep c k (cv.getD k 0)))
  if surfMode then (List.range 3).map (matrixStep c.mat w) else w

/-- Tile coordinates and fractions of an array pixel along one axis (09 R343). -/
def derateAxis (a n : Nat) : Nat × Nat × Nat :=
  let h := 2 * a + 1 - 64
  let t := h / 128
  if n - 1 ≤ t then (n - 1, n - 1, 0) else (t, min (t + 1) (n - 1), h % 128)

/-- Map entries that the factor of an array pixel reads (09 R343). -/
def ArrEntry.derateReads (e : ArrEntry) (ax ay : Nat) : List Nat :=
  let x := derateAxis ax e.ntx
  let y := derateAxis ay e.nty
  [e.tileAt x.1 y.1, e.tileAt x.2.1 y.1, e.tileAt x.1 y.2.1, e.tileAt x.2.1 y.2.1]

/-- The derating factor of an array pixel (09 R343). -/
def State.derate (s : State) (e : ArrEntry) (ax ay : Nat) : Nat :=
  let x := derateAxis ax e.ntx
  let y := derateAxis ay e.nty
  let d := fun (a b : Nat) => (s.mapEntry (e.tileAt a b)).toNat + 1
  (d x.1 y.1 * (128 - x.2.2) * (128 - y.2.2) + d x.2.1 y.1 * x.2.2 * (128 - y.2.2) +
    d x.1 y.2.1 * (128 - x.2.2) * y.2.2 + d x.2.1 y.2.1 * x.2.2 * y.2.2 + 8192) / 16384

/-- Step 4 (09 R324). -/
def derateStep (w df : Nat) : Nat := min maxWork ((w * df + 2048) / 4096)

/-- Calibration word of an emitter as the chain takes it: 0x8000 from an uncorrectable word (09 R349). -/
def State.calWord (s : State) (n : Nat) : Nat :=
  if s.calib.ue.contains (n / 4) then 0x8000 else ofBytesLE (Memory.readN calibByte s.calib.cells (2 * n) 2)

/-- Step 5 (09 R347). -/
def calibStep (cal unit v : Nat) : Nat :=
  min maxWork ((v * (cal / 32) + 512) / 1024 + (if 0 < v then cal % 32 * unit * 16 else 0))

/-! ### The limiter (09 R351–R355) -/

/-- CEIL_a from the GPR (09 R351, 17 R618). -/
def Glade.ceiling (g : Glade) (a : Fin 16) : Nat := gprCeil g.gpr a

/-- The limiter is in effect for an array under correction settings of its surface (09 R351). -/
def State.limited (s : State) (c : CorrSet) (a : Fin 16) : Bool := c.lbEn || decide (s.glade.ceiling a ≠ 0)

/-- B_a from a BUDGET (09 R351). -/
def State.budgetOf (s : State) (f : Nat → Word) (a : Fin 16) : Nat :=
  let b := fld (f (Reg.LB_BUDGET a)) 0 23
  if s.glade.ceiling a = 0 then b else min b (s.glade.ceiling a)

/-- Key of a limiter count. -/
def countKey (a sSel j : Nat) : Nat := a * 256 + sSel * 64 + j

/-- A limiter count. -/
def countAt (m : List (Nat × Nat)) (k : Nat) : Nat := smGet (fun _ => (0 : Nat)) m k

/-- A limiter count raised by 1. -/
def countUp (k : Nat) (m : List (Nat × Nat)) : List (Nat × Nat) := smSet (fun _ => (0 : Nat)) k (countAt m k + 1) m

/-- Order of an S: the active table at the committed S, else the default one (09 R354). -/
def limitOrder (f : Nat → Word) (u : Nat) (m : ModSet) (sSel : Nat) : Nat → Nat → Nat :=
  if sSel = m.sSel ∧ m.ordUser = true then orderUser f u else orderDefault sSel

/-- Stitches of an S in which a code of phase class `cls` is lit (09 R354). -/
def litStitches (order : Nat → Nat → Nat) (sSel cls code : Nat) : List Nat :=
  (List.range (stitchesOf sSel)).filter (fun j => decide (order cls j < code / 2 ^ trimsOf sSel))

/-- Settings of a limited array in a period. -/
structure LimitSet where
  /-- Array. -/
  a : Fin 16
  /-- B_a. -/
  b : Nat
  /-- K_a. -/
  k : Nat
  /-- The surface. -/
  u : Nat
  /-- Its modulation. -/
  m : ModSet
  deriving DecidableEq, Repr

/-- fits (09 R354). -/
def LimitSet.fits (x : LimitSet) (f : Nat → Word) (admitted : List (Nat × Nat)) (cls code : Nat) : Bool :=
  (List.range (x.m.sSel + 1)).all (fun c =>
    (litStitches (limitOrder f x.u x.m c) c cls code).all (fun j =>
      decide (countAt admitted (countKey x.a c j) + 1 ≤ x.b)))

/-- Counts with a code added at every counted S. -/
def LimitSet.passed (x : LimitSet) (f : Nat → Word) (cls code : Nat) (m : List (Nat × Nat)) : List (Nat × Nat) :=
  (List.range (x.m.sSel + 1)).foldl (fun m c =>
    (litStitches (limitOrder f x.u x.m c) c cls code).foldl (fun m j => countUp (countKey x.a c j) m) m) m

/-- Counts with a code added at the committed S. -/
def LimitSet.demandUp (x : LimitSet) (f : Nat → Word) (cls code : Nat) (m : List (Nat × Nat)) : List (Nat × Nat) :=
  (litStitches (limitOrder f x.u x.m x.m.sSel) x.m.sSel cls code).foldl
    (fun m j => countUp (countKey x.a x.m.sSel j) m) m

/-- The largest code that dithering can produce from v (09 R354). -/
def highCode (drop v : Nat) : Nat := min (65536 - 2 ^ drop) ((v + (2 ^ (4 + drop) - 1)) / 2 ^ (4 + drop) * 2 ^ drop)

/-- The counts of a period, with the codes clipped. -/
structure Counts where
  /-- Demand counts. -/
  demand : List (Nat × Nat)
  /-- Admitted counts. -/
  admitted : List (Nat × Nat)
  /-- Emitters clipped. -/
  clipped : Nat
  deriving DecidableEq, Repr

/-- Step 6 (09 R354): value and counts. -/
def LimitSet.step (x : LimitSet) (f : Nat → Word) (cls v : Nat) (n : Counts) : Nat × Counts :=
  let v := (v * x.k + 2048) / 4096
  let hi := highCode x.m.drop v
  let t := trimsOf x.m.sSel
  let n := { n with demand := x.demandUp f cls hi n.demand }
  if x.fits f n.admitted cls hi then (v, { n with admitted := x.passed f cls hi n.admitted })
  else
    let h := ((List.range (hi / 2 ^ t + 1)).reverse.find? (fun h => x.fits f n.admitted cls (h * 2 ^ t))).getD 0
    (h * 2 ^ t * 16, { n with admitted := x.passed f cls (h * 2 ^ t) n.admitted, clipped := n.clipped + 1 })

/-! ### Dither (09 R356) -/

/-- bayer16 (09 R356). -/
def bayer16 (x y : Nat) : Nat :=
  (List.range 4).foldl (fun b k => b * 4 + ((x ^^^ y) / 2 ^ k % 2) * 2 + y / 2 ^ k % 2) 0

/-- Step 7 (09 R356). -/
def dither (dmode drop fc v x y c : Nat) : Nat :=
  let d := 4 + drop
  let xo := if dmode = 2 then 7 * fc % 16 else 0
  let yo := if dmode = 2 then 11 * fc % 16 else 0
  let th := if dmode = 0 then 2 ^ (d - 1) else bayer16 ((x + xo + 5 * c) % 16) ((y + yo) % 16) * 2 ^ d / 256
  min (65536 - 2 ^ drop) ((v + th) / 2 ^ d * 2 ^ drop)

/-! ### One output line -/

/-- What a line of the chain has written. -/
structure LineOut where
  /-- Emitters and light codes, in raster order, the last first. -/
  codes : List (Nat × Nat) := []
  /-- Limiter counts. -/
  counts : Counts
  /-- Tile sums. -/
  sums : List (Nat × Nat)
  /-- Window sums. -/
  wsum : Vector Nat 12
  deriving DecidableEq, Repr

/-- A sensor window (09 R338, R363). -/
structure SensorWindow where
  /-- EN. -/
  en : Bool
  /-- SURF. -/
  surf : Nat
  /-- X0. -/
  x0 : Nat
  /-- Y0. -/
  y0 : Nat
  /-- W. -/
  w : Nat
  /-- H. -/
  h : Nat
  deriving DecidableEq, Repr

/-- Window w in a reading of register words. -/
def windowOf (f : Nat → Word) (w : Nat) : SensorWindow :=
  let o := f (Reg.CR_WORG w)
  let z := f (Reg.CR_WSIZE w)
  { en := bit z 31, surf := fld z 30 1, x0 := fld o 0 12, y0 := fld o 16 12, w := fld z 0 13, h := fld z 16 13 }

/-- An enabled window of surface u holds a pixel. -/
def SensorWindow.holds (w : SensorWindow) (u x y : Nat) : Bool :=
  w.en && w.surf == u && decide (w.x0 ≤ x) && decide (x < w.x0 + w.w) && decide (w.y0 ≤ y) && decide (y < w.y0 + w.h)

/-- Window sums with a code of colour c at a pixel added (09 R338). -/
def windowAdd (f : Nat → Word) (u x y c code : Nat) (v : Vector Nat 12) : Vector Nat 12 :=
  Vector.ofFn (fun (i : Fin 12) =>
    v[i] + (if i.val % 3 = c ∧ (windowOf f (i.val / 3)).holds u x y = true then code else 0))

/-- What the chain needs of a surface for a line. -/
structure ChainSet where
  /-- Surface. -/
  u : Fin 2
  /-- Mode and size. -/
  z : SurfSet
  /-- Correction settings. -/
  c : CorrSet
  /-- Modulation. -/
  m : ModSet
  /-- Active entries of the surface. -/
  es : List ArrEntry
  deriving DecidableEq, Repr

/-- The settings that govern the composition of surface u. -/
def State.chainSet (s : State) (u : Fin 2) : ChainSet :=
  { u := u, z := s.surfComp u, c := corrOf (s.composed u) u, m := modOf (s.composed u (Reg.ST_MOD u)), es := s.compEntries u }

/-- The limiter's settings for an array, where it is in effect. -/
def State.limitSet (s : State) (q : ChainSet) (a : Fin 16) : Option LimitSet :=
  if s.limited q.c a then
    some { a := a, b := s.budgetOf (s.composed q.u) a, k := (s.corr.k[a]).toNat, u := q.u.val, m := q.m }
  else none

/-- One emitter of a pixel through steps 4 to 7. -/
def State.chainEmitter (s : State) (q : ChainSet) (e : ArrEntry) (x y : Nat) (w : List Nat) (o : LineOut) (c : Nat) :
    LineOut :=
  let p := e.turn (x - e.x0) (y - e.y0)
  let n := e.emitter q.z.k x y c
  let v := derateStep (w.getD c 0) (s.derate e p.1 p.2)
  let v := if q.c.calEn then calibStep (s.calWord n) q.c.unit v else v
  let r := match s.limitSet q e.n with
    | some l => l.step (s.composed q.u) (phaseClass q.m.seed x y c) v o.counts
    | none => (v, o.counts)
  let code := dither q.c.dmode q.m.drop (s.corr.surf[q.u]).fc.toNat r.1 x y c
  { codes := (n, code) :: o.codes, counts := r.2, sums := sumAdd (e.tileOf p.1 p.2) code o.sums
    wsum := windowAdd (s.composed q.u) q.u x y c code o.wsum }

/-- One pixel through the chain; a pixel that no entry covers is written nowhere (01 R13). -/
def State.chainPixel (s : State) (q : ChainSet) (y : Nat) (o : LineOut) (xcv : Nat × List Nat) : LineOut :=
  match q.es.find? (fun e => e.covers xcv.1 y) with
  | some e =>
    let w := s.colourSteps q.c q.z.surfMode (fadeGain ((s.corr.surf[q.u]).fadeNow.toNat / 16)) xcv.2
    (List.range q.z.k).foldl (s.chainEmitter q e xcv.1 y w) o
  | none => o

/-- Reads of curve and map entries for a pixel that fail their parity; of a pixel that no entry covers the chain reads the curves
alone (01 R13, 09 R331). -/
def State.parityFails (s : State) (q : ChainSet) (y : Nat) (xcv : Nat × List Nat) : Nat :=
  let curves := if q.c.byp then [] else (List.range xcv.2.length).flatMap (fun k =>
    (curveReads q.c.cset (q.c.ct.getD k 0) (xcv.2.getD k 0)).filter (fun i => s.corr.curveBad.contains i))
  curves.length +
  match q.es.find? (fun e => e.covers xcv.1 y) with
  | some e =>
    let p := e.turn (xcv.1 - e.x0) (y - e.y0)
    ((e.derateReads p.1 p.2).filter (fun t => s.corr.mapBad.contains t)).length
  | none => 0

/-- A list of numbers with one at its end, unless it is there. -/
def addOnce (l : List Nat) (w : Nat) : List Nat := if l.contains w then l else l ++ [w]

/-- Words of 64 bits of the emitters of a line, in the order in which the chain first reads them. -/
def lineWords (q : ChainSet) (y : Nat) : List Nat :=
  (List.range q.z.w).foldl (fun l x =>
    match q.es.find? (fun e => e.covers x y) with
    | some e => (List.range q.z.k).foldl (fun l c => addOnce l (e.emitter q.z.k x y c / 4)) l
    | none => l) []

/-- What the calibration words read for a line report (09 R349). -/
def calNotes (x : Store) (u : Fin 2) (ws : List Nat) : List Note :=
  (ws.filter (fun w => x.ce.contains w)).flatMap (fun _ => [.tally (Reg.CR_CALCE u) 1, .raise (Src.CR_CALCE u)]) ++
  (ws.filter (fun w => x.ue.contains w)).flatMap (fun w => [.tally (Reg.CR_CALUE u) 1, .raise (Src.CR_CALUE u),
    .word (Reg.CR_CALUEADDR u) (at32 0 (4 * w))])

/-- The calibration words of a line are read: corrected ones are written back (09 R349). -/
def State.readCalib (q : ChainSet) (y : Nat) (s : State) : State :=
  if !q.c.calEn then s
  else
    let ws := lineWords q y
    { s with calib := { s.calib with ce := s.calib.ce.filter (fun w => !ws.contains w) } }.report (calNotes s.calib q.u ws)

/-- The words of a line written into the compose bank, with an armed checker's errors (09 R324, 16 R582). -/
def State.writeCodes (b : Bool) (codes : List (Nat × Nat)) (s : State) : State :=
  let x := codes.foldl (fun (x : Store) y => x.write 0 zeroByte (2 * y.1) (toBytesLE 2 y.2)) (s.bank b)
  let ws := codes.foldl (fun l y => insertNat (y.1 / 4) l) []
  (s.setBank b x).injWords 1 (fun w multi (s : State) => s.setBank b ((s.bank b).upset w multi)) ws

/-- The period of a surface is withheld: its frame is not complete (07 R285). -/
def State.withhold (u : Fin 2) (s : State) : State :=
  { s with
    comp := s.comp.set u { s.comp[u] with withheld := true, doneAt := none }
    surf := s.surf.set u { s.surf[u] with complete := false } }

/-- The period of a surface is withheld for `n` reads that failed their parity, each of which raises (09 R331). -/
def State.tableParity (u : Fin 2) (n : Nat) (s : State) : State :=
  let x := s.corr.surf[u]
  (State.withhold u { s with corr := { s.corr with surf := s.corr.surf.set u { x with tpar := true } } }).report
    (List.replicate n (.raise (Src.CR_TPAR u)))

/-- One output line through the chain: `vals` are the composed values by x. -/
def State.correctLine (u : Fin 2) (y : Nat) (vals : List (Nat × List Nat)) (s : State) : State :=
  let q := s.chainSet u
  let bad := (vals.map (s.parityFails q y)).sum
  let s := s.when (bad != 0) (State.tableParity u bad)
  let o := vals.foldl (s.chainPixel q y)
    { counts := { demand := s.corr.demand, admitted := s.corr.admitted, clipped := 0 }
      sums := (s.corr.surf[u]).sumsNew, wsum := s.corr.wsumNew }
  let s := s.readCalib q y
  let x := s.corr.surf[u]
  let x := { x with sumsNew := o.sums, clipped := x.clipped || decide (o.counts.clipped ≠ 0) }
  let s := { s with corr := { s.corr with
    demand := o.counts.demand, admitted := o.counts.admitted, wsumNew := o.wsum, surf := s.corr.surf.set u x } }
  (s.writeCodes (!(s.surf[u]).showBank) o.codes.reverse).report
    ((List.replicate o.counts.clipped [Note.tally (Reg.CR_LBCLIP u) 1, .raise (Src.CR_LBCLIP u)]).flatten)

/-! ### Commands (09 R328, R337, R350) -/

/-- A set is in use (09 R328). -/
def State.setInUse (s : State) (set : Nat) : Bool :=
  surfaces.any (fun u => let c := corrOf s.active u.val; !c.byp && c.cset == set)

/-- A set comes into use at a boundary of this sample that still waits in the queue (09 R329). -/
def State.setComing (s : State) (set : Nat) : Bool :=
  surfaces.any (fun u => bit s.cmt.toApply u.val &&
    s.awaits (fun c => match c with
      | .surfaceFrameBoundary _ w => w == u
      | _ => false) &&
    (let c := corrOf (fun a => ((s.cmt.chg.find? (fun x => x.1 == a)).map (fun x => x.2.1)).getD (s.active a)) u.val
     !c.byp && c.cset == set))

/-- A write to a set is discarded (09 R328, R329). -/
def State.setHeld (s : State) (set : Nat) : Bool := s.setInUse set || s.setComing set

/-- A CR_TDATA write (09 R328, R329). -/
def State.writeCurve (v : Word) (s : State) : State :=
  let a := rget s.regs Reg.CR_TADDR
  let i := min 1024 (fld a 0 11)
  let t := fld a 11 2
  let set := fld a 13 1
  if s.setHeld set then { s with corr := { s.corr with twerr := true } }.report [.raise Src.CR_TWERR, Note.hit Reg.CR_TSTAT 1]
  else
    let k := curveKey set t i
    let bad := s.injMode 4 != 0
    let next := if i = 1024 then at32 0 0 ||| at32 11 ((t + 1) % 4) else at32 0 (i + 1) ||| at32 11 t
    { s.useInj 4 with
      corr := { s.corr with
        curve := smSet (fun _ => (0 : BitVec 20)) k (v.setWidth 20) s.corr.curve
        curveBad := if bad then insertNat k s.corr.curveBad else removeNat k s.corr.curveBad } }.report
      [.word Reg.CR_TADDR (next ||| at32 13 set)]

/-- CR_TDATA_WRITE (09 R328). -/
def execCrTdataWrite (t : Nat) (req : Req) (v : Word) (s : State) : Host.Outcome State Fault Refusal :=
  onCore t s (State.access req 0x24 (State.writeCurve v))

/-- A CR_MLIM write: stored only where it lowers MSTEP (09 R337). -/
def State.writeMlim (u : Fin 2) (v : Word) (s : State) : State :=
  s.when (u == 0 && decide (fld v 0 16 < fld (rget s.regs Reg.CR_MLIM) 0 16))
    (State.report [.word Reg.CR_MLIM (at32 0 (fld v 0 16))])

/-- CR_MLIM (09 R337): the register stands in surface 0's page only (09 R360). -/
def execCrMlim (t : Nat) (req : Req) (u : Fin 2) (v : Word) (s : State) : Host.Outcome State Fault Refusal :=
  onCore t s (State.access req (0x24 + u.val) (State.writeMlim u v))

/-- A write to the calibration store: whole words, an uncorrectable one restarting from 0x8000 (09 R350), with an armed
checker's errors (16 R582). -/
def State.putCalib (a : Nat) (l : List Byte) (s : State) : State :=
  let x := (wordsOf a l.length).foldl (fun (x : Store) w =>
    { x with cells := if x.ue.contains w then
        Memory.writeL calibByte x.cells (8 * w) ((List.range 8).map (fun i => calibByte i)) else x.cells }) s.calib
  let ws := wordsOf a l.length
  let x := { cells := Memory.writeL calibByte x.cells a l, ce := x.ce.filter (fun w => !ws.contains w)
             ue := x.ue.filter (fun w => !ws.contains w) : Store }
  { s with calib := x }.injWords 3 (fun w multi (s : State) => { s with calib := s.calib.upset w multi }) ws

/-- BAR2_CALIBRATION_WRITE (09 R350): the address counts from the store's first byte, modulo its 8 MiB. -/
def execBar2CalibrationWrite (t : Nat) (_req : Req) (addr : Nat) (data : List Byte) (s : State) :
    Host.Outcome State Fault Refusal :=
  onCore t s (State.putCalib (addr % 0x800000) data)

/-- A read of the calibration store meets an uncorrectable word. -/
def State.calibDead (s : State) (a n : Nat) : Bool := (wordsOf a n).any (fun w => s.calib.ue.contains w)

/-- Bytes of the calibration store. -/
def State.calibBytes (s : State) (a n : Nat) : List Byte := Memory.readN calibByte s.calib.cells a n

/-- BAR2_CALIBRATION_READ (09 R350). -/
def execBar2CalibrationRead (t : Nat) (req : Req) (addr len : Nat) (s : State) : Host.Outcome State Fault Refusal :=
  onCore t s (fun s => s.report [.send (
    if s.calibDead (addr % 0x800000) len then .poisoned req else .data req (s.calibBytes (addr % 0x800000) len))])

end Sys2Proof.Machine
end

