-- ==== Sys2Proof/Machine/HostPort.lean ====
section
/-! DEFINITION. The host port: upstream requests, its resets, the page header, interrupts and MSI-X messages, and the
phase register (chapters 13 and 20). -/

namespace Sys2Proof.Machine

open Sys2Proof

/-! ### Upstream requests (13 R464–R467) -/

/-- The controller may put a request on the link (13 R464; 12 R453 for a STALLED crossing into CD_HOST). -/
def State.linkReady (s : State) : Bool :=
  s.host.linkUp && s.host.bme && decide (s.host.dstate = 0) && !s.host.portSpi && !s.stalledTo 0

/-- Upstream reads waiting for a completion. -/
def HostPort.waiting (h : HostPort) : Nat := (h.up.filter (fun r => decide (r.res = .waiting))).length

/-- Another non-posted request may be outstanding (13 R459). -/
def State.upRoom (s : State) : Bool := decide (s.host.waiting < 64)

/-- An upstream read as the host port holds it. -/
def State.upReq (s : State) (who : UpWho) (addr len : Nat) : UpReq :=
  { tag := s.host.nextTag, who := who, addr := addr, len := len, sent := s.now,
    res := if s.linkReady then .waiting else .error }

/-- What issuing an upstream read reports: the request on the link, or an error access counted at once (13 R464). -/
def State.upNotes (s : State) (addr len : Nat) : List Note :=
  if s.linkReady then [.send (.upRead s.host.nextTag addr len)] else [.count Reg.HOST_CPLERR 1]

/-- An upstream read is issued. -/
def State.upRead (who : UpWho) (addr len : Nat) (s : State) : State :=
  { s with host := { s.host with
      up := s.host.up ++ [s.upReq who addr len]
      nextTag := s.host.nextTag + 1 } }.report (s.upNotes addr len)

/-- What an upstream write reports (13 R464). -/
def State.upWriteNotes (s : State) (addr : Nat) (bytes : List Byte) : List Note :=
  if s.linkReady then [.send (.upWrite addr bytes)] else [.count Reg.HOST_CPLERR 1]

/-- The first upstream read of a requester that has ended. -/
def HostPort.ended (h : HostPort) (who : UpWho) : Option UpReq :=
  h.up.find? (fun r => decide (r.who = who) && !decide (r.res = .waiting))

/-- The upstream reads without one tag. -/
def HostPort.without (h : HostPort) (tag : Nat) : HostPort := { h with up := h.up.filter (fun r => r.tag != tag) }

/-- An upstream read given its outcome. -/
def HostPort.answer (h : HostPort) (tag : Nat) (r : UpResult) : HostPort :=
  { h with up := h.up.map (fun x => if x.tag = tag then { x with res := r } else x) }

/-- A request of a tag still waits. -/
def HostPort.awaits (h : HostPort) (tag : Nat) : Bool :=
  h.up.any (fun r => r.tag == tag && decide (r.res = .waiting))

/-- What a completion makes of its request (13 R467). -/
def answerResult : UpAnswer → UpResult
  | .data b => .data b
  | _ => .error

/-- What a completion counts and raises (13 R467). -/
def answerNotes : UpAnswer → List Note
  | .data _ => []
  | _ => [.count Reg.HOST_CPLERR 1, .raise Src.HP_CPLERR]

/-- AER's record of a completion (13 R467). -/
def answerAer : UpAnswer → List AerError
  | .poisoned => [.poisonedTlp]
  | _ => []

/-- A completion is registered: for a request that has expired it is unexpected and dropped (13 R466). -/
def State.completion (tag : Nat) (a : UpAnswer) (s : State) : State :=
  if s.host.awaits tag then
    { s with host := { s.host.answer tag (answerResult a) with aer := answerAer a ++ s.host.aer } }.report (answerNotes a)
  else { s with host := { s.host with aer := .unexpectedCompletion :: s.host.aer } }

/-- UPSTREAM_COMPLETION (13 R467): the pins of a port that is not selected are ignored (13 R458, 12 R434). -/
def execUpstreamCompletion (t tag : Nat) (a : UpAnswer) (s : State) : Host.Outcome State Fault Refusal :=
  onCore t s (fun s => s.when (!s.host.portSpi) (State.once (.upstreamCompletion t tag a) (State.completion tag a)))

/-- What an expiry counts and raises (13 R466, R502). -/
def expiryNotes : List Note := [.count Reg.HOST_CPLTO 1, .raise Src.HP_CPLTO, .irq 0x08 1]

/-- A request expires (13 R466). -/
def State.expire (tag : Nat) (s : State) : State :=
  { s with host := { s.host.answer tag .error with aer := .completionTimeout :: s.host.aer } }.report expiryNotes

/-- A completion of the tag is registered in this sample (12 R438). -/
def State.completing (s : State) (tag : Nat) : Bool :=
  s.awaits (fun c => match c with
    | .upstreamCompletion _ g _ => g == tag
    | _ => false)

/-- COMPLETION_TIMEOUT (13 R466): no effect on a request that does not wait, or whose completion the same sample registers. -/
def execCompletionTimeout (t tag : Nat) (s : State) : Host.Outcome State Fault Refusal :=
  onCore t s (fun s => s.when (s.host.awaits tag && !s.completing tag) (State.expire tag))

/-- The completion timeout in effect in µs (13 R465). -/
def timeoutOf (v : BitVec 4) : Nat :=
  if v = 1 then 100 else if v = 2 then 10000 else if v = 5 then 55000 else if v = 6 then 210000 else 50000

/-! ### The link and its configuration (13 R459, R463, R502) -/

/-- The link is up at a speed and width; LINKCHG at a change (13 R502). -/
def State.linkUpAt (speed : BitVec 3) (width : BitVec 2) (s : State) : State :=
  { s with host := { s.host with linkUp := true, speed := speed, width := width } }.report
    (noteIf (!s.host.linkUp || s.host.speed != speed || s.host.width != width) [.irq 0x08 0])

/-- LINK_UP (13 R502): nothing on the quad-SPI port (13 R458). -/
def execLinkUp (t : Nat) (speed : BitVec 3) (width : BitVec 2) (s : State) : Host.Outcome State Fault Refusal :=
  onCore t s (fun s => s.when (!s.host.portSpi) (State.linkUpAt speed width))

/-- The function's configuration after a write (13 R464, R465, R490). -/
def HostPort.configure (h : HostPort) : CfgWrite → HostPort
  | .busMaster on => { h with bme := on }
  | .powerState d3 => { h with dstate := if d3 then 3 else 0 }
  | .msix en mask => { h with msixEn := en, msixFmask := mask }
  | .timeout v => { h with ctoVal := v }

/-- CONFIGURATION_WRITE (13 R465): nothing on the quad-SPI port (13 R458). -/
def execConfigurationWrite (t : Nat) (w : CfgWrite) (s : State) : Host.Outcome State Fault Refusal :=
  onCore t s (fun s => s.when (!s.host.portSpi) (fun s => { s with host := s.host.configure w }))

/-- The reset takes the link down. -/
def linkDrops : HostReset → Bool
  | .fundamental => true
  | .linkDown => true
  | _ => false

/-- The host port after a reset of 13 R463: configuration space, PBA and transaction layer reset, every upstream
request ended as an error access, every vector armed (13 R490). -/
def HostPort.reset (h : HostPort) (k : HostReset) : HostPort :=
  { h with
    linkUp := h.linkUp && !linkDrops k
    speed := if linkDrops k then 0 else h.speed
    width := if linkDrops k then 0 else h.width
    dstate := 0, bme := false, msixEn := false, msixFmask := false, ctoVal := 0
    armed := 0xFFFFFFFF#32, pba := 0, aer := [], up := endUpstream h.up }

/-- The MSI-X table reset (13 R463, R504). -/
def msixReset (f : RegFile) : RegFile := f.filter (fun x => !(decide (0x9100 ≤ x.1) && decide (x.1 < 0x9300)))

/-- What a reset of 13 R463 raises (13 R502, R506; 20 R701). -/
def resetNotes (h : HostPort) (k : HostReset) (p : Phase) : List Note :=
  noteIf (linkDrops k && h.linkUp) [.irq 0x08 0] ++
  noteIf (linkDrops k && h.linkUp && h.bme && decide (h.dstate = 0)) [.raise Src.HP_LINKDN] ++
  noteIf (p == .service) [.irq 0x00 2, Note.hit Reg.TOP_PHASE 8]

/-- The phase and the reset count after a reset of 13 R463 (20 R701, R711). -/
def Top.hostReset (x : Top) : Top :=
  { x with
    phase := if x.phase = .service then .recovery else x.phase
    hostRst := x.hostRst || x.phase == .service
    hostRsts := BitVec.ofNat 8 (min 255 (x.hostRsts.toNat + 1)) }

/-- Encoding of PHASE. -/
def Phase.code : Phase → Nat
  | .startUp => 0
  | .service => 1
  | .test => 2
  | .recovery => 3

/-- PHASE before this sample (14 R524, 20 R710); bit 31 where a commit of the sample has made it SERVICE. -/
def State.phaseBefore (s : State) : Word := (s.kept Reg.TOP_PHASE).getD (BitVec.ofNat 32 s.top.phase.code)

/-- PHASE is about to change. -/
def State.keepPhase (s : State) : State := s.keepAs Reg.TOP_PHASE s.phaseBefore

/-- A reset of 13 R463. -/
def State.hostReset (k : HostReset) (s : State) : State :=
  { s.keepPhase with host := s.host.reset k, regs := msixReset s.regs, top := s.top.hostReset }.report
    (resetNotes s.host k s.top.phase)

/-! ### The page header (13 R479–R488) -/

/-- The page is in use (13 R474). -/
def pageUsed (p : Nat) : Bool := (pageInfo p).isSome

/-- Events of a page, as bits of PG_IRQ_RAW (11 R427, R429; 12 R456; 13 R500, R502; 14 R527; 07 R292; 09 R365; 10 R394;
15 R553; 16 R585; 19 R690; 20 R711; 21 R719). -/
def irqMask (p : Nat) : Nat :=
  if p = 0x00 ∨ p = 0x41 ∨ p = 0x48 then 0x1F
  else if p = 0x01 ∨ p = 0x40 then 7
  else if p = 0x02 ∨ p = 0x08 ∨ p = 0x20 ∨ p = 0x21 ∨ p = 0x24 ∨ p = 0x25 ∨ p = 0x58 ∨ p = 0x60 then 3
  else if p = 0x0A then 0xFFFFFF
  else if p = 0x28 then 0xF
  else 0

/-- A header word of a page. -/
def hdr (p off : Nat) : Nat := p * 0x1000 + off

/-- PG_OWNER after a write: 0 nothing while OWN_LOCK, from a DMA channel or on the GLADE page (13 R482, 17 R633). -/
def ownerAfter (req : Req) (page : Byte) (ctrl old v : Word) : Word :=
  if bit ctrl 0 || page == 0x50 then old
  else match req with
    | .forester => v &&& 3
    | .host => if bit v 0 then old else clearBit old 0
    | .dma _ => old

/-- PG_OWNER written. -/
def State.writeOwner (req : Req) (page : Byte) (v : Word) (s : State) : State :=
  let a := hdr page.toNat 0x02C
  let w := ownerAfter req page (s.before (hdr page.toNat 0x008)) (rget s.regs a) v
  let s := s.keep a
  { s with regs := rset a w s.regs }

/-- PG_OWNER_WRITE (13 R482): the register lies outside the offsets that 13 R481 judges. -/
def execPgOwnerWrite (t : Nat) (req : Req) (page : Byte) (v : Word) (s : State) : Host.Outcome State Fault Refusal :=
  onCore t s (fun s => s.when (pageUsed page.toNat)
    (fun s => if s.stalledTo (pageDomain page.toNat) then s.report (errorAccess req) else s.writeOwner req page v))

/-- OWN_LOCK set by a 1; a 0 has no effect (13 R479). -/
def State.writeCtrl (page : Byte) (v : Word) (s : State) : State :=
  let a := hdr page.toNat 0x008
  let s := s.keep a
  { s with regs := rset a (rget s.regs a ||| (v &&& 1)) s.regs }

/-- OWN_LOCK (13 R482). -/
def execOwnLock (t : Nat) (req : Req) (page : Byte) (v : Word) (s : State) : Host.Outcome State Fault Refusal :=
  onCore t s (fun s => s.when (pageUsed page.toNat) (State.access req page.toNat (State.writeCtrl page v)))

/-- RAW bits cleared through PG_IRQ_PEND, but for those that an event of the sample sets (00 R8, 13 R487). -/
def State.clearIrq (page : Byte) (v : Word) (s : State) : State :=
  let a := hdr page.toNat 0x010
  { s with regs := rset a (rget s.regs a &&& ~~~(s.cold a v)) s.regs }

/-- PG_IRQ_PEND_CLEAR (13 R487). -/
def execPgIrqPendClear (t : Nat) (req : Req) (page : Byte) (v : Word) (s : State) : Host.Outcome State Fault Refusal :=
  onCore t s (fun s => s.when (pageUsed page.toNat) (State.access req page.toNat (State.clearIrq page v)))

/-- RAW bits of the page's events set, whatever a clear of the sample does (13 R479, R488). -/
def State.forceIrq (page : Byte) (v : Word) (s : State) : State :=
  let a := hdr page.toNat 0x010
  let m := v &&& BitVec.ofNat 32 (irqMask page.toNat)
  State.hit a m.toNat { s with regs := rset a (rget s.regs a ||| m) s.regs }

/-- PG_IRQ_FORCE (13 R488). -/
def execPgIrqForce (t : Nat) (req : Req) (page : Byte) (v : Word) (s : State) : Host.Outcome State Fault Refusal :=
  onCore t s (fun s => s.when (pageUsed page.toNat) (State.access req page.toNat (State.forceIrq page v)))

/-! ### Interrupt vectors (13 R485, R490) -/

/-- The pages in use. -/
def pagesUsed : List Nat := pageRuns.flatMap (fun r => (List.range r.2.1).map (fun i => r.1 + i))

/-- The line of a page is 1 (13 R485). -/
def pageLine (f : RegFile) (p : Nat) : Bool := (rget f (hdr p 0x010) &&& rget f (hdr p 0x018)) != 0

/-- Vector that a page feeds, if its EN is 1 (13 R485, R503). -/
def pageVector (f : RegFile) (p : Nat) : Option Nat :=
  let b := fld (rget f (Reg.HOST_IRQMAP (p / 4))) (8 * (p % 4)) 8
  if 128 ≤ b then some (b % 32) else none

/-- Condition of vector v (13 R485). -/
def vectorCond (f : RegFile) (v : Nat) : Bool := pagesUsed.any (fun p => pageLine f p && pageVector f p == some v)

/-- HOST_VEC_COND (13 R503). -/
def vecCond (f : RegFile) : Word :=
  pagesUsed.foldl (fun w p => match pageVector f p with
    | some v => if pageLine f p then setBit w v else w
    | none => w) 0

/-- A word of MSI-X table entry v. -/
def msixWord (f : RegFile) (v j : Nat) : Word := rget f (Reg.MSIX_VEC v + 4 * j)

/-- The message of vector v as the posted write it is. -/
def msixMessageOf (f : RegFile) (v : Fin 32) : Output :=
  .msix v ((msixWord f v 0).toNat + (msixWord f v 1).toNat * 2 ^ 32) (msixWord f v 2)

/-- A message of vector v is due but for its mask and the link (13 R490). -/
def State.messageDue (s : State) (v : Fin 32) : Bool :=
  vectorCond s.regs v && bit s.host.armed v && s.host.msixEn && !s.host.msixFmask && !s.host.portSpi

/-- A message of vector v (13 R490): masked it sets its PBA bit; a pending bit whose condition has fallen is dropped; on
a link that takes no request it stays pending (13 R464). -/
def State.message (v : Fin 32) (s : State) : State :=
  if bit (msixWord s.regs v 3) 0 then
    (if s.messageDue v then { s with host := { s.host with pba := setBit s.host.pba v } } else s)
  else if !s.messageDue v then
    { s with host := { s.host with pba := if vectorCond s.regs v then s.host.pba else clearBit s.host.pba v } }
  else if s.linkReady then
    { s with host := { s.host with armed := clearBit s.host.armed v, pba := clearBit s.host.pba v } }.report
      [.send (msixMessageOf s.regs v), Note.hit (Awaited.message v).key 1]
  else s

/-- MSIX_MESSAGE (13 R490). -/
def execMsixMessage (t : Nat) (v : Fin 32) (s : State) : Host.Outcome State Fault Refusal :=
  onCore t s (State.message v)

/-- Every event that makes the condition of vector v has come in this sample: the condition has risen in it (13 R491). -/
def State.vectorRose (s : State) (v : Fin 32) : Bool :=
  pagesUsed.all (fun p => pageVector s.regs p != some v.val ||
    (s.cold (hdr p 0x010) (rget s.regs (hdr p 0x010)) &&& rget s.regs (hdr p 0x018)) == 0)

/-- Vectors whose message has answered a rise of this sample: an arming of the same sample gives no second one (13 R491). -/
def State.answered (s : State) : Word :=
  ((List.finRange 32).filter (fun v => s.hasCome (Awaited.message v).key && s.vectorRose v)).foldl
    (fun (w : Word) v => setBit w v.val) 0

/-- Vectors armed (13 R490, R491). A message whose condition still stands is a command of its own. -/
def State.armVectors (v : Word) (s : State) : State :=
  { s with host := { s.host with armed := s.host.armed ||| (v &&& ~~~s.answered) } }

/-- HOST_VEC_ARM (13 R490). -/
def execHostVecArm (t : Nat) (req : Req) (v : Word) (s : State) : Host.Outcome State Fault Refusal :=
  onCore t s (State.access req 0x08 (State.armVectors v))

/-! ### The phase (20 R701) -/

/-- A surface has EN = 1 in its active ST_CTRL_Su. -/
def State.anyEn (s : State) : Bool := surfaces.any (fun u => bit (s.active (Reg.ST_CTRL u)) 0)

/-- The phase a write names (20 R701), or none where the transition is not allowed. -/
def Phase.write (p : Phase) (w : Nat) (anyEn : Bool) : Option Phase :=
  match p, w with
  | .startUp, 1 => some .service
  | .startUp, 2 => if anyEn then none else some .test
  | .service, 2 => if anyEn then none else some .test
  | .test, 1 => some .service
  | .recovery, 1 => some .service
  | .service, 3 => some .recovery
  | p, w => if p.code = w then some p else none

/-- TOP_PHASE written: the flags' ones cleared, then the phase (20 R701, R711; 00 R8). -/
def Top.writePhase (x : Top) (v : Word) (anyEn : Bool) : Top :=
  { x with
    phase := (x.phase.write (fld v 0 2) anyEn).getD x.phase
    phErr := (x.phErr && !bit v 2) || (x.phase.write (fld v 0 2) anyEn).isNone
    hostRst := x.hostRst && !bit v 3 }

/-- TOP_PHASE written. A write of 2 beside a commit of the sample that sets EN = 1 is performed, and the phase is SERVICE after it
(20 R710). -/
def State.writePhase (v : Word) (s : State) : State :=
  let v := s.cold Reg.TOP_PHASE v
  if bit s.phaseBefore 31 && decide (fld v 0 2 = 2) then
    { s with top := { s.top with phErr := s.top.phErr && !bit v 2, hostRst := s.top.hostRst && !bit v 3 } }
  else
    { s.keepPhase with top := s.top.writePhase v s.anyEn }.report
      (noteIf ((s.top.writePhase v s.anyEn).phase != s.top.phase) [.irq 0x00 2] ++
        noteIf (s.top.phase.write (fld v 0 2) s.anyEn).isNone [Note.hit Reg.TOP_PHASE 4])

/-- TOP_PHASE_WRITE (20 R701). -/
def execTopPhaseWrite (t : Nat) (req : Req) (v : Word) (s : State) : Host.Outcome State Fault Refusal :=
  onCore t s (State.once (.topPhaseWrite t req v) (State.access req 0x00 (State.writePhase v)))

end Sys2Proof.Machine
end

