-- ==== Sys2Proof/Machine/Forester.lean ====
section
/-! DEFINITION. Forester's resets, mailbox, peripherals and log commands (chapter 18, 13 R498–R500). -/

namespace Sys2Proof.Machine

open Sys2Proof

/-- A command to Forester: nothing while it is held in reset. -/
def onForester (t : Nat) (s : State) (f : State → State) : Host.Outcome State Fault Refusal :=
  onCore t s (fun s => s.when (s.fst.st != .reset) f)

/-- Bit i of FP_IRQ set. -/
def Forester.raiseIrq (x : Forester) (i : Nat) : Forester := { x with irq := setBit x.irq i }

/-! ### Resets (18 R638–R640) -/

/-- FORESTER_RESET (18 R640): a reset by thermal or commanded shutdown holds Forester while the shutdown lasts. -/
def execForesterReset (t : Nat) (cause : ForCause) (s : State) : Host.Outcome State Fault Refusal :=
  onCore t s (fun s => s.resetForester cause (cause == .shutdown && s.thm.stopped))

/-- SWRST (18 R640): FP_CTRL written. -/
def execSwrst (t : Nat) (v : Word) (s : State) : Host.Outcome State Fault Refusal :=
  onForester t s (fun s => s.when (bit v 0) (State.resetForester .software false))

/-- A read of the TCM finds an error (18 R638). -/
def State.tcmError : TcmError → State → State
  | .single w, s =>
    { s with fst := { s.fst with tcm := { s.fst.tcm with ce := removeNat w s.fst.tcm.ce } } }.report [.raise Src.FO_TCMCE]
  | .double w, s =>
    ({ s with fst := { s.fst with tcm := { s.fst.tcm with ue := insertNat w s.fst.tcm.ue } } }.report
      [.raise Src.FO_TCMUE]).resetForester .tcm false

/-- TCM_ERROR (18 R638). -/
def execTcmError (t : Nat) (e : TcmError) (s : State) : Host.Outcome State Fault Refusal :=
  onForester t s (State.tcmError e)

/-- An exception taken (18 R639). -/
def State.exception : ForException → State → State
  | .pmp c, s => { s with fst := { s.fst with mcause := c } }.report [.raise Src.FO_PMP]
  | .other c, s => { s with fst := { s.fst with mcause := c } }.report [.raise Src.FO_TRAP]

/-- FORESTER_EXCEPTION (18 R639). -/
def execForesterException (t : Nat) (e : ForException) (s : State) : Host.Outcome State Fault Refusal :=
  onForester t s (State.exception e)

/-! ### Mailbox (13 R498–R500, 18 R661, R662) -/

/-- Forester accepts requests (13 R498). -/
def State.mbOpen (s : State) : Bool :=
  s.fst.st != .reset && (s.clk.mon[5]).running && bit (rget s.regs Reg.FP_MB_CTRL) 0

/-- HWCODE of a doorbell's refusal; 0 where it is accepted (13 R498). -/
def State.doorCode (s : State) (v : Word) : Nat :=
  if s.host.mbBusy || s.host.mbFell == some (s.now / tick) then 1 else if !s.mbOpen then 2 else if fld v 8 5 = 0 ∨ 16 < fld v 8 5 then 4 else 0

/-- The host side after a refusal. -/
def HostPort.mbRefuse (h : HostPort) (code : Nat) (v : Word) : HostPort :=
  { h with mbRefused := true, mbCode := BitVec.ofNat 4 code, mbSeq := BitVec.ofNat 8 (fld v 0 8) }

/-- The request dwords copied to Forester's page in one sample (18 R661). -/
def copyReq (f : RegFile) : RegFile :=
  (List.range 16).foldl (fun f i => rset (Reg.FP_MB_REQ i) (rget f (Reg.MB_REQ i)) f) f

/-- An accepted doorbell. -/
def State.mbStart (v : Word) (s : State) : State :=
  State.hit Reg.FP_IRQ 1 { s with
    regs := copyReq s.regs
    host := { s.host with
      mbBusy := true, mbReqSeq := BitVec.ofNat 8 (fld v 0 8), mbReqLen := BitVec.ofNat 5 (fld v 8 5) }
    fst := { s.fst.raiseIrq 0 with
      mbPending := true, mbSeq := BitVec.ofNat 8 (fld v 0 8), mbLen := BitVec.ofNat 5 (fld v 8 5) } }

/-- A request times out (13 R499, 18 R662). -/
def State.mbExpire (s : State) : State :=
  { s with
    host := { s.host with mbBusy := false, mbFell := some (s.now / tick), mbTimeout := true, mbCode := 3, mbSeq := s.host.mbReqSeq }
    fst := { s.fst with mbPending := false, mbDiscard := true } }.report
      [.irq 0x58 0, .raise Src.HP_MBTO, Note.hit Reg.MB_STAT 8, Note.hit Reg.FP_MB_STAT 0x20000]

/-- Firmware's completion of the request is registered in this sample (12 R438, 13 R499). -/
def State.mbAnswering (s : State) : Bool :=
  let mine := fun (v : Word) => s.fst.mbPending && s.fst.st != .reset && s.fst.mbSeq == BitVec.ofNat 8 (fld v 0 8)
  s.awaits (fun c => match c with
    | .fpMbDone _ v => mine v
    | .registerWrite _ .forester a v _ => a.toNat == Reg.FP_MB_DONE && mine v
    | _ => false)

/-- MAILBOX_TIMEOUT (13 R499). -/
def execMailboxTimeout (t : Nat) (s : State) : Host.Outcome State Fault Refusal :=
  onCore t s (fun s => s.when (s.host.mbBusy && !s.mbAnswering) State.mbExpire)

/-- Response dwords copied to the host's page in one sample (18 R662). -/
def copyRsp (n : Nat) (f : RegFile) : RegFile :=
  (List.range n).foldl (fun f i => rset (Reg.MB_RSP i) (rget f (Reg.FP_MB_RSP i)) f) f

/-- A completion taken. A RSPLEN above 16 counts as 16 (DESIGN CHOICE, log entry 19). -/
def State.mbComplete (v : Word) (s : State) : State :=
  let n := min 16 (fld v 8 5)
  { s with
    regs := copyRsp n s.regs
    host := { s.host with mbBusy := false, mbFell := some (s.now / tick), mbDone := true, mbCode := 0, mbSeq := s.host.mbReqSeq
                          mbRspLen := BitVec.ofNat 5 n }
    fst := { s.fst with mbPending := false } }.report [.irq 0x58 0, Note.hit Reg.MB_STAT 2]

/-- A completion discarded. -/
def State.mbDrop (s : State) : State :=
  { s with fst := { s.fst.raiseIrq 1 with mbDiscard := true } }.report [Note.hit Reg.FP_IRQ 2, Note.hit Reg.FP_MB_STAT 0x20000]

/-- FP_MB_DONE written (18 R662). -/
def State.writeMbDone (v : Word) (s : State) : State :=
  if s.fst.mbPending && s.fst.mbSeq == BitVec.ofNat 8 (fld v 0 8) then s.mbComplete v else s.mbDrop

/-- FP_MB_DONE (18 R662). -/
def execFpMbDone (t : Nat) (v : Word) (s : State) : Host.Outcome State Fault Refusal := onForester t s (State.writeMbDone v)

/-- FP_MB_EVT written (18 R662). -/
def State.writeMbEvt (v : Word) (s : State) : State := s.report (noteIf (bit v 0) [.irq 0x58 1])

/-- FP_MB_EVT (18 R662). -/
def execFpMbEvt (t : Nat) (v : Word) (s : State) : Host.Outcome State Fault Refusal := onForester t s (State.writeMbEvt v)

/-! ### SPI NOR master (18 R644–R646, 15 R546) -/

/-- LOAD of Glade is in progress (18 R646). -/
def State.loading (s : State) : Bool := s.gladeOn && !s.glade.loadEnded

/-- The command writes the flash's status register. -/
def norStatus (v : Word) : Bool := fld v 0 8 == 0x01 || fld v 0 8 == 0x11 || fld v 0 8 == 0x31

/-- Flash addresses that a program or erase may change: first and length; a page program stays in its 256-byte page. -/
def norRange (v : Word) (addr : BitVec 24) : Nat × Nat :=
  if norErase v ≠ 0 then (addr.toNat / norErase v * norErase v, norErase v)
  else if norProgram v then (addr.toNat / 256 * 256, 256)
  else (0, 0)

/-- Whole 4 KiB sectors of the pattern of the GPR in force (18 R644). -/
def Glade.patternRange (g : Glade) : Nat × Nat := (g.gp 0x02C 0 24 / 4096 * 4096, divUp (g.gp 0x030 0 17) 4096 * 4096)

/-- The range touches Glade's parameters or pattern (18 R644). -/
def Glade.guards (g : Glade) (r : Nat × Nat) : Bool :=
  meets r.1 r.2 0x10000 0x2000 || (g.hasGpr && meets r.1 r.2 g.patternRange.1 g.patternRange.2)

/-- The SPI NOR master refuses the command under R644. -/
def State.norGuarded (s : State) (v : Word) (addr : BitVec 24) : Bool :=
  !decide (2 ≤ s.sec.dbgLevel.toNat) &&
    (s.glade.guards (norRange v addr) || (decide (0x10000 ≤ norErase v) && s.glade.hasGpr))

/-- The SPI NOR master refuses the command during an orderly window (15 R546). -/
def State.norWindow (s : State) (v : Word) : Bool :=
  s.thm.window && (norErase v != 0 || norStatus v || (norProgram v && decide (s.thm.windowAt + msec < s.now)))

/-- The range touches a journal slot (18 R643). -/
def inJournal (r : Nat × Nat) : Bool := meets r.1 r.2 0x12000 0x2000

/-- Bytes of the SPI NOR buffer. -/
def norBuf (f : RegFile) (n : Nat) : List Byte :=
  ((List.range 64).flatMap (fun i => toBytesLE 4 (rget f (Reg.FP_SPI_BUF i)).toNat)).take n

/-- Bytes read put into the SPI NOR buffer from its start. -/
def norFill (f : RegFile) (l : List Byte) : RegFile :=
  let all := l ++ (norBuf f 256).drop l.length
  (List.range 64).foldl (fun f i => rset (Reg.FP_SPI_BUF i) (BitVec.ofNat 32 (leAt all (4 * i) 4)) f) f

/-- The command programs the last page of a journal record (18 R650). -/
def journalLast (v : Word) (addr : BitVec 24) : Bool :=
  norProgram v && inJournal (norRange v addr) && addr.toNat % 0x1000 / 256 == 15

/-- A command refused: it completes to firmware as an error (15 R546); a journal write is then abandoned (18 R666). -/
def State.norRefuse (v : Word) (addr : BitVec 24) (s : State) : State :=
  { s with fst := { s.fst.raiseIrq 4 with spi := { s.fst.spi with
      refused := true, cmd := none, loadWait := false, journal := s.fst.spi.journal && !inJournal (norRange v addr) } } }.report
    (noteIf (inJournal (norRange v addr)) [.raise Src.FO_JRNL] ++ [Note.hit Reg.FP_IRQ 0x10, Note.hit Reg.FP_SPI_STAT 8])

/-- A command put on the bus, or refused. -/
def State.norStart (v : Word) (addr : BitVec 24) (s : State) : State :=
  if s.norGuarded v addr || s.norWindow v then s.norRefuse v addr
  else
    { s with fst := { s.fst with spi := { s.fst.spi with
        cmd := some (v, addr), loadWait := false, journal := s.fst.spi.journal || inJournal (norRange v addr) } } }.report
      [.send (.nor v addr (if bit v 15 then norBuf s.regs (fld v 16 9) else []))]

/-- FP_SPI_CMD written: a command in progress is not disturbed (DESIGN CHOICE, log entry 20); one written during LOAD waits. -/
def State.writeNor (v : Word) (s : State) : State :=
  let addr := BitVec.ofNat 24 (rget s.regs Reg.FP_SPI_ADDR).toNat
  if s.fst.spi.cmd.isSome then s
  else if s.loading then { s with fst := { s.fst with spi := { s.fst.spi with cmd := some (v, addr), loadWait := true } } }
  else s.norStart v addr

/-- SPI_NOR_COMMAND (18 R644). -/
def execSpiNorCommand (t : Nat) (v : Word) (s : State) : Host.Outcome State Fault Refusal :=
  onForester t s (State.writeNor v)

/-- A command that waited for the end of LOAD starts (18 R646). -/
def State.norRelease (s : State) : State :=
  match s.fst.spi.cmd with
  | some (v, a) => if s.fst.spi.loadWait then s.norStart v a else s
  | none => s

/-- The command on the bus ends; a read fills the buffer. -/
def State.norDone (data : List Byte) (s : State) : State :=
  match s.fst.spi.cmd with
  | some (v, a) =>
    if s.fst.spi.loadWait then s
    else { s with
      regs := if bit v 15 then s.regs else norFill s.regs (data.take (min 256 (fld v 16 9)))
      fst := { s.fst.raiseIrq 4 with spi := { s.fst.spi with
        cmd := none, done := true, last := some (v, a), journal := s.fst.spi.journal && !journalLast v a } } }.report
        [Note.hit Reg.FP_IRQ 0x10, Note.hit Reg.FP_SPI_STAT 2]
  | none => s

/-- After an orderly window's end: the command on the bus has ended, or the flash is no longer busy (15 R546). -/
def State.norClosed (s : State) : State :=
  let x := s.fst.spi
  let poll := x.cmd.isSome && (norChanges x.cmd || norChanges x.last)
  { s with fst := { s.fst with spi := { x with
      cmd := none, polling := poll, last := if x.cmd.isSome then x.cmd else x.last } } }.report (noteIf poll [norPoll])

/-- The flash has stayed busy past WIPTMO (18 R646, R666). -/
def State.norTimeout (s : State) : State :=
  match s.fst.spi.cmd with
  | some (v, a) =>
    if s.fst.spi.loadWait || !bit v 25 then s
    else { s with fst := { s.fst.raiseIrq 4 with spi := { s.fst.spi with
        cmd := none, done := true, err := true, last := some (v, a)
        journal := s.fst.spi.journal && !inJournal (norRange v a) } } }.report
      ([Note.raise Src.FO_FLASH, Note.hit Reg.FP_IRQ 0x10, Note.hit Reg.FP_SPI_STAT 6] ++ noteIf (inJournal (norRange v a)) [.raise Src.FO_JRNL])
  | none => s

/-- The command on the bus ends by itself in this sample (12 R438). -/
def State.norEnding (s : State) : Bool :=
  s.awaits (fun c => match c with
    | .spiNorCommandDone _ _ => true
    | _ => false)

/-- The last poll after an orderly window's end: 5 ms have passed (15 R546). -/
def State.norGiveUp (s : State) : State := { s with fst := { s.fst with spi := { s.fst.spi with polling := false } } }

/-! ### Sensor slots (18 R656–R658) -/

/-- The eight slots. -/
def senSlots : List (Fin 8) := List.finRange 8

/-- BUS of a slot. -/
def slotBus (f : RegFile) (n : Fin 8) : Fin 2 := if bit (rget f (Reg.FP_SEN_CFG n)) 1 then 1 else 0

/-- A slot's transfer is waiting or under way. -/
def State.slotBusy (s : State) (n : Fin 8) : Bool := (s.fst.slots[n]).waiting || s.fst.bus.toList.contains (some n)

/-- The lowest waiting slot of a bus starts once the bus is free (18 R657). -/
def State.busNext (b : Fin 2) (s : State) : State :=
  if (s.fst.bus[b]).isSome then s
  else match senSlots.find? (fun n => (s.fst.slots[n]).waiting && slotBus s.regs n == b) with
    | some n =>
      { s with fst := { s.fst with
          slots := s.fst.slots.set n { s.fst.slots[n] with waiting := false }
          bus := s.fst.bus.set b (some n) } }.report [.send (.i2c b n)]
    | none => s

/-- A slot falls due (18 R657). -/
def State.slotDue (n : Fin 8) (s : State) : State :=
  if bit (rget s.regs (Reg.FP_SEN_CFG n)) 0 && !s.slotBusy n then
    { s with fst := { s.fst with slots := s.fst.slots.set n { s.fst.slots[n] with waiting := true } } }.busNext
      (slotBus s.regs n)
  else s

/-- SENSOR_SLOT_DUE (18 R656). -/
def execSensorSlotDue (t : Nat) (n : Fin 8) (s : State) : Host.Outcome State Fault Refusal := onForester t s (State.slotDue n)

/-- Slots that poll at the frame boundary of surface u at which CR_WSUM is captured fall due (18 R656). -/
def State.slotsAtFrame (u : Fin 2) (s : State) : State :=
  if s.fst.st = .reset then s
  else senSlots.foldl (fun (s : State) (n : Fin 8) =>
    let c := rget s.regs (Reg.FP_SEN_CFG n)
    if bit c 2 && !bit c 4 && bit c 3 == decide (u.val = 1) then s.slotDue n else s) s

/-- EN cleared after a one-shot transfer (18 R656). -/
def senEnd (f : RegFile) (n : Fin 8) : RegFile :=
  let c := rget f (Reg.FP_SEN_CFG n)
  if bit c 4 then rset (Reg.FP_SEN_CFG n) (clearBit c 0) f else f

/-- A slot after a good transfer (18 R658). -/
def SenSlot.good (x : SenSlot) (data : List Byte) (now : Nat) : SenSlot :=
  { x with value := BitVec.ofNat 32 (ofBytesLE (data.take 4)), count := x.count + 1, goodAt := some now }

/-- The transfer on a bus ends, good with its data or not (18 R658). -/
def State.senDone (b : Fin 2) (good : Option (List Byte)) (s : State) : State :=
  match s.fst.bus[b] with
  | none => s
  | some n =>
    let x := s.fst.slots[n]
    let x := match good with
      | some d => x.good (d.take (fld (rget s.regs (Reg.FP_SEN_CFG n)) 24 3)) s.now
      | none => { x with err := true }
    ({ s with
      regs := senEnd s.regs n
      fst := { s.fst.raiseIrq 3 with slots := s.fst.slots.set n x, bus := s.fst.bus.set b none } }.report
        ([Note.hit Reg.FP_IRQ 8] ++ noteIf good.isNone [.raise Src.FO_I2C, Note.hit (Reg.FP_SEN_STAT n) 0x10000])).busNext b

/-- SENSOR_TRANSFER_DONE (18 R658). -/
def execSensorTransferDone (t : Nat) (bus : Fin 2) (ack : Bool) (data : List Byte) (s : State) :
    Host.Outcome State Fault Refusal :=
  onForester t s (State.senDone bus (if ack then some data else none))

/-- The transfer on the bus ends by itself in this sample (12 R438). -/
def State.senEnding (s : State) (b : Fin 2) : Bool :=
  s.awaits (fun c => match c with
    | .sensorTransferDone _ n _ _ => n == b
    | _ => false)

/-- SENSOR_SCL_TIMEOUT (18 R658). -/
def execSensorSclTimeout (t : Nat) (bus : Fin 2) (s : State) : Host.Outcome State Fault Refusal :=
  onForester t s (fun s => s.when (!s.senEnding bus) (State.senDone bus none))

/-! ### UART (18 R645, R665) -/

/-- A byte received: a full FIFO loses it. -/
def Forester.receive (x : Forester) (b : Byte) : Forester :=
  if x.uartRx.length < 16 then { x.raiseIrq 5 with uartRx := x.uartRx ++ [b] } else { x with rxOvf := true }

/-- UART_BYTE_RECEIVED (18 R665). -/
def execUartByteReceived (t : Nat) (byte : Byte) (s : State) : Host.Outcome State Fault Refusal :=
  onForester t s (fun s => { s with fst := s.fst.receive byte }.report
    [if s.fst.uartRx.length < 16 then Note.hit Reg.FP_IRQ 0x20 else Note.hit Reg.FP_UART_STAT 0x10000])

/-! ### Event log (18 R652–R655) -/

/-- FP_LOGW_CODE written (18 R652). -/
def State.writeLogCode (v : Word) (s : State) : State :=
  s.logBy true (fld v 0 15 + 0x8000) (fld v 16 8)
    ((rget s.regs (Reg.FP_LOGW 0)).toNat + (rget s.regs (Reg.FP_LOGW 1)).toNat * 2 ^ 32)

/-- LOG_APPEND_FIRMWARE (18 R652). -/
def execLogAppendFirmware (t : Nat) (v : Word) (s : State) : Host.Outcome State Fault Refusal :=
  onForester t s (State.writeLogCode v)

/-- EXP_EN. -/
def State.exporting (s : State) : Bool := bit (rget s.regs Reg.FP_LOG_CFG) 0

/-- RD moved by firmware (18 R654, 19 R686). -/
def Log.moveRd (g : Log) (x : Sec) (rd : BitVec 10) : Log := if rd = g.rd then g else { g with rd := rd, full := false }.seal x

/-- FP_LOG_RD written (18 R654, R655). -/
def State.writeLogRd (v : Word) (s : State) : State :=
  if s.exporting then s else { s with log := s.log.moveRd s.sec (BitVec.ofNat 10 v.toNat) }

/-- FP_LOG_RD (18 R654). -/
def execFpLogRd (t : Nat) (v : Word) (s : State) : Host.Outcome State Fault Refusal := onForester t s (State.writeLogRd v)

/-- The record in the export aperture; 0 with nothing to export (18 R655). -/
def State.aperture (s : State) : List Byte :=
  if s.exporting && !s.log.empty then recBytes (s.log.recAt s.log.rd.toNat) else List.replicate 32 0

/-- RD advances by export. -/
def State.exportNext (s : State) : State :=
  if s.exporting && !s.log.empty then { s with log := s.log.advance s.sec } else s

/-- Bytes held by a channel for its burst. -/
def State.chanBuf (ch : Fin 8) (l : List Byte) (s : State) : State :=
  { s with dma := { s.dma with ch := s.dma.ch.set ch { s.dma.ch[ch] with buf := (s.dma.ch[ch]).buf ++ l } } }

/-- LOG_EXPORT_READ (18 R655): a channel reads the record at RD. -/
def execLogExportRead (t : Nat) (ch : Fin 8) (s : State) : Host.Outcome State Fault Refusal :=
  onCore t s (fun s =>
    ((s.chanBuf ch s.aperture).report [.send (.data (.dma ch) s.aperture)]).exportNext)

end Sys2Proof.Machine
end

