-- ==== Sys2Proof/Machine/Sampling.lean ====
section
/-! DEFINITION. The arithmetic of the layer composer: pixel formats, the mesh, layer placement, sampling filters and
blending (06 R235, R236; 07 R256–R275). -/

namespace Sys2Proof.Machine

open Sys2Proof

/-! ### Pixels (06 R235, R236) -/

/-- A decoded pixel (06 R236). -/
structure Px where
  /-- C0. -/
  c0 : Nat
  /-- C1. -/
  c1 : Nat
  /-- C2. -/
  c2 : Nat
  /-- A. -/
  a : Nat
  deriving DecidableEq, Repr

/-- The pixel of a line that does not exist: all components 0 (06 R244). -/
def Px.blank : Px := { c0 := 0, c1 := 0, c2 := 0, a := 0 }

/-- A pixel made component by component. -/
def Px.map (f : (Px → Nat) → Nat) : Px := { c0 := f Px.c0, c1 := f Px.c1, c2 := f Px.c2, a := f Px.a }

/-- A component of `w` bits widened to 16 by replication (06 R236). -/
def widen (v w : Nat) : Nat :=
  let n := divUp 16 w
  (List.range n).foldl (fun o _ => o * 2 ^ w + v) 0 / 2 ^ (n * w - 16)

/-- Position and width of L or R, G, B and A in a pixel of a format; width 0 where absent (06 R235). -/
def formatFields (fmt : Nat) : List (Nat × Nat) :=
  match fmt with
  | 0 => [(0, 16), (0, 0), (0, 0), (0, 0)]
  | 1 => [(0, 5), (5, 6), (11, 5), (0, 0)]
  | 2 => [(0, 8), (0, 0), (0, 0), (8, 8)]
  | 3 => [(0, 8), (8, 8), (16, 8), (0, 0)]
  | 4 => [(0, 12), (0, 0), (0, 0), (12, 12)]
  | 5 => [(0, 16), (0, 0), (0, 0), (16, 8)]
  | 6 => [(0, 8), (8, 8), (16, 8), (24, 8)]
  | 7 => [(0, 10), (10, 10), (20, 10), (30, 2)]
  | _ => [(0, 16), (0, 0), (0, 0), (16, 16)]

/-- One component of a pixel's bits; `d` where the format does not have it. -/
def component (p d : Nat) (x : Nat × Nat) : Nat := if x.2 = 0 then d else widen (p / 2 ^ x.1 % 2 ^ x.2) x.2

/-- A pixel's bits decoded (06 R236). -/
def decodePx (fmt p : Nat) : Px :=
  let l := formatFields fmt
  let f := fun (i : Nat) => l.getD i (0, 0)
  let c0 := component p 0 (f 0)
  { c0 := c0, c1 := component p c0 (f 1), c2 := component p c0 (f 2), a := component p 0xFFFF (f 3) }

/-- Bits per pixel of a format; 0 for none (06 R235). -/
def bitsPerPixel (fmt : Nat) : Nat := ([16, 16, 16, 24, 24, 24, 32, 32, 32] : List Nat).getD fmt 0

/-- Pixel i of a line's bytes (06 R235, 07 R260). -/
def linePx (fmt : Nat) (l : List Byte) (i : Nat) : Px :=
  decodePx fmt (leAt l (i * (bitsPerPixel fmt / 8)) (bitsPerPixel fmt / 8))

/-! ### Layer settings (07 R289) -/

/-- The settings of a layer slot. -/
structure LayerSet where
  /-- EN. -/
  en : Bool
  /-- SRC. -/
  src : Nat
  /-- OP. -/
  op : Nat
  /-- PREMUL. -/
  premul : Bool
  /-- MESH_EN. -/
  meshEn : Bool
  /-- CSEL. -/
  csel : Nat
  /-- FILT_H. -/
  filtH : Nat
  /-- FILT_V. -/
  filtV : Nat
  /-- FMT. -/
  fmt : Nat
  /-- STREAM. -/
  stream : Fin 4
  /-- LA. -/
  la : Nat
  /-- BASE. -/
  base : Nat
  /-- STRIDE. -/
  stride : Nat
  /-- TAG. -/
  tag : Word
  /-- SX0. -/
  sx0 : Nat
  /-- SY0. -/
  sy0 : Nat
  /-- SW. -/
  sw : Nat
  /-- SH. -/
  sh : Nat
  /-- DX0. -/
  dx0 : Int
  /-- DY0. -/
  dy0 : Int
  /-- DW. -/
  dw : Nat
  /-- DH. -/
  dh : Nat
  /-- HSTEP. -/
  hstep : Nat
  /-- VSTEP. -/
  vstep : Nat
  /-- AHEAD. -/
  ahead : Nat
  /-- LWM. -/
  lwm : Nat
  deriving DecidableEq, Repr

/-- The settings of layer slot n in a reading of register words. -/
def layerOf (f : Nat → Word) (n : Nat) : LayerSet :=
  let c := f (Reg.LY_CFG n)
  { en := bit c 0, src := fld c 1 2, op := fld c 3 2, premul := bit c 5, meshEn := bit c 6, csel := fld c 8 2
    filtH := fld c 10 2, filtV := fld c 12 2, fmt := fld c 16 4, stream := Fin.ofNat 4 (fld c 20 2)
    la := fld (f (Reg.LY_ALPHA n)) 0 16
    base := (f (Reg.LY_ADDR_LO n)).toNat / 64 * 64 + (f (Reg.LY_ADDR_HI n)).toNat * 2 ^ 32
    stride := fld (f (Reg.LY_STRIDE n)) 0 16, tag := f (Reg.LY_TAG n)
    sx0 := fld (f (Reg.LY_SRC n)) 0 13, sy0 := fld (f (Reg.LY_SRC n)) 16 13
    sw := fld (f (Reg.LY_SSIZE n)) 0 13, sh := fld (f (Reg.LY_SSIZE n)) 16 13
    dx0 := signed 14 (fld (f (Reg.LY_DST n)) 0 14), dy0 := signed 14 (fld (f (Reg.LY_DST n)) 16 14)
    dw := fld (f (Reg.LY_DSIZE n)) 0 13, dh := fld (f (Reg.LY_DSIZE n)) 16 13
    hstep := fld (f (Reg.LY_HSTEP n)) 0 20, vstep := fld (f (Reg.LY_VSTEP n)) 0 20
    ahead := fld (f (Reg.LY_FETCH n)) 0 5, lwm := fld (f (Reg.LY_FETCH n)) 8 5 }

/-- Last source line of the source rectangle. -/
def LayerSet.lastLine (c : LayerSet) : Nat := c.sy0 + c.sh - 1

/-- WD, with the mesh in effect or not (07 R275). -/
def LayerSet.wd (mesh : Bool) : Nat := if mesh then 20 else 4

/-- Bytes of a source line up to the right edge of the source rectangle (07 R286). -/
def LayerSet.lineLen (c : LayerSet) : Nat := divUp ((c.sx0 + c.sw) * bitsPerPixel c.fmt) 8

/-- Address of source line r (07 R260). -/
def LayerSet.lineAt (c : LayerSet) (r : Nat) : Nat := c.base + 64 + r * c.stride

/-! ### The mesh (07 R267, R268) -/

/-- Node (i, j) of a mesh read by its 32-bit words. -/
def meshNode (word : Nat → Nat) (i j : Nat) : Int × Int :=
  let w := word (64 + 4 * (65 * j + i))
  (signed 16 (w % 65536), signed 16 (w / 65536))

/-- lerp of 07 R268. -/
def meshLerp (a b : Nat) (n00 n10 n01 n11 : Int) : Int :=
  ((n00 * (256 - a : Nat) + n10 * a) * (256 - b : Nat) + (n01 * (256 - a : Nat) + n11 * a) * b + 32768) / 65536

/-- The displacement of surface pixel (x, y) of a w × h surface (07 R268). -/
def meshAt (word : Nat → Nat) (w h x y : Nat) : Int × Int :=
  let gx := x * 64 * 65536 / w
  let gy := y * 64 * 65536 / h
  let i := gx / 65536
  let j := gy / 65536
  let n := fun (di dj : Nat) => meshNode word (i + di) (j + dj)
  let f := fun (p : Int × Int → Int) =>
    meshLerp (gx / 256 % 256) (gy / 256 % 256) (p (n 0 0)) (p (n 1 0)) (p (n 0 1)) (p (n 1 1))
  (f Prod.fst, f Prod.snd)

/-- Mesh row j of an output line (07 R268). -/
def meshRow (h y : Nat) : Nat := y * 64 / h

/-! ### Placement (07 R264, R265, R275) -/

/-- The layer covers a position in sixteenths (07 R264). -/
def LayerSet.covers (c : LayerSet) (p : Int × Int) : Bool :=
  decide (16 * c.dx0 ≤ p.1) && decide (p.1 < 16 * (c.dx0 + c.dw)) &&
  decide (16 * c.dy0 ≤ p.2) && decide (p.2 < 16 * (c.dy0 + c.dh))

/-- U (07 R265). -/
def LayerSet.uAt (c : LayerSet) (x16 : Int) : Int := (2 * (x16 - 16 * c.dx0) + 16) * c.hstep / 32 - 32768 + 65536 * c.sx0

/-- V (07 R265). -/
def LayerSet.vAt (c : LayerSet) (y16 : Int) : Int := (2 * (y16 - 16 * c.dy0) + 16) * c.vstep / 32 - 32768 + 65536 * c.sy0

/-- x_c: the centre column of the destination, clamped to a surface w pixels wide (07 R275). -/
def LayerSet.centre (c : LayerSet) (w : Nat) : Nat := (clampInt 0 ((w : Int) - 1) (c.dx0 + (c.dw / 2 : Nat))).toNat

/-- Top line of the window of an output line, from the one before and v0 at the centre column (07 R275). -/
def LayerSet.topAt (c : LayerSet) (mesh : Bool) (before : Nat) (v : Int) : Nat :=
  let wd := LayerSet.wd mesh
  if c.sh < wd then c.sy0
  else clampNat c.sy0 (c.sy0 + c.sh - wd) (max (before : Int) (v / 65536 - 1 - ((wd - 4) / 2 : Nat))).toNat

/-! ### Filters (07 R266, R271) -/

/-- Taps of a filter at a position; `back` taps of a table lie before the position (07 R271). -/
def filterTaps (filt : Nat) (pos : Int) (back n : Nat) : List Int :=
  match filt with
  | 0 => [(pos + 32768) / 65536]
  | 1 => [pos / 65536, pos / 65536 + 1]
  | _ => (List.range n).map (fun (i : Nat) => pos / 65536 - back + i)

/-- Taps clamped between two lines or columns (07 R266). -/
def clampTaps (lo hi : Nat) (l : List Int) : List Nat := l.map (fun (t : Int) => (clampInt lo hi t).toNat)

/-- Fraction f of a position. -/
def fraction (pos : Int) : Nat := (pos / 256 % 256).toNat

/-- Phase p of a position. -/
def phaseOf (pos : Int) : Nat := (pos / 2048 % 32).toNat

/-- The result of a filter from one component's samples and the coefficients of the phase (07 R271). -/
def filterValue (filt : Nat) (pos : Int) (coef : Nat → Int) (l : List Nat) : Nat :=
  match filt with
  | 0 => l.getD 0 0
  | 1 => (l.getD 0 0 * (256 - fraction pos) + l.getD 1 0 * fraction pos + 128) / 256
  | _ => (clampInt 0 65535 ((((List.range l.length).map (fun i => coef i * (l.getD i 0 : Nat))).sum + 256) / 512)).toNat

/-- A filter applied to each component. -/
def filterPx (filt : Nat) (pos : Int) (coef : Nat → Int) (l : List Px) : Px :=
  Px.map (fun g => filterValue filt pos coef (l.map g))

/-- Coefficient e of a table whose words a function reads (07 R272, R290). -/
def coefficient (word : Nat → Word) (e : Nat) : Int := signed 12 (fld (word (e / 2)) (16 * (e % 2)) 12)

/-- Entry t of phase p of a surface's horizontal table i. -/
def horizontalCoef (f : Nat → Word) (u i p t : Nat) : Int :=
  coefficient (fun w => f (if i = 0 then Reg.CP_HT0 u w else Reg.CP_HT1 u w)) (8 * p + t)

/-- Entry t of phase p of a surface's vertical table i. -/
def verticalCoef (f : Nat → Word) (u i p t : Nat) : Int :=
  coefficient (fun w => f (if i = 0 then Reg.CP_VT0 u w else Reg.CP_VT1 u w)) (4 * p + t)

/-- The sample of a layer at (U, V): the vertical stage over the given rows at each column, then the horizontal stage
(07 R271). -/
def LayerSet.sample (c : LayerSet) (f : Nat → Word) (u : Nat) (px : Nat → Nat → Px) (rows : List Nat) (pos : Int × Int) :
    Px :=
  let cols := clampTaps c.sx0 (c.sx0 + c.sw - 1) (filterTaps c.filtH pos.1 3 8)
  filterPx c.filtH pos.1 (fun t => horizontalCoef f u (c.filtH - 2) (phaseOf pos.1) t) (cols.map (fun x =>
    filterPx c.filtV pos.2 (fun t => verticalCoef f u (c.filtV - 2) (phaseOf pos.2) t) (rows.map (fun r => px r x))))

/-! ### Blending (07 R257, R273) -/

/-- a × b / 65535, rounded to the nearest (07 R273). -/
def mul16 (a b : Nat) : Nat :=
  let t := a * b + 32768
  (t + t / 65536) / 65536

/-- A layer's components on its surface: three, or the one that CSEL names (07 R257). -/
def LayerSet.comps (c : LayerSet) (surfMode : Bool) (p : Px) : List Nat :=
  if surfMode then [p.c0, p.c1, p.c2]
  else [match c.csel with
    | 0 => p.c0
    | 1 => p.c1
    | 2 => p.c2
    | _ => (19595 * p.c0 + 38470 * p.c1 + 7471 * p.c2 + 32768) / 65536]

/-- One component blended over what lies beneath it (07 R273). -/
def LayerSet.blend (c : LayerSet) (ae d x : Nat) : Nat :=
  let cp := if c.premul then mul16 x c.la else mul16 x ae
  match c.op with
  | 0 => min 65535 (cp + mul16 d (65535 - ae))
  | 1 => min 65535 (d + cp)
  | _ => mul16 d (min 65535 (cp + 65535 - ae))

/-- A sample blended over the values beneath it. -/
def LayerSet.apply (c : LayerSet) (surfMode : Bool) (p : Px) (d : List Nat) : List Nat :=
  List.zipWith (c.blend (mul16 p.a c.la)) d (c.comps surfMode p)

end Sys2Proof.Machine
end

