-- ==== Sys2Proof/Machine/Intake.lean ====
section
/-! DEFINITION. The intake: Ply packets, frames bound to composition periods, the elastic line buffer, missing lines, side
packets and their apertures (chapter 06). -/

namespace Sys2Proof.Machine

open Sys2Proof

/-! ### Settings (06 R254) -/

/-- The settings of an intake stream. -/
structure InSet where
  /-- EN. -/
  en : Bool
  /-- Lanes, from LANES. -/
  n : Nat
  /-- SURF. -/
  surf : Fin 2
  /-- FMT. -/
  fmt : Nat
  /-- MISS_LIM. -/
  missLim : Nat
  /-- LFIX_MAX. -/
  lfixMax : Nat
  /-- WIDTH. -/
  width : Nat
  /-- HEIGHT. -/
  height : Nat
  /-- ADV, in 1/64 ticks. -/
  adv : Nat
  /-- ELB_LINES. -/
  elb : Nat
  /-- SPEN. -/
  spen : BitVec 16
  /-- SPMAP. -/
  spmap : Word
  deriving DecidableEq, Repr

/-- The settings of stream p in a reading of register words. -/
def inSetOf (f : Nat → Word) (p : Nat) : InSet :=
  let c := f (Reg.IN_SCFG p)
  let z := f (Reg.IN_SIZE p)
  let m := f (Reg.IN_TIM p)
  { en := bit c 0, n := 2 ^ fld c 1 2, surf := Fin.ofNat 2 (fld c 7 1), fmt := fld c 8 4, missLim := fld c 16 8
    lfixMax := fld c 24 8, width := fld z 0 13, height := fld z 16 13, adv := fld m 0 11 * usec, elb := fld m 16 8
    spen := (f (Reg.IN_SPEN p)).setWidth 16, spmap := f (Reg.IN_SPMAP p) }

/-- The four intake lanes, and the four streams. -/
def intakes : List (Fin 4) := List.finRange 4

/-- The settings of a stream: those of the composition period of the surface that it serves, from that surface's boundary on; a
stream that serves none is not enabled (06 R239, R248; 08 R317). -/
def State.inSet (s : State) (st : Fin 4) : InSet :=
  match surfaces.find? (fun u => (inSetOf (s.composed u) st.val).en && (inSetOf (s.composed u) st.val).surf == u) with
  | some u => inSetOf (s.composed u) st.val
  | none => { inSetOf s.active st.val with en := false }

/-- Lane l belongs to the stream based at lane `st` (06 R226). -/
def InSet.has (c : InSet) (st l : Nat) : Bool := decide (st ≤ l) && decide (l < st + c.n)

/-- Data blocks of a line (06 R233). -/
def lineBlocks (fmt width : Nat) : Nat := divUp (width * bitsPerPixel fmt) 64

/-! ### Lanes (06 R229, R230) -/

/-- LOCKED (06 R229, R253). -/
def IntakeLane.locked (x : IntakeLane) (l : Nat) : Bool := x.block && x.marker && x.deskew && decide (x.amlane.toNat = l)

/-- A stream receives: enabled, all of its lanes locked and none with an idle time above 10 ms, and no thermal stop
(05 R200, 06 R229, 15 R545). -/
def State.receives (s : State) (st : Fin 4) : Bool :=
  let c := s.inSet st
  c.en && !s.thm.stopped && intakes.all (fun l =>
    !c.has st.val l.val || ((s.intake.lanes[l]).locked l.val && !(s.intake.lanes[l]).stale))

/-- One lane replaced. -/
def State.setIntake (l : Fin 4) (x : IntakeLane) (s : State) : State :=
  { s with intake := { s.intake with lanes := s.intake.lanes.set l x } }

/-- One stream replaced. -/
def State.setStream (st : Fin 4) (x : Stream) (s : State) : State :=
  { s with intake := { s.intake with streams := s.intake.streams.set st x } }

/-- The enabled stream that covers a lane. -/
def State.laneStream (s : State) (l : Fin 4) : Option (Fin 4) :=
  intakes.find? (fun st => (s.inSet st).en && (s.inSet st).has st.val l.val)

/-- An AM with a valid CRC-16 (05 R192). -/
def RxMarker.ok (x : RxMarker) : Bool := fld x.blk 0 8 == 0x01 && Block.crcOk x.blk

/-- The last two AMs are valid and 16,384 blocks apart (05 R196). -/
def amsLock (l : List RxMarker) : Bool :=
  match l.reverse with
  | y :: x :: _ => RxMarker.ok y && RxMarker.ok x && y.gap == 16384
  | _ => false

/-- LANE of the last valid AM, or what it was. -/
def amsLane (l : List RxMarker) (old : BitVec 3) : BitVec 3 :=
  ((l.filter RxMarker.ok).getLast?.map (fun x => BitVec.ofNat 3 (fld x.blk 8 3))).getD old

/-- BIP mismatches of an intake lane (05 R195, 06 R253). -/
def bipNotes (l : Fin 4) (ams : List RxMarker) : List Note :=
  let n := (ams.filter (fun x => RxMarker.ok x && fld x.blk 16 8 != x.parity.toNat)).length
  noteIf (n != 0) [.tally (Reg.IN_BIPERR l) n]

/-- BURST of a TRAIN block (05 R192, 06 R253); 0 without one. -/
def burstOf (b : Option Block) : BitVec 2 :=
  match b with
  | some x => if fld x 0 8 = 0x04 ∧ Block.crcOk x = true then BitVec.ofNat 2 (fld x 13 2 + 1) else 0
  | none => 0

/-- What is left of a burst, in 1/64 ticks at a rate (05 R185, R192). -/
def burstLeft (b : Option Block) (rate : Nat) : Nat :=
  if burstOf b = 0 then 0 else divUp ((b.map (fun x => fld x 16 18)).getD 0 * blockTime rate) 1000

/-- RATE of an intake lane: of the stream that covers it. -/
def State.intakeRate (s : State) (l : Fin 4) : Nat := fld (s.active (Reg.IN_SCFG ((s.laneStream l).getD l).val)) 4 3

/-- A lane gains lock. A FAST burst keeps marker lock and deskew as they were held; a FULL or VALIDATE burst ends the lane's stale state
(05 R190, R196, R197, R200, R203; 06 R229). -/
def IntakeLane.gain (x : IntakeLane) (w : LockGain) (now rate : Nat) : IntakeLane :=
  let burst := burstOf w.train
  { block := x.block || hdrsLock w.hdrs, marker := x.marker || amsLock w.ams || burst == 3
    deskew := x.deskew || w.aligned || burst == 3, burst := burst, burstTo := now + burstLeft w.train rate, eidle := false
    stale := x.stale && !(burst == 1 || burst == 2), amlane := amsLane w.ams x.amlane }

/-- INTAKE_LANE_LOCK_GAIN (06 R229). -/
def execIntakeLaneLockGain (t : Nat) (l : Fin 4) (w : LockGain) (s : State) : Host.Outcome State Fault Refusal :=
  onCore t s (fun s => (s.setIntake l ((s.intake.lanes[l]).gain w s.now (s.intakeRate l))).report (bipNotes l w.ams))

/-- INTAKE_IDLE_TIME_EXPIRY (05 R200). -/
def execIntakeIdleTimeExpiry (t : Nat) (l : Fin 4) (s : State) : Host.Outcome State Fault Refusal :=
  onCore t s (fun s => s.setIntake l { s.intake.lanes[l] with stale := true })

/-! ### Frames (06 R237–R247) -/

/-- The frame bound to the running period, or to the next one. -/
def Stream.frame (x : Stream) (nx : Bool) : Option InFrame := if nx then x.next else x.cur

/-- A frame put in its place. -/
def Stream.put (x : Stream) (nx : Bool) (f : InFrame) : Stream :=
  if nx then { x with next := some f } else { x with cur := some f }

/-- A frame that has neither closed nor failed. -/
def InFrame.isOpen (f : InFrame) : Bool := !f.closed && !f.failed

/-- Lines of a frame in the elastic buffer: those checked, and those that wait for their check (06 R239, R242). -/
def InFrame.bufferLines (f : InFrame) : Nat :=
  f.held.length + (f.early.filter (fun x => match x with | .line _ _ => true | _ => false)).length

/-- Lines in the elastic buffer of a stream (06 R242): those of frames that have not closed. -/
def Stream.occupied (x : Stream) : Nat :=
  ((x.cur.toList ++ x.next.toList).map (fun f => if f.isOpen then f.bufferLines else 0)).sum

/-- The composer stops composing a surface for the period, whose frame is incomplete (06 R245). -/
def State.stopComposing (u : Fin 2) (s : State) : State :=
  { s with
    comp := s.comp.set u { s.comp[u] with composing := false, waitIntake := false, doneAt := none }
    surf := s.surf.set u { s.surf[u] with complete := false } }

/-- A frame of a stream fails (06 R245). -/
def State.failFrame (st : Fin 4) (nx : Bool) (s : State) : State :=
  let x := s.intake.streams[st]
  match x.frame nx with
  | none => s
  | some f =>
    if !f.isOpen then s
    else
      let y := { x.put nx { f with failed := true, held := [], left := [], early := [] } with lastFn := f.fn, lastOk := false }
      ((s.setStream st y).when (!nx) (State.stopComposing (s.inSet st).surf)).report
        [.tally (Reg.IN_FAILFR st) 1, .raise (Src.IN_FAIL st)]

/-- The open frames of a stream fail. -/
def State.failOpen (st : Fin 4) (s : State) : State := (s.failFrame st false).failFrame st true

/-- A lane after a loss (05 R190, R196, R197). -/
def IntakeLane.lose (x : IntakeLane) (w : LockLoss) : IntakeLane :=
  { x with
    block := x.block && !lockLost w.hdrs w.dark, marker := x.marker && decide (w.missed < 4), deskew := x.deskew && !w.skewed
    burst := 0, eidle := w.idle, amlane := amsLane w.ams x.amlane }

/-- INTAKE_LANE_LOCK_LOSS (06 R230): nothing is lost on a lane that keeps block lock, marker lock and deskew. -/
def execIntakeLaneLockLoss (t : Nat) (l : Fin 4) (w : LockLoss) (s : State) : Host.Outcome State Fault Refusal :=
  onCore t s (fun s =>
    let x := s.intake.lanes[l]
    let y := x.lose w
    let s := (s.setIntake l y).report (bipNotes l w.ams)
    if !x.locked l.val || y.locked l.val then s
    else
      let s := s.report [.tally (Reg.IN_LOCKLOSS l) 1]
      match s.laneStream l with
      | some st => (s.report [.raise (Src.IN_LOCK l)]).failOpen st
      | none => s)

/-- Lines become missing (06 R244). -/
def missNotes (st : Fin 4) (ys : List Nat) : List Note :=
  ys.flatMap (fun _ => [.tally (Reg.IN_LINEFIX st) 1, .raise (Src.IN_LINEFIX st)])

/-- Lines of a frame from `lo` to below `hi` that are neither delivered nor missing. -/
def InFrame.gap (f : InFrame) (hi : Nat) : List Nat :=
  ((List.range (hi - f.upto)).map (· + f.upto)).filter (fun y => !f.missing.contains y)

/-- A frame with lines missing. -/
def InFrame.lose (f : InFrame) (ys : List Nat) : InFrame := { f with missing := ys.foldl (fun m y => insertNat y m) f.missing }

/-- The frame of the running period put in place with newly missing lines; it fails above LFIX_MAX (06 R245), and closes once its FE
has come (06 R246). -/
def State.settleFrame (st : Fin 4) (f : InFrame) (ys : List Nat) (s : State) : State :=
  let x := s.intake.streams[st]
  let f := f.lose ys
  let s := (s.setStream st (x.put false f)).report (missNotes st ys)
  if (s.inSet st).lfixMax < f.missing.length then s.failFrame st false
  else if f.ended && f.isOpen then
    (s.setStream st { (x.put false { f with closed := true }) with
      lastFn := f.fn, lastOk := true, missRun := 0, lost := false }).report [.tally (Reg.IN_FRAMES st) 1]
  else s

/-- Where a mark or packet with an FN goes. -/
inductive FnPlace where
  /-- The open frame of the running period, or of the next. -/
  | frame (nx : Bool)
  /-- A frame being discarded (06 R238). -/
  | dropped
  /-- A frame that has closed or failed (06 R246). -/
  | late
  /-- No frame. -/
  | unknown
  deriving DecidableEq, Repr

/-- A frame of a stream has the FN. -/
def frameHas (f : Option InFrame) (fn : BitVec 8) : Bool := f.any (fun f => f.fn == fn)

/-- The place of an FN in a stream. -/
def Stream.place (x : Stream) (fn : BitVec 8) : FnPlace :=
  if x.cur.any (fun f => f.fn == fn && f.isOpen) then .frame false
  else if x.next.any (fun f => f.fn == fn && f.isOpen) then .frame true
  else if x.drop == some fn then .dropped
  else if frameHas x.cur fn || frameHas x.next fn || x.gone == some fn then .late
  else .unknown

/-- One failed packet, discarded packet or run of blocks (06 R233, R243). -/
def packetError (st : Fin 4) : Note := .tally (Reg.IN_PKTERR st) 1

/-! ### FRAME_START (06 R237, R238) -/

/-- A frame accepted for a period; one of the running period is checked at once (06 R239). -/
def State.openFrame (st : Fin 4) (nx : Bool) (fn : BitVec 8) (lines : Nat) (s : State) : State :=
  let x := s.intake.streams[st]
  let s := s.setStream st (x.put nx { fn := fn, lines := lines })
  s.when (!nx && lines != (s.inSet st).height) (State.failFrame st nx)

/-- An FS is timestamped and bound, or its frame discarded. -/
def State.frameStart (st : Fin 4) (fn : BitVec 8) (lines : Nat) (s : State) : State :=
  let c := s.inSet st
  let stamp := s.now / tick * tick
  let nb := (s.nextStart c.surf).1
  let nx := decide (nb ≤ stamp + c.adv)
  let b := if nx then nb else (s.surf[c.surf]).bk
  let s := s.report
    [.word (Reg.IN_PHASE st) (at32 0 (twos 24 (((stamp : Int) - b) / 256)))]
  let x := { s.intake.streams[st] with drop := none }
  let s := s.setStream st x
  if (x.frame nx).isSome then
    (s.setStream st { x with drop := some fn }).report [.tally (Reg.IN_DROPFR st) 1, .raise (Src.IN_DROP st)]
  else s.openFrame st nx fn lines

/-- FRAME_START (06 R237): an FS with an invalid CRC-16 is ignored (06 R233). -/
def execFrameStart (t : Nat) (st : Fin 4) (blk : Block) (s : State) : Host.Outcome State Fault Refusal :=
  onCore t s (fun s => s.when (s.receives st && fld blk 0 8 == 0x30 && Block.crcOk blk)
    (State.frameStart st (BitVec.ofNat 8 (fld blk 8 8)) (fld blk 16 13)))

/-! ### LINE_PACKET (06 R233, R240–R245) -/

/-- The fields of an LS. -/
def lineOf (h : Block) (data : List Block) : InLine :=
  { line := fld h 16 12, fmt := BitVec.ofNat 4 (fld h 28 4), width := fld h 32 13, data := data }

/-- A line of the running period's frame passes its checks, or fails one (06 R239, R243); `full` when it finds the elastic buffer
full (06 R242). -/
def State.takeLine (st : Fin 4) (f : InFrame) (y : InLine) (full : Bool) (s : State) : State :=
  let c := s.inSet st
  if y.fmt.toNat != c.fmt || y.width != c.width then s.failFrame st false
  else if f.lines ≤ y.line ∨ y.line < f.upto ∨ f.missing.any (fun m => decide (y.line ≤ m)) = true then
    s.report [packetError st]
  else if full then (s.report [.raise (Src.IN_OVF st)]).settleFrame st f [y.line]
  else s.settleFrame st { f with held := f.held ++ [y], upto := y.line + 1, lastLine := some y.line } (f.gap y.line)

/-- What comes of a frame before its period begins waits for its checks (06 R239). -/
def State.early (st : Fin 4) (x : EarlyItem) (s : State) : State :=
  let y := s.intake.streams[st]
  match y.next with
  | some f => if f.isOpen then s.setStream st { y with next := some { f with early := f.early ++ [x] } } else s
  | none => s

/-- A line of a frame whose period has not begun: held as received, or lost where the elastic buffer is full (06 R239, R242). -/
def State.earlyLine (st : Fin 4) (fn : BitVec 8) (y : InLine) (full : Bool) (s : State) : State :=
  if full then (s.report [.raise (Src.IN_OVF st)]).early st (.lost y.line) else s.early st (.line fn y)

/-- Line `y` of the running period's frame is missing, unless it is delivered or missing already (06 R243). -/
def State.loseLine (st : Fin 4) (y : Nat) (s : State) : State :=
  match (s.intake.streams[st]).cur with
  | some f => s.when (decide (y < f.lines) && decide (f.upto ≤ y) && !f.missing.contains y) (State.settleFrame st f [y])
  | none => s

/-- A line packet's own line is missing where the packet fails a check of 06 R233. -/
def State.lineFailed (st : Fin 4) (hdr : Block) (s : State) : State :=
  match (s.intake.streams[st]).place (BitVec.ofNat 8 (fld hdr 8 8)) with
  | .frame nx => if nx then s.early st (.lost (fld hdr 16 12)) else s.loseLine st (fld hdr 16 12)
  | _ => s

/-- A line comes in the sample of the boundary that has closed its frame (06 R246). -/
def State.atClose (s : State) (st : Fin 4) (fn : BitVec 8) : Bool :=
  (s.intake.streams[st]).gone == some fn && (s.surf[(s.inSet st).surf]).bk / tick == s.now / tick

/-- A whole line packet goes to its frame; before a period begins, one of no known FN waits for the check of its FN there (06 R239). -/
def State.placeLine (st : Fin 4) (hdr : Block) (data : List Block) (s : State) : State :=
  let x := s.intake.streams[st]
  let fn := BitVec.ofNat 8 (fld hdr 8 8)
  let y := lineOf hdr data
  let full := decide ((s.inSet st).elb ≤ x.occupied)
  match x.place fn with
  | .frame true => s.earlyLine st fn y full
  | .frame false => match x.cur with
    | some f => s.takeLine st f y full
    | none => s
  | .dropped => s
  | .late => s.report (noteIf (!s.atClose st fn) [.tally (Reg.IN_LATE st) 1])
  | .unknown => if x.next.any InFrame.isOpen then s.earlyLine st fn y full else s.report [packetError st]

/-- A line packet: header, data blocks and end, with its CRC-32 checked, or inverted by an armed checker (16 R582). A FMT of no format
gives no number of data blocks; such a line fails its frame as its FMT is checked (06 R239). -/
def State.linePacket (st : Fin 4) (hdr : Block) (data : List Block) (e : Block) (s : State) : State :=
  if fld hdr 0 8 ≠ 0x32 ∨ Block.crcOk hdr = false then s.report [packetError st]
  else if fld e 0 8 ≠ 0x33 ∨ (bitsPerPixel (fld hdr 28 4) ≠ 0 ∧ data.length ≠ lineBlocks (fld hdr 28 4) (fld hdr 32 13)) then
    (s.report [packetError st]).lineFailed st hdr
  else
    let good := (packetCrc (hdr :: data ++ [e]) == fld e 32 32) != (s.injMode 9 != 0)
    let s := s.useInj 9
    if good then s.placeLine st hdr data else s.report [packetError st]

/-! ### FRAME_END (06 R243, R246) -/

/-- An FE: every line of its frame that has not arrived becomes missing. -/
def State.frameEnd (st : Fin 4) (fn : BitVec 8) (s : State) : State :=
  let x := s.intake.streams[st]
  match x.place fn with
  | .frame true => s.early st .fe
  | .frame false => match x.cur with
    | some f => s.settleFrame st { f with ended := true, upto := f.lines } (f.gap f.lines)
    | none => s
  | .dropped => s.setStream st { x with drop := none }
  | _ => s

/-- FRAME_END (06 R243). -/
def execFrameEnd (t : Nat) (st : Fin 4) (blk : Block) (s : State) : Host.Outcome State Fault Refusal :=
  onCore t s (fun s => s.when (s.receives st && fld blk 0 8 == 0x31 && Block.crcOk blk)
    (State.frameEnd st (BitVec.ofNat 8 (fld blk 8 8))))

/-! ### PLY_BLOCK_ERROR (06 R231, R233) -/

/-- A control block ends the packet it stands in, and a block of an unknown TYPE counts by itself. -/
def State.plyError (st : Fin 4) (e : PlyError) (s : State) : State :=
  match e with
  | .strayType => s.report [packetError st]
  | .strayData => s.report [packetError st]
  | .inLine hdr unknown => (s.report (noteIf unknown [packetError st] ++ [packetError st])).lineFailed st hdr
  | .inSide unknown => s.report (noteIf unknown [packetError st] ++ [packetError st])

/-- PLY_BLOCK_ERROR (06 R233). -/
def execPlyBlockError (t : Nat) (st : Fin 4) (e : PlyError) (s : State) : Host.Outcome State Fault Refusal :=
  onCore t s (fun s => s.when (s.receives st) (State.plyError st e))

/-! ### Side packets (06 R249–R251) -/

/-- Slots of a stream that are occupied (06 R253). -/
def Intake.slots (x : Intake) (st : Fin 4) : Nat :=
  (intakes.map (fun q => ((x.drq[q]).filter (fun y => y.stream == st)).length)).sum

/-- LINE_AFTER at this instant (06 R251). -/
def Stream.lineAfter (x : Stream) : BitVec 13 :=
  match (x.cur.filter InFrame.isOpen).bind (fun f => f.lastLine) with
  | some y => BitVec.ofNat 13 y
  | none => 0x1FFF

/-- A side packet stored in a free slot of its stream (06 R249, R250). -/
def State.storeSide (st : Fin 4) (hdr : Block) (data : List Block) (s : State) : State :=
  let id := fld hdr 8 4
  let q : Fin 4 := Fin.ofNat 4 (fld (s.inSet st).spmap (2 * id) 2)
  let y : SideSlot := { stream := st, spid := BitVec.ofNat 4 id, len := BitVec.ofNat 5 (fld hdr 16 5)
                        fn := BitVec.ofNat 8 (fld hdr 24 8), lineAfter := (s.intake.streams[st]).lineAfter, data := data }
  { s with intake := { s.intake with drq := s.intake.drq.set q (s.intake.drq[q] ++ [y]) } }.report
    [.tally (Reg.IN_SPCNT st) 1]

/-- A side packet discarded (06 R249). -/
def sideDropped (st : Fin 4) : Note := .tally (Reg.IN_SPDROP st) 1

/-- A side packet of a frame whose period has ended is discarded (06 R246). -/
def Stream.sideLate (x : Stream) (fn : BitVec 8) : Bool :=
  x.gone == some fn && !frameHas x.cur fn && !frameHas x.next fn

/-- A side packet: header, data blocks and end. -/
def State.sidePacket (st : Fin 4) (hdr : Block) (data : List Block) (e : Block) (s : State) : State :=
  let x := s.intake.streams[st]
  if fld hdr 0 8 ≠ 0x34 ∨ Block.crcOk hdr = false then s.report [packetError st]
  else if fld e 0 8 ≠ 0x35 ∨ data.length ≠ fld hdr 16 5 + 1 then s.report [packetError st]
  else if packetCrc (hdr :: data ++ [e]) ≠ fld e 32 32 then s.report [packetError st, sideDropped st]
  else if x.sideLate (BitVec.ofNat 8 (fld hdr 24 8)) then s
  else if !bit (s.inSet st).spen (fld hdr 8 4) then s.report [sideDropped st]
  else if 8 ≤ s.intake.slots st then
    (s.setStream st { x with spovf := true }).report [sideDropped st, .raise (Src.IN_SPOVF st), Note.hit (Reg.IN_SPSTAT st) 0x100]
  else s.storeSide st hdr data

/-- The first 64-bit word of an aperture (06 R251). -/
def SideSlot.word (y : SideSlot) : Nat :=
  y.spid.toNat + y.stream.val * 2 ^ 4 + y.len.toNat * 2 ^ 7 + y.fn.toNat * 2 ^ 12 + y.lineAfter.toNat * 2 ^ 20

/-- The 512 bytes of an aperture (06 R251). -/
def SideSlot.bytes (y : SideSlot) : List Byte :=
  let l := toBytesLE 8 y.word ++ y.data.flatMap (fun b => toBytesLE 8 b.toNat)
  l ++ List.replicate (512 - l.length) 0

/-- The content of request line q's aperture; 0 with an empty queue. -/
def Intake.aperture (x : Intake) (q : Fin 4) : List Byte :=
  match x.drq[q] with
  | y :: _ => y.bytes
  | [] => List.replicate 512 0

/-- The slot at the head of a queue freed; nothing with an empty queue. -/
def State.freeSide (q : Fin 4) (s : State) : State :=
  { s with intake := { s.intake with drq := s.intake.drq.set q (s.intake.drq[q]).tail } }

/-- A channel takes the whole aperture of request line q. -/
def State.takeAperture (ch : Fin 8) (q : Fin 4) (s : State) : State :=
  ((s.chanBuf ch (s.intake.aperture q)).report [.send (.data (.dma ch) (s.intake.aperture q))]).freeSide q

/-- SIDE_PACKET_APERTURE_READ (06 R251): a channel reads the whole aperture. -/
def execSidePacketApertureRead (t : Nat) (ch : Fin 8) (q : Fin 4) (s : State) : Host.Outcome State Fault Refusal :=
  onCore t s (State.once (.sidePacketApertureRead t ch q) (State.takeAperture ch q))

/-- The slots of a stream that are freed in this sample are freed before a packet of the sample is stored (06 R249). -/
def State.freesFirst (st : Fin 4) (s : State) : State :=
  s.takeFirst (fun c => match c with
    | .sidePacketApertureRead _ ch q =>
      if (s.intake.drq[q]).head?.any (fun y => y.stream == st) then some (State.takeAperture ch q) else none
    | _ => none)

/-- SIDE_PACKET (06 R249): the packet's blocks, the header first and the end last. -/
def execSidePacket (t : Nat) (st : Fin 4) (blocks : List Block) (s : State) : Host.Outcome State Fault Refusal :=
  onCore t s (fun s =>
    match blocks with
    | h :: d :: r =>
      s.when (s.receives st) (fun s => State.sidePacket st h (d :: r).dropLast ((d :: r).getLast?.getD 0) (s.freesFirst st))
    | _ => s)

/-! ### Frame boundaries (06 R239, R246–R248) -/

/-- A missed period (06 R247). -/
def State.missed (st : Fin 4) (c : InSet) (x : Stream) (s : State) : State :=
  let run := min 255 (x.missRun.toNat + 1)
  let hit := c.missLim != 0 && decide (c.missLim ≤ run)
  (s.setStream st { x with missRun := BitVec.ofNat 8 run, lost := hit || x.lost }).report
    ([.tally (Reg.IN_MISSFR st) 1, .raise (Src.IN_MISS st)] ++ noteIf (hit && !x.lost) [.raise (Src.IN_LOST st)])

/-- The frame of a stream at the end of its period: closed, or the period missed (06 R246, R247). -/
def State.endPeriod (st : Fin 4) (s : State) : State :=
  let x := s.intake.streams[st]
  let c := s.inSet st
  let after := { x with cur := none, gone := (x.cur.map (fun f => f.fn)).or x.gone }
  match x.cur with
  | some f =>
    if f.failed then s.missed st c after
    else if f.closed then s.setStream st after
    else (s.setStream st { after with lastFn := f.fn, lastOk := true, missRun := 0, lost := false }).report
      [.tally (Reg.IN_FRAMES st) 1]
  | none => s.missed st c after

/-- The periods of surface u's streams end. -/
def State.endPeriods (u : Fin 2) (s : State) : State :=
  intakes.foldl (fun (s : State) st => s.when ((s.inSet st).en && (s.inSet st).surf == u) (State.endPeriod st)) s

/-- Settings whose change discards the frame waiting (06 R248): EN, LANES, RATE and SURF of IN_SCFG, and ELB_LINES. -/
def restarts (old new : Nat → Word) (st : Nat) : Bool :=
  let f := fun (g : Nat → Word) => (fld (g (Reg.IN_SCFG st)) 0 8, fld (g (Reg.IN_TIM st)) 16 8)
  f old != f new

/-- A stream whose settings restart it: frames accepted before the boundary are discarded (06 R248). -/
def State.restartStream (st : Fin 4) (s : State) : State :=
  let x := s.intake.streams[st]
  let l := (x.cur.toList ++ x.next.toList).filter (fun f => !f.closed)
  (s.setStream st { x with cur := none, next := none, drop := (l.getLast?.map (fun f => f.fn)).or x.drop }).report
    (l.map (fun _ => .tally (Reg.IN_DROPFR st) 1))

/-- The streams that surface u's new settings restart: those that it served, or serves now (06 R248). -/
def State.restartStreams (u : Fin 2) (old : RegFile) (s : State) : State :=
  intakes.foldl (fun (s : State) st =>
    let serves := fun (f : Nat → Word) => (inSetOf f st.val).en && (inSetOf f st.val).surf == u
    s.when ((serves (ract old) || serves (s.composed u)) && restarts (ract old) (s.composed u) st.val) (State.restartStream st)) s

/-- What waited for the checks of its frame's period is taken in turn (06 R239). -/
def State.replay (st : Fin 4) (s : State) (x : EarlyItem) : State :=
  match (s.intake.streams[st]).cur with
  | none => s
  | some f =>
    if !f.isOpen then s
    else match x with
      | .line fn y => if fn = f.fn then s.takeLine st f y false else s.report [packetError st]
      | .lost y => s.loseLine st y
      | .fe => s.settleFrame st { f with ended := true, upto := f.lines } (f.gap f.lines)

/-- The frame bound to the period that begins: its checks are made, and it closes where its FE has come (06 R239). -/
def State.beginPeriod (st : Fin 4) (s : State) : State :=
  let x := s.intake.streams[st]
  match x.next with
  | none => s
  | some f =>
    let s := s.setStream st { x with cur := some { f with early := [] }, next := none }
    if f.failed then s
    else if f.lines != (s.inSet st).height then s.failFrame st false
    else f.early.foldl (State.replay st) s

/-- The frames of surface u's streams for the period that begins. -/
def State.beginPeriods (u : Fin 2) (s : State) : State :=
  intakes.foldl (fun (s : State) st => s.when ((s.inSet st).en && (s.inSet st).surf == u) (State.beginPeriod st)) s

/-- A frame of the running period has failed on a stream of surface u: the composer does not compose it (06 R245). -/
def State.intakeFailed (s : State) (u : Fin 2) : Bool :=
  intakes.any (fun st => (s.inSet st).en && (s.inSet st).surf == u && (s.intake.streams[st]).cur.any (fun f => f.failed))

end Sys2Proof.Machine
end

