-- ==== Sys2Proof/Machine/Checks.lean ====
section
/-! DEFINITION. The conditions that refuse a commit, as functions of the words it would make active: RANGE, ARRAYMAP, SKEIN,
INTAKE, LAYER, CORR and ORDER, and the plane-load test of the fallback profile (11 R415). A failed condition is its cause code
and a page (DEDUCED, log entry 25). -/

namespace Sys2Proof.Machine

open Sys2Proof

/-- A condition that fails when `c` holds. -/
def failIf (c : Bool) (code page : Nat) : List (Nat × Nat) := if c then [(code, page)] else []

/-- Pairs of different elements of a list. -/
def pairsOf {α : Type} : List α → List (α × α)
  | [] => []
  | x :: r => r.map (fun y => (x, y)) ++ pairsOf r

/-- Every element of a list is the same. -/
def allSame {α : Type} [BEq α] (l : List α) : Bool := (pairsOf l).all (fun x => x.1 == x.2)

/-! ### RANGE, code 1 -/

/-- A nominal period within 240 Hz to 24 Hz, in thousandths (11 R430). -/
def periodOk (x : Nat) : Bool := decide (106666667 * 1000 ≤ x) && decide (x ≤ 1066666667 * 1000)

/-- P_nom and what ACC makes of it lie in range (11 R430). -/
def TimeSet.periodsOk (c : TimeSet) : Bool :=
  periodOk (c.nom * 1000) && (!c.en || (periodOk (c.nom * (1000 - c.acc)) && periodOk (c.nom * (1000 + c.acc))))

/-- P_min can be formed (11 R414, R430). -/
def TimeSet.ok (c : TimeSet) : Bool := c.periodsOk && (!c.en || (decide (1 ≤ c.acc) && decide (c.acc ≤ 50)))

/-- The TIME page (11 R430). -/
def timeFails (f : Nat → Word) : List (Nat × Nat) :=
  let c := timeSet f
  failIf (!c.periodsOk || fld (f Reg.TM_GLCFG) 2 2 == 3 || c.acc == 0 || decide (50 < c.acc) || c.slew == 0 ||
    decide (100 < c.slew) || decide (c.mult * c.nom ≤ c.delay) || decide (1000 < c.hold) || c.gloW == 0) 1 0x01

/-- The surface has an S (02 R69). -/
def ModSet.hasS (m : ModSet) : Bool := m.sSel != 3

/-- The surface has a stitch period (02 R69). -/
def ModSet.ok (m : ModSet) : Bool := m.hasS && decide (16 ≤ m.guard) && decide (m.guard ≤ 1000)

/-- OFS_u (11 R430). -/
def ofsOf (f : Nat → Word) (u : Nat) : Nat := fld (f Reg.TM_OFS) (8 * u) 6

/-- W and H of a surface: both 0, or both 8 to 4096 (07 R291). -/
def SurfSet.ok (z : SurfSet) : Bool :=
  (z.w == 0 && z.h == 0) || (decide (8 ≤ z.w) && decide (z.w ≤ 4096) && decide (8 ≤ z.h) && decide (z.h ≤ 4096))

/-- The fields of surface u (02 R69, 07 R291, 10 R393, 11 R399, 15 R552). -/
def surfRangeFails (f : Nat → Word) (u : Nat) : List (Nat × Nat) :=
  let m := modOf (f (Reg.ST_MOD u))
  let c := shadeSet f u
  failIf (!m.ok) 1 0x2C ++ failIf (m.hasS && decide (stitchesOf m.sSel ≤ ofsOf f u)) 1 0x01 ++
  failIf (c.ageMax == 0 || decide (256 < c.staleA) || decide (62 < c.reqInt) || decide (c.sx1 < c.sx0) ||
    decide (c.sy1 < c.sy0)) 1 0x28 ++
  failIf (fld (f (Reg.THM_TCFG u)) 16 12 == 0) 1 0x41 ++
  failIf (!(surfOf (f (Reg.CP_SURF u))).ok) 1 (0x20 + u)

/-- POLL_INT in range (04 R183). -/
def pollOk (f : Nat → Word) : Bool := decide (6 ≤ fld (f Reg.AL_POLL) 0 6) && decide (fld (f Reg.AL_POLL) 0 6 ≤ 50)

/-- PKT_MAX in range (04 R183). -/
def packetOk (f : Nat → Word) : Bool := decide (1 ≤ fld (f Reg.AL_POLL) 8 13) && decide (fld (f Reg.AL_POLL) 8 13 ≤ 4096)

/-- DROOP_M in range (08 R322). -/
def droopOk (f : Nat → Word) : Bool :=
  decide (1 ≤ fld (f (Reg.FB_MCFG 0)) 0 4) && decide (fld (f (Reg.FB_MCFG 0)) 0 4 ≤ 12)

/-- The conditions of code RANGE. -/
def rangeFails (f : Nat → Word) : List (Nat × Nat) :=
  timeFails f ++ surfRangeFails f 0 ++ surfRangeFails f 1 ++ failIf (!droopOk f) 1 0x20 ++
  failIf (!pollOk f || !packetOk f) 1 0x38 ++
  outLanes.flatMap (fun l => failIf (fld (f (Reg.SK_RTCFG l.val)) 0 8 == 0) 1 (0x30 + l.val))

/-! ### ARRAYMAP, code 4 -/

/-- MODE, W and H of a surface in a reading of register words. -/
def surfIn (f : Nat → Word) (u : Nat) : SurfSet := surfOf (f (Reg.CP_SURF u))

/-- Trim ratio q of a surface in a reading of register words. -/
def ratioIn (f : Nat → Word) (u : Nat) : Nat := ratioOf (modOf (f (Reg.ST_MOD u))).qSel

/-- A side of an array is 8 to 4096 pixels and a multiple of 8 (01 R12). -/
def sideOk (n : Nat) : Bool := decide (8 ≤ n) && decide (n ≤ 4096) && n % 8 == 0

/-- Two entries of one surface overlap (01 R13). -/
def ArrEntry.overlaps (a b : ArrEntry) : Bool := meets a.x0 a.w b.x0 b.w && meets a.y0 a.h b.y0 b.h

/-- The entries of a surface tile it exactly (01 R13). -/
def tilesExactly (z : SurfSet) (l : List ArrEntry) : Bool :=
  l.all (fun e => decide (e.x0 + e.w ≤ z.w) && decide (e.y0 + e.h ≤ z.h)) &&
    (pairsOf l).all (fun x => !x.1.overlaps x.2) && (l.map (fun e => e.w * e.h)).sum == z.w * z.h

/-- Entries of surface u put it out of order: 01 R13, and 04 R179 for one surface. -/
def surfMapBad (f : Nat → Word) (l : List ArrEntry) (u : Nat) : Bool :=
  let z := surfIn f u
  let q := ratioIn f u
  (!l.isEmpty && z.ok && z.w != 0 && !tilesExactly z l) ||
  !allSame (l.map (fun e => (e.strRng, e.trmRng))) ||
  l.any (fun e => (e.strRng == e.trmRng && q != 1) || e.iStitch == 0 || e.iStitch % q != 0 || e.base % 4096 != 0)

/-- Emitter ranges of two entries overlap (01 R14). -/
def ArrEntry.sharesEmitters (f : Nat → Word) (a b : ArrEntry) : Bool :=
  meets a.base (a.emitters (surfIn f a.surf).k) b.base (b.emitters (surfIn f b.surf).k)

/-- Range codes an entry programs, by range number (04 R180). -/
def ArrEntry.codes (e : ArrEntry) (q : Nat) : List (Nat × Nat) := [(e.strRng, e.iStitch), (e.trmRng, e.iStitch / q)]

/-- An entry gives a range of the profile's entry for the same array another code (04 R178). -/
def rangeClash (f : Nat → Word) (gpr : List Byte) (e : ArrEntry) : Bool :=
  (gprEntries gpr).any (fun p => p.n == e.n &&
    (e.codes (ratioIn f e.surf)).any (fun c => (p.codes (ratioOf (gprMod gpr p.surf).qSel)).any (fun d =>
      c.1 == d.1 && c.2 != d.2)))

/-- An entry's AEN pin breaks 17 R604. -/
def aenBad (gpr : List Byte) (e : ArrEntry) : Bool :=
  !gpr.isEmpty && (!bit (gprWord gpr 0x018) e.aen ||
    (bit (gprAenFb gpr) e.aen && !(gprEntries gpr).any (fun p => p.n == e.n)))

/-- Pixels of a surface, counted three times in surface mode (07 R291). -/
def SurfSet.count (z : SurfSet) : Nat := z.w * z.h * z.k

/-- Entries on a return lane. -/
def onReturn (l : List ArrEntry) (b : Nat) : Nat := (l.filter (fun e => e.ret == b)).length

/-- An entry's emitters run past emitter 4,194,303, the last of a bank (00 R4, 01 R18; DESIGN CHOICE, log entry 90). -/
def ArrEntry.pastEnd (f : Nat → Word) (e : ArrEntry) : Bool :=
  decide (4194304 < e.base + e.emitters (surfIn f e.surf).k)

/-- The conditions of code ARRAYMAP. -/
def mapFails (f : Nat → Word) (gpr : List Byte) : List (Nat × Nat) :=
  let l := entriesOf f
  failIf ((surfIn f 0).ok && (surfIn f 1).ok && decide (4194304 < (surfIn f 0).count + (surfIn f 1).count)) 4 0x20 ++
  l.flatMap (fun e => failIf ((surfIn f e.surf).ok && (surfIn f e.surf).w == 0) 4 (0x20 + e.surf)) ++
  failIf (pollOk f && ([0, 1] : List Nat).any (fun b => decide (100 < fld (f Reg.AL_POLL) 0 6 * onReturn l b))) 4 0x38 ++
  failIf (l.any (fun e => !sideOk e.w || !sideOk e.h || e.pastEnd f || rangeClash f gpr e || aenBad gpr e) ||
    ([0, 1] : List Nat).any (fun u => surfMapBad f (l.filter (fun e => e.surf == u)) u) ||
    (pairsOf l).any (fun x => x.1.sharesEmitters f x.2 || (x.1.skein == x.2.skein && x.1.surf != x.2.surf))) 4 0x3C

/-! ### SKEIN, code 5 -/

/-- Enabled lanes in a reading of register words. -/
def lanesIn (f : Nat → Word) : List (Fin 8) := outLanes.filter (fun l => (laneAt f l.val).en)

/-- The lanes of a skein are 1, 2, 4 or 8 consecutive ones from a multiple of their number (05 R206). -/
def groupOk (l : List (Fin 8)) : Bool :=
  let b := (l.head?.map (fun x => x.val)).getD 0
  ([1, 2, 4, 8] : List Nat).contains l.length && b % l.length == 0 &&
    l.map (fun x => x.val) == (List.range l.length).map (fun i => b + i)

/-- Rates, grouping and equalisation of the lanes (05 R186, R206, R209). -/
def groupFails (f : Nat → Word) : List (Nat × Nat) :=
  let l := lanesIn f
  failIf (!allSame (l.map (fun n => (laneAt f n.val).rate))) 5 (0x30 + (l.head?.map (fun n => n.val)).getD 0) ++
  skeins.flatMap (fun k =>
    failIf (!(skeinLanes f k.val).isEmpty && !groupOk (skeinLanes f k.val)) 5 (0x30 + skeinBase f k.val)) ++
  failIf ((entriesOf f).any (fun e => (skeinLanes f e.skein).isEmpty)) 5 0x30 ++
  l.flatMap (fun n => failIf (decide (32 < (laneAt f n.val).pre + (laneAt f n.val).post)) 5 (0x30 + n.val))

/-- IDLE on a lane of a skein that is wanted: `drv` tells which surfaces are driven (05 R210). -/
def idleFails (f : Nat → Word) (gpr : List Byte) (drv : Nat → Bool) : List (Nat × Nat) :=
  (lanesIn f).flatMap (fun n =>
    let c := laneAt f n.val
    failIf (c.idle && ((gprSkeins gpr).contains c.skein ||
      (entriesOf f).any (fun e => e.skein == c.skein && drv e.surf))) 5 (0x30 + n.val))

/-! ### The fallback profile as register words (11 R419, R420; 17 R619) -/

/-- ST_MOD with the profile's modulation of surface u. -/
def gprModWord (gpr : List Byte) (u : Nat) : Word :=
  let m := gprMod gpr u
  at32 0 m.sSel ||| at32 4 m.qSel ||| at32 12 m.guard ||| at32 24 m.seed

/-- OFS_u of the profile; 0 for a surface it does not enable (11 R420). -/
def gprOfsOf (gpr : List Byte) (u : Nat) : Nat := if gprEn gpr u then gprOfs gpr u else 0

/-- Registers whose copies read the profile before the first accepted commit (05 R208; 07 R291; 11 R419, R420). -/
def gprSets (gpr : List Byte) : List (Nat × Word) :=
  outLanes.map (fun l => (Reg.SK_LCFG l.val, gprLane gpr l.val)) ++
  [(Reg.BL_CFG, gprRet gpr), (Reg.TM_PER, BitVec.ofNat 32 (gprPer gpr)),
    (Reg.TM_OFS, at32 0 (gprOfsOf gpr 0) ||| at32 8 (gprOfsOf gpr 1))] ++
  (surfaces.filter (fun u => gprEn gpr u.val)).map (fun u => (Reg.CP_SURF u.val, gprSurfWord gpr u.val))

/-- Register words with the profile's settings in place. -/
def gprView (gpr : List Byte) (a : Nat) : Word :=
  if 0x3C100 ≤ a ∧ a < 0x3C200 then gprWord gpr (0x080 + (a - 0x3C100))
  else if a = Reg.ST_MOD 0 ∧ gprEn gpr 0 = true then gprModWord gpr 0
  else if a = Reg.ST_MOD 1 ∧ gprEn gpr 1 = true then gprModWord gpr 1
  else (((gprSets gpr).find? (fun x => x.1 == a)).map (fun x => x.2)).getD (regReset a)

/-- The profile's plane loads at every lane enabled in its images (17 R619). -/
def gprLoadsOk (gpr : List Byte) : Bool :=
  let f := gprView gpr
  surfaces.all (fun u => !gprEn gpr u.val || (skeins.all (fun k =>
    let n := emittersOn ((gprEntries gpr).filter (fun e => e.surf == u.val)) k.val (gprSize gpr u.val).k
    let l := skeinLanes f k.val
    n == 0 || (!l.isEmpty && loadFits (gprMod gpr u.val) (gprPer gpr) 1
      (loadTime n l.length (laneRate ((l.head?.map (fun x => (laneAt f x.val).rate)).getD 7)))))))

/-- The profile passes the checks of codes ARRAYMAP, SKEIN, PLANELOAD and RANGE (17 R619). -/
def gprCommitOk (gpr : List Byte) : Bool :=
  let f := gprView gpr
  (rangeFails f ++ mapFails f gpr ++ groupFails f ++ idleFails f gpr (gprEn gpr)).isEmpty && gprLoadsOk gpr

/-! ### INTAKE, code 8 -/

/-- Bytes of elastic buffer that a stream takes (06 R241). -/
def InSet.bytes (c : InSet) : Nat := c.elb * 8 * lineBlocks c.fmt c.width

/-- One stream's settings (06 R226, R235, R241, R254). -/
def streamBad (f : Nat → Word) (st : Fin 4) : Bool :=
  let c := inSetOf f st.val
  decide (8 < c.fmt) || decide (c.elb < 24) ||
  (c.en && (c.n == 8 || st.val % c.n != 0 || decide (4 < st.val + c.n) ||
    intakes.any (fun l => l != st && c.has st.val l.val && (inSetOf f l.val).en) ||
    decide (c.width < 8) || decide (4096 < c.width) || c.height == 0 || decide (4096 < c.height)))

/-- The conditions of code INTAKE. -/
def intakeFails (f : Nat → Word) : List (Nat × Nat) :=
  let on := intakes.filter (fun st => (inSetOf f st.val).en)
  intakes.flatMap (fun st => failIf (streamBad f st) 8 (0x04 + st.val)) ++
  failIf (decide (1048576 < (on.map (fun st => (inSetOf f st.val).bytes)).sum)) 8
    (0x04 + (on.head?.map (fun st => st.val)).getD 0)

/-! ### LAYER, code 9 -/

/-- Surface of a layer slot, by its number. -/
def slotSurfNo (n : Nat) : Nat := n / 8

/-- MESH_EN of a surface's CP_CFG. -/
def meshIn (f : Nat → Word) (u : Nat) : Bool := bit (f (Reg.CP_CFG u)) 0

/-- The stream of an intake layer does not serve it (07 R286). -/
def LayerSet.streamBad (c : LayerSet) (f : Nat → Word) (u : Nat) : Bool :=
  let x := inSetOf f c.stream.val
  !x.en || x.surf.val != u || decide (x.width < c.sx0 + c.sw) || decide (x.height < c.sy0 + c.sh)

/-- The source of a layer in memory breaks a condition (07 R286). -/
def LayerSet.memoryBad (c : LayerSet) : Bool :=
  decide (8 < c.fmt) || c.stride % 64 != 0 || decide (c.stride < c.lineLen) ||
  (c.src == 1 && decide (8388608 < c.base + 64 + (c.sy0 + c.sh - 1) * c.stride + c.lineLen))

/-- An enabled layer breaks a condition (07 R263, R286). -/
def LayerSet.bad (c : LayerSet) (f : Nat → Word) (u : Nat) : Bool :=
  c.src == 3 || c.op == 3 || (c.src == 0 && c.streamBad f u) || ((c.src == 1 || c.src == 2) && c.memoryBad) ||
  decide (c.hstep < 0x1000) || decide (0x80000 < c.hstep) || decide (c.vstep < 0x1000) || decide (0x40000 < c.vstep) ||
  c.sw == 0 || decide (4096 < c.sw) || c.sh == 0 || decide (4096 < c.sh) || c.dw == 0 || c.dh == 0 ||
  decide (c.ahead < 4) || decide (16 < c.ahead) || c.lwm == 0 || decide (c.ahead ≤ c.lwm)

/-- Bytes of the line pool that an enabled layer takes (07 R280). -/
def LayerSet.pool (c : LayerSet) (mesh : Bool) : Nat :=
  if c.src = 1 ∨ c.src = 2 then (LayerSet.wd mesh + c.ahead) * 64 * divUp (c.sw * bitsPerPixel c.fmt) 512 else 0

/-- Coefficients of phase p of a table sum to 512 (07 R272). -/
def phasesOk (taps : Nat) (coef : Nat → Nat → Int) : Bool :=
  (List.range 32).all (fun p => ((List.range taps).map (coef p)).sum == 512)

/-- A table that an enabled layer names breaks 07 R272. -/
def LayerSet.tableBad (c : LayerSet) (f : Nat → Word) (u : Nat) : Bool :=
  (decide (2 ≤ c.filtH) && !phasesOk 8 (horizontalCoef f u (c.filtH - 2))) ||
  (decide (2 ≤ c.filtV) && !phasesOk 4 (verticalCoef f u (c.filtV - 2)))

/-- The conditions of code LAYER. -/
def layerFails (f : Nat → Word) : List (Nat × Nat) :=
  let l := ((List.range 16).map (fun n => (n, layerOf f n))).filter (fun x => x.2.en)
  let pool := l.map (fun x => x.2.pool (meshIn f (slotSurfNo x.1) && x.2.meshEn))
  l.flatMap (fun x => failIf (x.2.bad f (slotSurfNo x.1)) 9 (0x10 + x.1) ++
    failIf (x.2.tableBad f (slotSurfNo x.1)) 9 (0x20 + slotSurfNo x.1)) ++
  ([0, 1] : List Nat).flatMap (fun u =>
    failIf (meshIn f u && decide (8388608 < fld (f (Reg.CP_MESH u)) 6 17 * 64 + 16964)) 9 (0x20 + u)) ++
  failIf (decide (2097152 < pool.sum)) 9
    (0x10 + ((l.find? (fun x => x.2.src == 1 || x.2.src == 2)).map (fun x => x.1)).getD 0)

/-! ### CORR, code 10 -/

/-- A coefficient of a driven surface in surface mode moves by more than MSTEP (09 R336). -/
def matrixJump (new old : Nat → Word) (u : Nat) (driven : Bool) (mstep : Nat) : Bool :=
  driven && (surfIn new u).surfMode && (surfIn old u).surfMode &&
    ((corrOf new u).mat.zip (corrOf old u).mat).any (fun x => decide (mstep < (x.1 - x.2).natAbs))

/-- An array for which the limiter is in effect breaks 09 R352. -/
def budgetBad (f : Nat → Word) (gpr : List Byte) (e : ArrEntry) : Bool :=
  let q := ratioIn f e.surf
  let c := corrOf f e.surf
  let ceil := gprCeil gpr e.n
  let b := fld (f (Reg.LB_BUDGET e.n)) 0 23
  (c.lbEn || ceil != 0) && (q == 1 || c.krel == 0 ||
    decide ((if ceil = 0 then b else min b ceil) < divUp (e.emitters (surfIn f e.surf).k) q))

/-- An enabled window is empty or leaves its surface (09 R364). -/
def windowBadAt (f : Nat → Word) (w : Nat) : Bool :=
  let x := windowOf f w
  let z := surfIn f x.surf
  x.en && (x.w == 0 || x.h == 0 || (z.ok && (decide (z.w < x.x0 + x.w) || decide (z.h < x.y0 + x.h))))

/-- The conditions of code CORR. -/
def corrFails (new old : Nat → Word) (gpr : List Byte) (driven : Nat → Bool) (mstep : Nat) : List (Nat × Nat) :=
  let l := entriesOf new
  ([0, 1] : List Nat).flatMap (fun u =>
    let c := corrOf new u
    failIf (matrixJump new old u (driven u) mstep || decide (1024 < c.target) || c.dmode == 3) 10 (0x24 + u)) ++
  failIf (decide (2048 < (l.map (fun e => divUp e.w 64 * divUp e.h 64)).sum)) 10 0x3C ++
  failIf (l.any (budgetBad new gpr)) 10 0x24 ++
  failIf ((List.range 4).any (windowBadAt new)) 10 0x25

/-! ### ORDER, code 11 -/

/-- Entries 0 to S − 1 of a row are a permutation of 0 to S − 1 (02 R58). -/
def rowOk (S : Nat) (entry : Nat → Nat) : Bool :=
  let l := (List.range S).map entry
  (List.range S).all (fun i => l.contains i)

/-- The conditions of code ORDER. -/
def orderFails (f : Nat → Word) : List (Nat × Nat) :=
  failIf (([0, 1] : List Nat).any (fun u =>
    let m := modOf (f (Reg.ST_MOD u))
    m.ordUser && m.hasS && !(List.range 16).all (fun c => rowOk (stitchesOf m.sSel) (orderUser f u c)))) 11 0x2C

end Sys2Proof.Machine
end

