-- ==== Sys2Proof/Machine/Composer.lean ====
section
/-! DEFINITION. The layer composer: windows, line fetches, tags, and the composition of an output line (chapter 07). -/

namespace Sys2Proof.Machine

open Sys2Proof

/-! ### Slots -/

/-- Surface of a layer slot (07 R288). -/
def slotSurf (n : Fin 16) : Fin 2 := Fin.ofNat 2 (n.val / 8)

/-- The slots of a surface, ascending. -/
def slotsOf (u : Fin 2) : List (Fin 16) := (List.finRange 16).filter (fun n => slotSurf n == u)

/-- The active settings of a layer slot. -/
def State.layerSet (s : State) (n : Fin 16) : LayerSet :=
  let c := layerOf (s.composed (slotSurf n)) n.val
  if c.src = 0 then { c with fmt := (s.inSet c.stream).fmt } else c

/-- One layer slot replaced. -/
def State.setLayer (n : Fin 16) (x : Layer) (s : State) : State := { s with layer := s.layer.set n x }

/-- One composer replaced. -/
def State.setComp (u : Fin 2) (x : Composer) (s : State) : State := { s with comp := s.comp.set u x }

/-- Enabled slots of a surface. -/
def State.enabledSlots (s : State) (u : Fin 2) : List (Fin 16) := (slotsOf u).filter (fun n => (s.layerSet n).en)

/-! ### The mesh (07 R267–R270) -/

/-- MESH_EN of CP_CFG. -/
def State.meshUsed (s : State) (u : Fin 2) : Bool := bit (s.composed u (Reg.CP_CFG u)) 0

/-- MADDR. -/
def State.meshAddr (s : State) (u : Fin 2) : Nat := fld (s.composed u (Reg.CP_MESH u)) 6 17 * 64

/-- The mesh is in effect for a layer (07 R264). -/
def State.meshOn (s : State) (u : Fin 2) (c : LayerSet) : Bool := s.meshUsed u && c.meshEn

/-- Position of a surface pixel for a layer, in sixteenths (07 R264). -/
def State.layerPos (s : State) (u : Fin 2) (c : LayerSet) (x y : Nat) : Int × Int :=
  if s.meshOn u c then
    let d := meshAt (fun o => s.layers.le (s.meshAddr u + o) 4) (s.surfComp u).w (s.surfComp u).h x y
    (16 * (x : Int) + d.1, 16 * (y : Int) + d.2)
  else (16 * (x : Int), 16 * (y : Int))

/-- Mesh rows that output line y brackets and the line above did not (07 R270). -/
def newMeshRows (h y : Nat) : Nat :=
  if y = 0 then 2 else min 2 (meshRow h y - meshRow h (y - 1))

/-- The mesh tag checked with each mesh row read for an output line (07 R270). -/
def State.checkMesh (u : Fin 2) (y : Nat) (s : State) : State :=
  let n := newMeshRows (s.surfComp u).h y
  if !s.meshUsed u || n == 0 || s.layers.le (s.meshAddr u) 4 == (s.composed u (Reg.CP_MTAG u)).toNat then s
  else
    let s := s.withhold u
    (s.setComp u { s.comp[u] with meshFail := true }).report
      (List.replicate n [Note.raise (Src.CP_MESHTAG u), .tally (Reg.CP_MESHERR u) 1]).flatten

/-! ### Windows (07 R275, R279) -/

/-- WD of a layer in effect. -/
def State.windowLen (s : State) (n : Fin 16) : Nat := LayerSet.wd (s.meshOn (slotSurf n) (s.layerSet n))

/-- Last line of a layer's window. -/
def State.windowEnd (s : State) (n : Fin 16) : Nat := (s.layer[n]).top + s.windowLen n - 1

/-- Top of a layer's window for output line y, after the line above's (07 R275). -/
def State.nextTop (s : State) (n : Fin 16) (y before : Nat) : Nat :=
  let c := s.layerSet n
  let u := slotSurf n
  let p := s.layerPos u c (c.centre (s.surfComp u).w) y
  c.topAt (s.meshOn u c) before (c.vAt p.2)

/-- Lines fetched beyond the window bottom (07 R288). -/
def State.aheadNow (s : State) (n : Fin 16) : Nat :=
  ((s.layer[n]).fetched.filter (fun x => decide (s.windowEnd n < x.line) && x.data.isSome)).length

/-- The layer is urgent (07 R279). -/
def State.urgentNow (s : State) (n : Fin 16) : Bool :=
  let c := s.layerSet n
  c.en && c.src != 0 && decide (s.aheadNow n < min c.lwm (c.lastLine - s.windowEnd n))

/-- URGENT brought up to date; an entry counts (07 R279). -/
def State.urgency (n : Fin 16) (s : State) : State :=
  let on := s.urgentNow n
  let was := (s.layer[n]).urgent
  (s.setLayer n { s.layer[n] with urgent := on }).report (noteIf (on && !was) [.tally (Reg.LY_URGENT n) 1])

/-- A layer whose window moves to a top line (07 R276, R278). -/
def Layer.move (x : Layer) (top : Nat) : Layer :=
  if top = x.top then x
  else { x with
    top := top, nextLine := max x.nextLine top
    fetched := x.fetched.filter (fun y => decide (top ≤ y.line))
    due := (x.due ++ x.refetch).filter (fun r => decide (top ≤ r)), refetch := [] }

/-- The windows of a surface's layers for output line y. -/
def State.moveWindows (u : Fin 2) (y : Nat) (s : State) : State :=
  (s.enabledSlots u).foldl (fun (s : State) n =>
    (s.setLayer n ((s.layer[n]).move (s.nextTop n y (s.layer[n]).top))).urgency n) s

/-! ### Tags (07 R283–R285) -/

/-- A layer after its tag was read as `v` (07 R284). -/
def Layer.see (x : Layer) (want v : Word) : Layer :=
  if v = want then { x with tagged := true }
  else if x.tagged then { x with torn := true }
  else { x with tagged := true, dropped := true }

/-- A tag read of a layer is compared. -/
def State.seeTag (n : Fin 16) (v : Word) (s : State) : State :=
  let u := slotSurf n
  let x := s.layer[n]
  let y := x.see (s.layerSet n).tag v
  let s := (s.setLayer n y).report [.word (Reg.LY_SEENTAG n) v]
  let s := s.when (y.torn && !x.torn) (State.withhold u)
  s.report (noteIf (v != (s.layerSet n).tag && !x.dropped && !x.torn)
    [.tally (Reg.LY_TAGERR n) 1, .raise (Src.LY_TAG u), .irq (0x20 + u.val) 1])

/-! ### Line fetches (07 R276–R278, R283) -/

/-- The source line that a layer fetches next. -/
def State.nextFetch (s : State) (n : Fin 16) : Option Nat :=
  let c := s.layerSet n
  let x := s.layer[n]
  match x.due with
  | r :: _ => some r
  | [] => if x.nextLine ≤ min c.lastLine (s.windowEnd n + c.ahead) then some x.nextLine else none

/-- A layer with a line no longer due. -/
def Layer.issue (x : Layer) (r : Nat) : Layer :=
  if x.due.contains r then
    { x with due := removeNat r x.due, again := r :: x.again, fetched := x.fetched.filter (fun y => y.line != r) }
  else { x with nextLine := r + 1 }

/-- A layer-store line, read in one access with the tag (07 R283). -/
def State.fetchStore (n : Fin 16) (r : Nat) (s : State) : State :=
  let c := s.layerSet n
  let s := (s.setLayer n ((s.layer[n]).issue r)).seeTag n (BitVec.ofNat 32 (s.layers.le c.base 4))
  let x := s.layer[n]
  if x.dropped || x.torn then s
  else
    let y : SrcLine := { line := r, data := some (Memory.readN zeroByte s.layers.cells (c.lineAt r) c.lineLen) }
    (s.setLayer n { x with fetched := x.fetched ++ [y] }).urgency n

/-- An upstream read of a layer: a source line or the tag. -/
def State.fetchHost (n : Fin 16) (r : Option Nat) (s : State) : State :=
  let c := s.layerSet n
  let x := s.layer[n]
  let s := s.setLayer n { x with inFlight := x.inFlight ++ [(s.host.nextTag, r)] }
  match r with
  | some r => s.upRead (.line n r) (c.lineAt r) c.lineLen
  | none => s.upRead (.tag n) c.base 8

/-- The last source line that a layer fetches in the period (07 R283). -/
def State.lastFetch (s : State) (n : Fin 16) : Nat :=
  let c := s.layerSet n
  let u := slotSurf n
  let y := (s.comp[u]).line
  let top := (List.range ((s.surfComp u).h - 1 - y)).foldl (fun b i => s.nextTop n (y + 1 + i) b) (s.layer[n]).top
  min c.lastLine (top + s.windowLen n - 1 + c.ahead)

/-- A host-memory line: the tag is read once before the period's first line and once after its last; a line fetched again after that
has the tag read after it once more (07 R278, R283; DESIGN CHOICE, log entry 100). -/
def State.fetchLine (n : Fin 16) (r : Nat) (s : State) : State :=
  let s := s.when (!(s.layer[n]).tagFirst) (fun s => State.fetchHost n none (s.setLayer n { s.layer[n] with tagFirst := true }))
  let s := State.fetchHost n (some r) (s.setLayer n ((s.layer[n]).issue r))
  if !(s.layer[n]).tagLast && decide (r < s.lastFetch n) then s
  else State.fetchHost n none (s.setLayer n { s.layer[n] with tagLast := true })

/-- A fetch of a layer slot in a period being composed. -/
def State.issueFetch (n : Fin 16) (s : State) : State :=
  let c := s.layerSet n
  let x := s.layer[n]
  if !(s.comp[slotSurf n]).composing || !c.en || c.src == 0 || x.dropped || x.torn then s
  else match s.nextFetch n with
  | none => s
  | some r => if c.src = 1 then s.fetchStore n r else if s.upRoom then s.fetchLine n r else s

/-- LINE_FETCH_ISSUE (07 R276): a layer-store line is read at once. -/
def execLineFetchIssue (t : Nat) (slot : Fin 16) (s : State) : Host.Outcome State Fault Refusal :=
  onCore t s (State.issueFetch slot)

/-- An upstream read belongs to a layer slot. -/
def UpReq.ofSlot (r : UpReq) (n : Fin 16) : Bool :=
  match r.who with
  | .line m _ => m == n
  | .tag m => m == n
  | .dma _ => false

/-- A source line arrives, or its read ended in error (07 R278). -/
def Layer.arrive (x : Layer) (r : Nat) (data : Option (List Byte)) : Layer :=
  if r < x.top then x
  else { x with
    fetched := x.fetched ++ [{ line := r, data := data }]
    refetch := if data.isNone && !x.again.contains r then x.refetch ++ [r] else x.refetch }

/-- The data of an upstream read that has ended. -/
def UpReq.bytes (r : UpReq) : Option (List Byte) := match r.res with | .data b => some b | _ => none

/-- The outcome of a read of the layer slot: each read that failed raises (07 R278); one of an earlier period brings nothing else. -/
def State.fetchEnds (n : Fin 16) (r : UpReq) (s : State) : State :=
  let x := s.layer[n]
  let s := { s with host := s.host.without r.tag }
  let s := s.report (noteIf r.bytes.isNone [.raise (Src.LY_FETCHERR (slotSurf n))])
  match x.inFlight.find? (fun y => y.1 == r.tag) with
  | none => s
  | some y =>
    let x := { x with inFlight := x.inFlight.filter (fun z => z.1 != r.tag) }
    match y.2, r.bytes with
    | some line, b => (s.setLayer n (x.arrive line b)).urgency n
    | none, some b => (s.setLayer n x).seeTag n (BitVec.ofNat 32 (leAt b 0 4))
    | none, none => s.setLayer n x

/-- The slot's oldest read that has ended. -/
def State.fetchComplete (slot : Fin 16) (s : State) : State :=
  match s.host.up.find? (fun r => r.ofSlot slot && !decide (r.res = .waiting)) with
  | some r => s.fetchEnds slot r
  | none => s

/-- LINE_FETCH_COMPLETE (07 R278): the slot's oldest read that has ended. -/
def execLineFetchComplete (t : Nat) (slot : Fin 16) (s : State) : Host.Outcome State Fault Refusal :=
  onCore t s (State.once (.lineFetchComplete t slot) (State.fetchComplete slot))

/-- BAR2_LAYER_STORE_WRITE (07 R262): the address counts from the store's first byte, modulo its 8 MiB. -/
def execBar2LayerStoreWrite (t : Nat) (_req : Req) (addr : Nat) (data : List Byte) (s : State) :
    Host.Outcome State Fault Refusal :=
  onCore t s (fun s => { s with layers := s.layers.write 0 zeroByte (addr % 0x800000) data })

/-! ### Source rows (06 R240, R244; 07 R276–R278) -/

/-- A source row as the composer finds it: its bytes, or none for a row of which every component is 0. -/
inductive SourceRow where
  /-- Ready. -/
  | ready (b : Option (List Byte))
  /-- A host-memory line not returned, or whose read failed. -/
  | late
  /-- An intake or layer-store line still to come. -/
  | wait
  deriving DecidableEq, Repr

/-- The bytes of a line held by the intake. -/
def InLine.bytes (y : InLine) : List Byte := y.data.flatMap (fun b => toBytesLE 8 b.toNat)

/-- The later of two lines of a frame. -/
def laterLine (a : Option InLine) (b : InLine) : Option InLine :=
  match a with
  | some x => if x.line < b.line then some b else a
  | none => some b

/-- Row y of an intake frame: the line, or, where it is missing, the most recent delivered line below it (06 R240, R244). -/
def InFrame.row (f : InFrame) (y : Nat) : SourceRow :=
  if f.failed || !(decide (y < f.upto) || f.missing.contains y || f.closed) then .wait
  else .ready ((((f.held ++ f.left).filter (fun l => decide (l.line ≤ y))).foldl laterLine none).map InLine.bytes)

/-- Row r of a layer's source. -/
def State.sourceRow (s : State) (n : Fin 16) (c : LayerSet) (r : Nat) : SourceRow :=
  if c.src = 0 then
    match (s.intake.streams[c.stream]).cur with
    | some f => f.row r
    | none => .wait
  else match (s.layer[n]).fetched.find? (fun x => x.line == r) with
    | some x => if x.data.isSome then .ready x.data else .late
    | none => if c.src = 1 then .wait else .late

/-- Vertical taps of a position: clamped to the source rectangle, then to the window, and whether the window clamped one
(07 R266, R275). -/
def State.rowsAt (s : State) (n : Fin 16) (c : LayerSet) (v : Int) : List Nat × Bool :=
  let src := clampTaps c.sy0 c.lastLine (filterTaps c.filtV v 1 4)
  let rows := src.map (fun r => clampNat (s.layer[n]).top (s.windowEnd n) r)
  (rows, rows != src)

/-- Vertical taps of a layer at a surface pixel, where it covers the pixel. -/
def State.tapsAt (s : State) (n : Fin 16) (c : LayerSet) (x y : Nat) : Option (List Nat × Bool) :=
  let p := s.layerPos (slotSurf n) c x y
  if c.covers p then some (s.rowsAt n c (c.vAt p.2)) else none

/-- What becomes of a layer in an output line. -/
inductive LayerVerdict where
  /-- It covers no pixel of the line, or contributes nothing to the period. -/
  | skip
  /-- The composer waits for an intake line when `intake`, else for a layer-store line. -/
  | wait (intake : Bool)
  /-- A host-memory line is late (07 R277). -/
  | late
  /-- It is blended. -/
  | use
  deriving DecidableEq, Repr

/-- A host-memory layer whose first tag check of the period is not made: it contributes nothing to a line, since the check may still drop
it from the whole period (07 R284; DESIGN CHOICE, log entry 100). -/
def State.unchecked (s : State) (n : Fin 16) : Bool := (s.layerSet n).src == 2 && !(s.layer[n]).tagged

/-- The verdict on a layer in output line y, and whether a tap was clamped to its window. -/
def State.verdict (s : State) (n : Fin 16) (y : Nat) : LayerVerdict × Bool :=
  let c := s.layerSet n
  let x := s.layer[n]
  let l := (List.range (s.surfComp (slotSurf n)).w).filterMap (fun i => s.tapsAt n c i y)
  let rows := (l.flatMap (fun q => q.1)).foldl (fun m r => insertNat r m) []
  let found := rows.map (s.sourceRow n c)
  if x.dropped || x.torn || l.isEmpty then (.skip, false)
  else if found.contains .wait then (.wait (c.src == 0), false)
  else if s.unchecked n && !found.contains .late then (.skip, l.any (fun q => q.2))
  else (if found.contains .late then .late else .use, l.any (fun q => q.2))

/-- A layer's sample at a surface pixel that it covers. -/
def State.layerSample (s : State) (n : Fin 16) (c : LayerSet) (x y : Nat) : Option Px :=
  let u := slotSurf n
  let p := s.layerPos u c x y
  if c.covers p then
    let v := c.vAt p.2
    let px := fun r i => match s.sourceRow n c r with
      | .ready (some b) => linePx c.fmt b i
      | _ => Px.blank
    some (c.sample (s.composed u) u px (s.rowsAt n c v).1 (c.uAt p.1, v))
  else none

/-! ### COMPOSE_OUTPUT_LINE (07 R256, R277) -/

/-- The background of a surface (07 R256). -/
def State.background (s : State) (u : Fin 2) (surfMode : Bool) : List Nat :=
  let a := s.composed u (Reg.CP_BG0 u)
  if surfMode then [fld a 0 16, fld a 16 16, fld (s.composed u (Reg.CP_BG1 u)) 0 16] else [fld a 0 16]

/-- The composed value of a pixel over the layers in use (07 R256). -/
def State.composePixel (s : State) (u : Fin 2) (use : List (Fin 16)) (y x : Nat) : List Nat :=
  let z := s.surfComp u
  use.foldl (fun d n =>
    let c := s.layerSet n
    match s.layerSample n c x y with
    | some p => c.apply z.surfMode p d
    | none => d) (s.background u z.surfMode)

/-- What a layer's verdict reports (07 R275, R277). -/
def verdictNotes (n : Fin 16) (v : LayerVerdict × Bool) : List Note :=
  noteIf v.2 [.tally (Reg.CP_REACH (slotSurf n)) 1, .raise (Src.CP_REACH (slotSurf n))] ++
  noteIf (v.1 == .late) [.tally (Reg.LY_LATE n) 1, .raise (Src.LY_LATE (slotSurf n))]

/-- Layers that contribute are ACTIVE (07 R288). -/
def State.markActive (s : State) (n : Fin 16) : State := s.setLayer n { s.layer[n] with active := true }

/-- Segments of the compose side. -/
def composeSegs : List (Fin 8) := [0, 1, 2, 3, 4]

/-- An error of a compose-side segment (08 R311). -/
def State.composeError (u : Fin 2) (s : State) (x : Fin 8 × BundleError) : State :=
  let s := State.fabricError u s x
  match x.2 with
  | .parity _ => s.withhold u
  | .code =>
    let s := s.withhold u
    let s := { s with fab := { s.fab with discard := true } }
    s.setComp u { s.comp[u] with discard := true, composing := false, waitIntake := false }
  | .canary => s

/-- Bundle errors of an output line: the command's, and those that FB_INJ has armed. -/
def State.composeErrors (u : Fin 2) (bundles : List (Fin 8 × Bundle)) (s : State) : State :=
  let errs := bundlesMet bundles composeSegs ++ s.armedErrors composeSegs 0
  errs.foldl (State.composeError u) (s.disarm composeSegs)

/-- Lines that a surface's layers still need of a stream, as runs of a first and a last line: each layer's from the top of its window to
the end of its source rectangle, and none once every output line is composed (06 R242, 07 R276). -/
def State.stillNeeds (s : State) (u : Fin 2) (st : Fin 4) : List (Nat × Nat) :=
  if (s.surfComp u).h ≤ (s.comp[u]).line then []
  else ((s.enabledSlots u).filter (fun n => (s.layerSet n).src == 0 && (s.layerSet n).stream == st)).map
    (fun n => ((s.layer[n]).top, (s.layerSet n).lastLine))

/-- A frame whose lines outside some runs have left the buffer (06 R242, R244). -/
def InFrame.release (f : InFrame) (need : List (Nat × Nat)) : InFrame :=
  let kept := fun (l : InLine) => need.any (fun r => decide (r.1 ≤ l.line) && decide (l.line ≤ r.2))
  { f with held := f.held.filter kept, left := f.left ++ f.held.filter (fun l => !kept l) }

/-- Lines that the composer needs no more leave the elastic buffers of a surface's streams (06 R242). -/
def State.releaseLines (u : Fin 2) (s : State) : State :=
  intakes.foldl (fun (s : State) st =>
    let x := s.intake.streams[st]
    if (s.inSet st).en && (s.inSet st).surf == u then
      s.setStream st { x with cur := x.cur.map (fun f => f.release (s.stillNeeds u st)) }
    else s) s

/-- The blocks of a packet, the header first and the end last; a line that no layer needs leaves the buffer again (06 R242). -/
def State.packetIn (st : Fin 4) (blocks : List Block) (s : State) : State :=
  match blocks with
  | h :: d :: r => s.when (s.receives st) (fun s =>
      (State.linePacket st h (d :: r).dropLast ((d :: r).getLast?.getD 0) s).releaseLines (s.inSet st).surf)
  | _ => s

/-- LINE_PACKET (06 R240). -/
def execLinePacket (t : Nat) (st : Fin 4) (blocks : List Block) (s : State) : Host.Outcome State Fault Refusal :=
  onCore t s (State.once (.linePacket t st blocks) (State.packetIn st blocks))

/-- The output line is done: the windows move on. -/
def State.lineDone (u : Fin 2) (s : State) : State :=
  let y := (s.comp[u]).line + 1
  let s := s.setComp u { s.comp[u] with line := y, waitIntake := false }
  (s.when (decide (y < (s.surfComp u).h)) (State.moveWindows u y)).releaseLines u

/-- An output line whose inputs are ready. -/
def State.composeReady (u : Fin 2) (y : Nat) (vs : List (Fin 16 × LayerVerdict × Bool))
    (bundles : List (Fin 8 × Bundle)) (s : State) : State :=
  let s := (State.checkMesh u y s).report (vs.flatMap (fun v => verdictNotes v.1 v.2))
  let use := (vs.filter (fun v => v.2.1 == .use)).map (fun v => v.1)
  let vals := (List.range (s.surfComp u).w).map (fun x => (x, s.composePixel u use y x))
  let s := (use.foldl State.markActive s).correctLine u y vals
  (State.composeErrors u bundles s).lineDone u

/-- The verdicts on the enabled slots of a surface in its next output line. -/
def State.verdicts (s : State) (u : Fin 2) : List (Fin 16 × LayerVerdict × Bool) :=
  (s.enabledSlots u).map (fun n => (n, s.verdict n (s.comp[u]).line))

/-- A layer holds the line up. -/
def LayerVerdict.waits : LayerVerdict → Bool
  | .wait _ => true
  | _ => false

/-- The surface has an output line still to compose. -/
def State.lineLeft (s : State) (u : Fin 2) : Bool := (s.comp[u]).composing && decide ((s.comp[u]).line < (s.surfComp u).h)

/-- The next output line of a surface waits for an intake, layer-store or host-memory line (08 R313). -/
def State.lineWaits (s : State) (u : Fin 2) : Bool := s.lineLeft u && (s.verdicts u).any (fun v => v.2.1.waits)

/-- The other surface has a line whose inputs are ready, and the compose side takes that line before one of surface u: its next frame
boundary comes sooner, or both fall at the same instant and it is its turn, surface 0's first (08 R296; DEDUCED, log entry 101). -/
def State.otherFirst (s : State) (u : Fin 2) : Bool :=
  let w : Fin 2 := 1 - u
  let a := (s.viewNow u).stop
  let b := (s.viewNow w).stop
  s.lineLeft w && !s.lineWaits w && (decide (b < a) || (a == b && s.fab.turn == w))

/-- The compose side has taken a line of surface u. -/
def State.takeTurn (u : Fin 2) (s : State) : State := { s with fab := { s.fab with turn := 1 - u } }

/-- The next output line of a surface is due (07 R277): composed, held up for a line that is still to come, behind a line of the other
surface (08 R296), or discarded by segments that wait for the next FSTART (08 R311). -/
def State.composeLine (u : Fin 2) (upsets : List Upset) (bundles : List (Fin 8 × Bundle)) (s : State) : State :=
  if !s.lineLeft u then s
  else
    let s := upsets.foldl (State.upset u (s.surf[u]).showBank) s
    let vs := s.verdicts u
    if vs.any (fun v => v.2.1.waits) then
      s.setComp u { s.comp[u] with waitIntake := vs.any (fun v => v.2.1 == .wait true) }
    else if s.otherFirst u then s
    else
      let s := s.takeTurn u
      if s.fab.discard then State.lineDone u (s.setComp u { s.comp[u] with discard := true })
      else s.composeReady u (s.comp[u]).line vs bundles

/-- The completions of reads for a surface's layers that this sample registers come first (07 R277). -/
def State.fetchesFirst (u : Fin 2) (s : State) : State :=
  s.takeFirst (fun c => match c with
    | .upstreamCompletion _ tag a =>
      if (slotsOf u).any (fun n => s.host.up.any (fun r => r.tag == tag && r.ofSlot n)) then some (State.completion tag a) else none
    | .lineFetchComplete _ n => if slotSurf n = u then some (State.fetchComplete n) else none
    | _ => none)

/-- COMPOSE_OUTPUT_LINE (07 R277): a completion of the same sample counts as returned. -/
def execComposeOutputLine (t : Nat) (u : Fin 2) (upsets : List Upset) (bundles : List (Fin 8 × Bundle)) (s : State) :
    Host.Outcome State Fault Refusal :=
  onCore t s (fun s => State.composeLine u upsets bundles (s.fetchesFirst u))

/-- The fabric has written every word of a surface's period (03 R75): no completion is signalled of a withheld one, or of one that has
lost lines (07 R285, 08 R311). -/
def State.frameComplete (u : Fin 2) (s : State) : State :=
  let c := s.comp[u]
  if !c.composing || decide (c.line < (s.surfComp u).h) then s
  else
    let s := s.setComp u { c with composing := false, waitIntake := false
                                  doneAt := if c.withheld || c.discard then none else c.doneAt.or (some s.now) }
    { s with surf := s.surf.set u { s.surf[u] with complete := (s.surf[u]).complete || !(c.withheld || c.discard) } }

/-- FRAME_COMPLETE (03 R75): nothing before the last output line is composed. -/
def execFrameComplete (t : Nat) (u : Fin 2) (s : State) : Host.Outcome State Fault Refusal :=
  onCore t s (State.once (.frameComplete t u) (State.frameComplete u))

/-! ### The period that begins (07 R275, R276; 08 R317) -/

/-- Slots of a surface at the start of a period: windows at the first output line (07 R275, R276). -/
def State.beginLayers (u : Fin 2) (s : State) : State :=
  (slotsOf u).foldl (fun (s : State) n =>
    let c := s.layerSet n
    let was := (s.layer[n]).urgent
    let s := s.setLayer n { top := c.sy0, nextLine := c.sy0 }
    if c.en && (s.comp[u]).composing then
      let top := s.nextTop n 0 c.sy0
      (s.setLayer n { s.layer[n] with top := top, nextLine := top, urgent := was }).urgency n
    else s) s

end Sys2Proof.Machine
end

