-- ==== Sys2Proof/Machine/LinkPoll.lean ====
section
/-! DEFINITION. The Silesta Array Link's polls and responses (04 R161–R184), array register requests, and LALERT
(05 R214–R218). -/

namespace Sys2Proof.Machine

open Sys2Proof

/-! ### Polls (04 R161–R167) -/

/-- The skein of an array has a lane in service (04 R161). -/
def State.reachable (s : State) (a : Fin 16) : Bool :=
  ((s.linkEntry a).map (fun e => (s.skein[skeinNo e.skein]).lmask != 0)).getD false

/-- Array numbers in round-robin order after one of them. -/
def afterArray (a : Fin 16) : List (Fin 16) := (List.range 16).map (fun i => Fin.ofNat 16 (a.val + 1 + i))

/-- The next array to poll on a return lane (04 R161). -/
def State.nextPoll (s : State) (b : Fin 2) : Option (Fin 16) :=
  (afterArray (s.ret[b]).last).find? (fun a =>
    ((s.linkEntry a).map (fun e => e.ret == b.val)).getD false && s.reachable a)

/-- The array register request is a read of this array. -/
def State.reads (s : State) (a : Fin 16) : Bool := s.areq.busy && !s.areq.write && s.areq.addr == a

/-- KIND of the next poll of an array (04 R163). -/
def State.pollKind (s : State) (a : Fin 16) : Nat := if !(s.arr[a]).ready then 1 else if s.reads a then 2 else 0

/-- A POLL of an array on return lane b; REG is read from AL_AREG as the row leaves (DESIGN CHOICE, log entry 99). -/
def State.poll (b : Fin 2) (a : Fin 16) (s : State) : State :=
  match s.linkEntry a with
  | none => s
  | some e =>
    let x := s.arr[a]
    let r := s.ret[b]
    let kind := s.pollKind a
    let reg := if kind = 2 then fld (rget s.regs Reg.AL_AREG) 0 16 else 0
    let p : Poll := { addr := a, kind := BitVec.ofNat 2 kind, pseq := r.pseq, aen := bit s.glade.aenRb e.aen, sent := s.now }
    let k := skeinNo e.skein
    let s := s.sendRow k (s.skein[k]).lmask (.poll a.val kind x.wack r.pseq x.fack.toNat reg)
    let s := s.setRet b { r with last := a, pseq := r.pseq + 1, poll := some p }
    if s.reads a then { s with areq := { s.areq with polls := s.areq.polls + 1 } } else s

/-- A poll of an array that is still polled on its return lane is outstanding. -/
def State.pollOut (s : State) (b : Fin 2) : Bool :=
  (s.ret[b]).poll.any (fun p => ((s.linkEntry p.addr).map (fun e => e.ret == b.val)).getD false)

/-- The next array of a return lane is polled, unless a poll is outstanding. -/
def State.pollNext (b : Fin 2) (s : State) : State :=
  if s.pollOut b then s
  else match s.nextPoll b with
    | none => s
    | some a => s.poll b a

/-- POLL_INTERVAL (04 R161). -/
def execPollInterval (t : Nat) (b : Fin 2) (s : State) : Host.Outcome State Fault Refusal :=
  onCore t s (State.pollNext b)

/-! ### Missing polls (04 R171) -/

/-- Surface of an entry. -/
def ArrEntry.u (e : ArrEntry) : Fin 2 := if e.surf = 0 then 0 else 1

/-- A surface of the array is driven: that of its entry. -/
def State.arrayDriven (s : State) (a : Fin 16) : Bool := ((s.linkEntry a).map (fun e => s.driven e.u)).getD false

/-- The array register request ends with TIMEOUT, and with DONE (DESIGN CHOICE, log entry 99), after three polls of the array (04
R183). -/
def State.regTimeout (a : Fin 16) (s : State) : State :=
  s.when (s.reads a && decide (3 ≤ s.areq.polls)) (fun s =>
    { s with areq := { s.areq with busy := false, done := true, timeout := true } }.report [.raise Src.AL_REGTO, Note.hit Reg.AL_ASTAT 6])

/-- The third consecutive missing poll of an array (04 R171, R184). -/
def State.arrayLost (a : Fin 16) (s : State) : State :=
  let x := s.arr[a]
  let d := s.arrayDriven a
  let s := (s.setArr a { x with ready := false, based := false, inLost := x.inLost || d, inNorsp := x.inNorsp || !d }).report
    (noteIf (d && !x.inLost) [.raise Src.AL_LOST] ++ noteIf (!d && !x.inNorsp) [.raise Src.AL_NORSP])
  State.atemp a s

/-- The skein of an array is idle (05 R210). -/
def State.arrayIdle (s : State) (a : Fin 16) : Bool := ((s.linkEntry a).map (fun e => s.skeinIdle e.skein)).getD false

/-- A poll is missing (04 R167, R171): it counts nothing for an array of an idle skein (05 R210). -/
def State.pollMissing (b : Fin 2) (s : State) : State :=
  match (s.ret[b]).poll with
  | none => s
  | some p =>
    let s := s.setRet b { s.ret[b] with poll := none }
    let x := s.arr[p.addr]
    if s.arrayIdle p.addr then s.setArr p.addr { x with fack := 0, wack := false }
    else
      let n := min 3 (x.misses + 1)
      let s := (s.setArr p.addr { x with misses := n, fack := 0, wack := false }).report [.tally Reg.AL_MISS 1]
      State.regTimeout p.addr (s.when (decide (n = 3)) (State.arrayLost p.addr))

/-- A response on the return lane is registered in this sample (12 R438). -/
def State.responding (s : State) (b : Fin 2) : Bool :=
  s.awaits (fun c => match c with
    | .statusResponse _ r _ => r == b
    | .identityResponse _ r _ => r == b
    | .registerReadResponse _ r _ => r == b
    | _ => false)

/-- MISSING_POLL (04 R171): a response of the same sample is judged by itself. -/
def execMissingPoll (t : Nat) (b : Fin 2) (s : State) : Host.Outcome State Fault Refusal :=
  onCore t s (fun s => s.when (!s.responding b) (State.pollMissing b))

/-! ### Acceptance of a response (04 R164) -/

/-- A response cut into header, data blocks and end block. -/
def splitResponse : List Block → Option (Block × List Block × Block)
  | h :: r => match r.getLast? with
    | some e => some (h, r.dropLast, e)
    | none => none
  | [] => none

/-- Data blocks that a response of a KIND carries (04 R165). -/
def kindFits (kind n : Nat) : Bool :=
  match kind with
  | 0 => decide (2 ≤ n) && decide (n ≤ 10)
  | 1 => n == 2
  | 2 => n == 1
  | _ => false

/-- The check of a response from an array is armed (16 R582). -/
def State.spoilsReturn (s : State) (a : Fin 16) : Bool := s.injMode 10 != 0 && s.flt.inj.addr.toNat == a.val

/-- The CRC-32 of a response is valid; an armed check inverts it (16 R582). -/
def State.crcFits (s : State) (a : Fin 16) (l : List Block) (e : Block) : Bool :=
  (fld e 32 32 == packetCrc l) != s.spoilsReturn a

/-- Data blocks of an accepted response (04 R164, R165). -/
def State.acceptable (s : State) (p : Poll) (l : List Block) : Option (List Block) :=
  match splitResponse l with
  | none => none
  | some (h, d, e) =>
    if fld h 0 8 = 0x40 ∧ fld e 0 8 = 0x41 ∧ s.crcFits p.addr l e = true ∧ fld h 8 4 = p.addr.val ∧ fld e 8 4 = p.addr.val ∧
        fld h 16 8 = p.pseq.toNat ∧ fld e 16 8 = p.pseq.toNat ∧ fld h 12 2 = p.kind.toNat ∧
        fld h 24 4 + 1 = d.length ∧ kindFits p.kind.toNat d.length = true ∧
        s.now ≤ p.sent + fld (s.active Reg.AL_POLL) 0 6 * usec then some d
    else none

/-- What a discarded response or return block counts and raises (04 R132, R164). -/
def retErr : List Note := [.tally Reg.AL_RETERR 1, .raise Src.AL_RETERR]

/-- A response is discarded: the poll outstanding is a missing one (04 R164). -/
def State.discardReturn (b : Fin 2) (s : State) : State := State.pollMissing b (s.report retErr)

/-- The first block after lock has passed (05 R190). -/
def State.pastFirst (b : Fin 2) (s : State) : State := s.setRet b { s.ret[b] with fresh := false }

/-- The blocks of a return lane that stand outside an accepted response: IDLE and ordered sets are ignored, a response is discarded
whole, and every other block is discarded by itself; of the first block after lock nothing is known (04 R132, R133, R164; 05 R190,
R192). -/
def State.discardBlocks (b : Fin 2) (l : List Block66) (s : State) : State :=
  match (if (s.ret[b]).fresh then l.drop 1 else l).filter (fun x => !ignoredBlock x) with
  | [] => s.pastFirst b
  | h :: r =>
    if h.ctrl ∧ fld h.d 0 8 = 0x40 then (s.pastFirst b).discardReturn b
    else (s.pastFirst b).report ((h :: r).flatMap (fun _ => retErr))

/-! ### Status responses (04 R165–R168, R172–R176) -/

/-- Mod-256 differences of the three counters of a status response that are not 0, as notes (04 R166, R184). -/
def countNotes (a0 a1 b0 b1 : Block) : List Note :=
  let f := fun (old new lo : Nat) (r : Nat) (src : Fin 171) =>
    let d := (new / 2 ^ lo % 256 + 256 - old / 2 ^ lo % 256) % 256
    noteIf (d != 0) [.tally r d, .raise src]
  f a0.toNat b0.toNat 48 Reg.AL_CRCERR Src.AL_CRCERR ++ f a0.toNat b0.toNat 56 Reg.AL_SHOWERR Src.AL_SHOWERR ++
    f a1.toNat b1.toNat 16 Reg.AL_CMDERR Src.AL_CMDERR

/-- Emitter that a fault entry names in its array's map entry (03 R96, 04 R144, R168). -/
def faultEmitter (e : ArrEntry) (surfMode : Bool) (f : Block) : Option Nat :=
  let ax := fld f 0 12
  let ay := fld f 12 12
  let pos := fld f 24 2
  let kind := fld f 26 3
  let k := colours surfMode
  if ax < e.w ∧ ay < e.h ∧ pos < k ∧ 1 ≤ kind ∧ kind ≤ 4 then
    some (e.base + ay * (e.w * k) + ax * k + (if k = 3 then e.colour 3 pos else 0))
  else none

/-- An accepted fault entry (04 R168, 03 R93, R96). -/
def State.faultEntry (e : ArrEntry) (s : State) (f : Block) : State :=
  let s := s.report ([.tally Reg.AL_EMFLT 1, .raise Src.AL_EMFLT] ++ noteIf (fld f 26 3 == 3) [.raise Src.AL_EMSTUCK])
  match faultEmitter e (s.entryMode e) f with
  | none => s
  | some n => s.when (bit (s.shown e.u (Reg.ST_CTRL e.u)) 12) (State.setHealth n)

/-- No lane locked while AEN is high (04 R172, R175). -/
def deadChain (w0 : Block) : Bool := fld w0 8 8 == 0 && bit w0 6

/-- Conditions of an array after an accepted status response, with what they raise (04 R172, R173, R184). -/
def State.statusFlags (x : ArrayLink) (driven aen : Bool) (w0 : Block) : ArrayLink × List Note :=
  let well := !bit w0 7 && !deadChain w0
  let lost := driven && (bit w0 7 || deadChain w0)
  let mis := if bit w0 6 != aen then min 2 (x.aenMis + 1) else 0
  ({ x with
      aenMis := mis, inLost := (x.inLost && !well) || lost, inNorsp := x.inNorsp && !well, inAenmis := mis == 2
      inFqovf := bit w0 16, inOvertemp := bit w0 17 },
    noteIf (lost && !x.inLost) [.raise Src.AL_LOST] ++
    noteIf (mis == 2 && !x.inAenmis && x.aenMis != 2) [.raise Src.AL_AENMIS] ++
    noteIf (bit w0 16 && !x.inFqovf) [.raise Src.AL_FQOVF] ++ noteIf (bit w0 17 && !x.inOvertemp) [.raise Src.AL_OVERTEMP])

/-- What an accepted status response (cause 4) or alert (cause 3) says of one lane of its skein (04 R174, R176;
05 R211): an alert confirms nothing, and takes back what the array has confirmed (05 R218); `some` when it reports a lane locked. -/
def State.laneReport (a : Fin 16) (mask : Nat) (some : Bool) (cause : Nat) (s : State) (l : Fin 8) : State :=
  let x := s.lane[l]
  let up := Nat.testBit mask (s.laneNo l)
  if x.st = .hold then
    if cause = 4 then
      if up then s.setLane l { x with conf := setBit x.conf a.val }
      else s.when (x.from_ == .hold) (State.enterDown l 4 a.val)
    else s.when (!up && some) (State.setLane l { x with conf := clearBit x.conf a.val })
  else s.when (!up && some && x.st == .service && bit (s.skein[s.laneSkein l]).lmask (s.laneNo l)) (State.loseLane l cause a.val)

/-- A LOCKMASK reported by an array, over the lanes of its skein. -/
def State.lockReport (e : ArrEntry) (mask : Nat) (some : Bool) (cause : Nat) (s : State) : State :=
  (skeinLanes s.active e.skein).foldl (State.laneReport e.n mask some cause) s

/-- LOCKMASK of a status response, with what an alert of the same sample has reported unlocked (05 R218): samples are taken as ticks
(DESIGN CHOICE, log entry 98). -/
def State.maskWith (s : State) (x : ArrayLink) (mask : Nat) : Nat :=
  match x.alert with
  | some (t, m) => if t = s.now / tick then mask &&& m.toNat else mask
  | none => mask

/-- An accepted status response. -/
def State.acceptStatus (p : Poll) (d : List Block) (s : State) : State :=
  match s.linkEntry p.addr with
  | none => s
  | some e =>
    let w0 := d.getD 0 0
    let w1 := d.getD 1 0
    let faults := d.drop 2
    let x := s.arr[p.addr]
    let y := State.statusFlags x (s.driven e.u) p.aen w0
    let counts := noteIf x.based (countNotes x.w0 x.w1 w0 w1)
    let z : ArrayLink := { y.1 with w0 := w0, w1 := w1, based := true, misses := 0 }
    let z := { z with fack := BitVec.ofNat 4 faults.length, wack := bit w0 7 }
    let s := (s.setArr p.addr z).report (counts ++ y.2 ++ [Note.hit (Awaited.status p.addr).key 1])
    let s := faults.foldl (State.faultEntry e) s
    let s := State.atemp p.addr { s with tile := { s.tile with fresh := setBit s.tile.fresh p.addr.val } }
    s.lockReport e (s.maskWith x (fld w0 8 8)) (fld w0 8 8 != 0) 4

/-! ### Identity (04 R170) -/

/-- An identity meets R170 for an entry. -/
def identityFits (e : ArrEntry) (surfMode : Bool) (width : Nat) (i0 i1 : Block) : Bool :=
  fld i0 36 4 == 1 && fld i0 44 3 == (if surfMode then 1 + e.corder else 0) && fld i1 0 13 == e.w && fld i1 16 13 == e.h &&
    decide (width ≤ fld i1 32 4)

/-- The RANGE rows of an array: those of its active entry, and those of the profile's entry for it (04 R178, R180). -/
def State.arrayRanges (s : State) (a : Fin 16) : List (Fin 4 × Row) :=
  let f := fun (e : ArrEntry) (q : Nat) => (rangeRows e q).map (fun r => (skeinNo e.skein, r))
  ((gprEntries s.glade.gpr).filter (fun e => e.n == a)).flatMap (fun e => f e (ratioOf (gprMod s.glade.gpr e.surf).qSel)) ++
  ((entriesOf s.active).filter (fun e => e.n == a)).flatMap (fun e =>
    f e (ratioOf (modOf (s.active (Reg.ST_MOD e.surf))).qSel))

/-- Rows sent one after another, each on its skein's lanes in service. -/
def State.sendRows (l : List (Fin 4 × Row)) (s : State) : State :=
  l.foldl (fun (s : State) x => s.sendRow x.1 (s.skein[x.1]).lmask x.2) s

/-- An accepted identity response (04 R170, R178; 20 R698): the array counts as identified even where its content fails R170 (DESIGN
CHOICE, log entry 99), and of an idle skein it is not READY (05 R210). -/
def State.acceptIdentity (p : Poll) (d : List Block) (s : State) : State :=
  match s.linkEntry p.addr with
  | none => s
  | some e =>
    let i0 := d.getD 0 0
    let i1 := d.getD 1 0
    let fits := identityFits e (s.entryMode e) (skeinLanes s.active e.skein).length i0 i1
    let x := s.arr[p.addr]
    let ready := fits && !s.arrayIdle p.addr
    let z : ArrayLink := { x with ready := ready, ident := true, misses := 0, id0 := i0, id1 := i1, fack := 0 }
    let s := s.setArr p.addr { z with wack := false, based := false, readyAt := s.now }
    if fits then State.atemp p.addr (s.sendRows (s.arrayRanges p.addr))
    else s.report [.raise Src.AL_IDMIS]

/-! ### Register reads (04 R163, R183) -/

/-- An accepted register-read response: FACK and WACK are 0 after it, as after an identity (DESIGN CHOICE, log entry 99). -/
def State.acceptRegister (p : Poll) (d : List Block) (s : State) : State :=
  let x := s.arr[p.addr]
  let s := s.setArr p.addr { x with misses := 0, fack := 0, wack := false }
  s.when (s.reads p.addr) (fun s =>
    State.hit Reg.AL_ASTAT 2
      { s with areq := { s.areq with busy := false, done := true, rdata := BitVec.ofNat 16 (fld (d.getD 0 0) 16 16) } })

/-- What arrives as a response on a return lane: accepted by its KIND, or discarded (04 R164). The request of a register
read ends after three polls without one. -/
def State.receive (b : Fin 2) (l : List Block) (s : State) : State :=
  let s := s.pastFirst b
  match (s.ret[b]).poll with
  | none => s.discardReturn b
  | some p =>
    let r := s.acceptable p l
    let s := s.when (s.spoilsReturn p.addr) (State.useInj 10)
    match r with
    | none => s.discardReturn b
    | some d =>
      let s := s.setRet b { s.ret[b] with poll := none }
      let s := if p.kind = 0 then s.acceptStatus p d else if p.kind = 1 then s.acceptIdentity p d else s.acceptRegister p d
      s.regTimeout p.addr

/-- IDENTITY_RESPONSE (04 R170). -/
def execIdentityResponse (t : Nat) (b : Fin 2) (blocks : List Block) (s : State) : Host.Outcome State Fault Refusal :=
  onCore t s (State.receive b blocks)

/-- REGISTER_READ_RESPONSE (04 R163). -/
def execRegisterReadResponse (t : Nat) (b : Fin 2) (blocks : List Block) (s : State) : Host.Outcome State Fault Refusal :=
  onCore t s (State.receive b blocks)

/-- RETURN_BLOCK_DISCARD (04 R132, R164). -/
def execReturnBlockDiscard (t : Nat) (b : Fin 2) (blocks : List Block66) (s : State) : Host.Outcome State Fault Refusal :=
  onCore t s (State.discardBlocks b blocks)

/-! ### Array register requests (04 R142, R183) -/

/-- A write to AL_ACMD: ignored while BUSY, and in the sample of the completion that clears BUSY (04 R183). -/
def State.writeAcmd (v : Word) (s : State) : State :=
  if s.areq.busy || s.hasCome Reg.AL_ASTAT then s
  else
    let r : ArrayReq := { s.areq with busy := true, write := !bit v 4, addr := Fin.ofNat 16 (fld v 0 4), polls := 0 }
    State.sendArw { s with areq := r }

/-- ARRAY_REG_WRITE (04 R142). -/
def execArrayRegWrite (t : Nat) (req : Req) (v : Word) (s : State) : Host.Outcome State Fault Refusal :=
  onCore t s (State.access req 0x38 (State.writeAcmd v))

/-- ARRAY_REG_READ (04 R163). -/
def execArrayRegRead (t : Nat) (req : Req) (v : Word) (s : State) : Host.Outcome State Fault Refusal :=
  onCore t s (State.access req 0x38 (State.writeAcmd v))

/-! ### LALERT (05 R215) -/

/-- Array of an acceptable LALERT on return lane b. -/
def State.alertArray (s : State) (b : Fin 2) (blk : Block) : Option ArrEntry :=
  let a : Fin 16 := Fin.ofNat 16 (fld blk 8 4)
  if fld blk 0 8 = 0x05 ∧ Block.crcOk blk = true ∧ (s.arr[a]).aseq ≠ some (BitVec.ofNat 8 (fld blk 20 8)) then
    (s.linkEntry a).filter (fun e => e.ret == b.val)
  else none

/-- A LALERT. -/
def State.alert (b : Fin 2) (blk : Block) (s : State) : State :=
  match s.alertArray b blk with
  | none => s.report retErr
  | some e =>
    let mask := BitVec.ofNat 8 (fld blk 12 8)
    let s := (s.setArr e.n { s.arr[e.n] with aseq := some (BitVec.ofNat 8 (fld blk 20 8)), alert := some (s.now / tick, mask) }).report
      [.tally (Reg.BL_ALERT b.val) 1]
    s.lockReport e mask.toNat (mask != 0) 3

end Sys2Proof.Machine
end

