-- ==== Sys2Proof/Machine/Commit.lean ====
section
/-! DEFINITION. The commit and the boundary of the time base: arming, ownership of settings, judgement, acceptance
(11 R396–R417). -/

namespace Sys2Proof.Machine

open Sys2Proof

/-! ### Shadowed settings -/

/-- Address of a shadow copy. -/
def isShadow (a : Nat) : Bool :=
  decide (a < 0x100000) && decide (a % 0x1000 < 0x800) && ((regRow a).map (fun r => r.sh)).getD false

/-- Shadow words of a register file. -/
def shadowOnly (f : RegFile) : RegFile := f.filter (fun x => isShadow x.1)

/-- Addresses of the shadowed registers of a page. -/
def shadowsOf (page : Nat) : List Nat :=
  (regRows.filter (fun r => r.sh)).flatMap (fun r =>
    if r.addr / 0x1000 ≤ page ∧ page < r.addr / 0x1000 + r.pages then
      (List.range r.n).map (fun i => page * 0x1000 + r.addr % 0x1000 + r.stride * i)
    else [])

/-- Pages that hold shadowed registers. -/
def shadowPages : List Nat :=
  (regRows.filter (fun r => r.sh)).foldl (fun l r =>
    (List.range r.pages).foldl (fun l i => insertNat (r.addr / 0x1000 + i) l) l) []

/-! ### Ownership (11 R410) -/

/-- Both surfaces. -/
def bothSurfaces : BitVec 2 := 3

/-- One surface, as a mask. -/
def oneSurface (u : Nat) : BitVec 2 := BitVec.ofNat 2 (2 ^ (u % 2))

/-- The surfaces of a list; both where it names none. -/
def surfacesOr (l : List Nat) : BitVec 2 := if l.isEmpty then bothSurfaces else l.foldl (fun m u => m ||| oneSurface u) 0

/-- Surfaces of the enabled entries that name a skein which lane l is in, in two readings. -/
def laneSurfaces (old new : Nat → Word) (l : Nat) : BitVec 2 :=
  let ks := ([old, new].filter (fun f => (laneAt f l).en)).map (fun f => (laneAt f l).skein)
  surfacesOr ((([old, new].flatMap entriesOf).filter (fun e => ks.contains e.skein)).map (fun e => e.surf))

/-- Surfaces of the enabled entries for array n, in two readings. -/
def budgetSurfaces (old new : Nat → Word) (n : Nat) : BitVec 2 :=
  surfacesOr ((([old, new].flatMap entriesOf).filter (fun e => e.n.val == n)).map (fun e => e.surf))

/-- Surfaces that a SURF bit of a register names, in two readings. -/
def namedSurfaces (old new : Nat → Word) (a b : Nat) : BitVec 2 := surfacesOr [fld (old a) b 1, fld (new a) b 1]

/-- Surfaces that the setting at a shadow address belongs to, where the commit would change `old` into `new`. -/
def ownersOf (old new : Nat → Word) (a : Nat) : BitVec 2 :=
  let p := a / 0x1000
  let o := a % 0x1000
  if p = 0x01 ∨ p = 0x38 ∨ p = 0x3E ∨ a = Reg.FB_MCFG 0 then bothSurfaces
  else if 0x04 ≤ p ∧ p < 0x08 then namedSurfaces old new (Reg.IN_SCFG (p - 0x04)) 7
  else if 0x10 ≤ p ∧ p < 0x20 then oneSurface ((p - 0x10) / 8)
  else if 0x30 ≤ p ∧ p < 0x38 then laneSurfaces old new (p - 0x30)
  else if p = 0x3C then namedSurfaces old new (Reg.AM_CFG ((o - 0x100) / 0x10)) 1
  else if Reg.LB_BUDGET 0 ≤ a ∧ a < Reg.LB_BUDGET 16 then budgetSurfaces old new ((a - Reg.LB_BUDGET 0) / 4)
  else if Reg.CR_WORG 0 ≤ a ∧ a < Reg.CR_WORG 4 then namedSurfaces old new (Reg.CR_WSIZE ((a - Reg.CR_WORG 0) / 8)) 30
  else if p = 0x20 ∨ p = 0x21 ∨ p = 0x24 ∨ p = 0x25 then oneSurface p
  else if a = Reg.SH_SORG 0 ∨ a = Reg.SH_SEND 0 then oneSurface 0
  else if a = Reg.SH_SORG 1 ∨ a = Reg.SH_SEND 1 then oneSurface 1
  else if p = 0x41 then oneSurface (o / 8)
  else if Reg.ST_ORD 0 ≤ a ∧ a < Reg.ST_ORD 416 then oneSurface ((a - Reg.ST_ORD 0) / 832)
  else oneSurface (o / 4)

/-- Shadow words that the state holds. -/
def State.shadow (s : State) (a : Nat) : Word := rget s.regs a

/-- Shadow words with one replaced. -/
def withWord (f : Nat → Word) (a : Nat) (v : Word) (b : Nat) : Word := if b = a then v else f b

/-- A write of a shadow word is discarded: its setting belongs to a surface of the commit in progress (11 R412). -/
def State.locked (s : State) (a : Nat) (v : Word) : Bool :=
  s.cmt.st != .idle && (((ownersOf s.active s.shadow a ||| ownersOf s.active (withWord s.shadow a v) a) &&& s.cmt.smask) != 0)

/-- PEND of PG_SHADOW (11 R412). -/
def State.pagePend (s : State) (page : Nat) : Bool :=
  s.cmt.st != .idle && (shadowsOf page).any (fun a => (ownersOf s.active s.shadow a &&& s.cmt.smask) != 0)

/-! ### Arming (11 R411) -/

/-- A write to TOP_COMMIT. -/
def State.writeCommit (v : Word) (s : State) : State :=
  if fld v 16 16 ≠ 0x6B1D then ({ s with cmt := { s.cmt with keyErr := true } }).hit Reg.TOP_CMT_STAT 0x100
  else if s.cmt.st ≠ .idle ∨ fld v 0 2 = 0 then ({ s with cmt := { s.cmt with armErr := true } }).hit Reg.TOP_CMT_STAT 0x200
  else { s with cmt := { s.cmt with
    st := .armed, smask := BitVec.ofNat 2 (fld v 0 2), armedAt := s.now, snap := shadowOnly s.regs } }

/-- TOP_COMMIT (11 R411). -/
def execTopCommit (t : Nat) (req : Req) (v : Word) (s : State) : Host.Outcome State Fault Refusal :=
  onCore t s (State.access req 0x00 (State.writeCommit v))

/-! ### The state a commit is judged against (11 R413) -/

/-- The fallback profile's settings are in force for surface u before the first commit (03 R104). -/
def State.profileRules (s : State) (u : Nat) : Bool := !s.cmt.accepted && s.glade.hasGpr && gprEn s.glade.gpr u

/-- The modulation in force for surface u, before the degrade rule. -/
def State.modJudged (s : State) (u : Fin 2) : ModSet :=
  if s.profileRules u.val then gprMod s.glade.gpr u.val else modOf (s.active (Reg.ST_MOD u.val))

/-- Effective S of the latest decision for surface u, under the settings that a commit finds in force, and its excluded skeins
(01 R39; 03 R63, R116). -/
def State.lastDecision (s : State) (u : Fin 2) : Nat × BitVec 4 :=
  let x := s.surf[u]
  match x.decided with
  | some d => ((if s.profileRules u.val then d.sEff else d.own).toNat, d.excl)
  | none => ((if s.profileRules u.val then x.sEff else x.own).toNat, s.exclNow)

/-- The effective S that a commit is judged at (03 R116). -/
def State.sJudged (s : State) (u : Fin 2) : Nat := min (s.lastDecision u).1 (s.modJudged u).sSel

/-- The enabled entries of surface u in force. -/
def State.entriesJudged (s : State) (u : Fin 2) : List ArrEntry :=
  if s.profileRules u.val then (gprEntries s.glade.gpr).filter (fun e => e.surf == u.val) else s.activeEntries u

/-- Surface u would be driven from the show bank. -/
def drivesIn (f : Nat → Word) (u : Nat) : Bool := bit (f (Reg.ST_CTRL u)) 0 && (entriesOf f).any (fun e => e.surf == u)

/-- Surface u is driven, by number. -/
def State.drivenNo (s : State) (u : Nat) : Bool := s.driven (Fin.ofNat 2 u)

/-! ### TIMING, code 3 (11 R422, R423) -/

/-- NOMPER, GL_EN, MULT, ACC or DELAY differ. -/
def periodChange (new old : Nat → Word) : Bool :=
  new Reg.TM_PER != old Reg.TM_PER || (new Reg.TM_GLCFG &&& 0xFF0D) != (old Reg.TM_GLCFG &&& 0xFF0D) ||
    new Reg.TM_GLDLY != old Reg.TM_GLDLY

/-- OFS_u of a driven surface differs. -/
def State.offsetChange (s : State) (new : Nat → Word) : Bool :=
  surfaces.any (fun u => s.driven u && ofsOf new u.val != ofsOf s.active u.val)

/-- A surface is in beam mode that is driven or would be. -/
def State.beamDriven (s : State) (new : Nat → Word) : Bool :=
  surfaces.any (fun u => (s.driven u && (!(s.surfShown u).surfMode || !(s.surfNow u).surfMode)) ||
    (drivesIn new u.val && !(surfIn new u.val).surfMode))

/-- HARD of a commit that makes a timing change. -/
def State.hardChange (s : State) (new : Nat → Word) : Bool :=
  bit (new Reg.TM_MODE) 0 && (periodChange new s.active || s.offsetChange new)

/-- The conditions of code TIMING. -/
def State.timingFails (s : State) (new : Nat → Word) : List (Nat × Nat) :=
  failIf ((s.offsetChange new && !bit (new Reg.TM_MODE) 0) || (s.hardChange new && s.beamDriven new)) 3 0x01

/-! ### SKEIN, code 5, against the state -/

/-- EN, SKEIN and RATE of a lane. -/
def LaneSet.place (c : LaneSet) : Bool × Nat × Nat := (c.en, c.skein, c.rate)

/-- Skeins of driven surfaces, in force and under the commit (05 R207). -/
def State.drivenSkeins (s : State) (new : Nat → Word) : List Nat :=
  ((s.drivingAll ++ entriesOf s.active ++ entriesOf new).filter (fun e => s.drivenNo e.surf)).map (fun e => e.skein)

/-- EN, SKEIN or RATE of a lane of a driven surface's skein changes (05 R207). -/
def State.movesDriven (s : State) (new : Nat → Word) (l : Fin 8) : Bool :=
  let a := laneAt s.active l.val
  let b := laneAt new l.val
  let ks := s.drivenSkeins new
  a.place != b.place && ((a.en && ks.contains a.skein) || (b.en && ks.contains b.skein))

/-- A lane departs from the profile in a skein that the profile names (05 R208). -/
def departs (gpr : List Byte) (new : Nat → Word) (l : Fin 8) : Bool :=
  let p := laneOf (gprLane gpr l.val)
  let b := laneAt new l.val
  let ks := gprSkeins gpr
  ((p.en && ks.contains p.skein) || (b.en && ks.contains b.skein)) && b.place != p.place

/-- EN and RATE of a return lane. -/
def retPlace (v : Word) (b : Nat) : Nat × Nat := (fld v (4 * b) 1, fld v (4 * b + 2) 2)

/-- A return lane departs from the profile that names it (05 R208). -/
def retDeparts (gpr : List Byte) (new : Nat → Word) (b : Nat) : Bool :=
  (gprEntries gpr).any (fun e => e.ret == b) && retPlace (new Reg.BL_CFG) b != retPlace (gprRet gpr) b

/-- The conditions of code SKEIN. -/
def State.skeinFails (s : State) (new : Nat → Word) : List (Nat × Nat) :=
  let g := s.glade.gpr
  groupFails new ++ idleFails new g (fun u => s.drivenNo u || drivesIn new u) ++
  outLanes.flatMap (fun l => failIf (s.movesDriven new l || (s.glade.hasGpr && departs g new l) ||
    ((laneAt new l.val).en && (s.lane[l]).st == .loop)) 5 (0x30 + l.val)) ++
  failIf (s.glade.hasGpr && (retDeparts g new 0 || retDeparts g new 1)) 5 0x3E

/-! ### PLANELOAD, code 6, and RETRAIN, code 7 -/

/-- The smaller of two P_min (11 R400). -/
def lesserMin (a b : Nat × Nat) : Nat × Nat := if a.1 * b.2 ≤ b.1 * a.2 then a else b

/-- Line rate that a reading gives, in Mb/s. -/
def rateIn (f : Nat → Word) : Nat := laneRate (((lanesIn f).head?.map (fun n => (laneAt f n.val).rate)).getD 7)

/-- Lanes that the commit newly enables in a skein (23 R748). -/
def State.freshLanes (s : State) (new : Nat → Word) (k : Nat) : List (Fin 8) :=
  (skeinLanes new k).filter (fun l => !(laneAt s.active l.val).en || (laneAt s.active l.val).skein != k)

/-- Lanes of a skein counted as in service (23 R748). -/
def State.lanesJudged (s : State) (new : Nat → Word) (k : Nat) : Nat :=
  ((s.serviceLanes k).filter (fun l => (skeinLanes new k).contains l)).length + (s.freshLanes new k).length

/-- The commit changes a skein's lanes or an enabled entry that names it (02 R63). -/
def State.touches (s : State) (new : Nat → Word) (k : Nat) : Bool :=
  outLanes.any (fun l => new (Reg.SK_LCFG l.val) != s.active (Reg.SK_LCFG l.val) &&
    ((skeinLanes new k).contains l || (skeinLanes s.active k).contains l)) ||
  (entriesOf s.active).filter (fun e => e.skein == k) != (entriesOf new).filter (fun e => e.skein == k)

/-- Plane loads of surface u's skeins under the commit, those excluded left out (02 R63). -/
def State.loadsJudged (s : State) (new : Nat → Word) (u : Fin 2) : List LoadTime :=
  let es := (entriesOf new).filter (fun e => e.surf == u.val)
  let out := (s.lastDecision u).2
  (skeins.filter (fun k => es.any (fun e => e.skein == k.val) && (!bit out k.val || s.touches new k.val))).map (fun k =>
    loadTime (emittersOn es k.val (surfIn new u.val).k) (s.lanesJudged new k.val) (rateIn new))

/-- A plane load fits 02 R62; without a lane it fits nothing. -/
def loadOk (m : ModSet) (p : Nat × Nat) (l : LoadTime) : Bool := l.den != 0 && loadFits m p.1 p.2 l

/-- S, q and DROP of a modulation (02 R65). -/
def ModSet.steps (m : ModSet) : Nat × Nat × Nat := (m.sSel, m.qSel, m.drop)

/-- Fields of ST_MOD that R64 names change from those in force, or the surface's array map does. -/
def State.reshapes (s : State) (new : Nat → Word) (u : Fin 2) : Bool :=
  let m := modOf (new (Reg.ST_MOD u.val))
  m.steps != (s.modJudged u).steps || m.guard != (s.modJudged u).guard ||
    (entriesOf new).filter (fun e => e.surf == u.val) != s.entriesJudged u

/-- Surface u breaks 02 R63 or R64 (03 R116). -/
def State.loadBad (s : State) (new : Nat → Word) (u : Fin 2) : Bool :=
  let m := modOf (new (Reg.ST_MOD u.val))
  let old := s.modJudged u
  let c := timeSet new
  let p := lesserMin s.timing.pmin c.pmin
  let ls := s.loadsJudged new u
  let mNew := m.atS (if m.sSel = old.sSel then s.sJudged u else m.sSel)
  m.ok && c.ok && (ls.any (fun l => !loadOk mNew p l) ||
    (s.reshapes new u && old.ok && ls.any (fun l => !loadOk (old.atS (s.sJudged u)) p l)))

/-- STRICT of surface u would be broken (10 R388). -/
def State.strictBad (s : State) (new : Nat → Word) (u : Fin 2) : Bool :=
  let m := modOf (new (Reg.ST_MOD u.val))
  let c := timeSet new
  let h := shadeSet new u.val
  let p := c.pmin
  m.ok && c.ok && h.strict && h.en && (s.loadsJudged new u).any (fun l => l.den == 0 || !strictFast m h.splice p.1 p.2 l)

/-- The fallback profile breaks 02 R62 under the new timing settings (11 R401). -/
def State.profileLoadBad (s : State) (new : Nat → Word) : Bool :=
  let g := s.glade.gpr
  let c := timeSet new
  c.ok && s.glade.hasGpr && surfaces.any (fun u => gprEn g u.val && skeins.any (fun k =>
    let n := emittersOn ((gprEntries g).filter (fun e => e.surf == u.val)) k.val (gprSize g u.val).k
    n != 0 && (!bit (s.lastDecision u).2 k.val || s.touches new k.val) &&
      !loadOk (gprMod g u.val) c.pmin (loadTime n (s.serviceLanes k.val).length (s.skeinRate k.val))))

/-- The conditions of code PLANELOAD. -/
def State.loadFails (s : State) (new : Nat → Word) : List (Nat × Nat) :=
  failIf (surfaces.any (s.loadBad new)) 6 0x2C ++ failIf (surfaces.any (s.strictBad new)) 6 0x28 ++
  failIf (s.profileLoadBad new) 6 0x01

/-- A skein is retraining (02 R65). -/
def State.retraining (s : State) (k : Nat) : Bool :=
  (skeinLanes s.active k).any (fun l => (s.lane[l]).st == .train || (s.lane[l]).st == .hold)

/-- The conditions of code RETRAIN (02 R65). -/
def State.retrainFails (s : State) (new : Nat → Word) : List (Nat × Nat) :=
  failIf (surfaces.any (fun u =>
    (modOf (new (Reg.ST_MOD u.val))).steps != (s.modJudged u).steps &&
      ((entriesOf new).filter (fun e => e.surf == u.val) ++ s.entriesJudged u).any (fun e => s.retraining e.skein))) 7 0x2C

/-! ### Judgement (11 R413–R416) -/

/-- Settings that a commit of the shadow words `f` would change, with the surfaces they belong to. -/
def State.changes (s : State) (f : RegFile) : List (Nat × Word × BitVec 2) :=
  let keys := ((f ++ s.regs).map (fun x => x.1 - 0x800 * (x.1 % 0x1000 / 0x800))).foldl (fun (l : List Nat) a =>
    if isShadow a && rget f a != s.active a then insertNat a l else l) []
  keys.map (fun a => (a, rget f a, ownersOf s.active (rget f) a))

/-- The conditions of code MASK (11 R413). -/
def maskFails (smask : BitVec 2) (l : List (Nat × Word × BitVec 2)) : List (Nat × Nat) :=
  l.flatMap (fun x => failIf ((x.2.2 &&& ~~~smask) != 0) 2 (x.1 / 0x1000))

/-- Every failed condition of the armed commit. -/
def State.commitFails (s : State) : List (Nat × Nat) :=
  let new := rget s.cmt.snap
  let g := s.glade.gpr
  rangeFails new ++ maskFails s.cmt.smask (s.changes s.cmt.snap) ++ s.timingFails new ++ mapFails new g ++
  s.skeinFails new ++ s.loadFails new ++ s.retrainFails new ++ intakeFails new ++ layerFails new ++
  corrFails new s.active g s.drivenNo (fld (rget s.regs Reg.CR_MLIM) 0 16) ++ orderFails new

/-- TOP_CMT_STAT (11 R427). -/
def Commit.word (c : Commit) : Word :=
  at32 0 (match c.st with | .idle => 0 | .armed => 1 | .applying => 2) ||| at32 2 c.last.toNat ||| at32 4 c.cause.toNat |||
  flag32 8 c.keyErr ||| flag32 9 c.armErr ||| flag32 10 c.shwLock ||| at32 16 c.page.toNat

/-- The commit is refused (11 R414). -/
def State.refuseCommit (l : List (Nat × Nat)) (s : State) : State :=
  let code := (l.map (fun x => x.1)).foldl min 15
  let page := ((l.filter (fun x => x.1 == code)).map (fun x => x.2)).foldl min 255
  let c := { s.cmt with
    st := .idle, last := 2, cause := BitVec.ofNat 4 code, page := BitVec.ofNat 8 page
    causes := l.foldl (fun m x => setBit m x.1) 0, snap := [] }
  let s := { s with cmt := c }.report [.irq 0x00 1, .raise Src.CMT_REF]
  s.logHw 0x0020 0xFF (c.word.toNat + c.causes.toNat * 2 ^ 32)

/-- OFS_u × τ_u in ticks under settings (11 R399). -/
def offsetTicks (f : Nat → Word) (u : Nat) : Nat :=
  ofsOf f u * (modOf (f (Reg.ST_MOD u))).tau (f Reg.TM_PER).toNat

/-- OFS_u × τ_u from the next boundary on: formed again where the commit sets what it rests on (11 R399, R416). -/
def State.newOffset (s : State) (new : Nat → Word) (u : Fin 2) : Nat :=
  let first := !s.cmt.accepted && bit s.cmt.smask u.val
  if first || new (Reg.ST_MOD u.val) != s.active (Reg.ST_MOD u.val) || new Reg.TM_PER != s.active Reg.TM_PER ||
      ofsOf new u.val != ofsOf s.active u.val then offsetTicks new u.val
  else s.tb.ofsNext[u]

/-- Pages and surfaces of the settings that an accepted commit reaches (11 R412). -/
def State.reached (s : State) (new : Nat → Word) : List (Nat × BitVec 2) :=
  shadowPages.flatMap (fun p =>
    let l := (shadowsOf p).map (ownersOf s.active new)
    ([1, 2, 3] : List (BitVec 2)).filterMap (fun m =>
      if l.contains m && (m &&& ~~~s.cmt.smask) == 0 then some (p, m) else none))

/-- The settings of an accepted commit that belong to exactly the surfaces `m` become active (01 R37, 11 R416). -/
def State.activate (m : BitVec 2) (s : State) : State :=
  let c := s.cmt
  let regs := (c.chg.filter (fun x => x.2.2 == m)).foldl (fun f x => rset (x.1 + 0x800) x.2.1 f) s.regs
  let regs := (c.reach.filter (fun x => x.2 == m)).foldl (fun f x =>
    rset (x.1 * 0x1000 + 0x028) (at32 0 (c.seq.toNat % 65536)) f) regs
  { s with
    regs := regs
    cmt := { c with chg := c.chg.filter (fun x => x.2.2 != m), reach := c.reach.filter (fun x => x.2 != m) } }

/-! ### What follows new settings -/

/-- Arrays whose entries differ between two readings. -/
def movedArrays (old new : Nat → Word) : List (Fin 16) :=
  arrays.filter (fun a => ([0, 4, 8, 12] : List Nat).any (fun o => old (Reg.AM_CFG a.val + o) != new (Reg.AM_CFG a.val + o)))

/-- A return lane that is disabled has no lock. -/
def State.retLocks (s : State) : State :=
  ([0, 1] : List (Fin 2)).foldl (fun (s : State) b => s.when (!s.retOn b) (State.setRet b { s.ret[b] with lock := false })) s

/-- Settings of some surfaces become active; an array whose entry changes stays READY (DESIGN CHOICE, log entry 99); with what they do at once to lanes, links, tiles and streams (05 R207–R211,
06 R248, 15 R550). -/
def State.applySettings (m : BitVec 2) (s : State) : State :=
  let old := s.active
  let oldLane := fun (l : Fin 8) => old (Reg.SK_LCFG l.val)
  let next := s.activate m
  let s := State.clearMoved oldLane (fun l => next.active (Reg.SK_LCFG l.val)) s
  let kept := outLanes.filter (fun l => s.inMask l)
  let s := State.renumber kept (s.activate m)
  let s := outLanes.foldl (fun (s : State) l => State.laneSet (oldLane l) s l) s
  let s := s.retLocks
  let s := (movedArrays old s.active).foldl (fun (s : State) a => s.coolArray a) s
  s.meter.idleCheck

/-- RANGE rows after a commit: of the arrays that surface u's entries name, and of every array of the profile (04 R178, R180). -/
def State.commitRanges (u : Fin 2) (s : State) : State :=
  let l := (s.activeEntries u ++ gprEntries s.glade.gpr).map (fun e => e.n)
  (arrays.filter (fun a => l.contains a)).foldl (fun (s : State) a => s.sendRows (s.arrayRanges a)) s

/-- A skein that the frame of no surface has. -/
def SkeinTx.drop (x : SkeinTx) : SkeinTx :=
  { x with nextForm := 0, buffer := none, queued := [], skipped := [], reseq := [], tau := none, shown := none
           early := false, excl := false, nocap := false }

/-- Skeins that left every driving map: those of unlit frames under the profile, as the first commit is accepted
(01 R749). -/
def State.leaveSkeins (before : List (Fin 4)) (s : State) : State :=
  (before.filter (fun k => (s.skeinSurf k.val).isNone)).foldl (fun (s : State) k => s.setSkein k (s.skein[k]).drop) s

/-- The commit is accepted: settings of both surfaces become active (11 R416, R417). -/
def State.acceptCommit (s : State) : State :=
  let c := s.cmt
  let before := skeins.filter (fun k => (s.skeinSurf k.val).isSome)
  let new := rget c.snap
  let ofs : Vector Nat 2 := #v[s.newOffset new 0, s.newOffset new 1]
  let c := { c with
    st := .applying, toApply := c.smask, toRetire := 3, seq := c.seq + 1, accepted := true, cause := 0, page := 0
    causes := 0, chg := s.changes c.snap, reach := s.reached new, snap := [] }
  let s := { s with cmt := c, tb := { s.tb with ofsNext := ofs } }
  let s := s.leaveSkeins before
  (s.applySettings bothSurfaces).logHw 0x0021 0xFF c.seq.toNat

/-- The armed commit is judged where the boundary falls at least 20 µs after its arming (11 R413). -/
def State.judge (s : State) : State :=
  if s.cmt.st ≠ .armed ∨ s.now < s.cmt.armedAt + 20 * usec then s
  else
    let l := s.commitFails
    if l.isEmpty then s.acceptCommit else s.refuseCommit l

/-- The commit judged now makes a hard switch (11 R422). -/
def State.hardNow (s : State) : Bool :=
  s.cmt.st == .armed && decide (s.cmt.armedAt + 20 * usec ≤ s.now) && s.commitFails.isEmpty && s.hardChange (rget s.cmt.snap)

/-! ### TIME_BASE_BOUNDARY (11 R396–R398, R416) -/

/-- Counters of a list captured on a page (11 R424). -/
def State.capture (page : Nat) (n : Nat) (l : List Nat) (s : State) : State :=
  { s with regs := rset (page * 0x1000 + 0x030) (at32 0 (n % 65536)) (l.foldl (fun f a => rset a (lget s.live a) f) s.regs) }

/-- Boundary B_n: the commit is judged, and P_(n+1) is fixed under the timing settings then active. -/
def State.tbBoundary (t : Nat) (s : State) : State :=
  let s := s.edgesFirst
  let old := s.tb
  let per := old.thisPer s.timing
  let hard := s.hardNow
  let s := s.judge
  let b := s.tb.boundary s.timing t per hard old.ofsNext
  let s := { s with tb := b }.report (boundaryNotes old b)
  s.capture 0x01 old.fcnt.toNat [Reg.TM_GLMISS, Reg.TM_GLBAD, Reg.TM_HOLDCNT]

/-- TIME_BASE_BOUNDARY (11 R398): B_0 follows the end of LOAD (20 R696). -/
def execTimeBaseBoundary (t : Nat) (s : State) : Host.Outcome State Fault Refusal :=
  onCore t s (fun s => s.when s.top.loadAt.isSome (State.tbBoundary t))

end Sys2Proof.Machine
end

