-- ==== Sys2Proof/Machine/Stitcher.lean ====
section
/-! DEFINITION. The Stitcher's commands: cut-offs, load starts, show instants, fallback entry and splices (03 R85–R108,
04 R134–R145, 08 R304–R305, 10 R376–R385, 17 R609). -/

namespace Sys2Proof.Machine

open Sys2Proof

/-! ### Which plane comes next on a skein -/

/-- A frame names a skein. -/
def FrameView.names (v : FrameView) (k : Fin 4) : Bool := v.set.es.any (fun e => e.skein == k.val)

/-- The coming frame that names a skein. -/
def State.coming (s : State) (k : Fin 4) : Option FrameView :=
  (surfaces.find? (fun u => (s.viewNext u).names k)).map (fun u => s.viewNext u)

/-- Plane j of the coming frame on a skein. -/
def State.comingPlane (s : State) (k : Fin 4) (j : Nat) : Option (FrameView × Nat × Bool) :=
  match s.coming k with
  | some v => if j < v.m.planes then some (v, j, true) else none
  | none => none

/-- The plane that a skein forms next: its frame, its index there, and whether the frame is the coming one. -/
def State.target (s : State) (k : Fin 4) : Option (FrameView × Nat × Bool) :=
  let x := s.skein[k]
  let i := (x.tau.map (fun y => y.2)).getD x.nextForm
  match s.skeinSurf k.val with
  | some u =>
    let v := s.viewNow u
    if i < v.m.planes then some (v, i, false) else s.comingPlane k (i - v.m.planes)
  | none => s.comingPlane k i

/-- The frame that a formed plane of a skein belongs to. -/
def State.frameOf (s : State) (k : Fin 4) (p : Plane) : Option FrameView :=
  match s.skeinSurf k.val with
  | some u => if (s.viewNow u).fn = p.fn then some (s.viewNow u) else s.coming k
  | none => s.coming k

/-- SEQ under which a plane is loaded again (17 R609). -/
def SkeinTx.reseqOf (x : SkeinTx) (fn : BitVec 8) (i : Nat) : Option (BitVec 8) :=
  (x.reseq.find? (fun y => y.1 == fn && y.2.1 == i)).map (fun y => y.2.2)

/-- A list of planes without one of them. -/
def dropPlane (fn : BitVec 8) (i : Nat) (l : List (BitVec 8 × Nat × BitVec 8)) : List (BitVec 8 × Nat × BitVec 8) :=
  l.filter (fun y => !(y.1 == fn && y.2.1 == i))

/-! ### Cut-off (10 R383) -/

/-- The Stitcher forms planes of a frame on a skein: a driven frame, no dark frame, a skein not excluded, and for the show
bank the stores initialised (03 R77, R112; 11 R422). -/
def State.forms (s : State) (v : FrameView) (k : Fin 4) : Bool :=
  v.lit && !bit v.excl k.val && v.names k && (v.fb || s.top.storesOk)

/-- Armed errors have met the plane's first bundle, where it has one (08 R315). -/
def State.disarmShow (v : FrameView) (k : Fin 4) (s : State) : State :=
  s.when (!(s.planeEntries v k).isEmpty) (State.disarm showSegs)

/-- Plane j of a frame formed into a skein's buffer. -/
def State.form (v : FrameView) (k : Fin 4) (j : Nat) (ahead : Bool) (upsets : List Upset)
    (bundles : List (Fin 8 × Bundle)) (s : State) : State :=
  let errs := s.planeErrors v k bundles
  let s := (s.readPlane v k upsets errs).disarmShow v k
  let x := s.skein[k]
  let again := x.reseqOf v.fn j
  let p := s.formPlane v k j (again.getD x.seq) errs
  let s := (s.checkList v).when (j == 0) (State.countHealth v k ahead)
  s.setSkein k { x with
    buffer := some p, seq := if again.isSome then x.seq else x.seq + 1
    nextForm := if x.tau.isSome then x.nextForm else x.nextForm + 1 }

/-- A frame's planes load under shade scheduling on a skein, which a lane loss ends for the rest of the frame shown (10 R382,
R385). -/
def State.shadeLoads (s : State) (v : FrameView) (k : Fin 4) : Bool :=
  s.shadeFor v.set v.u v.fb && !((s.skein[k]).early && v.fn == (s.surf[v.u]).fn)

/-- Plane i of a frame may start to load `lead` from now: under shade scheduling not before its latest load start, but for the
plane of fallback entry (10 R382, 17 R609). -/
def State.mayStart (s : State) (v : FrameView) (k : Fin 4) (i lead : Nat) : Bool :=
  !s.shadeLoads v k || (s.skein[k]).tau.isSome ||
    ((s.latestStart v k i).map (fun ls => decide (ls ≤ ((s.now + lead : Nat) : Int)))).getD true

/-- The last block of a load that ends at an instant, its t_lead left out, is in the lane buffers: they hold 256 blocks each (08
R304). -/
def State.bufferedFor (s : State) (stop : Nat) : Bool :=
  decide (stop * 1000 ≤ s.now * 1000 + laneBufferBlocks * blockTime s.rateCode)

/-- The cut-off of a skein's next plane, once the plane before is in the lane buffers, and under shade scheduling no earlier than
1.0 µs before its load start (08 R304, 10 R383). -/
def State.cutoff (k : Fin 4) (upsets : List Upset) (bundles : List (Fin 8 × Bundle)) (s : State) : State :=
  if (s.skein[k]).buffer.isSome || !s.bufferedFor (s.skein[k]).busyTo then s
  else match s.target k with
  | some (v, j, ahead) => if s.forms v k && s.mayStart v k j usec then s.form v k j ahead upsets bundles else s
  | none => s

/-- PLANE_CUTOFF (10 R383): a box set change of the same sample applies to the plane. -/
def execPlaneCutoff (t : Nat) (k : Fin 4) (upsets : List Upset) (bundles : List (Fin 8 × Bundle)) (s : State) :
    Host.Outcome State Fault Refusal :=
  onCore t s (fun s => State.cutoff k upsets bundles s.takeUpsFirst)

/-! ### Load start (03 R105) -/

/-- The plane packets of an array pass the CRC-32 checker; whether one of them is sent inverted (16 R582). -/
def State.packetsFor (s : State) (a : Fin 16) (bits : Nat) : State × Bool :=
  if s.injMode 7 ≠ 0 ∧ s.flt.inj.addr.toNat = a.val ∧ 0 < bits then
    ((List.range (divUp (bits / 64) (max 1 (fld (s.active Reg.AL_POLL) 8 13)))).foldl
      (fun (s : State) _ => s.useInj 7) s, true)
  else (s, false)

/-- The packets of one array's share take their stream positions (04 R143, R145); those whose CRC-32 the armed checker inverts are
the first (16 R582). -/
def State.sendShare (seq : BitVec 8) (r : State × BitVec 16 × List Block66) (y : Fin 16 × List Bool) :
    State × BitVec 16 × List Block66 :=
  let pkt := fld (r.1.active Reg.AL_POLL) 8 13
  let q := r.1.packetsFor y.1 y.2.length
  let bad := if q.2 then r.1.flt.inj.remain.toNat else 0
  (q.1, if q.2 then setBit r.2.1 y.1.val else r.2.1, r.2.2 ++ sharePackets pkt y.1 seq y.2 bad)

/-- Packet blocks with an IDLE before each block at which the lane buffers were empty (08 R305). -/
def withIdles (idles : List Nat) (l : List Block66) : List Block66 :=
  l.zipIdx.flatMap (fun x => List.replicate (idles.count x.2) (ctrlBlock idleBlock) ++ [x.1])

/-- The packets of a plane leave on a skein. -/
def State.sendPlane (k : Fin 4) (lmask : BitVec 8) (p : Plane) (idles : List Nat) (s : State) : State :=
  let r := p.bits.foldl (State.sendShare p.seq) (s, 0, [])
  (r.1.queuePackets k (withIdles idles r.2.2)).report [.send (.plane k lmask p r.2.1)]

/-- A plane formed in fallback entry is not counted when it comes too late (17 R609). -/
def Plane.entry (p : Plane) : Bool := p.fb && !p.prof

/-- What a plane darkened for the lane buffers counts and raises (08 R305, R311). -/
def starvedNotes : List Note := [.tally (Reg.FB_STLATE 0) 1, .raise Src.FB_STLATE]

/-- What a plane that cannot be loaded in time counts and raises; one that a stall of segments 5 to 7 made late is darkened as for
empty lane buffers (03 R108, 08 R311, 10 R385, 17 R609). -/
def skipNotes (u : Fin 2) (early stalled : Bool) (p : Plane) : List Note :=
  if p.dead || p.entry then []
  else if stalled then starvedNotes
  else if early then [.tally (pairKey Reg.SH_RDARK u) 1]
  else [.tally (Reg.ST_LATE u) 1, .raise Src.ST_LATE]

/-- The buffered plane is not loaded. -/
def State.skipPlane (u : Fin 2) (k : Fin 4) (p : Plane) (s : State) : State :=
  let x := s.skein[k]
  if x.tau.isSome then s.setSkein k { x with buffer := none, tau := none, stalled := false }
  else
    let y := { x with
      buffer := none, skipped := x.skipped ++ [(p.fn, p.idx, p.seq)], reseq := dropPlane p.fn p.idx x.reseq
      stalled := false }
    (s.setSkein k y).report (skipNotes u (x.early && p.fn == (s.surf[u]).fn) x.stalled p)

/-- A share with the emitters dark whose health bits are 1; clears queued for a coming frame's boundary count as applied (03
R93). -/
def State.healthyShare (s : State) (k : Nat) (e : ArrEntry) (bits : List Bool) : List Bool :=
  bits.mapIdx (fun pos b => b && !s.healthBit (e.base + (pos / k * k + e.colour k (pos % k))))

/-- A plane as its load begins: a health bit set since its cut-off darkens its emitter (03 R93). -/
def State.healthyPlane (s : State) (v : FrameView) (p : Plane) : Plane :=
  let s := s.clearedFor v
  { p with bits := p.bits.map (fun y =>
      (y.1, match v.set.es.find? (fun e => e.n == y.1) with
        | some e => s.healthyShare v.set.z.k e y.2
        | none => y.2)) }

/-- Duration of a number of stream positions on a number of lanes, in 1/64 ticks, rounded up. -/
def positionTicks (n lanes rate : Nat) : Nat := divUp (divUp n (max 1 lanes) * blockTime rate) 1000

/-- A load that starts now, with the IDLE blocks of empty lane buffers (08 R305). -/
def State.newLoad (s : State) (k : Fin 4) (p : Plane) (start ticks : Nat) (idles : List Nat) : Load :=
  let m := (s.skein[k]).lmask
  { plane := p, start := start, stop := start + ticks + positionTicks idles.length (laneCount m) s.rateCode, lmask := m
    dark := 0, idles := idles.length }

/-- The buffered plane's load starts and ends `ticks` later, t_lead included, and the IDLE blocks of empty lane buffers later; τ's plane
shows at τ. -/
def State.startLoad (k : Fin 4) (p : Plane) (ticks : Nat) (idles : List Nat) (s : State) : State :=
  let x := s.skein[k]
  let y := s.newLoad k p s.now ticks idles
  let x := { x with buffer := none, stalled := false, busyTo := y.stop - 10240 }
  let x := match x.tau with
    | some (at_, _) => { x with extra := x.extra ++ [(y, at_)], tau := none }
    | none => { x with queued := x.queued ++ [y], reseq := dropPlane p.fn p.idx x.reseq }
  (s.setSkein k x).sendPlane k x.lmask p idles

/-- The load of a skein's buffered plane is due: one at a time (02 R61), where a latch is free (02 R60), under shade scheduling
not before its latest load start (10 R382), and where it can end by t_lead before the show instant (03 R105). -/
def State.loadDue (k : Fin 4) (idles : List Nat) (s : State) : State :=
  let x := s.skein[k]
  match x.buffer with
  | none => s
  | some p =>
    match s.frameOf k p with
    | none => s.setSkein k { x with buffer := none }
    | some v =>
      let ticks := s.loadTicks v k
      let show_ := (x.tau.map (fun y => y.1)).getD (v.showAt p.idx)
      if decide (2 ≤ x.queued.length + x.extra.length) || decide (s.now < x.busyTo) || !s.mayStart v k p.idx 0 then s
      else if p.dead || x.lmask == 0 || decide (show_ < s.now + ticks) then s.skipPlane v.u k p
      else s.startLoad k (s.healthyPlane v p) ticks idles

/-- PLANE_LOAD_START (03 R105): `idles` are the blocks of the load before which a lane buffer is empty (08 R305). -/
def execPlaneLoadStart (t : Nat) (k : Fin 4) (idles : List Nat) (s : State) : Host.Outcome State Fault Refusal :=
  onCore t s (State.loadDue k idles)

/-! ### Show instants (04 R134–R138) -/

/-- A timed row: its FINE is a free value (04 R135). -/
def State.sendTimed (k : Fin 4) (lmask : BitVec 8) (r : Nat → Row) (s : State) : State :=
  (s.sendRow k lmask (r (s.fine 0))).spend

/-- Range of a plane: of the fallback profile where it is formed from the fallback source (04 R138). -/
def State.rangeFor (s : State) (v : FrameView) (p : Plane) : Nat :=
  rangeOf (if p.fb then (gprEntries s.glade.gpr).filter (fun e => e.surf == v.u.val) else v.set.es) (v.kindAt p.idx).1

/-- A DARK row for every array of a skein. -/
def State.darkRow (v : FrameView) (k : Fin 4) (seq : BitVec 8) (s : State) : State :=
  s.sendTimed k (s.skein[k]).lmask (.dark seq (v.allArrays k))

/-- A loaded plane shows: the READY arrays' bits, those darkened by a lane loss cleared (03 R106, 04 R137). -/
def State.showRow (v : FrameView) (k : Fin 4) (y : Load) (s : State) : State :=
  s.sendTimed k (s.skein[k]).lmask (.show y.plane.seq (s.rangeFor v y.plane) (s.readyBits v.set.es k.val &&& ~~~y.dark))

/-- A load that its lanes have completed t_lead before the instant `now`. -/
def Load.ready (y : Load) (now : Nat) : Bool := decide (y.stop ≤ now) && y.lmask != 0 && !y.cut && !y.plane.dead

/-- A loaded plane shows, or its arrays go dark where the load has not completed; where its lane buffers ran empty, FB_STLATE says so
(03 R106; 08 R305, R311). -/
def State.showLoad (v : FrameView) (k : Fin 4) (y : Load) (s : State) : State :=
  if y.ready s.now then State.showRow v k y s
  else (State.darkRow v k y.plane.seq s).report (noteIf (y.cut || decide (0 < y.idles)) starvedNotes)

/-- SEQ of the dark command of a plane that is not loaded: its own where it was formed, else that of the next plane. -/
def SkeinTx.darkSeq (x : SkeinTx) (fn : BitVec 8) (i : Nat) : BitVec 8 :=
  match x.skipped.find? (fun y => y.1 == fn && y.2.1 == i) with
  | some y => y.2.2
  | none => (x.reseqOf fn i).getD x.seq

/-- One skein at the show instant of plane i (04 R137). -/
def State.showSkein (v : FrameView) (i : Nat) (s : State) (k : Fin 4) : State :=
  let x := s.skein[k]
  let mine := fun (y : Load) => y.plane.fn == v.fn && y.plane.idx == i
  let rest := { x with
    queued := x.queued.filter (fun y => !mine y), skipped := dropPlane v.fn i x.skipped
    reseq := dropPlane v.fn i x.reseq }
  match x.queued.find? mine with
  | some y =>
    (s.showLoad v k y).setSkein k { rest with shown := if y.ready s.now then some y.plane else none }
  | none => (s.darkRow v k (x.darkSeq v.fn i)).setSkein k { rest with shown := none }

/-- One skein at an instant that is no plane boundary: splices and the first fallback plane due are shown. -/
def State.showExtra (v : FrameView) (s : State) (k : Fin 4) : State :=
  let x := s.skein[k]
  (x.extra.filter (fun y => decide (y.2 ≤ s.now))).foldl (fun (s : State) y =>
    (s.showLoad v k y.1).setSkein k { s.skein[k] with shown := if y.1.ready s.now then some y.1.plane else none })
    (s.setSkein k { x with extra := x.extra.filter (fun y => decide (s.now < y.2)) })

/-- SH_DRQ at a stitch (10 R376). -/
def State.shadeRequest (v : FrameView) (kind : PlaneKind) (s : State) : State :=
  match kind with
  | .stitch g =>
    let r := (shadeSet (ract v.set.regs) v.u).reqInt
    s.when (r != 0 && g % r == 0) (fun (s : State) => s.setShade v.u { s.shade.surf[v.u] with drq := true })
  | .trim _ => s

/-- Tile sums of a frame from the fallback source (01 R749, 15 R549). -/
def State.fallbackSums (s : State) (v : FrameView) : List (Nat × Nat) :=
  let p := s.glade.pattern v.u
  v.set.es.foldl (fun m e => (List.range (e.w * e.h)).foldl (fun m i =>
    let a := e.turn (i % e.w) (i / e.w)
    match s.activeTile v.u e.n a.1 a.2 with
    | some t => sumAdd t (v.set.z.k * s.glade.fbCode p (e.x0 + i % e.w) (e.y0 + i / e.w)) m
    | none => m) m) []

/-- The tile model's step of a fallback frame, at the end of plane 0 (15 R549). -/
def State.fallbackTiles (v : FrameView) (s : State) : State :=
  let s := s.tileStep v.u (s.surf[v.u]).per (s.fallbackSums v) (profileStitch s.glade.gpr)
  { s with surf := s.surf.set v.u { s.surf[v.u] with fbTile := false } }

/-- The next plane of the frame surface u shows is due. -/
def State.showPlane (v : FrameView) (s : State) : State :=
  let i := (s.surf[v.u]).nextShow
  let s := (s.skeinsOf v.u).foldl (State.showSkein v i) s
  let s := State.shadeRequest v (v.kindAt i).1 s
  let s := s.when (i == 1 && (s.surf[v.u]).fbTile) (State.fallbackTiles v)
  { s with surf := s.surf.set v.u { s.surf[v.u] with nextShow := i + 1 } }

/-- Stitch slack of the loads of surface u that show at an instant: the smallest fill of their lane buffers, 0 where one was empty (08
R304, R305). -/
def State.stitchSlack (s : State) (u : Fin 2) (fill : Nat) (due : Load → Bool) : Nat :=
  let l := (s.skeinsOf u).flatMap (fun k =>
    (s.skein[k]).queued.filter due ++ ((s.skein[k]).extra.filter (fun y => decide (y.2 ≤ s.now))).map (fun y => y.1))
  if l.any (fun y => y.cut || decide (0 < y.idles)) then 0 else if l.isEmpty then 256 else min 256 fill

/-- The smallest stitch slack of the frame so far (08 R306). -/
def State.noteSlack (u : Fin 2) (x : Nat) (s : State) : State :=
  let c := s.comp[u]
  { s with comp := s.comp.set u { c with sslack := BitVec.ofNat 9 (min c.sslack.toNat x) } }

/-- A show instant of surface u: what is due is shown; `fill` is the smallest fill that the lane buffers of its loads had. -/
def State.showDue (u : Fin 2) (fill : Nat) (s : State) : State :=
  let v := s.viewNow u
  let i := (s.surf[u]).nextShow
  let due := (s.surf[u]).started && decide (i < v.m.planes) && decide (v.showAt i ≤ s.now)
  let s := s.noteSlack u (s.stitchSlack u fill (fun y => due && y.plane.fn == v.fn && y.plane.idx == i))
  let s := (s.skeinsOf u).foldl (State.showExtra v) s
  s.when due (State.showPlane v)

/-- PLANE_SHOW_INSTANT (04 R137): `fill` is what the lane buffers measured (08 R304). -/
def execPlaneShowInstant (t : Nat) (u : Fin 2) (fill : Nat) (s : State) : Host.Outcome State Fault Refusal :=
  onCore t s (State.showDue u fill)

/-- FN of the frame a skein carries; surface 0's where it carries none. -/
def State.skeinFn (s : State) (k : Fin 4) : BitVec 8 := (s.surf[(s.skeinSurf k.val).getD 0]).fn

/-- TICK_ROW (04 R141). -/
def execTickRow (t : Nat) (k : Fin 4) (s : State) : Host.Outcome State Fault Refusal :=
  onCore t s (fun s => s.sendRow k (s.skein[k]).lmask (.tick (s.skeinFn k)))

/-! ### Fallback entry (17 R609) -/

/-- The load of a skein that is in progress. -/
def SkeinTx.inFlight (x : SkeinTx) (now : Nat) : Option Load :=
  (x.queued ++ x.extra.map (fun y => y.1)).find? (fun y => decide (y.start ≤ now) && decide (now + 10240 < y.stop) && !y.cut)

/-- SEQ of the DARK row of fallback entry: of the stopped load, else of the latest latched plane, else of the plane
shown. -/
def SkeinTx.entrySeq (x : SkeinTx) (now : Nat) : BitVec 8 :=
  match x.inFlight now, x.queued.getLast?, x.shown with
  | some y, _, _ => y.plane.seq
  | none, some y, _ => y.plane.seq
  | none, none, some p => p.seq
  | none, none, none => x.seq - 1

/-- The plane that the schedule shows at τ, counted from the frame shown, and whether τ falls in its frame's guard. -/
def planeAtTau (a b : FrameView) (at_ : Nat) : Nat × Bool :=
  let find := fun (v : FrameView) => (List.range v.m.planes).foldl (fun n i => if v.showAt i ≤ at_ then i + 1 else n) 0
  if at_ < a.stop then (find a - 1, find a == 0) else (a.m.planes + (find b - 1), find b == 0)

/-- A latched plane, as fn, index and SEQ. -/
def Load.key (y : Load) : BitVec 8 × Nat × BitVec 8 := (y.plane.fn, y.plane.idx, y.plane.seq)

/-- Fallback entry on one skein of a surface. -/
def State.entrySkein (a b : FrameView) (s : State) (k : Fin 4) : State :=
  let x := s.skein[k]
  let s := (s.stopPackets k).darkRow a k (x.entrySeq s.now)
  let at_ := s.now + usec + s.loadTicks a k
  let m := planeAtTau a b at_
  let showOf := fun (y : Load) => if y.plane.fn = a.fn then a.showAt y.plane.idx else b.showAt y.plane.idx
  let stopped := fun (y : Load) => decide (s.now + 10240 < y.stop)
  s.setSkein k { x with
    buffer := none, shown := none
    queued := []
    extra := (x.extra.filter (fun y => !stopped y.1)).map (fun y => ({ y.1 with lmask := 0 }, y.2))
    skipped := x.skipped ++ (x.queued.filter (fun y => decide (showOf y ≤ at_))).map Load.key
    reseq := (x.queued.filter (fun y => decide (at_ < showOf y) && !stopped y)).map Load.key
    tau := if m.2 then none else some (at_, m.1)
    nextForm := if m.2 then m.1 else m.1 + 1
    busyTo := s.now }

/-! ### A reset of segments 5 to 7 (08 R311) -/

/-- A load that a reset of segments 5 to 7 ends: not all of its blocks are in the lane buffers. -/
def State.cutLoad (s : State) (y : Load) : Load :=
  { y with cut := y.cut || (decide (y.start ≤ s.now) && !s.bufferedFor (y.stop - 10240)) }

/-- Segments 5 to 7 are reset on a skein: a load that they had not finished is not completed, and they are ready for the next plane. -/
def State.resetSkein (s : State) (k : Fin 4) : State :=
  let x := s.skein[k]
  let q := x.queued.map s.cutLoad
  let e := x.extra.map (fun y => (s.cutLoad y.1, y.2))
  let gone := (q ++ e.map (fun y => y.1)).any (fun y => y.cut)
  (s.bufferedOnly k).setSkein k { x with
    queued := q, extra := e, stalled := true, busyTo := if gone then min x.busyTo s.now else x.busyTo }

/-- Segments 5 to 7 are reset. -/
def State.resetShow (s : State) : State := skeins.foldl State.resetSkein s

/-- Fallback entry on the skeins of surface u that carry planes. -/
def State.fallbackEntry (u : Fin 2) (s : State) : State :=
  let a := s.viewNow u
  let b := s.viewNext u
  (a.set.skeins.filter (fun k => !(s.skein[k]).excl && (s.skein[k]).lmask != 0)).foldl (State.entrySkein a b) s

/-- The Stitcher registers the rise of the selection (03 R100, R104): before the first commit the decision alone starts a
surface's first fallback frame (20 R698). -/
def State.selectRise (u : Fin 2) (s : State) : State :=
  let x := s.surf[u]
  if x.fbSel then s
  else if x.fbShow || !(s.cmt.accepted || x.fbBegun) || !x.started then
    State.idleCheck { s with surf := s.surf.set u { x with fbSel := true } }
  else State.idleCheck (State.fallbackEntry u { s with surf := s.surf.set u { x with
    fbSel := true, fbShow := true, fbBegun := true } })

/-- FALLBACK_SELECT_RISE (17 R609): Glade's line to the Stitcher is at 1 (03 R99). -/
def execFallbackSelectRise (t : Nat) (u : Fin 2) (s : State) : Host.Outcome State Fault Refusal :=
  onCore t s (fun s => s.when (s.glade.select u) (State.selectRise u))

/-- The Stitcher registers the fall of the selection: after the decision instant the coming frame stays on the fallback source
(03 R101). -/
def State.selectFall (u : Fin 2) (s : State) : State :=
  let x := s.surf[u]
  if !x.fbSel then s
  else State.idleCheck { s with surf := s.surf.set u { x with fbSel := false, fbHold := x.decided.isSome } }

/-- FALLBACK_SELECT_FALL (03 R101): Glade's line to the Stitcher is at 0 (03 R99). -/
def execFallbackSelectFall (t : Nat) (u : Fin 2) (s : State) : Host.Outcome State Fault Refusal :=
  onCore t s (fun s => s.when (!s.glade.select u) (State.selectFall u))

/-! ### Splices (10 R384) -/

/-- The skein's next ls: the latest load start of its next plane, formed or still to form (10 R382). -/
def State.nextLatest (s : State) (k : Fin 4) : Option Int :=
  match (s.skein[k]).buffer with
  | some p => (s.frameOf k p).bind (fun v => s.latestStart v k p.idx)
  | none => (s.target k).bind (fun x => s.latestStart x.1 k x.2.1)

/-- The end of a plane: the next one's show instant, or the frame boundary. -/
def FrameView.endOf (v : FrameView) (i : Nat) : Nat := if i + 1 < v.m.planes then v.showAt (i + 1) else v.stop

/-- The conditions of a splice of plane p, decided now, whose load lasts `ticks` with t_lead (10 R384, R385). -/
def State.spliceFits (s : State) (v : FrameView) (k : Fin 4) (p : Plane) (ticks : Nat) : Bool :=
  let x := s.skein[k]
  (shadeSet (ract v.set.regs) v.u).splice && s.shadeLoads v k && x.lmask != 0 && p.fn == v.fn &&
    p.boxSet != (s.shade.surf[v.u]).boxSet && (x.inFlight s.now).isNone && decide (x.busyTo ≤ s.now) &&
    decide (x.queued.length + x.extra.length < 2) &&
    ((s.nextLatest k).map (fun ls => decide (((s.now + usec + ticks - 10240 : Nat) : Int) ≤ ls))).getD true &&
    decide (s.now + usec + ticks + usec ≤ v.endOf p.idx)

/-- The plane shown on a skein is formed again and loaded. -/
def State.spliceNow (v : FrameView) (k : Fin 4) (p : Plane) (idles : List Nat) (bundles : List (Fin 8 × Bundle)) (s : State) :
    State :=
  let ticks := s.loadTicks v k
  if !s.spliceFits v k p ticks then s
  else
    let errs := s.planeErrors v k bundles
    let s := (s.readPlane v k [] errs).disarmShow v k
    let x := s.skein[k]
    let q := s.formPlane v k p.idx x.seq errs
    let s := s.checkList v
    let start := s.now + usec
    let y := s.newLoad k q start ticks idles
    let x := { x with seq := x.seq + 1, extra := x.extra ++ [(y, start + ticks)], busyTo := y.stop - 10240 }
    ((s.setSkein k x).when (!q.dead) (State.sendPlane k x.lmask q idles)).report [.tally (pairKey Reg.SH_SPLICE v.u) 1]

/-- A splice is decided on a skein. -/
def State.splice (k : Fin 4) (idles : List Nat) (bundles : List (Fin 8 × Bundle)) (s : State) : State :=
  match s.skeinSurf k.val, (s.skein[k]).shown with
  | some u, some p => s.spliceNow (s.viewNow u) k p idles bundles
  | _, _ => s

/-- SPLICE (10 R384): nothing where its conditions do not hold. -/
def execSplice (t : Nat) (k : Fin 4) (idles : List Nat) (bundles : List (Fin 8 × Bundle)) (s : State) :
    Host.Outcome State Fault Refusal :=
  onCore t s (State.splice k idles bundles)

end Sys2Proof.Machine
end

