-- ==== Sys2Proof/Machine/Boundary.lean ====
section
/-! DEFINITION. The frame boundary of a surface: the swap of the banks, the frame that begins, the commit applied to
composition, and what the boundary reports and captures (03 R74–R76, R97, R109–R118; 04 R137, R140, R182; 07 R281; 08 R303,
R306, R317; 09 R333, R339, R344, R345, R353, R356; 10 R379, R386, R388; 11 R416, R417, R424; 21 R719). -/

namespace Sys2Proof.Machine

open Sys2Proof

/-- One surface's Stitcher state replaced. -/
def State.setSurf (u : Fin 2) (x : Surface) (s : State) : State := { s with surf := s.surf.set u x }

/-! ### What the frame that ends reports -/

/-- Frame slack in 1/64 ticks of the composition period that ends at `b`; none where the frame is late (08 R303). -/
def Composer.slack (c : Composer) (complete : Bool) (b : Nat) : Option Nat :=
  if complete then c.doneAt.map (fun d => b - d) else none

/-- FB_FSLACK and FB_SSLACK with their minima (08 R306). -/
def State.slackNotes (s : State) (u : Fin 2) (b : Nat) : List Note :=
  let c := s.comp[u]
  let slack := c.slack (s.surf[u]).complete b
  let v := min 0xFFFFF (slack.getD 0 / 2560)
  let warn := fld (s.active (Reg.FB_CFG u)) 0 16 * usec
  [.word (Reg.FB_FSLACK u) (at32 0 v ||| flag32 31 slack.isNone),
   .word (Reg.FB_FSLACK_MIN u) (at32 0 (min v (rget s.regs (Reg.FB_FSLACK_MIN u)).toNat)),
   .word (Reg.FB_SSLACK u) (at32 0 c.sslack.toNat),
   .word (Reg.FB_SSLACK_MIN u) (at32 0 (min c.sslack.toNat (rget s.regs (Reg.FB_SSLACK_MIN u)).toNat))] ++
  noteIf (slack.all (fun x => decide (x < warn))) [.raise (Src.FB_SLACK u)]

/-- LY_STAT of a slot and CP_STAT for the period that ends (07 R287). -/
def State.periodNotes (s : State) (u : Fin 2) : List Note :=
  (slotsOf u).map (fun (n : Fin 16) =>
    let x := s.layer[n]
    Note.word (Reg.LY_STAT n) (flag32 0 x.active ||| flag32 1 x.dropped ||| flag32 2 x.torn)) ++
  [.word (Reg.CP_STAT u) (flag32 2 (s.comp[u]).meshFail ||| flag32 3 (s.comp[u]).withheld)]

/-- ST_HM_CNT of the frame that ends (03 R97). -/
def State.healthNote (s : State) (u : Fin 2) : List Note :=
  let n := (s.surf[u]).hmCount
  [.word (Reg.ST_HM_CNT u) (at32 0 n)] ++
  noteIf (decide (fld (s.shown u (Reg.ST_CTRL u)) 16 16 < n)) [.raise Src.HM_OVER]

/-- Arrays of surface u to which the limiter applies. -/
def State.limitedArrays (s : State) (u : Fin 2) : List (Fin 16) :=
  ((s.activeEntries u).map (fun e => e.n)).filter (fun a => s.limited (corrOf s.active u) a)

/-- Arrays of surface u in the composition period that ends to which the limiter applied. -/
def State.limitedWere (s : State) (u : Fin 2) : List (Fin 16) :=
  ((s.compEntries u).map (fun e => e.n)).filter (fun a => s.limited (corrOf (s.composed u) u) a)

/-- LBLIM of the period that ends (09 R359). -/
def State.limitedNow (s : State) (u : Fin 2) : Bool :=
  (s.corr.surf[u]).clipped || (s.limitedWere u).any (fun a => decide ((s.corr.k[a]).toNat < 4096))

/-! ### The frame that begins (03 R74, R100, R109; 11 R416) -/

/-- What of the settings of a frame bears on S and on the skeins: modulation, entries, mode and size. -/
def FrameSet.shape (f : FrameSet) : ModSet × List ArrEntry × SurfSet := (f.base, f.es, f.z)

/-- The decision taken, carried out where the frame's completeness at the boundary differs from that at the decision: the bank
follows the boundary (03 R74, 08 R303), all else stands, but that S and the exclusions are chosen again where the bank brings
other settings (03 R109; DESIGN CHOICE, log entry 91). -/
def State.standing (s : State) (u : Fin 2) (d : Decision) : Decision :=
  let x := s.surf[u]
  if d.swap = x.complete then d
  else if (s.frameSet u d.profile (x.regsFor d.swap)).shape = (s.frameSet u d.profile (x.regsFor x.complete)).shape then
    { d with swap := x.complete }
  else s.decideFor u d.profile d.fb x.complete

/-- The decision that the boundary carries out: the one taken, or, where none was, the one of this instant (03 R109). -/
def State.settled (s : State) (u : Fin 2) : Decision :=
  match (s.surf[u]).decided with
  | some d => s.standing u d
  | none => s.decideNow u

/-- Surface state for the frame that begins with view `v` under decision `d` (03 R74, R76). -/
def Surface.next (x : Surface) (v : FrameView) (d : Decision) (k per : Nat) : Surface :=
  { x with
    showBank := v.bank, complete := false, started := true, bk := v.bk, per := per, tst := v.tst, fn := v.fn
    sEff := d.sEff, passCnt := d.pass, passFb := d.passFb, own := d.own, ownCom := d.ownCom, lanes := d.lanes
    decided := none, fbShow := v.fb, fbBegun := x.fbBegun || v.fb, fbProfile := d.profile, fbHold := false
    showRegs := x.regsFor d.swap, showCmt := if d.swap then x.compCmt else x.showCmt
    hmCount := x.hmNext, hmNext := 0, hmSeen := x.hmSeenNext, hmSeenNext := 0, k := k, nextShow := 0, arrs := d.arrs, fbTile := v.fb }

/-- What the swap or the repeat reports (03 R74, 11 R426). -/
def swapNotes (x : Surface) (u : Fin 2) (swap : Bool) : List Note :=
  if swap then [.word (Reg.TM_SHOWSEQ u) x.compSeq]
  else noteIf x.started [.tally (Reg.ST_REPEAT u) 1, .raise Src.FS_REPEAT]

/-- Sums of surface u's windows in the frame that becomes the show bank (09 R339). -/
def State.windowSums (s : State) (u : Fin 2) : Vector (BitVec 64) 12 :=
  Vector.ofFn (fun (i : Fin 12) =>
    let w := windowOf (s.shown u) (i.val / 3)
    if w.en && w.surf == u.val then BitVec.ofNat 64 s.corr.wsumNew[i] else s.corr.wsum[i])

/-- The sums that travel with the bank (09 R339, R345). -/
def State.takeSums (u : Fin 2) (s : State) : State :=
  let x := s.corr.surf[u]
  State.slotsAtFrame u { s with corr := { s.corr with
    wsum := s.windowSums u, surf := s.corr.surf.set u { x with sumsShow := x.sumsNew } } }

/-- The effective S falls at the boundary at which decision d begins its frame; the first frame of all follows none (03
R114). -/
def Surface.stepsDown (x : Surface) (d : Decision) : Bool := x.started && decide (d.sEff.toNat < x.sEff.toNat)

/-- The frame is driven, a dark frame included (03 R119). -/
def FrameView.driven (v : FrameView) : Bool := v.fb || v.set.fromBank v.u.val

/-- What the decision reports as the frame begins, surface u being `x` in the frame that ends (02 R70; 03 R112, R114, R118; 21
R717, R719). LOAD and LOAD1 read 0, and no ST_NOCAP is raised, for a frame that is not driven (DESIGN CHOICE, log entries 92 and
93). -/
def State.decisionNotes (s : State) (x : Surface) (v : FrameView) (d : Decision) : List Note :=
  let u := v.u
  let on := v.driven
  let iok := on && decide (d.ispan ≤ 400 * usec) && decide (d.load1 ≤ 1024)
  [.word (Reg.ST_TST u) (if on then at32 0 (v.tst / 256) else 0),
   .word (Reg.ST_LOAD u) (if on then at32 0 d.load else 0),
   .word (Reg.ST_STATE u) (if on then at32 8 d.load1 else 0),
   .word (Reg.TOP_GUAR u) (if on then at32 0 (min 0xFFFFF (d.ispan / 2560)) ||| flag32 31 iok else 0)] ++
  noteIf (bit (rget s.regs (Reg.TOP_GUAR u)) 31 && on && !iok) [.irq 0x00 4] ++
  noteIf (x.stepsDown d) [.tally (Reg.ST_DEGCNT u) 1, .raise Src.ST_DEGRADE] ++
  (v.set.skeins.filter (fun k => on && bit v.excl k.val && !(s.skein[k]).nocap)).map (fun _ => Note.raise Src.ST_NOCAP)

/-! ### Skeins (03 R112, 10 R383, 17 R609) -/

/-- A skein as surface u's frame with FN `fn` begins: planes of the old frame are gone; `old` planes were in the frame that
ends, 0 where the surface did not have the skein. -/
def SkeinTx.next (x : SkeinTx) (fn : BitVec 8) (old : Nat) : SkeinTx :=
  { x with
    nextForm := x.nextForm - old, buffer := x.buffer.filter (fun p => p.fn == fn)
    queued := x.queued.filter (fun y => y.plane.fn == fn)
    skipped := x.skipped.filter (fun y => y.1 == fn), reseq := x.reseq.filter (fun y => y.1 == fn)
    tau := x.tau.map (fun y => (y.1, y.2 - old)), shown := none, early := false }

/-- A skein of the frame that begins: a frame of which no plane is formed leaves the next one's to be formed; a skein that no
driving map has counts the coming frame's planes alone. -/
def State.beginSkein (v : FrameView) (before : List (Fin 4)) (old : Nat) (s : State) (k : Fin 4) : State :=
  let y := (s.skein[k]).next v.fn (if before.contains k then old else 0)
  let y := { y with excl := bit v.excl k.val, nocap := v.driven && bit v.excl k.val }
  let n := if (s.skeinSurf k.val).isSome then max y.nextForm v.m.planes else 0
  s.setSkein k { y with nextForm := if s.forms v k then y.nextForm else n }

/-- The skeins of the frames that end and begin. -/
def State.beginSkeins (v : FrameView) (before : List (Fin 4)) (old : Nat) (s : State) : State :=
  let s := (before.filter (fun k => !v.names k)).foldl (fun (s : State) k => s.setSkein k (s.skein[k]).drop) s
  v.set.skeins.foldl (State.beginSkein v before old) s

/-! ### FRAME rows (04 R137, R140) -/

/-- New Stitcher-side settings take effect: those of another commit, or of the fallback profile, or of the show bank after
it; or the first fallback frame of all begins (04 R140, 20 R698). -/
def Surface.newSettings (x y : Surface) : Bool :=
  y.fbProfile != x.fbProfile || (y.fbProfile && y.fbShow && !x.fbShow) || (!y.fbProfile && y.showCmt != x.showCmt)

/-- RANGE rows for the codes that a coming frame's settings give its arrays, within the frame before it (04 R180). -/
def State.frameRanges (v : FrameView) (s : State) : State :=
  v.set.es.foldl (fun (s : State) e =>
    s.sendRows ((rangeRows e (ratioOf v.set.base.qSel)).map (fun r => (skeinNo e.skein, r)))) s

/-- The coming frame brings new settings to its arrays: their RANGE rows leave. -/
def State.comingRanges (v : FrameView) (d : Decision) (s : State) : State :=
  let x := s.surf[v.u]
  s.when (x.newSettings (x.next v d 0 0)) (State.frameRanges v)

/-- The FRAME rows of surface u's skeins. -/
def State.frameRows (u : Fin 2) (apply : Bool) (s : State) : State :=
  (s.skeinsOf u).foldl (fun (s : State) k =>
    s.sendTimed k (s.skein[k]).lmask (.frame (s.surf[u]).fn (s.skein[k]).lmask apply)) s

/-! ### Shade (10 R379, R386, R388) -/

/-- The shade window of the frame that begins: the largest over its skeins (10 R386). -/
def State.frameWindow (s : State) (v : FrameView) : Nat :=
  let ks := v.set.skeins.filter (fun k => !bit v.excl k.val)
  let next := s.tb.next
  (ks.map (fun (k : Fin 4) => shadeWindow v.m (shadeSet (ract v.set.regs) v.u).splice v.tst (s.surf[v.u]).per (v.m.tst next) next
    (v.set.load k (s.serviceLanes k).length (s.skeinRate k)))).foldl max 0

/-- SH_STAT but for BUSY (10 R390). -/
def ShadeSurf.word (x : ShadeSurf) (fast : Bool) : Word :=
  flag32 0 x.active.isSome ||| flag32 1 x.stale ||| flag32 3 fast |||
    (match x.active with | some l => at32 8 l.nbox.toNat ||| at32 16 l.lseq.toNat | none => 0)

/-- The Shade engine as the frame begins. -/
def State.shadeFrame (v : FrameView) (s : State) : State :=
  let u := v.u
  let on := v.driven && (shadeSet (ract v.set.regs) u).en
  let x := s.shade.surf[u]
  let s := s.when (on && !x.everEn) (fun (s : State) =>
    (s.setShade u { x with everEn := true }).when x.active.isNone (State.goStale u))
  let w := if on then s.frameWindow v else 0
  let fast := on && fastOf w v.tst
  let x := s.shade.surf[u]
  (s.setShade u { x with slow := on && !fast }).report
    ([.word (Reg.SH_WIN u) (at32 0 w), .word (Reg.SH_STAT u) (x.word fast)] ++
      noteIf (on && !fast && !x.slow) [.raise (Src.SH_SLOW u)])

/-! ### The commit applied (11 R416, R417; 20 R701) -/

/-- START-UP and TEST end with a commit that lights a surface (20 R701). -/
def State.phaseLit (u : Fin 2) (s : State) : State :=
  if bit (s.active (Reg.ST_CTRL u)) 0 && (s.top.phase == .startUp || s.top.phase == .test) then
    ({ s with top := { s.top with phase := .service } }.keepAs Reg.TOP_PHASE (s.phaseBefore ||| 0x80000000)).report [.irq 0x00 2]
  else s

/-- The last masked surface has applied the commit. -/
def State.commitDone (s : State) : State :=
  if s.cmt.toApply = 0 then { s with cmt := { s.cmt with st := .idle, last := 1 } }.report [.irq 0x00 0] else s

/-- An accepted commit's settings of surface u become active at its boundary. -/
def State.applyCommit (u : Fin 2) (s : State) : State :=
  if !bit s.cmt.toApply u.val then s
  else
    let s := (s.applySettings (oneSurface u)).commitRanges u
    let s := State.produceSettings s.cmt.seq (State.setSurf u { s.surf[u] with compCmt := s.cmt.seq } s)
    (State.phaseLit u { s with cmt := { s.cmt with toApply := clearBit s.cmt.toApply u.val } }).commitDone

/-- CP_RETSEQ of the frame composed from here (07 R281, 11 R417). -/
def State.retire (u : Fin 2) (s : State) : State :=
  if !bit s.cmt.toRetire u.val then s
  else
    (State.setSurf u { s.surf[u] with compSeq := s.cmt.seq }
      { s with cmt := { s.cmt with toRetire := clearBit s.cmt.toRetire u.val } }).report
      [.word (Reg.CP_RETSEQ u) s.cmt.seq, .tally (Reg.CP_RETIRE u) 1, .irq (0x20 + u.val) 0]

/-! ### The correction chain at the boundary (09 R333, R344, R353, R356) -/

/-- NOW after a step towards its target (09 R333). -/
def fadeNext (now target rate : Nat) : Nat :=
  if rate = 0 then target else if now < target then min target (now + rate) else max target (now - rate)

/-- The fade's step. -/
def State.fadeBoundary (u : Fin 2) (s : State) : State :=
  let c := corrOf s.active u
  let x := s.corr.surf[u]
  let n := fadeNext x.fadeNow.toNat (16 * c.target) c.rate
  { s with corr := { s.corr with surf := s.corr.surf.set u { x with fadeNow := BitVec.ofNat 15 n } } }.report
    (noteIf (x.fadeNow.toNat != 16 * c.target && n == 16 * c.target) [.irq (0x24 + u.val) 0])

/-- D_a of the period that ends (09 R354). -/
def Corr.demandOf (c : Corr) (a : Fin 16) : Nat :=
  ((c.demand.filter (fun x => x.1 / 256 == a.val)).map (fun x => x.2)).foldl max 0

/-- K_a after a demand of `d` under a budget of `b` (09 R353). -/
def gainNext (k d b krel : Nat) : Nat := if b < d then k * b / d else min 4096 (k + krel)

/-- PEAKR (09 R360). -/
def peakRatio (d b : Nat) : Nat := if b = 0 then (if d = 0 then 0 else 8191) else min 8191 (4096 * d / b)

/-- The gain of one limited array. -/
def State.gainBoundary (u : Fin 2) (s : State) (a : Fin 16) : State :=
  let d := s.corr.demandOf a
  let b := s.budgetOf s.active a
  let k := (s.corr.k[a]).toNat
  let n := gainNext k d b (corrOf s.active u).krel
  { s with corr := { s.corr with k := s.corr.k.set a (BitVec.ofNat 13 n), dLast := s.corr.dLast.set a d } }.report
    ([Note.word (Reg.LB_STAT a) (at32 0 n ||| at32 16 (peakRatio d b))] ++
      noteIf (k == 4096 && decide (n < 4096)) [.irq (0x24 + u.val) 1])

/-- Counts of some arrays removed. -/
def dropCounts (l : List (Fin 16)) (m : List (Nat × Nat)) : List (Nat × Nat) :=
  m.filter (fun x => !l.any (fun a => x.1 / 256 == a.val))

/-- The counts and sums of a new composition period: those of arrays that the commit takes away go too (09 R338, R345, R354, R356). -/
def State.clearPeriod (u : Fin 2) (first : Bool) (s : State) : State :=
  let l := (s.compEntries u ++ s.activeEntries u).map (fun e => e.n)
  let x := s.corr.surf[u]
  let w := Vector.ofFn (fun (i : Fin 12) =>
    if (windowOf s.active (i.val / 3)).surf == u.val then 0 else s.corr.wsumNew[i])
  { s with corr := { s.corr with
    demand := dropCounts l s.corr.demand, admitted := dropCounts l s.corr.admitted, wsumNew := w
    surf := s.corr.surf.set u { x with
      clipped := false, tpar := false, sumsNew := [], fc := if first then 0 else x.fc + 1 } } }

/-- The tile model's step at the boundary: a fallback frame's comes at the end of its plane 0 (15 R549). -/
def State.tileBoundary (v : FrameView) (s : State) : State :=
  if v.fb then s
  else State.tileStep v.u (s.surf[v.u]).per (if v.driven then (s.corr.surf[v.u]).sumsShow else []) ownStitch s

/-- The correction chain at surface u's boundary; `lim` and `tpar` are LBLIM and TPAR of the period that ends. -/
def State.corrBoundary (v : FrameView) (first lim tpar : Bool) (s : State) : State :=
  let u := v.u
  let s := (State.activateMap u first s).tileBoundary v
  let s := s.fadeBoundary u
  let s := (s.limitedArrays u).foldl (State.gainBoundary u) s
  (s.clearPeriod u first).report
    [.word (Reg.CR_STAT u) (flag32 1 lim ||| flag32 2 (s.corr.surf[u]).drstale ||| flag32 3 tpar)]

/-! ### The composition period that begins (07 R275, 08 R317) -/

/-- The composer of surface u starts a period (08 R317, R319; 07 R291; 15 R545): with no entries the frame is complete at
once (01 R13). -/
def State.beginCompose (u : Fin 2) (s : State) : State :=
  let z := s.surfNow u
  let bare := (s.activeEntries u).isEmpty
  let on := s.top.storesOk && !s.thm.stopped && z.w != 0 && z.h != 0
  let old := (s.surf[u]).compRegs
  let s := { s with fab := { s.fab with discard := false, turn := 0 } }
  let s := s.setComp u { composing := on, doneAt := if bare then some (s.surf[u]).bk else none }
  let s := State.setSurf u { s.surf[u] with compRegs := activeOnly s.regs, complete := bare } s
  let s := (s.restartStreams u old).beginPeriods u
  let s := s.when (s.intakeFailed u) (State.stopComposing u)
  (s.beginLayers u).releaseLines u

/-! ### Captures (04 R182; 11 R424) -/

/-- AM_STAT, AM_ID and AM_IDX of an array (04 R182). -/
def ArrayLink.words (x : ArrayLink) (n : Nat) : List Note :=
  let w := x.w0
  let f := fun (b : BitVec 64) (lo n at_ : Nat) => at32 at_ (fld b lo n)
  if !x.ident then [.word (Reg.AM_STAT n) 0, .word (Reg.AM_ID n) 0, .word (Reg.AM_IDX n) 0]
  else [
    .word (Reg.AM_STAT n) (flag32 0 x.ready ||| f w 4 2 1 ||| f w 7 1 3 ||| f w 8 8 4 ||| f w 6 1 12 ||| f w 17 1 13 |||
      f w 16 1 14 ||| f w 32 10 16),
    .word (Reg.AM_ID n) (f x.id0 0 32 0),
    .word (Reg.AM_IDX n) (f x.id0 32 8 0 ||| f x.id0 40 4 8 ||| f x.id0 44 3 12 ||| f x.id1 40 8 16 ||| f x.id1 32 4 24)]

/-- The array registers captured at surface u's boundary: an array without an entry reads 0. -/
def State.arrayNotes (s : State) (u : Fin 2) : List Note :=
  arrays.flatMap (fun a =>
    match s.linkEntry a with
    | some e => if e.surf = u.val then (s.arr[a]).words a.val else []
    | none => (ArrayLink.words {} a.val))

/-- Two live counts of a pair register, each saturating at its field (10 R389). -/
def shadePair (f : RegFile) (a : Nat) : Word :=
  at32 0 (min 0xFFFF (lget f a).toNat) ||| at32 16 (min 0xFFFF (lget f (a + 1)).toNat)

/-- SH_REJ from its live counts. -/
def shadeRej (f : RegFile) : Word :=
  let g := fun (u : Fin 2) (o : Bool) => min 0xFF (lget f (rejKey u o)).toNat
  at32 0 (g 0 false) ||| at32 8 (g 0 true) ||| at32 16 (g 1 false) ||| at32 24 (g 1 true)

/-- A pair register with surface u's bits replaced. -/
def mergePair (u : Fin 2) (old new : Word) : Word :=
  if u.val = 0 then (old &&& 0xFFFF0000) ||| (new &&& 0xFFFF) else (old &&& 0xFFFF) ||| (new &&& 0xFFFF0000)

/-- The SHADE page's counters at surface u's boundary (10 R389). -/
def State.shadeCounters (s : State) (u : Fin 2) : List Note :=
  (([Reg.SH_TAKES, Reg.SH_SPLICE, Reg.SH_RDARK].map (fun a => (a, shadePair s.live a))) ++ [(Reg.SH_REJ, shadeRej s.live)]).map
    (fun x => Note.word x.1 (mergePair u (rget s.regs x.1) x.2))

/-- Counters of a stream (06 R253). -/
def streamCounters (p : Nat) : List Nat :=
  [Reg.IN_FRAMES p, Reg.IN_MISSFR p, Reg.IN_DROPFR p, Reg.IN_FAILFR p, Reg.IN_LINEFIX p, Reg.IN_PKTERR p, Reg.IN_LATE p,
   Reg.IN_SPCNT p, Reg.IN_SPDROP p]

/-- Pages and counters captured at surface u's boundary. -/
def State.captures (s : State) (u : Fin 2) : List (Nat × List Nat) :=
  (slotsOf u).map (fun (n : Fin 16) => (0x10 + n.val, [Reg.LY_TAGERR n, Reg.LY_LATE n, Reg.LY_URGENT n])) ++
  (intakes.filter (fun st => (s.inSet st).surf == u)).map (fun st => (0x04 + st.val, streamCounters st.val)) ++
  [(0x20 + u.val, [Reg.CP_RETIRE u, Reg.CP_REACH u, Reg.CP_MESHERR u]),
   (0x24 + u.val, [Reg.CR_LBCLIP u, Reg.CR_CALCE u, Reg.CR_CALUE u, Reg.CR_DRLATE u]),
   (0x2C, [Reg.ST_REPEAT u, Reg.ST_LATE u, Reg.ST_DEGCNT u]), (0x28, []), (0x3C, []), (0x00, [])]

/-- Pages and counters captured at surface 0's boundary for both. -/
def sharedCaptures : List (Nat × List Nat) :=
  outLanes.map (fun l => (0x30 + l.val, [Reg.SK_DOWNCNT l.val])) ++
  intakes.map (fun l => (0x04 + l.val, [Reg.IN_BIPERR l.val, Reg.IN_LOCKLOSS l.val])) ++
  [(0x20, [Reg.FB_STALLCNT 0, Reg.FB_PARCNT 0, Reg.FB_CODECNT 0, Reg.FB_STLATE 0, Reg.FB_CANCNT 0]),
   (0x2C, [Reg.ST_FS_CE, Reg.ST_FS_UE]),
   (0x38, [Reg.AL_CRCERR, Reg.AL_SHOWERR, Reg.AL_CMDERR, Reg.AL_RETERR, Reg.AL_MISS, Reg.AL_EMFLT]),
   (0x3E, [Reg.BL_ALERT 0, Reg.BL_ALERT 1, Reg.BL_LOCKLOSS 0, Reg.BL_LOCKLOSS 1])]

/-- The captures of surface u's boundary (11 R424). -/
def State.captureAll (u : Fin 2) (s : State) : State :=
  let s := s.report (s.arrayNotes u ++ s.shadeCounters u)
  let k := (s.surf[u]).k
  (s.captures u ++ (if u.val = 0 then sharedCaptures else [])).foldl (fun (s : State) x => s.capture x.1 k x.2) s

/-! ### SURFACE_FRAME_BOUNDARY -/

/-- The frame that surface u shows is replaced by the one that begins: show side. -/
def State.beginFrame (v : FrameView) (d : Decision) (k per : Nat) (s : State) : State :=
  let u := v.u
  let x := s.surf[u]
  let before := s.skeinsOf u
  let planes := (s.viewNow u).m.planes
  let y := x.next v d k per
  let notes := swapNotes x u d.swap ++ s.decisionNotes x v d
  let s := s.when (x.decided != some d) (State.comingRanges v d)
  let s := (s.setSurf u y).when d.swap (State.takeSums u)
  let s := (s.report notes).beginSkeins v before planes
  (s.frameRows u (x.newSettings y)).shadeFrame v

/-- The composition period that begins, under the settings then active: compose side. -/
def State.beginPeriodOf (v : FrameView) (first lim tpar : Bool) (s : State) : State :=
  let u := v.u
  let s := (s.applyCommit u).retire u
  let s := (s.applyClears u).corrBoundary v first lim tpar
  let s := s.beginCompose u
  { s with dma := { s.dma with lyDrq := setBit s.dma.lyDrq u.val } }

/-- Frame boundary b_k of surface u. -/
def State.frameBoundary (u : Fin 2) (s : State) : State :=
  let first := !(s.surf[u]).started
  let d := s.settled u
  let v := (State.setSurf u { s.surf[u] with decided := some d } s).viewNext u
  let b := s.nextStart u
  let notes := noteIf (!first) (s.slackNotes u b.1 ++ s.periodNotes u ++ s.healthNote u)
  let lim := s.limitedNow u
  let tpar := (s.corr.surf[u]).tpar
  let k := s.nextK u
  let s := (s.report notes).endPeriods u
  let s := s.beginFrame v d k b.2
  (State.beginPeriodOf v first lim tpar s).captureAll u |>.gladeSettle

/-- A boundary of the time base has fallen for which surface u has had none. -/
def State.boundaryDue (s : State) (u : Fin 2) : Bool :=
  s.tb.fcnt != 0 && !((s.surf[u]).started && s.tb.fcnt.toNat == (s.surf[u]).k + 1)

/-- What this sample registers of the frame that ends at surface u's boundary comes first: its lines (06 R246), its completion (08
R303) and its derating map (09 R344). -/
def State.endingFirst (u : Fin 2) (s : State) : State :=
  s.takeFirst (fun c => match c with
    | .linePacket _ st blocks => if (s.inSet st).surf = u then some (State.packetIn st blocks) else none
    | .frameComplete _ w => if w = u then some (State.frameComplete u) else none
    | .deratingMapWritten _ w => if w = u then some (State.mapWritten u) else none
    | _ => none)

/-- SURFACE_FRAME_BOUNDARY (03 R74): one in each time-base frame (11 R399). -/
def execSurfaceFrameBoundary (t : Nat) (u : Fin 2) (s : State) : Host.Outcome State Fault Refusal :=
  onCore t s (fun s => s.when (s.boundaryDue u) (fun s => State.frameBoundary u (s.endingFirst u)))

end Sys2Proof.Machine
end

