-- ==== Sys2Proof/Machine/DmaCore.lean ====
section
/-! DEFINITION. The DMA channels: request lines, status words, control commands and the transitions that touch no data
(chapter 14). -/

namespace Sys2Proof.Machine

open Sys2Proof

/-- The eight channels. -/
def channels : List (Fin 8) := List.finRange 8

/-- One channel replaced. -/
def State.setCh (n : Fin 8) (c : DmaCh) (s : State) : State := { s with dma := { s.dma with ch := s.dma.ch.set n c } }

/-! ### Request lines (14 R508) -/

/-- REQ of a channel. -/
def State.dmaReq (s : State) (n : Fin 8) : Nat := fld (rget s.regs (Reg.DMA_CFG n)) 0 4

/-- Request line r is asserted; line 15 is the channel's own (14 R508, R510). -/
def State.reqLine (s : State) (n : Fin 8) (r : Nat) : Bool :=
  if r < 4 then !(s.intake.drq[Fin.ofNat 4 r]).isEmpty
  else if r < 6 then (s.shade.surf[Fin.ofNat 2 (r - 4)]).drq
  else if r < 8 then bit s.dma.lyDrq (r - 6)
  else if r = 8 then s.exporting && !s.log.empty
  else if r = 15 then (s.dma.ch[n]).swPend != 0
  else false

/-- The source of a line registers the end of the burst that answered it (14 R508, R509; 10 R376). -/
def State.settleLine (r : Nat) (s : State) : State :=
  if r = 4 ∨ r = 5 then
    let u : Fin 2 := Fin.ofNat 2 (r - 4)
    { s with shade := { s.shade with surf := s.shade.surf.set u { s.shade.surf[u] with drq := false } } }
  else if r = 6 ∨ r = 7 then { s with dma := { s.dma with lyDrq := clearBit s.dma.lyDrq (r - 6) } }
  else s

/-! ### Register words (14 R527, R528) -/

/-- STATE. -/
def DmaState.code : DmaState → Nat
  | .idle => 0
  | .fetch => 1
  | .wait => 2
  | .move => 3
  | .wb => 4
  | .parked => 5

/-- OUTCOME. -/
def DmaOut.code : DmaOut → Nat
  | .none => 0
  | .done => 1
  | .bad => 2
  | .aborted => 3

/-- DMA_CHn_STAT. -/
def DmaCh.statWord (c : DmaCh) : Word :=
  at32 0 c.st.code ||| flag32 3 c.owner ||| flag32 4 c.stopPend ||| flag32 5 c.doorPend ||| at32 6 c.lastOut.code |||
    at32 8 c.cause.toNat ||| flag32 12 c.fetchErr ||| flag32 13 c.busyErr ||| flag32 14 c.abtErr ||| flag32 15 c.cfgErr |||
    flag32 16 c.reqOvf ||| at32 24 c.swPend.toNat

/-- W1C flags of DMA_CHn_STAT cleared. -/
def DmaCh.clearFlags (c : DmaCh) (v : Word) : DmaCh :=
  { c with
    fetchErr := c.fetchErr && !bit v 12, busyErr := c.busyErr && !bit v 13, abtErr := c.abtErr && !bit v 14
    cfgErr := c.cfgErr && !bit v 15, reqOvf := c.reqOvf && !bit v 16 }

/-- DMA_GSTAT. -/
def State.dmaStatus (s : State) : Word :=
  channels.foldl (fun (w : Word) n => if (s.dma.ch[n]).st = .idle then w else setBit w n.val) (at32 8 s.top.phase.code)

/-- DMA_REQSTAT. -/
def State.dmaLevels (s : State) : Word :=
  (List.range 9).foldl (fun (w : Word) r => if s.reqLine 0 r then setBit w r else w) 0

/-! ### Descriptors (14 R511) -/

/-- NEXT. -/
def Desc.nextAddr (d : Desc) : BitVec 64 := d.next &&& 0xFFFFFFFFFFFFFFC0#64

/-- Reads of host memory that a channel has issued and that have ended are forgotten. -/
def HostPort.forget (h : HostPort) (n : Fin 8) : HostPort :=
  { h with up := h.up.filter (fun r => r.who != .dma n || decide (r.res = .waiting)) }

/-- A read of host memory by a channel is issued, its tag kept. -/
def State.dmaUpRead (n : Fin 8) (addr len : Nat) (s : State) : State :=
  let tag := s.host.nextTag
  let s := State.upRead (.dma n) addr len { s with host := s.host.forget n }
  s.setCh n { s.dma.ch[n] with upTag := some tag }

/-- The fetch of the descriptor at CUR is issued: bytes 0x00 to 0x1F (14 R511, R521). -/
def State.dmaFetch (n : Fin 8) (s : State) : State :=
  let s := s.setCh n { s.dma.ch[n] with st := .fetch, upTag := none, reread := false, moved := 0, burst := false, taken := false }
  if (s.dma.ch[n]).curSp then s else s.dmaUpRead n (s.dma.ch[n]).cur.toNat 32

/-- The re-read of a parked channel's descriptor is issued: bytes 0x10 to 0x17 (14 R522). -/
def State.dmaReread (n : Fin 8) (s : State) : State :=
  let s := s.setCh n { s.dma.ch[n] with doorPend := false, reread := true, upTag := none }
  if (s.dma.ch[n]).curSp then s else s.dmaUpRead n ((s.dma.ch[n]).cur.toNat + 0x10) 8

/-! ### Transitions (14 R521) -/

/-- IDLE is entered (14 R510). -/
def DmaCh.toIdle (c : DmaCh) : DmaCh :=
  { c with st := .idle, swPend := 0, stopPend := false, abortPend := false, reread := false, upTag := none
           burst := false, taken := false }

/-- HALT event of a channel (14 R527). -/
def haltNote (n : Fin 8) : Note := .irq 0x0A (16 + n.val)

/-- PARKED is entered: a pending doorbell issues the re-read (14 R522). -/
def State.dmaPark (n : Fin 8) (s : State) : State :=
  let s := (s.setCh n { s.dma.ch[n] with st := .parked, reread := false, upTag := none }).report [haltNote n]
  if (s.dma.ch[n]).doorPend then s.dmaReread n else s

/-- CUR takes NEXT, in NEXT_SP. -/
def DmaCh.advance (c : DmaCh) : DmaCh := { c with cur := c.desc.nextAddr, curSp := bit c.desc.next 0 }

/-- STOP (14 R521, R523). -/
def State.dmaStop (n : Fin 8) (s : State) : State :=
  let c := s.dma.ch[n]
  if c.st = .idle then s
  else if c.st = .parked then s.setCh n c.toIdle
  else s.setCh n { c with stopPend := true }

/-- The phase was SERVICE before this sample (14 R524). -/
def State.phaseService (s : State) : Bool := s.phaseBefore == 1

/-- A STOP or an ABORT that the sample of a descriptor boundary or of a request registers comes first (14 R526): here the channel is in WB
or in WAIT. -/
def State.haltFirst (n : Fin 8) (s : State) : State :=
  s.takeFirst (fun c => match c with
    | .dmaStop _ req m => if m = n then some (State.access req 0x0A (State.dmaStop n)) else none
    | .dmaAbort _ req m => if m = n ∧ s.phaseService = false then
        some (State.access req 0x0A (fun s => s.setCh n { s.dma.ch[n] with abortPend := true })) else none
    | _ => none)

/-- A descriptor boundary: what follows WB (14 R521, R524, R526). -/
def State.dmaBoundary (n : Fin 8) (s : State) : State :=
  let s := s.haltFirst n
  let c := s.dma.ch[n]
  if c.lastOut = .aborted then (s.setCh n c.toIdle).report [haltNote n]
  else if c.abortPend then (s.setCh n { c.toIdle with lastOut := .aborted, residue := 0 }).report [haltNote n]
  else if c.stopPend then (s.setCh n c.advance.toIdle).report [haltNote n]
  else if bit c.desc.next 1 then s.dmaPark n
  else (s.setCh n c.advance).dmaFetch n

/-- What an outcome reports (14 R521, R527, R529). -/
def outcomeNotes (n : Fin 8) (out : DmaOut) (irq : Bool) : List Note :=
  noteIf (out == .done && irq) [.irq 0x0A n.val] ++
  noteIf (out == .bad) [.irq 0x0A (8 + n.val), .count (Reg.DMA_BADCNT n) 1, .raise Src.DMA_BAD]

/-- A write-back is due: after every outcome but a DONE without WB (14 R515). -/
def DmaCh.writesBack (c : DmaCh) : Bool := c.lastOut != .done || bit c.desc.ctl 6

/-- A descriptor ends: WB is entered, and left at once where no write-back is due (14 R515, R521). -/
def State.dmaEnd (n : Fin 8) (out : DmaOut) (cause residue : Nat) (s : State) : State :=
  let c := s.dma.ch[n]
  let c := { c with
    st := .wb, lastOut := out, cause := if out = .bad then BitVec.ofNat 4 cause else c.cause
    residue := BitVec.ofNat 24 residue, doneCnt := c.doneCnt + 1, burst := false, upTag := none }
  let s := (s.setCh n c).report (outcomeNotes n out (bit c.desc.ctl 5))
  if c.writesBack then s else s.dmaBoundary n

/-! ### Control commands (14 R510, R519–R524) -/

/-- A START is refused (14 R519). -/
def State.startRefused (s : State) (n : Fin 8) : Bool :=
  let r := s.dmaReq n
  (decide (9 ≤ r) && decide (r ≤ 14)) ||
    (decide (r ≤ 8) && channels.any (fun m => m != n && (s.dma.ch[m]).st != .idle && s.dmaReq m == r)) ||
    (bit (rget s.regs (Reg.DMA_CFG n)) 4 && rget s.regs (Reg.DMA_DSC_HI n) != 0)

/-- DSC. -/
def State.dmaDsc (s : State) (n : Fin 8) : BitVec 64 :=
  BitVec.ofNat 64 ((rget s.regs (Reg.DMA_DSC_LO n)).toNat / 64 * 64 + (rget s.regs (Reg.DMA_DSC_HI n)).toNat * 2 ^ 32)

/-- START (14 R519, R520): the channel's owner is the writer, a DMA write's the writing channel's own. -/
def State.dmaStart (req : Req) (n : Fin 8) (s : State) : State :=
  let c := s.dma.ch[n]
  if c.st ≠ .idle then (s.setCh n { c with busyErr := true }).hit (Reg.DMA_STAT n) 0x2000
  else if s.startRefused n then (s.setCh n { c with cfgErr := true }).hit (Reg.DMA_STAT n) 0x8000
  else (s.setCh n { c with
    owner := s.ownerBit req == 1, cur := s.dmaDsc n, curSp := bit (rget s.regs (Reg.DMA_CFG n)) 4 }).dmaFetch n

/-- SWREQ (14 R510). -/
def State.dmaSwreq (n : Fin 8) (s : State) : State :=
  let c := s.dma.ch[n]
  if c.st = .idle then s
  else if c.swPend = 255 then (s.setCh n { c with reqOvf := true }).hit (Reg.DMA_STAT n) 0x10000
  else s.setCh n { c with swPend := c.swPend + 1 }

/-- DOOR (14 R522). -/
def State.dmaDoor (n : Fin 8) (s : State) : State :=
  let c := s.dma.ch[n]
  if c.st = .parked ∧ c.reread = false then s.dmaReread n else s.setCh n { c with doorPend := true }

/-- ABORT where the phase allows it (14 R521, R524). -/
def State.dmaAborted (n : Fin 8) (s : State) : State :=
  let c := s.dma.ch[n]
  if c.st = .idle then s
  else if c.st = .parked then s.setCh n c.toIdle
  else if c.st = .wait then s.dmaEnd n .aborted 0 c.left
  else s.setCh n { c with abortPend := true }

/-- ABORT (14 R524): in SERVICE it has no effect and sets ABTERR. -/
def State.dmaAbort (n : Fin 8) (s : State) : State :=
  if s.phaseService then (s.setCh n { s.dma.ch[n] with abtErr := true }).hit (Reg.DMA_STAT n) 0x4000 else s.dmaAborted n

/-- DMA_CHn_CTRL written: its bits act in the order START, SWREQ, DOOR, STOP, ABORT (14 R520). -/
def State.writeDmaCtrl (req : Req) (n : Fin 8) (v : Word) (s : State) : State :=
  let s := s.when (bit v 0) (State.dmaStart req n)
  let s := s.when (bit v 4) (State.dmaSwreq n)
  let s := s.when (bit v 3) (State.dmaDoor n)
  let s := s.when (bit v 1) (State.dmaStop n)
  s.when (bit v 2) (State.dmaAbort n)

/-- DMA_START (14 R519). -/
def execDmaStart (t : Nat) (req : Req) (n : Fin 8) (s : State) : Host.Outcome State Fault Refusal :=
  onCore t s (State.access req 0x0A (State.dmaStart req n))

/-- DMA_STOP (14 R523). -/
def execDmaStop (t : Nat) (req : Req) (n : Fin 8) (s : State) : Host.Outcome State Fault Refusal :=
  onCore t s (State.once (.dmaStop t req n) (State.access req 0x0A (State.dmaStop n)))

/-- DMA_ABORT (14 R524). -/
def execDmaAbort (t : Nat) (req : Req) (n : Fin 8) (s : State) : Host.Outcome State Fault Refusal :=
  onCore t s (State.once (.dmaAbort t req n) (State.access req 0x0A (State.dmaAbort n)))

/-- DMA_DOOR (14 R522). -/
def execDmaDoor (t : Nat) (req : Req) (n : Fin 8) (s : State) : Host.Outcome State Fault Refusal :=
  onCore t s (State.access req 0x0A (State.dmaDoor n))

/-- DMA_SWREQ (14 R510). -/
def execDmaSwreq (t : Nat) (req : Req) (n : Fin 8) (s : State) : Host.Outcome State Fault Refusal :=
  onCore t s (State.access req 0x0A (State.dmaSwreq n))

end Sys2Proof.Machine
end

