-- ==== Sys2Proof/Machine/Power.lean ====
section
/-! DEFINITION. Supplies, droop and die temperature (15 R530–R548). -/

namespace Sys2Proof.Machine

open Sys2Proof

/-! ### Rails and current monitors (15 R530–R533) -/

/-- Limits of a rail in mV, low and high; the low side of VDD_CORE is the droop detector's (15 R530). -/
def railLimits (r : Nat) : Nat × Nat :=
  ([(0, 830), (740, 860), (830, 970), (1110, 1290), (1660, 1940), (3040, 3560), (1660, 1940)] : List (Nat × Nat)).getD r (0, 0)

/-- Full scale of a current monitor in units of 10 mA (15 R530). -/
def railFull (r : Nat) : Nat := ([2000, 500, 400, 200] : List Nat).getD r 0

/-- Nominal voltage of a monitored rail in mV (15 R530). -/
def railNominal (r : Nat) : Nat := ([750, 800, 900, 1200] : List Nat).getD r 0

/-- The seven rails. -/
def rails : List (Fin 7) := List.finRange 7

/-- The four current monitors. -/
def monitors : List (Fin 4) := List.finRange 4

/-- A sample lies outside its rail's limits. -/
def railOff (r mv : Nat) : Bool := decide (mv < (railLimits r).1) || decide ((railLimits r).2 < mv)

/-- One rail's voltage in a sample (15 R531): two samples 10 µs apart outside set the bit, 100 within clear it. -/
def Power.railStep (p : Power) (r : Fin 7) (mv : Nat) : Power :=
  let off := railOff r mv
  let o := if off then min 2 (p.railOut[r] + 1) else 0
  let i := if off then 0 else min 100 (p.railIn[r] + 1)
  { p with
    railOut := p.railOut.set r o, railIn := p.railIn.set r i
    railErr := putBit p.railErr r (o == 2 || (bit p.railErr r && i != 100))
    accV := p.accV.set r (p.accV[r] + mv) }

/-- One monitor's current in a sample (15 R532, R533). -/
def Power.monStep (p : Power) (m : Fin 4) (mv cur : Nat) : Power :=
  let n := if railFull m ≤ cur then min 100 (p.monFull[m] + 1) else 0
  { p with
    monFull := p.monFull.set m n, monBad := putBit p.monBad m (bit p.monBad m || n == 100)
    monPass := if n = 100 then p.monPass.set m 0 else p.monPass
    accP := p.accP.set m (p.accP[m] + mv * cur), accI := p.accI.set m (p.accI[m] + cur) }

/-- UV in a sample (15 R537): cleared after 10 µs above 0.69 V. -/
def Power.uvStep (p : Power) (mv : Nat) : Power :=
  let n := if 690 < mv then min 2 (p.uvIn + 1) else 0
  { p with uvIn := n, uv := p.uv && n != 2 }

/-- The supplies after a sample. -/
def Power.sample (p : Power) (r : RailReading) : Power :=
  let p := rails.foldl (fun p i => p.railStep i (r.mv[i])) p
  let p := monitors.foldl (fun p i => p.monStep i (r.mv[i.val]'(by have := i.isLt; omega)) (r.cur[i])) p
  { p.uvStep (r.mv[0]) with samples := p.samples + 1 }

/-- What newly set bits of RAILERR and MONBAD report (15 R531, R532, R553). -/
def railNotes (old new : Power) : List Note :=
  (bitsOf (new.railErr &&& ~~~old.railErr) 7).flatMap (fun _ => [.raise Src.PWR_RAIL, .irq 0x40 2]) ++
  (bitsOf (new.monBad &&& ~~~old.monBad) 4).flatMap (fun _ => [.raise Src.PWR_MONFAIL, .irq 0x40 1])

/-- A change of the supplies with what it reports. -/
def State.setPower (p : Power) (s : State) : State := { s with pwr := p }.report (railNotes s.pwr p)

/-- A sample of the rails: VDD_CORE at or below 0.71 V restarts the release interval of an active droop detector (15 R534). -/
def State.railIn (r : RailReading) (s : State) : State :=
  let p := s.pwr.sample r
  s.setPower (if p.droop ∧ r.mv[0] ≤ 710 then { p with lowAt := s.now } else p)

/-- RAIL_SAMPLE (15 R531). -/
def execRailSample (t : Nat) (r : RailReading) (s : State) : Host.Outcome State Fault Refusal :=
  onCore t s (State.once (.railSample t r) (State.railIn r))

/-- A monitor's self-check (15 R532). -/
def Power.selfCheck (p : Power) (m : Fin 4) (pass : Bool) : Power :=
  let n := if pass then min 3 (p.monPass[m] + 1) else 0
  { p with
    monPass := p.monPass.set m n
    monBad := putBit p.monBad m (if pass then bit p.monBad m && n != 3 else true) }

/-- A monitor has checked itself. -/
def State.monitorIn (m : Fin 4) (pass : Bool) (s : State) : State := s.setPower (s.pwr.selfCheck m pass)

/-- MONITOR_SELF_CHECK (15 R532). -/
def execMonitorSelfCheck (t : Nat) (m : Fin 4) (pass : Bool) (s : State) : Host.Outcome State Fault Refusal :=
  onCore t s (State.once (.monitorSelfCheck t m pass) (State.monitorIn m pass))

/-- Power of a rail over the step in 10 µW; full scale at nominal voltage for a bad monitor (15 R533). -/
def Power.railPower (p : Power) (m : Fin 4) : Nat :=
  if bit p.monBad m then railFull m * railNominal m else p.accP[m] / max 1 p.samples

/-- P in 10 µW: the monitored rails and P_FIX = 0.40 W (15 R533). -/
def Power.total (p : Power) : Nat := (monitors.map p.railPower).sum + 40000

/-- The sums of a new step. -/
def Power.newStep (p : Power) : Power :=
  { p with accP := Vector.replicate 4 0, accV := Vector.replicate 7 0, accI := Vector.replicate 4 0, samples := 0 }

/-- PWR_RAIL_r at the end of a step (15 R554). -/
def Power.railWord (p : Power) (r : Fin 7) : Word :=
  at32 0 (min 8191 (p.accV[r] / max 1 p.samples)) |||
    (if h : r.val < 4 then at32 16 (min 4095 (p.accI[r.val] / max 1 p.samples)) else 0)

/-- The readings of the last step (15 R554). -/
def Power.readings (p : Power) : List Note :=
  rails.map (fun r => .word (Reg.PWR_RAIL r) (p.railWord r)) ++ [.word Reg.PWR_TOTAL (at32 0 (min 65535 (p.total / 100)))]

/-! ### Droop (15 R534–R537) -/

/-- The detector trips (15 R534, R536). -/
def State.droopOn (s : State) : State :=
  ({ s with pwr := { s.pwr with droop := true, droopAt := s.now, droopLong := false } }.report
    [.count Reg.PWR_DROOPCNT 1, .irq 0x40 0]).meter

/-- A trip restarts the release interval (15 R534). -/
def State.tripped (s : State) : State :=
  State.hit Reg.PWR_DROOPCNT 1 { s with pwr := { s.pwr with lowAt := s.now } }

/-- DROOP_TRIP (15 R535): while the detector is active it only restarts the release interval (15 R534). -/
def execDroopTrip (t : Nat) (s : State) : Host.Outcome State Fault Refusal :=
  onCore t s (fun s => State.tripped (s.when (!s.pwr.droop) State.droopOn))

/-- A trip is registered in this sample: the detector stays active, and the release interval restarts (15 R534). -/
def State.tripping (s : State) : Bool :=
  s.hasCome Reg.PWR_DROOPCNT || s.awaits (fun c => match c with
    | .droopTrip _ => true
    | _ => false)

/-- The detector releases (15 R534, R536). -/
def State.droopOff (s : State) : State :=
  let us := (s.now - s.pwr.droopAt) / usec
  ({ s with pwr := { s.pwr with droop := false } }.report
    [.count Reg.PWR_DROOPTIME us,
     .word Reg.PWR_DROOPMAX (BitVec.ofNat 32 (min 0xFFFFFFFF (max (rget s.regs Reg.PWR_DROOPMAX).toNat us)))]).meter

/-- DROOP_RELEASE (15 R534): VDD_CORE has stayed above 0.71 V for 2 µs without interruption. -/
def execDroopRelease (t : Nat) (s : State) : Host.Outcome State Fault Refusal :=
  onCore t s (fun s => s.when (s.pwr.droop && !s.tripping && decide (s.pwr.lowAt + 2 * usec ≤ s.now)) State.droopOff)

/-- A droop has lasted 1 ms (15 R536). -/
def State.droopLong (s : State) : State :=
  { s with pwr := { s.pwr with droopLong := true } }.report [.raise Src.PWR_DROOPL]

/-- The release is registered in this sample (12 R438). -/
def State.releasing (s : State) : Bool :=
  !s.tripping && decide (s.pwr.lowAt + 2 * usec ≤ s.now) && s.awaits (fun c => match c with
    | .droopRelease _ => true
    | _ => false)

/-- DROOP_LONG (15 R536). -/
def execDroopLong (t : Nat) (s : State) : Host.Outcome State Fault Refusal :=
  onCore t s (fun s => s.when (s.pwr.droop && !s.pwr.droopLong && !s.releasing) State.droopLong)

/-- VDD_CORE has been below 0.65 V for 1 µs (15 R537). -/
def State.underVoltage (s : State) : State :=
  { s with pwr := { s.pwr with uv := true, uvIn := 0 } }.report [.raise Src.PWR_UV]

/-- CORE_UNDER_VOLTAGE (15 R537). -/
def execCoreUnderVoltage (t : Nat) (s : State) : Host.Outcome State Fault Refusal :=
  onCore t s (fun s => s.when (!s.pwr.uv) State.underVoltage)

/-! ### The die model (15 R538–R544) -/

/-- Θ_B in 0.01 °C/W and τ_B in s; 20.00 °C/W and 1 s until a GPR is in force (15 R538). -/
def Glade.board (g : Glade) : Nat × Nat := if g.hasGpr then (g.gp 0x020 0 16, g.gp 0x020 16 16) else (2000, 1)

/-- One stage of the network: P in 10 µW, Θ in 0.01 °C/W, 0.1 ms / τ as 1 / n (15 R538). -/
def thetaStep (th : Int) (p c n : Nat) : Int := th + (((p * c * 2 ^ 32 / 10000000 : Nat) : Int) - th) / n

/-- TREF_LO and TREF_HI in 1/16 °C (15 R539). -/
def Glade.trefLimits (g : Glade) : Int × Int := (signed 16 (g.gp 0x024 0 16), signed 16 (g.gp 0x024 16 16))

/-- THM_TREF in 1/16 °C. -/
def State.tref (s : State) : Int := signed 16 (fld (rget s.regs Reg.THM_TREF) 0 16)

/-- THM_TREF is used (15 R539). -/
def State.trefUsed (s : State) : Bool :=
  s.thm.trefFresh && s.glade.hasGpr && decide (s.glade.trefLimits.1 ≤ s.tref) && decide (s.tref ≤ s.glade.trefLimits.2)

/-- T_REFU (15 R539). -/
def State.trefu (s : State) : Int :=
  if s.trefUsed then s.tref else if s.glade.hasGpr then s.glade.trefLimits.2 else signed 16 Config.trefNoGpr.toNat

/-- The reference in use is judged again; an entry to TREF_HI is reported (15 R539, R553). -/
def State.judgeTref (s : State) : State :=
  { s with thm := { s.thm with refDef := !s.trefUsed, trefu := s.trefu } }.report
    (noteIf (!s.thm.refDef && !s.trefUsed) [.raise Src.THM_REFDEF, .irq 0x41 4])

/-- A write to THM_TREF is registered in this sample (12 R438, 15 R539). -/
def State.trefWritten (s : State) : Bool :=
  s.hasCome Reg.THM_TREF || s.awaits (fun c => match c with
    | .thmTref _ req _ => s.mayWrite req 0x41
    | .registerWrite _ req a _ be => a.toNat == Reg.THM_TREF && be == 0xF && s.mayWrite req 0x41
    | _ => false)

/-- TREF_STALE (15 R539): 1 s without a write. -/
def execTrefStale (t : Nat) (s : State) : Host.Outcome State Fault Refusal :=
  onCore t s (fun s => s.when (!s.trefWritten) (fun s => { s with thm := { s.thm with trefFresh := false } }.judgeTref))

/-- THM_TREF written. -/
def State.writeTref (v : Word) (s : State) : State :=
  (State.hit Reg.THM_TREF 1 { s with
    regs := rset Reg.THM_TREF (at32 0 (fld v 0 16)) s.regs
    thm := { s.thm with trefFresh := true } }).judgeTref

/-- THM_TREF (15 R539). -/
def execThmTref (t : Nat) (req : Req) (v : Word) (s : State) : Host.Outcome State Fault Refusal :=
  onCore t s (State.access req 0x41 (State.writeTref v))

/-- THM_TJADD written: raised only (15 R540). -/
def State.writeTjadd (v : Word) (s : State) : State :=
  { s with regs := rset Reg.THM_TJADD (at32 0 (max (fld v 0 8) (fld (rget s.regs Reg.THM_TJADD) 0 8))) s.regs }

/-- THM_TJADD (15 R540). -/
def execThmTjadd (t : Nat) (req : Req) (v : Word) (s : State) : Host.Outcome State Fault Refusal :=
  onCore t s (State.once (.thmTjadd t req v) (State.access req 0x41 (State.writeTjadd v)))

/-- A field of THM_LIM as a write leaves it: lowered only (15 R541). -/
def limField (old v : Word) (lo : Nat) : Word := at32 lo (min (fld old lo 8) (fld v lo 8))

/-- THM_LIM written. -/
def State.writeLim (v : Word) (s : State) : State :=
  let o := rget s.regs Reg.THM_LIM
  { s with regs := rset Reg.THM_LIM (limField o v 0 ||| limField o v 8 ||| limField o v 16) s.regs }

/-- THM_LIM (15 R541). -/
def execThmLim (t : Nat) (req : Req) (v : Word) (s : State) : Host.Outcome State Fault Refusal :=
  onCore t s (State.once (.thmLim t req v) (State.access req 0x41 (State.writeLim v)))

/-- Threshold i of THM_LIM in 1/16 °C: 0 WARN, 1 THROT, 2 SHUT. -/
def State.limit (s : State) (i : Nat) : Int := (16 * fld (rget s.regs Reg.THM_LIM) (8 * i) 8 : Nat)

/-- Dwell and activity of WARN or THROT after a step (15 R542): `lim` and 5 °C of hysteresis, in 1/16 °C. -/
def dwellStep (tj lim : Int) (dwell : Nat) (active : Bool) : Nat × Bool :=
  let d := if lim ≤ tj then min 100 (dwell + 1) else if tj < lim - 80 then 0 else dwell
  let a := if !decide (lim ≤ tj) && decide (tj < lim - 80) then false else active
  (d, a || d == 100)

/-- SHUT after a step (15 R542): 15 °C of hysteresis. -/
def shutStep (tj lim : Int) (active : Bool) : Bool := if lim ≤ tj then true else if tj < lim - 240 then false else active

/-- The network after a step of power p (15 R538). -/
def Thermal.heat (h : Thermal) (p : Nat) (board : Nat × Nat) : Thermal :=
  { h with
    thD := thetaStep h.thD p 15 50, thP := thetaStep h.thP p 90 15000
    thB := thetaStep h.thB p board.1 (10000 * board.2) }

/-- Tj in 1/16 °C, rounded down: T_REFU, the stages and TJ_ADD (15 R538). -/
def tjOf (h : Thermal) (add : Nat) : Int := h.trefu + (h.thD + h.thP + h.thB) / 268435456 + add

/-- The three states after a step (15 R542). -/
def Thermal.judge (h : Thermal) (l0 l1 l2 : Int) : Thermal :=
  let w := dwellStep h.tj l0 h.dwellW h.warn
  let t := dwellStep h.tj l1 h.dwellT h.throt
  let z := shutStep h.tj l2 h.shut
  if z then { h with warn := true, throt := true, shut := true, dwellW := 100, dwellT := 100 }
  else { h with warn := w.2, throt := t.2, shut := false, dwellW := w.1, dwellT := t.1 }

/-- THM_STAT bits [2:0]. -/
def Thermal.bits (h : Thermal) : Nat := h.warn.toNat + 2 * h.throt.toNat + 4 * h.shut.toNat

/-- THM_TJ of a temperature. -/
def tjWord (tj : Int) : Word := at32 0 (twos 16 tj)

/-- What a step's entries and exits report (15 R543, R553). -/
def thermNotes (a b : Thermal) : List Note :=
  noteIf (!a.warn && b.warn) [.irq 0x41 0, .raise Src.THM_WARN] ++
  noteIf (!a.throt && b.throt) [.irq 0x41 1, .raise Src.THM_THROT, .count Reg.THM_THROTCNT 1] ++
  noteIf (!a.shut && b.shut) [.irq 0x41 2, .raise Src.THM_SHUT, .count Reg.THM_SHUTCNT 1] ++
  noteIf ((a.warn && !b.warn) || (a.throt && !b.throt) || (a.shut && !b.shut)) [.irq 0x41 3]

/-- THM_TJMAX after a step. -/
def State.tjMax (s : State) (tj : Int) : Int := max tj (signed 16 (fld (rget s.regs Reg.THM_TJMAX) 0 16))

/-- M_THERM at the entries of a step (15 R544). -/
def mThermEntry (a b : Thermal) (m : BitVec 4) : BitVec 4 :=
  if !a.shut && b.shut then 12 else if !a.throt && b.throt then (if m.toNat < 4 then 4 else m) else m

/-- The orderly window opens, unless one is open or its parts are stopped already (15 R545, 20 R707, R710). -/
def State.openWindow (s : State) : State :=
  if s.thm.window || s.thm.stopped then s
  else ({ s with thm := { s.thm with window := true, windowAt := s.now }, fst := s.fst.raiseIrq 2 }).hit Reg.FP_IRQ 4

/-- The stopped parts restart when neither shutdown is in force any more (15 R547, 20 R708): Forester leaves reset and
its boot window opens. -/
def State.restart (s : State) : State :=
  if s.thm.stopped && !s.thm.shut && !s.top.cmdSd then
    { s with
      thm := { s.thm with stopped := false }
      fst := { s.fst with st := if s.fst.st = .reset then .rom else s.fst.st, spi := if s.fst.st = .reset then {} else s.fst.spi }
      glade := s.glade.wdRestart s.now false }
  else s

/-- A step of the die model (15 R538–R545, R547). -/
def State.dieStep (s : State) : State :=
  let s := s.judgeTref
  let h := s.thm.heat s.pwr.total s.glade.board
  let h := { h with tj := tjOf h (fld (rget s.regs Reg.THM_TJADD) 0 8) }
  let h' := h.judge (s.limit 0) (s.limit 1) (s.limit 2)
  let s' := { s with
    thm := h', pwr := s.pwr.newStep, fab := { s.fab with mTherm := mThermEntry h h' s.fab.mTherm } }.report
      (s.pwr.readings ++ [Note.word Reg.THM_TJMAX (tjWord (s.tjMax h.tj))] ++ thermNotes h h')
  let s' := s'.when (h.bits != h'.bits) (State.logHw 0x0040 0xFF (h'.bits + twos 16 h.tj * 65536))
  (s'.meter.when (!h.shut && h'.shut) State.openWindow).when (h.shut && !h'.shut) State.restart

/-- Writes of THM_LIM and THM_TJADD, samples and self-checks that the sample of a model step registers apply from that step
(15 R548). -/
def State.stepInputs (s : State) : State :=
  s.takeFirst (fun c => match c with
    | .thmLim _ req v => some (State.access req 0x41 (State.writeLim v))
    | .thmTjadd _ req v => some (State.access req 0x41 (State.writeTjadd v))
    | .railSample _ r => some (State.railIn r)
    | .monitorSelfCheck _ m pass => some (State.monitorIn m pass)
    | _ => none)

/-- DIE_MODEL_STEP (15 R542). -/
def execDieModelStep (t : Nat) (s : State) : Host.Outcome State Fault Refusal := onCore t s (fun s => s.stepInputs.dieStep)

/-- M_THERM after 10 ms (15 R544). -/
def mThermStep (throt hot : Bool) (m : BitVec 4) : BitVec 4 :=
  if throt then (if hot then BitVec.ofNat 4 (min 12 (m.toNat + 1)) else m) else BitVec.ofNat 4 (m.toNat - 1)

/-- THROTTLE_STEP (15 R544). -/
def execThrottleStep (t : Nat) (s : State) : Host.Outcome State Fault Refusal :=
  onCore t s (fun s => { s with fab := { s.fab with
    mTherm := mThermStep s.thm.throt (decide (s.limit 1 ≤ s.thm.tj)) s.fab.mTherm } }.meter)

/-! ### Commanded shutdown (20 R707, R708) -/

/-- SDERR set. -/
def State.shutdownError (s : State) : State := ({ s with top := { s.top with sdErr := true } }).hit Reg.TOP_SHDNSTAT 4

/-- A commanded shutdown started, or refused (20 R707). -/
def State.shutdownOn (s : State) : State :=
  if s.top.cmdSd then s.shutdownError else { s with top := { s.top with cmdSd := true } }.openWindow

/-- The orderly window has ended in this sample (20 R710). -/
def State.windowEnds (s : State) : Bool := (s.kept Reg.TOP_SHDNSTAT).isSome

/-- A commanded shutdown ended, or refused (20 R708). -/
def State.shutdownOff (s : State) : State :=
  if s.top.cmdSd && !s.thm.window && !s.windowEnds then { s with top := { s.top with cmdSd := false } }.restart else s.shutdownError

/-- TOP_SHDN written with the right key. -/
def State.writeShdn (on : Bool) (v : Word) (s : State) : State :=
  if fld v 16 16 = 0x5D0E then (if on then s.shutdownOn else s.shutdownOff) else s.shutdownError

/-- SHUTDOWN_START (20 R707): TOP_SHDN written with REQ = 1. -/
def execShutdownStart (t : Nat) (req : Req) (v : Word) (s : State) : Host.Outcome State Fault Refusal :=
  onCore t s (State.access req 0x00 (State.writeShdn true v))

/-- SHUTDOWN_END (20 R708): TOP_SHDN written with REQ = 0. -/
def execShutdownEnd (t : Nat) (req : Req) (v : Word) (s : State) : Host.Outcome State Fault Refusal :=
  onCore t s (State.access req 0x00 (State.writeShdn false v))

end Sys2Proof.Machine
end

