-- ==== Sys2Proof/Machine/Fabric.lean ====
section
/-! DEFINITION. The fabric's segment watchdogs and its command registers (chapter 08). -/

namespace Sys2Proof.Machine

open Sys2Proof

/-! ### SEGMENT_WATCHDOG (08 R311, R312; 12 R452) -/

/-- A stall is the third of its segment within 1 s, the last two being `l` (08 R311). -/
def thirdStall (l : List Nat) (now : Nat) : Bool :=
  decide (2 ≤ l.length) && l.all (fun x => decide (now ≤ x + 1000 * msec))

/-- The surface that a stall of a segment is recorded for: the first being composed. -/
def State.stallSurf (s : State) : Fin 2 := if (s.comp[0]).composing then 0 else if (s.comp[1]).composing then 1 else 0

/-- What a stall counts, records and raises (08 R311, R321). -/
def stallErrors (seg : Fin 8) (u : Fin 2) (third : Bool) : List Note :=
  [.tally (Reg.FB_STALLCNT 0) 1, .raise Src.FB_STALL, lastErr seg 2 u] ++ noteIf third [.raise Src.FB_STALLP]

/-- Segments 0 to 4 are reset: the periods being composed are withheld until the next boundary (08 R311). -/
def State.resetCompose (s : State) : State :=
  (surfaces.filter (fun u => (s.comp[u]).composing)).foldl (fun (s : State) u =>
    let s := s.withhold u
    s.setComp u { s.comp[u] with composing := false, waitIntake := false, discard := true }) s

/-- A segment stalls. -/
def State.segmentStall (seg : Fin 8) (s : State) : State :=
  let l := s.fab.stalls[seg]
  let third := thirdStall l s.now
  let u := s.stallSurf
  let s := { s with fab := { s.fab with stalls := s.fab.stalls.set seg ((s.now :: l).take 2) } }
  (if seg.val < 5 then s.resetCompose else s.resetShow).report (stallErrors seg u third)

/-- The watchdog of a segment does not run: the segment waits for a line that has still to come, for a token while metering holds one, or
for space in a lane buffer of a skein that is idle or not loading (08 R313). -/
def State.watchdogHeld (s : State) (seg : Fin 8) : SegWait → Bool
  | .handshake => false
  | .crossing _ => false
  | .line u => s.lineWaits u
  | .token => if h : seg.val < 5 then decide (s.fab.tokens[seg.val] < 16) else false
  | .laneBuffer k => (s.skein[k]).lmask == 0 || decide ((s.skein[k]).busyTo ≤ s.now)

/-- The handshake completes no later than in the watchdog's 1 µs tick: the completion prevails (08 R314). -/
def State.acknowledged (s : State) (ack : Option Nat) : Bool := (ack.map (fun t => decide (t / usec ≤ s.now / usec))).getD false

/-- A watchdog trips: on a crossing to a domain whose clock has stopped, the crossing is STALLED (08 R313, 12 R452). -/
def State.watchdog (seg : Fin 8) (wait : SegWait) (ack : Option Nat) (s : State) : State :=
  if s.watchdogHeld seg wait || s.acknowledged ack then s
  else match wait with
  | .crossing d =>
    let c : Crossing := { live := 1, far := d, kind := .fifo }
    s.when (s.mayStall c) (State.stallCrossing c [])
  | _ => s.segmentStall seg

/-- SEGMENT_WATCHDOG (08 R312): `wait` is what the request is for, `ack` the instant at which the handshake completes after all. -/
def execSegmentWatchdog (t : Nat) (seg : Fin 8) (wait : SegWait) (ack : Option Nat) (s : State) :
    Host.Outcome State Fault Refusal :=
  onCore t s (State.watchdog seg wait ack)

/-! ### Registers (08 R309, R315, R321) -/

/-- A write to FB_INJ on surface 0's page: performed while the requester may inject, else INJERR (08 R315, 16 R580). -/
def State.writeFbInj (req : Req) (u : Fin 2) (v : Word) (s : State) : State :=
  let k := fld v 4 2
  if u.val ≠ 0 then s
  else if !s.mayInject req then s.injError
  else if k = 3 then s
  else { s with fab := { s.fab with inj := s.fab.inj.set (Fin.ofNat 8 (fld v 0 3)) (BitVec.ofNat 2 k) } }

/-- FB_INJ (08 R315). -/
def execFbInj (t : Nat) (req : Req) (u : Fin 2) (v : Word) (s : State) : Host.Outcome State Fault Refusal :=
  onCore t s (State.access req (0x20 + u.val) (State.writeFbInj req u v))

/-- A write to FB_MREQ: at most 12, on surface 0's page (08 R309, R321). -/
def State.writeFbMreq (u : Fin 2) (v : Word) (s : State) : State :=
  s.when (u == 0) (fun (s : State) => (s.report [.word (Reg.FB_MREQ 0) (at32 0 (min 12 (fld v 0 4)))]).meter)

/-- FB_MREQ (08 R309). -/
def execFbMreq (t : Nat) (req : Req) (u : Fin 2) (v : Word) (s : State) : Host.Outcome State Fault Refusal :=
  onCore t s (State.access req (0x20 + u.val) (State.writeFbMreq u v))

/-- A write to FB_CLR (08 R321). -/
def State.writeFbClr (u : Fin 2) (v : Word) (s : State) : State :=
  s.report (noteIf (bit v 0) [.word (Reg.FB_FSLACK_MIN u) 0xFFFFF] ++ noteIf (bit v 1) [.word (Reg.FB_SSLACK_MIN u) 0x100])

/-- FB_CLR (08 R321). -/
def execFbClr (t : Nat) (req : Req) (u : Fin 2) (v : Word) (s : State) : Host.Outcome State Fault Refusal :=
  onCore t s (State.access req (0x20 + u.val) (State.writeFbClr u v))

end Sys2Proof.Machine
end

