-- ==== Sys2Proof/Machine/Security.lean ====
section
/-! DEFINITION. SEC commands, image verification, boot, anti-rollback and authenticated debug (chapter 19, 18 R641,
R642, R649). -/

namespace Sys2Proof.Machine

open Sys2Proof

/-! ### Image verification (19 R676) -/

/-- LEN of an image. -/
def imgLen (b : List Byte) : Nat := leAt b 0x008 4

/-- Payload of an image as stored. -/
def imgPayload (b : List Byte) : List Byte := (b.drop 0x200).take (imgLen b)

/-- A run of bytes is 0. -/
def zeroRun (b : List Byte) (a n : Nat) : Bool := ((b.drop a).take n).all (fun x => x == 0)

/-- Check of code 2. -/
def imgHeader (b : List Byte) : Bool :=
  leAt b 0 4 == 0x474B4657 && leAt b 4 1 == 1 && decide (1024 ≤ imgLen b) && decide (imgLen b ≤ 253952) &&
    imgLen b % 16 == 0 && decide (0x10000000 ≤ leAt b 0x00C 4) && decide (leAt b 0x00C 4 + 4 ≤ 0x10000000 + imgLen b) &&
    zeroRun b 0x007 1 && zeroRun b 0x01C 4 && zeroRun b 0x04C 4 && zeroRun b 0x060 0x160

/-- The directory key of slot k: 64 bytes. -/
def dirKey (dir : List Byte) (k : Nat) : List Byte := (dir.drop (0x40 * k)).take 64

/-- SHA-256 as a string of 32 bytes. -/
def sha256Bytes (b : List Byte) : List Byte := toBytesBE 32 (Config.sha256 b).toNat

/-- A directory key matches the OTP hash of its slot (19 R676). -/
def Sec.keyMatches (x : Sec) (key : List Byte) (k : Nat) : Bool := sha256Bytes key == x.otpBytes (0x20 * k) 32

/-- VERIFY's code of an image under the boot directory: the first check that fails, or 1 (19 R676). -/
def Sec.verify (x : Sec) (b dir : List Byte) : Nat :=
  let k := leAt b 5 1
  if !imgHeader b then 2
  else if !(x.usableImg x.cfg k && (!bit x.cfg 27 || leAt b 6 1 == 1)) then 3
  else if !x.keyMatches (dirKey dir k) k then 4
  else if !Config.ecdsaVerify (dirKey dir k) (Config.sha256 (b.take 0x1C0)) ((b.drop 0x1C0).take 64) then 5
  else if sha256Bytes (imgPayload b) != (b.drop 0x020).take 32 then 6
  else if leAt b 0x010 8 < x.arb then 7
  else if !x.selfTest then 9
  else 1

/-- The payload that LOAD writes into the TCM; none where the tag fails (19 R677). An image key that is blank or fails its
check opens nothing. -/
def Sec.open_ (x : Sec) (b : List Byte) : Option (List Byte) :=
  if leAt b 6 1 ≠ 1 then some (imgPayload b)
  else if !x.imageKeyOk then none
  else Config.aesGcmOpen (x.otpBytes 0xA0 32) ((b.drop 0x040).take 12) (b.take 0x40) (imgPayload b) ((b.drop 0x050).take 16)

/-- What a verification's code raises (19 R677). -/
def verifyNotes (code : Nat) : List Note :=
  if code = 1 then [] else if code = 7 then [.raise Src.SEC_ROLLBK] else [.raise Src.SEC_BOOT]

/-- What is raised where a word or bit read fails its check (19 R671, R672, R679). -/
def otpNotes (isBad : Bool) : List Note := noteIf isBad [.raise Src.SEC_OTP]

/-- A word that a verification of the image reads fails its check (19 R671). -/
def Sec.verifyBad (x : Sec) (b : List Byte) : Bool :=
  x.cfgSplit || x.arbBad || x.wordsBad (slotWords (leAt b 5 1)) || x.wordsBad imageWords

/-- The result recorded for slot A or B. -/
def Sec.result (x : Sec) (slotB : Bool) (code : Nat) : Sec :=
  if slotB then { x with resB := BitVec.ofNat 4 code } else { x with resA := BitVec.ofNat 4 code }

/-- A slot verified (19 R676). -/
def State.secVerify (slotB : Bool) (b dir : List Byte) (s : State) : State :=
  let c := s.sec.verify b dir
  { s with sec := s.sec.result slotB c }.report (verifyNotes c ++ otpNotes (s.sec.verifyBad b))

/-- What SEC records of an image that LOAD accepted (19 R677, R690). -/
def Sec.running (x : Sec) (b : List Byte) : Sec :=
  let k := leAt b 5 1
  { x with imgKey := BitVec.ofNat 3 (if k = 0 then 5 else k), enc := leAt b 6 1 == 1, imgCnt := BitVec.ofNat 64 (leAt b 0x010 8) }

/-- Bytes written into the TCM from its first. -/
def State.putTcm (l : List Byte) (s : State) : State :=
  { s with fst := { s.fst with tcm := s.fst.tcm.write 0 zeroByte 0 l } }

/-- SEC_IMGCNT is about to change: what it was counts for the rest of the sample (19 R689). -/
def State.keepImg (c : BitVec 64) (s : State) : State :=
  (s.keepAs (Reg.SEC_IMGCNT 0) ((s.kept (Reg.SEC_IMGCNT 0)).getD (at32 0 (c.toNat % 2 ^ 32)))).keepAs (Reg.SEC_IMGCNT 1)
    ((s.kept (Reg.SEC_IMGCNT 1)).getD (at32 0 (c.toNat / 2 ^ 32)))

/-- SEC_IMGCNT before this sample (19 R689). -/
def State.imgBefore (s : State) : Nat :=
  ((s.kept (Reg.SEC_IMGCNT 0)).getD (at32 0 (s.sec.imgCnt.toNat % 2 ^ 32))).toNat +
    ((s.kept (Reg.SEC_IMGCNT 1)).getD (at32 0 (s.sec.imgCnt.toNat / 2 ^ 32))).toNat * 2 ^ 32

/-- A slot loaded: verified, and its payload written into the TCM, or 0 where the tag fails (19 R677). -/
def State.secLoad (slotB : Bool) (b dir : List Byte) (s : State) : State :=
  let c := s.sec.verify b dir
  if c ≠ 1 then s.secVerify slotB b dir
  else match s.sec.open_ b with
    | some p => ({ (s.putTcm p) with sec := (s.sec.result slotB 1).running b }.keepImg s.sec.imgCnt).report
        (otpNotes (s.sec.verifyBad b))
    | none => { (s.putTcm (List.replicate (imgLen b) 0)) with sec := s.sec.result slotB 8 }.report
        (verifyNotes 8 ++ otpNotes (s.sec.verifyBad b))

/-- LOAD accepts the image: every check passes and the tag holds. -/
def Sec.accepts (x : Sec) (b dir : List Byte) : Bool := x.verify b dir == 1 && (x.open_ b).isSome

/-! ### Boot (18 R641, R642, R649) -/

/-- A journal record is valid (18 R649). -/
def journalOk (r : List Byte) : Bool :=
  leAt r 0 2 == 0x4A52 && leAt r 2 1 == 1 && leAt r 0xFF8 4 == leAt r 4 4 && crc32 (r.take 0xFFC) == leAt r 0xFFC 4

/-- Record b is newer than record a (18 R649). -/
def journalNewer (b a : List Byte) : Bool :=
  let d := (leAt b 4 4 + 2 ^ 32 - leAt a 4 4) % 2 ^ 32
  decide (1 ≤ d) && decide (d < 2 ^ 31)

/-- Journal slot B holds the newest valid record. -/
def journalInB (a b : List Byte) : Bool := journalOk b && (!journalOk a || journalNewer b a)

/-- The newest valid record (18 R641). -/
def journalBest (a b : List Byte) : Option (List Byte) :=
  if journalInB a b then some b else if journalOk a then some a else none

/-- ACTIVE of a record: slot B when true. -/
def journalActive (r : Option (List Byte)) : Bool := match r with | some r => leAt r 8 1 % 4 == 1 | none => false

/-- TRIAL of a record. -/
def journalTrial (r : Option (List Byte)) : Option Bool :=
  match r with
  | some r => if leAt r 8 1 / 4 % 4 = 1 then some false else if leAt r 8 1 / 4 % 4 = 2 then some true else none
  | none => none

/-- TRIED of a slot. -/
def Forester.tried (x : Forester) (slotB : Bool) : Bool := if slotB then x.triedB else x.triedA

/-- TRIED of a slot set. -/
def Forester.try_ (x : Forester) (slotB : Bool) : Forester :=
  if slotB then { x with triedB := true } else { x with triedA := true }

/-- The candidates in order: the trial first, then ACTIVE; or ACTIVE, then the other slot (18 R641). -/
def candidates (trial : Option Bool) (active : Bool) : List Bool :=
  match trial with
  | some x => if x = active then [x] else [x, active]
  | none => [active, !active]

/-- FP_BOOT: SLOT, TRIAL and FELLBACK. -/
def bootWord (slot trial fell : Bool) : Word := flag32 0 slot ||| flag32 1 trial ||| flag32 2 fell

/-- The recovery set (18 R642): the mailbox open, the watchdog serviced from here on. -/
def State.recover (s : State) : State :=
  ({ s with
    regs := rset Reg.FP_MB_CTRL 1 s.regs
    fst := { s.fst with st := .recovery } }.report [.raise Src.FO_BOOT]).when (s.wdRuns && s.gladeOn) State.fwdogService

/-- Candidates loaded in order until one is accepted. `first` tells that none has failed. -/
def State.bootTry (a b dir : List Byte) (trial : Option Bool) (skipped : Bool) : List Bool → Bool → State → State
  | [], _, s => s.recover
  | c :: r, first, s =>
    let img := if c then b else a
    let s' := s.secLoad c img dir
    if s.sec.accepts img dir then
      { s' with
        regs := rset Reg.FP_BOOT (bootWord c (trial == some c) (skipped || !first)) s'.regs
        fst := { s'.fst with st := .firmware }
        sec := { s'.sec with romPhase := false } }
    else State.bootTry a b dir trial skipped r false s'

/-- The ROM selects and starts a slot (18 R641). -/
def State.boot (ja jb a b dir : List Byte) (s : State) : State :=
  let rec_ := journalBest ja jb
  let named := journalTrial rec_
  let skipped := match named with | some x => s.fst.tried x | none => false
  let trial := if skipped then none else named
  let s := match trial with | some x => { s with fst := s.fst.try_ x } | none => s
  let s := { s with fst := { s.fst with rom := { record := rec_, inB := journalInB ja jb } } }
  s.bootTry a b dir named skipped (candidates trial (journalActive rec_)) true

/-- BOOT_SELECT (18 R641): in the ROM, after Glade's LOAD has ended. The recovery set of R642 where no slot verifies. -/
def execBootSelect (t : Nat) (journalA journalB slotA slotB dir : List Byte) (s : State) :
    Host.Outcome State Fault Refusal :=
  onForester t s (fun s => s.when (s.fst.st == .rom && !s.loading) (State.boot journalA journalB slotA slotB dir))

/-! ### SEC commands (19 R674, R675, R681) -/

/-- A command refused (19 R674). -/
def State.secRefuse (code : Nat) (s : State) : State :=
  State.hit Reg.SEC_CMDSTAT 4 { s with sec := { s.sec with err := true, ecode := BitVec.ofNat 4 code } }

/-- The orderly window was open before this sample (19 R689). -/
def State.windowBefore (s : State) : Bool := s.thm.window && decide (s.thm.windowAt / tick < s.now / tick)

/-- A SEC command: refused while BUSY, with a wrong key, for the row's own code, or in a window of ECODE 7; else it starts
(19 R674). -/
def State.secStart (op : Nat) (rowCode : Nat) (addr v : Nat) (w : Word) (s : State) : State :=
  let j : SecJob := { op := BitVec.ofNat 4 op, arg := bit w 4, addr := addr, v := BitVec.ofNat 64 v }
  if s.sec.job.isSome then s.secRefuse 1
  else if fld w 16 16 ≠ 0x05EC then s.secRefuse 2
  else if rowCode ≠ 0 then s.secRefuse rowCode
  else if s.windowBefore || bit s.pwr.railErr 6 then s.secRefuse 7
  else { s with sec := { s.sec with job := some j } }

/-- SEC_OTPDATA. -/
def State.otpData (s : State) : Nat := (rget s.regs (Reg.SEC_OTPDATA 0)).toNat + (rget s.regs (Reg.SEC_OTPDATA 1)).toNat * 2 ^ 32

/-- SEC_ARB_REQ. -/
def State.arbReq (s : State) : Nat := (rget s.regs (Reg.SEC_ARB_REQ 0)).toNat + (rget s.regs (Reg.SEC_ARB_REQ 1)).toNat * 2 ^ 32

/-- ECODE of ARB_RAISE's own conditions under SEC_IMGCNT; 0 for none (19 R681). -/
def Sec.arbCode (x : Sec) (img v : Nat) : Nat :=
  if v < x.arb ∨ (v ≠ x.arb ∧ img < v) then 5
  else if v ≠ x.arb ∧ x.firstBlank.isNone then 6 else 0

/-- ECODE of OTP_PROG's own conditions; a word outside the hash and key area is refused as not blank (DESIGN CHOICE, log entry 21). -/
def Sec.progCode (x : Sec) (addr : Nat) : Nat :=
  if addr < 4 ∨ 27 < addr ∨ !x.blank addr then 4 else if lcsOf x.cfg = 3 then 3 else 0

/-- A move of LCS that R675 allows. -/
def lcsMove (a b : Nat) : Bool := a == b || (a == 0 && b == 1) || (a == 1 && b == 3)

/-- ECODE of CFG_SET's own conditions (19 R675). -/
def Sec.cfgCode (x : Sec) (v : Nat) : Nat :=
  let c := x.cfg
  let n := c ||| BitVec.ofNat 64 (v % 2 ^ 32)
  let usable := (List.range 5).any (fun k => x.usableImg n k)
  if !lcsMove (lcsOf c) (lcsOf n) then 3
  else if lcsOf c ≠ 3 ∧ lcsOf n = 3 ∧ (!(([1, 2, 3, 4] : List Nat).any (fun k => x.usableImg n k)) ∨ !x.sealKeyOk) then 3
  else if !bit c 27 && bit n 27 && !x.imageKeyOk then 3
  else if lcsOf c = 3 ∧ (n &&& ~~~c &&& ~~~(0x081F1F00#64)) ≠ 0 then 3
  else if lcsOf c ≠ 0 ∧ !usable then 8
  else 0

/-- VERIFY (19 R676): SEC_CMD written with OP 1. -/
def State.cmdVerify (v : Word) (s : State) : State := s.secStart 1 0 0 0 v

/-- LOAD (19 R677): SEC_CMD written with OP 2. -/
def State.cmdLoad (v : Word) (s : State) : State := s.secStart 2 (if s.sec.romPhase then 0 else 3) 0 0 v

/-- ARB_RAISE (19 R681): SEC_CMD written with OP 3. -/
def State.cmdArb (v : Word) (s : State) : State :=
  s.secStart 3 (s.sec.arbCode s.imgBefore s.arbReq) ((s.sec.firstBlank.map recordWord).getD 0) s.arbReq v

/-- OTP_PROG (19 R674): SEC_CMD written with OP 4. -/
def State.cmdProg (v : Word) (s : State) : State :=
  let a := fld (rget s.regs Reg.SEC_OTPADDR) 0 9
  s.secStart 4 (s.sec.progCode a) a s.otpData v

/-- CFG_SET (19 R675): SEC_CMD written with OP 5. -/
def State.cmdCfg (v : Word) (s : State) : State := s.secStart 5 (s.sec.cfgCode s.otpData) 0 s.otpData v

/-- SEC_CMD written: by its OP; no command for another OP. -/
def State.writeSecCmd (v : Word) (s : State) : State :=
  if fld v 0 4 = 1 then s.cmdVerify v else if fld v 0 4 = 2 then s.cmdLoad v else if fld v 0 4 = 3 then s.cmdArb v
  else if fld v 0 4 = 4 then s.cmdProg v else if fld v 0 4 = 5 then s.cmdCfg v else s

/-- A write to the SEC page by Forester, its one owner (19 R674). -/
def onSec (t : Nat) (s : State) (f : State → State) : Host.Outcome State Fault Refusal :=
  onForester t s (State.access .forester 0x60 f)

/-- VERIFY (19 R676). -/
def execVerify (t : Nat) (v : Word) (s : State) : Host.Outcome State Fault Refusal := onSec t s (State.cmdVerify v)

/-- LOAD (19 R677). -/
def execLoad (t : Nat) (v : Word) (s : State) : Host.Outcome State Fault Refusal := onSec t s (State.cmdLoad v)

/-- ARB_RAISE (19 R681). -/
def execArbRaise (t : Nat) (v : Word) (s : State) : Host.Outcome State Fault Refusal := onSec t s (State.cmdArb v)

/-- OTP_PROG (19 R674). -/
def execOtpProg (t : Nat) (v : Word) (s : State) : Host.Outcome State Fault Refusal := onSec t s (State.cmdProg v)

/-- CFG_SET (19 R675). -/
def execCfgSet (t : Nat) (v : Word) (s : State) : Host.Outcome State Fault Refusal := onSec t s (State.cmdCfg v)

/-- A raise of the counter ends: nothing is programmed where v equals it (19 R681). -/
def State.arbEnd (j : SecJob) (s : State) : State :=
  let s' := s.report (otpNotes s.sec.arbBad)
  if j.v.toNat = s.sec.arb then s' else { s' with sec := s.sec.program j.addr j.v.toNat }.logHw 0x0052 0xFF j.v.toNat

/-- The configuration word's three copies programmed (19 R672). -/
def Sec.setCfg (x : Sec) (v : Nat) : Sec := ((x.program 28 (v % 2 ^ 32)).program 29 (v % 2 ^ 32)).program 30 (v % 2 ^ 32)

/-- The effect of a command at its end. -/
def State.secEnd (j : SecJob) (slot dir : List Byte) (s : State) : State :=
  if j.op = 1 then s.secVerify j.arg slot dir
  else if j.op = 2 then s.secLoad j.arg slot dir
  else if j.op = 3 then s.arbEnd j
  else if j.op = 4 then { s with sec := s.sec.program j.addr j.v.toNat }
  else { s with sec := s.sec.setCfg j.v.toNat }.report (otpNotes s.sec.cfgSplit)

/-- The command in progress ends (19 R674, R690). -/
def State.secFinish (slot dir : List Byte) (s : State) : State :=
  match s.sec.job with
  | none => s
  | some j =>
    let s' := s.secEnd j slot dir
    { s' with sec := { s'.sec with job := none, done := true } }.report [.irq 0x60 0, Note.hit Reg.SEC_CMDSTAT 2]

/-- CRYPTO_SELF_TEST_DONE (19 R678). -/
def execCryptoSelfTestDone (t : Nat) (ok : Bool) (s : State) : Host.Outcome State Fault Refusal :=
  onCore t s (fun s => { s with sec := { s.sec with selfTest := ok } }.report (noteIf (!ok) [.raise Src.SEC_CRYPTO]))

/-! ### Authenticated debug (19 R682–R685) -/

/-- The die identifier's bytes (DESIGN CHOICE, log entry 22). -/
def dieBytes : List Byte := toBytesLE 8 Config.dieId.toNat

/-- A challenge issued (19 R683): nonce, die identifier and LCS are shifted out. -/
def State.challenge (s : State) : State :=
  let n := toBytesBE 32 (Config.entropy s.free).toNat
  ({ s with sec := { s.sec with nonce := n, chalAt := some s.now } }.report
    [.send (.jtag (n ++ dieBytes ++ [BitVec.ofNat 8 s.sec.lcs]))]).spend

/-- A failed response has been given within the last second (19 R685). -/
def State.chalBarred (s : State) : Bool :=
  match s.sec.failAt with | some f => decide (s.now < f + 1000 * msec) | none => false

/-- The challenge is valid: it is at most 10 s old (19 R683). -/
def Sec.chalValid (x : Sec) (now : Nat) : Bool :=
  match x.chalAt with
  | some t => decide (now ≤ t + 10000 * msec)
  | none => false

/-- A response opens debug (19 R684). -/
def Sec.opens (x : Sec) (now : Nat) (level : BitVec 2) (k : Nat) (sig key : List Byte) : Bool :=
  x.chalValid now && (level == 1 || level == 2) && x.usableDbg k && x.keyMatches key k &&
    Config.ecdsaVerify key (Config.sha256 (x.nonce ++ dieBytes ++ [BitVec.ofNat 8 level.toNat])) sig && x.selfTest

/-- Debug opened (19 R685). -/
def State.debugOpen (level : BitVec 2) (k : Nat) (s : State) : State :=
  ({ s with sec := { s.sec with dbgOpen := true, dbgLevel := level, chalAt := none } }.report
    [.irq 0x60 1, .raise Src.SEC_DBGOPEN]).logHw 0x0051 0xFF (level.toNat + k * 16)

/-- A response failed (19 R685). -/
def State.debugFail (s : State) : State :=
  { s with sec := { s.sec with chalAt := none, failAt := some s.now } }.report [.raise Src.SEC_DBGFAIL]

/-- A response judged. -/
def State.respond (level : BitVec 2) (k : Nat) (sig key : List Byte) (s : State) : State :=
  (if s.sec.opens s.now level k sig key then s.debugOpen level k else s.debugFail).report
    (otpNotes (s.sec.cfgSplit || s.sec.wordsBad (slotWords k)))

/-- SEC_RESP (19 R684). -/
def execSecResp (t : Nat) (level : BitVec 2) (k : BitVec 3) (sig dirKey : List Byte) (s : State) :
    Host.Outcome State Fault Refusal :=
  onCore t s (State.once (.secResp t level k sig dirKey) (State.respond level k.toNat sig dirKey))

/-- A response registered in this sample (12 R438, 19 R689). -/
def State.respArriving (s : State) : Bool :=
  s.awaits (fun c => match c with
    | .secResp .. => true
    | _ => false)

/-- CHALLENGE_EXPIRY (19 R683): 10 s. -/
def execChallengeExpiry (t : Nat) (s : State) : Host.Outcome State Fault Refusal :=
  onCore t s (fun s => s.when (!s.respArriving) (fun s => { s with sec := { s.sec with chalAt := none } }))

/-- A response of this sample is judged before a challenge is asked for (19 R689). -/
def State.respFirst (s : State) : State :=
  s.takeFirst (fun c => match c with
    | .secResp _ level k sig key => some (State.respond level k.toNat sig key)
    | _ => none)

/-- SEC_CHAL (19 R683): no challenge for 1 s after a failed response. -/
def execSecChal (t : Nat) (s : State) : Host.Outcome State Fault Refusal :=
  onCore t s (fun s => s.respFirst.when (!s.respFirst.chalBarred) State.challenge)

end Sys2Proof.Machine
end

