-- ==== Sys2Proof/Machine/Recovery.lean ====
section
/-! DEFINITION. The recovery set of the boot ROM: the mailbox commands marked R, the update of a slot and the journal record it
writes (18 R642, R650, R663, R664), and the ends of the flash and SEC commands it waits for. -/

namespace Sys2Proof.Machine

open Sys2Proof

/-! ### Requests and answers (18 R661–R663) -/

/-- Dword i of the request. -/
def State.mbReq (s : State) (i : Nat) : Word := rget s.regs (Reg.FP_MB_REQ i)

/-- CMD of the request (18 R663). -/
def State.mbCmd (s : State) : Nat := fld (s.mbReq 0) 0 16

/-- ARG0 of the request (18 R663). -/
def State.mbArg (s : State) : Nat := fld (s.mbReq 0) 16 16

/-- A response written from FP_MB_RSP_0 on. -/
def putRsp (ws : List Word) (f : RegFile) : RegFile :=
  ws.zipIdx.foldl (fun f x => rset (Reg.FP_MB_RSP x.2) x.1 f) f

/-- A request answered: RC and CMD in the first dword, then FP_MB_DONE with its SEQ and the length (18 R662, R663). -/
def State.romReply (seq : BitVec 8) (cmd : Nat) (rc : Nat) (ws : List Word) (s : State) : State :=
  let ws := (at32 0 rc ||| at32 16 cmd) :: ws
  { s with regs := putRsp ws s.regs }.writeMbDone (at32 0 seq.toNat ||| at32 8 ws.length)

/-- The request in progress answered at once. -/
def State.romSay (rc : Nat) (ws : List Word) (s : State) : State := s.romReply s.fst.mbSeq s.mbCmd rc ws

/-- The recovery ROM changed. -/
def State.setRom (x : Rom) (s : State) : State := { s with fst := { s.fst with rom := x } }

/-- The request that a long operation answers, answered at its end. -/
def State.romAnswer (rc : Nat) (s : State) : State :=
  match s.fst.rom.req with
  | some (seq, cmd) => (s.setRom { s.fst.rom with req := none }).romReply seq cmd.toNat rc []
  | none => s

/-! ### Flash commands of a long operation (18 R643, R650, R664) -/

/-- First byte of firmware slot A, or B when true (18 R643). -/
def slotBase (slotB : Bool) : Nat := if slotB then 0x300000 else 0x100000

/-- First byte of journal slot A, or B when true (18 R643). -/
def journalBase (slotB : Bool) : Nat := if slotB then 0x13000 else 0x12000

/-- The erase of a 2 MiB firmware slot, sector by sector. -/
def slotErase (slotB : Bool) : List RomStep := (List.range 512).map (fun i => .erase (slotBase slotB + 0x1000 * i))

/-- Bytes programmed from an address, a page at a time; `n` bounds the pages. -/
def pagesOf (a : Nat) (l : List Byte) : Nat → List RomStep
  | 0 => []
  | n + 1 =>
    let k := 256 - a % 256
    if l.isEmpty then [] else .program a (l.take k) :: pagesOf (a + k) (l.drop k) n

/-- A journal record written: the slot erased, its 16 pages programmed in ascending order (18 R650). -/
def journalSteps (slotB : Bool) (bytes : List Byte) : List RomStep :=
  .erase (journalBase slotB) :: pagesOf (journalBase slotB) bytes 16

/-- FP_SPI_CMD of a step, with the poll for the end of the write (18 R646). -/
def RomStep.cmd : RomStep → Word
  | .erase _ => 0x02000420
  | .program _ l => 0x02008402 ||| at32 16 l.length

/-- FP_SPI_ADDR of a step. -/
def RomStep.addr : RomStep → Nat
  | .erase a => a
  | .program a _ => a

/-- Bytes of a step. -/
def RomStep.bytes : RomStep → List Byte
  | .erase _ => []
  | .program _ l => l

/-- A long operation ends without its effect: its request is answered with RC. -/
def State.romFail (rc : Nat) (s : State) : State :=
  let x := s.fst.rom
  let back := match x.op with | .erase => { x with stage := .idle, target := none } | _ => x
  (s.setRom { back with op := .idle, steps := [] }).romAnswer rc

/-- TRIED of a slot cleared (18 R664). -/
def Forester.untry (x : Forester) (slotB : Bool) : Forester :=
  if slotB then { x with triedB := false } else { x with triedA := false }

/-- A long operation ends with its effect (18 R663, R664). -/
def State.romDone (s : State) : State :=
  let x := s.fst.rom
  let y := { x with op := .idle, steps := [] }
  match x.op with
  | .erase => (s.setRom { y with stage := .idle }).writeMbEvt 1
  | .write n => (s.setRom { y with written := x.written + n }).romAnswer 0
  | .journal slotB inB bytes =>
    ({ s with fst := s.fst.untry slotB }.setRom { y with stage := .verified, record := some bytes, inB := inB }).romAnswer 0
  | _ => s

/-- The next flash command of the operation goes to the SPI NOR master; a refusal ends the operation (18 R644, R663). -/
def State.romIssue (s : State) : State :=
  match s.fst.rom.steps with
  | [] => s.romDone
  | x :: _ =>
    if s.fst.spi.cmd.isSome then s.romFail 3
    else
      let s' := { s with regs := rset Reg.FP_SPI_ADDR (at32 0 x.addr) (norFill s.regs x.bytes) }.writeNor x.cmd
      if s'.fst.spi.cmd.isSome then s' else s'.romFail (if s.thm.window then 8 else 4)

/-- The operation goes on after one of its flash commands has ended. -/
def State.romNext (s : State) : State :=
  if s.fst.st = .recovery ∧ s.fst.rom.steps ≠ [] then
    (s.setRom { s.fst.rom with steps := s.fst.rom.steps.tail }).romIssue
  else s

/-- A flash command of the operation has ended with ERR (18 R663). -/
def State.romError (s : State) : State := s.when (s.fst.st == .recovery && s.fst.rom.steps != []) (State.romFail 5)

/-! ### The commands marked R (18 R663, R664) -/

/-- A long operation begun by the request in progress. -/
def State.romStart (x : Rom) (s : State) : State :=
  (s.setRom { x with req := some (s.fst.mbSeq, BitVec.ofNat 16 s.mbCmd) }).romIssue

/-- GET_INFO: FP_BOOT, FP_RSTCAUSE, JSEQ and the anti-rollback counter. -/
def State.romInfo (s : State) : List Word :=
  [rget s.regs Reg.FP_BOOT, at32 0 s.fst.cause.toNat ||| flag32 3 s.fst.triedA ||| flag32 4 s.fst.triedB,
    at32 0 (leAt (s.fst.rom.record.getD []) 4 4), at32 0 (s.sec.arb % 2 ^ 32), at32 0 (s.sec.arb / 2 ^ 32)]

/-- UPD_STATUS: the stage and the bytes written. -/
def Rom.status (x : Rom) : List Word :=
  [match x.stage with | .idle => 0 | .erasing => 1 | .writing => 2 | .verified => 3, at32 0 x.written]

/-- UPD_BEGIN: the slot that is not ACTIVE is erased; it answers at once. -/
def State.romBegin (s : State) : State :=
  let x := s.fst.rom
  let slotB := s.mbArg == 1
  if x.op ≠ .idle then s.romSay 3 []
  else if 1 < s.mbArg ∨ s.fst.mbLen.toNat < 2 ∨ 0x200000 < (s.mbReq 1).toNat then s.romSay 2 []
  else if slotB = journalActive x.record then s.romSay 4 []
  else
    ((s.romSay 0 []).setRom { x with
      target := some slotB, stage := .erasing, written := 0, op := .erase, steps := slotErase slotB, req := none }).romIssue

/-- UPD_WRITE: bytes of the layer store are programmed into the slot. -/
def State.romWrite (s : State) : State :=
  let x := s.fst.rom
  let a := (s.mbReq 1).toNat
  let l := (s.mbReq 2).toNat
  let n := (s.mbReq 3).toNat
  if x.op ≠ .idle then s.romSay 3 []
  else if s.fst.mbLen.toNat < 4 ∨ 65536 < n ∨ 0x200000 < a + n ∨ 0x800000 < l + n then s.romSay 2 []
  else match x.target with
    | none => s.romSay 4 []
    | some slotB =>
      s.romStart { x with
        stage := .writing, op := .write n
        steps := pagesOf (slotBase slotB + a) (Memory.readN zeroByte s.layers.cells l n) 257 }

/-- UPD_COMMIT: the slot is verified by the crypto engine. -/
def State.romCommit (s : State) : State :=
  let x := s.fst.rom
  let slotB := s.mbArg == 1
  if x.op ≠ .idle ∨ s.sec.job.isSome then s.romSay 3 []
  else if 1 < s.mbArg then s.romSay 2 []
  else if slotB = journalActive x.record then s.romSay 4 []
  else
    let s' := s.cmdVerify (0x05EC0001 ||| flag32 4 slotB)
    if s'.sec.job.isSome then
      s'.setRom { x with op := .verify slotB, req := some (s.fst.mbSeq, BitVec.ofNat 16 s.mbCmd) }
    else s'.romSay (if s.thm.window then 8 else 4) []

/-- REBOOT: answered, then Forester is reset (18 R640). -/
def State.romReboot (s : State) : State := (s.romSay 0 []).resetForester .software false

/-- A request to the recovery ROM (18 R663). -/
def State.romServe (s : State) : State :=
  if s.mbCmd = 0x0001 then s.romSay 0 [Config.romVersion]
  else if s.mbCmd = 0x0002 then s.romSay 0 s.romInfo
  else if s.mbCmd = 0x0100 then s.romBegin
  else if s.mbCmd = 0x0101 then s.romWrite
  else if s.mbCmd = 0x0102 then s.romCommit
  else if s.mbCmd = 0x0105 then s.romSay 0 s.fst.rom.status
  else if s.mbCmd = 0x0200 then s.romReboot
  else s.romSay 1 []

/-! ### The record that starts a trial (18 R649, R650, R664) -/

/-- JSEQ of the next record: one above the newest valid one's, or 1. -/
def Rom.nextSeq (x : Rom) : Nat := match x.record with | some r => (leAt r 4 4 + 1) % 2 ^ 32 | none => 1

/-- The record with the same ACTIVE and TRIAL naming the slot; STATE is kept, 0 without a record (18 R649, R664). -/
def Rom.trialRecord (x : Rom) (slotB : Bool) : List Byte :=
  let old := match x.record with | some r => (r.drop 0x00C).take 0xFEC | none => []
  let body := toBytesLE 4 0x00014A52 ++ toBytesLE 4 x.nextSeq ++
    toBytesLE 4 ((journalActive x.record).toNat + (if slotB then 2 else 1) * 4) ++
    old ++ List.replicate (0xFEC - old.length) 0 ++ toBytesLE 4 x.nextSeq
  body ++ toBytesLE 4 (crc32 body)

/-- The verification that UPD_COMMIT waits for has ended with a code (19 R677). -/
def State.romVerified (code : Nat) (s : State) : State :=
  let x := s.fst.rom
  match x.op with
  | .verify slotB =>
    if code = 7 then s.romFail 7
    else if code ≠ 1 then s.romFail 6
    else
      let inB := x.record.isSome && !x.inB
      let bytes := x.trialRecord slotB
      (s.setRom { x with op := .journal slotB inB bytes, steps := journalSteps inB bytes }).romIssue
  | _ => s

/-! ### The commands that reach the ROM -/

/-- MB_DOOR written; in the recovery set the ROM serves the request (13 R498, 18 R642). -/
def State.writeDoor (v : Word) (s : State) : State :=
  if s.doorCode v = 0 then (s.mbStart v).when (s.fst.st == .recovery) State.romServe
  else { s with host := s.host.mbRefuse (s.doorCode v) v }.report [.irq 0x58 0, Note.hit Reg.MB_STAT 4]

/-- MB_DOOR (13 R498). -/
def execMbDoor (t : Nat) (req : Req) (v : Word) (s : State) : Host.Outcome State Fault Refusal :=
  onCore t s (State.access req 0x58 (State.writeDoor v))

/-- The SPI NOR master's command ends: firmware's, the ROM's, or the one an orderly window left. -/
def State.norEnd (data : List Byte) (s : State) : State :=
  if s.fst.st = .reset then s.when s.fst.spi.closing State.norClosed
  else (s.norDone data).when (s.fst.spi.cmd.isSome && !s.fst.spi.loadWait) State.romNext

/-- SPI_NOR_COMMAND_DONE (18 R646, 15 R546). -/
def execSpiNorCommandDone (t : Nat) (data : List Byte) (s : State) : Host.Outcome State Fault Refusal :=
  onCore t s (State.norEnd data)

/-- The flash has stayed busy too long. -/
def State.norLate (s : State) : State :=
  if s.fst.st = .reset then s.when s.fst.spi.closing State.norGiveUp
  else s.norTimeout.when (s.fst.spi.cmd.isSome && s.norTimeout.fst.spi.cmd.isNone) State.romError

/-- SPI_NOR_WIP_TIMEOUT (18 R646, 15 R546). -/
def execSpiNorWipTimeout (t : Nat) (s : State) : Host.Outcome State Fault Refusal :=
  onCore t s (fun s => s.when (!s.norEnding) State.norLate)

/-- A SEC command ends; the ROM goes on where it waits for it. -/
def State.secOver (slot dir : List Byte) (s : State) : State :=
  let s' := s.secFinish slot dir
  s'.when (s.sec.job.isSome && s'.fst.st == .recovery) (State.romVerified
    (match s.fst.rom.op with
      | .verify slotB => (if slotB then s'.sec.resB else s'.sec.resA).toNat
      | _ => 0))

/-- SEC_COMMAND_END (19 R674). -/
def execSecCommandEnd (t : Nat) (slot dir : List Byte) (s : State) : Host.Outcome State Fault Refusal :=
  onCore t s (State.secOver slot dir)

end Sys2Proof.Machine
end

