-- ==== Sys2Proof/Machine/RegRead.lean ====
section
/-! DEFINITION. What each register reads (00 R5–R7, 13 R474–R479): one definition a page, over the register words that
are held as they read. -/

namespace Sys2Proof.Machine

open Sys2Proof

/-- A register held as it reads. -/
def State.plain (s : State) (page off : Nat) : Word := rget s.regs (hdr page off)

/-! ### TOP, TIME and CLK (11 R427, R429; 20 R711; 12 R456) -/

/-- TOP page. -/
def State.readTop (s : State) (off : Nat) : Word :=
  let x := s.top
  if off = 0x044 then s.cmt.word
  else if off = 0x048 then s.cmt.seq
  else if off = 0x04C then at32 0 s.cmt.causes.toNat
  else if off = 0x050 then at32 0 x.phase.code ||| flag32 2 x.phErr ||| flag32 3 x.hostRst
  else if off = 0x058 then flag32 0 x.cmdSd ||| flag32 1 s.thm.window ||| flag32 2 x.sdErr
  else if off = 0x05C then flag32 0 x.por ||| flag32 1 x.coreUv ||| at32 8 x.hostRsts.toNat
  else s.plain 0x00 off

/-- GLSTATE. -/
def GlState.code : GlState → Nat
  | .free => 0
  | .acquire => 1
  | .locked => 2
  | .holdover => 3

/-- A dark frame of a hard switch is in progress (11 R422). -/
def State.darkNow (s : State) : Bool :=
  surfaces.any (fun u => (s.surf[u]).started && s.tb.darkAt.contains (s.surf[u]).k && s.litNow u)

/-- A duration in 1/64 ticks as a two's complement number of `n` bits in 10 ns units, rounded down. -/
def tenNs (n : Nat) (x : Int) : Nat := twos n (x / 256)

/-- TIME page. -/
def State.readTime (s : State) (off : Nat) : Word :=
  let b := s.tb
  if off = 0x040 then
    at32 0 b.gl.code ||| flag32 2 b.slewing ||| flag32 3 (decide (4 ≤ b.phaseRun)) ||| flag32 4 s.darkNow ||| at32 5 b.acqn
  else if off = 0x044 then (if b.gl = .locked then at32 0 (tenNs 24 b.phErr) else 0)
  else if off = 0x048 then at32 0 b.per
  else if off = 0x04C then at32 0 b.next
  else if off = 0x050 then (if b.gl = .free ∨ b.gl = .acquire then 0 else at32 0 b.pref)
  else if off = 0x058 then at32 0 b.fcnt.toNat
  else if off = 0x05C then at32 0 (b.fcnt.toNat / 2 ^ 32)
  else s.plain 0x01 off

/-- RUN: the monitors' reports, bit 6 from Glade's own clock check. -/
def State.runBits (s : State) : Nat :=
  ((List.finRange 8).map (fun (d : Fin 8) =>
    if d.val = 6 then (s.gladeOn && !s.glade.rcHold).toNat * 64 else ((s.clk.mon[d]).running).toNat * 2 ^ d.val)).sum

/-- STALLED: domains on the far side of a STALLED crossing. -/
def State.stalledBits (s : State) : Word := s.clk.stalled.foldl (fun (w : Word) c => setBit w c.far.val) 0

/-- CLK page. -/
def State.readClk (s : State) (off : Nat) : Word :=
  let c := s.clk
  if off = 0x040 then
    flag32 0 c.lockSys ||| flag32 1 c.lockOl ||| flag32 2 c.lockIl ||| flag32 3 c.lockPcie ||| at32 8 s.runBits |||
      (s.stalledBits <<< 16) ||| flag32 24 s.pwr.droop ||| flag32 25 s.host.portSpi
  else if off = 0x054 then at32 0 ((c.mon[Fin.ofNat 8 (fld (rget s.regs Reg.CLK_MSEL) 0 3)]).khz).toNat
  else s.plain 0x02 off

/-! ### INTAKE (06 R253) -/

/-- IN_LSTAT at instant now: BURST is the burst being received, 0 once it has ended. -/
def IntakeLane.word (x : IntakeLane) (l now : Nat) : Word :=
  flag32 0 x.block ||| flag32 1 x.marker ||| flag32 2 x.deskew ||| flag32 3 (x.locked l) |||
    at32 4 (if now < x.burstTo then x.burst.toNat else 0) |||
    flag32 6 x.eidle ||| flag32 7 x.stale ||| at32 8 x.amlane.toNat

/-- A frame of the stream is open: bound and neither closed nor failed. -/
def Stream.isOpen (x : Stream) : Bool :=
  (x.cur.map (fun f => !f.closed && !f.failed)).getD false || (x.next.map (fun f => !f.closed && !f.failed)).getD false

/-- IN_FSTAT. -/
def Stream.word (x : Stream) : Word :=
  at32 0 x.lastFn.toNat ||| flag32 8 x.isOpen ||| flag32 9 x.lastOk ||| flag32 10 x.lost ||| at32 16 x.missRun.toNat

/-- INTAKE page of lane l. The stream registers read 0 on a page that is no stream's (06 R253). -/
def State.readIntake (s : State) (l : Fin 4) (off : Nat) : Word :=
  if off = 0x040 then (s.intake.lanes[l]).word l.val s.now
  else if 0x050 ≤ off ∧ off < 0x084 then
    if !(s.inSet l).en then 0
    else if off = 0x050 then (s.intake.streams[l]).word
    else if off = 0x058 then at32 0 (s.intake.slots l) ||| flag32 8 (s.intake.streams[l]).spovf
    else s.plain (4 + l.val) off
  else s.plain (4 + l.val) off

/-! ### HOST, MSIX and DMA (13 R503, R504; 14 R527, R528) -/

/-- HOST page. -/
def State.readHost (s : State) (off : Nat) : Word :=
  let h := s.host
  if off = 0x040 then
    flag32 0 h.portSpi ||| flag32 1 h.linkUp ||| at32 2 h.speed.toNat ||| at32 5 h.width.toNat ||| at32 8 h.dstate.toNat |||
      flag32 10 h.bme ||| flag32 11 h.msixEn ||| flag32 12 h.msixFmask
  else if off = 0x048 then vecCond s.regs
  else if off = 0x04C then h.armed
  else if off = 0x060 then at32 0 (timeoutOf h.ctoVal)
  else s.plain 0x08 off

/-- MSIX page. -/
def State.readMsix (s : State) (off : Nat) : Word := if off = 0x300 then s.host.pba else s.plain 0x09 off

/-- DMA page. -/
def State.readDma (s : State) (off : Nat) : Word :=
  if off = 0x040 then s.dmaStatus
  else if off = 0x044 then s.dmaLevels
  else if 0x080 ≤ off ∧ off < 0x100 then
    let c := s.dma.ch[Fin.ofNat 8 ((off - 0x080) / 0x10)]
    if off % 0x10 = 4 then c.statWord else if off % 0x10 = 8 then at32 0 c.residue.toNat
    else if off % 0x10 = 0xC then at32 0 c.doneCnt.toNat else 0
  else if 0x100 ≤ off ∧ off < 0x200 ∧ off % 0x20 = 0x10 then
    at32 0 (s.dma.ch[Fin.ofNat 8 ((off - 0x100) / 0x20)]).cur.toNat
  else if 0x100 ≤ off ∧ off < 0x200 ∧ off % 0x20 = 0x14 then
    at32 0 ((s.dma.ch[Fin.ofNat 8 ((off - 0x100) / 0x20)]).cur.toNat / 2 ^ 32)
  else s.plain 0x0A off

/-! ### LAYER, COMPOSER and CORR (07 R288, R290; 08 R321; 09 R359–R361) -/

/-- LAYER page of a slot: LY_STAT has URGENT and AHEADNOW live. -/
def State.readLayer (s : State) (n : Fin 16) (off : Nat) : Word :=
  if off = 0x040 then
    s.plain (0x10 + n.val) off ||| flag32 3 (s.layer[n]).urgent ||| at32 8 (min 31 (s.aheadNow n))
  else s.plain (0x10 + n.val) off

/-- FB_METER. -/
def State.meterWord (s : State) : Word :=
  at32 0 (s.meterLevel s.mDroop) ||| at32 4 s.mDroop ||| at32 8 s.fab.mTherm.toNat |||
    at32 12 (fld (rget s.regs (Reg.FB_MREQ 0)) 0 4) ||| flag32 16 s.pwr.droop

/-- COMPOSER page of a surface. -/
def State.readComposer (s : State) (u : Fin 2) (off : Nat) : Word :=
  if off = 0x040 then
    s.plain (0x20 + u.val) off ||| flag32 0 (s.comp[u]).composing ||| flag32 1 (s.comp[u]).waitIntake
  else if off = 0x078 then (if u.val = 0 then s.meterWord else 0)
  else s.plain (0x20 + u.val) off

/-- TARGET of CR_FADECFG. -/
def State.fadeTarget (s : State) (u : Fin 2) : Nat := fld (s.active (Reg.CR_FADECFG u)) 0 11

/-- Active entries of both surfaces in ascending array number (09 R341). -/
def State.mapEntries (s : State) : List ArrEntry := entriesOf s.active

/-- A tile of the active array map, by its number there. -/
def State.tileOfMap (s : State) (i : Nat) : Option Nat := tileNamed s.mapEntries i

/-- The addressed curve entry (09 R328). -/
def State.curveEntry (s : State) : Word :=
  let a := rget s.regs Reg.CR_TADDR
  at32 0 (s.curveAt (curveKey (fld a 13 1) (fld a 11 2) (min 1024 (fld a 0 11))))

/-- A window is enabled on a surface that shows it (09 R339, R361). -/
def State.windowValid (s : State) (w : Nat) : Bool :=
  surfaces.any (fun u =>
    let c := windowOf (ract (s.surf[u]).showRegs) w
    c.en && c.surf == u.val && s.litNow u && !(s.surf[u]).fbShow)

/-- CR_WSTAT. -/
def State.windowStat (s : State) : Word :=
  (List.range 4).foldl (fun (v : Word) w => if s.windowValid w then setBit v w else v) 0

/-- CORR page of surface 0: curve port, derating port and limiter gains. -/
def State.readCorr0 (s : State) (off : Nat) : Word :=
  if off = 0x064 then s.curveEntry
  else if off = 0x068 then flag32 0 s.corr.twerr ||| flag32 1 (s.setInUse 0) ||| flag32 2 (s.setInUse 1)
  else if off = 0x074 then
    at32 0 (match s.tileOfMap (fld (rget s.regs Reg.CR_DRADDR) 0 11) with
      | some t => (s.mapEntry t).toNat
      | none => 0xFFF)
  else if off = 0x078 then at32 0 (tileCount s.mapEntries)
  else s.plain 0x24 off

/-- CORR page of surface 1: the sensor windows. -/
def State.readCorr1 (s : State) (off : Nat) : Word :=
  if 0x060 ≤ off ∧ off < 0x0C0 then
    let v := (s.corr.wsum[Fin.ofNat 12 ((off - 0x060) / 8)]).toNat
    if off % 8 = 0 then at32 0 v else at32 0 (v / 2 ^ 32)
  else if off = 0x0C0 then s.windowStat
  else s.plain 0x25 off

/-- CORR page of a surface. -/
def State.readCorr (s : State) (u : Fin 2) (off : Nat) : Word :=
  if off = 0x040 then
    s.plain (0x24 + u.val) off ||| flag32 0 ((s.corr.surf[u]).fadeNow.toNat != 16 * s.fadeTarget u)
  else if off = 0x044 then at32 0 (s.corr.surf[u]).fadeNow.toNat
  else if u.val = 0 then s.readCorr0 off else s.readCorr1 off

/-! ### SHADE, STITCH, SKEIN, SAL, ARRAY and RETURN (10 R390; 02 R70; 03 R118; 05 R222, R224; 04 R182, R183) -/

/-- SHADE page. -/
def State.readShade (s : State) (off : Nat) : Word :=
  if off = 0x040 ∨ off = 0x044 then
    s.plain 0x28 off ||| flag32 2 (s.shade.surf[Fin.ofNat 2 ((off - 0x040) / 4)]).taking.isSome
  else if off = 0x050 then at32 0 s.usecNow
  else if off = 0x064 then flag32 0 s.shade.mbBusy.isSome ||| flag32 1 s.shade.mbErr
  else if off = 0x068 then 0
  else s.plain 0x28 off

/-- ST_STATE_Su. -/
def State.stitchState (s : State) (u : Fin 2) : Word :=
  let x := s.surf[u]
  at32 0 (if x.fbShow || x.fbSel then 1 else if s.litNow u then 0 else 2) ||| flag32 2 x.showBank |||
    at32 4 x.sEff.toNat ||| flag32 6 (decide (x.sEff.toNat < (s.setNow u).base.sSel)) |||
    flag32 7 ((s.skeinsOf u).any (fun k => (s.skein[k]).nocap)) ||| rget s.regs (Reg.ST_STATE u)

/-- STITCH page. -/
def State.readStitch (s : State) (off : Nat) : Word :=
  if off = 0x050 ∨ off = 0x054 then s.stitchState (Fin.ofNat 2 ((off - 0x050) / 4))
  else if off = 0x090 then s.plain 0x2C off ||| at32 0 s.clearQ.length
  else s.plain 0x2C off

/-- SK_LSTAT STATE. -/
def LaneState.code : LaneState → Nat
  | .off => 0
  | .eidle => 1
  | .train => 2
  | .hold => 3
  | .service => 4
  | .down => 5
  | .failed => 6
  | .loop => 7

/-- SK_LSTAT. -/
def State.laneWord (s : State) (l : Fin 8) : Word :=
  let x := s.lane[l]
  let en := (laneAt s.active l.val).en
  at32 0 x.st.code ||| flag32 3 (en && bit (s.skein[s.laneSkein l]).lmask (s.laneNo l)) ||| at32 5 x.attempts.toNat |||
    at32 8 x.cause.toNat ||| at32 12 (if en then s.laneNo l else 0) ||| at32 16 x.addr.toNat

/-- SKEIN page of a lane. -/
def State.readSkein (s : State) (l : Fin 8) (off : Nat) : Word :=
  if off = 0x040 then s.laneWord l
  else if off = 0x04C then 0
  else if off = 0x064 then flag32 0 (s.lane[l]).lbLock ||| flag32 1 (s.lane[l]).prbsLock
  else s.plain (0x30 + l.val) off

/-- SAL page. -/
def State.readSal (s : State) (off : Nat) : Word :=
  if off = 0x048 then
    flag32 0 s.areq.busy ||| flag32 1 s.areq.done ||| flag32 2 s.areq.timeout ||| at32 16 s.areq.rdata.toNat
  else s.plain 0x38 off

/-- RETURN page. -/
def State.readReturn (s : State) (off : Nat) : Word :=
  if off = 0x040 ∨ off = 0x044 then flag32 0 (s.ret[Fin.ofNat 2 ((off - 0x040) / 4)]).lock else s.plain 0x3E off

/-! ### PWR and THERM (15 R554, R555) -/

/-- FB_CANARY events of the last whole millisecond. -/
def State.canRate (s : State) : Nat :=
  let ms := (s.now - s.top.startAt) / msec
  if s.pwr.canMs = ms then s.pwr.canPrev else if s.pwr.canMs + 1 = ms then s.pwr.canNow else 0

/-- PWR page. -/
def State.readPwr (s : State) (off : Nat) : Word :=
  if off = 0x040 then
    flag32 0 s.pwr.droop ||| flag32 1 s.pwr.uv ||| at32 4 s.pwr.monBad.toNat ||| at32 8 s.pwr.railErr.toNat
  else if off = 0x070 then at32 0 (min 0xFFFF s.canRate)
  else s.plain 0x40 off

/-- THERM page. -/
def State.readTherm (s : State) (off : Nat) : Word :=
  let h := s.thm
  if off = 0x040 then
    at32 0 h.bits ||| flag32 3 h.window ||| flag32 4 h.refDef ||| at32 8 s.fab.mTherm.toNat ||| at32 16 (h.dwellW / 10) |||
      at32 20 (h.dwellT / 10)
  else if off = 0x044 then tjWord h.tj
  else if off = 0x050 then tjWord h.trefu
  else if off = 0x068 then
    match s.tileOfMap (fld (rget s.regs Reg.THM_TADDR) 0 11) with
    | some t => at32 0 (twos 16 (tileGet s.tile.tt t)) ||| at32 16 (tileGet s.tile.u t).toNat
    | none => 0
  else if 0x080 ≤ off ∧ off < 0x0C0 then
    let a : Fin 16 := Fin.ofNat 16 ((off - 0x080) / 4)
    at32 0 (twos 16 s.tile.tarr[a]) ||| flag32 16 (bit s.tile.atempDef a.val)
  else s.plain 0x41 off

/-! ### FAULT (16 R586) -/

/-- Glade reports Safe Light Off, Fallback Beam or Lock-out. -/
def Glade.reacting (g : Glade) : Bool := g.st == .fbeam || g.st == .slo || g.st == .lockout

/-- FC_STAT. -/
def State.faultStat (s : State) : Word :=
  let e := s.flt.ep
  flag32 0 e.isOpen ||| at32 1 s.flt.epClass ||| flag32 4 s.flt.inj.unlocked ||| flag32 5 (e.isOpen && e.forced) |||
    flag32 6 (s.gladeOn && s.glade.reacting) ||| flag32 7 s.glade.errFault

/-- The selected source: that before this sample (16 R583). -/
def State.srcSel (s : State) : Nat := fld (s.before Reg.FC_SRCSEL) 0 8

/-- FC_SRCINFO of a source; 0 for an unused number (16 R558). -/
def Faults.info (f : Faults) (n : Nat) : Word :=
  match srcInfo n with
  | some i => at32 0 (f.cls n) ||| at32 4 i.2.2 ||| flag32 7 (bit f.lastForced n) ||| at32 8 i.1 ||| at32 16 i.2.1
  | none => 0

/-- Count of a source. -/
def Faults.countOf (f : Faults) (n : Nat) : Word := smGet (fun _ => (0 : Word)) f.count n

/-- The episode registers. -/
def Episode.word (e : Episode) (off : Nat) : Word :=
  if off = 0x044 then at32 0 e.first ||| flag32 8 e.simul ||| flag32 9 e.firstForced
  else if off = 0x048 then at32 0 e.last
  else if off = 0x04C then at32 0 e.arrivals.toNat ||| at32 16 e.escal.toNat
  else if off = 0x050 then e.time
  else if off = 0x054 then at32 0 e.frame.toNat
  else if off = 0x058 then e.seq
  else if off = 0x05C then
    at32 0 e.prevFirst.toNat ||| at32 8 e.prevCls.toNat ||| flag32 11 e.prevForced ||| at32 16 e.prevArr.toNat
  else e.prevDur

/-- FAULT page. -/
def State.readFault (s : State) (off : Nat) : Word :=
  let f := s.flt
  if off = 0x040 then s.faultStat
  else if (0x044 ≤ off ∧ off < 0x060) ∨ off = 0x0B0 then f.ep.word off
  else if 0x060 ≤ off ∧ off < 0x080 then at32 0 (fld f.pend (8 * (off - 0x060)) 32)
  else if 0x080 ≤ off ∧ off < 0x0A0 then at32 0 (fld f.ep.mem (8 * (off - 0x080)) 32)
  else if off = 0x0A4 then f.info s.srcSel
  else if off = 0x0A8 then f.countOf s.srcSel
  else if off = 0x0AC then at32 0 (f.cls s.srcSel)
  else if off = 0x0C4 then
    flag32 0 f.inj.unlocked ||| flag32 1 f.inj.by_ ||| flag32 2 f.inj.injErr ||| at32 4 f.inj.remain.toNat
  else s.plain 0x48 off

/-! ### FORESTER and SEC (13 R505, 19 R690) -/

/-- FORESTER page. -/
def State.readForester (s : State) (off : Nat) : Word :=
  let h := s.host
  if off = 0x0C4 then
    flag32 0 h.mbBusy ||| flag32 1 h.mbDone ||| flag32 2 h.mbRefused ||| flag32 3 h.mbTimeout ||| at32 4 h.mbCode.toNat |||
      at32 8 h.mbSeq.toNat ||| at32 16 h.mbRspLen.toNat
  else s.plain 0x58 off

/-- SEC_STAT. -/
def Sec.statWord (x : Sec) : Word :=
  at32 0 x.lcs ||| flag32 2 x.selfTest ||| flag32 3 x.dbgOpen ||| at32 4 x.dbgLevel.toNat ||| flag32 6 x.sealKeyOk |||
    at32 8 x.imgKey.toNat ||| flag32 11 x.enc ||| flag32 12 x.romPhase

/-- SEC_KEYSTAT. -/
def Sec.keyWord (x : Sec) : Word :=
  at32 0 ((List.range 5).foldl (fun n k => if x.wordsGood (4 * k) 4 then n + 2 ^ k else n) 0) |||
    at32 8 (fld x.cfg 8 5) ||| flag32 16 x.imageKeyOk ||| flag32 17 x.sealKeyOk ||| flag32 18 (bit x.cfg 26) |||
    flag32 19 (bit x.cfg 27)

/-- SEC page. -/
def State.readSec (s : State) (off : Nat) : Word :=
  let x := s.sec
  if off = 0x040 then x.statWord
  else if off = 0x044 then at32 0 Config.dieId.toNat
  else if off = 0x048 then at32 0 (Config.dieId.toNat / 2 ^ 32)
  else if off = 0x050 then at32 0 x.arb
  else if off = 0x054 then at32 0 (x.arb / 2 ^ 32)
  else if off = 0x058 then at32 0 x.imgCnt.toNat
  else if off = 0x05C then at32 0 (x.imgCnt.toNat / 2 ^ 32)
  else if off = 0x06C then flag32 0 x.job.isSome ||| flag32 1 x.done ||| flag32 2 x.err ||| at32 8 x.ecode.toNat
  else if off = 0x080 then x.keyWord
  else if off = 0x084 then at32 0 x.records.length
  else if 0x0A0 ≤ off ∧ off < 0x0C0 then at32 0 (leAt x.nonce (off - 0x0A0) 4)
  else if off = 0x0C0 then at32 0 x.resA.toNat ||| at32 4 x.resB.toNat
  else s.plain 0x60 off

/-! ### Every page (13 R474, R475, R479) -/

/-- A header word, with PEND of PG_SHADOW (11 R412, R428). -/
def State.headerRead (s : State) (p off : Nat) : Word :=
  if off = 0x028 then s.headerWord p off ||| flag32 16 (s.pagePend p) else s.headerWord p off

/-- A register from 0x040 up of a page in use. -/
def State.pageRead (s : State) (p off : Nat) : Word :=
  if p = 0x00 then s.readTop off else if p = 0x01 then s.readTime off else if p = 0x02 then s.readClk off
  else if 0x04 ≤ p ∧ p < 0x08 then s.readIntake (Fin.ofNat 4 (p - 0x04)) off
  else if p = 0x08 then s.readHost off else if p = 0x09 then s.readMsix off else if p = 0x0A then s.readDma off
  else if 0x10 ≤ p ∧ p < 0x20 then s.readLayer (Fin.ofNat 16 (p - 0x10)) off
  else if p = 0x20 ∨ p = 0x21 then s.readComposer (Fin.ofNat 2 (p - 0x20)) off
  else if p = 0x24 ∨ p = 0x25 then s.readCorr (Fin.ofNat 2 (p - 0x24)) off
  else if p = 0x28 then s.readShade off else if p = 0x2C then s.readStitch off
  else if 0x30 ≤ p ∧ p < 0x38 then s.readSkein (Fin.ofNat 8 (p - 0x30)) off
  else if p = 0x38 then s.readSal off else if p = 0x3E then s.readReturn off
  else if p = 0x40 then s.readPwr off else if p = 0x41 then s.readTherm off
  else if p = 0x48 then s.readFault off else if p = 0x50 then s.gladeReg off
  else if p = 0x58 then s.readForester off else if p = 0x60 then s.readSec off
  else s.plain p off

/-- What BAR0 address a reads; 0 where no register stands (00 R7). -/
def State.regWord (s : State) (a : Nat) : Word :=
  let p := a / 0x1000
  let off := a % 0x1000 / 4 * 4
  if !pageUsed p then 0 else if off < 0x040 then s.headerRead p off else s.pageRead p off

/-! ### 64-bit counters (11 R425) -/

/-- The address is the low word of a 64-bit counter of a BAR0 page. -/
def counterLow (a : Nat) : Bool :=
  a == 0x01058 || (decide (0x25060 ≤ a) && decide (a < 0x250C0) && a % 8 == 0) || a == 0x60050

/-- The address is the high word of one. -/
def counterHigh (a : Nat) : Bool := decide (4 ≤ a) && counterLow (a - 4)

/-- Holding register of a requester. -/
def holdOf : Req → Fin 10
  | .host => 0
  | .forester => 1
  | .dma ch => Fin.ofNat 10 (2 + ch.val)

/-- The high word latched by a requester's read of a low word. -/
def State.latch (req : Req) (a : Nat) (s : State) : State :=
  if counterLow a then { s with hi := s.hi.set (holdOf req) (s.regWord (a + 4)) } else s

/-- What a requester reads at a BAR0 address: a high word from its holding register. -/
def State.readWord (s : State) (req : Req) (a : Nat) : Word :=
  if counterHigh a then s.hi[holdOf req] else s.regWord a

/-- A read of a BAR0 register answered; an error access where the page's domain is stopped (13 R497, 12 R453). -/
def State.readReg (req : Req) (a : Nat) (s : State) : State :=
  if pageUsed (a / 0x1000) && s.stalledTo (pageDomain (a / 0x1000)) then s.report (errorAccess req)
  else (s.latch req a).report [.send (.data req (toBytesLE 4 (s.readWord req a).toNat))]

end Sys2Proof.Machine
end

