-- ==== Sys2Proof/Machine/Startup.lean ====
section
/-! DEFINITION. Reset, start-up and the end of the orderly window: PORST_N, the core reset, Glade's LOAD and the fallback
profile it brings (20 R694–R698, 17 R616–R623, 15 R537, R545). -/

namespace Sys2Proof.Machine

open Sys2Proof

/-! ### A valid GPR copy (17 R618, R619) -/

/-- Defined bits of the first 32 words. -/
def gprHeadMask : List Nat :=
  [0x00FFFFFF, 0xFFFFFFFF, 0x03FF1F03, 0x03FF1F03, 0x03FFFF7F, 0x1FF, 0xF, 0xFFFFFFFF, 0xFFFFFFFF, 0xFFFFFFFF, 0xFFFF,
    0xFFFFFFFF, 0x1FFFF, 0xFFFFFFFF, 0xFFFFFFFF, 0] ++ List.replicate 8 0x01FFF177 ++
  [0xDD, 0x0FFFFFFF, 0x0FFFFFFF, 0x1FFF1FFF, 0x1FFF1FFF, 0, 0, 0]

/-- Defined bits of word i. -/
def gprMask (i : Nat) : Nat :=
  if i < 32 then gprHeadMask.getD i 0
  else if i < 96 then ([0xFFFF3FFF, 0x0FFF0FFF, 0x1FFF1FFF, 0x003FFFFF] : List Nat).getD (i % 4) 0
  else if i < 112 then 0x007FFFFF
  else if i < 127 then 0 else 0xFFFFFFFF

/-- CRC, MAGIC and VER match and every reserved bit is 0. -/
def gprClean (b : List Byte) : Bool :=
  b.length == 512 && crc32 (b.take 0x1FC) == leAt b 0x1FC 4 && leAt b 0 4 == 0x00014750 &&
    (List.range 128).all (fun i => gprWord b (4 * i) &&& ~~~(BitVec.ofNat 32 (gprMask i)) == 0)

/-- An input pair's word is in range. -/
def gprPairOk (v : Word) : Bool :=
  fld v 0 2 != 3 && (fld v 0 2 == 0 ||
    (decide (1 ≤ fld v 8 5) && decide (fld v 8 5 ≤ 20) && decide (5 ≤ fld v 16 10) && decide (fld v 16 10 ≤ 1000)))

/-- The return mode and the SSPI watchdog's demand are in range. -/
def gprModeOk (v : Word) : Bool := fld v 5 2 != 3 && (fld v 16 8 == 0 || fld v 24 2 == 1 || fld v 24 2 == 2)

/-- Thermal constants are in range. -/
def gprThermOk (theta tref : Word) : Bool :=
  decide (fld theta 0 16 ≤ 2000) && decide (1 ≤ fld theta 16 16) && decide (fld theta 16 16 ≤ 600) &&
    decide (signed 16 (fld tref 0 16) < signed 16 (fld tref 16 16))

/-- FB_ADDR, FB_RDCMD, FB_LEN and FB_PER are in range. -/
def gprPatternOk (rd len per : Word) : Bool :=
  (fld rd 24 8 == 0x03 || fld rd 24 8 == 0x3B || fld rd 24 8 == 0x6B) && fld rd 0 24 % 4096 == 0 &&
    (fld len 0 17 == 0 || (decide (64 ≤ fld len 0 17) && decide (fld len 0 17 ≤ 65536))) &&
    decide (106666667 ≤ per.toNat) && decide (per.toNat ≤ 1066666667)

/-- The profile's surfaces, entries and pins agree. -/
def gprProfileOk (b : List Byte) : Bool :=
  gprAenFb b &&& ~~~(BitVec.ofNat 4 (fld (gprWord b 0x018) 0 4)) == 0 &&
    (fld (gprWord b 0x030) 0 17 != 0 || (!gprEn b 0 && !gprEn b 1)) && (gprEntries b).all (fun e => gprEn b e.surf)

/-- A GPR copy is valid (17 R619). -/
def gprValid (b : List Byte) : Bool :=
  gprClean b && gprPairOk (gprWord b 0x008) && gprPairOk (gprWord b 0x00C) && gprModeOk (gprWord b 0x010) &&
    gprThermOk (gprWord b 0x020) (gprWord b 0x024) &&
    gprPatternOk (gprWord b 0x02C) (gprWord b 0x030) (gprWord b 0x038) && gprProfileOk b && gprCommitOk b

/-! ### The end of LOAD (17 R616, R617, R620, R634) -/

/-- The copy in force: GPRSRC and its bytes. -/
def gprChoice (x : FlashLoad) : BitVec 2 × List Byte :=
  if gprValid x.gprA then (1, x.gprA) else if gprValid x.gprB then (2, x.gprB) else (0, [])

/-- The pattern read into the fallback store. -/
def Glade.loadPattern (g : Glade) (l : List Byte) : Glade :=
  let n := g.gp 0x030 0 17
  let b := (l.take n) ++ List.replicate (n - l.length) 0
  { g with fb := { cells := Memory.writeL zeroByte [] 0 b }, fbLen := n, fbBad := [] }

/-- FB_OK and FBERR after the pattern read. -/
def Glade.judgePattern (g : Glade) : Glade :=
  if crc32 (Memory.readN zeroByte g.fb.cells 0 g.fbLen) ≠ leAt g.gpr 0x034 4 then { g with fbOk := false, fbErr := 1 }
  else if g.patternOk then { g with fbOk := true, fbErr := 0 }
  else { g with fbOk := false, fbErr := 2 }

/-- Glade with the record and the pattern that the flash reader found; GL_GPR where no copy is valid. -/
def Glade.load (g : Glade) (x : FlashLoad) (now : Nat) : Glade :=
  let c := gprChoice x
  let g := { g with
    loadEnded := true, gprSrc := c.1, gpr := c.2, loadUs := BitVec.ofNat 20 (min 0xFFFFF ((now - g.resetAt) / usec))
    cond := putBit g.cond 2 (c.1 == 0) }
  if g.gp 0x030 0 17 = 0 then { g with fbLen := 0, fbOk := false, fbErr := 0 } else (g.loadPattern x.pattern).judgePattern

/-- The shadow words the profile sets, where software has not written them (11 R419). -/
def profileShadows (written : List Nat) (sets : List (Nat × Word)) (f : RegFile) : RegFile :=
  (sets.filter (fun x => !written.contains x.1)).foldl (fun f x => rset x.1 x.2 f) f

/-- The active words the profile sets. -/
def profileActives (sets : List (Nat × Word)) (f : RegFile) : RegFile :=
  sets.foldl (fun f x => rset (x.1 + 0x800) x.2 f) f

/-- The profile's settings in force for the core, and the lanes that train under them (05 R208; 11 R419, R420; 17 R596;
20 R697). -/
def State.applyProfile (s : State) : State :=
  let g := s.glade.gpr
  let old := s.active
  let sets := gprSets g
  let offs := fun (u : Nat) => gprOfsOf g u * (gprMod g u).tau (gprPer g)
  let ofs : Vector Nat 2 := #v[offs 0, offs 1]
  let snap := if s.cmt.st = .armed then profileShadows s.cmt.written sets s.cmt.snap else s.cmt.snap
  let s := { s with
    regs := profileShadows s.cmt.written sets (profileActives sets s.regs)
    cmt := { s.cmt with snap := snap }, tb := { s.tb with ofs := ofs, ofsNext := ofs }
    flt := { s.flt with rx := BitVec.ofNat 9 (leAt g 0x014 4) } }
  let s := outLanes.foldl (fun (s : State) l => State.laneSet (old (Reg.SK_LCFG l.val)) s l) s
  s.retLocks.idleCheck

/-- The core takes LOAD as ended: with a GPR in force and before the first accepted commit, the profile's settings come
into force (20 R695–R697). -/
def State.coreLoaded (s : State) : State :=
  { s with top := { s.top with loadAt := some s.now } }.when (s.glade.hasGpr && !s.cmt.accepted) State.applyProfile

/-- What the end of LOAD starts in the core: the profile, the waiting flash command, and the boot window (18 R646, R659;
20 R696). -/
def State.coreAfterLoad (s : State) : State :=
  let s := s.coreLoaded.norRelease
  { s with glade := s.glade.wdRestart s.now (s.fst.st == .reset) }

/-- What the flash reader has sent during LOAD (17 R616, R620): the release from power-down, the primary copy, the secondary where the
primary is not valid, and the pattern where a copy in force names one. -/
def flashReads (x : FlashLoad) (g : Glade) : List Note :=
  [.send (.flashRead 0xAB 0 0), .send (.flashRead 0x03 0x010000 512)] ++
  noteIf (!gprValid x.gprA) [.send (.flashRead 0x03 0x011000 512)] ++
  noteIf (g.gprSrc != 0 && g.gp 0x030 0 17 != 0)
    [.send (.flashRead (BitVec.ofNat 8 (g.gp 0x02C 24 8)) (g.gp 0x02C 0 24) (g.gp 0x030 0 17))]

/-- LOAD ends. -/
def State.loadEnd (x : FlashLoad) (s : State) : State :=
  if s.glade.loadEnded then s
  else
    let g := s.glade.load x s.now
    ({ s with glade := g }.report (flashReads x g)).when s.coreOn State.coreAfterLoad

/-- GLADE_LOAD_END (17 R617): no effect once LOAD has ended. -/
def execGladeLoadEnd (t : Nat) (flash : FlashLoad) (s : State) : Host.Outcome State Fault Refusal :=
  onGladeSettled t s (State.loadEnd flash)

/-! ### OTP programs cut short (19 R689, 20 R709) -/

/-- Words and data of a program under way. -/
def SecJob.programs (j : SecJob) (arb : Nat) : List (Nat × Nat) :=
  if j.op = 3 then (if j.v.toNat = arb then [] else [(j.addr, j.v.toNat)])
  else if j.op = 4 then [(j.addr, j.v.toNat)]
  else if j.op = 5 then [(28, j.v.toNat % 2 ^ 32), (29, j.v.toNat % 2 ^ 32), (30, j.v.toNat % 2 ^ 32)]
  else []

/-- One word left partial: which bits were programmed is free, and whether its check bits match. The configuration word has
no check bits (19 R672). -/
def Sec.partialWord (x : Sec) (k : Nat) (w : Nat × Nat) : Sec :=
  let y := x.program w.1 (w.2 &&& Config.freeValue k)
  if Config.freeValue (k + 1) % 2 = 1 ∧ (w.1 < 28 ∨ 30 < w.1) then { y with otpBad := insertNat w.1 y.otpBad } else y

/-- The OTP key store after the loss of the supply or the reset. -/
def State.cutOtp (s : State) : State :=
  match s.sec.job with
  | none => s
  | some j => (j.programs s.sec.arb).foldl (fun (s : State) w =>
      { s with sec := s.sec.partialWord s.free w, free := s.free + 2 }) s

/-! ### Reset and release (20 R694–R696, 15 R537) -/

/-- The OTP key store alone. -/
def Sec.keep (x : Sec) : Sec := { otp := x.otp, otpBad := x.otpBad }

/-- What PORST_N low leaves: the OTP key store and TOP_RSTCAUSE; the model's own fields stay (20 R694). -/
def State.lost (s : State) : State :=
  let s := s.cutOtp
  { State.reset with
    now := s.now, free := s.free, sample := s.sample, sec := s.sec.keep, out := s.out, pending := s.pending
    top := { por := s.top.por, coreUv := s.top.coreUv, hostRsts := s.top.hostRsts } }

/-- PORST_N_ASSERT (20 R694). -/
def execPorstNAssert (t : Nat) (s : State) : Host.Outcome State Fault Refusal := .next (s.stamp t).lost

/-- The core starts: TOP_RSTCAUSE, the synthesisers locked, the session record, and Forester in the ROM (18 R640,
19 R687, 20 R696, R701, R711). -/
def State.coreStart (uv : Bool) (s : State) : State :=
  let s := { s with
    clk := { s.clk with lockSys := true, lockOl := true, lockIl := true, lockPcie := true }
    top := { s.top with por := !uv, coreUv := uv, hostRsts := 0, phase := .startUp, startAt := s.now } }
  let v := (Config.entropy s.free).toNat % 2 ^ 64
  (s.spend.logHw 0x0050 0xFF v).resetForester .power false

/-- PORST_N rises with TEST_EN low: time counts from here, HOSTSEL is sampled, Glade begins LOAD (13 R458; 17 R588, R616;
20 R696). -/
def State.powerUp (hostSel : Bool) (s : State) : State :=
  let s := s.lost
  let s := { s with
    now := 0, sample := {}, out := [], top := { s.top with porst := false }, host := { s.host with portSpi := hostSel }
    glade := { s.glade with inReset := false, errHold := true } }
  s.coreStart false

/-- PORST_N_RELEASE (20 R696): no effect while PORST_N is high; with TEST_EN high the block stays as it is (22 R726). -/
def execPorstNRelease (t : Nat) (hostSel testEn : Bool) (s : State) : Host.Outcome State Fault Refusal :=
  let s := s.stamp t
  .next (if !s.top.porst then s
    else if testEn then { s with top := { s.top with testEn := true } }
    else s.powerUp hostSel)

/-- STORE_INIT_DONE (03 R77, R98; 09 R348): the values are those the stores have from the release. -/
def execStoreInitDone (t : Nat) (s : State) : Host.Outcome State Fault Refusal :=
  onCore t s (fun s => { s with top := { s.top with storesOk := true } })

/-- Everything on VDD_CORE at its reset value; Glade, the OTP key store, TOP_RSTCAUSE and the HOSTSEL sample stay (15 R537,
20 R695). -/
def State.coreOff (s : State) : State :=
  let s := s.cutOtp
  { State.reset with
    now := s.now, free := s.free, sample := s.sample, sec := s.sec.keep, out := s.out, pending := s.pending, glade := s.glade
    host := { portSpi := s.host.portSpi }, pwr := { coreReset := true }
    top := { porst := false, por := s.top.por, coreUv := s.top.coreUv, hostRsts := s.top.hostRsts } }

/-- CORE_RESET (15 R537). -/
def execCoreReset (t : Nat) (s : State) : Host.Outcome State Fault Refusal := onCore t s State.coreOff

/-- The core is released: LOAD is taken as ended (20 R695). -/
def State.coreUp (s : State) : State :=
  ({ s with pwr := { s.pwr with coreReset := false } }.coreStart true).coreAfterLoad.gladeSettle

/-- CORE_RELEASE (20 R695): no effect on a core that is not held in reset. -/
def execCoreRelease (t : Nat) (s : State) : Host.Outcome State Fault Refusal :=
  let s := s.stamp t
  .next (if !s.top.porst && s.pwr.coreReset then s.coreUp else s)

/-! ### The orderly window's end (15 R545, 20 R707, R711) -/

/-- The compose side of a surface stops: its segments discard what they hold. -/
def State.stopSurface (s : State) (u : Fin 2) : State :=
  s.setComp u { s.comp[u] with composing := false, waitIntake := false, discard := true }

/-- The SPI NOR master at the window's end: it finishes the command on the bus (15 R546), and a journal record whose last page has
not been given to it is abandoned (18 R666). -/
def State.closeNor (x : SpiNor) (s : State) : State :=
  let last := match x.close.cmd with | some (v, a) => journalLast v a | none => false
  { s with fst := { s.fst with spi := x.close } }.report
    (noteIf (x.journal && !last) [.raise Src.FO_JRNL] ++ noteIf x.close.polling [norPoll])

/-- Forester, intake and compose side stop; DMA grants are refused while `stopped`. -/
def State.stopParts (s : State) : State :=
  let s := ({ s with thm := { s.thm with stopped := true } }.resetForester .shutdown true).closeNor s.fst.spi
  surfaces.foldl State.stopSurface (intakes.foldl (fun (s : State) st => s.failOpen st) s)

/-- The window ends: parts stop where a shutdown is still in force. -/
def State.orderlyEnd (s : State) : State :=
  let s := { s with thm := { s.thm with window := false } }.keepAs Reg.TOP_SHDNSTAT 2
  (s.when (s.thm.shut || s.top.cmdSd) State.stopParts).report (noteIf s.top.cmdSd [.irq 0x00 3])

/-- ORDERLY_WINDOW_END (15 R545): no effect while no window is open. -/
def execOrderlyWindowEnd (t : Nat) (s : State) : Host.Outcome State Fault Refusal :=
  onCore t s (fun s => s.when s.thm.window State.orderlyEnd)

end Sys2Proof.Machine
end

