-- ==== Sys2Proof/Machine/RegWrite.lean ====
section
/-! DEFINITION. What a write to each register does (00 R5–R7, 13 R479–R482): one definition a page over the meanings of
the registers that act, and the writes to live and shadowed registers that hold what is written. -/

namespace Sys2Proof.Machine

open Sys2Proof

/-! ### Registers that hold what is written -/

/-- A word with the writable bits of `mask` taken from a write. -/
def mergeWord (mask : Nat) (old v : Word) : Word := (old &&& ~~~(BitVec.ofNat 32 mask)) ||| (v &&& BitVec.ofNat 32 mask)

/-- A shadow word written: discarded while a commit of its surface is in progress (11 R412); 11 R419 takes note of it. -/
def State.putShadow (a : Nat) (v : Word) (s : State) : State :=
  if s.locked a v then ({ s with cmt := { s.cmt with shwLock := true } }).hit Reg.TOP_CMT_STAT 0x400
  else { s with
    regs := rset a v s.regs
    cmt := { s.cmt with written := if s.cmt.accepted then s.cmt.written else insertNat a s.cmt.written } }

/-- A register of the register map written; nothing where no register stands (00 R7). -/
def State.putPlain (a : Nat) (v : Word) (s : State) : State :=
  match regRow a with
  | none => s
  | some r =>
    let w := mergeWord r.mask (rget s.regs a) v
    if r.sh then s.putShadow a w else { s with regs := rset a w s.regs }

/-! ### One definition a page -/

/-- TOP page (11 R427, 20 R711). -/
def State.putTop (off : Nat) (v : Word) (s : State) : State :=
  if off = 0x040 then s.writeCommit v
  else if off = 0x044 then
    let c := s.cmt
    { s with cmt := { c with
      keyErr := c.keyErr && !bit v 8, armErr := c.armErr && !bit v 9, shwLock := c.shwLock && !bit v 10 } }
  else if off = 0x050 then s.writePhase v
  else if off = 0x054 then s.writeShdn (bit v 0) v
  else if off = 0x058 then { s with top := { s.top with sdErr := s.top.sdErr && !bit v 2 } }
  else s.putPlain (hdr 0x00 off) v

/-- INTAKE page of a lane (06 R253). -/
def State.putIntake (l : Fin 4) (off : Nat) (v : Word) (s : State) : State :=
  if off = 0x058 then
    let x := s.intake.streams[l]
    { s with intake := { s.intake with streams := s.intake.streams.set l { x with spovf := x.spovf && !bit v 8 } } }
  else s.putPlain (hdr (4 + l.val) off) v

/-- HOST page (13 R503). -/
def State.putHost (off : Nat) (v : Word) (s : State) : State :=
  if off = 0x044 then s.armVectors v else s.putPlain (hdr 0x08 off) v

/-- MSIX page (13 R490, R504): a mask lifted drops a pending bit whose condition has fallen. -/
def State.putMsix (off : Nat) (v : Word) (s : State) : State :=
  let s' := s.putPlain (hdr 0x09 off) v
  let i := (off - 0x100) / 0x10
  if 0x100 ≤ off ∧ off < 0x300 ∧ off % 0x10 = 0xC ∧ bit v 0 = false ∧ vectorCond s.regs i = false then
    { s' with host := { s'.host with pba := clearBit s'.host.pba i } }
  else s'

/-- DMA page (14 R520, R527, R528). -/
def State.putDma (req : Req) (off : Nat) (v : Word) (s : State) : State :=
  if 0x080 ≤ off ∧ off < 0x100 then
    let n : Fin 8 := Fin.ofNat 8 ((off - 0x080) / 0x10)
    if off % 0x10 = 0 then s.writeDmaCtrl req n v
    else if off % 0x10 = 4 then s.setCh n ((s.dma.ch[n]).clearFlags v)
    else s
  else if 0x100 ≤ off ∧ off < 0x200 then
    let n : Fin 8 := Fin.ofNat 8 ((off - 0x100) / 0x20)
    if (regRow (hdr 0x0A off)).isSome && (s.dma.ch[n]).st != .idle && decide (off % 0x20 < 0x10) then
      (s.setCh n { s.dma.ch[n] with busyErr := true }).hit (Reg.DMA_STAT n) 0x2000
    else s.putPlain (hdr 0x0A off) v
  else s.putPlain (hdr 0x0A off) v

/-- COMPOSER page of a surface (08 R321). -/
def State.putComposer (req : Req) (u : Fin 2) (off : Nat) (v : Word) (s : State) : State :=
  if off = 0x070 then s.writeFbClr u v
  else if off = 0x094 then s.writeFbInj req u v
  else if off = 0x098 then s.writeFbMreq u v
  else s.putPlain (hdr (0x20 + u.val) off) v

/-- CORR page of a surface (09 R360): the curve port stands on surface 0's. -/
def State.putCorr (u : Fin 2) (off : Nat) (v : Word) (s : State) : State :=
  if u.val = 0 ∧ off = 0x064 then s.writeCurve v
  else if u.val = 0 ∧ off = 0x068 then { s with corr := { s.corr with twerr := s.corr.twerr && !bit v 0 } }
  else if u.val = 0 ∧ off = 0x06C then s.writeMlim u v
  else s.putPlain (hdr (0x24 + u.val) off) v

/-- SHADE page (10 R375, R390, R391). -/
def State.putShade (off : Nat) (v : Word) (s : State) : State :=
  if off = 0x064 then { s with shade := { s.shade with mbErr := s.shade.mbErr && !bit v 1 } }
  else if off = 0x068 then s.mailboxGo v
  else if 0x070 ≤ off ∧ off < 0x100 ∧ s.shade.mbBusy.isSome = true then s
  else s.putPlain (hdr 0x28 off) v

/-- STITCH page (03 R93, R94, R118). -/
def State.putStitch (off : Nat) (v : Word) (s : State) : State :=
  if off = 0x088 then (s.setHealth (fld v 0 22)).spoilHealth [fld v 0 22 / 64]
  else if off = 0x08C then s.queueClear (fld v 0 22)
  else if off = 0x090 then { s with regs := rset Reg.ST_HM_STAT (rget s.regs Reg.ST_HM_STAT &&& ~~~(v &&& 0x100)) s.regs }
  else s.putPlain (hdr 0x2C off) v

/-- SKEIN page of a lane (05 R222). -/
def State.putSkein (l : Fin 8) (off : Nat) (v : Word) (s : State) : State :=
  if off = 0x04C then s.writeRetry l v
  else if off = 0x060 then s.writeLoop l v
  else s.putPlain (hdr (0x30 + l.val) off) v

/-- SAL page (04 R183). -/
def State.putSal (off : Nat) (v : Word) (s : State) : State :=
  if off = 0x044 then s.writeAcmd v
  else if off = 0x048 then
    { s with areq := { s.areq with done := s.areq.done && !bit v 1, timeout := s.areq.timeout && !bit v 2 } }
  else s.putPlain (hdr 0x38 off) v

/-- THERM page (15 R539–R541). -/
def State.putTherm (off : Nat) (v : Word) (s : State) : State :=
  if off = 0x04C then s.writeTref v
  else if off = 0x054 then s.writeLim v
  else if off = 0x058 then s.writeTjadd v
  else s.putPlain (hdr 0x41 off) v

/-- Pending bits of word w cleared (16 R561). -/
def Faults.clearPend (f : Faults) (w : Nat) (v : Word) : Faults :=
  { f with pend := f.pend &&& ~~~(BitVec.ofNat 256 (v.toNat * 2 ^ (32 * w))) }

/-- QUIET as a write leaves it (16 R586). -/
def quietOf (v : Word) : Nat := clampNat 1 1000 (fld v 0 10)

/-- FAULT page (16 R586). -/
def State.putFault (req : Req) (off : Nat) (v : Word) (s : State) : State :=
  if 0x060 ≤ off ∧ off < 0x080 then { s with flt := s.flt.clearPend ((off - 0x060) / 4) v }
  else if off = 0x0A0 then (s.keep Reg.FC_SRCSEL).putPlain (hdr 0x48 off) v
  else if off = 0x0AC then s.writeSrccls v
  else if off = 0x0C0 then s.writeInj req v
  else if off = 0x0C4 then
    { s with flt := { s.flt with inj := { s.flt.inj with injErr := s.flt.inj.injErr && !bit v 2 } } }
  else if off = 0x0C8 then s.writeChkinv req v
  else if off = 0x0D0 then { s with regs := rset Reg.FC_CFG (at32 0 (quietOf v)) s.regs }
  else s.putPlain (hdr 0x48 off) v

/-- TMO as a write leaves it (13 R505). -/
def tmoOf (v : Word) : Nat := clampNat 1 10000 (fld v 0 14)

/-- FORESTER page (13 R499, R505). -/
def State.putForester (req : Req) (off : Nat) (v : Word) (s : State) : State :=
  if off < 0x080 ∧ s.host.mbBusy = true ∧ s.ownerBit req = 0 then s.report [.count Reg.HOST_BADACC 1]
  else if off = 0x0C0 then s.writeDoor v
  else if off = 0x0C4 then
    let h := s.host
    { s with host := { h with
      mbDone := h.mbDone && !bit v 1, mbRefused := h.mbRefused && !bit v 2, mbTimeout := h.mbTimeout && !bit v 3 } }
  else if off = 0x0C8 then { s with regs := rset Reg.MB_CFG (at32 0 (tmoOf v)) s.regs }
  else s.putPlain (hdr 0x58 off) v

/-- SEC page (19 R690). -/
def State.putSec (off : Nat) (v : Word) (s : State) : State :=
  if off = 0x068 then s.writeSecCmd v
  else if off = 0x06C then { s with sec := { s.sec with done := s.sec.done && !bit v 1, err := s.sec.err && !bit v 2 } }
  else s.putPlain (hdr 0x60 off) v

/-! ### Every page -/

/-- A header register that 13 R481 judges. -/
def State.putHeader (req : Req) (p off : Nat) (v : Word) (s : State) : State :=
  let b : Byte := BitVec.ofNat 8 p
  if off = 0x008 then s.writeCtrl b v
  else if off = 0x00C then
    { s with regs := rset (hdr p off) (rget s.regs (hdr p off) &&& ~~~(v &&& 4)) s.regs }
  else if off = 0x014 then s.clearIrq b v
  else if off = 0x018 then { s with regs := rset (hdr p off) v s.regs }
  else if off = 0x01C then s.forceIrq b v
  else if off = 0x024 then s.writeForce req p v
  else s

/-- A register of a page, the requester owning it. -/
def State.pageWrite (req : Req) (p off : Nat) (v : Word) (s : State) : State :=
  let v := s.cold (hdr p off) v
  if off < 0x040 then s.putHeader req p off v
  else if p = 0x00 then s.putTop off v
  else if 0x04 ≤ p ∧ p < 0x08 then s.putIntake (Fin.ofNat 4 (p - 0x04)) off v
  else if p = 0x08 then s.putHost off v else if p = 0x09 then s.putMsix off v else if p = 0x0A then s.putDma req off v
  else if p = 0x20 ∨ p = 0x21 then s.putComposer req (Fin.ofNat 2 (p - 0x20)) off v
  else if p = 0x24 ∨ p = 0x25 then s.putCorr (Fin.ofNat 2 (p - 0x24)) off v
  else if p = 0x28 then s.putShade off v else if p = 0x2C then s.putStitch off v
  else if 0x30 ≤ p ∧ p < 0x38 then s.putSkein (Fin.ofNat 8 (p - 0x30)) off v
  else if p = 0x38 then s.putSal off v else if p = 0x41 then s.putTherm off v
  else if p = 0x48 then s.putFault req off v else if p = 0x58 then s.putForester req off v
  else if p = 0x60 then s.putSec off v
  else s.putPlain (hdr p off) v

/-- Offsets whose writes are judged by PG_OWNER (13 R481). -/
def judged (off : Nat) : Bool := (decide (0x008 ≤ off) && decide (off < 0x028)) || (decide (0x040 ≤ off) && decide (off < 0x800))

/-- A whole dword written to a BAR0 address by a requester (13 R481, R482; 12 R452). -/
def State.writeReg (req : Req) (a : Nat) (v : Word) (s : State) : State :=
  let p := a / 0x1000
  let off := a % 0x1000 / 4 * 4
  if !pageUsed p then s
  else if judged off then State.access req p (State.pageWrite req p off v) s
  else if s.stalledTo (pageDomain p) then s.report (errorAccess req)
  else if off = 0x02C then s.writeOwner req (BitVec.ofNat 8 p) v
  else s

/-! ### Forester's local page (18 R665) -/

/-- A byte written to the UART. A full FIFO loses a byte, and the spec does not say which. -/
def State.uartPut (b : Byte) (s : State) : State :=
  if s.fst.uartTx.length < 16 then { s with fst := { s.fst with uartTx := s.fst.uartTx ++ [b] } }
  else if s.freeNat 2 = 0 then s.spend
  else { s.spend with fst := { s.fst with uartTx := s.fst.uartTx.tail ++ [b] } }

/-- FP registers with flags of their own. -/
def Forester.writeFlags (x : Forester) (off : Nat) (v : Word) : Forester :=
  if off = 0x004 then { x with triedA := bit v 3, triedB := bit v 4 }
  else if off = 0x010 then { x with irq := x.irq &&& ~~~(BitVec.ofNat 6 v.toNat) }
  else if off = 0x048 then { x with mbDiscard := x.mbDiscard && !bit v 17 }
  else if off = 0x308 then
    { x with spi := { x.spi with
      done := x.spi.done && !bit v 1, err := x.spi.err && !bit v 2, refused := x.spi.refused && !bit v 3 } }
  else if off = 0x384 then { x with rxOvf := x.rxOvf && !bit v 16 }
  else if 0x200 ≤ off ∧ off < 0x280 ∧ off % 0x10 = 0xC then
    let n : Fin 8 := Fin.ofNat 8 ((off - 0x200) / 0x10)
    { x with slots := x.slots.set n { x.slots[n] with err := (x.slots[n]).err && !bit v 16 } }
  else x

/-- A register of the FP page written by Forester. -/
def State.writeFp (off : Nat) (v : Word) (s : State) : State :=
  let v := s.cold (0x100000 + off) v
  if off = 0x000 then s.when (bit v 0) (State.resetForester .software false)
  else if off = 0x020 then s.writeWdog v
  else if off = 0x044 then s.writeMbDone v
  else if off = 0x04C then s.writeMbEvt v
  else if off = 0x104 then s.writeLogRd v
  else if off = 0x118 then s.writeLogCode v
  else if off = 0x300 then s.writeNor v
  else if off = 0x380 then s.uartPut (v.setWidth 8)
  else if off = 0x004 ∨ off = 0x010 ∨ off = 0x048 ∨ off = 0x308 ∨ off = 0x384 ∨ (0x200 ≤ off ∧ off < 0x280 ∧ off % 0x10 = 0xC) then
    { s with fst := s.fst.writeFlags off v }
  else s.putPlain (0x100000 + off) v

/-! ### REGISTER_WRITE -/

/-- A register write of one dword, its byte enables as given (13 R477): BAR0 addresses below 0x100000, and the FP page from
there for Forester alone (18 R665). -/
def State.busWrite (req : Req) (a : Nat) (v : Word) (be : BitVec 4) (s : State) : State :=
  if 0x100000 ≤ a then
    (if req = .forester ∧ s.fst.st ≠ .reset ∧ a < 0x101000 then s.writeFp (a % 0x1000 / 4 * 4) v else s)
  else if be ≠ 0xF then s.report badAccess
  else s.writeReg req a v

/-- REGISTER_WRITE (13 R481). -/
def execRegisterWrite (t : Nat) (req : Req) (addr : BitVec 21) (v : Word) (be : BitVec 4) (s : State) :
    Host.Outcome State Fault Refusal :=
  onCore t s (State.once (.registerWrite t req addr v be) (State.busWrite req addr.toNat v be))

/-! ### Resets of the host port (13 R463, R501) -/

/-- The host's register writes of this sample are performed first (13 R501, 20 R710). -/
def State.hostWrites (s : State) : State :=
  s.takeFirst (fun c => match c with
    | .topPhaseWrite _ .host v => some (State.access .host 0x00 (State.writePhase v))
    | .registerWrite _ .host a v be => some (State.busWrite .host a.toNat v be)
    | _ => none)

/-- HOST_PORT_RESET (13 R463): nothing on the quad-SPI port, which sees no such reset (20 R706). -/
def execHostPortReset (t : Nat) (k : HostReset) (s : State) : Host.Outcome State Fault Refusal :=
  onCore t s (fun s => s.when (!s.host.portSpi) (fun s => s.hostWrites.hostReset k))

end Sys2Proof.Machine
end

