-- ==== Sys2Proof/Machine/LocalPage.lean ====
section
/-! DEFINITION. What Forester's local page reads, and reads of registers by their requesters (18 R665, 11 R425). -/

namespace Sys2Proof.Machine

open Sys2Proof

/-- PAGE of FP_IRQ: the line of a page that FP_PGEN enables is 1. -/
def State.pageIrq (s : State) : Bool :=
  pagesUsed.any (fun p => bit (rget s.regs (Reg.FP_PGEN (p / 32))) (p % 32) && pageLine s.regs p)

/-- LEFT of FP_WDSTAT; 0 while the watchdog does not count. -/
def State.wdLeft (s : State) : Nat := if s.wdRuns then s.glade.wdWindow - s.glade.wdTicks s.now else 0

/-- FP_SEN_STAT of a slot. -/
def State.senWord (s : State) (n : Fin 8) : Word :=
  let x := s.fst.slots[n]
  let age := match x.goodAt with
    | some t => min 255 ((s.now - t) / msec)
    | none => 255
  at32 0 x.count.toNat ||| flag32 16 x.err ||| flag32 17 (s.slotBusy n) ||| at32 24 age

/-- FP_GPIO_IN: driven pins at their level, the others at what the outside gives. -/
def State.gpioIn (s : State) : Word :=
  let oe := rget s.regs Reg.FP_GPIO_OE
  (rget s.regs Reg.FP_GPIO_OUT &&& oe) ||| (at32 0 (s.freeNat 256) &&& ~~~oe)

/-- A register of the FP page. -/
def State.readFp (s : State) (off : Nat) : Word :=
  let x := s.fst
  if off = 0x004 then at32 0 x.cause.toNat ||| flag32 3 x.triedA ||| flag32 4 x.triedB
  else if off = 0x010 then at32 0 x.irq.toNat ||| flag32 6 s.pageIrq
  else if off = 0x024 then at32 0 (min 0xFFFF s.wdLeft) ||| flag32 16 s.glade.wdBoot
  else if off = 0x048 then
    at32 0 x.mbSeq.toNat ||| at32 8 x.mbLen.toNat ||| flag32 16 x.mbPending ||| flag32 17 x.mbDiscard
  else if off = 0x100 then at32 0 s.log.wr.toNat
  else if off = 0x104 then at32 0 s.log.rd.toNat
  else if off = 0x10C then s.log.lost
  else if 0x200 ≤ off ∧ off < 0x280 ∧ off % 0x10 = 8 then (x.slots[Fin.ofNat 8 ((off - 0x200) / 0x10)]).value
  else if 0x200 ≤ off ∧ off < 0x280 ∧ off % 0x10 = 0xC then s.senWord (Fin.ofNat 8 ((off - 0x200) / 0x10))
  else if off = 0x308 then
    flag32 0 x.spi.cmd.isSome ||| flag32 1 x.spi.done ||| flag32 2 x.spi.err ||| flag32 3 x.spi.refused |||
      flag32 4 x.spi.loadWait
  else if off = 0x380 then at32 0 ((x.uartRx.head?.getD 0).toNat)
  else if off = 0x384 then at32 0 x.uartTx.length ||| at32 8 x.uartRx.length ||| flag32 16 x.rxOvf
  else if off = 0x398 then s.gpioIn
  else if off = 0x3A0 then at32 0 s.usecs
  else if off = 0x3A4 then s.hi[holdOf .forester]
  else rget s.regs (0x100000 + off)

/-- What a read of the FP page changes: a byte leaves the receive FIFO, the high word of mtime is latched (11 R425). -/
def State.afterFp (off : Nat) (s : State) : State :=
  if off = 0x380 then { s with fst := { s.fst with uartRx := s.fst.uartRx.tail } }
  else if off = 0x398 then s.spend
  else if off = 0x3A0 then { s with hi := s.hi.set (holdOf .forester) (at32 0 (s.usecs / 2 ^ 32)) }
  else s

/-- A register read by a requester: BAR0 below 0x100000, the FP page from there for Forester alone. -/
def State.busRead (req : Req) (a : Nat) (s : State) : State :=
  if a < 0x100000 then s.readReg req a
  else if req = .forester ∧ s.fst.st ≠ .reset ∧ a < 0x101000 then
    let off := a % 0x1000 / 4 * 4
    (s.afterFp off).report [.send (.data .forester (toBytesLE 4 (s.readFp off).toNat))]
  else s

/-- COUNTER_LOW_WORD_READ (11 R425): `addr` may name any register; the read of a low word latches the high one. -/
def execCounterLowWordRead (t : Nat) (req : Req) (addr : BitVec 21) (s : State) : Host.Outcome State Fault Refusal :=
  onCore t s (State.busRead req addr.toNat)

end Sys2Proof.Machine
end

