-- ==== Sys2Proof/Machine/ChipMap.lean ====
section
/-! DEFINITION. The on-chip address space of 13 R476: reads, writes, and what makes an access end in error. -/

namespace Sys2Proof.Machine

open Sys2Proof

/-! ### Places -/

/-- First address of the BAR0 pages. -/
def bar0Base : Nat := 0x04000000

/-- An address of a BAR0 page. -/
def inBar0 (a : Nat) : Bool := decide (bar0Base ≤ a) && decide (a < bar0Base + 0x100000)

/-- First address of the side-packet aperture of request line q (06 R251). -/
def sideBase (q : Nat) : Nat := 0x0F000000 + 0x200 * q

/-- First address of the log export aperture (18 R655). -/
def logBase : Nat := 0x0F200000

/-- A range lies within [lo, hi). -/
def within_ (lo hi a n : Nat) : Bool := decide (lo ≤ a) && decide (a + n ≤ hi)

/-- A range covers [lo, hi). -/
def covers_ (lo hi a n : Nat) : Bool := decide (a ≤ lo) && decide (hi ≤ a + n)

/-- The part of a byte string at `a` that falls in [lo, hi), with its first address. -/
def sliceAt (lo hi a : Nat) (l : List Byte) : Nat × List Byte :=
  let x := max a lo
  (x, (l.drop (x - a)).take (min (a + l.length) hi - x))

/-! ### Reads -/

/-- A byte of the on-chip address space; none in an uncorrectable word. Unmapped addresses read 0 (13 R476). -/
def State.chipByte (s : State) (req : Req) (a : Nat) : Option Byte :=
  if a < 0x01000000 then
    let b := bankAt a
    if (s.bank b.1).ue.contains (b.2 / 8) then none else some ((s.bank b.1).byte b.2)
  else if a < 0x01800000 then some (s.layers.byte (a - 0x01000000))
  else if a < 0x02000000 then
    let x := a - 0x01800000
    if s.calib.ue.contains (x / 8) then none else some (Memory.read calibByte s.calib.cells x)
  else if a < 0x02080000 then
    let x := a - 0x02000000
    if s.health.ue.contains (x / 8) then none else some (s.health.byte x)
  else if 0x02100000 ≤ a ∧ a < 0x02110000 then some (s.glade.fbByte (a - 0x02100000))
  else if inBar0 a then
    let x := a - bar0Base
    some (BitVec.ofNat 8 ((s.readWord req (x / 4 * 4)).toNat / 2 ^ (8 * (x % 4))))
  else if sideBase 0 ≤ a ∧ a < sideBase 4 then
    some ((s.intake.aperture (Fin.ofNat 4 ((a - sideBase 0) / 0x200))).getD ((a - sideBase 0) % 0x200) 0)
  else if logBase ≤ a ∧ a < logBase + 0x20 then some (s.aperture.getD (a - logBase) 0)
  else some 0

/-- A byte of the BAR2 window, modulo its 64 MiB: a byte of an uncorrectable health word reads as ones (03 R92). -/
def State.bar2Byte (s : State) (req : Req) (a : Nat) : Option Byte :=
  let x := a % bar0Base
  if 0x02000000 ≤ x ∧ x < 0x02080000 then some ((s.chipByte req x).getD 0xFF) else s.chipByte req x

/-- The completion of a host read through BAR2: corrected data, or poisoned for an uncorrectable word (03 R83). -/
def State.bar2Read (s : State) (req : Req) (a n : Nat) : Output :=
  let l := (List.range n).map (fun i => s.bar2Byte req (a + i))
  if l.any (fun b => b.isNone) then .poisoned req else .data req (l.filterMap (fun b => b))

/-- BAR2_FRAME_STORE_READ (03 R83): it changes nothing; an offset past the two banks reads the store that R476 maps there. -/
def execBar2FrameStoreRead (t : Nat) (req : Req) (addr len : Nat) (s : State) : Host.Outcome State Fault Refusal :=
  onCore t s (fun s => s.report [.send (s.bar2Read req addr len)])

/-- Bytes from an address, in ascending order: a low word of a counter latches before the next byte (11 R425). -/
def State.chipBytes (req : Req) : Nat → Nat → State → List (Option Byte) × State
  | _, 0, s => ([], s)
  | a, n + 1, s =>
    let b := s.chipByte req a
    let s := s.when (inBar0 a && a % 4 == 0) (State.latch req (a - bar0Base))
    let r := State.chipBytes req (a + 1) n s
    (b :: r.1, r.2)

/-- What a read of a range leaves behind: slots freed (06 R251), RD advanced (18 R655). -/
def State.afterRead (a n : Nat) (s : State) : State :=
  let s := (List.finRange 4).foldl (fun (s : State) (q : Fin 4) =>
    s.when (covers_ (sideBase q.val + 0x1F8) (sideBase q.val + 0x200) a n) (State.freeSide q)) s
  s.when (covers_ (logBase + 0x18) (logBase + 0x20) a n) State.exportNext

/-- A read of a range. -/
def State.chipRead (req : Req) (a n : Nat) (s : State) : List (Option Byte) × State :=
  let r := State.chipBytes req a n s
  (r.1, r.2.afterRead a n)

/-- The pages that a range of addresses meets. -/
def pagesMet (a n : Nat) : List Nat :=
  (List.range 256).filter (fun p => meets a n (bar0Base + 0x1000 * p) 0x1000)

/-- An access to the range is abandoned at a STALLED crossing (12 R453). -/
def State.chipStalled (s : State) (a n : Nat) : Bool :=
  (pagesMet a n).any (fun p => pageUsed p && s.stalledTo (pageDomain p)) ||
    (meets a n 0x02100000 0x10000 && s.stalledTo 6)

/-! ### Writes -/

/-- A byte string written to BAR0 pages: whole dwords, a partial one being no write (13 R477). -/
def State.putPages (req : Req) : Nat → List Byte → State → State
  | _, [], s => s
  | a, b0 :: r, s =>
    match r with
    | b1 :: b2 :: b3 :: r' =>
      if a % 4 = 0 then
        State.putPages req (a + 4) r' (s.writeReg req a (BitVec.ofNat 32 (ofBytesLE [b0, b1, b2, b3])))
      else State.putPages req (a + 1) (b1 :: b2 :: b3 :: r') (s.when (a % 4 == 3) (State.report badAccess))
    | _ => s.report badAccess

/-- A write handler run on the part of a byte string that falls in its place. -/
def State.putPart (lo hi a : Nat) (l : List Byte) (f : Nat → List Byte → State → State) (s : State) : State :=
  let x := sliceAt lo hi a l
  if x.2.isEmpty then s else f (x.1 - lo) x.2 s

/-- A byte string written to the on-chip address space by a requester, each store by its own rule (13 R476, R478; 14
R518). -/
def State.chipWrite (req : Req) (a : Nat) (l : List Byte) (s : State) : State :=
  let s := s.putPart 0 0x01000000 a l (fun x l s => (s.putFrame x l).report (noteIf (s.hitsDriven x l) [.raise Src.FS_HWR]))
  let s := s.putPart 0x01000000 0x01800000 a l (fun x l s => { s with layers := s.layers.write 0 zeroByte x l })
  let s := s.putPart 0x01800000 0x02000000 a l State.putCalib
  let s := s.putPart 0x02000000 0x02080000 a l State.writeHealth
  let s := s.putPart bar0Base (bar0Base + 0x100000) a l (State.putPages req)
  let s := s.putPart (portBase 0) (portBase 1) a l (State.shadePort 0)
  s.putPart (portBase 1) (portBase 2) a l (State.shadePort 1)

/-- Why a write of a dword to a BAR0 address is not performed: 3 discarded under R481, 4 abandoned (14 R514). -/
def State.writeFate (s : State) (req : Req) (a : Nat) : Option Nat :=
  let p := a / 0x1000
  if !pageUsed p then none
  else if s.stalledTo (pageDomain p) then some 4
  else if judged (a % 0x1000) && !s.mayWrite req p then some 3
  else none

/-- The first dword of a range whose write is not performed, with its cause. -/
def State.writeStop (s : State) (req : Req) (a n : Nat) : Option (Nat × Nat) :=
  ((List.range n).filterMap (fun i =>
    if inBar0 (a + i) && (a + i) % 4 == 0 then (s.writeFate req (a + i - bar0Base)).map (fun c => (i, c)) else none)).head?

end Sys2Proof.Machine
end

