-- ==== Sys2Proof/Machine/Debug.lean ====
section
/-! DEFINITION. The debug port's access to Forester and to the pins (19 R682, R684; 18 R637). -/

namespace Sys2Proof.Machine

open Sys2Proof

/-- Debug is open at a level or above (19 R684). -/
def State.debugAt (s : State) (l : Nat) : Bool := s.sec.dbgOpen && decide (l ≤ s.sec.dbgLevel.toNat)

/-- A word shifted out. -/
def jtagWord (v : Nat) : List Note := [.send (.jtag (toBytesLE 4 v))]

/-- An access that completes as an error. -/
def State.debugError (s : State) : State := s.report [.send (.errorAccess .forester)]

/-- A TCM word read: a corrected word is written back, an uncorrectable one resets Forester (18 R638). -/
def State.debugTcm (w : Nat) (s : State) : State :=
  if s.fst.tcm.ue.contains w then s.tcmError (.double w)
  else
    let v := s.fst.tcm.le (4 * w) 4
    (s.when (s.fst.tcm.ce.contains w) (State.tcmError (.single w))).report (jtagWord v)

/-- A word of the TCM written with valid check bits. -/
def State.debugTcmPut (w : Nat) (v : Word) (s : State) : State :=
  let x := s.fst.tcm
  { s with fst := { s.fst with tcm := {
      cells := Memory.writeL zeroByte x.cells (4 * w) (toBytesLE 4 v.toNat), ce := removeNat w x.ce, ue := removeNat w x.ue } } }

/-- Bytes of the log ring. -/
def State.ringWord (s : State) (a : Nat) : Nat := leAt (recBytes (s.log.recAt (a / 32))) (a % 32) 4

/-- Kinds of places in Forester's address map (18 R637). -/
inductive Place where
  | rom | tcm (word : Nat) | page (off : Nat) | ring (a : Nat) | chip (a : Nat) | none
  deriving DecidableEq, Repr

/-- The place of a word's address; none outside the map, in the ranges of the DMA engine, or at a misaligned address. -/
def placeOf (x : Nat) : Place :=
  if x % 4 ≠ 0 then .none
  else if x < 0x10000 then .rom
  else if 0x10000000 ≤ x ∧ x < 0x10040000 then .tcm ((x - 0x10000000) / 4)
  else if 0x20000000 ≤ x ∧ x < 0x20001000 then .page (x - 0x20000000)
  else if 0x21000000 ≤ x ∧ x < 0x21008000 then .ring (x - 0x21000000)
  else if 0x40000000 ≤ x ∧ x < 0x4F000000 then .chip (x - 0x40000000)
  else .none

/-- A read of the on-chip address space as Forester. -/
def State.debugChip (a : Nat) (s : State) : State :=
  if s.chipStalled a 4 then s.report (errorAccess .forester)
  else
    let r := s.chipRead .forester a 4
    match r.1.mapM (fun b => b) with
    | some l => r.2.report [.send (.jtag l)]
    | none => r.2.report [.send (.poisoned .forester)]

/-- A word read through Forester's address map; the ROM's content is not given (18 R637). -/
def State.debugRead (a : Nat) (s : State) : State :=
  match placeOf a with
  | .rom => (s.report (jtagWord (s.freeNat (2 ^ 32)))).spend
  | .tcm w => s.debugTcm w
  | .page off => (s.afterFp off).report (jtagWord (s.readFp off).toNat)
  | .ring x => s.report (jtagWord (s.ringWord x))
  | .chip x => s.debugChip x
  | .none => s.debugError

/-- A word written through Forester's address map. -/
def State.debugWrite (a : Nat) (v : Word) (s : State) : State :=
  match placeOf a with
  | .tcm w => s.debugTcmPut w v
  | .page off => s.when (s.fst.st != .reset) (State.writeFp off v)
  | .chip x =>
    if inBar0 x then s.writeReg .forester (x - bar0Base) v
    else if s.chipStalled x 4 then s.report (errorAccess .forester)
    else State.chipWrite .forester x (toBytesLE 4 v.toNat) s
  | _ => s.debugError

/-- Levels of the safety pins that boundary scan only observes (19 R682): AEN0–AEN3, ERR_P, ERR_N, SIN_A1, SIN_A2, SIN_B1,
SIN_B2 and SRST_N, from bit 0. -/
def Glade.scan (g : Glade) : Nat :=
  g.aenRb.toNat + g.errRb.toNat * 16 + pairBits g.pairA.raw1 g.pairA.raw2 * 64 + pairBits g.pairB.raw1 g.pairB.raw2 * 256 +
    (!g.srstRaw).toNat * 1024

/-- What a debug action does at its level; an instruction that is not available acts as BYPASS (19 R682). -/
def State.debug : DebugOp → State → State
  | .idcode, s => s.report (jtagWord 0x14410B47)
  | .halt, s => s.when (s.debugAt 1 && s.fst.st != .reset) (fun s => { s with fst := { s.fst with halted := true } })
  | .resume, s => s.when (s.debugAt 1) (fun s => { s with fst := { s.fst with halted := false } })
  | .step, s => s.when (s.debugAt 1 && s.fst.st != .reset) (fun s => { s with fst := { s.fst with halted := true } })
  | .reset, s => s.when (s.debugAt 1) (fun s => s.resetForester .debug s.thm.stopped)
  | .read a, s => s.when (s.debugAt 1) (State.debugRead a.toNat)
  | .write a v, s => s.when (s.debugAt 1) (State.debugWrite a.toNat v)
  | .extest l, s => s.when (s.debugAt 2) (State.report [.send (.extest l)])
  | .sample, s => s.when (s.debugAt 2) (fun s => s.report [.send (.jtag (toBytesLE 2 s.glade.scan))])

/-- DEBUG_ACCESS (19 R684). -/
def execDebugAccess (t : Nat) (op : DebugOp) (s : State) : Host.Outcome State Fault Refusal :=
  onCore t s (State.debug op)

end Sys2Proof.Machine
end

