-- ==== Sys2Proof/Machine/Decide.lean ====
section
/-! DEFINITION. The decision instant of a surface: lanes that return, the effective S and lane set of the coming frame, and
the guarantees (03 R109–R115, 04 R176, 05 R212, 11 R409, 21 R716). -/

namespace Sys2Proof.Machine

open Sys2Proof

/-- Skeins of the frame shown or of the coming one of surface u. -/
def State.skeinsDeciding (s : State) (u : Fin 2) : List (Fin 4) :=
  skeins.filter (fun k => (s.skeinsOf u).contains k || (s.viewNext u).names k)

/-- A lane in HOLD that every READY array of its skein has confirmed returns to service (04 R176, 05 R212). -/
def State.returnLane (s : State) (l : Fin 8) : State :=
  if (s.lane[l]).st = .hold ∧ s.laneConfirmed l = true then
    let s := s.putLine l (s.laneSkein l) (s.laneNo l) [] .stream
    State.joinMask l (s.setLane l { s.lane[l] with st := .service, recent := true, conf := 0, confirmed := false })
  else s

/-- The lanes of a surface's skeins return. -/
def State.returnLanes (u : Fin 2) (s : State) : State :=
  (s.skeinsDeciding u).foldl (fun (s : State) k => (skeinLanes s.active k.val).foldl State.returnLane s) s

/-- A plane waiting in a skein's buffer for the coming frame was formed with what the decision did not choose. -/
def Plane.outdated (p : Plane) (v : FrameView) : Bool :=
  p.fn == v.fn && (p.sSel != v.m.sSel || p.prof != v.set.prof || p.fb != v.fb)

/-- A buffered plane of the coming frame is formed again where the decision chose another S or source: its words are read
again, and its bundles keep the errors they met (03 R81, 08 R315). -/
def State.reform (v : FrameView) (s : State) (k : Fin 4) : State :=
  let x := s.skein[k]
  match x.buffer with
  | some p =>
    if !v.names k || !p.outdated v then s
    else if s.forms v k then
      let s := s.readPlane v k [] []
      s.setSkein k { x with buffer := some (s.formPlane v k p.idx p.seq p.errs) }
    else s.setSkein k { x with buffer := none }
  | none => s

/-- The decision for the coming frame of surface u is taken. -/
def State.takeDecision (u : Fin 2) (s : State) : State :=
  let s := s.returnLanes u
  let d := s.decideNow u
  let s := s.setSurf u { s.surf[u] with decided := some d, decTick := s.now / tick }
  (skeins.foldl (State.reform (s.viewNext u)) s).comingRanges (s.viewNext u) d

/-- A decision of this sample is taken again, after an event of the same sample that it includes (04 R177, 05 R218). -/
def State.redecide (s : State) : State :=
  surfaces.foldl (fun (s : State) u =>
    s.when ((s.surf[u]).decided.isSome && (s.surf[u]).decTick == s.now / tick) (State.takeDecision u)) s

/-- DECISION_INSTANT (11 R409): before the first boundary there is no frame to decide for. -/
def execDecisionInstant (t : Nat) (u : Fin 2) (s : State) : Host.Outcome State Fault Refusal :=
  onCore t s (fun s => s.when (s.tb.fcnt != 0) (State.takeDecision u))

/-! ### Lane events that a decision of their sample includes (04 R177, 05 R218) -/

/-- A status response arrives. -/
def State.statusIn (b : Fin 2) (blocks : List Block) (s : State) : State := (State.receive b blocks s).redecide

/-- STATUS_RESPONSE (04 R165). -/
def execStatusResponse (t : Nat) (b : Fin 2) (blocks : List Block) (s : State) : Host.Outcome State Fault Refusal :=
  onCore t s (State.once (.statusResponse t b blocks) (State.statusIn b blocks))

/-- The status responses registered in the sample of an expiry come first (12 R438). -/
def State.statusFirst (s : State) : State :=
  s.takeFirst (fun c => match c with
    | .statusResponse _ b blocks => some (State.statusIn b blocks)
    | _ => none)

/-- HOLD_CONFIRM_TIMEOUT (05 R211). -/
def execHoldConfirmTimeout (t : Nat) (l : Fin 8) (s : State) : Host.Outcome State Fault Refusal :=
  onCore t s (fun s => State.holdConfirm l s.statusFirst)

/-- LALERT_RECEIVED (05 R215). -/
def execLalertReceived (t : Nat) (b : Fin 2) (blk : Block) (s : State) : Host.Outcome State Fault Refusal :=
  onCore t s (fun s => (State.alert b blk s).redecide)

/-- OUTPUT_DRIVER_FAULT (05 R211, R216). -/
def execOutputDriverFault (t : Nat) (l : Fin 8) (s : State) : Host.Outcome State Fault Refusal :=
  onCore t s (fun s => (State.driverFault l s).redecide)

/-- SYNTHESISER_LOCK_LOSS (05 R213). -/
def execSynthesiserLockLoss (t : Nat) (syn : Synth) (s : State) : Host.Outcome State Fault Refusal :=
  onCore t s (fun s => (State.synLoss syn s).redecide)

end Sys2Proof.Machine
end

