-- ==== Sys2Proof/Machine/DmaEngine.lean ====
section
/-! DEFINITION. The DMA engine's data side: descriptor fetches, requests, bursts, bus errors and write-backs (14
R509–R526). -/

namespace Sys2Proof.Machine

open Sys2Proof

/-! ### Descriptors (14 R511, R512) -/

/-- The descriptor that 32 bytes hold. -/
def descOf (l : List Byte) : Desc :=
  { src := BitVec.ofNat 64 (leAt l 0x00 8), dst := BitVec.ofNat 64 (leAt l 0x08 8), next := BitVec.ofNat 64 (leAt l 0x10 8)
    len := BitVec.ofNat 32 (leAt l 0x18 4), ctl := BitVec.ofNat 32 (leAt l 0x1C 4) }

/-- A reserved bit of bytes 0x10 to 0x1F is 1. -/
def Desc.reserved (d : Desc) : Bool := fld d.next 2 4 != 0 || fld d.len 24 8 != 0 || bit d.ctl 7 || fld d.ctl 21 11 != 0

/-- An on-chip address has a non-zero high word. -/
def Desc.highWord (d : Desc) : Bool :=
  (d.srcChip && decide (2 ^ 32 ≤ d.src.toNat)) || (d.dstChip && decide (2 ^ 32 ≤ d.dst.toNat)) ||
    (bit d.next 0 && decide (2 ^ 32 ≤ d.next.toNat))

/-- A range that reaches BAR0 is not made of whole dwords. -/
def ragged (a n : Nat) : Bool := meets a n bar0Base 0x100000 && (a % 4 != 0 || n % 4 != 0)

/-- On-chip ranges that may be written (14 R512): the stores but for the fallback store, BAR0, the Shade ports, and the log
aperture, where a write has no effect. -/
def writable (a n : Nat) : Bool :=
  within_ 0 0x02080000 a n || within_ bar0Base (bar0Base + 0x100000) a n || within_ (portBase 0) (portBase 2) a n ||
    within_ logBase (logBase + 0x20) a n

/-- The descriptor is malformed (14 R512). -/
def Desc.malformed (d : Desc) : Bool :=
  d.count == 0 || decide (d.bsize < 8) || decide (4096 < d.bsize) || d.bsize % 8 != 0 || d.reserved || d.highWord ||
    (d.srcChip && ragged d.src.toNat d.srcLen) || (d.dstChip && ragged d.dst.toNat d.dstLen) ||
    (d.dstChip && !writable d.dst.toNat d.dstLen) || ((d.srcFix || d.dstFix) && d.overlaps)

/-! ### Fetches (14 R516, R521, R522) -/

/-- What a channel's read of its descriptor has brought: none while it is under way, an inner none for an error. -/
def State.fetchResult (s : State) (n : Fin 8) (a len : Nat) : Option (Option (List Byte)) :=
  let c := s.dma.ch[n]
  if c.curSp then
    if s.chipStalled a len then some none
    else some ((State.chipBytes (.dma n) a len s).1.mapM (fun b => b))
  else
    match s.host.up.find? (fun r => some r.tag == c.upTag) with
    | some r => match r.res with
      | .waiting => none
      | .data b => some (some b)
      | .error => some none
    | none => none

/-- A read of host memory by a channel has been taken. -/
def State.dmaTook (n : Fin 8) (s : State) : State :=
  (s.setCh n { s.dma.ch[n] with upTag := none }).when true (fun s => { s with host := s.host.forget n })

/-- A descriptor fetch ends in error (14 R516). -/
def State.fetchError (n : Fin 8) (s : State) : State :=
  (s.setCh n { (s.dma.ch[n]).toIdle with fetchErr := true }).report [.raise Src.DMA_FETCH, Note.hit (Reg.DMA_STAT n) 0x1000]

/-- A fetched descriptor (14 R521). -/
def State.fetched (n : Fin 8) (l : List Byte) (s : State) : State :=
  let c := { s.dma.ch[n] with desc := descOf l, moved := 0 }
  let s := s.setCh n c
  if c.abortPend then s.dmaEnd n .aborted 0 c.desc.count
  else if c.stopPend then s.setCh n c.toIdle
  else if c.desc.malformed then s.dmaEnd n .bad 1 c.desc.count
  else s.setCh n { c with st := if c.desc.pace then .wait else .move, readyAt := s.now }

/-- A parked channel's descriptor read again (14 R522). -/
def State.refetched (n : Fin 8) (l : List Byte) (s : State) : State :=
  let c := s.dma.ch[n]
  let c := { c with desc := { c.desc with next := BitVec.ofNat 64 (leAt l 0 8) }, reread := false }
  let s := s.setCh n c
  if !bit c.desc.next 1 then (s.setCh n c.advance).dmaFetch n
  else if c.doorPend then s.dmaReread n
  else s

/-- A descriptor read has ended, if one was under way. -/
def State.descriptorIn (n : Fin 8) (s : State) : State :=
  let c := s.dma.ch[n]
  if c.st = .fetch then
    match s.fetchResult n c.cur.toNat 32 with
    | none => s
    | some none => (s.dmaTook n).fetchError n
    | some (some l) => (s.dmaTook n).fetched n l
  else if c.st = .parked ∧ c.reread = true then
    match s.fetchResult n (c.cur.toNat + 0x10) 8 with
    | none => s
    | some none => (s.dmaTook n).fetchError n
    | some (some l) => (s.dmaTook n).refetched n l
  else s

/-- DESCRIPTOR_FETCHED (14 R521). -/
def execDescriptorFetched (t : Nat) (n : Fin 8) (s : State) : Host.Outcome State Fault Refusal :=
  onCore t s (State.descriptorIn n)

/-! ### Requests (14 R509, R510) -/

/-- The level that follows the last signalled end of a burst has been registered: samples are taken as ticks (14 R509). -/
def DmaCh.lineSettled (c : DmaCh) (now : Nat) : Bool := c.signalAt != some (now / tick)

/-- A channel takes a request from its line. -/
def State.takeRequest (n : Fin 8) (s : State) : State :=
  let c := s.dma.ch[n]
  if c.st = .wait ∧ s.reqLine n (s.dmaReq n) = true ∧ c.lineSettled s.now = true then
    s.setCh n { c with
      st := .move, readyAt := s.now, taken := true, swPend := if s.dmaReq n = 15 then c.swPend - 1 else c.swPend }
  else s

/-- A request taken, but for an ABORT that the same sample registers (14 R526). -/
def State.requestIn (n : Fin 8) (s : State) : State :=
  let s := s.haltFirst n
  let c := s.dma.ch[n]
  if c.st = .wait ∧ c.abortPend = true then s.dmaEnd n .aborted 0 c.left else s.takeRequest n

/-- DMA_REQUEST_TAKEN (14 R509). -/
def execDmaRequestTaken (t : Nat) (n : Fin 8) (s : State) : Host.Outcome State Fault Refusal :=
  onCore t s (State.requestIn n)

/-! ### Bursts (14 R513, R514, R517) -/

/-- Bursts in progress. -/
def State.bursts (s : State) : Nat := (channels.filter (fun n => (s.dma.ch[n]).burst)).length

/-- A channel is ready to start a burst: in MOVE with no burst in progress, and room for the read of a host source (13 R459). -/
def State.dmaReady (s : State) (n : Fin 8) : Bool :=
  let c := s.dma.ch[n]
  c.st == .move && !c.burst && (c.desc.srcChip || s.upRoom)

/-- How far a channel stands behind the one granted last, in the round. -/
def State.dmaTurn (s : State) (n : Fin 8) : Nat := (n.val + 7 - s.dma.lastGrant.val) % 8

/-- Channel n is granted before m: ready for longer, or as long and first in the round (14 R513; "round-robin with age" read as in
13 R496: DEDUCED, log entry 103). -/
def State.dmaFirst (s : State) (n m : Fin 8) : Bool :=
  if (s.dma.ch[n]).readyAt ≠ (s.dma.ch[m]).readyAt then decide ((s.dma.ch[n]).readyAt < (s.dma.ch[m]).readyAt)
  else decide (s.dmaTurn n ≤ s.dmaTurn m)

/-- A channel may be granted: it is ready and its turn has come, at most three others are bursting, and a shutdown has not stopped the
grants (14 R513, 15 R545). -/
def State.mayGrant (s : State) (n : Fin 8) : Bool :=
  s.dmaReady n && channels.all (fun m => !s.dmaReady m || s.dmaFirst n m) && decide (s.bursts < 4) && !s.thm.stopped

/-- A burst starts. -/
def State.grant (n : Fin 8) (s : State) : State :=
  let c := s.dma.ch[n]
  let s := s.setCh n { c with burst := true, buf := [], upTag := none }
  let s := { s with dma := { s.dma with lastGrant := n } }
  if c.desc.srcChip then s else s.dmaUpRead n c.burstSrc c.burstLen

/-- DMA_BURST_GRANT (14 R513). -/
def execDmaBurstGrant (t : Nat) (n : Fin 8) (s : State) : Host.Outcome State Fault Refusal :=
  onCore t s (fun s => s.when (s.mayGrant n) (State.grant n))

/-- Base address of the aperture that a source address lies in. -/
def apertureBase (a : Nat) : Option Nat :=
  if sideBase 0 ≤ a ∧ a < sideBase 4 then some (sideBase ((a - sideBase 0) / 0x200))
  else if logBase ≤ a ∧ a < logBase + 0x20 then some logBase
  else none

/-- Bytes that the channel has read from its source's aperture already, by a read of its own. -/
def DmaCh.bufBytes (c : DmaCh) : Option (List (Option Byte)) :=
  if c.buf.isEmpty then none
  else (apertureBase c.burstSrc).map (fun b => ((c.buf.drop (c.burstSrc - b)).take c.burstLen).map some)

/-- The upstream read of the burst in progress. -/
def State.burstUp (s : State) (n : Fin 8) : Option UpReq :=
  s.host.up.find? (fun r => some r.tag == (s.dma.ch[n]).upTag)

/-- The burst's source has answered: an upstream read no longer waits. -/
def State.burstReady (s : State) (n : Fin 8) : Bool :=
  let c := s.dma.ch[n]
  c.st == .move && c.burst &&
    (c.desc.srcChip || (match s.burstUp n with | some r => r.res != .waiting | none => false))

/-- What the upstream read of the burst in progress has brought. -/
def State.burstAnswer (s : State) (n : Fin 8) : Option (List Byte) :=
  match s.burstUp n with
  | some r => match r.res with
    | .data b => some b
    | _ => none
  | none => none

/-- The burst's bytes, none where the source gives no value, and the state after the read. -/
def State.burstData (n : Fin 8) (s : State) : List (Option Byte) × State :=
  let c := s.dma.ch[n]
  if c.desc.srcChip then
    match c.bufBytes with
    | some l => (l, s)
    | none => s.chipRead (.dma n) c.burstSrc c.burstLen
  else
    match s.burstAnswer n with
    | some b => (((b ++ List.replicate (c.burstLen - b.length) 0).take c.burstLen).map some, s)
    | none => (List.replicate c.burstLen none, s)

/-- CAUSE of an error at the burst's source (14 R514). -/
def State.sourceCause (s : State) (n : Fin 8) : Option Nat :=
  let c := s.dma.ch[n]
  if c.desc.srcChip then
    if c.bufBytes.isSome then none
    else if s.chipStalled c.burstSrc c.burstLen then some 4
    else if (s.burstData n).1.any (fun b => b.isNone) then some 5
    else none
  else if (s.burstAnswer n).isSome then none else some 2

/-- CAUSE of an error at the burst's destination, with the offset of the first write not performed. -/
def State.destCause (s : State) (n : Fin 8) : Option (Nat × Nat) :=
  let c := s.dma.ch[n]
  if c.desc.dstChip then s.writeStop (.dma n) c.burstDst c.burstLen
  else if s.linkReady then none else some (0, 2)

/-- Bytes written to a burst's destination. -/
def State.burstWrite (n : Fin 8) (a : Nat) (l : List Byte) (s : State) : State :=
  if (s.dma.ch[n]).desc.dstChip then State.chipWrite (.dma n) a l s else s.report (s.upWriteNotes a l)

/-- A burst in a Shade list port that ends in error brings no list: writes of it that were discarded count for none (10 R371, R373). -/
def State.portFailed (a n : Nat) (s : State) : State :=
  surfaces.foldl (fun (s : State) (u : Fin 2) =>
    s.when (meets a n (portBase u.val) 0x1000) (State.setShade u { s.shade.surf[u] with overrun := false })) s

/-- The end of a burst in a Shade list port makes a list arrive there (10 R371). -/
def State.portArrivals (a n : Nat) (s : State) : State :=
  surfaces.foldl (fun (s : State) (u : Fin 2) => s.when (meets a n (portBase u.val) 0x1000) (State.listArrive u)) s

/-- The burst's end is signalled to the source of the request it answers (14 R509). -/
def State.signalEnd (n : Fin 8) (s : State) : State :=
  let c := s.dma.ch[n]
  if c.taken then (s.setCh n { c with taken := false, burst := false, signalAt := some (s.now / tick) }).settleLine (s.dmaReq n)
  else s.setCh n { c with burst := false }

/-- What follows a burst that has moved its bytes (14 R521). -/
def State.afterBurst (n : Fin 8) (s : State) : State :=
  let c := s.dma.ch[n]
  if c.left = 0 then s.dmaEnd n .done 0 0
  else if c.abortPend then s.dmaEnd n .aborted 0 c.left
  else s.setCh n { c with st := if c.desc.pace then .wait else .move, readyAt := s.now }

/-- A burst ends. -/
def State.burstEnds (n : Fin 8) (s : State) : State :=
  let c := s.dma.ch[n]
  let r := s.burstData n
  let s := (r.2.dmaTook n).burstWrite n c.burstDst (r.1.map (fun b => b.getD 0))
  let s := s.when c.desc.dstChip (State.portArrivals c.burstDst c.burstLen)
  let s := s.signalEnd n
  let c' := s.dma.ch[n]
  (s.setCh n { c' with moved := c.moved + c.burstLen, buf := [] }).afterBurst n

/-- DMA_BURST_END (14 R513): of a burst whose source has answered and which meets no error. -/
def execDmaBurstEnd (t : Nat) (n : Fin 8) (s : State) : Host.Outcome State Fault Refusal :=
  onCore t s (fun s =>
    s.when (s.burstReady n && (s.sourceCause n).isNone && (s.destCause n).isNone) (State.burstEnds n))

/-- CAUSE of the burst's error. -/
def State.burstCause (s : State) (n : Fin 8) : Option Nat := (s.sourceCause n).or ((s.destCause n).map (fun x => x.2))

/-- Bytes of a failing burst that arrive: those before `stop` that the source gives and that a free value names (14
R514). -/
def State.partialWrites (n : Fin 8) (mask stop : Nat) : Nat → Nat → List (Option Byte) → State → State
  | _, _, [], s => s
  | a, i, b :: r, s =>
    let s := match b with
      | some x => if mask.testBit i ∧ i < stop ∧ inBar0 a = false then s.burstWrite n a [x] else s
      | none => s
    State.partialWrites n mask stop (a + 1) (i + 1) r s

/-- Dwords of a failing burst written to BAR0 pages before the one that is not performed, that one included: a free value
names those whose write was issued. -/
def State.partialPages (n : Fin 8) (mask : Nat) (fails : Option Nat) : Nat → Nat → List (Option Byte) → State → State
  | a, i, b0 :: b1 :: b2 :: b3 :: r, s =>
    let v : Word := BitVec.ofNat 32 (ofBytesLE ([b0, b1, b2, b3].map (fun b => b.getD 0)))
    let known := b0.isSome && b1.isSome && b2.isSome && b3.isSome
    let s := if inBar0 a ∧ known ∧ (fails = some i ∨ (mask.testBit i ∧ (fails.all (fun j => decide (i < j))))) then
        s.writeReg (.dma n) (a - bar0Base) v else s
    State.partialPages n mask fails (a + 4) (i + 4) r s
  | _, _, _, s => s

/-- What a bus error reports beside the descriptor's end: an abandoned read, or an upstream write that fails (13 R464,
R497). -/
def State.errorNotes (s : State) (n : Fin 8) : List Note :=
  noteIf (s.sourceCause n == some 4) (errorAccess (.dma n)) ++
  noteIf ((s.sourceCause n).isNone && !(s.dma.ch[n]).desc.dstChip && (s.destCause n).isSome) [.count Reg.HOST_CPLERR 1]

/-- A burst ends in a bus error (14 R514). -/
def State.busError (n : Fin 8) (cause : Nat) (s : State) : State :=
  let c := s.dma.ch[n]
  let notes := s.errorNotes n
  let ok := (s.sourceCause n).isNone
  let stop := s.destCause n
  let r := if ok then s.burstData n else ((s.burstData n).1, s)
  let mask := Config.freeValue r.2.free
  let s := (r.2.dmaTook n).spend
  let s := s.partialWrites n mask ((stop.map (fun x => x.1)).getD c.burstLen) c.burstDst 0 r.1
  let s := s.when c.desc.dstChip (State.partialPages n mask (stop.map (fun x => x.1)) c.burstDst 0 r.1)
  let s := s.when c.desc.dstChip (State.portFailed c.burstDst c.burstLen)
  ((s.report notes).signalEnd n).dmaEnd n .bad cause c.left

/-- DMA_BUS_ERROR (14 R514): of a burst whose source or destination gives an error. -/
def execDmaBusError (t : Nat) (n : Fin 8) (s : State) : Host.Outcome State Fault Refusal :=
  onCore t s (fun s =>
    if s.burstReady n then
      match s.burstCause n with
      | some c => s.busError n c
      | none => s
    else s)

/-! ### Write-backs (14 R515) -/

/-- Bytes 0x20 to 0x27 as written back. -/
def DmaCh.wbBytes (c : DmaCh) : List Byte :=
  toBytesLE 8 (c.residue.toNat + c.lastOut.code * 2 ^ 24 + (if c.lastOut = .bad then c.cause.toNat else 0) * 2 ^ 28 +
    c.doneCnt.toNat * 2 ^ 32)

/-- The write-back is performed. -/
def State.wbGood (s : State) (n : Fin 8) : Bool :=
  let c := s.dma.ch[n]
  if c.curSp then (s.writeStop (.dma n) (c.cur.toNat + 0x20) 8).isNone else s.linkReady

/-- The write of a write-back: into the descriptor's own space. -/
def State.wbWrite (n : Fin 8) (s : State) : State :=
  let c := s.dma.ch[n]
  if c.curSp then State.chipWrite (.dma n) (c.cur.toNat + 0x20) c.wbBytes s
  else s.report (s.upWriteNotes (c.cur.toNat + 0x20) c.wbBytes)

/-- A write-back ends; `ok` is false where the bus abandoned it (14 R515). -/
def State.writtenBack (n : Fin 8) (ok : Bool) (s : State) : State :=
  if (s.dma.ch[n]).st = .wb then
    let good := ok && s.wbGood n
    let s := s.when ok (State.wbWrite n)
    (s.report (noteIf (!good) [.count Reg.DMA_WBERR 1, .raise Src.DMA_WBERR])).dmaBoundary n
  else s

/-- DMA_WRITE_BACK_DONE (14 R515). -/
def execDmaWriteBackDone (t : Nat) (n : Fin 8) (ok : Bool) (s : State) : Host.Outcome State Fault Refusal :=
  onCore t s (State.writtenBack n ok)

end Sys2Proof.Machine
end

