-- ==== Sys2Proof/Machine/Endpoint.lean ====
section
/-! DEFINITION. What the PCI Express function shows of itself, its error kinds, and the order in which the register fabric grants
requests (13 R460, R461, R467, R496). -/

namespace Sys2Proof.Machine

open Sys2Proof

/-! ### The configuration header (13 R460, R461) -/

/-- A dword of the configuration header, by its offset in the header of the base specification (PRESUMED, log entry 103): the identity of
13 R460; BAR1, BAR4 and BAR5 read 0 (13 R461); the offset of BAR0, BAR2 and BAR3 give `base`, what the host has written there. -/
def configWord (base : Nat → Word) (off : Nat) : Word :=
  if off = 0x00 then 0x44101F2E
  else if off = 0x08 then 0x038000B1
  else if off = 0x10 then base 0 &&& 0xFFF00000#32
  else if off = 0x18 then (base 2 &&& 0xFC000000#32) ||| 0xC
  else if off = 0x1C then base 3
  else if off = 0x2C then 0x00011F2E
  else 0

/-- Vendor ID (13 R460). -/
def vendorId (base : Nat → Word) : Nat := fld (configWord base 0x00) 0 16

/-- Device ID (13 R460). -/
def deviceId (base : Nat → Word) : Nat := fld (configWord base 0x00) 16 16

/-- Revision ID (13 R460). -/
def revisionId (base : Nat → Word) : Nat := fld (configWord base 0x08) 0 8

/-- Class Code (13 R460). -/
def classCode (base : Nat → Word) : Nat := fld (configWord base 0x08) 8 24

/-- Subsystem Vendor ID (13 R460). -/
def subsystemVendorId (base : Nat → Word) : Nat := fld (configWord base 0x2C) 0 16

/-- Subsystem ID (13 R460). -/
def subsystemId (base : Nat → Word) : Nat := fld (configWord base 0x2C) 16 16

/-! ### Error kinds (13 R467) -/

/-- Kinds of errors that AER reports. -/
inductive AerKind where
  | correctable | nonFatal | fatal
  deriving DecidableEq, Repr

/-- The kind of an error, with the default severity of an uncorrectable one (13 R467). -/
def AerError.kind : AerError → AerKind
  | .receiver => .correctable
  | .badTlp => .correctable
  | .badDllp => .correctable
  | .replayTimer => .correctable
  | .replayRollover => .correctable
  | .advisoryNonFatal => .correctable
  | .poisonedTlp => .nonFatal
  | .completionTimeout => .nonFatal
  | .completerAbort => .nonFatal
  | .unexpectedCompletion => .nonFatal
  | .unsupportedRequest => .nonFatal
  | .dataLinkProtocol => .fatal
  | .surpriseDown => .fatal
  | .flowControl => .fatal
  | .receiverOverflow => .fatal
  | .malformedTlp => .fatal

/-! ### The order of grants (13 R496) -/

/-- The four requesters of the register fabric (13 R496). -/
inductive FabricWho where
  | host | forester | dma | fetch
  deriving DecidableEq, Repr

/-- Place of a requester in the round. -/
def FabricWho.place : FabricWho → Nat
  | .host => 0
  | .forester => 1
  | .dma => 2
  | .fetch => 3

/-- A request that waits for a grant: since when, and whether it is urgent (07 R279). -/
structure FabricReq where
  who : FabricWho
  since : Nat
  urgent : Bool
  deriving DecidableEq, Repr

/-- How far a requester stands behind the one granted last, in the round. -/
def FabricWho.turn (last w : FabricWho) : Nat := (w.place + 3 - last.place) % 4

/-- Request a is granted before b: an urgent one first, then the one that waits longer, and of two that wait equally long the one whose
turn comes first after the requester granted last (13 R496; the reading of "round-robin with age" is DEDUCED, log entry 103). -/
def grantedBefore (last : FabricWho) (a b : FabricReq) : Bool :=
  if a.urgent != b.urgent then a.urgent
  else if a.since ≠ b.since then decide (a.since < b.since)
  else decide (FabricWho.turn last a.who < FabricWho.turn last b.who)

/-- The first request of a list in the order of `grantedBefore`. -/
def firstGrant (last : FabricWho) : List FabricReq → Option FabricReq
  | [] => none
  | a :: r =>
    match firstGrant last r with
    | some b => some (if grantedBefore last b a then b else a)
    | none => some a

/-- An urgent request may be granted ahead of others: of the last 15 grants, whose urgency `recent` gives, newest first, fewer than 12
were urgent (07 R279: of 16 in a row at least 4 go to waiting non-urgent requesters). -/
def urgentAllowed (recent : List Bool) : Bool := decide (((recent.take 15).filter (fun b => b)).length < 12)

/-- The request granted next (13 R496, 07 R279). -/
def nextGrant (last : FabricWho) (recent : List Bool) (l : List FabricReq) : Option FabricReq :=
  let calm := l.filter (fun r => !r.urgent)
  if urgentAllowed recent || calm.isEmpty then firstGrant last l else firstGrant last calm

end Sys2Proof.Machine
end

