-- ==== Sys2Proof/Machine/Qspi.lean ====
section
/-! DEFINITION. The quad-SPI port: transactions, the write queue and the status byte (13 R468–R473). -/

namespace Sys2Proof.Machine

open Sys2Proof

/-- A transaction on the quad-SPI port; the port that is not selected ignores its pins (13 R458). -/
def onQspi (t : Nat) (s : State) (f : State → State) : Host.Outcome State Fault Refusal :=
  onCore t s (fun s => s.when s.host.portSpi f)

/-- An address that 13 R469 allows. -/
def qspiGood (a : Word) : Bool := fld a 26 5 == 0 && fld a 0 2 == 0

/-- The address selects BAR2. -/
def qspiBar2 (a : Word) : Bool := bit a 31

/-- BAR0 offset of an address. -/
def qspiOff0 (a : Word) : Nat := fld a 0 20

/-- BAR2 offset of an address. -/
def qspiOff2 (a : Word) : Nat := fld a 0 26

/-! ### The write queue (13 R471, R493) -/

/-- A queued write performed. -/
def State.qspiPut (x : Word × Word) (s : State) : State :=
  if !qspiGood x.1 then s.report badAccess
  else if qspiBar2 x.1 then State.chipWrite .host (qspiOff2 x.1) (toBytesLE 4 x.2.toNat) s
  else s.writeReg .host (qspiOff0 x.1) x.2

/-- The oldest queued write performed. -/
def State.qspiStep (s : State) : State :=
  match s.host.qspiQ with
  | [] => s
  | x :: r => State.qspiPut x { s with host := { s.host with qspiQ := r } }

/-- Every queued write performed, oldest first. -/
def State.qspiDrain (s : State) : State :=
  (s.host.qspiQ).foldl (fun (s : State) x => s.qspiPut x) { s with host := { s.host with qspiQ := [] } }

/-- A dword enters the queue, or is discarded with ERR set. -/
def HostPort.qspiPush (h : HostPort) (x : Word × Word) : HostPort :=
  if h.qspiQ.length < 16 then { h with qspiQ := h.qspiQ ++ [x] } else { h with qspiErr := true }

/-- Dwords of a WRITE with their addresses, ascending. -/
def qspiDwords : Word → List Byte → List (Word × Word)
  | a, b0 :: b1 :: b2 :: b3 :: r => (a, BitVec.ofNat 32 (ofBytesLE [b0, b1, b2, b3])) :: qspiDwords (a + 4) r
  | _, _ => []

/-- A WRITE: an incomplete dword is discarded and counted (13 R471). -/
def State.qspiWrite (a : Word) (bytes : List Byte) (s : State) : State :=
  if !qspiGood a then s.report badAccess
  else
    { s with host := (qspiDwords a bytes).foldl HostPort.qspiPush s.host }.report
      (noteIf (bytes.length % 4 != 0) badAccess)

/-- QSPI_WRITE (13 R471). -/
def execQspiWrite (t : Nat) (addr : Word) (bytes : List Byte) (s : State) : Host.Outcome State Fault Refusal :=
  onQspi t s (State.qspiWrite addr bytes)

/-! ### READ (13 R470) -/

/-- Marker and data of an error access. -/
def qspiBad : List Byte := [0x5A, 0, 0, 0, 0]

/-- Marker and data of a dword. -/
def qspiData (l : List Byte) : List Byte := 0xA5#8 :: l

/-- A dword of a store through BAR2: an uncorrectable word ends as an error access (09 R350), but a health word reads as the
ones it is taken as (03 R92). -/
def State.qspiStore (s : State) (a : Nat) : Option (List Byte) :=
  if s.chipStalled a 4 then none
  else ((State.chipBytes .host a 4 s).1.map (fun b =>
    if 0x02000000 ≤ a ∧ a < 0x02080000 then some (b.getD 0xFF) else b)).mapM (fun b => b)

/-- A dword of a READ. -/
def State.qspiGet (a : Word) (s : State) : State :=
  let refused := s.report (badAccess ++ [.send (.qspi qspiBad)])
  if !qspiGood a then refused
  else if qspiBar2 a then
    match s.qspiStore (qspiOff2 a) with
    | some l => s.report [.send (.qspi (qspiData l))]
    | none => refused
  else
    let r := qspiOff0 a
    if pageUsed (r / 0x1000) && s.stalledTo (pageDomain (r / 0x1000)) then refused
    else (s.latch .host r).report [.send (.qspi (qspiData (toBytesLE 4 (s.readWord .host r).toNat)))]

/-- Dwords of a READ at ascending addresses. -/
def State.qspiGets : Nat → Word → State → State
  | 0, _, s => s
  | n + 1, a, s => State.qspiGets n (a + 4) (s.qspiGet a)

/-- A READ: after every write before it (13 R473, R493). -/
def State.qspiRead (a : Word) (dwords : Nat) (s : State) : State :=
  if qspiGood a then State.qspiGets dwords a s.qspiDrain
  else s.qspiDrain.report (badAccess ++ (List.replicate dwords (Note.send (.qspi qspiBad))))

/-- QSPI_READ (13 R470). -/
def execQspiRead (t : Nat) (addr : Word) (dwords : Nat) (s : State) : Host.Outcome State Fault Refusal :=
  onQspi t s (State.qspiRead addr dwords)

/-- The dword is ready in this sample after all (12 R438). -/
def State.qspiReady (s : State) (addr : Word) : Bool :=
  s.awaits (fun c => match c with
    | .qspiRead _ a _ => a == addr
    | _ => false)

/-- QSPI_READ_TIMEOUT (13 R470): the dword is not ready 100 µs after it was requested. -/
def execQspiReadTimeout (t : Nat) (addr : Word) (s : State) : Host.Outcome State Fault Refusal :=
  onQspi t s (fun s => s.when (qspiGood addr && !s.qspiReady addr) (fun s =>
    { s with host := { s.host with qspiErr := true } }.report [.send (.qspi qspiBad)]))

/-! ### STATUS and IDENT (13 R469, R472, R473) -/

/-- HIRQ_N is asserted (13 R473). -/
def State.hirq (s : State) : Bool := s.host.portSpi && vecCond s.regs != 0

/-- The STATUS byte. -/
def State.qspiStatusByte (s : State) : Byte :=
  BitVec.ofNat 8 ((!s.host.qspiQ.isEmpty).toNat + 2 * (decide (16 ≤ s.host.qspiQ.length)).toNat + 4 * s.host.qspiErr.toNat +
    8 * s.hirq.toNat)

/-- QSPI_STATUS (13 R472): ERR is cleared by the transaction that returns it. -/
def execQspiStatus (t : Nat) (s : State) : Host.Outcome State Fault Refusal :=
  onQspi t s (fun s =>
    { s with host := { s.host with qspiErr := false } }.report [.send (.qspi [s.qspiStatusByte])])

/-- QSPI_IDENT (13 R469). -/
def execQspiIdent (t : Nat) (s : State) : Host.Outcome State Fault Refusal :=
  onQspi t s (State.report [.send (.qspi [0xB1, 0x00, 0x10, 0x44])])

end Sys2Proof.Machine
end

