-- ==== Sys2Proof/Machine/Dispatch.lean ====
section
/-! DEFINITION. One arm for each command: a direct call of its meaning. -/

namespace Sys2Proof.Machine

open Sys2Proof

/-- What a command does to everything but the queue. -/
def exec (i : Instr) (s : State) : Host.Outcome State Fault Refusal :=
  match i with
  | .porstNRelease t hostSel testEn => Sys2Proof.Machine.execPorstNRelease t hostSel testEn s
  | .porstNAssert t => Sys2Proof.Machine.execPorstNAssert t s
  | .storeInitDone t => Sys2Proof.Machine.execStoreInitDone t s
  | .cryptoSelfTestDone t ok => Sys2Proof.Machine.execCryptoSelfTestDone t ok s
  | .coreUnderVoltage t => Sys2Proof.Machine.execCoreUnderVoltage t s
  | .coreReset t => Sys2Proof.Machine.execCoreReset t s
  | .coreRelease t => Sys2Proof.Machine.execCoreRelease t s
  | .gladePowerLoss t => Sys2Proof.Machine.execGladePowerLoss t s
  | .gladeLoadEnd t flash => Sys2Proof.Machine.execGladeLoadEnd t flash s
  | .timeBaseBoundary t => Sys2Proof.Machine.execTimeBaseBoundary t s
  | .genlockEdge t rise held => Sys2Proof.Machine.execGenlockEdge t rise held s
  | .genlockMissing t => Sys2Proof.Machine.execGenlockMissing t s
  | .holdoverExpiry t => Sys2Proof.Machine.execHoldoverExpiry t s
  | .genlockOutPulseEnd t => Sys2Proof.Machine.execGenlockOutPulseEnd t s
  | .surfaceFrameBoundary t u => Sys2Proof.Machine.execSurfaceFrameBoundary t u s
  | .deratingMapWritten t u => Sys2Proof.Machine.execDeratingMapWritten t u s
  | .decisionInstant t u => Sys2Proof.Machine.execDecisionInstant t u s
  | .planeCutoff t k upsets bundles => Sys2Proof.Machine.execPlaneCutoff t k upsets bundles s
  | .planeLoadStart t k idles => Sys2Proof.Machine.execPlaneLoadStart t k idles s
  | .planeShowInstant t u fill => Sys2Proof.Machine.execPlaneShowInstant t u fill s
  | .tickRow t k => Sys2Proof.Machine.execTickRow t k s
  | .fallbackSelectRise t u => Sys2Proof.Machine.execFallbackSelectRise t u s
  | .fallbackSelectFall t u => Sys2Proof.Machine.execFallbackSelectFall t u s
  | .splice t k idles bundles => Sys2Proof.Machine.execSplice t k idles bundles s
  | .bar2FrameStoreRead t req addr len => Sys2Proof.Machine.execBar2FrameStoreRead t req addr len s
  | .bar2FrameStoreWrite t req addr data => Sys2Proof.Machine.execBar2FrameStoreWrite t req addr data s
  | .bar2HealthMapWrite t req addr data => Sys2Proof.Machine.execBar2HealthMapWrite t req addr data s
  | .bar2LayerStoreWrite t req addr data => Sys2Proof.Machine.execBar2LayerStoreWrite t req addr data s
  | .bar2CalibrationWrite t req addr data => Sys2Proof.Machine.execBar2CalibrationWrite t req addr data s
  | .bar2CalibrationRead t req addr len => Sys2Proof.Machine.execBar2CalibrationRead t req addr len s
  | .stHmSet t req v => Sys2Proof.Machine.execStHmSet t req v s
  | .stHmClr t req v => Sys2Proof.Machine.execStHmClr t req v s
  | .pollInterval t b => Sys2Proof.Machine.execPollInterval t b s
  | .missingPoll t b => Sys2Proof.Machine.execMissingPoll t b s
  | .statusResponse t b blocks => Sys2Proof.Machine.execStatusResponse t b blocks s
  | .identityResponse t b blocks => Sys2Proof.Machine.execIdentityResponse t b blocks s
  | .registerReadResponse t b blocks => Sys2Proof.Machine.execRegisterReadResponse t b blocks s
  | .returnBlockDiscard t b blocks => Sys2Proof.Machine.execReturnBlockDiscard t b blocks s
  | .arrayRegWrite t req v => Sys2Proof.Machine.execArrayRegWrite t req v s
  | .arrayRegRead t req v => Sys2Proof.Machine.execArrayRegRead t req v s
  | .lalertReceived t b blk => Sys2Proof.Machine.execLalertReceived t b blk s
  | .outputDriverFault t l => Sys2Proof.Machine.execOutputDriverFault t l s
  | .trainingBurstEnd t l => Sys2Proof.Machine.execTrainingBurstEnd t l s
  | .retrainWaitExpiry t l => Sys2Proof.Machine.execRetrainWaitExpiry t l s
  | .holdConfirmTimeout t l => Sys2Proof.Machine.execHoldConfirmTimeout t l s
  | .holdIdleTimeout t l => Sys2Proof.Machine.execHoldIdleTimeout t l s
  | .serviceStableTimer t l => Sys2Proof.Machine.execServiceStableTimer t l s
  | .synthesiserLockLoss t syn => Sys2Proof.Machine.execSynthesiserLockLoss t syn s
  | .synthesiserRelock t syn => Sys2Proof.Machine.execSynthesiserRelock t syn s
  | .markerSlot t k => Sys2Proof.Machine.execMarkerSlot t k s
  | .retry t req l v => Sys2Proof.Machine.execRetry t req l v s
  | .skLoopWrite t req l v => Sys2Proof.Machine.execSkLoopWrite t req l v s
  | .returnLaneLockLoss t b hdrs dark => Sys2Proof.Machine.execReturnLaneLockLoss t b hdrs dark s
  | .intakeLaneLockLoss t l w => Sys2Proof.Machine.execIntakeLaneLockLoss t l w s
  | .frameStart t st blk => Sys2Proof.Machine.execFrameStart t st blk s
  | .linePacket t st blocks => Sys2Proof.Machine.execLinePacket t st blocks s
  | .frameEnd t st blk => Sys2Proof.Machine.execFrameEnd t st blk s
  | .sidePacket t st blocks => Sys2Proof.Machine.execSidePacket t st blocks s
  | .plyBlockError t st e => Sys2Proof.Machine.execPlyBlockError t st e s
  | .sidePacketApertureRead t ch q => Sys2Proof.Machine.execSidePacketApertureRead t ch q s
  | .composeOutputLine t u upsets bundles => Sys2Proof.Machine.execComposeOutputLine t u upsets bundles s
  | .lineFetchIssue t slot => Sys2Proof.Machine.execLineFetchIssue t slot s
  | .lineFetchComplete t slot => Sys2Proof.Machine.execLineFetchComplete t slot s
  | .frameComplete t u => Sys2Proof.Machine.execFrameComplete t u s
  | .segmentWatchdog t seg wait ack => Sys2Proof.Machine.execSegmentWatchdog t seg wait ack s
  | .fbInj t req u v => Sys2Proof.Machine.execFbInj t req u v s
  | .fbMreq t req u v => Sys2Proof.Machine.execFbMreq t req u v s
  | .fbClr t req u v => Sys2Proof.Machine.execFbClr t req u v s
  | .droopTrip t => Sys2Proof.Machine.execDroopTrip t s
  | .droopRelease t => Sys2Proof.Machine.execDroopRelease t s
  | .droopLong t => Sys2Proof.Machine.execDroopLong t s
  | .railSample t r => Sys2Proof.Machine.execRailSample t r s
  | .monitorSelfCheck t m pass => Sys2Proof.Machine.execMonitorSelfCheck t m pass s
  | .dieModelStep t => Sys2Proof.Machine.execDieModelStep t s
  | .throttleStep t => Sys2Proof.Machine.execThrottleStep t s
  | .orderlyWindowEnd t => Sys2Proof.Machine.execOrderlyWindowEnd t s
  | .trefStale t => Sys2Proof.Machine.execTrefStale t s
  | .arrayTempStale t a => Sys2Proof.Machine.execArrayTempStale t a s
  | .thmTref t req v => Sys2Proof.Machine.execThmTref t req v s
  | .thmTjadd t req v => Sys2Proof.Machine.execThmTjadd t req v s
  | .thmLim t req v => Sys2Proof.Machine.execThmLim t req v s
  | .clockMonitorWindow t w => Sys2Proof.Machine.execClockMonitorWindow t w s
  | .crossingStall t live far kind lost ack => Sys2Proof.Machine.execCrossingStall t live far kind lost ack s
  | .hostPortReset t kind => Sys2Proof.Machine.execHostPortReset t kind s
  | .upstreamCompletion t tag a => Sys2Proof.Machine.execUpstreamCompletion t tag a s
  | .completionTimeout t tag => Sys2Proof.Machine.execCompletionTimeout t tag s
  | .registerWrite t req addr v be => Sys2Proof.Machine.execRegisterWrite t req addr v be s
  | .qspiRead t addr dwords => Sys2Proof.Machine.execQspiRead t addr dwords s
  | .qspiReadTimeout t addr => Sys2Proof.Machine.execQspiReadTimeout t addr s
  | .qspiWrite t addr bytes => Sys2Proof.Machine.execQspiWrite t addr bytes s
  | .qspiStatus t => Sys2Proof.Machine.execQspiStatus t s
  | .qspiIdent t => Sys2Proof.Machine.execQspiIdent t s
  | .pgOwnerWrite t req page v => Sys2Proof.Machine.execPgOwnerWrite t req page v s
  | .ownLock t req page v => Sys2Proof.Machine.execOwnLock t req page v s
  | .pgIrqPendClear t req page v => Sys2Proof.Machine.execPgIrqPendClear t req page v s
  | .pgIrqForce t req page v => Sys2Proof.Machine.execPgIrqForce t req page v s
  | .pgFltForce t req page v => Sys2Proof.Machine.execPgFltForce t req page v s
  | .hostVecArm t req v => Sys2Proof.Machine.execHostVecArm t req v s
  | .msixMessage t vec => Sys2Proof.Machine.execMsixMessage t vec s
  | .mbDoor t req v => Sys2Proof.Machine.execMbDoor t req v s
  | .mailboxTimeout t => Sys2Proof.Machine.execMailboxTimeout t s
  | .fpMbDone t v => Sys2Proof.Machine.execFpMbDone t v s
  | .fpMbEvt t v => Sys2Proof.Machine.execFpMbEvt t v s
  | .topCommit t req v => Sys2Proof.Machine.execTopCommit t req v s
  | .topPhaseWrite t req v => Sys2Proof.Machine.execTopPhaseWrite t req v s
  | .shutdownStart t req v => Sys2Proof.Machine.execShutdownStart t req v s
  | .shutdownEnd t req v => Sys2Proof.Machine.execShutdownEnd t req v s
  | .dmaStart t req n => Sys2Proof.Machine.execDmaStart t req n s
  | .dmaStop t req n => Sys2Proof.Machine.execDmaStop t req n s
  | .dmaAbort t req n => Sys2Proof.Machine.execDmaAbort t req n s
  | .dmaDoor t req n => Sys2Proof.Machine.execDmaDoor t req n s
  | .dmaSwreq t req n => Sys2Proof.Machine.execDmaSwreq t req n s
  | .descriptorFetched t n => Sys2Proof.Machine.execDescriptorFetched t n s
  | .dmaRequestTaken t n => Sys2Proof.Machine.execDmaRequestTaken t n s
  | .dmaBurstGrant t n => Sys2Proof.Machine.execDmaBurstGrant t n s
  | .dmaBurstEnd t n => Sys2Proof.Machine.execDmaBurstEnd t n s
  | .dmaBusError t n => Sys2Proof.Machine.execDmaBusError t n s
  | .dmaWriteBackDone t n ok => Sys2Proof.Machine.execDmaWriteBackDone t n ok s
  | .shMbpubGo t req v => Sys2Proof.Machine.execShMbpubGo t req v s
  | .mailboxCopyDone t => Sys2Proof.Machine.execMailboxCopyDone t s
  | .listTakeUp t u => Sys2Proof.Machine.execListTakeUp t u s
  | .listLifeExpiry t u => Sys2Proof.Machine.execListLifeExpiry t u s
  | .crTdataWrite t req v => Sys2Proof.Machine.execCrTdataWrite t req v s
  | .crMlim t req u v => Sys2Proof.Machine.execCrMlim t req u v s
  | .faultArrival t srcs => Sys2Proof.Machine.execFaultArrival t srcs s
  | .episodeClose t => Sys2Proof.Machine.execEpisodeClose t s
  | .fcSrccls t req v => Sys2Proof.Machine.execFcSrccls t req v s
  | .injectionKey t req v => Sys2Proof.Machine.execInjectionKey t req v s
  | .injectionLock t req v => Sys2Proof.Machine.execInjectionLock t req v s
  | .injectionTimeout t glade => Sys2Proof.Machine.execInjectionTimeout t glade s
  | .fcChkinv t req v => Sys2Proof.Machine.execFcChkinv t req v s
  | .heartbeatToggle t => Sys2Proof.Machine.execHeartbeatToggle t s
  | .classLineChange t lines => Sys2Proof.Machine.execClassLineChange t lines s
  | .heartbeatTimeout t => Sys2Proof.Machine.execHeartbeatTimeout t s
  | .classLineFault t l => Sys2Proof.Machine.execClassLineFault t l s
  | .gladeCycle t pins => Sys2Proof.Machine.execGladeCycle t pins s
  | .lineMaskExpiry t => Sys2Proof.Machine.execLineMaskExpiry t s
  | .rcClockWindow t count => Sys2Proof.Machine.execRcClockWindow t count s
  | .sysclkCheckWindow t count => Sys2Proof.Machine.execSysclkCheckWindow t count s
  | .gladeSupplyFault t bad => Sys2Proof.Machine.execGladeSupplyFault t bad s
  | .readbackMismatch t aen err => Sys2Proof.Machine.execReadbackMismatch t aen err s
  | .fallbackCrcCheck t => Sys2Proof.Machine.execFallbackCrcCheck t s
  | .errHoldExpiry t => Sys2Proof.Machine.execErrHoldExpiry t s
  | .returnDwellExpiry t => Sys2Proof.Machine.execReturnDwellExpiry t s
  | .sspiFrame t began bits bytes => Sys2Proof.Machine.execSspiFrame t began bits bytes s
  | .sspiStatus t => Sys2Proof.Machine.execSspiStatus t s
  | .sspiRead t => Sys2Proof.Machine.execSspiRead t s
  | .sspiWrite t => Sys2Proof.Machine.execSspiWrite t s
  | .resume t => Sys2Proof.Machine.execResume t s
  | .clear t => Sys2Proof.Machine.execClear t s
  | .injkey t => Sys2Proof.Machine.execInjkey t s
  | .sspiWatchdog t => Sys2Proof.Machine.execSspiWatchdog t s
  | .fpWdog t v => Sys2Proof.Machine.execFpWdog t v s
  | .firmwareWatchdogExpiry t => Sys2Proof.Machine.execFirmwareWatchdogExpiry t s
  | .foresterReset t cause => Sys2Proof.Machine.execForesterReset t cause s
  | .swrst t v => Sys2Proof.Machine.execSwrst t v s
  | .bootSelect t journalA journalB slotA slotB dir => Sys2Proof.Machine.execBootSelect t journalA journalB slotA slotB dir s
  | .tcmError t e => Sys2Proof.Machine.execTcmError t e s
  | .foresterException t e => Sys2Proof.Machine.execForesterException t e s
  | .spiNorCommand t v => Sys2Proof.Machine.execSpiNorCommand t v s
  | .spiNorCommandDone t data => Sys2Proof.Machine.execSpiNorCommandDone t data s
  | .spiNorWipTimeout t => Sys2Proof.Machine.execSpiNorWipTimeout t s
  | .sensorSlotDue t n => Sys2Proof.Machine.execSensorSlotDue t n s
  | .sensorTransferDone t bus ack data => Sys2Proof.Machine.execSensorTransferDone t bus ack data s
  | .sensorSclTimeout t bus => Sys2Proof.Machine.execSensorSclTimeout t bus s
  | .logAppendFirmware t v => Sys2Proof.Machine.execLogAppendFirmware t v s
  | .fpLogRd t v => Sys2Proof.Machine.execFpLogRd t v s
  | .logExportRead t ch => Sys2Proof.Machine.execLogExportRead t ch s
  | .verify t v => Sys2Proof.Machine.execVerify t v s
  | .load t v => Sys2Proof.Machine.execLoad t v s
  | .arbRaise t v => Sys2Proof.Machine.execArbRaise t v s
  | .otpProg t v => Sys2Proof.Machine.execOtpProg t v s
  | .cfgSet t v => Sys2Proof.Machine.execCfgSet t v s
  | .secCommandEnd t slot dir => Sys2Proof.Machine.execSecCommandEnd t slot dir s
  | .secChal t => Sys2Proof.Machine.execSecChal t s
  | .secResp t level k sig dirKey => Sys2Proof.Machine.execSecResp t level k sig dirKey s
  | .challengeExpiry t => Sys2Proof.Machine.execChallengeExpiry t s
  | .intakeLaneLockGain t l w => Sys2Proof.Machine.execIntakeLaneLockGain t l w s
  | .intakeIdleTimeExpiry t l => Sys2Proof.Machine.execIntakeIdleTimeExpiry t l s
  | .returnLaneLockGain t b hdrs => Sys2Proof.Machine.execReturnLaneLockGain t b hdrs s
  | .prbsLock t l rx => Sys2Proof.Machine.execPrbsLock t l rx s
  | .linkUp t speed width => Sys2Proof.Machine.execLinkUp t speed width s
  | .configurationWrite t w => Sys2Proof.Machine.execConfigurationWrite t w s
  | .counterLowWordRead t req addr => Sys2Proof.Machine.execCounterLowWordRead t req addr s
  | .uartByteReceived t byte => Sys2Proof.Machine.execUartByteReceived t byte s
  | .debugAccess t op => Sys2Proof.Machine.execDebugAccess t op s

end Sys2Proof.Machine
end

