-- ==== Sys2Proof/Machine/Idle.lean ====
section
/-! DEFINITION. What a step does on an empty command queue (DESIGN CHOICE, log entry 3). -/

namespace Sys2Proof.Machine

open Sys2Proof

/-- The oldest byte of the UART's transmit FIFO leaves (18 R645). -/
def State.uartStep (s : State) : State :=
  match s.fst.uartTx with
  | [] => s
  | b :: r => { s with fst := { s.fst with uartTx := r } }.report [.send (.uart b)]

/-- The block with nothing commanded: the oldest write of the quad-SPI queue is performed (13 R471), or a byte leaves the
UART, or nothing happens. -/
def idle (s : State) : State :=
  if !s.coreOn then s else if !s.host.qspiQ.isEmpty then s.qspiStep else s.uartStep

end Sys2Proof.Machine
end

