-- ==== Sys2Proof/Machine/Step.lean ====
section
/-! DEFINITION. One step: the command at the front of the queue, or what the block does on an empty queue. -/

namespace Sys2Proof.Machine

open Sys2Proof

/-- Take the oldest command and perform it with the queue's rest. On an empty queue the quad-SPI write queue drains by
one dword, or nothing happens (DESIGN CHOICE, log entry 3). -/
def step (s : State) : Host.Outcome State Fault Refusal :=
  match s.pending with
  | [] => .next (Sys2Proof.Machine.idle s)
  | c :: cs => exec c { s with pending := cs }

/-- `s` with the command that a table word spells in front of its queue. -/
def State.withFetchWord (s : State) (nbits w : Nat) : State :=
  match decodeTableWord nbits w with
  | some c => { s with pending := c :: s.pending }
  | none => s

end Sys2Proof.Machine
end

