-- ==== Sys2Proof/Machine/Pins.lean ====
section
/-! DEFINITION. The package's balls and signals, the supplies' ranges, and what each output pin does in and out of reset (chapter 22,
16 R574, R575). -/

namespace Sys2Proof.Machine

open Sys2Proof

/-! ### Balls and signals (22 R722, R724, R725) -/

/-- What a ball carries (22 R722). -/
inductive Ball where
  | signal | vss | core | sram | vdda | vddh | io18 | io33 | gld | otp
  deriving DecidableEq, Repr

/-- The ball of a code; none for a character that is no code. -/
def ballOf (c : Char) : Option Ball :=
  if c = 's' then some .signal else if c = 'G' then some .vss else if c = 'C' then some .core else if c = 'M' then some .sram
  else if c = 'A' then some .vdda else if c = 'H' then some .vddh else if c = '8' then some .io18 else if c = '3' then some .io33
  else if c = 'L' then some .gld else if c = 'T' then some .otp else none

/-- The ball map: each row's letter and its balls for columns 1 to 19. -/
def ballRows : List (Char × List Char) := [
  ('A', "8ssssss8ssGssGssGss".toList), ('B', "ssAGGssss8ssssGGAss".toList), ('C', "GGHG8ssssGssss8GHGG".toList),
  ('D', "ssAGGssss8ssssGGAss".toList), ('E', "GGHGGMGCGCGCGMGGHGG".toList), ('F', "ssAGMGCGCGCGCGMGAss".toList),
  ('G', "GGHGGMGCGCGCGMGGHGG".toList), ('H', "ssAGMGCGCGCGCGMGAss".toList), ('J', "GGHGGMGCGCGCGMGGHGG".toList),
  ('K', "ssAGMGCGCGCGCGMGAss".toList), ('L', "GGHGGMGCGCGCGMGGHGG".toList), ('M', "ssAGMGCGCGCGCGMGAss".toList)] ++ [
  ('N', "GGHGGMGCGCGCGMGGHGG".toList), ('P', "ssAGMGCGCGCGCGMGAss".toList), ('T', "GGHGGMGCGCGCGMGGHGG".toList),
  ('U', "ssAGMGCGCGCGCGMGAss".toList), ('V', "GssGssGT3GLLG3GsGss".toList), ('W', "ssssss3TGssGLssss3G".toList),
  ('Y', "Gsssss3ssssLss3GGGG".toList)]

/-- The ball in a row and a column, from 1. -/
def ballAt (row : Char) (col : Nat) : Option Ball :=
  (ballRows.find? (fun r => r.1 == row)).bind (fun r => (r.2[col - 1]?).bind ballOf)

/-- Balls of a kind (22 R722). -/
def ballCount (b : Ball) : Nat := (ballRows.flatMap (fun r => r.2.filter (fun c => ballOf c == some b))).length

/-- Supply of a signal's pad (22 R724). -/
inductive PadSupply where
  | serdes | io18 | io33 | gld | core
  deriving DecidableEq, Repr

/-- Internal pull of a pad (22 R724). -/
inductive Pull where
  | none | up | down
  deriving DecidableEq, Repr

/-- Balls of one row, by column. -/
def ballsOf (row : Char) (cols : List Nat) : List (Char × Nat) := cols.map (fun c => (row, c))

/-- The signal balls in the order of the pin table: the signals, their balls, their supply and their pull (22 R724). -/
def signalTable : List (String × List (Char × Nat) × PadSupply × Pull) := [
  ("OLn_P, OLn_N", "BDFHKMPU".toList.flatMap (fun r => ballsOf r [1, 2]), .serdes, .none),
  ("ILn_P, ILn_N", "BDFH".toList.flatMap (fun r => ballsOf r [19, 18]), .serdes, .none),
  ("BLn_P, BLn_N", "KM".toList.flatMap (fun r => ballsOf r [19, 18]), .serdes, .none),
  ("PE_RXn_P, PE_RXn_N", "PU".toList.flatMap (fun r => ballsOf r [19, 18]), .serdes, .none),
  ("PE_TXn_P, PE_TXn_N", ballsOf 'A' [15, 16, 18, 19], .serdes, .none),
  ("REFCLK_SD_P, REFCLK_SD_N", ballsOf 'A' [12, 13], .serdes, .none),
  ("REFCLK_PCIE_P, REFCLK_PCIE_N", ballsOf 'V' [18, 19], .serdes, .none), ("SD_RCAL", ballsOf 'V' [16], .serdes, .none),
  ("XSYS_IN, XSYS_OUT", ballsOf 'V' [2, 3], .io18, .none), ("XGLD_IN, XGLD_OUT", ballsOf 'W' [10, 11], .gld, .none),
  ("CORE_SENSE_P, CORE_SENSE_N", ballsOf 'V' [5, 6], .core, .none)] ++ [
  ("PORST_N", ballsOf 'W' [1], .io33, .none), ("PE_PERST_N", ballsOf 'W' [2], .io33, .none),
  ("HOSTSEL", ballsOf 'B' [12], .io18, .down), ("TEST_EN", ballsOf 'D' [12], .io18, .down),
  ("QSPI_CS_N", ballsOf 'A' [9], .io18, .up), ("QSPI_SCK", ballsOf 'A' [10], .io18, .down),
  ("QSPI_IO0–QSPI_IO3", ballsOf 'B' [6, 7, 8, 9], .io18, .down), ("HIRQ_N", ballsOf 'B' [11], .io18, .none),
  ("FL_CS_N", ballsOf 'A' [2], .io18, .up), ("FL_SCK", ballsOf 'A' [3], .io18, .none),
  ("FL_IO0–FL_IO3", ballsOf 'A' [4, 5, 6, 7], .io18, .up), ("GENLOCK_IN", ballsOf 'B' [13], .io18, .down)] ++ [
  ("GENLOCK_OUT", ballsOf 'B' [14], .io18, .none), ("GPIO0–GPIO7", ballsOf 'C' [6, 7, 8, 9, 11, 12, 13, 14], .io18, .none),
  ("UART_TX", ballsOf 'D' [13], .io18, .none), ("UART_RX", ballsOf 'D' [14], .io18, .up),
  ("TCK", ballsOf 'D' [6], .io18, .down), ("TMS, TDI", ballsOf 'D' [7, 8], .io18, .up), ("TDO", ballsOf 'D' [9], .io18, .none),
  ("TRST_N", ballsOf 'D' [11], .io18, .down),
  ("I2C0_SCL, I2C0_SDA, I2C1_SCL, I2C1_SDA", ballsOf 'W' [3, 4, 5, 6], .io33, .none)] ++ [
  ("SIN_A1, SIN_A2, SIN_B1, SIN_B2", ballsOf 'Y' [2, 3, 4, 5], .io33, .down), ("SRST_N", ballsOf 'Y' [6], .io33, .up),
  ("SSPI_CS_N", ballsOf 'W' [14], .io33, .up), ("SSPI_SCK, SSPI_SDI", ballsOf 'W' [15, 16], .io33, .down),
  ("SSPI_SDO", ballsOf 'W' [17], .io33, .none), ("AEN0–AEN3", ballsOf 'Y' [8, 9, 10, 11], .io33, .none),
  ("ERR_P, ERR_N", ballsOf 'Y' [13, 14], .io33, .none)]

/-- The signal balls of the pin table. -/
def signalBalls : List (Char × Nat) := signalTable.flatMap (fun x => x.2.1)

/-! ### Supplies (22 R728, R729) -/

/-- Recommended range of a monitored rail in mV: VDD_CORE, VDD_SRAM, VDDA_SD, VDDH_SD, VDD_IO18, VDD_IO33, VDD_OTP (22 R729). -/
def railRange (r : Nat) : Nat × Nat :=
  ([(720, 780), (770, 830), (870, 930), (1160, 1240), (1710, 1890), (3135, 3465), (1710, 1890)] : List (Nat × Nat)).getD r (0, 0)

/-- Highest rated voltage of a monitored rail in mV (22 R728). -/
def railRating (r : Nat) : Nat := ([950, 950, 1050, 1400, 2100, 3900, 2100] : List Nat).getD r 0

/-- Differential swing of an output lane in mV for its SWING (22 R736). -/
def swingMv (n : BitVec 4) : Nat := 400 + 50 * n.toNat

/-! ### Levels of the output pins (22 R731) -/

/-- An output pin, or a pin that can drive. -/
inductive Pin where
  | aen (i : Fin 4) | errP | errN | flCs | flSck | flIo | genlockOut | uartTx | gpio (i : Fin 8) | hirq | qspiIo | sspiSdo | tdo
  | ol (l : Fin 8)
  deriving DecidableEq, Repr

/-- What a pin does. -/
inductive PinLevel where
  /-- Driven low. -/
  | low
  /-- Driven high. -/
  | high
  /-- High impedance: its pull, if any, sets the level. -/
  | z
  /-- Electrical idle of a lane. -/
  | idle
  /-- Driven with what is sent. -/
  | driven
  deriving DecidableEq, Repr

/-- A driven level. -/
def PinLevel.of (b : Bool) : PinLevel := if b then .high else .low

/-- ERR_P and ERR_N: both low in the Reset state, 1 and 0 in the Healthy state, 0 and 1 in the Fault state (16 R574, R575). -/
def State.errPair (s : State) : Bool × Bool := if s.gladeOn then (!s.glade.errFault, s.glade.errFault) else (false, false)

/-- A command is on the flash's bus: Glade's reader during LOAD, then Forester's master (17 R616, 18 R646). -/
def State.flashBusy (s : State) : Bool := s.loading || (s.fst.spi.cmd.isSome && !s.fst.spi.loadWait) || s.fst.spi.polling

/-- An output lane's pins: in LOOP what R219 gives, otherwise sent while the lane transmits (05 R211, R219). -/
def State.lanePins (s : State) (l : Fin 8) : PinLevel :=
  let c := rget s.regs (Reg.SK_LOOP l.val)
  if (s.lane[l]).transmits then .driven
  else if ((s.lane[l]).st == .off || (s.lane[l]).st == .loop) && s.loopDrive l (fld c 0 2) (fld c 4 2) != .idle then .driven
  else .idle

/-- The level of a pin in the state (22 R731). Lines driven only while something is shifted out are at high impedance between
commands. -/
def State.pin (s : State) : Pin → PinLevel
  | .aen i => if s.gladeOn then .of (s.glade.aenDrv.getLsbD i.val) else .low
  | .errP => .of s.errPair.1
  | .errN => .of s.errPair.2
  | .flCs => if s.top.porst then .z else .of (!s.flashBusy)
  | .flSck => if !s.top.porst && s.flashBusy then .driven else .z
  | .flIo => if !s.top.porst && s.flashBusy then .driven else .z
  | .genlockOut => if s.top.porst then .low else .of s.genlockOut
  | .uartTx => if s.top.porst then .z else .high
  | .gpio i =>
    if !s.top.porst && bit (rget s.regs Reg.FP_GPIO_OE) i.val then .of (bit (rget s.regs Reg.FP_GPIO_OUT) i.val) else .z
  | .hirq => if !s.top.porst && s.hirq then .low else .z
  | .qspiIo => .z
  | .sspiSdo => .z
  | .tdo => .z
  | .ol l => if s.top.porst then .idle else s.lanePins l

end Sys2Proof.Machine
end

