-- ==== Sys2Proof/Safety.lean ====
section
/-! DEFINITION. What a command leaves alone, in the terms the statements use. -/

namespace Sys2Proof.Machine

open Sys2Proof

/-- The parts of the block's state, one for each field of State; `now` is the instant and what the commands of its sample have
done. -/
inductive Part where
  | now | free | regs | live | hi | top | clk | host | bank0 | bank1 | health | healthSetAt | healthSet | healthSeen
  | clearQ | layers | calib | surf | skein | arr | ret | areq | lane | stream | intake | layer | comp | fab | corr
  | shade
  | tb | cmt | dma | pwr | thm | tile | flt | glade | fst | log | sec | out | pending
  deriving DecidableEq, Repr

/-- A part is the same in two states. -/
def Part.same : Part → State → State → Prop
  | .now, s, t => t.now = s.now ∧ t.sample = s.sample
  | .free, s, t => t.free = s.free
  | .regs, s, t => t.regs = s.regs
  | .live, s, t => t.live = s.live
  | .hi, s, t => t.hi = s.hi
  | .top, s, t => t.top = s.top
  | .clk, s, t => t.clk = s.clk
  | .host, s, t => t.host = s.host
  | .bank0, s, t => t.bank0 = s.bank0
  | .bank1, s, t => t.bank1 = s.bank1
  | .health, s, t => t.health = s.health
  | .healthSetAt, s, t => t.healthSetAt = s.healthSetAt
  | .healthSet, s, t => t.healthSet = s.healthSet
  | .healthSeen, s, t => t.healthSeen = s.healthSeen
  | .clearQ, s, t => t.clearQ = s.clearQ
  | .layers, s, t => t.layers = s.layers
  | .calib, s, t => t.calib = s.calib
  | .surf, s, t => t.surf = s.surf
  | .skein, s, t => t.skein = s.skein
  | .arr, s, t => t.arr = s.arr
  | .ret, s, t => t.ret = s.ret
  | .areq, s, t => t.areq = s.areq
  | .lane, s, t => t.lane = s.lane
  | .stream, s, t => t.stream = s.stream
  | .intake, s, t => t.intake = s.intake
  | .layer, s, t => t.layer = s.layer
  | .comp, s, t => t.comp = s.comp
  | .fab, s, t => t.fab = s.fab
  | .corr, s, t => t.corr = s.corr
  | .shade, s, t => t.shade = s.shade
  | .tb, s, t => t.tb = s.tb
  | .cmt, s, t => t.cmt = s.cmt
  | .dma, s, t => t.dma = s.dma
  | .pwr, s, t => t.pwr = s.pwr
  | .thm, s, t => t.thm = s.thm
  | .tile, s, t => t.tile = s.tile
  | .flt, s, t => t.flt = s.flt
  | .glade, s, t => t.glade = s.glade
  | .fst, s, t => t.fst = s.fst
  | .log, s, t => t.log = s.log
  | .sec, s, t => t.sec = s.sec
  | .out, s, t => t.out = s.out
  | .pending, s, t => t.pending = s.pending

/-- Every part that is not listed is the same in two states. -/
def Only (l : List Part) (s t : State) : Prop := ∀ p, l.contains p = false → p.same s t

/-- Every register word outside a list reads the same. -/
def RegsOnly (l : List Nat) (s t : State) : Prop := ∀ a, a ∉ l → rget t.regs a = rget s.regs a

/-- Every live count outside a list is the same. -/
def LiveOnly (l : List Nat) (s t : State) : Prop := ∀ a, a ∉ l → lget t.live a = lget s.live a

/-- The fault collector has the listed sources waiting behind those it had, and nothing else of it differs. -/
def Raised (l : List (Fin 171)) (s t : State) : Prop := t.flt = { s.flt with raised := s.flt.raised ++ l }

/-- PG_IRQ_RAW of a page. -/
def rawOf (page : Nat) : Nat := page * 0x1000 + 0x010

/-- A write by a requester to a page at an instant reaches its register: the core is out of reset, the page's domain is not behind
a STALLED crossing, and the requester's bit of PG_OWNER was 1 before the sample of the instant. -/
abbrev State.Writable (s : State) (t : Nat) (req : Req) (page : Nat) : Prop :=
  s.coreOn = true ∧ s.stalledTo (pageDomain page) = false ∧ (s.stamp t).mayWrite req page = true

/-- The event of a command has not been taken ahead of its turn in the command's sample (12 R438). -/
abbrev State.Fresh (s : State) (c : Instr) : Prop :=
  ((s.sample.on ((s.stamp c.time).now / tick)).ahead.contains c) = false

/-- No decision has been taken in the sample of an instant, so that none is taken again there (04 R177, 05 R218). -/
abbrev State.NoDecisionAt (s : State) (t : Nat) : Prop :=
  ∀ u : Fin 2, (s.surf[u]).decided = none ∨ (s.surf[u]).decTick ≠ max s.now t / tick

/-- The canonical form of a store's bytes. -/
def Store.wf (d : Nat → Byte) (x : Store) : Bool := Memory.wf d x.cells

/-- The register words, the live counts, the addressed stores, the fault counters and classes, the log ring, the curves
and the derating map are in the one canonical form of a sparse map: keys rising, no entry at its key's default. -/
structure State.Canonical (s : State) : Prop where
  regs : smWf regReset s.regs = true
  live : smWf (fun _ => (0 : Word)) s.live = true
  bank0 : s.bank0.wf zeroByte = true
  bank1 : s.bank1.wf zeroByte = true
  health : s.health.wf zeroByte = true
  layers : s.layers.wf zeroByte = true
  calib : s.calib.wf calibByte = true
  fb : s.glade.fb.wf zeroByte = true
  tcm : s.fst.tcm.wf zeroByte = true
  otp : Memory.wf otpByte0 s.sec.otp = true
  count : smWf (fun _ => (0 : Word)) s.flt.count = true
  cls : smWf baseClass s.flt.clsUp = true
  ring : smWf (fun _ => (List.replicate 8 0 : List Word)) s.log.ring = true
  curve : smWf (fun _ => (0 : BitVec 20)) s.corr.curve = true
  map : smWf (fun _ => (0xFFF : BitVec 12)) s.corr.map = true

/-- Every part. -/
def everyPart : List Part :=
  [.now, .free, .regs, .live, .hi, .top, .clk, .host, .bank0, .bank1, .health, .healthSetAt, .healthSet,
    .healthSeen, .clearQ, .layers, .calib, .surf, .skein, .arr, .ret, .areq, .lane, .stream, .intake, .layer,
    .comp, .fab, .corr, .shade, .tb, .cmt, .dma, .pwr, .thm, .tile, .flt, .glade, .fst, .log, .sec, .out,
    .pending]

/-- The parts a command reports through: its instant, register words, counts, sources raised, and what it sends. -/
def reports : List Part := [.now, .regs, .live, .flt, .out]

/-- The parts that a command may change. -/
def touches : Instr → List Part
  | .porstNRelease .. => everyPart.filter (fun p => !(([.pending] : List Part).contains p))
  | .porstNAssert .. => everyPart.filter (fun p => !(([.out, .pending] : List Part).contains p))
  | .storeInitDone .. => [.now, .top]
  | .cryptoSelfTestDone .. | .verify .. | .load .. | .arbRaise .. | .otpProg .. | .cfgSet .. =>
    reports ++ [.sec]
  | .coreUnderVoltage .. | .droopLong .. | .railSample .. | .monitorSelfCheck .. => reports ++ [.pwr]
  | .coreReset .. => everyPart.filter (fun p => !(([.glade, .out, .pending] : List Part).contains p))
  | .coreRelease .. =>
    reports ++ [.free, .top, .clk, .skein, .arr, .ret, .lane, .stream, .tb, .cmt, .pwr, .glade, .fst, .log, .sec]
  | .gladePowerLoss .. => [.now, .glade]
  | .gladeLoadEnd .. => reports ++ [.top, .skein, .arr, .ret, .lane, .stream, .tb, .cmt, .glade, .fst, .log]
  | .timeBaseBoundary .. => reports ++ [.skein, .arr, .ret, .lane, .stream, .fab, .tb, .cmt, .tile, .log]
  | .genlockEdge .. | .genlockMissing .. | .holdoverExpiry .. => reports ++ [.tb]
  | .genlockOutPulseEnd .. => [.now, .tb]
  | .surfaceFrameBoundary .. =>
    reports ++ [.free, .top, .clk, .health, .healthSeen, .clearQ, .surf, .skein, .arr, .ret, .lane, .stream,
      .intake, .layer, .comp, .fab, .corr, .shade, .cmt, .dma, .tile, .glade, .fst, .log]
  | .deratingMapWritten .. => [.now, .corr, .flt]
  | .decisionInstant .. | .lalertReceived .. | .outputDriverFault .. =>
    reports ++ [.bank0, .bank1, .health, .healthSeen, .clearQ, .calib, .surf, .skein, .arr, .areq, .lane,
      .stream, .corr, .shade, .pwr, .glade, .log]
  | .planeCutoff .. =>
    reports ++ [.bank0, .bank1, .health, .healthSeen, .clearQ, .calib, .surf, .skein, .fab, .corr, .shade, .pwr,
      .glade, .log]
  | .planeLoadStart .. => reports ++ [.health, .healthSeen, .clearQ, .skein, .stream]
  | .planeShowInstant .. => reports ++ [.free, .surf, .skein, .stream, .comp, .shade, .tile]
  | .tickRow .. => reports ++ [.stream]
  | .fallbackSelectRise .. => reports ++ [.free, .surf, .skein, .arr, .lane, .stream]
  | .fallbackSelectFall .. => reports ++ [.surf, .skein, .arr, .lane, .stream]
  | .splice .. =>
    reports ++ [.bank0, .bank1, .health, .healthSeen, .clearQ, .calib, .skein, .stream, .fab, .corr, .shade,
      .pwr, .glade, .log]
  | .bar2FrameStoreRead .. | .bar2CalibrationRead .. | .fbClr .. | .thmTjadd .. | .thmLim .. | .qspiIdent .. |
    .pgOwnerWrite .. | .ownLock .. | .pgIrqPendClear .. | .pgIrqForce .. | .pgFltForce .. | .fpMbEvt .. |
    .crMlim .. | .fcSrccls .. | .injectionKey .. | .injectionLock .. | .fcChkinv .. => reports
  | .bar2FrameStoreWrite .. => reports ++ [.bank0, .bank1]
  | .bar2HealthMapWrite .. | .stHmSet .. => reports ++ [.health, .healthSetAt, .healthSet, .healthSeen]
  | .bar2LayerStoreWrite .. => [.now, .layers]
  | .bar2CalibrationWrite .. => [.now, .calib, .flt]
  | .stHmClr .. => reports ++ [.clearQ]
  | .pollInterval .. => reports ++ [.ret, .areq, .stream]
  | .missingPoll .. | .returnBlockDiscard .. => reports ++ [.arr, .ret, .areq, .tile]
  | .statusResponse .. | .holdConfirmTimeout .. =>
    reports ++ [.bank0, .bank1, .health, .healthSetAt, .healthSet, .healthSeen, .clearQ, .calib, .surf, .skein,
      .arr, .ret, .areq, .lane, .stream, .corr, .shade, .pwr, .tile, .glade, .log]
  | .identityResponse .. | .registerReadResponse .. =>
    reports ++ [.health, .healthSetAt, .healthSet, .healthSeen, .skein, .arr, .ret, .areq, .lane, .stream, .tile]
  | .arrayRegWrite .. | .arrayRegRead .. => reports ++ [.areq, .stream]
  | .trainingBurstEnd .. => reports ++ [.skein, .arr, .areq, .lane, .stream]
  | .retrainWaitExpiry .. | .holdIdleTimeout .. | .retry .. | .skLoopWrite .. => reports ++ [.lane, .stream]
  | .serviceStableTimer .. => [.now, .lane]
  | .synthesiserLockLoss .. =>
    reports ++ [.clk, .bank0, .bank1, .health, .healthSeen, .clearQ, .calib, .surf, .skein, .arr, .areq, .lane,
      .stream, .corr, .shade, .pwr, .glade, .log]
  | .synthesiserRelock .. => reports ++ [.clk, .lane, .stream]
  | .markerSlot .. => reports ++ [.skein, .lane, .stream]
  | .returnLaneLockLoss .. => reports ++ [.ret]
  | .intakeLaneLockLoss .. | .frameStart .. | .linePacket .. | .frameEnd .. | .plyBlockError .. =>
    reports ++ [.surf, .intake, .comp]
  | .intakeLaneLockGain .. => reports ++ [.intake]
  | .sidePacket .. | .sidePacketApertureRead .. => reports ++ [.intake, .dma]
  | .composeOutputLine .. =>
    reports ++ [.host, .bank0, .bank1, .health, .calib, .surf, .intake, .layer, .comp, .fab, .corr, .shade,
      .pwr, .glade]
  | .lineFetchIssue .. | .lineFetchComplete .. => reports ++ [.host, .surf, .layer, .comp]
  | .frameComplete .. => [.now, .surf, .comp]
  | .segmentWatchdog .. => reports ++ [.clk, .host, .surf, .skein, .stream, .comp, .fab]
  | .fbInj .. | .fbMreq .. => reports ++ [.fab]
  | .droopTrip .. | .droopRelease .. => reports ++ [.fab, .pwr]
  | .dieModelStep .. => reports ++ [.fab, .pwr, .thm, .glade, .fst, .log]
  | .throttleStep .. => [.now, .fab]
  | .orderlyWindowEnd .. => reports ++ [.surf, .intake, .comp, .thm, .glade, .fst, .log, .sec]
  | .trefStale .. | .thmTref .. => reports ++ [.thm]
  | .arrayTempStale .. => reports ++ [.tile]
  | .clockMonitorWindow .. => reports ++ [.clk]
  | .crossingStall .. => reports ++ [.clk, .host]
  | .hostPortReset .. | .registerWrite .. =>
    reports ++ [.free, .top, .host, .health, .healthSetAt, .healthSet, .healthSeen, .clearQ, .areq, .lane,
      .stream, .intake, .fab, .corr, .shade, .cmt, .dma, .thm, .glade, .fst, .log, .sec]
  | .upstreamCompletion .. | .completionTimeout .. | .qspiReadTimeout .. | .qspiWrite .. | .qspiStatus .. |
    .hostVecArm .. | .msixMessage .. | .linkUp .. => reports ++ [.host]
  | .qspiRead .. | .dmaBurstEnd .. =>
    everyPart.filter (fun p =>
      !(([.free, .clk, .surf, .skein, .arr, .ret, .layer, .comp, .tb, .pwr, .tile, .pending] : List Part).contains p))
  | .mbDoor .. => reports ++ [.host, .glade, .fst, .log, .sec]
  | .mailboxTimeout .. | .fpMbDone .. | .spiNorCommandDone .. | .spiNorWipTimeout .. => reports ++ [.host, .fst]
  | .topCommit .. => reports ++ [.cmt]
  | .topPhaseWrite .. => reports ++ [.top]
  | .shutdownStart .. | .shutdownEnd .. => reports ++ [.top, .thm, .glade, .fst]
  | .dmaStart .. | .dmaAbort .. | .dmaDoor .. | .dmaRequestTaken .. | .dmaBurstGrant .. =>
    reports ++ [.host, .dma]
  | .dmaStop .. | .dmaSwreq .. => reports ++ [.dma]
  | .descriptorFetched .. => reports ++ [.hi, .host, .dma]
  | .dmaBusError .. | .debugAccess .. =>
    everyPart.filter (fun p =>
      !(([.clk, .surf, .skein, .arr, .ret, .layer, .comp, .tb, .pwr, .tile, .pending] : List Part).contains p))
  | .dmaWriteBackDone .. =>
    everyPart.filter (fun p =>
      !(([.free, .hi, .clk, .surf, .skein, .arr, .ret, .layer, .comp, .tb, .pwr, .tile, .pending] : List Part).contains p))
  | .shMbpubGo .. | .listTakeUp .. | .listLifeExpiry .. => reports ++ [.shade]
  | .mailboxCopyDone .. => [.now, .shade, .flt]
  | .crTdataWrite .. => reports ++ [.corr]
  | .faultArrival .. | .episodeClose .. | .heartbeatToggle .. | .classLineChange .. | .heartbeatTimeout .. |
    .classLineFault .. | .gladeCycle .. | .lineMaskExpiry .. | .sysclkCheckWindow .. | .gladeSupplyFault .. |
    .readbackMismatch .. | .fallbackCrcCheck .. | .errHoldExpiry .. | .returnDwellExpiry .. | .sspiStatus .. |
    .injkey .. | .sspiWatchdog .. => reports ++ [.glade, .log]
  | .injectionTimeout .. => reports ++ [.glade]
  | .rcClockWindow .. => reports ++ [.clk, .glade, .log]
  | .sspiFrame .. | .sspiRead .. | .sspiWrite .. | .resume .. | .clear .. => reports ++ [.free, .glade, .log]
  | .fpWdog .. | .firmwareWatchdogExpiry .. | .foresterReset .. | .swrst .. | .bootSelect .. | .tcmError .. =>
    reports ++ [.glade, .fst, .log, .sec]
  | .foresterException .. | .spiNorCommand .. | .sensorSlotDue .. | .sensorTransferDone .. |
    .sensorSclTimeout .. | .uartByteReceived .. => reports ++ [.fst]
  | .logAppendFirmware .. => reports ++ [.log]
  | .fpLogRd .. => [.now, .log]
  | .logExportRead .. => reports ++ [.dma, .log]
  | .secCommandEnd .. => reports ++ [.host, .fst, .log, .sec]
  | .secChal .. => reports ++ [.free, .log, .sec]
  | .secResp .. => reports ++ [.log, .sec]
  | .challengeExpiry .. => [.now, .sec]
  | .intakeIdleTimeExpiry .. => [.now, .intake]
  | .returnLaneLockGain .. => [.now, .ret]
  | .prbsLock .. => reports ++ [.lane]
  | .configurationWrite .. => [.now, .host]
  | .counterLowWordRead .. => reports ++ [.free, .hi, .fst]

/-- The queues and records of bounded length are within their bounds: the queue of health clears (03 R94), the quad-SPI
write queue (13 R471), the UART's FIFOs (18 R645), genlock's records (11 R404, R405). -/
structure State.Bounded (s : State) : Prop where
  clearQ : s.clearQ.length ≤ 16
  qspiQ : s.host.qspiQ.length ≤ 16
  uartTx : s.fst.uartTx.length ≤ 16
  uartRx : s.fst.uartRx.length ≤ 16
  acqn : s.tb.acqn ≤ 4
  spacings : s.tb.spacings.length ≤ 4
  edges : s.tb.edges.length ≤ 4
  phaseRun : s.tb.phaseRun ≤ 4

/-- Requester and page of a command that writes a register which PG_OWNER guards (13 R481). -/
def target : Instr → Option (Req × Nat)
  | .topCommit _ q _ | .topPhaseWrite _ q _ | .shutdownStart _ q _ | .shutdownEnd _ q _ => some (q, 0x00)
  | .hostVecArm _ q _ => some (q, 0x08)
  | .dmaStart _ q _ | .dmaStop _ q _ | .dmaAbort _ q _ | .dmaDoor _ q _ | .dmaSwreq _ q _ => some (q, 0x0A)
  | .fbInj _ q u _ | .fbMreq _ q u _ | .fbClr _ q u _ => some (q, 0x20 + u.val)
  | .crTdataWrite _ q _ => some (q, 0x24)
  | .crMlim _ q u _ => some (q, 0x24 + u.val)
  | .shMbpubGo _ q _ => some (q, 0x28)
  | .stHmSet _ q _ | .stHmClr _ q _ => some (q, 0x2C)
  | .retry _ q l _ | .skLoopWrite _ q l _ => some (q, 0x30 + l.val)
  | .arrayRegWrite _ q _ | .arrayRegRead _ q _ => some (q, 0x38)
  | .thmTref _ q _ | .thmTjadd _ q _ | .thmLim _ q _ => some (q, 0x41)
  | .fcSrccls _ q _ | .injectionKey _ q _ | .injectionLock _ q _ | .fcChkinv _ q _ => some (q, 0x48)
  | .mbDoor _ q _ => some (q, 0x58)
  | .ownLock _ q p _ | .pgIrqPendClear _ q p _ | .pgIrqForce _ q p _ | .pgFltForce _ q p _ => some (q, p.toNat)
  | _ => none

/-- Glade at rest: no source's condition holds that is not raised, no demand change waits, and no demand holds. -/
def Glade.Quiet (g : Glade) : Prop :=
  g.holding &&& ~~~g.raised = 0 ∧ g.pairA.due = [] ∧ g.pairB.due = [] ∧ g.dLock = false ∧ g.dSlo = false ∧ g.dFb = false

end Sys2Proof.Machine
end

