-- ==== Sys2Proof/Certificates/Slice0/Obligations.lean ====
section
/-! DEFINITION. What the provers are asked: statements about the block, from the rules of spec/. -/

open Sys2Proof Sys2Proof.Machine

/-! ### The block as a whole -/

/-- A step with a command in front of the queue is that command's effect on the block with the queue's rest. -/
def Obligations.StepTakesFront : Prop :=
  ∀ (c : Instr) (cs : List Instr) (s : State), s.pending = c :: cs → step s = exec c { s with pending := cs }

/-- With nothing commanded (log entry 3, the model's choice): a block held in reset idles; the oldest write of the quad-SPI
queue leaves it (13 R471), one to an illegal address being counted and dropped; else the oldest byte of the UART's FIFO
leaves (18 R645); else nothing changes. -/
def Obligations.EmptyQueueStep : Prop :=
  ∀ s : State, s.pending = [] → s.Canonical →
    (s.coreOn = false → step s = .next s) ∧
    (∀ a v r, s.coreOn = true → s.host.qspiQ = (a, v) :: r → qspiGood a = false → ∃ n, step s = .next n ∧
      n.host = { s.host with qspiQ := r } ∧
      rget n.regs Reg.HOST_BADACC = satAdd (rget s.regs Reg.HOST_BADACC) 1 ∧ Raised [Src.HP_BADACC] s n ∧
      RegsOnly [Reg.HOST_BADACC] s n ∧ Only [.host, .regs, .flt] s n) ∧
    (∀ b r, s.coreOn = true → s.host.qspiQ = [] → s.fst.uartTx = b :: r → ∃ n, step s = .next n ∧
      n.fst = { s.fst with uartTx := r } ∧ n.out = .uart b :: s.out ∧ Only [.fst, .out] s n) ∧
    (s.coreOn = true → s.host.qspiQ = [] → s.fst.uartTx = [] → step s = .next s)

/-- Every command of the table answers a next state from every state, and changes no part of the block outside the parts that
`touches` lists for it: the frame of each command, part by part. -/
def Obligations.EveryCommandTouchesOnlyItsParts : Prop :=
  ∀ (c : Instr) (s : State), ∃ n, exec c s = .next n ∧ Only (touches c) s n

/-- 20 R694, 15 R537, 17 R588: while both the core and Glade are held in reset, a command other than a reset's change lets
time pass and does nothing else. -/
def Obligations.HeldBlockOnlyCountsTime : Prop :=
  ∀ (c : Instr) (s : State), s.coreOn = false → s.gladeOn = false →
    (∀ t h e, c ≠ .porstNRelease t h e) → (∀ t, c ≠ .porstNAssert t) → (∀ t, c ≠ .coreRelease t) →
    ∃ n, exec c s = .next n ∧ s.now ≤ n.now ∧ Only [.now] s n

/-- Every step keeps the canonical form of the register words, the stores, the fault counts and classes, the log ring, the
curves and the derating map. -/
def Obligations.StepKeepsCanonicalForm : Prop :=
  ∀ s n : State, s.Canonical → step s = .next n → n.Canonical

/-- 03 R94, 13 R471, 18 R645, 11 R404, R405: the queue of health clears, the quad-SPI write queue, the two FIFOs of the UART
and the records of genlock never grow past their sizes, whatever is commanded. -/
def Obligations.StepKeepsQueuesBounded : Prop :=
  ∀ s n : State, s.Bounded → step s = .next n → n.Bounded

/-- What the sections state for reset: no vector disarmed (13 R490), the reaction table all Safe Light Off (17 R596), the ERR
pair in Fault (16 R576), reference temperature defaulted (15 R539), the boot window of the watchdog (18 R659), SWING, PRE
and POST of the lanes (05 R209), K at 4096 (09 R353), nothing commanded, and a sample of the register words. The state
right after reset is canonical, and its queues are within their sizes. Clauses that rest on a reading or choice of the
model follow log entries 4 and 87. -/
def Obligations.ResetState : Prop :=
  (State.reset.host.armed = 0xFFFFFFFF#32 ∧ State.reset.flt.rx = 0x1FF ∧ State.reset.glade.errFault = true ∧
    State.reset.glade.st = .load ∧ State.reset.thm.refDef = true ∧ State.reset.glade.wdBoot = true ∧
    State.reset.fst.st = .reset ∧ State.reset.tb.fcnt = 0 ∧ State.reset.tb.gl = .free ∧ State.reset.cmt.st = .idle ∧
    State.reset.pending = [] ∧ State.reset.out = [] ∧
    (∀ l : Fin 8, (State.reset.lane[l]).st = .off ∧ (State.reset.lane[l]).swing = 8 ∧ (State.reset.lane[l]).pre = 0 ∧
      (State.reset.lane[l]).post = 4) ∧
    (∀ a : Fin 16, State.reset.corr.k[a] = 4096 ∧ (State.reset.arr[a]).ready = false) ∧
    (∀ a, rget State.reset.regs a = regReset a) ∧
    regReset (0x50 * 0x1000 + 0x02C) = 4 ∧ regReset (0x60 * 0x1000 + 0x02C) = 2 ∧ regReset 0x2C = 3) ∧
  (State.reset.Canonical ∧ State.reset.Bounded)

/-- 19 R669: a bit of the OTP key store that is 1 stays 1 over every step, a reset or a program cut short included. -/
def Obligations.OtpBitsNeverReturnToZero : Prop :=
  ∀ (s n : State) (a i : Nat), s.Canonical → step s = .next n →
    bit (s.sec.otpByte a) i = true → bit (n.sec.otpByte a) i = true

/-- 17 R606, R612, R588: Glade leaves LOCKOUT, and GL_RAISED loses a bit of a source that locks, by an accepted press or a
reset of Glade, and by no other command. -/
def Obligations.LockoutLeftOnlyByPressOrReset : Prop :=
  ∀ (c : Instr) (s n : State), (∀ t p, c ≠ .gladeCycle t p) → (∀ t h e, c ≠ .porstNRelease t h e) →
    (∀ t, c ≠ .porstNAssert t) → (∀ t, c ≠ .gladePowerLoss t) → exec c s = .next n →
    (s.glade.st = .lockout → n.glade.st = .lockout) ∧
    (∀ j : Nat, j < 7 → bit s.glade.raised j = true → bit n.glade.raised j = true)

/-- 13 R481, R483: a write to a page by a requester whose bit of PG_OWNER was 0 before the sample has no effect but to set
OWNERR, count in HOST_OWNCNT and raise HP_OWNERR, whichever register command it is. 12 R452: a write to a page whose
domain is behind a STALLED crossing is discarded, and its requester sees an error access, which counts in HOST_BADACC and
raises HP_BADACC. -/
def Obligations.RefusedWritesOnlyReport : Prop :=
  (∀ (c : Instr) (req : Req) (page : Nat) (s : State), target c = some (req, page) → pageUsed page = true →
      s.coreOn = true → s.stalledTo (pageDomain page) = false → (s.stamp c.time).mayWrite req page = false → s.Canonical → s.Fresh c →
      ∃ n, exec c s = .next n ∧
        rget n.regs (page * 0x1000 + 0x00C) = rget s.regs (page * 0x1000 + 0x00C) ||| 4 ∧
        rget n.regs Reg.HOST_OWNCNT = satAdd (rget s.regs Reg.HOST_OWNCNT) 1 ∧ Raised [Src.HP_OWNERR] s n ∧
        RegsOnly [page * 0x1000 + 0x00C, Reg.HOST_OWNCNT] s n ∧ Only [.now, .regs, .flt] s n) ∧
  (∀ (c : Instr) (req : Req) (page : Nat) (s : State), target c = some (req, page) → pageUsed page = true →
      s.coreOn = true → s.stalledTo (pageDomain page) = true → s.Canonical → s.Fresh c →
      ∃ n, exec c s = .next n ∧ n.out = .errorAccess req :: s.out ∧
        rget n.regs Reg.HOST_BADACC = satAdd (rget s.regs Reg.HOST_BADACC) 1 ∧ Raised [Src.HP_BADACC] s n ∧
        RegsOnly [Reg.HOST_BADACC] s n ∧ Only [.now, .regs, .flt, .out] s n)

/-! ### Time base and genlock (chapter 11) -/

/-- Completes: genlockEdge, genlockMissing, holdoverExpiry, genlockOutPulseEnd. 11 R402–R404: a change of GENLOCK_IN is an
edge where it goes to the level that POL selects and holds it for 40 samples while GL_EN is 1, and nothing otherwise. An
edge that ends a valid spacing counts towards lock, locks at the fourth, and changes nothing else of the block but GLCHG;
an edge that ends an early spacing starts the count again, counts in TM_GLBAD and raises TM_BADEDGE, and a lock becomes
HOLDOVER. 11 R403, R404: the window of a spacing closes without an edge, those of the same sample being taken first (12
R438): it counts in TM_GLMISS, the count towards lock starts again where the window closed, and a lock becomes HOLDOVER,
which counts and raises TM_HOLD; before the window closes nothing more is done. 11 R404, R407: the end of HOLDOVER is
FREE, with its event and its source, unless an edge of the same sample has ended it (11 R406); the end of the output pulse
ends the pulse and nothing else. Clauses that rest on a reading or choice of the model follow log entry 45. -/
def Obligations.GenlockEdgesAndHoldover : Prop :=
  ((∀ (t held : Nat) (rise : Bool) (s : State), s.coreOn = true → s.Fresh (.genlockEdge t rise held) →
      (s.timing.en = false ∨ rise = s.timing.pol ∨ held < 40) →
      exec (.genlockEdge t rise held) s = .next { s with now := max s.now t }) ∧
    ∀ (t p held : Nat) (rise : Bool) (s : State), s.coreOn = true → s.Canonical → s.timing.en = true →
      s.tb.edgeFrom = some p → s.tb.gl ≠ .free → rise ≠ s.timing.pol → 40 ≤ held → s.Fresh (.genlockEdge t rise held) →
      (s.timing.valid (t / 64 - p) = true → ∃ n, exec (.genlockEdge t rise held) s = .next n ∧
        n.tb.acqn = min 4 (s.tb.acqn + 1) ∧ n.tb.edgeFrom = some (t / 64) ∧
        n.tb.spacings = ((t / 64 - p) :: s.tb.spacings).take 4 ∧
        n.tb.gl = (if s.tb.acqn < 3 then s.tb.gl else .locked) ∧
        n.tb.fcnt = s.tb.fcnt ∧ n.tb.next = s.tb.next ∧
        RegsOnly [rawOf 0x01] s n ∧ Only [.now, .tb, .regs] s n) ∧
      (s.timing.early (t / 64 - p) = true → ∃ n, exec (.genlockEdge t rise held) s = .next n ∧
        n.tb.acqn = 0 ∧ n.tb.spacings = [] ∧ n.tb.edgeFrom = some (t / 64) ∧
        n.tb.gl = (if s.tb.gl = .locked then .holdover else s.tb.gl) ∧
        lget n.live Reg.TM_GLBAD = satAdd (lget s.live Reg.TM_GLBAD) 1 ∧
        LiveOnly [Reg.TM_GLBAD, Reg.TM_HOLDCNT] s n ∧
        Raised (Src.TM_BADEDGE :: if s.tb.gl = .locked then [Src.TM_HOLD] else []) s n ∧
        RegsOnly [rawOf 0x01] s n ∧ Only [.now, .tb, .regs, .live, .flt] s n)) ∧
  (∀ (t : Nat) (s m : State), s.coreOn = true → s.Canonical → s.timing.en = true → m = (s.stamp t).edgesFirst →
      (∀ p, m.tb.edgeFrom = some p → p + m.timing.window ≤ m.now / tick →
        ∃ n, exec (.genlockMissing t) s = .next n ∧
        n.tb = { m.tb with
          acqn := 0, spacings := [], edgeFrom := some (p + m.timing.window)
          gl := if m.tb.gl = .locked then .holdover else m.tb.gl } ∧
        lget n.live Reg.TM_GLMISS = satAdd (lget m.live Reg.TM_GLMISS) 1 ∧
        lget n.live Reg.TM_HOLDCNT = satAdd (lget m.live Reg.TM_HOLDCNT) (if m.tb.gl = .locked then 1 else 0) ∧
        LiveOnly [Reg.TM_GLMISS, Reg.TM_HOLDCNT] m n ∧
        Raised (if m.tb.gl = .locked then [Src.TM_HOLD] else []) m n ∧
        RegsOnly [rawOf 0x01] m n ∧ Only [.now, .tb, .regs, .live, .flt] m n) ∧
      (∀ p, m.tb.edgeFrom = some p → m.now / tick < p + m.timing.window → exec (.genlockMissing t) s = .next m) ∧
      (m.tb.edgeFrom = none → exec (.genlockMissing t) s = .next m)) ∧
  (∀ (t : Nat) (s m : State), s.coreOn = true → s.Canonical → m = (s.stamp t).edgesFirst →
      (m.tb.gl = .holdover → ∃ n, exec (.holdoverExpiry t) s = .next n ∧
        n.tb.gl = .free ∧ n.tb.acqn = 0 ∧ n.tb.edgeFrom = none ∧ n.tb.fcnt = m.tb.fcnt ∧ n.tb.next = m.tb.next ∧
        n.tb.bn = m.tb.bn ∧ rget n.regs (rawOf 0x01) = rget m.regs (rawOf 0x01) ||| 2 ∧
        Raised [Src.TM_FREE] m n ∧ RegsOnly [rawOf 0x01] m n ∧ Only [.now, .tb, .regs, .flt] m n) ∧
      (m.tb.gl ≠ .holdover → exec (.holdoverExpiry t) s = .next m) ∧
      (∃ n, exec (.genlockOutPulseEnd t) s = .next n ∧ n.tb = { s.tb with gloPulse := false } ∧ Only [.now, .tb] s n))

/-! ### Clock monitors and crossings (chapter 12) -/

/-- Completes: clockMonitorWindow, crossingStall. 12 R435, R452, R453, R456: a second bad window in a row of an unmasked
monitor reports its domain stopped and raises its source; a second good one reports it running and frees the crossings
towards it; a crossing that may stall is listed, counted and raised, and one that completes in the same sample (12 R438),
joins no two domains, is STALLED already or is held idle (12 R434) does not stall. 12 R444–R446, R448: the last value that
the source of a hold-and-flag crossing produces is delivered, within ρ when no transfer is in flight and within 2ρ
otherwise; a Gray code changes in one bit and gives back its count. Clauses that rest on a reading or choice of the model
follow log entries 9, 10, 83, 102 and 105. -/
def Obligations.ClockMonitorAndStall : Prop :=
  (∀ (t : Nat) (s : State), s.coreOn = true → s.Canonical →
      (∀ w : ClockWindow, s.monMasked w.dom = false → windowBad w.edges (s.nominal w.dom) = true →
        (s.clk.mon[w.dom]).running = true → (s.clk.mon[w.dom]).bad ≠ 0 →
        ∃ n, exec (.clockMonitorWindow t w) s = .next n ∧
          (n.clk.mon[w.dom]).running = false ∧ (n.clk.mon[w.dom]).good = 0 ∧ (n.clk.mon[w.dom]).khz = w.khz ∧
          (∀ d : Fin 8, d ≠ w.dom → n.clk.mon[d] = s.clk.mon[d]) ∧ n.clk.stalled = s.clk.stalled ∧
          Raised [if w.dom.val = 3 ∨ w.dom.val = 4 then Src.CLK_MONCRIT else Src.CLK_MON] s n ∧
          rget n.regs (rawOf 0x02) = rget s.regs (rawOf 0x02) ||| 2 ∧ RegsOnly [rawOf 0x02] s n ∧
          Only [.now, .clk, .regs, .flt] s n) ∧
      (∀ w : ClockWindow, s.monMasked w.dom = false → windowBad w.edges (s.nominal w.dom) = false →
        (s.clk.mon[w.dom]).running = false → (s.clk.mon[w.dom]).good ≠ 0 →
        ∃ n, exec (.clockMonitorWindow t w) s = .next n ∧
          (n.clk.mon[w.dom]).running = true ∧ (n.clk.mon[w.dom]).bad = 0 ∧
          n.clk.stalled = s.clk.stalled.filter (fun x => x.far != w.dom) ∧
          rget n.regs (rawOf 0x02) = rget s.regs (rawOf 0x02) ||| 2 ∧ RegsOnly [rawOf 0x02] s n ∧
          Only [.now, .clk, .regs] s n) ∧
      (∀ (live far : Fin 8) (kind : CrossingKind) (lost : List Req) (ack : Option Nat),
        (s.stamp t).mayStall { live := live, far := far, kind := kind } = true → (s.stamp t).delivered ack = false →
        ∃ n, exec (.crossingStall t live far kind lost ack) s = .next n ∧
          n.clk.stalled = s.clk.stalled ++ [{ live := live, far := far, kind := kind }] ∧ n.clk.mon = s.clk.mon ∧
          Src.CDC_STALL ∈ n.flt.raised ∧ rget n.regs Reg.CLK_STALLCNT = satAdd (rget s.regs Reg.CLK_STALLCNT) 1 ∧
          rget n.regs (rawOf 0x02) = rget s.regs (rawOf 0x02) ||| 1 ∧
          (kind = .holdAndFlag → Raised [Src.CDC_STALL] s n ∧ n.host = s.host) ∧
          RegsOnly [Reg.CLK_STALLCNT, Reg.CLK_STALLINFO, rawOf 0x02, Reg.HOST_BADACC] s n ∧
          Only [.now, .clk, .host, .regs, .flt, .out] s n) ∧
      (∀ (live far : Fin 8) (kind : CrossingKind) (lost : List Req) (ack : Option Nat),
        (s.stamp t).delivered ack = true ∨ live = far ∨ { live := live, far := far, kind := kind : Crossing } ∈ s.clk.stalled ∨
          (s.host.portSpi = true ∧ (live = 0 ∨ far = 0)) →
        exec (.crossingStall t live far kind lost ack) s = .next { s with now := max s.now t })) ∧
  (∀ b : BitVec 10, ofGray (grayCode b) = b ∧ ∃ i : Fin 10, grayCode (b + 1) ^^^ grayCode b = 1#10 <<< i.val) ∧
  (∀ (ρ t u : Nat) (v : Word) (h : HoldFlag), 4 * tick ≤ ρ → h.since ≤ t →
    (h.inFlight = false → h.ack = h.flag ∧ h.pending = none) →
    (h.produce ρ t v).newest = some v ∧ (h.inFlight = false → t + ρ ≤ u → (h.produce ρ t v).read ρ u = some v) ∧
      (t + 2 * ρ ≤ u → (h.produce ρ t v).read ρ u = some v))

/-! ### Supplies and die temperature (chapter 15) -/

/-- Completes: droopTrip, droopRelease, droopLong, railSample, monitorSelfCheck, coreUnderVoltage. 15 R534–R536, 08 R307–R309:
a trip makes the detector active, counts in PWR_DROOPCNT, sets DROOP and meters the fabric; while it is active a trip only
restarts the release interval. Its release, 2 µs after the last low sample, adds the droop's time to PWR_DROOPTIME, keeps
the longest in PWR_DROOPMAX and gives the tokens back, and it is nothing before that; a droop of 1 ms raises PWR_DROOPL
once. 15 R531, R532, R537: a rail's second sample outside its limits in a row sets its RAILERR bit, and the hundredth
inside clears it; a failed self-check marks its monitor bad, and the third passed one in a row clears the mark; an
undervoltage sets UV and raises PWR_UV. -/
def Obligations.SupplyMonitoring : Prop :=
  (∀ (t : Nat) (s : State), s.coreOn = true → s.Canonical →
      (s.pwr.droop = false → ∃ n, exec (.droopTrip t) s = .next n ∧
        n.pwr = { s.pwr with droop := true, droopAt := max s.now t, droopLong := false, lowAt := max s.now t } ∧
        n.fab = { s.fab with tokens := Vector.replicate 5 (16 - max (fld (s.active (Reg.FB_MCFG 0)) 0 4)
          (max s.fab.mTherm.toNat (fld (rget s.regs (Reg.FB_MREQ 0)) 0 4))) } ∧
        rget n.regs Reg.PWR_DROOPCNT = satAdd (rget s.regs Reg.PWR_DROOPCNT) 1 ∧
        rget n.regs (rawOf 0x40) = rget s.regs (rawOf 0x40) ||| 1 ∧
        RegsOnly [Reg.PWR_DROOPCNT, rawOf 0x40] s n ∧ Only [.now, .pwr, .fab, .regs] s n) ∧
      (s.pwr.droop = true → ∃ n, exec (.droopTrip t) s = .next n ∧ n.pwr = { s.pwr with lowAt := max s.now t } ∧
        Only [.now, .pwr] s n) ∧
      (s.pwr.droop = true → (s.stamp t).tripping = false → s.pwr.lowAt + 2 * usec ≤ max s.now t →
        ∃ n, exec (.droopRelease t) s = .next n ∧ n.pwr = { s.pwr with droop := false } ∧
        n.fab = { s.fab with tokens := Vector.replicate 5 (16 -
          max s.fab.mTherm.toNat (fld (rget s.regs (Reg.FB_MREQ 0)) 0 4)) } ∧
        rget n.regs Reg.PWR_DROOPTIME =
          satAdd (rget s.regs Reg.PWR_DROOPTIME) ((max s.now t - s.pwr.droopAt) / usec) ∧
        (rget n.regs Reg.PWR_DROOPMAX).toNat = min 0xFFFFFFFF
          (max (rget s.regs Reg.PWR_DROOPMAX).toNat ((max s.now t - s.pwr.droopAt) / usec)) ∧
        RegsOnly [Reg.PWR_DROOPTIME, Reg.PWR_DROOPMAX] s n ∧ Only [.now, .pwr, .fab, .regs] s n) ∧
      (s.pwr.droop = false ∨ (s.stamp t).tripping = true ∨ max s.now t < s.pwr.lowAt + 2 * usec →
        exec (.droopRelease t) s = .next { s with now := max s.now t }) ∧
      (s.pwr.droop = true → s.pwr.droopLong = false → (s.stamp t).releasing = false → ∃ n, exec (.droopLong t) s = .next n ∧
        n.pwr = { s.pwr with droopLong := true } ∧ Raised [Src.PWR_DROOPL] s n ∧ Only [.now, .pwr, .flt] s n)) ∧
  (∀ (t : Nat) (s : State), s.coreOn = true → s.Canonical →
      (∀ x : RailReading, s.Fresh (.railSample t x) → ∃ n, exec (.railSample t x) s = .next n ∧
        (∀ r : Fin 7, railOff r (x.mv[r]) = true → s.pwr.railOut[r] = 1 → bit n.pwr.railErr r = true) ∧
        (∀ r : Fin 7, railOff r (x.mv[r]) = false → s.pwr.railIn[r] = 99 → bit n.pwr.railErr r = false) ∧
        (∀ r : Fin 7, n.pwr.accV[r] = s.pwr.accV[r] + x.mv[r]) ∧
        n.pwr.samples = s.pwr.samples + 1 ∧ n.pwr.droop = s.pwr.droop ∧
        RegsOnly [rawOf 0x40] s n ∧ Only [.now, .pwr, .regs, .flt] s n) ∧
      (∀ m : Fin 4, bit s.pwr.monBad m = false → s.Fresh (.monitorSelfCheck t m false) → ∃ n, exec (.monitorSelfCheck t m false) s = .next n ∧
        bit n.pwr.monBad m = true ∧ n.pwr.monPass[m] = 0 ∧ n.pwr.railErr = s.pwr.railErr ∧
        Raised [Src.PWR_MONFAIL] s n ∧ rget n.regs (rawOf 0x40) = rget s.regs (rawOf 0x40) ||| 2 ∧
        RegsOnly [rawOf 0x40] s n ∧ Only [.now, .pwr, .regs, .flt] s n) ∧
      (∀ m : Fin 4, s.pwr.monPass[m] = 2 → s.Fresh (.monitorSelfCheck t m true) → ∃ n, exec (.monitorSelfCheck t m true) s = .next n ∧
        bit n.pwr.monBad m = false ∧ n.pwr.monPass[m] = 3 ∧ n.pwr.railErr = s.pwr.railErr ∧ Only [.now, .pwr] s n) ∧
      (s.pwr.uv = false → ∃ n, exec (.coreUnderVoltage t) s = .next n ∧
        n.pwr = { s.pwr with uv := true, uvIn := 0 } ∧ Raised [Src.PWR_UV] s n ∧ Only [.now, .pwr, .flt] s n))

/-- Completes: thmTjadd, thmLim, thmTref, trefStale, dieModelStep, throttleStep. 15 R540, R541: THM_TJADD is only raised and
THM_LIM's three fields are only lowered, by a requester that owns the page; no other register word and no other part
changes. 15 R539: a THM_TREF write between the GPR's limits makes the written value the reference in use; 1 s without a
write ends that, the reference in use becomes TREF_HI, and its first use raises THM_REFDEF, unless a write of the same
sample comes (12 R438). 15 R538, R542–R545, R548: every step takes the writes, samples and self-checks of its sample
first, computes the die temperature and starts new sums; a die temperature at or above T_S makes SHUT, THROT and WARN
active in one step, and the entry to SHUT sets its bit, counts in THM_SHUTCNT, raises THM_SHUT, opens the orderly window
and sets M_THERM to 12; every 10 ms M_THERM rises by one while Tj is at or above T_T, up to 12, stays below T_T, and falls
by one while THROT is not active, down to 0, and the fabric's tokens follow. Clauses that rest on a reading or choice of
the model follow log entry 42. -/
def Obligations.DieTemperatureAndThermalLimits : Prop :=
  (∀ (t : Nat) (req : Req) (v : Word) (s : State), s.Writable t req 0x41 → s.Canonical →
      (s.Fresh (.thmTjadd t req v) → ∃ n, exec (.thmTjadd t req v) s = .next n ∧
        fld (rget n.regs Reg.THM_TJADD) 0 8 = max (fld v 0 8) (fld (rget s.regs Reg.THM_TJADD) 0 8) ∧
        RegsOnly [Reg.THM_TJADD] s n ∧ Only [.now, .regs] s n) ∧
      (s.Fresh (.thmLim t req v) → ∃ n, exec (.thmLim t req v) s = .next n ∧
        (∀ i : Fin 3, fld (rget n.regs Reg.THM_LIM) (8 * i) 8 =
          min (fld (rget s.regs Reg.THM_LIM) (8 * i) 8) (fld v (8 * i) 8)) ∧
        RegsOnly [Reg.THM_LIM] s n ∧ Only [.now, .regs] s n)) ∧
  (∀ (t : Nat) (s : State), s.Canonical → s.glade.hasGpr = true →
      (∀ (req : Req) (v : Word), s.Writable t req 0x41 →
        s.glade.trefLimits.1 ≤ signed 16 (fld v 0 16) → signed 16 (fld v 0 16) ≤ s.glade.trefLimits.2 →
        ∃ n, exec (.thmTref t req v) s = .next n ∧
          rget n.regs Reg.THM_TREF = at32 0 (fld v 0 16) ∧
          n.thm = { s.thm with trefFresh := true, refDef := false, trefu := signed 16 (fld v 0 16) } ∧
          RegsOnly [Reg.THM_TREF] s n ∧ Only [.now, .regs, .thm] s n) ∧
      (s.coreOn = true → s.thm.refDef = false → (s.stamp t).trefWritten = false → ∃ n, exec (.trefStale t) s = .next n ∧
        n.thm = { s.thm with trefFresh := false, refDef := true, trefu := s.glade.trefLimits.2 } ∧
        Raised [Src.THM_REFDEF] s n ∧ rget n.regs (rawOf 0x41) = rget s.regs (rawOf 0x41) ||| 16 ∧
        RegsOnly [rawOf 0x41] s n ∧ Only [.now, .regs, .thm, .flt] s n) ∧
      (s.coreOn = true → (s.stamp t).trefWritten = true → exec (.trefStale t) s = .next { s with now := max s.now t })) ∧
  (∀ (t : Nat) (s m : State), s.coreOn = true → s.Canonical → m = (s.stamp t).stepInputs →
      (∀ j : Int,
        j = tjOf ({ m.thm with trefu := m.trefu }.heat m.pwr.total m.glade.board) (fld (rget m.regs Reg.THM_TJADD) 0 8) →
        ∃ n, exec (.dieModelStep t) s = .next n ∧ n.thm.tj = j ∧ n.pwr.samples = 0 ∧ n.pwr.droop = m.pwr.droop ∧
          n.pwr.railErr = m.pwr.railErr ∧ Only [.now, .regs, .flt, .fab, .pwr, .thm, .glade, .fst, .log] m n ∧
          (m.thm.shut = false → m.thm.window = false → m.thm.stopped = false →
            ((16 * fld (rget m.regs Reg.THM_LIM) 16 8 : Nat) : Int) ≤ j →
            n.thm.warn = true ∧ n.thm.throt = true ∧
            n.thm.shut = true ∧ n.thm.window = true ∧ n.thm.windowAt = max s.now t ∧
            n.fab = { m.fab with mTherm := 12, tokens := Vector.replicate 5 (16 - max m.mDroop
              (max 12 (fld (rget m.regs (Reg.FB_MREQ 0)) 0 4))) } ∧
            Src.THM_SHUT ∈ n.flt.raised ∧ rget n.regs Reg.THM_SHUTCNT = satAdd (rget m.regs Reg.THM_SHUTCNT) 1 ∧
            n.glade = m.glade)) ∧
      (∀ k : BitVec 4, (s.thm.throt = true ∧ ((16 * fld (rget s.regs Reg.THM_LIM) 8 8 : Nat) : Int) ≤ s.thm.tj ∧
          k = BitVec.ofNat 4 (min 12 (s.fab.mTherm.toNat + 1))) ∨
        (s.thm.throt = true ∧ s.thm.tj < ((16 * fld (rget s.regs Reg.THM_LIM) 8 8 : Nat) : Int) ∧ k = s.fab.mTherm) ∨
        (s.thm.throt = false ∧ k = BitVec.ofNat 4 (s.fab.mTherm.toNat - 1)) →
        ∃ n, exec (.throttleStep t) s = .next n ∧
          n.fab = { s.fab with mTherm := k, tokens := Vector.replicate 5 (16 - max s.mDroop
            (max k.toNat (fld (rget s.regs (Reg.FB_MREQ 0)) 0 4))) } ∧ Only [.now, .fab] s n))

/-- Completes: shutdownStart, shutdownEnd, orderlyWindowEnd. 20 R707, R708, 15 R545: a write of the key with REQ = 1 puts a
commanded shutdown in force, opens the orderly window and tells Forester; with REQ = 0 in a sample after the window's last
(20 R710) it ends the shutdown, and the stopped parts restart; without the key, a second time, with no shutdown in force
or before the window is over, a write sets SDERR alone. 15 R545, 20 R707: at the end of the orderly window of a shutdown
that is still in force, Forester is held in reset with cause 2, and both composers stop; of one that is over, the window
closes and nothing stops. Clauses that rest on a reading or choice of the model follow log entry 43. -/
def Obligations.ShutdownAndItsWindow : Prop :=
  (∀ (t : Nat) (req : Req) (v : Word) (s : State), s.Writable t req 0x00 →
      (fld v 16 16 = 0x5D0E → s.top.cmdSd = false → s.thm.window = false → s.thm.stopped = false →
        ∃ n, exec (.shutdownStart t req v) s = .next n ∧ n.top = { s.top with cmdSd := true } ∧
          n.thm = { s.thm with window := true, windowAt := max s.now t } ∧ n.fst = s.fst.raiseIrq 2 ∧
          Only [.now, .top, .thm, .fst] s n) ∧
      (fld v 16 16 = 0x5D0E → s.top.cmdSd = true → s.thm.window = false → (s.stamp t).windowEnds = false →
        s.thm.shut = false → s.thm.stopped = true →
        ∃ n, exec (.shutdownEnd t req v) s = .next n ∧ n.top = { s.top with cmdSd := false } ∧
          n.thm = { s.thm with stopped := false } ∧
          n.fst = { s.fst with
            st := if s.fst.st = .reset then .rom else s.fst.st
            spi := if s.fst.st = .reset then {} else s.fst.spi } ∧
          n.glade.wdBoot = true ∧ n.glade.wdStopped = false ∧ n.glade.st = s.glade.st ∧
          Only [.now, .top, .thm, .fst, .glade] s n) ∧
      (∀ c, (fld v 16 16 ≠ 0x5D0E ∧ (c = Instr.shutdownStart t req v ∨ c = Instr.shutdownEnd t req v)) ∨
          (s.top.cmdSd = true ∧ c = Instr.shutdownStart t req v) ∨
          ((s.top.cmdSd = false ∨ s.thm.window = true ∨ (s.stamp t).windowEnds = true) ∧ c = Instr.shutdownEnd t req v) →
        ∃ n, exec c s = .next n ∧ n.top = { s.top with sdErr := true } ∧ Only [.now, .top] s n)) ∧
  (∀ (t : Nat) (s : State), s.coreOn = true → s.thm.window = true →
      (s.thm.shut = true ∨ s.top.cmdSd = true → ∃ n, exec (.orderlyWindowEnd t) s = .next n ∧
        n.thm = { s.thm with window := false, stopped := true } ∧ n.fst.st = .reset ∧ n.fst.cause = 2 ∧
        n.fst.tcm = s.fst.tcm ∧ n.glade.wdStopped = true ∧ n.glade.st = s.glade.st ∧ n.sec.romPhase = true ∧
        (∀ u : Fin 2, (n.comp[u]).composing = false ∧ (n.comp[u]).discard = true ∧
          n.surf[u] = { s.surf[u] with complete := (n.surf[u]).complete } ∧
          ((n.surf[u]).complete = true → (s.surf[u]).complete = true)) ∧ n.top = s.top ∧
        n.lane = s.lane ∧ Only (touches (.orderlyWindowEnd t)) s n) ∧
      (s.thm.shut = false → s.top.cmdSd = false → ∃ n, exec (.orderlyWindowEnd t) s = .next n ∧
        n.thm = { s.thm with window := false } ∧ Only [.now, .thm] s n))

/-! ### Reset, start-up and phases (chapters 15, 17, 20, 22) -/

/-- Completes: porstNRelease, porstNAssert, coreReset, coreRelease. 20 R694, R696; 13 R458; 18 R640; 20 R701: PORST_N rising
with TEST_EN low starts the block from its reset values with HOSTSEL sampled, time counting from here, Glade in LOAD,
Forester in the ROM and two records in the log; with TEST_EN high (22 R726) and with PORST_N high already nothing starts.
PORST_N low leaves nothing but the OTP key store and TOP_RSTCAUSE. 15 R537, 20 R695: the core reset leaves Glade, the OTP
key store, TOP_RSTCAUSE and the HOSTSEL sample, and everything else at reset; the release starts the core with COREUV as
its cause, LOAD taken as ended and Forester in the ROM, and it has no effect on a core that is not held. Clauses that rest
on a reading or choice of the model follow log entries 4, 57 and 74. -/
def Obligations.ResetsOfTheChip : Prop :=
  (∀ (t : Nat) (h : Bool) (s : State), s.sec.job = none →
      (s.top.porst = true → ∃ n, exec (.porstNRelease t h false) s = .next n ∧
        n.now = 0 ∧ n.out = [] ∧ n.regs = [] ∧ n.live = [] ∧ n.host = { portSpi := h } ∧
        n.top = { porst := false, por := true, startAt := 0 } ∧
        n.glade.inReset = false ∧ n.glade.st = .load ∧ n.glade.loadEnded = false ∧ n.glade.resetAt = 0 ∧
        n.fst.st = .rom ∧ n.fst.cause = 1 ∧ n.sec.otp = s.sec.otp ∧ n.sec.romPhase = true ∧
        n.clk.lockSys = true ∧ n.clk.lockOl = true ∧ n.clk.lockIl = true ∧ n.clk.lockPcie = true ∧
        n.log.wr = 2 ∧ n.log.rd = 0 ∧ n.tb = State.reset.tb ∧ n.surf = State.reset.surf ∧ n.lane = State.reset.lane ∧
        n.flt = State.reset.flt ∧ n.pending = s.pending) ∧
      (s.top.porst = true → ∃ n, exec (.porstNRelease t h true) s = .next n ∧
        n.top = { s.top with testEn := true } ∧ Only [.now, .top] s n) ∧
      (s.top.porst = false → ∀ e, ∃ n, exec (.porstNRelease t h e) s = .next n ∧ Only [.now] s n) ∧
      (∃ n, exec (.porstNAssert t) s = .next n ∧ n = { State.reset with
        now := max s.now t, free := s.free, sample := s.sample, out := s.out, pending := s.pending
        sec := { otp := s.sec.otp, otpBad := s.sec.otpBad }
        top := { por := s.top.por, coreUv := s.top.coreUv, hostRsts := s.top.hostRsts } })) ∧
  (∀ (t : Nat) (s : State), s.sec.job = none →
      (s.coreOn = true → ∃ n, exec (.coreReset t) s = .next n ∧ n = { State.reset with
        now := max s.now t, free := s.free, sample := s.sample, out := s.out, pending := s.pending, glade := s.glade
        sec := { otp := s.sec.otp, otpBad := s.sec.otpBad }, host := { portSpi := s.host.portSpi }
        pwr := { coreReset := true }
        top := { porst := false, por := s.top.por, coreUv := s.top.coreUv, hostRsts := s.top.hostRsts } }) ∧
      (s.top.porst = false → s.pwr.coreReset = true → ∃ n, exec (.coreRelease t) s = .next n ∧
        n.pwr.coreReset = false ∧ n.top.coreUv = true ∧ n.top.por = false ∧ n.top.hostRsts = 0 ∧
        n.top.phase = .startUp ∧ n.top.startAt = max s.now t ∧ n.top.loadAt = some (max s.now t) ∧
        n.fst.st = .rom ∧ n.fst.cause = 1 ∧ n.clk.lockSys = true ∧ n.clk.lockOl = true ∧ n.clk.lockIl = true ∧
        n.sec.romPhase = true ∧ n.glade.gpr = s.glade.gpr ∧ n.glade.wdBoot = true ∧ n.host = s.host ∧
        n.bank0 = s.bank0 ∧ n.surf = s.surf ∧ n.intake = s.intake ∧ n.pending = s.pending) ∧
      (s.coreOn = true → ∃ n, exec (.coreRelease t) s = .next n ∧ Only [.now] s n))

/-- Completes: gladeLoadEnd, storeInitDone, cryptoSelfTestDone, topPhaseWrite. 17 R616, R617, R619, R634: at the end of LOAD
copy A is in force where it is valid, else copy B; where neither is, GPRSRC is 0, GL_GPR is raised and Glade is in
LOCKOUT. A later LOAD has no effect. 03 R77, 19 R678, 20 R701, R711: the end of store initialisation opens the stores and
no more; the self-test's result stands in SELFTEST_OK, and a failure raises SEC_CRYPTO; a write of TOP_PHASE makes an
allowed transition and sets PHASE's event, and one that is not allowed sets PHERR and leaves the phase; a write of TEST
beside a commit of the sample that lights a surface leaves the phase too (20 R710). Clauses that rest on a reading or
choice of the model follow log entries 8 and 74. -/
def Obligations.LoadStartUpAndPhases : Prop :=
  (∀ (t : Nat) (x : FlashLoad) (s : State), s.gladeOn = true → s.glade.loadEnded = false →
      (gprValid x.gprA = true → ∃ n, exec (.gladeLoadEnd t x) s = .next n ∧ n.glade.loadEnded = true ∧
        n.glade.gprSrc = 1 ∧ n.glade.gpr = x.gprA ∧ n.glade.st ≠ .load ∧
        n.glade.loadUs = BitVec.ofNat 20 (min 0xFFFFF ((max s.now t - s.glade.resetAt) / usec)) ∧
        (s.coreOn = true → n.top.loadAt = some (max s.now t)) ∧ Only (touches (.gladeLoadEnd t x)) s n) ∧
      (gprValid x.gprA = false → gprValid x.gprB = true → ∃ n, exec (.gladeLoadEnd t x) s = .next n ∧
        n.glade.gprSrc = 2 ∧ n.glade.gpr = x.gprB ∧ n.glade.st ≠ .load) ∧
      (gprValid x.gprA = false → gprValid x.gprB = false → ∃ n, exec (.gladeLoadEnd t x) s = .next n ∧
        n.glade.gprSrc = 0 ∧ n.glade.gpr = [] ∧ bit n.glade.raised 2 = true ∧ n.glade.st = .lockout ∧
        n.glade.aenDrv = 0) ∧
      (∀ y, ∃ n, exec (.gladeLoadEnd t x) s = .next n ∧ ∃ m, exec (.gladeLoadEnd t y) n = .next m ∧
        m.glade.gpr = n.glade.gpr ∧ m.glade.gprSrc = n.glade.gprSrc ∧ m.glade.fb = n.glade.fb ∧ m.regs = n.regs)) ∧
  (∀ (t : Nat) (s : State), s.Canonical →
      (s.coreOn = true → ∃ n, exec (.storeInitDone t) s = .next n ∧ n.top = { s.top with storesOk := true } ∧
        Only [.now, .top] s n) ∧
      (∀ ok, s.coreOn = true → ∃ n, exec (.cryptoSelfTestDone t ok) s = .next n ∧
        n.sec = { s.sec with selfTest := ok } ∧ Raised (if ok then [] else [Src.SEC_CRYPTO]) s n ∧
        Only [.now, .sec, .flt] s n) ∧
      (∀ req v, s.Writable t req 0x00 → s.Fresh (.topPhaseWrite t req v) → (s.stamp t).cold Reg.TOP_PHASE v = v →
        bit v 2 = false → bit v 3 = false →
        (fld v 0 2 = 2 → bit (s.stamp t).phaseBefore 31 = true → ∃ n, exec (.topPhaseWrite t req v) s = .next n ∧
          n.top = s.top ∧ Only [.now, .top] s n) ∧
        (s.top.phase = .startUp → fld v 0 2 = 1 → ∃ n, exec (.topPhaseWrite t req v) s = .next n ∧
          n.top = { s.top with phase := .service } ∧ rget n.regs (rawOf 0x00) = rget s.regs (rawOf 0x00) ||| 4 ∧
          RegsOnly [rawOf 0x00] s n ∧ Only [.now, .top, .regs] s n) ∧
        (s.top.phase = .service → fld v 0 2 = 2 → bit (s.stamp t).phaseBefore 31 = false → s.anyEn = true → ∃ n, exec (.topPhaseWrite t req v) s = .next n ∧
          n.top = { s.top with phErr := true } ∧ Only [.now, .top] s n) ∧
        (s.top.phase = .service → fld v 0 2 = 2 → bit (s.stamp t).phaseBefore 31 = false → s.anyEn = false → ∃ n, exec (.topPhaseWrite t req v) s = .next n ∧
          n.top = { s.top with phase := .test } ∧ RegsOnly [rawOf 0x00] s n ∧ Only [.now, .top, .regs] s n) ∧
        (s.top.phase = .recovery → fld v 0 2 = 1 → ∃ n, exec (.topPhaseWrite t req v) s = .next n ∧
          n.top = { s.top with phase := .service } ∧ RegsOnly [rawOf 0x00] s n ∧ Only [.now, .top, .regs] s n)))

/-! ### Host port and register pages (chapter 13) -/

/-- Completes: pgOwnerWrite. 13 R482, R483, 17 R633: while OWN_LOCK was 1 before the sample, and on the GLADE page, a write to
PG_OWNER has no effect; otherwise Forester's write stores HOST_W and FOR_W, the host can only clear HOST_W, and a DMA
write has no effect. -/
def Obligations.PageOwnerWrites : Prop :=
  ∀ (t : Nat) (req : Req) (page : Byte) (v old : Word) (s : State), s.coreOn = true → pageUsed page.toNat = true →
    s.stalledTo (pageDomain page.toNat) = false → s.Canonical → old = rget s.regs (page.toNat * 0x1000 + 0x02C) →
    ∃ n, exec (.pgOwnerWrite t req page v) s = .next n ∧
      RegsOnly [page.toNat * 0x1000 + 0x02C] s n ∧ Only [.now, .regs] s n ∧
      (bit ((s.stamp t).before (page.toNat * 0x1000 + 0x008)) 0 = true →
        rget n.regs (page.toNat * 0x1000 + 0x02C) = old) ∧
      (page = 0x50 → rget n.regs (page.toNat * 0x1000 + 0x02C) = old) ∧
      (bit ((s.stamp t).before (page.toNat * 0x1000 + 0x008)) 0 = false → page ≠ 0x50 →
        (req = .forester → rget n.regs (page.toNat * 0x1000 + 0x02C) = v &&& 3) ∧
        (req = .host → ∀ i, bit (rget n.regs (page.toNat * 0x1000 + 0x02C)) i =
          (bit old i && (decide (i ≠ 0) || bit v 0))) ∧
        (∀ ch, req = .dma ch → rget n.regs (page.toNat * 0x1000 + 0x02C) = old))

/-- Completes: ownLock, pgIrqPendClear, pgIrqForce, linkUp, configurationWrite, hostPortReset. 13 R479, R486–R488: OWN_LOCK is
set by a 1 and by nothing cleared; a 1 written to PG_IRQ_PEND clears that bit of PG_IRQ_RAW and no other, unless an event
of the same sample sets it (00 R8); a 1 written to PG_IRQ_FORCE sets the bit of an event of the page; no other register
word and no other part changes. 13 R463–R465, R490, R502; 20 R701, R711: a change of the link sets LINKCHG; a
configuration write changes the field it names; a reset of the port, after the host's register writes of its sample (13
R501), ends every upstream request as an error access, arms every vector, resets the MSI-X table and no other page's
settings, counts in HOSTRSTS, and turns SERVICE into RECOVERY; the configuration header holds the identity of R460.
Clauses that rest on a reading or choice of the model follow log entries 12 and 103. -/
def Obligations.PageHeadersAndHostLink : Prop :=
  (∀ (t : Nat) (req : Req) (page : Byte) (v : Word) (s : State), s.Writable t req page.toNat →
      pageUsed page.toNat = true → s.Canonical →
      (∃ n, exec (.ownLock t req page v) s = .next n ∧
        (∀ i, bit (rget n.regs (page.toNat * 0x1000 + 0x008)) i =
          (bit (rget s.regs (page.toNat * 0x1000 + 0x008)) i || (decide (i = 0) && bit v 0))) ∧
        RegsOnly [page.toNat * 0x1000 + 0x008] s n ∧ Only [.now, .regs] s n) ∧
      (∃ n, exec (.pgIrqPendClear t req page v) s = .next n ∧
        (∀ i, bit (rget n.regs (rawOf page.toNat)) i =
          (bit (rget s.regs (rawOf page.toNat)) i && !bit ((s.stamp t).cold (rawOf page.toNat) v) i)) ∧
        RegsOnly [rawOf page.toNat] s n ∧ Only [.now, .regs] s n) ∧
      (∃ n, exec (.pgIrqForce t req page v) s = .next n ∧
        (∀ i, i < 32 → bit (rget n.regs (rawOf page.toNat)) i =
          (bit (rget s.regs (rawOf page.toNat)) i || (bit v i && Nat.testBit (irqMask page.toNat) i))) ∧
        RegsOnly [rawOf page.toNat] s n ∧ Only [.now, .regs] s n)) ∧
  ((∀ base : Nat → Word, vendorId base = 0x1F2E ∧ deviceId base = 0x4410 ∧ revisionId base = 0xB1 ∧ classCode base = 0x038000 ∧
      subsystemVendorId base = 0x1F2E ∧ subsystemId base = 0x0001) ∧
    ∀ (t : Nat) (s : State), s.coreOn = true → s.host.portSpi = false → s.Canonical →
      (∀ sp w, s.host.linkUp = false → ∃ n, exec (.linkUp t sp w) s = .next n ∧
        n.host = { s.host with linkUp := true, speed := sp, width := w } ∧
        rget n.regs (rawOf 0x08) = rget s.regs (rawOf 0x08) ||| 1 ∧ RegsOnly [rawOf 0x08] s n ∧
        Only [.now, .host, .regs] s n) ∧
      (∀ w, ∃ n, exec (.configurationWrite t w) s = .next n ∧ Only [.now, .host] s n ∧
        (∀ on, w = .busMaster on → n.host = { s.host with bme := on }) ∧
        (∀ d, w = .powerState d → n.host = { s.host with dstate := if d then 3 else 0 }) ∧
        (∀ e m, w = .msix e m → n.host = { s.host with msixEn := e, msixFmask := m }) ∧
        (∀ x, w = .timeout x → n.host = { s.host with ctoVal := x })) ∧
      (∀ k m, m = (s.stamp t).hostWrites → ∃ n, exec (.hostPortReset t k) s = .next n ∧
        n.host.armed = 0xFFFFFFFF#32 ∧ n.host.pba = 0 ∧ n.host.bme = false ∧ n.host.msixEn = false ∧ n.host.ctoVal = 0 ∧
        n.host.waiting = 0 ∧ n.host.mbBusy = m.host.mbBusy ∧
        (∀ a, 0x9100 ≤ a → a < 0x9300 → rget n.regs a = regReset a) ∧
        (∀ a, ¬(0x9100 ≤ a ∧ a < 0x9300) → a ≠ rawOf 0x08 → a ≠ rawOf 0x00 → rget n.regs a = rget m.regs a) ∧
        n.top = { m.top with
          phase := if m.top.phase = .service then .recovery else m.top.phase
          hostRst := m.top.hostRst || m.top.phase == .service
          hostRsts := BitVec.ofNat 8 (min 255 (m.top.hostRsts.toNat + 1)) } ∧
        Only [.now, .host, .regs, .top, .flt] m n))

/-- Completes: msixMessage, hostVecArm, upstreamCompletion, completionTimeout. 13 R490: a due message of an unmasked vector
leaves and clears ARMED; of a masked vector it sets the PBA bit; a vector that is not armed sends nothing; a 1 in
HOST_VEC_ARM arms its vector and disarms none, but not one whose message has answered a new pending condition of the same
sample (R491). 13 R466, R467: a completion gives the waiting request of its tag its data, or ends it as an error access
with its count and source; an expiry ends it as an error access, counts and raises, unless the same sample registers its
completion (12 R438); one for a tag that does not wait is unexpected, and no request changes; AER keeps each of these
errors. Clauses that rest on a reading or choice of the model follow log entries 14 and 104. -/
def Obligations.MessagesAndUpstreamCompletions : Prop :=
  (∀ (t : Nat) (v : Fin 32) (s : State), s.coreOn = true →
      (s.messageDue v = true → bit (rget s.regs (Reg.MSIX_VEC v + 12)) 0 = false → s.linkReady = true →
        ∃ n, exec (.msixMessage t v) s = .next n ∧
          n.out = .msix v ((rget s.regs (Reg.MSIX_VEC v)).toNat + (rget s.regs (Reg.MSIX_VEC v + 4)).toNat * 2 ^ 32)
            (rget s.regs (Reg.MSIX_VEC v + 8)) :: s.out ∧
          (∀ w : Fin 32, bit n.host.armed w = (bit s.host.armed w && decide (w ≠ v))) ∧ bit n.host.pba v = false ∧
          n.host.up = s.host.up ∧ Only [.now, .host, .out] s n) ∧
      (s.messageDue v = true → bit (rget s.regs (Reg.MSIX_VEC v + 12)) 0 = true →
        ∃ n, exec (.msixMessage t v) s = .next n ∧ bit n.host.pba v = true ∧ n.host.armed = s.host.armed ∧
          Only [.now, .host] s n) ∧
      (bit s.host.armed v = false → ∃ n, exec (.msixMessage t v) s = .next n ∧ n.out = s.out ∧
        n.host.armed = s.host.armed ∧ Only [.now, .host] s n) ∧
      (∀ (req : Req) (w : Word), s.Writable t req 0x08 → ∃ n, exec (.hostVecArm t req w) s = .next n ∧
        n.host = { s.host with armed := s.host.armed ||| (w &&& ~~~(s.stamp t).answered) } ∧ Only [.now, .host] s n)) ∧
  (∀ (t tag : Nat) (s : State), s.coreOn = true → s.Canonical →
      (s.host.awaits tag = true → s.host.portSpi = false → ∀ b, s.Fresh (.upstreamCompletion t tag (.data b)) → ∃ n, exec (.upstreamCompletion t tag (.data b)) s = .next n ∧
        n.host = { s.host with up := s.host.up.map (fun x => if x.tag = tag then { x with res := .data b } else x) } ∧
        Only [.now, .host] s n) ∧
      (s.host.awaits tag = true → s.host.portSpi = false → ∀ a, a = .status ∨ a = .poisoned → s.Fresh (.upstreamCompletion t tag a) →
        ∃ n, exec (.upstreamCompletion t tag a) s = .next n ∧
        n.host.up = s.host.up.map (fun x => if x.tag = tag then { x with res := .error } else x) ∧
        rget n.regs Reg.HOST_CPLERR = satAdd (rget s.regs Reg.HOST_CPLERR) 1 ∧ Raised [Src.HP_CPLERR] s n ∧
        (n.host.aer = if a = .poisoned then .poisonedTlp :: s.host.aer else s.host.aer) ∧
        RegsOnly [Reg.HOST_CPLERR] s n ∧ Only [.now, .host, .regs, .flt] s n) ∧
      (s.host.awaits tag = false → s.host.portSpi = false → ∀ a, s.Fresh (.upstreamCompletion t tag a) →
        ∃ n, exec (.upstreamCompletion t tag a) s = .next n ∧
        n.host = { s.host with aer := .unexpectedCompletion :: s.host.aer } ∧ Only [.now, .host] s n) ∧
      (s.host.awaits tag = true → (s.stamp t).completing tag = false → ∃ n, exec (.completionTimeout t tag) s = .next n ∧
        n.host.up = s.host.up.map (fun x => if x.tag = tag then { x with res := .error } else x) ∧
        rget n.regs Reg.HOST_CPLTO = satAdd (rget s.regs Reg.HOST_CPLTO) 1 ∧
        rget n.regs (rawOf 0x08) = rget s.regs (rawOf 0x08) ||| 2 ∧ Raised [Src.HP_CPLTO] s n ∧
        n.host.aer = .completionTimeout :: s.host.aer ∧
        RegsOnly [Reg.HOST_CPLTO, rawOf 0x08] s n ∧ Only [.now, .host, .regs, .flt] s n) ∧
      (s.host.awaits tag = false ∨ (s.stamp t).completing tag = true →
        exec (.completionTimeout t tag) s = .next { s with now := max s.now t }))

/-- Completes: qspiWrite, qspiStatus, qspiIdent, qspiRead, qspiReadTimeout. 13 R468–R473: on the quad-SPI port a WRITE of one
dword enters the queue, and is discarded with ERR where the queue is full; STATUS answers its byte and clears ERR; IDENT
answers its four bytes; a READ of a register with nothing queued answers the marker and the register; a read that is not
ready in 100 µs, nor in that sample (12 R438), answers the error marker and sets ERR; an illegal address counts once.
Clauses that rest on a reading or choice of the model follow log entry 77. -/
def Obligations.QuadSpiTransactions : Prop :=
  ∀ (t : Nat) (a : Word) (s : State), s.coreOn = true → s.host.portSpi = true → s.Canonical →
    (∀ b0 b1 b2 b3 : Byte, qspiGood a = true → ∃ n, exec (.qspiWrite t a [b0, b1, b2, b3]) s = .next n ∧
      n.host = (if s.host.qspiQ.length < 16 then
        { s.host with qspiQ := s.host.qspiQ ++ [(a, BitVec.ofNat 32 (ofBytesLE [b0, b1, b2, b3]))] }
        else { s.host with qspiErr := true }) ∧ Only [.now, .host] s n) ∧
    (∀ l, qspiGood a = false → ∃ n, exec (.qspiWrite t a l) s = .next n ∧
      rget n.regs Reg.HOST_BADACC = satAdd (rget s.regs Reg.HOST_BADACC) 1 ∧ Raised [Src.HP_BADACC] s n ∧
      RegsOnly [Reg.HOST_BADACC] s n ∧ Only [.now, .regs, .flt] s n) ∧
    (∃ n, exec (.qspiStatus t) s = .next n ∧ n.host = { s.host with qspiErr := false } ∧
      (∃ b : Byte, n.out = .qspi [b] :: s.out ∧ bit b 0 = !s.host.qspiQ.isEmpty ∧ bit b 1 = decide (16 ≤ s.host.qspiQ.length) ∧
        bit b 2 = s.host.qspiErr ∧ bit b 3 = s.hirq) ∧ Only [.now, .host, .out] s n) ∧
    (∃ n, exec (.qspiIdent t) s = .next n ∧ n.out = .qspi [0xB1, 0x00, 0x10, 0x44] :: s.out ∧ Only [.now, .out] s n) ∧
    (qspiGood a = true → qspiBar2 a = false → s.host.qspiQ = [] → counterLow (qspiOff0 a) = false →
      s.stalledTo (pageDomain (qspiOff0 a / 0x1000)) = false → ∃ n m, exec (.qspiRead t a 1) s = .next n ∧
      m = { s with now := max s.now t } ∧
      n.out = .qspi (0xA5#8 :: toBytesLE 4 (m.readWord .host (qspiOff0 a)).toNat) :: s.out ∧ Only [.now, .out] s n) ∧
    (qspiGood a = true → (s.stamp t).qspiReady a = false → ∃ n, exec (.qspiReadTimeout t a) s = .next n ∧ n.host = { s.host with qspiErr := true } ∧
      n.out = .qspi [0x5A, 0, 0, 0, 0] :: s.out ∧ Only [.now, .host, .out] s n)

/-- Completes: registerWrite, counterLowWordRead. 00 R5–R7; 11 R412, R419; 13 R477: a write to a page whose registers hold
what is written changes the writable bits of the register and nothing else; of a shadowed register the shadow copy, noted
until the first commit, and discarded with SHWLOCK while a commit of its surface is in progress; where no register stands
it has no effect; a partial write of a BAR0 dword counts and has no effect. 11 R425, R429: a requester's read of TM_FCNT's
low word answers it and latches the high word for that requester alone; its later read of the high word answers what was
latched, whatever the count has become. Clauses that rest on a reading or choice of the model follow log entry 78. -/
def Obligations.RegisterWritesAndCounterReads : Prop :=
  (∀ (t : Nat) (req : Req) (a : BitVec 21) (v : Word) (s : State), s.coreOn = true → s.Canonical → a.toNat < 0x100000 →
      (∀ be, be ≠ 0xF → s.Fresh (.registerWrite t req a v be) → ∃ n, exec (.registerWrite t req a v be) s = .next n ∧
        rget n.regs Reg.HOST_BADACC = satAdd (rget s.regs Reg.HOST_BADACC) 1 ∧ Raised [Src.HP_BADACC] s n ∧
        RegsOnly [Reg.HOST_BADACC] s n ∧ Only [.now, .regs, .flt] s n) ∧
      (pageUsed (a.toNat / 0x1000) = false → s.Fresh (.registerWrite t req a v 0xF) → ∃ n, exec (.registerWrite t req a v 0xF) s = .next n ∧ Only [.now] s n) ∧
      (a.toNat % 4 = 0 → 0x040 ≤ a.toNat % 0x1000 → a.toNat % 0x1000 < 0x800 → s.Writable t req (a.toNat / 0x1000) →
        s.Fresh (.registerWrite t req a v 0xF) → (s.stamp t).cold a.toNat v = v →
        a.toNat / 0x1000 ∈ [0x01, 0x02, 0x3C, 0x3E, 0x40] ∨ (0x10 ≤ a.toNat / 0x1000 ∧ a.toNat / 0x1000 < 0x20) →
        (regRow a.toNat = none → ∃ n, exec (.registerWrite t req a v 0xF) s = .next n ∧ Only [.now] s n) ∧
        (∀ r, regRow a.toNat = some r → ∃ n, exec (.registerWrite t req a v 0xF) s = .next n ∧
          (r.sh = false ∨ s.cmt.st = .idle →
            (∀ i, i < 32 → bit (rget n.regs a.toNat) i = if Nat.testBit r.mask i then bit v i else bit (rget s.regs a.toNat) i) ∧
            RegsOnly [a.toNat] s n ∧ Only [.now, .regs, .cmt] s n) ∧
          (r.sh = false → n.cmt = s.cmt) ∧
          (r.sh = true → s.cmt.st = .idle → s.cmt.accepted = false → a.toNat ∈ n.cmt.written) ∧
          (r.sh = true → s.locked a.toNat (mergeWord r.mask (rget s.regs a.toNat) v) = true →
            n.cmt = { s.cmt with shwLock := true } ∧ Only [.now, .cmt] s n)))) ∧
  (∀ (t : Nat) (req : Req) (s : State), s.coreOn = true → s.stalledTo (pageDomain 0x01) = false →
      (∃ n, exec (.counterLowWordRead t req 0x01058) s = .next n ∧
        n.hi[holdOf req] = BitVec.ofNat 32 (s.tb.fcnt.toNat / 2 ^ 32) ∧
        (∀ i : Fin 10, i ≠ holdOf req → n.hi[i] = s.hi[i]) ∧
        n.out = .data req (toBytesLE 4 (BitVec.ofNat 32 s.tb.fcnt.toNat).toNat) :: s.out ∧ Only [.now, .hi, .out] s n) ∧
      (∃ n, exec (.counterLowWordRead t req 0x0105C) s = .next n ∧
        n.out = .data req (toBytesLE 4 (s.hi[holdOf req]).toNat) :: s.out ∧ Only [.now, .out] s n))

/-- Completes: mbDoor, mailboxTimeout, fpMbDone, fpMbEvt. 13 R498, R499; 18 R661, R662: a doorbell to an idle and open mailbox
copies the sixteen dwords to Forester's page in one sample, sets BUSY there and PENDING with SEQ and LEN, and asserts its
request line; one that finds it busy, closed or of a length outside 1 to 16 is refused with HWCODE 1, 2 or 4; a time-out
ends the request with HWCODE 3 and HP_MBTO, unless the same sample brings its completion (12 R438). In the recovery set
the boot ROM answers PING and UPD_STATUS with RC 0, and a command that is not marked R with RC 1 (18 R642, R663). 18 R662:
a completion of the pending request copies RSPLEN dwords to the host's page in one sample, clears BUSY and PENDING and
sets DONE with the request's SEQ; one that names another SEQ, or finds none pending, is discarded with DISCARD and its
interrupt; a 1 in FP_MB_EVT sets the event and nothing else. Clauses that rest on a reading or choice of the model follow
log entries 19 and 106. -/
def Obligations.MailboxRequestsAndCompletions : Prop :=
  (∀ (t : Nat) (s : State), s.coreOn = true → s.Canonical →
      (∀ (req : Req) (v : Word), s.Writable t req 0x58 →
        (s.host.mbBusy = false → s.host.mbFell ≠ some (max s.now t / tick) → s.mbOpen = true → 1 ≤ fld v 8 5 → fld v 8 5 ≤ 16 →
          s.fst.st ≠ .recovery → ∃ n, exec (.mbDoor t req v) s = .next n ∧
            (∀ i, i < 16 → rget n.regs (Reg.FP_MB_REQ i) = rget s.regs (Reg.MB_REQ i)) ∧
            (∀ a, (∀ i, i < 16 → a ≠ Reg.FP_MB_REQ i) → rget n.regs a = rget s.regs a) ∧
            n.host = { s.host with
              mbBusy := true, mbReqSeq := BitVec.ofNat 8 (fld v 0 8), mbReqLen := BitVec.ofNat 5 (fld v 8 5) } ∧
            n.fst = { s.fst with
              irq := s.fst.irq ||| 1, mbPending := true, mbSeq := BitVec.ofNat 8 (fld v 0 8)
              mbLen := BitVec.ofNat 5 (fld v 8 5) } ∧ Only [.now, .regs, .host, .fst] s n) ∧
        (∀ code, (code = 1 ∧ (s.host.mbBusy = true ∨ s.host.mbFell = some (max s.now t / tick))) ∨
            (code = 2 ∧ s.host.mbBusy = false ∧ s.host.mbFell ≠ some (max s.now t / tick) ∧ s.mbOpen = false) ∨
            (code = 4 ∧ s.host.mbBusy = false ∧ s.host.mbFell ≠ some (max s.now t / tick) ∧ s.mbOpen = true ∧
              (fld v 8 5 = 0 ∨ 16 < fld v 8 5)) →
          ∃ n, exec (.mbDoor t req v) s = .next n ∧
            n.host = { s.host with
              mbRefused := true, mbCode := BitVec.ofNat 4 code, mbSeq := BitVec.ofNat 8 (fld v 0 8) } ∧
            rget n.regs (rawOf 0x58) = rget s.regs (rawOf 0x58) ||| 1 ∧ RegsOnly [rawOf 0x58] s n ∧
            Only [.now, .regs, .host] s n) ∧
        (s.host.mbBusy = false → s.host.mbFell ≠ some (max s.now t / tick) → s.mbOpen = true → 1 ≤ fld v 8 5 → fld v 8 5 ≤ 16 →
          s.fst.st = .recovery → ∀ cmd rc ws, cmd = fld (rget s.regs (Reg.MB_REQ 0)) 0 16 →
          (cmd = 0x0001 ∧ rc = 0 ∧ ws = [Config.romVersion]) ∨ (cmd = 0x0105 ∧ rc = 0 ∧ ws = s.fst.rom.status) ∨
            (cmd ∉ [0x0001, 0x0002, 0x0100, 0x0101, 0x0102, 0x0105, 0x0200] ∧ rc = 1 ∧ ws = []) →
          ∃ n, exec (.mbDoor t req v) s = .next n ∧ n.host.mbBusy = false ∧ n.host.mbDone = true ∧
            n.host.mbSeq = BitVec.ofNat 8 (fld v 0 8) ∧ n.host.mbRspLen = BitVec.ofNat 5 (ws.length + 1) ∧
            rget n.regs (Reg.MB_RSP 0) = (at32 0 rc ||| at32 16 cmd) ∧
            (∀ i, i < ws.length → rget n.regs (Reg.MB_RSP (i + 1)) = ws.getD i 0) ∧ Only [.now, .regs, .host, .fst] s n)) ∧
      (s.host.mbBusy = true → (s.stamp t).mbAnswering = false → ∃ n, exec (.mailboxTimeout t) s = .next n ∧
        n.host = { s.host with
          mbBusy := false, mbFell := some (max s.now t / tick), mbTimeout := true, mbCode := 3, mbSeq := s.host.mbReqSeq } ∧
        n.fst = { s.fst with mbPending := false, mbDiscard := true } ∧ Raised [Src.HP_MBTO] s n ∧
        rget n.regs (rawOf 0x58) = rget s.regs (rawOf 0x58) ||| 1 ∧ RegsOnly [rawOf 0x58] s n ∧
        Only [.now, .regs, .host, .fst, .flt] s n) ∧
      (s.host.mbBusy = false ∨ (s.stamp t).mbAnswering = true →
        exec (.mailboxTimeout t) s = .next { s with now := max s.now t })) ∧
  (∀ (t : Nat) (v : Word) (s : State), s.coreOn = true → s.fst.st ≠ .reset → s.Canonical →
      (s.fst.mbPending = true → s.fst.mbSeq = BitVec.ofNat 8 (fld v 0 8) → fld v 8 5 ≤ 16 →
        ∃ n, exec (.fpMbDone t v) s = .next n ∧
          (∀ i, i < fld v 8 5 → rget n.regs (Reg.MB_RSP i) = rget s.regs (Reg.FP_MB_RSP i)) ∧
          (∀ a, a ≠ rawOf 0x58 → (∀ i, i < fld v 8 5 → a ≠ Reg.MB_RSP i) → rget n.regs a = rget s.regs a) ∧
          rget n.regs (rawOf 0x58) = rget s.regs (rawOf 0x58) ||| 1 ∧
          n.host = { s.host with
            mbBusy := false, mbFell := some (max s.now t / tick), mbDone := true, mbCode := 0, mbSeq := s.host.mbReqSeq
            mbRspLen := BitVec.ofNat 5 (fld v 8 5) } ∧
          n.fst = { s.fst with mbPending := false } ∧ Only [.now, .regs, .host, .fst] s n) ∧
      (s.fst.mbPending = false ∨ s.fst.mbSeq ≠ BitVec.ofNat 8 (fld v 0 8) → ∃ n, exec (.fpMbDone t v) s = .next n ∧
        n.fst = { s.fst with irq := s.fst.irq ||| 2, mbDiscard := true } ∧ Only [.now, .fst] s n) ∧
      (∃ n, exec (.fpMbEvt t v) s = .next n ∧ (∀ i, bit (rget n.regs (rawOf 0x58)) i =
          (bit (rget s.regs (rawOf 0x58)) i || (decide (i = 1) && bit v 0))) ∧
        RegsOnly [rawOf 0x58] s n ∧ Only [.now, .regs] s n))

/-! ### Forester (chapter 18) -/

/-- Completes: foresterReset, swrst, tcmError, foresterException, fpWdog, firmwareWatchdogExpiry. 18 R638–R640, 19 R674: a
Forester reset puts the processor into the ROM with its cause, clears the FP page, keeps the TCM and, but for cause 1,
FP_BOOT, opens the boot window and sets ROMPHASE; SWRST with RST = 1 and an uncorrectable TCM word are such resets, with
causes 5 and 4; a corrected TCM word and an exception raise their source. 18 R659, R660: the two keys in order service the
watchdog, which ends the boot window; a second key alone, or a service within a quarter of the window of the one before,
is an expiry: GL_FWDOG is raised and Forester is reset with cause 3. The end of the window is one too, unless a service
comes in its sample (12 R438) or the recovery set services the watchdog (18 R642). Clauses that rest on a reading or
choice of the model follow log entry 40. -/
def Obligations.ForesterResetsAndWatchdog : Prop :=
  (∀ (t : Nat) (s : State), s.coreOn = true →
      (∀ c : ForCause, c ≠ .shutdown → ∃ n, exec (.foresterReset t c) s = .next n ∧
        n.fst = { st := .rom, cause := causeCode c, tcm := s.fst.tcm
                  triedA := s.fst.triedA && decide (c ≠ .power), triedB := s.fst.triedB && decide (c ≠ .power) } ∧
        n.sec = { s.sec with romPhase := true } ∧
        n.glade = { s.glade with wdBoot := true, wdAt := max s.now t, wdStopped := false } ∧
        (∀ a, a < 0x100000 → rget n.regs a = rget s.regs a) ∧
        (∀ a, 0x100000 ≤ a → a ≠ Reg.FP_BOOT → rget n.regs a = regReset a) ∧
        rget n.regs Reg.FP_BOOT = (if c = .power then regReset Reg.FP_BOOT else rget s.regs Reg.FP_BOOT) ∧
        n.log.wr = s.log.wr + 1 ∧ Only [.now, .fst, .sec, .glade, .regs, .log, .flt] s n) ∧
      (∀ v, s.fst.st ≠ .reset → bit v 0 = true → ∃ n, exec (.swrst t v) s = .next n ∧ n.fst.st = .rom ∧ n.fst.cause = 5 ∧
        n.fst.tcm = s.fst.tcm ∧ n.sec = { s.sec with romPhase := true } ∧
        (∀ a, a < 0x100000 → rget n.regs a = rget s.regs a) ∧ Only [.now, .fst, .sec, .glade, .regs, .log, .flt] s n) ∧
      (∀ w, s.fst.st ≠ .reset → ∃ n, exec (.tcmError t (.double w)) s = .next n ∧ n.fst.st = .rom ∧ n.fst.cause = 4 ∧
        w ∈ n.fst.tcm.ue ∧ n.fst.tcm.cells = s.fst.tcm.cells ∧ Src.FO_TCMUE ∈ n.flt.raised ∧
        Only [.now, .fst, .sec, .glade, .regs, .log, .flt] s n) ∧
      (∀ w, s.fst.st ≠ .reset → ∃ n, exec (.tcmError t (.single w)) s = .next n ∧
        n.fst = { s.fst with tcm := { s.fst.tcm with ce := s.fst.tcm.ce.filter (fun x => x != w) } } ∧
        Raised [Src.FO_TCMCE] s n ∧ Only [.now, .fst, .flt] s n) ∧
      (∀ c, s.fst.st ≠ .reset → (∃ n, exec (.foresterException t (.pmp c)) s = .next n ∧
          n.fst = { s.fst with mcause := c } ∧ Raised [Src.FO_PMP] s n ∧ Only [.now, .fst, .flt] s n) ∧
        (∃ n, exec (.foresterException t (.other c)) s = .next n ∧
          n.fst = { s.fst with mcause := c } ∧ Raised [Src.FO_TRAP] s n ∧ Only [.now, .fst, .flt] s n))) ∧
  (∀ (t : Nat) (v : Word) (s : State), s.coreOn = true → s.gladeOn = true → s.wdRuns = true →
      (fld v 0 16 = 0x5A5A → ∃ n, exec (.fpWdog t v) s = .next n ∧ n.fst = { s.fst with wdKey := true } ∧
        Only [.now, .fst] s n) ∧
      (fld v 0 16 = 0xA5A5 → s.fst.wdKey = true → s.glade.wdBoot = true → ∃ n, exec (.fpWdog t v) s = .next n ∧
        n.glade.wdBoot = false ∧ n.glade.wdAt = max s.now t ∧ bit n.glade.cond 11 = false ∧
        n.fst = { s.fst with wdKey := false } ∧ n.sec = s.sec ∧ Only (touches (.fpWdog t v)) s n) ∧
      (fld v 0 16 ≠ 0x5A5A → (fld v 0 16 ≠ 0xA5A5 ∨ s.fst.wdKey = false) → ∃ n, exec (.fpWdog t v) s = .next n ∧
        n.fst.st = .rom ∧ n.fst.cause = 3 ∧ bit n.glade.raised 11 = true ∧ n.glade.wdBoot = true ∧
        Only (touches (.fpWdog t v)) s n) ∧
      (fld v 0 16 = 0xA5A5 → s.fst.wdKey = true → s.glade.wdBoot = false →
        (max s.now t - s.glade.wdAt) / msec < s.glade.runMs / 4 → ∃ n, exec (.fpWdog t v) s = .next n ∧
        n.fst.st = .rom ∧ n.fst.cause = 3 ∧ bit n.glade.raised 11 = true) ∧
      ((s.stamp t).servicing = true ∨ s.romServes = true →
        exec (.firmwareWatchdogExpiry t) s = .next { s with now := max s.now t }) ∧
      ((s.stamp t).servicing = false → s.romServes = false →
        ∃ n, exec (.firmwareWatchdogExpiry t) s = .next n ∧ n.fst.st = .rom ∧ n.fst.cause = 3 ∧
        bit n.glade.raised 11 = true ∧ n.fst.tcm = s.fst.tcm ∧ n.glade.wdAt = max s.now t ∧
        Only (touches (.firmwareWatchdogExpiry t)) s n))

/-- Completes: spiNorCommand, spiNorCommandDone, spiNorWipTimeout, sensorSlotDue, sensorTransferDone, sensorSclTimeout,
uartByteReceived, logAppendFirmware, fpLogRd, logExportRead. 18 R644, R646, R666: a command to an idle flash outside LOAD
and any guard goes out with its bytes and is in progress; a read's end fills the buffer from its start and sets DONE with
its interrupt; the end of a write's polling without success sets ERR and raises FO_FLASH, and FO_JRNL for a journal slot,
unless the command ends in that sample; a program of Glade's parameters is refused. 18 R656–R658: a slot that falls due on
a free bus starts its transfer there, and on a busy bus waits; a good transfer gives the slot its bytes and counts, a bad
one or a stretched clock sets ERR and raises FO_I2C; the bus then takes the lowest slot that waits for it. 18 R645,
R651–R655: a byte received enters the FIFO, or sets RXOVF where it is full; a firmware record takes the index WR with its
code's top bit set and the words written before it, in a full ring in the place of the oldest, which counts in LOST and
raises FO_LOGOVF; firmware moves RD only while export is off; an export read answers the record at RD and moves on.
Clauses that rest on a reading or choice of the model follow log entries 20, 44, 79 and 106. -/
def Obligations.ForesterPeripherals : Prop :=
  (∀ (t : Nat) (v : Word) (s : State), s.coreOn = true → s.fst.st ≠ .reset → s.Canonical →
      (s.fst.spi.cmd = none → s.loading = false → s.norGuarded v (BitVec.ofNat 24 (rget s.regs Reg.FP_SPI_ADDR).toNat) = false →
        s.thm.window = false → ∃ n, exec (.spiNorCommand t v) s = .next n ∧
          n.fst = { s.fst with spi := { s.fst.spi with
            cmd := some (v, BitVec.ofNat 24 (rget s.regs Reg.FP_SPI_ADDR).toNat), loadWait := false
            journal := s.fst.spi.journal || inJournal (norRange v (BitVec.ofNat 24 (rget s.regs Reg.FP_SPI_ADDR).toNat)) } } ∧
          n.out = .nor v (BitVec.ofNat 24 (rget s.regs Reg.FP_SPI_ADDR).toNat)
            (if bit v 15 then norBuf s.regs (fld v 16 9) else []) :: s.out ∧ Only [.now, .fst, .out] s n) ∧
      (s.fst.spi.cmd = none → s.loading = false → fld v 0 8 = 0x02 → s.sec.dbgLevel.toNat < 2 →
        0x10000 ≤ fld (rget s.regs Reg.FP_SPI_ADDR) 0 24 → fld (rget s.regs Reg.FP_SPI_ADDR) 0 24 < 0x12000 →
        ∃ n, exec (.spiNorCommand t v) s = .next n ∧ n.out = s.out ∧
          n.fst = { s.fst with irq := s.fst.irq ||| 16, spi := { s.fst.spi with refused := true, loadWait := false } } ∧
          Only [.now, .fst] s n) ∧
      (∀ a (d : List Byte), s.fst.spi.cmd = some (v, a) → s.fst.spi.loadWait = false →
        ¬(s.fst.st = .recovery ∧ s.fst.rom.steps ≠ []) → ∃ n, exec (.spiNorCommandDone t d) s = .next n ∧
          n.fst = { s.fst with irq := s.fst.irq ||| 16, spi := { s.fst.spi with
            cmd := none, done := true, last := some (v, a), journal := s.fst.spi.journal && !journalLast v a } } ∧
          (bit v 15 = true → n.regs = s.regs) ∧
          (bit v 15 = false → (norBuf n.regs 256).take (min (min 256 (fld v 16 9)) d.length) =
            d.take (min 256 (fld v 16 9))) ∧
          (∀ x, (∀ i, i < 64 → x ≠ Reg.FP_SPI_BUF i) → rget n.regs x = rget s.regs x) ∧ Only [.now, .fst, .regs] s n) ∧
      (∀ a, s.fst.spi.cmd = some (v, a) → s.fst.spi.loadWait = false → bit v 25 = true →
        ¬(s.fst.st = .recovery ∧ s.fst.rom.steps ≠ []) → (s.stamp t).norEnding = false →
        ∃ n, exec (.spiNorWipTimeout t) s = .next n ∧
          Raised (Src.FO_FLASH :: if inJournal (norRange v a) then [Src.FO_JRNL] else []) s n ∧
          n.fst = { s.fst with irq := s.fst.irq ||| 16, spi := { s.fst.spi with
            cmd := none, done := true, err := true, last := some (v, a)
            journal := s.fst.spi.journal && !inJournal (norRange v a) } } ∧
          Only [.now, .fst, .flt] s n) ∧
      ((s.stamp t).norEnding = true → exec (.spiNorWipTimeout t) s = .next { s with now := max s.now t })) ∧
  (∀ (t : Nat) (k : Fin 8) (b : Fin 2) (s : State), s.coreOn = true → s.fst.st ≠ .reset → s.Canonical →
      b = slotBus s.regs k →
      (bit (rget s.regs (Reg.FP_SEN_CFG k)) 0 = true → s.slotBusy k = false → s.fst.bus[b] = none →
        (∀ m : Fin 8, (s.fst.slots[m]).waiting = false) → ∃ n, exec (.sensorSlotDue t k) s = .next n ∧
          n.fst = { s.fst with bus := s.fst.bus.set b (some k) } ∧ n.out = .i2c b k :: s.out ∧ Only [.now, .fst, .out] s n) ∧
      (bit (rget s.regs (Reg.FP_SEN_CFG k)) 0 = true → s.slotBusy k = false → s.fst.bus[b] ≠ none →
        ∃ n, exec (.sensorSlotDue t k) s = .next n ∧
          n.fst = { s.fst with slots := s.fst.slots.set k { s.fst.slots[k] with waiting := true } } ∧ Only [.now, .fst] s n) ∧
      (s.fst.bus[b] = some k → bit (rget s.regs (Reg.FP_SEN_CFG k)) 4 = false →
        (∀ m : Fin 8, (s.fst.slots[m]).waiting = false) →
        (∀ d, ∃ n, exec (.sensorTransferDone t b true d) s = .next n ∧
          n.fst = { s.fst with
            irq := s.fst.irq ||| 8, bus := s.fst.bus.set b none
            slots := s.fst.slots.set k { s.fst.slots[k] with
              value := BitVec.ofNat 32 (ofBytesLE ((d.take (fld (rget s.regs (Reg.FP_SEN_CFG k)) 24 3)).take 4))
              count := (s.fst.slots[k]).count + 1, goodAt := some (max s.now t) } } ∧ Only [.now, .fst] s n) ∧
        (∀ c d, c = Instr.sensorTransferDone t b false d ∨ (c = Instr.sensorSclTimeout t b ∧ (s.stamp t).senEnding b = false) →
          ∃ n, exec c s = .next n ∧ n.fst = { s.fst with
            irq := s.fst.irq ||| 8, bus := s.fst.bus.set b none
            slots := s.fst.slots.set k { s.fst.slots[k] with err := true } } ∧
            Raised [Src.FO_I2C] s n ∧ Only [.now, .fst, .flt] s n))) ∧
  (∀ (t : Nat) (s : State), s.coreOn = true → s.Canonical →
      (∀ b, s.fst.st ≠ .reset → s.fst.uartRx.length < 16 → ∃ n, exec (.uartByteReceived t b) s = .next n ∧
        n.fst = { s.fst with irq := s.fst.irq ||| 32, uartRx := s.fst.uartRx ++ [b] } ∧ Only [.now, .fst] s n) ∧
      (∀ b, s.fst.st ≠ .reset → 16 ≤ s.fst.uartRx.length → ∃ n, exec (.uartByteReceived t b) s = .next n ∧
        n.fst = { s.fst with rxOvf := true } ∧ Only [.now, .fst] s n) ∧
      (∀ v, s.fst.st ≠ .reset → ∃ n, exec (.logAppendFirmware t v) s = .next n ∧
        n.log.wr = s.log.wr + 1 ∧ n.log.lseq = s.log.lseq + 1 ∧
        (s.log.full = true → n.log.rd = s.log.rd + 1 ∧ n.log.lost = satAdd s.log.lost 1) ∧
        (s.log.full = false → n.log.rd = s.log.rd ∧ n.log.lost = s.log.lost) ∧
        ((n.log.recAt s.log.wr.toNat).getD 0 0 = s.log.lseq) ∧
        ((n.log.recAt s.log.wr.toNat).getD 1 0 =
          at32 0 (fld v 0 15 + 0x8000) ||| at32 16 (fld v 16 8) ||| 0x01000000) ∧
        ((n.log.recAt s.log.wr.toNat).getD 4 0 = rget s.regs (Reg.FP_LOGW 0)) ∧
        ((n.log.recAt s.log.wr.toNat).getD 5 0 = rget s.regs (Reg.FP_LOGW 1)) ∧
        Raised (if s.log.full then [Src.FO_LOGOVF] else []) s n ∧ Only [.now, .log, .flt] s n) ∧
      (∀ v, s.fst.st ≠ .reset → bit (rget s.regs Reg.FP_LOG_CFG) 0 = true → ∃ n, exec (.fpLogRd t v) s = .next n ∧
        Only [.now] s n) ∧
      (∀ v, s.fst.st ≠ .reset → bit (rget s.regs Reg.FP_LOG_CFG) 0 = false → ∃ n, exec (.fpLogRd t v) s = .next n ∧
        n.log.rd = BitVec.ofNat 10 v.toNat ∧ n.log.wr = s.log.wr ∧ Only [.now, .log] s n) ∧
      (∀ ch, bit (rget s.regs Reg.FP_LOG_CFG) 0 = true → s.log.empty = false → ∃ n, exec (.logExportRead t ch) s = .next n ∧
        n.out = .data (.dma ch) (recBytes (s.log.recAt s.log.rd.toNat)) :: s.out ∧ n.log.rd = s.log.rd + 1 ∧
        n.log.full = false ∧ n.log.wr = s.log.wr ∧ Only [.now, .log, .dma, .out] s n))

/-! ### Glade (chapter 17) and its interface (chapter 16) -/

/-- Completes: classLineChange, classLineFault, lineMaskExpiry, heartbeatToggle, heartbeatTimeout. 17 R606, R612, R634; 16
R573: the lines are taken as they stand at Glade's inputs; L4, not masked, puts Glade into LOCKOUT with CAUSE 2, its array
enables low; a line whose two levels are equal counts as true and raises GL_HB; the end of the mask takes the lines again.
16 R570, R573; 17 R605: a heartbeat toggle changes the level and ends GL_HB's condition; a missing one raises GL_HB, which
is an arrival the first time, unless the same sample registers a change (12 R438). Clauses that rest on a reading or
choice of the model follow log entries 38 and 39. -/
def Obligations.LinesThatReachGlade : Prop :=
  (∀ (t : Nat) (s : State), s.gladeOn = true →
      (∀ l : BitVec 5, ∃ n, exec (.classLineChange t l) s = .next n ∧ n.glade.lines = l ∧
        n.glade.lineBad = s.glade.lineBad &&& l ∧ n.glade.masked = s.glade.masked &&& l ∧
        (bit l 3 = true → bit s.glade.masked 3 = false →
          n.glade.st = .lockout ∧ n.glade.aenDrv = 0 ∧ n.glade.errFault = true ∧
          (s.glade.st ≠ .lockout → n.glade.cause = 2)) ∧
        n.glade.gpr = s.glade.gpr ∧ n.glade.sspi = s.glade.sspi ∧ n.glade.fb = s.glade.fb ∧
        Only [.now, .glade, .flt, .log] s n) ∧
      (∀ l : Fin 5, ∃ n, exec (.classLineFault t l) s = .next n ∧ bit n.glade.lines l = true ∧ bit n.glade.lineBad l = true ∧
        n.glade.masked = s.glade.masked ∧ bit n.glade.raised 10 = true ∧
        (bit s.glade.raised 10 = false → Src.GL_HB ∈ n.flt.raised) ∧
        (l = 3 → bit s.glade.masked 3 = false → n.glade.st = .lockout) ∧ Only [.now, .glade, .flt, .log] s n) ∧
      (∃ n, exec (.lineMaskExpiry t) s = .next n ∧ n.glade.masked = 0 ∧ n.glade.lines = s.glade.lines ∧
        (bit s.glade.lines 3 = true → n.glade.st = .lockout) ∧ Only [.now, .glade, .flt, .log] s n)) ∧
  (∀ (t : Nat) (s : State), s.gladeOn = true →
      (s.coreOn = true → ∃ n, exec (.heartbeatToggle t) s = .next n ∧ n.flt.beat = !s.flt.beat ∧
        bit n.glade.cond 10 = false ∧ n.glade.lines = s.glade.lines ∧ Only [.now, .glade, .flt, .log] s n) ∧
      ((s.stamp t).beating = true → exec (.heartbeatTimeout t) s = .next (s.stamp t).gladeSettle) ∧
      ((s.stamp t).beating = false → ∃ n, exec (.heartbeatTimeout t) s = .next n ∧ bit n.glade.raised 10 = true ∧ n.flt.beat = s.flt.beat ∧
        (bit s.glade.raised 10 = false → Src.GL_HB ∈ n.flt.raised) ∧ n.glade.lines = s.glade.lines ∧
        Only [.now, .glade, .flt, .log] s n))

/-- Completes: gladeCycle, rcClockWindow, sysclkCheckWindow, gladeSupplyFault, readbackMismatch, fallbackCrcCheck. 17 R595,
R598, R599, R601, R611, R612: a Glade cycle takes the levels of the safety inputs and of SRST_N, filters a level after 4 ×
FILT equal samples, and runs the discrepancy timer while the filtered levels differ; a press of 50 ms to 3 s in LOCKOUT
with no lock condition left, nor L4 rising in that sample (17 R632), leaves LOCKOUT with GL_RAISED's locking bits clear
and the lines masked. 17 R590–R593, R624: a second bad RC window in a row holds the array enables low and locks; a second
bad XTAL_SYS window in a row, a wrong level of the ERR pair and a changed fallback store leave neither RUN nor FBEAM; a
supply outside its limits and a wrong AEN level lock; a good window counts nothing. Clauses that rest on a reading or
choice of the model follow log entries 18 and 38. -/
def Obligations.GladeInputsAndCheckers : Prop :=
  (∀ (t : Nat) (p : GladePins) (s : State), s.gladeOn = true → ∃ n, exec (.gladeCycle t p) s = .next n ∧
      n.glade.pairA.raw1 = p.a1 ∧ n.glade.pairA.raw2 = p.a2 ∧ n.glade.pairB.raw1 = p.b1 ∧ n.glade.pairB.raw2 = p.b2 ∧
      n.glade.srstRaw = !p.srst ∧
      (s.glade.pairFn 0 ≠ 0 → s.glade.pairA.raw1 = p.a1 → 4 * s.glade.pairFilt 0 ≤ min 80 (s.glade.pairA.run1 + 1) →
        n.glade.pairA.filt1 = p.a1) ∧
      (s.glade.pairFn 0 ≠ 0 → s.glade.pairA.raw1 ≠ p.a1 → 1 < 4 * s.glade.pairFilt 0 →
        n.glade.pairA.filt1 = s.glade.pairA.filt1) ∧
      (n.glade.pairA.filt1 = n.glade.pairA.filt2 → n.glade.pairA.timer = none) ∧
      (s.glade.pairFn 0 ≠ 0 → n.glade.pairA.filt1 ≠ n.glade.pairA.filt2 →
        n.glade.pairA.timer = some ((s.glade.pairA.timer.map (fun j => j + 1)).getD 0)) ∧
      (s.glade.st = .lockout → s.glade.pressed = true → s.glade.srstRaw = false → 7 ≤ s.glade.srstRun → p.srst = true →
        200 ≤ s.glade.press → s.glade.press ≤ 12000 → s.glade.stuck = false → s.glade.pairFn 0 = 0 → s.glade.pairFn 1 = 0 →
        s.glade.cond &&& 0x7F#12 = 0 → (s.stamp t).lockRising = false → n.glade.st ≠ .lockout ∧ n.glade.raised &&& 0x7F#12 = 0 ∧
          n.glade.masked = s.glade.lines ||| s.glade.lineBad ∧ n.glade.cntSrst = satAdd s.glade.cntSrst 1) ∧
      Only [.now, .glade, .flt, .log, .regs] s n) ∧
  (∀ (t : Nat) (s : State), s.gladeOn = true →
      (∀ c, c < 768 ∨ 1280 < c → s.glade.rcBad ≠ 0 → ∃ n, exec (.rcClockWindow t c) s = .next n ∧
        n.glade.rcHold = true ∧ n.glade.rcBad = 2 ∧ n.glade.aenDrv = 0 ∧ bit n.glade.raised 0 = true ∧
        n.glade.st = .lockout ∧ n.glade.xcnt = BitVec.ofNat 11 (min 2047 c) ∧ n.clk = s.clk ∧
        Only [.now, .glade, .flt, .log] s n) ∧
      (∀ c, 768 ≤ c → c ≤ 1280 → ∃ n, exec (.rcClockWindow t c) s = .next n ∧ n.glade.rcHold = s.glade.rcHold ∧
        n.glade.rcBad = 0 ∧ n.clk.stalled = s.clk.stalled.filter (fun x => x.far.val != 6) ∧
        Only [.now, .glade, .clk, .flt, .log] s n) ∧
      (∀ c, c < 24500 ∨ 25500 < c → s.glade.sysBad ≠ 0 → ∃ n, exec (.sysclkCheckWindow t c) s = .next n ∧
        n.glade.sysBad = 2 ∧ bit n.glade.raised 7 = true ∧ n.glade.st ≠ .run ∧ n.glade.st ≠ .fbeam ∧
        n.glade.scnt = BitVec.ofNat 15 (min 32767 c) ∧ Only [.now, .glade, .flt, .log] s n) ∧
      (∃ n, exec (.gladeSupplyFault t true) s = .next n ∧ bit n.glade.raised 1 = true ∧ n.glade.st = .lockout ∧
        Only [.now, .glade, .flt, .log] s n) ∧
      (∃ n, exec (.gladeSupplyFault t false) s = .next n ∧ bit n.glade.cond 1 = false ∧
        Only [.now, .glade, .flt, .log] s n) ∧
      (∀ a e, a ≠ s.glade.aenDrv → ∃ n, exec (.readbackMismatch t a e) s = .next n ∧ bit n.glade.raised 6 = true ∧
        n.glade.st = .lockout ∧ Only [.now, .glade, .flt, .log] s n) ∧
      (∀ e, e ≠ (if s.glade.errFault then 2 else 1 : BitVec 2) → ∃ n,
        exec (.readbackMismatch t s.glade.aenDrv e) s = .next n ∧ bit n.glade.raised 9 = true ∧
        Only [.now, .glade, .flt, .log] s n) ∧
      (s.glade.fbOk = true → s.glade.fbCrcBad = true → s.glade.loadEnded = true → s.glade.anySurf = true →
        ∃ n, exec (.fallbackCrcCheck t) s = .next n ∧ n.glade.fbOk = false ∧ n.glade.fbErr = 3 ∧
        bit n.glade.raised 8 = true ∧ n.glade.st ≠ .run ∧ n.glade.st ≠ .fbeam ∧ Only [.now, .glade, .flt, .log] s n))

/-- Completes: errHoldExpiry, returnDwellExpiry, gladePowerLoss, resume. 16 R576, 17 R588, R607, R608: 1 ms in the Fault state
ends the hold of the ERR pair; the dwell's end, with RET_MODE 0, no demand and READY, returns Glade to RUN; the loss of
its supply resets all of Glade and nothing else. R574, R575: ERR_P and ERR_N are complementary outside the Reset state,
and both low in it. 17 R607, R608: a RESUME in SLO under RET_MODE 1, with no demand and the surfaces ready, returns Glade
to RUN and is answered OK; in LOCKOUT it is REFUSED and changes no demand. Clauses that rest on a reading or choice of the
model follow log entries 38 and 107. -/
def Obligations.GladeReturnsToRun : Prop :=
  (∀ (t : Nat) (s : State), s.gladeOn = true → s.errPair = (!s.glade.errFault, s.glade.errFault) ∧
      (s.glade.st = .lockout → s.glade.errFault = true → ∃ n, exec (.errHoldExpiry t) s = .next n ∧
        n.glade.errHold = false ∧ n.glade.errFault = true ∧ n.glade.st = .lockout ∧ Only [.now, .glade, .flt, .log] s n) ∧
      (s.glade.st = .slo → s.glade.reacted = true → s.glade.gp 0x010 5 2 = 0 → s.glade.Quiet →
        s.glade.ready (s.rdy 0) (s.rdy 1) = true → ∃ n, exec (.returnDwellExpiry t) s = .next n ∧
        n.glade.st = .run ∧ n.glade.cause = 0 ∧ n.glade.reacted = false ∧ n.glade.raised = s.glade.raised ∧
        (s.glade.rcHold = false → n.glade.aenDrv = s.glade.aenRun) ∧ Only [.now, .glade, .flt, .log] s n) ∧
      (∃ n, exec (.gladePowerLoss t) s = .next n ∧ n.glade = State.reset.glade ∧ n.gladeOn = false ∧
        n.errPair = (false, false) ∧ Only [.now, .glade] s n)) ∧
  (∀ (t : Nat) (r : SspiReq) (s : State), s.gladeOn = true → s.glade.sspi.request = some r → r.cmd = 0x10 →
      (s.glade.st = .slo → s.glade.reacted = true → s.glade.gp 0x010 5 2 = 1 → s.glade.Quiet →
        rdyAll s.glade.gpr (s.rdy 0) (s.rdy 1) = true → ∃ n, exec (.resume t) s = .next n ∧ n.glade.st = .run ∧
        n.glade.reacted = false ∧ n.glade.sspi.request = none ∧ fld (n.glade.sspi.response.getD 0 0) 0 4 = 0 ∧
        n.glade.raised = s.glade.raised ∧ Only [.now, .glade, .flt, .log] s n) ∧
      (s.glade.st = .lockout → ∃ n, exec (.resume t) s = .next n ∧ n.glade.st = .lockout ∧ n.glade.sspi.request = none ∧
        n.glade.resumed = s.glade.resumed ∧ fld (n.glade.sspi.response.getD 0 0) 0 4 = 6 ∧
        Only [.now, .free, .glade, .flt, .log] s n))

/-- Completes: sspiFrame, sspiStatus, sspiRead, sspiWrite, clear, injkey, sspiWatchdog. 17 R627, R628, R634: a frame shifts
out the response to the one before; a frame of 80 bits with a good CRC, the next SEQ and 500 µs after the one before is
accepted, counts in ACCEPTED and starts the watchdog; any other counts in REJECTED, is answered with its RESULT and
executes nothing. 17 R629–R631: an accepted STATUS answers GL_STAT and a READ the register of the page; a WRITE of the
demand stores it; CLEAR drops the named bits whose condition has ended, and no other; a key pair in consecutive frames,
with injection enabled, unlocks injection; the watchdog's expiry puts its demand in force. Each ends the request. Clauses
that rest on a reading or choice of the model follow log entries 35 and 36. -/
def Obligations.SafetyPort : Prop :=
  (∀ (t began bits : Nat) (b : List Byte) (s : State), s.gladeOn = true →
      (bits = 80 → b.length = 10 → crc16 (b.take 8) = leAt b 8 2 →
        (∀ x, s.glade.sspi.lastSeq = some x → b.getD 1 0 = x + 1) →
        (∀ e, s.glade.sspi.lastEnd = some e → e + 500 * usec ≤ began) → sspiKnown (b.getD 0 0) = true →
        ∃ n, exec (.sspiFrame t began bits b) s = .next n ∧
          n.glade.sspi.request = some { cmd := b.getD 0 0, addr := BitVec.ofNat 16 (leAt b 2 2),
                                        data := BitVec.ofNat 32 (leAt b 4 4) } ∧
          n.glade.sspi.lastSeq = some (b.getD 1 0) ∧ n.glade.sspi.lastEnd = some (max s.now t) ∧
          n.glade.sspi.accepted = BitVec.ofNat 16 (min 0xFFFF (s.glade.sspi.accepted.toNat + 1)) ∧
          n.glade.sspi.rejected = s.glade.sspi.rejected ∧ n.glade.sspi.wdExp = false ∧
          n.glade.sspi.wdRun = decide (s.glade.gp 0x010 16 8 ≠ 0) ∧
          (s.glade.sspi.response ≠ [] → n.out = .sspi s.glade.sspi.response :: s.out) ∧
          Only [.now, .free, .glade, .flt, .log, .out] s n) ∧
      (∀ r, (r = 3 ∧ (bits ≠ 80 ∨ b.length ≠ 10)) ∨
          (r = 1 ∧ bits = 80 ∧ b.length = 10 ∧ crc16 (b.take 8) ≠ leAt b 8 2) ∨
          (r = 2 ∧ bits = 80 ∧ b.length = 10 ∧ crc16 (b.take 8) = leAt b 8 2 ∧
            ∃ x, s.glade.sspi.lastSeq = some x ∧ b.getD 1 0 ≠ x + 1) →
        ∃ n, exec (.sspiFrame t began bits b) s = .next n ∧ n.glade.sspi.request = none ∧
          fld (n.glade.sspi.response.getD 0 0) 0 4 = r ∧ n.glade.sspi.lastSeq = s.glade.sspi.lastSeq ∧
          n.glade.sspi.rejected = BitVec.ofNat 8 (min 0xFF (s.glade.sspi.rejected.toNat + 1)) ∧
          n.glade.sspi.accepted = s.glade.sspi.accepted ∧ n.glade.sspi.fn = s.glade.sspi.fn ∧
          Only [.now, .free, .glade, .flt, .log, .out] s n)) ∧
  (∀ (t : Nat) (r : SspiReq) (s : State), s.gladeOn = true → s.glade.sspi.request = some r →
      (r.cmd = 0x00 → ∃ n, exec (.sspiStatus t) s = .next n ∧ n.glade.sspi.request = none ∧
        fld (n.glade.sspi.response.getD 0 0) 0 4 = 0 ∧ leAt n.glade.sspi.response 4 4 = s.glStat.toNat ∧
        n.glade.sspi.fn = s.glade.sspi.fn ∧ Only [.now, .glade, .flt, .log] s n) ∧
      (r.cmd = 0x01 → r.addr.toNat % 4 = 0 → r.addr.toNat < 0x400 → ∃ n, exec (.sspiRead t) s = .next n ∧
        n.glade.sspi.request = none ∧ fld (n.glade.sspi.response.getD 0 0) 0 4 = 0 ∧
        leAt n.glade.sspi.response 4 4 = (s.gladePage r.addr.toNat).toNat ∧ Only [.now, .glade, .flt, .log] s n) ∧
      (r.cmd = 0x02 → r.addr = 0x0C0 → fld r.data 0 2 ≠ 3 → ∃ n, exec (.sspiWrite t) s = .next n ∧
        n.glade.sspi.request = none ∧ n.glade.sspi.fn.toNat = fld r.data 0 2 ∧
        (fld r.data 0 2 = 1 → s.glade.sspi.wdExp = false → n.glade.st ≠ .run ∧ n.glade.st ≠ .fbeam) ∧
        Only [.now, .glade, .flt, .log] s n) ∧
      (r.cmd = 0x02 → r.addr ≠ 0x0C0 → r.addr ≠ 0x024 → ∃ n, exec (.sspiWrite t) s = .next n ∧
        n.glade.sspi.request = none ∧ fld (n.glade.sspi.response.getD 0 0) 0 4 = 6 ∧ n.glade.sspi.fn = s.glade.sspi.fn ∧
        Only [.now, .free, .glade, .flt, .log] s n) ∧
      (r.cmd = 0x11 → r.data &&& 0x7F = 0 → ∃ n, exec (.clear t) s = .next n ∧ n.glade.sspi.request = none ∧
        (∀ j, j < 12 → bit s.glade.holding j = false → bit n.glade.raised j = (bit s.glade.raised j && !bit r.data j)) ∧
        Only [.now, .glade, .flt, .log] s n) ∧
      (r.cmd = 0x20 → fld r.data 0 16 = 0x1F17 → ∃ n, exec (.injkey t) s = .next n ∧ n.glade.sspi.key1 = true ∧
        n.glade.sspi.inj = s.glade.sspi.inj ∧ n.glade.sspi.request = none ∧ Only [.now, .glade, .flt, .log] s n) ∧
      (r.cmd = 0x20 → fld r.data 0 16 = 0xE0E8 → s.glade.sspi.key1 = true → ∃ n, exec (.injkey t) s = .next n ∧
        n.glade.sspi.key1 = false ∧ n.glade.sspi.inj = (s.glade.sspi.inj || s.injEn) ∧ n.glade.sspi.request = none ∧
        Only [.now, .glade, .flt, .log] s n) ∧
      (s.glade.sspi.wdRun = true → s.glade.sspi.lastEnd ≠ some (max s.now t) → ∃ n, exec (.sspiWatchdog t) s = .next n ∧ n.glade.sspi.wdExp = true ∧
        n.glade.sspi.request = s.glade.sspi.request ∧
        (s.glade.gp 0x010 24 2 = 1 → n.glade.st ≠ .run ∧ n.glade.st ≠ .fbeam) ∧ Only [.now, .glade, .flt, .log] s n))

/-! ### Fault collection (chapter 16) -/

/-- Completes: faultArrival, episodeClose, fcSrccls. 16 R561, R565–R569, R581: an arrival alone of a waiting source sets its
pending bit, counts, and takes its raise from those that wait; judged at the source's class before the sample (16 R562),
of class C0 it sets an event and joins no episode; of class C1 to C3 with no episode open it opens one with its class,
itself first and last, one arrival, and the next EPSEQ, and a log record. 16 R562, R566–R568: an arrival of a higher class
than an open episode's escalates it once, and of no higher class only joins it; the close of an episode below C4 with no
member pending and no arrival for QUIET ms, the sample's own arrivals counted (16 R583), keeps its first source, class and
arrivals in FC_PREV; a class is only raised, to 4 at most. Clauses that rest on a reading or choice of the model follow
log entry 105. -/
def Obligations.EpisodesOfFaults : Prop :=
  (∀ (t : Nat) (x : Fin 171) (s : State), s.coreOn = true → s.Canonical → x ∈ s.flt.raised → x ∉ s.flt.forcedQ →
      s.injMode 11 = 0 → s.Fresh (.faultArrival t [x]) →
      ∀ c : Nat, c = ((s.stamp t).judgeArrival { src := x.val, cls := s.flt.cls x, forced := false }).cls →
      (∃ n, exec (.faultArrival t [x]) s = .next n ∧ bit n.flt.pend x = true ∧
        n.flt.countOf x = satAdd (s.flt.countOf x) 1 ∧ (∀ y, y ≠ x.val → n.flt.countOf y = s.flt.countOf y) ∧
        bit n.flt.lastForced x = false ∧ n.flt.clsUp = s.flt.clsUp ∧ n.flt.rx = s.flt.rx ∧ n.flt.beat = s.flt.beat) ∧
      (c = 0 → ∃ n, exec (.faultArrival t [x]) s = .next n ∧ n.flt.ep = s.flt.ep ∧
        n.flt.raised = dropFirst x s.flt.raised ∧ rget n.regs (rawOf 0x48) = rget s.regs (rawOf 0x48) ||| 8 ∧
        RegsOnly [rawOf 0x48] s n ∧ Only [.now, .regs, .flt] s n) ∧
      (0 < c → c < 4 → s.flt.ep.isOpen = false → ∃ n, exec (.faultArrival t [x]) s = .next n ∧
        n.flt.ep.isOpen = true ∧ n.flt.ep.cls = c ∧ n.flt.ep.first = x.val ∧ n.flt.ep.last = x.val ∧
        n.flt.ep.simul = false ∧ n.flt.ep.forced = false ∧ n.flt.ep.arrivals = 1 ∧ n.flt.ep.escal = 0 ∧
        n.flt.ep.seq = satAdd s.flt.ep.seq 1 ∧ (∀ y, y < 256 → bit n.flt.ep.mem y = decide (y = x.val)) ∧
        n.flt.ep.frame = s.frame16 ∧ n.flt.ep.lastAt = max s.now t ∧ n.log.wr = s.log.wr + 1 ∧
        rget n.regs (rawOf 0x48) = rget s.regs (rawOf 0x48) ||| 1 ∧ RegsOnly [rawOf 0x48] s n ∧
        Only [.now, .regs, .flt, .log] s n)) ∧
  (∀ (t : Nat) (s : State), s.coreOn = true → s.Canonical →
      (∀ (x : Fin 171) (c : Nat), x ∈ s.flt.raised → x ∉ s.flt.forcedQ → s.injMode 11 = 0 → s.flt.ep.isOpen = true →
        s.Fresh (.faultArrival t [x]) →
        c = ((s.stamp t).judgeArrival { src := x.val, cls := s.flt.cls x, forced := false }).cls →
        0 < c → c < 4 → ∃ n, exec (.faultArrival t [x]) s = .next n ∧
          n.flt.ep.cls = max s.flt.ep.cls c ∧ n.flt.ep.first = s.flt.ep.first ∧ n.flt.ep.last = x.val ∧
          n.flt.ep.seq = s.flt.ep.seq ∧ n.flt.ep.time = s.flt.ep.time ∧
          n.flt.ep.arrivals = BitVec.ofNat 16 (min 65535 (s.flt.ep.arrivals.toNat + 1)) ∧
          n.flt.ep.escal = (if s.flt.ep.cls < c then BitVec.ofNat 8 (min 255 (s.flt.ep.escal.toNat + 1))
            else s.flt.ep.escal) ∧ bit n.flt.ep.mem x = true ∧ Only [.now, .regs, .flt, .log] s n) ∧
      (∀ m, m = (s.stamp t).arrivalsFirst →
        (m.flt.ep.isOpen = true → m.flt.ep.cls < 4 → m.flt.ep.mem &&& m.flt.pend = 0 → m.quiet = true →
          ∃ n, exec (.episodeClose t) s = .next n ∧
          n.flt.ep.isOpen = false ∧ n.flt.ep.prevFirst = BitVec.ofNat 8 m.flt.ep.first ∧
          n.flt.ep.prevCls = BitVec.ofNat 3 m.flt.ep.cls ∧ n.flt.ep.prevArr = m.flt.ep.arrivals ∧
          n.flt.ep.prevForced = m.flt.ep.forced ∧ n.flt.pend = m.flt.pend ∧ n.flt.epClass = 0 ∧
          rget n.regs (rawOf 0x48) = rget m.regs (rawOf 0x48) ||| 4 ∧ RegsOnly [rawOf 0x48] m n ∧
          Only [.now, .regs, .flt, .log] m n) ∧
        (m.flt.ep.isOpen = false ∨ 4 ≤ m.flt.ep.cls ∨ m.flt.ep.mem &&& m.flt.pend ≠ 0 ∨ m.quiet = false →
          exec (.episodeClose t) s = .next m)) ∧
      (∀ (req : Req) (v : Word), s.Writable t req 0x48 → fld (rget s.regs Reg.FC_SRCSEL) 0 8 < 171 →
        ∃ n, exec (.fcSrccls t req v) s = .next n ∧
          n.flt.cls (fld (rget s.regs Reg.FC_SRCSEL) 0 8) =
            max (s.flt.cls (fld (rget s.regs Reg.FC_SRCSEL) 0 8)) (min 4 (fld v 0 3)) ∧
          (∀ y, y ≠ fld (rget s.regs Reg.FC_SRCSEL) 0 8 → n.flt.cls y = s.flt.cls y) ∧
          n.flt = { s.flt with clsUp := n.flt.clsUp } ∧ Only [.now, .flt] s n))

/-- Completes: injectionKey, injectionLock, injectionTimeout, fcChkinv, pgFltForce. 16 R579–R583, R586; 17 R631: the two keys
from one requester within 100 µs, with INJ_EN, unlock injection for it; any other key sets INJERR; LOCK and 1 s without an
accepted force, those of its sample first, lock it and disarm the checker; while it is unlocked its owner arms a checker
and forces the sources that the ones of a page's PG_FLT_FORCE name, and no other requester does. Clauses that rest on a
reading or choice of the model follow log entry 83. -/
def Obligations.FaultInjection : Prop :=
  ∀ (t : Nat) (s : State), s.coreOn = true → s.Canonical →
    (∀ v, s.Writable t .host 0x48 → fld v 0 16 = 0x1F17 → ∃ n, exec (.injectionKey t .host v) s = .next n ∧
      n.flt = { s.flt with inj := { s.flt.inj with firstKey := some (false, max s.now t) } } ∧ Only [.now, .flt] s n) ∧
    (∀ v t0, s.Writable t .host 0x48 → fld v 0 16 = 0xE0E8 → s.injEn = true → s.flt.inj.unlocked = false →
      s.flt.inj.firstKey = some (false, t0) → max s.now t ≤ t0 + 100 * usec →
      ∃ n, exec (.injectionKey t .host v) s = .next n ∧
        n.flt.inj = { s.flt.inj with unlocked := true, by_ := false, firstKey := none, usedAt := max s.now t } ∧ Src.FC_INJ ∈ n.flt.raised ∧
        rget n.regs (rawOf 0x48) = rget s.regs (rawOf 0x48) ||| 16 ∧ RegsOnly [rawOf 0x48] s n ∧
        Only [.now, .regs, .flt] s n) ∧
    (∀ v, s.Writable t .host 0x48 → fld v 0 16 ≠ 0x1F17 → fld v 0 16 ≠ 0xE0E8 → ∃ n,
      exec (.injectionKey t .host v) s = .next n ∧
      n.flt = { s.flt with inj := { s.flt.inj with firstKey := none, injErr := true } } ∧ Only [.now, .flt] s n) ∧
    (∀ v, s.flt.inj.unlocked = true → s.Writable t .host 0x48 → bit v 16 = true →
      ∃ n, exec (.injectionLock t .host v) s = .next n ∧ n.flt.inj.unlocked = false ∧
        n.flt.inj.remain = 0 ∧ n.flt.inj.target = 0 ∧ Src.FC_INJ ∈ n.flt.raised ∧ RegsOnly [rawOf 0x48] s n ∧
        Only [.now, .regs, .flt] s n) ∧
    (∀ m, m = (s.stamp t).forcesFirst → s.flt.inj.usedAt + 1000 * msec ≤ max s.now t →
      (m.flt.inj.unlocked = true → ∃ n, exec (.injectionTimeout t false) s = .next n ∧ n.flt.inj.unlocked = false ∧
        n.flt.inj.remain = 0 ∧ n.flt.inj.target = 0 ∧ Src.FC_INJ ∈ n.flt.raised ∧ RegsOnly [rawOf 0x48] m n ∧
        Only [.now, .regs, .flt] m n) ∧
      (m.flt.inj.unlocked = false → exec (.injectionTimeout t false) s = .next m)) ∧
    (max s.now t < s.flt.inj.usedAt + 1000 * msec →
      exec (.injectionTimeout t false) s = .next { s with now := max s.now t }) ∧
    (s.gladeOn = true → ∃ n, exec (.injectionTimeout t true) s = .next n ∧
      n.glade = { s.glade with sspi := { s.glade.sspi with inj := false, key1 := false } } ∧ Only [.now, .glade] s n) ∧
    (∀ v, s.Writable t .host 0x48 → s.flt.inj.unlocked = true → s.flt.inj.by_ = false → 1 ≤ fld v 0 4 → fld v 0 4 ≤ 11 →
      fld v 4 2 = 1 ∨ fld v 4 2 = 2 → fld v 8 4 ≠ 0 → s.Fresh (.fcChkinv t .host v) → ∃ n, exec (.fcChkinv t .host v) s = .next n ∧
        n.flt = { s.flt with inj := { s.flt.inj with
          target := BitVec.ofNat 4 (fld v 0 4), mode := BitVec.ofNat 2 (fld v 4 2)
          remain := BitVec.ofNat 4 (fld v 8 4), addr := BitVec.ofNat 4 (fld v 12 4), usedAt := max s.now t } } ∧ Only [.now, .flt] s n) ∧
    (∀ (page : Byte) (v : Word), s.Writable t .host page.toNat → pageUsed page.toNat = true → s.flt.inj.unlocked = true →
      s.flt.inj.by_ = false → s.Fresh (.pgFltForce t .host page v) → ∃ n, exec (.pgFltForce t .host page v) s = .next n ∧
        n.flt = { s.flt with
          forcedQ := s.flt.forcedQ ++ forcedSrcs page.toNat v, inj := { s.flt.inj with usedAt := max s.now t } } ∧ Only [.now, .flt] s n) ∧
    (∀ (page : Byte) (v : Word) (req : Req), s.Writable t req page.toNat → pageUsed page.toNat = true →
      s.flt.inj.unlocked = false → s.Fresh (.pgFltForce t req page v) → ∃ n, exec (.pgFltForce t req page v) s = .next n ∧
        n.flt = { s.flt with inj := { s.flt.inj with injErr := true } } ∧ Only [.now, .flt] s n)

/-! ### Array link (chapter 04) -/

/-- Completes: pollInterval, missingPoll. 04 R161, R163: on a return lane with no poll outstanding the next array in the round
robin, reachable and of that return lane, is polled: identity while it is not READY, status else, or the host's register
read; the poll carries the next PSEQ and the level of the array's AEN pin, and the other return lane is untouched. 04
R167, R171, R184: a missing poll counts in AL_MISS and against its array, whose next poll carries no fault
acknowledgement; the third in a row ends READY, and raises AL_LOST where a surface of the array is driven and AL_NORSP
where none is. For an array of an idle skein it counts nothing (05 R210), and a response of the same sample comes first
(12 R438). Clauses that rest on a reading or choice of the model follow log entry 32. -/
def Obligations.PollsAndMissingPolls : Prop :=
  (∀ (t : Nat) (b : Fin 2) (a : Fin 16) (e : ArrEntry) (s : State), s.coreOn = true → (s.ret[b]).poll = none →
      s.nextPoll b = some a → s.linkEntry a = some e → ∃ n, exec (.pollInterval t b) s = .next n ∧
        (n.ret[b]).last = a ∧ (n.ret[b]).pseq = (s.ret[b]).pseq + 1 ∧ (n.ret[b]).lock = (s.ret[b]).lock ∧
        (n.ret[b]).poll = some { addr := a, pseq := (s.ret[b]).pseq, aen := bit s.glade.aenRb e.aen, sent := max s.now t
                                 kind := if (s.arr[a]).ready then (if s.reads a then 2 else 0) else 1 } ∧
        (∀ c : Fin 2, c ≠ b → n.ret[c] = s.ret[c]) ∧ n.arr = s.arr ∧
        n.areq.polls = (if s.reads a then s.areq.polls + 1 else s.areq.polls) ∧ Only [.now, .flt, .out, .ret, .areq, .stream] s n) ∧
  (∀ (t : Nat) (b : Fin 2) (p : Poll) (s : State), s.coreOn = true → s.Canonical → (s.ret[b]).poll = some p →
      s.areq.busy = false → (s.stamp t).responding b = false →
      (s.arrayIdle p.addr = true → ∃ n, exec (.missingPoll t b) s = .next n ∧ (n.ret[b]).poll = none ∧
        n.arr = s.arr.set p.addr { s.arr[p.addr] with fack := 0, wack := false } ∧ Only [.now, .ret, .arr] s n) ∧
      (s.arrayIdle p.addr = false → ∃ n, exec (.missingPoll t b) s = .next n ∧ (n.ret[b]).poll = none ∧
        (n.arr[p.addr]).misses = min 3 ((s.arr[p.addr]).misses + 1) ∧ (n.arr[p.addr]).fack = 0 ∧
        (n.arr[p.addr]).wack = false ∧ (∀ a : Fin 16, a ≠ p.addr → n.arr[a] = s.arr[a]) ∧
        lget n.live Reg.AL_MISS = satAdd (lget s.live Reg.AL_MISS) 1 ∧ LiveOnly [Reg.AL_MISS] s n ∧
        ((s.arr[p.addr]).misses < 2 → (n.arr[p.addr]).ready = (s.arr[p.addr]).ready ∧ Raised [] s n) ∧
        (2 ≤ (s.arr[p.addr]).misses → (n.arr[p.addr]).ready = false ∧ (n.arr[p.addr]).based = false ∧
          (s.arrayDriven p.addr = true → (s.arr[p.addr]).inLost = false → Src.AL_LOST ∈ n.flt.raised) ∧
          (s.arrayDriven p.addr = false → (s.arr[p.addr]).inNorsp = false → Src.AL_NORSP ∈ n.flt.raised)) ∧
        Only [.now, .ret, .arr, .live, .flt, .tile] s n))

/-- Completes: statusResponse, identityResponse, registerReadResponse, returnBlockDiscard. 04 R164–R167, R170, R183: an
acceptable response ends the poll and the run of missing ones: a status response leaves its two words, the count of its
fault entries for FACK and the reset acknowledgement; an identity that fits the map makes the array READY from this
instant, but for an array of an idle skein (05 R210), and one that does not raises AL_IDMIS; a register read gives the
host its data. 04 R132, R133, R164; 05 R190, R192: a received IDLE and an ordered set are ignored, and so is the first
block after lock; any other block that is discarded counts in AL_RETERR and raises it, and where it is no response header
changes nothing else; a response that is not acceptable is discarded the same way, and its poll is a missing one. Clauses
that rest on a reading or choice of the model follow log entries 55 and 99. -/
def Obligations.ReturnedBlocks : Prop :=
  (∀ (t : Nat) (b : Fin 2) (l d : List Block) (p : Poll) (e : ArrEntry) (s : State), s.coreOn = true →
      s.flt.inj.remain = 0 → (s.ret[b]).poll = some p → s.linkEntry p.addr = some e →
      State.acceptable (s.stamp t) p l = some d → s.areq.polls < 3 →
      (p.kind = 0 → s.NoDecisionAt t → s.Fresh (.statusResponse t b l) → ∃ n, exec (.statusResponse t b l) s = .next n ∧ (n.ret[b]).poll = none ∧
        (n.arr[p.addr]).w0 = d.getD 0 0 ∧ (n.arr[p.addr]).w1 = d.getD 1 0 ∧ (n.arr[p.addr]).misses = 0 ∧
        (n.arr[p.addr]).based = true ∧ (n.arr[p.addr]).fack = BitVec.ofNat 4 (d.length - 2) ∧
        (n.arr[p.addr]).wack = bit (d.getD 0 0) 7 ∧ (n.arr[p.addr]).ready = (s.arr[p.addr]).ready ∧
        bit n.tile.fresh p.addr = true ∧ (∀ a : Fin 16, a ≠ p.addr → n.arr[a] = s.arr[a]) ∧ n.areq = s.areq) ∧
      (p.kind = 1 → ∃ n, exec (.identityResponse t b l) s = .next n ∧ (n.ret[b]).poll = none ∧
        (n.arr[p.addr]).ident = true ∧ (n.arr[p.addr]).id0 = d.getD 0 0 ∧ (n.arr[p.addr]).id1 = d.getD 1 0 ∧
        (n.arr[p.addr]).misses = 0 ∧ (n.arr[p.addr]).readyAt = max s.now t ∧
        (n.arr[p.addr]).ready = (identityFits e (s.entryMode e) (skeinLanes s.active e.skein).length (d.getD 0 0) (d.getD 1 0) &&
          !s.arrayIdle p.addr) ∧
        (identityFits e (s.entryMode e) (skeinLanes s.active e.skein).length (d.getD 0 0) (d.getD 1 0) = false →
          Src.AL_IDMIS ∈ n.flt.raised ∧ n.tile = s.tile) ∧ n.lane = s.lane ∧
        (∀ a : Fin 16, a ≠ p.addr → n.arr[a] = s.arr[a])) ∧
      (p.kind = 2 → s.reads p.addr = true → ∃ n, exec (.registerReadResponse t b l) s = .next n ∧ (n.ret[b]).poll = none ∧
        n.areq = { s.areq with busy := false, done := true, rdata := BitVec.ofNat 16 (fld (d.getD 0 0) 16 16) } ∧
        (n.arr[p.addr]).misses = 0 ∧ (n.arr[p.addr]).ready = (s.arr[p.addr]).ready ∧ n.lane = s.lane ∧
        Only [.now, .ret, .arr, .areq] s n)) ∧
  (∀ (t : Nat) (b : Fin 2) (s : State), s.coreOn = true → s.Canonical → s.flt.inj.remain = 0 →
      (∀ l : List Block66, (∀ x ∈ (if (s.ret[b]).fresh then l.drop 1 else l), ignoredBlock x = true) →
        ∃ n, exec (.returnBlockDiscard t b l) s = .next n ∧ n.ret = s.ret.set b { s.ret[b] with fresh := false } ∧
        Only [.now, .ret] s n) ∧
      (∀ h : Block66, (s.ret[b]).fresh = false → ignoredBlock h = false → ¬(h.ctrl = true ∧ fld h.d 0 8 = 0x40) →
        ∃ n, exec (.returnBlockDiscard t b [h]) s = .next n ∧
        lget n.live Reg.AL_RETERR = satAdd (lget s.live Reg.AL_RETERR) 1 ∧ LiveOnly [Reg.AL_RETERR] s n ∧
        Raised [Src.AL_RETERR] s n ∧ Only [.now, .live, .flt] s n) ∧
      (∀ (p : Poll) (h : Block) (l : List Block) (c : Instr), (s.ret[b]).poll = some p → s.areq.busy = false →
        fld h 0 8 = 0x40 → (s.arr[p.addr]).misses < 2 → s.arrayIdle p.addr = false →
        State.acceptable (s.stamp t) p (h :: l) = none →
        (c = .statusResponse t b (h :: l) ∧ s.NoDecisionAt t ∧ s.Fresh (.statusResponse t b (h :: l))) ∨
          c = .identityResponse t b (h :: l) ∨ c = .registerReadResponse t b (h :: l) ∨
          (c = .returnBlockDiscard t b (ctrlBlock h :: l.map dataBlock) ∧ (s.ret[b]).fresh = false) →
        ∃ n, exec c s = .next n ∧ (n.ret[b]).poll = none ∧ (n.arr[p.addr]).misses = (s.arr[p.addr]).misses + 1 ∧
          (n.arr[p.addr]).ready = (s.arr[p.addr]).ready ∧ (n.arr[p.addr]).w0 = (s.arr[p.addr]).w0 ∧
          lget n.live Reg.AL_RETERR = satAdd (lget s.live Reg.AL_RETERR) 1 ∧
          lget n.live Reg.AL_MISS = satAdd (lget s.live Reg.AL_MISS) 1 ∧ LiveOnly [Reg.AL_RETERR, Reg.AL_MISS] s n ∧
          Raised [Src.AL_RETERR] s n ∧ Only [.now, .ret, .arr, .live, .flt] s n))

/-- Completes: arrayRegWrite, arrayRegRead. 04 R142, R163, R183: a register write of the host goes out at once where the
array's skein has a lane, and is done; where it has none it waits, busy; a register read waits for its poll; while one is
busy, or in the sample of the completion that clears BUSY, a second is ignored. Clauses that rest on a reading or choice
of the model follow log entries 33 and 99. -/
def Obligations.ArrayRegisterRequests : Prop :=
  ∀ (t : Nat) (req : Req) (v : Word) (s : State), s.Writable t req 0x38 →
    (∀ e, s.areq.busy = false → (s.stamp t).hasCome Reg.AL_ASTAT = false → bit v 4 = false →
      s.linkEntry (Fin.ofNat 16 (fld v 0 4)) = some e → (s.skein[skeinNo e.skein]).lmask ≠ 0 → s.flt.inj.remain = 0 → ∃ n, exec (.arrayRegWrite t req v) s = .next n ∧
      n.areq = { s.areq with busy := false, done := true, write := true, addr := Fin.ofNat 16 (fld v 0 4), polls := 0 } ∧
      n.out = ((bitsOf (s.skein[skeinNo e.skein]).lmask 8).map (fun j => Output.row (skeinNo e.skein)
        (Row.block (.arw (fld v 0 4) (fld (rget s.regs Reg.AL_AREG) 0 16) (fld (rget s.regs Reg.AL_AREG) 16 16)) j))).reverse ++
        ((s.stamp t).advance (skeinNo e.skein) 0).out ∧ Only [.now, .areq, .stream, .out] s n) ∧
    (∀ e, s.areq.busy = false → (s.stamp t).hasCome Reg.AL_ASTAT = false → bit v 4 = false →
      s.linkEntry (Fin.ofNat 16 (fld v 0 4)) = some e → (s.skein[skeinNo e.skein]).lmask = 0 → ∃ n, exec (.arrayRegWrite t req v) s = .next n ∧
      n.areq = { s.areq with busy := true, write := true, addr := Fin.ofNat 16 (fld v 0 4), polls := 0 } ∧
      Only [.now, .areq] s n) ∧
    (s.areq.busy = false → (s.stamp t).hasCome Reg.AL_ASTAT = false → bit v 4 = true → ∃ n, exec (.arrayRegRead t req v) s = .next n ∧
      n.areq = { s.areq with busy := true, write := false, addr := Fin.ofNat 16 (fld v 0 4), polls := 0 } ∧
      Only [.now, .areq] s n) ∧
    (s.areq.busy = true ∨ (s.stamp t).hasCome Reg.AL_ASTAT = true → ∀ c, c = Instr.arrayRegWrite t req v ∨ c = Instr.arrayRegRead t req v →
      ∃ n, exec c s = .next n ∧ Only [.now] s n)

/-! ### Skein lanes (chapter 05) -/

/-- Completes: trainingBurstEnd, retrainWaitExpiry, holdConfirmTimeout, holdIdleTimeout, serviceStableTimer, retry. 05 R202,
R204, R211, R212: a burst's end brings a fresh lane, and those trained with it, into SERVICE and LMASK, and retraining
ones into HOLD; RT_WAIT's end starts the attempt of a lane in DOWN, counted in ATTEMPTS: 16 EIE, electrical idle, the
TRAIN blocks of its burst, then LIDLE; or, with the attempts used up, makes it FAILED and raises SK_LANEFAIL; without the
synthesiser it waits. 05 R211, R212, 04 R176: the 1 ms limit of HOLD keeps a lane whose READY arrays have all confirmed
it, and sends another to DOWN with cause 5; the idle limit sends a VALIDATE burst, which is no attempt; the stable second
clears ATTEMPTS; RETRY takes a FAILED lane to DOWN with its attempts cleared, and is only noted on another, which may fail
in the same sample (05 R218). Responses of the sample of the 1 ms limit come first (12 R438). Clauses that rest on a
reading or choice of the model follow log entries 54, 59, 95 and 97. -/
def Obligations.LaneTrainingHoldAndRetry : Prop :=
  (∀ (t : Nat) (l : Fin 8) (s : State), s.coreOn = true →
      ((s.lane[l]).st = .train → (s.lane[l]).from_ = .fresh → s.skeinIdle (s.laneSkein l).val = false →
        ∃ n, exec (.trainingBurstEnd t l) s = .next n ∧ l ∈ s.trainedWith l ∧
          (∀ m ∈ s.trainedWith l, (n.lane[m]).st = .service ∧ (n.lane[m]).attempts = (s.lane[m]).attempts) ∧
          (n.skein[s.laneSkein l]).lmask = (s.trainedWith l).foldl (fun x m => setBit x (s.laneNo m))
            (s.skein[s.laneSkein l]).lmask ∧
          (∀ k : Fin 4, k ≠ s.laneSkein l → n.skein[k] = s.skein[k]) ∧
          (∀ m : Fin 8, m ∉ s.trainedWith l → (s.lane[m]).st ≠ .eidle → n.lane[m] = s.lane[m]) ∧
          Only [.now, .lane, .skein, .stream, .arr, .areq, .flt, .out] s n) ∧
      ((s.lane[l]).st = .train → (s.lane[l]).from_ ≠ .fresh → ∃ n, exec (.trainingBurstEnd t l) s = .next n ∧
        l ∈ s.trainedWith l ∧ (∀ m ∈ s.trainedWith l,
          (n.lane[m]).st = .hold ∧ ((s.lane[m]).from_ = .down → (n.lane[m]).conf = 0 ∧ (n.lane[m]).confirmed = false) ∧
          ((s.lane[m]).from_ = .hold → n.lane[m] = { s.lane[m] with st := .hold })) ∧
        (∀ m : Fin 8, m ∉ s.trainedWith l → n.lane[m] = s.lane[m]) ∧ Only [.now, .lane, .stream, .out] s n) ∧
      ((s.lane[l]).st = .down → (s.lane[l]).attempts.toNat < s.rtMax l → s.clk.lockOl = true →
        ∃ n, exec (.retrainWaitExpiry t l) s = .next n ∧ (n.lane[l]).st = .train ∧ (n.lane[l]).from_ = .down ∧
          (n.lane[l]).attempts = (s.lane[l]).attempts + 1 ∧
          (n.lane[l]).burst = (if (s.lane[l]).relock then .full else .validate) ∧
          n.out.head? = some (.burst l (n.lane[l]).burst) ∧ (∀ m : Fin 8, m ≠ l → n.lane[m] = s.lane[m]) ∧
          (∃ c, (n.stream.line[l]).plan = (.eie, 16) :: (.idle, c) :: [(.train (n.lane[l]).burst, (n.lane[l]).burst.blocks)]) ∧
          (n.stream.line[l]).fill = .lidle ∧ Only [.now, .lane, .stream, .out] s n) ∧
      ((s.lane[l]).st = .down → (s.lane[l]).attempts.toNat < s.rtMax l → s.clk.lockOl = false →
        ∃ n, exec (.retrainWaitExpiry t l) s = .next n ∧ Only [.now] s n) ∧
      ((s.lane[l]).st = .down → s.rtMax l ≤ (s.lane[l]).attempts.toNat → (s.lane[l]).retryAt ≠ some (max s.now t / tick) →
        ∃ n, exec (.retrainWaitExpiry t l) s = .next n ∧
        n.lane = s.lane.set l { s.lane[l] with st := .failed, idleAt := max s.now t } ∧ Raised [Src.SK_LANEFAIL l] s n ∧
        (n.stream.line[l]).fill = .quiet ∧ Only [.now, .lane, .stream, .flt, .out] s n)) ∧
  (∀ (t : Nat) (l : Fin 8) (s : State), s.coreOn = true →
      (∀ m, m = (s.stamp t).statusFirst →
        ((m.lane[l]).st = .hold → (m.lane[l]).confirmed = false → m.laneConfirmed l = true →
          ∃ n, exec (.holdConfirmTimeout t l) s = .next n ∧ n.lane = m.lane.set l { m.lane[l] with confirmed := true } ∧
            Only [.now, .lane] m n) ∧
        ((m.lane[l]).st = .hold → (m.lane[l]).confirmed = false → m.laneConfirmed l = false →
          (m.lane[l]).attempts.toNat < m.rtMax l → ∃ n, exec (.holdConfirmTimeout t l) s = .next n ∧
            (n.lane[l]).st = .down ∧ (n.lane[l]).cause = 5 ∧ (n.lane[l]).downAt = m.now ∧
            (n.lane[l]).attempts = (m.lane[l]).attempts ∧ (∀ j : Fin 8, j ≠ l → n.lane[j] = m.lane[j]) ∧
            Only [.now, .lane, .stream, .out] m n) ∧
        ((m.lane[l]).st ≠ .hold ∨ (m.lane[l]).confirmed = true → exec (.holdConfirmTimeout t l) s = .next m)) ∧
      ((s.lane[l]).st = .hold → ∃ n, exec (.holdIdleTimeout t l) s = .next n ∧
        n.lane = s.lane.set l { s.lane[l] with
          st := .train, from_ := .hold, burst := .validate, relock := false, trainAt := max s.now t } ∧
        n.out.head? = some (.burst l .validate) ∧ Only [.now, .lane, .stream, .out] s n) ∧
      ((s.lane[l]).st = .service → ∃ n, exec (.serviceStableTimer t l) s = .next n ∧
        n.lane = s.lane.set l { s.lane[l] with attempts := 0, recent := false } ∧ Only [.now, .lane] s n) ∧
      (∀ req v, s.Writable t req (0x30 + l.val) →
        (bit v 0 = true → (s.lane[l]).st = .failed → 0 < s.rtMax l → ∃ n, exec (.retry t req l v) s = .next n ∧
          (n.lane[l]).st = .down ∧ (n.lane[l]).attempts = 0 ∧ (n.lane[l]).cause = (s.lane[l]).cause ∧
          (n.lane[l]).downAt = max s.now t ∧ (∀ m : Fin 8, m ≠ l → n.lane[m] = s.lane[m]) ∧
          Only [.now, .lane, .stream, .out] s n) ∧
        (bit v 0 = true → (s.lane[l]).st ≠ .failed → ∃ n, exec (.retry t req l v) s = .next n ∧
          n.lane = s.lane.set l { s.lane[l] with retryAt := some (max s.now t / tick) } ∧ Only [.now, .lane] s n) ∧
        (bit v 0 = false → exec (.retry t req l v) s = .next { s with now := max s.now t })))

/-- Completes: outputDriverFault, synthesiserLockLoss, synthesiserRelock, markerSlot, skLoopWrite, prbsLock. 05 R211–R213,
R216, 12 R457: a driver fault takes a lane from SERVICE to DOWN and out of its skein's LMASK, counts in SK_DOWNCNT and
raises SK_LANEDOWN, with cause 2, or 6 within a second of its return; the loss of the output synthesiser raises SK_PLL and
takes every lane in SERVICE out; the others raise their own source and touch no lane; a lane in HOLD loses what has
confirmed it at a driver fault (05 R218). 05 R194, R209, R219, R220: a marker slot counts MCNT on and moves a lane in
SERVICE by one code towards its settings, one that does not transmit not at all; a loopback mode takes an OFF lane that no
profile names into LOOP, and its pins carry what the mode and the pattern say; a test receiver takes the bits it receives,
counts those in error, and locks to 64 bits of its pattern, or to blocks by 64 valid headers. Clauses that rest on a
reading or choice of the model follow log entries 24, 54, 95, 96 and 97. -/
def Obligations.LaneLossMarkersAndLoopback : Prop :=
  (∀ (t : Nat) (s : State), s.coreOn = true → s.Canonical →
      (∀ l : Fin 8, (s.lane[l]).st = .hold → s.NoDecisionAt t → ∃ n, exec (.outputDriverFault t l) s = .next n ∧
        n.lane = s.lane.set l { s.lane[l] with conf := 0 } ∧ Only [.now, .lane] s n) ∧
      (∀ l : Fin 8, (s.lane[l]).st = .service → (s.lane[l]).attempts.toNat < s.rtMax l → s.NoDecisionAt t →
        ∃ n, exec (.outputDriverFault t l) s = .next n ∧ (n.lane[l]).st = .down ∧
          (n.lane[l]).cause = (if (s.lane[l]).recent then 6 else 2) ∧ (n.lane[l]).downAt = max s.now t ∧
          (n.skein[s.laneSkein l]).lmask = clearBit (s.skein[s.laneSkein l]).lmask (s.laneNo l) ∧
          (∀ k : Fin 4, k ≠ s.laneSkein l → n.skein[k] = s.skein[k]) ∧ (∀ m : Fin 8, m ≠ l → n.lane[m] = s.lane[m]) ∧
          lget n.live (Reg.SK_DOWNCNT l) = satAdd (lget s.live (Reg.SK_DOWNCNT l)) 1 ∧ LiveOnly [Reg.SK_DOWNCNT l] s n ∧
          Src.SK_LANEDOWN l ∈ n.flt.raised ∧ Only [.now, .lane, .skein, .stream, .live, .flt, .out] s n) ∧
      (s.clk.lockOl = true → s.NoDecisionAt t → ∃ n, exec (.synthesiserLockLoss t .ol) s = .next n ∧ n.clk = { s.clk with lockOl := false } ∧
        Src.SK_PLL ∈ n.flt.raised ∧ (∀ l : Fin 8,
          ((s.lane[l]).st = .service → ((n.lane[l]).st = .down ∨ (n.lane[l]).st = .failed) ∧ (n.lane[l]).relock = true) ∧
          ((s.lane[l]).st = .off ∨ (s.lane[l]).st = .loop → n.lane[l] = s.lane[l])) ∧
        Only [.now, .clk, .lane, .skein, .stream, .live, .flt, .out] s n) ∧
      (s.clk.lockPcie = true → s.host.portSpi = false → s.NoDecisionAt t → ∃ n, exec (.synthesiserLockLoss t .pcie) s = .next n ∧
        n.clk = { s.clk with lockPcie := false } ∧ Raised [Src.CLK_SYNPCIE] s n ∧ Only [.now, .clk, .flt] s n) ∧
      (s.clk.lockSys = true → s.NoDecisionAt t → ∃ n, exec (.synthesiserLockLoss t .sys) s = .next n ∧ n.clk = { s.clk with lockSys := false } ∧
        Raised [Src.CLK_SYNSYS] s n ∧ Only [.now, .clk, .flt] s n) ∧
      (s.clk.lockIl = true → s.NoDecisionAt t → ∃ n, exec (.synthesiserLockLoss t .il) s = .next n ∧ n.clk = { s.clk with lockIl := false } ∧
        Raised [Src.CLK_SYNIL] s n ∧ Only [.now, .clk, .flt] s n) ∧
      (∃ n, exec (.synthesiserRelock t .ol) s = .next n ∧ n.clk = { s.clk with lockOl := true } ∧
        (∀ l : Fin 8, ((s.lane[l]).st = .off → s.laneOn l = true →
            (n.lane[l]).st = .train ∧ (n.lane[l]).burst = .full ∧ (n.lane[l]).from_ = .fresh) ∧
          ((s.lane[l]).st = .service ∨ (s.lane[l]).st = .hold → n.lane[l] = s.lane[l])) ∧
        n.skein = s.skein ∧ Only [.now, .clk, .lane, .stream, .out] s n) ∧
      (∃ n, exec (.synthesiserRelock t .il) s = .next n ∧ n.clk = { s.clk with lockIl := true } ∧ Only [.now, .clk] s n) ∧
      (∃ n, exec (.synthesiserRelock t .sys) s = .next n ∧ n.clk = { s.clk with lockSys := true } ∧ Only [.now, .clk] s n) ∧
      (∃ n, exec (.synthesiserRelock t .pcie) s = .next n ∧ n.clk = { s.clk with lockPcie := true } ∧ Only [.now, .clk] s n)) ∧
  (∀ (t : Nat) (s : State), s.coreOn = true → s.Canonical →
      (∀ k : Fin 4, ∃ n, exec (.markerSlot t k) s = .next n ∧ (n.skein[k]).mcnt = (s.skein[k]).mcnt + 1 ∧
        (n.skein[k]).lmask = (s.skein[k]).lmask ∧ (∀ j : Fin 4, j ≠ k → n.skein[j] = s.skein[j]) ∧
        (∀ l : Fin 8, (s.lane[l]).st ≠ .service → n.lane[l] = s.lane[l]) ∧
        (∀ l : Fin 8, l ∈ skeinLanes s.active k → (s.lane[l]).st = .service →
          (n.lane[l]).swing = stepTo (s.lane[l]).swing (laneAt s.active l.val).swing ∧ (n.lane[l]).st = .service) ∧
        Only [.now, .lane, .skein, .stream, .out] s n) ∧
      (∀ (l : Fin 8) (req : Req) (v : Word), s.Writable t req (0x30 + l.val) →
        ((s.lane[l]).st = .off → gprNamesLane s.glade.gpr l.val = false → fld v 0 2 ≠ 0 →
          ∃ n, exec (.skLoopWrite t req l v) s = .next n ∧ (n.lane[l]).st = .loop ∧
            rget n.regs (Reg.SK_LOOP l) = at32 0 (fld v 0 2) ||| (v &&& 0x70) ∧
            (rget n.regs (Reg.SK_LOOP l) ≠ rget s.regs (Reg.SK_LOOP l) →
              n.out = .pins l ((s.stamp t).loopDrive l (fld v 0 2) (fld v 4 2)) :: s.out) ∧
            (∀ m : Fin 8, m ≠ l → n.lane[m] = s.lane[m]) ∧ RegsOnly [Reg.SK_LOOP l, Reg.SK_PRBSERR l] s n ∧
            Only [.now, .lane, .regs, .out] s n) ∧
        ((s.lane[l]).st = .loop → fld v 0 2 = 0 → s.laneOn l = false → ∃ n, exec (.skLoopWrite t req l v) s = .next n ∧
            (n.lane[l]).st = .off ∧ (∀ m : Fin 8, m ≠ l → n.lane[m] = s.lane[m]) ∧
            RegsOnly [Reg.SK_LOOP l, Reg.SK_PRBSERR l] s n ∧ Only [.now, .lane, .regs, .out] s n)) ∧
      (∀ (l : Fin 8) (bits : List Bool) (y : OutLane × Nat), (s.lane[l]).st = .loop ∨ (s.lane[l]).st = .off →
        bit (rget s.regs (Reg.SK_LOOP l)) 6 = true → fld (rget s.regs (Reg.SK_LOOP l)) 4 2 ≠ 0 →
        y = bits.foldl (checkBit (fld (rget s.regs (Reg.SK_LOOP l)) 4 2)) (s.lane[l], 0) →
        ∃ n, exec (.prbsLock t l (.pattern bits)) s = .next n ∧ n.lane = s.lane.set l y.1 ∧
          rget n.regs (Reg.SK_PRBSERR l) = satAdd (rget s.regs (Reg.SK_PRBSERR l)) y.2 ∧ RegsOnly [Reg.SK_PRBSERR l] s n ∧
          Only [.now, .lane, .regs] s n) ∧
      (∀ (l : Fin 8) (hdrs : List (BitVec 2)), (s.lane[l]).st = .loop →
        fld (rget s.regs (Reg.SK_LOOP l)) 0 2 = 1 ∨ fld (rget s.regs (Reg.SK_LOOP l)) 0 2 = 2 → hdrsLock hdrs = true →
        ∃ n, exec (.prbsLock t l (.blocks hdrs)) s = .next n ∧ n.lane = s.lane.set l { s.lane[l] with lbLock := true } ∧
          Only [.now, .lane] s n) ∧
      (∀ (k : Nat) (x : OutLane), 1 ≤ k → k ≤ 3 → fld x.prbsReg 0 (prbsTaps k).1 ≠ 0 → x.prbsLock = false → x.prbsRun = 0 →
        ((prbsBits k x.prbsReg 64).foldl (checkBit k) (x, 0)).1.prbsLock = true ∧
        ((prbsBits k x.prbsReg 64).foldl (checkBit k) (x, 0)).2 = 0))

/-- Completes: returnLaneLockLoss, returnLaneLockGain, lalertReceived. 05 R190, R211, R215, R224, R225: 16 invalid headers
among 32, or 200 ns without amplitude, end the lock of an enabled return lane, which counts and raises BL_LOCK, and 64
valid headers in a row set LOCK; an acceptable alert is counted and takes the lanes of the array's skein that its mask
names unlocked from SERVICE to DOWN with cause 3 and the array; any other is discarded as a return block. 05 R185, R188,
R189: a block leaves as its valid sync header, then its payload; a receiver that holds the scrambler's last 58 bits gives
back every payload bit; a block time is 66 bits of its lane's rate. -/
def Obligations.ReturnLaneLockAndAlerts : Prop :=
  (∀ (t : Nat) (b : Fin 2) (s : State), s.coreOn = true → s.Canonical →
      (∀ hdrs dark, (s.ret[b]).lock = true → s.retOn b = true → lockLost hdrs dark = true →
        ∃ n, exec (.returnLaneLockLoss t b hdrs dark) s = .next n ∧
        n.ret = s.ret.set b { s.ret[b] with lock := false } ∧
        lget n.live (Reg.BL_LOCKLOSS b) = satAdd (lget s.live (Reg.BL_LOCKLOSS b)) 1 ∧ LiveOnly [Reg.BL_LOCKLOSS b] s n ∧
        Raised [Src.BL_LOCK b] s n ∧ Only [.now, .ret, .live, .flt] s n) ∧
      (∀ hdrs dark, (s.ret[b]).lock = false ∨ lockLost hdrs dark = false →
        exec (.returnLaneLockLoss t b hdrs dark) s = .next { s with now := max s.now t }) ∧
      (∀ hdrs, s.retOn b = true → hdrsLock hdrs = true → ∃ n, exec (.returnLaneLockGain t b hdrs) s = .next n ∧
        n.ret = s.ret.set b { s.ret[b] with lock := true, fresh := true } ∧ Only [.now, .ret] s n) ∧
      (∀ hdrs, s.retOn b = false ∨ hdrsLock hdrs = false →
        exec (.returnLaneLockGain t b hdrs) s = .next { s with now := max s.now t }) ∧
      (s.NoDecisionAt t → ∀ blk, s.alertArray b blk = none → ∃ n, exec (.lalertReceived t b blk) s = .next n ∧
        lget n.live Reg.AL_RETERR = satAdd (lget s.live Reg.AL_RETERR) 1 ∧ LiveOnly [Reg.AL_RETERR] s n ∧
        Raised [Src.AL_RETERR] s n ∧ Only [.now, .live, .flt] s n) ∧
      (s.NoDecisionAt t → ∀ blk e, s.alertArray b blk = some e → ∃ n, exec (.lalertReceived t b blk) s = .next n ∧
        n.arr = s.arr.set e.n { s.arr[e.n] with
          aseq := some (BitVec.ofNat 8 (fld blk 20 8)), alert := some (max s.now t / tick, BitVec.ofNat 8 (fld blk 12 8)) } ∧
        lget n.live (Reg.BL_ALERT b) = satAdd (lget s.live (Reg.BL_ALERT b)) 1 ∧
        (fld blk 12 8 = 0 ∨ fld blk 12 8 = 0xFF → n.lane = s.lane ∧ n.skein = s.skein) ∧
        (∀ l : Fin 8, fld blk 12 8 ≠ 0 → l ∈ skeinLanes s.active e.skein → Nat.testBit (fld blk 12 8) (s.laneNo l) = false →
          (s.lane[l]).st = .service → bit (s.skein[s.laneSkein l]).lmask (s.laneNo l) = true → (s.lane[l]).recent = false →
          (s.lane[l]).attempts.toNat < s.rtMax l →
          (n.lane[l]).st = .down ∧ (n.lane[l]).cause = 3 ∧ (n.lane[l]).addr = BitVec.ofNat 4 e.n.val) ∧
        Only [.now, .arr, .live, .lane, .skein, .stream, .flt, .out] s n)) ∧
  (∀ (b : Block66) (d : Block), hdrOk (syncHeader b) = true ∧ ∀ i : Nat, (wireBits (syncHeader b) d).getLsbD i =
    if i < 2 then (syncHeader b).getLsbD i else d.getLsbD (i - 2)) ∧
  (∀ (r : BitVec 58) (l : List Bool), descrambleBits r (scrambleBits r l).1 = (l, (scrambleBits r l).2)) ∧
  (∀ (l : Fin 8), blockTime l.val * laneRate l.val = 66 * 25600 * 1000) ∧
  (∀ (b : Fin 4), retBlockTime b.val * retRate b.val = 66 * 25600 * 1000)

/-! ### Commits, boundaries and planes (chapters 03, 04, 10, 11, 17) -/

/-- Completes: timeBaseBoundary, topCommit. 11 R396–R398, R404, R416, R424, R429; 20 R696: with no commit armed, B_0 falls in
its sample and B_(n+1) a period later; P_n is the period fixed at the last boundary; without genlock the state is FREE and
P_(n+1) moves towards P_nom within the slew limit; TBFRAME is set and the TIME page captured. Before the end of LOAD there
is no boundary. An edge of the boundary's sample is taken first (R406). 11 R411, R413, R414, R416: TOP_COMMIT with a wrong
key sets KEYERR alone, while a commit is in progress or with no surface ARMERR, and else arms with the shadow words of
that instant. A boundary 20 µs later, the edges of its sample taken first, refuses it where a condition fails, with no
active word changed, and else accepts it, both surfaces still to apply; a setting of both surfaces is active at once.
Clauses that rest on a reading or choice of the model follow log entries 26, 68 and 90. -/
def Obligations.TimeBaseBoundaryAndCommit : Prop :=
  (∀ (t : Nat) (s : State), s.coreOn = true → s.Canonical →
      (s.top.loadAt = none → exec (.timeBaseBoundary t) s = .next { s with now := max s.now t }) ∧
      (s.top.loadAt.isSome = true → s.cmt.st ≠ .armed → ∀ m, m = (s.stamp t).edgesFirst →
        ∃ n, exec (.timeBaseBoundary t) s = .next n ∧
        n.tb.fcnt = s.tb.fcnt + 1 ∧ n.tb.bn = (if s.tb.fcnt = 0 then t / 64 * 64 else s.tb.bn + s.tb.per) ∧
        n.tb.per = (if s.tb.fcnt = 0 then s.timing.nom else s.tb.next) ∧
        (s.timing.en = false → n.tb.gl = .free ∧ n.tb.next = clampNat (n.tb.per - n.tb.per * s.timing.slew / 10000)
          (n.tb.per + n.tb.per * s.timing.slew / 10000) s.timing.nom) ∧
        (s.timing.en = true → n.tb.gl = m.tb.gl) ∧ n.tb.ofs = s.tb.ofsNext ∧ n.tb.gloPulse = s.timing.gloEn ∧
        n.tb.darkAt = s.tb.darkAt ∧
        bit (rget n.regs (rawOf 0x01)) 0 = true ∧ rget n.regs 0x1030 = at32 0 (s.tb.fcnt.toNat % 65536) ∧
        rget n.regs Reg.TM_GLMISS = lget m.live Reg.TM_GLMISS ∧ rget n.regs Reg.TM_GLBAD = lget m.live Reg.TM_GLBAD ∧
        rget n.regs Reg.TM_HOLDCNT = lget m.live Reg.TM_HOLDCNT ∧
        RegsOnly [rawOf 0x01, 0x1030, Reg.TM_GLMISS, Reg.TM_GLBAD, Reg.TM_HOLDCNT] m n ∧ Only [.now, .regs, .tb] m n)) ∧
  (∀ (t : Nat) (s : State), s.Canonical →
      (∀ req v, s.Writable t req 0x00 →
        (fld v 16 16 ≠ 0x6B1D → ∃ n, exec (.topCommit t req v) s = .next n ∧ n.cmt = { s.cmt with keyErr := true } ∧
          Only [.now, .cmt] s n) ∧
        (fld v 16 16 = 0x6B1D → s.cmt.st ≠ .idle ∨ fld v 0 2 = 0 → ∃ n, exec (.topCommit t req v) s = .next n ∧
          n.cmt = { s.cmt with armErr := true } ∧ Only [.now, .cmt] s n) ∧
        (fld v 16 16 = 0x6B1D → s.cmt.st = .idle → fld v 0 2 ≠ 0 → exec (.topCommit t req v) s =
          .next { s with now := max s.now t, cmt := { s.cmt with
            st := .armed, smask := BitVec.ofNat 2 (fld v 0 2), armedAt := max s.now t, snap := shadowOnly s.regs } })) ∧
      (s.coreOn = true → s.top.loadAt.isSome = true → s.cmt.st = .armed → s.cmt.armedAt + 20 * usec ≤ max s.now t →
        ∀ m, m = (s.stamp t).edgesFirst →
        (m.commitFails ≠ [] → ∃ n, exec (.timeBaseBoundary t) s = .next n ∧
          n.cmt.st = .idle ∧ n.cmt.last = 2 ∧ n.cmt.accepted = s.cmt.accepted ∧ n.cmt.seq = s.cmt.seq ∧
          Src.CMT_REF ∈ n.flt.raised ∧ bit (rget n.regs (rawOf 0x00)) 1 = true ∧
          (∀ a, 0x800 ≤ a % 0x1000 → rget n.regs a = rget m.regs a) ∧ n.tb.fcnt = s.tb.fcnt + 1 ∧
          n.log.wr = s.log.wr + 1 ∧ Only [.now, .regs, .flt, .tb, .cmt, .log] m n) ∧
        (m.commitFails = [] → ∃ n, exec (.timeBaseBoundary t) s = .next n ∧
          n.cmt.st = .applying ∧ n.cmt.toApply = s.cmt.smask ∧ n.cmt.accepted = true ∧ n.cmt.seq = s.cmt.seq + 1 ∧
          n.cmt.cause = 0 ∧ n.cmt.last = s.cmt.last ∧ n.tb.fcnt = s.tb.fcnt + 1 ∧ n.log.wr = s.log.wr + 1 ∧
          (∀ x ∈ m.changes s.cmt.snap, x.2.2 = 3 → rget n.regs (x.1 + 0x800) = x.2.1) ∧ n.surf = s.surf)))

/-- Completes: surfaceFrameBoundary, decisionInstant. 03 R74, R76, R109; 11 R399, R409, R426: a surface's boundary, after what
its sample registers of the frame that ends, shows the compose bank where its frame is complete, under the settings it was
composed with, and else shows the old frame again and raises FS_REPEAT; the decision of an instant before it takes the
frame's completeness and profile as they stand. A second boundary in one time-base frame has no effect. Clauses that rest
on a reading or choice of the model follow log entries 27, 48, 70, 91, 92, 93 and 94. -/
def Obligations.FrameBoundaryShowsTheCompleteFrame : Prop :=
  ∀ (t : Nat) (u : Fin 2) (s : State), s.coreOn = true → s.Canonical →
    (s.boundaryDue u = true → ∀ m, m = (s.stamp t).endingFirst u →
      ∃ n, exec (.surfaceFrameBoundary t u) s = .next n ∧
      (n.surf[u]).showBank = ((m.surf[u]).showBank != (m.surf[u]).complete) ∧ (n.surf[u]).started = true ∧
      (n.surf[u]).showRegs = (if (m.surf[u]).complete then (m.surf[u]).compRegs else (m.surf[u]).showRegs) ∧
      (n.surf[u]).k = m.nextK u ∧ (n.surf[u]).fn = BitVec.ofNat 8 (m.nextK u) ∧ (n.surf[u]).bk = (m.nextStart u).1 ∧
      (n.surf[u]).per = (m.nextStart u).2 ∧ (n.surf[u]).nextShow = 0 ∧ (n.surf[u]).decided = none ∧
      (n.surf[u]).sEff = (m.settled u).sEff ∧ (n.surf[u]).fbProfile = (m.settled u).profile ∧
      ((m.surf[u]).complete = false → (m.surf[u]).started = true → Src.FS_REPEAT ∈ n.flt.raised) ∧
      (∀ w : Fin 2, w ≠ u → n.surf[w] = m.surf[w] ∧ n.comp[w] = m.comp[w]) ∧ n.tb = s.tb ∧ n.bank0 = s.bank0 ∧
      n.bank1 = s.bank1) ∧
    (s.boundaryDue u = false → exec (.surfaceFrameBoundary t u) s = .next { s with now := max s.now t }) ∧
    (∀ d, (s.surf[u]).decided = some d → d.swap = (s.surf[u]).complete → s.settled u = d) ∧
    (s.tb.fcnt ≠ 0 → ∃ n d, exec (.decisionInstant t u) s = .next n ∧
      n.surf = s.surf.set u { s.surf[u] with decided := some d, decTick := max s.now t / tick } ∧
      d.swap = (s.surf[u]).complete ∧
      d.profile = (if s.cmt.accepted then (s.surf[u]).fbSel else s.glade.hasGpr && gprEn s.glade.gpr u) ∧
      n.tb = s.tb ∧ n.comp = s.comp ∧
      ((∀ k : Fin 4, (s.skein[k]).buffer = none) → n.glade = s.glade ∧ n.corr = s.corr ∧ n.health = s.health)) ∧
    (s.tb.fcnt = 0 → exec (.decisionInstant t u) s = .next { s with now := max s.now t })

/-- Completes: planeCutoff, planeLoadStart. 02 R60, R61; 03 R93, R105, R106, R108; 04 R143, R145; 08 R304, R305; 10 R382,
R383: a cut-off, after the take-ups of its sample, forms the skein's next plane from the arrays that receive it, under its
next SEQ, where none waits, the plane before is in the lane buffers and its cut-off has come; its load starts, one at a
time, where a latch is free, its latest load start has come and it can end t_lead before its show instant: the plane's
packets take stream positions, an IDLE before each block at which the lane buffers were empty. A plane that cannot end in
time is skipped, counted in ST_LATE and raised. Clauses that rest on a reading or choice of the model follow log entries
47, 48, 56 and 102. -/
def Obligations.PlanesAreFormedAndLoaded : Prop :=
  ∀ (t : Nat) (k : Fin 4) (s : State), s.coreOn = true → s.Canonical →
    (∀ up b m, m = (s.stamp t).takeUpsFirst →
      ((s.skein[k]).buffer ≠ none ∨ m.bufferedFor (s.skein[k]).busyTo = false → exec (.planeCutoff t k up b) s = .next m) ∧
      ((∀ v j ahead, m.target k = some (v, j, ahead) → (m.forms v k && m.mayStart v k j usec) = false) →
        exec (.planeCutoff t k up b) s = .next m) ∧
      (∀ v j ahead, (s.skein[k]).buffer = none → m.bufferedFor (s.skein[k]).busyTo = true →
        m.target k = some (v, j, ahead) → m.forms v k = true → m.mayStart v k j usec = true → (s.skein[k]).tau = none →
        (s.skein[k]).reseq = [] →
        ∃ n p, exec (.planeCutoff t k up b) s = .next n ∧ (n.skein[k]).buffer = some p ∧ p.idx = j ∧ p.fn = v.fn ∧
          p.fb = v.fb ∧ p.seq = (s.skein[k]).seq ∧ p.bits.map (fun x => x.1) = (m.planeEntries v k).map (fun e => e.n) ∧
          p.dead = (m.planeErrors v k b).any (fun x => x.2 == .code) ∧
          (n.skein[k]).seq = (s.skein[k]).seq + 1 ∧ (n.skein[k]).nextForm = (s.skein[k]).nextForm + 1 ∧
          (n.skein[k]).queued = (s.skein[k]).queued ∧ (∀ l : Fin 4, l ≠ k → n.skein[l] = s.skein[l]) ∧ n.arr = s.arr ∧
          n.tb = s.tb ∧ n.comp = s.comp ∧ n.stream = s.stream)) ∧
    (∀ idles, (s.skein[k]).buffer = none → exec (.planeLoadStart t k idles) s = .next { s with now := max s.now t }) ∧
    (∀ idles p v, (s.skein[k]).buffer = some p → (s.stamp t).frameOf k p = some v →
      (2 ≤ (s.skein[k]).queued.length + (s.skein[k]).extra.length ∨ max s.now t < (s.skein[k]).busyTo ∨
        (s.stamp t).mayStart v k p.idx 0 = false →
        exec (.planeLoadStart t k idles) s = .next { s with now := max s.now t }) ∧
      ((s.skein[k]).queued.length + (s.skein[k]).extra.length < 2 → (s.skein[k]).busyTo ≤ max s.now t →
        (s.stamp t).mayStart v k p.idx 0 = true → (s.skein[k]).tau = none → p.dead = false →
        (max s.now t + s.loadTicks v k ≤ v.showAt p.idx → (s.skein[k]).lmask ≠ 0 → s.flt.inj.remain = 0 →
          ∃ n y, exec (.planeLoadStart t k idles) s = .next n ∧ (n.skein[k]).buffer = none ∧
            (n.skein[k]).queued = (s.skein[k]).queued ++ [y] ∧ y.plane = (s.stamp t).healthyPlane v p ∧
            y.start = max s.now t ∧ y.stop = max s.now t + s.loadTicks v k +
              positionTicks idles.length (laneCount (s.skein[k]).lmask) s.rateCode ∧
            y.lmask = (s.skein[k]).lmask ∧ y.dark = 0 ∧ (n.skein[k]).busyTo = y.stop - 10240 ∧
            (n.skein[k]).seq = (s.skein[k]).seq ∧ (∀ l : Fin 4, l ≠ k → n.skein[l] = s.skein[l]) ∧
            (n.stream.skein[k]).pkts = (((s.stamp t).advance k 0).stream.skein[k]).pkts ++ withIdles idles
              (y.plane.bits.flatMap (fun x => sharePackets (fld (s.active Reg.AL_POLL) 8 13) x.1 y.plane.seq x.2 0)) ∧
            n.out.head? = some (.plane k (s.skein[k]).lmask y.plane 0) ∧ Only [.now, .skein, .stream, .out] s n) ∧
        (v.showAt p.idx < max s.now t + s.loadTicks v k → p.entry = false → (s.skein[k]).early = false →
          (s.skein[k]).stalled = false →
          ∃ n, exec (.planeLoadStart t k idles) s = .next n ∧ (n.skein[k]).buffer = none ∧
            (n.skein[k]).skipped = (s.skein[k]).skipped ++ [(p.fn, p.idx, p.seq)] ∧
            (n.skein[k]).queued = (s.skein[k]).queued ∧ (∀ l : Fin 4, l ≠ k → n.skein[l] = s.skein[l]) ∧
            lget n.live (Reg.ST_LATE v.u) = satAdd (lget s.live (Reg.ST_LATE v.u)) 1 ∧ LiveOnly [Reg.ST_LATE v.u] s n ∧
            Raised [Src.ST_LATE] s n ∧ Only [.now, .skein, .live, .flt] s n)))

/-- Completes: planeShowInstant, tickRow. 04 R134, R137, R141; 08 R304–R306: at a due show instant each skein of the surface
shows the plane it holds loaded, or none where the load is not complete or there is no load, and FB_STLATE is raised for a
load whose lane buffers ran empty; the stall slack follows the fill; before the instant nothing changes. A TICK row leaves
on each lane of the skein, with the FN of its frame. Clauses that rest on a reading or choice of the model follow log
entries 46, 49 and 92. -/
def Obligations.PlanesAreShown : Prop :=
  ∀ (t : Nat) (u : Fin 2) (s : State), s.coreOn = true →
    (∀ fill, (s.surf[u]).started = true → (s.surf[u]).nextShow < (s.viewNow u).m.planes →
      (s.viewNow u).showAt (s.surf[u]).nextShow ≤ max s.now t → ∃ n, exec (.planeShowInstant t u fill) s = .next n ∧
      (n.surf[u]).nextShow = (s.surf[u]).nextShow + 1 ∧
      n.comp[u] = { s.comp[u] with sslack := BitVec.ofNat 9 (min (s.comp[u]).sslack.toNat ((s.stamp t).stitchSlack u fill
        (fun y => y.plane.fn == (s.viewNow u).fn && y.plane.idx == (s.surf[u]).nextShow))) } ∧
      (∀ k : Fin 4, k ∈ s.skeinsOf u → (s.skein[k]).extra = [] →
        (n.skein[k]).lmask = (s.skein[k]).lmask ∧ (n.skein[k]).buffer = (s.skein[k]).buffer ∧
        (∀ y, (s.skein[k]).queued.find? (fun y => y.plane.fn == (s.viewNow u).fn && y.plane.idx == (s.surf[u]).nextShow) =
            some y →
          (n.skein[k]).shown = (if y.ready (max s.now t) then some y.plane else none) ∧ y ∉ (n.skein[k]).queued ∧
          (y.ready (max s.now t) = false → y.cut = true ∨ 0 < y.idles → Src.FB_STLATE ∈ n.flt.raised)) ∧
        ((s.skein[k]).queued.find? (fun y => y.plane.fn == (s.viewNow u).fn && y.plane.idx == (s.surf[u]).nextShow) = none →
          (n.skein[k]).shown = none)) ∧
      (∀ k : Fin 4, k ∉ s.skeinsOf u → n.skein[k] = s.skein[k]) ∧ n.lane = s.lane ∧ n.arr = s.arr ∧ n.tb = s.tb) ∧
    (∀ fill, (∀ k : Fin 4, (s.skein[k]).extra = []) → max s.now t < (s.viewNow u).showAt (s.surf[u]).nextShow →
      (s.comp[u]).sslack.toNat ≤ 256 → exec (.planeShowInstant t u fill) s = .next { s with now := max s.now t }) ∧
    (∀ k : Fin 4, s.flt.inj.remain = 0 → ∃ n, exec (.tickRow t k) s = .next n ∧
      n.out = ((bitsOf (s.skein[k]).lmask 8).map (fun j => Output.row k (Row.block (.tick (s.skeinFn k)) j))).reverse ++
        (if (s.skein[k]).lmask = 0 then s.out else ((s.stamp t).advance k 0).out) ∧
      Only [.now, .stream, .out] s n)

/-- Completes: fallbackSelectRise, fallbackSelectFall, splice. 03 R99–R101, R104; 17 R609; 10 R384, R385: the selection's rise
is registered where Glade drives it; on a lit surface after the first commit it also takes the frame from the fallback
source, and every skein that carries planes drops what it shows, holds and has formed. Its fall holds the source for a
frame already decided. A splice forms the plane shown again, under a new SEQ, where its conditions hold, and else does
nothing. Clauses that rest on a reading or choice of the model follow log entry 50. -/
def Obligations.FallbackSelectionAndSplice : Prop :=
  ∀ (t : Nat) (s : State), s.coreOn = true → s.Canonical →
    (∀ u : Fin 2, s.glade.select u = false ∨ (s.surf[u]).fbSel = true →
      exec (.fallbackSelectRise t u) s = .next { s with now := max s.now t }) ∧
    (∀ u : Fin 2, s.glade.select u = true → (s.surf[u]).fbSel = false →
      ((s.surf[u]).fbShow = true ∨ (s.cmt.accepted = false ∧ (s.surf[u]).fbBegun = false) ∨ (s.surf[u]).started = false →
        ∃ n, exec (.fallbackSelectRise t u) s = .next n ∧ n.surf = s.surf.set u { s.surf[u] with fbSel := true } ∧
          n.free = s.free ∧ n.regs = s.regs ∧ n.comp = s.comp) ∧
      ((s.surf[u]).fbShow = false → s.cmt.accepted = true → (s.surf[u]).started = true →
        ∃ n, exec (.fallbackSelectRise t u) s = .next n ∧
          n.surf = s.surf.set u { s.surf[u] with fbSel := true, fbShow := true, fbBegun := true } ∧
          (∀ k : Fin 4, k ∈ (s.viewNow u).set.skeins → (s.skein[k]).excl = false → (s.skein[k]).lmask ≠ 0 →
            (n.skein[k]).shown = none ∧ (n.skein[k]).buffer = none ∧ (n.skein[k]).queued = [] ∧
            (n.skein[k]).seq = (s.skein[k]).seq) ∧ n.regs = s.regs ∧ n.comp = s.comp)) ∧
    (∀ u : Fin 2, s.glade.select u = true ∨ (s.surf[u]).fbSel = false →
      exec (.fallbackSelectFall t u) s = .next { s with now := max s.now t }) ∧
    (∀ u : Fin 2, s.glade.select u = false → (s.surf[u]).fbSel = true → ∃ n, exec (.fallbackSelectFall t u) s = .next n ∧
      n.surf = s.surf.set u { s.surf[u] with fbSel := false, fbHold := (s.surf[u]).decided.isSome } ∧ n.free = s.free ∧
      n.regs = s.regs ∧ n.comp = s.comp) ∧
    (∀ (k : Fin 4) (u : Fin 2) (p : Plane) idles bundles, s.skeinSurf k.val = some u → (s.skein[k]).shown = some p →
      ((s.stamp t).spliceFits (s.viewNow u) k p (s.loadTicks (s.viewNow u) k) = false →
        exec (.splice t k idles bundles) s = .next { s with now := max s.now t }) ∧
      ((s.stamp t).spliceFits (s.viewNow u) k p (s.loadTicks (s.viewNow u) k) = true →
        ∃ n y, exec (.splice t k idles bundles) s = .next n ∧
        (n.skein[k]).extra = (s.skein[k]).extra ++ [y] ∧ y.1.plane.idx = p.idx ∧ y.1.plane.seq = (s.skein[k]).seq ∧
        y.1.start = max s.now t + usec ∧ y.2 = max s.now t + usec + s.loadTicks (s.viewNow u) k ∧
        (n.skein[k]).seq = (s.skein[k]).seq + 1 ∧ (∀ l : Fin 4, l ≠ k → n.skein[l] = s.skein[l]) ∧ n.surf = s.surf ∧
        lget n.live (pairKey Reg.SH_SPLICE u) = satAdd (lget s.live (pairKey Reg.SH_SPLICE u)) 1 ∧ n.tb = s.tb)) ∧
    (∀ (k : Fin 4) idles bundles, s.skeinSurf k.val = none ∨ (s.skein[k]).shown = none →
      exec (.splice t k idles bundles) s = .next { s with now := max s.now t })

/-! ### Stores and correction (chapters 03, 07, 09, 15) -/

/-- Completes: bar2FrameStoreWrite, bar2FrameStoreRead, stHmSet, stHmClr, bar2HealthMapWrite. 03 R83, R84; 13 R476: a host
write to the frame store lands in the bank and byte its address names, but for bytes of emitters of driven surfaces, which
stay and raise FS_HWR; no other byte of a sound word changes. A read gives the bytes, or a poisoned completion where a
word cannot be corrected. 03 R92–R94: ST_HM_SET sets the named emitter's health bit and no other, reporting what the read
of its word meets; ST_HM_CLR queues a clear while fewer than 16 wait, and else discards it, sets CLROVF and raises
HM_CLROVF; a write to the map gives the bits of an undriven surface as they are and only sets those of a driven one.
Clauses that rest on a reading or choice of the model follow log entries 17, 29 and 31. -/
def Obligations.FrameStoreAndHealthMap : Prop :=
  (∀ (t : Nat) (req : Req) (addr : Nat) (s : State), s.coreOn = true → s.Canonical →
      (∀ data : List Byte, addr + data.length ≤ 0x1000000 → ∃ n, exec (.bar2FrameStoreWrite t req addr data) s = .next n ∧
        (∀ i, i < data.length → s.emitterDriven ((bankAt (addr + i)).2 / 2) = false →
          (n.bank (bankAt (addr + i)).1).byte (bankAt (addr + i)).2 = data.getD i 0) ∧
        (∀ b x, (s.bank b).ue.contains (x / 8) = false →
          (∀ i, i < data.length → bankAt (addr + i) = (b, x) → s.emitterDriven (x / 2) = true) →
          (n.bank b).byte x = (s.bank b).byte x) ∧
        Raised (if s.hitsDriven addr data then [Src.FS_HWR] else []) s n ∧ Only [.now, .bank0, .bank1, .flt] s n) ∧
      (∀ len, addr + len ≤ 0x1000000 →
        ((∀ i, i < len → (s.bank (bankAt (addr + i)).1).ue.contains ((bankAt (addr + i)).2 / 8) = false) →
          ∃ n, exec (.bar2FrameStoreRead t req addr len) s = .next n ∧
            n.out = .data req ((List.range len).map (fun i =>
              (s.bank (bankAt (addr + i)).1).byte (bankAt (addr + i)).2)) :: s.out ∧ Only [.now, .out] s n) ∧
        ((∃ i, i < len ∧ (s.bank (bankAt (addr + i)).1).ue.contains ((bankAt (addr + i)).2 / 8) = true) →
          ∃ n, exec (.bar2FrameStoreRead t req addr len) s = .next n ∧ n.out = .poisoned req :: s.out ∧
            Only [.now, .out] s n))) ∧
  (∀ (t : Nat) (req : Req) (s : State), s.Canonical →
      (∀ v, s.Writable t req 0x2C → s.flt.inj.remain = 0 → ∃ n, exec (.stHmSet t req v) s = .next n ∧
        n.healthBit (fld v 0 22) = true ∧ (∀ m, m ≠ fld v 0 22 → n.healthBit m = s.healthBit m) ∧
        Raised ((s.healthNotes (fld v 0 22 / 8) (fld v 0 22 / 8 + 1)).filterMap Note.src) s n ∧
        Only [.now, .health, .healthSetAt, .healthSet, .healthSeen, .flt] s n) ∧
      (∀ v, s.Writable t req 0x2C → s.clearQ.length < 16 → ∃ n, exec (.stHmClr t req v) s = .next n ∧
        n.clearQ = s.clearQ ++ [fld v 0 22] ∧ Only [.now, .clearQ] s n) ∧
      (∀ v, s.Writable t req 0x2C → 16 ≤ s.clearQ.length → ∃ n, exec (.stHmClr t req v) s = .next n ∧
        rget n.regs Reg.ST_HM_STAT = rget s.regs Reg.ST_HM_STAT ||| 0x100 ∧ RegsOnly [Reg.ST_HM_STAT] s n ∧
        Raised [Src.HM_CLROVF] s n ∧ Only [.now, .regs, .flt] s n) ∧
      (∀ addr data, s.coreOn = true → s.flt.inj.remain = 0 → addr + data.length ≤ 0x80000 →
        ∃ n, exec (.bar2HealthMapWrite t req addr data) s = .next n ∧
          (∀ m, addr ≤ m / 8 → m / 8 < addr + data.length →
            n.healthBit m = (bit (data.getD (m / 8 - addr) 0) (m % 8) || (s.healthBit m && s.emitterDriven m))) ∧
          (∀ m, m / 8 < addr ∨ addr + data.length ≤ m / 8 → n.healthBit m = s.healthBit m) ∧
          Only [.now, .health, .healthSetAt, .healthSet, .healthSeen, .flt] s n))

/-- Completes: bar2LayerStoreWrite, bar2CalibrationWrite, bar2CalibrationRead. 07 R262; 09 R349, R350: a write to the layer
store or the calibration store lands in its bytes and no other byte of a sound word changes; a written calibration word is
sound; a read of one that cannot be corrected is a poisoned completion. Clauses that rest on a reading or choice of the
model follow log entry 85. -/
def Obligations.LayerAndCalibrationWindows : Prop :=
  ∀ (t : Nat) (req : Req) (addr : Nat) (s : State), s.coreOn = true → s.Canonical →
    (∀ data : List Byte, addr + data.length ≤ 0x800000 → ∃ n, exec (.bar2LayerStoreWrite t req addr data) s = .next n ∧
      (∀ i, i < data.length → n.layers.byte (addr + i) = data.getD i 0) ∧
      (∀ x, x < addr ∨ addr + data.length ≤ x → s.layers.ue.contains (x / 8) = false →
        n.layers.byte x = s.layers.byte x) ∧ Only [.now, .layers] s n) ∧
    (∀ data : List Byte, addr + data.length ≤ 0x800000 → s.flt.inj.remain = 0 →
      ∃ n, exec (.bar2CalibrationWrite t req addr data) s = .next n ∧
      (∀ i, i < data.length → Memory.read calibByte n.calib.cells (addr + i) = data.getD i 0) ∧
      (∀ x, x < addr ∨ addr + data.length ≤ x → s.calib.ue.contains (x / 8) = false →
        Memory.read calibByte n.calib.cells x = Memory.read calibByte s.calib.cells x) ∧
      (∀ w ∈ wordsOf addr data.length, n.calib.ue.contains w = false ∧ n.calib.ce.contains w = false) ∧
      Only [.now, .calib] s n) ∧
    (∀ len, addr + len ≤ 0x800000 →
      (s.calibDead addr len = false → ∃ n, exec (.bar2CalibrationRead t req addr len) s = .next n ∧
        n.out = .data req (Memory.readN calibByte s.calib.cells addr len) :: s.out ∧ Only [.now, .out] s n) ∧
      (s.calibDead addr len = true → ∃ n, exec (.bar2CalibrationRead t req addr len) s = .next n ∧
        n.out = .poisoned req :: s.out ∧ Only [.now, .out] s n))

/-- Completes: crTdataWrite, crMlim, deratingMapWritten, arrayTempStale. 09 R328, R337, R344; 15 R549, R551: CR_TDATA writes
the entry that CR_TADDR names and moves it on, or, into a set in use or one that a boundary of the sample brings into use
(R329), nothing but TWERR; CR_MLIM only lowers MSTEP, and is on page 0x24 only; the tile model's entries wait for the
surface's boundary; a stale array temperature takes TA_HI and raises THM_ATEMP once, and nothing where a status response
comes in the same sample. Clauses that rest on a reading or choice of the model follow log entries 58 and 65. -/
def Obligations.CurvesLimitsAndDerating : Prop :=
  ∀ (t : Nat) (req : Req) (s : State), s.Canonical →
    (∀ v, s.Writable t req 0x24 → (s.stamp t).setHeld (fld (rget s.regs Reg.CR_TADDR) 13 1) = true →
      ∃ n, exec (.crTdataWrite t req v) s = .next n ∧ n.corr = { s.corr with twerr := true } ∧ Raised [Src.CR_TWERR] s n ∧
        Only [.now, .corr, .flt] s n) ∧
    (∀ v, s.Writable t req 0x24 → (s.stamp t).setHeld (fld (rget s.regs Reg.CR_TADDR) 13 1) = false → s.flt.inj.remain = 0 →
      ∃ n, exec (.crTdataWrite t req v) s = .next n ∧
        (∀ k, smGet (fun _ => (0 : BitVec 20)) n.corr.curve k =
          if k = curveKey (fld (rget s.regs Reg.CR_TADDR) 13 1) (fld (rget s.regs Reg.CR_TADDR) 11 2)
            (min 1024 (fld (rget s.regs Reg.CR_TADDR) 0 11)) then v.setWidth 20
          else smGet (fun _ => (0 : BitVec 20)) s.corr.curve k) ∧
        (fld (rget s.regs Reg.CR_TADDR) 0 11 < 1024 → rget n.regs Reg.CR_TADDR =
          at32 0 (fld (rget s.regs Reg.CR_TADDR) 0 11 + 1) ||| at32 11 (fld (rget s.regs Reg.CR_TADDR) 11 2) |||
            at32 13 (fld (rget s.regs Reg.CR_TADDR) 13 1)) ∧
        RegsOnly [Reg.CR_TADDR] s n ∧ Only [.now, .corr, .regs] s n) ∧
    (∀ v, s.Writable t req 0x24 → fld v 0 16 < fld (rget s.regs Reg.CR_MLIM) 0 16 →
      ∃ n, exec (.crMlim t req 0 v) s = .next n ∧ rget n.regs Reg.CR_MLIM = at32 0 (fld v 0 16) ∧
        RegsOnly [Reg.CR_MLIM] s n ∧ Only [.now, .regs] s n) ∧
    (∀ v, s.Writable t req 0x24 → fld (rget s.regs Reg.CR_MLIM) 0 16 ≤ fld v 0 16 →
      exec (.crMlim t req 0 v) s = .next { s with now := max s.now t }) ∧
    (∀ v, s.Writable t req 0x25 → exec (.crMlim t req 1 v) s = .next { s with now := max s.now t }) ∧
    (∀ u : Fin 2, s.coreOn = true → s.flt.inj.remain = 0 → s.Fresh (.deratingMapWritten t u) →
      ∃ n, exec (.deratingMapWritten t u) s = .next n ∧
      (n.corr.surf[u]).mapNew = some ((s.surfTiles u).map (fun i =>
        (i, BitVec.ofNat 12 ((s.tileSet u).factor (tileGet s.tile.tt i))))) ∧
      n.corr = { s.corr with surf := n.corr.surf } ∧ (∀ w : Fin 2, w ≠ u → n.corr.surf[w] = s.corr.surf[w]) ∧
      Only [.now, .corr] s n) ∧
    (∀ a : Fin 16, s.coreOn = true → s.linkEntry a = none ∨ (s.stamp t).hasCome (Awaited.status a).key = true ∨
        (s.stamp t).answering a = true → exec (.arrayTempStale t a) s = .next { s with now := max s.now t }) ∧
    (∀ a : Fin 16, s.coreOn = true → s.linkEntry a ≠ none → (s.stamp t).hasCome (Awaited.status a).key = false →
      (s.stamp t).answering a = false → ∃ n, exec (.arrayTempStale t a) s = .next n ∧
      n.tile = { s.tile with
        fresh := clearBit s.tile.fresh a.val, tarr := s.tile.tarr.set a s.taHi
        atempDef := putBit s.tile.atempDef a.val true } ∧
      Raised (if bit s.tile.atempDef a.val then [] else [Src.THM_ATEMP]) s n ∧ Only [.now, .tile, .flt] s n)

/-! ### Intake (chapter 06) -/

/-- Completes: intakeLaneLockGain, intakeIdleTimeExpiry, intakeLaneLockLoss, frameStart. 05 R190, R195–R197, R200; 06 R229,
R230, R237, R238, R245: a lane's lock gain sets the lock flags that what it received brings, those it had being kept; 10
ms of idle make it stale; the loss of lock of a locked lane counts, raises IN_LOCK and fails the open frames of its
stream; an accepted FS opens its frame in the period it falls in, failed at once where its LINES is not HEIGHT in the
running one, or has it discarded where the period has one. Clauses that rest on a reading or choice of the model follow
log entries 62 and 63. -/
def Obligations.IntakeLanesAndFrameStart : Prop :=
  ∀ (t : Nat) (s : State), s.coreOn = true → s.Canonical →
    (∀ (l : Fin 4) (w : LockGain), ∃ n, exec (.intakeLaneLockGain t l w) s = .next n ∧
      (n.intake.lanes[l]).block = ((s.intake.lanes[l]).block || hdrsLock w.hdrs) ∧
      (n.intake.lanes[l]).marker = ((s.intake.lanes[l]).marker || amsLock w.ams || burstOf w.train == 3) ∧
      (n.intake.lanes[l]).deskew = ((s.intake.lanes[l]).deskew || w.aligned || burstOf w.train == 3) ∧
      (n.intake.lanes[l]).burst = burstOf w.train ∧ (n.intake.lanes[l]).eidle = false ∧
      (n.intake.lanes[l]).amlane = amsLane w.ams (s.intake.lanes[l]).amlane ∧
      (n.intake.lanes[l]).stale = ((s.intake.lanes[l]).stale && !(burstOf w.train == 1 || burstOf w.train == 2)) ∧
      (∀ k : Fin 4, k ≠ l → n.intake.lanes[k] = s.intake.lanes[k]) ∧ n.intake.streams = s.intake.streams ∧
      lget n.live (Reg.IN_BIPERR l) = satAdd (lget s.live (Reg.IN_BIPERR l))
        (w.ams.filter (fun x => RxMarker.ok x && fld x.blk 16 8 != x.parity.toNat)).length ∧
      LiveOnly [Reg.IN_BIPERR l] s n ∧ n.intake.drq = s.intake.drq ∧ Only [.now, .intake, .live] s n) ∧
    (∀ l : Fin 4, ∃ n, exec (.intakeIdleTimeExpiry t l) s = .next n ∧
      n.intake = { s.intake with lanes := s.intake.lanes.set l { s.intake.lanes[l] with stale := true } } ∧
      Only [.now, .intake] s n) ∧
    (∀ (l : Fin 4) (w : LockLoss), (s.intake.lanes[l]).locked l.val = false ∨ ((s.intake.lanes[l]).lose w).locked l.val = true →
      ∃ n, exec (.intakeLaneLockLoss t l w) s = .next n ∧ n.intake.lanes[l] = (s.intake.lanes[l]).lose w ∧
        n.intake.streams = s.intake.streams ∧ LiveOnly [Reg.IN_BIPERR l] s n ∧ Only [.now, .intake, .live] s n) ∧
    (∀ (l : Fin 4) (w : LockLoss), (s.intake.lanes[l]).locked l.val = true →
      lockLost w.hdrs w.dark = true ∨ 4 ≤ w.missed ∨ w.skewed = true →
      ∃ n, exec (.intakeLaneLockLoss t l w) s = .next n ∧ (n.intake.lanes[l]).deskew = !w.skewed ∧
        (n.intake.lanes[l]).block = !lockLost w.hdrs w.dark ∧ (n.intake.lanes[l]).marker = decide (w.missed < 4) ∧
        (n.intake.lanes[l]).eidle = w.idle ∧ (∀ k : Fin 4, k ≠ l → n.intake.lanes[k] = s.intake.lanes[k]) ∧
        lget n.live (Reg.IN_LOCKLOSS l) = satAdd (lget s.live (Reg.IN_LOCKLOSS l)) 1 ∧
        (s.laneStream l = none → n.intake.streams = s.intake.streams ∧
          LiveOnly [Reg.IN_LOCKLOSS l, Reg.IN_BIPERR l] s n ∧ Only [.now, .intake, .live] s n) ∧
        (∀ st, s.laneStream l = some st → Src.IN_LOCK l ∈ n.flt.raised ∧
          ∀ nx f, (s.intake.streams[st]).frame nx = some f → f.isOpen = true →
            Src.IN_FAIL st ∈ n.flt.raised ∧ ∃ f', (n.intake.streams[st]).frame nx = some f' ∧ f'.failed = true ∧
              f'.fn = f.fn ∧ f'.held = [])) ∧
    (∀ (st : Fin 4) (blk : Block) (nx : Bool), s.receives st = true → fld blk 0 8 = 0x30 → Block.crcOk blk = true →
      nx = decide ((s.nextStart (s.inSet st).surf).1 ≤ max s.now t / tick * tick + (s.inSet st).adv) →
      ((s.intake.streams[st]).frame nx = none → ∃ n f, exec (.frameStart t st blk) s = .next n ∧
        (n.intake.streams[st]).frame nx = some f ∧ f.fn = BitVec.ofNat 8 (fld blk 8 8) ∧ f.lines = fld blk 16 13 ∧
        f.failed = (!nx && decide (fld blk 16 13 ≠ (s.inSet st).height)) ∧
        (n.intake.streams[st]).frame (!nx) = (s.intake.streams[st]).frame (!nx) ∧ n.intake.drq = s.intake.drq) ∧
      ((s.intake.streams[st]).frame nx ≠ none → ∃ n, exec (.frameStart t st blk) s = .next n ∧
        n.intake.streams = s.intake.streams.set st { s.intake.streams[st] with drop := some (BitVec.ofNat 8 (fld blk 8 8)) } ∧
        lget n.live (Reg.IN_DROPFR st) = satAdd (lget s.live (Reg.IN_DROPFR st)) 1 ∧ LiveOnly [Reg.IN_DROPFR st] s n ∧
        Raised [Src.IN_DROP st] s n ∧ RegsOnly [Reg.IN_PHASE st] s n ∧ Only [.now, .regs, .live, .intake, .flt] s n)) ∧
    (∀ (st : Fin 4) (blk : Block), s.receives st = false ∨ fld blk 0 8 ≠ 0x30 ∨ Block.crcOk blk = false →
      exec (.frameStart t st blk) s = .next { s with now := max s.now t })

/-- Completes: linePacket, frameEnd, plyBlockError. 06 R233, R239, R240, R242–R246: the next line of the running period's
frame enters its buffer, to leave it at once where no layer needs it, and one of another format or width fails the frame;
a line of the next period's frame waits there as received; a packet whose header fails its CRC-16 or whose CRC-32 fails
counts in IN_PKTERR and reaches no frame; FE closes a frame of the running period whose lines have all come, with more
lines missing than LFIX_MAX fails it, and waits for the checks of the next period's; stray blocks count in IN_PKTERR.
Clauses that rest on a reading or choice of the model follow log entry 61. -/
def Obligations.IntakeLinesAndFrameEnd : Prop :=
  ∀ (t : Nat) (st : Fin 4) (s : State), s.coreOn = true → s.Canonical → s.receives st = true →
    (∀ (h e : Block) (data : List Block) (nx : Bool) (f : InFrame), s.Fresh (.linePacket t st (h :: data ++ [e])) →
      s.flt.inj.remain = 0 → fld h 0 8 = 0x32 → Block.crcOk h = true → data ≠ [] → fld e 0 8 = 0x33 →
      (bitsPerPixel (fld h 28 4) ≠ 0 → data.length = lineBlocks (fld h 28 4) (fld h 32 13)) →
      packetCrc (h :: data ++ [e]) = fld e 32 32 →
      (s.intake.streams[st]).place (BitVec.ofNat 8 (fld h 8 8)) = .frame nx → (s.intake.streams[st]).frame nx = some f →
      (nx = false → fld h 28 4 = (s.inSet st).fmt → fld h 32 13 = (s.inSet st).width → f.missing = [] → f.ended = false →
        fld h 16 12 = f.upto → f.upto < f.lines → (s.intake.streams[st]).occupied < (s.inSet st).elb →
        ∃ n f', exec (.linePacket t st (h :: data ++ [e])) s = .next n ∧ (n.intake.streams[st]).cur = some f' ∧
          f'.upto = f.upto + 1 ∧ f'.lastLine = some f.upto ∧ f'.missing = [] ∧ f'.failed = f.failed ∧
          (∀ x ∈ f.held ++ f.left ++ [lineOf h data], x ∈ f'.held ++ f'.left) ∧
          (n.intake.streams[st]).next = (s.intake.streams[st]).next ∧
          n.intake.lanes = s.intake.lanes ∧ n.intake.drq = s.intake.drq ∧ Only [.now, .intake] s n) ∧
      (nx = false → fld h 28 4 ≠ (s.inSet st).fmt ∨ fld h 32 13 ≠ (s.inSet st).width →
        ∃ n f', exec (.linePacket t st (h :: data ++ [e])) s = .next n ∧ (n.intake.streams[st]).cur = some f' ∧
          f'.failed = true ∧ Src.IN_FAIL st ∈ n.flt.raised ∧ (n.comp[(s.inSet st).surf]).composing = false) ∧
      (nx = true → (s.intake.streams[st]).occupied < (s.inSet st).elb →
        ∃ n, exec (.linePacket t st (h :: data ++ [e])) s = .next n ∧
          (n.intake.streams[st]).next =
            some { f with early := f.early ++ [.line (BitVec.ofNat 8 (fld h 8 8)) (lineOf h data)] } ∧
          n.intake.lanes = s.intake.lanes ∧ n.intake.drq = s.intake.drq ∧ Only [.now, .intake] s n)) ∧
    (∀ (h e : Block) (data : List Block), s.Fresh (.linePacket t st (h :: data ++ [e])) →
      fld h 0 8 ≠ 0x32 ∨ Block.crcOk h = false ∨
      (fld e 0 8 = 0x33 ∧ bitsPerPixel (fld h 28 4) ≠ 0 ∧ data.length = lineBlocks (fld h 28 4) (fld h 32 13) ∧
        s.flt.inj.remain = 0 ∧ packetCrc (h :: data ++ [e]) ≠ fld e 32 32) →
      ∃ n, exec (.linePacket t st (h :: data ++ [e])) s = .next n ∧
        lget n.live (Reg.IN_PKTERR st) = satAdd (lget s.live (Reg.IN_PKTERR st)) 1 ∧ LiveOnly [Reg.IN_PKTERR st] s n ∧
        (∀ q : Fin 4, (n.intake.streams[q]).next = (s.intake.streams[q]).next ∧
          ((n.intake.streams[q]).cur.map (fun f => (f.fn, f.upto, f.missing, f.failed, f.closed))) =
            ((s.intake.streams[q]).cur.map (fun f => (f.fn, f.upto, f.missing, f.failed, f.closed)))) ∧
        n.intake.lanes = s.intake.lanes ∧ n.intake.drq = s.intake.drq ∧ Only [.now, .intake, .live] s n) ∧
    (∀ (blk : Block) (nx : Bool) (f : InFrame), fld blk 0 8 = 0x31 → Block.crcOk blk = true →
      (s.intake.streams[st]).place (BitVec.ofNat 8 (fld blk 8 8)) = .frame nx → (s.intake.streams[st]).frame nx = some f →
      (nx = false → f.missing = [] → f.upto = f.lines → ∃ n f', exec (.frameEnd t st blk) s = .next n ∧
        (n.intake.streams[st]).cur = some f' ∧ f'.closed = true ∧ f'.ended = true ∧ f'.failed = false ∧ f'.held = f.held ∧
        (n.intake.streams[st]).missRun = 0 ∧ (n.intake.streams[st]).lastFn = f.fn ∧
        lget n.live (Reg.IN_FRAMES st) = satAdd (lget s.live (Reg.IN_FRAMES st)) 1 ∧
        (∀ q : Fin 4, q ≠ st → n.intake.streams[q] = s.intake.streams[q]) ∧ n.intake.lanes = s.intake.lanes ∧
        Only [.now, .intake, .live] s n) ∧
      (nx = false → f.missing = [] → (s.inSet st).lfixMax < f.lines - f.upto → ∃ n f', exec (.frameEnd t st blk) s = .next n ∧
        (n.intake.streams[st]).cur = some f' ∧ f'.failed = true ∧ Src.IN_FAIL st ∈ n.flt.raised ∧
        Src.IN_LINEFIX st ∈ n.flt.raised ∧ (∀ q : Fin 4, q ≠ st → n.intake.streams[q] = s.intake.streams[q]) ∧
        (n.comp[(s.inSet st).surf]).composing = false) ∧
      (nx = true → ∃ n, exec (.frameEnd t st blk) s = .next n ∧
        n.intake.streams = s.intake.streams.set st { s.intake.streams[st] with next := some { f with early := f.early ++ [.fe] } } ∧
        n.intake.lanes = s.intake.lanes ∧ n.intake.drq = s.intake.drq ∧ Only [.now, .intake] s n)) ∧
    (∀ e, e = .strayType ∨ e = .strayData ∨ e = .inSide false → ∃ n, exec (.plyBlockError t st e) s = .next n ∧
      lget n.live (Reg.IN_PKTERR st) = satAdd (lget s.live (Reg.IN_PKTERR st)) 1 ∧ LiveOnly [Reg.IN_PKTERR st] s n ∧
      Only [.now, .live] s n)

/-- Completes: sidePacket, sidePacketApertureRead. 06 R246, R249–R251: a good side packet with SPEN set and a slot free joins
its request line's queue and counts in IN_SPCNT, with eight slots taken it is discarded, counted and raises IN_SPOVF,
without SPEN it is discarded and counted; a slot of the stream that a read of the same sample frees is freed first; a
channel's read of an aperture gives the oldest packet and frees its slot. Clauses that rest on a reading or choice of the
model follow log entry 62. -/
def Obligations.SidePackets : Prop :=
  ∀ (t : Nat) (s : State), s.coreOn = true → s.Canonical →
    (∀ (st : Fin 4) (ch : Fin 8) (q : Fin 4) (y : SideSlot) (r : List SideSlot),
      (s.stamp t).sample.ahead = [] → s.pending = [.sidePacketApertureRead t ch q] → s.now ≤ t → s.intake.drq[q] = y :: r →
      ((s.stamp t).freesFirst st).intake = { s.intake with drq := s.intake.drq.set q (if y.stream = st then r else y :: r) }) ∧
    (∀ (st : Fin 4) (h e : Block) (data : List Block) (m : State), m = (s.stamp t).freesFirst st → s.receives st = true → fld h 0 8 = 0x34 → Block.crcOk h = true →
      fld e 0 8 = 0x35 → data.length = fld h 16 5 + 1 → packetCrc (h :: data ++ [e]) = fld e 32 32 →
      (m.intake.streams[st]).sideLate (BitVec.ofNat 8 (fld h 24 8)) = false →
      (bit (m.inSet st).spen (fld h 8 4) = true → m.intake.slots st < 8 → ∀ q : Fin 4,
        q = Fin.ofNat 4 (fld (m.inSet st).spmap (2 * fld h 8 4) 2) →
        ∃ n y, exec (.sidePacket t st (h :: data ++ [e])) s = .next n ∧
          n.intake = { m.intake with drq := m.intake.drq.set q (m.intake.drq[q] ++ [y]) } ∧ y.data = data ∧ y.stream = st ∧
          y.spid = BitVec.ofNat 4 (fld h 8 4) ∧ y.fn = BitVec.ofNat 8 (fld h 24 8) ∧
          y.lineAfter = (m.intake.streams[st]).lineAfter ∧
          lget n.live (Reg.IN_SPCNT st) = satAdd (lget m.live (Reg.IN_SPCNT st)) 1 ∧ LiveOnly [Reg.IN_SPCNT st] m n ∧
          Only [.now, .intake, .live] m n ∧ Only [.now, .intake, .live, .dma, .out] s n) ∧
      (bit (m.inSet st).spen (fld h 8 4) = true → 8 ≤ m.intake.slots st →
        ∃ n, exec (.sidePacket t st (h :: data ++ [e])) s = .next n ∧ n.intake.drq = m.intake.drq ∧
          (n.intake.streams[st]).spovf = true ∧ Raised [Src.IN_SPOVF st] m n ∧
          lget n.live (Reg.IN_SPDROP st) = satAdd (lget m.live (Reg.IN_SPDROP st)) 1 ∧ LiveOnly [Reg.IN_SPDROP st] m n ∧
          Only [.now, .intake, .live, .flt] m n) ∧
      (bit (m.inSet st).spen (fld h 8 4) = false → ∃ n, exec (.sidePacket t st (h :: data ++ [e])) s = .next n ∧
          lget n.live (Reg.IN_SPDROP st) = satAdd (lget m.live (Reg.IN_SPDROP st)) 1 ∧ LiveOnly [Reg.IN_SPDROP st] m n ∧
          Only [.now, .live] m n)) ∧
    (∀ (ch : Fin 8) (q : Fin 4), s.Fresh (.sidePacketApertureRead t ch q) → ∃ n, exec (.sidePacketApertureRead t ch q) s = .next n ∧
      n.intake = { s.intake with drq := s.intake.drq.set q (s.intake.drq[q]).tail } ∧
      n.out = .data (.dma ch) (s.intake.aperture q) :: s.out ∧ Only [.now, .intake, .dma, .out] s n)

/-! ### Composer and fabric (chapters 07, 08) -/

/-- Completes: composeOutputLine, frameComplete. 07 R256, R277, R285; 08 R296, R311; 03 R75, R76: an output line that waits
for a source line is not composed, nor one whose turn is the other surface's; one whose inputs are there is, the surface's
bank on show staying as it is, and the composer goes on to the next; segments that wait for the next FSTART discard it;
the period's end completes the frame where none of it was withheld. A composer at rest does nothing. Reads that end in the
sample of a line count as returned. Clauses that rest on a reading or choice of the model follow log entries 69, 100 and
101. -/
def Obligations.LinesAreComposedAndFramesCompleted : Prop :=
  ∀ (t : Nat) (u : Fin 2) (s : State), s.coreOn = true → s.Canonical →
    (∀ m, m = (s.stamp t).fetchesFirst u →
      (∀ up b, (m.comp[u]).composing = false → exec (.composeOutputLine t u up b) s = .next m) ∧
      (∀ b, (m.comp[u]).composing = true → (m.comp[u]).line < (m.surfComp u).h →
        ((∃ x ∈ m.enabledSlots u, ∃ i, (m.verdict x (m.comp[u]).line).1 = .wait i) →
          ∃ n, exec (.composeOutputLine t u [] b) s = .next n ∧ (n.comp[u]).line = (m.comp[u]).line ∧
            (n.comp[u]).composing = true ∧ (n.comp[u]).withheld = (m.comp[u]).withheld ∧
            (∀ w : Fin 2, w ≠ u → n.comp[w] = m.comp[w]) ∧ Only [.now, .comp] m n) ∧
        ((∀ x ∈ m.enabledSlots u, ∀ i, (m.verdict x (m.comp[u]).line).1 ≠ .wait i) →
          (m.otherFirst u = true → exec (.composeOutputLine t u [] b) s = .next m) ∧
          (m.otherFirst u = false → ∃ n, exec (.composeOutputLine t u [] b) s = .next n ∧ (n.comp[u]).line = (m.comp[u]).line + 1 ∧
            (n.comp[u]).waitIntake = false ∧ n.fab.turn = 1 - u ∧
            n.bank (m.surf[u]).showBank = m.bank (m.surf[u]).showBank ∧ (n.surf[u]).showBank = (m.surf[u]).showBank ∧
            (m.fab.discard = true → (n.comp[u]).discard = true ∧ (n.comp[u]).composing = true ∧ n.bank0 = m.bank0 ∧
              n.bank1 = m.bank1 ∧ n.corr = m.corr) ∧
            (m.fab.discard = false → m.fab.inj = Vector.replicate 8 0 → b = [] → (n.comp[u]).composing = true ∧
              (∀ x ∈ m.enabledSlots u, (m.verdict x (m.comp[u]).line).1 = .use → (n.layer[x]).active = true)) ∧
            (∀ w : Fin 2, w ≠ u → n.comp[w] = m.comp[w] ∧ n.surf[w] = m.surf[w]) ∧ n.skein = m.skein ∧ n.tb = m.tb)))) ∧
    (s.Fresh (.frameComplete t u) →
      ((s.comp[u]).composing = true → (s.surfComp u).h ≤ (s.comp[u]).line → ∃ n, exec (.frameComplete t u) s = .next n ∧
        n.surf = s.surf.set u { s.surf[u] with
          complete := (s.surf[u]).complete || !((s.comp[u]).withheld || (s.comp[u]).discard) } ∧
        (n.comp[u]).composing = false ∧ ((s.comp[u]).withheld = true ∨ (s.comp[u]).discard = true → (n.comp[u]).doneAt = none) ∧
        ((s.comp[u]).withheld = false → (s.comp[u]).discard = false → (s.comp[u]).doneAt = none →
          (n.comp[u]).doneAt = some (max s.now t)) ∧
        (∀ w : Fin 2, w ≠ u → n.comp[w] = s.comp[w]) ∧ Only [.now, .surf, .comp] s n) ∧
      ((s.comp[u]).composing = false ∨ (s.comp[u]).line < (s.surfComp u).h →
        exec (.frameComplete t u) s = .next { s with now := max s.now t }))

/-- Completes: lineFetchIssue, lineFetchComplete. 07 R276–R278, R283, R284: a layer-store line whose tag matches is read whole
at once; a host-memory line is read by one upstream request where one may be outstanding; a line that arrives joins those
fetched, and one that failed raises LY_FETCHERR and is fetched once more; one of an earlier period brings nothing, but a
failed one still raises. A slot that is off, dropped or torn issues none. 07 R279, 13 R496: of the requests of the
register fabric an urgent one is granted first, but where 12 of the last 15 grants were urgent and another waits; among
its equals the one that waits longest. Clauses that rest on a reading or choice of the model follow log entries 64, 100
and 103. -/
def Obligations.LineFetches : Prop :=
  (∀ (t : Nat) (x : Fin 16) (s : State), s.coreOn = true → s.Canonical →
      ((s.comp[slotSurf x]).composing = false ∨ (s.layerSet x).en = false ∨ (s.layerSet x).src = 0 ∨
          (s.layer[x]).dropped = true ∨ (s.layer[x]).torn = true ∨ s.nextFetch x = none →
        exec (.lineFetchIssue t x) s = .next { s with now := max s.now t }) ∧
      (∀ r, (s.comp[slotSurf x]).composing = true → (s.layerSet x).en = true → (s.layer[x]).dropped = false →
        (s.layer[x]).torn = false → s.nextFetch x = some r →
        ((s.layerSet x).src = 1 → BitVec.ofNat 32 (s.layers.le (s.layerSet x).base 4) = (s.layerSet x).tag →
          ∃ n, exec (.lineFetchIssue t x) s = .next n ∧ (n.layer[x]).tagged = true ∧ (n.layer[x]).torn = false ∧
            (n.layer[x]).dropped = false ∧
            (n.layer[x]).fetched.getLast? = some (SrcLine.mk r
              (some (Memory.readN zeroByte s.layers.cells ((s.layerSet x).lineAt r) (s.layerSet x).lineLen))) ∧
            rget n.regs (Reg.LY_SEENTAG x) = (s.layerSet x).tag ∧ (∀ y : Fin 16, y ≠ x → n.layer[y] = s.layer[y]) ∧
            n.host = s.host ∧ n.surf = s.surf ∧ n.comp = s.comp) ∧
        ((s.layerSet x).src ≠ 0 → (s.layerSet x).src ≠ 1 → s.upRoom = false →
          exec (.lineFetchIssue t x) s = .next { s with now := max s.now t }) ∧
        ((s.layerSet x).src ≠ 0 → (s.layerSet x).src ≠ 1 → s.upRoom = true → ∃ n, exec (.lineFetchIssue t x) s = .next n ∧
          (∃ q ∈ n.host.up, q.who = .line x r ∧ q.addr = (s.layerSet x).lineAt r ∧ q.len = (s.layerSet x).lineLen) ∧
          s.host.nextTag < n.host.nextTag ∧ (∀ y : Fin 16, y ≠ x → n.layer[y] = s.layer[y]) ∧ n.surf = s.surf ∧
          n.comp = s.comp)) ∧
      ((∀ q ∈ s.host.up, q.ofSlot x = true → q.res = .waiting) → s.Fresh (.lineFetchComplete t x) →
        exec (.lineFetchComplete t x) s = .next { s with now := max s.now t }) ∧
      (∀ q, s.host.up.find? (fun q => q.ofSlot x && !decide (q.res = .waiting)) = some q → s.Fresh (.lineFetchComplete t x) →
        (s.layer[x]).inFlight.find? (fun y => y.1 == q.tag) = none →
        ∃ n, exec (.lineFetchComplete t x) s = .next n ∧ n.host = s.host.without q.tag ∧
          Raised (if q.bytes.isNone then [Src.LY_FETCHERR (slotSurf x)] else []) s n ∧ Only [.now, .host, .flt] s n) ∧
      (∀ q r z, s.host.up.find? (fun q => q.ofSlot x && !decide (q.res = .waiting)) = some q → s.Fresh (.lineFetchComplete t x) →
        (s.layer[x]).inFlight.find? (fun y => y.1 == q.tag) = some (z, some r) → (s.layer[x]).top ≤ r →
        ∃ n, exec (.lineFetchComplete t x) s = .next n ∧ n.host = s.host.without q.tag ∧
          (n.layer[x]).fetched = (s.layer[x]).fetched ++ [{ line := r, data := q.bytes }] ∧
          (q.bytes = none → r ∉ (s.layer[x]).again → r ∈ (n.layer[x]).refetch) ∧
          Raised (if q.bytes.isNone then [Src.LY_FETCHERR (slotSurf x)] else []) s n ∧
          (∀ y : Fin 16, y ≠ x → n.layer[y] = s.layer[y]) ∧ n.surf = s.surf ∧ n.comp = s.comp)) ∧
  (∀ (last : FabricWho) (recent : List Bool) (l : List FabricReq), l ≠ [] → ∃ r ∈ l, nextGrant last recent l = some r ∧
    (∀ x ∈ l, x.urgent = r.urgent → r.since ≤ x.since) ∧
    (r.urgent = true → urgentAllowed recent = true ∨ ∀ x ∈ l, x.urgent = true) ∧
    (r.urgent = false → urgentAllowed recent = false ∨ ∀ x ∈ l, x.urgent = false))

/-- Completes: segmentWatchdog, fbInj, fbMreq, fbClr. 08 R307, R309, R311–R315, R321; 12 R452: a segment's watchdog counts and
raises FB_STALL, and FB_STALLP at its third trip in a second; one of segments 0 to 4 has the periods being composed
withheld, one of segments 5 to 7 ends each load not yet in the lane buffers. A wait that holds the watchdog, or a
handshake that completes in its tick, prevents the trip. On a crossing to a stopped clock it takes the crossing to STALLED
instead. FB_INJ arms where the requester may inject and sets INJERR where it may not, and neither it nor FB_MREQ is on
surface 1's page; FB_MREQ saturates at 12; FB_CLR restores the minima that it names, and FB_MREQ the tokens held back.
Clauses that rest on a reading or choice of the model follow log entries 66 and 102. -/
def Obligations.FabricWatchdogAndRegisters : Prop :=
  ∀ (t : Nat) (s : State), s.Canonical →
    (∀ (seg : Fin 8) w ack, s.coreOn = true → (s.stamp t).watchdogHeld seg w = true ∨ (s.stamp t).acknowledged ack = true →
      exec (.segmentWatchdog t seg w ack) s = .next { s with now := max s.now t }) ∧
    (∀ (seg : Fin 8) w ack, s.coreOn = true → (s.stamp t).watchdogHeld seg w = false → (s.stamp t).acknowledged ack = false →
      (∀ d, w ≠ .crossing d) → ∃ n, exec (.segmentWatchdog t seg w ack) s = .next n ∧
      n.fab = { s.fab with stalls := s.fab.stalls.set seg ((max s.now t :: s.fab.stalls[seg]).take 2) } ∧
      lget n.live (Reg.FB_STALLCNT 0) = satAdd (lget s.live (Reg.FB_STALLCNT 0)) 1 ∧ LiveOnly [Reg.FB_STALLCNT 0] s n ∧
      Raised (Src.FB_STALL :: (if thirdStall (s.fab.stalls[seg]) (max s.now t) then [Src.FB_STALLP] else [])) s n ∧
      RegsOnly [Reg.FB_LASTERR 0] s n ∧
      (5 ≤ seg.val → n.comp = s.comp ∧ n.surf = s.surf ∧ (∀ k : Fin 4, (n.skein[k]).stalled = true ∧
        (n.skein[k]).queued = (s.skein[k]).queued.map (s.stamp t).cutLoad)) ∧
      (seg.val < 5 → n.skein = s.skein ∧ n.stream = s.stream ∧ ∀ u : Fin 2, ((s.comp[u]).composing = true → (n.comp[u]).composing = false ∧
          (n.comp[u]).withheld = true ∧ (n.comp[u]).discard = true ∧ (n.surf[u]).complete = false) ∧
        ((s.comp[u]).composing = false → n.comp[u] = s.comp[u] ∧ n.surf[u] = s.surf[u])) ∧
      Only [.now, .regs, .live, .fab, .surf, .comp, .skein, .stream, .flt, .out] s n) ∧
    (∀ (seg d : Fin 8) ack, s.coreOn = true → s.mayStall { live := 1, far := d, kind := .fifo } = true →
      (s.stamp t).acknowledged ack = false → ∃ n, exec (.segmentWatchdog t seg (.crossing d) ack) s = .next n ∧
      n.clk.stalled = s.clk.stalled ++ [{ live := 1, far := d, kind := .fifo }] ∧ n.fab = s.fab ∧ n.comp = s.comp ∧ n.surf = s.surf) ∧
    (∀ req v, s.Writable t req 0x20 → fld v 4 2 ≠ 3 → s.mayInject req = true →
      ∃ n, exec (.fbInj t req 0 v) s = .next n ∧
        n.fab = { s.fab with inj := s.fab.inj.set (Fin.ofNat 8 (fld v 0 3)) (BitVec.ofNat 2 (fld v 4 2)) } ∧
        Only [.now, .fab] s n) ∧
    (∀ req v, s.Writable t req 0x20 → fld v 4 2 = 3 → s.mayInject req = true →
      exec (.fbInj t req 0 v) s = .next { s with now := max s.now t }) ∧
    (∀ req v, s.Writable t req 0x21 → exec (.fbInj t req 1 v) s = .next { s with now := max s.now t } ∧
      exec (.fbMreq t req 1 v) s = .next { s with now := max s.now t }) ∧
    (∀ req v, s.Writable t req 0x20 → s.mayInject req = false → ∃ n, exec (.fbInj t req 0 v) s = .next n ∧
      n.flt.inj = { s.flt.inj with injErr := true } ∧ n.flt.raised = s.flt.raised ∧ Only [.now, .flt] s n) ∧
    (∀ req v, s.Writable t req 0x20 → ∃ n, exec (.fbMreq t req 0 v) s = .next n ∧
      rget n.regs (Reg.FB_MREQ 0) = at32 0 (min 12 (fld v 0 4)) ∧ RegsOnly [Reg.FB_MREQ 0] s n ∧
      n.fab = { s.fab with tokens := Vector.replicate 5 (16 - max s.mDroop (max s.fab.mTherm.toNat (min 12 (fld v 0 4)))) } ∧
      Only [.now, .regs, .fab] s n) ∧
    (∀ (u : Fin 2) req v, s.Writable t req (0x20 + u.val) → ∃ n, exec (.fbClr t req u v) s = .next n ∧
      rget n.regs (Reg.FB_FSLACK_MIN u) = (if bit v 0 then 0xFFFFF else rget s.regs (Reg.FB_FSLACK_MIN u)) ∧
      rget n.regs (Reg.FB_SSLACK_MIN u) = (if bit v 1 then 0x100 else rget s.regs (Reg.FB_SSLACK_MIN u)) ∧
      RegsOnly [Reg.FB_FSLACK_MIN u, Reg.FB_SSLACK_MIN u] s n ∧ Only [.now, .regs] s n)

/-! ### DMA (chapter 14) -/

/-- Completes: dmaStart, dmaStop, dmaSwreq, dmaAbort, dmaDoor. 14 R510, R519–R524: START of an idle channel takes DSC and
fetches its descriptor, refused for its request line or DSC with CFGERR, on a channel in use with BUSYERR; STOP ends a
parked channel and waits on another; ABORT in SERVICE sets ABTERR alone; DOOR re-reads a parked channel's descriptor and
waits on another; SWREQ counts, up to 255; an idle channel takes neither STOP nor SWREQ. Clauses that rest on a reading or
choice of the model follow log entry 80. -/
def Obligations.DmaControlCommands : Prop :=
  ∀ (t : Nat) (req : Req) (c : Fin 8) (s : State), s.Canonical → s.Writable t req 0x0A →
    ((s.dma.ch[c]).st ≠ .idle → ∃ n, exec (.dmaStart t req c) s = .next n ∧
      n.dma = { s.dma with ch := s.dma.ch.set c { s.dma.ch[c] with busyErr := true } } ∧ Only [.now, .dma] s n) ∧
    ((s.dma.ch[c]).st = .idle → s.startRefused c = true → ∃ n, exec (.dmaStart t req c) s = .next n ∧
      n.dma = { s.dma with ch := s.dma.ch.set c { s.dma.ch[c] with cfgErr := true } } ∧ Only [.now, .dma] s n) ∧
    ((s.dma.ch[c]).st = .idle → s.startRefused c = false → ∃ n, exec (.dmaStart t req c) s = .next n ∧
      (n.dma.ch[c]).st = .fetch ∧ (n.dma.ch[c]).owner = (s.ownerBit req == 1) ∧ (n.dma.ch[c]).cur = s.dmaDsc c ∧
      (n.dma.ch[c]).curSp = bit (rget s.regs (Reg.DMA_CFG c)) 4 ∧
      (bit (rget s.regs (Reg.DMA_CFG c)) 4 = false →
        ∃ q ∈ n.host.up, q.who = .dma c ∧ q.addr = (s.dmaDsc c).toNat ∧ q.len = 32) ∧
      (bit (rget s.regs (Reg.DMA_CFG c)) 4 = true → Only [.now, .dma] s n) ∧
      (∀ d : Fin 8, d ≠ c → n.dma.ch[d] = s.dma.ch[d])) ∧
    (∀ k, k = .dmaStop t req c ∨ k = .dmaSwreq t req c → (s.dma.ch[c]).st = .idle → s.Fresh k →
      exec k s = .next { s with now := max s.now t }) ∧
    ((s.dma.ch[c]).st = .parked → s.Fresh (.dmaStop t req c) → ∃ n, exec (.dmaStop t req c) s = .next n ∧
      n.dma = { s.dma with ch := s.dma.ch.set c (s.dma.ch[c]).toIdle } ∧ Only [.now, .dma] s n) ∧
    ((s.dma.ch[c]).st ≠ .idle → (s.dma.ch[c]).st ≠ .parked → s.Fresh (.dmaStop t req c) → ∃ n, exec (.dmaStop t req c) s = .next n ∧
      n.dma = { s.dma with ch := s.dma.ch.set c { s.dma.ch[c] with stopPend := true } } ∧ Only [.now, .dma] s n) ∧
    ((s.stamp t).phaseService = true → s.Fresh (.dmaAbort t req c) → ∃ n, exec (.dmaAbort t req c) s = .next n ∧
      n.dma = { s.dma with ch := s.dma.ch.set c { s.dma.ch[c] with abtErr := true } } ∧ Only [.now, .dma] s n) ∧
    ((s.stamp t).phaseService = false → (s.dma.ch[c]).st = .wait → s.Fresh (.dmaAbort t req c) → ∃ n, exec (.dmaAbort t req c) s = .next n ∧
      (n.dma.ch[c]).st = .wb ∧ (n.dma.ch[c]).lastOut = .aborted ∧
      (n.dma.ch[c]).residue = BitVec.ofNat 24 (s.dma.ch[c]).left ∧ (n.dma.ch[c]).doneCnt = (s.dma.ch[c]).doneCnt + 1 ∧
      (∀ d : Fin 8, d ≠ c → n.dma.ch[d] = s.dma.ch[d]) ∧ Only [.now, .dma] s n) ∧
    ((s.stamp t).phaseService = false → (s.dma.ch[c]).st = .move → s.Fresh (.dmaAbort t req c) → ∃ n, exec (.dmaAbort t req c) s = .next n ∧
      n.dma = { s.dma with ch := s.dma.ch.set c { s.dma.ch[c] with abortPend := true } } ∧ Only [.now, .dma] s n) ∧
    ((s.dma.ch[c]).st ≠ .parked → ∃ n, exec (.dmaDoor t req c) s = .next n ∧
      n.dma = { s.dma with ch := s.dma.ch.set c { s.dma.ch[c] with doorPend := true } } ∧ Only [.now, .dma] s n) ∧
    ((s.dma.ch[c]).st = .parked → (s.dma.ch[c]).reread = false → ∃ n, exec (.dmaDoor t req c) s = .next n ∧
      (n.dma.ch[c]).reread = true ∧ (n.dma.ch[c]).doorPend = false ∧ (n.dma.ch[c]).st = .parked ∧
      (n.dma.ch[c]).cur = (s.dma.ch[c]).cur ∧ (∀ d : Fin 8, d ≠ c → n.dma.ch[d] = s.dma.ch[d])) ∧
    ((s.dma.ch[c]).st ≠ .idle → ∃ n, exec (.dmaSwreq t req c) s = .next n ∧
      n.dma = { s.dma with ch := s.dma.ch.set c (if (s.dma.ch[c]).swPend = 255 then { s.dma.ch[c] with reqOvf := true }
        else { s.dma.ch[c] with swPend := (s.dma.ch[c]).swPend + 1 }) } ∧ Only [.now, .dma] s n)

/-- Completes: descriptorFetched, dmaRequestTaken, dmaBurstGrant. 14 R509, R511–R513, R521, R522: a descriptor read that
brings bytes gives the channel its descriptor, to MOVE, or to WAIT with PACE, or, malformed, to WB with outcome BAD and
cause 1; a re-read with END clear goes on at NEXT. A channel that waits takes a request from its asserted line, but for an
ABORT of the same sample; a grant starts a burst of the channel whose turn it is, with its read of a host source. Clauses
that rest on a reading or choice of the model follow log entries 80, 98 and 103. -/
def Obligations.DmaDescriptorsRequestsAndGrants : Prop :=
  ∀ (t : Nat) (c : Fin 8) (s : State), s.coreOn = true → s.Canonical →
    (∀ q b, (s.dma.ch[c]).curSp = false → s.host.up.find? (fun r => some r.tag == (s.dma.ch[c]).upTag) = some q →
      q.res = .data b →
      ((s.dma.ch[c]).st = .fetch → (s.dma.ch[c]).abortPend = false → (s.dma.ch[c]).stopPend = false →
        ((descOf b).malformed = false → ∃ n, exec (.descriptorFetched t c) s = .next n ∧
          (n.dma.ch[c]).desc = descOf b ∧ (n.dma.ch[c]).moved = 0 ∧
          (n.dma.ch[c]).st = (if (descOf b).pace then .wait else .move) ∧
          (∀ d : Fin 8, d ≠ c → n.dma.ch[d] = s.dma.ch[d]) ∧ Only [.now, .host, .dma] s n) ∧
        ((descOf b).malformed = true → ∃ n, exec (.descriptorFetched t c) s = .next n ∧
          (n.dma.ch[c]).st = .wb ∧ (n.dma.ch[c]).lastOut = .bad ∧ (n.dma.ch[c]).cause = 1 ∧
          (n.dma.ch[c]).residue = BitVec.ofNat 24 (descOf b).count ∧ Raised [Src.DMA_BAD] s n ∧
          rget n.regs (Reg.DMA_BADCNT c) = satAdd (rget s.regs (Reg.DMA_BADCNT c)) 1 ∧
          rget n.regs (rawOf 0x0A) = rget s.regs (rawOf 0x0A) ||| BitVec.ofNat 32 (2 ^ (8 + c.val)) ∧
          RegsOnly [rawOf 0x0A, Reg.DMA_BADCNT c] s n ∧ (∀ d : Fin 8, d ≠ c → n.dma.ch[d] = s.dma.ch[d]) ∧
          Only [.now, .regs, .flt, .host, .dma] s n)) ∧
      ((s.dma.ch[c]).st = .parked → (s.dma.ch[c]).reread = true → Nat.testBit (leAt b 0 8) 1 = false →
        ∃ n, exec (.descriptorFetched t c) s = .next n ∧ (n.dma.ch[c]).st = .fetch ∧
          (n.dma.ch[c]).cur = BitVec.ofNat 64 (leAt b 0 8) &&& 0xFFFFFFFFFFFFFFC0#64 ∧
          (∀ d : Fin 8, d ≠ c → n.dma.ch[d] = s.dma.ch[d]))) ∧
    (∀ m, m = (s.stamp t).haltFirst c →
      ((m.dma.ch[c]).st = .wait → (m.dma.ch[c]).abortPend = true → ∃ n, exec (.dmaRequestTaken t c) s = .next n ∧
        (n.dma.ch[c]).st = .wb ∧ (n.dma.ch[c]).lastOut = .aborted ∧ Only [.now, .dma] m n) ∧
      ((m.dma.ch[c]).st = .wait → (m.dma.ch[c]).abortPend = false → m.reqLine c (m.dmaReq c) = true →
        (m.dma.ch[c]).lineSettled (max s.now t) = true → ∃ n, exec (.dmaRequestTaken t c) s = .next n ∧
        (n.dma.ch[c]).st = .move ∧ (n.dma.ch[c]).taken = true ∧
        (n.dma.ch[c]).swPend = (if m.dmaReq c = 15 then (m.dma.ch[c]).swPend - 1 else (m.dma.ch[c]).swPend) ∧
        (∀ d : Fin 8, d ≠ c → n.dma.ch[d] = m.dma.ch[d]) ∧ Only [.now, .dma] m n) ∧
      ((m.dma.ch[c]).st ≠ .wait ∨ ((m.dma.ch[c]).abortPend = false ∧
          (m.reqLine c (m.dmaReq c) = false ∨ (m.dma.ch[c]).lineSettled (max s.now t) = false)) →
        exec (.dmaRequestTaken t c) s = .next m)) ∧
    (s.mayGrant c = true → ∃ n, exec (.dmaBurstGrant t c) s = .next n ∧ (n.dma.ch[c]).burst = true ∧
      (n.dma.ch[c]).st = .move ∧ n.dma.lastGrant = c ∧
      ((s.dma.ch[c]).desc.srcChip = true → Only [.now, .dma] s n) ∧
      ((s.dma.ch[c]).desc.srcChip = false → ∃ q ∈ n.host.up, q.who = .dma c ∧ q.addr = (s.dma.ch[c]).burstSrc ∧
        q.len = (s.dma.ch[c]).burstLen) ∧ (∀ d : Fin 8, d ≠ c → n.dma.ch[d] = s.dma.ch[d])) ∧
    (s.mayGrant c = false → exec (.dmaBurstGrant t c) s = .next { s with now := max s.now t })

/-- Completes: dmaBurstEnd, dmaBusError, dmaWriteBackDone. 14 R513–R515, R521, R524: a burst's end sends the bytes its host
source brought, to a host destination as an upstream write or into the layer store, and the channel goes on, or, all
moved, to WB with outcome DONE; a source error ends the descriptor BAD with cause 2 and no byte written; after its write-
back a channel ends (aborted, stopped), parks (END) or fetches NEXT; an abandoned write-back counts and raises DMA_WBERR.
Clauses that rest on a reading or choice of the model follow log entries 80, 81 and 104. -/
def Obligations.DmaBurstsAndWriteBacks : Prop :=
  ∀ (t : Nat) (c : Fin 8) (s : State), s.coreOn = true → s.Canonical →
    (∀ b, s.burstReady c = true → (s.dma.ch[c]).desc.srcChip = false → s.burstAnswer c = some b →
      b.length = (s.dma.ch[c]).burstLen →
      ((s.dma.ch[c]).desc.dstChip = false → s.linkReady = true →
        ((s.dma.ch[c]).burstLen < (s.dma.ch[c]).left → (s.dma.ch[c]).abortPend = false →
          ∃ n, exec (.dmaBurstEnd t c) s = .next n ∧ n.out = .upWrite (s.dma.ch[c]).burstDst b :: s.out ∧
            (n.dma.ch[c]).moved = (s.dma.ch[c]).moved + (s.dma.ch[c]).burstLen ∧ (n.dma.ch[c]).burst = false ∧
            (n.dma.ch[c]).st = (if (s.dma.ch[c]).desc.pace then .wait else .move) ∧
            Only [.now, .host, .dma, .shade, .out] s n) ∧
        ((s.dma.ch[c]).burstLen = (s.dma.ch[c]).left → bit (s.dma.ch[c]).desc.ctl 6 = true →
          ∃ n, exec (.dmaBurstEnd t c) s = .next n ∧ n.out = .upWrite (s.dma.ch[c]).burstDst b :: s.out ∧
            (n.dma.ch[c]).st = .wb ∧ (n.dma.ch[c]).lastOut = .done ∧ (n.dma.ch[c]).residue = 0 ∧
            (n.dma.ch[c]).doneCnt = (s.dma.ch[c]).doneCnt + 1 ∧
            (bit (s.dma.ch[c]).desc.ctl 5 = true → bit (rget n.regs (rawOf 0x0A)) c.val = true) ∧
            RegsOnly [rawOf 0x0A] s n ∧ Only [.now, .regs, .host, .dma, .shade, .out] s n)) ∧
      ((s.dma.ch[c]).desc.dstChip = true → 0x01000000 ≤ (s.dma.ch[c]).burstDst →
        (s.dma.ch[c]).burstDst + (s.dma.ch[c]).burstLen ≤ 0x01800000 → (s.dma.ch[c]).burstLen < (s.dma.ch[c]).left →
        (s.dma.ch[c]).abortPend = false → ∃ n, exec (.dmaBurstEnd t c) s = .next n ∧
          (∀ i, i < b.length → n.layers.byte ((s.dma.ch[c]).burstDst - 0x01000000 + i) = b.getD i 0) ∧
          (n.dma.ch[c]).moved = (s.dma.ch[c]).moved + (s.dma.ch[c]).burstLen ∧
          Only [.now, .host, .dma, .shade, .layers] s n)) ∧
    (s.burstReady c = true → (s.dma.ch[c]).desc.srcChip = false → s.burstAnswer c = none →
      ∃ n, exec (.dmaBusError t c) s = .next n ∧ (n.dma.ch[c]).st = .wb ∧ (n.dma.ch[c]).lastOut = .bad ∧
        (n.dma.ch[c]).cause = 2 ∧ (n.dma.ch[c]).residue = BitVec.ofNat 24 (s.dma.ch[c]).left ∧ Raised [Src.DMA_BAD] s n ∧
        rget n.regs (Reg.DMA_BADCNT c) = satAdd (rget s.regs (Reg.DMA_BADCNT c)) 1 ∧
        Only [.now, .free, .regs, .flt, .host, .dma, .shade] s n) ∧
    ((s.dma.ch[c]).st = .wb → (s.dma.ch[c]).curSp = false → s.linkReady = true →
      (∀ k ∈ s.pending, ∀ w q, k ≠ .dmaStop w q c ∧ k ≠ .dmaAbort w q c) →
      ∃ n, exec (.dmaWriteBackDone t c true) s = .next n ∧
        (∃ l, n.out = l ++ .upWrite ((s.dma.ch[c]).cur.toNat + 0x20) (s.dma.ch[c]).wbBytes :: s.out) ∧
        ((s.dma.ch[c]).lastOut = .aborted → (n.dma.ch[c]).st = .idle ∧ (n.dma.ch[c]).cur = (s.dma.ch[c]).cur) ∧
        ((s.dma.ch[c]).lastOut ≠ .aborted → (s.dma.ch[c]).abortPend = false →
          ((s.dma.ch[c]).stopPend = true → (n.dma.ch[c]).st = .idle ∧ (n.dma.ch[c]).cur = (s.dma.ch[c]).desc.nextAddr) ∧
          ((s.dma.ch[c]).stopPend = false → bit (s.dma.ch[c]).desc.next 1 = true →
            (n.dma.ch[c]).st = .parked ∧ (n.dma.ch[c]).cur = (s.dma.ch[c]).cur) ∧
          ((s.dma.ch[c]).stopPend = false → bit (s.dma.ch[c]).desc.next 1 = false →
            (n.dma.ch[c]).st = .fetch ∧ (n.dma.ch[c]).cur = (s.dma.ch[c]).desc.nextAddr)) ∧
        (∀ d : Fin 8, d ≠ c → n.dma.ch[d] = s.dma.ch[d]) ∧ n.layers = s.layers ∧ n.bank0 = s.bank0) ∧
    ((s.dma.ch[c]).st = .wb → ∃ n, exec (.dmaWriteBackDone t c false) s = .next n ∧ Src.DMA_WBERR ∈ n.flt.raised ∧
      rget n.regs Reg.DMA_WBERR = satAdd (rget s.regs Reg.DMA_WBERR) 1 ∧ (n.dma.ch[c]).st ≠ .wb ∧
      n.layers = s.layers ∧ n.bank0 = s.bank0) ∧
    ((s.dma.ch[c]).st ≠ .wb → ∀ ok, exec (.dmaWriteBackDone t c ok) s = .next { s with now := max s.now t })

/-! ### Shade lists (chapter 10) -/

/-- Completes: shMbpubGo, mailboxCopyDone, listTakeUp, listLifeExpiry. 10 R368, R371–R375, R379, R381, R394: GO of the mailbox
is refused, as an overrun, while the surface's buffers or the copy are in use, and else makes its list arrive and starts
the copy, before whose end the take-up does not end; the take-up of an image that meets the checks makes it ACTIVE, of
another rejects it and keeps the list; a finite lifetime's end makes the surface stale once, but for a take-up of the same
sample. Clauses that rest on a reading or choice of the model follow log entries 30 and 72. -/
def Obligations.ShadeMailboxAndLists : Prop :=
  ∀ (t : Nat) (s : State), s.Canonical →
    (∀ req v, s.Writable t req 0x28 →
      (bit v 0 = false → exec (.shMbpubGo t req v) s = .next { s with now := max s.now t }) ∧
      (bit v 0 = true → (s.stamp t).goRefused (mailboxSurf s.regs) = true → ∃ n, exec (.shMbpubGo t req v) s = .next n ∧
        n.shade = { s.shade with mbErr := true } ∧ Raised [Src.SH_OVERRUN (mailboxSurf s.regs)] s n ∧
        bit (rget n.regs (rawOf 0x28)) 2 = true ∧ RegsOnly [rawOf 0x28] s n ∧
        lget n.live (rejKey (mailboxSurf s.regs) true) = satAdd (lget s.live (rejKey (mailboxSurf s.regs) true)) 1 ∧
        Only [.now, .regs, .live, .flt, .shade] s n) ∧
      (bit v 0 = true → (s.stamp t).goRefused (mailboxSurf s.regs) = false → ∃ n, exec (.shMbpubGo t req v) s = .next n ∧
        n.shade.mbBusy = some (mailboxSurf s.regs) ∧ n.shade.mbErr = s.shade.mbErr ∧
        (n.shade.surf[mailboxSurf s.regs]).taking = some (s.mailboxImage (mailboxSurf s.regs)) ∧
        (n.shade.surf[mailboxSurf s.regs]).takeNow = BitVec.ofNat 32 (s.stamp t).usecNow ∧
        (∀ u : Fin 2, (n.shade.surf[u]).active = (s.shade.surf[u]).active ∧
          (u ≠ mailboxSurf s.regs → n.shade.surf[u] = s.shade.surf[u])) ∧ Only [.now, .shade] s n)) ∧
    (∀ u : Fin 2, s.coreOn = true → s.flt.inj.remain = 0 → s.shade.mbBusy = some u →
      exec (.mailboxCopyDone t) s = .next { s with now := max s.now t, shade := { s.shade with mbBusy := none } }) ∧
    (s.coreOn = true → s.shade.mbBusy = none → exec (.mailboxCopyDone t) s = .next { s with now := max s.now t }) ∧
    (∀ u : Fin 2, s.coreOn = true → s.Fresh (.listTakeUp t u) → (s.shade.surf[u]).taking = none ∨ s.shade.mbBusy = some u →
      exec (.listTakeUp t u) s = .next { s with now := max s.now t }) ∧
    (∀ (u : Fin 2) m, s.coreOn = true → s.Fresh (.listTakeUp t u) → (s.shade.surf[u]).taking = some m →
      s.shade.mbBusy ≠ some u →
      (∀ l, listOf m u (s.shade.surf[u]).takeNow.toNat = some l → (s.shade.surf[u]).fillBad = false →
        ∃ n, exec (.listTakeUp t u) s = .next n ∧ (n.shade.surf[u]).active = some l ∧ (n.shade.surf[u]).taking = none ∧
          (n.shade.surf[u]).stale = false ∧ (n.shade.surf[u]).boxSet = (s.shade.surf[u]).boxSet + 1 ∧
          lget n.live (pairKey Reg.SH_TAKES u) = satAdd (lget s.live (pairKey Reg.SH_TAKES u)) 1 ∧
          bit (rget n.regs (rawOf 0x28)) u.val = true ∧ RegsOnly [rawOf 0x28] s n ∧
          (∀ w : Fin 2, w ≠ u → n.shade.surf[w] = s.shade.surf[w]) ∧ Only [.now, .regs, .live, .shade] s n) ∧
      (listOf m u (s.shade.surf[u]).takeNow.toNat = none → ∃ n, exec (.listTakeUp t u) s = .next n ∧
          (n.shade.surf[u]).active = (s.shade.surf[u]).active ∧ (n.shade.surf[u]).taking = none ∧
          (n.shade.surf[u]).boxSet = (s.shade.surf[u]).boxSet ∧ Raised [Src.SH_BADLIST u] s n ∧
          lget n.live (rejKey u false) = satAdd (lget s.live (rejKey u false)) 1 ∧
          Only [.now, .regs, .live, .flt, .shade] s n)) ∧
    (∀ (u : Fin 2) m l, s.coreOn = true → m = (s.stamp t).takeUpsFirst → (m.shade.surf[u]).active = some l →
      (l.life ≠ 0 → (m.shade.surf[u]).stale = false → m.hasCome (Awaited.list u).key = false →
        ∃ n, exec (.listLifeExpiry t u) s = .next n ∧
        (n.shade.surf[u]).stale = true ∧ (n.shade.surf[u]).active = some l ∧ Raised [Src.SH_STALE u] m n ∧
        bit (rget n.regs (rawOf 0x28)) 3 = true ∧ RegsOnly [rawOf 0x28] m n ∧ Only [.now, .regs, .flt, .shade] m n) ∧
      (l.life = 0 ∨ (m.shade.surf[u]).stale = true ∨ m.hasCome (Awaited.list u).key = true →
        exec (.listLifeExpiry t u) s = .next m))

/-- Completes: descriptorFetched. 14 R516: an error while a descriptor is fetched makes the channel idle with CUR at the
failing descriptor, sets FETCHERR and raises DMA_FETCH; nothing is written back. -/
def Obligations.DescriptorFetchErrors : Prop :=
  ∀ (t : Nat) (c : Fin 8) (s : State), s.coreOn = true →
    (s.dma.ch[c]).st = .fetch → (s.stamp t).fetchResult c (s.dma.ch[c]).cur.toNat 32 = some none →
    ∃ n, exec (.descriptorFetched t c) s = .next n ∧
      n.dma = { s.dma with ch := s.dma.ch.set c { (s.dma.ch[c]).toIdle with fetchErr := true } } ∧
      (n.dma.ch[c]).st = .idle ∧ (n.dma.ch[c]).cur = (s.dma.ch[c]).cur ∧ (n.dma.ch[c]).fetchErr = true ∧
      Raised [Src.DMA_FETCH] s n ∧ n.out = s.out ∧ Only [.now, .host, .dma, .flt] s n

/-- Completes: dmaSwreq, registerWrite, dmaRequestTaken. 14 R510: a write of SWREQ alone, as its command or as the dword
written to DMA_CHn_CTRL, adds 1 to SWPEND, at 255 sets REQOVF instead, and has no effect on an idle channel; a channel
whose request line is its own takes a request by lowering SWPEND by 1; and whatever the command, a channel that enters
IDLE has SWPEND 0. -/
def Obligations.SoftwareRequests : Prop :=
  (∀ (t : Nat) (req : Req) (c : Fin 8) (k : Instr) (s : State), s.Writable t req 0x0A →
    k = .dmaSwreq t req c ∨ (k = .registerWrite t req (BitVec.ofNat 21 (Reg.DMA_CTRL c)) 0x10 0xF ∧ s.Fresh k) →
    ((s.dma.ch[c]).st = .idle → exec k s = .next { s with now := max s.now t }) ∧
    ((s.dma.ch[c]).st ≠ .idle → (s.dma.ch[c]).swPend = 255 → ∃ n, exec k s = .next n ∧
      n.dma = { s.dma with ch := s.dma.ch.set c { s.dma.ch[c] with reqOvf := true } } ∧ Only [.now, .dma] s n) ∧
    ((s.dma.ch[c]).st ≠ .idle → (s.dma.ch[c]).swPend ≠ 255 → ∃ n, exec k s = .next n ∧
      n.dma = { s.dma with ch := s.dma.ch.set c { s.dma.ch[c] with swPend := (s.dma.ch[c]).swPend + 1 } } ∧
      Only [.now, .dma] s n)) ∧
  (∀ (t : Nat) (c : Fin 8) (s m : State), s.coreOn = true → m = (s.stamp t).haltFirst c → m.dmaReq c = 15 →
    (m.dma.ch[c]).st = .wait → (m.dma.ch[c]).abortPend = false → (m.dma.ch[c]).lineSettled (max s.now t) = true →
    (m.dma.ch[c]).swPend ≠ 0 → ∃ n, exec (.dmaRequestTaken t c) s = .next n ∧
      n.dma = { m.dma with ch := m.dma.ch.set c { m.dma.ch[c] with
        st := .move, readyAt := max s.now t, taken := true, swPend := (m.dma.ch[c]).swPend - 1 } } ∧
      Only [.now, .dma] m n) ∧
  (∀ (k : Instr) (c : Fin 8) (s n : State), exec k s = .next n → (s.dma.ch[c]).st ≠ .idle → (n.dma.ch[c]).st = .idle →
    (n.dma.ch[c]).swPend = 0)

/-! ### Boot, security commands and debug (chapters 18, 19) -/

/-- Completes: bootSelect. 18 R641, R642; 19 R677: with no valid journal record the ROM tries slot A, then B; the first image
that LOAD accepts starts firmware, its payload in the TCM and FP_BOOT naming the slot, FELLBACK with B; with neither,
Forester enters recovery, raises FO_BOOT and opens the mailbox, the watchdog serviced. In the ROM alone, and not before
Glade's LOAD has ended. Clauses that rest on a reading or choice of the model follow log entry 41. -/
def Obligations.BootSelectsASlot : Prop :=
  ∀ (t : Nat) (ja jb a b dir : List Byte) (s : State), s.coreOn = true → s.Canonical →
    (s.fst.st = .rom → s.loading = false → journalOk ja = false → journalOk jb = false →
      (s.sec.accepts a dir = true → ∃ n, exec (.bootSelect t ja jb a b dir) s = .next n ∧ n.fst.st = .firmware ∧
        rget n.regs Reg.FP_BOOT = bootWord false false false ∧ n.sec.romPhase = false ∧ n.sec.resA = 1 ∧
        n.sec.resB = s.sec.resB ∧ n.sec.imgCnt = BitVec.ofNat 64 (leAt a 0x010 8) ∧
        (∀ p, s.sec.open_ a = some p → ∀ i, i < p.length → n.fst.tcm.byte i = p.getD i 0) ∧ n.sec.otp = s.sec.otp ∧
        RegsOnly [Reg.FP_BOOT] s n ∧ Only [.now, .regs, .fst, .sec, .flt] s n) ∧
      (s.sec.accepts a dir = false → s.sec.accepts b dir = true →
        ∃ n, exec (.bootSelect t ja jb a b dir) s = .next n ∧ n.fst.st = .firmware ∧
        rget n.regs Reg.FP_BOOT = bootWord true false true ∧ n.sec.romPhase = false ∧ n.sec.resB = 1 ∧ n.sec.resA ≠ 1 ∧
        n.sec.otp = s.sec.otp ∧ RegsOnly [Reg.FP_BOOT] s n ∧ Only [.now, .regs, .fst, .sec, .flt] s n) ∧
      (s.sec.accepts a dir = false → s.sec.accepts b dir = false →
        (s.wdRuns = true → s.gladeOn = true → s.glade.wdSoon (max s.now t) = false) → ∃ n, exec (.bootSelect t ja jb a b dir) s = .next n ∧
        n.fst.st = .recovery ∧ rget n.regs Reg.FP_MB_CTRL = 1 ∧ Src.FO_BOOT ∈ n.flt.raised ∧
        n.sec.romPhase = s.sec.romPhase ∧ n.sec.otp = s.sec.otp ∧
        ((s.wdRuns && s.gladeOn) = false → RegsOnly [Reg.FP_MB_CTRL] s n ∧ Only [.now, .regs, .fst, .sec, .flt] s n))) ∧
    (s.fst.st ≠ .rom ∨ s.loading = true → exec (.bootSelect t ja jb a b dir) s = .next { s with now := max s.now t })

/-- Completes: verify, load, arbRaise, otpProg, cfgSet, secCommandEnd. 19 R674, R675, R677, R681: a SEC command while one is
in progress is refused with ECODE 1, with a wrong key 2; LOAD outside the ROM phase 3; ARB_RAISE below the counter 5;
OTP_PROG of a word that is not blank 4; CFG_SET for its own code; in a window of a supply or the shutdown 7, as they were
before the sample. Else it starts, with the data the registers hold. Refused, it changes nothing but ERR and ECODE. 19
R669, R674–R677, R681, R690: a SEC command's end sets DONE and the page's event and leaves BUSY; VERIFY records its code
for the slot and programs nothing; LOAD of an accepted image writes its payload and IMGCNT; OTP_PROG, and ARB_RAISE of a
new value, set the named bits of one word and leave every other word; the recovery set goes on with what it waited for.
With no command in progress nothing ends. Clauses that rest on a reading or choice of the model follow log entries 21 and
41. -/
def Obligations.SecurityCommands : Prop :=
  (∀ (t : Nat) (v : Word) (s : State), s.fst.st ≠ .reset → s.Writable t .forester 0x60 →
      (∀ c, c = .verify t v ∨ c = .load t v ∨ c = .arbRaise t v ∨ c = .otpProg t v ∨ c = .cfgSet t v →
        (s.sec.job ≠ none → ∃ n, exec c s = .next n ∧ n.sec = { s.sec with err := true, ecode := 1 } ∧ Only [.now, .sec] s n) ∧
        (s.sec.job = none → fld v 16 16 ≠ 0x05EC →
          ∃ n, exec c s = .next n ∧ n.sec = { s.sec with err := true, ecode := 2 } ∧ Only [.now, .sec] s n)) ∧
      (s.sec.job = none → fld v 16 16 = 0x05EC →
        (s.sec.romPhase = false →
          ∃ n, exec (.load t v) s = .next n ∧ n.sec = { s.sec with err := true, ecode := 3 } ∧ Only [.now, .sec] s n) ∧
        (s.arbReq < s.sec.arb →
          ∃ n, exec (.arbRaise t v) s = .next n ∧ n.sec = { s.sec with err := true, ecode := 5 } ∧ Only [.now, .sec] s n) ∧
        (s.sec.blank (fld (rget s.regs Reg.SEC_OTPADDR) 0 9) = false →
          ∃ n, exec (.otpProg t v) s = .next n ∧ n.sec = { s.sec with err := true, ecode := 4 } ∧ Only [.now, .sec] s n) ∧
        (s.sec.cfgCode s.otpData ≠ 0 → ∃ n, exec (.cfgSet t v) s = .next n ∧
          n.sec = { s.sec with err := true, ecode := BitVec.ofNat 4 (s.sec.cfgCode s.otpData) } ∧ Only [.now, .sec] s n) ∧
        ((s.stamp t).windowBefore = true ∨ bit s.pwr.railErr 6 = true →
          ∃ n, exec (.verify t v) s = .next n ∧ n.sec = { s.sec with err := true, ecode := 7 } ∧ Only [.now, .sec] s n) ∧
        ((s.stamp t).windowBefore = false → bit s.pwr.railErr 6 = false →
          (∃ n j, exec (.verify t v) s = .next n ∧ n.sec = { s.sec with job := some j } ∧ j.op = 1 ∧ j.arg = bit v 4 ∧
            Only [.now, .sec] s n) ∧
          (s.sec.romPhase = true → ∃ n j, exec (.load t v) s = .next n ∧ n.sec = { s.sec with job := some j } ∧ j.op = 2 ∧
            j.arg = bit v 4 ∧ Only [.now, .sec] s n) ∧
          (s.sec.arb < s.arbReq → s.arbReq ≤ (s.stamp t).imgBefore → ∀ i, s.sec.firstBlank = some i →
            ∃ n j, exec (.arbRaise t v) s = .next n ∧ n.sec = { s.sec with job := some j } ∧ j.op = 3 ∧
              j.addr = recordWord i ∧ j.v = BitVec.ofNat 64 s.arbReq ∧ Only [.now, .sec] s n) ∧
          (∀ a, a = fld (rget s.regs Reg.SEC_OTPADDR) 0 9 → 4 ≤ a → a ≤ 27 → s.sec.blank a = true →
            lcsOf s.sec.cfg ≠ 3 → ∃ n j, exec (.otpProg t v) s = .next n ∧ n.sec = { s.sec with job := some j } ∧ j.op = 4 ∧
              j.addr = a ∧ j.v = BitVec.ofNat 64 s.otpData ∧ Only [.now, .sec] s n) ∧
          (s.sec.cfgCode s.otpData = 0 → ∃ n j, exec (.cfgSet t v) s = .next n ∧ n.sec = { s.sec with job := some j } ∧
            j.op = 5 ∧ j.v = BitVec.ofNat 64 s.otpData ∧ Only [.now, .sec] s n)))) ∧
  (∀ (t : Nat) (slot dir : List Byte) (s : State), s.coreOn = true → s.Canonical →
      (s.sec.job = none → exec (.secCommandEnd t slot dir) s = .next { s with now := max s.now t }) ∧
      (∀ j, s.sec.job = some j → ∃ n, exec (.secCommandEnd t slot dir) s = .next n ∧ n.sec.job = none ∧ n.sec.done = true ∧
        bit (rget n.regs (rawOf 0x60)) 0 = true ∧ n.sec.dbgOpen = s.sec.dbgOpen) ∧
      (∀ j, s.sec.job = some j → s.fst.st ≠ .recovery ∨ (∀ b, s.fst.rom.op ≠ .verify b) →
        ∃ n, exec (.secCommandEnd t slot dir) s = .next n ∧ RegsOnly [rawOf 0x60] s n ∧
        (j.op = 1 → n.sec.otp = s.sec.otp ∧ n.fst = s.fst ∧ n.sec.imgCnt = s.sec.imgCnt ∧
          (j.arg = false → n.sec.resA = BitVec.ofNat 4 (s.sec.verify slot dir) ∧ n.sec.resB = s.sec.resB) ∧
          (j.arg = true → n.sec.resB = BitVec.ofNat 4 (s.sec.verify slot dir) ∧ n.sec.resA = s.sec.resA)) ∧
        (j.op = 2 → n.sec.otp = s.sec.otp ∧ (∀ p, s.sec.verify slot dir = 1 → s.sec.open_ slot = some p →
          n.sec.imgCnt = BitVec.ofNat 64 (leAt slot 0x010 8) ∧ ∀ i, i < p.length → n.fst.tcm.byte i = p.getD i 0)) ∧
        (j.op = 4 ∨ (j.op = 3 ∧ j.v.toNat ≠ s.sec.arb) → n.fst = s.fst ∧
          n.sec.otpWord j.addr = s.sec.otpWord j.addr ||| j.v.toNat ∧
          (∀ w, w ≠ j.addr → n.sec.otpWord w = s.sec.otpWord w)) ∧
        (j.op = 3 → j.v.toNat = s.sec.arb → n.sec.otp = s.sec.otp) ∧
        Only [.now, .regs, .fst, .log, .sec, .flt] s n))

/-- Completes: secChal, secResp, challengeExpiry, debugAccess. 19 R682–R685, R689: a challenge sends its nonce, a response of
the same sample judged first, and none is given within 1 s of a failed response; a response that R684 accepts opens debug
at its level, is logged and raises SEC_DBGOPEN; another raises SEC_DBGFAIL; either uses the challenge up, and so do 10 s.
IDCODE is read at any level; another debug action below its level has no effect; at level 1 Forester halts, at level 2 the
cells are driven. Clauses that rest on a reading or choice of the model follow log entries 22, 82 and 86. -/
def Obligations.AuthenticatedDebug : Prop :=
  ∀ (t : Nat) (s : State), s.coreOn = true → s.Canonical →
    (∀ m, m = (s.stamp t).respFirst →
      (m.sec.failAt = none → ∃ n, exec (.secChal t) s = .next n ∧ n.sec.chalAt = some (max s.now t) ∧
        n.sec.nonce = toBytesBE 32 (Config.entropy s.free).toNat ∧
        n.out = .jtag (n.sec.nonce ++ dieBytes ++ [BitVec.ofNat 8 m.sec.lcs]) :: m.out ∧ n.sec.dbgOpen = m.sec.dbgOpen ∧
        Only [.now, .free, .sec, .out] m n) ∧
      (∀ f, m.sec.failAt = some f → max s.now t < f + 1000 * msec → exec (.secChal t) s = .next m)) ∧
    (∀ l k sig key, s.Fresh (.secResp t l k sig key) → s.sec.opens (max s.now t) l k.toNat sig key = true →
      ∃ n, exec (.secResp t l k sig key) s = .next n ∧
      n.sec = { s.sec with dbgOpen := true, dbgLevel := l, chalAt := none } ∧ Src.SEC_DBGOPEN ∈ n.flt.raised ∧
      bit (rget n.regs (rawOf 0x60)) 1 = true ∧ RegsOnly [rawOf 0x60] s n ∧ n.log.wr = s.log.wr + 1 ∧
      Only [.now, .regs, .flt, .sec, .log] s n) ∧
    (∀ l k sig key, s.Fresh (.secResp t l k sig key) → s.sec.opens (max s.now t) l k.toNat sig key = false → ∃ n, exec (.secResp t l k sig key) s = .next n ∧
      n.sec = { s.sec with chalAt := none, failAt := some (max s.now t) } ∧ Src.SEC_DBGFAIL ∈ n.flt.raised ∧
      Only [.now, .flt, .sec] s n) ∧
    ((s.stamp t).respArriving = true → exec (.challengeExpiry t) s = .next { s with now := max s.now t }) ∧
    ((s.stamp t).respArriving = false → ∃ n, exec (.challengeExpiry t) s = .next n ∧ n.sec = { s.sec with chalAt := none } ∧
      Only [.now, .sec] s n) ∧
    (∃ n, exec (.debugAccess t .idcode) s = .next n ∧ n.out = .jtag (toBytesLE 4 0x14410B47) :: s.out ∧ Only [.now, .out] s n) ∧
    (s.sec.dbgOpen = false → ∀ op, op ≠ .idcode → exec (.debugAccess t op) s = .next { s with now := max s.now t }) ∧
    (s.sec.dbgOpen = true → 1 ≤ s.sec.dbgLevel.toNat →
      (s.fst.st ≠ .reset → ∃ n, exec (.debugAccess t .halt) s = .next n ∧ n.fst = { s.fst with halted := true } ∧
        Only [.now, .fst] s n) ∧
      (∀ a v, 0x10000000 ≤ a.toNat → a.toNat < 0x10040000 → a.toNat % 4 = 0 →
        ∃ n, exec (.debugAccess t (.write a v)) s = .next n ∧
          n.fst.tcm.le (a.toNat - 0x10000000) 4 = v.toNat ∧ Only [.now, .fst] s n)) ∧
    (s.sec.dbgOpen = true → s.sec.dbgLevel.toNat < 2 → ∀ l, exec (.debugAccess t (.extest l)) s =
      .next { s with now := max s.now t }) ∧
    (s.sec.dbgOpen = true → 2 ≤ s.sec.dbgLevel.toNat → ∀ l, ∃ n, exec (.debugAccess t (.extest l)) s = .next n ∧
      n.out = .extest l :: s.out ∧ Only [.now, .out] s n)
end

