-- ==== Sys2Proof/Laws/Only.lean ====
section
/-! SUPPORT. What `Only` does under composition, branches, folds and updates of fields. -/

namespace Sys2Proof.Machine

open Sys2Proof

/-- Two equal states differ in no part. -/
theorem Part.same_refl (p : Part) (s : State) : p.same s s := by
  cases p <;> first | exact ⟨rfl, rfl⟩ | rfl

/-- A part that stays the same twice is the same over both. -/
theorem Part.same_trans {p : Part} {s u v : State} (h : p.same s u) (k : p.same u v) : p.same s v := by
  cases p <;> first | exact ⟨k.1.trans h.1, k.2.trans h.2⟩ | exact Eq.trans k h

/-- Nothing changed. -/
theorem Only.refl {l : List Part} {s : State} : Only l s s := fun p _ => p.same_refl s

/-- A second change after a first one, its parts among the parts listed. -/
theorem Only.app {l m : List Part} {s u v : State} (k : Only m u v) (hm : m.all (fun p => l.contains p) = true)
    (h : Only l s u) : Only l s v := by
  intro p hp
  refine Part.same_trans (h p hp) (k p ?_)
  cases hc : m.contains p
  · rfl
  · rw [List.all_eq_true.mp hm p (by simpa using hc)] at hp
    cases hp

/-- A longer list says less. -/
theorem Only.mono {l m : List Part} {s t : State} (h : Only m s t) (hm : m.all (fun p => l.contains p) = true) :
    Only l s t := h.app hm .refl

/-- A branch. -/
theorem Only.ite {l : List Part} {s a b : State} {c : Prop} [Decidable c] (ha : Only l s a) (hb : Only l s b) :
    Only l s (if c then a else b) := by split <;> assumption

/-- A branch that answers a value beside the state. -/
theorem Only.snd_ite {α : Type} {l : List Part} {s : State} {a b : α × State} {c : Prop} [Decidable c]
    (ha : Only l s a.2) (hb : Only l s b.2) : Only l s (if c then a else b).2 := by split <;> assumption

/-- A fold of changes. -/
theorem Only.foldl {α : Type} {l : List Part} {s u : State} {f : State → α → State} {xs : List α}
    (h : Only l s u) (hf : ∀ v x, Only l s v → Only l s (f v x)) : Only l s (xs.foldl f u) := by
  induction xs generalizing u with
  | nil => exact h
  | cons x xs ih => exact ih (hf u x h)

/-- A change made under a condition. -/
theorem Only.when {l : List Part} {s u : State} {c : Bool} {f : State → State} (hf : ∀ v, Only l s v → Only l s (f v))
    (h : Only l s u) : Only l s (u.when c f) := by
  unfold State.when
  split
  · exact hf u h
  · exact h

/-- What a search answers changes only the parts listed. -/
def OptOnly (l : List Part) (s : State) (o : Option (State → State)) : Prop :=
  ∀ f, o = some f → ∀ v, Only l s v → Only l s (f v)

/-- Nothing found. -/
theorem OptOnly.none {l : List Part} {s : State} : OptOnly l s none := fun _ e => by cases e

/-- A change found. -/
theorem OptOnly.some {l : List Part} {s : State} {f : State → State} (h : ∀ v, Only l s v → Only l s (f v)) :
    OptOnly l s (some f) := fun _ e => by cases e; exact h

/-- A branch between two searches. -/
theorem OptOnly.ite {l : List Part} {s : State} {a b : Option (State → State)} {c : Prop} [Decidable c]
    (ha : OptOnly l s a) (hb : OptOnly l s b) : OptOnly l s (if c then a else b) := by split <;> assumption

/-- What a command answers changes only the parts listed, where it answers a next state. -/
def OnlyOut (l : List Part) (s : State) (o : Host.Outcome State Fault Refusal) : Prop := ∀ t, o = .next t → Only l s t

/-- A next state. -/
theorem OnlyOut.next {l : List Part} {s t : State} (h : Only l s t) : OnlyOut l s (.next t) := by
  intro v e
  cases e
  exact h

/-- A branch between two answers. -/
theorem OnlyOut.ite {l : List Part} {s : State} {a b : Host.Outcome State Fault Refusal} {c : Prop} [Decidable c]
    (ha : OnlyOut l s a) (hb : OnlyOut l s b) : OnlyOut l s (if c then a else b) := by split <;> assumption

theorem Only.set_now {v} {s : State} : Only [.now] s { s with now := v } := by
  intro p h; cases p <;> first | exact ⟨rfl, rfl⟩ | rfl | cases h

theorem Only.set_free {v} {s : State} : Only [.free] s { s with free := v } := by
  intro p h; cases p <;> first | exact ⟨rfl, rfl⟩ | rfl | cases h

theorem Only.set_sample {v} {s : State} : Only [.now] s { s with sample := v } := by
  intro p h; cases p <;> first | exact ⟨rfl, rfl⟩ | rfl | cases h

theorem Only.set_regs {v} {s : State} : Only [.regs] s { s with regs := v } := by
  intro p h; cases p <;> first | exact ⟨rfl, rfl⟩ | rfl | cases h

theorem Only.set_hi {v} {s : State} : Only [.hi] s { s with hi := v } := by
  intro p h; cases p <;> first | exact ⟨rfl, rfl⟩ | rfl | cases h

theorem Only.set_top {v} {s : State} : Only [.top] s { s with top := v } := by
  intro p h; cases p <;> first | exact ⟨rfl, rfl⟩ | rfl | cases h

theorem Only.set_clk {v} {s : State} : Only [.clk] s { s with clk := v } := by
  intro p h; cases p <;> first | exact ⟨rfl, rfl⟩ | rfl | cases h

theorem Only.set_host {v} {s : State} : Only [.host] s { s with host := v } := by
  intro p h; cases p <;> first | exact ⟨rfl, rfl⟩ | rfl | cases h

theorem Only.set_bank0 {v} {s : State} : Only [.bank0] s { s with bank0 := v } := by
  intro p h; cases p <;> first | exact ⟨rfl, rfl⟩ | rfl | cases h

theorem Only.set_bank1 {v} {s : State} : Only [.bank1] s { s with bank1 := v } := by
  intro p h; cases p <;> first | exact ⟨rfl, rfl⟩ | rfl | cases h

theorem Only.set_health {v} {s : State} : Only [.health] s { s with health := v } := by
  intro p h; cases p <;> first | exact ⟨rfl, rfl⟩ | rfl | cases h

theorem Only.set_clearQ {v} {s : State} : Only [.clearQ] s { s with clearQ := v } := by
  intro p h; cases p <;> first | exact ⟨rfl, rfl⟩ | rfl | cases h

theorem Only.set_layers {v} {s : State} : Only [.layers] s { s with layers := v } := by
  intro p h; cases p <;> first | exact ⟨rfl, rfl⟩ | rfl | cases h

theorem Only.set_calib {v} {s : State} : Only [.calib] s { s with calib := v } := by
  intro p h; cases p <;> first | exact ⟨rfl, rfl⟩ | rfl | cases h

theorem Only.set_surf {v} {s : State} : Only [.surf] s { s with surf := v } := by
  intro p h; cases p <;> first | exact ⟨rfl, rfl⟩ | rfl | cases h

theorem Only.set_skein {v} {s : State} : Only [.skein] s { s with skein := v } := by
  intro p h; cases p <;> first | exact ⟨rfl, rfl⟩ | rfl | cases h

theorem Only.set_arr {v} {s : State} : Only [.arr] s { s with arr := v } := by
  intro p h; cases p <;> first | exact ⟨rfl, rfl⟩ | rfl | cases h

theorem Only.set_ret {v} {s : State} : Only [.ret] s { s with ret := v } := by
  intro p h; cases p <;> first | exact ⟨rfl, rfl⟩ | rfl | cases h

theorem Only.set_areq {v} {s : State} : Only [.areq] s { s with areq := v } := by
  intro p h; cases p <;> first | exact ⟨rfl, rfl⟩ | rfl | cases h

theorem Only.set_lane {v} {s : State} : Only [.lane] s { s with lane := v } := by
  intro p h; cases p <;> first | exact ⟨rfl, rfl⟩ | rfl | cases h

theorem Only.set_stream {v} {s : State} : Only [.stream] s { s with stream := v } := by
  intro p h; cases p <;> first | exact ⟨rfl, rfl⟩ | rfl | cases h

theorem Only.set_intake {v} {s : State} : Only [.intake] s { s with intake := v } := by
  intro p h; cases p <;> first | exact ⟨rfl, rfl⟩ | rfl | cases h

theorem Only.set_layer {v} {s : State} : Only [.layer] s { s with layer := v } := by
  intro p h; cases p <;> first | exact ⟨rfl, rfl⟩ | rfl | cases h

theorem Only.set_comp {v} {s : State} : Only [.comp] s { s with comp := v } := by
  intro p h; cases p <;> first | exact ⟨rfl, rfl⟩ | rfl | cases h

theorem Only.set_fab {v} {s : State} : Only [.fab] s { s with fab := v } := by
  intro p h; cases p <;> first | exact ⟨rfl, rfl⟩ | rfl | cases h

theorem Only.set_corr {v} {s : State} : Only [.corr] s { s with corr := v } := by
  intro p h; cases p <;> first | exact ⟨rfl, rfl⟩ | rfl | cases h

theorem Only.set_shade {v} {s : State} : Only [.shade] s { s with shade := v } := by
  intro p h; cases p <;> first | exact ⟨rfl, rfl⟩ | rfl | cases h

theorem Only.set_tb {v} {s : State} : Only [.tb] s { s with tb := v } := by
  intro p h; cases p <;> first | exact ⟨rfl, rfl⟩ | rfl | cases h

theorem Only.set_cmt {v} {s : State} : Only [.cmt] s { s with cmt := v } := by
  intro p h; cases p <;> first | exact ⟨rfl, rfl⟩ | rfl | cases h

theorem Only.set_dma {v} {s : State} : Only [.dma] s { s with dma := v } := by
  intro p h; cases p <;> first | exact ⟨rfl, rfl⟩ | rfl | cases h

theorem Only.set_pwr {v} {s : State} : Only [.pwr] s { s with pwr := v } := by
  intro p h; cases p <;> first | exact ⟨rfl, rfl⟩ | rfl | cases h

theorem Only.set_thm {v} {s : State} : Only [.thm] s { s with thm := v } := by
  intro p h; cases p <;> first | exact ⟨rfl, rfl⟩ | rfl | cases h

theorem Only.set_tile {v} {s : State} : Only [.tile] s { s with tile := v } := by
  intro p h; cases p <;> first | exact ⟨rfl, rfl⟩ | rfl | cases h

theorem Only.set_flt {v} {s : State} : Only [.flt] s { s with flt := v } := by
  intro p h; cases p <;> first | exact ⟨rfl, rfl⟩ | rfl | cases h

theorem Only.set_glade {v} {s : State} : Only [.glade] s { s with glade := v } := by
  intro p h; cases p <;> first | exact ⟨rfl, rfl⟩ | rfl | cases h

theorem Only.set_fst {v} {s : State} : Only [.fst] s { s with fst := v } := by
  intro p h; cases p <;> first | exact ⟨rfl, rfl⟩ | rfl | cases h

theorem Only.set_log {v} {s : State} : Only [.log] s { s with log := v } := by
  intro p h; cases p <;> first | exact ⟨rfl, rfl⟩ | rfl | cases h

theorem Only.set_sec {v} {s : State} : Only [.sec] s { s with sec := v } := by
  intro p h; cases p <;> first | exact ⟨rfl, rfl⟩ | rfl | cases h

theorem Only.set_free_sec {v w} {s : State} : Only [.free, .sec] s { s with free := v, sec := w } := by
  intro p h; cases p <;> first | exact ⟨rfl, rfl⟩ | rfl | cases h

theorem Only.set_regs_cmt {v w} {s : State} : Only [.regs, .cmt] s { s with regs := v, cmt := w } := by
  intro p h; cases p <;> first | exact ⟨rfl, rfl⟩ | rfl | cases h

theorem Only.set_regs_thm {v w} {s : State} : Only [.regs, .thm] s { s with regs := v, thm := w } := by
  intro p h; cases p <;> first | exact ⟨rfl, rfl⟩ | rfl | cases h

theorem Only.set_regs_fst {v w} {s : State} : Only [.regs, .fst] s { s with regs := v, fst := w } := by
  intro p h; cases p <;> first | exact ⟨rfl, rfl⟩ | rfl | cases h

theorem Only.set_top_clk {v w} {s : State} : Only [.top, .clk] s { s with top := v, clk := w } := by
  intro p h; cases p <;> first | exact ⟨rfl, rfl⟩ | rfl | cases h

theorem Only.set_clk_host {v w} {s : State} : Only [.clk, .host] s { s with clk := v, host := w } := by
  intro p h; cases p <;> first | exact ⟨rfl, rfl⟩ | rfl | cases h

theorem Only.set_clk_glade {v w} {s : State} : Only [.clk, .glade] s { s with clk := v, glade := w } := by
  intro p h; cases p <;> first | exact ⟨rfl, rfl⟩ | rfl | cases h

theorem Only.set_host_fst {v w} {s : State} : Only [.host, .fst] s { s with host := v, fst := w } := by
  intro p h; cases p <;> first | exact ⟨rfl, rfl⟩ | rfl | cases h

theorem Only.set_health_healthSeen {v w} {s : State} :
    Only [.health, .healthSeen] s { s with health := v, healthSeen := w } := by
  intro p h; cases p <;> first | exact ⟨rfl, rfl⟩ | rfl | cases h

theorem Only.set_healthSetAt_healthSet {v w} {s : State} :
    Only [.healthSetAt, .healthSet] s { s with healthSetAt := v, healthSet := w } := by
  intro p h; cases p <;> first | exact ⟨rfl, rfl⟩ | rfl | cases h

theorem Only.set_surf_comp {v w} {s : State} : Only [.surf, .comp] s { s with surf := v, comp := w } := by
  intro p h; cases p <;> first | exact ⟨rfl, rfl⟩ | rfl | cases h

theorem Only.set_tb_cmt {v w} {s : State} : Only [.tb, .cmt] s { s with tb := v, cmt := w } := by
  intro p h; cases p <;> first | exact ⟨rfl, rfl⟩ | rfl | cases h

theorem Only.set_thm_fst {v w} {s : State} : Only [.thm, .fst] s { s with thm := v, fst := w } := by
  intro p h; cases p <;> first | exact ⟨rfl, rfl⟩ | rfl | cases h

theorem Only.set_flt_glade {v w} {s : State} : Only [.flt, .glade] s { s with flt := v, glade := w } := by
  intro p h; cases p <;> first | exact ⟨rfl, rfl⟩ | rfl | cases h

theorem Only.set_regs_top_host {v w x} {s : State} :
    Only [.regs, .top, .host] s { s with regs := v, top := w, host := x } := by
  intro p h; cases p <;> first | exact ⟨rfl, rfl⟩ | rfl | cases h

theorem Only.set_regs_host_fst {v w x} {s : State} :
    Only [.regs, .host, .fst] s { s with regs := v, host := w, fst := x } := by
  intro p h; cases p <;> first | exact ⟨rfl, rfl⟩ | rfl | cases h

theorem Only.set_regs_fst_sec {v w x} {s : State} :
    Only [.regs, .fst, .sec] s { s with regs := v, fst := w, sec := x } := by
  intro p h; cases p <;> first | exact ⟨rfl, rfl⟩ | rfl | cases h

theorem Only.set_fab_pwr_thm {v w x} {s : State} :
    Only [.fab, .pwr, .thm] s { s with fab := v, pwr := w, thm := x } := by
  intro p h; cases p <;> first | exact ⟨rfl, rfl⟩ | rfl | cases h

theorem Only.set_thm_glade_fst {v w x} {s : State} :
    Only [.thm, .glade, .fst] s { s with thm := v, glade := w, fst := x } := by
  intro p h; cases p <;> first | exact ⟨rfl, rfl⟩ | rfl | cases h

theorem Only.set_regs_tb_cmt_flt {v w x y} {s : State} :
    Only [.regs, .tb, .cmt, .flt] s { s with regs := v, tb := w, cmt := x, flt := y } := by
  intro p h; cases p <;> first | exact ⟨rfl, rfl⟩ | rfl | cases h

theorem Only.set_regs_glade_fst_sec {v w x y} {s : State} :
    Only [.regs, .glade, .fst, .sec] s { s with regs := v, glade := w, fst := x, sec := y } := by
  intro p h; cases p <;> first | exact ⟨rfl, rfl⟩ | rfl | cases h

theorem Only.set_sample_regs_live_flt_out {v w x y z} {s : State} :
    Only [.now, .regs, .live, .flt, .out] s { s with sample := v, regs := w, live := x, flt := y, out := z } := by
  intro p h; cases p <;> first | exact ⟨rfl, rfl⟩ | rfl | cases h

theorem Only.set_now_sample_top_host_glade_out {v w x y z a} {s : State} :
    Only [.now, .top, .host, .glade, .out] s { s with now := v, sample := w, top := x, host := y, glade := z, out := a } := by
  intro p h; cases p <;> first | exact ⟨rfl, rfl⟩ | rfl | cases h

end Sys2Proof.Machine
end

