-- ==== Sys2Proof/Laws/Canon.lean ====
section
/-! SUPPORT. Sparse maps keep their canonical form, and what `State.Canonical` needs of an update of fields. -/

namespace Sys2Proof.Machine

open Sys2Proof

/-! ### Sparse maps -/

/-- A lower bound may be lowered. -/
theorem smWfFrom_mono {α : Type} [DecidableEq α] {d : Nat → α} {m : List (Nat × α)} {a b : Nat} (hab : a ≤ b)
    (h : smWfFrom d b m = true) : smWfFrom d a m = true := by
  cases m with
  | nil => rfl
  | cons x r =>
    simp only [smWfFrom, Bool.and_eq_true, decide_eq_true_eq] at h ⊢
    exact ⟨⟨by omega, h.1.2⟩, h.2⟩

/-- A write keeps the keys rising and no entry at its default. -/
theorem smWfFrom_smSet {α : Type} [DecidableEq α] {d : Nat → α} {k : Nat} {v : α} {m : List (Nat × α)} {lo : Nat}
    (hk : lo ≤ k) (h : smWfFrom d lo m = true) : smWfFrom d lo (smSet d k v m) = true := by
  induction m generalizing lo with
  | nil => unfold smSet; split <;> simp_all [smWfFrom]
  | cons x r ih =>
    obtain ⟨k', v'⟩ := x
    simp only [smWfFrom, Bool.and_eq_true, decide_eq_true_eq] at h
    unfold smSet
    split
    · split
      · simp_all [smWfFrom]
      · simp only [smWfFrom, Bool.and_eq_true, decide_eq_true_eq]
        exact ⟨⟨hk, by assumption⟩, ⟨by omega, h.1.2⟩, h.2⟩
    · split
      · subst_vars
        split
        · exact smWfFrom_mono (by omega) h.2
        · simp only [smWfFrom, Bool.and_eq_true, decide_eq_true_eq]
          exact ⟨⟨h.1.1, by assumption⟩, h.2⟩
      · simp only [smWfFrom, Bool.and_eq_true, decide_eq_true_eq]
        exact ⟨⟨h.1.1, h.1.2⟩, ih (by omega) h.2⟩

/-- A write keeps the canonical form. -/
theorem smWf_smSet {α : Type} [DecidableEq α] {d : Nat → α} {k : Nat} {v : α} {m : List (Nat × α)}
    (h : smWf d m = true) : smWf d (smSet d k v m) = true := smWfFrom_smSet (Nat.zero_le k) h

/-- Below the first key every key reads its default. -/
theorem smGet_below {α : Type} [DecidableEq α] {d : Nat → α} {m : List (Nat × α)} {lo k : Nat}
    (h : smWfFrom d lo m = true) (hk : k < lo) : smGet d m k = d k := by
  induction m generalizing lo with
  | nil => rfl
  | cons x r ih =>
    obtain ⟨k', v'⟩ := x
    simp only [smWfFrom, Bool.and_eq_true, decide_eq_true_eq] at h
    have : k ≠ k' := by omega
    simp only [smGet, this, if_false]
    exact ih h.2 (by omega)

/-- The key written reads the value written. -/
theorem smGet_smSet_self {α : Type} [DecidableEq α] {d : Nat → α} {k : Nat} {v : α} {m : List (Nat × α)} {lo : Nat}
    (h : smWfFrom d lo m = true) : smGet d (smSet d k v m) k = v := by
  induction m generalizing lo with
  | nil => unfold smSet; split <;> simp_all [smGet]
  | cons x r ih =>
    obtain ⟨k', v'⟩ := x
    simp only [smWfFrom, Bool.and_eq_true, decide_eq_true_eq] at h
    unfold smSet
    split
    · rename_i hlt
      split
      · subst_vars
        have : k ≠ k' := by omega
        simp only [smGet, this, if_false]
        exact smGet_below h.2 (by omega)
      · simp [smGet]
    · split
      · subst_vars
        split
        · subst_vars; exact smGet_below h.2 (by omega)
        · simp [smGet]
      · rename_i hne
        simp only [smGet, hne, if_false]
        exact ih h.2

/-- Every other key reads as before. -/
theorem smGet_smSet_ne {α : Type} [DecidableEq α] {d : Nat → α} {k j : Nat} {v : α} {m : List (Nat × α)} (hj : j ≠ k) :
    smGet d (smSet d k v m) j = smGet d m j := by
  induction m with
  | nil => unfold smSet; split <;> simp [smGet, hj]
  | cons x r ih =>
    obtain ⟨k', v'⟩ := x
    unfold smSet
    split
    · split <;> simp [smGet, hj]
    · split
      · subst_vars; split <;> simp [smGet, hj]
      · simp only [smGet, ih]

/-- A register word written keeps the register file canonical. -/
theorem rset_wf {f : RegFile} {a : Nat} {v : Word} (h : smWf regReset f = true) : smWf regReset (rset a v f) = true :=
  smWf_smSet h

/-- A live count set keeps the live counts canonical. -/
theorem lset_wf {f : RegFile} {a : Nat} {v : Word} (h : smWf (fun _ => (0 : Word)) f = true) :
    smWf (fun _ => (0 : Word)) (lset a v f) = true := smWf_smSet h

/-- A byte written keeps a memory canonical. -/
theorem Memory.write_wf {d : Nat → Byte} {m : List Host.Cell} {a : Nat} {b : Byte} (h : Memory.wf d m = true) :
    Memory.wf d (Memory.write d m a b) = true := smWf_smSet h

/-- A byte string written keeps a memory canonical. -/
theorem Memory.writeL_wf {d : Nat → Byte} {m : List Host.Cell} {a : Nat} {l : List Byte} (h : Memory.wf d m = true) :
    Memory.wf d (Memory.writeL d m a l) = true := by
  induction l generalizing m a with
  | nil => exact h
  | cons b r ih => exact ih (Memory.write_wf h)

/-- A fold keeps what each of its steps keeps. -/
theorem foldl_keeps {α β : Type} {P : β → Prop} {f : β → α → β} {xs : List α} {b : β} (h : P b)
    (hf : ∀ v x, P v → P (f v x)) : P (xs.foldl f b) := by
  induction xs generalizing b with
  | nil => exact h
  | cons x xs ih => exact ih (hf b x h)

/-- Notes keep the register file canonical. -/
theorem notes_regs_wf {l : List Note} {f : RegFile} (h : smWf regReset f = true) :
    smWf regReset (l.foldl Note.onRegs f) = true := by
  refine foldl_keeps (P := fun f => smWf regReset f = true) h (fun v x k => ?_)
  cases x <;> first | exact k | exact rset_wf k

/-- Notes keep the live counts canonical. -/
theorem notes_live_wf {l : List Note} {f : RegFile} (h : smWf (fun _ => (0 : Word)) f = true) :
    smWf (fun _ => (0 : Word)) (l.foldl Note.onLive f) = true := by
  refine foldl_keeps (P := fun f => smWf (fun _ => (0 : Word)) f = true) h (fun v x k => ?_)
  cases x <;> first | exact k | exact lset_wf k

/-! ### Stores -/

/-- A repair keeps a store canonical. -/
theorem Store.repair_wf {x : Store} {dead : Byte} {d : Nat → Byte} {ws : List Nat} (h : x.wf d = true) :
    (x.repair dead d ws).wf d = true :=
  foldl_keeps (P := fun m => Memory.wf d m = true) h (fun m w k => by
    split
    · exact Memory.writeL_wf k
    · exact k)

/-- A write keeps a store canonical. -/
theorem Store.write_wf {x : Store} {dead : Byte} {d : Nat → Byte} {a : Nat} {l : List Byte} (h : x.wf d = true) :
    (x.write dead d a l).wf d = true := Memory.writeL_wf (Store.repair_wf (dead := dead) (ws := wordsOf a l.length) h)

/-- An upset changes no byte. -/
theorem Store.upset_wf {x : Store} {d : Nat → Byte} {w : Nat} {multi : Bool} (h : x.wf d = true) :
    (x.upset w multi).wf d = true := by
  unfold Store.upset
  split
  · exact h
  · split <;> exact h

/-! ### Updates of a state -/

/-- A change of other parts keeps the canonical forms. -/
theorem State.Canonical.only {l : List Part} {s t : State} (k : Only l s t)
    (hl : [Part.regs, .live, .bank0, .bank1, .health, .layers, .calib, .glade, .fst, .sec, .flt, .log, .corr].all
      (fun p => !l.contains p) = true) (h : s.Canonical) : t.Canonical := by
  simp only [List.all_cons, List.all_nil, Bool.and_eq_true, Bool.not_eq_true'] at hl
  obtain ⟨h1, h2, h3, h4, h5, h6, h7, h8, h9, h10, h11, h12, h13, -⟩ := hl
  have e1 : t.regs = s.regs := k _ h1
  have e2 : t.live = s.live := k _ h2
  have e3 : t.bank0 = s.bank0 := k _ h3
  have e4 : t.bank1 = s.bank1 := k _ h4
  have e5 : t.health = s.health := k _ h5
  have e6 : t.layers = s.layers := k _ h6
  have e7 : t.calib = s.calib := k _ h7
  have e8 : t.glade = s.glade := k _ h8
  have e9 : t.fst = s.fst := k _ h9
  have e10 : t.sec = s.sec := k _ h10
  have e11 : t.flt = s.flt := k _ h11
  have e12 : t.log = s.log := k _ h12
  have e13 : t.corr = s.corr := k _ h13
  exact ⟨by rw [e1]; exact h.regs, by rw [e2]; exact h.live, by rw [e3]; exact h.bank0, by rw [e4]; exact h.bank1,
    by rw [e5]; exact h.health, by rw [e6]; exact h.layers, by rw [e7]; exact h.calib, by rw [e8]; exact h.fb,
    by rw [e9]; exact h.tcm, by rw [e10]; exact h.otp, by rw [e11]; exact h.count, by rw [e11]; exact h.cls,
    by rw [e12]; exact h.ring, by rw [e13]; exact h.curve, by rw [e13]; exact h.map⟩

/-- A branch. -/
theorem State.Canonical.ite {a b : State} {c : Prop} [Decidable c] (ha : a.Canonical) (hb : b.Canonical) :
    State.Canonical (if c then a else b) := by split <;> assumption

/-- A branch that answers a value beside the state. -/
theorem State.Canonical.snd_ite {α : Type} {a b : α × State} {c : Prop} [Decidable c] (ha : a.2.Canonical)
    (hb : b.2.Canonical) : State.Canonical (if c then a else b).2 := by split <;> assumption

/-- A fold of changes. -/
theorem State.Canonical.foldl {α : Type} {s : State} {f : State → α → State} {xs : List α} (h : s.Canonical)
    (hf : ∀ v x, State.Canonical v → (f v x).Canonical) : (xs.foldl f s).Canonical :=
  foldl_keeps (P := State.Canonical) h hf

/-- A change made under a condition. -/
theorem State.Canonical.when {s : State} {c : Bool} {f : State → State}
    (hf : ∀ v, State.Canonical v → (f v).Canonical) (h : s.Canonical) : (s.when c f).Canonical := by
  unfold State.when
  split
  · exact hf s h
  · exact h

/-- What a search answers keeps the canonical forms. -/
def OptCanon (o : Option (State → State)) : Prop := ∀ f, o = some f → ∀ v, State.Canonical v → (f v).Canonical

/-- Nothing found. -/
theorem OptCanon.none : OptCanon none := fun _ e => by cases e

/-- A change found. -/
theorem OptCanon.some {f : State → State} (h : ∀ v, State.Canonical v → (f v).Canonical) : OptCanon (some f) :=
  fun _ e => by cases e; exact h

/-- A branch between two searches. -/
theorem OptCanon.ite {a b : Option (State → State)} {c : Prop} [Decidable c] (ha : OptCanon a) (hb : OptCanon b) :
    OptCanon (if c then a else b) := by split <;> assumption

/-- What a command answers is canonical, where it answers a next state. -/
def CanonOut (o : Host.Outcome State Fault Refusal) : Prop := ∀ t, o = .next t → t.Canonical

/-- A next state. -/
theorem CanonOut.next {t : State} (h : t.Canonical) : CanonOut (.next t) := by
  intro v e
  cases e
  exact h

/-- A branch between two answers. -/
theorem CanonOut.ite {a b : Host.Outcome State Fault Refusal} {c : Prop} [Decidable c] (ha : CanonOut a)
    (hb : CanonOut b) : CanonOut (if c then a else b) := by split <;> assumption

theorem State.Canonical.set_regs {v} {s : State}
    (hregs : smWf regReset s.regs = true → smWf regReset v = true)
    (h : s.Canonical) : State.Canonical { s with regs := v } :=
  { h with regs := hregs h.regs }

theorem State.Canonical.set_bank0 {v} {s : State}
    (hbank0 : s.bank0.wf zeroByte = true → v.wf zeroByte = true)
    (h : s.Canonical) : State.Canonical { s with bank0 := v } :=
  { h with bank0 := hbank0 h.bank0 }

theorem State.Canonical.set_bank1 {v} {s : State}
    (hbank1 : s.bank1.wf zeroByte = true → v.wf zeroByte = true)
    (h : s.Canonical) : State.Canonical { s with bank1 := v } :=
  { h with bank1 := hbank1 h.bank1 }

theorem State.Canonical.set_health {v} {s : State}
    (hhealth : s.health.wf zeroByte = true → v.wf zeroByte = true)
    (h : s.Canonical) : State.Canonical { s with health := v } :=
  { h with health := hhealth h.health }

theorem State.Canonical.set_layers {v} {s : State}
    (hlayers : s.layers.wf zeroByte = true → v.wf zeroByte = true)
    (h : s.Canonical) : State.Canonical { s with layers := v } :=
  { h with layers := hlayers h.layers }

theorem State.Canonical.set_calib {v} {s : State}
    (hcalib : s.calib.wf calibByte = true → v.wf calibByte = true)
    (h : s.Canonical) : State.Canonical { s with calib := v } :=
  { h with calib := hcalib h.calib }

theorem State.Canonical.set_corr {v} {s : State}
    (hcurve : smWf (fun _ => (0 : BitVec 20)) s.corr.curve = true → smWf (fun _ => (0 : BitVec 20)) v.curve = true)
    (hmap : smWf (fun _ => (0xFFF : BitVec 12)) s.corr.map = true → smWf (fun _ => (0xFFF : BitVec 12)) v.map = true)
    (h : s.Canonical) : State.Canonical { s with corr := v } :=
  { h with curve := hcurve h.curve, map := hmap h.map }

theorem State.Canonical.set_flt {v} {s : State}
    (hcount : smWf (fun _ => (0 : Word)) s.flt.count = true → smWf (fun _ => (0 : Word)) v.count = true)
    (hcls : smWf baseClass s.flt.clsUp = true → smWf baseClass v.clsUp = true)
    (h : s.Canonical) : State.Canonical { s with flt := v } :=
  { h with count := hcount h.count, cls := hcls h.cls }

theorem State.Canonical.set_glade {v} {s : State}
    (hfb : s.glade.fb.wf zeroByte = true → v.fb.wf zeroByte = true)
    (h : s.Canonical) : State.Canonical { s with glade := v } :=
  { h with fb := hfb h.fb }

theorem State.Canonical.set_fst {v} {s : State}
    (htcm : s.fst.tcm.wf zeroByte = true → v.tcm.wf zeroByte = true)
    (h : s.Canonical) : State.Canonical { s with fst := v } :=
  { h with tcm := htcm h.tcm }

theorem State.Canonical.set_log {v} {s : State}
    (hring : smWf (fun _ => (List.replicate 8 0 : List Word)) s.log.ring = true → smWf (fun _ => (List.replicate 8 0 : List Word)) v.ring = true)
    (h : s.Canonical) : State.Canonical { s with log := v } :=
  { h with ring := hring h.ring }

theorem State.Canonical.set_sec {v} {s : State}
    (hotp : Memory.wf otpByte0 s.sec.otp = true → Memory.wf otpByte0 v.otp = true)
    (h : s.Canonical) : State.Canonical { s with sec := v } :=
  { h with otp := hotp h.otp }

theorem State.Canonical.set_free_sec {v w} {s : State}
    (hotp : Memory.wf otpByte0 s.sec.otp = true → Memory.wf otpByte0 w.otp = true)
    (h : s.Canonical) : State.Canonical { s with free := v, sec := w } :=
  { h with otp := hotp h.otp }

theorem State.Canonical.set_regs_cmt {v w} {s : State}
    (hregs : smWf regReset s.regs = true → smWf regReset v = true)
    (h : s.Canonical) : State.Canonical { s with regs := v, cmt := w } :=
  { h with regs := hregs h.regs }

theorem State.Canonical.set_regs_thm {v w} {s : State}
    (hregs : smWf regReset s.regs = true → smWf regReset v = true)
    (h : s.Canonical) : State.Canonical { s with regs := v, thm := w } :=
  { h with regs := hregs h.regs }

theorem State.Canonical.set_regs_fst {v w} {s : State}
    (hregs : smWf regReset s.regs = true → smWf regReset v = true)
    (htcm : s.fst.tcm.wf zeroByte = true → w.tcm.wf zeroByte = true)
    (h : s.Canonical) : State.Canonical { s with regs := v, fst := w } :=
  { h with regs := hregs h.regs, tcm := htcm h.tcm }

theorem State.Canonical.set_clk_glade {v w} {s : State}
    (hfb : s.glade.fb.wf zeroByte = true → w.fb.wf zeroByte = true)
    (h : s.Canonical) : State.Canonical { s with clk := v, glade := w } :=
  { h with fb := hfb h.fb }

theorem State.Canonical.set_host_fst {v w} {s : State}
    (htcm : s.fst.tcm.wf zeroByte = true → w.tcm.wf zeroByte = true)
    (h : s.Canonical) : State.Canonical { s with host := v, fst := w } :=
  { h with tcm := htcm h.tcm }

theorem State.Canonical.set_health_healthSeen {v w} {s : State}
    (hhealth : s.health.wf zeroByte = true → v.wf zeroByte = true)
    (h : s.Canonical) : State.Canonical { s with health := v, healthSeen := w } :=
  { h with health := hhealth h.health }

theorem State.Canonical.set_thm_fst {v w} {s : State}
    (htcm : s.fst.tcm.wf zeroByte = true → w.tcm.wf zeroByte = true)
    (h : s.Canonical) : State.Canonical { s with thm := v, fst := w } :=
  { h with tcm := htcm h.tcm }

theorem State.Canonical.set_flt_glade {v w} {s : State}
    (hcount : smWf (fun _ => (0 : Word)) s.flt.count = true → smWf (fun _ => (0 : Word)) v.count = true)
    (hcls : smWf baseClass s.flt.clsUp = true → smWf baseClass v.clsUp = true)
    (hfb : s.glade.fb.wf zeroByte = true → w.fb.wf zeroByte = true)
    (h : s.Canonical) : State.Canonical { s with flt := v, glade := w } :=
  { h with count := hcount h.count, cls := hcls h.cls, fb := hfb h.fb }

theorem State.Canonical.set_regs_top_host {v w x} {s : State}
    (hregs : smWf regReset s.regs = true → smWf regReset v = true)
    (h : s.Canonical) : State.Canonical { s with regs := v, top := w, host := x } :=
  { h with regs := hregs h.regs }

theorem State.Canonical.set_regs_host_fst {v w x} {s : State}
    (hregs : smWf regReset s.regs = true → smWf regReset v = true)
    (htcm : s.fst.tcm.wf zeroByte = true → x.tcm.wf zeroByte = true)
    (h : s.Canonical) : State.Canonical { s with regs := v, host := w, fst := x } :=
  { h with regs := hregs h.regs, tcm := htcm h.tcm }

theorem State.Canonical.set_regs_fst_sec {v w x} {s : State}
    (hregs : smWf regReset s.regs = true → smWf regReset v = true)
    (htcm : s.fst.tcm.wf zeroByte = true → w.tcm.wf zeroByte = true)
    (hotp : Memory.wf otpByte0 s.sec.otp = true → Memory.wf otpByte0 x.otp = true)
    (h : s.Canonical) : State.Canonical { s with regs := v, fst := w, sec := x } :=
  { h with regs := hregs h.regs, tcm := htcm h.tcm, otp := hotp h.otp }

theorem State.Canonical.set_thm_glade_fst {v w x} {s : State}
    (hfb : s.glade.fb.wf zeroByte = true → w.fb.wf zeroByte = true)
    (htcm : s.fst.tcm.wf zeroByte = true → x.tcm.wf zeroByte = true)
    (h : s.Canonical) : State.Canonical { s with thm := v, glade := w, fst := x } :=
  { h with fb := hfb h.fb, tcm := htcm h.tcm }

theorem State.Canonical.set_regs_tb_cmt_flt {v w x y} {s : State}
    (hregs : smWf regReset s.regs = true → smWf regReset v = true)
    (hcount : smWf (fun _ => (0 : Word)) s.flt.count = true → smWf (fun _ => (0 : Word)) y.count = true)
    (hcls : smWf baseClass s.flt.clsUp = true → smWf baseClass y.clsUp = true)
    (h : s.Canonical) : State.Canonical { s with regs := v, tb := w, cmt := x, flt := y } :=
  { h with regs := hregs h.regs, count := hcount h.count, cls := hcls h.cls }

theorem State.Canonical.set_regs_glade_fst_sec {v w x y} {s : State}
    (hregs : smWf regReset s.regs = true → smWf regReset v = true)
    (hfb : s.glade.fb.wf zeroByte = true → w.fb.wf zeroByte = true)
    (htcm : s.fst.tcm.wf zeroByte = true → x.tcm.wf zeroByte = true)
    (hotp : Memory.wf otpByte0 s.sec.otp = true → Memory.wf otpByte0 y.otp = true)
    (h : s.Canonical) : State.Canonical { s with regs := v, glade := w, fst := x, sec := y } :=
  { h with regs := hregs h.regs, fb := hfb h.fb, tcm := htcm h.tcm, otp := hotp h.otp }

theorem State.Canonical.set_sample_regs_live_flt_out {v w x y z} {s : State}
    (hregs : smWf regReset s.regs = true → smWf regReset w = true)
    (hlive : smWf (fun _ => (0 : Word)) s.live = true → smWf (fun _ => (0 : Word)) x = true)
    (hcount : smWf (fun _ => (0 : Word)) s.flt.count = true → smWf (fun _ => (0 : Word)) y.count = true)
    (hcls : smWf baseClass s.flt.clsUp = true → smWf baseClass y.clsUp = true)
    (h : s.Canonical) : State.Canonical { s with sample := v, regs := w, live := x, flt := y, out := z } :=
  { h with regs := hregs h.regs, live := hlive h.live, count := hcount h.count, cls := hcls h.cls }

theorem State.Canonical.set_now_sample_top_host_glade_out {v w x y z a} {s : State}
    (hfb : s.glade.fb.wf zeroByte = true → z.fb.wf zeroByte = true)
    (h : s.Canonical) : State.Canonical { s with now := v, sample := w, top := x, host := y, glade := z, out := a } :=
  { h with fb := hfb h.fb }

end Sys2Proof.Machine
end

