-- ==== Sys2Proof/Laws/OnlyShared.lean ====
section
/-! SUPPORT. Which parts the functions of the shared operations, the clocks, the lane streams, the link, the stores and the Shade engine change: one lemma for each. -/

namespace Sys2Proof.Machine

open Sys2Proof

theorem State.report_only {l} {s : State} : Only [.now, .regs, .live, .flt, .out] s (State.report l s) := by
  unfold State.report
  exact .app Only.set_sample_regs_live_flt_out rfl .refl

/-- A write of a register by a requester: what the write does, or what an error access or an owner error reports. -/
theorem Only.access {l : List Part} {s u : State} {req : Req} {page : Nat} {f : State → State}
    (hm : [Part.now, .regs, .live, .flt, .out].all (fun p => l.contains p) = true) (hf : ∀ v, Only l s v → Only l s (f v))
    (h : Only l s u) : Only l s (u.access req page f) := by
  unfold State.access
  exact .ite (.app State.report_only hm h) (.ite (hf u h) (.app State.report_only hm h))

/-- A command whose event may have been taken ahead of its turn. -/
theorem Only.once {l : List Part} {s u : State} {c : Instr} {f : State → State}
    (hm : [Part.now].all (fun p => l.contains p) = true) (hf : ∀ v, Only l s v → Only l s (f v)) (h : Only l s u) :
    Only l s (u.once c f) := by
  unfold State.once
  exact .ite (.app Only.set_sample hm h) (hf u h)

/-- A command taken ahead of its turn. -/
theorem Only.takeAhead {l : List Part} {s u : State} {c : Instr} {f : State → State}
    (hm : [Part.now].all (fun p => l.contains p) = true) (hf : ∀ v, Only l s v → Only l s (f v)) (h : Only l s u) :
    Only l s (u.takeAhead c f) := by
  unfold State.takeAhead
  exact .app Only.set_sample hm (hf u h)

/-- The events of the sample taken first. -/
theorem Only.takeFirst {l : List Part} {s u : State} {p : Instr → Option (State → State)}
    (hm : [Part.now].all (fun p => l.contains p) = true) (hp : ∀ c, OptOnly l s (p c)) (h : Only l s u) :
    Only l s (u.takeFirst p) := by
  unfold State.takeFirst
  refine .foldl h (fun v c hv => ?_)
  cases e : p c with
  | none => exact hv
  | some f => exact Only.takeAhead hm (hp c f e) hv

theorem State.useInj_only {target} {s : State} : Only [.flt] s (State.useInj target s) := by
  unfold State.useInj
  exact .ite .refl (.app Only.set_flt rfl .refl)

/-- Occurrences of a checker on the words of a list. -/
theorem Only.injWords {l : List Part} {s u : State} {target : Nat} {put : Nat → Bool → State → State} {xs : List Nat}
    (hm : [Part.flt].all (fun p => l.contains p) = true) (hf : ∀ w b v, Only l s v → Only l s (put w b v))
    (h : Only l s u) : Only l s (State.injWords target put xs u) := by
  induction xs generalizing u with
  | nil => exact h
  | cons x xs ih => exact ih (.ite h (hf _ _ _ (.app State.useInj_only hm h)))

theorem State.hit_only {a m} {s : State} : Only [.now] s (State.hit a m s) := by
  unfold State.hit
  exact .app Only.set_sample rfl .refl

theorem State.spend_only {s : State} : Only [.free] s (State.spend s) := by
  unfold State.spend
  exact .app Only.set_free rfl .refl

theorem State.keepAs_only {a v} {s : State} : Only [.now] s (State.keepAs a v s) := by
  unfold State.keepAs
  exact .app Only.set_sample rfl .refl

theorem State.keep_only {a} {s : State} : Only [.now] s (State.keep a s) := by
  unfold State.keep
  exact .app State.keepAs_only rfl .refl

theorem State.stamp_only {t} {s : State} : Only [.now] s (State.stamp t s) := by
  unfold State.stamp
  exact .app Only.set_now rfl .refl

/-- A command to the core. -/
theorem OnlyOut.core {l : List Part} {s : State} {t : Nat} {f : State → State}
    (hm : [Part.now].all (fun p => l.contains p) = true) (hf : ∀ v, Only l s v → Only l s (f v)) :
    OnlyOut l s (onCore t s f) := by
  unfold onCore
  exact .next (.ite (hf _ (.app State.stamp_only hm .refl)) (.app State.stamp_only hm .refl))

/-- A command to Glade. -/
theorem OnlyOut.glade {l : List Part} {s : State} {t : Nat} {f : State → State}
    (hm : [Part.now].all (fun p => l.contains p) = true) (hf : ∀ v, Only l s v → Only l s (f v)) :
    OnlyOut l s (onGlade t s f) := by
  unfold onGlade
  exact .next (.ite (hf _ (.app State.stamp_only hm .refl)) (.app State.stamp_only hm .refl))

/-- A command to Forester. -/
theorem OnlyOut.forester {l : List Part} {s : State} {t : Nat} {f : State → State}
    (hm : [Part.now].all (fun p => l.contains p) = true) (hf : ∀ v, Only l s v → Only l s (f v)) :
    OnlyOut l s (onForester t s f) := by
  unfold onForester
  exact OnlyOut.core hm (fun _ h => Only.when hf h)

/-- A command to the security functions. -/
theorem OnlyOut.sec {l : List Part} {s : State} {t : Nat} {f : State → State}
    (hm : [Part.now, .regs, .live, .flt, .out].all (fun p => l.contains p) = true)
    (hf : ∀ v, Only l s v → Only l s (f v)) : OnlyOut l s (onSec t s f) := by
  unfold onSec
  have hn := hm
  rw [List.all_cons, Bool.and_eq_true] at hn
  exact OnlyOut.forester (by simpa using hn.1) (fun _ h => Only.access hm hf h)

/-- A command on the quad-SPI port. -/
theorem OnlyOut.qspi {l : List Part} {s : State} {t : Nat} {f : State → State}
    (hm : [Part.now].all (fun p => l.contains p) = true) (hf : ∀ v, Only l s v → Only l s (f v)) :
    OnlyOut l s (onQspi t s f) := by
  unfold onQspi
  exact OnlyOut.core hm (fun _ h => Only.when hf h)

theorem State.meter_only {s : State} : Only [.fab] s (State.meter s) := by
  unfold State.meter
  exact .app Only.set_fab rfl .refl

theorem State.produceSettings_only {v} {s : State} : Only [.clk] s (State.produceSettings v s) := by
  unfold State.produceSettings
  exact .app Only.set_clk rfl .refl

theorem State.clockWindow_only {w} {s : State} :
    Only [.now, .regs, .live, .clk, .flt, .out] s (State.clockWindow w s) := by
  unfold State.clockWindow
  exact .app State.report_only rfl (.app Only.set_clk rfl .refl)

theorem State.stallCrossing_only {c lost} {s : State} :
    Only [.now, .regs, .live, .clk, .host, .flt, .out] s (State.stallCrossing c lost s) := by
  unfold State.stallCrossing
  exact .app State.report_only rfl (.app Only.set_clk_host rfl .refl)

theorem execClockMonitorWindow_only {t w} {s : State} :
    OnlyOut [.now, .regs, .live, .clk, .flt, .out] s (execClockMonitorWindow t w s) := by
  unfold execClockMonitorWindow
  exact OnlyOut.core rfl (fun _ h0 => (.app State.clockWindow_only rfl h0))

theorem execCrossingStall_only {t live far kind lost ack} {s : State} :
    OnlyOut [.now, .regs, .live, .clk, .host, .flt, .out] s (execCrossingStall t live far kind lost ack s) := by
  unfold execCrossingStall
  exact OnlyOut.core rfl (fun _ h0 => (Only.when (fun _ h1 => (.app State.stallCrossing_only rfl h1)) h0))

theorem State.advance_only {k least} {s : State} :
    Only [.now, .regs, .live, .stream, .flt, .out] s (State.advance k least s) := by
  unfold State.advance
  exact .ite (.app State.report_only rfl (.app Only.set_stream rfl .refl)) .refl

theorem State.setSkeinLine_only {k x} {s : State} : Only [.stream] s (State.setSkeinLine k x s) := by
  unfold State.setSkeinLine
  exact .app Only.set_stream rfl .refl

theorem State.endStream_only {k} {s : State} :
    Only [.now, .regs, .live, .stream, .flt, .out] s (State.endStream k s) := by
  unfold State.endStream
  exact .app State.setSkeinLine_only rfl (.app State.advance_only rfl .refl)

theorem State.queueRow_only {k r} {s : State} :
    Only [.now, .regs, .live, .stream, .flt, .out] s (State.queueRow k r s) := by
  unfold State.queueRow
  exact .app State.setSkeinLine_only rfl (.app State.advance_only rfl .refl)

theorem State.setLine_only {l x} {s : State} : Only [.stream] s (State.setLine l x s) := by
  unfold State.setLine
  exact .app Only.set_stream rfl .refl

theorem State.putLine_only {l k no plan fill} {s : State} :
    Only [.now, .regs, .live, .stream, .flt, .out] s (State.putLine l k no plan fill s) := by
  unfold State.putLine
  exact .app State.setLine_only rfl (.ite (.app State.advance_only rfl (.app State.advance_only rfl .refl))
      (.app State.setSkeinLine_only rfl (.app State.advance_only rfl (.app State.advance_only rfl .refl))))

theorem State.bufferedOnly_only {k} {s : State} :
    Only [.now, .regs, .live, .stream, .flt, .out] s (State.bufferedOnly k s) := by
  unfold State.bufferedOnly
  exact .app State.setSkeinLine_only rfl (.app State.advance_only rfl .refl)

theorem State.stopPackets_only {k} {s : State} :
    Only [.now, .regs, .live, .stream, .flt, .out] s (State.stopPackets k s) := by
  unfold State.stopPackets
  exact .app State.setSkeinLine_only rfl (.app State.advance_only rfl .refl)

theorem State.queuePackets_only {k l} {s : State} :
    Only [.now, .regs, .live, .stream, .flt, .out] s (State.queuePackets k l s) := by
  unfold State.queuePackets
  exact .app State.setSkeinLine_only rfl (.app State.advance_only rfl .refl)

theorem State.markStream_only {k mcnt} {s : State} :
    Only [.now, .regs, .live, .stream, .flt, .out] s (State.markStream k mcnt s) := by
  unfold State.markStream
  exact .ite (.app State.report_only rfl (.app Only.set_stream rfl (.app State.advance_only rfl .refl))) .refl

theorem State.sendRow_only {k lmask r} {s : State} :
    Only [.now, .regs, .live, .stream, .flt, .out] s (State.sendRow k lmask r s) := by
  unfold State.sendRow
  exact .ite .refl (.app State.report_only rfl (.app State.useInj_only rfl (.app State.queueRow_only rfl .refl)))

theorem State.atemp_only {a} {s : State} : Only [.now, .regs, .live, .tile, .flt, .out] s (State.atemp a s) := by
  unfold State.atemp
  exact .app State.report_only rfl (.app Only.set_tile rfl .refl)

theorem State.tempStale_only {a} {s : State} :
    Only [.now, .regs, .live, .tile, .flt, .out] s (State.tempStale a s) := by
  unfold State.tempStale
  exact .app State.atemp_only rfl (.app Only.set_tile rfl .refl)

theorem execArrayTempStale_only {t a} {s : State} :
    OnlyOut [.now, .regs, .live, .tile, .flt, .out] s (execArrayTempStale t a s) := by
  unfold execArrayTempStale
  exact OnlyOut.core rfl (fun _ h0 => (Only.when (fun _ h1 => (.app State.tempStale_only rfl h1)) h0))

theorem State.noteSet_only {n} {s : State} : Only [.healthSetAt, .healthSet] s (State.noteSet n s) := by
  unfold State.noteSet
  exact .app Only.set_healthSetAt_healthSet rfl .refl

theorem State.putHealth_only {a b} {s : State} : Only [.health, .healthSeen] s (State.putHealth a b s) := by
  unfold State.putHealth
  exact .app Only.set_health_healthSeen rfl .refl

theorem State.sweepHealth_only {lo hi} {s : State} :
    Only [.now, .regs, .live, .health, .healthSeen, .flt, .out] s (State.sweepHealth lo hi s) := by
  unfold State.sweepHealth
  exact .app State.report_only rfl (.app Only.set_health_healthSeen rfl .refl)

theorem State.setHealth_only {n} {s : State} :
    Only [.now, .regs, .live, .health, .healthSetAt, .healthSet, .healthSeen, .flt, .out]
      s (State.setHealth n s) := by
  unfold State.setHealth
  exact .app State.noteSet_only rfl (.app State.putHealth_only rfl (.app State.sweepHealth_only rfl .refl))

theorem State.clearHealth_only {n} {s : State} :
    Only [.now, .regs, .live, .health, .healthSeen, .flt, .out] s (State.clearHealth n s) := by
  unfold State.clearHealth
  exact .app State.putHealth_only rfl (.app State.sweepHealth_only rfl .refl)

theorem State.applyClears_only {u} {s : State} :
    Only [.now, .regs, .live, .health, .healthSeen, .clearQ, .flt, .out] s (State.applyClears u s) := by
  unfold State.applyClears
  exact .app Only.set_clearQ rfl (.foldl .refl (fun _ _ h0 => (.app State.clearHealth_only rfl h0)))

theorem State.setBank_only {b x} {s : State} : Only [.bank0, .bank1] s (State.setBank b x s) := by
  unfold State.setBank
  exact .ite (.app Only.set_bank1 rfl .refl) (.app Only.set_bank0 rfl .refl)

theorem State.putFrameByte_only {a b} {s : State} : Only [.bank0, .bank1] s (State.putFrameByte s a b) := by
  unfold State.putFrameByte
  exact .ite .refl (.app State.setBank_only rfl .refl)

theorem State.putFrame_only {a data} {s : State} : Only [.bank0, .bank1] s (State.putFrame a data s) := by
  induction data generalizing a s with
  | nil => exact .refl
  | cons b r ih => exact .app ih rfl (.app State.putFrameByte_only rfl .refl)

theorem State.queueClear_only {n} {s : State} :
    Only [.now, .regs, .live, .clearQ, .flt, .out] s (State.queueClear n s) := by
  unfold State.queueClear
  exact .ite (.app Only.set_clearQ rfl .refl) (.app State.report_only rfl .refl)

theorem State.spoilHealth_only {ws} {s : State} : Only [.health, .flt] s (State.spoilHealth ws s) := by
  unfold State.spoilHealth
  exact Only.injWords rfl (fun _ _ _ h0 => (.app Only.set_health rfl h0)) .refl

theorem State.mergeHealth_only {a b} {s : State} :
    Only [.health, .healthSetAt, .healthSet, .healthSeen] s (State.mergeHealth a b s) := by
  unfold State.mergeHealth
  exact .foldl (.app State.putHealth_only rfl .refl) (fun _ _ h0 => (.app State.noteSet_only rfl h0))

theorem State.mergeHealthL_only {a data} {s : State} :
    Only [.health, .healthSetAt, .healthSet, .healthSeen] s (State.mergeHealthL a data s) := by
  induction data generalizing a s with
  | nil => exact .refl
  | cons b r ih => exact .app ih rfl (.app State.mergeHealth_only rfl .refl)

theorem State.writeHealth_only {a l} {s : State} :
    Only [.now, .regs, .live, .health, .healthSetAt, .healthSet, .healthSeen, .flt, .out]
      s (State.writeHealth a l s) := by
  unfold State.writeHealth
  exact .app State.spoilHealth_only rfl (.app State.mergeHealthL_only rfl (.foldl .refl (fun _ _ h0 =>
      (.app State.sweepHealth_only rfl h0))))

theorem State.sweepBank_only {b lo hi} {s : State} :
    Only [.now, .regs, .live, .bank0, .bank1, .flt, .out] s (State.sweepBank b lo hi s) := by
  unfold State.sweepBank
  exact .app State.report_only rfl (.app State.setBank_only rfl .refl)

theorem execBar2FrameStoreWrite_only {t x1 addr data} {s : State} :
    OnlyOut [.now, .regs, .live, .bank0, .bank1, .flt, .out] s (execBar2FrameStoreWrite t x1 addr data s) := by
  unfold execBar2FrameStoreWrite
  exact OnlyOut.core rfl (fun _ h0 => (.app State.report_only rfl (.app State.putFrame_only rfl h0)))

theorem execBar2HealthMapWrite_only {t x1 addr data} {s : State} :
    OnlyOut [.now, .regs, .live, .health, .healthSetAt, .healthSet, .healthSeen, .flt, .out]
      s (execBar2HealthMapWrite t x1 addr data s) := by
  unfold execBar2HealthMapWrite
  exact OnlyOut.core rfl (fun _ h0 => (.app State.writeHealth_only rfl h0))

theorem execStHmClr_only {t req v} {s : State} :
    OnlyOut [.now, .regs, .live, .clearQ, .flt, .out] s (execStHmClr t req v s) := by
  unfold execStHmClr
  exact OnlyOut.core rfl (fun _ h0 => (Only.access rfl (fun _ h1 => (.app State.queueClear_only rfl h1)) h0))

theorem execStHmSet_only {t req v} {s : State} :
    OnlyOut [.now, .regs, .live, .health, .healthSetAt, .healthSet, .healthSeen, .flt, .out]
      s (execStHmSet t req v s) := by
  unfold execStHmSet
  exact OnlyOut.core rfl (fun _ h0 => (Only.access rfl (fun _ h1 => (.app State.spoilHealth_only rfl
      (.app State.setHealth_only rfl h1))) h0))

theorem State.setShade_only {u x} {s : State} : Only [.shade] s (State.setShade u x s) := by
  unfold State.setShade
  exact .app Only.set_shade rfl .refl

theorem State.goStale_only {u} {s : State} :
    Only [.now, .regs, .live, .shade, .flt, .out] s (State.goStale u s) := by
  unfold State.goStale
  exact .ite .refl (.app State.report_only rfl (.app State.setShade_only rfl .refl))

theorem State.mailboxGo_only {v} {s : State} :
    Only [.now, .regs, .live, .shade, .flt, .out] s (State.mailboxGo v s) := by
  unfold State.mailboxGo
  exact .ite .refl (.ite (.app State.report_only rfl (.app Only.set_shade rfl .refl)) (.app Only.set_shade rfl .refl))

theorem State.spoilFill_only {u n} {s : State} : Only [.shade, .flt] s (State.spoilFill u n s) := by
  unfold State.spoilFill
  exact Only.injWords rfl (fun _ _ _ h0 => (.app State.setShade_only rfl h0)) .refl

theorem State.shadePort_only {u off l} {s : State} : Only [.shade, .flt] s (State.shadePort u off l s) := by
  unfold State.shadePort
  exact .ite (.app State.setShade_only rfl .refl) (.app State.spoilFill_only rfl (.app State.setShade_only rfl .refl))

theorem State.listArrive_only {u} {s : State} :
    Only [.now, .regs, .live, .shade, .flt, .out] s (State.listArrive u s) := by
  unfold State.listArrive
  exact .ite (.app State.report_only rfl (.app State.setShade_only rfl .refl)) (.ite .refl
      (.app State.setShade_only rfl .refl))

theorem State.listParity_only {u} {s : State} :
    Only [.now, .regs, .live, .shade, .flt, .out] s (State.listParity u s) := by
  unfold State.listParity
  exact .ite (.app State.goStale_only rfl (.app State.report_only rfl (.app State.setShade_only rfl .refl))) .refl

theorem State.mailboxCopied_only {s : State} : Only [.shade, .flt] s (State.mailboxCopied s) := by
  unfold State.mailboxCopied
  exact (by
    split
    · exact .refl
    · exact (.app State.spoilFill_only rfl (.app Only.set_shade rfl .refl)))

theorem State.takeUp_only {u} {s : State} : Only [.now, .regs, .live, .shade, .flt, .out] s (State.takeUp u s) := by
  unfold State.takeUp
  exact (by
    dsimp only
    split
    · exact .refl
    · exact (.ite .refl (by
      split
      · exact (.app State.report_only rfl (.app State.setShade_only rfl .refl))
      · exact (.app State.listParity_only rfl (.app State.report_only rfl (.app State.setShade_only rfl .refl))))))

theorem State.takeUpsFirst_only {s : State} :
    Only [.now, .regs, .live, .shade, .flt, .out] s (State.takeUpsFirst s) := by
  unfold State.takeUpsFirst
  exact (Only.takeFirst rfl (fun _ => (by
      split
      · exact (.some (fun _ h0 => (.app State.takeUp_only rfl h0)))
      · exact .none)) .refl)

theorem execListLifeExpiry_only {t u} {s : State} :
    OnlyOut [.now, .regs, .live, .shade, .flt, .out] s (execListLifeExpiry t u s) := by
  unfold execListLifeExpiry
  exact OnlyOut.core rfl (fun _ h0 => (Only.when (fun _ h1 => (.app State.goStale_only rfl h1))
      (.app State.takeUpsFirst_only rfl h0)))

theorem execListTakeUp_only {t u} {s : State} :
    OnlyOut [.now, .regs, .live, .shade, .flt, .out] s (execListTakeUp t u s) := by
  unfold execListTakeUp
  exact OnlyOut.core rfl (fun _ h0 => (Only.once rfl (fun _ h1 => (.app State.takeUp_only rfl h1)) h0))

theorem execMailboxCopyDone_only {t} {s : State} : OnlyOut [.now, .shade, .flt] s (execMailboxCopyDone t s) := by
  unfold execMailboxCopyDone
  exact OnlyOut.core rfl (fun _ h0 => (.app State.mailboxCopied_only rfl h0))

theorem execShMbpubGo_only {t req v} {s : State} :
    OnlyOut [.now, .regs, .live, .shade, .flt, .out] s (execShMbpubGo t req v s) := by
  unfold execShMbpubGo
  exact OnlyOut.core rfl (fun _ h0 => (Only.access rfl (fun _ h1 => (.app State.mailboxGo_only rfl h1)) h0))

end Sys2Proof.Machine
end

