-- ==== Sys2Proof/Laws/CanonShared.lean ====
section
/-! SUPPORT. The shared operations, the clocks, the lane streams, the link, the stores and the Shade engine keep the canonical forms: one lemma for each function. -/

namespace Sys2Proof.Machine

open Sys2Proof

theorem State.report_canon {l} {s : State} (h : s.Canonical) : (State.report l s).Canonical := by
  unfold State.report
  exact .set_sample_regs_live_flt_out notes_regs_wf notes_live_wf id id h

/-- A write of a register by a requester. -/
theorem State.Canonical.access {s : State} {req : Req} {page : Nat} {f : State → State}
    (hf : ∀ v, State.Canonical v → (f v).Canonical) (h : s.Canonical) : (s.access req page f).Canonical := by
  unfold State.access
  exact .ite (State.report_canon h) (.ite (hf s h) (State.report_canon h))

/-- A command whose event may have been taken ahead of its turn. -/
theorem State.Canonical.once {s : State} {c : Instr} {f : State → State} (hf : ∀ v, State.Canonical v → (f v).Canonical)
    (h : s.Canonical) : (s.once c f).Canonical := by
  unfold State.once
  exact .ite (.only Only.set_sample rfl h) (hf s h)

/-- A command taken ahead of its turn. -/
theorem State.Canonical.takeAhead {s : State} {c : Instr} {f : State → State}
    (hf : ∀ v, State.Canonical v → (f v).Canonical) (h : s.Canonical) : (s.takeAhead c f).Canonical := by
  unfold State.takeAhead
  exact .only Only.set_sample rfl (hf s h)

/-- The events of the sample taken first. -/
theorem State.Canonical.takeFirst {s : State} {p : Instr → Option (State → State)} (hp : ∀ c, OptCanon (p c))
    (h : s.Canonical) : (s.takeFirst p).Canonical := by
  unfold State.takeFirst
  refine .foldl h (fun v c hv => ?_)
  cases e : p c with
  | none => exact hv
  | some f => exact .takeAhead (hp c f e) hv

/-- A command to the core. -/
theorem CanonOut.core {s : State} {t : Nat} {f : State → State} (hf : ∀ v, State.Canonical v → (f v).Canonical)
    (h : s.Canonical) : CanonOut (onCore t s f) := by
  unfold onCore
  exact .next (.ite (hf _ (.only State.stamp_only rfl h)) (.only State.stamp_only rfl h))

/-- A command to Glade. -/
theorem CanonOut.glade {s : State} {t : Nat} {f : State → State} (hf : ∀ v, State.Canonical v → (f v).Canonical)
    (h : s.Canonical) : CanonOut (onGlade t s f) := by
  unfold onGlade
  exact .next (.ite (hf _ (.only State.stamp_only rfl h)) (.only State.stamp_only rfl h))

/-- A command to Forester. -/
theorem CanonOut.forester {s : State} {t : Nat} {f : State → State} (hf : ∀ v, State.Canonical v → (f v).Canonical)
    (h : s.Canonical) : CanonOut (onForester t s f) := by
  unfold onForester
  exact CanonOut.core (fun _ k => .when hf k) h

/-- A command to the security functions. -/
theorem CanonOut.sec {s : State} {t : Nat} {f : State → State} (hf : ∀ v, State.Canonical v → (f v).Canonical)
    (h : s.Canonical) : CanonOut (onSec t s f) := by
  unfold onSec
  exact CanonOut.forester (fun _ k => .access hf k) h

/-- A command on the quad-SPI port. -/
theorem CanonOut.qspi {s : State} {t : Nat} {f : State → State} (hf : ∀ v, State.Canonical v → (f v).Canonical)
    (h : s.Canonical) : CanonOut (onQspi t s f) := by
  unfold onQspi
  exact CanonOut.core (fun _ k => .when hf k) h

theorem State.useInj_canon {target} {s : State} (h : s.Canonical) : (State.useInj target s).Canonical := by
  unfold State.useInj
  exact .ite h (.set_flt id id h)

/-- Occurrences of a checker on the words of a list. -/
theorem State.Canonical.injWords {s : State} {target : Nat} {put : Nat → Bool → State → State} {xs : List Nat}
    (hf : ∀ w b v, State.Canonical v → (put w b v).Canonical) (h : s.Canonical) :
    (State.injWords target put xs s).Canonical := by
  induction xs generalizing s with
  | nil => exact h
  | cons x xs ih => exact ih (.ite h (hf _ _ _ (State.useInj_canon h)))

theorem State.clockWindow_canon {w} {s : State} (h : s.Canonical) : (State.clockWindow w s).Canonical := by
  unfold State.clockWindow
  exact State.report_canon (.only Only.set_clk rfl h)

theorem State.stallCrossing_canon {c lost} {s : State} (h : s.Canonical) :
    (State.stallCrossing c lost s).Canonical := by
  unfold State.stallCrossing
  exact State.report_canon (.only Only.set_clk_host rfl h)

theorem execClockMonitorWindow_canon {t w} {s : State} (h : s.Canonical) :
    CanonOut (execClockMonitorWindow t w s) := by
  unfold execClockMonitorWindow
  exact CanonOut.core (fun _ h0 => (State.clockWindow_canon h0)) h

theorem execCrossingStall_canon {t live far kind lost ack} {s : State} (h : s.Canonical) :
    CanonOut (execCrossingStall t live far kind lost ack s) := by
  unfold execCrossingStall
  exact CanonOut.core (fun _ h0 => (.when (fun _ h1 => (State.stallCrossing_canon h1)) h0)) h

theorem State.advance_canon {k least} {s : State} (h : s.Canonical) : (State.advance k least s).Canonical := by
  unfold State.advance
  exact .ite (State.report_canon (.only Only.set_stream rfl h)) h

theorem State.endStream_canon {k} {s : State} (h : s.Canonical) : (State.endStream k s).Canonical := by
  unfold State.endStream
  exact .only State.setSkeinLine_only rfl (State.advance_canon h)

theorem State.queueRow_canon {k r} {s : State} (h : s.Canonical) : (State.queueRow k r s).Canonical := by
  unfold State.queueRow
  exact .only State.setSkeinLine_only rfl (State.advance_canon h)

theorem State.putLine_canon {l k no plan fill} {s : State} (h : s.Canonical) :
    (State.putLine l k no plan fill s).Canonical := by
  unfold State.putLine
  exact .only State.setLine_only rfl (.ite (State.advance_canon (State.advance_canon h))
      (.only State.setSkeinLine_only rfl (State.advance_canon (State.advance_canon h))))

theorem State.bufferedOnly_canon {k} {s : State} (h : s.Canonical) : (State.bufferedOnly k s).Canonical := by
  unfold State.bufferedOnly
  exact .only State.setSkeinLine_only rfl (State.advance_canon h)

theorem State.stopPackets_canon {k} {s : State} (h : s.Canonical) : (State.stopPackets k s).Canonical := by
  unfold State.stopPackets
  exact .only State.setSkeinLine_only rfl (State.advance_canon h)

theorem State.queuePackets_canon {k l} {s : State} (h : s.Canonical) : (State.queuePackets k l s).Canonical := by
  unfold State.queuePackets
  exact .only State.setSkeinLine_only rfl (State.advance_canon h)

theorem State.markStream_canon {k mcnt} {s : State} (h : s.Canonical) : (State.markStream k mcnt s).Canonical := by
  unfold State.markStream
  exact .ite (State.report_canon (.only Only.set_stream rfl (State.advance_canon h))) h

theorem State.sendRow_canon {k lmask r} {s : State} (h : s.Canonical) : (State.sendRow k lmask r s).Canonical := by
  unfold State.sendRow
  exact .ite h (State.report_canon (State.useInj_canon (State.queueRow_canon h)))

theorem State.atemp_canon {a} {s : State} (h : s.Canonical) : (State.atemp a s).Canonical := by
  unfold State.atemp
  exact State.report_canon (.only Only.set_tile rfl h)

theorem State.tempStale_canon {a} {s : State} (h : s.Canonical) : (State.tempStale a s).Canonical := by
  unfold State.tempStale
  exact State.atemp_canon (.only Only.set_tile rfl h)

theorem execArrayTempStale_canon {t a} {s : State} (h : s.Canonical) : CanonOut (execArrayTempStale t a s) := by
  unfold execArrayTempStale
  exact CanonOut.core (fun _ h0 => (.when (fun _ h1 => (State.tempStale_canon h1)) h0)) h

theorem State.putHealth_canon {a b} {s : State} (h : s.Canonical) : (State.putHealth a b s).Canonical := by
  unfold State.putHealth
  exact .set_health_healthSeen Store.write_wf h

theorem State.sweepHealth_canon {lo hi} {s : State} (h : s.Canonical) : (State.sweepHealth lo hi s).Canonical := by
  unfold State.sweepHealth
  exact State.report_canon (.set_health_healthSeen id h)

theorem State.setHealth_canon {n} {s : State} (h : s.Canonical) : (State.setHealth n s).Canonical := by
  unfold State.setHealth
  exact .only State.noteSet_only rfl (State.putHealth_canon (State.sweepHealth_canon h))

theorem State.clearHealth_canon {n} {s : State} (h : s.Canonical) : (State.clearHealth n s).Canonical := by
  unfold State.clearHealth
  exact State.putHealth_canon (State.sweepHealth_canon h)

theorem State.applyClears_canon {u} {s : State} (h : s.Canonical) : (State.applyClears u s).Canonical := by
  unfold State.applyClears
  exact .only Only.set_clearQ rfl (.foldl h (fun _ _ h0 => (State.clearHealth_canon h0)))

/-- A sweep keeps a store canonical. -/
theorem Store.sweep_wf {x : Store} {lo hi : Nat} (h : x.wf zeroByte = true) : (x.sweep lo hi).wf zeroByte = true :=
  Store.repair_wf (x := x) (dead := 0) (ws := inBytes lo hi x.ue) h

theorem State.setBank_canon {b x} {s : State} (hx : (s.bank b).wf zeroByte = true → x.wf zeroByte = true)
    (h : s.Canonical) : (State.setBank b x s).Canonical := by
  unfold State.setBank
  cases b
  · exact .set_bank0 hx h
  · exact .set_bank1 hx h

theorem State.putFrameByte_canon {a b} {s : State} (h : s.Canonical) : (State.putFrameByte s a b).Canonical := by
  unfold State.putFrameByte
  exact .ite h (State.setBank_canon Store.write_wf h)

theorem State.putFrame_canon {a data} {s : State} (h : s.Canonical) : (State.putFrame a data s).Canonical := by
  induction data generalizing a s with
  | nil => exact h
  | cons b r ih => exact ih (State.putFrameByte_canon h)

theorem State.queueClear_canon {n} {s : State} (h : s.Canonical) : (State.queueClear n s).Canonical := by
  unfold State.queueClear
  exact .ite (.only Only.set_clearQ rfl h) (State.report_canon h)

theorem State.spoilHealth_canon {ws} {s : State} (h : s.Canonical) : (State.spoilHealth ws s).Canonical := by
  unfold State.spoilHealth
  exact .injWords (fun _ _ _ h0 => (.set_health Store.upset_wf h0)) h

theorem State.mergeHealth_canon {a b} {s : State} (h : s.Canonical) : (State.mergeHealth a b s).Canonical := by
  unfold State.mergeHealth
  exact .foldl (State.putHealth_canon h) (fun _ _ h0 => (.only State.noteSet_only rfl h0))

theorem State.mergeHealthL_canon {a data} {s : State} (h : s.Canonical) : (State.mergeHealthL a data s).Canonical := by
  induction data generalizing a s with
  | nil => exact h
  | cons b r ih => exact ih (State.mergeHealth_canon h)

theorem State.writeHealth_canon {a l} {s : State} (h : s.Canonical) : (State.writeHealth a l s).Canonical := by
  unfold State.writeHealth
  exact State.spoilHealth_canon (State.mergeHealthL_canon (.foldl h (fun _ _ h0 => (State.sweepHealth_canon h0))))

theorem State.sweepBank_canon {b lo hi} {s : State} (h : s.Canonical) : (State.sweepBank b lo hi s).Canonical := by
  unfold State.sweepBank
  exact State.report_canon (State.setBank_canon Store.sweep_wf h)

theorem execBar2FrameStoreWrite_canon {t x1 addr data} {s : State} (h : s.Canonical) :
    CanonOut (execBar2FrameStoreWrite t x1 addr data s) := by
  unfold execBar2FrameStoreWrite
  exact CanonOut.core (fun _ h0 => (State.report_canon (State.putFrame_canon h0))) h

theorem execBar2HealthMapWrite_canon {t x1 addr data} {s : State} (h : s.Canonical) :
    CanonOut (execBar2HealthMapWrite t x1 addr data s) := by
  unfold execBar2HealthMapWrite
  exact CanonOut.core (fun _ h0 => (State.writeHealth_canon h0)) h

theorem execStHmClr_canon {t req v} {s : State} (h : s.Canonical) : CanonOut (execStHmClr t req v s) := by
  unfold execStHmClr
  exact CanonOut.core (fun _ h0 => (.access (fun _ h1 => (State.queueClear_canon h1)) h0)) h

theorem execStHmSet_canon {t req v} {s : State} (h : s.Canonical) : CanonOut (execStHmSet t req v s) := by
  unfold execStHmSet
  exact CanonOut.core (fun _ h0 => (.access (fun _ h1 => (State.spoilHealth_canon (State.setHealth_canon h1))) h0)) h

theorem State.goStale_canon {u} {s : State} (h : s.Canonical) : (State.goStale u s).Canonical := by
  unfold State.goStale
  exact .ite h (State.report_canon (.only State.setShade_only rfl h))

theorem State.mailboxGo_canon {v} {s : State} (h : s.Canonical) : (State.mailboxGo v s).Canonical := by
  unfold State.mailboxGo
  exact .ite h (.ite (State.report_canon (.only Only.set_shade rfl h)) (.only Only.set_shade rfl h))

theorem State.spoilFill_canon {u n} {s : State} (h : s.Canonical) : (State.spoilFill u n s).Canonical := by
  unfold State.spoilFill
  exact .injWords (fun _ _ _ h0 => (.only State.setShade_only rfl h0)) h

theorem State.shadePort_canon {u off l} {s : State} (h : s.Canonical) : (State.shadePort u off l s).Canonical := by
  unfold State.shadePort
  exact .ite (.only State.setShade_only rfl h) (State.spoilFill_canon (.only State.setShade_only rfl h))

theorem State.listArrive_canon {u} {s : State} (h : s.Canonical) : (State.listArrive u s).Canonical := by
  unfold State.listArrive
  exact .ite (State.report_canon (.only State.setShade_only rfl h)) (.ite h (.only State.setShade_only rfl h))

theorem State.listParity_canon {u} {s : State} (h : s.Canonical) : (State.listParity u s).Canonical := by
  unfold State.listParity
  exact .ite (State.goStale_canon (State.report_canon (.only State.setShade_only rfl h))) h

theorem State.mailboxCopied_canon {s : State} (h : s.Canonical) : (State.mailboxCopied s).Canonical := by
  unfold State.mailboxCopied
  exact (by
    split
    · exact h
    · exact (State.spoilFill_canon (.only Only.set_shade rfl h)))

theorem State.takeUp_canon {u} {s : State} (h : s.Canonical) : (State.takeUp u s).Canonical := by
  unfold State.takeUp
  exact (by
    dsimp only
    split
    · exact h
    · exact (.ite h (by
      split
      · exact (State.report_canon (.only State.setShade_only rfl h))
      · exact (State.listParity_canon (State.report_canon (.only State.setShade_only rfl h))))))

theorem State.takeUpsFirst_canon {s : State} (h : s.Canonical) : (State.takeUpsFirst s).Canonical := by
  unfold State.takeUpsFirst
  exact (.takeFirst (fun _ => (by
      split
      · exact (.some (fun _ h0 => (State.takeUp_canon h0)))
      · exact .none)) h)

theorem execListLifeExpiry_canon {t u} {s : State} (h : s.Canonical) : CanonOut (execListLifeExpiry t u s) := by
  unfold execListLifeExpiry
  exact CanonOut.core (fun _ h0 => (.when (fun _ h1 => (State.goStale_canon h1)) (State.takeUpsFirst_canon h0))) h

theorem execListTakeUp_canon {t u} {s : State} (h : s.Canonical) : CanonOut (execListTakeUp t u s) := by
  unfold execListTakeUp
  exact CanonOut.core (fun _ h0 => (.once (fun _ h1 => (State.takeUp_canon h1)) h0)) h

theorem execMailboxCopyDone_canon {t} {s : State} (h : s.Canonical) : CanonOut (execMailboxCopyDone t s) := by
  unfold execMailboxCopyDone
  exact CanonOut.core (fun _ h0 => (State.mailboxCopied_canon h0)) h

theorem execShMbpubGo_canon {t req v} {s : State} (h : s.Canonical) : CanonOut (execShMbpubGo t req v s) := by
  unfold execShMbpubGo
  exact CanonOut.core (fun _ h0 => (.access (fun _ h1 => (State.mailboxGo_canon h1)) h0)) h

end Sys2Proof.Machine
end

