-- ==== Sys2Proof/Laws/OnlyLanes.lean ====
section
/-! SUPPORT. Which parts the functions of the lanes and the time base change: one lemma for each. -/

namespace Sys2Proof.Machine

open Sys2Proof

theorem State.setSkein_only {k x} {s : State} : Only [.skein] s (State.setSkein k x s) := by
  unfold State.setSkein
  exact .app Only.set_skein rfl .refl

theorem State.dropMask_only {l} {s : State} :
    Only [.now, .regs, .live, .skein, .stream, .flt, .out] s (State.dropMask l s) := by
  unfold State.dropMask
  exact .ite .refl (Only.when (fun _ h0 => (.app State.endStream_only rfl h0)) (.app State.setSkein_only rfl .refl))

theorem State.leaveMask_only {l} {s : State} :
    Only [.now, .regs, .live, .skein, .stream, .flt, .out] s (State.leaveMask l s) := by
  unfold State.leaveMask
  exact .ite .refl (.app State.sendRow_only rfl (.app State.dropMask_only rfl .refl))

theorem State.setLane_only {l x} {s : State} : Only [.lane] s (State.setLane l x s) := by
  unfold State.setLane
  exact .app Only.set_lane rfl .refl

theorem State.setArr_only {a x} {s : State} : Only [.arr] s (State.setArr a x s) := by
  unfold State.setArr
  exact .app Only.set_arr rfl .refl

theorem State.clearMisses_only {k} {s : State} : Only [.arr] s (State.clearMisses k s) := by
  unfold State.clearMisses
  exact .foldl .refl (fun _ _ h0 => (.app State.setArr_only rfl h0))

theorem State.sendArw_only {s : State} :
    Only [.now, .regs, .live, .areq, .stream, .flt, .out] s (State.sendArw s) := by
  unfold State.sendArw
  exact (.ite (by
    split
    · exact .refl
    · exact (.ite .refl (.app State.sendRow_only rfl (.app State.hit_only rfl
        (.app Only.set_areq rfl .refl))))) .refl)

theorem State.putMask_only {k m} {s : State} :
    Only [.now, .regs, .live, .skein, .arr, .areq, .stream, .flt, .out] s (State.putMask k m s) := by
  unfold State.putMask
  exact .app State.sendArw_only rfl (.app State.sendRow_only rfl (.app State.setSkein_only rfl (.ite
      (.app State.clearMisses_only rfl .refl) .refl)))

theorem State.joinMask_only {l} {s : State} :
    Only [.now, .regs, .live, .skein, .arr, .areq, .stream, .flt, .out] s (State.joinMask l s) := by
  unfold State.joinMask
  exact .app State.putMask_only rfl .refl

theorem State.clearMoved_only {old new} {s : State} :
    Only [.now, .regs, .live, .skein, .stream, .flt, .out] s (State.clearMoved old new s) := by
  unfold State.clearMoved
  exact .foldl .refl (fun _ _ h0 => (Only.when (fun _ h1 => (.app State.leaveMask_only rfl h1)) h0))

theorem State.toIdle_only {l} {s : State} :
    Only [.now, .regs, .live, .stream, .flt, .out] s (State.toIdle l s) := by
  unfold State.toIdle
  exact .ite (.app State.report_only rfl (.app State.putLine_only rfl .refl)) (.app State.putLine_only rfl .refl)

theorem State.enterIdle_only {l} {s : State} :
    Only [.now, .regs, .live, .skein, .lane, .stream, .flt, .out] s (State.enterIdle l s) := by
  unfold State.enterIdle
  exact .app State.setLane_only rfl (.app State.toIdle_only rfl (.app State.dropMask_only rfl .refl))

theorem State.train_only {l org b} {s : State} :
    Only [.now, .regs, .live, .lane, .stream, .flt, .out] s (State.train l org b s) := by
  unfold State.train
  exact .app State.report_only rfl (.app State.setLane_only rfl (.app State.putLine_only rfl .refl))

theorem State.idleLane_only {idle l} {s : State} :
    Only [.now, .regs, .live, .skein, .lane, .stream, .flt, .out] s (State.idleLane idle s l) := by
  unfold State.idleLane
  exact .ite (.app State.enterIdle_only rfl .refl) (.ite (.app State.train_only rfl .refl) .refl)

theorem State.unready_only {k} {s : State} : Only [.arr] s (State.unready k s) := by
  unfold State.unready
  exact .foldl .refl (fun _ _ h0 => (.app State.setArr_only rfl h0))

theorem State.idleSkein_only {k} {s : State} :
    Only [.now, .regs, .live, .skein, .arr, .lane, .stream, .flt, .out] s (State.idleSkein s k) := by
  unfold State.idleSkein
  exact .foldl (Only.when (fun _ h0 => (.app State.unready_only rfl h0)) .refl) (fun _ _ h0 =>
      (.app State.idleLane_only rfl h0))

theorem State.idleCheck_only {s : State} :
    Only [.now, .regs, .live, .skein, .arr, .lane, .stream, .flt, .out] s (State.idleCheck s) := by
  unfold State.idleCheck
  exact .foldl .refl (fun _ _ h0 => (.app State.idleSkein_only rfl h0))

theorem State.fail_only {l} {s : State} :
    Only [.now, .regs, .live, .lane, .stream, .flt, .out] s (State.fail l s) := by
  unfold State.fail
  exact Only.when (fun _ h0 => (.app State.setLane_only rfl h0)) (.app State.report_only rfl
      (.app State.toIdle_only rfl (.app State.setLane_only rfl .refl)))

theorem State.enterDown_only {l cause addr} {s : State} :
    Only [.now, .regs, .live, .lane, .stream, .flt, .out] s (State.enterDown l cause addr s) := by
  unfold State.enterDown
  exact Only.when (fun _ h0 => (.app State.fail_only rfl h0)) (.app State.putLine_only rfl
      (.app State.setLane_only rfl .refl))

theorem State.laneOff_only {l} {s : State} :
    Only [.now, .regs, .live, .lane, .stream, .flt, .out] s (State.laneOff l s) := by
  unfold State.laneOff
  exact .app State.setLane_only rfl (Only.when (fun _ h0 => (.app State.toIdle_only rfl h0)) .refl)

theorem State.offCheck_only {l} {s : State} :
    Only [.now, .regs, .live, .lane, .stream, .flt, .out] s (State.offCheck l s) := by
  unfold State.offCheck
  exact Only.when (fun _ h0 => (.app State.train_only rfl (.app State.setLane_only rfl h0))) .refl

theorem State.retrain_only {l} {s : State} :
    Only [.now, .regs, .live, .lane, .stream, .flt, .out] s (State.retrain l s) := by
  unfold State.retrain
  exact .ite (.app State.train_only rfl (.app State.setLane_only rfl .refl)) (.app State.enterDown_only rfl
      (.app State.setLane_only rfl .refl))

theorem State.laneSet_only {old l} {s : State} :
    Only [.now, .regs, .live, .lane, .stream, .flt, .out] s (State.laneSet old s l) := by
  unfold State.laneSet
  exact .ite (Only.when (fun _ h0 => (.app State.setLane_only rfl h0)) .refl) (.ite (.ite (Only.when (fun _ h0 =>
      (.app State.setLane_only rfl h0)) .refl) (.app State.laneOff_only rfl (Only.when (fun _ h0 =>
      (.app State.setLane_only rfl h0)) .refl))) (.ite (.app State.offCheck_only rfl (Only.when (fun _ h0 =>
      (.app State.setLane_only rfl h0)) .refl)) (.ite (.app State.retrain_only rfl (Only.when (fun _ h0 =>
      (.app State.setLane_only rfl h0)) .refl)) (.ite (.app State.enterDown_only rfl (.app State.setLane_only rfl
      (Only.when (fun _ h0 => (.app State.setLane_only rfl h0)) .refl))) (Only.when (fun _ h0 =>
      (.app State.fail_only rfl h0)) (Only.when (fun _ h0 => (.app State.setLane_only rfl h0)) .refl))))))

theorem State.renumberSkein_only {kept k} {s : State} :
    Only [.now, .regs, .live, .skein, .stream, .flt, .out] s (State.renumberSkein kept s k) := by
  unfold State.renumberSkein
  exact Only.when (fun _ h0 => (.app State.sendRow_only rfl (.app State.setSkein_only rfl h0))) .refl

theorem State.renumber_only {kept} {s : State} :
    Only [.now, .regs, .live, .skein, .stream, .flt, .out] s (State.renumber kept s) := by
  unfold State.renumber
  exact .foldl (.foldl .refl (fun _ _ h0 => (.app State.setLine_only rfl h0))) (fun _ _ h0 =>
      (.app State.renumberSkein_only rfl h0))

theorem State.setRet_only {b x} {s : State} : Only [.ret] s (State.setRet b x s) := by
  unfold State.setRet
  exact .app Only.set_ret rfl .refl

theorem State.loseLane_only {l cause addr} {s : State} :
    Only [.now, .regs, .live, .skein, .lane, .stream, .flt, .out] s (State.loseLane l cause addr s) := by
  unfold State.loseLane
  exact .ite .refl (.app State.enterDown_only rfl (.app State.report_only rfl (.app State.leaveMask_only rfl .refl)))

theorem State.attempt_only {l} {s : State} :
    Only [.now, .regs, .live, .lane, .stream, .flt, .out] s (State.attempt l s) := by
  unfold State.attempt
  exact .app State.train_only rfl (.app State.report_only rfl (.app State.setLane_only rfl .refl))

theorem State.serve_only {k ls} {s : State} :
    Only [.now, .regs, .live, .skein, .arr, .areq, .lane, .stream, .flt, .out] s (State.serve k ls s) := by
  unfold State.serve
  exact .app State.putMask_only rfl (.foldl .refl (fun _ _ h0 => (.app State.setLane_only rfl h0)))

theorem State.burstEnd_only {l} {s : State} :
    Only [.now, .regs, .live, .skein, .arr, .areq, .lane, .stream, .flt, .out] s (State.burstEnd l s) := by
  unfold State.burstEnd
  exact .ite .refl (.ite (.app State.idleSkein_only rfl (.app State.serve_only rfl
      (.app State.advance_only rfl .refl))) (.foldl (.app State.advance_only rfl .refl) (fun _ _ h0 =>
      (.app State.setLane_only rfl h0))))

theorem State.writeLoop_only {l v} {s : State} :
    Only [.now, .regs, .live, .lane, .stream, .flt, .out] s (State.writeLoop l v s) := by
  unfold State.writeLoop
  exact .app State.offCheck_only rfl (.app State.report_only rfl (.app State.setLane_only rfl .refl))

theorem State.writeRetry_only {l v} {s : State} :
    Only [.now, .regs, .live, .lane, .stream, .flt, .out] s (State.writeRetry l v s) := by
  unfold State.writeRetry
  exact Only.when (fun _ h0 => (Only.when (fun _ h1 => (.app State.enterDown_only rfl
      (.app State.setLane_only rfl h1))) (.app State.setLane_only rfl h0))) .refl

theorem State.driverFault_only {l} {s : State} :
    Only [.now, .regs, .live, .skein, .lane, .stream, .flt, .out] s (State.driverFault l s) := by
  unfold State.driverFault
  exact .ite (.app State.setLane_only rfl .refl) (.app State.loseLane_only rfl .refl)

theorem State.holdConfirm_only {l} {s : State} :
    Only [.now, .regs, .live, .lane, .stream, .flt, .out] s (State.holdConfirm l s) := by
  unfold State.holdConfirm
  exact .ite .refl (.ite (.app State.setLane_only rfl .refl) (.app State.enterDown_only rfl .refl))

theorem State.markLane_only {mcnt l} {s : State} :
    Only [.now, .regs, .live, .lane, .flt, .out] s (State.markLane mcnt s l) := by
  unfold State.markLane
  exact .ite (.app State.report_only rfl (.app State.setLane_only rfl .refl)) .refl

theorem State.markSkein_only {k} {s : State} :
    Only [.now, .regs, .live, .skein, .lane, .stream, .flt, .out] s (State.markSkein k s) := by
  unfold State.markSkein
  exact .app State.markStream_only rfl (.foldl (.app State.advance_only rfl (.app State.setSkein_only rfl .refl))
      (fun _ _ h0 => (.app State.markLane_only rfl h0)))

theorem State.pllLane_only {l} {s : State} :
    Only [.now, .regs, .live, .skein, .lane, .stream, .flt, .out] s (State.pllLane s l) := by
  unfold State.pllLane
  exact (by
    split
    · exact .refl
    · exact .refl
    · exact (.app State.setLane_only rfl (.app State.loseLane_only rfl .refl))
    · exact (.app State.setLane_only rfl (.app State.enterDown_only rfl .refl)))

theorem State.relockLane_only {l} {s : State} :
    Only [.now, .regs, .live, .lane, .stream, .flt, .out] s (State.relockLane s l) := by
  unfold State.relockLane
  exact .ite (.app State.offCheck_only rfl .refl) (.ite (.app State.attempt_only rfl .refl) .refl)

theorem State.retrainWait_only {l} {s : State} :
    Only [.now, .regs, .live, .lane, .stream, .flt, .out] s (State.retrainWait l s) := by
  unfold State.retrainWait
  exact .ite .refl (.ite (.app State.fail_only rfl .refl) (Only.when (fun _ h0 =>
      (.app State.attempt_only rfl h0)) .refl))

theorem State.synLock_only {syn} {s : State} :
    Only [.now, .regs, .live, .clk, .lane, .stream, .flt, .out] s (State.synLock syn s) := by
  unfold State.synLock
  exact (by
    split
    · exact (.app Only.set_clk rfl .refl)
    · exact (.app Only.set_clk rfl .refl)
    · exact (.app Only.set_clk rfl .refl)
    · exact (.foldl (.app Only.set_clk rfl .refl) (fun _ _ h0 => (.app State.relockLane_only rfl h0))))

theorem State.synLoss_only {syn} {s : State} :
    Only [.now, .regs, .live, .clk, .skein, .lane, .stream, .flt, .out] s (State.synLoss syn s) := by
  unfold State.synLoss
  exact (by
    split
    · exact (.app State.report_only rfl (.app Only.set_clk rfl .refl))
    · exact (.app State.report_only rfl (.app Only.set_clk rfl .refl))
    · exact (.app State.report_only rfl (.app Only.set_clk rfl .refl))
    · exact (.ite (.foldl (.foldl (.app State.report_only rfl (.app Only.set_clk rfl .refl)) (fun _ _ h0 =>
        (.app State.dropMask_only rfl h0))) (fun _ _ h0 => (.app State.pllLane_only rfl h0))) .refl))

theorem State.testLock_only {l rx} {s : State} :
    Only [.now, .regs, .live, .lane, .flt, .out] s (State.testLock l rx s) := by
  unfold State.testLock
  exact (by
    dsimp only
    split
    · exact (Only.when (fun _ h0 => (.app State.report_only rfl (.app State.setLane_only rfl h0))) .refl)
    · exact (Only.when (fun _ h0 => (.app State.setLane_only rfl h0)) .refl))

theorem execHoldIdleTimeout_only {t l} {s : State} :
    OnlyOut [.now, .regs, .live, .lane, .stream, .flt, .out] s (execHoldIdleTimeout t l s) := by
  unfold execHoldIdleTimeout
  exact OnlyOut.core rfl (fun _ h0 => (Only.when (fun _ h1 => (.app State.train_only rfl h1)) h0))

theorem execMarkerSlot_only {t k} {s : State} :
    OnlyOut [.now, .regs, .live, .skein, .lane, .stream, .flt, .out] s (execMarkerSlot t k s) := by
  unfold execMarkerSlot
  exact OnlyOut.core rfl (fun _ h0 => (.app State.markSkein_only rfl h0))

theorem execPrbsLock_only {t l rx} {s : State} :
    OnlyOut [.now, .regs, .live, .lane, .flt, .out] s (execPrbsLock t l rx s) := by
  unfold execPrbsLock
  exact OnlyOut.core rfl (fun _ h0 => (.app State.testLock_only rfl h0))

theorem execRetrainWaitExpiry_only {t l} {s : State} :
    OnlyOut [.now, .regs, .live, .lane, .stream, .flt, .out] s (execRetrainWaitExpiry t l s) := by
  unfold execRetrainWaitExpiry
  exact OnlyOut.core rfl (fun _ h0 => (.app State.retrainWait_only rfl h0))

theorem execRetry_only {t req l v} {s : State} :
    OnlyOut [.now, .regs, .live, .lane, .stream, .flt, .out] s (execRetry t req l v s) := by
  unfold execRetry
  exact OnlyOut.core rfl (fun _ h0 => (Only.access rfl (fun _ h1 => (.app State.writeRetry_only rfl h1)) h0))

theorem execReturnLaneLockGain_only {t b hdrs} {s : State} :
    OnlyOut [.now, .ret] s (execReturnLaneLockGain t b hdrs s) := by
  unfold execReturnLaneLockGain
  exact OnlyOut.core rfl (fun _ h0 => (Only.when (fun _ h1 => (.app State.setRet_only rfl h1)) h0))

theorem execReturnLaneLockLoss_only {t b hdrs dark} {s : State} :
    OnlyOut [.now, .regs, .live, .ret, .flt, .out] s (execReturnLaneLockLoss t b hdrs dark s) := by
  unfold execReturnLaneLockLoss
  exact OnlyOut.core rfl (fun _ h0 => (Only.when (fun _ h1 => (.app State.report_only rfl
      (.app State.setRet_only rfl h1))) h0))

theorem execServiceStableTimer_only {t l} {s : State} : OnlyOut [.now, .lane] s (execServiceStableTimer t l s) := by
  unfold execServiceStableTimer
  exact OnlyOut.core rfl (fun _ h0 => (Only.when (fun _ h1 => (.app State.setLane_only rfl h1)) h0))

theorem execSkLoopWrite_only {t req l v} {s : State} :
    OnlyOut [.now, .regs, .live, .lane, .stream, .flt, .out] s (execSkLoopWrite t req l v s) := by
  unfold execSkLoopWrite
  exact OnlyOut.core rfl (fun _ h0 => (Only.access rfl (fun _ h1 => (.app State.writeLoop_only rfl h1)) h0))

theorem execSynthesiserRelock_only {t syn} {s : State} :
    OnlyOut [.now, .regs, .live, .clk, .lane, .stream, .flt, .out] s (execSynthesiserRelock t syn s) := by
  unfold execSynthesiserRelock
  exact OnlyOut.core rfl (fun _ h0 => (.app State.synLock_only rfl h0))

theorem execTrainingBurstEnd_only {t l} {s : State} :
    OnlyOut [.now, .regs, .live, .skein, .arr, .areq, .lane, .stream, .flt, .out]
      s (execTrainingBurstEnd t l s) := by
  unfold execTrainingBurstEnd
  exact OnlyOut.core rfl (fun _ h0 => (.app State.burstEnd_only rfl h0))

theorem State.genlockEdge_only {t} {s : State} :
    Only [.now, .regs, .live, .tb, .flt, .out] s (State.genlockEdge t s) := by
  unfold State.genlockEdge
  exact .app State.report_only rfl (.app Only.set_tb rfl .refl)

theorem State.genlockChange_only {t rise held} {s : State} :
    Only [.now, .regs, .live, .tb, .flt, .out] s (State.genlockChange t rise held s) := by
  unfold State.genlockChange
  exact Only.when (fun _ h0 => (.app State.genlockEdge_only rfl h0)) .refl

theorem State.edgesFirst_only {s : State} : Only [.now, .regs, .live, .tb, .flt, .out] s (State.edgesFirst s) := by
  unfold State.edgesFirst
  exact (Only.takeFirst rfl (fun _ => (by
      split
      · exact (.some (fun _ h0 => (.app State.genlockChange_only rfl h0)))
      · exact .none)) .refl)

theorem State.genlockMissing_only {s : State} :
    Only [.now, .regs, .live, .tb, .flt, .out] s (State.genlockMissing s) := by
  unfold State.genlockMissing
  exact (by
    split
    · exact .refl
    · exact (.ite .refl (.app State.report_only rfl (.app Only.set_tb rfl .refl))))

theorem State.holdoverExpiry_only {s : State} :
    Only [.now, .regs, .live, .tb, .flt, .out] s (State.holdoverExpiry s) := by
  unfold State.holdoverExpiry
  exact .app State.report_only rfl (.app Only.set_tb rfl .refl)

theorem execGenlockEdge_only {t rise held} {s : State} :
    OnlyOut [.now, .regs, .live, .tb, .flt, .out] s (execGenlockEdge t rise held s) := by
  unfold execGenlockEdge
  exact OnlyOut.core rfl (fun _ h0 => (Only.once rfl (fun _ h1 => (.app State.genlockChange_only rfl h1)) h0))

theorem execGenlockMissing_only {t} {s : State} :
    OnlyOut [.now, .regs, .live, .tb, .flt, .out] s (execGenlockMissing t s) := by
  unfold execGenlockMissing
  exact OnlyOut.core rfl (fun _ h0 => (Only.when (fun _ h1 => (.app State.genlockMissing_only rfl
      (.app State.edgesFirst_only rfl h1))) h0))

theorem execGenlockOutPulseEnd_only {t} {s : State} : OnlyOut [.now, .tb] s (execGenlockOutPulseEnd t s) := by
  unfold execGenlockOutPulseEnd
  exact OnlyOut.core rfl (fun _ h0 => (.app Only.set_tb rfl h0))

theorem execHoldoverExpiry_only {t} {s : State} :
    OnlyOut [.now, .regs, .live, .tb, .flt, .out] s (execHoldoverExpiry t s) := by
  unfold execHoldoverExpiry
  exact OnlyOut.core rfl (fun _ h0 => (Only.when (fun _ h1 => (.app State.holdoverExpiry_only rfl h1))
      (.app State.edgesFirst_only rfl h0)))

end Sys2Proof.Machine
end

