-- ==== Sys2Proof/Laws/CanonLanes.lean ====
section
/-! SUPPORT. The lanes and the time base keep the canonical forms: one lemma for each function. -/

namespace Sys2Proof.Machine

open Sys2Proof

theorem State.dropMask_canon {l} {s : State} (h : s.Canonical) : (State.dropMask l s).Canonical := by
  unfold State.dropMask
  exact .ite h (.when (fun _ h0 => (State.endStream_canon h0)) (.only State.setSkein_only rfl h))

theorem State.leaveMask_canon {l} {s : State} (h : s.Canonical) : (State.leaveMask l s).Canonical := by
  unfold State.leaveMask
  exact .ite h (State.sendRow_canon (State.dropMask_canon h))

theorem State.sendArw_canon {s : State} (h : s.Canonical) : (State.sendArw s).Canonical := by
  unfold State.sendArw
  exact (.ite (by
    split
    · exact h
    · exact (.ite h (State.sendRow_canon (.only State.hit_only rfl (.only Only.set_areq rfl h))))) h)

theorem State.putMask_canon {k m} {s : State} (h : s.Canonical) : (State.putMask k m s).Canonical := by
  unfold State.putMask
  exact State.sendArw_canon (State.sendRow_canon (.only State.setSkein_only rfl (.ite
      (.only State.clearMisses_only rfl h) h)))

theorem State.joinMask_canon {l} {s : State} (h : s.Canonical) : (State.joinMask l s).Canonical := by
  unfold State.joinMask
  exact State.putMask_canon h

theorem State.clearMoved_canon {old new} {s : State} (h : s.Canonical) :
    (State.clearMoved old new s).Canonical := by
  unfold State.clearMoved
  exact .foldl h (fun _ _ h0 => (.when (fun _ h1 => (State.leaveMask_canon h1)) h0))

theorem State.toIdle_canon {l} {s : State} (h : s.Canonical) : (State.toIdle l s).Canonical := by
  unfold State.toIdle
  exact .ite (State.report_canon (State.putLine_canon h)) (State.putLine_canon h)

theorem State.enterIdle_canon {l} {s : State} (h : s.Canonical) : (State.enterIdle l s).Canonical := by
  unfold State.enterIdle
  exact .only State.setLane_only rfl (State.toIdle_canon (State.dropMask_canon h))

theorem State.train_canon {l org b} {s : State} (h : s.Canonical) : (State.train l org b s).Canonical := by
  unfold State.train
  exact State.report_canon (.only State.setLane_only rfl (State.putLine_canon h))

theorem State.idleLane_canon {idle l} {s : State} (h : s.Canonical) : (State.idleLane idle s l).Canonical := by
  unfold State.idleLane
  exact .ite (State.enterIdle_canon h) (.ite (State.train_canon h) h)

theorem State.idleSkein_canon {k} {s : State} (h : s.Canonical) : (State.idleSkein s k).Canonical := by
  unfold State.idleSkein
  exact .foldl (.when (fun _ h0 => (.only State.unready_only rfl h0)) h) (fun _ _ h0 => (State.idleLane_canon h0))

theorem State.idleCheck_canon {s : State} (h : s.Canonical) : (State.idleCheck s).Canonical := by
  unfold State.idleCheck
  exact .foldl h (fun _ _ h0 => (State.idleSkein_canon h0))

theorem State.fail_canon {l} {s : State} (h : s.Canonical) : (State.fail l s).Canonical := by
  unfold State.fail
  exact .when (fun _ h0 => (.only State.setLane_only rfl h0)) (State.report_canon (State.toIdle_canon
      (.only State.setLane_only rfl h)))

theorem State.enterDown_canon {l cause addr} {s : State} (h : s.Canonical) :
    (State.enterDown l cause addr s).Canonical := by
  unfold State.enterDown
  exact .when (fun _ h0 => (State.fail_canon h0)) (State.putLine_canon (.only State.setLane_only rfl h))

theorem State.laneOff_canon {l} {s : State} (h : s.Canonical) : (State.laneOff l s).Canonical := by
  unfold State.laneOff
  exact .only State.setLane_only rfl (.when (fun _ h0 => (State.toIdle_canon h0)) h)

theorem State.offCheck_canon {l} {s : State} (h : s.Canonical) : (State.offCheck l s).Canonical := by
  unfold State.offCheck
  exact .when (fun _ h0 => (State.train_canon (.only State.setLane_only rfl h0))) h

theorem State.retrain_canon {l} {s : State} (h : s.Canonical) : (State.retrain l s).Canonical := by
  unfold State.retrain
  exact .ite (State.train_canon (.only State.setLane_only rfl h)) (State.enterDown_canon
      (.only State.setLane_only rfl h))

theorem State.laneSet_canon {old l} {s : State} (h : s.Canonical) : (State.laneSet old s l).Canonical := by
  unfold State.laneSet
  exact .ite (.when (fun _ h0 => (.only State.setLane_only rfl h0)) h) (.ite (.ite (.when (fun _ h0 =>
      (.only State.setLane_only rfl h0)) h) (State.laneOff_canon (.when (fun _ h0 =>
      (.only State.setLane_only rfl h0)) h))) (.ite (State.offCheck_canon (.when (fun _ h0 =>
      (.only State.setLane_only rfl h0)) h)) (.ite (State.retrain_canon (.when (fun _ h0 =>
      (.only State.setLane_only rfl h0)) h)) (.ite (State.enterDown_canon (.only State.setLane_only rfl (.when
      (fun _ h0 => (.only State.setLane_only rfl h0)) h))) (.when (fun _ h0 => (State.fail_canon h0)) (.when
      (fun _ h0 => (.only State.setLane_only rfl h0)) h))))))

theorem State.renumberSkein_canon {kept k} {s : State} (h : s.Canonical) :
    (State.renumberSkein kept s k).Canonical := by
  unfold State.renumberSkein
  exact .when (fun _ h0 => (State.sendRow_canon (.only State.setSkein_only rfl h0))) h

theorem State.renumber_canon {kept} {s : State} (h : s.Canonical) : (State.renumber kept s).Canonical := by
  unfold State.renumber
  exact .foldl (.foldl h (fun _ _ h0 => (.only State.setLine_only rfl h0))) (fun _ _ h0 =>
      (State.renumberSkein_canon h0))

theorem State.loseLane_canon {l cause addr} {s : State} (h : s.Canonical) :
    (State.loseLane l cause addr s).Canonical := by
  unfold State.loseLane
  exact .ite h (State.enterDown_canon (State.report_canon (State.leaveMask_canon h)))

theorem State.attempt_canon {l} {s : State} (h : s.Canonical) : (State.attempt l s).Canonical := by
  unfold State.attempt
  exact State.train_canon (State.report_canon (.only State.setLane_only rfl h))

theorem State.serve_canon {k ls} {s : State} (h : s.Canonical) : (State.serve k ls s).Canonical := by
  unfold State.serve
  exact State.putMask_canon (.foldl h (fun _ _ h0 => (.only State.setLane_only rfl h0)))

theorem State.burstEnd_canon {l} {s : State} (h : s.Canonical) : (State.burstEnd l s).Canonical := by
  unfold State.burstEnd
  exact .ite h (.ite (State.idleSkein_canon (State.serve_canon (State.advance_canon h))) (.foldl
      (State.advance_canon h) (fun _ _ h0 => (.only State.setLane_only rfl h0))))

theorem State.writeLoop_canon {l v} {s : State} (h : s.Canonical) : (State.writeLoop l v s).Canonical := by
  unfold State.writeLoop
  exact State.offCheck_canon (State.report_canon (.only State.setLane_only rfl h))

theorem State.writeRetry_canon {l v} {s : State} (h : s.Canonical) : (State.writeRetry l v s).Canonical := by
  unfold State.writeRetry
  exact .when (fun _ h0 => (.when (fun _ h1 => (State.enterDown_canon (.only State.setLane_only rfl h1)))
      (.only State.setLane_only rfl h0))) h

theorem State.driverFault_canon {l} {s : State} (h : s.Canonical) : (State.driverFault l s).Canonical := by
  unfold State.driverFault
  exact .ite (.only State.setLane_only rfl h) (State.loseLane_canon h)

theorem State.holdConfirm_canon {l} {s : State} (h : s.Canonical) : (State.holdConfirm l s).Canonical := by
  unfold State.holdConfirm
  exact .ite h (.ite (.only State.setLane_only rfl h) (State.enterDown_canon h))

theorem State.markLane_canon {mcnt l} {s : State} (h : s.Canonical) : (State.markLane mcnt s l).Canonical := by
  unfold State.markLane
  exact .ite (State.report_canon (.only State.setLane_only rfl h)) h

theorem State.markSkein_canon {k} {s : State} (h : s.Canonical) : (State.markSkein k s).Canonical := by
  unfold State.markSkein
  exact State.markStream_canon (.foldl (State.advance_canon (.only State.setSkein_only rfl h)) (fun _ _ h0 =>
      (State.markLane_canon h0)))

theorem State.pllLane_canon {l} {s : State} (h : s.Canonical) : (State.pllLane s l).Canonical := by
  unfold State.pllLane
  exact (by
    split
    · exact h
    · exact h
    · exact (.only State.setLane_only rfl (State.loseLane_canon h))
    · exact (.only State.setLane_only rfl (State.enterDown_canon h)))

theorem State.relockLane_canon {l} {s : State} (h : s.Canonical) : (State.relockLane s l).Canonical := by
  unfold State.relockLane
  exact .ite (State.offCheck_canon h) (.ite (State.attempt_canon h) h)

theorem State.retrainWait_canon {l} {s : State} (h : s.Canonical) : (State.retrainWait l s).Canonical := by
  unfold State.retrainWait
  exact .ite h (.ite (State.fail_canon h) (.when (fun _ h0 => (State.attempt_canon h0)) h))

theorem State.synLock_canon {syn} {s : State} (h : s.Canonical) : (State.synLock syn s).Canonical := by
  unfold State.synLock
  exact (by
    split
    · exact (.only Only.set_clk rfl h)
    · exact (.only Only.set_clk rfl h)
    · exact (.only Only.set_clk rfl h)
    · exact (.foldl (.only Only.set_clk rfl h) (fun _ _ h0 => (State.relockLane_canon h0))))

theorem State.synLoss_canon {syn} {s : State} (h : s.Canonical) : (State.synLoss syn s).Canonical := by
  unfold State.synLoss
  exact (by
    split
    · exact (State.report_canon (.only Only.set_clk rfl h))
    · exact (State.report_canon (.only Only.set_clk rfl h))
    · exact (State.report_canon (.only Only.set_clk rfl h))
    · exact (.ite (.foldl (.foldl (State.report_canon (.only Only.set_clk rfl h)) (fun _ _ h0 =>
        (State.dropMask_canon h0))) (fun _ _ h0 => (State.pllLane_canon h0))) h))

theorem State.testLock_canon {l rx} {s : State} (h : s.Canonical) : (State.testLock l rx s).Canonical := by
  unfold State.testLock
  exact (by
    dsimp only
    split
    · exact (.when (fun _ h0 => (State.report_canon (.only State.setLane_only rfl h0))) h)
    · exact (.when (fun _ h0 => (.only State.setLane_only rfl h0)) h))

theorem execHoldIdleTimeout_canon {t l} {s : State} (h : s.Canonical) : CanonOut (execHoldIdleTimeout t l s) := by
  unfold execHoldIdleTimeout
  exact CanonOut.core (fun _ h0 => (.when (fun _ h1 => (State.train_canon h1)) h0)) h

theorem execMarkerSlot_canon {t k} {s : State} (h : s.Canonical) : CanonOut (execMarkerSlot t k s) := by
  unfold execMarkerSlot
  exact CanonOut.core (fun _ h0 => (State.markSkein_canon h0)) h

theorem execPrbsLock_canon {t l rx} {s : State} (h : s.Canonical) : CanonOut (execPrbsLock t l rx s) := by
  unfold execPrbsLock
  exact CanonOut.core (fun _ h0 => (State.testLock_canon h0)) h

theorem execRetrainWaitExpiry_canon {t l} {s : State} (h : s.Canonical) :
    CanonOut (execRetrainWaitExpiry t l s) := by
  unfold execRetrainWaitExpiry
  exact CanonOut.core (fun _ h0 => (State.retrainWait_canon h0)) h

theorem execRetry_canon {t req l v} {s : State} (h : s.Canonical) : CanonOut (execRetry t req l v s) := by
  unfold execRetry
  exact CanonOut.core (fun _ h0 => (.access (fun _ h1 => (State.writeRetry_canon h1)) h0)) h

theorem execReturnLaneLockLoss_canon {t b hdrs dark} {s : State} (h : s.Canonical) :
    CanonOut (execReturnLaneLockLoss t b hdrs dark s) := by
  unfold execReturnLaneLockLoss
  exact CanonOut.core (fun _ h0 => (.when (fun _ h1 => (State.report_canon (.only State.setRet_only rfl h1))) h0)) h

theorem execSkLoopWrite_canon {t req l v} {s : State} (h : s.Canonical) :
    CanonOut (execSkLoopWrite t req l v s) := by
  unfold execSkLoopWrite
  exact CanonOut.core (fun _ h0 => (.access (fun _ h1 => (State.writeLoop_canon h1)) h0)) h

theorem execSynthesiserRelock_canon {t syn} {s : State} (h : s.Canonical) :
    CanonOut (execSynthesiserRelock t syn s) := by
  unfold execSynthesiserRelock
  exact CanonOut.core (fun _ h0 => (State.synLock_canon h0)) h

theorem execTrainingBurstEnd_canon {t l} {s : State} (h : s.Canonical) : CanonOut (execTrainingBurstEnd t l s) := by
  unfold execTrainingBurstEnd
  exact CanonOut.core (fun _ h0 => (State.burstEnd_canon h0)) h

theorem State.genlockEdge_canon {t} {s : State} (h : s.Canonical) : (State.genlockEdge t s).Canonical := by
  unfold State.genlockEdge
  exact State.report_canon (.only Only.set_tb rfl h)

theorem State.genlockChange_canon {t rise held} {s : State} (h : s.Canonical) :
    (State.genlockChange t rise held s).Canonical := by
  unfold State.genlockChange
  exact .when (fun _ h0 => (State.genlockEdge_canon h0)) h

theorem State.edgesFirst_canon {s : State} (h : s.Canonical) : (State.edgesFirst s).Canonical := by
  unfold State.edgesFirst
  exact (.takeFirst (fun _ => (by
      split
      · exact (.some (fun _ h0 => (State.genlockChange_canon h0)))
      · exact .none)) h)

theorem State.genlockMissing_canon {s : State} (h : s.Canonical) : (State.genlockMissing s).Canonical := by
  unfold State.genlockMissing
  exact (by
    split
    · exact h
    · exact (.ite h (State.report_canon (.only Only.set_tb rfl h))))

theorem State.holdoverExpiry_canon {s : State} (h : s.Canonical) : (State.holdoverExpiry s).Canonical := by
  unfold State.holdoverExpiry
  exact State.report_canon (.only Only.set_tb rfl h)

theorem execGenlockEdge_canon {t rise held} {s : State} (h : s.Canonical) :
    CanonOut (execGenlockEdge t rise held s) := by
  unfold execGenlockEdge
  exact CanonOut.core (fun _ h0 => (.once (fun _ h1 => (State.genlockChange_canon h1)) h0)) h

theorem execGenlockMissing_canon {t} {s : State} (h : s.Canonical) : CanonOut (execGenlockMissing t s) := by
  unfold execGenlockMissing
  exact CanonOut.core (fun _ h0 => (.when (fun _ h1 => (State.genlockMissing_canon
      (State.edgesFirst_canon h1))) h0)) h

theorem execHoldoverExpiry_canon {t} {s : State} (h : s.Canonical) : CanonOut (execHoldoverExpiry t s) := by
  unfold execHoldoverExpiry
  exact CanonOut.core (fun _ h0 => (.when (fun _ h1 => (State.holdoverExpiry_canon h1))
      (State.edgesFirst_canon h0))) h

end Sys2Proof.Machine
end

