-- ==== Sys2Proof/Laws/OnlyGlade.lean ====
section
/-! SUPPORT. Which parts the functions of the log, the fault collector and Glade change: one lemma for each. -/

namespace Sys2Proof.Machine

open Sys2Proof

theorem State.logBy_only {fw code src data} {s : State} :
    Only [.now, .regs, .live, .flt, .log, .out] s (State.logBy fw code src data s) := by
  unfold State.logBy
  exact .ite (.app State.report_only rfl (.app Only.set_log rfl .refl)) .refl

theorem State.logHw_only {code src data} {s : State} :
    Only [.now, .regs, .live, .flt, .log, .out] s (State.logHw code src data s) := by
  unfold State.logHw
  exact .app State.logBy_only rfl .refl

theorem State.collectorParity_only {s : State} :
    Only [.now, .regs, .live, .flt, .out] s (State.collectorParity s) := by
  unfold State.collectorParity
  exact .ite .refl (.app State.report_only rfl (.app State.useInj_only rfl .refl))

theorem State.injError_only {s : State} : Only [.now, .flt] s (State.injError s) := by
  unfold State.injError
  exact .app State.hit_only rfl (.app Only.set_flt rfl .refl)

theorem State.writeForce_only {req page v} {s : State} : Only [.now, .flt] s (State.writeForce req page v s) := by
  unfold State.writeForce
  exact .ite (.app Only.set_flt rfl .refl) (.app State.injError_only rfl .refl)

theorem State.forcePage_only {req page v} {s : State} :
    Only [.now, .regs, .live, .flt, .out] s (State.forcePage req page v s) := by
  unfold State.forcePage
  exact Only.when (fun _ h0 => (Only.access rfl (fun _ h1 => (.app State.writeForce_only rfl h1)) h0)) .refl

theorem State.writeChkinv_only {req v} {s : State} : Only [.now, .flt] s (State.writeChkinv req v s) := by
  unfold State.writeChkinv
  exact (by
    split
    · exact (.ite (.app Only.set_flt rfl .refl) (.app State.injError_only rfl .refl))
    · exact (.app State.injError_only rfl .refl))

theorem State.forcesFirst_only {s : State} : Only [.now, .regs, .live, .flt, .out] s (State.forcesFirst s) := by
  unfold State.forcesFirst
  exact (Only.takeFirst rfl (fun _ => (by
      split
      · exact (.some (fun _ h0 => (.app State.forcePage_only rfl h0)))
      · exact (.some (fun _ h0 => (Only.access rfl (fun _ h1 => (.app State.writeChkinv_only rfl h1)) h0)))
      · exact .none)) .refl)

theorem State.lockInj_only {s : State} : Only [.now, .regs, .live, .flt, .out] s (State.lockInj s) := by
  unfold State.lockInj
  exact .ite (.app State.report_only rfl (.app Only.set_flt rfl .refl)) .refl

theorem State.lockOnC4_only {s : State} : Only [.now, .regs, .live, .flt, .glade, .out] s (State.lockOnC4 s) := by
  unfold State.lockOnC4
  exact .app State.lockInj_only rfl (.app Only.set_glade rfl (.app State.forcesFirst_only rfl .refl))

theorem State.episode_only {l} {s : State} :
    Only [.now, .regs, .live, .flt, .glade, .log, .out] s (State.episode l s) := by
  unfold State.episode
  exact .ite .refl (.ite (Only.when (fun _ h0 => (.app State.lockOnC4_only rfl h0)) (.app State.logHw_only rfl
      (.app State.report_only rfl (.app Only.set_flt rfl .refl)))) (.ite (Only.when (fun _ h0 =>
      (.app State.lockOnC4_only rfl h0)) (.app State.logHw_only rfl (.app State.report_only rfl
      (.app Only.set_flt rfl .refl)))) (.app Only.set_flt rfl .refl)))

theorem State.arrive_only {srcs} {s : State} :
    Only [.now, .regs, .live, .flt, .glade, .log, .out] s (State.arrive srcs s) := by
  unfold State.arrive
  exact .ite .refl (.app State.collectorParity_only rfl (.app State.episode_only rfl (.app State.report_only rfl
      (.app Only.set_flt rfl .refl))))

theorem State.arrivalsFirst_only {s : State} :
    Only [.now, .regs, .live, .flt, .glade, .log, .out] s (State.arrivalsFirst s) := by
  unfold State.arrivalsFirst
  exact (Only.takeFirst rfl (fun _ => (by
      split
      · exact (.some (fun _ h0 => (.app State.arrive_only rfl h0)))
      · exact .none)) .refl)

theorem State.firstKey_only {k} {s : State} : Only [.flt] s (State.firstKey k s) := by
  unfold State.firstKey
  exact .app Only.set_flt rfl .refl

theorem State.unlockInj_only {by_} {s : State} :
    Only [.now, .regs, .live, .flt, .out] s (State.unlockInj by_ s) := by
  unfold State.unlockInj
  exact .app State.report_only rfl (.app Only.set_flt rfl .refl)

theorem State.writeKey_only {by_ key} {s : State} :
    Only [.now, .regs, .live, .flt, .out] s (State.writeKey by_ key s) := by
  unfold State.writeKey
  exact .ite (.app State.firstKey_only rfl .refl) (.ite (.ite (.app State.firstKey_only rfl .refl)
      (.app State.unlockInj_only rfl .refl)) (.app State.injError_only rfl (.app State.firstKey_only rfl .refl)))

theorem State.writeInjKey_only {req v} {s : State} :
    Only [.now, .regs, .live, .flt, .out] s (State.writeInjKey req v s) := by
  unfold State.writeInjKey
  exact (by
    split
    · exact (.app State.writeKey_only rfl .refl)
    · exact .refl)

theorem State.writeInjLock_only {req} {s : State} :
    Only [.now, .regs, .live, .flt, .out] s (State.writeInjLock req s) := by
  unfold State.writeInjLock
  exact (by
    split
    · exact (.app State.lockInj_only rfl (.app State.firstKey_only rfl .refl))
    · exact .refl)

theorem State.writeInj_only {req v} {s : State} :
    Only [.now, .regs, .live, .flt, .out] s (State.writeInj req v s) := by
  unfold State.writeInj
  exact .ite (.app State.writeInjLock_only rfl .refl) (.app State.writeInjKey_only rfl .refl)

theorem State.writeSrccls_only {v} {s : State} : Only [.now, .flt] s (State.writeSrccls v s) := by
  unfold State.writeSrccls
  exact .app Only.set_flt rfl (.app State.keepAs_only rfl .refl)

theorem State.closeEpisode_only {s : State} :
    Only [.now, .regs, .live, .flt, .log, .out] s (State.closeEpisode s) := by
  unfold State.closeEpisode
  exact .app State.logHw_only rfl (.app State.report_only rfl (.app Only.set_flt rfl .refl))

theorem execEpisodeClose_only {t} {s : State} :
    OnlyOut [.now, .regs, .live, .flt, .glade, .log, .out] s (execEpisodeClose t s) := by
  unfold execEpisodeClose
  exact OnlyOut.core rfl (fun _ h0 => (Only.when (fun _ h1 => (.app State.closeEpisode_only rfl h1))
      (.app State.arrivalsFirst_only rfl h0)))

theorem execFaultArrival_only {t srcs} {s : State} :
    OnlyOut [.now, .regs, .live, .flt, .glade, .log, .out] s (execFaultArrival t srcs s) := by
  unfold execFaultArrival
  exact OnlyOut.core rfl (fun _ h0 => (Only.once rfl (fun _ h1 => (.app State.arrive_only rfl h1)) h0))

theorem execFcChkinv_only {t req v} {s : State} :
    OnlyOut [.now, .regs, .live, .flt, .out] s (execFcChkinv t req v s) := by
  unfold execFcChkinv
  exact OnlyOut.core rfl (fun _ h0 => (Only.once rfl (fun _ h1 => (Only.access rfl (fun _ h2 =>
      (.app State.writeChkinv_only rfl h2)) h1)) h0))

theorem execFcSrccls_only {t req v} {s : State} :
    OnlyOut [.now, .regs, .live, .flt, .out] s (execFcSrccls t req v s) := by
  unfold execFcSrccls
  exact OnlyOut.core rfl (fun _ h0 => (Only.access rfl (fun _ h1 => (.app State.writeSrccls_only rfl h1)) h0))

theorem execInjectionKey_only {t req v} {s : State} :
    OnlyOut [.now, .regs, .live, .flt, .out] s (execInjectionKey t req v s) := by
  unfold execInjectionKey
  exact OnlyOut.core rfl (fun _ h0 => (Only.access rfl (fun _ h1 => (.app State.writeInjKey_only rfl h1)) h0))

theorem execInjectionLock_only {t req v} {s : State} :
    OnlyOut [.now, .regs, .live, .flt, .out] s (execInjectionLock t req v s) := by
  unfold execInjectionLock
  exact OnlyOut.core rfl (fun _ h0 => (Only.access rfl (fun _ h1 => (.app State.writeInj_only rfl h1)) h0))

theorem execInjectionTimeout_only {t glade} {s : State} :
    OnlyOut [.now, .regs, .live, .flt, .glade, .out] s (execInjectionTimeout t glade s) := by
  unfold execInjectionTimeout
  exact .ite (OnlyOut.glade rfl (fun _ h0 => (.app Only.set_glade rfl h0))) (OnlyOut.core rfl (fun _ h0 =>
      (Only.when (fun _ h1 => (.app State.lockInj_only rfl (.app State.forcesFirst_only rfl h1))) h0)))

theorem execPgFltForce_only {t req page v} {s : State} :
    OnlyOut [.now, .regs, .live, .flt, .out] s (execPgFltForce t req page v s) := by
  unfold execPgFltForce
  exact OnlyOut.core rfl (fun _ h0 => (Only.once rfl (fun _ h1 => (.app State.forcePage_only rfl h1)) h0))

theorem State.resetForester_only {c held} {s : State} :
    Only [.now, .regs, .live, .flt, .glade, .fst, .log, .sec, .out] s (State.resetForester c held s) := by
  unfold State.resetForester
  exact .app State.logHw_only rfl (.app Only.set_regs_glade_fst_sec rfl .refl)

theorem State.gladeCond_only {j on} {s : State} : Only [.glade] s (State.gladeCond j on s) := by
  unfold State.gladeCond
  exact .app Only.set_glade rfl .refl

theorem State.gladeReport_only {old new} {s : State} :
    Only [.now, .regs, .live, .flt, .log, .out] s (State.gladeReport old new s) := by
  unfold State.gladeReport
  exact .ite (.app State.report_only rfl .refl) (.app State.logHw_only rfl (.app State.report_only rfl .refl))

theorem State.gladeSample_only {s : State} :
    Only [.now, .regs, .live, .flt, .glade, .log, .out] s (State.gladeSample s) := by
  unfold State.gladeSample
  exact .app State.gladeReport_only rfl (.app Only.set_glade rfl .refl)

theorem State.gladeSettle_only {s : State} :
    Only [.now, .regs, .live, .flt, .glade, .log, .out] s (State.gladeSettle s) := by
  unfold State.gladeSettle
  exact .ite (.app State.gladeSample_only rfl (.app State.gladeSample_only rfl (.app State.gladeSample_only rfl
      (.app State.gladeSample_only rfl .refl)))) .refl

/-- A command to Glade with the samples it leads to. -/
theorem OnlyOut.settled {l : List Part} {s : State} {t : Nat} {f : State → State}
    (hm : [Part.now, .regs, .live, .flt, .glade, .log, .out].all (fun p => l.contains p) = true)
    (hf : ∀ v, Only l s v → Only l s (f v)) : OnlyOut l s (onGladeSettled t s f) := by
  unfold onGladeSettled
  have hn := hm
  rw [List.all_cons, Bool.and_eq_true] at hn
  exact OnlyOut.glade (by simpa using hn.1) (fun _ h => .app State.gladeSettle_only hm (hf _ h))

/-- A command that a frame of the safety serial port carries. -/
theorem OnlyOut.sspi {l : List Part} {s : State} {t : Nat} {cmd : Byte} {f : SspiReq → State → State}
    (hm : [Part.now, .regs, .live, .flt, .glade, .log, .out].all (fun p => l.contains p) = true)
    (hf : ∀ r v, Only l s v → Only l s (f r v)) : OnlyOut l s (onSspi t cmd s f) := by
  unfold onSspi
  refine OnlyOut.settled hm (fun v h => ?_)
  split
  · exact hf _ v h
  · exact h

theorem State.fwdogExpire_only {s : State} :
    Only [.now, .regs, .live, .flt, .glade, .fst, .log, .sec, .out] s (State.fwdogExpire s) := by
  unfold State.fwdogExpire
  exact .app State.resetForester_only rfl (.app State.gladeSettle_only rfl (.app State.gladeCond_only rfl .refl))

theorem State.fwdogService_only {s : State} :
    Only [.now, .regs, .live, .flt, .glade, .fst, .log, .sec, .out] s (State.fwdogService s) := by
  unfold State.fwdogService
  exact .ite (.app State.fwdogExpire_only rfl .refl) (.app State.gladeSettle_only rfl (.app State.gladeCond_only rfl
      (.app Only.set_glade rfl .refl)))

theorem State.wdKey_only {on} {s : State} : Only [.fst] s (State.wdKey on s) := by
  unfold State.wdKey
  exact .app Only.set_fst rfl .refl

theorem State.writeWdog_only {v} {s : State} :
    Only [.now, .regs, .live, .flt, .glade, .fst, .log, .sec, .out] s (State.writeWdog v s) := by
  unfold State.writeWdog
  exact .ite (.app State.wdKey_only rfl .refl) (.ite (.app State.wdKey_only rfl .refl) (.ite
      (.app State.fwdogService_only rfl (.app State.wdKey_only rfl .refl)) (.app State.fwdogExpire_only rfl
      (.app State.wdKey_only rfl .refl))))

theorem State.faultLine_only {l} {s : State} : Only [.now, .glade] s (State.faultLine l s) := by
  unfold State.faultLine
  exact Only.when (fun _ h0 => (.app State.hit_only rfl h0)) (.app Only.set_glade rfl .refl)

theorem State.pressed_only {s : State} :
    Only [.now, .regs, .live, .flt, .glade, .log, .out] s (State.pressed s) := by
  unfold State.pressed
  exact .ite (Only.when (fun _ h0 => (.app State.closeEpisode_only rfl h0)) (.app State.gladeReport_only rfl
      (.app Only.set_glade rfl .refl))) (.ite (.app Only.set_glade rfl .refl) .refl)

theorem State.gladeCycle_only {pins} {s : State} :
    Only [.now, .regs, .live, .flt, .glade, .log, .out] s (State.gladeCycle pins s) := by
  unfold State.gladeCycle
  exact Only.when (fun _ h0 => (.app State.pressed_only rfl h0)) (.app Only.set_glade rfl .refl)

theorem State.gladeForce_only {v} {s : State} : Only [.flt, .glade] s (State.gladeForce v s) := by
  unfold State.gladeForce
  exact .app Only.set_flt_glade rfl .refl

theorem State.seeLines_only {l} {s : State} : Only [.now, .glade] s (State.seeLines l s) := by
  unfold State.seeLines
  exact Only.when (fun _ h0 => (.app State.hit_only rfl h0)) (.app Only.set_glade rfl .refl)

theorem State.sspiAnswer_only {result data r} {s : State} : Only [.glade] s (State.sspiAnswer result data r s) := by
  unfold State.sspiAnswer
  exact .app Only.set_glade rfl .refl

theorem State.sspiFrame_only {began bits b} {s : State} :
    Only [.now, .free, .regs, .live, .flt, .glade, .out] s (State.sspiFrame began bits b s) := by
  unfold State.sspiFrame
  exact .app State.spend_only rfl (.app State.report_only rfl (.app Only.set_glade rfl .refl))

theorem State.sspiRefuse_only {r} {s : State} : Only [.free, .glade] s (State.sspiRefuse r s) := by
  unfold State.sspiRefuse
  exact .app State.spend_only rfl (.app State.sspiAnswer_only rfl .refl)

theorem execClassLineChange_only {t lines} {s : State} :
    OnlyOut [.now, .regs, .live, .flt, .glade, .log, .out] s (execClassLineChange t lines s) := by
  unfold execClassLineChange
  exact OnlyOut.settled rfl (fun _ h0 => (.app State.seeLines_only rfl h0))

theorem execClassLineFault_only {t l} {s : State} :
    OnlyOut [.now, .regs, .live, .flt, .glade, .log, .out] s (execClassLineFault t l s) := by
  unfold execClassLineFault
  exact OnlyOut.settled rfl (fun _ h0 => (.app State.faultLine_only rfl h0))

theorem execClear_only {t} {s : State} :
    OnlyOut [.now, .free, .regs, .live, .flt, .glade, .log, .out] s (execClear t s) := by
  unfold execClear
  exact OnlyOut.sspi rfl (fun _ _ h0 => (.ite (.app State.sspiRefuse_only rfl h0) (.app State.sspiAnswer_only rfl
      (.app Only.set_glade rfl h0))))

theorem execErrHoldExpiry_only {t} {s : State} :
    OnlyOut [.now, .regs, .live, .flt, .glade, .log, .out] s (execErrHoldExpiry t s) := by
  unfold execErrHoldExpiry
  exact OnlyOut.settled rfl (fun _ h0 => (.app Only.set_glade rfl h0))

theorem execFallbackCrcCheck_only {t} {s : State} :
    OnlyOut [.now, .regs, .live, .flt, .glade, .log, .out] s (execFallbackCrcCheck t s) := by
  unfold execFallbackCrcCheck
  exact OnlyOut.settled rfl (fun _ h0 => (Only.when (fun _ h1 => (.app Only.set_glade rfl h1)) h0))

theorem execFirmwareWatchdogExpiry_only {t} {s : State} :
    OnlyOut [.now, .regs, .live, .flt, .glade, .fst, .log, .sec, .out] s (execFirmwareWatchdogExpiry t s) := by
  unfold execFirmwareWatchdogExpiry
  exact OnlyOut.glade rfl (fun _ h0 => (Only.when (fun _ h1 => (.app State.fwdogExpire_only rfl h1)) h0))

theorem execFpWdog_only {t v} {s : State} :
    OnlyOut [.now, .regs, .live, .flt, .glade, .fst, .log, .sec, .out] s (execFpWdog t v s) := by
  unfold execFpWdog
  exact OnlyOut.core rfl (fun _ h0 => (Only.when (fun _ h1 => (.app State.writeWdog_only rfl h1)) h0))

theorem execGladeCycle_only {t pins} {s : State} :
    OnlyOut [.now, .regs, .live, .flt, .glade, .log, .out] s (execGladeCycle t pins s) := by
  unfold execGladeCycle
  exact OnlyOut.settled rfl (fun _ h0 => (.app State.gladeCycle_only rfl h0))

theorem execGladePowerLoss_only {t} {s : State} : OnlyOut [.now, .glade] s (execGladePowerLoss t s) := by
  unfold execGladePowerLoss
  exact OnlyOut.glade rfl (fun _ h0 => (.app Only.set_glade rfl h0))

theorem execGladeSupplyFault_only {t bad} {s : State} :
    OnlyOut [.now, .regs, .live, .flt, .glade, .log, .out] s (execGladeSupplyFault t bad s) := by
  unfold execGladeSupplyFault
  exact OnlyOut.settled rfl (fun _ h0 => (.app State.gladeCond_only rfl h0))

theorem execHeartbeatTimeout_only {t} {s : State} :
    OnlyOut [.now, .regs, .live, .flt, .glade, .log, .out] s (execHeartbeatTimeout t s) := by
  unfold execHeartbeatTimeout
  exact OnlyOut.settled rfl (fun _ h0 => (Only.when (fun _ h1 => (.app State.gladeCond_only rfl h1)) h0))

theorem execHeartbeatToggle_only {t} {s : State} :
    OnlyOut [.now, .regs, .live, .flt, .glade, .log, .out] s (execHeartbeatToggle t s) := by
  unfold execHeartbeatToggle
  exact OnlyOut.core rfl (fun _ h0 => (.app State.gladeSettle_only rfl (.app State.gladeCond_only rfl
      (.app State.hit_only rfl (.app Only.set_flt rfl h0)))))

theorem execInjkey_only {t} {s : State} :
    OnlyOut [.now, .regs, .live, .flt, .glade, .log, .out] s (execInjkey t s) := by
  unfold execInjkey
  exact OnlyOut.sspi rfl (fun _ _ h0 => (.app State.sspiAnswer_only rfl (.app Only.set_glade rfl h0)))

theorem execLineMaskExpiry_only {t} {s : State} :
    OnlyOut [.now, .regs, .live, .flt, .glade, .log, .out] s (execLineMaskExpiry t s) := by
  unfold execLineMaskExpiry
  exact OnlyOut.settled rfl (fun _ h0 => (.app Only.set_glade rfl h0))

theorem execRcClockWindow_only {t count} {s : State} :
    OnlyOut [.now, .regs, .live, .clk, .flt, .glade, .log, .out] s (execRcClockWindow t count s) := by
  unfold execRcClockWindow
  exact OnlyOut.settled rfl (fun _ h0 => (.app Only.set_clk_glade rfl h0))

theorem execReadbackMismatch_only {t aen err} {s : State} :
    OnlyOut [.now, .regs, .live, .flt, .glade, .log, .out] s (execReadbackMismatch t aen err s) := by
  unfold execReadbackMismatch
  exact OnlyOut.settled rfl (fun _ h0 => (.app Only.set_glade rfl h0))

theorem execResume_only {t} {s : State} :
    OnlyOut [.now, .free, .regs, .live, .flt, .glade, .log, .out] s (execResume t s) := by
  unfold execResume
  exact OnlyOut.sspi rfl (fun _ _ h0 => (.ite (.app State.sspiRefuse_only rfl h0) (.app State.sspiAnswer_only rfl
      (.app Only.set_glade rfl h0))))

theorem execReturnDwellExpiry_only {t} {s : State} :
    OnlyOut [.now, .regs, .live, .flt, .glade, .log, .out] s (execReturnDwellExpiry t s) := by
  unfold execReturnDwellExpiry
  exact OnlyOut.settled rfl (fun _ h0 => (Only.when (fun _ h1 => (.app Only.set_glade rfl h1)) h0))

theorem execSspiFrame_only {t began bits bytes} {s : State} :
    OnlyOut [.now, .free, .regs, .live, .flt, .glade, .log, .out] s (execSspiFrame t began bits bytes s) := by
  unfold execSspiFrame
  exact OnlyOut.settled rfl (fun _ h0 => (.app State.sspiFrame_only rfl h0))

theorem execSspiRead_only {t} {s : State} :
    OnlyOut [.now, .free, .regs, .live, .flt, .glade, .log, .out] s (execSspiRead t s) := by
  unfold execSspiRead
  exact OnlyOut.sspi rfl (fun _ _ h0 => (.ite (.app State.sspiAnswer_only rfl h0)
      (.app State.sspiRefuse_only rfl h0)))

theorem execSspiStatus_only {t} {s : State} :
    OnlyOut [.now, .regs, .live, .flt, .glade, .log, .out] s (execSspiStatus t s) := by
  unfold execSspiStatus
  exact OnlyOut.sspi rfl (fun _ _ h0 => (.app State.sspiAnswer_only rfl h0))

theorem execSspiWatchdog_only {t} {s : State} :
    OnlyOut [.now, .regs, .live, .flt, .glade, .log, .out] s (execSspiWatchdog t s) := by
  unfold execSspiWatchdog
  exact OnlyOut.settled rfl (fun _ h0 => (Only.when (fun _ h1 => (.app Only.set_glade rfl h1)) h0))

theorem execSspiWrite_only {t} {s : State} :
    OnlyOut [.now, .free, .regs, .live, .flt, .glade, .log, .out] s (execSspiWrite t s) := by
  unfold execSspiWrite
  exact OnlyOut.sspi rfl (fun _ _ h0 => (.ite (.app State.sspiAnswer_only rfl (.app Only.set_glade rfl h0)) (.ite
      (.app State.sspiAnswer_only rfl (.app State.gladeForce_only rfl h0)) (.app State.sspiRefuse_only rfl h0))))

theorem execSysclkCheckWindow_only {t count} {s : State} :
    OnlyOut [.now, .regs, .live, .flt, .glade, .log, .out] s (execSysclkCheckWindow t count s) := by
  unfold execSysclkCheckWindow
  exact OnlyOut.settled rfl (fun _ h0 => (.app Only.set_glade rfl h0))

end Sys2Proof.Machine
end

