-- ==== Sys2Proof/Laws/CanonGlade.lean ====
section
/-! SUPPORT. The log, the fault collector and Glade keep the canonical forms: one lemma for each function. -/

namespace Sys2Proof.Machine

open Sys2Proof

/-- A sealed record keeps the ring canonical. -/
theorem Log.seal_ring {g : Log} {x : Sec} (h : smWf (fun _ => (List.replicate 8 0 : List Word)) g.ring = true) :
    smWf (fun _ => (List.replicate 8 0 : List Word)) (g.seal x).ring = true := by
  unfold Log.seal
  split
  · exact smWf_smSet h
  · exact h

/-- A record appended keeps the ring canonical. -/
theorem Log.append_ring {g : Log} {x : Sec} {r : List Word}
    (h : smWf (fun _ => (List.replicate 8 0 : List Word)) g.ring = true) :
    smWf (fun _ => (List.replicate 8 0 : List Word)) (g.append x r).ring = true := by
  unfold Log.append
  split
  · exact Log.seal_ring (smWf_smSet h)
  · dsimp only
    split
    · exact Log.seal_ring (smWf_smSet h)
    · exact smWf_smSet h

/-- Arrivals taken leave the counters and the classes. -/
theorem Faults.take_fst {f : Faults} {l : List (Fin 171)} :
    (f.take l).1.count = f.count ∧ (f.take l).1.clsUp = f.clsUp := by
  induction l generalizing f with
  | nil => exact ⟨rfl, rfl⟩
  | cons x r ih => exact ih

/-- Arrivals counted keep the counters canonical. -/
theorem Faults.count1_count {f : Faults} {l : List Arrival} (h : smWf (fun _ => (0 : Word)) f.count = true) :
    smWf (fun _ => (0 : Word)) (l.foldl Faults.count1 f).count = true :=
  foldl_keeps (P := fun f : Faults => smWf (fun _ => (0 : Word)) f.count = true) h (fun _ _ k => smWf_smSet k)

/-- Arrivals counted leave the classes. -/
theorem Faults.count1_cls {f : Faults} {l : List Arrival} : (l.foldl Faults.count1 f).clsUp = f.clsUp :=
  foldl_keeps (P := fun g : Faults => g.clsUp = f.clsUp) rfl (fun _ _ k => k)

/-- A class raised keeps the classes canonical. -/
theorem Faults.raiseCls_cls {f : Faults} {n v : Nat} (h : smWf baseClass f.clsUp = true) :
    smWf baseClass (f.raiseCls n v).clsUp = true := by
  unfold Faults.raiseCls
  split
  · exact smWf_smSet h
  · exact h

/-- A class raised leaves the counters. -/
theorem Faults.raiseCls_count {f : Faults} {n v : Nat} : (f.raiseCls n v).count = f.count := by
  unfold Faults.raiseCls
  split <;> rfl

/-- Leaving entries out keeps the canonical form. -/
theorem smWfFrom_filter {α : Type} [DecidableEq α] {d : Nat → α} {p : Nat × α → Bool} {m : List (Nat × α)} {lo : Nat}
    (h : smWfFrom d lo m = true) : smWfFrom d lo (m.filter p) = true := by
  induction m generalizing lo with
  | nil => rfl
  | cons x r ih =>
    simp only [smWfFrom, Bool.and_eq_true, decide_eq_true_eq] at h
    rw [List.filter_cons]
    split
    · simp only [smWfFrom, Bool.and_eq_true, decide_eq_true_eq]
      exact ⟨h.1, ih h.2⟩
    · exact ih (smWfFrom_mono (by omega) h.2)

/-- A Forester reset keeps the register file canonical. -/
theorem foresterRegs_wf {c : ForCause} {f : RegFile} (h : smWf regReset f = true) :
    smWf regReset (foresterRegs c f) = true := smWfFrom_filter h

/-- The state machine's transitions leave the fallback store. -/
theorem Glade.transit_fb {g : Glade} {r : Bool} : (g.transit r).fb = g.fb := by
  unfold Glade.transit
  repeat' split
  all_goals rfl

/-- A sample leaves the fallback store. -/
theorem Glade.sample_fb {g : Glade} {now : Nat} {r0 r1 : Bool} : (g.sample now r0 r1).fb = g.fb := by
  unfold Glade.sample
  exact Glade.transit_fb

/-- A failed check leaves the fallback store. -/
theorem Glade.fbFail_fb {g : Glade} : g.fbFail.fb = g.fb := by
  unfold Glade.fbFail
  split <;> rfl

theorem State.logBy_canon {fw code src data} {s : State} (h : s.Canonical) :
    (State.logBy fw code src data s).Canonical := by
  unfold State.logBy
  exact .ite (State.report_canon (.set_log Log.append_ring h)) h

theorem State.logHw_canon {code src data} {s : State} (h : s.Canonical) :
    (State.logHw code src data s).Canonical := by
  unfold State.logHw
  exact State.logBy_canon h

theorem State.collectorParity_canon {s : State} (h : s.Canonical) : (State.collectorParity s).Canonical := by
  unfold State.collectorParity
  exact .ite h (State.report_canon (State.useInj_canon h))

theorem State.injError_canon {s : State} (h : s.Canonical) : (State.injError s).Canonical := by
  unfold State.injError
  exact .only State.hit_only rfl (.set_flt id id h)

theorem State.writeForce_canon {req page v} {s : State} (h : s.Canonical) :
    (State.writeForce req page v s).Canonical := by
  unfold State.writeForce
  exact .ite (.set_flt id id h) (State.injError_canon h)

theorem State.forcePage_canon {req page v} {s : State} (h : s.Canonical) :
    (State.forcePage req page v s).Canonical := by
  unfold State.forcePage
  exact .when (fun _ h0 => (.access (fun _ h1 => (State.writeForce_canon h1)) h0)) h

theorem State.writeChkinv_canon {req v} {s : State} (h : s.Canonical) : (State.writeChkinv req v s).Canonical := by
  unfold State.writeChkinv
  exact (by
    split
    · exact (.ite (.set_flt id id h) (State.injError_canon h))
    · exact (State.injError_canon h))

theorem State.forcesFirst_canon {s : State} (h : s.Canonical) : (State.forcesFirst s).Canonical := by
  unfold State.forcesFirst
  exact (.takeFirst (fun _ => (by
      split
      · exact (.some (fun _ h0 => (State.forcePage_canon h0)))
      · exact (.some (fun _ h0 => (.access (fun _ h1 => (State.writeChkinv_canon h1)) h0)))
      · exact .none)) h)

theorem State.lockInj_canon {s : State} (h : s.Canonical) : (State.lockInj s).Canonical := by
  unfold State.lockInj
  exact .ite (State.report_canon (.set_flt id id h)) h

theorem State.lockOnC4_canon {s : State} (h : s.Canonical) : (State.lockOnC4 s).Canonical := by
  unfold State.lockOnC4
  exact State.lockInj_canon (.set_glade id (State.forcesFirst_canon h))

theorem State.episode_canon {l} {s : State} (h : s.Canonical) : (State.episode l s).Canonical := by
  unfold State.episode
  exact .ite h (.ite (.when (fun _ h0 => (State.lockOnC4_canon h0)) (State.logHw_canon (State.report_canon
      (.set_flt id id h)))) (.ite (.when (fun _ h0 => (State.lockOnC4_canon h0)) (State.logHw_canon
      (State.report_canon (.set_flt id id h)))) (.set_flt id id h)))

theorem State.arrive_canon {srcs} {s : State} (h : s.Canonical) : (State.arrive srcs s).Canonical := by
  unfold State.arrive
  exact .ite h (State.collectorParity_canon (State.episode_canon (State.report_canon (.set_flt
      (fun k => Faults.count1_count (by rw [Faults.take_fst.1]; exact k))
      (fun k => by rw [Faults.count1_cls, Faults.take_fst.2]; exact k) h))))

theorem State.arrivalsFirst_canon {s : State} (h : s.Canonical) : (State.arrivalsFirst s).Canonical := by
  unfold State.arrivalsFirst
  exact (.takeFirst (fun _ => (by
      split
      · exact (.some (fun _ h0 => (State.arrive_canon h0)))
      · exact .none)) h)

theorem State.firstKey_canon {k} {s : State} (h : s.Canonical) : (State.firstKey k s).Canonical := by
  unfold State.firstKey
  exact .set_flt id id h

theorem State.unlockInj_canon {by_} {s : State} (h : s.Canonical) : (State.unlockInj by_ s).Canonical := by
  unfold State.unlockInj
  exact State.report_canon (.set_flt id id h)

theorem State.writeKey_canon {by_ key} {s : State} (h : s.Canonical) : (State.writeKey by_ key s).Canonical := by
  unfold State.writeKey
  exact .ite (State.firstKey_canon h) (.ite (.ite (State.firstKey_canon h) (State.unlockInj_canon h))
      (State.injError_canon (State.firstKey_canon h)))

theorem State.writeInjKey_canon {req v} {s : State} (h : s.Canonical) : (State.writeInjKey req v s).Canonical := by
  unfold State.writeInjKey
  exact (by
    split
    · exact (State.writeKey_canon h)
    · exact h)

theorem State.writeInjLock_canon {req} {s : State} (h : s.Canonical) : (State.writeInjLock req s).Canonical := by
  unfold State.writeInjLock
  exact (by
    split
    · exact (State.lockInj_canon (State.firstKey_canon h))
    · exact h)

theorem State.writeInj_canon {req v} {s : State} (h : s.Canonical) : (State.writeInj req v s).Canonical := by
  unfold State.writeInj
  exact .ite (State.writeInjLock_canon h) (State.writeInjKey_canon h)

theorem State.writeSrccls_canon {v} {s : State} (h : s.Canonical) : (State.writeSrccls v s).Canonical := by
  unfold State.writeSrccls
  exact .set_flt (fun k => by rw [Faults.raiseCls_count]; exact k) Faults.raiseCls_cls (.only State.keepAs_only rfl h)

theorem State.closeEpisode_canon {s : State} (h : s.Canonical) : (State.closeEpisode s).Canonical := by
  unfold State.closeEpisode
  exact State.logHw_canon (State.report_canon (.set_flt id id h))

theorem execEpisodeClose_canon {t} {s : State} (h : s.Canonical) : CanonOut (execEpisodeClose t s) := by
  unfold execEpisodeClose
  exact CanonOut.core (fun _ h0 => (.when (fun _ h1 => (State.closeEpisode_canon h1))
      (State.arrivalsFirst_canon h0))) h

theorem execFaultArrival_canon {t srcs} {s : State} (h : s.Canonical) : CanonOut (execFaultArrival t srcs s) := by
  unfold execFaultArrival
  exact CanonOut.core (fun _ h0 => (.once (fun _ h1 => (State.arrive_canon h1)) h0)) h

theorem execFcChkinv_canon {t req v} {s : State} (h : s.Canonical) : CanonOut (execFcChkinv t req v s) := by
  unfold execFcChkinv
  exact CanonOut.core (fun _ h0 => (.once (fun _ h1 => (.access (fun _ h2 => (State.writeChkinv_canon h2)) h1)) h0)) h

theorem execFcSrccls_canon {t req v} {s : State} (h : s.Canonical) : CanonOut (execFcSrccls t req v s) := by
  unfold execFcSrccls
  exact CanonOut.core (fun _ h0 => (.access (fun _ h1 => (State.writeSrccls_canon h1)) h0)) h

theorem execInjectionKey_canon {t req v} {s : State} (h : s.Canonical) : CanonOut (execInjectionKey t req v s) := by
  unfold execInjectionKey
  exact CanonOut.core (fun _ h0 => (.access (fun _ h1 => (State.writeInjKey_canon h1)) h0)) h

theorem execInjectionLock_canon {t req v} {s : State} (h : s.Canonical) :
    CanonOut (execInjectionLock t req v s) := by
  unfold execInjectionLock
  exact CanonOut.core (fun _ h0 => (.access (fun _ h1 => (State.writeInj_canon h1)) h0)) h

theorem execInjectionTimeout_canon {t glade} {s : State} (h : s.Canonical) :
    CanonOut (execInjectionTimeout t glade s) := by
  unfold execInjectionTimeout
  exact .ite (CanonOut.glade (fun _ h0 => (.set_glade id h0)) h) (CanonOut.core (fun _ h0 => (.when (fun _ h1 =>
      (State.lockInj_canon (State.forcesFirst_canon h1))) h0)) h)

theorem execPgFltForce_canon {t req page v} {s : State} (h : s.Canonical) :
    CanonOut (execPgFltForce t req page v s) := by
  unfold execPgFltForce
  exact CanonOut.core (fun _ h0 => (.once (fun _ h1 => (State.forcePage_canon h1)) h0)) h

theorem State.resetForester_canon {c held} {s : State} (h : s.Canonical) :
    (State.resetForester c held s).Canonical := by
  unfold State.resetForester
  exact State.logHw_canon (.set_regs_glade_fst_sec foresterRegs_wf id id id h)

theorem State.gladeCond_canon {j on} {s : State} (h : s.Canonical) : (State.gladeCond j on s).Canonical := by
  unfold State.gladeCond
  exact .set_glade id h

theorem State.gladeReport_canon {old new} {s : State} (h : s.Canonical) :
    (State.gladeReport old new s).Canonical := by
  unfold State.gladeReport
  exact .ite (State.report_canon h) (State.logHw_canon (State.report_canon h))

theorem State.gladeSample_canon {s : State} (h : s.Canonical) : (State.gladeSample s).Canonical := by
  unfold State.gladeSample
  exact State.gladeReport_canon (.set_glade (fun k => by rw [Glade.sample_fb]; exact k) h)

theorem State.gladeSettle_canon {s : State} (h : s.Canonical) : (State.gladeSettle s).Canonical := by
  unfold State.gladeSettle
  exact .ite (State.gladeSample_canon (State.gladeSample_canon (State.gladeSample_canon
      (State.gladeSample_canon h)))) h

/-- A command to Glade with the samples it leads to. -/
theorem CanonOut.settled {s : State} {t : Nat} {f : State → State} (hf : ∀ v, State.Canonical v → (f v).Canonical)
    (h : s.Canonical) : CanonOut (onGladeSettled t s f) := by
  unfold onGladeSettled
  exact CanonOut.glade (fun _ k => State.gladeSettle_canon (hf _ k)) h

/-- A command that a frame of the safety serial port carries. -/
theorem CanonOut.sspi {s : State} {t : Nat} {cmd : Byte} {f : SspiReq → State → State}
    (hf : ∀ r v, State.Canonical v → (f r v).Canonical) (h : s.Canonical) : CanonOut (onSspi t cmd s f) := by
  unfold onSspi
  refine CanonOut.settled (fun v k => ?_) h
  split
  · exact hf _ v k
  · exact k

theorem State.fwdogExpire_canon {s : State} (h : s.Canonical) : (State.fwdogExpire s).Canonical := by
  unfold State.fwdogExpire
  exact State.resetForester_canon (State.gladeSettle_canon (State.gladeCond_canon h))

theorem State.fwdogService_canon {s : State} (h : s.Canonical) : (State.fwdogService s).Canonical := by
  unfold State.fwdogService
  exact .ite (State.fwdogExpire_canon h) (State.gladeSettle_canon (State.gladeCond_canon (.set_glade id h)))

theorem State.wdKey_canon {on} {s : State} (h : s.Canonical) : (State.wdKey on s).Canonical := by
  unfold State.wdKey
  exact .set_fst id h

theorem State.writeWdog_canon {v} {s : State} (h : s.Canonical) : (State.writeWdog v s).Canonical := by
  unfold State.writeWdog
  exact .ite (State.wdKey_canon h) (.ite (State.wdKey_canon h) (.ite (State.fwdogService_canon
      (State.wdKey_canon h)) (State.fwdogExpire_canon (State.wdKey_canon h))))

theorem State.faultLine_canon {l} {s : State} (h : s.Canonical) : (State.faultLine l s).Canonical := by
  unfold State.faultLine
  exact .when (fun _ h0 => (.only State.hit_only rfl h0)) (.set_glade id h)

theorem State.pressed_canon {s : State} (h : s.Canonical) : (State.pressed s).Canonical := by
  unfold State.pressed
  exact .ite (.when (fun _ h0 => (State.closeEpisode_canon h0)) (State.gladeReport_canon (.set_glade id h))) (.ite
      (.set_glade id h) h)

theorem State.gladeCycle_canon {pins} {s : State} (h : s.Canonical) : (State.gladeCycle pins s).Canonical := by
  unfold State.gladeCycle
  exact .when (fun _ h0 => (State.pressed_canon h0)) (.set_glade id h)

theorem State.gladeForce_canon {v} {s : State} (h : s.Canonical) : (State.gladeForce v s).Canonical := by
  unfold State.gladeForce
  exact .set_flt_glade id id id h

theorem State.seeLines_canon {l} {s : State} (h : s.Canonical) : (State.seeLines l s).Canonical := by
  unfold State.seeLines
  exact .when (fun _ h0 => (.only State.hit_only rfl h0)) (.set_glade id h)

theorem State.sspiAnswer_canon {result data r} {s : State} (h : s.Canonical) :
    (State.sspiAnswer result data r s).Canonical := by
  unfold State.sspiAnswer
  exact .set_glade id h

theorem State.sspiFrame_canon {began bits b} {s : State} (h : s.Canonical) :
    (State.sspiFrame began bits b s).Canonical := by
  unfold State.sspiFrame
  exact .only State.spend_only rfl (State.report_canon (.set_glade id h))

theorem State.sspiRefuse_canon {r} {s : State} (h : s.Canonical) : (State.sspiRefuse r s).Canonical := by
  unfold State.sspiRefuse
  exact .only State.spend_only rfl (State.sspiAnswer_canon h)

theorem execClassLineChange_canon {t lines} {s : State} (h : s.Canonical) :
    CanonOut (execClassLineChange t lines s) := by
  unfold execClassLineChange
  exact CanonOut.settled (fun _ h0 => (State.seeLines_canon h0)) h

theorem execClassLineFault_canon {t l} {s : State} (h : s.Canonical) : CanonOut (execClassLineFault t l s) := by
  unfold execClassLineFault
  exact CanonOut.settled (fun _ h0 => (State.faultLine_canon h0)) h

theorem execClear_canon {t} {s : State} (h : s.Canonical) : CanonOut (execClear t s) := by
  unfold execClear
  exact CanonOut.sspi (fun _ _ h0 => (.ite (State.sspiRefuse_canon h0) (State.sspiAnswer_canon (.set_glade id h0)))) h

theorem execErrHoldExpiry_canon {t} {s : State} (h : s.Canonical) : CanonOut (execErrHoldExpiry t s) := by
  unfold execErrHoldExpiry
  exact CanonOut.settled (fun _ h0 => (.set_glade id h0)) h

theorem execFallbackCrcCheck_canon {t} {s : State} (h : s.Canonical) : CanonOut (execFallbackCrcCheck t s) := by
  unfold execFallbackCrcCheck
  exact CanonOut.settled (fun _ h0 => (.when (fun _ h1 => (.set_glade
      (fun k => by rw [Glade.fbFail_fb]; exact k) h1)) h0)) h

theorem execFirmwareWatchdogExpiry_canon {t} {s : State} (h : s.Canonical) :
    CanonOut (execFirmwareWatchdogExpiry t s) := by
  unfold execFirmwareWatchdogExpiry
  exact CanonOut.glade (fun _ h0 => (.when (fun _ h1 => (State.fwdogExpire_canon h1)) h0)) h

theorem execFpWdog_canon {t v} {s : State} (h : s.Canonical) : CanonOut (execFpWdog t v s) := by
  unfold execFpWdog
  exact CanonOut.core (fun _ h0 => (.when (fun _ h1 => (State.writeWdog_canon h1)) h0)) h

theorem execGladeCycle_canon {t pins} {s : State} (h : s.Canonical) : CanonOut (execGladeCycle t pins s) := by
  unfold execGladeCycle
  exact CanonOut.settled (fun _ h0 => (State.gladeCycle_canon h0)) h

theorem execGladePowerLoss_canon {t} {s : State} (h : s.Canonical) : CanonOut (execGladePowerLoss t s) := by
  unfold execGladePowerLoss
  exact CanonOut.glade (fun _ h0 => (.set_glade (fun _ => rfl) h0)) h

theorem execGladeSupplyFault_canon {t bad} {s : State} (h : s.Canonical) :
    CanonOut (execGladeSupplyFault t bad s) := by
  unfold execGladeSupplyFault
  exact CanonOut.settled (fun _ h0 => (State.gladeCond_canon h0)) h

theorem execHeartbeatTimeout_canon {t} {s : State} (h : s.Canonical) : CanonOut (execHeartbeatTimeout t s) := by
  unfold execHeartbeatTimeout
  exact CanonOut.settled (fun _ h0 => (.when (fun _ h1 => (State.gladeCond_canon h1)) h0)) h

theorem execHeartbeatToggle_canon {t} {s : State} (h : s.Canonical) : CanonOut (execHeartbeatToggle t s) := by
  unfold execHeartbeatToggle
  exact CanonOut.core (fun _ h0 => (State.gladeSettle_canon (State.gladeCond_canon (.only State.hit_only rfl
      (.set_flt id id h0))))) h

theorem execInjkey_canon {t} {s : State} (h : s.Canonical) : CanonOut (execInjkey t s) := by
  unfold execInjkey
  exact CanonOut.sspi (fun _ _ h0 => (State.sspiAnswer_canon (.set_glade id h0))) h

theorem execLineMaskExpiry_canon {t} {s : State} (h : s.Canonical) : CanonOut (execLineMaskExpiry t s) := by
  unfold execLineMaskExpiry
  exact CanonOut.settled (fun _ h0 => (.set_glade id h0)) h

theorem execRcClockWindow_canon {t count} {s : State} (h : s.Canonical) :
    CanonOut (execRcClockWindow t count s) := by
  unfold execRcClockWindow
  exact CanonOut.settled (fun _ h0 => (.set_clk_glade id h0)) h

theorem execReadbackMismatch_canon {t aen err} {s : State} (h : s.Canonical) :
    CanonOut (execReadbackMismatch t aen err s) := by
  unfold execReadbackMismatch
  exact CanonOut.settled (fun _ h0 => (.set_glade id h0)) h

theorem execResume_canon {t} {s : State} (h : s.Canonical) : CanonOut (execResume t s) := by
  unfold execResume
  exact CanonOut.sspi (fun _ _ h0 => (.ite (State.sspiRefuse_canon h0) (State.sspiAnswer_canon (.set_glade id h0)))) h

theorem execReturnDwellExpiry_canon {t} {s : State} (h : s.Canonical) : CanonOut (execReturnDwellExpiry t s) := by
  unfold execReturnDwellExpiry
  exact CanonOut.settled (fun _ h0 => (.when (fun _ h1 => (.set_glade id h1)) h0)) h

theorem execSspiFrame_canon {t began bits bytes} {s : State} (h : s.Canonical) :
    CanonOut (execSspiFrame t began bits bytes s) := by
  unfold execSspiFrame
  exact CanonOut.settled (fun _ h0 => (State.sspiFrame_canon h0)) h

theorem execSspiRead_canon {t} {s : State} (h : s.Canonical) : CanonOut (execSspiRead t s) := by
  unfold execSspiRead
  exact CanonOut.sspi (fun _ _ h0 => (.ite (State.sspiAnswer_canon h0) (State.sspiRefuse_canon h0))) h

theorem execSspiStatus_canon {t} {s : State} (h : s.Canonical) : CanonOut (execSspiStatus t s) := by
  unfold execSspiStatus
  exact CanonOut.sspi (fun _ _ h0 => (State.sspiAnswer_canon h0)) h

theorem execSspiWatchdog_canon {t} {s : State} (h : s.Canonical) : CanonOut (execSspiWatchdog t s) := by
  unfold execSspiWatchdog
  exact CanonOut.settled (fun _ h0 => (.when (fun _ h1 => (.set_glade id h1)) h0)) h

theorem execSspiWrite_canon {t} {s : State} (h : s.Canonical) : CanonOut (execSspiWrite t s) := by
  unfold execSspiWrite
  exact CanonOut.sspi (fun _ _ h0 => (.ite (State.sspiAnswer_canon (.set_glade id h0)) (.ite (State.sspiAnswer_canon
      (State.gladeForce_canon h0)) (State.sspiRefuse_canon h0)))) h

theorem execSysclkCheckWindow_canon {t count} {s : State} (h : s.Canonical) :
    CanonOut (execSysclkCheckWindow t count s) := by
  unfold execSysclkCheckWindow
  exact CanonOut.settled (fun _ h0 => (.set_glade id h0)) h

end Sys2Proof.Machine
end

