-- ==== Sys2Proof/Laws/OnlyCorrect.lean ====
section
/-! SUPPORT. Which parts the functions of the tile model, planes and the correction chain change: one lemma for each. -/

namespace Sys2Proof.Machine

open Sys2Proof

theorem State.coolArray_only {a} {s : State} : Only [.tile] s (State.coolArray a s) := by
  unfold State.coolArray
  exact .app Only.set_tile rfl .refl

theorem State.activateMap_only {u first} {s : State} :
    Only [.now, .regs, .live, .corr, .flt, .out] s (State.activateMap u first s) := by
  unfold State.activateMap
  exact (by
    dsimp only
    split
    · exact (.app Only.set_corr rfl .refl)
    · exact (.ite (.app Only.set_corr rfl .refl) (.app State.report_only rfl (.app Only.set_corr rfl .refl))))

theorem State.stepArray_only {c alpha k sums iStitch e} {s : State} :
    Only [.now, .regs, .live, .tile, .flt, .out] s (State.stepArray c alpha k sums iStitch s e) := by
  unfold State.stepArray
  exact .app Only.set_tile rfl (.app State.atemp_only rfl .refl)

theorem State.tileStep_only {u per sums iStitch} {s : State} :
    Only [.now, .regs, .live, .tile, .flt, .out] s (State.tileStep u per sums iStitch s) := by
  unfold State.tileStep
  exact .foldl .refl (fun _ _ h0 => (.app State.stepArray_only rfl h0))

theorem State.spoilMap_only {u ts} {s : State} : Only [.corr, .flt] s (State.spoilMap u ts s) := by
  unfold State.spoilMap
  exact Only.injWords rfl (fun _ _ _ h0 => (.app Only.set_corr rfl h0)) .refl

theorem State.mapWritten_only {u} {s : State} : Only [.corr, .flt] s (State.mapWritten u s) := by
  unfold State.mapWritten
  exact .app State.spoilMap_only rfl (.app Only.set_corr rfl .refl)

theorem execDeratingMapWritten_only {t u} {s : State} :
    OnlyOut [.now, .corr, .flt] s (execDeratingMapWritten t u s) := by
  unfold execDeratingMapWritten
  exact OnlyOut.core rfl (fun _ h0 => (Only.once rfl (fun _ h1 => (.app State.mapWritten_only rfl h1)) h0))

theorem State.checkList_only {v} {s : State} :
    Only [.now, .regs, .live, .shade, .flt, .out] s (State.checkList v s) := by
  unfold State.checkList
  exact Only.when (fun _ h0 => (.app State.listParity_only rfl h0)) .refl

theorem State.clearedFor_only {v} {s : State} :
    Only [.now, .regs, .live, .health, .healthSeen, .clearQ, .flt, .out] s (State.clearedFor s v) := by
  unfold State.clearedFor
  exact .ite .refl (.app State.applyClears_only rfl .refl)

theorem State.fabricError_only {u x} {s : State} :
    Only [.now, .regs, .live, .pwr, .flt, .out] s (State.fabricError u s x) := by
  unfold State.fabricError
  exact .app State.report_only rfl (.ite (.app Only.set_pwr rfl .refl) .refl)

theorem State.disarm_only {segs} {s : State} : Only [.fab] s (State.disarm segs s) := by
  unfold State.disarm
  exact .app Only.set_fab rfl .refl

theorem State.upset_only {u b x} {s : State} :
    Only [.bank0, .bank1, .health, .calib, .corr, .shade, .glade] s (State.upset u b s x) := by
  unfold State.upset
  exact (by
    split
    · exact (.app State.setBank_only rfl .refl)
    · exact (.app Only.set_health rfl .refl)
    · exact (.app Only.set_calib rfl .refl)
    · exact (.app Only.set_corr rfl .refl)
    · exact (by
      split
      · exact (.app Only.set_corr rfl .refl)
      · exact .refl)
    · exact (.app Only.set_glade rfl .refl)
    · exact (.app State.setShade_only rfl .refl))

theorem State.countHealth_only {v k ahead} {s : State} :
    Only [.now, .regs, .live, .health, .healthSeen, .clearQ, .surf, .flt, .out]
      s (State.countHealth v k ahead s) := by
  unfold State.countHealth
  exact .app Only.set_surf rfl .refl

theorem State.readShare_only {v e} {s : State} :
    Only [.now, .regs, .live, .bank0, .bank1, .health, .healthSeen, .flt, .out] s (State.readShare v s e) := by
  unfold State.readShare
  exact .app State.sweepHealth_only rfl (.ite .refl (.app State.sweepBank_only rfl .refl))

theorem State.readPlane_only {v k upsets errs} {s : State} :
    Only [.now, .regs, .live, .bank0, .bank1, .health, .healthSeen, .calib, .corr, .shade, .pwr, .flt,
      .glade, .log, .out] s (State.readPlane v k upsets errs s) := by
  unfold State.readPlane
  exact .ite (.app State.gladeSettle_only rfl (.app Only.set_glade rfl (.foldl (.foldl (.foldl .refl (fun _ _ h0 =>
      (.app State.upset_only rfl h0))) (fun _ _ h0 => (.app State.readShare_only rfl h0))) (fun _ _ h0 =>
      (.app State.fabricError_only rfl h0))))) (.foldl (.foldl (.foldl .refl (fun _ _ h0 =>
      (.app State.upset_only rfl h0))) (fun _ _ h0 => (.app State.readShare_only rfl h0))) (fun _ _ h0 =>
      (.app State.fabricError_only rfl h0)))

theorem State.formState_only {v} {s : State} :
    Only [.now, .regs, .live, .health, .healthSeen, .clearQ, .shade, .flt, .out] s (State.formState s v) := by
  unfold State.formState
  exact .ite (.app State.setShade_only rfl (.app State.clearedFor_only rfl .refl))
      (.app State.clearedFor_only rfl .refl)

theorem State.putCalib_only {a l} {s : State} : Only [.calib, .flt] s (State.putCalib a l s) := by
  unfold State.putCalib
  exact Only.injWords rfl (fun _ _ _ h0 => (.app Only.set_calib rfl h0)) (.app Only.set_calib rfl .refl)

theorem State.writeCurve_only {v} {s : State} :
    Only [.now, .regs, .live, .corr, .flt, .out] s (State.writeCurve v s) := by
  unfold State.writeCurve
  exact .ite (.app State.report_only rfl (.app Only.set_corr rfl .refl)) (.app State.report_only rfl
      (.app Only.set_corr rfl (.app State.useInj_only rfl .refl)))

theorem State.writeMlim_only {u v} {s : State} :
    Only [.now, .regs, .live, .flt, .out] s (State.writeMlim u v s) := by
  unfold State.writeMlim
  exact Only.when (fun _ h0 => (.app State.report_only rfl h0)) .refl

theorem State.withhold_only {u} {s : State} : Only [.surf, .comp] s (State.withhold u s) := by
  unfold State.withhold
  exact .app Only.set_surf_comp rfl .refl

theorem State.readCalib_only {q y} {s : State} :
    Only [.now, .regs, .live, .calib, .flt, .out] s (State.readCalib q y s) := by
  unfold State.readCalib
  exact .ite .refl (.app State.report_only rfl (.app Only.set_calib rfl .refl))

theorem State.tableParity_only {u n} {s : State} :
    Only [.now, .regs, .live, .surf, .comp, .corr, .flt, .out] s (State.tableParity u n s) := by
  unfold State.tableParity
  exact .app State.report_only rfl (.app State.withhold_only rfl (.app Only.set_corr rfl .refl))

theorem State.writeCodes_only {b codes} {s : State} :
    Only [.bank0, .bank1, .flt] s (State.writeCodes b codes s) := by
  unfold State.writeCodes
  exact Only.injWords rfl (fun _ _ _ h0 => (.app State.setBank_only rfl h0)) (.app State.setBank_only rfl .refl)

theorem State.correctLine_only {u y vals} {s : State} :
    Only [.now, .regs, .live, .bank0, .bank1, .calib, .surf, .comp, .corr, .flt, .out]
      s (State.correctLine u y vals s) := by
  unfold State.correctLine
  exact .app State.report_only rfl (.app State.writeCodes_only rfl (.app Only.set_corr rfl
      (.app State.readCalib_only rfl (Only.when (fun _ h0 => (.app State.tableParity_only rfl h0)) .refl))))

theorem execBar2CalibrationRead_only {t req addr len} {s : State} :
    OnlyOut [.now, .regs, .live, .flt, .out] s (execBar2CalibrationRead t req addr len s) := by
  unfold execBar2CalibrationRead
  exact OnlyOut.core rfl (fun _ h0 => (.app State.report_only rfl h0))

theorem execBar2CalibrationWrite_only {t x1 addr data} {s : State} :
    OnlyOut [.now, .calib, .flt] s (execBar2CalibrationWrite t x1 addr data s) := by
  unfold execBar2CalibrationWrite
  exact OnlyOut.core rfl (fun _ h0 => (.app State.putCalib_only rfl h0))

theorem execCrMlim_only {t req u v} {s : State} :
    OnlyOut [.now, .regs, .live, .flt, .out] s (execCrMlim t req u v s) := by
  unfold execCrMlim
  exact OnlyOut.core rfl (fun _ h0 => (Only.access rfl (fun _ h1 => (.app State.writeMlim_only rfl h1)) h0))

theorem execCrTdataWrite_only {t req v} {s : State} :
    OnlyOut [.now, .regs, .live, .corr, .flt, .out] s (execCrTdataWrite t req v s) := by
  unfold execCrTdataWrite
  exact OnlyOut.core rfl (fun _ h0 => (Only.access rfl (fun _ h1 => (.app State.writeCurve_only rfl h1)) h0))

end Sys2Proof.Machine
end

