-- ==== Sys2Proof/Laws/CanonCorrect.lean ====
section
/-! SUPPORT. The tile model, planes and the correction chain keep the canonical forms: one lemma for each function. -/

namespace Sys2Proof.Machine

open Sys2Proof

/-- Entries put into the derating map keep it canonical. -/
theorem map_put_wf {l : List (Nat × BitVec 12)} {m : List (Nat × BitVec 12)}
    (h : smWf (fun _ => (0xFFF : BitVec 12)) m = true) :
    smWf (fun _ => (0xFFF : BitVec 12)) (l.foldl (fun m y => smSet (fun _ => (0xFFF : BitVec 12)) y.1 y.2 m) m) = true :=
  foldl_keeps (P := fun m => smWf (fun _ => (0xFFF : BitVec 12)) m = true) h (fun _ _ k => smWf_smSet k)

theorem State.activateMap_canon {u first} {s : State} (h : s.Canonical) : (State.activateMap u first s).Canonical := by
  unfold State.activateMap
  dsimp only
  split
  · exact .set_corr id map_put_wf h
  · exact .ite (.set_corr id id h) (State.report_canon (.set_corr id id h))

theorem State.stepArray_canon {c alpha k sums iStitch e} {s : State} (h : s.Canonical) :
    (State.stepArray c alpha k sums iStitch s e).Canonical := by
  unfold State.stepArray
  exact .only Only.set_tile rfl (State.atemp_canon h)

theorem State.tileStep_canon {u per sums iStitch} {s : State} (h : s.Canonical) :
    (State.tileStep u per sums iStitch s).Canonical := by
  unfold State.tileStep
  exact .foldl h (fun _ _ h0 => (State.stepArray_canon h0))

theorem State.spoilMap_canon {u ts} {s : State} (h : s.Canonical) : (State.spoilMap u ts s).Canonical := by
  unfold State.spoilMap
  exact .injWords (fun _ _ _ h0 => (.set_corr id id h0)) h

theorem State.mapWritten_canon {u} {s : State} (h : s.Canonical) : (State.mapWritten u s).Canonical := by
  unfold State.mapWritten
  exact State.spoilMap_canon (.set_corr id id h)

theorem execDeratingMapWritten_canon {t u} {s : State} (h : s.Canonical) :
    CanonOut (execDeratingMapWritten t u s) := by
  unfold execDeratingMapWritten
  exact CanonOut.core (fun _ h0 => (.once (fun _ h1 => (State.mapWritten_canon h1)) h0)) h

theorem State.checkList_canon {v} {s : State} (h : s.Canonical) : (State.checkList v s).Canonical := by
  unfold State.checkList
  exact .when (fun _ h0 => (State.listParity_canon h0)) h

theorem State.clearedFor_canon {v} {s : State} (h : s.Canonical) : (State.clearedFor s v).Canonical := by
  unfold State.clearedFor
  exact .ite h (State.applyClears_canon h)

theorem State.fabricError_canon {u x} {s : State} (h : s.Canonical) : (State.fabricError u s x).Canonical := by
  unfold State.fabricError
  exact State.report_canon (.ite (.only Only.set_pwr rfl h) h)

theorem State.upset_canon {u b x} {s : State} (h : s.Canonical) : (State.upset u b s x).Canonical := by
  unfold State.upset
  split
  · exact State.setBank_canon Store.upset_wf h
  · exact .set_health Store.upset_wf h
  · exact .set_calib Store.upset_wf h
  · exact .set_corr id id h
  · split
    · exact .set_corr id id h
    · exact h
  · exact .set_glade id h
  · exact .only State.setShade_only rfl h

theorem State.countHealth_canon {v k ahead} {s : State} (h : s.Canonical) :
    (State.countHealth v k ahead s).Canonical := by
  unfold State.countHealth
  exact .only Only.set_surf rfl h

theorem State.readShare_canon {v e} {s : State} (h : s.Canonical) : (State.readShare v s e).Canonical := by
  unfold State.readShare
  exact State.sweepHealth_canon (.ite h (State.sweepBank_canon h))

theorem State.readPlane_canon {v k upsets errs} {s : State} (h : s.Canonical) :
    (State.readPlane v k upsets errs s).Canonical := by
  unfold State.readPlane
  exact .ite (State.gladeSettle_canon (.set_glade (fun k => by rw [Glade.fbFail_fb]; exact k) (.foldl (.foldl
      (.foldl h (fun _ _ h0 => (State.upset_canon h0))) (fun _ _ h0 => (State.readShare_canon h0))) (fun _ _ h0 =>
      (State.fabricError_canon h0))))) (.foldl (.foldl (.foldl h (fun _ _ h0 => (State.upset_canon h0)))
      (fun _ _ h0 => (State.readShare_canon h0))) (fun _ _ h0 => (State.fabricError_canon h0)))

theorem State.formState_canon {v} {s : State} (h : s.Canonical) : (State.formState s v).Canonical := by
  unfold State.formState
  exact .ite (.only State.setShade_only rfl (State.clearedFor_canon h)) (State.clearedFor_canon h)

theorem State.putCalib_canon {a l} {s : State} (h : s.Canonical) : (State.putCalib a l s).Canonical := by
  unfold State.putCalib
  refine .injWords (fun _ _ _ k => .set_calib Store.upset_wf k) (.set_calib (fun k => Memory.writeL_wf ?_) h)
  refine foldl_keeps (P := fun x : Store => x.wf calibByte = true) k (fun x w q => ?_)
  show Memory.wf calibByte (if x.ue.contains w then _ else x.cells) = true
  split
  · exact Memory.writeL_wf q
  · exact q

theorem State.writeCurve_canon {v} {s : State} (h : s.Canonical) : (State.writeCurve v s).Canonical := by
  unfold State.writeCurve
  exact .ite (State.report_canon (.set_corr id id h))
    (State.report_canon (.set_corr (fun _ => smWf_smSet h.curve) (fun _ => h.map) (State.useInj_canon h)))

theorem State.writeMlim_canon {u v} {s : State} (h : s.Canonical) : (State.writeMlim u v s).Canonical := by
  unfold State.writeMlim
  exact .when (fun _ h0 => (State.report_canon h0)) h

theorem State.readCalib_canon {q y} {s : State} (h : s.Canonical) : (State.readCalib q y s).Canonical := by
  unfold State.readCalib
  exact .ite h (State.report_canon (.set_calib id h))

theorem State.tableParity_canon {u n} {s : State} (h : s.Canonical) : (State.tableParity u n s).Canonical := by
  unfold State.tableParity
  exact State.report_canon (.only State.withhold_only rfl (.set_corr id id h))

theorem State.writeCodes_canon {b codes} {s : State} (h : s.Canonical) : (State.writeCodes b codes s).Canonical := by
  unfold State.writeCodes
  exact .injWords (fun _ _ _ k => State.setBank_canon Store.upset_wf k) (State.setBank_canon
    (fun k => foldl_keeps (P := fun x : Store => x.wf zeroByte = true) k (fun _ _ q => Store.write_wf q)) h)

theorem State.correctLine_canon {u y vals} {s : State} (h : s.Canonical) :
    (State.correctLine u y vals s).Canonical := by
  unfold State.correctLine
  exact State.report_canon (State.writeCodes_canon (.set_corr id id (State.readCalib_canon (.when (fun _ h0 =>
      (State.tableParity_canon h0)) h))))

theorem execBar2CalibrationRead_canon {t req addr len} {s : State} (h : s.Canonical) :
    CanonOut (execBar2CalibrationRead t req addr len s) := by
  unfold execBar2CalibrationRead
  exact CanonOut.core (fun _ h0 => (State.report_canon h0)) h

theorem execBar2CalibrationWrite_canon {t x1 addr data} {s : State} (h : s.Canonical) :
    CanonOut (execBar2CalibrationWrite t x1 addr data s) := by
  unfold execBar2CalibrationWrite
  exact CanonOut.core (fun _ h0 => (State.putCalib_canon h0)) h

theorem execCrMlim_canon {t req u v} {s : State} (h : s.Canonical) : CanonOut (execCrMlim t req u v s) := by
  unfold execCrMlim
  exact CanonOut.core (fun _ h0 => (.access (fun _ h1 => (State.writeMlim_canon h1)) h0)) h

theorem execCrTdataWrite_canon {t req v} {s : State} (h : s.Canonical) : CanonOut (execCrTdataWrite t req v s) := by
  unfold execCrTdataWrite
  exact CanonOut.core (fun _ h0 => (.access (fun _ h1 => (State.writeCurve_canon h1)) h0)) h

end Sys2Proof.Machine
end

