-- ==== Sys2Proof/Laws/OnlyHost.lean ====
section
/-! SUPPORT. Which parts the functions of the host port and Forester change: one lemma for each. -/

namespace Sys2Proof.Machine

open Sys2Proof

theorem State.upRead_only {who addr len} {s : State} :
    Only [.now, .regs, .live, .host, .flt, .out] s (State.upRead who addr len s) := by
  unfold State.upRead
  exact .app State.report_only rfl (.app Only.set_host rfl .refl)

theorem State.armVectors_only {v} {s : State} : Only [.host] s (State.armVectors v s) := by
  unfold State.armVectors
  exact .app Only.set_host rfl .refl

theorem State.clearIrq_only {page v} {s : State} : Only [.regs] s (State.clearIrq page v s) := by
  unfold State.clearIrq
  exact .app Only.set_regs rfl .refl

theorem State.forceIrq_only {page v} {s : State} : Only [.now, .regs] s (State.forceIrq page v s) := by
  unfold State.forceIrq
  exact .app State.hit_only rfl (.app Only.set_regs rfl .refl)

theorem State.writeCtrl_only {page v} {s : State} : Only [.now, .regs] s (State.writeCtrl page v s) := by
  unfold State.writeCtrl
  exact .app Only.set_regs rfl (.app State.keep_only rfl .refl)

theorem State.keepPhase_only {s : State} : Only [.now] s (State.keepPhase s) := by
  unfold State.keepPhase
  exact .app State.keepAs_only rfl .refl

theorem State.writePhase_only {v} {s : State} :
    Only [.now, .regs, .live, .top, .flt, .out] s (State.writePhase v s) := by
  unfold State.writePhase
  exact .ite (.app Only.set_top rfl .refl) (.app State.report_only rfl (.app Only.set_top rfl
      (.app State.keepPhase_only rfl .refl)))

theorem State.writeOwner_only {req page v} {s : State} : Only [.now, .regs] s (State.writeOwner req page v s) := by
  unfold State.writeOwner
  exact .app Only.set_regs rfl (.app State.keep_only rfl .refl)

theorem State.completion_only {tag a} {s : State} :
    Only [.now, .regs, .live, .host, .flt, .out] s (State.completion tag a s) := by
  unfold State.completion
  exact .ite (.app State.report_only rfl (.app Only.set_host rfl .refl)) (.app Only.set_host rfl .refl)

theorem State.expire_only {tag} {s : State} :
    Only [.now, .regs, .live, .host, .flt, .out] s (State.expire tag s) := by
  unfold State.expire
  exact .app State.report_only rfl (.app Only.set_host rfl .refl)

theorem State.hostReset_only {k} {s : State} :
    Only [.now, .regs, .live, .top, .host, .flt, .out] s (State.hostReset k s) := by
  unfold State.hostReset
  exact .app State.report_only rfl (.app Only.set_regs_top_host rfl (.app State.keepPhase_only rfl .refl))

theorem State.linkUpAt_only {speed width} {s : State} :
    Only [.now, .regs, .live, .host, .flt, .out] s (State.linkUpAt speed width s) := by
  unfold State.linkUpAt
  exact .app State.report_only rfl (.app Only.set_host rfl .refl)

theorem State.message_only {v} {s : State} :
    Only [.now, .regs, .live, .host, .flt, .out] s (State.message v s) := by
  unfold State.message
  exact .ite (.ite (.app Only.set_host rfl .refl) .refl) (.ite (.app Only.set_host rfl .refl) (.ite
      (.app State.report_only rfl (.app Only.set_host rfl .refl)) .refl))

theorem execCompletionTimeout_only {t tag} {s : State} :
    OnlyOut [.now, .regs, .live, .host, .flt, .out] s (execCompletionTimeout t tag s) := by
  unfold execCompletionTimeout
  exact OnlyOut.core rfl (fun _ h0 => (Only.when (fun _ h1 => (.app State.expire_only rfl h1)) h0))

theorem execConfigurationWrite_only {t w} {s : State} : OnlyOut [.now, .host] s (execConfigurationWrite t w s) := by
  unfold execConfigurationWrite
  exact OnlyOut.core rfl (fun _ h0 => (Only.when (fun _ h1 => (.app Only.set_host rfl h1)) h0))

theorem execHostVecArm_only {t req v} {s : State} :
    OnlyOut [.now, .regs, .live, .host, .flt, .out] s (execHostVecArm t req v s) := by
  unfold execHostVecArm
  exact OnlyOut.core rfl (fun _ h0 => (Only.access rfl (fun _ h1 => (.app State.armVectors_only rfl h1)) h0))

theorem execLinkUp_only {t speed width} {s : State} :
    OnlyOut [.now, .regs, .live, .host, .flt, .out] s (execLinkUp t speed width s) := by
  unfold execLinkUp
  exact OnlyOut.core rfl (fun _ h0 => (Only.when (fun _ h1 => (.app State.linkUpAt_only rfl h1)) h0))

theorem execMsixMessage_only {t v} {s : State} :
    OnlyOut [.now, .regs, .live, .host, .flt, .out] s (execMsixMessage t v s) := by
  unfold execMsixMessage
  exact OnlyOut.core rfl (fun _ h0 => (.app State.message_only rfl h0))

theorem execOwnLock_only {t req page v} {s : State} :
    OnlyOut [.now, .regs, .live, .flt, .out] s (execOwnLock t req page v s) := by
  unfold execOwnLock
  exact OnlyOut.core rfl (fun _ h0 => (Only.when (fun _ h1 => (Only.access rfl (fun _ h2 =>
      (.app State.writeCtrl_only rfl h2)) h1)) h0))

theorem execPgIrqForce_only {t req page v} {s : State} :
    OnlyOut [.now, .regs, .live, .flt, .out] s (execPgIrqForce t req page v s) := by
  unfold execPgIrqForce
  exact OnlyOut.core rfl (fun _ h0 => (Only.when (fun _ h1 => (Only.access rfl (fun _ h2 =>
      (.app State.forceIrq_only rfl h2)) h1)) h0))

theorem execPgIrqPendClear_only {t req page v} {s : State} :
    OnlyOut [.now, .regs, .live, .flt, .out] s (execPgIrqPendClear t req page v s) := by
  unfold execPgIrqPendClear
  exact OnlyOut.core rfl (fun _ h0 => (Only.when (fun _ h1 => (Only.access rfl (fun _ h2 =>
      (.app State.clearIrq_only rfl h2)) h1)) h0))

theorem execPgOwnerWrite_only {t req page v} {s : State} :
    OnlyOut [.now, .regs, .live, .flt, .out] s (execPgOwnerWrite t req page v s) := by
  unfold execPgOwnerWrite
  exact OnlyOut.core rfl (fun _ h0 => (Only.when (fun _ h1 => (.ite (.app State.report_only rfl h1)
      (.app State.writeOwner_only rfl h1))) h0))

theorem execTopPhaseWrite_only {t req v} {s : State} :
    OnlyOut [.now, .regs, .live, .top, .flt, .out] s (execTopPhaseWrite t req v s) := by
  unfold execTopPhaseWrite
  exact OnlyOut.core rfl (fun _ h0 => (Only.once rfl (fun _ h1 => (Only.access rfl (fun _ h2 =>
      (.app State.writePhase_only rfl h2)) h1)) h0))

theorem execUpstreamCompletion_only {t tag a} {s : State} :
    OnlyOut [.now, .regs, .live, .host, .flt, .out] s (execUpstreamCompletion t tag a s) := by
  unfold execUpstreamCompletion
  exact OnlyOut.core rfl (fun _ h0 => (Only.when (fun _ h1 => (Only.once rfl (fun _ h2 =>
      (.app State.completion_only rfl h2)) h1)) h0))

theorem State.exportNext_only {s : State} : Only [.log] s (State.exportNext s) := by
  unfold State.exportNext
  exact .ite (.app Only.set_log rfl .refl) .refl

theorem State.busNext_only {b} {s : State} : Only [.now, .regs, .live, .flt, .fst, .out] s (State.busNext b s) := by
  unfold State.busNext
  exact (.ite .refl (by
    split
    · exact (.app State.report_only rfl (.app Only.set_fst rfl .refl))
    · exact .refl))

theorem State.slotDue_only {n} {s : State} : Only [.now, .regs, .live, .flt, .fst, .out] s (State.slotDue n s) := by
  unfold State.slotDue
  exact .ite (.app State.busNext_only rfl (.app Only.set_fst rfl .refl)) .refl

theorem State.slotsAtFrame_only {u} {s : State} :
    Only [.now, .regs, .live, .flt, .fst, .out] s (State.slotsAtFrame u s) := by
  unfold State.slotsAtFrame
  exact .ite .refl (.foldl .refl (fun _ _ h0 => (.ite (.app State.slotDue_only rfl h0) h0)))

theorem State.mbStart_only {v} {s : State} : Only [.now, .regs, .host, .fst] s (State.mbStart v s) := by
  unfold State.mbStart
  exact .app State.hit_only rfl (.app Only.set_regs_host_fst rfl .refl)

theorem State.mbComplete_only {v} {s : State} :
    Only [.now, .regs, .live, .host, .flt, .fst, .out] s (State.mbComplete v s) := by
  unfold State.mbComplete
  exact .app State.report_only rfl (.app Only.set_regs_host_fst rfl .refl)

theorem State.mbDrop_only {s : State} : Only [.now, .regs, .live, .flt, .fst, .out] s (State.mbDrop s) := by
  unfold State.mbDrop
  exact .app State.report_only rfl (.app Only.set_fst rfl .refl)

theorem State.writeMbDone_only {v} {s : State} :
    Only [.now, .regs, .live, .host, .flt, .fst, .out] s (State.writeMbDone v s) := by
  unfold State.writeMbDone
  exact .ite (.app State.mbComplete_only rfl .refl) (.app State.mbDrop_only rfl .refl)

theorem State.writeMbEvt_only {v} {s : State} : Only [.now, .regs, .live, .flt, .out] s (State.writeMbEvt v s) := by
  unfold State.writeMbEvt
  exact .app State.report_only rfl .refl

theorem State.norRefuse_only {v addr} {s : State} :
    Only [.now, .regs, .live, .flt, .fst, .out] s (State.norRefuse v addr s) := by
  unfold State.norRefuse
  exact .app State.report_only rfl (.app Only.set_fst rfl .refl)

theorem State.norStart_only {v addr} {s : State} :
    Only [.now, .regs, .live, .flt, .fst, .out] s (State.norStart v addr s) := by
  unfold State.norStart
  exact .ite (.app State.norRefuse_only rfl .refl) (.app State.report_only rfl (.app Only.set_fst rfl .refl))

theorem State.writeNor_only {v} {s : State} :
    Only [.now, .regs, .live, .flt, .fst, .out] s (State.writeNor v s) := by
  unfold State.writeNor
  exact .ite .refl (.ite (.app Only.set_fst rfl .refl) (.app State.norStart_only rfl .refl))

theorem State.writeLogCode_only {v} {s : State} :
    Only [.now, .regs, .live, .flt, .log, .out] s (State.writeLogCode v s) := by
  unfold State.writeLogCode
  exact .app State.logBy_only rfl .refl

theorem State.writeLogRd_only {v} {s : State} : Only [.log] s (State.writeLogRd v s) := by
  unfold State.writeLogRd
  exact .ite .refl (.app Only.set_log rfl .refl)

theorem State.chanBuf_only {ch l} {s : State} : Only [.dma] s (State.chanBuf ch l s) := by
  unfold State.chanBuf
  exact .app Only.set_dma rfl .refl

theorem State.norRelease_only {s : State} : Only [.now, .regs, .live, .flt, .fst, .out] s (State.norRelease s) := by
  unfold State.norRelease
  exact (by
    split
    · exact (.ite (.app State.norStart_only rfl .refl) .refl)
    · exact .refl)

theorem State.tcmError_only {x0} {s : State} :
    Only [.now, .regs, .live, .flt, .glade, .fst, .log, .sec, .out] s (State.tcmError x0 s) := by
  unfold State.tcmError
  exact (by
    split
    · exact (.app State.report_only rfl (.app Only.set_fst rfl .refl))
    · exact (.app State.resetForester_only rfl (.app State.report_only rfl (.app Only.set_fst rfl .refl))))

theorem State.exception_only {x0} {s : State} :
    Only [.now, .regs, .live, .flt, .fst, .out] s (State.exception x0 s) := by
  unfold State.exception
  exact (by
    split
    · exact (.app State.report_only rfl (.app Only.set_fst rfl .refl))
    · exact (.app State.report_only rfl (.app Only.set_fst rfl .refl)))

theorem State.mbExpire_only {s : State} :
    Only [.now, .regs, .live, .host, .flt, .fst, .out] s (State.mbExpire s) := by
  unfold State.mbExpire
  exact .app State.report_only rfl (.app Only.set_host_fst rfl .refl)

theorem State.norClosed_only {s : State} : Only [.now, .regs, .live, .flt, .fst, .out] s (State.norClosed s) := by
  unfold State.norClosed
  exact .app State.report_only rfl (.app Only.set_fst rfl .refl)

theorem State.norDone_only {data} {s : State} :
    Only [.now, .regs, .live, .flt, .fst, .out] s (State.norDone data s) := by
  unfold State.norDone
  exact (by
    split
    · exact (.ite .refl (.app State.report_only rfl (.app Only.set_regs_fst rfl .refl)))
    · exact .refl)

theorem State.norGiveUp_only {s : State} : Only [.fst] s (State.norGiveUp s) := by
  unfold State.norGiveUp
  exact .app Only.set_fst rfl .refl

theorem State.norTimeout_only {s : State} : Only [.now, .regs, .live, .flt, .fst, .out] s (State.norTimeout s) := by
  unfold State.norTimeout
  exact (by
    split
    · exact (.ite .refl (.app State.report_only rfl (.app Only.set_fst rfl .refl)))
    · exact .refl)

theorem State.senDone_only {b good} {s : State} :
    Only [.now, .regs, .live, .flt, .fst, .out] s (State.senDone b good s) := by
  unfold State.senDone
  exact (by
    split
    · exact .refl
    · exact (.app State.busNext_only rfl (.app State.report_only rfl (.app Only.set_regs_fst rfl .refl))))

theorem execForesterException_only {t e} {s : State} :
    OnlyOut [.now, .regs, .live, .flt, .fst, .out] s (execForesterException t e s) := by
  unfold execForesterException
  exact OnlyOut.forester rfl (fun _ h0 => (.app State.exception_only rfl h0))

theorem execForesterReset_only {t cause} {s : State} :
    OnlyOut [.now, .regs, .live, .flt, .glade, .fst, .log, .sec, .out] s (execForesterReset t cause s) := by
  unfold execForesterReset
  exact OnlyOut.core rfl (fun _ h0 => (.app State.resetForester_only rfl h0))

theorem execFpLogRd_only {t v} {s : State} : OnlyOut [.now, .log] s (execFpLogRd t v s) := by
  unfold execFpLogRd
  exact OnlyOut.forester rfl (fun _ h0 => (.app State.writeLogRd_only rfl h0))

theorem execFpMbDone_only {t v} {s : State} :
    OnlyOut [.now, .regs, .live, .host, .flt, .fst, .out] s (execFpMbDone t v s) := by
  unfold execFpMbDone
  exact OnlyOut.forester rfl (fun _ h0 => (.app State.writeMbDone_only rfl h0))

theorem execFpMbEvt_only {t v} {s : State} : OnlyOut [.now, .regs, .live, .flt, .out] s (execFpMbEvt t v s) := by
  unfold execFpMbEvt
  exact OnlyOut.forester rfl (fun _ h0 => (.app State.writeMbEvt_only rfl h0))

theorem execLogAppendFirmware_only {t v} {s : State} :
    OnlyOut [.now, .regs, .live, .flt, .log, .out] s (execLogAppendFirmware t v s) := by
  unfold execLogAppendFirmware
  exact OnlyOut.forester rfl (fun _ h0 => (.app State.writeLogCode_only rfl h0))

theorem execLogExportRead_only {t ch} {s : State} :
    OnlyOut [.now, .regs, .live, .dma, .flt, .log, .out] s (execLogExportRead t ch s) := by
  unfold execLogExportRead
  exact OnlyOut.core rfl (fun _ h0 => (.app State.exportNext_only rfl (.app State.report_only rfl
      (.app State.chanBuf_only rfl h0))))

theorem execMailboxTimeout_only {t} {s : State} :
    OnlyOut [.now, .regs, .live, .host, .flt, .fst, .out] s (execMailboxTimeout t s) := by
  unfold execMailboxTimeout
  exact OnlyOut.core rfl (fun _ h0 => (Only.when (fun _ h1 => (.app State.mbExpire_only rfl h1)) h0))

theorem execSensorSclTimeout_only {t bus} {s : State} :
    OnlyOut [.now, .regs, .live, .flt, .fst, .out] s (execSensorSclTimeout t bus s) := by
  unfold execSensorSclTimeout
  exact OnlyOut.forester rfl (fun _ h0 => (Only.when (fun _ h1 => (.app State.senDone_only rfl h1)) h0))

theorem execSensorSlotDue_only {t n} {s : State} :
    OnlyOut [.now, .regs, .live, .flt, .fst, .out] s (execSensorSlotDue t n s) := by
  unfold execSensorSlotDue
  exact OnlyOut.forester rfl (fun _ h0 => (.app State.slotDue_only rfl h0))

theorem execSensorTransferDone_only {t bus ack data} {s : State} :
    OnlyOut [.now, .regs, .live, .flt, .fst, .out] s (execSensorTransferDone t bus ack data s) := by
  unfold execSensorTransferDone
  exact OnlyOut.forester rfl (fun _ h0 => (.app State.senDone_only rfl h0))

theorem execSpiNorCommand_only {t v} {s : State} :
    OnlyOut [.now, .regs, .live, .flt, .fst, .out] s (execSpiNorCommand t v s) := by
  unfold execSpiNorCommand
  exact OnlyOut.forester rfl (fun _ h0 => (.app State.writeNor_only rfl h0))

theorem execSwrst_only {t v} {s : State} :
    OnlyOut [.now, .regs, .live, .flt, .glade, .fst, .log, .sec, .out] s (execSwrst t v s) := by
  unfold execSwrst
  exact OnlyOut.forester rfl (fun _ h0 => (Only.when (fun _ h1 => (.app State.resetForester_only rfl h1)) h0))

theorem execTcmError_only {t e} {s : State} :
    OnlyOut [.now, .regs, .live, .flt, .glade, .fst, .log, .sec, .out] s (execTcmError t e s) := by
  unfold execTcmError
  exact OnlyOut.forester rfl (fun _ h0 => (.app State.tcmError_only rfl h0))

theorem execUartByteReceived_only {t byte} {s : State} :
    OnlyOut [.now, .regs, .live, .flt, .fst, .out] s (execUartByteReceived t byte s) := by
  unfold execUartByteReceived
  exact OnlyOut.forester rfl (fun _ h0 => (.app State.report_only rfl (.app Only.set_fst rfl h0)))

end Sys2Proof.Machine
end

