-- ==== Sys2Proof/Laws/CanonHost.lean ====
section
/-! SUPPORT. The host port and Forester keep the canonical forms: one lemma for each function. -/

namespace Sys2Proof.Machine

open Sys2Proof

/-- An MSI-X reset keeps the register file canonical. -/
theorem msixReset_wf {f : RegFile} (h : smWf regReset f = true) : smWf regReset (msixReset f) = true :=
  smWfFrom_filter h

/-- Words written one after the other keep the register file canonical. -/
theorem rsets_wf {α : Type} {l : List α} {k : α → Nat} {v : RegFile → α → Word} {f : RegFile}
    (h : smWf regReset f = true) : smWf regReset (l.foldl (fun f i => rset (k i) (v f i) f) f) = true :=
  foldl_keeps (P := fun f => smWf regReset f = true) h (fun _ _ q => rset_wf q)

/-- A request copied keeps the register file canonical. -/
theorem copyReq_wf {f : RegFile} (h : smWf regReset f = true) : smWf regReset (copyReq f) = true :=
  rsets_wf (k := fun i => Reg.FP_MB_REQ i) (v := fun f i => rget f (Reg.MB_REQ i)) h

/-- A response copied keeps the register file canonical. -/
theorem copyRsp_wf {n : Nat} {f : RegFile} (h : smWf regReset f = true) : smWf regReset (copyRsp n f) = true :=
  rsets_wf (k := fun i => Reg.MB_RSP i) (v := fun f i => rget f (Reg.FP_MB_RSP i)) h

/-- A filled flash buffer keeps the register file canonical. -/
theorem norFill_wf {f : RegFile} {l : List Byte} (h : smWf regReset f = true) : smWf regReset (norFill f l) = true :=
  rsets_wf (k := fun i => Reg.FP_SPI_BUF i)
    (v := fun _ i => BitVec.ofNat 32 (leAt (l ++ (norBuf f 256).drop l.length) (4 * i) 4)) h

/-- A slot's end keeps the register file canonical. -/
theorem senEnd_wf {f : RegFile} {n : Fin 8} (h : smWf regReset f = true) : smWf regReset (senEnd f n) = true := by
  unfold senEnd
  dsimp only
  split
  · exact rset_wf h
  · exact h

/-- A read pointer moved keeps the ring canonical. -/
theorem Log.moveRd_ring {g : Log} {x : Sec} {rd : BitVec 10}
    (h : smWf (fun _ => (List.replicate 8 0 : List Word)) g.ring = true) :
    smWf (fun _ => (List.replicate 8 0 : List Word)) (g.moveRd x rd).ring = true := by
  unfold Log.moveRd
  split
  · exact h
  · exact Log.seal_ring h

/-- The read pointer moved on keeps the ring canonical. -/
theorem Log.advance_ring {g : Log} {x : Sec} (h : smWf (fun _ => (List.replicate 8 0 : List Word)) g.ring = true) :
    smWf (fun _ => (List.replicate 8 0 : List Word)) (g.advance x).ring = true := Log.seal_ring h

/-- One of two register files. -/
theorem ite_wf {c : Prop} [Decidable c] {f g : RegFile} (hf : smWf regReset f = true) (hg : smWf regReset g = true) :
    smWf regReset (if c then f else g) = true := by split <;> assumption

/-- A byte received leaves the TCM. -/
theorem Forester.receive_tcm {x : Forester} {b : Byte} : (x.receive b).tcm = x.tcm := by
  unfold Forester.receive
  split <;> rfl

theorem State.upRead_canon {who addr len} {s : State} (h : s.Canonical) :
    (State.upRead who addr len s).Canonical := by
  unfold State.upRead
  exact State.report_canon (.only Only.set_host rfl h)

theorem State.clearIrq_canon {page v} {s : State} (h : s.Canonical) : (State.clearIrq page v s).Canonical := by
  unfold State.clearIrq
  exact .set_regs rset_wf h

theorem State.forceIrq_canon {page v} {s : State} (h : s.Canonical) : (State.forceIrq page v s).Canonical := by
  unfold State.forceIrq
  exact .only State.hit_only rfl (.set_regs rset_wf h)

theorem State.writeCtrl_canon {page v} {s : State} (h : s.Canonical) : (State.writeCtrl page v s).Canonical := by
  unfold State.writeCtrl
  exact .set_regs rset_wf (.only State.keep_only rfl h)

theorem State.writePhase_canon {v} {s : State} (h : s.Canonical) : (State.writePhase v s).Canonical := by
  unfold State.writePhase
  exact .ite (.only Only.set_top rfl h) (State.report_canon (.only Only.set_top rfl
      (.only State.keepPhase_only rfl h)))

theorem State.writeOwner_canon {req page v} {s : State} (h : s.Canonical) :
    (State.writeOwner req page v s).Canonical := by
  unfold State.writeOwner
  exact .set_regs rset_wf (.only State.keep_only rfl h)

theorem State.completion_canon {tag a} {s : State} (h : s.Canonical) : (State.completion tag a s).Canonical := by
  unfold State.completion
  exact .ite (State.report_canon (.only Only.set_host rfl h)) (.only Only.set_host rfl h)

theorem State.expire_canon {tag} {s : State} (h : s.Canonical) : (State.expire tag s).Canonical := by
  unfold State.expire
  exact State.report_canon (.only Only.set_host rfl h)

theorem State.hostReset_canon {k} {s : State} (h : s.Canonical) : (State.hostReset k s).Canonical := by
  unfold State.hostReset
  exact State.report_canon (.set_regs_top_host msixReset_wf (.only State.keepPhase_only rfl h))

theorem State.linkUpAt_canon {speed width} {s : State} (h : s.Canonical) :
    (State.linkUpAt speed width s).Canonical := by
  unfold State.linkUpAt
  exact State.report_canon (.only Only.set_host rfl h)

theorem State.message_canon {v} {s : State} (h : s.Canonical) : (State.message v s).Canonical := by
  unfold State.message
  exact .ite (.ite (.only Only.set_host rfl h) h) (.ite (.only Only.set_host rfl h) (.ite (State.report_canon
      (.only Only.set_host rfl h)) h))

theorem execCompletionTimeout_canon {t tag} {s : State} (h : s.Canonical) :
    CanonOut (execCompletionTimeout t tag s) := by
  unfold execCompletionTimeout
  exact CanonOut.core (fun _ h0 => (.when (fun _ h1 => (State.expire_canon h1)) h0)) h

theorem execHostVecArm_canon {t req v} {s : State} (h : s.Canonical) : CanonOut (execHostVecArm t req v s) := by
  unfold execHostVecArm
  exact CanonOut.core (fun _ h0 => (.access (fun _ h1 => (.only State.armVectors_only rfl h1)) h0)) h

theorem execLinkUp_canon {t speed width} {s : State} (h : s.Canonical) : CanonOut (execLinkUp t speed width s) := by
  unfold execLinkUp
  exact CanonOut.core (fun _ h0 => (.when (fun _ h1 => (State.linkUpAt_canon h1)) h0)) h

theorem execMsixMessage_canon {t v} {s : State} (h : s.Canonical) : CanonOut (execMsixMessage t v s) := by
  unfold execMsixMessage
  exact CanonOut.core (fun _ h0 => (State.message_canon h0)) h

theorem execOwnLock_canon {t req page v} {s : State} (h : s.Canonical) : CanonOut (execOwnLock t req page v s) := by
  unfold execOwnLock
  exact CanonOut.core (fun _ h0 => (.when (fun _ h1 => (.access (fun _ h2 => (State.writeCtrl_canon h2)) h1)) h0)) h

theorem execPgIrqForce_canon {t req page v} {s : State} (h : s.Canonical) :
    CanonOut (execPgIrqForce t req page v s) := by
  unfold execPgIrqForce
  exact CanonOut.core (fun _ h0 => (.when (fun _ h1 => (.access (fun _ h2 => (State.forceIrq_canon h2)) h1)) h0)) h

theorem execPgIrqPendClear_canon {t req page v} {s : State} (h : s.Canonical) :
    CanonOut (execPgIrqPendClear t req page v s) := by
  unfold execPgIrqPendClear
  exact CanonOut.core (fun _ h0 => (.when (fun _ h1 => (.access (fun _ h2 => (State.clearIrq_canon h2)) h1)) h0)) h

theorem execPgOwnerWrite_canon {t req page v} {s : State} (h : s.Canonical) :
    CanonOut (execPgOwnerWrite t req page v s) := by
  unfold execPgOwnerWrite
  exact CanonOut.core (fun _ h0 => (.when (fun _ h1 => (.ite (State.report_canon h1)
      (State.writeOwner_canon h1))) h0)) h

theorem execTopPhaseWrite_canon {t req v} {s : State} (h : s.Canonical) :
    CanonOut (execTopPhaseWrite t req v s) := by
  unfold execTopPhaseWrite
  exact CanonOut.core (fun _ h0 => (.once (fun _ h1 => (.access (fun _ h2 => (State.writePhase_canon h2)) h1)) h0)) h

theorem execUpstreamCompletion_canon {t tag a} {s : State} (h : s.Canonical) :
    CanonOut (execUpstreamCompletion t tag a s) := by
  unfold execUpstreamCompletion
  exact CanonOut.core (fun _ h0 => (.when (fun _ h1 => (.once (fun _ h2 => (State.completion_canon h2)) h1)) h0)) h

theorem State.exportNext_canon {s : State} (h : s.Canonical) : (State.exportNext s).Canonical := by
  unfold State.exportNext
  exact .ite (.set_log Log.advance_ring h) h

theorem State.busNext_canon {b} {s : State} (h : s.Canonical) : (State.busNext b s).Canonical := by
  unfold State.busNext
  exact (.ite h (by
    split
    · exact (State.report_canon (.set_fst id h))
    · exact h))

theorem State.slotDue_canon {n} {s : State} (h : s.Canonical) : (State.slotDue n s).Canonical := by
  unfold State.slotDue
  exact .ite (State.busNext_canon (.set_fst id h)) h

theorem State.slotsAtFrame_canon {u} {s : State} (h : s.Canonical) : (State.slotsAtFrame u s).Canonical := by
  unfold State.slotsAtFrame
  exact .ite h (.foldl h (fun _ _ h0 => (.ite (State.slotDue_canon h0) h0)))

theorem State.mbStart_canon {v} {s : State} (h : s.Canonical) : (State.mbStart v s).Canonical := by
  unfold State.mbStart
  exact .only State.hit_only rfl (.set_regs_host_fst copyReq_wf id h)

theorem State.mbComplete_canon {v} {s : State} (h : s.Canonical) : (State.mbComplete v s).Canonical := by
  unfold State.mbComplete
  exact State.report_canon (.set_regs_host_fst copyRsp_wf id h)

theorem State.mbDrop_canon {s : State} (h : s.Canonical) : (State.mbDrop s).Canonical := by
  unfold State.mbDrop
  exact State.report_canon (.set_fst id h)

theorem State.writeMbDone_canon {v} {s : State} (h : s.Canonical) : (State.writeMbDone v s).Canonical := by
  unfold State.writeMbDone
  exact .ite (State.mbComplete_canon h) (State.mbDrop_canon h)

theorem State.writeMbEvt_canon {v} {s : State} (h : s.Canonical) : (State.writeMbEvt v s).Canonical := by
  unfold State.writeMbEvt
  exact State.report_canon h

theorem State.norRefuse_canon {v addr} {s : State} (h : s.Canonical) : (State.norRefuse v addr s).Canonical := by
  unfold State.norRefuse
  exact State.report_canon (.set_fst id h)

theorem State.norStart_canon {v addr} {s : State} (h : s.Canonical) : (State.norStart v addr s).Canonical := by
  unfold State.norStart
  exact .ite (State.norRefuse_canon h) (State.report_canon (.set_fst id h))

theorem State.writeNor_canon {v} {s : State} (h : s.Canonical) : (State.writeNor v s).Canonical := by
  unfold State.writeNor
  exact .ite h (.ite (.set_fst id h) (State.norStart_canon h))

theorem State.writeLogCode_canon {v} {s : State} (h : s.Canonical) : (State.writeLogCode v s).Canonical := by
  unfold State.writeLogCode
  exact State.logBy_canon h

theorem State.writeLogRd_canon {v} {s : State} (h : s.Canonical) : (State.writeLogRd v s).Canonical := by
  unfold State.writeLogRd
  exact .ite h (.set_log Log.moveRd_ring h)

theorem State.norRelease_canon {s : State} (h : s.Canonical) : (State.norRelease s).Canonical := by
  unfold State.norRelease
  exact (by
    split
    · exact (.ite (State.norStart_canon h) h)
    · exact h)

theorem State.tcmError_canon {x0} {s : State} (h : s.Canonical) : (State.tcmError x0 s).Canonical := by
  unfold State.tcmError
  exact (by
    split
    · exact (State.report_canon (.set_fst id h))
    · exact (State.resetForester_canon (State.report_canon (.set_fst id h))))

theorem State.exception_canon {x0} {s : State} (h : s.Canonical) : (State.exception x0 s).Canonical := by
  unfold State.exception
  exact (by
    split
    · exact (State.report_canon (.set_fst id h))
    · exact (State.report_canon (.set_fst id h)))

theorem State.mbExpire_canon {s : State} (h : s.Canonical) : (State.mbExpire s).Canonical := by
  unfold State.mbExpire
  exact State.report_canon (.set_host_fst id h)

theorem State.norClosed_canon {s : State} (h : s.Canonical) : (State.norClosed s).Canonical := by
  unfold State.norClosed
  exact State.report_canon (.set_fst id h)

theorem State.norDone_canon {data} {s : State} (h : s.Canonical) : (State.norDone data s).Canonical := by
  unfold State.norDone
  exact (by
    split
    · exact (.ite h (State.report_canon (.set_regs_fst (fun k => ite_wf k (norFill_wf k)) id h)))
    · exact h)

theorem State.norGiveUp_canon {s : State} (h : s.Canonical) : (State.norGiveUp s).Canonical := by
  unfold State.norGiveUp
  exact .set_fst id h

theorem State.norTimeout_canon {s : State} (h : s.Canonical) : (State.norTimeout s).Canonical := by
  unfold State.norTimeout
  exact (by
    split
    · exact (.ite h (State.report_canon (.set_fst id h)))
    · exact h)

theorem State.senDone_canon {b good} {s : State} (h : s.Canonical) : (State.senDone b good s).Canonical := by
  unfold State.senDone
  exact (by
    split
    · exact h
    · exact (State.busNext_canon (State.report_canon (.set_regs_fst senEnd_wf id h))))

theorem execForesterException_canon {t e} {s : State} (h : s.Canonical) :
    CanonOut (execForesterException t e s) := by
  unfold execForesterException
  exact CanonOut.forester (fun _ h0 => (State.exception_canon h0)) h

theorem execForesterReset_canon {t cause} {s : State} (h : s.Canonical) :
    CanonOut (execForesterReset t cause s) := by
  unfold execForesterReset
  exact CanonOut.core (fun _ h0 => (State.resetForester_canon h0)) h

theorem execFpLogRd_canon {t v} {s : State} (h : s.Canonical) : CanonOut (execFpLogRd t v s) := by
  unfold execFpLogRd
  exact CanonOut.forester (fun _ h0 => (State.writeLogRd_canon h0)) h

theorem execFpMbDone_canon {t v} {s : State} (h : s.Canonical) : CanonOut (execFpMbDone t v s) := by
  unfold execFpMbDone
  exact CanonOut.forester (fun _ h0 => (State.writeMbDone_canon h0)) h

theorem execFpMbEvt_canon {t v} {s : State} (h : s.Canonical) : CanonOut (execFpMbEvt t v s) := by
  unfold execFpMbEvt
  exact CanonOut.forester (fun _ h0 => (State.writeMbEvt_canon h0)) h

theorem execLogAppendFirmware_canon {t v} {s : State} (h : s.Canonical) :
    CanonOut (execLogAppendFirmware t v s) := by
  unfold execLogAppendFirmware
  exact CanonOut.forester (fun _ h0 => (State.writeLogCode_canon h0)) h

theorem execLogExportRead_canon {t ch} {s : State} (h : s.Canonical) : CanonOut (execLogExportRead t ch s) := by
  unfold execLogExportRead
  exact CanonOut.core (fun _ h0 => (State.exportNext_canon (State.report_canon (.only State.chanBuf_only rfl h0)))) h

theorem execMailboxTimeout_canon {t} {s : State} (h : s.Canonical) : CanonOut (execMailboxTimeout t s) := by
  unfold execMailboxTimeout
  exact CanonOut.core (fun _ h0 => (.when (fun _ h1 => (State.mbExpire_canon h1)) h0)) h

theorem execSensorSclTimeout_canon {t bus} {s : State} (h : s.Canonical) :
    CanonOut (execSensorSclTimeout t bus s) := by
  unfold execSensorSclTimeout
  exact CanonOut.forester (fun _ h0 => (.when (fun _ h1 => (State.senDone_canon h1)) h0)) h

theorem execSensorSlotDue_canon {t n} {s : State} (h : s.Canonical) : CanonOut (execSensorSlotDue t n s) := by
  unfold execSensorSlotDue
  exact CanonOut.forester (fun _ h0 => (State.slotDue_canon h0)) h

theorem execSensorTransferDone_canon {t bus ack data} {s : State} (h : s.Canonical) :
    CanonOut (execSensorTransferDone t bus ack data s) := by
  unfold execSensorTransferDone
  exact CanonOut.forester (fun _ h0 => (State.senDone_canon h0)) h

theorem execSpiNorCommand_canon {t v} {s : State} (h : s.Canonical) : CanonOut (execSpiNorCommand t v s) := by
  unfold execSpiNorCommand
  exact CanonOut.forester (fun _ h0 => (State.writeNor_canon h0)) h

theorem execSwrst_canon {t v} {s : State} (h : s.Canonical) : CanonOut (execSwrst t v s) := by
  unfold execSwrst
  exact CanonOut.forester (fun _ h0 => (.when (fun _ h1 => (State.resetForester_canon h1)) h0)) h

theorem execTcmError_canon {t e} {s : State} (h : s.Canonical) : CanonOut (execTcmError t e s) := by
  unfold execTcmError
  exact CanonOut.forester (fun _ h0 => (State.tcmError_canon h0)) h

theorem execUartByteReceived_canon {t byte} {s : State} (h : s.Canonical) :
    CanonOut (execUartByteReceived t byte s) := by
  unfold execUartByteReceived
  exact CanonOut.forester (fun _ h0 => (State.report_canon (.set_fst
      (fun k => by rw [Forester.receive_tcm]; exact k) h0))) h

end Sys2Proof.Machine
end

