-- ==== Sys2Proof/Laws/OnlyIntake.lean ====
section
/-! SUPPORT. Which parts the functions of the intake and the composers change: one lemma for each. -/

namespace Sys2Proof.Machine

open Sys2Proof

theorem State.freeSide_only {q} {s : State} : Only [.intake] s (State.freeSide q s) := by
  unfold State.freeSide
  exact .app Only.set_intake rfl .refl

theorem State.setStream_only {st x} {s : State} : Only [.intake] s (State.setStream st x s) := by
  unfold State.setStream
  exact .app Only.set_intake rfl .refl

theorem State.stopComposing_only {u} {s : State} : Only [.surf, .comp] s (State.stopComposing u s) := by
  unfold State.stopComposing
  exact .app Only.set_surf_comp rfl .refl

theorem State.failFrame_only {st nx} {s : State} :
    Only [.now, .regs, .live, .surf, .intake, .comp, .flt, .out] s (State.failFrame st nx s) := by
  unfold State.failFrame
  exact (by
    dsimp only
    split
    · exact .refl
    · exact (.ite .refl (.app State.report_only rfl (Only.when (fun _ h0 => (.app State.stopComposing_only rfl h0))
        (.app State.setStream_only rfl .refl)))))

theorem State.settleFrame_only {st f ys} {s : State} :
    Only [.now, .regs, .live, .surf, .intake, .comp, .flt, .out] s (State.settleFrame st f ys s) := by
  unfold State.settleFrame
  exact .ite (.app State.failFrame_only rfl (.app State.report_only rfl (.app State.setStream_only rfl .refl)))
      (.ite (.app State.report_only rfl (.app State.setStream_only rfl (.app State.report_only rfl
      (.app State.setStream_only rfl .refl)))) (.app State.report_only rfl (.app State.setStream_only rfl .refl)))

theorem State.loseLine_only {st y} {s : State} :
    Only [.now, .regs, .live, .surf, .intake, .comp, .flt, .out] s (State.loseLine st y s) := by
  unfold State.loseLine
  exact (by
    split
    · exact (Only.when (fun _ h0 => (.app State.settleFrame_only rfl h0)) .refl)
    · exact .refl)

theorem State.takeLine_only {st f y full} {s : State} :
    Only [.now, .regs, .live, .surf, .intake, .comp, .flt, .out] s (State.takeLine st f y full s) := by
  unfold State.takeLine
  exact .ite (.app State.failFrame_only rfl .refl) (.ite (.app State.report_only rfl .refl) (.ite
      (.app State.settleFrame_only rfl (.app State.report_only rfl .refl)) (.app State.settleFrame_only rfl .refl)))

theorem State.replay_only {st x} {s : State} :
    Only [.now, .regs, .live, .surf, .intake, .comp, .flt, .out] s (State.replay st s x) := by
  unfold State.replay
  exact (by
    split
    · exact .refl
    · exact (.ite .refl (by
      split
      · exact (.ite (.app State.takeLine_only rfl .refl) (.app State.report_only rfl .refl))
      · exact (.app State.loseLine_only rfl .refl)
      · exact (.app State.settleFrame_only rfl .refl))))

theorem State.beginPeriod_only {st} {s : State} :
    Only [.now, .regs, .live, .surf, .intake, .comp, .flt, .out] s (State.beginPeriod st s) := by
  unfold State.beginPeriod
  exact (by
    dsimp only
    split
    · exact .refl
    · exact (.ite (.app State.setStream_only rfl .refl) (.ite (.app State.failFrame_only rfl
        (.app State.setStream_only rfl .refl)) (.foldl (.app State.setStream_only rfl .refl) (fun _ _ h0 =>
        (.app State.replay_only rfl h0))))))

theorem State.beginPeriods_only {u} {s : State} :
    Only [.now, .regs, .live, .surf, .intake, .comp, .flt, .out] s (State.beginPeriods u s) := by
  unfold State.beginPeriods
  exact .foldl .refl (fun _ _ h0 => (Only.when (fun _ h1 => (.app State.beginPeriod_only rfl h1)) h0))

theorem State.restartStream_only {st} {s : State} :
    Only [.now, .regs, .live, .intake, .flt, .out] s (State.restartStream st s) := by
  unfold State.restartStream
  exact .app State.report_only rfl (.app State.setStream_only rfl .refl)

theorem State.restartStreams_only {u old} {s : State} :
    Only [.now, .regs, .live, .intake, .flt, .out] s (State.restartStreams u old s) := by
  unfold State.restartStreams
  exact .foldl .refl (fun _ _ h0 => (Only.when (fun _ h1 => (.app State.restartStream_only rfl h1)) h0))

theorem State.early_only {st x} {s : State} : Only [.intake] s (State.early st x s) := by
  unfold State.early
  exact (by
    dsimp only
    split
    · exact (.ite (.app State.setStream_only rfl .refl) .refl)
    · exact .refl)

theorem State.earlyLine_only {st fn y full} {s : State} :
    Only [.now, .regs, .live, .intake, .flt, .out] s (State.earlyLine st fn y full s) := by
  unfold State.earlyLine
  exact .ite (.app State.early_only rfl (.app State.report_only rfl .refl)) (.app State.early_only rfl .refl)

theorem State.missed_only {st c x} {s : State} :
    Only [.now, .regs, .live, .intake, .flt, .out] s (State.missed st c x s) := by
  unfold State.missed
  exact .app State.report_only rfl (.app State.setStream_only rfl .refl)

theorem State.endPeriod_only {st} {s : State} :
    Only [.now, .regs, .live, .intake, .flt, .out] s (State.endPeriod st s) := by
  unfold State.endPeriod
  exact (by
    dsimp only
    split
    · exact (.ite (.app State.missed_only rfl .refl) (.ite (.app State.setStream_only rfl .refl)
        (.app State.report_only rfl (.app State.setStream_only rfl .refl))))
    · exact (.app State.missed_only rfl .refl))

theorem State.endPeriods_only {u} {s : State} :
    Only [.now, .regs, .live, .intake, .flt, .out] s (State.endPeriods u s) := by
  unfold State.endPeriods
  exact .foldl .refl (fun _ _ h0 => (Only.when (fun _ h1 => (.app State.endPeriod_only rfl h1)) h0))

theorem State.lineFailed_only {st hdr} {s : State} :
    Only [.now, .regs, .live, .surf, .intake, .comp, .flt, .out] s (State.lineFailed st hdr s) := by
  unfold State.lineFailed
  exact (by
    split
    · exact (.ite (.app State.early_only rfl .refl) (.app State.loseLine_only rfl .refl))
    · exact .refl)

theorem State.placeLine_only {st hdr data} {s : State} :
    Only [.now, .regs, .live, .surf, .intake, .comp, .flt, .out] s (State.placeLine st hdr data s) := by
  unfold State.placeLine
  exact (by
    dsimp only
    split
    · exact (.app State.earlyLine_only rfl .refl)
    · exact (by
      split
      · exact (.app State.takeLine_only rfl .refl)
      · exact .refl)
    · exact .refl
    · exact (.app State.report_only rfl .refl)
    · exact (.ite (.app State.earlyLine_only rfl .refl) (.app State.report_only rfl .refl)))

theorem State.linePacket_only {st hdr data e} {s : State} :
    Only [.now, .regs, .live, .surf, .intake, .comp, .flt, .out] s (State.linePacket st hdr data e s) := by
  unfold State.linePacket
  exact .ite (.app State.report_only rfl .refl) (.ite (.app State.lineFailed_only rfl
      (.app State.report_only rfl .refl)) (.ite (.app State.placeLine_only rfl (.app State.useInj_only rfl .refl))
      (.app State.report_only rfl (.app State.useInj_only rfl .refl))))

theorem State.failOpen_only {st} {s : State} :
    Only [.now, .regs, .live, .surf, .intake, .comp, .flt, .out] s (State.failOpen st s) := by
  unfold State.failOpen
  exact .app State.failFrame_only rfl (.app State.failFrame_only rfl .refl)

theorem State.frameEnd_only {st fn} {s : State} :
    Only [.now, .regs, .live, .surf, .intake, .comp, .flt, .out] s (State.frameEnd st fn s) := by
  unfold State.frameEnd
  exact (by
    dsimp only
    split
    · exact (.app State.early_only rfl .refl)
    · exact (by
      split
      · exact (.app State.settleFrame_only rfl .refl)
      · exact .refl)
    · exact (.app State.setStream_only rfl .refl)
    · exact .refl)

theorem State.openFrame_only {st nx fn lines} {s : State} :
    Only [.now, .regs, .live, .surf, .intake, .comp, .flt, .out] s (State.openFrame st nx fn lines s) := by
  unfold State.openFrame
  exact Only.when (fun _ h0 => (.app State.failFrame_only rfl h0)) (.app State.setStream_only rfl .refl)

theorem State.frameStart_only {st fn lines} {s : State} :
    Only [.now, .regs, .live, .surf, .intake, .comp, .flt, .out] s (State.frameStart st fn lines s) := by
  unfold State.frameStart
  exact .ite (.app State.report_only rfl (.app State.setStream_only rfl (.app State.setStream_only rfl
      (.app State.report_only rfl .refl)))) (.app State.openFrame_only rfl (.app State.setStream_only rfl
      (.app State.report_only rfl .refl)))

theorem State.plyError_only {st e} {s : State} :
    Only [.now, .regs, .live, .surf, .intake, .comp, .flt, .out] s (State.plyError st e s) := by
  unfold State.plyError
  exact (by
    split
    · exact (.app State.report_only rfl .refl)
    · exact (.app State.report_only rfl .refl)
    · exact (.app State.lineFailed_only rfl (.app State.report_only rfl .refl))
    · exact (.app State.report_only rfl .refl))

theorem State.setIntake_only {l x} {s : State} : Only [.intake] s (State.setIntake l x s) := by
  unfold State.setIntake
  exact .app Only.set_intake rfl .refl

theorem State.storeSide_only {st hdr data} {s : State} :
    Only [.now, .regs, .live, .intake, .flt, .out] s (State.storeSide st hdr data s) := by
  unfold State.storeSide
  exact .app State.report_only rfl (.app Only.set_intake rfl .refl)

theorem State.sidePacket_only {st hdr data e} {s : State} :
    Only [.now, .regs, .live, .intake, .flt, .out] s (State.sidePacket st hdr data e s) := by
  unfold State.sidePacket
  exact .ite (.app State.report_only rfl .refl) (.ite (.app State.report_only rfl .refl) (.ite
      (.app State.report_only rfl .refl) (.ite .refl (.ite (.app State.report_only rfl .refl) (.ite
      (.app State.report_only rfl (.app State.setStream_only rfl .refl)) (.app State.storeSide_only rfl .refl))))))

theorem execFrameEnd_only {t st blk} {s : State} :
    OnlyOut [.now, .regs, .live, .surf, .intake, .comp, .flt, .out] s (execFrameEnd t st blk s) := by
  unfold execFrameEnd
  exact OnlyOut.core rfl (fun _ h0 => (Only.when (fun _ h1 => (.app State.frameEnd_only rfl h1)) h0))

theorem execFrameStart_only {t st blk} {s : State} :
    OnlyOut [.now, .regs, .live, .surf, .intake, .comp, .flt, .out] s (execFrameStart t st blk s) := by
  unfold execFrameStart
  exact OnlyOut.core rfl (fun _ h0 => (Only.when (fun _ h1 => (.app State.frameStart_only rfl h1)) h0))

theorem execIntakeIdleTimeExpiry_only {t l} {s : State} :
    OnlyOut [.now, .intake] s (execIntakeIdleTimeExpiry t l s) := by
  unfold execIntakeIdleTimeExpiry
  exact OnlyOut.core rfl (fun _ h0 => (.app State.setIntake_only rfl h0))

theorem execIntakeLaneLockGain_only {t l w} {s : State} :
    OnlyOut [.now, .regs, .live, .intake, .flt, .out] s (execIntakeLaneLockGain t l w s) := by
  unfold execIntakeLaneLockGain
  exact OnlyOut.core rfl (fun _ h0 => (.app State.report_only rfl (.app State.setIntake_only rfl h0)))

theorem execIntakeLaneLockLoss_only {t l w} {s : State} :
    OnlyOut [.now, .regs, .live, .surf, .intake, .comp, .flt, .out] s (execIntakeLaneLockLoss t l w s) := by
  unfold execIntakeLaneLockLoss
  exact (OnlyOut.core rfl (fun _ h0 => (.ite (.app State.report_only rfl (.app State.setIntake_only rfl h0)) (by
    dsimp only
    split
    · exact (.app State.failOpen_only rfl (.app State.report_only rfl (.app State.report_only rfl
        (.app State.report_only rfl (.app State.setIntake_only rfl h0)))))
    · exact (.app State.report_only rfl (.app State.report_only rfl (.app State.setIntake_only rfl h0)))))))

theorem execPlyBlockError_only {t st e} {s : State} :
    OnlyOut [.now, .regs, .live, .surf, .intake, .comp, .flt, .out] s (execPlyBlockError t st e s) := by
  unfold execPlyBlockError
  exact OnlyOut.core rfl (fun _ h0 => (Only.when (fun _ h1 => (.app State.plyError_only rfl h1)) h0))

theorem State.takeAperture_only {ch q} {s : State} :
    Only [.now, .regs, .live, .intake, .dma, .flt, .out] s (State.takeAperture ch q s) := by
  unfold State.takeAperture
  exact .app State.freeSide_only rfl (.app State.report_only rfl (.app State.chanBuf_only rfl .refl))

theorem State.freesFirst_only {st} {s : State} :
    Only [.now, .regs, .live, .intake, .dma, .flt, .out] s (State.freesFirst st s) := by
  unfold State.freesFirst
  exact (Only.takeFirst rfl (fun _ => (by
      split
      · exact (.ite (.some (fun _ h0 => (.app State.takeAperture_only rfl h0))) .none)
      · exact .none)) .refl)

theorem execSidePacket_only {t st blocks} {s : State} :
    OnlyOut [.now, .regs, .live, .intake, .dma, .flt, .out] s (execSidePacket t st blocks s) := by
  unfold execSidePacket
  exact (OnlyOut.core rfl (fun _ h0 => (by
    split
    · exact (Only.when (fun _ h1 => (.app State.sidePacket_only rfl (.app State.freesFirst_only rfl h1))) h0)
    · exact h0)))

theorem execSidePacketApertureRead_only {t ch q} {s : State} :
    OnlyOut [.now, .regs, .live, .intake, .dma, .flt, .out] s (execSidePacketApertureRead t ch q s) := by
  unfold execSidePacketApertureRead
  exact OnlyOut.core rfl (fun _ h0 => (Only.once rfl (fun _ h1 => (.app State.takeAperture_only rfl h1)) h0))

theorem State.setLayer_only {n x} {s : State} : Only [.layer] s (State.setLayer n x s) := by
  unfold State.setLayer
  exact .app Only.set_layer rfl .refl

theorem State.urgency_only {n} {s : State} :
    Only [.now, .regs, .live, .layer, .flt, .out] s (State.urgency n s) := by
  unfold State.urgency
  exact .app State.report_only rfl (.app State.setLayer_only rfl .refl)

theorem State.beginLayers_only {u} {s : State} :
    Only [.now, .regs, .live, .layer, .flt, .out] s (State.beginLayers u s) := by
  unfold State.beginLayers
  exact .foldl .refl (fun _ _ h0 => (.ite (.app State.urgency_only rfl (.app State.setLayer_only rfl
      (.app State.setLayer_only rfl h0))) (.app State.setLayer_only rfl h0)))

theorem State.releaseLines_only {u} {s : State} : Only [.intake] s (State.releaseLines u s) := by
  unfold State.releaseLines
  exact .foldl .refl (fun _ _ h0 => (.ite (.app State.setStream_only rfl h0) h0))

theorem State.setComp_only {u x} {s : State} : Only [.comp] s (State.setComp u x s) := by
  unfold State.setComp
  exact .app Only.set_comp rfl .refl

theorem State.checkMesh_only {u y} {s : State} :
    Only [.now, .regs, .live, .surf, .comp, .flt, .out] s (State.checkMesh u y s) := by
  unfold State.checkMesh
  exact .ite .refl (.app State.report_only rfl (.app State.setComp_only rfl (.app State.withhold_only rfl .refl)))

theorem State.composeError_only {u x} {s : State} :
    Only [.now, .regs, .live, .surf, .comp, .fab, .pwr, .flt, .out] s (State.composeError u s x) := by
  unfold State.composeError
  exact (by
    dsimp only
    split
    · exact (.app State.withhold_only rfl (.app State.fabricError_only rfl .refl))
    · exact (.app State.setComp_only rfl (.app Only.set_fab rfl (.app State.withhold_only rfl
        (.app State.fabricError_only rfl .refl))))
    · exact (.app State.fabricError_only rfl .refl))

theorem State.composeErrors_only {u bundles} {s : State} :
    Only [.now, .regs, .live, .surf, .comp, .fab, .pwr, .flt, .out] s (State.composeErrors u bundles s) := by
  unfold State.composeErrors
  exact .foldl (.app State.disarm_only rfl .refl) (fun _ _ h0 => (.app State.composeError_only rfl h0))

theorem State.moveWindows_only {u y} {s : State} :
    Only [.now, .regs, .live, .layer, .flt, .out] s (State.moveWindows u y s) := by
  unfold State.moveWindows
  exact .foldl .refl (fun _ _ h0 => (.app State.urgency_only rfl (.app State.setLayer_only rfl h0)))

theorem State.lineDone_only {u} {s : State} :
    Only [.now, .regs, .live, .intake, .layer, .comp, .flt, .out] s (State.lineDone u s) := by
  unfold State.lineDone
  exact .app State.releaseLines_only rfl (Only.when (fun _ h0 => (.app State.moveWindows_only rfl h0))
      (.app State.setComp_only rfl .refl))

theorem State.markActive_only {n} {s : State} : Only [.layer] s (State.markActive s n) := by
  unfold State.markActive
  exact .app State.setLayer_only rfl .refl

theorem State.composeReady_only {u y vs bundles} {s : State} :
    Only [.now, .regs, .live, .bank0, .bank1, .calib, .surf, .intake, .layer, .comp, .fab, .corr, .pwr, .flt, .out]
      s (State.composeReady u y vs bundles s) := by
  unfold State.composeReady
  exact .app State.lineDone_only rfl (.app State.composeErrors_only rfl (.app State.correctLine_only rfl (.foldl
      (.app State.report_only rfl (.app State.checkMesh_only rfl .refl)) (fun _ _ h0 =>
      (.app State.markActive_only rfl h0)))))

theorem State.takeTurn_only {u} {s : State} : Only [.fab] s (State.takeTurn u s) := by
  unfold State.takeTurn
  exact .app Only.set_fab rfl .refl

theorem State.composeLine_only {u upsets bundles} {s : State} :
    Only [.now, .regs, .live, .bank0, .bank1, .health, .calib, .surf, .intake, .layer, .comp, .fab,
      .corr, .shade, .pwr, .flt, .glade, .out] s (State.composeLine u upsets bundles s) := by
  unfold State.composeLine
  exact .ite .refl (.ite (.app State.setComp_only rfl (.foldl .refl (fun _ _ h0 => (.app State.upset_only rfl h0))))
      (.ite (.foldl .refl (fun _ _ h0 => (.app State.upset_only rfl h0))) (.ite (.app State.lineDone_only rfl
      (.app State.setComp_only rfl (.app State.takeTurn_only rfl (.foldl .refl (fun _ _ h0 =>
      (.app State.upset_only rfl h0)))))) (.app State.composeReady_only rfl (.app State.takeTurn_only rfl
      (.foldl .refl (fun _ _ h0 => (.app State.upset_only rfl h0))))))))

theorem State.frameComplete_only {u} {s : State} : Only [.surf, .comp] s (State.frameComplete u s) := by
  unfold State.frameComplete
  exact .ite .refl (.app Only.set_surf rfl (.app State.setComp_only rfl .refl))

theorem State.packetIn_only {st blocks} {s : State} :
    Only [.now, .regs, .live, .surf, .intake, .comp, .flt, .out] s (State.packetIn st blocks s) := by
  unfold State.packetIn
  exact (by
    split
    · exact (Only.when (fun _ h0 => (.app State.releaseLines_only rfl (.app State.linePacket_only rfl h0))) .refl)
    · exact .refl)

theorem State.seeTag_only {n v} {s : State} :
    Only [.now, .regs, .live, .surf, .layer, .comp, .flt, .out] s (State.seeTag n v s) := by
  unfold State.seeTag
  exact .app State.report_only rfl (Only.when (fun _ h0 => (.app State.withhold_only rfl h0))
      (.app State.report_only rfl (.app State.setLayer_only rfl .refl)))

theorem State.fetchEnds_only {n r} {s : State} :
    Only [.now, .regs, .live, .host, .surf, .layer, .comp, .flt, .out] s (State.fetchEnds n r s) := by
  unfold State.fetchEnds
  exact (by
    dsimp only
    split
    · exact (.app State.report_only rfl (.app Only.set_host rfl .refl))
    · exact (by
      try dsimp only
      split
      · exact (.app State.urgency_only rfl (.app State.setLayer_only rfl (.app State.report_only rfl
          (.app Only.set_host rfl .refl))))
      · exact (.app State.seeTag_only rfl (.app State.setLayer_only rfl (.app State.report_only rfl
          (.app Only.set_host rfl .refl))))
      · exact (.app State.setLayer_only rfl (.app State.report_only rfl (.app Only.set_host rfl .refl)))))

theorem State.fetchComplete_only {slot} {s : State} :
    Only [.now, .regs, .live, .host, .surf, .layer, .comp, .flt, .out] s (State.fetchComplete slot s) := by
  unfold State.fetchComplete
  exact (by
    split
    · exact (.app State.fetchEnds_only rfl .refl)
    · exact .refl)

theorem State.fetchHost_only {n r} {s : State} :
    Only [.now, .regs, .live, .host, .layer, .flt, .out] s (State.fetchHost n r s) := by
  unfold State.fetchHost
  exact (by
    dsimp only
    split
    · exact (.app State.upRead_only rfl (.app State.setLayer_only rfl .refl))
    · exact (.app State.upRead_only rfl (.app State.setLayer_only rfl .refl)))

theorem State.fetchLine_only {n r} {s : State} :
    Only [.now, .regs, .live, .host, .layer, .flt, .out] s (State.fetchLine n r s) := by
  unfold State.fetchLine
  exact .ite (.app State.fetchHost_only rfl (.app State.setLayer_only rfl (Only.when (fun _ h0 =>
      (.app State.fetchHost_only rfl (.app State.setLayer_only rfl h0))) .refl))) (.app State.fetchHost_only rfl
      (.app State.setLayer_only rfl (.app State.fetchHost_only rfl (.app State.setLayer_only rfl (Only.when
      (fun _ h0 => (.app State.fetchHost_only rfl (.app State.setLayer_only rfl h0))) .refl)))))

theorem State.fetchStore_only {n r} {s : State} :
    Only [.now, .regs, .live, .surf, .layer, .comp, .flt, .out] s (State.fetchStore n r s) := by
  unfold State.fetchStore
  exact .ite (.app State.seeTag_only rfl (.app State.setLayer_only rfl .refl)) (.app State.urgency_only rfl
      (.app State.setLayer_only rfl (.app State.seeTag_only rfl (.app State.setLayer_only rfl .refl))))

theorem State.fetchesFirst_only {u} {s : State} :
    Only [.now, .regs, .live, .host, .surf, .layer, .comp, .flt, .out] s (State.fetchesFirst u s) := by
  unfold State.fetchesFirst
  exact (Only.takeFirst rfl (fun _ => (by
      split
      · exact (.ite (.some (fun _ h0 => (.app State.completion_only rfl h0))) .none)
      · exact (.ite (.some (fun _ h0 => (.app State.fetchComplete_only rfl h0))) .none)
      · exact .none)) .refl)

theorem State.issueFetch_only {n} {s : State} :
    Only [.now, .regs, .live, .host, .surf, .layer, .comp, .flt, .out] s (State.issueFetch n s) := by
  unfold State.issueFetch
  exact (.ite .refl (by
    split
    · exact .refl
    · exact (.ite (.app State.fetchStore_only rfl .refl) (.ite (.app State.fetchLine_only rfl .refl) .refl))))

theorem execBar2LayerStoreWrite_only {t x1 addr data} {s : State} :
    OnlyOut [.now, .layers] s (execBar2LayerStoreWrite t x1 addr data s) := by
  unfold execBar2LayerStoreWrite
  exact OnlyOut.core rfl (fun _ h0 => (.app Only.set_layers rfl h0))

theorem execComposeOutputLine_only {t u upsets bundles} {s : State} :
    OnlyOut [.now, .regs, .live, .host, .bank0, .bank1, .health, .calib, .surf, .intake, .layer, .comp,
      .fab, .corr, .shade, .pwr, .flt, .glade, .out] s (execComposeOutputLine t u upsets bundles s) := by
  unfold execComposeOutputLine
  exact OnlyOut.core rfl (fun _ h0 => (.app State.composeLine_only rfl (.app State.fetchesFirst_only rfl h0)))

theorem execFrameComplete_only {t u} {s : State} : OnlyOut [.now, .surf, .comp] s (execFrameComplete t u s) := by
  unfold execFrameComplete
  exact OnlyOut.core rfl (fun _ h0 => (Only.once rfl (fun _ h1 => (.app State.frameComplete_only rfl h1)) h0))

theorem execLineFetchComplete_only {t slot} {s : State} :
    OnlyOut [.now, .regs, .live, .host, .surf, .layer, .comp, .flt, .out] s (execLineFetchComplete t slot s) := by
  unfold execLineFetchComplete
  exact OnlyOut.core rfl (fun _ h0 => (Only.once rfl (fun _ h1 => (.app State.fetchComplete_only rfl h1)) h0))

theorem execLineFetchIssue_only {t slot} {s : State} :
    OnlyOut [.now, .regs, .live, .host, .surf, .layer, .comp, .flt, .out] s (execLineFetchIssue t slot s) := by
  unfold execLineFetchIssue
  exact OnlyOut.core rfl (fun _ h0 => (.app State.issueFetch_only rfl h0))

theorem execLinePacket_only {t st blocks} {s : State} :
    OnlyOut [.now, .regs, .live, .surf, .intake, .comp, .flt, .out] s (execLinePacket t st blocks s) := by
  unfold execLinePacket
  exact OnlyOut.core rfl (fun _ h0 => (Only.once rfl (fun _ h1 => (.app State.packetIn_only rfl h1)) h0))

end Sys2Proof.Machine
end

