-- ==== Sys2Proof/Laws/CanonIntake.lean ====
section
/-! SUPPORT. The intake and the composers keep the canonical forms: one lemma for each function. -/

namespace Sys2Proof.Machine

open Sys2Proof

theorem State.failFrame_canon {st nx} {s : State} (h : s.Canonical) : (State.failFrame st nx s).Canonical := by
  unfold State.failFrame
  exact (by
    dsimp only
    split
    · exact h
    · exact (.ite h (State.report_canon (.when (fun _ h0 => (.only State.stopComposing_only rfl h0))
        (.only State.setStream_only rfl h)))))

theorem State.settleFrame_canon {st f ys} {s : State} (h : s.Canonical) :
    (State.settleFrame st f ys s).Canonical := by
  unfold State.settleFrame
  exact .ite (State.failFrame_canon (State.report_canon (.only State.setStream_only rfl h))) (.ite
      (State.report_canon (.only State.setStream_only rfl (State.report_canon (.only State.setStream_only rfl h))))
      (State.report_canon (.only State.setStream_only rfl h)))

theorem State.loseLine_canon {st y} {s : State} (h : s.Canonical) : (State.loseLine st y s).Canonical := by
  unfold State.loseLine
  exact (by
    split
    · exact (.when (fun _ h0 => (State.settleFrame_canon h0)) h)
    · exact h)

theorem State.takeLine_canon {st f y full} {s : State} (h : s.Canonical) :
    (State.takeLine st f y full s).Canonical := by
  unfold State.takeLine
  exact .ite (State.failFrame_canon h) (.ite (State.report_canon h) (.ite (State.settleFrame_canon
      (State.report_canon h)) (State.settleFrame_canon h)))

theorem State.replay_canon {st x} {s : State} (h : s.Canonical) : (State.replay st s x).Canonical := by
  unfold State.replay
  exact (by
    split
    · exact h
    · exact (.ite h (by
      split
      · exact (.ite (State.takeLine_canon h) (State.report_canon h))
      · exact (State.loseLine_canon h)
      · exact (State.settleFrame_canon h))))

theorem State.beginPeriod_canon {st} {s : State} (h : s.Canonical) : (State.beginPeriod st s).Canonical := by
  unfold State.beginPeriod
  exact (by
    dsimp only
    split
    · exact h
    · exact (.ite (.only State.setStream_only rfl h) (.ite (State.failFrame_canon
        (.only State.setStream_only rfl h)) (.foldl (.only State.setStream_only rfl h) (fun _ _ h0 =>
        (State.replay_canon h0))))))

theorem State.beginPeriods_canon {u} {s : State} (h : s.Canonical) : (State.beginPeriods u s).Canonical := by
  unfold State.beginPeriods
  exact .foldl h (fun _ _ h0 => (.when (fun _ h1 => (State.beginPeriod_canon h1)) h0))

theorem State.restartStream_canon {st} {s : State} (h : s.Canonical) : (State.restartStream st s).Canonical := by
  unfold State.restartStream
  exact State.report_canon (.only State.setStream_only rfl h)

theorem State.restartStreams_canon {u old} {s : State} (h : s.Canonical) :
    (State.restartStreams u old s).Canonical := by
  unfold State.restartStreams
  exact .foldl h (fun _ _ h0 => (.when (fun _ h1 => (State.restartStream_canon h1)) h0))

theorem State.earlyLine_canon {st fn y full} {s : State} (h : s.Canonical) :
    (State.earlyLine st fn y full s).Canonical := by
  unfold State.earlyLine
  exact .ite (.only State.early_only rfl (State.report_canon h)) (.only State.early_only rfl h)

theorem State.missed_canon {st c x} {s : State} (h : s.Canonical) : (State.missed st c x s).Canonical := by
  unfold State.missed
  exact State.report_canon (.only State.setStream_only rfl h)

theorem State.endPeriod_canon {st} {s : State} (h : s.Canonical) : (State.endPeriod st s).Canonical := by
  unfold State.endPeriod
  exact (by
    dsimp only
    split
    · exact (.ite (State.missed_canon h) (.ite (.only State.setStream_only rfl h) (State.report_canon
        (.only State.setStream_only rfl h))))
    · exact (State.missed_canon h))

theorem State.endPeriods_canon {u} {s : State} (h : s.Canonical) : (State.endPeriods u s).Canonical := by
  unfold State.endPeriods
  exact .foldl h (fun _ _ h0 => (.when (fun _ h1 => (State.endPeriod_canon h1)) h0))

theorem State.lineFailed_canon {st hdr} {s : State} (h : s.Canonical) : (State.lineFailed st hdr s).Canonical := by
  unfold State.lineFailed
  exact (by
    split
    · exact (.ite (.only State.early_only rfl h) (State.loseLine_canon h))
    · exact h)

theorem State.placeLine_canon {st hdr data} {s : State} (h : s.Canonical) :
    (State.placeLine st hdr data s).Canonical := by
  unfold State.placeLine
  exact (by
    dsimp only
    split
    · exact (State.earlyLine_canon h)
    · exact (by
      split
      · exact (State.takeLine_canon h)
      · exact h)
    · exact h
    · exact (State.report_canon h)
    · exact (.ite (State.earlyLine_canon h) (State.report_canon h)))

theorem State.linePacket_canon {st hdr data e} {s : State} (h : s.Canonical) :
    (State.linePacket st hdr data e s).Canonical := by
  unfold State.linePacket
  exact .ite (State.report_canon h) (.ite (State.lineFailed_canon (State.report_canon h)) (.ite
      (State.placeLine_canon (State.useInj_canon h)) (State.report_canon (State.useInj_canon h))))

theorem State.failOpen_canon {st} {s : State} (h : s.Canonical) : (State.failOpen st s).Canonical := by
  unfold State.failOpen
  exact State.failFrame_canon (State.failFrame_canon h)

theorem State.frameEnd_canon {st fn} {s : State} (h : s.Canonical) : (State.frameEnd st fn s).Canonical := by
  unfold State.frameEnd
  exact (by
    dsimp only
    split
    · exact (.only State.early_only rfl h)
    · exact (by
      split
      · exact (State.settleFrame_canon h)
      · exact h)
    · exact (.only State.setStream_only rfl h)
    · exact h)

theorem State.openFrame_canon {st nx fn lines} {s : State} (h : s.Canonical) :
    (State.openFrame st nx fn lines s).Canonical := by
  unfold State.openFrame
  exact .when (fun _ h0 => (State.failFrame_canon h0)) (.only State.setStream_only rfl h)

theorem State.frameStart_canon {st fn lines} {s : State} (h : s.Canonical) :
    (State.frameStart st fn lines s).Canonical := by
  unfold State.frameStart
  exact .ite (State.report_canon (.only State.setStream_only rfl (.only State.setStream_only rfl
      (State.report_canon h)))) (State.openFrame_canon (.only State.setStream_only rfl (State.report_canon h)))

theorem State.plyError_canon {st e} {s : State} (h : s.Canonical) : (State.plyError st e s).Canonical := by
  unfold State.plyError
  exact (by
    split
    · exact (State.report_canon h)
    · exact (State.report_canon h)
    · exact (State.lineFailed_canon (State.report_canon h))
    · exact (State.report_canon h))

theorem State.storeSide_canon {st hdr data} {s : State} (h : s.Canonical) :
    (State.storeSide st hdr data s).Canonical := by
  unfold State.storeSide
  exact State.report_canon (.only Only.set_intake rfl h)

theorem State.sidePacket_canon {st hdr data e} {s : State} (h : s.Canonical) :
    (State.sidePacket st hdr data e s).Canonical := by
  unfold State.sidePacket
  exact .ite (State.report_canon h) (.ite (State.report_canon h) (.ite (State.report_canon h) (.ite h (.ite
      (State.report_canon h) (.ite (State.report_canon (.only State.setStream_only rfl h))
      (State.storeSide_canon h))))))

theorem execFrameEnd_canon {t st blk} {s : State} (h : s.Canonical) : CanonOut (execFrameEnd t st blk s) := by
  unfold execFrameEnd
  exact CanonOut.core (fun _ h0 => (.when (fun _ h1 => (State.frameEnd_canon h1)) h0)) h

theorem execFrameStart_canon {t st blk} {s : State} (h : s.Canonical) : CanonOut (execFrameStart t st blk s) := by
  unfold execFrameStart
  exact CanonOut.core (fun _ h0 => (.when (fun _ h1 => (State.frameStart_canon h1)) h0)) h

theorem execIntakeLaneLockGain_canon {t l w} {s : State} (h : s.Canonical) :
    CanonOut (execIntakeLaneLockGain t l w s) := by
  unfold execIntakeLaneLockGain
  exact CanonOut.core (fun _ h0 => (State.report_canon (.only State.setIntake_only rfl h0))) h

theorem execIntakeLaneLockLoss_canon {t l w} {s : State} (h : s.Canonical) :
    CanonOut (execIntakeLaneLockLoss t l w s) := by
  unfold execIntakeLaneLockLoss
  exact (CanonOut.core (fun _ h0 => (.ite (State.report_canon (.only State.setIntake_only rfl h0)) (by
    dsimp only
    split
    · exact (State.failOpen_canon (State.report_canon (State.report_canon (State.report_canon
        (.only State.setIntake_only rfl h0)))))
    · exact (State.report_canon (State.report_canon (.only State.setIntake_only rfl h0)))))) h)

theorem execPlyBlockError_canon {t st e} {s : State} (h : s.Canonical) : CanonOut (execPlyBlockError t st e s) := by
  unfold execPlyBlockError
  exact CanonOut.core (fun _ h0 => (.when (fun _ h1 => (State.plyError_canon h1)) h0)) h

theorem State.takeAperture_canon {ch q} {s : State} (h : s.Canonical) : (State.takeAperture ch q s).Canonical := by
  unfold State.takeAperture
  exact .only State.freeSide_only rfl (State.report_canon (.only State.chanBuf_only rfl h))

theorem State.freesFirst_canon {st} {s : State} (h : s.Canonical) : (State.freesFirst st s).Canonical := by
  unfold State.freesFirst
  exact (.takeFirst (fun _ => (by
      split
      · exact (.ite (.some (fun _ h0 => (State.takeAperture_canon h0))) .none)
      · exact .none)) h)

theorem execSidePacket_canon {t st blocks} {s : State} (h : s.Canonical) :
    CanonOut (execSidePacket t st blocks s) := by
  unfold execSidePacket
  exact (CanonOut.core (fun _ h0 => (by
    split
    · exact (.when (fun _ h1 => (State.sidePacket_canon (State.freesFirst_canon h1))) h0)
    · exact h0)) h)

theorem execSidePacketApertureRead_canon {t ch q} {s : State} (h : s.Canonical) :
    CanonOut (execSidePacketApertureRead t ch q s) := by
  unfold execSidePacketApertureRead
  exact CanonOut.core (fun _ h0 => (.once (fun _ h1 => (State.takeAperture_canon h1)) h0)) h

theorem State.urgency_canon {n} {s : State} (h : s.Canonical) : (State.urgency n s).Canonical := by
  unfold State.urgency
  exact State.report_canon (.only State.setLayer_only rfl h)

theorem State.beginLayers_canon {u} {s : State} (h : s.Canonical) : (State.beginLayers u s).Canonical := by
  unfold State.beginLayers
  exact .foldl h (fun _ _ h0 => (.ite (State.urgency_canon (.only State.setLayer_only rfl
      (.only State.setLayer_only rfl h0))) (.only State.setLayer_only rfl h0)))

theorem State.checkMesh_canon {u y} {s : State} (h : s.Canonical) : (State.checkMesh u y s).Canonical := by
  unfold State.checkMesh
  exact .ite h (State.report_canon (.only State.setComp_only rfl (.only State.withhold_only rfl h)))

theorem State.composeError_canon {u x} {s : State} (h : s.Canonical) : (State.composeError u s x).Canonical := by
  unfold State.composeError
  exact (by
    dsimp only
    split
    · exact (.only State.withhold_only rfl (State.fabricError_canon h))
    · exact (.only State.setComp_only rfl (.only Only.set_fab rfl (.only State.withhold_only rfl
        (State.fabricError_canon h))))
    · exact (State.fabricError_canon h))

theorem State.composeErrors_canon {u bundles} {s : State} (h : s.Canonical) :
    (State.composeErrors u bundles s).Canonical := by
  unfold State.composeErrors
  exact .foldl (.only State.disarm_only rfl h) (fun _ _ h0 => (State.composeError_canon h0))

theorem State.moveWindows_canon {u y} {s : State} (h : s.Canonical) : (State.moveWindows u y s).Canonical := by
  unfold State.moveWindows
  exact .foldl h (fun _ _ h0 => (State.urgency_canon (.only State.setLayer_only rfl h0)))

theorem State.lineDone_canon {u} {s : State} (h : s.Canonical) : (State.lineDone u s).Canonical := by
  unfold State.lineDone
  exact .only State.releaseLines_only rfl (.when (fun _ h0 => (State.moveWindows_canon h0))
      (.only State.setComp_only rfl h))

theorem State.composeReady_canon {u y vs bundles} {s : State} (h : s.Canonical) :
    (State.composeReady u y vs bundles s).Canonical := by
  unfold State.composeReady
  exact State.lineDone_canon (State.composeErrors_canon (State.correctLine_canon (.foldl (State.report_canon
      (State.checkMesh_canon h)) (fun _ _ h0 => (.only State.markActive_only rfl h0)))))

theorem State.composeLine_canon {u upsets bundles} {s : State} (h : s.Canonical) :
    (State.composeLine u upsets bundles s).Canonical := by
  unfold State.composeLine
  exact .ite h (.ite (.only State.setComp_only rfl (.foldl h (fun _ _ h0 => (State.upset_canon h0)))) (.ite
      (.foldl h (fun _ _ h0 => (State.upset_canon h0))) (.ite (State.lineDone_canon (.only State.setComp_only rfl
      (.only State.takeTurn_only rfl (.foldl h (fun _ _ h0 => (State.upset_canon h0)))))) (State.composeReady_canon
      (.only State.takeTurn_only rfl (.foldl h (fun _ _ h0 => (State.upset_canon h0))))))))

theorem State.packetIn_canon {st blocks} {s : State} (h : s.Canonical) :
    (State.packetIn st blocks s).Canonical := by
  unfold State.packetIn
  exact (by
    split
    · exact (.when (fun _ h0 => (.only State.releaseLines_only rfl (State.linePacket_canon h0))) h)
    · exact h)

theorem State.seeTag_canon {n v} {s : State} (h : s.Canonical) : (State.seeTag n v s).Canonical := by
  unfold State.seeTag
  exact State.report_canon (.when (fun _ h0 => (.only State.withhold_only rfl h0)) (State.report_canon
      (.only State.setLayer_only rfl h)))

theorem State.fetchEnds_canon {n r} {s : State} (h : s.Canonical) : (State.fetchEnds n r s).Canonical := by
  unfold State.fetchEnds
  exact (by
    dsimp only
    split
    · exact (State.report_canon (.only Only.set_host rfl h))
    · exact (by
      try dsimp only
      split
      · exact (State.urgency_canon (.only State.setLayer_only rfl (State.report_canon (.only Only.set_host rfl h))))
      · exact (State.seeTag_canon (.only State.setLayer_only rfl (State.report_canon (.only Only.set_host rfl h))))
      · exact (.only State.setLayer_only rfl (State.report_canon (.only Only.set_host rfl h)))))

theorem State.fetchComplete_canon {slot} {s : State} (h : s.Canonical) :
    (State.fetchComplete slot s).Canonical := by
  unfold State.fetchComplete
  exact (by
    split
    · exact (State.fetchEnds_canon h)
    · exact h)

theorem State.fetchHost_canon {n r} {s : State} (h : s.Canonical) : (State.fetchHost n r s).Canonical := by
  unfold State.fetchHost
  exact (by
    dsimp only
    split
    · exact (State.upRead_canon (.only State.setLayer_only rfl h))
    · exact (State.upRead_canon (.only State.setLayer_only rfl h)))

theorem State.fetchLine_canon {n r} {s : State} (h : s.Canonical) : (State.fetchLine n r s).Canonical := by
  unfold State.fetchLine
  exact .ite (State.fetchHost_canon (.only State.setLayer_only rfl (.when (fun _ h0 => (State.fetchHost_canon
      (.only State.setLayer_only rfl h0))) h))) (State.fetchHost_canon (.only State.setLayer_only rfl
      (State.fetchHost_canon (.only State.setLayer_only rfl (.when (fun _ h0 => (State.fetchHost_canon
      (.only State.setLayer_only rfl h0))) h)))))

theorem State.fetchStore_canon {n r} {s : State} (h : s.Canonical) : (State.fetchStore n r s).Canonical := by
  unfold State.fetchStore
  exact .ite (State.seeTag_canon (.only State.setLayer_only rfl h)) (State.urgency_canon
      (.only State.setLayer_only rfl (State.seeTag_canon (.only State.setLayer_only rfl h))))

theorem State.fetchesFirst_canon {u} {s : State} (h : s.Canonical) : (State.fetchesFirst u s).Canonical := by
  unfold State.fetchesFirst
  exact (.takeFirst (fun _ => (by
      split
      · exact (.ite (.some (fun _ h0 => (State.completion_canon h0))) .none)
      · exact (.ite (.some (fun _ h0 => (State.fetchComplete_canon h0))) .none)
      · exact .none)) h)

theorem State.issueFetch_canon {n} {s : State} (h : s.Canonical) : (State.issueFetch n s).Canonical := by
  unfold State.issueFetch
  exact (.ite h (by
    split
    · exact h
    · exact (.ite (State.fetchStore_canon h) (.ite (State.fetchLine_canon h) h))))

theorem execBar2LayerStoreWrite_canon {t x1 addr data} {s : State} (h : s.Canonical) :
    CanonOut (execBar2LayerStoreWrite t x1 addr data s) := by
  unfold execBar2LayerStoreWrite
  exact CanonOut.core (fun _ h0 => (.set_layers Store.write_wf h0)) h

theorem execComposeOutputLine_canon {t u upsets bundles} {s : State} (h : s.Canonical) :
    CanonOut (execComposeOutputLine t u upsets bundles s) := by
  unfold execComposeOutputLine
  exact CanonOut.core (fun _ h0 => (State.composeLine_canon (State.fetchesFirst_canon h0))) h

theorem execLineFetchComplete_canon {t slot} {s : State} (h : s.Canonical) :
    CanonOut (execLineFetchComplete t slot s) := by
  unfold execLineFetchComplete
  exact CanonOut.core (fun _ h0 => (.once (fun _ h1 => (State.fetchComplete_canon h1)) h0)) h

theorem execLineFetchIssue_canon {t slot} {s : State} (h : s.Canonical) :
    CanonOut (execLineFetchIssue t slot s) := by
  unfold execLineFetchIssue
  exact CanonOut.core (fun _ h0 => (State.issueFetch_canon h0)) h

theorem execLinePacket_canon {t st blocks} {s : State} (h : s.Canonical) :
    CanonOut (execLinePacket t st blocks s) := by
  unfold execLinePacket
  exact CanonOut.core (fun _ h0 => (.once (fun _ h1 => (State.packetIn_canon h1)) h0)) h

end Sys2Proof.Machine
end

