-- ==== Sys2Proof/Laws/OnlyStitcher.lean ====
section
/-! SUPPORT. Which parts the functions of the polls, the commit, the Stitcher and the frame boundary change: one lemma for each. -/

namespace Sys2Proof.Machine

open Sys2Proof

theorem State.sendRows_only {l} {s : State} :
    Only [.now, .regs, .live, .stream, .flt, .out] s (State.sendRows l s) := by
  unfold State.sendRows
  exact .foldl .refl (fun _ _ h0 => (.app State.sendRow_only rfl h0))

theorem State.acceptIdentity_only {p d} {s : State} :
    Only [.now, .regs, .live, .arr, .stream, .tile, .flt, .out] s (State.acceptIdentity p d s) := by
  unfold State.acceptIdentity
  exact (by
    split
    · exact .refl
    · exact (.ite (.app State.atemp_only rfl (.app State.sendRows_only rfl (.app State.setArr_only rfl .refl)))
        (.app State.report_only rfl (.app State.setArr_only rfl .refl))))

theorem State.acceptRegister_only {p d} {s : State} : Only [.now, .arr, .areq] s (State.acceptRegister p d s) := by
  unfold State.acceptRegister
  exact Only.when (fun _ h0 => (.app State.hit_only rfl (.app Only.set_areq rfl h0)))
      (.app State.setArr_only rfl .refl)

theorem State.faultEntry_only {e f} {s : State} :
    Only [.now, .regs, .live, .health, .healthSetAt, .healthSet, .healthSeen, .flt, .out]
      s (State.faultEntry e s f) := by
  unfold State.faultEntry
  exact (by
    dsimp only
    split
    · exact (.app State.report_only rfl .refl)
    · exact (Only.when (fun _ h0 => (.app State.setHealth_only rfl h0)) (.app State.report_only rfl .refl)))

theorem State.laneReport_only {a mask some cause l} {s : State} :
    Only [.now, .regs, .live, .skein, .lane, .stream, .flt, .out] s (State.laneReport a mask some cause s l) := by
  unfold State.laneReport
  exact .ite (.ite (.ite (.app State.setLane_only rfl .refl) (Only.when (fun _ h0 =>
      (.app State.enterDown_only rfl h0)) .refl)) (Only.when (fun _ h0 => (.app State.setLane_only rfl h0)) .refl))
      (Only.when (fun _ h0 => (.app State.loseLane_only rfl h0)) .refl)

theorem State.lockReport_only {e mask some cause} {s : State} :
    Only [.now, .regs, .live, .skein, .lane, .stream, .flt, .out] s (State.lockReport e mask some cause s) := by
  unfold State.lockReport
  exact .foldl .refl (fun _ _ h0 => (.app State.laneReport_only rfl h0))

theorem State.acceptStatus_only {p d} {s : State} :
    Only [.now, .regs, .live, .health, .healthSetAt, .healthSet, .healthSeen, .skein, .arr, .lane,
      .stream, .tile, .flt, .out] s (State.acceptStatus p d s) := by
  unfold State.acceptStatus
  exact (by
    split
    · exact .refl
    · exact (.app State.lockReport_only rfl (.app State.atemp_only rfl (.app Only.set_tile rfl (.foldl
        (.app State.report_only rfl (.app State.setArr_only rfl .refl)) (fun _ _ h0 =>
        (.app State.faultEntry_only rfl h0)))))))

theorem State.alert_only {b blk} {s : State} :
    Only [.now, .regs, .live, .skein, .arr, .lane, .stream, .flt, .out] s (State.alert b blk s) := by
  unfold State.alert
  exact (by
    split
    · exact (.app State.report_only rfl .refl)
    · exact (.app State.lockReport_only rfl (.app State.report_only rfl (.app State.setArr_only rfl .refl))))

theorem State.arrayLost_only {a} {s : State} :
    Only [.now, .regs, .live, .arr, .tile, .flt, .out] s (State.arrayLost a s) := by
  unfold State.arrayLost
  exact .app State.atemp_only rfl (.app State.report_only rfl (.app State.setArr_only rfl .refl))

theorem State.writeAcmd_only {v} {s : State} :
    Only [.now, .regs, .live, .areq, .stream, .flt, .out] s (State.writeAcmd v s) := by
  unfold State.writeAcmd
  exact .ite .refl (.app State.sendArw_only rfl (.app Only.set_areq rfl .refl))

theorem State.regTimeout_only {a} {s : State} :
    Only [.now, .regs, .live, .areq, .flt, .out] s (State.regTimeout a s) := by
  unfold State.regTimeout
  exact Only.when (fun _ h0 => (.app State.report_only rfl (.app Only.set_areq rfl h0))) .refl

theorem State.pollMissing_only {b} {s : State} :
    Only [.now, .regs, .live, .arr, .ret, .areq, .tile, .flt, .out] s (State.pollMissing b s) := by
  unfold State.pollMissing
  exact (by
    split
    · exact .refl
    · exact (.ite (.app State.setArr_only rfl (.app State.setRet_only rfl .refl)) (.app State.regTimeout_only rfl
        (Only.when (fun _ h0 => (.app State.arrayLost_only rfl h0)) (.app State.report_only rfl
        (.app State.setArr_only rfl (.app State.setRet_only rfl .refl)))))))

theorem State.discardReturn_only {b} {s : State} :
    Only [.now, .regs, .live, .arr, .ret, .areq, .tile, .flt, .out] s (State.discardReturn b s) := by
  unfold State.discardReturn
  exact .app State.pollMissing_only rfl (.app State.report_only rfl .refl)

theorem State.pastFirst_only {b} {s : State} : Only [.ret] s (State.pastFirst b s) := by
  unfold State.pastFirst
  exact .app State.setRet_only rfl .refl

theorem State.discardBlocks_only {b l} {s : State} :
    Only [.now, .regs, .live, .arr, .ret, .areq, .tile, .flt, .out] s (State.discardBlocks b l s) := by
  unfold State.discardBlocks
  exact (by
    split
    · exact (.app State.pastFirst_only rfl .refl)
    · exact (.ite (.app State.discardReturn_only rfl (.app State.pastFirst_only rfl .refl))
        (.app State.report_only rfl (.app State.pastFirst_only rfl .refl))))

theorem State.poll_only {b a} {s : State} :
    Only [.now, .regs, .live, .ret, .areq, .stream, .flt, .out] s (State.poll b a s) := by
  unfold State.poll
  exact (by
    split
    · exact .refl
    · exact (.ite (.app Only.set_areq rfl (.app State.setRet_only rfl (.app State.sendRow_only rfl .refl)))
        (.app State.setRet_only rfl (.app State.sendRow_only rfl .refl))))

theorem State.pollNext_only {b} {s : State} :
    Only [.now, .regs, .live, .ret, .areq, .stream, .flt, .out] s (State.pollNext b s) := by
  unfold State.pollNext
  exact (.ite .refl (by
    split
    · exact .refl
    · exact (.app State.poll_only rfl .refl)))

theorem State.receive_only {b l} {s : State} :
    Only [.now, .regs, .live, .health, .healthSetAt, .healthSet, .healthSeen, .skein, .arr, .ret,
      .areq, .lane, .stream, .tile, .flt, .out] s (State.receive b l s) := by
  unfold State.receive
  exact (by
    dsimp only
    split
    · exact (.app State.discardReturn_only rfl (.app State.pastFirst_only rfl .refl))
    · exact (by
      try dsimp only
      split
      · exact (.app State.discardReturn_only rfl (Only.when (fun _ h0 => (.app State.useInj_only rfl h0))
          (.app State.pastFirst_only rfl .refl)))
      · exact (.app State.regTimeout_only rfl (.ite (.app State.acceptStatus_only rfl (.app State.setRet_only rfl
          (Only.when (fun _ h0 => (.app State.useInj_only rfl h0)) (.app State.pastFirst_only rfl .refl)))) (.ite
          (.app State.acceptIdentity_only rfl (.app State.setRet_only rfl (Only.when (fun _ h0 =>
          (.app State.useInj_only rfl h0)) (.app State.pastFirst_only rfl .refl))))
          (.app State.acceptRegister_only rfl (.app State.setRet_only rfl (Only.when (fun _ h0 =>
          (.app State.useInj_only rfl h0)) (.app State.pastFirst_only rfl .refl)))))))))

theorem execArrayRegRead_only {t req v} {s : State} :
    OnlyOut [.now, .regs, .live, .areq, .stream, .flt, .out] s (execArrayRegRead t req v s) := by
  unfold execArrayRegRead
  exact OnlyOut.core rfl (fun _ h0 => (Only.access rfl (fun _ h1 => (.app State.writeAcmd_only rfl h1)) h0))

theorem execArrayRegWrite_only {t req v} {s : State} :
    OnlyOut [.now, .regs, .live, .areq, .stream, .flt, .out] s (execArrayRegWrite t req v s) := by
  unfold execArrayRegWrite
  exact OnlyOut.core rfl (fun _ h0 => (Only.access rfl (fun _ h1 => (.app State.writeAcmd_only rfl h1)) h0))

theorem execIdentityResponse_only {t b blocks} {s : State} :
    OnlyOut [.now, .regs, .live, .health, .healthSetAt, .healthSet, .healthSeen, .skein, .arr, .ret,
      .areq, .lane, .stream, .tile, .flt, .out] s (execIdentityResponse t b blocks s) := by
  unfold execIdentityResponse
  exact OnlyOut.core rfl (fun _ h0 => (.app State.receive_only rfl h0))

theorem execMissingPoll_only {t b} {s : State} :
    OnlyOut [.now, .regs, .live, .arr, .ret, .areq, .tile, .flt, .out] s (execMissingPoll t b s) := by
  unfold execMissingPoll
  exact OnlyOut.core rfl (fun _ h0 => (Only.when (fun _ h1 => (.app State.pollMissing_only rfl h1)) h0))

theorem execPollInterval_only {t b} {s : State} :
    OnlyOut [.now, .regs, .live, .ret, .areq, .stream, .flt, .out] s (execPollInterval t b s) := by
  unfold execPollInterval
  exact OnlyOut.core rfl (fun _ h0 => (.app State.pollNext_only rfl h0))

theorem execRegisterReadResponse_only {t b blocks} {s : State} :
    OnlyOut [.now, .regs, .live, .health, .healthSetAt, .healthSet, .healthSeen, .skein, .arr, .ret,
      .areq, .lane, .stream, .tile, .flt, .out] s (execRegisterReadResponse t b blocks s) := by
  unfold execRegisterReadResponse
  exact OnlyOut.core rfl (fun _ h0 => (.app State.receive_only rfl h0))

theorem execReturnBlockDiscard_only {t b blocks} {s : State} :
    OnlyOut [.now, .regs, .live, .arr, .ret, .areq, .tile, .flt, .out] s (execReturnBlockDiscard t b blocks s) := by
  unfold execReturnBlockDiscard
  exact OnlyOut.core rfl (fun _ h0 => (.app State.discardBlocks_only rfl h0))

theorem State.activate_only {m} {s : State} : Only [.regs, .cmt] s (State.activate m s) := by
  unfold State.activate
  exact .app Only.set_regs_cmt rfl .refl

theorem State.retLocks_only {s : State} : Only [.ret] s (State.retLocks s) := by
  unfold State.retLocks
  exact .foldl .refl (fun _ _ h0 => (Only.when (fun _ h1 => (.app State.setRet_only rfl h1)) h0))

theorem State.applySettings_only {m} {s : State} :
    Only [.now, .regs, .live, .skein, .arr, .ret, .lane, .stream, .fab, .cmt, .tile, .flt, .out]
      s (State.applySettings m s) := by
  unfold State.applySettings
  exact .app State.idleCheck_only rfl (.app State.meter_only rfl (.foldl (.app State.retLocks_only rfl (.foldl
      (.app State.renumber_only rfl (.app State.activate_only rfl (.app State.clearMoved_only rfl .refl)))
      (fun _ _ h0 => (.app State.laneSet_only rfl h0)))) (fun _ _ h0 => (.app State.coolArray_only rfl h0))))

theorem State.leaveSkeins_only {before} {s : State} : Only [.skein] s (State.leaveSkeins before s) := by
  unfold State.leaveSkeins
  exact .foldl .refl (fun _ _ h0 => (.app State.setSkein_only rfl h0))

theorem State.acceptCommit_only {s : State} :
    Only [.now, .regs, .live, .skein, .arr, .ret, .lane, .stream, .fab, .tb, .cmt, .tile, .flt, .log, .out]
      s (State.acceptCommit s) := by
  unfold State.acceptCommit
  exact .app State.logHw_only rfl (.app State.applySettings_only rfl (.app State.leaveSkeins_only rfl
      (.app Only.set_tb_cmt rfl .refl)))

theorem State.commitRanges_only {u} {s : State} :
    Only [.now, .regs, .live, .stream, .flt, .out] s (State.commitRanges u s) := by
  unfold State.commitRanges
  exact .foldl .refl (fun _ _ h0 => (.app State.sendRows_only rfl h0))

theorem State.writeCommit_only {v} {s : State} : Only [.now, .cmt] s (State.writeCommit v s) := by
  unfold State.writeCommit
  exact .ite (.app State.hit_only rfl (.app Only.set_cmt rfl .refl)) (.ite (.app State.hit_only rfl
      (.app Only.set_cmt rfl .refl)) (.app Only.set_cmt rfl .refl))

theorem State.capture_only {page n l} {s : State} : Only [.regs] s (State.capture page n l s) := by
  unfold State.capture
  exact .app Only.set_regs rfl .refl

theorem State.refuseCommit_only {l} {s : State} :
    Only [.now, .regs, .live, .cmt, .flt, .log, .out] s (State.refuseCommit l s) := by
  unfold State.refuseCommit
  exact .app State.logHw_only rfl (.app State.report_only rfl (.app Only.set_cmt rfl .refl))

theorem State.judge_only {s : State} :
    Only [.now, .regs, .live, .skein, .arr, .ret, .lane, .stream, .fab, .tb, .cmt, .tile, .flt, .log, .out]
      s (State.judge s) := by
  unfold State.judge
  exact .ite .refl (.ite (.app State.acceptCommit_only rfl .refl) (.app State.refuseCommit_only rfl .refl))

theorem State.tbBoundary_only {t} {s : State} :
    Only [.now, .regs, .live, .skein, .arr, .ret, .lane, .stream, .fab, .tb, .cmt, .tile, .flt, .log, .out]
      s (State.tbBoundary t s) := by
  unfold State.tbBoundary
  exact .app State.capture_only rfl (.app State.report_only rfl (.app Only.set_tb rfl (.app State.judge_only rfl
      (.app State.edgesFirst_only rfl .refl))))

theorem execTimeBaseBoundary_only {t} {s : State} :
    OnlyOut [.now, .regs, .live, .skein, .arr, .ret, .lane, .stream, .fab, .tb, .cmt, .tile, .flt, .log, .out]
      s (execTimeBaseBoundary t s) := by
  unfold execTimeBaseBoundary
  exact OnlyOut.core rfl (fun _ h0 => (Only.when (fun _ h1 => (.app State.tbBoundary_only rfl h1)) h0))

theorem execTopCommit_only {t req v} {s : State} :
    OnlyOut [.now, .regs, .live, .cmt, .flt, .out] s (execTopCommit t req v s) := by
  unfold execTopCommit
  exact OnlyOut.core rfl (fun _ h0 => (Only.access rfl (fun _ h1 => (.app State.writeCommit_only rfl h1)) h0))

theorem State.sendTimed_only {k lmask r} {s : State} :
    Only [.now, .free, .regs, .live, .stream, .flt, .out] s (State.sendTimed k lmask r s) := by
  unfold State.sendTimed
  exact .app State.spend_only rfl (.app State.sendRow_only rfl .refl)

theorem State.disarmShow_only {v k} {s : State} : Only [.fab] s (State.disarmShow v k s) := by
  unfold State.disarmShow
  exact Only.when (fun _ h0 => (.app State.disarm_only rfl h0)) .refl

theorem State.form_only {v k j ahead upsets bundles} {s : State} :
    Only [.now, .regs, .live, .bank0, .bank1, .health, .healthSeen, .clearQ, .calib, .surf, .skein,
      .fab, .corr, .shade, .pwr, .flt, .glade, .log, .out] s (State.form v k j ahead upsets bundles s) := by
  unfold State.form
  exact .app State.setSkein_only rfl (Only.when (fun _ h0 => (.app State.countHealth_only rfl h0))
      (.app State.checkList_only rfl (.app State.disarmShow_only rfl (.app State.readPlane_only rfl .refl))))

theorem State.cutoff_only {k upsets bundles} {s : State} :
    Only [.now, .regs, .live, .bank0, .bank1, .health, .healthSeen, .clearQ, .calib, .surf, .skein,
      .fab, .corr, .shade, .pwr, .flt, .glade, .log, .out] s (State.cutoff k upsets bundles s) := by
  unfold State.cutoff
  exact (.ite .refl (by
    split
    · exact (.ite (.app State.form_only rfl .refl) .refl)
    · exact .refl))

theorem State.darkRow_only {v k seq} {s : State} :
    Only [.now, .free, .regs, .live, .stream, .flt, .out] s (State.darkRow v k seq s) := by
  unfold State.darkRow
  exact .app State.sendTimed_only rfl .refl

theorem State.entrySkein_only {a b k} {s : State} :
    Only [.now, .free, .regs, .live, .skein, .stream, .flt, .out] s (State.entrySkein a b s k) := by
  unfold State.entrySkein
  exact .app State.setSkein_only rfl (.app State.darkRow_only rfl (.app State.stopPackets_only rfl .refl))

theorem State.fallbackEntry_only {u} {s : State} :
    Only [.now, .free, .regs, .live, .skein, .stream, .flt, .out] s (State.fallbackEntry u s) := by
  unfold State.fallbackEntry
  exact .foldl .refl (fun _ _ h0 => (.app State.entrySkein_only rfl h0))

theorem State.fallbackTiles_only {v} {s : State} :
    Only [.now, .regs, .live, .surf, .tile, .flt, .out] s (State.fallbackTiles v s) := by
  unfold State.fallbackTiles
  exact .app Only.set_surf rfl (.app State.tileStep_only rfl .refl)

theorem State.skipPlane_only {u k p} {s : State} :
    Only [.now, .regs, .live, .skein, .flt, .out] s (State.skipPlane u k p s) := by
  unfold State.skipPlane
  exact .ite (.app State.setSkein_only rfl .refl) (.app State.report_only rfl (.app State.setSkein_only rfl .refl))

theorem State.packetsFor_only {s : State} {a bits} : Only [.flt] s (s.packetsFor a bits).1 := by
  unfold State.packetsFor
  split
  · exact .foldl .refl (fun _ _ h => .app State.useInj_only rfl h)
  · exact .refl

theorem State.sendPlane_only {k lmask p idles} {s : State} :
    Only [.now, .regs, .live, .stream, .flt, .out] s (State.sendPlane k lmask p idles s) := by
  unfold State.sendPlane
  refine .app State.report_only rfl (.app State.queuePackets_only rfl ?_)
  suffices h : ∀ (xs : List (Fin 16 × List Bool)) (r : State × BitVec 16 × List Block66),
      Only [.now, .regs, .live, .stream, .flt, .out] s r.1 →
      Only [.now, .regs, .live, .stream, .flt, .out] s (xs.foldl (State.sendShare p.seq) r).1 from h _ _ .refl
  intro xs
  induction xs with
  | nil => exact fun _ h => h
  | cons y ys ih => exact fun r h => ih _ (.app State.packetsFor_only rfl h)

theorem State.startLoad_only {k p ticks idles} {s : State} :
    Only [.now, .regs, .live, .skein, .stream, .flt, .out] s (State.startLoad k p ticks idles s) := by
  unfold State.startLoad
  exact .app State.sendPlane_only rfl (.app State.setSkein_only rfl .refl)

theorem State.loadDue_only {k idles} {s : State} :
    Only [.now, .regs, .live, .health, .healthSeen, .clearQ, .skein, .stream, .flt, .out]
      s (State.loadDue k idles s) := by
  unfold State.loadDue
  exact (by
    dsimp only
    split
    · exact .refl
    · exact (by
      split
      · exact (.app State.setSkein_only rfl .refl)
      · exact (.ite .refl (.ite (.app State.skipPlane_only rfl .refl) (.app State.startLoad_only rfl .refl)))))

theorem State.noteSlack_only {u x} {s : State} : Only [.comp] s (State.noteSlack u x s) := by
  unfold State.noteSlack
  exact .app Only.set_comp rfl .refl

theorem State.resetSkein_only {k} {s : State} :
    Only [.now, .regs, .live, .skein, .stream, .flt, .out] s (State.resetSkein s k) := by
  unfold State.resetSkein
  exact .app State.setSkein_only rfl (.app State.bufferedOnly_only rfl .refl)

theorem State.resetShow_only {s : State} :
    Only [.now, .regs, .live, .skein, .stream, .flt, .out] s (State.resetShow s) := by
  unfold State.resetShow
  exact .foldl .refl (fun _ _ h0 => (.app State.resetSkein_only rfl h0))

theorem State.selectFall_only {u} {s : State} :
    Only [.now, .regs, .live, .surf, .skein, .arr, .lane, .stream, .flt, .out] s (State.selectFall u s) := by
  unfold State.selectFall
  exact .ite .refl (.app State.idleCheck_only rfl (.app Only.set_surf rfl .refl))

theorem State.selectRise_only {u} {s : State} :
    Only [.now, .free, .regs, .live, .surf, .skein, .arr, .lane, .stream, .flt, .out] s (State.selectRise u s) := by
  unfold State.selectRise
  exact .ite .refl (.ite (.app State.idleCheck_only rfl (.app Only.set_surf rfl .refl))
      (.app State.idleCheck_only rfl (.app State.fallbackEntry_only rfl (.app Only.set_surf rfl .refl))))

theorem State.shadeRequest_only {v kind} {s : State} : Only [.shade] s (State.shadeRequest v kind s) := by
  unfold State.shadeRequest
  exact (by
    split
    · exact (Only.when (fun _ h0 => (.app State.setShade_only rfl h0)) .refl)
    · exact .refl)

theorem State.showRow_only {v k y} {s : State} :
    Only [.now, .free, .regs, .live, .stream, .flt, .out] s (State.showRow v k y s) := by
  unfold State.showRow
  exact .app State.sendTimed_only rfl .refl

theorem State.showLoad_only {v k y} {s : State} :
    Only [.now, .free, .regs, .live, .stream, .flt, .out] s (State.showLoad v k y s) := by
  unfold State.showLoad
  exact .ite (.app State.showRow_only rfl .refl) (.app State.report_only rfl (.app State.darkRow_only rfl .refl))

theorem State.showExtra_only {v k} {s : State} :
    Only [.now, .free, .regs, .live, .skein, .stream, .flt, .out] s (State.showExtra v s k) := by
  unfold State.showExtra
  exact .foldl (.app State.setSkein_only rfl .refl) (fun _ _ h0 => (.app State.setSkein_only rfl
      (.app State.showLoad_only rfl h0)))

theorem State.showSkein_only {v i k} {s : State} :
    Only [.now, .free, .regs, .live, .skein, .stream, .flt, .out] s (State.showSkein v i s k) := by
  unfold State.showSkein
  exact (by
    dsimp only
    split
    · exact (.app State.setSkein_only rfl (.app State.showLoad_only rfl .refl))
    · exact (.app State.setSkein_only rfl (.app State.darkRow_only rfl .refl)))

theorem State.showPlane_only {v} {s : State} :
    Only [.now, .free, .regs, .live, .surf, .skein, .stream, .shade, .tile, .flt, .out]
      s (State.showPlane v s) := by
  unfold State.showPlane
  exact .app Only.set_surf rfl (Only.when (fun _ h0 => (.app State.fallbackTiles_only rfl h0))
      (.app State.shadeRequest_only rfl (.foldl .refl (fun _ _ h0 => (.app State.showSkein_only rfl h0)))))

theorem State.showDue_only {u fill} {s : State} :
    Only [.now, .free, .regs, .live, .surf, .skein, .stream, .comp, .shade, .tile, .flt, .out]
      s (State.showDue u fill s) := by
  unfold State.showDue
  exact Only.when (fun _ h0 => (.app State.showPlane_only rfl h0)) (.foldl (.app State.noteSlack_only rfl .refl)
      (fun _ _ h0 => (.app State.showExtra_only rfl h0)))

theorem State.spliceNow_only {v k p idles bundles} {s : State} :
    Only [.now, .regs, .live, .bank0, .bank1, .health, .healthSeen, .clearQ, .calib, .skein, .stream,
      .fab, .corr, .shade, .pwr, .flt, .glade, .log, .out] s (State.spliceNow v k p idles bundles s) := by
  unfold State.spliceNow
  exact .ite .refl (.app State.report_only rfl (Only.when (fun _ h0 => (.app State.sendPlane_only rfl h0))
      (.app State.setSkein_only rfl (.app State.checkList_only rfl (.app State.disarmShow_only rfl
      (.app State.readPlane_only rfl .refl))))))

theorem State.splice_only {k idles bundles} {s : State} :
    Only [.now, .regs, .live, .bank0, .bank1, .health, .healthSeen, .clearQ, .calib, .skein, .stream,
      .fab, .corr, .shade, .pwr, .flt, .glade, .log, .out] s (State.splice k idles bundles s) := by
  unfold State.splice
  exact (by
    split
    · exact (.app State.spliceNow_only rfl .refl)
    · exact .refl)

theorem execFallbackSelectFall_only {t u} {s : State} :
    OnlyOut [.now, .regs, .live, .surf, .skein, .arr, .lane, .stream, .flt, .out]
      s (execFallbackSelectFall t u s) := by
  unfold execFallbackSelectFall
  exact OnlyOut.core rfl (fun _ h0 => (Only.when (fun _ h1 => (.app State.selectFall_only rfl h1)) h0))

theorem execFallbackSelectRise_only {t u} {s : State} :
    OnlyOut [.now, .free, .regs, .live, .surf, .skein, .arr, .lane, .stream, .flt, .out]
      s (execFallbackSelectRise t u s) := by
  unfold execFallbackSelectRise
  exact OnlyOut.core rfl (fun _ h0 => (Only.when (fun _ h1 => (.app State.selectRise_only rfl h1)) h0))

theorem execPlaneCutoff_only {t k upsets bundles} {s : State} :
    OnlyOut [.now, .regs, .live, .bank0, .bank1, .health, .healthSeen, .clearQ, .calib, .surf, .skein,
      .fab, .corr, .shade, .pwr, .flt, .glade, .log, .out] s (execPlaneCutoff t k upsets bundles s) := by
  unfold execPlaneCutoff
  exact OnlyOut.core rfl (fun _ h0 => (.app State.cutoff_only rfl (.app State.takeUpsFirst_only rfl h0)))

theorem execPlaneLoadStart_only {t k idles} {s : State} :
    OnlyOut [.now, .regs, .live, .health, .healthSeen, .clearQ, .skein, .stream, .flt, .out]
      s (execPlaneLoadStart t k idles s) := by
  unfold execPlaneLoadStart
  exact OnlyOut.core rfl (fun _ h0 => (.app State.loadDue_only rfl h0))

theorem execPlaneShowInstant_only {t u fill} {s : State} :
    OnlyOut [.now, .free, .regs, .live, .surf, .skein, .stream, .comp, .shade, .tile, .flt, .out]
      s (execPlaneShowInstant t u fill s) := by
  unfold execPlaneShowInstant
  exact OnlyOut.core rfl (fun _ h0 => (.app State.showDue_only rfl h0))

theorem execSplice_only {t k idles bundles} {s : State} :
    OnlyOut [.now, .regs, .live, .bank0, .bank1, .health, .healthSeen, .clearQ, .calib, .skein,
      .stream, .fab, .corr, .shade, .pwr, .flt, .glade, .log, .out] s (execSplice t k idles bundles s) := by
  unfold execSplice
  exact OnlyOut.core rfl (fun _ h0 => (.app State.splice_only rfl h0))

theorem execTickRow_only {t k} {s : State} :
    OnlyOut [.now, .regs, .live, .stream, .flt, .out] s (execTickRow t k s) := by
  unfold execTickRow
  exact OnlyOut.core rfl (fun _ h0 => (.app State.sendRow_only rfl h0))

theorem State.commitDone_only {s : State} : Only [.now, .regs, .live, .cmt, .flt, .out] s (State.commitDone s) := by
  unfold State.commitDone
  exact .ite (.app State.report_only rfl (.app Only.set_cmt rfl .refl)) .refl

theorem State.phaseLit_only {u} {s : State} :
    Only [.now, .regs, .live, .top, .flt, .out] s (State.phaseLit u s) := by
  unfold State.phaseLit
  exact .ite (.app State.report_only rfl (.app State.keepAs_only rfl (.app Only.set_top rfl .refl))) .refl

theorem State.setSurf_only {u x} {s : State} : Only [.surf] s (State.setSurf u x s) := by
  unfold State.setSurf
  exact .app Only.set_surf rfl .refl

theorem State.applyCommit_only {u} {s : State} :
    Only [.now, .regs, .live, .top, .clk, .surf, .skein, .arr, .ret, .lane, .stream, .fab, .cmt, .tile, .flt, .out]
      s (State.applyCommit u s) := by
  unfold State.applyCommit
  exact .ite .refl (.app State.commitDone_only rfl (.app State.phaseLit_only rfl (.app Only.set_cmt rfl
      (.app State.produceSettings_only rfl (.app State.setSurf_only rfl (.app State.commitRanges_only rfl
      (.app State.applySettings_only rfl .refl)))))))

theorem State.beginCompose_only {u} {s : State} :
    Only [.now, .regs, .live, .surf, .intake, .layer, .comp, .fab, .flt, .out] s (State.beginCompose u s) := by
  unfold State.beginCompose
  exact .app State.releaseLines_only rfl (.app State.beginLayers_only rfl (Only.when (fun _ h0 =>
      (.app State.stopComposing_only rfl h0)) (.app State.beginPeriods_only rfl (.app State.restartStreams_only rfl
      (.app State.setSurf_only rfl (.app State.setComp_only rfl (.app Only.set_fab rfl .refl)))))))

theorem State.beginSkein_only {v before old k} {s : State} :
    Only [.skein] s (State.beginSkein v before old s k) := by
  unfold State.beginSkein
  exact .app State.setSkein_only rfl .refl

theorem State.beginSkeins_only {v before old} {s : State} : Only [.skein] s (State.beginSkeins v before old s) := by
  unfold State.beginSkeins
  exact .foldl (.foldl .refl (fun _ _ h0 => (.app State.setSkein_only rfl h0))) (fun _ _ h0 =>
      (.app State.beginSkein_only rfl h0))

theorem State.frameRanges_only {v} {s : State} :
    Only [.now, .regs, .live, .stream, .flt, .out] s (State.frameRanges v s) := by
  unfold State.frameRanges
  exact .foldl .refl (fun _ _ h0 => (.app State.sendRows_only rfl h0))

theorem State.comingRanges_only {v d} {s : State} :
    Only [.now, .regs, .live, .stream, .flt, .out] s (State.comingRanges v d s) := by
  unfold State.comingRanges
  exact Only.when (fun _ h0 => (.app State.frameRanges_only rfl h0)) .refl

theorem State.frameRows_only {u apply} {s : State} :
    Only [.now, .free, .regs, .live, .stream, .flt, .out] s (State.frameRows u apply s) := by
  unfold State.frameRows
  exact .foldl .refl (fun _ _ h0 => (.app State.sendTimed_only rfl h0))

theorem State.shadeFrame_only {v} {s : State} :
    Only [.now, .regs, .live, .shade, .flt, .out] s (State.shadeFrame v s) := by
  unfold State.shadeFrame
  exact .app State.report_only rfl (.app State.setShade_only rfl (Only.when (fun _ h0 => (Only.when (fun _ h1 =>
      (.app State.goStale_only rfl h1)) (.app State.setShade_only rfl h0))) .refl))

theorem State.takeSums_only {u} {s : State} :
    Only [.now, .regs, .live, .corr, .flt, .fst, .out] s (State.takeSums u s) := by
  unfold State.takeSums
  exact .app State.slotsAtFrame_only rfl (.app Only.set_corr rfl .refl)

theorem State.beginFrame_only {v d k per} {s : State} :
    Only [.now, .free, .regs, .live, .surf, .skein, .stream, .corr, .shade, .flt, .fst, .out]
      s (State.beginFrame v d k per s) := by
  unfold State.beginFrame
  exact .app State.shadeFrame_only rfl (.app State.frameRows_only rfl (.app State.beginSkeins_only rfl
      (.app State.report_only rfl (Only.when (fun _ h0 => (.app State.takeSums_only rfl h0))
      (.app State.setSurf_only rfl (Only.when (fun _ h0 => (.app State.comingRanges_only rfl h0)) .refl))))))

theorem State.clearPeriod_only {u first} {s : State} : Only [.corr] s (State.clearPeriod u first s) := by
  unfold State.clearPeriod
  exact .app Only.set_corr rfl .refl

theorem State.fadeBoundary_only {u} {s : State} :
    Only [.now, .regs, .live, .corr, .flt, .out] s (State.fadeBoundary u s) := by
  unfold State.fadeBoundary
  exact .app State.report_only rfl (.app Only.set_corr rfl .refl)

theorem State.gainBoundary_only {u a} {s : State} :
    Only [.now, .regs, .live, .corr, .flt, .out] s (State.gainBoundary u s a) := by
  unfold State.gainBoundary
  exact .app State.report_only rfl (.app Only.set_corr rfl .refl)

theorem State.tileBoundary_only {v} {s : State} :
    Only [.now, .regs, .live, .tile, .flt, .out] s (State.tileBoundary v s) := by
  unfold State.tileBoundary
  exact .ite .refl (.app State.tileStep_only rfl .refl)

theorem State.corrBoundary_only {v first lim tpar} {s : State} :
    Only [.now, .regs, .live, .corr, .tile, .flt, .out] s (State.corrBoundary v first lim tpar s) := by
  unfold State.corrBoundary
  exact .app State.report_only rfl (.app State.clearPeriod_only rfl (.foldl (.app State.fadeBoundary_only rfl
      (.app State.tileBoundary_only rfl (.app State.activateMap_only rfl .refl))) (fun _ _ h0 =>
      (.app State.gainBoundary_only rfl h0))))

theorem State.retire_only {u} {s : State} :
    Only [.now, .regs, .live, .surf, .cmt, .flt, .out] s (State.retire u s) := by
  unfold State.retire
  exact .ite .refl (.app State.report_only rfl (.app State.setSurf_only rfl (.app Only.set_cmt rfl .refl)))

theorem State.beginPeriodOf_only {v first lim tpar} {s : State} :
    Only [.now, .regs, .live, .top, .clk, .health, .healthSeen, .clearQ, .surf, .skein, .arr, .ret,
      .lane, .stream, .intake, .layer, .comp, .fab, .corr, .cmt, .dma, .tile, .flt, .out] s (State.beginPeriodOf v first lim tpar s) := by
  unfold State.beginPeriodOf
  exact .app Only.set_dma rfl (.app State.beginCompose_only rfl (.app State.corrBoundary_only rfl
      (.app State.applyClears_only rfl (.app State.retire_only rfl (.app State.applyCommit_only rfl .refl)))))

theorem State.captureAll_only {u} {s : State} : Only [.now, .regs, .live, .flt, .out] s (State.captureAll u s) := by
  unfold State.captureAll
  exact .foldl (.app State.report_only rfl .refl) (fun _ _ h0 => (.app State.capture_only rfl h0))

theorem State.endingFirst_only {u} {s : State} :
    Only [.now, .regs, .live, .surf, .intake, .comp, .corr, .flt, .out] s (State.endingFirst u s) := by
  unfold State.endingFirst
  exact (Only.takeFirst rfl (fun _ => (by
      split
      · exact (.ite (.some (fun _ h0 => (.app State.packetIn_only rfl h0))) .none)
      · exact (.ite (.some (fun _ h0 => (.app State.frameComplete_only rfl h0))) .none)
      · exact (.ite (.some (fun _ h0 => (.app State.mapWritten_only rfl h0))) .none)
      · exact .none)) .refl)

theorem State.frameBoundary_only {u} {s : State} :
    Only [.now, .free, .regs, .live, .top, .clk, .health, .healthSeen, .clearQ, .surf, .skein, .arr,
      .ret, .lane, .stream, .intake, .layer, .comp, .fab, .corr, .shade, .cmt, .dma, .tile, .flt, .glade, .fst, .log, .out] s (State.frameBoundary u s) := by
  unfold State.frameBoundary
  exact .app State.gladeSettle_only rfl (.app State.captureAll_only rfl (.app State.beginPeriodOf_only rfl
      (.app State.beginFrame_only rfl (.app State.endPeriods_only rfl (.app State.report_only rfl .refl)))))

theorem execSurfaceFrameBoundary_only {t u} {s : State} :
    OnlyOut [.now, .free, .regs, .live, .top, .clk, .health, .healthSeen, .clearQ, .surf, .skein, .arr,
      .ret, .lane, .stream, .intake, .layer, .comp, .fab, .corr, .shade, .cmt, .dma, .tile, .flt, .glade, .fst, .log, .out] s (execSurfaceFrameBoundary t u s) := by
  unfold execSurfaceFrameBoundary
  exact OnlyOut.core rfl (fun _ h0 => (Only.when (fun _ h1 => (.app State.frameBoundary_only rfl
      (.app State.endingFirst_only rfl h1))) h0))

end Sys2Proof.Machine
end

