-- ==== Sys2Proof/Laws/CanonStitcher.lean ====
section
/-! SUPPORT. The polls, the commit, the Stitcher and the frame boundary keep the canonical forms: one lemma for each function. -/

namespace Sys2Proof.Machine

open Sys2Proof

theorem State.sendRows_canon {l} {s : State} (h : s.Canonical) : (State.sendRows l s).Canonical := by
  unfold State.sendRows
  exact .foldl h (fun _ _ h0 => (State.sendRow_canon h0))

theorem State.acceptIdentity_canon {p d} {s : State} (h : s.Canonical) :
    (State.acceptIdentity p d s).Canonical := by
  unfold State.acceptIdentity
  exact (by
    split
    · exact h
    · exact (.ite (State.atemp_canon (State.sendRows_canon (.only State.setArr_only rfl h))) (State.report_canon
        (.only State.setArr_only rfl h))))

theorem State.faultEntry_canon {e f} {s : State} (h : s.Canonical) : (State.faultEntry e s f).Canonical := by
  unfold State.faultEntry
  exact (by
    dsimp only
    split
    · exact (State.report_canon h)
    · exact (.when (fun _ h0 => (State.setHealth_canon h0)) (State.report_canon h)))

theorem State.laneReport_canon {a mask some cause l} {s : State} (h : s.Canonical) :
    (State.laneReport a mask some cause s l).Canonical := by
  unfold State.laneReport
  exact .ite (.ite (.ite (.only State.setLane_only rfl h) (.when (fun _ h0 => (State.enterDown_canon h0)) h)) (.when
      (fun _ h0 => (.only State.setLane_only rfl h0)) h)) (.when (fun _ h0 => (State.loseLane_canon h0)) h)

theorem State.lockReport_canon {e mask some cause} {s : State} (h : s.Canonical) :
    (State.lockReport e mask some cause s).Canonical := by
  unfold State.lockReport
  exact .foldl h (fun _ _ h0 => (State.laneReport_canon h0))

theorem State.acceptStatus_canon {p d} {s : State} (h : s.Canonical) : (State.acceptStatus p d s).Canonical := by
  unfold State.acceptStatus
  exact (by
    split
    · exact h
    · exact (State.lockReport_canon (State.atemp_canon (.only Only.set_tile rfl (.foldl (State.report_canon
        (.only State.setArr_only rfl h)) (fun _ _ h0 => (State.faultEntry_canon h0)))))))

theorem State.alert_canon {b blk} {s : State} (h : s.Canonical) : (State.alert b blk s).Canonical := by
  unfold State.alert
  exact (by
    split
    · exact (State.report_canon h)
    · exact (State.lockReport_canon (State.report_canon (.only State.setArr_only rfl h))))

theorem State.arrayLost_canon {a} {s : State} (h : s.Canonical) : (State.arrayLost a s).Canonical := by
  unfold State.arrayLost
  exact State.atemp_canon (State.report_canon (.only State.setArr_only rfl h))

theorem State.writeAcmd_canon {v} {s : State} (h : s.Canonical) : (State.writeAcmd v s).Canonical := by
  unfold State.writeAcmd
  exact .ite h (State.sendArw_canon (.only Only.set_areq rfl h))

theorem State.regTimeout_canon {a} {s : State} (h : s.Canonical) : (State.regTimeout a s).Canonical := by
  unfold State.regTimeout
  exact .when (fun _ h0 => (State.report_canon (.only Only.set_areq rfl h0))) h

theorem State.pollMissing_canon {b} {s : State} (h : s.Canonical) : (State.pollMissing b s).Canonical := by
  unfold State.pollMissing
  exact (by
    split
    · exact h
    · exact (.ite (.only State.setArr_only rfl (.only State.setRet_only rfl h)) (State.regTimeout_canon (.when
        (fun _ h0 => (State.arrayLost_canon h0)) (State.report_canon (.only State.setArr_only rfl
        (.only State.setRet_only rfl h)))))))

theorem State.discardReturn_canon {b} {s : State} (h : s.Canonical) : (State.discardReturn b s).Canonical := by
  unfold State.discardReturn
  exact State.pollMissing_canon (State.report_canon h)

theorem State.discardBlocks_canon {b l} {s : State} (h : s.Canonical) : (State.discardBlocks b l s).Canonical := by
  unfold State.discardBlocks
  exact (by
    split
    · exact (.only State.pastFirst_only rfl h)
    · exact (.ite (State.discardReturn_canon (.only State.pastFirst_only rfl h)) (State.report_canon
        (.only State.pastFirst_only rfl h))))

theorem State.poll_canon {b a} {s : State} (h : s.Canonical) : (State.poll b a s).Canonical := by
  unfold State.poll
  exact (by
    split
    · exact h
    · exact (.ite (.only Only.set_areq rfl (.only State.setRet_only rfl (State.sendRow_canon h)))
        (.only State.setRet_only rfl (State.sendRow_canon h))))

theorem State.pollNext_canon {b} {s : State} (h : s.Canonical) : (State.pollNext b s).Canonical := by
  unfold State.pollNext
  exact (.ite h (by
    split
    · exact h
    · exact (State.poll_canon h)))

theorem State.receive_canon {b l} {s : State} (h : s.Canonical) : (State.receive b l s).Canonical := by
  unfold State.receive
  exact (by
    dsimp only
    split
    · exact (State.discardReturn_canon (.only State.pastFirst_only rfl h))
    · exact (by
      try dsimp only
      split
      · exact (State.discardReturn_canon (.when (fun _ h0 => (State.useInj_canon h0))
          (.only State.pastFirst_only rfl h)))
      · exact (State.regTimeout_canon (.ite (State.acceptStatus_canon (.only State.setRet_only rfl (.when
          (fun _ h0 => (State.useInj_canon h0)) (.only State.pastFirst_only rfl h)))) (.ite
          (State.acceptIdentity_canon (.only State.setRet_only rfl (.when (fun _ h0 => (State.useInj_canon h0))
          (.only State.pastFirst_only rfl h)))) (.only State.acceptRegister_only rfl (.only State.setRet_only rfl
          (.when (fun _ h0 => (State.useInj_canon h0)) (.only State.pastFirst_only rfl h)))))))))

theorem execArrayRegRead_canon {t req v} {s : State} (h : s.Canonical) : CanonOut (execArrayRegRead t req v s) := by
  unfold execArrayRegRead
  exact CanonOut.core (fun _ h0 => (.access (fun _ h1 => (State.writeAcmd_canon h1)) h0)) h

theorem execArrayRegWrite_canon {t req v} {s : State} (h : s.Canonical) :
    CanonOut (execArrayRegWrite t req v s) := by
  unfold execArrayRegWrite
  exact CanonOut.core (fun _ h0 => (.access (fun _ h1 => (State.writeAcmd_canon h1)) h0)) h

theorem execIdentityResponse_canon {t b blocks} {s : State} (h : s.Canonical) :
    CanonOut (execIdentityResponse t b blocks s) := by
  unfold execIdentityResponse
  exact CanonOut.core (fun _ h0 => (State.receive_canon h0)) h

theorem execMissingPoll_canon {t b} {s : State} (h : s.Canonical) : CanonOut (execMissingPoll t b s) := by
  unfold execMissingPoll
  exact CanonOut.core (fun _ h0 => (.when (fun _ h1 => (State.pollMissing_canon h1)) h0)) h

theorem execPollInterval_canon {t b} {s : State} (h : s.Canonical) : CanonOut (execPollInterval t b s) := by
  unfold execPollInterval
  exact CanonOut.core (fun _ h0 => (State.pollNext_canon h0)) h

theorem execRegisterReadResponse_canon {t b blocks} {s : State} (h : s.Canonical) :
    CanonOut (execRegisterReadResponse t b blocks s) := by
  unfold execRegisterReadResponse
  exact CanonOut.core (fun _ h0 => (State.receive_canon h0)) h

theorem execReturnBlockDiscard_canon {t b blocks} {s : State} (h : s.Canonical) :
    CanonOut (execReturnBlockDiscard t b blocks s) := by
  unfold execReturnBlockDiscard
  exact CanonOut.core (fun _ h0 => (State.discardBlocks_canon h0)) h

theorem State.activate_canon {m} {s : State} (h : s.Canonical) : (State.activate m s).Canonical := by
  unfold State.activate
  exact .set_regs_cmt (fun k => rsets_wf (v := fun _ _ => _) (rsets_wf (v := fun _ _ => _) k)) h

theorem State.applySettings_canon {m} {s : State} (h : s.Canonical) : (State.applySettings m s).Canonical := by
  unfold State.applySettings
  exact State.idleCheck_canon (.only State.meter_only rfl (.foldl (.only State.retLocks_only rfl (.foldl
      (State.renumber_canon (State.activate_canon (State.clearMoved_canon h))) (fun _ _ h0 =>
      (State.laneSet_canon h0)))) (fun _ _ h0 => (.only State.coolArray_only rfl h0))))

theorem State.acceptCommit_canon {s : State} (h : s.Canonical) : (State.acceptCommit s).Canonical := by
  unfold State.acceptCommit
  exact State.logHw_canon (State.applySettings_canon (.only State.leaveSkeins_only rfl (.only Only.set_tb_cmt rfl h)))

theorem State.commitRanges_canon {u} {s : State} (h : s.Canonical) : (State.commitRanges u s).Canonical := by
  unfold State.commitRanges
  exact .foldl h (fun _ _ h0 => (State.sendRows_canon h0))

theorem State.capture_canon {page n l} {s : State} (h : s.Canonical) : (State.capture page n l s).Canonical := by
  unfold State.capture
  exact .set_regs (fun k => rset_wf (rsets_wf (v := fun _ _ => _) k)) h

theorem State.refuseCommit_canon {l} {s : State} (h : s.Canonical) : (State.refuseCommit l s).Canonical := by
  unfold State.refuseCommit
  exact State.logHw_canon (State.report_canon (.only Only.set_cmt rfl h))

theorem State.judge_canon {s : State} (h : s.Canonical) : (State.judge s).Canonical := by
  unfold State.judge
  exact .ite h (.ite (State.acceptCommit_canon h) (State.refuseCommit_canon h))

theorem State.tbBoundary_canon {t} {s : State} (h : s.Canonical) : (State.tbBoundary t s).Canonical := by
  unfold State.tbBoundary
  exact State.capture_canon (State.report_canon (.only Only.set_tb rfl (State.judge_canon
      (State.edgesFirst_canon h))))

theorem execTimeBaseBoundary_canon {t} {s : State} (h : s.Canonical) : CanonOut (execTimeBaseBoundary t s) := by
  unfold execTimeBaseBoundary
  exact CanonOut.core (fun _ h0 => (.when (fun _ h1 => (State.tbBoundary_canon h1)) h0)) h

theorem execTopCommit_canon {t req v} {s : State} (h : s.Canonical) : CanonOut (execTopCommit t req v s) := by
  unfold execTopCommit
  exact CanonOut.core (fun _ h0 => (.access (fun _ h1 => (.only State.writeCommit_only rfl h1)) h0)) h

theorem State.sendTimed_canon {k lmask r} {s : State} (h : s.Canonical) :
    (State.sendTimed k lmask r s).Canonical := by
  unfold State.sendTimed
  exact .only State.spend_only rfl (State.sendRow_canon h)

theorem State.form_canon {v k j ahead upsets bundles} {s : State} (h : s.Canonical) :
    (State.form v k j ahead upsets bundles s).Canonical := by
  unfold State.form
  exact .only State.setSkein_only rfl (.when (fun _ h0 => (State.countHealth_canon h0)) (State.checkList_canon
      (.only State.disarmShow_only rfl (State.readPlane_canon h))))

theorem State.cutoff_canon {k upsets bundles} {s : State} (h : s.Canonical) :
    (State.cutoff k upsets bundles s).Canonical := by
  unfold State.cutoff
  exact (.ite h (by
    split
    · exact (.ite (State.form_canon h) h)
    · exact h))

theorem State.darkRow_canon {v k seq} {s : State} (h : s.Canonical) : (State.darkRow v k seq s).Canonical := by
  unfold State.darkRow
  exact State.sendTimed_canon h

theorem State.entrySkein_canon {a b k} {s : State} (h : s.Canonical) : (State.entrySkein a b s k).Canonical := by
  unfold State.entrySkein
  exact .only State.setSkein_only rfl (State.darkRow_canon (State.stopPackets_canon h))

theorem State.fallbackEntry_canon {u} {s : State} (h : s.Canonical) : (State.fallbackEntry u s).Canonical := by
  unfold State.fallbackEntry
  exact .foldl h (fun _ _ h0 => (State.entrySkein_canon h0))

theorem State.fallbackTiles_canon {v} {s : State} (h : s.Canonical) : (State.fallbackTiles v s).Canonical := by
  unfold State.fallbackTiles
  exact .only Only.set_surf rfl (State.tileStep_canon h)

theorem State.skipPlane_canon {u k p} {s : State} (h : s.Canonical) : (State.skipPlane u k p s).Canonical := by
  unfold State.skipPlane
  exact .ite (.only State.setSkein_only rfl h) (State.report_canon (.only State.setSkein_only rfl h))

theorem State.packetsFor_canon {s : State} {a bits} (h : s.Canonical) : (s.packetsFor a bits).1.Canonical := by
  unfold State.packetsFor
  split
  · exact .foldl h (fun _ _ k => State.useInj_canon k)
  · exact h

theorem State.sendPlane_canon {k lmask p idles} {s : State} (h : s.Canonical) :
    (State.sendPlane k lmask p idles s).Canonical := by
  unfold State.sendPlane
  exact State.report_canon (State.queuePackets_canon (foldl_keeps
    (P := fun r : State × BitVec 16 × List Block66 => r.1.Canonical) h (fun _ _ q => State.packetsFor_canon q)))

theorem State.startLoad_canon {k p ticks idles} {s : State} (h : s.Canonical) :
    (State.startLoad k p ticks idles s).Canonical := by
  unfold State.startLoad
  exact State.sendPlane_canon (.only State.setSkein_only rfl h)

theorem State.loadDue_canon {k idles} {s : State} (h : s.Canonical) : (State.loadDue k idles s).Canonical := by
  unfold State.loadDue
  exact (by
    dsimp only
    split
    · exact h
    · exact (by
      split
      · exact (.only State.setSkein_only rfl h)
      · exact (.ite h (.ite (State.skipPlane_canon h) (State.startLoad_canon h)))))

theorem State.resetSkein_canon {k} {s : State} (h : s.Canonical) : (State.resetSkein s k).Canonical := by
  unfold State.resetSkein
  exact .only State.setSkein_only rfl (State.bufferedOnly_canon h)

theorem State.resetShow_canon {s : State} (h : s.Canonical) : (State.resetShow s).Canonical := by
  unfold State.resetShow
  exact .foldl h (fun _ _ h0 => (State.resetSkein_canon h0))

theorem State.selectFall_canon {u} {s : State} (h : s.Canonical) : (State.selectFall u s).Canonical := by
  unfold State.selectFall
  exact .ite h (State.idleCheck_canon (.only Only.set_surf rfl h))

theorem State.selectRise_canon {u} {s : State} (h : s.Canonical) : (State.selectRise u s).Canonical := by
  unfold State.selectRise
  exact .ite h (.ite (State.idleCheck_canon (.only Only.set_surf rfl h)) (State.idleCheck_canon
      (State.fallbackEntry_canon (.only Only.set_surf rfl h))))

theorem State.showRow_canon {v k y} {s : State} (h : s.Canonical) : (State.showRow v k y s).Canonical := by
  unfold State.showRow
  exact State.sendTimed_canon h

theorem State.showLoad_canon {v k y} {s : State} (h : s.Canonical) : (State.showLoad v k y s).Canonical := by
  unfold State.showLoad
  exact .ite (State.showRow_canon h) (State.report_canon (State.darkRow_canon h))

theorem State.showExtra_canon {v k} {s : State} (h : s.Canonical) : (State.showExtra v s k).Canonical := by
  unfold State.showExtra
  exact .foldl (.only State.setSkein_only rfl h) (fun _ _ h0 => (.only State.setSkein_only rfl
      (State.showLoad_canon h0)))

theorem State.showSkein_canon {v i k} {s : State} (h : s.Canonical) : (State.showSkein v i s k).Canonical := by
  unfold State.showSkein
  exact (by
    dsimp only
    split
    · exact (.only State.setSkein_only rfl (State.showLoad_canon h))
    · exact (.only State.setSkein_only rfl (State.darkRow_canon h)))

theorem State.showPlane_canon {v} {s : State} (h : s.Canonical) : (State.showPlane v s).Canonical := by
  unfold State.showPlane
  exact .only Only.set_surf rfl (.when (fun _ h0 => (State.fallbackTiles_canon h0))
      (.only State.shadeRequest_only rfl (.foldl h (fun _ _ h0 => (State.showSkein_canon h0)))))

theorem State.showDue_canon {u fill} {s : State} (h : s.Canonical) : (State.showDue u fill s).Canonical := by
  unfold State.showDue
  exact .when (fun _ h0 => (State.showPlane_canon h0)) (.foldl (.only State.noteSlack_only rfl h) (fun _ _ h0 =>
      (State.showExtra_canon h0)))

theorem State.spliceNow_canon {v k p idles bundles} {s : State} (h : s.Canonical) :
    (State.spliceNow v k p idles bundles s).Canonical := by
  unfold State.spliceNow
  exact .ite h (State.report_canon (.when (fun _ h0 => (State.sendPlane_canon h0)) (.only State.setSkein_only rfl
      (State.checkList_canon (.only State.disarmShow_only rfl (State.readPlane_canon h))))))

theorem State.splice_canon {k idles bundles} {s : State} (h : s.Canonical) :
    (State.splice k idles bundles s).Canonical := by
  unfold State.splice
  exact (by
    split
    · exact (State.spliceNow_canon h)
    · exact h)

theorem execFallbackSelectFall_canon {t u} {s : State} (h : s.Canonical) :
    CanonOut (execFallbackSelectFall t u s) := by
  unfold execFallbackSelectFall
  exact CanonOut.core (fun _ h0 => (.when (fun _ h1 => (State.selectFall_canon h1)) h0)) h

theorem execFallbackSelectRise_canon {t u} {s : State} (h : s.Canonical) :
    CanonOut (execFallbackSelectRise t u s) := by
  unfold execFallbackSelectRise
  exact CanonOut.core (fun _ h0 => (.when (fun _ h1 => (State.selectRise_canon h1)) h0)) h

theorem execPlaneCutoff_canon {t k upsets bundles} {s : State} (h : s.Canonical) :
    CanonOut (execPlaneCutoff t k upsets bundles s) := by
  unfold execPlaneCutoff
  exact CanonOut.core (fun _ h0 => (State.cutoff_canon (State.takeUpsFirst_canon h0))) h

theorem execPlaneLoadStart_canon {t k idles} {s : State} (h : s.Canonical) :
    CanonOut (execPlaneLoadStart t k idles s) := by
  unfold execPlaneLoadStart
  exact CanonOut.core (fun _ h0 => (State.loadDue_canon h0)) h

theorem execPlaneShowInstant_canon {t u fill} {s : State} (h : s.Canonical) :
    CanonOut (execPlaneShowInstant t u fill s) := by
  unfold execPlaneShowInstant
  exact CanonOut.core (fun _ h0 => (State.showDue_canon h0)) h

theorem execSplice_canon {t k idles bundles} {s : State} (h : s.Canonical) :
    CanonOut (execSplice t k idles bundles s) := by
  unfold execSplice
  exact CanonOut.core (fun _ h0 => (State.splice_canon h0)) h

theorem execTickRow_canon {t k} {s : State} (h : s.Canonical) : CanonOut (execTickRow t k s) := by
  unfold execTickRow
  exact CanonOut.core (fun _ h0 => (State.sendRow_canon h0)) h

theorem State.commitDone_canon {s : State} (h : s.Canonical) : (State.commitDone s).Canonical := by
  unfold State.commitDone
  exact .ite (State.report_canon (.only Only.set_cmt rfl h)) h

theorem State.phaseLit_canon {u} {s : State} (h : s.Canonical) : (State.phaseLit u s).Canonical := by
  unfold State.phaseLit
  exact .ite (State.report_canon (.only State.keepAs_only rfl (.only Only.set_top rfl h))) h

theorem State.applyCommit_canon {u} {s : State} (h : s.Canonical) : (State.applyCommit u s).Canonical := by
  unfold State.applyCommit
  exact .ite h (State.commitDone_canon (State.phaseLit_canon (.only Only.set_cmt rfl
      (.only State.produceSettings_only rfl (.only State.setSurf_only rfl (State.commitRanges_canon
      (State.applySettings_canon h)))))))

theorem State.beginCompose_canon {u} {s : State} (h : s.Canonical) : (State.beginCompose u s).Canonical := by
  unfold State.beginCompose
  exact .only State.releaseLines_only rfl (State.beginLayers_canon (.when (fun _ h0 =>
      (.only State.stopComposing_only rfl h0)) (State.beginPeriods_canon (State.restartStreams_canon
      (.only State.setSurf_only rfl (.only State.setComp_only rfl (.only Only.set_fab rfl h)))))))

theorem State.frameRanges_canon {v} {s : State} (h : s.Canonical) : (State.frameRanges v s).Canonical := by
  unfold State.frameRanges
  exact .foldl h (fun _ _ h0 => (State.sendRows_canon h0))

theorem State.comingRanges_canon {v d} {s : State} (h : s.Canonical) : (State.comingRanges v d s).Canonical := by
  unfold State.comingRanges
  exact .when (fun _ h0 => (State.frameRanges_canon h0)) h

theorem State.frameRows_canon {u apply} {s : State} (h : s.Canonical) : (State.frameRows u apply s).Canonical := by
  unfold State.frameRows
  exact .foldl h (fun _ _ h0 => (State.sendTimed_canon h0))

theorem State.shadeFrame_canon {v} {s : State} (h : s.Canonical) : (State.shadeFrame v s).Canonical := by
  unfold State.shadeFrame
  exact State.report_canon (.only State.setShade_only rfl (.when (fun _ h0 => (.when (fun _ h1 =>
      (State.goStale_canon h1)) (.only State.setShade_only rfl h0))) h))

theorem State.takeSums_canon {u} {s : State} (h : s.Canonical) : (State.takeSums u s).Canonical := by
  unfold State.takeSums
  exact State.slotsAtFrame_canon (.set_corr id id h)

theorem State.beginFrame_canon {v d k per} {s : State} (h : s.Canonical) :
    (State.beginFrame v d k per s).Canonical := by
  unfold State.beginFrame
  exact State.shadeFrame_canon (State.frameRows_canon (.only State.beginSkeins_only rfl (State.report_canon (.when
      (fun _ h0 => (State.takeSums_canon h0)) (.only State.setSurf_only rfl (.when (fun _ h0 =>
      (State.comingRanges_canon h0)) h))))))

theorem State.clearPeriod_canon {u first} {s : State} (h : s.Canonical) :
    (State.clearPeriod u first s).Canonical := by
  unfold State.clearPeriod
  exact .set_corr id id h

theorem State.fadeBoundary_canon {u} {s : State} (h : s.Canonical) : (State.fadeBoundary u s).Canonical := by
  unfold State.fadeBoundary
  exact State.report_canon (.set_corr id id h)

theorem State.gainBoundary_canon {u a} {s : State} (h : s.Canonical) : (State.gainBoundary u s a).Canonical := by
  unfold State.gainBoundary
  exact State.report_canon (.set_corr id id h)

theorem State.tileBoundary_canon {v} {s : State} (h : s.Canonical) : (State.tileBoundary v s).Canonical := by
  unfold State.tileBoundary
  exact .ite h (State.tileStep_canon h)

theorem State.corrBoundary_canon {v first lim tpar} {s : State} (h : s.Canonical) :
    (State.corrBoundary v first lim tpar s).Canonical := by
  unfold State.corrBoundary
  exact State.report_canon (State.clearPeriod_canon (.foldl (State.fadeBoundary_canon (State.tileBoundary_canon
      (State.activateMap_canon h))) (fun _ _ h0 => (State.gainBoundary_canon h0))))

theorem State.retire_canon {u} {s : State} (h : s.Canonical) : (State.retire u s).Canonical := by
  unfold State.retire
  exact .ite h (State.report_canon (.only State.setSurf_only rfl (.only Only.set_cmt rfl h)))

theorem State.beginPeriodOf_canon {v first lim tpar} {s : State} (h : s.Canonical) :
    (State.beginPeriodOf v first lim tpar s).Canonical := by
  unfold State.beginPeriodOf
  exact .only Only.set_dma rfl (State.beginCompose_canon (State.corrBoundary_canon (State.applyClears_canon
      (State.retire_canon (State.applyCommit_canon h)))))

theorem State.captureAll_canon {u} {s : State} (h : s.Canonical) : (State.captureAll u s).Canonical := by
  unfold State.captureAll
  exact .foldl (State.report_canon h) (fun _ _ h0 => (State.capture_canon h0))

theorem State.endingFirst_canon {u} {s : State} (h : s.Canonical) : (State.endingFirst u s).Canonical := by
  unfold State.endingFirst
  exact (.takeFirst (fun _ => (by
      split
      · exact (.ite (.some (fun _ h0 => (State.packetIn_canon h0))) .none)
      · exact (.ite (.some (fun _ h0 => (.only State.frameComplete_only rfl h0))) .none)
      · exact (.ite (.some (fun _ h0 => (State.mapWritten_canon h0))) .none)
      · exact .none)) h)

theorem State.frameBoundary_canon {u} {s : State} (h : s.Canonical) : (State.frameBoundary u s).Canonical := by
  unfold State.frameBoundary
  exact State.gladeSettle_canon (State.captureAll_canon (State.beginPeriodOf_canon (State.beginFrame_canon
      (State.endPeriods_canon (State.report_canon h)))))

theorem execSurfaceFrameBoundary_canon {t u} {s : State} (h : s.Canonical) :
    CanonOut (execSurfaceFrameBoundary t u s) := by
  unfold execSurfaceFrameBoundary
  exact CanonOut.core (fun _ h0 => (.when (fun _ h1 => (State.frameBoundary_canon
      (State.endingFirst_canon h1))) h0)) h

end Sys2Proof.Machine
end

