-- ==== Sys2Proof/Laws/OnlySupply.lean ====
section
/-! SUPPORT. Which parts the functions of the DMA engine, the fabric, the supplies and the security functions change: one lemma for each. -/

namespace Sys2Proof.Machine

open Sys2Proof

theorem State.setCh_only {n c} {s : State} : Only [.dma] s (State.setCh n c s) := by
  unfold State.setCh
  exact .app Only.set_dma rfl .refl

theorem State.dmaUpRead_only {n addr len} {s : State} :
    Only [.now, .regs, .live, .host, .dma, .flt, .out] s (State.dmaUpRead n addr len s) := by
  unfold State.dmaUpRead
  exact .app State.setCh_only rfl (.app State.upRead_only rfl (.app Only.set_host rfl .refl))

theorem State.dmaFetch_only {n} {s : State} :
    Only [.now, .regs, .live, .host, .dma, .flt, .out] s (State.dmaFetch n s) := by
  unfold State.dmaFetch
  exact .ite (.app State.setCh_only rfl .refl) (.app State.dmaUpRead_only rfl (.app State.setCh_only rfl .refl))

theorem State.dmaReread_only {n} {s : State} :
    Only [.now, .regs, .live, .host, .dma, .flt, .out] s (State.dmaReread n s) := by
  unfold State.dmaReread
  exact .ite (.app State.setCh_only rfl .refl) (.app State.dmaUpRead_only rfl (.app State.setCh_only rfl .refl))

theorem State.dmaPark_only {n} {s : State} :
    Only [.now, .regs, .live, .host, .dma, .flt, .out] s (State.dmaPark n s) := by
  unfold State.dmaPark
  exact .ite (.app State.dmaReread_only rfl (.app State.report_only rfl (.app State.setCh_only rfl .refl)))
      (.app State.report_only rfl (.app State.setCh_only rfl .refl))

theorem State.dmaStop_only {n} {s : State} : Only [.dma] s (State.dmaStop n s) := by
  unfold State.dmaStop
  exact .ite .refl (.ite (.app State.setCh_only rfl .refl) (.app State.setCh_only rfl .refl))

theorem State.haltFirst_only {n} {s : State} :
    Only [.now, .regs, .live, .dma, .flt, .out] s (State.haltFirst n s) := by
  unfold State.haltFirst
  exact (Only.takeFirst rfl (fun _ => (by
      split
      · exact (.ite (.some (fun _ h0 => (Only.access rfl (fun _ h1 => (.app State.dmaStop_only rfl h1)) h0))) .none)
      · exact (.ite (.some (fun _ h0 => (Only.access rfl (fun _ h1 => (.app State.setCh_only rfl h1)) h0))) .none)
      · exact .none)) .refl)

theorem State.dmaBoundary_only {n} {s : State} :
    Only [.now, .regs, .live, .host, .dma, .flt, .out] s (State.dmaBoundary n s) := by
  unfold State.dmaBoundary
  exact .ite (.app State.report_only rfl (.app State.setCh_only rfl (.app State.haltFirst_only rfl .refl))) (.ite
      (.app State.report_only rfl (.app State.setCh_only rfl (.app State.haltFirst_only rfl .refl))) (.ite
      (.app State.report_only rfl (.app State.setCh_only rfl (.app State.haltFirst_only rfl .refl))) (.ite
      (.app State.dmaPark_only rfl (.app State.haltFirst_only rfl .refl)) (.app State.dmaFetch_only rfl
      (.app State.setCh_only rfl (.app State.haltFirst_only rfl .refl))))))

theorem State.dmaEnd_only {n out cause residue} {s : State} :
    Only [.now, .regs, .live, .host, .dma, .flt, .out] s (State.dmaEnd n out cause residue s) := by
  unfold State.dmaEnd
  exact .ite (.app State.report_only rfl (.app State.setCh_only rfl .refl)) (.app State.dmaBoundary_only rfl
      (.app State.report_only rfl (.app State.setCh_only rfl .refl)))

theorem State.dmaAborted_only {n} {s : State} :
    Only [.now, .regs, .live, .host, .dma, .flt, .out] s (State.dmaAborted n s) := by
  unfold State.dmaAborted
  exact .ite .refl (.ite (.app State.setCh_only rfl .refl) (.ite (.app State.dmaEnd_only rfl .refl)
      (.app State.setCh_only rfl .refl)))

theorem State.dmaAbort_only {n} {s : State} :
    Only [.now, .regs, .live, .host, .dma, .flt, .out] s (State.dmaAbort n s) := by
  unfold State.dmaAbort
  exact .ite (.app State.hit_only rfl (.app State.setCh_only rfl .refl)) (.app State.dmaAborted_only rfl .refl)

theorem State.dmaDoor_only {n} {s : State} :
    Only [.now, .regs, .live, .host, .dma, .flt, .out] s (State.dmaDoor n s) := by
  unfold State.dmaDoor
  exact .ite (.app State.dmaReread_only rfl .refl) (.app State.setCh_only rfl .refl)

theorem State.dmaStart_only {req n} {s : State} :
    Only [.now, .regs, .live, .host, .dma, .flt, .out] s (State.dmaStart req n s) := by
  unfold State.dmaStart
  exact .ite (.app State.hit_only rfl (.app State.setCh_only rfl .refl)) (.ite (.app State.hit_only rfl
      (.app State.setCh_only rfl .refl)) (.app State.dmaFetch_only rfl (.app State.setCh_only rfl .refl)))

theorem State.dmaSwreq_only {n} {s : State} : Only [.now, .dma] s (State.dmaSwreq n s) := by
  unfold State.dmaSwreq
  exact .ite .refl (.ite (.app State.hit_only rfl (.app State.setCh_only rfl .refl))
      (.app State.setCh_only rfl .refl))

theorem State.writeDmaCtrl_only {req n v} {s : State} :
    Only [.now, .regs, .live, .host, .dma, .flt, .out] s (State.writeDmaCtrl req n v s) := by
  unfold State.writeDmaCtrl
  exact Only.when (fun _ h0 => (.app State.dmaAbort_only rfl h0)) (Only.when (fun _ h0 =>
      (.app State.dmaStop_only rfl h0)) (Only.when (fun _ h0 => (.app State.dmaDoor_only rfl h0)) (Only.when
      (fun _ h0 => (.app State.dmaSwreq_only rfl h0)) (Only.when (fun _ h0 =>
      (.app State.dmaStart_only rfl h0)) .refl))))

theorem State.settleLine_only {r} {s : State} : Only [.shade, .dma] s (State.settleLine r s) := by
  unfold State.settleLine
  exact .ite (.app Only.set_shade rfl .refl) (.ite (.app Only.set_dma rfl .refl) .refl)

theorem execDmaAbort_only {t req n} {s : State} :
    OnlyOut [.now, .regs, .live, .host, .dma, .flt, .out] s (execDmaAbort t req n s) := by
  unfold execDmaAbort
  exact OnlyOut.core rfl (fun _ h0 => (Only.once rfl (fun _ h1 => (Only.access rfl (fun _ h2 =>
      (.app State.dmaAbort_only rfl h2)) h1)) h0))

theorem execDmaDoor_only {t req n} {s : State} :
    OnlyOut [.now, .regs, .live, .host, .dma, .flt, .out] s (execDmaDoor t req n s) := by
  unfold execDmaDoor
  exact OnlyOut.core rfl (fun _ h0 => (Only.access rfl (fun _ h1 => (.app State.dmaDoor_only rfl h1)) h0))

theorem execDmaStart_only {t req n} {s : State} :
    OnlyOut [.now, .regs, .live, .host, .dma, .flt, .out] s (execDmaStart t req n s) := by
  unfold execDmaStart
  exact OnlyOut.core rfl (fun _ h0 => (Only.access rfl (fun _ h1 => (.app State.dmaStart_only rfl h1)) h0))

theorem execDmaStop_only {t req n} {s : State} :
    OnlyOut [.now, .regs, .live, .dma, .flt, .out] s (execDmaStop t req n s) := by
  unfold execDmaStop
  exact OnlyOut.core rfl (fun _ h0 => (Only.once rfl (fun _ h1 => (Only.access rfl (fun _ h2 =>
      (.app State.dmaStop_only rfl h2)) h1)) h0))

theorem execDmaSwreq_only {t req n} {s : State} :
    OnlyOut [.now, .regs, .live, .dma, .flt, .out] s (execDmaSwreq t req n s) := by
  unfold execDmaSwreq
  exact OnlyOut.core rfl (fun _ h0 => (Only.access rfl (fun _ h1 => (.app State.dmaSwreq_only rfl h1)) h0))

theorem State.writeLim_only {v} {s : State} : Only [.regs] s (State.writeLim v s) := by
  unfold State.writeLim
  exact .app Only.set_regs rfl .refl

theorem State.writeTjadd_only {v} {s : State} : Only [.regs] s (State.writeTjadd v s) := by
  unfold State.writeTjadd
  exact .app Only.set_regs rfl .refl

theorem State.judgeTref_only {s : State} : Only [.now, .regs, .live, .thm, .flt, .out] s (State.judgeTref s) := by
  unfold State.judgeTref
  exact .app State.report_only rfl (.app Only.set_thm rfl .refl)

theorem State.writeTref_only {v} {s : State} :
    Only [.now, .regs, .live, .thm, .flt, .out] s (State.writeTref v s) := by
  unfold State.writeTref
  exact .app State.judgeTref_only rfl (.app State.hit_only rfl (.app Only.set_regs_thm rfl .refl))

theorem State.shutdownError_only {s : State} : Only [.now, .top] s (State.shutdownError s) := by
  unfold State.shutdownError
  exact .app State.hit_only rfl (.app Only.set_top rfl .refl)

theorem State.restart_only {s : State} : Only [.thm, .glade, .fst] s (State.restart s) := by
  unfold State.restart
  exact .ite (.app Only.set_thm_glade_fst rfl .refl) .refl

theorem State.shutdownOff_only {s : State} : Only [.now, .top, .thm, .glade, .fst] s (State.shutdownOff s) := by
  unfold State.shutdownOff
  exact .ite (.app State.restart_only rfl (.app Only.set_top rfl .refl)) (.app State.shutdownError_only rfl .refl)

theorem State.openWindow_only {s : State} : Only [.now, .thm, .fst] s (State.openWindow s) := by
  unfold State.openWindow
  exact .ite .refl (.app State.hit_only rfl (.app Only.set_thm_fst rfl .refl))

theorem State.shutdownOn_only {s : State} : Only [.now, .top, .thm, .fst] s (State.shutdownOn s) := by
  unfold State.shutdownOn
  exact .ite (.app State.shutdownError_only rfl .refl) (.app State.openWindow_only rfl (.app Only.set_top rfl .refl))

theorem State.writeShdn_only {on v} {s : State} :
    Only [.now, .top, .thm, .glade, .fst] s (State.writeShdn on v s) := by
  unfold State.writeShdn
  exact .ite (.ite (.app State.shutdownOn_only rfl .refl) (.app State.shutdownOff_only rfl .refl))
      (.app State.shutdownError_only rfl .refl)

theorem State.dieStep_only {s : State} :
    Only [.now, .regs, .live, .fab, .pwr, .thm, .flt, .glade, .fst, .log, .out] s (State.dieStep s) := by
  unfold State.dieStep
  exact Only.when (fun _ h0 => (.app State.restart_only rfl h0)) (Only.when (fun _ h0 =>
      (.app State.openWindow_only rfl h0)) (.app State.meter_only rfl (Only.when (fun _ h0 =>
      (.app State.logHw_only rfl h0)) (.app State.report_only rfl (.app Only.set_fab_pwr_thm rfl
      (.app State.judgeTref_only rfl .refl))))))

theorem State.droopLong_only {s : State} : Only [.now, .regs, .live, .pwr, .flt, .out] s (State.droopLong s) := by
  unfold State.droopLong
  exact .app State.report_only rfl (.app Only.set_pwr rfl .refl)

theorem State.droopOff_only {s : State} :
    Only [.now, .regs, .live, .fab, .pwr, .flt, .out] s (State.droopOff s) := by
  unfold State.droopOff
  exact .app State.meter_only rfl (.app State.report_only rfl (.app Only.set_pwr rfl .refl))

theorem State.droopOn_only {s : State} : Only [.now, .regs, .live, .fab, .pwr, .flt, .out] s (State.droopOn s) := by
  unfold State.droopOn
  exact .app State.meter_only rfl (.app State.report_only rfl (.app Only.set_pwr rfl .refl))

theorem State.setPower_only {p} {s : State} :
    Only [.now, .regs, .live, .pwr, .flt, .out] s (State.setPower p s) := by
  unfold State.setPower
  exact .app State.report_only rfl (.app Only.set_pwr rfl .refl)

theorem State.monitorIn_only {m pass} {s : State} :
    Only [.now, .regs, .live, .pwr, .flt, .out] s (State.monitorIn m pass s) := by
  unfold State.monitorIn
  exact .app State.setPower_only rfl .refl

theorem State.railIn_only {r} {s : State} : Only [.now, .regs, .live, .pwr, .flt, .out] s (State.railIn r s) := by
  unfold State.railIn
  exact .app State.setPower_only rfl .refl

theorem State.stepInputs_only {s : State} : Only [.now, .regs, .live, .pwr, .flt, .out] s (State.stepInputs s) := by
  unfold State.stepInputs
  exact (Only.takeFirst rfl (fun _ => (by
      split
      · exact (.some (fun _ h0 => (Only.access rfl (fun _ h1 => (.app State.writeLim_only rfl h1)) h0)))
      · exact (.some (fun _ h0 => (Only.access rfl (fun _ h1 => (.app State.writeTjadd_only rfl h1)) h0)))
      · exact (.some (fun _ h0 => (.app State.railIn_only rfl h0)))
      · exact (.some (fun _ h0 => (.app State.monitorIn_only rfl h0)))
      · exact .none)) .refl)

theorem State.tripped_only {s : State} : Only [.now, .pwr] s (State.tripped s) := by
  unfold State.tripped
  exact .app State.hit_only rfl (.app Only.set_pwr rfl .refl)

theorem State.underVoltage_only {s : State} :
    Only [.now, .regs, .live, .pwr, .flt, .out] s (State.underVoltage s) := by
  unfold State.underVoltage
  exact .app State.report_only rfl (.app Only.set_pwr rfl .refl)

theorem execCoreUnderVoltage_only {t} {s : State} :
    OnlyOut [.now, .regs, .live, .pwr, .flt, .out] s (execCoreUnderVoltage t s) := by
  unfold execCoreUnderVoltage
  exact OnlyOut.core rfl (fun _ h0 => (Only.when (fun _ h1 => (.app State.underVoltage_only rfl h1)) h0))

theorem execDieModelStep_only {t} {s : State} :
    OnlyOut [.now, .regs, .live, .fab, .pwr, .thm, .flt, .glade, .fst, .log, .out] s (execDieModelStep t s) := by
  unfold execDieModelStep
  exact OnlyOut.core rfl (fun _ h0 => (.app State.dieStep_only rfl (.app State.stepInputs_only rfl h0)))

theorem execDroopLong_only {t} {s : State} :
    OnlyOut [.now, .regs, .live, .pwr, .flt, .out] s (execDroopLong t s) := by
  unfold execDroopLong
  exact OnlyOut.core rfl (fun _ h0 => (Only.when (fun _ h1 => (.app State.droopLong_only rfl h1)) h0))

theorem execDroopRelease_only {t} {s : State} :
    OnlyOut [.now, .regs, .live, .fab, .pwr, .flt, .out] s (execDroopRelease t s) := by
  unfold execDroopRelease
  exact OnlyOut.core rfl (fun _ h0 => (Only.when (fun _ h1 => (.app State.droopOff_only rfl h1)) h0))

theorem execDroopTrip_only {t} {s : State} :
    OnlyOut [.now, .regs, .live, .fab, .pwr, .flt, .out] s (execDroopTrip t s) := by
  unfold execDroopTrip
  exact OnlyOut.core rfl (fun _ h0 => (.app State.tripped_only rfl (Only.when (fun _ h1 =>
      (.app State.droopOn_only rfl h1)) h0)))

theorem execMonitorSelfCheck_only {t m pass} {s : State} :
    OnlyOut [.now, .regs, .live, .pwr, .flt, .out] s (execMonitorSelfCheck t m pass s) := by
  unfold execMonitorSelfCheck
  exact OnlyOut.core rfl (fun _ h0 => (Only.once rfl (fun _ h1 => (.app State.monitorIn_only rfl h1)) h0))

theorem execRailSample_only {t r} {s : State} :
    OnlyOut [.now, .regs, .live, .pwr, .flt, .out] s (execRailSample t r s) := by
  unfold execRailSample
  exact OnlyOut.core rfl (fun _ h0 => (Only.once rfl (fun _ h1 => (.app State.railIn_only rfl h1)) h0))

theorem execShutdownEnd_only {t req v} {s : State} :
    OnlyOut [.now, .regs, .live, .top, .thm, .flt, .glade, .fst, .out] s (execShutdownEnd t req v s) := by
  unfold execShutdownEnd
  exact OnlyOut.core rfl (fun _ h0 => (Only.access rfl (fun _ h1 => (.app State.writeShdn_only rfl h1)) h0))

theorem execShutdownStart_only {t req v} {s : State} :
    OnlyOut [.now, .regs, .live, .top, .thm, .flt, .glade, .fst, .out] s (execShutdownStart t req v s) := by
  unfold execShutdownStart
  exact OnlyOut.core rfl (fun _ h0 => (Only.access rfl (fun _ h1 => (.app State.writeShdn_only rfl h1)) h0))

theorem execThmLim_only {t req v} {s : State} :
    OnlyOut [.now, .regs, .live, .flt, .out] s (execThmLim t req v s) := by
  unfold execThmLim
  exact OnlyOut.core rfl (fun _ h0 => (Only.once rfl (fun _ h1 => (Only.access rfl (fun _ h2 =>
      (.app State.writeLim_only rfl h2)) h1)) h0))

theorem execThmTjadd_only {t req v} {s : State} :
    OnlyOut [.now, .regs, .live, .flt, .out] s (execThmTjadd t req v s) := by
  unfold execThmTjadd
  exact OnlyOut.core rfl (fun _ h0 => (Only.once rfl (fun _ h1 => (Only.access rfl (fun _ h2 =>
      (.app State.writeTjadd_only rfl h2)) h1)) h0))

theorem execThmTref_only {t req v} {s : State} :
    OnlyOut [.now, .regs, .live, .thm, .flt, .out] s (execThmTref t req v s) := by
  unfold execThmTref
  exact OnlyOut.core rfl (fun _ h0 => (Only.access rfl (fun _ h1 => (.app State.writeTref_only rfl h1)) h0))

theorem execThrottleStep_only {t} {s : State} : OnlyOut [.now, .fab] s (execThrottleStep t s) := by
  unfold execThrottleStep
  exact OnlyOut.core rfl (fun _ h0 => (.app State.meter_only rfl (.app Only.set_fab rfl h0)))

theorem execTrefStale_only {t} {s : State} :
    OnlyOut [.now, .regs, .live, .thm, .flt, .out] s (execTrefStale t s) := by
  unfold execTrefStale
  exact OnlyOut.core rfl (fun _ h0 => (Only.when (fun _ h1 => (.app State.judgeTref_only rfl
      (.app Only.set_thm rfl h1))) h0))

theorem State.writeFbClr_only {u v} {s : State} :
    Only [.now, .regs, .live, .flt, .out] s (State.writeFbClr u v s) := by
  unfold State.writeFbClr
  exact .app State.report_only rfl .refl

theorem State.writeFbInj_only {req u v} {s : State} : Only [.now, .fab, .flt] s (State.writeFbInj req u v s) := by
  unfold State.writeFbInj
  exact .ite .refl (.ite (.app State.injError_only rfl .refl) (.ite .refl (.app Only.set_fab rfl .refl)))

theorem State.writeFbMreq_only {u v} {s : State} :
    Only [.now, .regs, .live, .fab, .flt, .out] s (State.writeFbMreq u v s) := by
  unfold State.writeFbMreq
  exact Only.when (fun _ h0 => (.app State.meter_only rfl (.app State.report_only rfl h0))) .refl

theorem State.resetCompose_only {s : State} : Only [.surf, .comp] s (State.resetCompose s) := by
  unfold State.resetCompose
  exact .foldl .refl (fun _ _ h0 => (.app State.setComp_only rfl (.app State.withhold_only rfl h0)))

theorem State.segmentStall_only {seg} {s : State} :
    Only [.now, .regs, .live, .surf, .skein, .stream, .comp, .fab, .flt, .out] s (State.segmentStall seg s) := by
  unfold State.segmentStall
  exact .app State.report_only rfl (.ite (.app State.resetCompose_only rfl (.app Only.set_fab rfl .refl))
      (.app State.resetShow_only rfl (.app Only.set_fab rfl .refl)))

theorem State.watchdog_only {seg wait ack} {s : State} :
    Only [.now, .regs, .live, .clk, .host, .surf, .skein, .stream, .comp, .fab, .flt, .out]
      s (State.watchdog seg wait ack s) := by
  unfold State.watchdog
  exact (.ite .refl (by
    split
    · exact (Only.when (fun _ h0 => (.app State.stallCrossing_only rfl h0)) .refl)
    · exact (.app State.segmentStall_only rfl .refl)))

theorem execFbClr_only {t req u v} {s : State} :
    OnlyOut [.now, .regs, .live, .flt, .out] s (execFbClr t req u v s) := by
  unfold execFbClr
  exact OnlyOut.core rfl (fun _ h0 => (Only.access rfl (fun _ h1 => (.app State.writeFbClr_only rfl h1)) h0))

theorem execFbInj_only {t req u v} {s : State} :
    OnlyOut [.now, .regs, .live, .fab, .flt, .out] s (execFbInj t req u v s) := by
  unfold execFbInj
  exact OnlyOut.core rfl (fun _ h0 => (Only.access rfl (fun _ h1 => (.app State.writeFbInj_only rfl h1)) h0))

theorem execFbMreq_only {t req u v} {s : State} :
    OnlyOut [.now, .regs, .live, .fab, .flt, .out] s (execFbMreq t req u v s) := by
  unfold execFbMreq
  exact OnlyOut.core rfl (fun _ h0 => (Only.access rfl (fun _ h1 => (.app State.writeFbMreq_only rfl h1)) h0))

theorem execSegmentWatchdog_only {t seg wait ack} {s : State} :
    OnlyOut [.now, .regs, .live, .clk, .host, .surf, .skein, .stream, .comp, .fab, .flt, .out]
      s (execSegmentWatchdog t seg wait ack s) := by
  unfold execSegmentWatchdog
  exact OnlyOut.core rfl (fun _ h0 => (.app State.watchdog_only rfl h0))

theorem State.arbEnd_only {j} {s : State} :
    Only [.now, .regs, .live, .flt, .log, .sec, .out] s (State.arbEnd j s) := by
  unfold State.arbEnd
  exact .ite (.app State.report_only rfl .refl) (.app State.logHw_only rfl (.app Only.set_sec rfl
      (.app State.report_only rfl .refl)))

theorem State.recover_only {s : State} :
    Only [.now, .regs, .live, .flt, .glade, .fst, .log, .sec, .out] s (State.recover s) := by
  unfold State.recover
  exact Only.when (fun _ h0 => (.app State.fwdogService_only rfl h0)) (.app State.report_only rfl
      (.app Only.set_regs_fst rfl .refl))

theorem State.keepImg_only {c} {s : State} : Only [.now] s (State.keepImg c s) := by
  unfold State.keepImg
  exact .app State.keepAs_only rfl (.app State.keepAs_only rfl .refl)

theorem State.putTcm_only {l} {s : State} : Only [.fst] s (State.putTcm l s) := by
  unfold State.putTcm
  exact .app Only.set_fst rfl .refl

theorem State.secVerify_only {slotB b dir} {s : State} :
    Only [.now, .regs, .live, .flt, .sec, .out] s (State.secVerify slotB b dir s) := by
  unfold State.secVerify
  exact .app State.report_only rfl (.app Only.set_sec rfl .refl)

theorem State.secLoad_only {slotB b dir} {s : State} :
    Only [.now, .regs, .live, .flt, .fst, .sec, .out] s (State.secLoad slotB b dir s) := by
  unfold State.secLoad
  exact (.ite (.app State.secVerify_only rfl .refl) (by
    split
    · exact (.app State.report_only rfl (.app State.keepImg_only rfl (.app Only.set_sec rfl
        (.app State.putTcm_only rfl .refl))))
    · exact (.app State.report_only rfl (.app Only.set_sec rfl (.app State.putTcm_only rfl .refl)))))

theorem State.bootTry_only {a b dir trial sk l first} {s : State} :
    Only [.now, .regs, .live, .flt, .glade, .fst, .log, .sec, .out] s (State.bootTry a b dir trial sk l first s) := by
  induction l generalizing first s with
  | nil => exact .app State.recover_only rfl .refl
  | cons c r ih =>
    unfold State.bootTry
    exact .ite (.app Only.set_regs_fst_sec rfl (.app State.secLoad_only rfl .refl))
      (.app ih rfl (.app State.secLoad_only rfl .refl))

theorem State.boot_only {ja jb a b dir} {s : State} :
    Only [.now, .regs, .live, .flt, .glade, .fst, .log, .sec, .out] s (State.boot ja jb a b dir s) := by
  unfold State.boot
  exact (.app State.bootTry_only rfl (.app Only.set_fst rfl (by
    split
    · exact (.app Only.set_fst rfl .refl)
    · exact .refl)))

theorem State.secRefuse_only {code} {s : State} : Only [.now, .sec] s (State.secRefuse code s) := by
  unfold State.secRefuse
  exact .app State.hit_only rfl (.app Only.set_sec rfl .refl)

theorem State.secStart_only {op rowCode addr v w} {s : State} :
    Only [.now, .sec] s (State.secStart op rowCode addr v w s) := by
  unfold State.secStart
  exact .ite (.app State.secRefuse_only rfl .refl) (.ite (.app State.secRefuse_only rfl .refl) (.ite
      (.app State.secRefuse_only rfl .refl) (.ite (.app State.secRefuse_only rfl .refl)
      (.app Only.set_sec rfl .refl))))

theorem State.cmdVerify_only {v} {s : State} : Only [.now, .sec] s (State.cmdVerify v s) := by
  unfold State.cmdVerify
  exact .app State.secStart_only rfl .refl

theorem State.cmdArb_only {v} {s : State} : Only [.now, .sec] s (State.cmdArb v s) := by
  unfold State.cmdArb
  exact .app State.secStart_only rfl .refl

theorem State.cmdCfg_only {v} {s : State} : Only [.now, .sec] s (State.cmdCfg v s) := by
  unfold State.cmdCfg
  exact .app State.secStart_only rfl .refl

theorem State.cmdLoad_only {v} {s : State} : Only [.now, .sec] s (State.cmdLoad v s) := by
  unfold State.cmdLoad
  exact .app State.secStart_only rfl .refl

theorem State.cmdProg_only {v} {s : State} : Only [.now, .sec] s (State.cmdProg v s) := by
  unfold State.cmdProg
  exact .app State.secStart_only rfl .refl

theorem State.writeSecCmd_only {v} {s : State} : Only [.now, .sec] s (State.writeSecCmd v s) := by
  unfold State.writeSecCmd
  exact .ite (.app State.cmdVerify_only rfl .refl) (.ite (.app State.cmdLoad_only rfl .refl) (.ite
      (.app State.cmdArb_only rfl .refl) (.ite (.app State.cmdProg_only rfl .refl) (.ite
      (.app State.cmdCfg_only rfl .refl) .refl))))

theorem State.challenge_only {s : State} :
    Only [.now, .free, .regs, .live, .flt, .sec, .out] s (State.challenge s) := by
  unfold State.challenge
  exact .app State.spend_only rfl (.app State.report_only rfl (.app Only.set_sec rfl .refl))

theorem State.debugFail_only {s : State} : Only [.now, .regs, .live, .flt, .sec, .out] s (State.debugFail s) := by
  unfold State.debugFail
  exact .app State.report_only rfl (.app Only.set_sec rfl .refl)

theorem State.debugOpen_only {level k} {s : State} :
    Only [.now, .regs, .live, .flt, .log, .sec, .out] s (State.debugOpen level k s) := by
  unfold State.debugOpen
  exact .app State.logHw_only rfl (.app State.report_only rfl (.app Only.set_sec rfl .refl))

theorem State.respond_only {level k sig key} {s : State} :
    Only [.now, .regs, .live, .flt, .log, .sec, .out] s (State.respond level k sig key s) := by
  unfold State.respond
  exact .app State.report_only rfl (.ite (.app State.debugOpen_only rfl .refl) (.app State.debugFail_only rfl .refl))

theorem State.respFirst_only {s : State} :
    Only [.now, .regs, .live, .flt, .log, .sec, .out] s (State.respFirst s) := by
  unfold State.respFirst
  exact (Only.takeFirst rfl (fun _ => (by
      split
      · exact (.some (fun _ h0 => (.app State.respond_only rfl h0)))
      · exact .none)) .refl)

theorem State.secEnd_only {j slot dir} {s : State} :
    Only [.now, .regs, .live, .flt, .fst, .log, .sec, .out] s (State.secEnd j slot dir s) := by
  unfold State.secEnd
  exact .ite (.app State.secVerify_only rfl .refl) (.ite (.app State.secLoad_only rfl .refl) (.ite
      (.app State.arbEnd_only rfl .refl) (.ite (.app Only.set_sec rfl .refl) (.app State.report_only rfl
      (.app Only.set_sec rfl .refl)))))

theorem State.secFinish_only {slot dir} {s : State} :
    Only [.now, .regs, .live, .flt, .fst, .log, .sec, .out] s (State.secFinish slot dir s) := by
  unfold State.secFinish
  exact (by
    split
    · exact .refl
    · exact (.app State.report_only rfl (.app Only.set_sec rfl (.app State.secEnd_only rfl .refl))))

theorem execArbRaise_only {t v} {s : State} :
    OnlyOut [.now, .regs, .live, .flt, .sec, .out] s (execArbRaise t v s) := by
  unfold execArbRaise
  exact OnlyOut.sec rfl (fun _ h0 => (.app State.cmdArb_only rfl h0))

theorem execBootSelect_only {t journalA journalB slotA slotB dir} {s : State} :
    OnlyOut [.now, .regs, .live, .flt, .glade, .fst, .log, .sec, .out]
      s (execBootSelect t journalA journalB slotA slotB dir s) := by
  unfold execBootSelect
  exact OnlyOut.forester rfl (fun _ h0 => (Only.when (fun _ h1 => (.app State.boot_only rfl h1)) h0))

theorem execCfgSet_only {t v} {s : State} :
    OnlyOut [.now, .regs, .live, .flt, .sec, .out] s (execCfgSet t v s) := by
  unfold execCfgSet
  exact OnlyOut.sec rfl (fun _ h0 => (.app State.cmdCfg_only rfl h0))

theorem execChallengeExpiry_only {t} {s : State} : OnlyOut [.now, .sec] s (execChallengeExpiry t s) := by
  unfold execChallengeExpiry
  exact OnlyOut.core rfl (fun _ h0 => (Only.when (fun _ h1 => (.app Only.set_sec rfl h1)) h0))

theorem execCryptoSelfTestDone_only {t ok} {s : State} :
    OnlyOut [.now, .regs, .live, .flt, .sec, .out] s (execCryptoSelfTestDone t ok s) := by
  unfold execCryptoSelfTestDone
  exact OnlyOut.core rfl (fun _ h0 => (.app State.report_only rfl (.app Only.set_sec rfl h0)))

theorem execLoad_only {t v} {s : State} : OnlyOut [.now, .regs, .live, .flt, .sec, .out] s (execLoad t v s) := by
  unfold execLoad
  exact OnlyOut.sec rfl (fun _ h0 => (.app State.cmdLoad_only rfl h0))

theorem execOtpProg_only {t v} {s : State} :
    OnlyOut [.now, .regs, .live, .flt, .sec, .out] s (execOtpProg t v s) := by
  unfold execOtpProg
  exact OnlyOut.sec rfl (fun _ h0 => (.app State.cmdProg_only rfl h0))

theorem execSecChal_only {t} {s : State} :
    OnlyOut [.now, .free, .regs, .live, .flt, .log, .sec, .out] s (execSecChal t s) := by
  unfold execSecChal
  exact OnlyOut.core rfl (fun _ h0 => (Only.when (fun _ h1 => (.app State.challenge_only rfl h1))
      (.app State.respFirst_only rfl h0)))

theorem execSecResp_only {t level k sig dirKey} {s : State} :
    OnlyOut [.now, .regs, .live, .flt, .log, .sec, .out] s (execSecResp t level k sig dirKey s) := by
  unfold execSecResp
  exact OnlyOut.core rfl (fun _ h0 => (Only.once rfl (fun _ h1 => (.app State.respond_only rfl h1)) h0))

theorem execVerify_only {t v} {s : State} :
    OnlyOut [.now, .regs, .live, .flt, .sec, .out] s (execVerify t v s) := by
  unfold execVerify
  exact OnlyOut.sec rfl (fun _ h0 => (.app State.cmdVerify_only rfl h0))

theorem State.romReply_only {seq cmd rc ws} {s : State} :
    Only [.now, .regs, .live, .host, .flt, .fst, .out] s (State.romReply seq cmd rc ws s) := by
  unfold State.romReply
  exact .app State.writeMbDone_only rfl (.app Only.set_regs rfl .refl)

theorem State.setRom_only {x} {s : State} : Only [.fst] s (State.setRom x s) := by
  unfold State.setRom
  exact .app Only.set_fst rfl .refl

theorem State.romAnswer_only {rc} {s : State} :
    Only [.now, .regs, .live, .host, .flt, .fst, .out] s (State.romAnswer rc s) := by
  unfold State.romAnswer
  exact (by
    split
    · exact (.app State.romReply_only rfl (.app State.setRom_only rfl .refl))
    · exact .refl)

theorem State.romDone_only {s : State} :
    Only [.now, .regs, .live, .host, .flt, .fst, .out] s (State.romDone s) := by
  unfold State.romDone
  exact (by
    dsimp only
    split
    · exact (.app State.writeMbEvt_only rfl (.app State.setRom_only rfl .refl))
    · exact (.app State.romAnswer_only rfl (.app State.setRom_only rfl .refl))
    · exact (.app State.romAnswer_only rfl (.app State.setRom_only rfl (.app Only.set_fst rfl .refl)))
    · exact .refl)

theorem State.romFail_only {rc} {s : State} :
    Only [.now, .regs, .live, .host, .flt, .fst, .out] s (State.romFail rc s) := by
  unfold State.romFail
  exact .app State.romAnswer_only rfl (.app State.setRom_only rfl .refl)

theorem State.romIssue_only {s : State} :
    Only [.now, .regs, .live, .host, .flt, .fst, .out] s (State.romIssue s) := by
  unfold State.romIssue
  exact (by
    split
    · exact (.app State.romDone_only rfl .refl)
    · exact (.ite (.app State.romFail_only rfl .refl) (.ite (.app State.writeNor_only rfl
        (.app Only.set_regs rfl .refl)) (.app State.romFail_only rfl (.app State.writeNor_only rfl
        (.app Only.set_regs rfl .refl))))))

theorem State.romSay_only {rc ws} {s : State} :
    Only [.now, .regs, .live, .host, .flt, .fst, .out] s (State.romSay rc ws s) := by
  unfold State.romSay
  exact .app State.romReply_only rfl .refl

theorem State.romBegin_only {s : State} :
    Only [.now, .regs, .live, .host, .flt, .fst, .out] s (State.romBegin s) := by
  unfold State.romBegin
  exact .ite (.app State.romSay_only rfl .refl) (.ite (.app State.romSay_only rfl .refl) (.ite
      (.app State.romSay_only rfl .refl) (.app State.romIssue_only rfl (.app State.setRom_only rfl
      (.app State.romSay_only rfl .refl)))))

theorem State.romCommit_only {s : State} :
    Only [.now, .regs, .live, .host, .flt, .fst, .sec, .out] s (State.romCommit s) := by
  unfold State.romCommit
  exact .ite (.app State.romSay_only rfl .refl) (.ite (.app State.romSay_only rfl .refl) (.ite
      (.app State.romSay_only rfl .refl) (.ite (.app State.setRom_only rfl (.app State.cmdVerify_only rfl .refl))
      (.app State.romSay_only rfl (.app State.cmdVerify_only rfl .refl)))))

theorem State.romReboot_only {s : State} :
    Only [.now, .regs, .live, .host, .flt, .glade, .fst, .log, .sec, .out] s (State.romReboot s) := by
  unfold State.romReboot
  exact .app State.resetForester_only rfl (.app State.romSay_only rfl .refl)

theorem State.romStart_only {x} {s : State} :
    Only [.now, .regs, .live, .host, .flt, .fst, .out] s (State.romStart x s) := by
  unfold State.romStart
  exact .app State.romIssue_only rfl (.app State.setRom_only rfl .refl)

theorem State.romWrite_only {s : State} :
    Only [.now, .regs, .live, .host, .flt, .fst, .out] s (State.romWrite s) := by
  unfold State.romWrite
  exact (.ite (.app State.romSay_only rfl .refl) (.ite (.app State.romSay_only rfl .refl) (by
    split
    · exact (.app State.romSay_only rfl .refl)
    · exact (.app State.romStart_only rfl .refl))))

theorem State.romServe_only {s : State} :
    Only [.now, .regs, .live, .host, .flt, .glade, .fst, .log, .sec, .out] s (State.romServe s) := by
  unfold State.romServe
  exact .ite (.app State.romSay_only rfl .refl) (.ite (.app State.romSay_only rfl .refl) (.ite
      (.app State.romBegin_only rfl .refl) (.ite (.app State.romWrite_only rfl .refl) (.ite
      (.app State.romCommit_only rfl .refl) (.ite (.app State.romSay_only rfl .refl) (.ite
      (.app State.romReboot_only rfl .refl) (.app State.romSay_only rfl .refl)))))))

theorem State.writeDoor_only {v} {s : State} :
    Only [.now, .regs, .live, .host, .flt, .glade, .fst, .log, .sec, .out] s (State.writeDoor v s) := by
  unfold State.writeDoor
  exact .ite (Only.when (fun _ h0 => (.app State.romServe_only rfl h0)) (.app State.mbStart_only rfl .refl))
      (.app State.report_only rfl (.app Only.set_host rfl .refl))

theorem State.romNext_only {s : State} :
    Only [.now, .regs, .live, .host, .flt, .fst, .out] s (State.romNext s) := by
  unfold State.romNext
  exact .ite (.app State.romIssue_only rfl (.app State.setRom_only rfl .refl)) .refl

theorem State.norEnd_only {data} {s : State} :
    Only [.now, .regs, .live, .host, .flt, .fst, .out] s (State.norEnd data s) := by
  unfold State.norEnd
  exact .ite (Only.when (fun _ h0 => (.app State.norClosed_only rfl h0)) .refl) (Only.when (fun _ h0 =>
      (.app State.romNext_only rfl h0)) (.app State.norDone_only rfl .refl))

theorem State.romError_only {s : State} :
    Only [.now, .regs, .live, .host, .flt, .fst, .out] s (State.romError s) := by
  unfold State.romError
  exact Only.when (fun _ h0 => (.app State.romFail_only rfl h0)) .refl

theorem State.norLate_only {s : State} :
    Only [.now, .regs, .live, .host, .flt, .fst, .out] s (State.norLate s) := by
  unfold State.norLate
  exact .ite (Only.when (fun _ h0 => (.app State.norGiveUp_only rfl h0)) .refl) (Only.when (fun _ h0 =>
      (.app State.romError_only rfl h0)) (.app State.norTimeout_only rfl .refl))

theorem State.romVerified_only {code} {s : State} :
    Only [.now, .regs, .live, .host, .flt, .fst, .out] s (State.romVerified code s) := by
  unfold State.romVerified
  exact (by
    dsimp only
    split
    · exact (.ite (.app State.romFail_only rfl .refl) (.ite (.app State.romFail_only rfl .refl)
        (.app State.romIssue_only rfl (.app State.setRom_only rfl .refl))))
    · exact .refl)

theorem State.secOver_only {slot dir} {s : State} :
    Only [.now, .regs, .live, .host, .flt, .fst, .log, .sec, .out] s (State.secOver slot dir s) := by
  unfold State.secOver
  exact Only.when (fun _ h0 => (.app State.romVerified_only rfl h0)) (.app State.secFinish_only rfl .refl)

theorem execMbDoor_only {t req v} {s : State} :
    OnlyOut [.now, .regs, .live, .host, .flt, .glade, .fst, .log, .sec, .out] s (execMbDoor t req v s) := by
  unfold execMbDoor
  exact OnlyOut.core rfl (fun _ h0 => (Only.access rfl (fun _ h1 => (.app State.writeDoor_only rfl h1)) h0))

theorem execSecCommandEnd_only {t slot dir} {s : State} :
    OnlyOut [.now, .regs, .live, .host, .flt, .fst, .log, .sec, .out] s (execSecCommandEnd t slot dir s) := by
  unfold execSecCommandEnd
  exact OnlyOut.core rfl (fun _ h0 => (.app State.secOver_only rfl h0))

theorem execSpiNorCommandDone_only {t data} {s : State} :
    OnlyOut [.now, .regs, .live, .host, .flt, .fst, .out] s (execSpiNorCommandDone t data s) := by
  unfold execSpiNorCommandDone
  exact OnlyOut.core rfl (fun _ h0 => (.app State.norEnd_only rfl h0))

theorem execSpiNorWipTimeout_only {t} {s : State} :
    OnlyOut [.now, .regs, .live, .host, .flt, .fst, .out] s (execSpiNorWipTimeout t s) := by
  unfold execSpiNorWipTimeout
  exact OnlyOut.core rfl (fun _ h0 => (Only.when (fun _ h1 => (.app State.norLate_only rfl h1)) h0))

end Sys2Proof.Machine
end

