-- ==== Sys2Proof/Laws/CanonSupply.lean ====
section
/-! SUPPORT. The DMA engine, the fabric, the supplies and the security functions keep the canonical forms: one lemma for each function. -/

namespace Sys2Proof.Machine

open Sys2Proof

/-- A word programmed keeps the OTP key store canonical. -/
theorem Sec.program_otp {x : Sec} {w v : Nat} (h : Memory.wf otpByte0 x.otp = true) :
    Memory.wf otpByte0 (x.program w v).otp = true := Memory.writeL_wf h

/-- A result recorded leaves the OTP key store. -/
theorem Sec.result_otp {x : Sec} {b : Bool} {c : Nat} : (x.result b c).otp = x.otp := by
  unfold Sec.result
  split <;> rfl

/-- A slot tried leaves the TCM. -/
theorem Forester.try_tcm {x : Forester} {b : Bool} : (x.try_ b).tcm = x.tcm := by
  unfold Forester.try_
  split <;> rfl

/-- A slot untried leaves the TCM. -/
theorem Forester.untry_tcm {x : Forester} {b : Bool} : (x.untry b).tcm = x.tcm := by
  unfold Forester.untry
  split <;> rfl

/-- A response written keeps the register file canonical. -/
theorem putRsp_wf {ws : List Word} {f : RegFile} (h : smWf regReset f = true) : smWf regReset (putRsp ws f) = true :=
  rsets_wf (k := fun x : Word × Nat => Reg.FP_MB_RSP x.2) (v := fun _ x => x.1) h

/-- The configuration written keeps the OTP key store canonical. -/
theorem Sec.setCfg_otp {x : Sec} {v : Nat} (h : Memory.wf otpByte0 x.otp = true) :
    Memory.wf otpByte0 (x.setCfg v).otp = true := by
  unfold Sec.setCfg
  exact Sec.program_otp (Sec.program_otp (Sec.program_otp h))

theorem State.dmaUpRead_canon {n addr len} {s : State} (h : s.Canonical) :
    (State.dmaUpRead n addr len s).Canonical := by
  unfold State.dmaUpRead
  exact .only State.setCh_only rfl (State.upRead_canon (.only Only.set_host rfl h))

theorem State.dmaFetch_canon {n} {s : State} (h : s.Canonical) : (State.dmaFetch n s).Canonical := by
  unfold State.dmaFetch
  exact .ite (.only State.setCh_only rfl h) (State.dmaUpRead_canon (.only State.setCh_only rfl h))

theorem State.dmaReread_canon {n} {s : State} (h : s.Canonical) : (State.dmaReread n s).Canonical := by
  unfold State.dmaReread
  exact .ite (.only State.setCh_only rfl h) (State.dmaUpRead_canon (.only State.setCh_only rfl h))

theorem State.dmaPark_canon {n} {s : State} (h : s.Canonical) : (State.dmaPark n s).Canonical := by
  unfold State.dmaPark
  exact .ite (State.dmaReread_canon (State.report_canon (.only State.setCh_only rfl h))) (State.report_canon
      (.only State.setCh_only rfl h))

theorem State.haltFirst_canon {n} {s : State} (h : s.Canonical) : (State.haltFirst n s).Canonical := by
  unfold State.haltFirst
  exact (.takeFirst (fun _ => (by
      split
      · exact (.ite (.some (fun _ h0 => (.access (fun _ h1 => (.only State.dmaStop_only rfl h1)) h0))) .none)
      · exact (.ite (.some (fun _ h0 => (.access (fun _ h1 => (.only State.setCh_only rfl h1)) h0))) .none)
      · exact .none)) h)

theorem State.dmaBoundary_canon {n} {s : State} (h : s.Canonical) : (State.dmaBoundary n s).Canonical := by
  unfold State.dmaBoundary
  exact .ite (State.report_canon (.only State.setCh_only rfl (State.haltFirst_canon h))) (.ite (State.report_canon
      (.only State.setCh_only rfl (State.haltFirst_canon h))) (.ite (State.report_canon (.only State.setCh_only rfl
      (State.haltFirst_canon h))) (.ite (State.dmaPark_canon (State.haltFirst_canon h)) (State.dmaFetch_canon
      (.only State.setCh_only rfl (State.haltFirst_canon h))))))

theorem State.dmaEnd_canon {n out cause residue} {s : State} (h : s.Canonical) :
    (State.dmaEnd n out cause residue s).Canonical := by
  unfold State.dmaEnd
  exact .ite (State.report_canon (.only State.setCh_only rfl h)) (State.dmaBoundary_canon (State.report_canon
      (.only State.setCh_only rfl h)))

theorem State.dmaAborted_canon {n} {s : State} (h : s.Canonical) : (State.dmaAborted n s).Canonical := by
  unfold State.dmaAborted
  exact .ite h (.ite (.only State.setCh_only rfl h) (.ite (State.dmaEnd_canon h) (.only State.setCh_only rfl h)))

theorem State.dmaAbort_canon {n} {s : State} (h : s.Canonical) : (State.dmaAbort n s).Canonical := by
  unfold State.dmaAbort
  exact .ite (.only State.hit_only rfl (.only State.setCh_only rfl h)) (State.dmaAborted_canon h)

theorem State.dmaDoor_canon {n} {s : State} (h : s.Canonical) : (State.dmaDoor n s).Canonical := by
  unfold State.dmaDoor
  exact .ite (State.dmaReread_canon h) (.only State.setCh_only rfl h)

theorem State.dmaStart_canon {req n} {s : State} (h : s.Canonical) : (State.dmaStart req n s).Canonical := by
  unfold State.dmaStart
  exact .ite (.only State.hit_only rfl (.only State.setCh_only rfl h)) (.ite (.only State.hit_only rfl
      (.only State.setCh_only rfl h)) (State.dmaFetch_canon (.only State.setCh_only rfl h)))

theorem State.writeDmaCtrl_canon {req n v} {s : State} (h : s.Canonical) :
    (State.writeDmaCtrl req n v s).Canonical := by
  unfold State.writeDmaCtrl
  exact .when (fun _ h0 => (State.dmaAbort_canon h0)) (.when (fun _ h0 => (.only State.dmaStop_only rfl h0)) (.when
      (fun _ h0 => (State.dmaDoor_canon h0)) (.when (fun _ h0 => (.only State.dmaSwreq_only rfl h0)) (.when
      (fun _ h0 => (State.dmaStart_canon h0)) h))))

theorem execDmaAbort_canon {t req n} {s : State} (h : s.Canonical) : CanonOut (execDmaAbort t req n s) := by
  unfold execDmaAbort
  exact CanonOut.core (fun _ h0 => (.once (fun _ h1 => (.access (fun _ h2 => (State.dmaAbort_canon h2)) h1)) h0)) h

theorem execDmaDoor_canon {t req n} {s : State} (h : s.Canonical) : CanonOut (execDmaDoor t req n s) := by
  unfold execDmaDoor
  exact CanonOut.core (fun _ h0 => (.access (fun _ h1 => (State.dmaDoor_canon h1)) h0)) h

theorem execDmaStart_canon {t req n} {s : State} (h : s.Canonical) : CanonOut (execDmaStart t req n s) := by
  unfold execDmaStart
  exact CanonOut.core (fun _ h0 => (.access (fun _ h1 => (State.dmaStart_canon h1)) h0)) h

theorem execDmaStop_canon {t req n} {s : State} (h : s.Canonical) : CanonOut (execDmaStop t req n s) := by
  unfold execDmaStop
  exact CanonOut.core (fun _ h0 => (.once (fun _ h1 => (.access (fun _ h2 =>
      (.only State.dmaStop_only rfl h2)) h1)) h0)) h

theorem execDmaSwreq_canon {t req n} {s : State} (h : s.Canonical) : CanonOut (execDmaSwreq t req n s) := by
  unfold execDmaSwreq
  exact CanonOut.core (fun _ h0 => (.access (fun _ h1 => (.only State.dmaSwreq_only rfl h1)) h0)) h

theorem State.writeLim_canon {v} {s : State} (h : s.Canonical) : (State.writeLim v s).Canonical := by
  unfold State.writeLim
  exact .set_regs rset_wf h

theorem State.writeTjadd_canon {v} {s : State} (h : s.Canonical) : (State.writeTjadd v s).Canonical := by
  unfold State.writeTjadd
  exact .set_regs rset_wf h

theorem State.judgeTref_canon {s : State} (h : s.Canonical) : (State.judgeTref s).Canonical := by
  unfold State.judgeTref
  exact State.report_canon (.only Only.set_thm rfl h)

theorem State.writeTref_canon {v} {s : State} (h : s.Canonical) : (State.writeTref v s).Canonical := by
  unfold State.writeTref
  exact State.judgeTref_canon (.only State.hit_only rfl (.set_regs_thm rset_wf h))

theorem State.restart_canon {s : State} (h : s.Canonical) : (State.restart s).Canonical := by
  unfold State.restart
  exact .ite (.set_thm_glade_fst id id h) h

theorem State.shutdownOff_canon {s : State} (h : s.Canonical) : (State.shutdownOff s).Canonical := by
  unfold State.shutdownOff
  exact .ite (State.restart_canon (.only Only.set_top rfl h)) (.only State.shutdownError_only rfl h)

theorem State.openWindow_canon {s : State} (h : s.Canonical) : (State.openWindow s).Canonical := by
  unfold State.openWindow
  exact .ite h (.only State.hit_only rfl (.set_thm_fst id h))

theorem State.shutdownOn_canon {s : State} (h : s.Canonical) : (State.shutdownOn s).Canonical := by
  unfold State.shutdownOn
  exact .ite (.only State.shutdownError_only rfl h) (State.openWindow_canon (.only Only.set_top rfl h))

theorem State.writeShdn_canon {on v} {s : State} (h : s.Canonical) : (State.writeShdn on v s).Canonical := by
  unfold State.writeShdn
  exact .ite (.ite (State.shutdownOn_canon h) (State.shutdownOff_canon h)) (.only State.shutdownError_only rfl h)

theorem State.dieStep_canon {s : State} (h : s.Canonical) : (State.dieStep s).Canonical := by
  unfold State.dieStep
  exact .when (fun _ h0 => (State.restart_canon h0)) (.when (fun _ h0 => (State.openWindow_canon h0))
      (.only State.meter_only rfl (.when (fun _ h0 => (State.logHw_canon h0)) (State.report_canon
      (.only Only.set_fab_pwr_thm rfl (State.judgeTref_canon h))))))

theorem State.droopLong_canon {s : State} (h : s.Canonical) : (State.droopLong s).Canonical := by
  unfold State.droopLong
  exact State.report_canon (.only Only.set_pwr rfl h)

theorem State.droopOff_canon {s : State} (h : s.Canonical) : (State.droopOff s).Canonical := by
  unfold State.droopOff
  exact .only State.meter_only rfl (State.report_canon (.only Only.set_pwr rfl h))

theorem State.droopOn_canon {s : State} (h : s.Canonical) : (State.droopOn s).Canonical := by
  unfold State.droopOn
  exact .only State.meter_only rfl (State.report_canon (.only Only.set_pwr rfl h))

theorem State.setPower_canon {p} {s : State} (h : s.Canonical) : (State.setPower p s).Canonical := by
  unfold State.setPower
  exact State.report_canon (.only Only.set_pwr rfl h)

theorem State.monitorIn_canon {m pass} {s : State} (h : s.Canonical) : (State.monitorIn m pass s).Canonical := by
  unfold State.monitorIn
  exact State.setPower_canon h

theorem State.railIn_canon {r} {s : State} (h : s.Canonical) : (State.railIn r s).Canonical := by
  unfold State.railIn
  exact State.setPower_canon h

theorem State.stepInputs_canon {s : State} (h : s.Canonical) : (State.stepInputs s).Canonical := by
  unfold State.stepInputs
  exact (.takeFirst (fun _ => (by
      split
      · exact (.some (fun _ h0 => (.access (fun _ h1 => (State.writeLim_canon h1)) h0)))
      · exact (.some (fun _ h0 => (.access (fun _ h1 => (State.writeTjadd_canon h1)) h0)))
      · exact (.some (fun _ h0 => (State.railIn_canon h0)))
      · exact (.some (fun _ h0 => (State.monitorIn_canon h0)))
      · exact .none)) h)

theorem State.underVoltage_canon {s : State} (h : s.Canonical) : (State.underVoltage s).Canonical := by
  unfold State.underVoltage
  exact State.report_canon (.only Only.set_pwr rfl h)

theorem execCoreUnderVoltage_canon {t} {s : State} (h : s.Canonical) : CanonOut (execCoreUnderVoltage t s) := by
  unfold execCoreUnderVoltage
  exact CanonOut.core (fun _ h0 => (.when (fun _ h1 => (State.underVoltage_canon h1)) h0)) h

theorem execDieModelStep_canon {t} {s : State} (h : s.Canonical) : CanonOut (execDieModelStep t s) := by
  unfold execDieModelStep
  exact CanonOut.core (fun _ h0 => (State.dieStep_canon (State.stepInputs_canon h0))) h

theorem execDroopLong_canon {t} {s : State} (h : s.Canonical) : CanonOut (execDroopLong t s) := by
  unfold execDroopLong
  exact CanonOut.core (fun _ h0 => (.when (fun _ h1 => (State.droopLong_canon h1)) h0)) h

theorem execDroopRelease_canon {t} {s : State} (h : s.Canonical) : CanonOut (execDroopRelease t s) := by
  unfold execDroopRelease
  exact CanonOut.core (fun _ h0 => (.when (fun _ h1 => (State.droopOff_canon h1)) h0)) h

theorem execDroopTrip_canon {t} {s : State} (h : s.Canonical) : CanonOut (execDroopTrip t s) := by
  unfold execDroopTrip
  exact CanonOut.core (fun _ h0 => (.only State.tripped_only rfl (.when (fun _ h1 => (State.droopOn_canon h1)) h0))) h

theorem execMonitorSelfCheck_canon {t m pass} {s : State} (h : s.Canonical) :
    CanonOut (execMonitorSelfCheck t m pass s) := by
  unfold execMonitorSelfCheck
  exact CanonOut.core (fun _ h0 => (.once (fun _ h1 => (State.monitorIn_canon h1)) h0)) h

theorem execRailSample_canon {t r} {s : State} (h : s.Canonical) : CanonOut (execRailSample t r s) := by
  unfold execRailSample
  exact CanonOut.core (fun _ h0 => (.once (fun _ h1 => (State.railIn_canon h1)) h0)) h

theorem execShutdownEnd_canon {t req v} {s : State} (h : s.Canonical) : CanonOut (execShutdownEnd t req v s) := by
  unfold execShutdownEnd
  exact CanonOut.core (fun _ h0 => (.access (fun _ h1 => (State.writeShdn_canon h1)) h0)) h

theorem execShutdownStart_canon {t req v} {s : State} (h : s.Canonical) :
    CanonOut (execShutdownStart t req v s) := by
  unfold execShutdownStart
  exact CanonOut.core (fun _ h0 => (.access (fun _ h1 => (State.writeShdn_canon h1)) h0)) h

theorem execThmLim_canon {t req v} {s : State} (h : s.Canonical) : CanonOut (execThmLim t req v s) := by
  unfold execThmLim
  exact CanonOut.core (fun _ h0 => (.once (fun _ h1 => (.access (fun _ h2 => (State.writeLim_canon h2)) h1)) h0)) h

theorem execThmTjadd_canon {t req v} {s : State} (h : s.Canonical) : CanonOut (execThmTjadd t req v s) := by
  unfold execThmTjadd
  exact CanonOut.core (fun _ h0 => (.once (fun _ h1 => (.access (fun _ h2 => (State.writeTjadd_canon h2)) h1)) h0)) h

theorem execThmTref_canon {t req v} {s : State} (h : s.Canonical) : CanonOut (execThmTref t req v s) := by
  unfold execThmTref
  exact CanonOut.core (fun _ h0 => (.access (fun _ h1 => (State.writeTref_canon h1)) h0)) h

theorem execTrefStale_canon {t} {s : State} (h : s.Canonical) : CanonOut (execTrefStale t s) := by
  unfold execTrefStale
  exact CanonOut.core (fun _ h0 => (.when (fun _ h1 => (State.judgeTref_canon (.only Only.set_thm rfl h1))) h0)) h

theorem State.writeFbClr_canon {u v} {s : State} (h : s.Canonical) : (State.writeFbClr u v s).Canonical := by
  unfold State.writeFbClr
  exact State.report_canon h

theorem State.writeFbInj_canon {req u v} {s : State} (h : s.Canonical) :
    (State.writeFbInj req u v s).Canonical := by
  unfold State.writeFbInj
  exact .ite h (.ite (State.injError_canon h) (.ite h (.only Only.set_fab rfl h)))

theorem State.writeFbMreq_canon {u v} {s : State} (h : s.Canonical) : (State.writeFbMreq u v s).Canonical := by
  unfold State.writeFbMreq
  exact .when (fun _ h0 => (.only State.meter_only rfl (State.report_canon h0))) h

theorem State.segmentStall_canon {seg} {s : State} (h : s.Canonical) : (State.segmentStall seg s).Canonical := by
  unfold State.segmentStall
  exact State.report_canon (.ite (.only State.resetCompose_only rfl (.only Only.set_fab rfl h))
      (State.resetShow_canon (.only Only.set_fab rfl h)))

theorem State.watchdog_canon {seg wait ack} {s : State} (h : s.Canonical) :
    (State.watchdog seg wait ack s).Canonical := by
  unfold State.watchdog
  exact (.ite h (by
    split
    · exact (.when (fun _ h0 => (State.stallCrossing_canon h0)) h)
    · exact (State.segmentStall_canon h)))

theorem execFbClr_canon {t req u v} {s : State} (h : s.Canonical) : CanonOut (execFbClr t req u v s) := by
  unfold execFbClr
  exact CanonOut.core (fun _ h0 => (.access (fun _ h1 => (State.writeFbClr_canon h1)) h0)) h

theorem execFbInj_canon {t req u v} {s : State} (h : s.Canonical) : CanonOut (execFbInj t req u v s) := by
  unfold execFbInj
  exact CanonOut.core (fun _ h0 => (.access (fun _ h1 => (State.writeFbInj_canon h1)) h0)) h

theorem execFbMreq_canon {t req u v} {s : State} (h : s.Canonical) : CanonOut (execFbMreq t req u v s) := by
  unfold execFbMreq
  exact CanonOut.core (fun _ h0 => (.access (fun _ h1 => (State.writeFbMreq_canon h1)) h0)) h

theorem execSegmentWatchdog_canon {t seg wait ack} {s : State} (h : s.Canonical) :
    CanonOut (execSegmentWatchdog t seg wait ack s) := by
  unfold execSegmentWatchdog
  exact CanonOut.core (fun _ h0 => (State.watchdog_canon h0)) h

theorem State.arbEnd_canon {j} {s : State} (h : s.Canonical) : (State.arbEnd j s).Canonical := by
  unfold State.arbEnd
  exact .ite (State.report_canon h) (State.logHw_canon (.set_sec (fun _ => Sec.program_otp h.otp)
      (State.report_canon h)))

theorem State.recover_canon {s : State} (h : s.Canonical) : (State.recover s).Canonical := by
  unfold State.recover
  exact .when (fun _ h0 => (State.fwdogService_canon h0)) (State.report_canon (.set_regs_fst rset_wf id h))

theorem State.putTcm_canon {l} {s : State} (h : s.Canonical) : (State.putTcm l s).Canonical := by
  unfold State.putTcm
  exact .set_fst Store.write_wf h

theorem State.secVerify_canon {slotB b dir} {s : State} (h : s.Canonical) :
    (State.secVerify slotB b dir s).Canonical := by
  unfold State.secVerify
  exact State.report_canon (.set_sec (fun k => by rw [Sec.result_otp]; exact k) h)

theorem State.secLoad_canon {slotB b dir} {s : State} (h : s.Canonical) : (State.secLoad slotB b dir s).Canonical := by
  have k : Memory.wf otpByte0 (s.sec.result slotB 1).otp = true := by rw [Sec.result_otp]; exact h.otp
  have q : Memory.wf otpByte0 (s.sec.result slotB 8).otp = true := by rw [Sec.result_otp]; exact h.otp
  unfold State.secLoad
  refine .ite (State.secVerify_canon h) ?_
  split
  · exact State.report_canon (.only State.keepImg_only rfl (.set_sec (fun _ => k) (State.putTcm_canon h)))
  · exact State.report_canon (.set_sec (fun _ => q) (State.putTcm_canon h))

theorem State.bootTry_canon {a b dir trial sk l first} {s : State} (h : s.Canonical) :
    (State.bootTry a b dir trial sk l first s).Canonical := by
  induction l generalizing first s with
  | nil => exact State.recover_canon h
  | cons c r ih =>
    unfold State.bootTry
    exact .ite (.set_regs_fst_sec rset_wf id id (State.secLoad_canon h)) (ih (State.secLoad_canon h))

theorem State.boot_canon {ja jb a b dir} {s : State} (h : s.Canonical) : (State.boot ja jb a b dir s).Canonical := by
  unfold State.boot
  exact State.bootTry_canon (.set_fst id (by
    split
    · exact .set_fst (fun k => by rw [Forester.try_tcm]; exact k) h
    · exact h))

theorem State.secRefuse_canon {code} {s : State} (h : s.Canonical) : (State.secRefuse code s).Canonical := by
  unfold State.secRefuse
  exact .only State.hit_only rfl (.set_sec id h)

theorem State.secStart_canon {op rowCode addr v w} {s : State} (h : s.Canonical) :
    (State.secStart op rowCode addr v w s).Canonical := by
  unfold State.secStart
  exact .ite (State.secRefuse_canon h) (.ite (State.secRefuse_canon h) (.ite (State.secRefuse_canon h) (.ite
      (State.secRefuse_canon h) (.set_sec id h))))

theorem State.cmdVerify_canon {v} {s : State} (h : s.Canonical) : (State.cmdVerify v s).Canonical := by
  unfold State.cmdVerify
  exact State.secStart_canon h

theorem State.cmdArb_canon {v} {s : State} (h : s.Canonical) : (State.cmdArb v s).Canonical := by
  unfold State.cmdArb
  exact State.secStart_canon h

theorem State.cmdCfg_canon {v} {s : State} (h : s.Canonical) : (State.cmdCfg v s).Canonical := by
  unfold State.cmdCfg
  exact State.secStart_canon h

theorem State.cmdLoad_canon {v} {s : State} (h : s.Canonical) : (State.cmdLoad v s).Canonical := by
  unfold State.cmdLoad
  exact State.secStart_canon h

theorem State.cmdProg_canon {v} {s : State} (h : s.Canonical) : (State.cmdProg v s).Canonical := by
  unfold State.cmdProg
  exact State.secStart_canon h

theorem State.writeSecCmd_canon {v} {s : State} (h : s.Canonical) : (State.writeSecCmd v s).Canonical := by
  unfold State.writeSecCmd
  exact .ite (State.cmdVerify_canon h) (.ite (State.cmdLoad_canon h) (.ite (State.cmdArb_canon h) (.ite
      (State.cmdProg_canon h) (.ite (State.cmdCfg_canon h) h))))

theorem State.challenge_canon {s : State} (h : s.Canonical) : (State.challenge s).Canonical := by
  unfold State.challenge
  exact .only State.spend_only rfl (State.report_canon (.set_sec id h))

theorem State.debugFail_canon {s : State} (h : s.Canonical) : (State.debugFail s).Canonical := by
  unfold State.debugFail
  exact State.report_canon (.set_sec id h)

theorem State.debugOpen_canon {level k} {s : State} (h : s.Canonical) : (State.debugOpen level k s).Canonical := by
  unfold State.debugOpen
  exact State.logHw_canon (State.report_canon (.set_sec id h))

theorem State.respond_canon {level k sig key} {s : State} (h : s.Canonical) :
    (State.respond level k sig key s).Canonical := by
  unfold State.respond
  exact State.report_canon (.ite (State.debugOpen_canon h) (State.debugFail_canon h))

theorem State.respFirst_canon {s : State} (h : s.Canonical) : (State.respFirst s).Canonical := by
  unfold State.respFirst
  exact (.takeFirst (fun _ => (by
      split
      · exact (.some (fun _ h0 => (State.respond_canon h0)))
      · exact .none)) h)

theorem State.secEnd_canon {j slot dir} {s : State} (h : s.Canonical) : (State.secEnd j slot dir s).Canonical := by
  unfold State.secEnd
  exact .ite (State.secVerify_canon h) (.ite (State.secLoad_canon h) (.ite (State.arbEnd_canon h)
    (.ite (.set_sec Sec.program_otp h) (State.report_canon (.set_sec Sec.setCfg_otp h)))))

theorem State.secFinish_canon {slot dir} {s : State} (h : s.Canonical) :
    (State.secFinish slot dir s).Canonical := by
  unfold State.secFinish
  exact (by
    split
    · exact h
    · exact (State.report_canon (.set_sec id (State.secEnd_canon h))))

theorem execArbRaise_canon {t v} {s : State} (h : s.Canonical) : CanonOut (execArbRaise t v s) := by
  unfold execArbRaise
  exact CanonOut.sec (fun _ h0 => (State.cmdArb_canon h0)) h

theorem execBootSelect_canon {t journalA journalB slotA slotB dir} {s : State} (h : s.Canonical) :
    CanonOut (execBootSelect t journalA journalB slotA slotB dir s) := by
  unfold execBootSelect
  exact CanonOut.forester (fun _ h0 => (.when (fun _ h1 => (State.boot_canon h1)) h0)) h

theorem execCfgSet_canon {t v} {s : State} (h : s.Canonical) : CanonOut (execCfgSet t v s) := by
  unfold execCfgSet
  exact CanonOut.sec (fun _ h0 => (State.cmdCfg_canon h0)) h

theorem execChallengeExpiry_canon {t} {s : State} (h : s.Canonical) : CanonOut (execChallengeExpiry t s) := by
  unfold execChallengeExpiry
  exact CanonOut.core (fun _ h0 => (.when (fun _ h1 => (.set_sec id h1)) h0)) h

theorem execCryptoSelfTestDone_canon {t ok} {s : State} (h : s.Canonical) :
    CanonOut (execCryptoSelfTestDone t ok s) := by
  unfold execCryptoSelfTestDone
  exact CanonOut.core (fun _ h0 => (State.report_canon (.set_sec id h0))) h

theorem execLoad_canon {t v} {s : State} (h : s.Canonical) : CanonOut (execLoad t v s) := by
  unfold execLoad
  exact CanonOut.sec (fun _ h0 => (State.cmdLoad_canon h0)) h

theorem execOtpProg_canon {t v} {s : State} (h : s.Canonical) : CanonOut (execOtpProg t v s) := by
  unfold execOtpProg
  exact CanonOut.sec (fun _ h0 => (State.cmdProg_canon h0)) h

theorem execSecChal_canon {t} {s : State} (h : s.Canonical) : CanonOut (execSecChal t s) := by
  unfold execSecChal
  exact CanonOut.core (fun _ h0 => (.when (fun _ h1 => (State.challenge_canon h1)) (State.respFirst_canon h0))) h

theorem execSecResp_canon {t level k sig dirKey} {s : State} (h : s.Canonical) :
    CanonOut (execSecResp t level k sig dirKey s) := by
  unfold execSecResp
  exact CanonOut.core (fun _ h0 => (.once (fun _ h1 => (State.respond_canon h1)) h0)) h

theorem execVerify_canon {t v} {s : State} (h : s.Canonical) : CanonOut (execVerify t v s) := by
  unfold execVerify
  exact CanonOut.sec (fun _ h0 => (State.cmdVerify_canon h0)) h

theorem State.romReply_canon {seq cmd rc ws} {s : State} (h : s.Canonical) :
    (State.romReply seq cmd rc ws s).Canonical := by
  unfold State.romReply
  exact State.writeMbDone_canon (.set_regs putRsp_wf h)

theorem State.setRom_canon {x} {s : State} (h : s.Canonical) : (State.setRom x s).Canonical := by
  unfold State.setRom
  exact .set_fst id h

theorem State.romAnswer_canon {rc} {s : State} (h : s.Canonical) : (State.romAnswer rc s).Canonical := by
  unfold State.romAnswer
  exact (by
    split
    · exact (State.romReply_canon (State.setRom_canon h))
    · exact h)

theorem State.romDone_canon {s : State} (h : s.Canonical) : (State.romDone s).Canonical := by
  unfold State.romDone
  exact (by
    dsimp only
    split
    · exact (State.writeMbEvt_canon (State.setRom_canon h))
    · exact (State.romAnswer_canon (State.setRom_canon h))
    · exact (State.romAnswer_canon (State.setRom_canon (.set_fst (fun k => by rw [Forester.untry_tcm]; exact k) h)))
    · exact h)

theorem State.romFail_canon {rc} {s : State} (h : s.Canonical) : (State.romFail rc s).Canonical := by
  unfold State.romFail
  exact State.romAnswer_canon (State.setRom_canon h)

theorem State.romIssue_canon {s : State} (h : s.Canonical) : (State.romIssue s).Canonical := by
  unfold State.romIssue
  exact (by
    split
    · exact (State.romDone_canon h)
    · exact (.ite (State.romFail_canon h) (.ite (State.writeNor_canon (.set_regs (fun k => rset_wf
        (norFill_wf k)) h)) (State.romFail_canon (State.writeNor_canon (.set_regs (fun k => rset_wf
        (norFill_wf k)) h))))))

theorem State.romSay_canon {rc ws} {s : State} (h : s.Canonical) : (State.romSay rc ws s).Canonical := by
  unfold State.romSay
  exact State.romReply_canon h

theorem State.romBegin_canon {s : State} (h : s.Canonical) : (State.romBegin s).Canonical := by
  unfold State.romBegin
  exact .ite (State.romSay_canon h) (.ite (State.romSay_canon h) (.ite (State.romSay_canon h) (State.romIssue_canon
      (State.setRom_canon (State.romSay_canon h)))))

theorem State.romCommit_canon {s : State} (h : s.Canonical) : (State.romCommit s).Canonical := by
  unfold State.romCommit
  exact .ite (State.romSay_canon h) (.ite (State.romSay_canon h) (.ite (State.romSay_canon h) (.ite
      (State.setRom_canon (State.cmdVerify_canon h)) (State.romSay_canon (State.cmdVerify_canon h)))))

theorem State.romReboot_canon {s : State} (h : s.Canonical) : (State.romReboot s).Canonical := by
  unfold State.romReboot
  exact State.resetForester_canon (State.romSay_canon h)

theorem State.romStart_canon {x} {s : State} (h : s.Canonical) : (State.romStart x s).Canonical := by
  unfold State.romStart
  exact State.romIssue_canon (State.setRom_canon h)

theorem State.romWrite_canon {s : State} (h : s.Canonical) : (State.romWrite s).Canonical := by
  unfold State.romWrite
  exact (.ite (State.romSay_canon h) (.ite (State.romSay_canon h) (by
    split
    · exact (State.romSay_canon h)
    · exact (State.romStart_canon h))))

theorem State.romServe_canon {s : State} (h : s.Canonical) : (State.romServe s).Canonical := by
  unfold State.romServe
  exact .ite (State.romSay_canon h) (.ite (State.romSay_canon h) (.ite (State.romBegin_canon h) (.ite
      (State.romWrite_canon h) (.ite (State.romCommit_canon h) (.ite (State.romSay_canon h) (.ite
      (State.romReboot_canon h) (State.romSay_canon h)))))))

theorem State.writeDoor_canon {v} {s : State} (h : s.Canonical) : (State.writeDoor v s).Canonical := by
  unfold State.writeDoor
  exact .ite (.when (fun _ h0 => (State.romServe_canon h0)) (State.mbStart_canon h)) (State.report_canon
      (.only Only.set_host rfl h))

theorem State.romNext_canon {s : State} (h : s.Canonical) : (State.romNext s).Canonical := by
  unfold State.romNext
  exact .ite (State.romIssue_canon (State.setRom_canon h)) h

theorem State.norEnd_canon {data} {s : State} (h : s.Canonical) : (State.norEnd data s).Canonical := by
  unfold State.norEnd
  exact .ite (.when (fun _ h0 => (State.norClosed_canon h0)) h) (.when (fun _ h0 => (State.romNext_canon h0))
      (State.norDone_canon h))

theorem State.romError_canon {s : State} (h : s.Canonical) : (State.romError s).Canonical := by
  unfold State.romError
  exact .when (fun _ h0 => (State.romFail_canon h0)) h

theorem State.norLate_canon {s : State} (h : s.Canonical) : (State.norLate s).Canonical := by
  unfold State.norLate
  exact .ite (.when (fun _ h0 => (State.norGiveUp_canon h0)) h) (.when (fun _ h0 => (State.romError_canon h0))
      (State.norTimeout_canon h))

theorem State.romVerified_canon {code} {s : State} (h : s.Canonical) : (State.romVerified code s).Canonical := by
  unfold State.romVerified
  exact (by
    dsimp only
    split
    · exact (.ite (State.romFail_canon h) (.ite (State.romFail_canon h) (State.romIssue_canon
        (State.setRom_canon h))))
    · exact h)

theorem State.secOver_canon {slot dir} {s : State} (h : s.Canonical) : (State.secOver slot dir s).Canonical := by
  unfold State.secOver
  exact .when (fun _ h0 => (State.romVerified_canon h0)) (State.secFinish_canon h)

theorem execMbDoor_canon {t req v} {s : State} (h : s.Canonical) : CanonOut (execMbDoor t req v s) := by
  unfold execMbDoor
  exact CanonOut.core (fun _ h0 => (.access (fun _ h1 => (State.writeDoor_canon h1)) h0)) h

theorem execSecCommandEnd_canon {t slot dir} {s : State} (h : s.Canonical) :
    CanonOut (execSecCommandEnd t slot dir s) := by
  unfold execSecCommandEnd
  exact CanonOut.core (fun _ h0 => (State.secOver_canon h0)) h

theorem execSpiNorCommandDone_canon {t data} {s : State} (h : s.Canonical) :
    CanonOut (execSpiNorCommandDone t data s) := by
  unfold execSpiNorCommandDone
  exact CanonOut.core (fun _ h0 => (State.norEnd_canon h0)) h

theorem execSpiNorWipTimeout_canon {t} {s : State} (h : s.Canonical) : CanonOut (execSpiNorWipTimeout t s) := by
  unfold execSpiNorWipTimeout
  exact CanonOut.core (fun _ h0 => (.when (fun _ h1 => (State.norLate_canon h1)) h0)) h

end Sys2Proof.Machine
end

