-- ==== Sys2Proof/Laws/OnlyAccess.lean ====
section
/-! SUPPORT. Which parts the functions of start-up, register accesses, the DMA bursts, debug and the quad-SPI port change: one lemma for each. -/

namespace Sys2Proof.Machine

open Sys2Proof

/-- A write of the part of a byte string that falls in its place. -/
theorem Only.putPart {l : List Part} {s u : State} {lo hi a : Nat} {data : List Byte}
    {f : Nat → List Byte → State → State} (hf : ∀ x y v, Only l s v → Only l s (f x y v)) (h : Only l s u) :
    Only l s (State.putPart lo hi a data f u) := by
  unfold State.putPart
  exact .ite h (hf _ _ _ h)

theorem State.latch_only {req a} {s : State} : Only [.hi] s (State.latch req a s) := by
  unfold State.latch
  exact .ite (.app Only.set_hi rfl .refl) .refl

theorem State.readReg_only {req a} {s : State} :
    Only [.now, .regs, .live, .hi, .flt, .out] s (State.readReg req a s) := by
  unfold State.readReg
  exact .ite (.app State.report_only rfl .refl) (.app State.report_only rfl (.app State.latch_only rfl .refl))

theorem State.applyProfile_only {s : State} :
    Only [.now, .regs, .live, .skein, .arr, .ret, .lane, .stream, .tb, .cmt, .flt, .out]
      s (State.applyProfile s) := by
  unfold State.applyProfile
  exact .app State.idleCheck_only rfl (.app State.retLocks_only rfl (.foldl
      (.app Only.set_regs_tb_cmt_flt rfl .refl) (fun _ _ h0 => (.app State.laneSet_only rfl h0))))

theorem State.closeNor_only {x} {s : State} :
    Only [.now, .regs, .live, .flt, .fst, .out] s (State.closeNor x s) := by
  unfold State.closeNor
  exact .app State.report_only rfl (.app Only.set_fst rfl .refl)

theorem State.coreLoaded_only {s : State} :
    Only [.now, .regs, .live, .top, .skein, .arr, .ret, .lane, .stream, .tb, .cmt, .flt, .out]
      s (State.coreLoaded s) := by
  unfold State.coreLoaded
  exact Only.when (fun _ h0 => (.app State.applyProfile_only rfl h0)) (.app Only.set_top rfl .refl)

theorem State.coreAfterLoad_only {s : State} :
    Only [.now, .regs, .live, .top, .skein, .arr, .ret, .lane, .stream, .tb, .cmt, .flt, .glade, .fst, .out]
      s (State.coreAfterLoad s) := by
  unfold State.coreAfterLoad
  exact .app Only.set_glade rfl (.app State.norRelease_only rfl (.app State.coreLoaded_only rfl .refl))

theorem State.cutOtp_only {s : State} : Only [.free, .sec] s (State.cutOtp s) := by
  unfold State.cutOtp
  exact (by
    split
    · exact .refl
    · exact (.foldl .refl (fun _ _ h0 => (.app Only.set_free_sec rfl h0))))

theorem State.coreOff_only {s : State} :
    Only [.free, .regs, .live, .hi, .top, .clk, .host, .bank0, .bank1, .health, .healthSetAt, .healthSet,
      .healthSeen, .clearQ, .layers, .calib, .surf, .skein, .arr, .ret, .areq, .lane, .stream, .intake,
      .layer, .comp, .fab, .corr, .shade, .tb, .cmt, .dma, .pwr, .thm, .tile, .flt, .fst, .log, .sec] s s.coreOff := by
  have k := State.cutOtp_only (s := s)
  unfold State.coreOff
  intro p h
  cases p <;> first
    | exact k .now rfl
    | exact k .glade rfl
    | exact k .out rfl
    | exact k .pending rfl
    | cases h

theorem State.coreStart_only {uv} {s : State} :
    Only [.now, .free, .regs, .live, .top, .clk, .flt, .glade, .fst, .log, .sec, .out]
      s (State.coreStart uv s) := by
  unfold State.coreStart
  exact .app State.resetForester_only rfl (.app State.logHw_only rfl (.app State.spend_only rfl
      (.app Only.set_top_clk rfl .refl)))

theorem State.coreUp_only {s : State} :
    Only [.now, .free, .regs, .live, .top, .clk, .skein, .arr, .ret, .lane, .stream, .tb, .cmt, .pwr,
      .flt, .glade, .fst, .log, .sec, .out] s (State.coreUp s) := by
  unfold State.coreUp
  exact .app State.gladeSettle_only rfl (.app State.coreAfterLoad_only rfl (.app State.coreStart_only rfl
      (.app Only.set_pwr rfl .refl)))

theorem State.loadEnd_only {x} {s : State} :
    Only [.now, .regs, .live, .top, .skein, .arr, .ret, .lane, .stream, .tb, .cmt, .flt, .glade, .fst, .out]
      s (State.loadEnd x s) := by
  unfold State.loadEnd
  exact .ite .refl (Only.when (fun _ h0 => (.app State.coreAfterLoad_only rfl h0)) (.app State.report_only rfl
      (.app Only.set_glade rfl .refl)))

theorem State.lost_only {s : State} :
    Only [.free, .regs, .live, .hi, .top, .clk, .host, .bank0, .bank1, .health, .healthSetAt, .healthSet,
      .healthSeen, .clearQ, .layers, .calib, .surf, .skein, .arr, .ret, .areq, .lane, .stream, .intake,
      .layer, .comp, .fab, .corr, .shade, .tb, .cmt, .dma, .pwr, .thm, .tile, .flt, .glade, .fst, .log, .sec] s s.lost := by
  have k := State.cutOtp_only (s := s)
  unfold State.lost
  intro p h
  cases p <;> first
    | exact k .now rfl
    | exact k .out rfl
    | exact k .pending rfl
    | cases h

theorem State.stopSurface_only {u} {s : State} : Only [.comp] s (State.stopSurface s u) := by
  unfold State.stopSurface
  exact .app State.setComp_only rfl .refl

theorem State.stopParts_only {s : State} :
    Only [.now, .regs, .live, .surf, .intake, .comp, .thm, .flt, .glade, .fst, .log, .sec, .out]
      s (State.stopParts s) := by
  unfold State.stopParts
  exact .foldl (.foldl (.app State.closeNor_only rfl (.app State.resetForester_only rfl
      (.app Only.set_thm rfl .refl))) (fun _ _ h0 => (.app State.failOpen_only rfl h0))) (fun _ _ h0 =>
      (.app State.stopSurface_only rfl h0))

theorem State.orderlyEnd_only {s : State} :
    Only [.now, .regs, .live, .surf, .intake, .comp, .thm, .flt, .glade, .fst, .log, .sec, .out]
      s (State.orderlyEnd s) := by
  unfold State.orderlyEnd
  exact .app State.report_only rfl (Only.when (fun _ h0 => (.app State.stopParts_only rfl h0))
      (.app State.keepAs_only rfl (.app Only.set_thm rfl .refl)))

theorem State.powerUp_only {hostSel} {s : State} :
    Only [.now, .free, .regs, .live, .hi, .top, .clk, .host, .bank0, .bank1, .health, .healthSetAt,
      .healthSet, .healthSeen, .clearQ, .layers, .calib, .surf, .skein, .arr, .ret, .areq, .lane, .stream, .intake, .layer, .comp, .fab, .corr, .shade, .tb, .cmt, .dma, .pwr, .thm, .tile, .flt, .glade, .fst, .log, .sec, .out] s (State.powerUp hostSel s) := by
  unfold State.powerUp
  exact .app State.coreStart_only rfl (.app Only.set_now_sample_top_host_glade_out rfl
      (.app State.lost_only rfl .refl))

theorem execCoreRelease_only {t} {s : State} :
    OnlyOut [.now, .free, .regs, .live, .top, .clk, .skein, .arr, .ret, .lane, .stream, .tb, .cmt,
      .pwr, .flt, .glade, .fst, .log, .sec, .out] s (execCoreRelease t s) := by
  unfold execCoreRelease
  exact .next (.ite (.app State.coreUp_only rfl (.app State.stamp_only rfl .refl)) (.app State.stamp_only rfl .refl))

theorem execCoreReset_only {t} {s : State} :
    OnlyOut [.now, .free, .regs, .live, .hi, .top, .clk, .host, .bank0, .bank1, .health, .healthSetAt,
      .healthSet, .healthSeen, .clearQ, .layers, .calib, .surf, .skein, .arr, .ret, .areq, .lane, .stream, .intake, .layer, .comp, .fab, .corr, .shade, .tb, .cmt, .dma, .pwr, .thm, .tile, .flt, .fst, .log, .sec] s (execCoreReset t s) := by
  unfold execCoreReset
  exact OnlyOut.core rfl (fun _ h0 => (.app State.coreOff_only rfl h0))

theorem execGladeLoadEnd_only {t flash} {s : State} :
    OnlyOut [.now, .regs, .live, .top, .skein, .arr, .ret, .lane, .stream, .tb, .cmt, .flt, .glade,
      .fst, .log, .out] s (execGladeLoadEnd t flash s) := by
  unfold execGladeLoadEnd
  exact OnlyOut.settled rfl (fun _ h0 => (.app State.loadEnd_only rfl h0))

theorem execOrderlyWindowEnd_only {t} {s : State} :
    OnlyOut [.now, .regs, .live, .surf, .intake, .comp, .thm, .flt, .glade, .fst, .log, .sec, .out]
      s (execOrderlyWindowEnd t s) := by
  unfold execOrderlyWindowEnd
  exact OnlyOut.core rfl (fun _ h0 => (Only.when (fun _ h1 => (.app State.orderlyEnd_only rfl h1)) h0))

theorem execPorstNAssert_only {t} {s : State} :
    OnlyOut [.now, .free, .regs, .live, .hi, .top, .clk, .host, .bank0, .bank1, .health, .healthSetAt,
      .healthSet, .healthSeen, .clearQ, .layers, .calib, .surf, .skein, .arr, .ret, .areq, .lane, .stream, .intake, .layer, .comp, .fab, .corr, .shade, .tb, .cmt, .dma, .pwr, .thm, .tile, .flt, .glade, .fst, .log, .sec] s (execPorstNAssert t s) := by
  unfold execPorstNAssert
  exact .next (.app State.lost_only rfl (.app State.stamp_only rfl .refl))

theorem execPorstNRelease_only {t hostSel testEn} {s : State} :
    OnlyOut [.now, .free, .regs, .live, .hi, .top, .clk, .host, .bank0, .bank1, .health, .healthSetAt,
      .healthSet, .healthSeen, .clearQ, .layers, .calib, .surf, .skein, .arr, .ret, .areq, .lane, .stream, .intake, .layer, .comp, .fab, .corr, .shade, .tb, .cmt, .dma, .pwr, .thm, .tile, .flt, .glade, .fst, .log, .sec, .out] s (execPorstNRelease t hostSel testEn s) := by
  unfold execPorstNRelease
  exact .next (.ite (.app State.stamp_only rfl .refl) (.ite (.app Only.set_top rfl
      (.app State.stamp_only rfl .refl)) (.app State.powerUp_only rfl (.app State.stamp_only rfl .refl))))

theorem execStoreInitDone_only {t} {s : State} : OnlyOut [.now, .top] s (execStoreInitDone t s) := by
  unfold execStoreInitDone
  exact OnlyOut.core rfl (fun _ h0 => (.app Only.set_top rfl h0))

theorem State.putShadow_only {a v} {s : State} : Only [.now, .regs, .cmt] s (State.putShadow a v s) := by
  unfold State.putShadow
  exact .ite (.app State.hit_only rfl (.app Only.set_cmt rfl .refl)) (.app Only.set_regs_cmt rfl .refl)

theorem State.putPlain_only {a v} {s : State} : Only [.now, .regs, .cmt] s (State.putPlain a v s) := by
  unfold State.putPlain
  exact (by
    split
    · exact .refl
    · exact (.ite (.app State.putShadow_only rfl .refl) (.app Only.set_regs rfl .refl)))

theorem State.putComposer_only {req u off v} {s : State} :
    Only [.now, .regs, .live, .fab, .cmt, .flt, .out] s (State.putComposer req u off v s) := by
  unfold State.putComposer
  exact .ite (.app State.writeFbClr_only rfl .refl) (.ite (.app State.writeFbInj_only rfl .refl) (.ite
      (.app State.writeFbMreq_only rfl .refl) (.app State.putPlain_only rfl .refl)))

theorem State.putCorr_only {u off v} {s : State} :
    Only [.now, .regs, .live, .corr, .cmt, .flt, .out] s (State.putCorr u off v s) := by
  unfold State.putCorr
  exact .ite (.app State.writeCurve_only rfl .refl) (.ite (.app Only.set_corr rfl .refl) (.ite
      (.app State.writeMlim_only rfl .refl) (.app State.putPlain_only rfl .refl)))

theorem State.putDma_only {req off v} {s : State} :
    Only [.now, .regs, .live, .host, .cmt, .dma, .flt, .out] s (State.putDma req off v s) := by
  unfold State.putDma
  exact .ite (.ite (.app State.writeDmaCtrl_only rfl .refl) (.ite (.app State.setCh_only rfl .refl) .refl)) (.ite
      (.ite (.app State.hit_only rfl (.app State.setCh_only rfl .refl)) (.app State.putPlain_only rfl .refl))
      (.app State.putPlain_only rfl .refl))

theorem State.putFault_only {req off v} {s : State} :
    Only [.now, .regs, .live, .cmt, .flt, .out] s (State.putFault req off v s) := by
  unfold State.putFault
  exact .ite (.app Only.set_flt rfl .refl) (.ite (.app State.putPlain_only rfl (.app State.keep_only rfl .refl))
      (.ite (.app State.writeSrccls_only rfl .refl) (.ite (.app State.writeInj_only rfl .refl) (.ite
      (.app Only.set_flt rfl .refl) (.ite (.app State.writeChkinv_only rfl .refl) (.ite
      (.app Only.set_regs rfl .refl) (.app State.putPlain_only rfl .refl)))))))

theorem State.putForester_only {req off v} {s : State} :
    Only [.now, .regs, .live, .host, .cmt, .flt, .glade, .fst, .log, .sec, .out]
      s (State.putForester req off v s) := by
  unfold State.putForester
  exact .ite (.app State.report_only rfl .refl) (.ite (.app State.writeDoor_only rfl .refl) (.ite
      (.app Only.set_host rfl .refl) (.ite (.app Only.set_regs rfl .refl) (.app State.putPlain_only rfl .refl))))

theorem State.putHeader_only {req p off v} {s : State} :
    Only [.now, .regs, .flt] s (State.putHeader req p off v s) := by
  unfold State.putHeader
  exact .ite (.app State.writeCtrl_only rfl .refl) (.ite (.app Only.set_regs rfl .refl) (.ite
      (.app State.clearIrq_only rfl .refl) (.ite (.app Only.set_regs rfl .refl) (.ite
      (.app State.forceIrq_only rfl .refl) (.ite (.app State.writeForce_only rfl .refl) .refl)))))

theorem State.putHost_only {off v} {s : State} : Only [.now, .regs, .host, .cmt] s (State.putHost off v s) := by
  unfold State.putHost
  exact .ite (.app State.armVectors_only rfl .refl) (.app State.putPlain_only rfl .refl)

theorem State.putIntake_only {l off v} {s : State} :
    Only [.now, .regs, .intake, .cmt] s (State.putIntake l off v s) := by
  unfold State.putIntake
  exact .ite (.app Only.set_intake rfl .refl) (.app State.putPlain_only rfl .refl)

theorem State.putMsix_only {off v} {s : State} : Only [.now, .regs, .host, .cmt] s (State.putMsix off v s) := by
  unfold State.putMsix
  exact .ite (.app Only.set_host rfl (.app State.putPlain_only rfl .refl)) (.app State.putPlain_only rfl .refl)

theorem State.putSal_only {off v} {s : State} :
    Only [.now, .regs, .live, .areq, .stream, .cmt, .flt, .out] s (State.putSal off v s) := by
  unfold State.putSal
  exact .ite (.app State.writeAcmd_only rfl .refl) (.ite (.app Only.set_areq rfl .refl)
      (.app State.putPlain_only rfl .refl))

theorem State.putSec_only {off v} {s : State} : Only [.now, .regs, .cmt, .sec] s (State.putSec off v s) := by
  unfold State.putSec
  exact .ite (.app State.writeSecCmd_only rfl .refl) (.ite (.app Only.set_sec rfl .refl)
      (.app State.putPlain_only rfl .refl))

theorem State.putShade_only {off v} {s : State} :
    Only [.now, .regs, .live, .shade, .cmt, .flt, .out] s (State.putShade off v s) := by
  unfold State.putShade
  exact .ite (.app Only.set_shade rfl .refl) (.ite (.app State.mailboxGo_only rfl .refl) (.ite .refl
      (.app State.putPlain_only rfl .refl)))

theorem State.putSkein_only {l off v} {s : State} :
    Only [.now, .regs, .live, .lane, .stream, .cmt, .flt, .out] s (State.putSkein l off v s) := by
  unfold State.putSkein
  exact .ite (.app State.writeRetry_only rfl .refl) (.ite (.app State.writeLoop_only rfl .refl)
      (.app State.putPlain_only rfl .refl))

theorem State.putStitch_only {off v} {s : State} :
    Only [.now, .regs, .live, .health, .healthSetAt, .healthSet, .healthSeen, .clearQ, .cmt, .flt, .out]
      s (State.putStitch off v s) := by
  unfold State.putStitch
  exact .ite (.app State.spoilHealth_only rfl (.app State.setHealth_only rfl .refl)) (.ite
      (.app State.queueClear_only rfl .refl) (.ite (.app Only.set_regs rfl .refl)
      (.app State.putPlain_only rfl .refl)))

theorem State.putTherm_only {off v} {s : State} :
    Only [.now, .regs, .live, .cmt, .thm, .flt, .out] s (State.putTherm off v s) := by
  unfold State.putTherm
  exact .ite (.app State.writeTref_only rfl .refl) (.ite (.app State.writeLim_only rfl .refl) (.ite
      (.app State.writeTjadd_only rfl .refl) (.app State.putPlain_only rfl .refl)))

theorem State.putTop_only {off v} {s : State} :
    Only [.now, .regs, .live, .top, .cmt, .thm, .flt, .glade, .fst, .out] s (State.putTop off v s) := by
  unfold State.putTop
  exact .ite (.app State.writeCommit_only rfl .refl) (.ite (.app Only.set_cmt rfl .refl) (.ite
      (.app State.writePhase_only rfl .refl) (.ite (.app State.writeShdn_only rfl .refl) (.ite
      (.app Only.set_top rfl .refl) (.app State.putPlain_only rfl .refl)))))

theorem State.pageWrite_only {req p off v} {s : State} :
    Only [.now, .regs, .live, .top, .host, .health, .healthSetAt, .healthSet, .healthSeen, .clearQ,
      .areq, .lane, .stream, .intake, .fab, .corr, .shade, .cmt, .dma, .thm, .flt, .glade, .fst, .log, .sec, .out] s (State.pageWrite req p off v s) := by
  unfold State.pageWrite
  exact .ite (.app State.putHeader_only rfl .refl) (.ite (.app State.putTop_only rfl .refl) (.ite
      (.app State.putIntake_only rfl .refl) (.ite (.app State.putHost_only rfl .refl) (.ite
      (.app State.putMsix_only rfl .refl) (.ite (.app State.putDma_only rfl .refl) (.ite
      (.app State.putComposer_only rfl .refl) (.ite (.app State.putCorr_only rfl .refl) (.ite
      (.app State.putShade_only rfl .refl) (.ite (.app State.putStitch_only rfl .refl) (.ite
      (.app State.putSkein_only rfl .refl) (.ite (.app State.putSal_only rfl .refl) (.ite
      (.app State.putTherm_only rfl .refl) (.ite (.app State.putFault_only rfl .refl) (.ite
      (.app State.putForester_only rfl .refl) (.ite (.app State.putSec_only rfl .refl)
      (.app State.putPlain_only rfl .refl))))))))))))))))

theorem State.writeReg_only {req a v} {s : State} :
    Only [.now, .regs, .live, .top, .host, .health, .healthSetAt, .healthSet, .healthSeen, .clearQ,
      .areq, .lane, .stream, .intake, .fab, .corr, .shade, .cmt, .dma, .thm, .flt, .glade, .fst, .log, .sec, .out] s (State.writeReg req a v s) := by
  unfold State.writeReg
  exact .ite .refl (.ite (Only.access rfl (fun _ h0 => (.app State.pageWrite_only rfl h0)) .refl) (.ite
      (.app State.report_only rfl .refl) (.ite (.app State.writeOwner_only rfl .refl) .refl)))

theorem State.uartPut_only {b} {s : State} : Only [.free, .fst] s (State.uartPut b s) := by
  unfold State.uartPut
  exact .ite (.app Only.set_fst rfl .refl) (.ite (.app State.spend_only rfl .refl) (.app Only.set_fst rfl
      (.app State.spend_only rfl .refl)))

theorem State.writeFp_only {off v} {s : State} :
    Only [.now, .free, .regs, .live, .host, .cmt, .flt, .glade, .fst, .log, .sec, .out]
      s (State.writeFp off v s) := by
  unfold State.writeFp
  exact .ite (Only.when (fun _ h0 => (.app State.resetForester_only rfl h0)) .refl) (.ite
      (.app State.writeWdog_only rfl .refl) (.ite (.app State.writeMbDone_only rfl .refl) (.ite
      (.app State.writeMbEvt_only rfl .refl) (.ite (.app State.writeLogRd_only rfl .refl) (.ite
      (.app State.writeLogCode_only rfl .refl) (.ite (.app State.writeNor_only rfl .refl) (.ite
      (.app State.uartPut_only rfl .refl) (.ite (.app Only.set_fst rfl .refl)
      (.app State.putPlain_only rfl .refl)))))))))

theorem State.busWrite_only {req a v be} {s : State} :
    Only [.now, .free, .regs, .live, .top, .host, .health, .healthSetAt, .healthSet, .healthSeen,
      .clearQ, .areq, .lane, .stream, .intake, .fab, .corr, .shade, .cmt, .dma, .thm, .flt, .glade, .fst, .log, .sec, .out] s (State.busWrite req a v be s) := by
  unfold State.busWrite
  exact .ite (.ite (.app State.writeFp_only rfl .refl) .refl) (.ite (.app State.report_only rfl .refl)
      (.app State.writeReg_only rfl .refl))

theorem State.hostWrites_only {s : State} :
    Only [.now, .free, .regs, .live, .top, .host, .health, .healthSetAt, .healthSet, .healthSeen,
      .clearQ, .areq, .lane, .stream, .intake, .fab, .corr, .shade, .cmt, .dma, .thm, .flt, .glade, .fst, .log, .sec, .out] s (State.hostWrites s) := by
  unfold State.hostWrites
  exact (Only.takeFirst rfl (fun _ => (by
      split
      · exact (.some (fun _ h0 => (Only.access rfl (fun _ h1 => (.app State.writePhase_only rfl h1)) h0)))
      · exact (.some (fun _ h0 => (.app State.busWrite_only rfl h0)))
      · exact .none)) .refl)

theorem execHostPortReset_only {t k} {s : State} :
    OnlyOut [.now, .free, .regs, .live, .top, .host, .health, .healthSetAt, .healthSet, .healthSeen,
      .clearQ, .areq, .lane, .stream, .intake, .fab, .corr, .shade, .cmt, .dma, .thm, .flt, .glade, .fst, .log, .sec, .out] s (execHostPortReset t k s) := by
  unfold execHostPortReset
  exact OnlyOut.core rfl (fun _ h0 => (Only.when (fun _ h1 => (.app State.hostReset_only rfl
      (.app State.hostWrites_only rfl h1))) h0))

theorem execRegisterWrite_only {t req addr v be} {s : State} :
    OnlyOut [.now, .free, .regs, .live, .top, .host, .health, .healthSetAt, .healthSet, .healthSeen,
      .clearQ, .areq, .lane, .stream, .intake, .fab, .corr, .shade, .cmt, .dma, .thm, .flt, .glade, .fst, .log, .sec, .out] s (execRegisterWrite t req addr v be s) := by
  unfold execRegisterWrite
  exact OnlyOut.core rfl (fun _ h0 => (Only.once rfl (fun _ h1 => (.app State.busWrite_only rfl h1)) h0))

theorem State.afterFp_only {off} {s : State} : Only [.free, .hi, .fst] s (State.afterFp off s) := by
  unfold State.afterFp
  exact .ite (.app Only.set_fst rfl .refl) (.ite (.app State.spend_only rfl .refl) (.ite
      (.app Only.set_hi rfl .refl) .refl))

theorem State.busRead_only {req a} {s : State} :
    Only [.now, .free, .regs, .live, .hi, .flt, .fst, .out] s (State.busRead req a s) := by
  unfold State.busRead
  exact .ite (.app State.readReg_only rfl .refl) (.ite (.app State.report_only rfl
      (.app State.afterFp_only rfl .refl)) .refl)

theorem execCounterLowWordRead_only {t req addr} {s : State} :
    OnlyOut [.now, .free, .regs, .live, .hi, .flt, .fst, .out] s (execCounterLowWordRead t req addr s) := by
  unfold execCounterLowWordRead
  exact OnlyOut.core rfl (fun _ h0 => (.app State.busRead_only rfl h0))

theorem State.afterRead_only {a n} {s : State} : Only [.intake, .log] s (State.afterRead a n s) := by
  unfold State.afterRead
  exact Only.when (fun _ h0 => (.app State.exportNext_only rfl h0)) (.foldl .refl (fun _ _ h0 => (Only.when
      (fun _ h1 => (.app State.freeSide_only rfl h1)) h0)))

theorem State.chipBytes_only {req a n} {s : State} : Only [.hi] s (State.chipBytes req a n s).2 := by
  induction n generalizing a s with
  | zero => exact .refl
  | succ n ih => exact .app ih rfl (Only.when (fun _ h => .app State.latch_only rfl h) .refl)

theorem State.chipRead_only {req a n} {s : State} :
    Only [.hi, .intake, .log] s (State.chipRead req a n s).2 := by
  unfold State.chipRead
  exact .app State.afterRead_only rfl (.app State.chipBytes_only rfl .refl)

theorem State.putPages_only {req a data} {s : State} :
    Only [.now, .regs, .live, .top, .host, .health, .healthSetAt, .healthSet, .healthSeen, .clearQ, .areq, .lane,
      .stream, .intake, .fab, .corr, .shade, .cmt, .dma, .thm, .flt, .glade, .fst, .log, .sec, .out] s (State.putPages req a data s) := by
  induction a, data, s using State.putPages.induct req with
  | case1 a s => unfold State.putPages; exact .refl
  | case2 a s b0 b1 b2 b3 r h ih =>
    unfold State.putPages
    simp only [h, if_true]
    exact .app ih rfl (.app State.writeReg_only rfl .refl)
  | case3 a s b0 b1 b2 b3 r h ih =>
    unfold State.putPages
    simp only [h, if_false]
    exact .app ih rfl (Only.when (fun _ k => .app State.report_only rfl k) .refl)
  | case4 a b0 r s h =>
    unfold State.putPages
    split
    · exact absurd rfl (h _ _ _ _)
    · exact .app State.report_only rfl .refl

theorem State.chipWrite_only {req a l} {s : State} :
    Only [.now, .regs, .live, .top, .host, .bank0, .bank1, .health, .healthSetAt, .healthSet,
      .healthSeen, .clearQ, .layers, .calib, .areq, .lane, .stream, .intake, .fab, .corr, .shade, .cmt, .dma, .thm, .flt, .glade, .fst, .log, .sec, .out] s (State.chipWrite req a l s) := by
  unfold State.chipWrite
  exact Only.putPart (fun _ _ _ h0 => (.app State.shadePort_only rfl h0)) (Only.putPart (fun _ _ _ h0 =>
      (.app State.shadePort_only rfl h0)) (Only.putPart (fun _ _ _ h0 => (.app State.putPages_only rfl h0))
      (Only.putPart (fun _ _ _ h0 => (.app State.writeHealth_only rfl h0)) (Only.putPart (fun _ _ _ h0 =>
      (.app State.putCalib_only rfl h0)) (Only.putPart (fun _ _ _ h0 => (.app Only.set_layers rfl h0)) (Only.putPart
      (fun _ _ _ h0 => (.app State.report_only rfl (.app State.putFrame_only rfl h0))) .refl))))))

theorem execBar2FrameStoreRead_only {t req addr len} {s : State} :
    OnlyOut [.now, .regs, .live, .flt, .out] s (execBar2FrameStoreRead t req addr len s) := by
  unfold execBar2FrameStoreRead
  exact OnlyOut.core rfl (fun _ h0 => (.app State.report_only rfl h0))

theorem State.debugChip_only {a} {s : State} :
    Only [.now, .regs, .live, .hi, .intake, .flt, .log, .out] s (State.debugChip a s) := by
  unfold State.debugChip
  exact (.ite (.app State.report_only rfl .refl) (by
    dsimp only
    split
    · exact (.app State.report_only rfl (.app State.chipRead_only rfl .refl))
    · exact (.app State.report_only rfl (.app State.chipRead_only rfl .refl))))

theorem State.debugError_only {s : State} : Only [.now, .regs, .live, .flt, .out] s (State.debugError s) := by
  unfold State.debugError
  exact .app State.report_only rfl .refl

theorem State.debugTcm_only {w} {s : State} :
    Only [.now, .regs, .live, .flt, .glade, .fst, .log, .sec, .out] s (State.debugTcm w s) := by
  unfold State.debugTcm
  exact .ite (.app State.tcmError_only rfl .refl) (.app State.report_only rfl (Only.when (fun _ h0 =>
      (.app State.tcmError_only rfl h0)) .refl))

theorem State.debugRead_only {a} {s : State} :
    Only [.now, .free, .regs, .live, .hi, .intake, .flt, .glade, .fst, .log, .sec, .out]
      s (State.debugRead a s) := by
  unfold State.debugRead
  exact (by
    split
    · exact (.app State.spend_only rfl (.app State.report_only rfl .refl))
    · exact (.app State.debugTcm_only rfl .refl)
    · exact (.app State.report_only rfl (.app State.afterFp_only rfl .refl))
    · exact (.app State.report_only rfl .refl)
    · exact (.app State.debugChip_only rfl .refl)
    · exact (.app State.debugError_only rfl .refl))

theorem State.debugTcmPut_only {w v} {s : State} : Only [.fst] s (State.debugTcmPut w v s) := by
  unfold State.debugTcmPut
  exact .app Only.set_fst rfl .refl

theorem State.debugWrite_only {a v} {s : State} :
    Only [.now, .free, .regs, .live, .top, .host, .bank0, .bank1, .health, .healthSetAt, .healthSet,
      .healthSeen, .clearQ, .layers, .calib, .areq, .lane, .stream, .intake, .fab, .corr, .shade, .cmt, .dma, .thm, .flt, .glade, .fst, .log, .sec, .out] s (State.debugWrite a v s) := by
  unfold State.debugWrite
  exact (by
    split
    · exact (.app State.debugTcmPut_only rfl .refl)
    · exact (Only.when (fun _ h0 => (.app State.writeFp_only rfl h0)) .refl)
    · exact (.ite (.app State.writeReg_only rfl .refl) (.ite (.app State.report_only rfl .refl)
        (.app State.chipWrite_only rfl .refl)))
    · exact (.app State.debugError_only rfl .refl))

theorem State.debug_only {x0} {s : State} :
    Only [.now, .free, .regs, .live, .hi, .top, .host, .bank0, .bank1, .health, .healthSetAt,
      .healthSet, .healthSeen, .clearQ, .layers, .calib, .areq, .lane, .stream, .intake, .fab, .corr, .shade, .cmt, .dma, .thm, .flt, .glade, .fst, .log, .sec, .out] s (State.debug x0 s) := by
  unfold State.debug
  exact (by
    split
    · exact (.app State.report_only rfl .refl)
    · exact (Only.when (fun _ h0 => (.app Only.set_fst rfl h0)) .refl)
    · exact (Only.when (fun _ h0 => (.app Only.set_fst rfl h0)) .refl)
    · exact (Only.when (fun _ h0 => (.app Only.set_fst rfl h0)) .refl)
    · exact (Only.when (fun _ h0 => (.app State.resetForester_only rfl h0)) .refl)
    · exact (Only.when (fun _ h0 => (.app State.debugRead_only rfl h0)) .refl)
    · exact (Only.when (fun _ h0 => (.app State.debugWrite_only rfl h0)) .refl)
    · exact (Only.when (fun _ h0 => (.app State.report_only rfl h0)) .refl)
    · exact (Only.when (fun _ h0 => (.app State.report_only rfl h0)) .refl))

theorem execDebugAccess_only {t op} {s : State} :
    OnlyOut [.now, .free, .regs, .live, .hi, .top, .host, .bank0, .bank1, .health, .healthSetAt,
      .healthSet, .healthSeen, .clearQ, .layers, .calib, .areq, .lane, .stream, .intake, .fab, .corr, .shade, .cmt, .dma, .thm, .flt, .glade, .fst, .log, .sec, .out] s (execDebugAccess t op s) := by
  unfold execDebugAccess
  exact OnlyOut.core rfl (fun _ h0 => (.app State.debug_only rfl h0))

theorem State.reform_only {v k} {s : State} :
    Only [.now, .regs, .live, .bank0, .bank1, .health, .healthSeen, .clearQ, .calib, .skein, .corr,
      .shade, .pwr, .flt, .glade, .log, .out] s (State.reform v s k) := by
  unfold State.reform
  exact (by
    dsimp only
    split
    · exact (.ite .refl (.ite (.app State.setSkein_only rfl (.app State.readPlane_only rfl .refl))
        (.app State.setSkein_only rfl .refl)))
    · exact .refl)

theorem State.returnLane_only {l} {s : State} :
    Only [.now, .regs, .live, .skein, .arr, .areq, .lane, .stream, .flt, .out] s (State.returnLane s l) := by
  unfold State.returnLane
  exact .ite (.app State.joinMask_only rfl (.app State.setLane_only rfl (.app State.putLine_only rfl .refl))) .refl

theorem State.returnLanes_only {u} {s : State} :
    Only [.now, .regs, .live, .skein, .arr, .areq, .lane, .stream, .flt, .out] s (State.returnLanes u s) := by
  unfold State.returnLanes
  exact .foldl .refl (fun _ _ h0 => (.foldl h0 (fun _ _ h1 => (.app State.returnLane_only rfl h1))))

theorem State.takeDecision_only {u} {s : State} :
    Only [.now, .regs, .live, .bank0, .bank1, .health, .healthSeen, .clearQ, .calib, .surf, .skein,
      .arr, .areq, .lane, .stream, .corr, .shade, .pwr, .flt, .glade, .log, .out] s (State.takeDecision u s) := by
  unfold State.takeDecision
  exact .app State.comingRanges_only rfl (.foldl (.app State.setSurf_only rfl
      (.app State.returnLanes_only rfl .refl)) (fun _ _ h0 => (.app State.reform_only rfl h0)))

theorem State.redecide_only {s : State} :
    Only [.now, .regs, .live, .bank0, .bank1, .health, .healthSeen, .clearQ, .calib, .surf, .skein,
      .arr, .areq, .lane, .stream, .corr, .shade, .pwr, .flt, .glade, .log, .out] s (State.redecide s) := by
  unfold State.redecide
  exact .foldl .refl (fun _ _ h0 => (Only.when (fun _ h1 => (.app State.takeDecision_only rfl h1)) h0))

theorem State.statusIn_only {b blocks} {s : State} :
    Only [.now, .regs, .live, .bank0, .bank1, .health, .healthSetAt, .healthSet, .healthSeen, .clearQ,
      .calib, .surf, .skein, .arr, .ret, .areq, .lane, .stream, .corr, .shade, .pwr, .tile, .flt, .glade, .log, .out] s (State.statusIn b blocks s) := by
  unfold State.statusIn
  exact .app State.redecide_only rfl (.app State.receive_only rfl .refl)

theorem State.statusFirst_only {s : State} :
    Only [.now, .regs, .live, .bank0, .bank1, .health, .healthSetAt, .healthSet, .healthSeen, .clearQ,
      .calib, .surf, .skein, .arr, .ret, .areq, .lane, .stream, .corr, .shade, .pwr, .tile, .flt, .glade, .log, .out] s (State.statusFirst s) := by
  unfold State.statusFirst
  exact (Only.takeFirst rfl (fun _ => (by
      split
      · exact (.some (fun _ h0 => (.app State.statusIn_only rfl h0)))
      · exact .none)) .refl)

theorem execDecisionInstant_only {t u} {s : State} :
    OnlyOut [.now, .regs, .live, .bank0, .bank1, .health, .healthSeen, .clearQ, .calib, .surf, .skein,
      .arr, .areq, .lane, .stream, .corr, .shade, .pwr, .flt, .glade, .log, .out] s (execDecisionInstant t u s) := by
  unfold execDecisionInstant
  exact OnlyOut.core rfl (fun _ h0 => (Only.when (fun _ h1 => (.app State.takeDecision_only rfl h1)) h0))

theorem execHoldConfirmTimeout_only {t l} {s : State} :
    OnlyOut [.now, .regs, .live, .bank0, .bank1, .health, .healthSetAt, .healthSet, .healthSeen,
      .clearQ, .calib, .surf, .skein, .arr, .ret, .areq, .lane, .stream, .corr, .shade, .pwr, .tile, .flt, .glade, .log, .out] s (execHoldConfirmTimeout t l s) := by
  unfold execHoldConfirmTimeout
  exact OnlyOut.core rfl (fun _ h0 => (.app State.holdConfirm_only rfl (.app State.statusFirst_only rfl h0)))

theorem execLalertReceived_only {t b blk} {s : State} :
    OnlyOut [.now, .regs, .live, .bank0, .bank1, .health, .healthSeen, .clearQ, .calib, .surf, .skein,
      .arr, .areq, .lane, .stream, .corr, .shade, .pwr, .flt, .glade, .log, .out] s (execLalertReceived t b blk s) := by
  unfold execLalertReceived
  exact OnlyOut.core rfl (fun _ h0 => (.app State.redecide_only rfl (.app State.alert_only rfl h0)))

theorem execOutputDriverFault_only {t l} {s : State} :
    OnlyOut [.now, .regs, .live, .bank0, .bank1, .health, .healthSeen, .clearQ, .calib, .surf, .skein,
      .arr, .areq, .lane, .stream, .corr, .shade, .pwr, .flt, .glade, .log, .out] s (execOutputDriverFault t l s) := by
  unfold execOutputDriverFault
  exact OnlyOut.core rfl (fun _ h0 => (.app State.redecide_only rfl (.app State.driverFault_only rfl h0)))

theorem execStatusResponse_only {t b blocks} {s : State} :
    OnlyOut [.now, .regs, .live, .bank0, .bank1, .health, .healthSetAt, .healthSet, .healthSeen,
      .clearQ, .calib, .surf, .skein, .arr, .ret, .areq, .lane, .stream, .corr, .shade, .pwr, .tile, .flt, .glade, .log, .out] s (execStatusResponse t b blocks s) := by
  unfold execStatusResponse
  exact OnlyOut.core rfl (fun _ h0 => (Only.once rfl (fun _ h1 => (.app State.statusIn_only rfl h1)) h0))

theorem execSynthesiserLockLoss_only {t syn} {s : State} :
    OnlyOut [.now, .regs, .live, .clk, .bank0, .bank1, .health, .healthSeen, .clearQ, .calib, .surf,
      .skein, .arr, .areq, .lane, .stream, .corr, .shade, .pwr, .flt, .glade, .log, .out] s (execSynthesiserLockLoss t syn s) := by
  unfold execSynthesiserLockLoss
  exact OnlyOut.core rfl (fun _ h0 => (.app State.redecide_only rfl (.app State.synLoss_only rfl h0)))

theorem State.afterBurst_only {n} {s : State} :
    Only [.now, .regs, .live, .host, .dma, .flt, .out] s (State.afterBurst n s) := by
  unfold State.afterBurst
  exact .ite (.app State.dmaEnd_only rfl .refl) (.ite (.app State.dmaEnd_only rfl .refl)
      (.app State.setCh_only rfl .refl))

theorem State.burstData_only {n} {s : State} :
    Only [.hi, .intake, .log] s (s.burstData n).2 := by
  unfold State.burstData
  dsimp only
  repeat' split
  all_goals first
    | exact .refl
    | exact State.chipRead_only.mono rfl

theorem State.burstWrite_only {n a l} {s : State} :
    Only [.now, .regs, .live, .top, .host, .bank0, .bank1, .health, .healthSetAt, .healthSet,
      .healthSeen, .clearQ, .layers, .calib, .areq, .lane, .stream, .intake, .fab, .corr, .shade, .cmt, .dma, .thm, .flt, .glade, .fst, .log, .sec, .out] s (State.burstWrite n a l s) := by
  unfold State.burstWrite
  exact .ite (.app State.chipWrite_only rfl .refl) (.app State.report_only rfl .refl)

theorem State.dmaTook_only {n} {s : State} : Only [.host, .dma] s (State.dmaTook n s) := by
  unfold State.dmaTook
  exact Only.when (fun _ h0 => (.app Only.set_host rfl h0)) (.app State.setCh_only rfl .refl)

theorem State.portArrivals_only {a n} {s : State} :
    Only [.now, .regs, .live, .shade, .flt, .out] s (State.portArrivals a n s) := by
  unfold State.portArrivals
  exact .foldl .refl (fun _ _ h0 => (Only.when (fun _ h1 => (.app State.listArrive_only rfl h1)) h0))

theorem State.signalEnd_only {n} {s : State} : Only [.shade, .dma] s (State.signalEnd n s) := by
  unfold State.signalEnd
  exact .ite (.app State.settleLine_only rfl (.app State.setCh_only rfl .refl)) (.app State.setCh_only rfl .refl)

theorem State.burstEnds_only {n} {s : State} :
    Only [.now, .regs, .live, .hi, .top, .host, .bank0, .bank1, .health, .healthSetAt, .healthSet,
      .healthSeen, .clearQ, .layers, .calib, .areq, .lane, .stream, .intake, .fab, .corr, .shade, .cmt, .dma, .thm, .flt, .glade, .fst, .log, .sec, .out] s (State.burstEnds n s) := by
  unfold State.burstEnds
  exact .app State.afterBurst_only rfl (.app State.setCh_only rfl (.app State.signalEnd_only rfl (Only.when
      (fun _ h0 => (.app State.portArrivals_only rfl h0)) (.app State.burstWrite_only rfl
      (.app State.dmaTook_only rfl (.app State.burstData_only rfl .refl))))))

theorem State.partialPages_only {n mask fails a i data} {s : State} :
    Only [.now, .regs, .live, .top, .host, .health, .healthSetAt, .healthSet, .healthSeen, .clearQ, .areq, .lane,
      .stream, .intake, .fab, .corr, .shade, .cmt, .dma, .thm, .flt, .glade, .fst, .log, .sec, .out] s (State.partialPages n mask fails a i data s) := by
  induction a, i, data, s using State.partialPages.induct n mask fails with
  | case1 a i b0 b1 b2 b3 r s v known u ih =>
    unfold State.partialPages
    exact .app ih rfl (.ite (.app State.writeReg_only rfl .refl) .refl)
  | case2 a i data s h =>
    unfold State.partialPages
    split
    · exact absurd rfl (h _ _ _ _ _)
    · exact .refl

theorem State.partialWrites_only {n mask stop a i data} {s : State} :
    Only [.now, .regs, .live, .top, .host, .bank0, .bank1, .health, .healthSetAt, .healthSet, .healthSeen,
      .clearQ, .layers, .calib, .areq, .lane, .stream, .intake, .fab, .corr, .shade, .cmt, .dma, .thm, .flt,
      .glade, .fst, .log, .sec, .out] s (State.partialWrites n mask stop a i data s) := by
  induction data generalizing a i s with
  | nil => exact .refl
  | cons b r ih =>
    refine .app ih rfl ?_
    split
    · exact .ite (.app State.burstWrite_only rfl .refl) .refl
    · exact .refl

theorem State.portFailed_only {a n} {s : State} : Only [.shade] s (State.portFailed a n s) := by
  unfold State.portFailed
  exact .foldl .refl (fun _ _ h0 => (Only.when (fun _ h1 => (.app State.setShade_only rfl h1)) h0))

theorem State.busError_only {n cause} {s : State} :
    Only [.now, .free, .regs, .live, .hi, .top, .host, .bank0, .bank1, .health, .healthSetAt,
      .healthSet, .healthSeen, .clearQ, .layers, .calib, .areq, .lane, .stream, .intake, .fab, .corr, .shade, .cmt, .dma, .thm, .flt, .glade, .fst, .log, .sec, .out] s (State.busError n cause s) := by
  unfold State.busError
  exact .app State.dmaEnd_only rfl (.app State.signalEnd_only rfl (.app State.report_only rfl (Only.when
      (fun _ h0 => (.app State.portFailed_only rfl h0)) (Only.when (fun _ h0 =>
      (.app State.partialPages_only rfl h0)) (.app State.partialWrites_only rfl (.app State.spend_only rfl
      (.app State.dmaTook_only rfl (.snd_ite (.app State.burstData_only rfl .refl) .refl))))))))

theorem State.fetchError_only {n} {s : State} :
    Only [.now, .regs, .live, .dma, .flt, .out] s (State.fetchError n s) := by
  unfold State.fetchError
  exact .app State.report_only rfl (.app State.setCh_only rfl .refl)

theorem State.fetched_only {n l} {s : State} :
    Only [.now, .regs, .live, .host, .dma, .flt, .out] s (State.fetched n l s) := by
  unfold State.fetched
  exact .ite (.app State.dmaEnd_only rfl (.app State.setCh_only rfl .refl)) (.ite (.app State.setCh_only rfl
      (.app State.setCh_only rfl .refl)) (.ite (.app State.dmaEnd_only rfl (.app State.setCh_only rfl .refl))
      (.app State.setCh_only rfl (.app State.setCh_only rfl .refl))))

theorem State.refetched_only {n l} {s : State} :
    Only [.now, .regs, .live, .host, .dma, .flt, .out] s (State.refetched n l s) := by
  unfold State.refetched
  exact .ite (.app State.dmaFetch_only rfl (.app State.setCh_only rfl (.app State.setCh_only rfl .refl))) (.ite
      (.app State.dmaReread_only rfl (.app State.setCh_only rfl .refl)) (.app State.setCh_only rfl .refl))

theorem State.descriptorIn_only {n} {s : State} :
    Only [.now, .regs, .live, .hi, .host, .dma, .flt, .out] s (State.descriptorIn n s) := by
  unfold State.descriptorIn
  exact (.ite (by
    split
    · exact .refl
    · exact (.app State.fetchError_only rfl (.app State.dmaTook_only rfl .refl))
    · exact (.app State.fetched_only rfl (.app State.dmaTook_only rfl .refl))) (.ite (by
    split
    · exact .refl
    · exact (.app State.fetchError_only rfl (.app State.dmaTook_only rfl .refl))
    · exact (.app State.refetched_only rfl (.app State.dmaTook_only rfl .refl))) .refl))

theorem State.grant_only {n} {s : State} :
    Only [.now, .regs, .live, .host, .dma, .flt, .out] s (State.grant n s) := by
  unfold State.grant
  exact .ite (.app Only.set_dma rfl (.app State.setCh_only rfl .refl)) (.app State.dmaUpRead_only rfl
      (.app Only.set_dma rfl (.app State.setCh_only rfl .refl)))

theorem State.takeRequest_only {n} {s : State} : Only [.dma] s (State.takeRequest n s) := by
  unfold State.takeRequest
  exact .ite (.app State.setCh_only rfl .refl) .refl

theorem State.requestIn_only {n} {s : State} :
    Only [.now, .regs, .live, .host, .dma, .flt, .out] s (State.requestIn n s) := by
  unfold State.requestIn
  exact .ite (.app State.dmaEnd_only rfl (.app State.haltFirst_only rfl .refl)) (.app State.takeRequest_only rfl
      (.app State.haltFirst_only rfl .refl))

theorem State.wbWrite_only {n} {s : State} :
    Only [.now, .regs, .live, .top, .host, .bank0, .bank1, .health, .healthSetAt, .healthSet,
      .healthSeen, .clearQ, .layers, .calib, .areq, .lane, .stream, .intake, .fab, .corr, .shade, .cmt, .dma, .thm, .flt, .glade, .fst, .log, .sec, .out] s (State.wbWrite n s) := by
  unfold State.wbWrite
  exact .ite (.app State.chipWrite_only rfl .refl) (.app State.report_only rfl .refl)

theorem State.writtenBack_only {n ok} {s : State} :
    Only [.now, .regs, .live, .top, .host, .bank0, .bank1, .health, .healthSetAt, .healthSet,
      .healthSeen, .clearQ, .layers, .calib, .areq, .lane, .stream, .intake, .fab, .corr, .shade, .cmt, .dma, .thm, .flt, .glade, .fst, .log, .sec, .out] s (State.writtenBack n ok s) := by
  unfold State.writtenBack
  exact .ite (.app State.dmaBoundary_only rfl (.app State.report_only rfl (Only.when (fun _ h0 =>
      (.app State.wbWrite_only rfl h0)) .refl))) .refl

theorem execDescriptorFetched_only {t n} {s : State} :
    OnlyOut [.now, .regs, .live, .hi, .host, .dma, .flt, .out] s (execDescriptorFetched t n s) := by
  unfold execDescriptorFetched
  exact OnlyOut.core rfl (fun _ h0 => (.app State.descriptorIn_only rfl h0))

theorem execDmaBurstEnd_only {t n} {s : State} :
    OnlyOut [.now, .regs, .live, .hi, .top, .host, .bank0, .bank1, .health, .healthSetAt, .healthSet,
      .healthSeen, .clearQ, .layers, .calib, .areq, .lane, .stream, .intake, .fab, .corr, .shade, .cmt, .dma, .thm, .flt, .glade, .fst, .log, .sec, .out] s (execDmaBurstEnd t n s) := by
  unfold execDmaBurstEnd
  exact OnlyOut.core rfl (fun _ h0 => (Only.when (fun _ h1 => (.app State.burstEnds_only rfl h1)) h0))

theorem execDmaBurstGrant_only {t n} {s : State} :
    OnlyOut [.now, .regs, .live, .host, .dma, .flt, .out] s (execDmaBurstGrant t n s) := by
  unfold execDmaBurstGrant
  exact OnlyOut.core rfl (fun _ h0 => (Only.when (fun _ h1 => (.app State.grant_only rfl h1)) h0))

theorem execDmaBusError_only {t n} {s : State} :
    OnlyOut [.now, .free, .regs, .live, .hi, .top, .host, .bank0, .bank1, .health, .healthSetAt,
      .healthSet, .healthSeen, .clearQ, .layers, .calib, .areq, .lane, .stream, .intake, .fab, .corr, .shade, .cmt, .dma, .thm, .flt, .glade, .fst, .log, .sec, .out] s (execDmaBusError t n s) := by
  unfold execDmaBusError
  exact (OnlyOut.core rfl (fun _ h0 => (.ite (by
    split
    · exact (.app State.busError_only rfl h0)
    · exact h0) h0)))

theorem execDmaRequestTaken_only {t n} {s : State} :
    OnlyOut [.now, .regs, .live, .host, .dma, .flt, .out] s (execDmaRequestTaken t n s) := by
  unfold execDmaRequestTaken
  exact OnlyOut.core rfl (fun _ h0 => (.app State.requestIn_only rfl h0))

theorem execDmaWriteBackDone_only {t n ok} {s : State} :
    OnlyOut [.now, .regs, .live, .top, .host, .bank0, .bank1, .health, .healthSetAt, .healthSet,
      .healthSeen, .clearQ, .layers, .calib, .areq, .lane, .stream, .intake, .fab, .corr, .shade, .cmt, .dma, .thm, .flt, .glade, .fst, .log, .sec, .out] s (execDmaWriteBackDone t n ok s) := by
  unfold execDmaWriteBackDone
  exact OnlyOut.core rfl (fun _ h0 => (.app State.writtenBack_only rfl h0))

theorem State.qspiPut_only {x} {s : State} :
    Only [.now, .regs, .live, .top, .host, .bank0, .bank1, .health, .healthSetAt, .healthSet,
      .healthSeen, .clearQ, .layers, .calib, .areq, .lane, .stream, .intake, .fab, .corr, .shade, .cmt, .dma, .thm, .flt, .glade, .fst, .log, .sec, .out] s (State.qspiPut x s) := by
  unfold State.qspiPut
  exact .ite (.app State.report_only rfl .refl) (.ite (.app State.chipWrite_only rfl .refl)
      (.app State.writeReg_only rfl .refl))

theorem State.qspiDrain_only {s : State} :
    Only [.now, .regs, .live, .top, .host, .bank0, .bank1, .health, .healthSetAt, .healthSet,
      .healthSeen, .clearQ, .layers, .calib, .areq, .lane, .stream, .intake, .fab, .corr, .shade, .cmt, .dma, .thm, .flt, .glade, .fst, .log, .sec, .out] s (State.qspiDrain s) := by
  unfold State.qspiDrain
  exact .foldl (.app Only.set_host rfl .refl) (fun _ _ h0 => (.app State.qspiPut_only rfl h0))

theorem State.qspiGet_only {a} {s : State} : Only [.now, .regs, .live, .hi, .flt, .out] s (State.qspiGet a s) := by
  unfold State.qspiGet
  exact (.ite (.app State.report_only rfl .refl) (.ite (by
    split
    · exact (.app State.report_only rfl .refl)
    · exact (.app State.report_only rfl .refl)) (.ite (.app State.report_only rfl .refl) (.app State.report_only rfl
        (.app State.latch_only rfl .refl)))))

theorem State.qspiGets_only {n a} {s : State} :
    Only [.now, .regs, .live, .hi, .flt, .out] s (State.qspiGets n a s) := by
  induction n generalizing a s with
  | zero => exact .refl
  | succ n ih => exact .app ih rfl (.app State.qspiGet_only rfl .refl)

theorem State.qspiRead_only {a dwords} {s : State} :
    Only [.now, .regs, .live, .hi, .top, .host, .bank0, .bank1, .health, .healthSetAt, .healthSet,
      .healthSeen, .clearQ, .layers, .calib, .areq, .lane, .stream, .intake, .fab, .corr, .shade, .cmt, .dma, .thm, .flt, .glade, .fst, .log, .sec, .out] s (State.qspiRead a dwords s) := by
  unfold State.qspiRead
  exact .ite (.app State.qspiGets_only rfl (.app State.qspiDrain_only rfl .refl)) (.app State.report_only rfl
      (.app State.qspiDrain_only rfl .refl))

theorem State.qspiStep_only {s : State} :
    Only [.now, .regs, .live, .top, .host, .bank0, .bank1, .health, .healthSetAt, .healthSet,
      .healthSeen, .clearQ, .layers, .calib, .areq, .lane, .stream, .intake, .fab, .corr, .shade, .cmt, .dma, .thm, .flt, .glade, .fst, .log, .sec, .out] s (State.qspiStep s) := by
  unfold State.qspiStep
  exact (by
    split
    · exact .refl
    · exact (.app State.qspiPut_only rfl (.app Only.set_host rfl .refl)))

theorem State.qspiWrite_only {a bytes} {s : State} :
    Only [.now, .regs, .live, .host, .flt, .out] s (State.qspiWrite a bytes s) := by
  unfold State.qspiWrite
  exact .ite (.app State.report_only rfl .refl) (.app State.report_only rfl (.app Only.set_host rfl .refl))

theorem execQspiIdent_only {t} {s : State} : OnlyOut [.now, .regs, .live, .flt, .out] s (execQspiIdent t s) := by
  unfold execQspiIdent
  exact OnlyOut.qspi rfl (fun _ h0 => (.app State.report_only rfl h0))

theorem execQspiRead_only {t addr dwords} {s : State} :
    OnlyOut [.now, .regs, .live, .hi, .top, .host, .bank0, .bank1, .health, .healthSetAt, .healthSet,
      .healthSeen, .clearQ, .layers, .calib, .areq, .lane, .stream, .intake, .fab, .corr, .shade, .cmt, .dma, .thm, .flt, .glade, .fst, .log, .sec, .out] s (execQspiRead t addr dwords s) := by
  unfold execQspiRead
  exact OnlyOut.qspi rfl (fun _ h0 => (.app State.qspiRead_only rfl h0))

theorem execQspiReadTimeout_only {t addr} {s : State} :
    OnlyOut [.now, .regs, .live, .host, .flt, .out] s (execQspiReadTimeout t addr s) := by
  unfold execQspiReadTimeout
  exact OnlyOut.qspi rfl (fun _ h0 => (Only.when (fun _ h1 => (.app State.report_only rfl
      (.app Only.set_host rfl h1))) h0))

theorem execQspiStatus_only {t} {s : State} :
    OnlyOut [.now, .regs, .live, .host, .flt, .out] s (execQspiStatus t s) := by
  unfold execQspiStatus
  exact OnlyOut.qspi rfl (fun _ h0 => (.app State.report_only rfl (.app Only.set_host rfl h0)))

theorem execQspiWrite_only {t addr bytes} {s : State} :
    OnlyOut [.now, .regs, .live, .host, .flt, .out] s (execQspiWrite t addr bytes s) := by
  unfold execQspiWrite
  exact OnlyOut.qspi rfl (fun _ h0 => (.app State.qspiWrite_only rfl h0))

theorem State.uartStep_only {s : State} : Only [.now, .regs, .live, .flt, .fst, .out] s (State.uartStep s) := by
  unfold State.uartStep
  exact (by
    split
    · exact .refl
    · exact (.app State.report_only rfl (.app Only.set_fst rfl .refl)))

theorem idle_only {s : State} :
    Only [.now, .regs, .live, .top, .host, .bank0, .bank1, .health, .healthSetAt, .healthSet,
      .healthSeen, .clearQ, .layers, .calib, .areq, .lane, .stream, .intake, .fab, .corr, .shade, .cmt, .dma, .thm, .flt, .glade, .fst, .log, .sec, .out] s (idle s) := by
  unfold idle
  exact .ite .refl (.ite (.app State.qspiStep_only rfl .refl) (.app State.uartStep_only rfl .refl))

end Sys2Proof.Machine
end

