-- ==== Sys2Proof/Laws/CanonAccess.lean ====
section
/-! SUPPORT. Start-up, register accesses, the DMA bursts, debug and the quad-SPI port keep the canonical forms: one lemma for each function. -/

namespace Sys2Proof.Machine

open Sys2Proof

/-- A write of the part of a byte string that falls in its place. -/
theorem State.Canonical.putPart {s : State} {lo hi a : Nat} {data : List Byte} {f : Nat → List Byte → State → State}
    (hf : ∀ x y v, State.Canonical v → (f x y v).Canonical) (h : s.Canonical) :
    (State.putPart lo hi a data f s).Canonical := by
  unfold State.putPart
  exact .ite h (hf _ _ _ h)

/-- The profile's settings keep the register file canonical. -/
theorem profile_wf {w : List Nat} {l : List (Nat × Word)} {f : RegFile} (h : smWf regReset f = true) :
    smWf regReset (profileShadows w l (profileActives l f)) = true :=
  rsets_wf (k := fun x : Nat × Word => x.1) (v := fun _ x => x.2)
    (rsets_wf (k := fun x : Nat × Word => x.1 + 0x800) (v := fun _ x => x.2) h)

/-- A judged pattern leaves the fallback store. -/
theorem Glade.judgePattern_fb {g : Glade} : g.judgePattern.fb = g.fb := by
  unfold Glade.judgePattern
  split
  · rfl
  · split <;> rfl

/-- LOAD leaves the fallback store canonical. -/
theorem Glade.load_fb {g : Glade} {x : FlashLoad} {now : Nat} (h : g.fb.wf zeroByte = true) :
    (g.load x now).fb.wf zeroByte = true := by
  unfold Glade.load
  dsimp only
  split
  · exact h
  · rw [Glade.judgePattern_fb]
    exact Memory.writeL_wf rfl

/-- A word left partial keeps the OTP key store canonical. -/
theorem Sec.partialWord_otp {x : Sec} {k : Nat} {w : Nat × Nat} (h : Memory.wf otpByte0 x.otp = true) :
    Memory.wf otpByte0 (x.partialWord k w).otp = true := by
  unfold Sec.partialWord
  dsimp only
  split
  · exact Sec.program_otp h
  · exact Sec.program_otp h

/-- Flags written leave the TCM. -/
theorem Forester.writeFlags_tcm {x : Forester} {off : Nat} {v : Word} : (x.writeFlags off v).tcm = x.tcm := by
  unfold Forester.writeFlags
  repeat' split
  all_goals rfl

theorem State.readReg_canon {req a} {s : State} (h : s.Canonical) : (State.readReg req a s).Canonical := by
  unfold State.readReg
  exact .ite (State.report_canon h) (State.report_canon (.only State.latch_only rfl h))

theorem State.applyProfile_canon {s : State} (h : s.Canonical) : (State.applyProfile s).Canonical := by
  unfold State.applyProfile
  exact State.idleCheck_canon (.only State.retLocks_only rfl (.foldl (.set_regs_tb_cmt_flt profile_wf id id h)
      (fun _ _ h0 => (State.laneSet_canon h0))))

theorem State.closeNor_canon {x} {s : State} (h : s.Canonical) : (State.closeNor x s).Canonical := by
  unfold State.closeNor
  exact State.report_canon (.set_fst id h)

theorem State.coreLoaded_canon {s : State} (h : s.Canonical) : (State.coreLoaded s).Canonical := by
  unfold State.coreLoaded
  exact .when (fun _ h0 => (State.applyProfile_canon h0)) (.only Only.set_top rfl h)

theorem State.coreAfterLoad_canon {s : State} (h : s.Canonical) : (State.coreAfterLoad s).Canonical := by
  unfold State.coreAfterLoad
  exact .set_glade id (State.norRelease_canon (State.coreLoaded_canon h))

theorem State.cutOtp_canon {s : State} (h : s.Canonical) : (State.cutOtp s).Canonical := by
  unfold State.cutOtp
  exact (by
    split
    · exact h
    · exact (.foldl h (fun _ _ h0 => (.set_free_sec Sec.partialWord_otp h0))))

theorem State.coreOff_canon {s : State} (h : s.Canonical) : s.coreOff.Canonical :=
  ⟨rfl, rfl, rfl, rfl, rfl, rfl, rfl, (State.cutOtp_canon h).fb, rfl, (State.cutOtp_canon h).otp, rfl, rfl, rfl, rfl, rfl⟩

theorem State.coreStart_canon {uv} {s : State} (h : s.Canonical) : (State.coreStart uv s).Canonical := by
  unfold State.coreStart
  exact State.resetForester_canon (State.logHw_canon (.only State.spend_only rfl (.only Only.set_top_clk rfl h)))

theorem State.coreUp_canon {s : State} (h : s.Canonical) : (State.coreUp s).Canonical := by
  unfold State.coreUp
  exact State.gladeSettle_canon (State.coreAfterLoad_canon (State.coreStart_canon (.only Only.set_pwr rfl h)))

theorem State.loadEnd_canon {x} {s : State} (h : s.Canonical) : (State.loadEnd x s).Canonical := by
  unfold State.loadEnd
  exact .ite h (.when (fun _ h0 => (State.coreAfterLoad_canon h0)) (State.report_canon (.set_glade Glade.load_fb h)))

theorem State.lost_canon {s : State} (h : s.Canonical) : s.lost.Canonical :=
  ⟨rfl, rfl, rfl, rfl, rfl, rfl, rfl, rfl, rfl, (State.cutOtp_canon h).otp, rfl, rfl, rfl, rfl, rfl⟩

theorem State.stopParts_canon {s : State} (h : s.Canonical) : (State.stopParts s).Canonical := by
  unfold State.stopParts
  exact .foldl (.foldl (State.closeNor_canon (State.resetForester_canon (.only Only.set_thm rfl h))) (fun _ _ h0 =>
      (State.failOpen_canon h0))) (fun _ _ h0 => (.only State.stopSurface_only rfl h0))

theorem State.orderlyEnd_canon {s : State} (h : s.Canonical) : (State.orderlyEnd s).Canonical := by
  unfold State.orderlyEnd
  exact State.report_canon (.when (fun _ h0 => (State.stopParts_canon h0)) (.only State.keepAs_only rfl
      (.only Only.set_thm rfl h)))

theorem State.powerUp_canon {hostSel} {s : State} (h : s.Canonical) : (State.powerUp hostSel s).Canonical := by
  unfold State.powerUp
  exact State.coreStart_canon (.set_now_sample_top_host_glade_out id (State.lost_canon h))

theorem execCoreRelease_canon {t} {s : State} (h : s.Canonical) : CanonOut (execCoreRelease t s) := by
  unfold execCoreRelease
  exact .next (.ite (State.coreUp_canon (.only State.stamp_only rfl h)) (.only State.stamp_only rfl h))

theorem execCoreReset_canon {t} {s : State} (h : s.Canonical) : CanonOut (execCoreReset t s) := by
  unfold execCoreReset
  exact CanonOut.core (fun _ h0 => (State.coreOff_canon h0)) h

theorem execGladeLoadEnd_canon {t flash} {s : State} (h : s.Canonical) : CanonOut (execGladeLoadEnd t flash s) := by
  unfold execGladeLoadEnd
  exact CanonOut.settled (fun _ h0 => (State.loadEnd_canon h0)) h

theorem execOrderlyWindowEnd_canon {t} {s : State} (h : s.Canonical) : CanonOut (execOrderlyWindowEnd t s) := by
  unfold execOrderlyWindowEnd
  exact CanonOut.core (fun _ h0 => (.when (fun _ h1 => (State.orderlyEnd_canon h1)) h0)) h

theorem execPorstNAssert_canon {t} {s : State} (h : s.Canonical) : CanonOut (execPorstNAssert t s) := by
  unfold execPorstNAssert
  exact .next (State.lost_canon (.only State.stamp_only rfl h))

theorem execPorstNRelease_canon {t hostSel testEn} {s : State} (h : s.Canonical) :
    CanonOut (execPorstNRelease t hostSel testEn s) := by
  unfold execPorstNRelease
  exact .next (.ite (.only State.stamp_only rfl h) (.ite (.only Only.set_top rfl (.only State.stamp_only rfl h))
      (State.powerUp_canon (.only State.stamp_only rfl h))))

theorem State.putShadow_canon {a v} {s : State} (h : s.Canonical) : (State.putShadow a v s).Canonical := by
  unfold State.putShadow
  exact .ite (.only State.hit_only rfl (.only Only.set_cmt rfl h)) (.set_regs_cmt rset_wf h)

theorem State.putPlain_canon {a v} {s : State} (h : s.Canonical) : (State.putPlain a v s).Canonical := by
  unfold State.putPlain
  exact (by
    split
    · exact h
    · exact (.ite (State.putShadow_canon h) (.set_regs rset_wf h)))

theorem State.putComposer_canon {req u off v} {s : State} (h : s.Canonical) :
    (State.putComposer req u off v s).Canonical := by
  unfold State.putComposer
  exact .ite (State.writeFbClr_canon h) (.ite (State.writeFbInj_canon h) (.ite (State.writeFbMreq_canon h)
      (State.putPlain_canon h)))

theorem State.putCorr_canon {u off v} {s : State} (h : s.Canonical) : (State.putCorr u off v s).Canonical := by
  unfold State.putCorr
  exact .ite (State.writeCurve_canon h) (.ite (.set_corr id id h) (.ite (State.writeMlim_canon h)
      (State.putPlain_canon h)))

theorem State.putDma_canon {req off v} {s : State} (h : s.Canonical) : (State.putDma req off v s).Canonical := by
  unfold State.putDma
  exact .ite (.ite (State.writeDmaCtrl_canon h) (.ite (.only State.setCh_only rfl h) h)) (.ite (.ite
      (.only State.hit_only rfl (.only State.setCh_only rfl h)) (State.putPlain_canon h)) (State.putPlain_canon h))

theorem State.putFault_canon {req off v} {s : State} (h : s.Canonical) :
    (State.putFault req off v s).Canonical := by
  unfold State.putFault
  exact .ite (.set_flt id id h) (.ite (State.putPlain_canon (.only State.keep_only rfl h)) (.ite
      (State.writeSrccls_canon h) (.ite (State.writeInj_canon h) (.ite (.set_flt id id h) (.ite
      (State.writeChkinv_canon h) (.ite (.set_regs rset_wf h) (State.putPlain_canon h)))))))

theorem State.putForester_canon {req off v} {s : State} (h : s.Canonical) :
    (State.putForester req off v s).Canonical := by
  unfold State.putForester
  exact .ite (State.report_canon h) (.ite (State.writeDoor_canon h) (.ite (.only Only.set_host rfl h) (.ite
      (.set_regs rset_wf h) (State.putPlain_canon h))))

theorem State.putHeader_canon {req p off v} {s : State} (h : s.Canonical) :
    (State.putHeader req p off v s).Canonical := by
  unfold State.putHeader
  exact .ite (State.writeCtrl_canon h) (.ite (.set_regs rset_wf h) (.ite (State.clearIrq_canon h) (.ite
      (.set_regs rset_wf h) (.ite (State.forceIrq_canon h) (.ite (State.writeForce_canon h) h)))))

theorem State.putHost_canon {off v} {s : State} (h : s.Canonical) : (State.putHost off v s).Canonical := by
  unfold State.putHost
  exact .ite (.only State.armVectors_only rfl h) (State.putPlain_canon h)

theorem State.putIntake_canon {l off v} {s : State} (h : s.Canonical) : (State.putIntake l off v s).Canonical := by
  unfold State.putIntake
  exact .ite (.only Only.set_intake rfl h) (State.putPlain_canon h)

theorem State.putMsix_canon {off v} {s : State} (h : s.Canonical) : (State.putMsix off v s).Canonical := by
  unfold State.putMsix
  exact .ite (.only Only.set_host rfl (State.putPlain_canon h)) (State.putPlain_canon h)

theorem State.putSal_canon {off v} {s : State} (h : s.Canonical) : (State.putSal off v s).Canonical := by
  unfold State.putSal
  exact .ite (State.writeAcmd_canon h) (.ite (.only Only.set_areq rfl h) (State.putPlain_canon h))

theorem State.putSec_canon {off v} {s : State} (h : s.Canonical) : (State.putSec off v s).Canonical := by
  unfold State.putSec
  exact .ite (State.writeSecCmd_canon h) (.ite (.set_sec id h) (State.putPlain_canon h))

theorem State.putShade_canon {off v} {s : State} (h : s.Canonical) : (State.putShade off v s).Canonical := by
  unfold State.putShade
  exact .ite (.only Only.set_shade rfl h) (.ite (State.mailboxGo_canon h) (.ite h (State.putPlain_canon h)))

theorem State.putSkein_canon {l off v} {s : State} (h : s.Canonical) : (State.putSkein l off v s).Canonical := by
  unfold State.putSkein
  exact .ite (State.writeRetry_canon h) (.ite (State.writeLoop_canon h) (State.putPlain_canon h))

theorem State.putStitch_canon {off v} {s : State} (h : s.Canonical) : (State.putStitch off v s).Canonical := by
  unfold State.putStitch
  exact .ite (State.spoilHealth_canon (State.setHealth_canon h)) (.ite (State.queueClear_canon h) (.ite
      (.set_regs rset_wf h) (State.putPlain_canon h)))

theorem State.putTherm_canon {off v} {s : State} (h : s.Canonical) : (State.putTherm off v s).Canonical := by
  unfold State.putTherm
  exact .ite (State.writeTref_canon h) (.ite (State.writeLim_canon h) (.ite (State.writeTjadd_canon h)
      (State.putPlain_canon h)))

theorem State.putTop_canon {off v} {s : State} (h : s.Canonical) : (State.putTop off v s).Canonical := by
  unfold State.putTop
  exact .ite (.only State.writeCommit_only rfl h) (.ite (.only Only.set_cmt rfl h) (.ite (State.writePhase_canon h)
      (.ite (State.writeShdn_canon h) (.ite (.only Only.set_top rfl h) (State.putPlain_canon h)))))

theorem State.pageWrite_canon {req p off v} {s : State} (h : s.Canonical) :
    (State.pageWrite req p off v s).Canonical := by
  unfold State.pageWrite
  exact .ite (State.putHeader_canon h) (.ite (State.putTop_canon h) (.ite (State.putIntake_canon h) (.ite
      (State.putHost_canon h) (.ite (State.putMsix_canon h) (.ite (State.putDma_canon h) (.ite
      (State.putComposer_canon h) (.ite (State.putCorr_canon h) (.ite (State.putShade_canon h) (.ite
      (State.putStitch_canon h) (.ite (State.putSkein_canon h) (.ite (State.putSal_canon h) (.ite
      (State.putTherm_canon h) (.ite (State.putFault_canon h) (.ite (State.putForester_canon h) (.ite
      (State.putSec_canon h) (State.putPlain_canon h))))))))))))))))

theorem State.writeReg_canon {req a v} {s : State} (h : s.Canonical) : (State.writeReg req a v s).Canonical := by
  unfold State.writeReg
  exact .ite h (.ite (.access (fun _ h0 => (State.pageWrite_canon h0)) h) (.ite (State.report_canon h) (.ite
      (State.writeOwner_canon h) h)))

theorem State.uartPut_canon {b} {s : State} (h : s.Canonical) : (State.uartPut b s).Canonical := by
  unfold State.uartPut
  exact .ite (.set_fst id h) (.ite (.only State.spend_only rfl h) (.set_fst id (.only State.spend_only rfl h)))

theorem State.writeFp_canon {off v} {s : State} (h : s.Canonical) : (State.writeFp off v s).Canonical := by
  unfold State.writeFp
  exact .ite (.when (fun _ h0 => (State.resetForester_canon h0)) h) (.ite (State.writeWdog_canon h) (.ite
      (State.writeMbDone_canon h) (.ite (State.writeMbEvt_canon h) (.ite (State.writeLogRd_canon h) (.ite
      (State.writeLogCode_canon h) (.ite (State.writeNor_canon h) (.ite (State.uartPut_canon h) (.ite (.set_fst
      (fun k => by rw [Forester.writeFlags_tcm]; exact k) h) (State.putPlain_canon h)))))))))

theorem State.busWrite_canon {req a v be} {s : State} (h : s.Canonical) :
    (State.busWrite req a v be s).Canonical := by
  unfold State.busWrite
  exact .ite (.ite (State.writeFp_canon h) h) (.ite (State.report_canon h) (State.writeReg_canon h))

theorem State.hostWrites_canon {s : State} (h : s.Canonical) : (State.hostWrites s).Canonical := by
  unfold State.hostWrites
  exact (.takeFirst (fun _ => (by
      split
      · exact (.some (fun _ h0 => (.access (fun _ h1 => (State.writePhase_canon h1)) h0)))
      · exact (.some (fun _ h0 => (State.busWrite_canon h0)))
      · exact .none)) h)

theorem execHostPortReset_canon {t k} {s : State} (h : s.Canonical) : CanonOut (execHostPortReset t k s) := by
  unfold execHostPortReset
  exact CanonOut.core (fun _ h0 => (.when (fun _ h1 => (State.hostReset_canon (State.hostWrites_canon h1))) h0)) h

theorem execRegisterWrite_canon {t req addr v be} {s : State} (h : s.Canonical) :
    CanonOut (execRegisterWrite t req addr v be s) := by
  unfold execRegisterWrite
  exact CanonOut.core (fun _ h0 => (.once (fun _ h1 => (State.busWrite_canon h1)) h0)) h

theorem State.afterFp_canon {off} {s : State} (h : s.Canonical) : (State.afterFp off s).Canonical := by
  unfold State.afterFp
  exact .ite (.set_fst id h) (.ite (.only State.spend_only rfl h) (.ite (.only Only.set_hi rfl h) h))

theorem State.busRead_canon {req a} {s : State} (h : s.Canonical) : (State.busRead req a s).Canonical := by
  unfold State.busRead
  exact .ite (State.readReg_canon h) (.ite (State.report_canon (State.afterFp_canon h)) h)

theorem execCounterLowWordRead_canon {t req addr} {s : State} (h : s.Canonical) :
    CanonOut (execCounterLowWordRead t req addr s) := by
  unfold execCounterLowWordRead
  exact CanonOut.core (fun _ h0 => (State.busRead_canon h0)) h

theorem State.afterRead_canon {a n} {s : State} (h : s.Canonical) : (State.afterRead a n s).Canonical := by
  unfold State.afterRead
  exact .when (fun _ h0 => (State.exportNext_canon h0)) (.foldl h (fun _ _ h0 => (.when (fun _ h1 =>
      (.only State.freeSide_only rfl h1)) h0)))

theorem State.chipRead_canon {req a n} {s : State} (h : s.Canonical) : (State.chipRead req a n s).2.Canonical := by
  unfold State.chipRead
  exact State.afterRead_canon (.only State.chipBytes_only rfl h)

theorem State.putPages_canon {req a data} {s : State} (h : s.Canonical) :
    (State.putPages req a data s).Canonical := by
  induction a, data, s using State.putPages.induct req with
  | case1 a s => unfold State.putPages; exact h
  | case2 a s b0 b1 b2 b3 r k ih =>
    unfold State.putPages
    simp only [k, if_true]
    exact ih (State.writeReg_canon h)
  | case3 a s b0 b1 b2 b3 r k ih =>
    unfold State.putPages
    simp only [k, if_false]
    exact ih (.when (fun _ k => State.report_canon k) h)
  | case4 a b0 r s k =>
    unfold State.putPages
    split
    · exact absurd rfl (k _ _ _ _)
    · exact State.report_canon h

theorem State.chipWrite_canon {req a l} {s : State} (h : s.Canonical) : (State.chipWrite req a l s).Canonical := by
  unfold State.chipWrite
  exact .putPart (fun _ _ _ h0 => (State.shadePort_canon h0)) (.putPart (fun _ _ _ h0 => (State.shadePort_canon h0))
      (.putPart (fun _ _ _ h0 => (State.putPages_canon h0)) (.putPart (fun _ _ _ h0 => (State.writeHealth_canon h0))
      (.putPart (fun _ _ _ h0 => (State.putCalib_canon h0)) (.putPart (fun _ _ _ h0 =>
      (.set_layers Store.write_wf h0)) (.putPart (fun _ _ _ h0 => (State.report_canon
      (State.putFrame_canon h0))) h))))))

theorem execBar2FrameStoreRead_canon {t req addr len} {s : State} (h : s.Canonical) :
    CanonOut (execBar2FrameStoreRead t req addr len s) := by
  unfold execBar2FrameStoreRead
  exact CanonOut.core (fun _ h0 => (State.report_canon h0)) h

theorem State.debugChip_canon {a} {s : State} (h : s.Canonical) : (State.debugChip a s).Canonical := by
  unfold State.debugChip
  exact (.ite (State.report_canon h) (by
    dsimp only
    split
    · exact (State.report_canon (State.chipRead_canon h))
    · exact (State.report_canon (State.chipRead_canon h))))

theorem State.debugError_canon {s : State} (h : s.Canonical) : (State.debugError s).Canonical := by
  unfold State.debugError
  exact State.report_canon h

theorem State.debugTcm_canon {w} {s : State} (h : s.Canonical) : (State.debugTcm w s).Canonical := by
  unfold State.debugTcm
  exact .ite (State.tcmError_canon h) (State.report_canon (.when (fun _ h0 => (State.tcmError_canon h0)) h))

theorem State.debugRead_canon {a} {s : State} (h : s.Canonical) : (State.debugRead a s).Canonical := by
  unfold State.debugRead
  exact (by
    split
    · exact (.only State.spend_only rfl (State.report_canon h))
    · exact (State.debugTcm_canon h)
    · exact (State.report_canon (State.afterFp_canon h))
    · exact (State.report_canon h)
    · exact (State.debugChip_canon h)
    · exact (State.debugError_canon h))

theorem State.debugTcmPut_canon {w v} {s : State} (h : s.Canonical) : (State.debugTcmPut w v s).Canonical := by
  unfold State.debugTcmPut
  exact .set_fst Memory.writeL_wf h

theorem State.debugWrite_canon {a v} {s : State} (h : s.Canonical) : (State.debugWrite a v s).Canonical := by
  unfold State.debugWrite
  exact (by
    split
    · exact (State.debugTcmPut_canon h)
    · exact (.when (fun _ h0 => (State.writeFp_canon h0)) h)
    · exact (.ite (State.writeReg_canon h) (.ite (State.report_canon h) (State.chipWrite_canon h)))
    · exact (State.debugError_canon h))

theorem State.debug_canon {x0} {s : State} (h : s.Canonical) : (State.debug x0 s).Canonical := by
  unfold State.debug
  exact (by
    split
    · exact (State.report_canon h)
    · exact (.when (fun _ h0 => (.set_fst id h0)) h)
    · exact (.when (fun _ h0 => (.set_fst id h0)) h)
    · exact (.when (fun _ h0 => (.set_fst id h0)) h)
    · exact (.when (fun _ h0 => (State.resetForester_canon h0)) h)
    · exact (.when (fun _ h0 => (State.debugRead_canon h0)) h)
    · exact (.when (fun _ h0 => (State.debugWrite_canon h0)) h)
    · exact (.when (fun _ h0 => (State.report_canon h0)) h)
    · exact (.when (fun _ h0 => (State.report_canon h0)) h))

theorem execDebugAccess_canon {t op} {s : State} (h : s.Canonical) : CanonOut (execDebugAccess t op s) := by
  unfold execDebugAccess
  exact CanonOut.core (fun _ h0 => (State.debug_canon h0)) h

theorem State.reform_canon {v k} {s : State} (h : s.Canonical) : (State.reform v s k).Canonical := by
  unfold State.reform
  exact (by
    dsimp only
    split
    · exact (.ite h (.ite (.only State.setSkein_only rfl (State.readPlane_canon h))
        (.only State.setSkein_only rfl h)))
    · exact h)

theorem State.returnLane_canon {l} {s : State} (h : s.Canonical) : (State.returnLane s l).Canonical := by
  unfold State.returnLane
  exact .ite (State.joinMask_canon (.only State.setLane_only rfl (State.putLine_canon h))) h

theorem State.returnLanes_canon {u} {s : State} (h : s.Canonical) : (State.returnLanes u s).Canonical := by
  unfold State.returnLanes
  exact .foldl h (fun _ _ h0 => (.foldl h0 (fun _ _ h1 => (State.returnLane_canon h1))))

theorem State.takeDecision_canon {u} {s : State} (h : s.Canonical) : (State.takeDecision u s).Canonical := by
  unfold State.takeDecision
  exact State.comingRanges_canon (.foldl (.only State.setSurf_only rfl (State.returnLanes_canon h)) (fun _ _ h0 =>
      (State.reform_canon h0)))

theorem State.redecide_canon {s : State} (h : s.Canonical) : (State.redecide s).Canonical := by
  unfold State.redecide
  exact .foldl h (fun _ _ h0 => (.when (fun _ h1 => (State.takeDecision_canon h1)) h0))

theorem State.statusIn_canon {b blocks} {s : State} (h : s.Canonical) : (State.statusIn b blocks s).Canonical := by
  unfold State.statusIn
  exact State.redecide_canon (State.receive_canon h)

theorem State.statusFirst_canon {s : State} (h : s.Canonical) : (State.statusFirst s).Canonical := by
  unfold State.statusFirst
  exact (.takeFirst (fun _ => (by
      split
      · exact (.some (fun _ h0 => (State.statusIn_canon h0)))
      · exact .none)) h)

theorem execDecisionInstant_canon {t u} {s : State} (h : s.Canonical) : CanonOut (execDecisionInstant t u s) := by
  unfold execDecisionInstant
  exact CanonOut.core (fun _ h0 => (.when (fun _ h1 => (State.takeDecision_canon h1)) h0)) h

theorem execHoldConfirmTimeout_canon {t l} {s : State} (h : s.Canonical) :
    CanonOut (execHoldConfirmTimeout t l s) := by
  unfold execHoldConfirmTimeout
  exact CanonOut.core (fun _ h0 => (State.holdConfirm_canon (State.statusFirst_canon h0))) h

theorem execLalertReceived_canon {t b blk} {s : State} (h : s.Canonical) :
    CanonOut (execLalertReceived t b blk s) := by
  unfold execLalertReceived
  exact CanonOut.core (fun _ h0 => (State.redecide_canon (State.alert_canon h0))) h

theorem execOutputDriverFault_canon {t l} {s : State} (h : s.Canonical) :
    CanonOut (execOutputDriverFault t l s) := by
  unfold execOutputDriverFault
  exact CanonOut.core (fun _ h0 => (State.redecide_canon (State.driverFault_canon h0))) h

theorem execStatusResponse_canon {t b blocks} {s : State} (h : s.Canonical) :
    CanonOut (execStatusResponse t b blocks s) := by
  unfold execStatusResponse
  exact CanonOut.core (fun _ h0 => (.once (fun _ h1 => (State.statusIn_canon h1)) h0)) h

theorem execSynthesiserLockLoss_canon {t syn} {s : State} (h : s.Canonical) :
    CanonOut (execSynthesiserLockLoss t syn s) := by
  unfold execSynthesiserLockLoss
  exact CanonOut.core (fun _ h0 => (State.redecide_canon (State.synLoss_canon h0))) h

theorem State.afterBurst_canon {n} {s : State} (h : s.Canonical) : (State.afterBurst n s).Canonical := by
  unfold State.afterBurst
  exact .ite (State.dmaEnd_canon h) (.ite (State.dmaEnd_canon h) (.only State.setCh_only rfl h))

theorem State.burstData_canon {n} {s : State} (h : s.Canonical) : (s.burstData n).2.Canonical := by
  unfold State.burstData
  dsimp only
  repeat' split
  all_goals first
    | exact h
    | exact State.chipRead_canon h

theorem State.burstWrite_canon {n a l} {s : State} (h : s.Canonical) : (State.burstWrite n a l s).Canonical := by
  unfold State.burstWrite
  exact .ite (State.chipWrite_canon h) (State.report_canon h)

theorem State.portArrivals_canon {a n} {s : State} (h : s.Canonical) : (State.portArrivals a n s).Canonical := by
  unfold State.portArrivals
  exact .foldl h (fun _ _ h0 => (.when (fun _ h1 => (State.listArrive_canon h1)) h0))

theorem State.burstEnds_canon {n} {s : State} (h : s.Canonical) : (State.burstEnds n s).Canonical := by
  unfold State.burstEnds
  exact State.afterBurst_canon (.only State.setCh_only rfl (.only State.signalEnd_only rfl (.when (fun _ h0 =>
      (State.portArrivals_canon h0)) (State.burstWrite_canon (.only State.dmaTook_only rfl
      (State.burstData_canon h))))))

theorem State.partialPages_canon {n mask fails a i data} {s : State} (h : s.Canonical) :
    (State.partialPages n mask fails a i data s).Canonical := by
  induction a, i, data, s using State.partialPages.induct n mask fails with
  | case1 a i b0 b1 b2 b3 r s v known u ih =>
    unfold State.partialPages
    exact ih (.ite (State.writeReg_canon h) h)
  | case2 a i data s k =>
    unfold State.partialPages
    split
    · exact absurd rfl (k _ _ _ _ _)
    · exact h

theorem State.partialWrites_canon {n mask stop a i data} {s : State} (h : s.Canonical) :
    (State.partialWrites n mask stop a i data s).Canonical := by
  induction data generalizing a i s with
  | nil => exact h
  | cons b r ih =>
    refine ih ?_
    split
    · exact .ite (State.burstWrite_canon h) h
    · exact h

theorem State.busError_canon {n cause} {s : State} (h : s.Canonical) : (State.busError n cause s).Canonical := by
  unfold State.busError
  exact State.dmaEnd_canon (.only State.signalEnd_only rfl (State.report_canon (.when (fun _ h0 =>
      (.only State.portFailed_only rfl h0)) (.when (fun _ h0 => (State.partialPages_canon h0))
      (State.partialWrites_canon (.only State.spend_only rfl (.only State.dmaTook_only rfl (.snd_ite
      (State.burstData_canon h) h))))))))

theorem State.fetchError_canon {n} {s : State} (h : s.Canonical) : (State.fetchError n s).Canonical := by
  unfold State.fetchError
  exact State.report_canon (.only State.setCh_only rfl h)

theorem State.fetched_canon {n l} {s : State} (h : s.Canonical) : (State.fetched n l s).Canonical := by
  unfold State.fetched
  exact .ite (State.dmaEnd_canon (.only State.setCh_only rfl h)) (.ite (.only State.setCh_only rfl
      (.only State.setCh_only rfl h)) (.ite (State.dmaEnd_canon (.only State.setCh_only rfl h))
      (.only State.setCh_only rfl (.only State.setCh_only rfl h))))

theorem State.refetched_canon {n l} {s : State} (h : s.Canonical) : (State.refetched n l s).Canonical := by
  unfold State.refetched
  exact .ite (State.dmaFetch_canon (.only State.setCh_only rfl (.only State.setCh_only rfl h))) (.ite
      (State.dmaReread_canon (.only State.setCh_only rfl h)) (.only State.setCh_only rfl h))

theorem State.descriptorIn_canon {n} {s : State} (h : s.Canonical) : (State.descriptorIn n s).Canonical := by
  unfold State.descriptorIn
  exact (.ite (by
    split
    · exact h
    · exact (State.fetchError_canon (.only State.dmaTook_only rfl h))
    · exact (State.fetched_canon (.only State.dmaTook_only rfl h))) (.ite (by
    split
    · exact h
    · exact (State.fetchError_canon (.only State.dmaTook_only rfl h))
    · exact (State.refetched_canon (.only State.dmaTook_only rfl h))) h))

theorem State.grant_canon {n} {s : State} (h : s.Canonical) : (State.grant n s).Canonical := by
  unfold State.grant
  exact .ite (.only Only.set_dma rfl (.only State.setCh_only rfl h)) (State.dmaUpRead_canon (.only Only.set_dma rfl
      (.only State.setCh_only rfl h)))

theorem State.requestIn_canon {n} {s : State} (h : s.Canonical) : (State.requestIn n s).Canonical := by
  unfold State.requestIn
  exact .ite (State.dmaEnd_canon (State.haltFirst_canon h)) (.only State.takeRequest_only rfl
      (State.haltFirst_canon h))

theorem State.wbWrite_canon {n} {s : State} (h : s.Canonical) : (State.wbWrite n s).Canonical := by
  unfold State.wbWrite
  exact .ite (State.chipWrite_canon h) (State.report_canon h)

theorem State.writtenBack_canon {n ok} {s : State} (h : s.Canonical) : (State.writtenBack n ok s).Canonical := by
  unfold State.writtenBack
  exact .ite (State.dmaBoundary_canon (State.report_canon (.when (fun _ h0 => (State.wbWrite_canon h0)) h))) h

theorem execDescriptorFetched_canon {t n} {s : State} (h : s.Canonical) :
    CanonOut (execDescriptorFetched t n s) := by
  unfold execDescriptorFetched
  exact CanonOut.core (fun _ h0 => (State.descriptorIn_canon h0)) h

theorem execDmaBurstEnd_canon {t n} {s : State} (h : s.Canonical) : CanonOut (execDmaBurstEnd t n s) := by
  unfold execDmaBurstEnd
  exact CanonOut.core (fun _ h0 => (.when (fun _ h1 => (State.burstEnds_canon h1)) h0)) h

theorem execDmaBurstGrant_canon {t n} {s : State} (h : s.Canonical) : CanonOut (execDmaBurstGrant t n s) := by
  unfold execDmaBurstGrant
  exact CanonOut.core (fun _ h0 => (.when (fun _ h1 => (State.grant_canon h1)) h0)) h

theorem execDmaBusError_canon {t n} {s : State} (h : s.Canonical) : CanonOut (execDmaBusError t n s) := by
  unfold execDmaBusError
  exact (CanonOut.core (fun _ h0 => (.ite (by
    split
    · exact (State.busError_canon h0)
    · exact h0) h0)) h)

theorem execDmaRequestTaken_canon {t n} {s : State} (h : s.Canonical) : CanonOut (execDmaRequestTaken t n s) := by
  unfold execDmaRequestTaken
  exact CanonOut.core (fun _ h0 => (State.requestIn_canon h0)) h

theorem execDmaWriteBackDone_canon {t n ok} {s : State} (h : s.Canonical) :
    CanonOut (execDmaWriteBackDone t n ok s) := by
  unfold execDmaWriteBackDone
  exact CanonOut.core (fun _ h0 => (State.writtenBack_canon h0)) h

theorem State.qspiPut_canon {x} {s : State} (h : s.Canonical) : (State.qspiPut x s).Canonical := by
  unfold State.qspiPut
  exact .ite (State.report_canon h) (.ite (State.chipWrite_canon h) (State.writeReg_canon h))

theorem State.qspiDrain_canon {s : State} (h : s.Canonical) : (State.qspiDrain s).Canonical := by
  unfold State.qspiDrain
  exact .foldl (.only Only.set_host rfl h) (fun _ _ h0 => (State.qspiPut_canon h0))

theorem State.qspiGet_canon {a} {s : State} (h : s.Canonical) : (State.qspiGet a s).Canonical := by
  unfold State.qspiGet
  exact (.ite (State.report_canon h) (.ite (by
    split
    · exact (State.report_canon h)
    · exact (State.report_canon h)) (.ite (State.report_canon h) (State.report_canon
        (.only State.latch_only rfl h)))))

theorem State.qspiGets_canon {n a} {s : State} (h : s.Canonical) : (State.qspiGets n a s).Canonical := by
  induction n generalizing a s with
  | zero => exact h
  | succ n ih => exact ih (State.qspiGet_canon h)

theorem State.qspiRead_canon {a dwords} {s : State} (h : s.Canonical) : (State.qspiRead a dwords s).Canonical := by
  unfold State.qspiRead
  exact .ite (State.qspiGets_canon (State.qspiDrain_canon h)) (State.report_canon (State.qspiDrain_canon h))

theorem State.qspiStep_canon {s : State} (h : s.Canonical) : (State.qspiStep s).Canonical := by
  unfold State.qspiStep
  exact (by
    split
    · exact h
    · exact (State.qspiPut_canon (.only Only.set_host rfl h)))

theorem State.qspiWrite_canon {a bytes} {s : State} (h : s.Canonical) : (State.qspiWrite a bytes s).Canonical := by
  unfold State.qspiWrite
  exact .ite (State.report_canon h) (State.report_canon (.only Only.set_host rfl h))

theorem execQspiIdent_canon {t} {s : State} (h : s.Canonical) : CanonOut (execQspiIdent t s) := by
  unfold execQspiIdent
  exact CanonOut.qspi (fun _ h0 => (State.report_canon h0)) h

theorem execQspiRead_canon {t addr dwords} {s : State} (h : s.Canonical) :
    CanonOut (execQspiRead t addr dwords s) := by
  unfold execQspiRead
  exact CanonOut.qspi (fun _ h0 => (State.qspiRead_canon h0)) h

theorem execQspiReadTimeout_canon {t addr} {s : State} (h : s.Canonical) :
    CanonOut (execQspiReadTimeout t addr s) := by
  unfold execQspiReadTimeout
  exact CanonOut.qspi (fun _ h0 => (.when (fun _ h1 => (State.report_canon (.only Only.set_host rfl h1))) h0)) h

theorem execQspiStatus_canon {t} {s : State} (h : s.Canonical) : CanonOut (execQspiStatus t s) := by
  unfold execQspiStatus
  exact CanonOut.qspi (fun _ h0 => (State.report_canon (.only Only.set_host rfl h0))) h

theorem execQspiWrite_canon {t addr bytes} {s : State} (h : s.Canonical) :
    CanonOut (execQspiWrite t addr bytes s) := by
  unfold execQspiWrite
  exact CanonOut.qspi (fun _ h0 => (State.qspiWrite_canon h0)) h

theorem State.uartStep_canon {s : State} (h : s.Canonical) : (State.uartStep s).Canonical := by
  unfold State.uartStep
  exact (by
    split
    · exact h
    · exact (State.report_canon (.set_fst id h)))

theorem idle_canon {s : State} (h : s.Canonical) : (idle s).Canonical := by
  unfold idle
  exact .ite h (.ite (State.qspiStep_canon h) (State.uartStep_canon h))

end Sys2Proof.Machine
end

