-- ==== Sys2Proof/Laws/State.lean ====
section
/-! SUPPORT. What each shared update of a state leaves in every field. -/

namespace Sys2Proof.Machine

open Sys2Proof

@[simp] theorem State.stamp_now {t} {s : State} : (State.stamp t s).now = max s.now t := rfl
@[simp] theorem State.stamp_free {t} {s : State} : (State.stamp t s).free = s.free := rfl
@[simp] theorem State.stamp_sample {t} {s : State} : (State.stamp t s).sample = s.sample := rfl
@[simp] theorem State.stamp_regs {t} {s : State} : (State.stamp t s).regs = s.regs := rfl
@[simp] theorem State.stamp_live {t} {s : State} : (State.stamp t s).live = s.live := rfl
@[simp] theorem State.stamp_hi {t} {s : State} : (State.stamp t s).hi = s.hi := rfl
@[simp] theorem State.stamp_top {t} {s : State} : (State.stamp t s).top = s.top := rfl
@[simp] theorem State.stamp_clk {t} {s : State} : (State.stamp t s).clk = s.clk := rfl
@[simp] theorem State.stamp_host {t} {s : State} : (State.stamp t s).host = s.host := rfl
@[simp] theorem State.stamp_bank0 {t} {s : State} : (State.stamp t s).bank0 = s.bank0 := rfl
@[simp] theorem State.stamp_bank1 {t} {s : State} : (State.stamp t s).bank1 = s.bank1 := rfl
@[simp] theorem State.stamp_health {t} {s : State} : (State.stamp t s).health = s.health := rfl
@[simp] theorem State.stamp_healthSetAt {t} {s : State} : (State.stamp t s).healthSetAt = s.healthSetAt := rfl
@[simp] theorem State.stamp_healthSet {t} {s : State} : (State.stamp t s).healthSet = s.healthSet := rfl
@[simp] theorem State.stamp_healthSeen {t} {s : State} : (State.stamp t s).healthSeen = s.healthSeen := rfl
@[simp] theorem State.stamp_clearQ {t} {s : State} : (State.stamp t s).clearQ = s.clearQ := rfl
@[simp] theorem State.stamp_layers {t} {s : State} : (State.stamp t s).layers = s.layers := rfl
@[simp] theorem State.stamp_calib {t} {s : State} : (State.stamp t s).calib = s.calib := rfl
@[simp] theorem State.stamp_surf {t} {s : State} : (State.stamp t s).surf = s.surf := rfl
@[simp] theorem State.stamp_skein {t} {s : State} : (State.stamp t s).skein = s.skein := rfl
@[simp] theorem State.stamp_arr {t} {s : State} : (State.stamp t s).arr = s.arr := rfl
@[simp] theorem State.stamp_ret {t} {s : State} : (State.stamp t s).ret = s.ret := rfl
@[simp] theorem State.stamp_areq {t} {s : State} : (State.stamp t s).areq = s.areq := rfl
@[simp] theorem State.stamp_lane {t} {s : State} : (State.stamp t s).lane = s.lane := rfl
@[simp] theorem State.stamp_stream {t} {s : State} : (State.stamp t s).stream = s.stream := rfl
@[simp] theorem State.stamp_intake {t} {s : State} : (State.stamp t s).intake = s.intake := rfl
@[simp] theorem State.stamp_layer {t} {s : State} : (State.stamp t s).layer = s.layer := rfl
@[simp] theorem State.stamp_comp {t} {s : State} : (State.stamp t s).comp = s.comp := rfl
@[simp] theorem State.stamp_fab {t} {s : State} : (State.stamp t s).fab = s.fab := rfl
@[simp] theorem State.stamp_corr {t} {s : State} : (State.stamp t s).corr = s.corr := rfl
@[simp] theorem State.stamp_shade {t} {s : State} : (State.stamp t s).shade = s.shade := rfl
@[simp] theorem State.stamp_tb {t} {s : State} : (State.stamp t s).tb = s.tb := rfl
@[simp] theorem State.stamp_cmt {t} {s : State} : (State.stamp t s).cmt = s.cmt := rfl
@[simp] theorem State.stamp_dma {t} {s : State} : (State.stamp t s).dma = s.dma := rfl
@[simp] theorem State.stamp_pwr {t} {s : State} : (State.stamp t s).pwr = s.pwr := rfl
@[simp] theorem State.stamp_thm {t} {s : State} : (State.stamp t s).thm = s.thm := rfl
@[simp] theorem State.stamp_tile {t} {s : State} : (State.stamp t s).tile = s.tile := rfl
@[simp] theorem State.stamp_flt {t} {s : State} : (State.stamp t s).flt = s.flt := rfl
@[simp] theorem State.stamp_glade {t} {s : State} : (State.stamp t s).glade = s.glade := rfl
@[simp] theorem State.stamp_fst {t} {s : State} : (State.stamp t s).fst = s.fst := rfl
@[simp] theorem State.stamp_log {t} {s : State} : (State.stamp t s).log = s.log := rfl
@[simp] theorem State.stamp_sec {t} {s : State} : (State.stamp t s).sec = s.sec := rfl
@[simp] theorem State.stamp_out {t} {s : State} : (State.stamp t s).out = s.out := rfl
@[simp] theorem State.stamp_pending {t} {s : State} : (State.stamp t s).pending = s.pending := rfl

@[simp] theorem State.spend_now {s : State} : (State.spend s).now = s.now := rfl
@[simp] theorem State.spend_free {s : State} : (State.spend s).free = s.free + 1 := rfl
@[simp] theorem State.spend_sample {s : State} : (State.spend s).sample = s.sample := rfl
@[simp] theorem State.spend_regs {s : State} : (State.spend s).regs = s.regs := rfl
@[simp] theorem State.spend_live {s : State} : (State.spend s).live = s.live := rfl
@[simp] theorem State.spend_hi {s : State} : (State.spend s).hi = s.hi := rfl
@[simp] theorem State.spend_top {s : State} : (State.spend s).top = s.top := rfl
@[simp] theorem State.spend_clk {s : State} : (State.spend s).clk = s.clk := rfl
@[simp] theorem State.spend_host {s : State} : (State.spend s).host = s.host := rfl
@[simp] theorem State.spend_bank0 {s : State} : (State.spend s).bank0 = s.bank0 := rfl
@[simp] theorem State.spend_bank1 {s : State} : (State.spend s).bank1 = s.bank1 := rfl
@[simp] theorem State.spend_health {s : State} : (State.spend s).health = s.health := rfl
@[simp] theorem State.spend_healthSetAt {s : State} : (State.spend s).healthSetAt = s.healthSetAt := rfl
@[simp] theorem State.spend_healthSet {s : State} : (State.spend s).healthSet = s.healthSet := rfl
@[simp] theorem State.spend_healthSeen {s : State} : (State.spend s).healthSeen = s.healthSeen := rfl
@[simp] theorem State.spend_clearQ {s : State} : (State.spend s).clearQ = s.clearQ := rfl
@[simp] theorem State.spend_layers {s : State} : (State.spend s).layers = s.layers := rfl
@[simp] theorem State.spend_calib {s : State} : (State.spend s).calib = s.calib := rfl
@[simp] theorem State.spend_surf {s : State} : (State.spend s).surf = s.surf := rfl
@[simp] theorem State.spend_skein {s : State} : (State.spend s).skein = s.skein := rfl
@[simp] theorem State.spend_arr {s : State} : (State.spend s).arr = s.arr := rfl
@[simp] theorem State.spend_ret {s : State} : (State.spend s).ret = s.ret := rfl
@[simp] theorem State.spend_areq {s : State} : (State.spend s).areq = s.areq := rfl
@[simp] theorem State.spend_lane {s : State} : (State.spend s).lane = s.lane := rfl
@[simp] theorem State.spend_stream {s : State} : (State.spend s).stream = s.stream := rfl
@[simp] theorem State.spend_intake {s : State} : (State.spend s).intake = s.intake := rfl
@[simp] theorem State.spend_layer {s : State} : (State.spend s).layer = s.layer := rfl
@[simp] theorem State.spend_comp {s : State} : (State.spend s).comp = s.comp := rfl
@[simp] theorem State.spend_fab {s : State} : (State.spend s).fab = s.fab := rfl
@[simp] theorem State.spend_corr {s : State} : (State.spend s).corr = s.corr := rfl
@[simp] theorem State.spend_shade {s : State} : (State.spend s).shade = s.shade := rfl
@[simp] theorem State.spend_tb {s : State} : (State.spend s).tb = s.tb := rfl
@[simp] theorem State.spend_cmt {s : State} : (State.spend s).cmt = s.cmt := rfl
@[simp] theorem State.spend_dma {s : State} : (State.spend s).dma = s.dma := rfl
@[simp] theorem State.spend_pwr {s : State} : (State.spend s).pwr = s.pwr := rfl
@[simp] theorem State.spend_thm {s : State} : (State.spend s).thm = s.thm := rfl
@[simp] theorem State.spend_tile {s : State} : (State.spend s).tile = s.tile := rfl
@[simp] theorem State.spend_flt {s : State} : (State.spend s).flt = s.flt := rfl
@[simp] theorem State.spend_glade {s : State} : (State.spend s).glade = s.glade := rfl
@[simp] theorem State.spend_fst {s : State} : (State.spend s).fst = s.fst := rfl
@[simp] theorem State.spend_log {s : State} : (State.spend s).log = s.log := rfl
@[simp] theorem State.spend_sec {s : State} : (State.spend s).sec = s.sec := rfl
@[simp] theorem State.spend_out {s : State} : (State.spend s).out = s.out := rfl
@[simp] theorem State.spend_pending {s : State} : (State.spend s).pending = s.pending := rfl

@[simp] theorem State.setSkein_now {k x} {s : State} : (State.setSkein k x s).now = s.now := rfl
@[simp] theorem State.setSkein_free {k x} {s : State} : (State.setSkein k x s).free = s.free := rfl
@[simp] theorem State.setSkein_sample {k x} {s : State} : (State.setSkein k x s).sample = s.sample := rfl
@[simp] theorem State.setSkein_regs {k x} {s : State} : (State.setSkein k x s).regs = s.regs := rfl
@[simp] theorem State.setSkein_live {k x} {s : State} : (State.setSkein k x s).live = s.live := rfl
@[simp] theorem State.setSkein_hi {k x} {s : State} : (State.setSkein k x s).hi = s.hi := rfl
@[simp] theorem State.setSkein_top {k x} {s : State} : (State.setSkein k x s).top = s.top := rfl
@[simp] theorem State.setSkein_clk {k x} {s : State} : (State.setSkein k x s).clk = s.clk := rfl
@[simp] theorem State.setSkein_host {k x} {s : State} : (State.setSkein k x s).host = s.host := rfl
@[simp] theorem State.setSkein_bank0 {k x} {s : State} : (State.setSkein k x s).bank0 = s.bank0 := rfl
@[simp] theorem State.setSkein_bank1 {k x} {s : State} : (State.setSkein k x s).bank1 = s.bank1 := rfl
@[simp] theorem State.setSkein_health {k x} {s : State} : (State.setSkein k x s).health = s.health := rfl
@[simp] theorem State.setSkein_healthSetAt {k x} {s : State} : (State.setSkein k x s).healthSetAt =
  s.healthSetAt := rfl
@[simp] theorem State.setSkein_healthSet {k x} {s : State} : (State.setSkein k x s).healthSet = s.healthSet := rfl
@[simp] theorem State.setSkein_healthSeen {k x} {s : State} : (State.setSkein k x s).healthSeen = s.healthSeen := rfl
@[simp] theorem State.setSkein_clearQ {k x} {s : State} : (State.setSkein k x s).clearQ = s.clearQ := rfl
@[simp] theorem State.setSkein_layers {k x} {s : State} : (State.setSkein k x s).layers = s.layers := rfl
@[simp] theorem State.setSkein_calib {k x} {s : State} : (State.setSkein k x s).calib = s.calib := rfl
@[simp] theorem State.setSkein_surf {k x} {s : State} : (State.setSkein k x s).surf = s.surf := rfl
@[simp] theorem State.setSkein_skein {k x} {s : State} : (State.setSkein k x s).skein = s.skein.set k x := rfl
@[simp] theorem State.setSkein_arr {k x} {s : State} : (State.setSkein k x s).arr = s.arr := rfl
@[simp] theorem State.setSkein_ret {k x} {s : State} : (State.setSkein k x s).ret = s.ret := rfl
@[simp] theorem State.setSkein_areq {k x} {s : State} : (State.setSkein k x s).areq = s.areq := rfl
@[simp] theorem State.setSkein_lane {k x} {s : State} : (State.setSkein k x s).lane = s.lane := rfl
@[simp] theorem State.setSkein_stream {k x} {s : State} : (State.setSkein k x s).stream = s.stream := rfl
@[simp] theorem State.setSkein_intake {k x} {s : State} : (State.setSkein k x s).intake = s.intake := rfl
@[simp] theorem State.setSkein_layer {k x} {s : State} : (State.setSkein k x s).layer = s.layer := rfl
@[simp] theorem State.setSkein_comp {k x} {s : State} : (State.setSkein k x s).comp = s.comp := rfl
@[simp] theorem State.setSkein_fab {k x} {s : State} : (State.setSkein k x s).fab = s.fab := rfl
@[simp] theorem State.setSkein_corr {k x} {s : State} : (State.setSkein k x s).corr = s.corr := rfl
@[simp] theorem State.setSkein_shade {k x} {s : State} : (State.setSkein k x s).shade = s.shade := rfl
@[simp] theorem State.setSkein_tb {k x} {s : State} : (State.setSkein k x s).tb = s.tb := rfl
@[simp] theorem State.setSkein_cmt {k x} {s : State} : (State.setSkein k x s).cmt = s.cmt := rfl
@[simp] theorem State.setSkein_dma {k x} {s : State} : (State.setSkein k x s).dma = s.dma := rfl
@[simp] theorem State.setSkein_pwr {k x} {s : State} : (State.setSkein k x s).pwr = s.pwr := rfl
@[simp] theorem State.setSkein_thm {k x} {s : State} : (State.setSkein k x s).thm = s.thm := rfl
@[simp] theorem State.setSkein_tile {k x} {s : State} : (State.setSkein k x s).tile = s.tile := rfl
@[simp] theorem State.setSkein_flt {k x} {s : State} : (State.setSkein k x s).flt = s.flt := rfl
@[simp] theorem State.setSkein_glade {k x} {s : State} : (State.setSkein k x s).glade = s.glade := rfl
@[simp] theorem State.setSkein_fst {k x} {s : State} : (State.setSkein k x s).fst = s.fst := rfl
@[simp] theorem State.setSkein_log {k x} {s : State} : (State.setSkein k x s).log = s.log := rfl
@[simp] theorem State.setSkein_sec {k x} {s : State} : (State.setSkein k x s).sec = s.sec := rfl
@[simp] theorem State.setSkein_out {k x} {s : State} : (State.setSkein k x s).out = s.out := rfl
@[simp] theorem State.setSkein_pending {k x} {s : State} : (State.setSkein k x s).pending = s.pending := rfl

@[simp] theorem State.setLane_now {l x} {s : State} : (State.setLane l x s).now = s.now := rfl
@[simp] theorem State.setLane_free {l x} {s : State} : (State.setLane l x s).free = s.free := rfl
@[simp] theorem State.setLane_sample {l x} {s : State} : (State.setLane l x s).sample = s.sample := rfl
@[simp] theorem State.setLane_regs {l x} {s : State} : (State.setLane l x s).regs = s.regs := rfl
@[simp] theorem State.setLane_live {l x} {s : State} : (State.setLane l x s).live = s.live := rfl
@[simp] theorem State.setLane_hi {l x} {s : State} : (State.setLane l x s).hi = s.hi := rfl
@[simp] theorem State.setLane_top {l x} {s : State} : (State.setLane l x s).top = s.top := rfl
@[simp] theorem State.setLane_clk {l x} {s : State} : (State.setLane l x s).clk = s.clk := rfl
@[simp] theorem State.setLane_host {l x} {s : State} : (State.setLane l x s).host = s.host := rfl
@[simp] theorem State.setLane_bank0 {l x} {s : State} : (State.setLane l x s).bank0 = s.bank0 := rfl
@[simp] theorem State.setLane_bank1 {l x} {s : State} : (State.setLane l x s).bank1 = s.bank1 := rfl
@[simp] theorem State.setLane_health {l x} {s : State} : (State.setLane l x s).health = s.health := rfl
@[simp] theorem State.setLane_healthSetAt {l x} {s : State} : (State.setLane l x s).healthSetAt = s.healthSetAt := rfl
@[simp] theorem State.setLane_healthSet {l x} {s : State} : (State.setLane l x s).healthSet = s.healthSet := rfl
@[simp] theorem State.setLane_healthSeen {l x} {s : State} : (State.setLane l x s).healthSeen = s.healthSeen := rfl
@[simp] theorem State.setLane_clearQ {l x} {s : State} : (State.setLane l x s).clearQ = s.clearQ := rfl
@[simp] theorem State.setLane_layers {l x} {s : State} : (State.setLane l x s).layers = s.layers := rfl
@[simp] theorem State.setLane_calib {l x} {s : State} : (State.setLane l x s).calib = s.calib := rfl
@[simp] theorem State.setLane_surf {l x} {s : State} : (State.setLane l x s).surf = s.surf := rfl
@[simp] theorem State.setLane_skein {l x} {s : State} : (State.setLane l x s).skein = s.skein := rfl
@[simp] theorem State.setLane_arr {l x} {s : State} : (State.setLane l x s).arr = s.arr := rfl
@[simp] theorem State.setLane_ret {l x} {s : State} : (State.setLane l x s).ret = s.ret := rfl
@[simp] theorem State.setLane_areq {l x} {s : State} : (State.setLane l x s).areq = s.areq := rfl
@[simp] theorem State.setLane_lane {l x} {s : State} : (State.setLane l x s).lane = s.lane.set l x := rfl
@[simp] theorem State.setLane_stream {l x} {s : State} : (State.setLane l x s).stream = s.stream := rfl
@[simp] theorem State.setLane_intake {l x} {s : State} : (State.setLane l x s).intake = s.intake := rfl
@[simp] theorem State.setLane_layer {l x} {s : State} : (State.setLane l x s).layer = s.layer := rfl
@[simp] theorem State.setLane_comp {l x} {s : State} : (State.setLane l x s).comp = s.comp := rfl
@[simp] theorem State.setLane_fab {l x} {s : State} : (State.setLane l x s).fab = s.fab := rfl
@[simp] theorem State.setLane_corr {l x} {s : State} : (State.setLane l x s).corr = s.corr := rfl
@[simp] theorem State.setLane_shade {l x} {s : State} : (State.setLane l x s).shade = s.shade := rfl
@[simp] theorem State.setLane_tb {l x} {s : State} : (State.setLane l x s).tb = s.tb := rfl
@[simp] theorem State.setLane_cmt {l x} {s : State} : (State.setLane l x s).cmt = s.cmt := rfl
@[simp] theorem State.setLane_dma {l x} {s : State} : (State.setLane l x s).dma = s.dma := rfl
@[simp] theorem State.setLane_pwr {l x} {s : State} : (State.setLane l x s).pwr = s.pwr := rfl
@[simp] theorem State.setLane_thm {l x} {s : State} : (State.setLane l x s).thm = s.thm := rfl
@[simp] theorem State.setLane_tile {l x} {s : State} : (State.setLane l x s).tile = s.tile := rfl
@[simp] theorem State.setLane_flt {l x} {s : State} : (State.setLane l x s).flt = s.flt := rfl
@[simp] theorem State.setLane_glade {l x} {s : State} : (State.setLane l x s).glade = s.glade := rfl
@[simp] theorem State.setLane_fst {l x} {s : State} : (State.setLane l x s).fst = s.fst := rfl
@[simp] theorem State.setLane_log {l x} {s : State} : (State.setLane l x s).log = s.log := rfl
@[simp] theorem State.setLane_sec {l x} {s : State} : (State.setLane l x s).sec = s.sec := rfl
@[simp] theorem State.setLane_out {l x} {s : State} : (State.setLane l x s).out = s.out := rfl
@[simp] theorem State.setLane_pending {l x} {s : State} : (State.setLane l x s).pending = s.pending := rfl

@[simp] theorem State.setArr_now {a x} {s : State} : (State.setArr a x s).now = s.now := rfl
@[simp] theorem State.setArr_free {a x} {s : State} : (State.setArr a x s).free = s.free := rfl
@[simp] theorem State.setArr_sample {a x} {s : State} : (State.setArr a x s).sample = s.sample := rfl
@[simp] theorem State.setArr_regs {a x} {s : State} : (State.setArr a x s).regs = s.regs := rfl
@[simp] theorem State.setArr_live {a x} {s : State} : (State.setArr a x s).live = s.live := rfl
@[simp] theorem State.setArr_hi {a x} {s : State} : (State.setArr a x s).hi = s.hi := rfl
@[simp] theorem State.setArr_top {a x} {s : State} : (State.setArr a x s).top = s.top := rfl
@[simp] theorem State.setArr_clk {a x} {s : State} : (State.setArr a x s).clk = s.clk := rfl
@[simp] theorem State.setArr_host {a x} {s : State} : (State.setArr a x s).host = s.host := rfl
@[simp] theorem State.setArr_bank0 {a x} {s : State} : (State.setArr a x s).bank0 = s.bank0 := rfl
@[simp] theorem State.setArr_bank1 {a x} {s : State} : (State.setArr a x s).bank1 = s.bank1 := rfl
@[simp] theorem State.setArr_health {a x} {s : State} : (State.setArr a x s).health = s.health := rfl
@[simp] theorem State.setArr_healthSetAt {a x} {s : State} : (State.setArr a x s).healthSetAt = s.healthSetAt := rfl
@[simp] theorem State.setArr_healthSet {a x} {s : State} : (State.setArr a x s).healthSet = s.healthSet := rfl
@[simp] theorem State.setArr_healthSeen {a x} {s : State} : (State.setArr a x s).healthSeen = s.healthSeen := rfl
@[simp] theorem State.setArr_clearQ {a x} {s : State} : (State.setArr a x s).clearQ = s.clearQ := rfl
@[simp] theorem State.setArr_layers {a x} {s : State} : (State.setArr a x s).layers = s.layers := rfl
@[simp] theorem State.setArr_calib {a x} {s : State} : (State.setArr a x s).calib = s.calib := rfl
@[simp] theorem State.setArr_surf {a x} {s : State} : (State.setArr a x s).surf = s.surf := rfl
@[simp] theorem State.setArr_skein {a x} {s : State} : (State.setArr a x s).skein = s.skein := rfl
@[simp] theorem State.setArr_arr {a x} {s : State} : (State.setArr a x s).arr = s.arr.set a x := rfl
@[simp] theorem State.setArr_ret {a x} {s : State} : (State.setArr a x s).ret = s.ret := rfl
@[simp] theorem State.setArr_areq {a x} {s : State} : (State.setArr a x s).areq = s.areq := rfl
@[simp] theorem State.setArr_lane {a x} {s : State} : (State.setArr a x s).lane = s.lane := rfl
@[simp] theorem State.setArr_stream {a x} {s : State} : (State.setArr a x s).stream = s.stream := rfl
@[simp] theorem State.setArr_intake {a x} {s : State} : (State.setArr a x s).intake = s.intake := rfl
@[simp] theorem State.setArr_layer {a x} {s : State} : (State.setArr a x s).layer = s.layer := rfl
@[simp] theorem State.setArr_comp {a x} {s : State} : (State.setArr a x s).comp = s.comp := rfl
@[simp] theorem State.setArr_fab {a x} {s : State} : (State.setArr a x s).fab = s.fab := rfl
@[simp] theorem State.setArr_corr {a x} {s : State} : (State.setArr a x s).corr = s.corr := rfl
@[simp] theorem State.setArr_shade {a x} {s : State} : (State.setArr a x s).shade = s.shade := rfl
@[simp] theorem State.setArr_tb {a x} {s : State} : (State.setArr a x s).tb = s.tb := rfl
@[simp] theorem State.setArr_cmt {a x} {s : State} : (State.setArr a x s).cmt = s.cmt := rfl
@[simp] theorem State.setArr_dma {a x} {s : State} : (State.setArr a x s).dma = s.dma := rfl
@[simp] theorem State.setArr_pwr {a x} {s : State} : (State.setArr a x s).pwr = s.pwr := rfl
@[simp] theorem State.setArr_thm {a x} {s : State} : (State.setArr a x s).thm = s.thm := rfl
@[simp] theorem State.setArr_tile {a x} {s : State} : (State.setArr a x s).tile = s.tile := rfl
@[simp] theorem State.setArr_flt {a x} {s : State} : (State.setArr a x s).flt = s.flt := rfl
@[simp] theorem State.setArr_glade {a x} {s : State} : (State.setArr a x s).glade = s.glade := rfl
@[simp] theorem State.setArr_fst {a x} {s : State} : (State.setArr a x s).fst = s.fst := rfl
@[simp] theorem State.setArr_log {a x} {s : State} : (State.setArr a x s).log = s.log := rfl
@[simp] theorem State.setArr_sec {a x} {s : State} : (State.setArr a x s).sec = s.sec := rfl
@[simp] theorem State.setArr_out {a x} {s : State} : (State.setArr a x s).out = s.out := rfl
@[simp] theorem State.setArr_pending {a x} {s : State} : (State.setArr a x s).pending = s.pending := rfl

@[simp] theorem State.setRet_now {b x} {s : State} : (State.setRet b x s).now = s.now := rfl
@[simp] theorem State.setRet_free {b x} {s : State} : (State.setRet b x s).free = s.free := rfl
@[simp] theorem State.setRet_sample {b x} {s : State} : (State.setRet b x s).sample = s.sample := rfl
@[simp] theorem State.setRet_regs {b x} {s : State} : (State.setRet b x s).regs = s.regs := rfl
@[simp] theorem State.setRet_live {b x} {s : State} : (State.setRet b x s).live = s.live := rfl
@[simp] theorem State.setRet_hi {b x} {s : State} : (State.setRet b x s).hi = s.hi := rfl
@[simp] theorem State.setRet_top {b x} {s : State} : (State.setRet b x s).top = s.top := rfl
@[simp] theorem State.setRet_clk {b x} {s : State} : (State.setRet b x s).clk = s.clk := rfl
@[simp] theorem State.setRet_host {b x} {s : State} : (State.setRet b x s).host = s.host := rfl
@[simp] theorem State.setRet_bank0 {b x} {s : State} : (State.setRet b x s).bank0 = s.bank0 := rfl
@[simp] theorem State.setRet_bank1 {b x} {s : State} : (State.setRet b x s).bank1 = s.bank1 := rfl
@[simp] theorem State.setRet_health {b x} {s : State} : (State.setRet b x s).health = s.health := rfl
@[simp] theorem State.setRet_healthSetAt {b x} {s : State} : (State.setRet b x s).healthSetAt = s.healthSetAt := rfl
@[simp] theorem State.setRet_healthSet {b x} {s : State} : (State.setRet b x s).healthSet = s.healthSet := rfl
@[simp] theorem State.setRet_healthSeen {b x} {s : State} : (State.setRet b x s).healthSeen = s.healthSeen := rfl
@[simp] theorem State.setRet_clearQ {b x} {s : State} : (State.setRet b x s).clearQ = s.clearQ := rfl
@[simp] theorem State.setRet_layers {b x} {s : State} : (State.setRet b x s).layers = s.layers := rfl
@[simp] theorem State.setRet_calib {b x} {s : State} : (State.setRet b x s).calib = s.calib := rfl
@[simp] theorem State.setRet_surf {b x} {s : State} : (State.setRet b x s).surf = s.surf := rfl
@[simp] theorem State.setRet_skein {b x} {s : State} : (State.setRet b x s).skein = s.skein := rfl
@[simp] theorem State.setRet_arr {b x} {s : State} : (State.setRet b x s).arr = s.arr := rfl
@[simp] theorem State.setRet_ret {b x} {s : State} : (State.setRet b x s).ret = s.ret.set b x := rfl
@[simp] theorem State.setRet_areq {b x} {s : State} : (State.setRet b x s).areq = s.areq := rfl
@[simp] theorem State.setRet_lane {b x} {s : State} : (State.setRet b x s).lane = s.lane := rfl
@[simp] theorem State.setRet_stream {b x} {s : State} : (State.setRet b x s).stream = s.stream := rfl
@[simp] theorem State.setRet_intake {b x} {s : State} : (State.setRet b x s).intake = s.intake := rfl
@[simp] theorem State.setRet_layer {b x} {s : State} : (State.setRet b x s).layer = s.layer := rfl
@[simp] theorem State.setRet_comp {b x} {s : State} : (State.setRet b x s).comp = s.comp := rfl
@[simp] theorem State.setRet_fab {b x} {s : State} : (State.setRet b x s).fab = s.fab := rfl
@[simp] theorem State.setRet_corr {b x} {s : State} : (State.setRet b x s).corr = s.corr := rfl
@[simp] theorem State.setRet_shade {b x} {s : State} : (State.setRet b x s).shade = s.shade := rfl
@[simp] theorem State.setRet_tb {b x} {s : State} : (State.setRet b x s).tb = s.tb := rfl
@[simp] theorem State.setRet_cmt {b x} {s : State} : (State.setRet b x s).cmt = s.cmt := rfl
@[simp] theorem State.setRet_dma {b x} {s : State} : (State.setRet b x s).dma = s.dma := rfl
@[simp] theorem State.setRet_pwr {b x} {s : State} : (State.setRet b x s).pwr = s.pwr := rfl
@[simp] theorem State.setRet_thm {b x} {s : State} : (State.setRet b x s).thm = s.thm := rfl
@[simp] theorem State.setRet_tile {b x} {s : State} : (State.setRet b x s).tile = s.tile := rfl
@[simp] theorem State.setRet_flt {b x} {s : State} : (State.setRet b x s).flt = s.flt := rfl
@[simp] theorem State.setRet_glade {b x} {s : State} : (State.setRet b x s).glade = s.glade := rfl
@[simp] theorem State.setRet_fst {b x} {s : State} : (State.setRet b x s).fst = s.fst := rfl
@[simp] theorem State.setRet_log {b x} {s : State} : (State.setRet b x s).log = s.log := rfl
@[simp] theorem State.setRet_sec {b x} {s : State} : (State.setRet b x s).sec = s.sec := rfl
@[simp] theorem State.setRet_out {b x} {s : State} : (State.setRet b x s).out = s.out := rfl
@[simp] theorem State.setRet_pending {b x} {s : State} : (State.setRet b x s).pending = s.pending := rfl

@[simp] theorem State.setCh_now {n c} {s : State} : (State.setCh n c s).now = s.now := rfl
@[simp] theorem State.setCh_free {n c} {s : State} : (State.setCh n c s).free = s.free := rfl
@[simp] theorem State.setCh_sample {n c} {s : State} : (State.setCh n c s).sample = s.sample := rfl
@[simp] theorem State.setCh_regs {n c} {s : State} : (State.setCh n c s).regs = s.regs := rfl
@[simp] theorem State.setCh_live {n c} {s : State} : (State.setCh n c s).live = s.live := rfl
@[simp] theorem State.setCh_hi {n c} {s : State} : (State.setCh n c s).hi = s.hi := rfl
@[simp] theorem State.setCh_top {n c} {s : State} : (State.setCh n c s).top = s.top := rfl
@[simp] theorem State.setCh_clk {n c} {s : State} : (State.setCh n c s).clk = s.clk := rfl
@[simp] theorem State.setCh_host {n c} {s : State} : (State.setCh n c s).host = s.host := rfl
@[simp] theorem State.setCh_bank0 {n c} {s : State} : (State.setCh n c s).bank0 = s.bank0 := rfl
@[simp] theorem State.setCh_bank1 {n c} {s : State} : (State.setCh n c s).bank1 = s.bank1 := rfl
@[simp] theorem State.setCh_health {n c} {s : State} : (State.setCh n c s).health = s.health := rfl
@[simp] theorem State.setCh_healthSetAt {n c} {s : State} : (State.setCh n c s).healthSetAt = s.healthSetAt := rfl
@[simp] theorem State.setCh_healthSet {n c} {s : State} : (State.setCh n c s).healthSet = s.healthSet := rfl
@[simp] theorem State.setCh_healthSeen {n c} {s : State} : (State.setCh n c s).healthSeen = s.healthSeen := rfl
@[simp] theorem State.setCh_clearQ {n c} {s : State} : (State.setCh n c s).clearQ = s.clearQ := rfl
@[simp] theorem State.setCh_layers {n c} {s : State} : (State.setCh n c s).layers = s.layers := rfl
@[simp] theorem State.setCh_calib {n c} {s : State} : (State.setCh n c s).calib = s.calib := rfl
@[simp] theorem State.setCh_surf {n c} {s : State} : (State.setCh n c s).surf = s.surf := rfl
@[simp] theorem State.setCh_skein {n c} {s : State} : (State.setCh n c s).skein = s.skein := rfl
@[simp] theorem State.setCh_arr {n c} {s : State} : (State.setCh n c s).arr = s.arr := rfl
@[simp] theorem State.setCh_ret {n c} {s : State} : (State.setCh n c s).ret = s.ret := rfl
@[simp] theorem State.setCh_areq {n c} {s : State} : (State.setCh n c s).areq = s.areq := rfl
@[simp] theorem State.setCh_lane {n c} {s : State} : (State.setCh n c s).lane = s.lane := rfl
@[simp] theorem State.setCh_stream {n c} {s : State} : (State.setCh n c s).stream = s.stream := rfl
@[simp] theorem State.setCh_intake {n c} {s : State} : (State.setCh n c s).intake = s.intake := rfl
@[simp] theorem State.setCh_layer {n c} {s : State} : (State.setCh n c s).layer = s.layer := rfl
@[simp] theorem State.setCh_comp {n c} {s : State} : (State.setCh n c s).comp = s.comp := rfl
@[simp] theorem State.setCh_fab {n c} {s : State} : (State.setCh n c s).fab = s.fab := rfl
@[simp] theorem State.setCh_corr {n c} {s : State} : (State.setCh n c s).corr = s.corr := rfl
@[simp] theorem State.setCh_shade {n c} {s : State} : (State.setCh n c s).shade = s.shade := rfl
@[simp] theorem State.setCh_tb {n c} {s : State} : (State.setCh n c s).tb = s.tb := rfl
@[simp] theorem State.setCh_cmt {n c} {s : State} : (State.setCh n c s).cmt = s.cmt := rfl
@[simp] theorem State.setCh_pwr {n c} {s : State} : (State.setCh n c s).pwr = s.pwr := rfl
@[simp] theorem State.setCh_thm {n c} {s : State} : (State.setCh n c s).thm = s.thm := rfl
@[simp] theorem State.setCh_tile {n c} {s : State} : (State.setCh n c s).tile = s.tile := rfl
@[simp] theorem State.setCh_flt {n c} {s : State} : (State.setCh n c s).flt = s.flt := rfl
@[simp] theorem State.setCh_glade {n c} {s : State} : (State.setCh n c s).glade = s.glade := rfl
@[simp] theorem State.setCh_fst {n c} {s : State} : (State.setCh n c s).fst = s.fst := rfl
@[simp] theorem State.setCh_log {n c} {s : State} : (State.setCh n c s).log = s.log := rfl
@[simp] theorem State.setCh_sec {n c} {s : State} : (State.setCh n c s).sec = s.sec := rfl
@[simp] theorem State.setCh_out {n c} {s : State} : (State.setCh n c s).out = s.out := rfl
@[simp] theorem State.setCh_pending {n c} {s : State} : (State.setCh n c s).pending = s.pending := rfl

@[simp] theorem State.setSurf_now {u x} {s : State} : (State.setSurf u x s).now = s.now := rfl
@[simp] theorem State.setSurf_free {u x} {s : State} : (State.setSurf u x s).free = s.free := rfl
@[simp] theorem State.setSurf_sample {u x} {s : State} : (State.setSurf u x s).sample = s.sample := rfl
@[simp] theorem State.setSurf_regs {u x} {s : State} : (State.setSurf u x s).regs = s.regs := rfl
@[simp] theorem State.setSurf_live {u x} {s : State} : (State.setSurf u x s).live = s.live := rfl
@[simp] theorem State.setSurf_hi {u x} {s : State} : (State.setSurf u x s).hi = s.hi := rfl
@[simp] theorem State.setSurf_top {u x} {s : State} : (State.setSurf u x s).top = s.top := rfl
@[simp] theorem State.setSurf_clk {u x} {s : State} : (State.setSurf u x s).clk = s.clk := rfl
@[simp] theorem State.setSurf_host {u x} {s : State} : (State.setSurf u x s).host = s.host := rfl
@[simp] theorem State.setSurf_bank0 {u x} {s : State} : (State.setSurf u x s).bank0 = s.bank0 := rfl
@[simp] theorem State.setSurf_bank1 {u x} {s : State} : (State.setSurf u x s).bank1 = s.bank1 := rfl
@[simp] theorem State.setSurf_health {u x} {s : State} : (State.setSurf u x s).health = s.health := rfl
@[simp] theorem State.setSurf_healthSetAt {u x} {s : State} : (State.setSurf u x s).healthSetAt = s.healthSetAt := rfl
@[simp] theorem State.setSurf_healthSet {u x} {s : State} : (State.setSurf u x s).healthSet = s.healthSet := rfl
@[simp] theorem State.setSurf_healthSeen {u x} {s : State} : (State.setSurf u x s).healthSeen = s.healthSeen := rfl
@[simp] theorem State.setSurf_clearQ {u x} {s : State} : (State.setSurf u x s).clearQ = s.clearQ := rfl
@[simp] theorem State.setSurf_layers {u x} {s : State} : (State.setSurf u x s).layers = s.layers := rfl
@[simp] theorem State.setSurf_calib {u x} {s : State} : (State.setSurf u x s).calib = s.calib := rfl
@[simp] theorem State.setSurf_surf {u x} {s : State} : (State.setSurf u x s).surf = s.surf.set u x := rfl
@[simp] theorem State.setSurf_skein {u x} {s : State} : (State.setSurf u x s).skein = s.skein := rfl
@[simp] theorem State.setSurf_arr {u x} {s : State} : (State.setSurf u x s).arr = s.arr := rfl
@[simp] theorem State.setSurf_ret {u x} {s : State} : (State.setSurf u x s).ret = s.ret := rfl
@[simp] theorem State.setSurf_areq {u x} {s : State} : (State.setSurf u x s).areq = s.areq := rfl
@[simp] theorem State.setSurf_lane {u x} {s : State} : (State.setSurf u x s).lane = s.lane := rfl
@[simp] theorem State.setSurf_stream {u x} {s : State} : (State.setSurf u x s).stream = s.stream := rfl
@[simp] theorem State.setSurf_intake {u x} {s : State} : (State.setSurf u x s).intake = s.intake := rfl
@[simp] theorem State.setSurf_layer {u x} {s : State} : (State.setSurf u x s).layer = s.layer := rfl
@[simp] theorem State.setSurf_comp {u x} {s : State} : (State.setSurf u x s).comp = s.comp := rfl
@[simp] theorem State.setSurf_fab {u x} {s : State} : (State.setSurf u x s).fab = s.fab := rfl
@[simp] theorem State.setSurf_corr {u x} {s : State} : (State.setSurf u x s).corr = s.corr := rfl
@[simp] theorem State.setSurf_shade {u x} {s : State} : (State.setSurf u x s).shade = s.shade := rfl
@[simp] theorem State.setSurf_tb {u x} {s : State} : (State.setSurf u x s).tb = s.tb := rfl
@[simp] theorem State.setSurf_cmt {u x} {s : State} : (State.setSurf u x s).cmt = s.cmt := rfl
@[simp] theorem State.setSurf_dma {u x} {s : State} : (State.setSurf u x s).dma = s.dma := rfl
@[simp] theorem State.setSurf_pwr {u x} {s : State} : (State.setSurf u x s).pwr = s.pwr := rfl
@[simp] theorem State.setSurf_thm {u x} {s : State} : (State.setSurf u x s).thm = s.thm := rfl
@[simp] theorem State.setSurf_tile {u x} {s : State} : (State.setSurf u x s).tile = s.tile := rfl
@[simp] theorem State.setSurf_flt {u x} {s : State} : (State.setSurf u x s).flt = s.flt := rfl
@[simp] theorem State.setSurf_glade {u x} {s : State} : (State.setSurf u x s).glade = s.glade := rfl
@[simp] theorem State.setSurf_fst {u x} {s : State} : (State.setSurf u x s).fst = s.fst := rfl
@[simp] theorem State.setSurf_log {u x} {s : State} : (State.setSurf u x s).log = s.log := rfl
@[simp] theorem State.setSurf_sec {u x} {s : State} : (State.setSurf u x s).sec = s.sec := rfl
@[simp] theorem State.setSurf_out {u x} {s : State} : (State.setSurf u x s).out = s.out := rfl
@[simp] theorem State.setSurf_pending {u x} {s : State} : (State.setSurf u x s).pending = s.pending := rfl

@[simp] theorem State.setLayer_now {n x} {s : State} : (State.setLayer n x s).now = s.now := rfl
@[simp] theorem State.setLayer_free {n x} {s : State} : (State.setLayer n x s).free = s.free := rfl
@[simp] theorem State.setLayer_sample {n x} {s : State} : (State.setLayer n x s).sample = s.sample := rfl
@[simp] theorem State.setLayer_regs {n x} {s : State} : (State.setLayer n x s).regs = s.regs := rfl
@[simp] theorem State.setLayer_live {n x} {s : State} : (State.setLayer n x s).live = s.live := rfl
@[simp] theorem State.setLayer_hi {n x} {s : State} : (State.setLayer n x s).hi = s.hi := rfl
@[simp] theorem State.setLayer_top {n x} {s : State} : (State.setLayer n x s).top = s.top := rfl
@[simp] theorem State.setLayer_clk {n x} {s : State} : (State.setLayer n x s).clk = s.clk := rfl
@[simp] theorem State.setLayer_host {n x} {s : State} : (State.setLayer n x s).host = s.host := rfl
@[simp] theorem State.setLayer_bank0 {n x} {s : State} : (State.setLayer n x s).bank0 = s.bank0 := rfl
@[simp] theorem State.setLayer_bank1 {n x} {s : State} : (State.setLayer n x s).bank1 = s.bank1 := rfl
@[simp] theorem State.setLayer_health {n x} {s : State} : (State.setLayer n x s).health = s.health := rfl
@[simp] theorem State.setLayer_healthSetAt {n x} {s : State} : (State.setLayer n x s).healthSetAt =
  s.healthSetAt := rfl
@[simp] theorem State.setLayer_healthSet {n x} {s : State} : (State.setLayer n x s).healthSet = s.healthSet := rfl
@[simp] theorem State.setLayer_healthSeen {n x} {s : State} : (State.setLayer n x s).healthSeen = s.healthSeen := rfl
@[simp] theorem State.setLayer_clearQ {n x} {s : State} : (State.setLayer n x s).clearQ = s.clearQ := rfl
@[simp] theorem State.setLayer_layers {n x} {s : State} : (State.setLayer n x s).layers = s.layers := rfl
@[simp] theorem State.setLayer_calib {n x} {s : State} : (State.setLayer n x s).calib = s.calib := rfl
@[simp] theorem State.setLayer_surf {n x} {s : State} : (State.setLayer n x s).surf = s.surf := rfl
@[simp] theorem State.setLayer_skein {n x} {s : State} : (State.setLayer n x s).skein = s.skein := rfl
@[simp] theorem State.setLayer_arr {n x} {s : State} : (State.setLayer n x s).arr = s.arr := rfl
@[simp] theorem State.setLayer_ret {n x} {s : State} : (State.setLayer n x s).ret = s.ret := rfl
@[simp] theorem State.setLayer_areq {n x} {s : State} : (State.setLayer n x s).areq = s.areq := rfl
@[simp] theorem State.setLayer_lane {n x} {s : State} : (State.setLayer n x s).lane = s.lane := rfl
@[simp] theorem State.setLayer_stream {n x} {s : State} : (State.setLayer n x s).stream = s.stream := rfl
@[simp] theorem State.setLayer_intake {n x} {s : State} : (State.setLayer n x s).intake = s.intake := rfl
@[simp] theorem State.setLayer_layer {n x} {s : State} : (State.setLayer n x s).layer = s.layer.set n x := rfl
@[simp] theorem State.setLayer_comp {n x} {s : State} : (State.setLayer n x s).comp = s.comp := rfl
@[simp] theorem State.setLayer_fab {n x} {s : State} : (State.setLayer n x s).fab = s.fab := rfl
@[simp] theorem State.setLayer_corr {n x} {s : State} : (State.setLayer n x s).corr = s.corr := rfl
@[simp] theorem State.setLayer_shade {n x} {s : State} : (State.setLayer n x s).shade = s.shade := rfl
@[simp] theorem State.setLayer_tb {n x} {s : State} : (State.setLayer n x s).tb = s.tb := rfl
@[simp] theorem State.setLayer_cmt {n x} {s : State} : (State.setLayer n x s).cmt = s.cmt := rfl
@[simp] theorem State.setLayer_dma {n x} {s : State} : (State.setLayer n x s).dma = s.dma := rfl
@[simp] theorem State.setLayer_pwr {n x} {s : State} : (State.setLayer n x s).pwr = s.pwr := rfl
@[simp] theorem State.setLayer_thm {n x} {s : State} : (State.setLayer n x s).thm = s.thm := rfl
@[simp] theorem State.setLayer_tile {n x} {s : State} : (State.setLayer n x s).tile = s.tile := rfl
@[simp] theorem State.setLayer_flt {n x} {s : State} : (State.setLayer n x s).flt = s.flt := rfl
@[simp] theorem State.setLayer_glade {n x} {s : State} : (State.setLayer n x s).glade = s.glade := rfl
@[simp] theorem State.setLayer_fst {n x} {s : State} : (State.setLayer n x s).fst = s.fst := rfl
@[simp] theorem State.setLayer_log {n x} {s : State} : (State.setLayer n x s).log = s.log := rfl
@[simp] theorem State.setLayer_sec {n x} {s : State} : (State.setLayer n x s).sec = s.sec := rfl
@[simp] theorem State.setLayer_out {n x} {s : State} : (State.setLayer n x s).out = s.out := rfl
@[simp] theorem State.setLayer_pending {n x} {s : State} : (State.setLayer n x s).pending = s.pending := rfl

@[simp] theorem State.setComp_now {u x} {s : State} : (State.setComp u x s).now = s.now := rfl
@[simp] theorem State.setComp_free {u x} {s : State} : (State.setComp u x s).free = s.free := rfl
@[simp] theorem State.setComp_sample {u x} {s : State} : (State.setComp u x s).sample = s.sample := rfl
@[simp] theorem State.setComp_regs {u x} {s : State} : (State.setComp u x s).regs = s.regs := rfl
@[simp] theorem State.setComp_live {u x} {s : State} : (State.setComp u x s).live = s.live := rfl
@[simp] theorem State.setComp_hi {u x} {s : State} : (State.setComp u x s).hi = s.hi := rfl
@[simp] theorem State.setComp_top {u x} {s : State} : (State.setComp u x s).top = s.top := rfl
@[simp] theorem State.setComp_clk {u x} {s : State} : (State.setComp u x s).clk = s.clk := rfl
@[simp] theorem State.setComp_host {u x} {s : State} : (State.setComp u x s).host = s.host := rfl
@[simp] theorem State.setComp_bank0 {u x} {s : State} : (State.setComp u x s).bank0 = s.bank0 := rfl
@[simp] theorem State.setComp_bank1 {u x} {s : State} : (State.setComp u x s).bank1 = s.bank1 := rfl
@[simp] theorem State.setComp_health {u x} {s : State} : (State.setComp u x s).health = s.health := rfl
@[simp] theorem State.setComp_healthSetAt {u x} {s : State} : (State.setComp u x s).healthSetAt = s.healthSetAt := rfl
@[simp] theorem State.setComp_healthSet {u x} {s : State} : (State.setComp u x s).healthSet = s.healthSet := rfl
@[simp] theorem State.setComp_healthSeen {u x} {s : State} : (State.setComp u x s).healthSeen = s.healthSeen := rfl
@[simp] theorem State.setComp_clearQ {u x} {s : State} : (State.setComp u x s).clearQ = s.clearQ := rfl
@[simp] theorem State.setComp_layers {u x} {s : State} : (State.setComp u x s).layers = s.layers := rfl
@[simp] theorem State.setComp_calib {u x} {s : State} : (State.setComp u x s).calib = s.calib := rfl
@[simp] theorem State.setComp_surf {u x} {s : State} : (State.setComp u x s).surf = s.surf := rfl
@[simp] theorem State.setComp_skein {u x} {s : State} : (State.setComp u x s).skein = s.skein := rfl
@[simp] theorem State.setComp_arr {u x} {s : State} : (State.setComp u x s).arr = s.arr := rfl
@[simp] theorem State.setComp_ret {u x} {s : State} : (State.setComp u x s).ret = s.ret := rfl
@[simp] theorem State.setComp_areq {u x} {s : State} : (State.setComp u x s).areq = s.areq := rfl
@[simp] theorem State.setComp_lane {u x} {s : State} : (State.setComp u x s).lane = s.lane := rfl
@[simp] theorem State.setComp_stream {u x} {s : State} : (State.setComp u x s).stream = s.stream := rfl
@[simp] theorem State.setComp_intake {u x} {s : State} : (State.setComp u x s).intake = s.intake := rfl
@[simp] theorem State.setComp_layer {u x} {s : State} : (State.setComp u x s).layer = s.layer := rfl
@[simp] theorem State.setComp_comp {u x} {s : State} : (State.setComp u x s).comp = s.comp.set u x := rfl
@[simp] theorem State.setComp_fab {u x} {s : State} : (State.setComp u x s).fab = s.fab := rfl
@[simp] theorem State.setComp_corr {u x} {s : State} : (State.setComp u x s).corr = s.corr := rfl
@[simp] theorem State.setComp_shade {u x} {s : State} : (State.setComp u x s).shade = s.shade := rfl
@[simp] theorem State.setComp_tb {u x} {s : State} : (State.setComp u x s).tb = s.tb := rfl
@[simp] theorem State.setComp_cmt {u x} {s : State} : (State.setComp u x s).cmt = s.cmt := rfl
@[simp] theorem State.setComp_dma {u x} {s : State} : (State.setComp u x s).dma = s.dma := rfl
@[simp] theorem State.setComp_pwr {u x} {s : State} : (State.setComp u x s).pwr = s.pwr := rfl
@[simp] theorem State.setComp_thm {u x} {s : State} : (State.setComp u x s).thm = s.thm := rfl
@[simp] theorem State.setComp_tile {u x} {s : State} : (State.setComp u x s).tile = s.tile := rfl
@[simp] theorem State.setComp_flt {u x} {s : State} : (State.setComp u x s).flt = s.flt := rfl
@[simp] theorem State.setComp_glade {u x} {s : State} : (State.setComp u x s).glade = s.glade := rfl
@[simp] theorem State.setComp_fst {u x} {s : State} : (State.setComp u x s).fst = s.fst := rfl
@[simp] theorem State.setComp_log {u x} {s : State} : (State.setComp u x s).log = s.log := rfl
@[simp] theorem State.setComp_sec {u x} {s : State} : (State.setComp u x s).sec = s.sec := rfl
@[simp] theorem State.setComp_out {u x} {s : State} : (State.setComp u x s).out = s.out := rfl
@[simp] theorem State.setComp_pending {u x} {s : State} : (State.setComp u x s).pending = s.pending := rfl

@[simp] theorem State.setShade_now {u x} {s : State} : (State.setShade u x s).now = s.now := rfl
@[simp] theorem State.setShade_free {u x} {s : State} : (State.setShade u x s).free = s.free := rfl
@[simp] theorem State.setShade_sample {u x} {s : State} : (State.setShade u x s).sample = s.sample := rfl
@[simp] theorem State.setShade_regs {u x} {s : State} : (State.setShade u x s).regs = s.regs := rfl
@[simp] theorem State.setShade_live {u x} {s : State} : (State.setShade u x s).live = s.live := rfl
@[simp] theorem State.setShade_hi {u x} {s : State} : (State.setShade u x s).hi = s.hi := rfl
@[simp] theorem State.setShade_top {u x} {s : State} : (State.setShade u x s).top = s.top := rfl
@[simp] theorem State.setShade_clk {u x} {s : State} : (State.setShade u x s).clk = s.clk := rfl
@[simp] theorem State.setShade_host {u x} {s : State} : (State.setShade u x s).host = s.host := rfl
@[simp] theorem State.setShade_bank0 {u x} {s : State} : (State.setShade u x s).bank0 = s.bank0 := rfl
@[simp] theorem State.setShade_bank1 {u x} {s : State} : (State.setShade u x s).bank1 = s.bank1 := rfl
@[simp] theorem State.setShade_health {u x} {s : State} : (State.setShade u x s).health = s.health := rfl
@[simp] theorem State.setShade_healthSetAt {u x} {s : State} : (State.setShade u x s).healthSetAt =
  s.healthSetAt := rfl
@[simp] theorem State.setShade_healthSet {u x} {s : State} : (State.setShade u x s).healthSet = s.healthSet := rfl
@[simp] theorem State.setShade_healthSeen {u x} {s : State} : (State.setShade u x s).healthSeen = s.healthSeen := rfl
@[simp] theorem State.setShade_clearQ {u x} {s : State} : (State.setShade u x s).clearQ = s.clearQ := rfl
@[simp] theorem State.setShade_layers {u x} {s : State} : (State.setShade u x s).layers = s.layers := rfl
@[simp] theorem State.setShade_calib {u x} {s : State} : (State.setShade u x s).calib = s.calib := rfl
@[simp] theorem State.setShade_surf {u x} {s : State} : (State.setShade u x s).surf = s.surf := rfl
@[simp] theorem State.setShade_skein {u x} {s : State} : (State.setShade u x s).skein = s.skein := rfl
@[simp] theorem State.setShade_arr {u x} {s : State} : (State.setShade u x s).arr = s.arr := rfl
@[simp] theorem State.setShade_ret {u x} {s : State} : (State.setShade u x s).ret = s.ret := rfl
@[simp] theorem State.setShade_areq {u x} {s : State} : (State.setShade u x s).areq = s.areq := rfl
@[simp] theorem State.setShade_lane {u x} {s : State} : (State.setShade u x s).lane = s.lane := rfl
@[simp] theorem State.setShade_stream {u x} {s : State} : (State.setShade u x s).stream = s.stream := rfl
@[simp] theorem State.setShade_intake {u x} {s : State} : (State.setShade u x s).intake = s.intake := rfl
@[simp] theorem State.setShade_layer {u x} {s : State} : (State.setShade u x s).layer = s.layer := rfl
@[simp] theorem State.setShade_comp {u x} {s : State} : (State.setShade u x s).comp = s.comp := rfl
@[simp] theorem State.setShade_fab {u x} {s : State} : (State.setShade u x s).fab = s.fab := rfl
@[simp] theorem State.setShade_corr {u x} {s : State} : (State.setShade u x s).corr = s.corr := rfl
@[simp] theorem State.setShade_tb {u x} {s : State} : (State.setShade u x s).tb = s.tb := rfl
@[simp] theorem State.setShade_cmt {u x} {s : State} : (State.setShade u x s).cmt = s.cmt := rfl
@[simp] theorem State.setShade_dma {u x} {s : State} : (State.setShade u x s).dma = s.dma := rfl
@[simp] theorem State.setShade_pwr {u x} {s : State} : (State.setShade u x s).pwr = s.pwr := rfl
@[simp] theorem State.setShade_thm {u x} {s : State} : (State.setShade u x s).thm = s.thm := rfl
@[simp] theorem State.setShade_tile {u x} {s : State} : (State.setShade u x s).tile = s.tile := rfl
@[simp] theorem State.setShade_flt {u x} {s : State} : (State.setShade u x s).flt = s.flt := rfl
@[simp] theorem State.setShade_glade {u x} {s : State} : (State.setShade u x s).glade = s.glade := rfl
@[simp] theorem State.setShade_fst {u x} {s : State} : (State.setShade u x s).fst = s.fst := rfl
@[simp] theorem State.setShade_log {u x} {s : State} : (State.setShade u x s).log = s.log := rfl
@[simp] theorem State.setShade_sec {u x} {s : State} : (State.setShade u x s).sec = s.sec := rfl
@[simp] theorem State.setShade_out {u x} {s : State} : (State.setShade u x s).out = s.out := rfl
@[simp] theorem State.setShade_pending {u x} {s : State} : (State.setShade u x s).pending = s.pending := rfl

@[simp] theorem State.setStream_now {st x} {s : State} : (State.setStream st x s).now = s.now := rfl
@[simp] theorem State.setStream_free {st x} {s : State} : (State.setStream st x s).free = s.free := rfl
@[simp] theorem State.setStream_sample {st x} {s : State} : (State.setStream st x s).sample = s.sample := rfl
@[simp] theorem State.setStream_regs {st x} {s : State} : (State.setStream st x s).regs = s.regs := rfl
@[simp] theorem State.setStream_live {st x} {s : State} : (State.setStream st x s).live = s.live := rfl
@[simp] theorem State.setStream_hi {st x} {s : State} : (State.setStream st x s).hi = s.hi := rfl
@[simp] theorem State.setStream_top {st x} {s : State} : (State.setStream st x s).top = s.top := rfl
@[simp] theorem State.setStream_clk {st x} {s : State} : (State.setStream st x s).clk = s.clk := rfl
@[simp] theorem State.setStream_host {st x} {s : State} : (State.setStream st x s).host = s.host := rfl
@[simp] theorem State.setStream_bank0 {st x} {s : State} : (State.setStream st x s).bank0 = s.bank0 := rfl
@[simp] theorem State.setStream_bank1 {st x} {s : State} : (State.setStream st x s).bank1 = s.bank1 := rfl
@[simp] theorem State.setStream_health {st x} {s : State} : (State.setStream st x s).health = s.health := rfl
@[simp] theorem State.setStream_healthSetAt {st x} {s : State} : (State.setStream st x s).healthSetAt =
  s.healthSetAt := rfl
@[simp] theorem State.setStream_healthSet {st x} {s : State} : (State.setStream st x s).healthSet = s.healthSet := rfl
@[simp] theorem State.setStream_healthSeen {st x} {s : State} : (State.setStream st x s).healthSeen =
  s.healthSeen := rfl
@[simp] theorem State.setStream_clearQ {st x} {s : State} : (State.setStream st x s).clearQ = s.clearQ := rfl
@[simp] theorem State.setStream_layers {st x} {s : State} : (State.setStream st x s).layers = s.layers := rfl
@[simp] theorem State.setStream_calib {st x} {s : State} : (State.setStream st x s).calib = s.calib := rfl
@[simp] theorem State.setStream_surf {st x} {s : State} : (State.setStream st x s).surf = s.surf := rfl
@[simp] theorem State.setStream_skein {st x} {s : State} : (State.setStream st x s).skein = s.skein := rfl
@[simp] theorem State.setStream_arr {st x} {s : State} : (State.setStream st x s).arr = s.arr := rfl
@[simp] theorem State.setStream_ret {st x} {s : State} : (State.setStream st x s).ret = s.ret := rfl
@[simp] theorem State.setStream_areq {st x} {s : State} : (State.setStream st x s).areq = s.areq := rfl
@[simp] theorem State.setStream_lane {st x} {s : State} : (State.setStream st x s).lane = s.lane := rfl
@[simp] theorem State.setStream_stream {st x} {s : State} : (State.setStream st x s).stream = s.stream := rfl
@[simp] theorem State.setStream_layer {st x} {s : State} : (State.setStream st x s).layer = s.layer := rfl
@[simp] theorem State.setStream_comp {st x} {s : State} : (State.setStream st x s).comp = s.comp := rfl
@[simp] theorem State.setStream_fab {st x} {s : State} : (State.setStream st x s).fab = s.fab := rfl
@[simp] theorem State.setStream_corr {st x} {s : State} : (State.setStream st x s).corr = s.corr := rfl
@[simp] theorem State.setStream_shade {st x} {s : State} : (State.setStream st x s).shade = s.shade := rfl
@[simp] theorem State.setStream_tb {st x} {s : State} : (State.setStream st x s).tb = s.tb := rfl
@[simp] theorem State.setStream_cmt {st x} {s : State} : (State.setStream st x s).cmt = s.cmt := rfl
@[simp] theorem State.setStream_dma {st x} {s : State} : (State.setStream st x s).dma = s.dma := rfl
@[simp] theorem State.setStream_pwr {st x} {s : State} : (State.setStream st x s).pwr = s.pwr := rfl
@[simp] theorem State.setStream_thm {st x} {s : State} : (State.setStream st x s).thm = s.thm := rfl
@[simp] theorem State.setStream_tile {st x} {s : State} : (State.setStream st x s).tile = s.tile := rfl
@[simp] theorem State.setStream_flt {st x} {s : State} : (State.setStream st x s).flt = s.flt := rfl
@[simp] theorem State.setStream_glade {st x} {s : State} : (State.setStream st x s).glade = s.glade := rfl
@[simp] theorem State.setStream_fst {st x} {s : State} : (State.setStream st x s).fst = s.fst := rfl
@[simp] theorem State.setStream_log {st x} {s : State} : (State.setStream st x s).log = s.log := rfl
@[simp] theorem State.setStream_sec {st x} {s : State} : (State.setStream st x s).sec = s.sec := rfl
@[simp] theorem State.setStream_out {st x} {s : State} : (State.setStream st x s).out = s.out := rfl
@[simp] theorem State.setStream_pending {st x} {s : State} : (State.setStream st x s).pending = s.pending := rfl

@[simp] theorem State.setIntake_now {l x} {s : State} : (State.setIntake l x s).now = s.now := rfl
@[simp] theorem State.setIntake_free {l x} {s : State} : (State.setIntake l x s).free = s.free := rfl
@[simp] theorem State.setIntake_sample {l x} {s : State} : (State.setIntake l x s).sample = s.sample := rfl
@[simp] theorem State.setIntake_regs {l x} {s : State} : (State.setIntake l x s).regs = s.regs := rfl
@[simp] theorem State.setIntake_live {l x} {s : State} : (State.setIntake l x s).live = s.live := rfl
@[simp] theorem State.setIntake_hi {l x} {s : State} : (State.setIntake l x s).hi = s.hi := rfl
@[simp] theorem State.setIntake_top {l x} {s : State} : (State.setIntake l x s).top = s.top := rfl
@[simp] theorem State.setIntake_clk {l x} {s : State} : (State.setIntake l x s).clk = s.clk := rfl
@[simp] theorem State.setIntake_host {l x} {s : State} : (State.setIntake l x s).host = s.host := rfl
@[simp] theorem State.setIntake_bank0 {l x} {s : State} : (State.setIntake l x s).bank0 = s.bank0 := rfl
@[simp] theorem State.setIntake_bank1 {l x} {s : State} : (State.setIntake l x s).bank1 = s.bank1 := rfl
@[simp] theorem State.setIntake_health {l x} {s : State} : (State.setIntake l x s).health = s.health := rfl
@[simp] theorem State.setIntake_healthSetAt {l x} {s : State} : (State.setIntake l x s).healthSetAt =
  s.healthSetAt := rfl
@[simp] theorem State.setIntake_healthSet {l x} {s : State} : (State.setIntake l x s).healthSet = s.healthSet := rfl
@[simp] theorem State.setIntake_healthSeen {l x} {s : State} : (State.setIntake l x s).healthSeen =
  s.healthSeen := rfl
@[simp] theorem State.setIntake_clearQ {l x} {s : State} : (State.setIntake l x s).clearQ = s.clearQ := rfl
@[simp] theorem State.setIntake_layers {l x} {s : State} : (State.setIntake l x s).layers = s.layers := rfl
@[simp] theorem State.setIntake_calib {l x} {s : State} : (State.setIntake l x s).calib = s.calib := rfl
@[simp] theorem State.setIntake_surf {l x} {s : State} : (State.setIntake l x s).surf = s.surf := rfl
@[simp] theorem State.setIntake_skein {l x} {s : State} : (State.setIntake l x s).skein = s.skein := rfl
@[simp] theorem State.setIntake_arr {l x} {s : State} : (State.setIntake l x s).arr = s.arr := rfl
@[simp] theorem State.setIntake_ret {l x} {s : State} : (State.setIntake l x s).ret = s.ret := rfl
@[simp] theorem State.setIntake_areq {l x} {s : State} : (State.setIntake l x s).areq = s.areq := rfl
@[simp] theorem State.setIntake_lane {l x} {s : State} : (State.setIntake l x s).lane = s.lane := rfl
@[simp] theorem State.setIntake_stream {l x} {s : State} : (State.setIntake l x s).stream = s.stream := rfl
@[simp] theorem State.setIntake_layer {l x} {s : State} : (State.setIntake l x s).layer = s.layer := rfl
@[simp] theorem State.setIntake_comp {l x} {s : State} : (State.setIntake l x s).comp = s.comp := rfl
@[simp] theorem State.setIntake_fab {l x} {s : State} : (State.setIntake l x s).fab = s.fab := rfl
@[simp] theorem State.setIntake_corr {l x} {s : State} : (State.setIntake l x s).corr = s.corr := rfl
@[simp] theorem State.setIntake_shade {l x} {s : State} : (State.setIntake l x s).shade = s.shade := rfl
@[simp] theorem State.setIntake_tb {l x} {s : State} : (State.setIntake l x s).tb = s.tb := rfl
@[simp] theorem State.setIntake_cmt {l x} {s : State} : (State.setIntake l x s).cmt = s.cmt := rfl
@[simp] theorem State.setIntake_dma {l x} {s : State} : (State.setIntake l x s).dma = s.dma := rfl
@[simp] theorem State.setIntake_pwr {l x} {s : State} : (State.setIntake l x s).pwr = s.pwr := rfl
@[simp] theorem State.setIntake_thm {l x} {s : State} : (State.setIntake l x s).thm = s.thm := rfl
@[simp] theorem State.setIntake_tile {l x} {s : State} : (State.setIntake l x s).tile = s.tile := rfl
@[simp] theorem State.setIntake_flt {l x} {s : State} : (State.setIntake l x s).flt = s.flt := rfl
@[simp] theorem State.setIntake_glade {l x} {s : State} : (State.setIntake l x s).glade = s.glade := rfl
@[simp] theorem State.setIntake_fst {l x} {s : State} : (State.setIntake l x s).fst = s.fst := rfl
@[simp] theorem State.setIntake_log {l x} {s : State} : (State.setIntake l x s).log = s.log := rfl
@[simp] theorem State.setIntake_sec {l x} {s : State} : (State.setIntake l x s).sec = s.sec := rfl
@[simp] theorem State.setIntake_out {l x} {s : State} : (State.setIntake l x s).out = s.out := rfl
@[simp] theorem State.setIntake_pending {l x} {s : State} : (State.setIntake l x s).pending = s.pending := rfl

@[simp] theorem State.report_now {l} {s : State} : (State.report l s).now = s.now := rfl
@[simp] theorem State.report_free {l} {s : State} : (State.report l s).free = s.free := rfl
@[simp] theorem State.report_sample {l} {s : State} : (State.report l s).sample =
  l.foldl (Note.onSample (s.now / tick)) s.sample := rfl
@[simp] theorem State.report_regs {l} {s : State} : (State.report l s).regs = l.foldl Note.onRegs s.regs := rfl
@[simp] theorem State.report_live {l} {s : State} : (State.report l s).live = l.foldl Note.onLive s.live := rfl
@[simp] theorem State.report_hi {l} {s : State} : (State.report l s).hi = s.hi := rfl
@[simp] theorem State.report_top {l} {s : State} : (State.report l s).top = s.top := rfl
@[simp] theorem State.report_clk {l} {s : State} : (State.report l s).clk = s.clk := rfl
@[simp] theorem State.report_host {l} {s : State} : (State.report l s).host = s.host := rfl
@[simp] theorem State.report_bank0 {l} {s : State} : (State.report l s).bank0 = s.bank0 := rfl
@[simp] theorem State.report_bank1 {l} {s : State} : (State.report l s).bank1 = s.bank1 := rfl
@[simp] theorem State.report_health {l} {s : State} : (State.report l s).health = s.health := rfl
@[simp] theorem State.report_healthSetAt {l} {s : State} : (State.report l s).healthSetAt = s.healthSetAt := rfl
@[simp] theorem State.report_healthSet {l} {s : State} : (State.report l s).healthSet = s.healthSet := rfl
@[simp] theorem State.report_healthSeen {l} {s : State} : (State.report l s).healthSeen = s.healthSeen := rfl
@[simp] theorem State.report_clearQ {l} {s : State} : (State.report l s).clearQ = s.clearQ := rfl
@[simp] theorem State.report_layers {l} {s : State} : (State.report l s).layers = s.layers := rfl
@[simp] theorem State.report_calib {l} {s : State} : (State.report l s).calib = s.calib := rfl
@[simp] theorem State.report_surf {l} {s : State} : (State.report l s).surf = s.surf := rfl
@[simp] theorem State.report_skein {l} {s : State} : (State.report l s).skein = s.skein := rfl
@[simp] theorem State.report_arr {l} {s : State} : (State.report l s).arr = s.arr := rfl
@[simp] theorem State.report_ret {l} {s : State} : (State.report l s).ret = s.ret := rfl
@[simp] theorem State.report_areq {l} {s : State} : (State.report l s).areq = s.areq := rfl
@[simp] theorem State.report_lane {l} {s : State} : (State.report l s).lane = s.lane := rfl
@[simp] theorem State.report_stream {l} {s : State} : (State.report l s).stream = s.stream := rfl
@[simp] theorem State.report_intake {l} {s : State} : (State.report l s).intake = s.intake := rfl
@[simp] theorem State.report_layer {l} {s : State} : (State.report l s).layer = s.layer := rfl
@[simp] theorem State.report_comp {l} {s : State} : (State.report l s).comp = s.comp := rfl
@[simp] theorem State.report_fab {l} {s : State} : (State.report l s).fab = s.fab := rfl
@[simp] theorem State.report_corr {l} {s : State} : (State.report l s).corr = s.corr := rfl
@[simp] theorem State.report_shade {l} {s : State} : (State.report l s).shade = s.shade := rfl
@[simp] theorem State.report_tb {l} {s : State} : (State.report l s).tb = s.tb := rfl
@[simp] theorem State.report_cmt {l} {s : State} : (State.report l s).cmt = s.cmt := rfl
@[simp] theorem State.report_dma {l} {s : State} : (State.report l s).dma = s.dma := rfl
@[simp] theorem State.report_pwr {l} {s : State} : (State.report l s).pwr = s.pwr := rfl
@[simp] theorem State.report_thm {l} {s : State} : (State.report l s).thm = s.thm := rfl
@[simp] theorem State.report_tile {l} {s : State} : (State.report l s).tile = s.tile := rfl
@[simp] theorem State.report_flt {l} {s : State} : (State.report l s).flt =
  { s.flt with raised := s.flt.raised ++ l.filterMap Note.src } := rfl
@[simp] theorem State.report_glade {l} {s : State} : (State.report l s).glade = s.glade := rfl
@[simp] theorem State.report_fst {l} {s : State} : (State.report l s).fst = s.fst := rfl
@[simp] theorem State.report_log {l} {s : State} : (State.report l s).log = s.log := rfl
@[simp] theorem State.report_sec {l} {s : State} : (State.report l s).sec = s.sec := rfl
@[simp] theorem State.report_out {l} {s : State} : (State.report l s).out =
  (l.filterMap Note.sent).reverse ++ s.out := rfl
@[simp] theorem State.report_pending {l} {s : State} : (State.report l s).pending = s.pending := rfl

@[simp] theorem State.hit_now {a m} {s : State} : (State.hit a m s).now = s.now := rfl
@[simp] theorem State.hit_free {a m} {s : State} : (State.hit a m s).free = s.free := rfl
@[simp] theorem State.hit_sample {a m} {s : State} : (State.hit a m s).sample = s.sample.put (s.now / tick) a m := rfl
@[simp] theorem State.hit_regs {a m} {s : State} : (State.hit a m s).regs = s.regs := rfl
@[simp] theorem State.hit_live {a m} {s : State} : (State.hit a m s).live = s.live := rfl
@[simp] theorem State.hit_hi {a m} {s : State} : (State.hit a m s).hi = s.hi := rfl
@[simp] theorem State.hit_top {a m} {s : State} : (State.hit a m s).top = s.top := rfl
@[simp] theorem State.hit_clk {a m} {s : State} : (State.hit a m s).clk = s.clk := rfl
@[simp] theorem State.hit_host {a m} {s : State} : (State.hit a m s).host = s.host := rfl
@[simp] theorem State.hit_bank0 {a m} {s : State} : (State.hit a m s).bank0 = s.bank0 := rfl
@[simp] theorem State.hit_bank1 {a m} {s : State} : (State.hit a m s).bank1 = s.bank1 := rfl
@[simp] theorem State.hit_health {a m} {s : State} : (State.hit a m s).health = s.health := rfl
@[simp] theorem State.hit_healthSetAt {a m} {s : State} : (State.hit a m s).healthSetAt = s.healthSetAt := rfl
@[simp] theorem State.hit_healthSet {a m} {s : State} : (State.hit a m s).healthSet = s.healthSet := rfl
@[simp] theorem State.hit_healthSeen {a m} {s : State} : (State.hit a m s).healthSeen = s.healthSeen := rfl
@[simp] theorem State.hit_clearQ {a m} {s : State} : (State.hit a m s).clearQ = s.clearQ := rfl
@[simp] theorem State.hit_layers {a m} {s : State} : (State.hit a m s).layers = s.layers := rfl
@[simp] theorem State.hit_calib {a m} {s : State} : (State.hit a m s).calib = s.calib := rfl
@[simp] theorem State.hit_surf {a m} {s : State} : (State.hit a m s).surf = s.surf := rfl
@[simp] theorem State.hit_skein {a m} {s : State} : (State.hit a m s).skein = s.skein := rfl
@[simp] theorem State.hit_arr {a m} {s : State} : (State.hit a m s).arr = s.arr := rfl
@[simp] theorem State.hit_ret {a m} {s : State} : (State.hit a m s).ret = s.ret := rfl
@[simp] theorem State.hit_areq {a m} {s : State} : (State.hit a m s).areq = s.areq := rfl
@[simp] theorem State.hit_lane {a m} {s : State} : (State.hit a m s).lane = s.lane := rfl
@[simp] theorem State.hit_stream {a m} {s : State} : (State.hit a m s).stream = s.stream := rfl
@[simp] theorem State.hit_intake {a m} {s : State} : (State.hit a m s).intake = s.intake := rfl
@[simp] theorem State.hit_layer {a m} {s : State} : (State.hit a m s).layer = s.layer := rfl
@[simp] theorem State.hit_comp {a m} {s : State} : (State.hit a m s).comp = s.comp := rfl
@[simp] theorem State.hit_fab {a m} {s : State} : (State.hit a m s).fab = s.fab := rfl
@[simp] theorem State.hit_corr {a m} {s : State} : (State.hit a m s).corr = s.corr := rfl
@[simp] theorem State.hit_shade {a m} {s : State} : (State.hit a m s).shade = s.shade := rfl
@[simp] theorem State.hit_tb {a m} {s : State} : (State.hit a m s).tb = s.tb := rfl
@[simp] theorem State.hit_cmt {a m} {s : State} : (State.hit a m s).cmt = s.cmt := rfl
@[simp] theorem State.hit_dma {a m} {s : State} : (State.hit a m s).dma = s.dma := rfl
@[simp] theorem State.hit_pwr {a m} {s : State} : (State.hit a m s).pwr = s.pwr := rfl
@[simp] theorem State.hit_thm {a m} {s : State} : (State.hit a m s).thm = s.thm := rfl
@[simp] theorem State.hit_tile {a m} {s : State} : (State.hit a m s).tile = s.tile := rfl
@[simp] theorem State.hit_flt {a m} {s : State} : (State.hit a m s).flt = s.flt := rfl
@[simp] theorem State.hit_glade {a m} {s : State} : (State.hit a m s).glade = s.glade := rfl
@[simp] theorem State.hit_fst {a m} {s : State} : (State.hit a m s).fst = s.fst := rfl
@[simp] theorem State.hit_log {a m} {s : State} : (State.hit a m s).log = s.log := rfl
@[simp] theorem State.hit_sec {a m} {s : State} : (State.hit a m s).sec = s.sec := rfl
@[simp] theorem State.hit_out {a m} {s : State} : (State.hit a m s).out = s.out := rfl
@[simp] theorem State.hit_pending {a m} {s : State} : (State.hit a m s).pending = s.pending := rfl

@[simp] theorem State.keepAs_now {a v} {s : State} : (State.keepAs a v s).now = s.now := rfl
@[simp] theorem State.keepAs_free {a v} {s : State} : (State.keepAs a v s).free = s.free := rfl
@[simp] theorem State.keepAs_regs {a v} {s : State} : (State.keepAs a v s).regs = s.regs := rfl
@[simp] theorem State.keepAs_live {a v} {s : State} : (State.keepAs a v s).live = s.live := rfl
@[simp] theorem State.keepAs_hi {a v} {s : State} : (State.keepAs a v s).hi = s.hi := rfl
@[simp] theorem State.keepAs_top {a v} {s : State} : (State.keepAs a v s).top = s.top := rfl
@[simp] theorem State.keepAs_clk {a v} {s : State} : (State.keepAs a v s).clk = s.clk := rfl
@[simp] theorem State.keepAs_host {a v} {s : State} : (State.keepAs a v s).host = s.host := rfl
@[simp] theorem State.keepAs_bank0 {a v} {s : State} : (State.keepAs a v s).bank0 = s.bank0 := rfl
@[simp] theorem State.keepAs_bank1 {a v} {s : State} : (State.keepAs a v s).bank1 = s.bank1 := rfl
@[simp] theorem State.keepAs_health {a v} {s : State} : (State.keepAs a v s).health = s.health := rfl
@[simp] theorem State.keepAs_healthSetAt {a v} {s : State} : (State.keepAs a v s).healthSetAt = s.healthSetAt := rfl
@[simp] theorem State.keepAs_healthSet {a v} {s : State} : (State.keepAs a v s).healthSet = s.healthSet := rfl
@[simp] theorem State.keepAs_healthSeen {a v} {s : State} : (State.keepAs a v s).healthSeen = s.healthSeen := rfl
@[simp] theorem State.keepAs_clearQ {a v} {s : State} : (State.keepAs a v s).clearQ = s.clearQ := rfl
@[simp] theorem State.keepAs_layers {a v} {s : State} : (State.keepAs a v s).layers = s.layers := rfl
@[simp] theorem State.keepAs_calib {a v} {s : State} : (State.keepAs a v s).calib = s.calib := rfl
@[simp] theorem State.keepAs_surf {a v} {s : State} : (State.keepAs a v s).surf = s.surf := rfl
@[simp] theorem State.keepAs_skein {a v} {s : State} : (State.keepAs a v s).skein = s.skein := rfl
@[simp] theorem State.keepAs_arr {a v} {s : State} : (State.keepAs a v s).arr = s.arr := rfl
@[simp] theorem State.keepAs_ret {a v} {s : State} : (State.keepAs a v s).ret = s.ret := rfl
@[simp] theorem State.keepAs_areq {a v} {s : State} : (State.keepAs a v s).areq = s.areq := rfl
@[simp] theorem State.keepAs_lane {a v} {s : State} : (State.keepAs a v s).lane = s.lane := rfl
@[simp] theorem State.keepAs_stream {a v} {s : State} : (State.keepAs a v s).stream = s.stream := rfl
@[simp] theorem State.keepAs_intake {a v} {s : State} : (State.keepAs a v s).intake = s.intake := rfl
@[simp] theorem State.keepAs_layer {a v} {s : State} : (State.keepAs a v s).layer = s.layer := rfl
@[simp] theorem State.keepAs_comp {a v} {s : State} : (State.keepAs a v s).comp = s.comp := rfl
@[simp] theorem State.keepAs_fab {a v} {s : State} : (State.keepAs a v s).fab = s.fab := rfl
@[simp] theorem State.keepAs_corr {a v} {s : State} : (State.keepAs a v s).corr = s.corr := rfl
@[simp] theorem State.keepAs_shade {a v} {s : State} : (State.keepAs a v s).shade = s.shade := rfl
@[simp] theorem State.keepAs_tb {a v} {s : State} : (State.keepAs a v s).tb = s.tb := rfl
@[simp] theorem State.keepAs_cmt {a v} {s : State} : (State.keepAs a v s).cmt = s.cmt := rfl
@[simp] theorem State.keepAs_dma {a v} {s : State} : (State.keepAs a v s).dma = s.dma := rfl
@[simp] theorem State.keepAs_pwr {a v} {s : State} : (State.keepAs a v s).pwr = s.pwr := rfl
@[simp] theorem State.keepAs_thm {a v} {s : State} : (State.keepAs a v s).thm = s.thm := rfl
@[simp] theorem State.keepAs_tile {a v} {s : State} : (State.keepAs a v s).tile = s.tile := rfl
@[simp] theorem State.keepAs_flt {a v} {s : State} : (State.keepAs a v s).flt = s.flt := rfl
@[simp] theorem State.keepAs_glade {a v} {s : State} : (State.keepAs a v s).glade = s.glade := rfl
@[simp] theorem State.keepAs_fst {a v} {s : State} : (State.keepAs a v s).fst = s.fst := rfl
@[simp] theorem State.keepAs_log {a v} {s : State} : (State.keepAs a v s).log = s.log := rfl
@[simp] theorem State.keepAs_sec {a v} {s : State} : (State.keepAs a v s).sec = s.sec := rfl
@[simp] theorem State.keepAs_out {a v} {s : State} : (State.keepAs a v s).out = s.out := rfl
@[simp] theorem State.keepAs_pending {a v} {s : State} : (State.keepAs a v s).pending = s.pending := rfl

@[simp] theorem State.setRom_now {x} {s : State} : (State.setRom x s).now = s.now := rfl
@[simp] theorem State.setRom_free {x} {s : State} : (State.setRom x s).free = s.free := rfl
@[simp] theorem State.setRom_sample {x} {s : State} : (State.setRom x s).sample = s.sample := rfl
@[simp] theorem State.setRom_regs {x} {s : State} : (State.setRom x s).regs = s.regs := rfl
@[simp] theorem State.setRom_live {x} {s : State} : (State.setRom x s).live = s.live := rfl
@[simp] theorem State.setRom_hi {x} {s : State} : (State.setRom x s).hi = s.hi := rfl
@[simp] theorem State.setRom_top {x} {s : State} : (State.setRom x s).top = s.top := rfl
@[simp] theorem State.setRom_clk {x} {s : State} : (State.setRom x s).clk = s.clk := rfl
@[simp] theorem State.setRom_host {x} {s : State} : (State.setRom x s).host = s.host := rfl
@[simp] theorem State.setRom_bank0 {x} {s : State} : (State.setRom x s).bank0 = s.bank0 := rfl
@[simp] theorem State.setRom_bank1 {x} {s : State} : (State.setRom x s).bank1 = s.bank1 := rfl
@[simp] theorem State.setRom_health {x} {s : State} : (State.setRom x s).health = s.health := rfl
@[simp] theorem State.setRom_healthSetAt {x} {s : State} : (State.setRom x s).healthSetAt = s.healthSetAt := rfl
@[simp] theorem State.setRom_healthSet {x} {s : State} : (State.setRom x s).healthSet = s.healthSet := rfl
@[simp] theorem State.setRom_healthSeen {x} {s : State} : (State.setRom x s).healthSeen = s.healthSeen := rfl
@[simp] theorem State.setRom_clearQ {x} {s : State} : (State.setRom x s).clearQ = s.clearQ := rfl
@[simp] theorem State.setRom_layers {x} {s : State} : (State.setRom x s).layers = s.layers := rfl
@[simp] theorem State.setRom_calib {x} {s : State} : (State.setRom x s).calib = s.calib := rfl
@[simp] theorem State.setRom_surf {x} {s : State} : (State.setRom x s).surf = s.surf := rfl
@[simp] theorem State.setRom_skein {x} {s : State} : (State.setRom x s).skein = s.skein := rfl
@[simp] theorem State.setRom_arr {x} {s : State} : (State.setRom x s).arr = s.arr := rfl
@[simp] theorem State.setRom_ret {x} {s : State} : (State.setRom x s).ret = s.ret := rfl
@[simp] theorem State.setRom_areq {x} {s : State} : (State.setRom x s).areq = s.areq := rfl
@[simp] theorem State.setRom_lane {x} {s : State} : (State.setRom x s).lane = s.lane := rfl
@[simp] theorem State.setRom_stream {x} {s : State} : (State.setRom x s).stream = s.stream := rfl
@[simp] theorem State.setRom_intake {x} {s : State} : (State.setRom x s).intake = s.intake := rfl
@[simp] theorem State.setRom_layer {x} {s : State} : (State.setRom x s).layer = s.layer := rfl
@[simp] theorem State.setRom_comp {x} {s : State} : (State.setRom x s).comp = s.comp := rfl
@[simp] theorem State.setRom_fab {x} {s : State} : (State.setRom x s).fab = s.fab := rfl
@[simp] theorem State.setRom_corr {x} {s : State} : (State.setRom x s).corr = s.corr := rfl
@[simp] theorem State.setRom_shade {x} {s : State} : (State.setRom x s).shade = s.shade := rfl
@[simp] theorem State.setRom_tb {x} {s : State} : (State.setRom x s).tb = s.tb := rfl
@[simp] theorem State.setRom_cmt {x} {s : State} : (State.setRom x s).cmt = s.cmt := rfl
@[simp] theorem State.setRom_dma {x} {s : State} : (State.setRom x s).dma = s.dma := rfl
@[simp] theorem State.setRom_pwr {x} {s : State} : (State.setRom x s).pwr = s.pwr := rfl
@[simp] theorem State.setRom_thm {x} {s : State} : (State.setRom x s).thm = s.thm := rfl
@[simp] theorem State.setRom_tile {x} {s : State} : (State.setRom x s).tile = s.tile := rfl
@[simp] theorem State.setRom_flt {x} {s : State} : (State.setRom x s).flt = s.flt := rfl
@[simp] theorem State.setRom_glade {x} {s : State} : (State.setRom x s).glade = s.glade := rfl
@[simp] theorem State.setRom_fst {x} {s : State} : (State.setRom x s).fst = { s.fst with rom := x } := rfl
@[simp] theorem State.setRom_log {x} {s : State} : (State.setRom x s).log = s.log := rfl
@[simp] theorem State.setRom_sec {x} {s : State} : (State.setRom x s).sec = s.sec := rfl
@[simp] theorem State.setRom_out {x} {s : State} : (State.setRom x s).out = s.out := rfl
@[simp] theorem State.setRom_pending {x} {s : State} : (State.setRom x s).pending = s.pending := rfl

end Sys2Proof.Machine
end

