-- ==== Sys2Proof/Laws/Regs.lean ====
section
/-! SUPPORT. What a register word reads after a write, and what the wrappers answer. -/

namespace Sys2Proof.Machine

open Sys2Proof

/-- The word written reads the value written, in a canonical register file. -/
theorem rget_rset_self {f : RegFile} {a : Nat} {v : Word} (h : smWf regReset f = true) : rget (rset a v f) a = v :=
  smGet_smSet_self h

/-- Every other word reads as before. -/
theorem rget_rset_ne {f : RegFile} {a b : Nat} {v : Word} (h : b ≠ a) : rget (rset a v f) b = rget f b :=
  smGet_smSet_ne h

/-- A word of a register file with a word written. -/
theorem rget_rset {f : RegFile} {a b : Nat} {v : Word} (h : smWf regReset f = true) :
    rget (rset a v f) b = if b = a then v else rget f b := by
  split
  · subst_vars; exact rget_rset_self h
  · exact rget_rset_ne (by assumption)

/-- A live count of live counts with one set. -/
theorem lget_lset {f : RegFile} {a b : Nat} {v : Word} (h : smWf (fun _ => (0 : Word)) f = true) :
    lget (lset a v f) b = if b = a then v else lget f b := by
  split
  · subst_vars; exact smGet_smSet_self h
  · exact smGet_smSet_ne (by assumption)

/-- No change of the register words. -/
theorem RegsOnly.refl {l : List Nat} {s : State} : RegsOnly l s s := fun _ _ => rfl

/-- The stamp of an instant leaves which parts are in reset. -/
@[simp] theorem State.stamp_coreOn {s : State} {t : Nat} : (s.stamp t).coreOn = s.coreOn := rfl

@[simp] theorem State.stamp_gladeOn {s : State} {t : Nat} : (s.stamp t).gladeOn = s.gladeOn := rfl

@[simp] theorem State.stamp_stalledTo {s : State} {t d : Nat} : (s.stamp t).stalledTo d = s.stalledTo d := rfl

/-- A word that this sample has not changed is as it was before the sample. -/
theorem State.before_eq {s : State} {a : Nat} (h : s.kept a = none) : s.before a = rget s.regs a := by
  simp [State.before, h]

/-- A command to a core that is out of reset acts at its instant. -/
theorem onCore_on {t : Nat} {s : State} {f : State → State} (h : s.coreOn = true) : onCore t s f = .next (f (s.stamp t)) := by
  simp [onCore, h]

/-- A command to a core that is held in reset only lets time pass. -/
theorem onCore_off {t : Nat} {s : State} {f : State → State} (h : s.coreOn = false) : onCore t s f = .next (s.stamp t) := by
  simp [onCore, h]

/-- A command to a Glade that is out of reset acts at its instant. -/
theorem onGlade_on {t : Nat} {s : State} {f : State → State} (h : s.gladeOn = true) :
    onGlade t s f = .next (f (s.stamp t)) := by
  simp [onGlade, h]

/-- A command to a Glade that is held in reset only lets time pass. -/
theorem onGlade_off {t : Nat} {s : State} {f : State → State} (h : s.gladeOn = false) : onGlade t s f = .next (s.stamp t) := by
  simp [onGlade, h]

/-- A change made when a condition holds. -/
theorem State.when_true {s : State} {c : Bool} {f : State → State} (h : c = true) : s.when c f = f s := by
  simp [State.when, h]

/-- No change when it does not. -/
theorem State.when_false {s : State} {c : Bool} {f : State → State} (h : c = false) : s.when c f = s := by
  simp [State.when, h]

/-- A write that reaches its register is performed. -/
theorem State.access_open {s : State} {req : Req} {page : Nat} {f : State → State}
    (h : s.stalledTo (pageDomain page) = false) (k : s.mayWrite req page = true) : s.access req page f = f s := by
  simp [State.access, h, k]

/-- A write that reaches its register at its instant is performed. -/
theorem State.Writable.access {s : State} {t : Nat} {req : Req} {page : Nat} {f : State → State} (h : s.Writable t req page) :
    (s.stamp t).access req page f = f (s.stamp t) := State.access_open h.2.1 h.2.2

end Sys2Proof.Machine
end

