-- ==== Sys2Proof/WellFormed.lean ====
section
/-! DEFINITION. Which commands are well formed: what the rules say the operands of an event or an access can be. A meaning
does not rest on it; it answers for every operand. -/

namespace Sys2Proof

/-- An access of one byte or more inside a BAR2 window (13 R476, R478). -/
def inWindow (size addr len : Nat) : Bool := decide (0 < len) && decide (addr + len ≤ size)

/-- Both parameter copies have their 512 bytes (17 R616). -/
def flashOk (x : FlashLoad) : Bool := decide (x.gprA.length = 512) && decide (x.gprB.length = 512)

/-- An upset names a word of its store (01 R20, 09 R326). -/
def upsetOk : Upset → Bool
  | .bank w _ => decide (w < 0x100000)
  | .health w _ => decide (w < 0x10000)
  | .calib w _ => decide (w < 0x100000)
  | .curve i => decide (i < 8 * 1025)
  | .derate _ => true
  | .fallback _ => true
  | .list => true

/-- A bundle carries an emitter of the stores, and at most 64 bits with four factors (01 R20; 08 R294, R298). -/
def bundleOk (x : Fin 8 × Bundle) : Bool := decide (x.2.emitter < 0x400000) && decide (x.2.fields.length ≤ 8)

/-- A lane buffer holds at most 256 blocks (08 R304). -/
def fillOk (fill : Nat) : Bool := decide (fill ≤ 256)

/-- A return lane brings a header, at most sixteen data blocks and an end (04 R164, R165). -/
def returned (l : List Block) : Bool := decide (1 ≤ l.length) && decide (l.length ≤ 18)

/-- As `returned`, of blocks of 66 bits. -/
def returned66 (l : List Block66) : Bool := decide (1 ≤ l.length) && decide (l.length ≤ 18)

/-- A packet has its header and what ended it (06 R233). -/
def packet (l : List Block) : Bool := decide (2 ≤ l.length)

/-- A dword of BAR0 or, above it, of Forester's local page (13 R474, 18 R665). -/
def registerAt (a : BitVec 21) : Bool := decide (a.toNat % 4 = 0) && decide (a.toNat < 0x101000)

/-- Arrivals of one sample: at least one (16 R561). -/
def arrivals (l : List (Fin 171)) : Bool := !l.isEmpty

/-- The whole bytes of a frame that began before it ended (17 R627, R628). -/
def frameBits (t began bits : Nat) (b : List Byte) : Bool := decide (began ≤ t) && decide (b.length = bits / 8)

/-- A word of the TCM (18 R637). -/
def tcmAt : TcmError → Bool
  | .single w => decide (w < 0x10000)
  | .double w => decide (w < 0x10000)

/-- Level 1 or 2, a signature and a key of 64 bytes (19 R684). -/
def responseOk (level : BitVec 2) (sig key : List Byte) : Bool :=
  (level == 1 || level == 2) && decide (sig.length = 64) && decide (key.length = 64)

/-- A command whose operands are what its rule says they can be. -/
def Instr.wf : Instr → Bool
  | .porstNRelease .. => true
  | .porstNAssert .. => true
  | .storeInitDone .. => true
  | .cryptoSelfTestDone .. => true
  | .coreUnderVoltage .. => true
  | .coreReset .. => true
  | .coreRelease .. => true
  | .gladePowerLoss .. => true
  | .gladeLoadEnd _ x => flashOk x
  | .timeBaseBoundary .. => true
  | .genlockEdge .. => true
  | .genlockMissing .. => true
  | .holdoverExpiry .. => true
  | .genlockOutPulseEnd .. => true
  | .surfaceFrameBoundary .. => true
  | .deratingMapWritten .. => true
  | .decisionInstant .. => true
  | .planeCutoff _ _ ups b => ups.all upsetOk && b.all bundleOk
  | .planeLoadStart .. => true
  | .planeShowInstant _ _ fill => fillOk fill
  | .tickRow .. => true
  | .fallbackSelectRise .. => true
  | .fallbackSelectFall .. => true
  | .splice _ _ _ b => b.all bundleOk
  | .bar2FrameStoreRead _ _ addr len => inWindow 0x1000000 addr len
  | .bar2FrameStoreWrite _ _ addr data => inWindow 0x1000000 addr data.length
  | .bar2HealthMapWrite _ _ addr data => inWindow 0x80000 addr data.length
  | .bar2LayerStoreWrite _ _ addr data => inWindow 0x800000 addr data.length
  | .bar2CalibrationWrite _ _ addr data => inWindow 0x800000 addr data.length
  | .bar2CalibrationRead _ _ addr len => inWindow 0x800000 addr len
  | .stHmSet .. => true
  | .stHmClr .. => true
  | .pollInterval .. => true
  | .missingPoll .. => true
  | .statusResponse _ _ l => returned l
  | .identityResponse _ _ l => returned l
  | .registerReadResponse _ _ l => returned l
  | .returnBlockDiscard _ _ l => returned66 l
  | .arrayRegWrite .. => true
  | .arrayRegRead .. => true
  | .lalertReceived .. => true
  | .outputDriverFault .. => true
  | .trainingBurstEnd .. => true
  | .retrainWaitExpiry .. => true
  | .holdConfirmTimeout .. => true
  | .holdIdleTimeout .. => true
  | .serviceStableTimer .. => true
  | .synthesiserLockLoss .. => true
  | .synthesiserRelock .. => true
  | .markerSlot .. => true
  | .retry .. => true
  | .skLoopWrite .. => true
  | .returnLaneLockLoss .. => true
  | .intakeLaneLockLoss .. => true
  | .frameStart .. => true
  | .linePacket _ _ l => packet l
  | .frameEnd .. => true
  | .sidePacket _ _ l => packet l
  | .plyBlockError .. => true
  | .sidePacketApertureRead .. => true
  | .composeOutputLine _ _ ups b => ups.all upsetOk && b.all bundleOk
  | .lineFetchIssue .. => true
  | .lineFetchComplete .. => true
  | .frameComplete .. => true
  | .segmentWatchdog .. => true
  | .fbInj .. => true
  | .fbMreq .. => true
  | .fbClr .. => true
  | .droopTrip .. => true
  | .droopRelease .. => true
  | .droopLong .. => true
  | .railSample .. => true
  | .monitorSelfCheck .. => true
  | .dieModelStep .. => true
  | .throttleStep .. => true
  | .orderlyWindowEnd .. => true
  | .trefStale .. => true
  | .arrayTempStale .. => true
  | .thmTref .. => true
  | .thmTjadd .. => true
  | .thmLim .. => true
  | .clockMonitorWindow .. => true
  | .crossingStall _ live far _ _ _ => live != far
  | .hostPortReset .. => true
  | .upstreamCompletion .. => true
  | .completionTimeout .. => true
  | .registerWrite _ _ a _ _ => registerAt a
  | .qspiRead _ _ n => decide (0 < n)
  | .qspiReadTimeout .. => true
  | .qspiWrite .. => true
  | .qspiStatus .. => true
  | .qspiIdent .. => true
  | .pgOwnerWrite .. => true
  | .ownLock .. => true
  | .pgIrqPendClear .. => true
  | .pgIrqForce .. => true
  | .pgFltForce .. => true
  | .hostVecArm .. => true
  | .msixMessage .. => true
  | .mbDoor .. => true
  | .mailboxTimeout .. => true
  | .fpMbDone .. => true
  | .fpMbEvt .. => true
  | .topCommit .. => true
  | .topPhaseWrite .. => true
  | .shutdownStart .. => true
  | .shutdownEnd .. => true
  | .dmaStart .. => true
  | .dmaStop .. => true
  | .dmaAbort .. => true
  | .dmaDoor .. => true
  | .dmaSwreq .. => true
  | .descriptorFetched .. => true
  | .dmaRequestTaken .. => true
  | .dmaBurstGrant .. => true
  | .dmaBurstEnd .. => true
  | .dmaBusError .. => true
  | .dmaWriteBackDone .. => true
  | .shMbpubGo .. => true
  | .mailboxCopyDone .. => true
  | .listTakeUp .. => true
  | .listLifeExpiry .. => true
  | .crTdataWrite .. => true
  | .crMlim .. => true
  | .faultArrival _ l => arrivals l
  | .episodeClose .. => true
  | .fcSrccls .. => true
  | .injectionKey .. => true
  | .injectionLock .. => true
  | .injectionTimeout .. => true
  | .fcChkinv .. => true
  | .heartbeatToggle .. => true
  | .classLineChange .. => true
  | .heartbeatTimeout .. => true
  | .classLineFault .. => true
  | .gladeCycle .. => true
  | .lineMaskExpiry .. => true
  | .rcClockWindow .. => true
  | .sysclkCheckWindow .. => true
  | .gladeSupplyFault .. => true
  | .readbackMismatch .. => true
  | .fallbackCrcCheck .. => true
  | .errHoldExpiry .. => true
  | .returnDwellExpiry .. => true
  | .sspiFrame t began bits b => frameBits t began bits b
  | .sspiStatus .. => true
  | .sspiRead .. => true
  | .sspiWrite .. => true
  | .resume .. => true
  | .clear .. => true
  | .injkey .. => true
  | .sspiWatchdog .. => true
  | .fpWdog .. => true
  | .firmwareWatchdogExpiry .. => true
  | .foresterReset .. => true
  | .swrst .. => true
  | .bootSelect .. => true
  | .tcmError _ e => tcmAt e
  | .foresterException .. => true
  | .spiNorCommand .. => true
  | .spiNorCommandDone _ d => decide (d.length ≤ 256)
  | .spiNorWipTimeout .. => true
  | .sensorSlotDue .. => true
  | .sensorTransferDone _ _ _ d => decide (d.length ≤ 4)
  | .sensorSclTimeout .. => true
  | .logAppendFirmware .. => true
  | .fpLogRd .. => true
  | .logExportRead .. => true
  | .verify .. => true
  | .load .. => true
  | .arbRaise .. => true
  | .otpProg .. => true
  | .cfgSet .. => true
  | .secCommandEnd .. => true
  | .secChal .. => true
  | .secResp _ l _ sig key => responseOk l sig key
  | .challengeExpiry .. => true
  | .intakeLaneLockGain .. => true
  | .intakeIdleTimeExpiry .. => true
  | .returnLaneLockGain .. => true
  | .prbsLock .. => true
  | .linkUp .. => true
  | .configurationWrite .. => true
  | .counterLowWordRead _ _ a => registerAt a
  | .uartByteReceived .. => true
  | .debugAccess .. => true

end Sys2Proof
end

