-- ==== Sys2Proof/Tests/Slice0.lean ====
section
/-! SUPPORT. Small checks: an ill-formed command for each check of WellFormed, one step of a few commands of every family
with results worked out from the spec, and for the statements states and operands that meet their hypotheses. -/

namespace Sys2Proof.Tests

open Sys2Proof Sys2Proof.Machine

set_option Elab.async false

/-! ### Helpers -/

/-- A Bool that says a state is canonical. -/
def canonB (s : State) : Bool :=
  smWf regReset s.regs && smWf (fun _ => (0 : Word)) s.live && s.bank0.wf zeroByte && s.bank1.wf zeroByte &&
  s.health.wf zeroByte && s.layers.wf zeroByte && s.calib.wf calibByte && s.glade.fb.wf zeroByte && s.fst.tcm.wf zeroByte &&
  Memory.wf otpByte0 s.sec.otp && smWf (fun _ => (0 : Word)) s.flt.count && smWf baseClass s.flt.clsUp &&
  smWf (fun _ => (List.replicate 8 0 : List Word)) s.log.ring && smWf (fun _ => (0 : BitVec 20)) s.corr.curve &&
  smWf (fun _ => (0xFFF : BitVec 12)) s.corr.map

theorem canonical_of_canonB {s : State} (h : canonB s = true) : s.Canonical := by
  simp only [canonB, Bool.and_eq_true] at h
  obtain ⟨⟨⟨⟨⟨⟨⟨⟨⟨⟨⟨⟨⟨⟨h1, h2⟩, h3⟩, h4⟩, h5⟩, h6⟩, h7⟩, h8⟩, h9⟩, h10⟩, h11⟩, h12⟩, h13⟩, h14⟩, h15⟩ := h
  exact ⟨h1, h2, h3, h4, h5, h6, h7, h8, h9, h10, h11, h12, h13, h14, h15⟩

/-- A state that is canonical and of which a decidable property holds. -/
theorem meets {s : State} {p : Prop} [Decidable p] (h : canonB s && decide p = true) : s.Canonical ∧ p := by
  simp only [Bool.and_eq_true, decide_eq_true_eq] at h
  exact ⟨canonical_of_canonB h.1, h.2⟩

/-- The block with the core and Glade out of reset, and all else as at reset. -/
def awake : State :=
  { State.reset with
    top := { State.reset.top with porst := false }
    glade := { State.reset.glade with inReset := false } }

/-- A state with register words set. -/
def withRegs (l : List (Nat × Word)) (s : State) : State :=
  { s with regs := l.foldl (fun f x => rset x.1 x.2 f) s.regs }

/-- The core with firmware running on Forester. -/
def firm : State := { awake with fst := { awake.fst with st := .firmware } }

/-- A valid copy of Glade's parameters (17 R618, R619): pair A on, injection allowed, FB_LEN 0; its CRC-32 is worked out
outside the model. -/
def gprImage : List Byte :=
  [80, 71, 1, 0, 7, 0, 0, 0, 1, 1, 5, 0, 0, 0, 0, 0, 4, 0, 0, 0, 0, 0, 0, 0,
   15, 0, 0, 0, 208, 7, 232, 3, 100, 0, 1, 0, 0, 0, 64, 6, 128, 12, 0, 0,
   0, 0, 0, 3, 0, 0, 0, 0, 0, 0, 0, 0, 171, 154, 91, 6] ++
  List.replicate 448 0 ++ [43, 90, 80, 69]

/-- Glade with the parameters in force, in a given state, LOAD ended. -/
def gladeIn (st : GladeState) : State :=
  { awake with glade := { awake.glade with st := st, loadEnded := true, gpr := gprImage, gprSrc := 1 } }

/-! ### Witnesses: the block as a whole -/

theorem witness_StepTakesFront : ({ awake with pending := [.storeInitDone 0] }).pending = .storeInitDone 0 :: [] := rfl

/-- A write to an address of no space waits on the quad-SPI port. -/
def badQueue : State := { awake with host := { awake.host with qspiQ := [(0x40000000, 7)] } }

/-- A byte waits in the UART. -/
def uartWaits : State := { awake with fst := { awake.fst with uartTx := [0x41] } }

theorem witness_EmptyQueueStep :
    (State.reset.Canonical ∧ State.reset.pending = [] ∧ State.reset.coreOn = false) ∧
    (badQueue.Canonical ∧ badQueue.pending = [] ∧ badQueue.coreOn = true ∧
      badQueue.host.qspiQ = (0x40000000, 7) :: [] ∧ qspiGood 0x40000000 = false) ∧
    (uartWaits.Canonical ∧ uartWaits.pending = [] ∧ uartWaits.coreOn = true ∧ uartWaits.host.qspiQ = [] ∧
      uartWaits.fst.uartTx = 0x41 :: []) ∧
    (awake.Canonical ∧ awake.pending = [] ∧ awake.coreOn = true ∧ awake.host.qspiQ = [] ∧ awake.fst.uartTx = []) :=
  ⟨meets (by decide +kernel), meets (by decide +kernel), meets (by decide +kernel), meets (by decide +kernel)⟩

theorem witness_HeldBlockOnlyCountsTime : State.reset.coreOn = false ∧ State.reset.gladeOn = false := by decide

/-- A health clear waits for its turn in front of the queue. -/
def clearNext : State := { awake with pending := [.stHmClr 0 .host 5] }

theorem witness_StepKeepsCanonicalForm : clearNext.Canonical ∧ ∃ n, step clearNext = .next n :=
  ⟨canonical_of_canonB (by decide +kernel), _, rfl⟩

theorem witness_StepKeepsQueuesBounded : clearNext.Bounded ∧ ∃ n, step clearNext = .next n :=
  ⟨by constructor <;> decide, _, rfl⟩

/-- The last byte of the OTP key store has its top bit programmed. -/
def otpBit : State := { clearNext with sec := { awake.sec with otp := [(0xFFF, 0x80)] } }

theorem witness_OtpBitsNeverReturnToZero :
    otpBit.Canonical ∧ (∃ n, step otpBit = .next n) ∧ bit (otpBit.sec.otpByte 0xFFF) 7 = true :=
  ⟨canonical_of_canonB (by decide +kernel), ⟨_, rfl⟩, by decide +kernel⟩

/-- Glade in LOCKOUT with GL_GPR raised. -/
def lockedOut : State := { awake with glade := { awake.glade with st := .lockout, raised := 4, loadEnded := true } }

theorem witness_LockoutLeftOnlyByPressOrReset :
    (∃ n, exec (.sspiWatchdog 0) lockedOut = .next n) ∧ lockedOut.glade.st = .lockout ∧
    bit lockedOut.glade.raised 2 = true := ⟨⟨_, rfl⟩, by decide, by decide⟩

/-- The STITCH page is Forester's. -/
def notHosts : State := withRegs [(0x2C02C, 2)] awake

theorem witness_NotOwnedWriteOnlyReports :
    notHosts.Canonical ∧ (target (.stHmSet 0 .host 0) = some (.host, 0x2C) ∧ pageUsed 0x2C = true ∧
    notHosts.coreOn = true ∧ notHosts.stalledTo (pageDomain 0x2C) = false ∧ (notHosts.stamp 0).mayWrite .host 0x2C = false ∧
    notHosts.Fresh (.stHmSet 0 .host 0)) :=
  meets (by decide +kernel)

/-- The crossing from CD_FAB to CD_TIME is STALLED. -/
def behindStall : State := { awake with clk := { awake.clk with stalled := [{ live := 1, far := 4, kind := .fifo }] } }

theorem witness_StalledWriteIsErrorAccess :
    behindStall.Canonical ∧ (target (.stHmSet 0 .host 0) = some (.host, 0x2C) ∧ pageUsed 0x2C = true ∧
    behindStall.coreOn = true ∧ behindStall.stalledTo (pageDomain 0x2C) = true ∧ behindStall.Fresh (.stHmSet 0 .host 0)) := meets (by decide +kernel)

/-! ### Witnesses: time base, clocks, supplies, die temperature -/

/-- Genlock on with ACC 1 %, a spacing in progress, in a given state. -/
def genlocked (g : GlState) : State :=
  { withRegs [(Reg.TM_GLCFG + 0x800, 0x000A0A01)] awake with
    tb := { awake.tb with gl := g, edgeFrom := some 0, acqn := 3 } }

/-- The shortest valid spacing at NOMPER 106,666,667 and ACC 1 % is 1,650,001 ticks (11 R403). -/
theorem witness_GenlockEdge :
    ((genlocked .acquire).Canonical ∧ ((genlocked .acquire).coreOn = true ∧ (genlocked .acquire).timing.en = true ∧
      (genlocked .acquire).tb.edgeFrom = some 0 ∧ (genlocked .acquire).tb.gl ≠ .free ∧ true ≠ (genlocked .acquire).timing.pol ∧
      (genlocked .acquire).timing.valid (1650001 * 64 / 64 - 0) = true ∧ (genlocked .acquire).Fresh (.genlockEdge (1650001 * 64) true 40) ∧
      (genlocked .acquire).timing.early (1650000 * 64 / 64 - 0) = true ∧ (genlocked .acquire).Fresh (.genlockEdge (1650000 * 64) true 40))) ∧
    (awake.coreOn = true ∧ awake.Fresh (.genlockEdge 0 true 40) ∧ awake.timing.en = false) ∧
    (false = (genlocked .acquire).timing.pol ∧ (genlocked .acquire).Fresh (.genlockEdge 0 false 40)) ∧
    (39 < 40 ∧ (genlocked .acquire).Fresh (.genlockEdge 0 true 39)) :=
  ⟨meets (by decide +kernel), by decide +kernel, by decide +kernel, by decide +kernel⟩

/-- The window of a spacing closes 1,683,334 ticks after its edge (11 R403); a state with no edge has none. -/
theorem witness_GenlockMissing :
    ((genlocked .locked).Canonical ∧ ((genlocked .locked).coreOn = true ∧ (genlocked .locked).timing.en = true ∧
      ((genlocked .locked).stamp (1683334 * 64)).edgesFirst.tb.edgeFrom = some 0 ∧
      0 + ((genlocked .locked).stamp (1683334 * 64)).edgesFirst.timing.window ≤
        ((genlocked .locked).stamp (1683334 * 64)).edgesFirst.now / tick ∧
      ((genlocked .locked).stamp (1683333 * 64)).edgesFirst.tb.edgeFrom = some 0 ∧
      ((genlocked .locked).stamp (1683333 * 64)).edgesFirst.now / tick <
        0 + ((genlocked .locked).stamp (1683333 * 64)).edgesFirst.timing.window)) ∧
    (∃ s : State, s.Canonical ∧ (s.coreOn = true ∧ s.timing.en = true ∧ (s.stamp 0).edgesFirst.tb.edgeFrom = none)) :=
  ⟨meets (by decide +kernel), withRegs [(Reg.TM_GLCFG + 0x800, 0x000A0A01)] awake, meets (by decide +kernel)⟩

/-- In HOLDOVER, and an edge of the sample that follows one period after the others and locks again. -/
theorem witness_HoldoverAndPulseEnd :
    ((genlocked .holdover).Canonical ∧ ((genlocked .holdover).coreOn = true ∧
      ((genlocked .holdover).stamp 0).edgesFirst.tb.gl = .holdover)) ∧
    (∃ s : State, s.Canonical ∧ (s.coreOn = true ∧ s.tb.gl = .holdover ∧ (s.stamp (1666667 * 64)).edgesFirst.tb.gl ≠ .holdover)) :=
  ⟨meets (by decide +kernel), { genlocked .holdover with pending := [.genlockEdge (1666667 * 64) true 40] },
    meets (by decide +kernel)⟩

/-- The monitor of CD_FAB running, with one bad window. -/
def oneBad : State :=
  { awake with clk := { awake.clk with lockSys := true, mon := awake.clk.mon.set 1 { running := true, bad := 1 } } }

/-- The monitor of CD_FAB stopped, with one good window. -/
def oneGood : State := { awake with clk := { awake.clk with lockSys := true, mon := awake.clk.mon.set 1 { good := 1 } } }

/-- 500 MHz gives 2000 edges in 4 µs; 1899 are more than 5 % too few, 1900 are not (12 R435). -/
theorem witness_ClockMonitorAndStall :
    (oneBad.Canonical ∧ (oneBad.coreOn = true ∧ oneBad.monMasked 1 = false ∧ windowBad 1899 (oneBad.nominal 1) = true ∧
      (oneBad.clk.mon[(1 : Fin 8)]).running = true ∧ (oneBad.clk.mon[(1 : Fin 8)]).bad ≠ 0)) ∧
    (oneGood.Canonical ∧ (oneGood.coreOn = true ∧ oneGood.monMasked 1 = false ∧ windowBad 1900 (oneGood.nominal 1) = false ∧
      (oneGood.clk.mon[(1 : Fin 8)]).running = false ∧ (oneGood.clk.mon[(1 : Fin 8)]).good ≠ 0 ∧
      (oneGood.stamp 0).mayStall { live := 1, far := 4, kind := .holdAndFlag } = true ∧ (oneGood.stamp 0).delivered none = false ∧
      (oneGood.stamp 0).delivered (some 0) = true)) :=
  ⟨meets (by decide +kernel), meets (by decide +kernel)⟩

/-- One transfer in flight with a value waiting, none in flight, and ρ of 10 ns, of the model's ticks. -/
theorem witness_HoldAndFlag :
    (4 * tick ≤ 256 ∧ ({ hold := some 5, pending := some 7, flag := true } : HoldFlag).since ≤ 3 ∧
      ({ hold := some 5, pending := some 7, flag := true } : HoldFlag).inFlight = true ∧ 3 + 2 * 256 ≤ 515) ∧
    (({} : HoldFlag).inFlight = false ∧ ({} : HoldFlag).ack = ({} : HoldFlag).flag ∧ ({} : HoldFlag).pending = none) := by decide

/-- The rates, codes and counts that 12 R448 works out: 0x10A is 499, 0x316 is 539 and 0x306 is 516, and 17 and 23 events add up. -/
theorem test_gray_worked_example : grayCode 499 = 0x10A ∧ grayCode 539 = 0x316 ∧ ofGray 0x306 = 516 ∧
    graySample 0x306 (499, 0) = (516, 17) ∧ graySample 0x316 (516, 17) = (539, 40) := by decide

/-- ρ of CD_FAB and CD_TIME is 18 ns, of CD_FAB and CD_SLOW 48 ns (12 R450). -/
theorem test_round_trips : roundTripPs 500000 400000 = 18000 ∧ roundTripPs 500000 100000 = 48000 := by decide

/-- A droop in progress. -/
def drooping : State := { awake with pwr := { awake.pwr with droop := true } }

theorem witness_DroopTripReleaseAndLength :
    (awake.Canonical ∧ (awake.coreOn = true ∧ awake.pwr.droop = false)) ∧
    (drooping.Canonical ∧ (drooping.coreOn = true ∧ drooping.pwr.droop = true ∧ drooping.pwr.droopLong = false ∧
      (drooping.stamp (2 * usec)).tripping = false ∧ drooping.pwr.lowAt + 2 * usec ≤ max drooping.now (2 * usec) ∧
      max drooping.now (2 * usec - 1) < drooping.pwr.lowAt + 2 * usec ∧ (drooping.stamp 0).releasing = false ∧
      (({ drooping with pending := [.droopTrip 0] }).stamp 0).tripping = true)) :=
  ⟨meets (by decide +kernel), meets (by decide +kernel)⟩

/-- VDD_CORE with one sample outside, VDD_GLD with 99 inside, two passed self-checks. -/
def nearLimits : State :=
  { awake with pwr := { awake.pwr with
    railOut := awake.pwr.railOut.set 1 1, railIn := awake.pwr.railIn.set 2 99, monPass := awake.pwr.monPass.set 3 2 } }

/-- A sample of the rails: every one at 0 mV and 5 A. -/
def fiveAmps : RailReading := { mv := Vector.replicate 7 0, cur := Vector.replicate 4 5000 }

theorem witness_RailsMonitorsAndUnderVoltage :
    nearLimits.Canonical ∧ (nearLimits.coreOn = true ∧ nearLimits.Fresh (.monitorSelfCheck 0 0 false) ∧
    nearLimits.Fresh (.monitorSelfCheck 0 3 true) ∧ nearLimits.Fresh (.railSample 0 fiveAmps) ∧ railOff 1 739 = true ∧ nearLimits.pwr.railOut[(1 : Fin 7)] = 1 ∧
    railOff 2 830 = false ∧ nearLimits.pwr.railIn[(2 : Fin 7)] = 99 ∧ bit nearLimits.pwr.monBad 0 = false ∧
    nearLimits.pwr.monPass[(3 : Fin 4)] = 2 ∧ nearLimits.pwr.uv = false) := meets (by decide +kernel)

theorem witness_ThermalLimitsMoveOneWay : awake.Canonical ∧ (awake.Writable 0 .host 0x41 ∧ awake.Fresh (.thmTjadd 0 .host 5) ∧
    awake.Fresh (.thmLim 0 .host 5)) := meets (by decide +kernel)

/-- A reference temperature in use. -/
def refInUse : State := { gladeIn .run with thm := { (gladeIn .run).thm with refDef := false } }

/-- TREF_LO is 0 °C and TREF_HI 100 °C: both ends are within. -/
theorem witness_ReferenceTemperatureInUse :
    refInUse.Canonical ∧ refInUse.Writable 0 .host 0x41 ∧ (refInUse.glade.hasGpr = true ∧
    refInUse.glade.trefLimits.1 ≤ signed 16 (fld (0 : Word) 0 16) ∧
    signed 16 (fld (1600 : Word) 0 16) ≤ refInUse.glade.trefLimits.2 ∧
    signed 16 (fld (0 : Word) 0 16) ≤ refInUse.glade.trefLimits.2 ∧
    refInUse.glade.trefLimits.1 ≤ signed 16 (fld (1600 : Word) 0 16) ∧ refInUse.coreOn = true ∧ refInUse.thm.refDef = false ∧
    (refInUse.stamp 0).trefWritten = false ∧ (({ refInUse with pending := [.thmTref 0 .host 0] }).stamp 0).trefWritten = true) :=
  meets (by decide +kernel)

/-- A die at 200 °C, above T_S of both grades, and its THROT active. -/
def hot : State := { gladeIn .run with thm := { (gladeIn .run).thm with thD := 200 * 2 ^ 32, throt := true, tj := 3200 } }

theorem limits_at_most (i : Fin 3) : fld (rget hot.regs Reg.THM_LIM) (8 * i) 8 ≤ 0x94 := by
  show fld (if Config.gradeCQ = true then (0x007D6E64 : Word) else 0x0094877D) (8 * i) 8 ≤ 0x94
  cases Config.gradeCQ <;> revert i <;> decide

theorem limits_above_zero (i : Fin 3) : 0 < fld (rget awake.regs Reg.THM_LIM) (8 * i) 8 := by
  show 0 < fld (if Config.gradeCQ = true then (0x007D6E64 : Word) else 0x0094877D) (8 * i) 8
  cases Config.gradeCQ <;> revert i <;> decide

/-- What the step's sample leaves of the hot block has the limits of the block. -/
theorem hot_limits (i : Fin 3) : fld (rget ((hot.stamp 0).stepInputs).regs Reg.THM_LIM) (8 * i) 8 ≤ 0x94 := limits_at_most i

/-- A die below every limit whose THROT is still active. -/
def cooling : State := { awake with thm := { awake.thm with throt := true, tj := 0 } }

theorem witness_DieTemperatureSteps :
    hot.Canonical ∧ (hot.coreOn = true ∧ ((hot.stamp 0).stepInputs).thm.shut = false ∧
    ((hot.stamp 0).stepInputs).thm.window = false ∧ ((hot.stamp 0).stepInputs).thm.stopped = false ∧
    (∃ j : Int, j = tjOf ({ ((hot.stamp 0).stepInputs).thm with trefu := ((hot.stamp 0).stepInputs).trefu }.heat
        ((hot.stamp 0).stepInputs).pwr.total ((hot.stamp 0).stepInputs).glade.board)
      (fld (rget ((hot.stamp 0).stepInputs).regs Reg.THM_TJADD) 0 8) ∧
      ((16 * fld (rget ((hot.stamp 0).stepInputs).regs Reg.THM_LIM) 16 8 : Nat) : Int) ≤ j) ∧
    hot.thm.throt = true ∧ ((16 * fld (rget hot.regs Reg.THM_LIM) 8 8 : Nat) : Int) ≤ hot.thm.tj ∧
    (cooling.thm.throt = true ∧ cooling.thm.tj < ((16 * fld (rget cooling.regs Reg.THM_LIM) 8 8 : Nat) : Int)) ∧
    awake.thm.throt = false) := by
  refine ⟨canonical_of_canonB (by decide +kernel), by decide, by decide +kernel, by decide +kernel, by decide +kernel,
    ⟨_, rfl, ?_⟩, by decide, ?_, ⟨by decide, ?_⟩, by decide⟩
  · have h : (16 * 0x94 : Int) ≤ tjOf ({ ((hot.stamp 0).stepInputs).thm with trefu := ((hot.stamp 0).stepInputs).trefu }.heat
        ((hot.stamp 0).stepInputs).pwr.total ((hot.stamp 0).stepInputs).glade.board)
      (fld (rget ((hot.stamp 0).stepInputs).regs Reg.THM_TJADD) 0 8) := by decide +kernel
    have := hot_limits 2
    simp only [Nat.reduceMul, Fin.isValue, Fin.val_two] at this
    omega
  · have := limits_at_most 1
    have h : hot.thm.tj = 3200 := by decide
    simp only [Fin.isValue, Fin.val_one, Nat.mul_one] at this
    omega
  · have := limits_above_zero 1
    have h : cooling.thm.tj = 0 := by decide
    have e : cooling.regs = awake.regs := rfl
    simp only [Fin.isValue, Fin.val_one, Nat.mul_one] at this
    rw [h, e]; omega

theorem witness_CommandedShutdown :
    (awake.Canonical ∧ awake.Writable 0 .host 0x00 ∧ (fld (0x5D0E0001 : Word) 16 16 = 0x5D0E ∧ awake.top.cmdSd = false ∧
      awake.thm.window = false ∧ awake.thm.stopped = false ∧ fld (0x5D0F0001 : Word) 16 16 ≠ 0x5D0E)) ∧
    (∃ s : State, s.Canonical ∧ s.Writable 0 .host 0x00 ∧ (s.top.cmdSd = true ∧ s.thm.window = false ∧
      (s.stamp 0).windowEnds = false ∧ s.thm.shut = false ∧ s.thm.stopped = true)) ∧
    (∃ s : State, s.Canonical ∧ (s.Writable 0 .host 0x00 ∧ s.top.cmdSd = true ∧ (s.thm.window = true ∨ (s.stamp 0).windowEnds = true))) :=
  ⟨meets (by decide +kernel),
   ⟨{ awake with top := { awake.top with cmdSd := true }, thm := { awake.thm with stopped := true } }, meets (by decide +kernel)⟩,
   { awake with top := { awake.top with cmdSd := true }, thm := { awake.thm with window := true } }, meets (by decide +kernel)⟩

/-! ### Witnesses: reset, start-up, the host port -/

theorem witness_PorstReleaseAndAssert :
    (State.reset.sec.job = none ∧ State.reset.top.porst = true) ∧ (awake.sec.job = none ∧ awake.top.porst = false) := by
  decide

/-- The core held in reset by its supply. -/
def heldCore : State := { awake with pwr := { awake.pwr with coreReset := true } }

theorem witness_CoreResetAndRelease : (awake.sec.job = none ∧ awake.coreOn = true) ∧
    (heldCore.sec.job = none ∧ heldCore.top.porst = false ∧ heldCore.pwr.coreReset = true) := by decide

/-- What the flash holds: copy A, copy B. -/
def flashOf (a b : List Byte) : FlashLoad := { gprA := a, gprB := b, pattern := [] }

set_option maxRecDepth 10000 in
theorem gprImage_valid : gprValid gprImage = true := by decide +kernel

theorem witness_GladeLoadTakesTheFirstValidCopy :
    awake.gladeOn = true ∧ awake.glade.loadEnded = false ∧ gprValid (flashOf gprImage []).gprA = true ∧
    (gprValid (flashOf [] gprImage).gprA = false ∧ gprValid (flashOf [] gprImage).gprB = true) ∧
    (gprValid (flashOf [] []).gprA = false ∧ gprValid (flashOf [] []).gprB = false) :=
  ⟨by decide, by decide, gprImage_valid, ⟨by decide +kernel, gprImage_valid⟩, by decide +kernel, by decide +kernel⟩

/-- The core in a phase. -/
def inPhase (p : Phase) : State := { awake with top := { awake.top with phase := p } }

theorem witness_StartUpEventsAndPhases :
    ((inPhase .startUp).Canonical ∧ (inPhase .startUp).Writable 0 .host 0x00 ∧ ((inPhase .startUp).coreOn = true ∧
      (inPhase .startUp).Fresh (.topPhaseWrite 0 .host 1) ∧ ((inPhase .startUp).stamp 0).cold Reg.TOP_PHASE 1 = 1 ∧
      bit (1 : Word) 2 = false ∧ bit (1 : Word) 3 = false ∧ (inPhase .startUp).top.phase = .startUp ∧ fld (1 : Word) 0 2 = 1)) ∧
    (∃ s : State, s.Canonical ∧ s.Writable 0 .host 0x00 ∧ (s.top.phase = .service ∧ fld (2 : Word) 0 2 = 2 ∧
      s.Fresh (.topPhaseWrite 0 .host 2) ∧ (s.stamp 0).cold Reg.TOP_PHASE 2 = 2 ∧ bit ((s.stamp 0).phaseBefore) 31 = false ∧
      bit (2 : Word) 2 = false ∧ bit (2 : Word) 3 = false ∧ s.anyEn = true)) ∧
    ((inPhase .service).Canonical ∧ (inPhase .service).Writable 0 .host 0x00 ∧ ((inPhase .service).top.phase = .service ∧
      bit (((inPhase .service).stamp 0).phaseBefore) 31 = false ∧ (inPhase .service).anyEn = false)) ∧
    ((inPhase .recovery).Canonical ∧ (inPhase .recovery).Writable 0 .host 0x00 ∧ (inPhase .recovery).top.phase = .recovery ∧
      (inPhase .recovery).Fresh (.topPhaseWrite 0 .host 1) ∧ ((inPhase .recovery).stamp 0).cold Reg.TOP_PHASE 1 = 1) ∧
    (∃ s : State, s.Canonical ∧ (s.Writable 0 .host 0x00 ∧ s.Fresh (.topPhaseWrite 0 .host 2) ∧
      (s.stamp 0).cold Reg.TOP_PHASE 2 = 2 ∧ bit ((s.stamp 0).phaseBefore) 31 = true)) :=
  ⟨meets (by decide +kernel),
   ⟨withRegs [(Reg.ST_CTRL 0 + 0x800, 1)] (inPhase .service), meets (by decide +kernel)⟩,
   meets (by decide +kernel), meets (by decide +kernel),
   { inPhase .service with sample := { was := [(Reg.TOP_PHASE, 0x80000001)] } }, meets (by decide +kernel)⟩

/-- The orderly window open, a shutdown in force or not. -/
def windowOpen (sd : Bool) : State :=
  { awake with thm := { awake.thm with window := true }, top := { awake.top with cmdSd := sd } }

theorem witness_OrderlyWindowEndStopsTheParts :
    ((windowOpen true).coreOn = true ∧ (windowOpen true).thm.window = true ∧
      ((windowOpen true).thm.shut = true ∨ (windowOpen true).top.cmdSd = true)) ∧
    ((windowOpen false).coreOn = true ∧ (windowOpen false).thm.window = true ∧ (windowOpen false).thm.shut = false ∧
      (windowOpen false).top.cmdSd = false) := by decide

theorem witness_PageOwnerWrites :
    (notHosts.Canonical ∧ (notHosts.coreOn = true ∧ pageUsed 0xFF = false ∧ pageUsed 0x60 = true ∧ pageUsed 0x50 = true ∧
      notHosts.stalledTo (pageDomain 0x60) = false ∧ notHosts.stalledTo (pageDomain 0x50) = false ∧
      bit ((notHosts.stamp 0).before (0x60 * 0x1000 + 0x008)) 0 = false)) ∧
    (∃ s : State, s.Canonical ∧ (s.coreOn = true ∧ s.stalledTo (pageDomain 0x2C) = false ∧ pageUsed 0x2C = true ∧
      bit ((s.stamp 0).before (0x2C * 0x1000 + 0x008)) 0 = true)) :=
  ⟨meets (by decide +kernel), withRegs [(0x2C008, 1)] awake, meets (by decide +kernel)⟩

theorem witness_PageHeaderWrites : awake.Canonical ∧ awake.Writable 0 .forester 0x60 ∧ (pageUsed 0x60 = true) :=
  meets (by decide +kernel)

/-- A page's event due on its vector, the vector's mask as given, the link ready. -/
def eventDue (mask : Word) : State :=
  { withRegs [(0x00010, 1), (0x00018, 1), (Reg.HOST_IRQMAP 0, 0x80), (Reg.MSIX_VEC 0 + 12, mask)] awake with
    host := { awake.host with msixEn := true, linkUp := true, bme := true } }

theorem witness_VectorsMessagesAndArming :
    ((eventDue 0).coreOn = true ∧ (eventDue 0).messageDue 0 = true ∧
      bit (rget (eventDue 0).regs (Reg.MSIX_VEC 0 + 12)) 0 = false ∧ (eventDue 0).linkReady = true) ∧
    ((eventDue 1).coreOn = true ∧ (eventDue 1).messageDue 0 = true ∧
      bit (rget (eventDue 1).regs (Reg.MSIX_VEC 0 + 12)) 0 = true) ∧
    bit ({ awake.host with armed := 0x7FFFFFFF }).armed (31 : Fin 32) = false ∧ awake.Writable 0 .host 0x08 :=
  ⟨by decide +kernel, by decide +kernel, by decide, by decide +kernel⟩

/-- One upstream read waits under tag 5. -/
def upWaits : State :=
  { awake with host := { awake.host with
      up := [{ tag := 5, who := .dma 0, addr := 0, len := 32, sent := 0, res := .waiting }], nextTag := 6 } }

theorem witness_UpstreamCompletionAndTimeout : upWaits.Canonical ∧ (upWaits.coreOn = true ∧
    upWaits.host.awaits 5 = true ∧ upWaits.host.awaits 6 = false ∧ upWaits.host.portSpi = false ∧
    upWaits.Fresh (.upstreamCompletion 0 5 (.data [])) ∧ upWaits.Fresh (.upstreamCompletion 0 5 .poisoned) ∧
    upWaits.Fresh (.upstreamCompletion 0 5 .status) ∧ upWaits.Fresh (.upstreamCompletion 0 6 .status) ∧
    (upWaits.stamp 0).completing 5 = false ∧
    (({ upWaits with pending := [.upstreamCompletion 0 5 .status] }).stamp 0).completing 5 = true) := meets (by decide +kernel)

theorem witness_LinkConfigurationAndPortReset : awake.Canonical ∧ (awake.coreOn = true ∧ awake.host.portSpi = false ∧
    awake.host.linkUp = false) := meets (by decide +kernel)

/-- The quad-SPI port in use. -/
def onSpi : State := { awake with host := { awake.host with portSpi := true } }

theorem witness_QuadSpiTransactions : onSpi.Canonical ∧ (onSpi.coreOn = true ∧ onSpi.host.portSpi = true ∧
    qspiGood 0x00058040 = true ∧ qspiGood 0x00058042 = false ∧ qspiBar2 0x00058040 = false ∧ onSpi.host.qspiQ = [] ∧
    (onSpi.stamp 0).qspiReady 0x00058040 = false ∧ counterLow (qspiOff0 0x00058040) = false ∧ onSpi.stalledTo (pageDomain (qspiOff0 0x00058040 / 0x1000)) = false) :=
  meets (by decide +kernel)

/-! ### Witnesses: registers, the mailbox, Forester -/

/-- A register of the map that is live, of one that is shadowed, and a hole. -/
theorem witness_RegisterWriteByAccessCode :
    awake.Canonical ∧ awake.Writable 0 .host 0x02 ∧ (awake.coreOn = true ∧ (7 : BitVec 4) ≠ 0xF ∧ pageUsed (0x0B000 / 0x1000) = false ∧
      regRow 0x027FC = none ∧ 0x027FC % 4 = 0 ∧
      awake.Fresh (.registerWrite 0 .host 0x027FC 5 0xF) ∧ (awake.stamp 0).cold 0x027FC 5 = 5) ∧
    (∃ r, regRow Reg.TM_PER = some r ∧ r.sh = true) ∧ (∃ r, regRow 0x02050 = some r ∧ r.sh = false) ∧
    awake.cmt.st = .idle ∧ awake.cmt.accepted = false ∧
    (∃ s : State, s.Canonical ∧ s.Writable 0 .host 0x01 ∧ (s.locked Reg.TM_PER 5 = true)) := by
  refine ⟨canonical_of_canonB (by decide +kernel), by decide +kernel, by decide +kernel,
    ⟨((regRow Reg.TM_PER).get (by decide +kernel)), by simp, by decide +kernel⟩,
    ⟨((regRow 0x02050).get (by decide +kernel)), by simp, by decide +kernel⟩, by decide, by decide,
    { awake with cmt := { awake.cmt with st := .armed, smask := 1 } }, meets (by decide +kernel)⟩

theorem witness_CounterReadLatchesItsHighWord : awake.coreOn = true ∧ awake.stalledTo (pageDomain 0x01) = false := by
  decide +kernel

/-- Firmware running with its clock, the mailbox as given. -/
def mailbox (busy : Bool) (ctrl : Word) : State :=
  { withRegs [(Reg.FP_MB_CTRL, ctrl)] firm with
    clk := { firm.clk with mon := firm.clk.mon.set 5 { running := true } }
    host := { firm.host with mbBusy := busy }
    fst := { firm.fst with mbPending := busy, mbSeq := 9 } }

/-- The recovery set waits for requests, a command in the first dword. -/
def recovering (w : Word) : State :=
  { withRegs [(Reg.MB_REQ 0, w)] (mailbox false 1) with fst := { (mailbox false 1).fst with st := .recovery } }

/-- Lengths 1, 16, 0 and 17 of a doorbell. -/
theorem witness_MailboxDoorbellAndTimeout :
    ((mailbox false 1).Canonical ∧ (mailbox false 1).Writable 0 .host 0x58 ∧ ((mailbox false 1).coreOn = true ∧
      (mailbox false 1).host.mbBusy = false ∧ (mailbox false 1).host.mbFell ≠ some (max (mailbox false 1).now 0 / tick) ∧
      (mailbox false 1).fst.st ≠ .recovery ∧ (mailbox false 1).mbOpen = true ∧ fld (0x0100 : Word) 8 5 = 1 ∧
      fld (0x1000 : Word) 8 5 = 16 ∧ fld (0x0000 : Word) 8 5 = 0 ∧ 16 < fld (0x1100 : Word) 8 5)) ∧
    ((mailbox true 1).Canonical ∧ (mailbox true 1).Writable 0 .host 0x58 ∧ ((mailbox true 1).host.mbBusy = true ∧
      ((mailbox true 1).stamp 0).mbAnswering = false)) ∧
    (({ mailbox true 1 with pending := [.fpMbDone 0 0x0109] }).coreOn = true ∧
      (State.stamp 0 { mailbox true 1 with pending := [.fpMbDone 0 0x0109] }).mbAnswering = true) ∧
    (∀ w : Word, w = 0x0001 ∨ w = 0x0105 ∨ w = 0x0300 → (recovering w).Canonical ∧ ((recovering w).Writable 0 .host 0x58 ∧
      (recovering w).host.mbBusy = false ∧ (recovering w).host.mbFell ≠ some (max (recovering w).now 0 / tick) ∧
      (recovering w).mbOpen = true ∧ (recovering w).fst.st = .recovery ∧
      fld (rget (recovering w).regs (Reg.MB_REQ 0)) 0 16 = w.toNat)) ∧
    ((mailbox false 0).Canonical ∧ (mailbox false 0).Writable 0 .host 0x58 ∧ ((mailbox false 0).host.mbBusy = false ∧
      (mailbox false 0).mbOpen = false)) :=
  ⟨meets (by decide +kernel), meets (by decide +kernel), by decide +kernel,
    (by rintro w (rfl | rfl | rfl) <;> exact meets (by decide +kernel)), meets (by decide +kernel)⟩

theorem witness_MailboxCompletionAndEvent :
    ((mailbox true 1).Canonical ∧ ((mailbox true 1).coreOn = true ∧ (mailbox true 1).fst.st ≠ .reset ∧
      (mailbox true 1).fst.mbPending = true ∧ (mailbox true 1).fst.mbSeq = BitVec.ofNat 8 (fld (0x1009 : Word) 0 8) ∧
      fld (0x1009 : Word) 8 5 ≤ 16 ∧ (mailbox true 1).fst.mbSeq ≠ BitVec.ofNat 8 (fld (0x1008 : Word) 0 8))) ∧
    (mailbox false 1).fst.mbPending = false := ⟨meets (by decide +kernel), by decide⟩

theorem witness_ForesterResetsAndExceptions : firm.coreOn = true ∧ firm.fst.st ≠ .reset ∧ bit (1 : Word) 0 = true ∧
    ForCause.power ≠ .shutdown := by decide

/-- Firmware running after LOAD, the watchdog counting, at a time in ms after its last service. -/
def watched (boot key : Bool) (ms : Nat) : State :=
  { gladeIn .run with
    now := ms * msec, fst := { firm.fst with wdKey := key }, glade := { (gladeIn .run).glade with wdBoot := boot } }

/-- WD_RUN is 1000 ms: 249 ms are less than a quarter of it. -/
theorem witness_FirmwareWatchdog :
    ((watched true true 0).coreOn = true ∧ (watched true true 0).gladeOn = true ∧ (watched true true 0).wdRuns = true ∧
      ((watched true true 0).stamp 0).servicing = false ∧ (watched true true 0).romServes = false ∧
      ((({ watched true true 0 with pending := [.fpWdog 0 0xA5A5] }).stamp 0).servicing = true) ∧
      (watched true true 0).fst.wdKey = true ∧ (watched true true 0).glade.wdBoot = true ∧ fld (0x5A5A : Word) 0 16 = 0x5A5A ∧
      fld (0xA5A5 : Word) 0 16 = 0xA5A5 ∧ fld (0x1234 : Word) 0 16 ≠ 0x5A5A ∧ fld (0x1234 : Word) 0 16 ≠ 0xA5A5) ∧
    ((watched false false 249).wdRuns = true ∧ (watched false false 249).fst.wdKey = false) ∧
    ((watched false true 249).wdRuns = true ∧ (watched false true 249).fst.wdKey = true ∧
      (watched false true 249).glade.wdBoot = false ∧
      (max (watched false true 249).now 0 - (watched false true 249).glade.wdAt) / msec <
        (watched false true 249).glade.runMs / 4) := by decide +kernel

/-- Firmware running after LOAD, with an SPI NOR address and a command in progress or not. -/
def norAt (a : Word) (c : Option (Word × BitVec 24)) : State :=
  { withRegs [(Reg.FP_SPI_ADDR, a)] (gladeIn .run) with
    fst := { firm.fst with spi := { firm.fst.spi with cmd := c } } }

/-- A read; a page program at both ends of the parameters' sectors; a read and a polled program in progress. -/
theorem witness_SpiNorMaster :
    ((norAt 0x20000 none).Canonical ∧ ((norAt 0x20000 none).coreOn = true ∧ (norAt 0x20000 none).fst.st ≠ .reset ∧
      (norAt 0x20000 none).fst.spi.cmd = none ∧ (norAt 0x20000 none).loading = false ∧
      (norAt 0x20000 none).norGuarded 0x00100003 (BitVec.ofNat 24 (rget (norAt 0x20000 none).regs Reg.FP_SPI_ADDR).toNat) = false ∧
      (norAt 0x20000 none).thm.window = false)) ∧
    (∀ a : Word, a = 0x10000 ∨ a = 0x11FFF → (norAt a none).Canonical ∧ ((norAt a none).fst.spi.cmd = none ∧
      (norAt a none).loading = false ∧ fld (0x02 : Word) 0 8 = 0x02 ∧ (norAt a none).sec.dbgLevel.toNat < 2 ∧
      0x10000 ≤ fld (rget (norAt a none).regs Reg.FP_SPI_ADDR) 0 24 ∧
      fld (rget (norAt a none).regs Reg.FP_SPI_ADDR) 0 24 < 0x12000)) ∧
    ((norAt 0 (some (0x02008002, 0x20000))).Canonical ∧
      ((norAt 0 (some (0x02008002, 0x20000))).fst.spi.cmd = some (0x02008002, 0x20000) ∧
      ¬((norAt 0 (some (0x02008002, 0x20000))).fst.st = .recovery ∧ (norAt 0 (some (0x02008002, 0x20000))).fst.rom.steps ≠ []) ∧
      ((norAt 0 (some (0x02008002, 0x20000))).stamp 0).norEnding = false ∧
      (({ norAt 0 (some (0x02008002, 0x20000)) with pending := [.spiNorCommandDone 0 []] }).stamp 0).norEnding = true ∧
      (norAt 0 (some (0x02008002, 0x20000))).fst.spi.loadWait = false ∧ bit (0x02008002 : Word) 25 = true ∧
      bit (0x02008002 : Word) 15 = true ∧ inJournal (norRange 0x02008002 0x20000) = false ∧ bit (0x00100003 : Word) 15 = false)) := by
  refine ⟨meets (by decide +kernel), ?_, meets (by decide +kernel)⟩
  rintro a (rfl | rfl) <;> exact meets (by decide +kernel)

/-- Slot 7 enabled on bus 1, the bus as given. -/
def slot7 (on : Option (Fin 8)) : State :=
  { withRegs [(Reg.FP_SEN_CFG 7, 0x04000003)] firm with fst := { firm.fst with bus := firm.fst.bus.set 1 on } }

theorem witness_SensorSlots :
    ((slot7 none).Canonical ∧ ((slot7 none).coreOn = true ∧ (slot7 none).fst.st ≠ .reset ∧ 1 = slotBus (slot7 none).regs 7 ∧
      bit (rget (slot7 none).regs (Reg.FP_SEN_CFG (7 : Fin 8))) 0 = true ∧ (slot7 none).slotBusy 7 = false ∧
      (slot7 none).fst.bus[(1 : Fin 2)] = none ∧ (∀ m : Fin 8, ((slot7 none).fst.slots[m]).waiting = false))) ∧
    ((slot7 (some 3)).Canonical ∧ ((slot7 (some 3)).slotBusy 7 = false ∧ (slot7 (some 3)).fst.bus[(1 : Fin 2)] ≠ none)) ∧
    ((slot7 (some 7)).Canonical ∧ ((slot7 (some 7)).fst.bus[(1 : Fin 2)] = some 7 ∧ ((slot7 (some 7)).stamp 0).senEnding 1 = false ∧
      bit (rget (slot7 (some 7)).regs (Reg.FP_SEN_CFG (7 : Fin 8))) 4 = false ∧
      (∀ m : Fin 8, ((slot7 (some 7)).fst.slots[m]).waiting = false))) :=
  ⟨meets (by decide +kernel), meets (by decide +kernel), meets (by decide +kernel)⟩

/-- Firmware running, the UART's receive FIFO with n bytes, a log ring of one record, export as given. -/
def logging (n : Nat) (export_ full : Bool) : State :=
  { withRegs [(Reg.FP_LOG_CFG, if export_ then 1 else 0)] firm with
    fst := { firm.fst with uartRx := List.replicate n 0 }
    log := { firm.log with wr := if full then 0 else 1, full := full } }

theorem witness_UartAndEventLog :
    ((logging 15 false false).Canonical ∧ ((logging 15 false false).coreOn = true ∧ (logging 15 false false).fst.st ≠ .reset ∧
      (logging 15 false false).fst.uartRx.length < 16 ∧ (logging 15 false false).log.full = false ∧
      bit (rget (logging 15 false false).regs Reg.FP_LOG_CFG) 0 = false)) ∧
    ((logging 16 true true).Canonical ∧ (16 ≤ (logging 16 true true).fst.uartRx.length ∧ (logging 16 true true).log.full = true ∧
      bit (rget (logging 16 true true).regs Reg.FP_LOG_CFG) 0 = true ∧ (logging 16 true true).log.empty = false)) :=
  ⟨meets (by decide +kernel), meets (by decide +kernel)⟩

/-! ### Witnesses: Glade and fault collection -/

theorem witness_ClassLinesReachGlade : (gladeIn .run).gladeOn = true ∧ bit (8 : BitVec 5) 3 = true ∧
    bit (gladeIn .run).glade.masked 3 = false ∧ bit (gladeIn .run).glade.raised 10 = false := by decide

theorem witness_HeartbeatReachesGlade : (gladeIn .run).gladeOn = true ∧ (gladeIn .run).coreOn = true ∧
    ((gladeIn .run).stamp 0).beating = false ∧
    (({ gladeIn .run with pending := [.heartbeatToggle 0] }).stamp 0).beating = true ∧
    bit (gladeIn .run).glade.raised 10 = false := by decide +kernel

/-- Three equal samples of channel A1 so far, FILT 1 ms: the fourth is enough. -/
def filtering : State :=
  { gladeIn .run with glade := { (gladeIn .run).glade with pairA := { raw1 := true, run1 := 3, filt1 := false } } }

/-- A press of n cycles of SRST_N in LOCKOUT, no pair in use, the release about to be filtered. -/
def pressing (n : Nat) : State :=
  { awake with glade := { awake.glade with st := .lockout, loadEnded := true, pressed := true, press := n, srstRun := 7 } }

/-- Presses of 50 ms and of 3 s are the shortest and the longest (17 R612). -/
theorem witness_GladeCycleInputsAndPress :
    (filtering.gladeOn = true ∧ filtering.glade.pairFn 0 ≠ 0 ∧ filtering.glade.pairA.raw1 = true ∧
      4 * filtering.glade.pairFilt 0 ≤ min 80 (filtering.glade.pairA.run1 + 1) ∧ filtering.glade.pairA.raw1 ≠ false ∧
      1 < 4 * filtering.glade.pairFilt 0) ∧
    (∀ n, n = 200 ∨ n = 12000 → (pressing n).glade.st = .lockout ∧ (pressing n).glade.pressed = true ∧
      (pressing n).glade.srstRaw = false ∧ 7 ≤ (pressing n).glade.srstRun ∧ 200 ≤ (pressing n).glade.press ∧
      (pressing n).glade.press ≤ 12000 ∧ (pressing n).glade.stuck = false ∧ (pressing n).glade.pairFn 0 = 0 ∧
      (pressing n).glade.pairFn 1 = 0 ∧ (pressing n).glade.cond &&& 0x7F#12 = 0 ∧ ((pressing n).stamp 0).lockRising = false) := by
  refine ⟨by decide +kernel, ?_⟩
  rintro n (rfl | rfl) <;> decide +kernel

/-- One bad window of each clock check so far, and a fallback store whose CRC-32 does not match, surface 0 enabled. -/
def checking : State :=
  { gladeIn .run with glade := { (gladeIn .run).glade with
      rcBad := 1, sysBad := 1, fbOk := true, gpr := gprImage.set 0x64 1 } }

theorem witness_GladeCheckersDetect : checking.gladeOn = true ∧ 767 < 768 ∧ checking.glade.rcBad ≠ 0 ∧
    24499 < 24500 ∧ checking.glade.sysBad ≠ 0 ∧ (0xF : BitVec 4) ≠ checking.glade.aenDrv ∧
    (1 : BitVec 2) ≠ (if checking.glade.errFault then 2 else 1) ∧ checking.glade.fbOk = true ∧
    checking.glade.fbCrcBad = true ∧ checking.glade.loadEnded = true ∧ checking.glade.anySurf = true := by decide +kernel

/-- SLO after a reaction, the surfaces shown and lit, with a return mode. -/
def slo (ret : Nat) : State :=
  { withRegs [(Reg.ST_CTRL 0 + 0x800, 1), (Reg.TM_SHOWSEQ 0, 1)] (gladeIn .slo) with
    glade := { (gladeIn .slo).glade with
      reacted := true, gpr := gprImage.set 0x10 (BitVec.ofNat 8 (4 + 32 * ret))
      sspi := { request := some { cmd := 0x10, addr := 0, data := 0 } } } }

theorem witness_GladeReturnHoldAndPowerLoss :
    ((slo 0).gladeOn = true ∧ (slo 0).glade.st = .slo ∧ (slo 0).glade.reacted = true ∧ (slo 0).glade.gp 0x010 5 2 = 0 ∧
      (slo 0).glade.Quiet ∧ (slo 0).glade.ready ((slo 0).rdy 0) ((slo 0).rdy 1) = true) ∧
    ((gladeIn .lockout).glade.st = .lockout ∧ (gladeIn .lockout).glade.errFault = true) := by
  refine ⟨⟨by decide, by decide, by decide, by decide +kernel, ?_, by decide +kernel⟩, by decide⟩
  exact ⟨by decide +kernel, by decide, by decide, by decide +kernel, by decide +kernel, by decide +kernel⟩

theorem witness_ResumeReturnsToRun :
    ((slo 1).gladeOn = true ∧ (slo 1).glade.sspi.request = some { cmd := 0x10, addr := 0, data := 0 } ∧
      (slo 1).glade.st = .slo ∧ (slo 1).glade.reacted = true ∧ (slo 1).glade.gp 0x010 5 2 = 1 ∧ (slo 1).glade.Quiet ∧
      rdyAll (slo 1).glade.gpr ((slo 1).rdy 0) ((slo 1).rdy 1) = true) ∧
    (∃ s : State, s.gladeOn = true ∧ s.glade.sspi.request = some { cmd := 0x10, addr := 0, data := 0 } ∧
      s.glade.st = .lockout) := by
  refine ⟨⟨by decide, by decide, by decide, by decide, by decide +kernel, ?_, by decide +kernel⟩,
    { slo 1 with glade := { (slo 1).glade with st := .lockout } }, by decide, by decide, by decide⟩
  exact ⟨by decide +kernel, by decide, by decide, by decide +kernel, by decide +kernel, by decide +kernel⟩

/-- WRITE of demand 1 with SEQ 0x10; its CRC-16 is worked out outside the model. -/
def goodFrame : List Byte := [0x02, 0x10, 0xC0, 0x00, 0x01, 0x00, 0x00, 0x00, 103, 65]

/-- Frame 0x0F was accepted, 500 µs before the next begins. -/
def afterFrame : State :=
  { gladeIn .run with glade := { (gladeIn .run).glade with sspi := { lastSeq := some 0x0F, lastEnd := some 0 } } }

theorem witness_SafetyPortFrames :
    (afterFrame.gladeOn = true ∧ goodFrame.length = 10 ∧ crc16 (goodFrame.take 8) = leAt goodFrame 8 2 ∧
      (∀ x, afterFrame.glade.sspi.lastSeq = some x → goodFrame.getD 1 0 = x + 1) ∧
      (∀ e, afterFrame.glade.sspi.lastEnd = some e → e + 500 * usec ≤ 12800000) ∧ sspiKnown (goodFrame.getD 0 0) = true) ∧
    ((79 ≠ 80) ∧ crc16 ((goodFrame.set 9 0).take 8) ≠ leAt (goodFrame.set 9 0) 8 2 ∧
      (∃ x, some (0x10 : Byte) = some x ∧ goodFrame.getD 1 0 ≠ x + 1)) := by
  refine ⟨⟨by decide, by decide, by decide +kernel, ?_, ?_, by decide⟩, by decide, by decide +kernel, 0x10, rfl, by decide⟩
  · intro x h; cases h; decide
  · intro e h; cases h; decide

/-- A request of the safety port that waits. -/
def asked (cmd : Byte) (addr : BitVec 16) (data : Word) : State :=
  { gladeIn .run with glade := { (gladeIn .run).glade with
      sspi := { request := some { cmd := cmd, addr := addr, data := data }, key1 := true, wdRun := true } } }

theorem witness_SafetyPortCommands :
    (asked 0x00 0 0).gladeOn = true ∧ (asked 0x00 0 0).glade.sspi.request = some { cmd := 0x00, addr := 0, data := 0 } ∧
    ((0x3FC : BitVec 16).toNat % 4 = 0 ∧ (0x3FC : BitVec 16).toNat < 0x400) ∧ fld (2 : Word) 0 2 ≠ 3 ∧
    ((0x040 : BitVec 16) ≠ 0x0C0 ∧ (0x040 : BitVec 16) ≠ 0x024) ∧ (0xF80 : Word) &&& 0x7F = 0 ∧
    bit (asked 0x11 0 0xF80).glade.holding 11 = false ∧ fld (0x1F17 : Word) 0 16 = 0x1F17 ∧
    fld (0xE0E8 : Word) 0 16 = 0xE0E8 ∧ (asked 0x20 0 0xE0E8).glade.sspi.key1 = true ∧
    (asked 0x00 0 0).glade.sspi.wdRun = true ∧ (asked 0x00 0 0).glade.sspi.lastEnd ≠ some (max (asked 0x00 0 0).now 0) := by decide +kernel

/-- A source raised and not yet registered, an episode of a class open or not, injection unlocked by the host or not. -/
def collecting (cls : Nat) (raised : List (Fin 171)) (inj : Bool) : State :=
  { gladeIn .run with flt := { awake.flt with
      raised := raised, ep := { isOpen := decide (cls ≠ 0), cls := cls }
      inj := { unlocked := inj, firstKey := some (false, 0) } } }

/-- A C0 source, a C1 source and a C3 source. -/
theorem witness_ArrivalOpensAnEpisode :
    ∀ x : Fin 171, x = Src.FC_INJ ∨ x = Src.FO_FLASH ∨ x = Src.PWR_UV → (collecting 0 [x] false).Canonical ∧
      ((collecting 0 [x] false).coreOn = true ∧ x ∈ (collecting 0 [x] false).flt.raised ∧
      x ∉ (collecting 0 [x] false).flt.forcedQ ∧ (collecting 0 [x] false).injMode 11 = 0 ∧
      (collecting 0 [x] false).Fresh (.faultArrival 0 [x]) ∧ (collecting 0 [x] false).flt.ep.isOpen = false ∧
      (((collecting 0 [x] false).stamp 0).judgeArrival { src := x.val, cls := (collecting 0 [x] false).flt.cls x, forced := false }).cls < 4) := by
  rintro x (rfl | rfl | rfl) <;> exact meets (by decide +kernel)

theorem witness_arrival_classes :
    ((collecting 0 [Src.FC_INJ] false).stamp 0 |>.judgeArrival
      { src := Src.FC_INJ.val, cls := (collecting 0 [] false).flt.cls Src.FC_INJ, forced := false }).cls = 0 ∧
    0 < ((collecting 0 [Src.PWR_UV] false).stamp 0 |>.judgeArrival
      { src := Src.PWR_UV.val, cls := (collecting 0 [] false).flt.cls Src.PWR_UV, forced := false }).cls := by decide +kernel

theorem witness_EpisodeEscalationCloseAndClasses :
    ((collecting 1 [Src.PWR_UV] false).Canonical ∧ (collecting 1 [Src.PWR_UV] false).Writable 0 .host 0x48 ∧
      ((collecting 1 [Src.PWR_UV] false).coreOn = true ∧ Src.PWR_UV ∈ (collecting 1 [Src.PWR_UV] false).flt.raised ∧
      Src.PWR_UV ∉ (collecting 1 [Src.PWR_UV] false).flt.forcedQ ∧ (collecting 1 [Src.PWR_UV] false).injMode 11 = 0 ∧
      (collecting 1 [Src.PWR_UV] false).flt.ep.isOpen = true ∧ (collecting 1 [Src.PWR_UV] false).Fresh (.faultArrival 0 [Src.PWR_UV]) ∧
      0 < (((collecting 1 [Src.PWR_UV] false).stamp 0).judgeArrival
        { src := Src.PWR_UV.val, cls := (collecting 1 [Src.PWR_UV] false).flt.cls Src.PWR_UV, forced := false }).cls ∧
      (((collecting 1 [Src.PWR_UV] false).stamp 0).judgeArrival
        { src := Src.PWR_UV.val, cls := (collecting 1 [Src.PWR_UV] false).flt.cls Src.PWR_UV, forced := false }).cls < 4 ∧
      fld (rget (collecting 1 [] false).regs Reg.FC_SRCSEL) 0 8 < 171)) ∧
    (∃ t, ((collecting 1 [] false).stamp t).arrivalsFirst.flt.ep.isOpen = true ∧
      ((collecting 1 [] false).stamp t).arrivalsFirst.flt.ep.cls < 4 ∧
      ((collecting 1 [] false).stamp t).arrivalsFirst.flt.ep.mem &&& ((collecting 1 [] false).stamp t).arrivalsFirst.flt.pend = 0 ∧
      ((collecting 1 [] false).stamp t).arrivalsFirst.quiet = true) ∧
    (((collecting 4 [] false).stamp 0).arrivalsFirst.flt.ep.isOpen = true ∧
      ((collecting 4 [] false).stamp 0).arrivalsFirst.flt.ep.cls = 4 ∧
      ((collecting 1 [] false).stamp 0).arrivalsFirst.quiet = false) :=
  ⟨meets (by decide +kernel), ⟨1000000 * msec, by decide +kernel⟩, by decide +kernel⟩

/-- The second key is good 100 µs after the first; injection left alone for 1 s locks, but for a force of that sample. -/
theorem witness_FaultInjection :
    ((collecting 0 [] false).Canonical ∧ (collecting 0 [] false).Writable 0 .host 0x48 ∧ ((collecting 0 [] false).coreOn = true ∧
      fld (0x1F17 : Word) 0 16 = 0x1F17 ∧ fld (0xE0E8 : Word) 0 16 = 0xE0E8 ∧ (collecting 0 [] false).injEn = true ∧
      (collecting 0 [] false).flt.inj.unlocked = false ∧ (collecting 0 [] false).flt.inj.firstKey = some (false, 0) ∧
      max (collecting 0 [] false).now (100 * usec) ≤ 0 + 100 * usec ∧ fld (0x1F18 : Word) 0 16 ≠ 0x1F17 ∧
      fld (0x1F18 : Word) 0 16 ≠ 0xE0E8 ∧ (collecting 0 [] false).gladeOn = true ∧ pageUsed 0x48 = true)) ∧
    ((collecting 0 [] true).Canonical ∧ (collecting 0 [] true).Writable 0 .host 0x48 ∧
      ((collecting 0 [] true).flt.inj.unlocked = true ∧ (collecting 0 [] true).flt.inj.by_ = false ∧ bit (0x10000 : Word) 16 = true ∧
      1 ≤ fld (0x01B : Word) 0 4 ∧ fld (0xF2B : Word) 0 4 ≤ 11 ∧ fld (0xF1B : Word) 4 2 = 1 ∧ fld (0xF2B : Word) 4 2 = 2 ∧
      fld (0xF2B : Word) 8 4 ≠ 0 ∧ (collecting 0 [] true).Fresh (.fcChkinv 0 .host 0xF2B) ∧
      (collecting 0 [] true).Fresh (.pgFltForce 0 .host 0x48 1) ∧
      (collecting 0 [] true).flt.inj.usedAt + 1000 * msec ≤ max (collecting 0 [] true).now (1000 * msec) ∧
      ((collecting 0 [] true).stamp (1000 * msec)).forcesFirst.flt.inj.unlocked = true ∧
      ((collecting 0 [] false).stamp (1000 * msec)).forcesFirst.flt.inj.unlocked = false ∧
      max (collecting 0 [] true).now 0 < (collecting 0 [] true).flt.inj.usedAt + 1000 * msec ∧
      (collecting 0 [] false).Fresh (.pgFltForce 0 .host 0x48 1))) :=
  ⟨meets (by decide +kernel), meets (by decide +kernel)⟩

/-! ### Witnesses: the array link and the lanes -/

/-- A poll of array 0 with PSEQ 7. -/
def pollOf (kind : BitVec 2) : Poll := { addr := 0, kind := kind, pseq := 7, aen := false, sent := 0 }

/-- Array 0 mapped on skein 0, return lane 0, whose one lane OL0 is in SERVICE; a poll outstanding or none, missing polls so
far, an array register request. -/
def linked (p : Option Poll) (misses : Nat) (q : ArrayReq) : State :=
  { withRegs [(Reg.AM_CFG 0 + 0x800, 1), (Reg.SK_LCFG 0 + 0x800, 0x00408071)] awake with
    skein := awake.skein.set 0 { awake.skein[(0 : Fin 4)] with lmask := 1 }
    lane := awake.lane.set 0 { awake.lane[(0 : Fin 8)] with st := .service }
    ret := awake.ret.set 0 { awake.ret[(0 : Fin 2)] with poll := p }
    arr := awake.arr.set 0 { awake.arr[(0 : Fin 16)] with ready := true, misses := misses }
    areq := q }

theorem witness_PollIntervalPollsTheNextArray : (linked none 0 {}).coreOn = true ∧
    (linked none 0 {}).ret[(0 : Fin 2)].poll = none ∧ (linked none 0 {}).nextPoll 0 = some 0 ∧
    ((linked none 0 {}).linkEntry 0).isSome = true := by decide +kernel

theorem witness_MissingPollsEndReady :
    (∀ m, m = 0 ∨ m = 1 ∨ m = 2 → (linked (some (pollOf 0)) m {}).Canonical ∧ ((linked (some (pollOf 0)) m {}).coreOn = true ∧
      (linked (some (pollOf 0)) m {}).ret[(0 : Fin 2)].poll = some (pollOf 0) ∧ (linked (some (pollOf 0)) m {}).areq.busy = false ∧
      (linked (some (pollOf 0)) m {}).arr[(pollOf 0).addr].misses = m ∧ ((linked (some (pollOf 0)) m {}).stamp 0).responding 0 = false ∧
      (linked (some (pollOf 0)) m {}).arrayIdle 0 = false ∧
      (linked (some (pollOf 0)) m {}).arrayDriven 0 = false ∧ (linked (some (pollOf 0)) m {}).arr[(pollOf 0).addr].inNorsp = false)) ∧
    (withRegs [(Reg.ST_CTRL 0 + 0x800, 1)] (linked (some (pollOf 0)) 2 {})).arrayDriven 0 = true ∧
    (∃ s : State, s.coreOn = true ∧ (s.ret[(0 : Fin 2)]).poll = some (pollOf 0) ∧ s.areq.busy = false ∧
      (s.stamp 0).responding 0 = false ∧ s.arrayIdle 0 = true) := by
  refine ⟨?_, by decide +kernel, withRegs [(Reg.SK_LCFG 0 + 0x800, 0x00408171)] (linked (some (pollOf 0)) 0 {}),
    by decide +kernel⟩
  rintro m (rfl | rfl | rfl) <;> exact meets (by decide +kernel)

/-- A status response with no fault entry and one with eight, an identity and a register read, their CRC-32 worked out
outside the model. -/
def responses : List (BitVec 2 × List Block) :=
  [(0, [0x1070040, 0x0, 0x0, 0x6A8B548B00070041]),
   (0, [0x9070040, 0x0, 0x0, 0x1, 0x1, 0x1, 0x1, 0x1, 0x1, 0x1, 0x1, 0xC9003FE00070041]),
   (1, [0x1071040, 0x1000000000, 0x100080008, 0xBA8E6C1800070041]), (2, [0x72040, 0x12340010, 0x7411A4AD00070041])]

/-- A register read of array 0 in progress. -/
def reading : ArrayReq := { busy := true, addr := 0 }

set_option maxRecDepth 20000 in
theorem witness_AcceptedResponses :
    (∀ x ∈ responses, let s := linked (some (pollOf x.1)) 0 reading
      s.coreOn = true ∧ s.flt.inj.remain = 0 ∧ s.ret[(0 : Fin 2)].poll = some (pollOf x.1) ∧ (s.linkEntry 0).isSome = true ∧
      (State.acceptable (s.stamp 0) (pollOf x.1) x.2).isSome = true ∧ s.areq.polls < 3 ∧ s.NoDecisionAt 0 ∧
      s.Fresh (.statusResponse 0 0 x.2)) ∧
    (linked (some (pollOf 2)) 0 reading).reads 0 = true := by decide +kernel

theorem witness_DiscardedReturns :
    (linked (some (pollOf 0)) 1 {}).Canonical ∧ ((linked (some (pollOf 0)) 1 {}).coreOn = true ∧
    (linked (some (pollOf 0)) 1 {}).flt.inj.remain = 0 ∧ ignoredBlock (ctrlBlock 0x20) = true ∧ ignoredBlock (ctrlBlock 0x0F) = true ∧
    ((linked (some (pollOf 0)) 1 {}).ret[(0 : Fin 2)]).fresh = false ∧ ignoredBlock (ctrlBlock 0x41) = false ∧
    ¬((ctrlBlock 0x41).ctrl = true ∧ fld (ctrlBlock 0x41).d 0 8 = 0x40) ∧ (linked (some (pollOf 0)) 1 {}).arrayIdle 0 = false ∧
    (linked (some (pollOf 0)) 1 {}).NoDecisionAt 0 ∧
    (linked (some (pollOf 0)) 1 {}).Fresh (.statusResponse 0 0 [0x1070040, 0, 0, 0x6A8B548A00070041]) ∧
    (linked (some (pollOf 0)) 1 {}).ret[(0 : Fin 2)].poll = some (pollOf 0) ∧ (linked (some (pollOf 0)) 1 {}).areq.busy = false ∧
    fld (0x1070040 : Block) 0 8 = 0x40 ∧ (linked (some (pollOf 0)) 1 {}).arr[(pollOf 0).addr].misses < 2 ∧
    State.acceptable ((linked (some (pollOf 0)) 1 {}).stamp 0) (pollOf 0) [0x1070040, 0, 0, 0x6A8B548A00070041] = none) :=
  meets (by decide +kernel)

theorem witness_ArrayRegisterRequests :
    ((linked none 0 {}).Canonical ∧ (linked none 0 {}).Writable 0 .host 0x38 ∧ ((linked none 0 {}).areq.busy = false ∧
      bit (0x00 : Word) 4 = false ∧ bit (0x10 : Word) 4 = true ∧
      ((linked none 0 {}).linkEntry (Fin.ofNat 16 (fld (0x00 : Word) 0 4))).isSome = true ∧
      (linked none 0 {}).skein[(0 : Fin 4)].lmask ≠ 0 ∧ (linked none 0 {}).flt.inj.remain = 0 ∧
      (linked none 0 {}).hasCome Reg.AL_ASTAT = false ∧ (State.hit Reg.AL_ASTAT 2 (linked none 0 {})).hasCome Reg.AL_ASTAT = true ∧
      (linked none 0 reading).areq.busy = true)) ∧
    (∃ s : State, s.Canonical ∧ s.Writable 0 .host 0x38 ∧ (s.areq.busy = false ∧ (s.linkEntry 0).isSome = true ∧
      (s.stamp 0).hasCome Reg.AL_ASTAT = false ∧ s.skein[(0 : Fin 4)].lmask = 0)) :=
  ⟨meets (by decide +kernel), { linked none 0 {} with skein := awake.skein }, meets (by decide +kernel)⟩

/-- OL0 on skein 0 in a state, with attempts made. -/
def laneIn (st : LaneState) (org : TrainFrom) (n : BitVec 2) (lock : Bool) : State :=
  { linked none 0 {} with
    lane := awake.lane.set 0 { awake.lane[(0 : Fin 8)] with st := st, from_ := org, attempts := n }
    clk := { awake.clk with lockOl := lock } }

/-- RT_MAX is 3: two attempts leave one more, three none; no RETRY has been noted in the sample. -/
theorem witness_LaneTrainingAndAttempts :
    ((laneIn .train .fresh 0 true).coreOn = true ∧ (laneIn .train .fresh 0 true).lane[(0 : Fin 8)].st = .train ∧
      (laneIn .train .fresh 0 true).lane[(0 : Fin 8)].from_ = .fresh ∧
      (laneIn .train .fresh 0 true).skeinIdle ((laneIn .train .fresh 0 true).laneSkein 0).val = false) ∧
    ((laneIn .train .down 0 true).lane[(0 : Fin 8)].from_ ≠ .fresh ∧ (laneIn .train .hold 0 true).lane[(0 : Fin 8)].from_ = .hold) ∧
    ((laneIn .down .fresh 2 true).lane[(0 : Fin 8)].st = .down ∧
      (laneIn .down .fresh 2 true).lane[(0 : Fin 8)].attempts.toNat < (laneIn .down .fresh 2 true).rtMax 0 ∧
      (laneIn .down .fresh 2 true).clk.lockOl = true ∧ (laneIn .down .fresh 2 false).clk.lockOl = false) ∧
    ((laneIn .down .fresh 3 true).lane[(0 : Fin 8)].st = .down ∧
      (laneIn .down .fresh 3 true).rtMax 0 ≤ (laneIn .down .fresh 3 true).lane[(0 : Fin 8)].attempts.toNat ∧
      (laneIn .down .fresh 3 true).lane[(0 : Fin 8)].retryAt ≠ some (max (laneIn .down .fresh 3 true).now 0 / tick)) := by decide +kernel

/-- With the array READY and the lane not confirmed by it, and with no array READY. -/
theorem witness_HoldStableAndRetry :
    (let m := ((laneIn .hold .down 0 true).stamp 0).statusFirst;
      (laneIn .hold .down 0 true).coreOn = true ∧ m.lane[(0 : Fin 8)].st = .hold ∧ m.lane[(0 : Fin 8)].confirmed = false ∧
      m.laneConfirmed 0 = false ∧ m.lane[(0 : Fin 8)].attempts.toNat < m.rtMax 0) ∧
    (let m := (State.stamp 0 { laneIn .hold .down 0 true with arr := awake.arr }).statusFirst;
      m.lane[(0 : Fin 8)].st = .hold ∧ m.lane[(0 : Fin 8)].confirmed = false ∧ m.laneConfirmed 0 = true) ∧
    ((laneIn .hold .down 0 true).lane[(0 : Fin 8)].st = .hold ∧ (laneIn .service .down 0 true).lane[(0 : Fin 8)].st = .service ∧
      (((laneIn .service .down 0 true).stamp 0).statusFirst).lane[(0 : Fin 8)].st ≠ .hold) ∧
    ((laneIn .failed .down 3 true).Writable 0 .host 0x30 ∧ (bit (1 : Word) 0 = true ∧
      (laneIn .failed .down 3 true).lane[(0 : Fin 8)].st = .failed ∧ 0 < (laneIn .failed .down 3 true).rtMax 0 ∧
      bit (0 : Word) 0 = false)) :=
  ⟨by decide +kernel, by decide +kernel, by decide +kernel, by decide +kernel, by decide +kernel⟩

theorem witness_LaneAndSynthesiserLoss :
    (laneIn .service .fresh 2 true).Canonical ∧ ((laneIn .service .fresh 2 true).coreOn = true ∧
    (laneIn .service .fresh 2 true).lane[(0 : Fin 8)].st = .service ∧ (laneIn .service .fresh 2 true).NoDecisionAt 0 ∧
    (laneIn .hold .fresh 2 true).lane[(0 : Fin 8)].st = .hold ∧ (laneIn .hold .fresh 2 true).NoDecisionAt 0 ∧
    (laneIn .service .fresh 2 true).lane[(0 : Fin 8)].attempts.toNat < (laneIn .service .fresh 2 true).rtMax 0 ∧
    (laneIn .service .fresh 2 true).clk.lockOl = true ∧ ({ laneIn .off .fresh 0 false with cmt := { awake.cmt with accepted := true } }).laneOn 0 = true ∧
    (laneIn .off .fresh 0 false).lane[(1 : Fin 8)].st = .off) := meets (by decide +kernel)

/-- OL0 in LOOP with its test receiver on pattern 1. -/
def looping : State := withRegs [(Reg.SK_LOOP 0, 0x51)] (laneIn .loop .fresh 0 true)

theorem witness_MarkersAndLoopback :
    (looping.Canonical ∧ looping.Writable 0 .host 0x30 ∧ (looping.coreOn = true ∧ looping.lane[(0 : Fin 8)].st = .loop ∧
      bit (rget looping.regs (Reg.SK_LOOP (0 : Fin 8))) 6 = true ∧ fld (rget looping.regs (Reg.SK_LOOP (0 : Fin 8))) 4 2 ≠ 0 ∧
      fld (0 : Word) 0 2 = 0 ∧ looping.laneOn 0 = false)) ∧
    (awake.Canonical ∧ awake.Writable 0 .host 0x37 ∧ (awake.lane[(7 : Fin 8)].st = .off ∧
      gprNamesLane awake.glade.gpr 7 = false ∧ fld (3 : Word) 0 2 ≠ 0)) ∧
    ((0 : Fin 8) ∈ skeinLanes (laneIn .service .fresh 0 true).active 0) :=
  ⟨meets (by decide +kernel), meets (by decide +kernel), by decide +kernel⟩

/-- The three other synthesisers locked. -/
theorem witness_synthesisers : ∃ s : State, s.Canonical ∧ (s.coreOn = true ∧ s.clk.lockPcie = true ∧ s.host.portSpi = false ∧
    s.NoDecisionAt 0 ∧ s.clk.lockSys = true ∧ s.clk.lockIl = true) :=
  ⟨{ awake with clk := { awake.clk with lockSys := true, lockIl := true, lockPcie := true } }, meets (by decide +kernel)⟩

/-- A pattern, its register not all 0, and 64 of its bits; 64 valid headers. -/
theorem witness_patterns : (∀ k, k = 1 ∨ k = 2 ∨ k = 3 → fld (1 : BitVec 31) 0 (prbsTaps k).1 ≠ 0) ∧
    (awake.lane[(0 : Fin 8)]).prbsLock = false ∧ (awake.lane[(0 : Fin 8)]).prbsRun = 0 ∧
    hdrsLock (List.replicate 64 1) = true ∧ hdrsLock (List.replicate 63 1) = false ∧
    lockLost (List.replicate 16 0 ++ List.replicate 16 1) 0 = true ∧ lockLost (List.replicate 15 0 ++ List.replicate 17 1) 0 = false := by
  refine ⟨?_, by decide, by decide, by decide, by decide, by decide, by decide⟩
  rintro k (rfl | rfl | rfl) <;> decide

/-- Return lane 0 enabled and locked. -/
def returning : State :=
  { withRegs [(Reg.BL_CFG + 0x800, 0x11)] (linked none 0 {}) with
    ret := awake.ret.set 0 { awake.ret[(0 : Fin 2)] with lock := true } }

/-- An alert of array 0 whose mask leaves lane 0 out, and one whose mask is 0; their CRC-16 worked out outside the model. -/
theorem witness_ReturnLaneLockAndAlerts :
    returning.Canonical ∧ (returning.coreOn = true ∧ returning.NoDecisionAt 0 ∧ awake.retOn 1 = false ∧
    lockLost [] (80 * tick) = true ∧ lockLost [] (80 * tick - 1) = false ∧ hdrsLock (List.replicate 64 1) = true ∧ returning.ret[(0 : Fin 2)].lock = true ∧ returning.retOn 0 = true ∧
    returning.alertArray 0 0 = none ∧ (returning.alertArray 0 0x646C0000009FE005).isSome = true ∧
    (returning.alertArray 0 0x8B8E000000900005).isSome = true ∧ fld (0x8B8E000000900005 : Block) 12 8 = 0 ∧
    fld (0x646C0000009FE005 : Block) 12 8 ≠ 0 ∧ (0 : Fin 8) ∈ skeinLanes returning.active 0 ∧
    Nat.testBit (fld (0x646C0000009FE005 : Block) 12 8) (returning.laneNo 0) = false ∧
    returning.lane[(0 : Fin 8)].st = .service ∧
    bit returning.skein[returning.laneSkein 0].lmask (returning.laneNo 0) = true ∧
    returning.lane[(0 : Fin 8)].recent = false ∧ returning.lane[(0 : Fin 8)].attempts.toNat < returning.rtMax 0) :=
  meets (by decide +kernel)

/-! ### Witnesses: commits, boundaries and planes -/

/-- A commit of both surfaces armed 20 µs ago with a register word changed. -/
def armedWith (r : Nat × Word) : State :=
  let s := withRegs [r] awake
  { s with
    top := { s.top with loadAt := some 0 }, now := 20 * usec
    cmt := { s.cmt with accepted := true, st := .armed, smask := 3, snap := shadowOnly s.regs } }

/-- A longer period passes; a period of 0 does not. -/
theorem witness_CommitIsArmedAndJudged :
    (awake.Canonical ∧ awake.Writable 0 .host 0x00 ∧ (fld (0x6B1D0001 : Word) 16 16 = 0x6B1D ∧ fld (0x6B1C0001 : Word) 16 16 ≠ 0x6B1D ∧
      awake.cmt.st = .idle ∧ fld (0x6B1D0001 : Word) 0 2 ≠ 0 ∧ fld (0x6B1D0000 : Word) 0 2 = 0)) ∧
    ((armedWith (Reg.TM_PER, 106666668)).Canonical ∧ ((armedWith (Reg.TM_PER, 106666668)).coreOn = true ∧
      (armedWith (Reg.TM_PER, 106666668)).top.loadAt.isSome = true ∧ (armedWith (Reg.TM_PER, 106666668)).cmt.st = .armed ∧
      (armedWith (Reg.TM_PER, 106666668)).cmt.armedAt + 20 * usec ≤ max (armedWith (Reg.TM_PER, 106666668)).now 0 ∧
      ((armedWith (Reg.TM_PER, 106666668)).stamp 0).edgesFirst.commitFails = [] ∧
      (∃ x ∈ ((armedWith (Reg.TM_PER, 106666668)).stamp 0).edgesFirst.changes (armedWith (Reg.TM_PER, 106666668)).cmt.snap, x.2.2 = 3))) ∧
    ((armedWith (Reg.TM_PER, 0)).Canonical ∧ ((armedWith (Reg.TM_PER, 0)).cmt.st = .armed ∧
      ((armedWith (Reg.TM_PER, 0)).stamp 0).edgesFirst.commitFails ≠ [])) :=
  ⟨meets (by decide +kernel), meets (by decide +kernel), meets (by decide +kernel)⟩

theorem witness_TimeBaseBoundary :
    (awake.Canonical ∧ (awake.coreOn = true ∧ awake.top.loadAt = none)) ∧
    (∃ s : State, s.Canonical ∧ (s.coreOn = true ∧ s.top.loadAt.isSome = true ∧ s.cmt.st ≠ .armed ∧ s.timing.en = false)) :=
  ⟨meets (by decide +kernel), { awake with top := { awake.top with loadAt := some 0 } }, meets (by decide +kernel)⟩

/-- Surface 0 shows a driven frame of one array of 8 × 8 on skein 0, in time-base frame 0; boundaries so far, SH_CFG. -/
def lit (fcnt : BitVec 64) (sh : Word) : State :=
  let s := withRegs [(Reg.AM_CFG 0 + 0x800, 1), (Reg.SK_LCFG 0 + 0x800, 0x00408071), (Reg.ST_CTRL 0 + 0x800, 1),
    (Reg.SH_CFG 0 + 0x800, sh)] awake
  { s with
    top := { s.top with loadAt := some 0, storesOk := true }
    skein := s.skein.set 0 { s.skein[(0 : Fin 4)] with lmask := 1 }
    lane := s.lane.set 0 { s.lane[(0 : Fin 8)] with st := .service }
    arr := s.arr.set 0 { s.arr[(0 : Fin 16)] with ready := true }
    surf := s.surf.set 0 { s.surf[(0 : Fin 2)] with
      started := true, showRegs := s.regs, compRegs := s.regs, arrs := 1, per := 106666667, tst := 10000 * 65536 }
    tb := { s.tb with fcnt := fcnt, per := 106666667, next := 106666667 } }

theorem witness_FrameBoundaryShowsTheCompleteFrame :
    ((lit 2 0).Canonical ∧ ((lit 2 0).coreOn = true ∧ (lit 2 0).boundaryDue 0 = true ∧
      (((lit 2 0).stamp 0).endingFirst 0).surf[(0 : Fin 2)].complete = false ∧
      (((lit 2 0).stamp 0).endingFirst 0).surf[(0 : Fin 2)].started = true ∧ (lit 2 0).tb.fcnt ≠ 0 ∧
      (∀ k : Fin 4, ((lit 2 0).skein[k]).buffer = none))) ∧
    ((lit 1 0).Canonical ∧ (lit 1 0).boundaryDue 0 = false) ∧ (awake.Canonical ∧ awake.tb.fcnt = 0) ∧
    (∃ (s : State) (d : Decision), (s.surf[(0 : Fin 2)]).decided = some d ∧ d.swap = (s.surf[(0 : Fin 2)]).complete) :=
  ⟨meets (by decide +kernel), meets (by decide +kernel), meets (by decide +kernel),
    { lit 2 0 with surf := (lit 2 0).surf.set 0 { (lit 2 0).surf[(0 : Fin 2)] with
        decided := some { (lit 2 0).settled 0 with swap := false } } }, { (lit 2 0).settled 0 with swap := false }, by decide +kernel, by decide +kernel⟩

/-- A plane of the frame shown. -/
def planeNo (i : Nat) : Plane :=
  { seq := 0, idx := i, fn := 0, fb := false, prof := false, sSel := 2, dead := false, boxSet := 1, errs := [], bits := [] }

/-- The lit surface at a time, plane 1 waiting in the buffer of skein 0. -/
def buffered (now : Nat) : State :=
  { lit 1 0 with
    now := now, skein := (lit 1 0).skein.set 0 { (lit 1 0).skein[(0 : Fin 4)] with buffer := some (planeNo 1), nextForm := 2 } }

/-- The same at the frame's boundary under shade scheduling, well before the plane's latest load start. -/
def bufferedShade : State :=
  { lit 1 3 with skein := (lit 1 3).skein.set 0 { (lit 1 3).skein[(0 : Fin 4)] with buffer := some (planeNo 1), nextForm := 2 } }

/-- Plane 1 is shown at 742,400, its load lasts 10,368: 732,032 is the last start in time. -/
theorem witness_PlanesAreFormedAndLoaded :
    ((lit 1 0).Canonical ∧ ((lit 1 0).coreOn = true ∧ (lit 1 0).skein[(0 : Fin 4)].buffer = none ∧
      ((lit 1 0).stamp 0).takeUpsFirst.bufferedFor ((lit 1 0).skein[(0 : Fin 4)]).busyTo = true ∧
      (((lit 1 0).stamp 0).takeUpsFirst.target 0).any (fun x => ((lit 1 0).stamp 0).takeUpsFirst.forms x.1 0 &&
        ((lit 1 0).stamp 0).takeUpsFirst.mayStart x.1 0 x.2.1 usec) = true ∧
      (lit 1 0).skein[(0 : Fin 4)].tau = none ∧ (lit 1 0).skein[(0 : Fin 4)].reseq = [])) ∧
    ((buffered 0).skein[(0 : Fin 4)].buffer ≠ none) ∧
    ((((awake.stamp 0).takeUpsFirst).target 0).all (fun x => !(((awake.stamp 0).takeUpsFirst).forms x.1 0)) = true) ∧
    (∀ t, t = 732032 ∨ t = 732033 → (buffered t).Canonical ∧ ((buffered t).skein[(0 : Fin 4)].buffer = some (planeNo 1) ∧
      (((buffered t).stamp 0).frameOf 0 (planeNo 1)).isSome = true ∧
      (buffered t).skein[(0 : Fin 4)].queued.length + (buffered t).skein[(0 : Fin 4)].extra.length < 2 ∧
      (buffered t).skein[(0 : Fin 4)].busyTo ≤ max (buffered t).now 0 ∧ (buffered t).skein[(0 : Fin 4)].stalled = false ∧
      (((buffered t).stamp 0).frameOf 0 (planeNo 1)).all (fun v => ((buffered t).stamp 0).mayStart v 0 1 0) = true ∧
      (buffered t).skein[(0 : Fin 4)].tau = none ∧ (planeNo 1).dead = false ∧ (planeNo 1).entry = false ∧
      (buffered t).skein[(0 : Fin 4)].early = false ∧ (buffered t).skein[(0 : Fin 4)].lmask ≠ 0 ∧
      (buffered t).flt.inj.remain = 0)) ∧
    (((bufferedShade.stamp 0).frameOf 0 (planeNo 1)).any (fun v => !(bufferedShade.stamp 0).mayStart v 0 1 0) = true) ∧
    (((buffered 732032).stamp 0).frameOf 0 (planeNo 1)).all (fun v =>
      decide (max (buffered 732032).now 0 + (buffered 732032).loadTicks v 0 ≤ v.showAt 1)) = true ∧
    (((buffered 732033).stamp 0).frameOf 0 (planeNo 1)).all (fun v =>
      decide (v.showAt 1 < max (buffered 732033).now 0 + (buffered 732033).loadTicks v 0)) = true := by
  refine ⟨meets (by decide +kernel), by decide +kernel, by decide +kernel, ?_, by decide +kernel, by decide +kernel, by decide +kernel⟩
  rintro t (rfl | rfl) <;> exact meets (by decide +kernel)

/-- Plane 0 loaded by its show instant. -/
def loaded (now : Nat) : State :=
  { lit 1 0 with
    now := now, skein := (lit 1 0).skein.set 0 { (lit 1 0).skein[(0 : Fin 4)] with
      queued := [{ plane := planeNo 0, start := 0, stop := 10368, lmask := 1, dark := 0 }] } }

/-- Plane 0 is shown at 102,400. -/
theorem witness_PlanesAreShown :
    ((loaded 102400).coreOn = true ∧ (loaded 102400).surf[(0 : Fin 2)].started = true ∧
      (loaded 102400).surf[(0 : Fin 2)].nextShow < ((loaded 102400).viewNow 0).m.planes ∧
      ((loaded 102400).viewNow 0).showAt (loaded 102400).surf[(0 : Fin 2)].nextShow ≤ max (loaded 102400).now 0 ∧
      (0 : Fin 4) ∈ (loaded 102400).skeinsOf 0 ∧ (loaded 102400).skein[(0 : Fin 4)].extra = [] ∧
      ((loaded 102400).skein[(0 : Fin 4)].queued.find? (fun y => y.plane.fn == ((loaded 102400).viewNow 0).fn &&
        y.plane.idx == (loaded 102400).surf[(0 : Fin 2)].nextShow)).isSome = true) ∧
    ((∀ k : Fin 4, (loaded 102399).skein[k].extra = []) ∧
      max (loaded 102399).now 0 < ((loaded 102399).viewNow 0).showAt (loaded 102399).surf[(0 : Fin 2)].nextShow ∧
      ((loaded 102399).comp[(0 : Fin 2)]).sslack.toNat ≤ 256) ∧ (loaded 102399).flt.inj.remain = 0 ∧
    ((loaded 102400).skein[(0 : Fin 4)].queued.all (fun y => y.ready 102400 && !{ y with cut := true }.ready 102400)) = true ∧
    (1 : Fin 4) ∉ (loaded 102400).skeinsOf 0 ∧ (lit 1 0).skein[(0 : Fin 4)].queued = [] := by decide +kernel

/-- A surface lit after the first commit or before it, its selection and Glade's line as given. -/
def selected (sel acc line : Bool) : State :=
  { lit 1 0 with
    surf := (lit 1 0).surf.set 0 { (lit 1 0).surf[(0 : Fin 2)] with fbSel := sel }
    glade := { (gladeIn (if line then .fbeam else .run)).glade with gpr := gprImage.set 0x64 1 }
    cmt := { awake.cmt with accepted := acc } }

/-- Plane 1 shown on skein 0 under box set 1, Shade on with SPLICE, at a time. -/
def splicing (now : Nat) : State :=
  { lit 1 3 with
    now := now, skein := (lit 1 3).skein.set 0 { (lit 1 3).skein[(0 : Fin 4)] with shown := some (planeNo 1), nextForm := 146 } }

/-- Plane 1 ends at 1,382,400: a splice decided at 1,320,832 is shown 1 µs before. -/
theorem witness_FallbackSelectionAndSplice :
    ((selected false true true).Canonical ∧ ((selected false true true).coreOn = true ∧
      (selected false true true).glade.select (0 : Fin 2) = true ∧ (selected false true true).surf[(0 : Fin 2)].fbSel = false ∧
      (selected false true true).surf[(0 : Fin 2)].fbShow = false ∧ (selected false true true).cmt.accepted = true ∧
      (selected false true true).surf[(0 : Fin 2)].started = true ∧ (0 : Fin 4) ∈ ((selected false true true).viewNow 0).set.skeins ∧
      (selected false true true).skein[(0 : Fin 4)].excl = false ∧ (selected false true true).skein[(0 : Fin 4)].lmask ≠ 0 ∧
      (selected false true true).skein[(0 : Fin 4)].shown = none)) ∧
    ((selected false false true).glade.select (0 : Fin 2) = true ∧ (selected false false true).surf[(0 : Fin 2)].fbSel = false ∧
      (selected false false true).cmt.accepted = false ∧ (selected false false true).surf[(0 : Fin 2)].fbBegun = false) ∧
    ((selected true true false).glade.select (0 : Fin 2) = false ∧ (selected true true false).surf[(0 : Fin 2)].fbSel = true) ∧
    ((selected true true true).surf[(0 : Fin 2)].fbSel = true ∧ (selected false true false).glade.select (0 : Fin 2) = false) ∧
    ((splicing 1320832).Canonical ∧ ((splicing 1320832).skeinSurf 0 = some 0 ∧
      (splicing 1320832).skein[(0 : Fin 4)].shown = some (planeNo 1) ∧
      ((splicing 1320832).stamp 0).spliceFits ((splicing 1320832).viewNow 0) 0 (planeNo 1)
        ((splicing 1320832).loadTicks ((splicing 1320832).viewNow 0) 0) = true)) ∧
    ((splicing 1320833).Canonical ∧ ((splicing 1320833).skeinSurf 0 = some 0 ∧
      ((splicing 1320833).stamp 0).spliceFits ((splicing 1320833).viewNow 0) 0 (planeNo 1)
        ((splicing 1320833).loadTicks ((splicing 1320833).viewNow 0) 0) = false)) :=
  ⟨meets (by decide +kernel), by decide +kernel, by decide +kernel, by decide +kernel, meets (by decide +kernel), meets (by decide +kernel)⟩

/-! ### Witnesses: stores, correction and intake -/

/-- Clears that wait: 15 and 16; a window that takes in a driven emitter (0) and one that is not (1000). -/
theorem witness_HealthMapCommands :
    (∀ q : List Nat, q = List.replicate 15 0 ∨ q = List.replicate 16 0 →
      ({ lit 1 0 with clearQ := q }).Canonical ∧ ({ lit 1 0 with clearQ := q }).Writable 0 .host 0x2C ∧
        (({ lit 1 0 with clearQ := q }).coreOn = true ∧ ({ lit 1 0 with clearQ := q }).flt.inj.remain = 0)) ∧
    (List.replicate 15 0).length < 16 ∧ (lit 1 0).emitterDriven 0 = true ∧
    (lit 1 0).emitterDriven 1000 = false := by
  refine ⟨?_, by decide, by decide +kernel, by decide +kernel⟩
  rintro q (rfl | rfl) <;> exact meets (by decide +kernel)

/-- The lit surface with one word of bank 0 that cannot be corrected. -/
def brokenWord : State := { lit 1 0 with bank0 := { (lit 1 0).bank0 with ue := [2] } }

theorem witness_FrameStoreWindow :
    brokenWord.Canonical ∧ (brokenWord.coreOn = true ∧ 0xFFFFFC + ([1, 2, 3, 4] : List Byte).length ≤ 0x1000000 ∧
    brokenWord.hitsDriven 0 [1] = true ∧ brokenWord.hitsDriven 0xFFFFFC [1, 2, 3, 4] = false ∧
    (brokenWord.bank (bankAt 16).1).ue.contains ((bankAt 16).2 / 8) = true ∧
    (brokenWord.bank (bankAt 0).1).ue.contains ((bankAt 0).2 / 8) = false) := meets (by decide +kernel)

/-- A calibration word that cannot be corrected. -/
def brokenCalib : State := { awake with calib := { awake.calib with ue := [2] } }

theorem witness_LayerAndCalibrationWindows :
    brokenCalib.Canonical ∧ (brokenCalib.coreOn = true ∧ brokenCalib.flt.inj.remain = 0 ∧
    0x7FFFFC + ([1, 2, 3, 4] : List Byte).length ≤ 0x800000 ∧ brokenCalib.calibDead 0 4 = false ∧
    brokenCalib.calibDead 16 4 = true) := meets (by decide +kernel)

/-- Set 0 in use by surface 0, the last entry of the other set addressed, MSTEP 100. -/
def curves : State :=
  withRegs [(Reg.CR_CFG 0 + 0x800, 0), (Reg.CR_TADDR, 0x2000 + 1024), (Reg.CR_MLIM, 100)] (linked none 0 {})

theorem witness_CurvesLimitsAndDerating :
    curves.Writable 0 .host 0x25 ∧ curves.Canonical ∧ curves.Writable 0 .host 0x24 ∧ (curves.coreOn = true ∧ curves.flt.inj.remain = 0 ∧
    (curves.stamp 0).setHeld (fld (rget curves.regs Reg.CR_TADDR) 13 1) = false ∧ (curves.stamp 0).setHeld 0 = true ∧
    fld (99 : Word) 0 16 < fld (rget curves.regs Reg.CR_MLIM) 0 16 ∧
    fld (rget curves.regs Reg.CR_MLIM) 0 16 ≤ fld (100 : Word) 0 16 ∧ curves.linkEntry 0 ≠ none ∧ curves.linkEntry 3 = none ∧
    curves.Fresh (.deratingMapWritten 0 0) ∧ (curves.stamp 0).hasCome (Awaited.status 0).key = false ∧
    (curves.stamp 0).answering 0 = false ∧
    bit curves.tile.atempDef 0 = false) := ⟨by decide +kernel, meets (by decide +kernel)⟩

/-- Stream 0 of one lane, 4 × 8 pixels of L16, SPID 3 to request line 0, its lane locked; the frame of the period that runs. -/
def intaking (cur : Option InFrame) : State :=
  let s := withRegs [(Reg.IN_SCFG 0 + 0x800, 0x02050001), (Reg.IN_SIZE 0 + 0x800, 0x00080004),
    (Reg.IN_TIM 0 + 0x800, 0x00180000), (Reg.IN_SPEN 0 + 0x800, 8)] awake
  { s with
    surf := s.surf.set 0 { s.surf[(0 : Fin 2)] with compRegs := s.regs }
    intake := { s.intake with
      lanes := s.intake.lanes.set 0 { block := true, marker := true, deskew := true }
      streams := s.intake.streams.set 0 { cur := cur } } }

/-- The same with a frame bound to the next period. -/
def intakingNext (f : InFrame) : State :=
  let s := intaking none
  { s with intake := { s.intake with streams := s.intake.streams.set 0 { next := some f } } }

/-- A frame with FN 9 of eight lines, its first lines delivered. -/
def frameNine (upto : Nat) : InFrame := { fn := 9, lines := 8, upto := upto }

/-- The same stream with lines of five pixels. -/
def wider : State :=
  { intaking (some (frameNine 0)) with surf := awake.surf.set 0 { awake.surf[(0 : Fin 2)] with
      compRegs := (withRegs [(Reg.IN_SIZE 0 + 0x800, 0x00080005)] (intaking none)).regs } }

/-- The marks of frame 9 and their CRC-16 worked out outside the model. -/
theorem witness_IntakeLanesAndFrameStart :
    (∀ f, f = none ∨ f = some (frameNine 0) → (intaking f).Canonical ∧ ((intaking f).coreOn = true ∧
      ((intaking f).intake.lanes[(0 : Fin 4)]).locked 0 = true ∧ (intaking f).laneStream 0 = some 0 ∧
      (intaking f).laneStream 1 = none ∧ ((intaking f).intake.lanes[(1 : Fin 4)]).locked 1 = false ∧
      (intaking f).receives 0 = true ∧ (intaking f).receives 1 = false ∧
      ((intaking f).intake.streams[(0 : Fin 4)]).frame false = f ∧ ((intaking f).intake.streams[(0 : Fin 4)]).frame true = none)) ∧
    (∀ b : Block, b = 0xC23000000080930 ∨ b = 0xD8CD000000070930 → fld b 0 8 = 0x30 ∧ Block.crcOk b = true) ∧
    (frameNine 0).isOpen = true ∧ Block.crcOk 0xC23000000080931 = false ∧
    true = decide (((intaking none).nextStart ((intaking none).inSet 0).surf).1 ≤
      max (intaking none).now 0 / tick * tick + ((intaking none).inSet 0).adv) ∧
    ((intakingNext (frameNine 0)).receives 0 = true ∧ ((intakingNext (frameNine 0)).intake.streams[(0 : Fin 4)]).frame true ≠ none ∧
      true = decide (((intakingNext (frameNine 0)).nextStart ((intakingNext (frameNine 0)).inSet 0).surf).1 ≤
        max (intakingNext (frameNine 0)).now 0 / tick * tick + ((intakingNext (frameNine 0)).inSet 0).adv)) ∧
    (∃ s : State, s.coreOn = true ∧ s.receives 0 = true ∧
      false = decide ((s.nextStart (s.inSet 0).surf).1 ≤ max s.now 0 / tick * tick + (s.inSet 0).adv)) ∧
    (lockLost (List.replicate 32 0) 0 = true ∧ ({ hdrs := [], dark := 0, ams := [], missed := 4, skewed := false, idle := false }
      : LockLoss).missed ≥ 4) := by
  refine ⟨?_, ?_, by decide, by decide +kernel, by decide +kernel, by decide +kernel,
    ⟨{ intaking none with tb := { awake.tb with bn := 1000000000, per := 1000000 } }, by decide +kernel⟩, by decide⟩
  · rintro f (rfl | rfl) <;> exact meets (by decide +kernel)
  · rintro b (rfl | rfl) <;> decide +kernel

set_option maxRecDepth 20000 in
/-- Line 0 of frame 9, the FE of frame 9 with all eight lines there and with five of eight (LFIX_MAX 2). -/
theorem witness_IntakeLinesAndFrameEnd :
    (∀ k, k = 0 ∨ k = 5 ∨ k = 8 → (intaking (some (frameNine k))).Canonical ∧
      ((intaking (some (frameNine k))).coreOn = true ∧ (intaking (some (frameNine k))).receives 0 = true ∧
      (intaking (some (frameNine k))).flt.inj.remain = 0 ∧
      ((intaking (some (frameNine k))).intake.streams[(0 : Fin 4)]).place 9 = .frame false ∧
      (intaking (some (frameNine k))).Fresh (.linePacket 0 0 [0xCE64000400000932, 0x0123456789ABCDEF, 0x5C2564E200000933]) ∧
      (frameNine k).missing = [] ∧ (frameNine k).ended = false ∧
      ((intaking (some (frameNine k))).intake.streams[(0 : Fin 4)]).occupied < ((intaking (some (frameNine k))).inSet 0).elb ∧
      ((intaking (some (frameNine k))).inSet 0).lfixMax = 2 ∧ ((intaking (some (frameNine k))).inSet 0).fmt = 0 ∧
      ((intaking (some (frameNine k))).inSet 0).width = 4)) ∧
    (fld (0xCE64000400000932 : Block) 0 8 = 0x32 ∧ Block.crcOk 0xCE64000400000932 = true ∧
      fld (0x5C2564E200000933 : Block) 0 8 = 0x33 ∧ bitsPerPixel 0 ≠ 0 ∧
      ([0x0123456789ABCDEF] : List Block).length = lineBlocks (fld (0xCE64000400000932 : Block) 28 4) (fld (0xCE64000400000932 : Block) 32 13) ∧
      packetCrc [0xCE64000400000932, 0x0123456789ABCDEF, 0x5C2564E200000933] = fld (0x5C2564E200000933 : Block) 32 32 ∧
      packetCrc [0xCE64000400000932, 0x0123456789ABCDEE, 0x5C2564E200000933] ≠ fld (0x5C2564E200000933 : Block) 32 32 ∧
      fld (0xCE64000400000932 : Block) 16 12 = 0 ∧ fld (0xCE64000400000932 : Block) 32 13 = 4 ∧
      fld (0xCC40000000000931 : Block) 0 8 = 0x31 ∧ Block.crcOk 0xCC40000000000931 = true ∧
      BitVec.ofNat 8 (fld (0xCC40000000000931 : Block) 8 8) = (9 : BitVec 8)) ∧
    ((2 : Nat) < (frameNine 5).lines - (frameNine 5).upto ∧ (frameNine 8).upto = (frameNine 8).lines) ∧
    (((intakingNext (frameNine 0)).intake.streams[(0 : Fin 4)]).place 9 = .frame true ∧
      ((intakingNext (frameNine 0)).intake.streams[(0 : Fin 4)]).occupied < ((intakingNext (frameNine 0)).inSet 0).elb ∧
      wider.receives 0 = true ∧ (wider.intake.streams[(0 : Fin 4)]).place 9 = .frame false ∧
      fld (0xCE64000400000932 : Block) 32 13 ≠ (wider.inSet 0).width) := by
  refine ⟨?_, by decide +kernel, by decide, by decide +kernel⟩
  rintro k (rfl | rfl | rfl) <;> exact meets (by decide +kernel)

/-- A side packet of stream 0. -/
def aSlot : SideSlot := { stream := 0, spid := 3, len := 0, fn := 9, lineAfter := 0x1FFF, data := [0] }

/-- Stream 0 with packets stored. -/
def storing (n : Nat) : State :=
  { intaking none with
    intake := { (intaking none).intake with drq := (intaking none).intake.drq.set 0 (List.replicate n aSlot) } }

/-- Eight packets stored, and a read of their aperture that waits. -/
def takingSide : State := { storing 8 with pending := [.sidePacketApertureRead 0 1 0] }

set_option maxRecDepth 20000 in
/-- A packet of SPID 3 with seven and with eight packets stored; SPID 4 is not enabled; a read that waits frees a slot first. -/
theorem witness_SidePackets :
    (takingSide.Canonical ∧ (takingSide.coreOn = true ∧ (takingSide.stamp 0).sample.ahead = [] ∧ takingSide.now ≤ 0 ∧
      takingSide.Fresh (.sidePacketApertureRead 0 1 0) ∧ ((takingSide.stamp 0).freesFirst 0).intake.slots 0 = 7 ∧
      ((takingSide.stamp 0).freesFirst 1).intake.slots 0 = 8)) ∧
    (∀ n, n = 7 ∨ n = 8 → (storing n).Canonical ∧ ((storing n).coreOn = true ∧ (storing n).receives 0 = true ∧
      ((storing n).stamp 0).freesFirst 0 = storing n ∧
      (storing n).intake.slots 0 = n ∧ bit ((storing n).inSet 0).spen 3 = true ∧ bit ((storing n).inSet 0).spen 4 = false ∧
      ((storing n).intake.streams[(0 : Fin 4)]).sideLate 9 = false)) ∧
    (fld (0x577E000009000334 : Block) 0 8 = 0x34 ∧ Block.crcOk 0x577E000009000334 = true ∧
      fld (0x4703E9D800000035 : Block) 0 8 = 0x35 ∧ fld (0x577E000009000334 : Block) 16 5 + 1 = 1 ∧
      packetCrc [0x577E000009000334, 0x1122334455667788, 0x4703E9D800000035] = fld (0x4703E9D800000035 : Block) 32 32 ∧
      fld (0x577E000009000334 : Block) 8 4 = 3 ∧ BitVec.ofNat 8 (fld (0x577E000009000334 : Block) 24 8) = (9 : BitVec 8)) := by
  refine ⟨meets (by decide +kernel), ?_, by decide +kernel⟩
  rintro n (rfl | rfl) <;> exact meets (by decide +kernel)

/-! ### Witnesses: the composer and the fabric -/

/-- Surface 0 of 8 × 2 pixels being composed at a line, slot 0 a layer of that size from the layer store (1) or host memory (2)
with tag 5, its lines fetched; the link ready. -/
def composing (src : Word) (line : Nat) (x : Layer) : State :=
  let s := withRegs [(Reg.CP_SURF 0 + 0x800, 0x00020008), (Reg.LY_CFG 0 + 0x800, 1 ||| src <<< 1), (Reg.LY_STRIDE 0 + 0x800, 64),
    (Reg.LY_TAG 0 + 0x800, 5), (Reg.LY_SSIZE 0 + 0x800, 0x00020008), (Reg.LY_DSIZE 0 + 0x800, 0x00020008),
    (Reg.LY_HSTEP 0 + 0x800, 0x10000), (Reg.LY_VSTEP 0 + 0x800, 0x10000)] awake
  { s with
    surf := s.surf.set 0 { s.surf[(0 : Fin 2)] with compRegs := s.regs }
    comp := s.comp.set 0 { s.comp[(0 : Fin 2)] with composing := true, line := line }, layer := s.layer.set 0 x
    layers := { s.layers with cells := [(0, 5)] }, host := { s.host with linkUp := true, bme := true } }

/-- Both surfaces being composed, with no layer on, and the turn of surface 1. -/
def twoReady : State :=
  let s := withRegs [(Reg.CP_SURF 0 + 0x800, 0x00020008), (Reg.CP_SURF 1 + 0x800, 0x00020008)] awake
  { s with
    surf := Vector.replicate 2 { s.surf[(0 : Fin 2)] with compRegs := s.regs }
    comp := Vector.replicate 2 { s.comp[(0 : Fin 2)] with composing := true }, fab := { s.fab with turn := 1 } }

/-- Both source lines there. -/
def bothLines : Layer :=
  { nextLine := 2, fetched := [{ line := 0, data := some (List.replicate 16 7) }, { line := 1, data := some (List.replicate 16 7) }] }

set_option maxRecDepth 20000 in
theorem witness_LinesAreComposedAndFramesCompleted :
    (awake.Canonical ∧ (awake.coreOn = true ∧ (((awake.stamp 0).fetchesFirst 0).comp[(0 : Fin 2)]).composing = false)) ∧
    ((composing 1 0 {}).Canonical ∧ ((composing 1 0 {}).coreOn = true ∧
      ((((composing 1 0 {}).stamp 0).fetchesFirst 0).comp[(0 : Fin 2)]).composing = true ∧
      ((((composing 1 0 {}).stamp 0).fetchesFirst 0).comp[(0 : Fin 2)]).line <
        ((((composing 1 0 {}).stamp 0).fetchesFirst 0).surfComp 0).h ∧
      (∃ x ∈ (((composing 1 0 {}).stamp 0).fetchesFirst 0).enabledSlots 0,
        ((((composing 1 0 {}).stamp 0).fetchesFirst 0).verdict x 0).1 = .wait false))) ∧
    ((composing 1 0 bothLines).Canonical ∧ ((composing 1 0 bothLines).coreOn = true ∧
      (((composing 1 0 bothLines).stamp 0).fetchesFirst 0).enabledSlots 0 = [0] ∧
      ((((composing 1 0 bothLines).stamp 0).fetchesFirst 0).verdict 0 0).1 = .use ∧
      (((composing 1 0 bothLines).stamp 0).fetchesFirst 0).otherFirst 0 = false ∧
      (((composing 1 0 bothLines).stamp 0).fetchesFirst 0).fab.discard = false ∧
      (((composing 1 0 bothLines).stamp 0).fetchesFirst 0).fab.inj = Vector.replicate 8 0 ∧
      (composing 1 2 bothLines).Fresh (.frameComplete 0 0) ∧ ((composing 1 2 bothLines).comp[(0 : Fin 2)]).composing = true ∧
      ((composing 1 2 bothLines).surfComp 0).h ≤ ((composing 1 2 bothLines).comp[(0 : Fin 2)]).line)) ∧
    (∃ s : State, s.fab.discard = true ∧ ((s.stamp 0).fetchesFirst 0).fab.discard = true) := by
  refine ⟨meets (by decide +kernel), meets (by decide +kernel), meets (by decide +kernel),
    { awake with fab := { awake.fab with discard := true } }, by decide +kernel, by decide +kernel⟩

set_option maxRecDepth 20000 in
/-- Both surfaces ready with the same line, and surface 1 composed last. -/
theorem witness_lines_alternate : ∃ s : State, ((s.stamp 0).fetchesFirst 0).otherFirst 0 = true := by
  refine ⟨twoReady, by decide +kernel⟩

/-- Source line 0 under way with tag 3, answered with data or with an error, or not yet. -/
def awaiting (r : UpResult) : State :=
  let s := composing 2 0 { nextLine := 1, inFlight := [(3, some 0)] }
  { s with host := { s.host with up := [{ tag := 3, who := .line 0 0, addr := 64, len := 16, sent := 0, res := r }] } }

set_option maxRecDepth 20000 in
theorem witness_LineFetches :
    (∀ src : Word, src = 1 ∨ src = 2 → (composing src 0 {}).Canonical ∧ ((composing src 0 {}).coreOn = true ∧
      ((composing src 0 {}).comp[slotSurf 0]).composing = true ∧ ((composing src 0 {}).layerSet 0).en = true ∧
      ((composing src 0 {}).layerSet 0).src = src.toNat ∧ (composing src 0 {}).nextFetch 0 = some 0 ∧
      ((composing src 0 {}).layer[(0 : Fin 16)]).dropped = false ∧ ((composing src 0 {}).layer[(0 : Fin 16)]).torn = false ∧
      (composing src 0 {}).upRoom = true ∧
      BitVec.ofNat 32 ((composing src 0 {}).layers.le ((composing src 0 {}).layerSet 0).base 4) =
        ((composing src 0 {}).layerSet 0).tag)) ∧
    (∀ r, r = .data (List.replicate 16 7) ∨ r = .error → (awaiting r).Canonical ∧ ((awaiting r).coreOn = true ∧
      (awaiting r).Fresh (.lineFetchComplete 0 0) ∧
      ((awaiting r).host.up.find? (fun q => q.ofSlot 0 && !decide (q.res = .waiting))).isSome = true ∧
      ((awaiting r).layer[(0 : Fin 16)]).inFlight.find? (fun y => y.1 == 3) = some (3, some 0) ∧
      ((awaiting r).layer[(0 : Fin 16)]).top ≤ 0)) ∧
    (∀ q ∈ (awaiting .waiting).host.up, q.ofSlot 0 = true → q.res = .waiting) ∧
    (∃ s : State, s.coreOn = true ∧ s.Fresh (.lineFetchComplete 0 0) ∧
      (s.host.up.find? (fun q => q.ofSlot 0 && !decide (q.res = .waiting))).isSome = true ∧ (s.layer[(0 : Fin 16)]).inFlight = []) ∧
    (∃ s : State, s.coreOn = true ∧ s.upRoom = false) := by
  refine ⟨?_, ?_, by decide +kernel, ⟨{ awaiting .error with layer := awake.layer }, by decide +kernel⟩, { awaiting .waiting with
    host := { awake.host with up := List.replicate 64 { tag := 3, who := .line 0 0, addr := 64, len := 16, sent := 0, res := .waiting } } },
    by decide +kernel⟩
  · rintro src (rfl | rfl) <;> exact meets (by decide +kernel)
  · rintro r (rfl | rfl) <;> exact meets (by decide +kernel)

/-- The host may inject, or not. -/
def injecting (ok : Bool) : State :=
  { composing 1 0 bothLines with flt := { awake.flt with inj := { awake.flt.inj with unlocked := ok, by_ := 0 } } }

/-- With tokens of the rings held by the metering. -/
def metered : State := { awake with fab := { awake.fab with tokens := Vector.replicate 5 8 } }

theorem witness_FabricWatchdogAndRegisters :
    (metered.Canonical ∧ (metered.coreOn = true ∧ (metered.stamp 0).watchdogHeld 3 .token = true ∧
      (metered.stamp 0).watchdogHeld 5 (.laneBuffer 0) = true ∧ (awake.stamp 0).watchdogHeld 3 .token = false ∧
      metered.mayStall { live := 1, far := 4, kind := .fifo } = true)) ∧
    (∀ ok, (injecting ok).Canonical ∧ (injecting ok).Writable 0 .host 0x20 ∧ ((injecting ok).coreOn = true ∧
      (injecting ok).mayInject .host = ok ∧ ((injecting ok).stamp 0).watchdogHeld 0 .handshake = false ∧
      ((injecting ok).stamp 0).acknowledged none = false ∧ ((injecting ok).stamp 0).acknowledged (some 0) = true ∧
      ((injecting ok).stamp 0).watchdogHeld 7 .handshake = false ∧ ((injecting ok).comp[(0 : Fin 2)]).composing = true ∧
      ((injecting ok).comp[(1 : Fin 2)]).composing = false ∧ fld (0x10 : Word) 4 2 ≠ 3 ∧ fld (0x30 : Word) 4 2 = 3)) ∧
    (awake.Canonical ∧ awake.Writable 0 .host 0x21 ∧ (thirdStall [999 * msec, 0] (1000 * msec) = true ∧
      thirdStall [999 * msec, 0] (1000 * msec + 1) = false)) := by
  refine ⟨meets (by decide +kernel), ?_, meets (by decide +kernel)⟩
  rintro (_ | _) <;> exact meets (by decide +kernel)

/-! ### Witnesses: DMA and Shade lists -/

/-- Channel 0 as given, request line of its own (15), a host page's link ready, in a phase. -/
def channel (x : DmaCh) (p : Phase) : State :=
  { withRegs [(Reg.DMA_CFG 0, 15)] (inPhase p) with
    dma := { awake.dma with ch := awake.dma.ch.set 0 x }
    host := { awake.host with linkUp := true, bme := true } }

/-- A host-to-host descriptor of 16 bytes with BSIZE 8 and WB: bytes as the channel reads them. -/
def descBytes : List Byte :=
  toBytesLE 8 0x10000 ++ toBytesLE 8 0x20000 ++ toBytesLE 8 0x30000 ++ toBytesLE 4 16 ++ toBytesLE 4 (8 * 256 + 0x60)

theorem witness_DmaControlCommands :
    (∀ st p, (st = .idle ∨ st = .wait ∨ st = .move ∨ st = .parked) → (p = .startUp ∨ p = .service) →
      (channel { st := st } p).Canonical ∧ (channel { st := st } p).Writable 0 .host 0x0A ∧
      ((channel { st := st } p).dma.ch[(0 : Fin 8)].st = st ∧ (channel { st := st } p).top.phase = p ∧
        ((channel { st := st } p).stamp 0).phaseService = (p == .service) ∧ (channel { st := st } p).Fresh (.dmaStop 0 .host 0) ∧
        (channel { st := st } p).Fresh (.dmaSwreq 0 .host 0) ∧ (channel { st := st } p).Fresh (.dmaAbort 0 .host 0) ∧
        (channel { st := st } p).startRefused 0 = false ∧ (channel { st := st } p).dma.ch[(0 : Fin 8)].reread = false)) ∧
    (∃ s : State, s.Canonical ∧ s.Writable 0 .host 0x0A ∧ (s.dma.ch[(0 : Fin 8)].st = .idle ∧ s.startRefused 0 = true)) ∧
    (∃ s : State, s.Canonical ∧ s.Writable 0 .host 0x0A ∧ (s.dma.ch[(0 : Fin 8)].st = .idle ∧ s.startRefused 0 = false ∧
      bit (rget s.regs (Reg.DMA_CFG 0)) 4 = true)) := by
  refine ⟨?_, ⟨withRegs [(Reg.DMA_CFG 0, 9)] (channel {} .service), meets (by decide +kernel)⟩,
    ⟨withRegs [(Reg.DMA_CFG 0, 0x1F)] (channel {} .service), meets (by decide +kernel)⟩⟩
  rintro st p (rfl | rfl | rfl | rfl) (rfl | rfl) <;> exact meets (by decide +kernel)

/-- Channel 0 whose read of host memory with tag 4 has come to an end. -/
def answered (x : DmaCh) (r : UpResult) : State :=
  let s := channel { x with upTag := some 4 } .service
  { s with host := { s.host with up := [{ tag := 4, who := .dma 0, addr := 0, len := 32, sent := 0, res := r }] } }

/-- Channel 0 as given at tick 0, after what the same sample registers first. -/
def requested (x : DmaCh) : State := ((channel x .service).stamp 0).haltFirst 0

theorem witness_DmaDescriptorsRequestsAndGrants :
    (∀ b : List Byte, b = descBytes ∨ b = List.replicate 32 0 → (answered { st := .fetch } (.data b)).Canonical ∧
      ((answered { st := .fetch } (.data b)).coreOn = true ∧
      (answered { st := .fetch } (.data b)).dma.ch[(0 : Fin 8)].curSp = false ∧
      ((answered { st := .fetch } (.data b)).host.up.find? (fun r => some r.tag ==
        ((answered { st := .fetch } (.data b)).dma.ch[(0 : Fin 8)]).upTag)).isSome = true)) ∧
    ((descOf descBytes).malformed = false ∧ (descOf (List.replicate 32 0)).malformed = true) ∧
    ((answered { st := .parked, reread := true } (.data [0, 0, 3, 0, 0, 0, 0, 0])).dma.ch[(0 : Fin 8)].st = .parked ∧
      Nat.testBit (leAt [0, 0, 3, 0, 0, 0, 0, 0] 0 8) 1 = false) ∧
    (∀ x : DmaCh, x = { st := .wait, abortPend := true } ∨ x = { st := .wait, swPend := 1 } →
      ((requested x).dma.ch[(0 : Fin 8)].st = .wait ∧ (requested x).dma.ch[(0 : Fin 8)].abortPend = x.abortPend ∧
        (x.swPend = 1 → (requested x).reqLine 0 ((requested x).dmaReq 0) = true) ∧
        ((requested x).dma.ch[(0 : Fin 8)]).lineSettled 0 = true)) ∧
    ((requested { st := .wait }).dma.ch[(0 : Fin 8)].abortPend = false ∧
      (requested { st := .wait }).reqLine 0 ((requested { st := .wait }).dmaReq 0) = false ∧
      ((requested { st := .wait, swPend := 1, signalAt := some 0 }).dma.ch[(0 : Fin 8)]).lineSettled 0 = false) ∧
    ((channel { st := .move, desc := descOf descBytes } .service).mayGrant 0 = true ∧
      (channel { st := .wait } .service).mayGrant 0 = false) := by
  refine ⟨?_, by decide +kernel, by decide +kernel, ?_, by decide +kernel, by decide +kernel⟩
  · rintro b (rfl | rfl) <;> exact meets (by decide +kernel)
  · rintro x (rfl | rfl) <;> decide +kernel

/-- Channel 0 in MOVE with a burst in progress of a descriptor, some bytes moved. -/
def bursting (d : Desc) (moved : Nat) (r : UpResult) : State :=
  answered { st := .move, burst := true, desc := d, moved := moved } r

/-- The descriptor, and the same into the layer store. -/
def toStore : Desc := { descOf descBytes with dst := 0x01000000, ctl := BitVec.ofNat 32 (8 * 256 + 0x42) }

theorem witness_DmaBurstsAndWriteBacks :
    (∀ d m, d = descOf descBytes ∨ d = toStore → m = 0 ∨ m = 8 → (bursting d m (.data (List.replicate 8 7))).Canonical ∧
      ((bursting d m (.data (List.replicate 8 7))).coreOn = true ∧
      (bursting d m (.data (List.replicate 8 7))).burstReady 0 = true ∧ d.srcChip = false ∧ bit d.ctl 6 = true ∧
      (bursting d m (.data (List.replicate 8 7))).linkReady = true ∧
      (bursting d m (.data (List.replicate 8 7))).burstAnswer 0 = some (List.replicate 8 7) ∧
      ((bursting d m (.data (List.replicate 8 7))).dma.ch[(0 : Fin 8)]).burstLen = 8 ∧
      ((bursting d m (.data (List.replicate 8 7))).dma.ch[(0 : Fin 8)]).left = 16 - m)) ∧
    ((descOf descBytes).dstChip = false ∧ toStore.dstChip = true ∧
      0x01000000 ≤ ((bursting toStore 0 .error).dma.ch[(0 : Fin 8)]).burstDst) ∧
    ((bursting (descOf descBytes) 0 .error).Canonical ∧ ((bursting (descOf descBytes) 0 .error).burstReady 0 = true ∧
      (bursting (descOf descBytes) 0 .error).burstAnswer 0 = none)) ∧
    (∀ x : DmaCh, (x = { st := .wb, lastOut := .aborted } ∨ x = { st := .wb, lastOut := .done, stopPend := true } ∨
        x = { st := .wb, lastOut := .done, desc := { next := 2 } } ∨ x = { st := .wb, lastOut := .done }) →
      (channel x .service).Canonical ∧ ((channel x .service).coreOn = true ∧ (channel x .service).dma.ch[(0 : Fin 8)].st = .wb ∧
        (channel x .service).linkReady = true ∧ (channel x .service).dma.ch[(0 : Fin 8)].curSp = false ∧
        (channel x .service).pending = [])) := by
  refine ⟨?_, by decide +kernel, meets (by decide +kernel), ?_⟩
  · rintro d m (rfl | rfl) (rfl | rfl) <;> exact meets (by decide +kernel)
  · rintro x (rfl | rfl | rfl | rfl) <;> exact meets (by decide +kernel)

/-- An image of no box for surface 0 with LSEQ 7, and its CRC-32 worked out outside the model. -/
def listImage : List Host.Cell := 
  [(0, 0), (1, 0), (2, 7), (3, 0), (4, 5), (5, 0), (6, 0), (7, 0), (8, 131), (9, 79), (10, 68), (11, 136), (12, 0), (13, 0), (14, 0), (15, 0)]

/-- Surface 0's Shade state as given, a mailbox copy under way or not. -/
def shading (x : ShadeSurf) (mb : Option (Fin 2)) : State :=
  { awake with shade := { awake.shade with surf := awake.shade.surf.set 0 x, mbBusy := mb } }

/-- Surface 0 with an active list of a lifetime, stale or not. -/
def lasting (life : Nat) (b : Bool) : State :=
  shading { active := some { nbox := 0, lseq := 7, life := life, boxes := [] }, stale := b } none

set_option maxRecDepth 20000 in
theorem witness_ShadeMailboxAndLists :
    ((shading {} none).Canonical ∧ (shading {} none).Writable 0 .host 0x28 ∧ (bit (1 : Word) 0 = true ∧
      ((shading {} none).stamp 0).goRefused (mailboxSurf (shading {} none).regs) = false)) ∧
    ((shading { fill := [(0, 1)] } none).Canonical ∧ (shading { fill := [(0, 1)] } none).Writable 0 .host 0x28 ∧
      ((shading { fill := [(0, 1)] } none).stamp 0).goRefused (mailboxSurf (shading { fill := [(0, 1)] } none).regs) = true) ∧
    ((shading {} (some 0)).Canonical ∧ ((shading {} (some 0)).coreOn = true ∧ (shading {} (some 0)).flt.inj.remain = 0)) ∧
    ((listOf listImage 0 0).isSome = true ∧ listOf listImage 1 0 = none) ∧
    ((shading { taking := some listImage } none).Canonical ∧ ((shading { taking := some listImage } none).coreOn = true ∧
      (shading { taking := some listImage } none).Fresh (.listTakeUp 0 0) ∧ (shading { taking := some listImage } none).shade.mbBusy ≠ some 0 ∧
      (shading {} none).Fresh (.listTakeUp 0 0) ∧ (shading { taking := some listImage } none).shade.surf[(0 : Fin 2)].fillBad = false)) ∧
    ((lasting 1 false).coreOn = true ∧ ((lasting 1 false).stamp 0).takeUpsFirst = lasting 1 false ∧
      (lasting 1 false).hasCome (Awaited.list 0).key = false ∧ (lasting 0 true).shade.surf[(0 : Fin 2)].stale = true) :=
  ⟨meets (by decide +kernel), meets (by decide +kernel), meets (by decide +kernel), by decide +kernel, meets (by decide +kernel),
    by decide +kernel⟩

theorem witness_DescriptorFetchErrors : (answered { st := .fetch } .error).coreOn = true ∧
    (answered { st := .fetch } .error).dma.ch[(0 : Fin 8)].st = .fetch ∧
    State.fetchResult ((answered { st := .fetch } .error).stamp 0) 0 0 32 = some none := by decide +kernel

theorem witness_SoftwareRequests :
    (channel { st := .wait, swPend := 255 } .service).Writable 0 .host 0x0A ∧
    ((channel { st := .wait, swPend := 255 } .service).coreOn = true ∧
      (channel { st := .wait, swPend := 255 } .service).Fresh (.registerWrite 0 .host (BitVec.ofNat 21 (Reg.DMA_CTRL 0)) 0x10 0xF) ∧
      requested { st := .wait, swPend := 255 } = (channel { st := .wait, swPend := 255 } .service).stamp 0 ∧
      (channel { st := .wait, swPend := 255 } .service).dmaReq 0 = 15 ∧
      (channel { st := .parked } .service).dma.ch[(0 : Fin 8)].st ≠ .idle ∧
      ∃ n, exec (.dmaStop 0 .host 0) (channel { st := .parked } .service) = .next n ∧ n.dma.ch[(0 : Fin 8)].st = .idle) := by
  refine ⟨by decide +kernel, by decide +kernel, by decide +kernel, by decide +kernel, by decide +kernel, by decide +kernel, _, rfl,
    by decide +kernel⟩

/-! ### Witnesses: boot, security commands and debug -/

/-- OTP words set: their bytes by address. -/
def withOtp (l : List Host.Cell) (s : State) : State := { s with sec := { s.sec with otp := l, selfTest := true } }

/-- Slot 1 holds a hash of bytes 0x11 and the three copies of the configuration word enable it. -/
def slotOne : List Host.Cell :=
  (List.range 32).map (fun i => (0x20 + i, 0x11)) ++ [(0xE0, 2), (0xE1, 2), (0xE8, 2), (0xE9, 2), (0xF0, 2), (0xF1, 2)]

/-- Forester in the ROM with slot 1 provisioned, Glade's LOAD ended. -/
def inRom : State :=
  withOtp slotOne { gladeIn .run with fst := { awake.fst with st := .rom } }

/-- An image of 1 KiB for slot 1, not encrypted, with IMGCNT 3 and the payload hash of bytes 0x22. -/
def bootImage : List Byte :=
  toBytesLE 4 0x474B4657 ++ [1, 1, 0, 0] ++ toBytesLE 4 1024 ++ toBytesLE 4 0x10000000 ++ toBytesLE 8 3 ++ List.replicate 8 0 ++
    List.replicate 32 0x22 ++ List.replicate 0x1C0 0 ++ List.replicate 1024 0x5A

/-- An erased journal sector. -/
def noJournal : List Byte := List.replicate 4096 0xFF

set_option maxRecDepth 100000 in
/-- What LOAD asks of this image beside its SHA-256 and ECDSA, whose answers the model leaves open (opaque), holds. -/
theorem bootImage_accepted (dir : List Byte) (h1 : sha256Bytes (dirKey dir 1) = List.replicate 32 0x11)
    (h2 : Config.ecdsaVerify (dirKey dir 1) (Config.sha256 (bootImage.take 0x1C0)) ((bootImage.drop 0x1C0).take 64) = true)
    (h3 : sha256Bytes (imgPayload bootImage) = List.replicate 32 0x22) : inRom.sec.accepts bootImage dir = true := by
  have a1 : leAt bootImage 5 1 = 1 := by decide +kernel
  have a2 : imgHeader bootImage = true := by decide +kernel
  have a3 : inRom.sec.usableImg inRom.sec.cfg 1 = true := by decide +kernel
  have a4 : bit inRom.sec.cfg 27 = false := by decide +kernel
  have a5 : inRom.sec.otpBytes (0x20 * 1) 32 = List.replicate 32 0x11 := by decide +kernel
  have a6 : (bootImage.drop 0x020).take 32 = List.replicate 32 0x22 := by decide +kernel
  have a7 : leAt bootImage 0x010 8 = 3 := by decide +kernel
  have a8 : inRom.sec.arb = 0 := by decide +kernel
  have a9 : inRom.sec.selfTest = true := by decide +kernel
  have a0 : leAt bootImage 6 1 ≠ 1 := by decide +kernel
  have hk : inRom.sec.keyMatches (dirKey dir 1) 1 = true := by simp [Sec.keyMatches, h1, a5]
  have hv : inRom.sec.verify bootImage dir = 1 := by
    simp only [Sec.verify, a1, a2, a3, a4, a6, a7, a8, a9, hk, h2, h3]; rfl
  have ho : inRom.sec.open_ bootImage = some (imgPayload bootImage) := by
    unfold Sec.open_; rw [if_pos a0]
  simp [Sec.accepts, hv, ho]

set_option maxRecDepth 100000 in
/-- The ROM with no journal record, and no image in either slot; with `bootImage_accepted`, an image that is accepted. -/
theorem witness_BootSelectsASlot :
    (inRom.Canonical ∧ (inRom.coreOn = true ∧ inRom.fst.st = .rom ∧ inRom.loading = false ∧ journalOk noJournal = false ∧
      inRom.sec.accepts [] [] = false ∧ inRom.wdRuns = true ∧ inRom.gladeOn = true ∧ inRom.glade.wdSoon 0 = false)) ∧
    (firm.fst.st ≠ .rom) :=
  ⟨meets (by decide +kernel), by decide⟩

/-- Forester's firmware with a command in progress or not, a window open or not, the ROM phase or not. -/
def commanded (j : Option SecJob) (w r : Bool) : State :=
  let s := withRegs [(Reg.SEC_ARB_REQ 0, 2), (Reg.SEC_OTPADDR, 4)] { firm with thm := { awake.thm with window := w } }
  { s with sec := { s.sec with job := j, romPhase := r, imgCnt := 3 } }

set_option maxRecDepth 100000 in
/-- A command starts with a good key (0x05EC); word 4 is blank, and in `inRom` it is not. -/
theorem witness_SecurityCommands :
    (∀ w r, (commanded none w r).Writable 200 .forester 0x60 ∧ ((commanded none w r).fst.st ≠ .reset ∧
      (commanded none w r).sec.job = none ∧ ((commanded none w r).stamp 200).windowBefore = w ∧ (commanded none w r).sec.romPhase = r ∧
      bit (commanded none w r).pwr.railErr 6 = false ∧ (commanded none w r).sec.arb < (commanded none w r).arbReq ∧
      (commanded none w r).arbReq ≤ ((commanded none w r).stamp 200).imgBefore ∧ (commanded none w r).sec.firstBlank = some 0 ∧
      4 ≤ fld (rget (commanded none w r).regs Reg.SEC_OTPADDR) 0 9 ∧
      fld (rget (commanded none w r).regs Reg.SEC_OTPADDR) 0 9 ≤ 27 ∧
      (commanded none w r).sec.blank (fld (rget (commanded none w r).regs Reg.SEC_OTPADDR) 0 9) = true ∧
      lcsOf (commanded none w r).sec.cfg ≠ 3)) ∧
    ((commanded (some { op := 1, arg := false, addr := 0, v := 0 }) false false).sec.job ≠ none ∧
      fld (0x05EC0001 : Word) 16 16 = 0x05EC ∧ fld (0x05ED0001 : Word) 16 16 ≠ 0x05EC) ∧
    ((commanded none false false).sec.cfgCode (commanded none false false).otpData = 0) ∧
    ((withOtp slotOne (commanded none false false)).sec.blank 4 = false ∧
      (withOtp [(0x400, 9)] (commanded none false false)).arbReq < (withOtp [(0x400, 9)] (commanded none false false)).sec.arb ∧
      (withOtp [(0xE3, 1), (0xEB, 1), (0xF3, 1)] (commanded none false false)).sec.cfgCode 0x02000000 ≠ 0) := by
  refine ⟨?_, by decide +kernel, by decide +kernel, by decide +kernel⟩
  rintro (_ | _) (_ | _) <;> exact ⟨by decide +kernel, by decide +kernel⟩

set_option maxRecDepth 100000 in
/-- Each command in progress: VERIFY of either slot, LOAD, ARB_RAISE of the value held and of a new one, OTP_PROG. -/
theorem witness_SecCommandEnds :
    (∀ j : SecJob, j ∈ ([⟨1, false, 0, 0⟩, ⟨1, true, 0, 0⟩, ⟨2, false, 0, 0⟩, ⟨3, false, 0x80, 0⟩, ⟨3, false, 0x80, 2⟩,
        ⟨4, false, 4, 5⟩] : List SecJob) →
      (commanded (some j) false false).Canonical ∧ ((commanded (some j) false false).coreOn = true ∧
        (commanded (some j) false false).sec.job = some j ∧ (commanded (some j) false false).fst.st ≠ .recovery ∧ (commanded (some j) false false).sec.arb = 0)) ∧
    (commanded none false false).sec.job = none := by
  refine ⟨?_, by decide⟩
  intro j hj
  simp only [List.mem_cons, List.not_mem_nil, or_false] at hj
  rcases hj with rfl | rfl | rfl | rfl | rfl | rfl <;> exact meets (by decide +kernel)

/-- A challenge given to slot 1, debug open at a level or not. -/
def debugging (o : Bool) (l : BitVec 2) : State :=
  let s := withOtp slotOne firm
  { s with sec := { s.sec with chalAt := some 0, dbgOpen := o, dbgLevel := l } }

set_option maxRecDepth 100000 in
/-- What R684 asks of a response beside its SHA-256 and ECDSA, whose answers the model leaves open (opaque), holds. -/
theorem response_opens (sig key : List Byte) (h1 : sha256Bytes key = List.replicate 32 0x11)
    (h2 : Config.ecdsaVerify key (Config.sha256 ((debugging false 0).sec.nonce ++ dieBytes ++ [BitVec.ofNat 8 1])) sig = true) :
    (debugging false 0).sec.opens 0 1 1 sig key = true := by
  have a1 : (debugging false 0).sec.usableDbg 1 = true := by decide +kernel
  have a2 : (debugging false 0).sec.otpBytes (0x20 * 1) 32 = List.replicate 32 0x11 := by decide +kernel
  have a3 : (debugging false 0).sec.selfTest = true := by decide +kernel
  have a4 : (debugging false 0).sec.chalValid 0 = true := by decide +kernel
  have hk : (debugging false 0).sec.keyMatches key 1 = true := by unfold Sec.keyMatches; rw [h1, a2]; decide
  simp only [Sec.opens, a1, a3, a4, hk]
  simpa using h2

theorem witness_AuthenticatedDebug :
    (∀ o l, o = false ∧ l = 0 ∨ o = true ∧ l = 1 ∨ o = true ∧ l = 2 → (debugging o l).Canonical ∧
      ((debugging o l).coreOn = true ∧ ((debugging o l).stamp 0).respFirst.sec.failAt = none ∧ (debugging o l).sec.dbgOpen = o ∧
        (debugging o l).sec.dbgLevel = l ∧ (debugging o l).fst.st ≠ .reset)) ∧
    ((debugging false 0).sec.opens 0 3 1 [] [] = false ∧ (debugging false 0).Fresh (.secResp 0 3 1 [] [])) ∧
    (∃ s : State, s.coreOn = true ∧ ((s.stamp 0).respFirst).sec.failAt = some 0 ∧ max s.now 0 < 0 + 1000 * msec) ∧
    ((debugging false 0).stamp 0).respArriving = false ∧
    ({ debugging false 0 with pending := [.secResp 0 1 1 [] []] }.stamp 0).respArriving = true := by
  refine ⟨?_, by decide +kernel, ⟨{ awake with sec := { awake.sec with failAt := some 0 } }, by decide +kernel⟩, by decide +kernel,
    by decide +kernel⟩
  rintro o l (⟨rfl, rfl⟩ | ⟨rfl, rfl⟩ | ⟨rfl, rfl⟩) <;> exact meets (by decide +kernel)

/-! ### Ill-formed commands: one for each check -/

theorem test_wf_window_past_its_end : Instr.wf (.bar2FrameStoreRead 0 .host 0xFFFFFF 2) = false ∧
    Instr.wf (.bar2HealthMapWrite 0 .host 0 []) = false := by decide
theorem test_wf_flash_copy_short : Instr.wf (.gladeLoadEnd 0 { gprA := [], gprB := [], pattern := [] }) = false := by decide
theorem test_wf_upset_outside_store : Instr.wf (.planeCutoff 0 0 [.health 0x10000 false] []) = false := by decide
theorem test_wf_bundle_emitter : Instr.wf (.composeOutputLine 0 0 [] [(0, ⟨0x400000, 1, 1, [], false⟩)]) = false := by decide
theorem test_wf_fill_above_buffer : Instr.wf (.planeShowInstant 0 0 257) = false := by decide
theorem test_wf_empty_return : Instr.wf (.statusResponse 0 0 []) = false := by decide
theorem test_wf_packet_without_end : Instr.wf (.linePacket 0 0 [0]) = false := by decide
theorem test_wf_crossing_to_itself : Instr.wf (.crossingStall 0 1 1 .fifo [] none) = false := by decide
theorem test_wf_register_misaligned : Instr.wf (.registerWrite 0 .host 2 0 0xF) = false := by decide
theorem test_wf_no_arrival : Instr.wf (.faultArrival 0 []) = false := by decide
theorem test_wf_qspi_read_of_nothing : Instr.wf (.qspiRead 0 0 0) = false := by decide
theorem test_wf_frame_began_later : Instr.wf (.sspiFrame 0 1 0 []) = false := by decide
theorem test_wf_tcm_word : Instr.wf (.tcmError 0 (.single 0x10000)) = false := by decide
theorem test_wf_nor_data_long : Instr.wf (.spiNorCommandDone 0 (List.replicate 257 0)) = false := by decide +kernel
theorem test_wf_sensor_data_long : Instr.wf (.sensorTransferDone 0 0 true [0, 0, 0, 0, 0]) = false := by decide
theorem test_wf_response_level : Instr.wf (.secResp 0 3 0 (List.replicate 64 0) (List.replicate 64 0)) = false := by decide

/-! ### One step of a command, results from the spec -/

/-- The command ends in a next state of which a property holds. -/
def after (c : Instr) (s : State) (p : State → Bool) : Bool :=
  match exec c s with
  | .next n => p n
  | _ => false

/-- 20 R695, 15 R537: a core reset takes the core down and leaves Glade running. -/
theorem test_core_reset : after (.coreReset 5) awake (fun n => !n.coreOn && n.gladeOn) = true := by decide +kernel

/-- 03 R93: the bit of emitter 9 is bit 1 of byte 1 of the map. -/
theorem test_hm_set : after (.stHmSet 0 .host 9) awake (fun n => n.health.byte 1 == 2 && n.health.byte 0 == 0) = true := by
  decide +kernel

/-- 03 R94: the seventeenth clear sets CLROVF, bit 8 of ST_HM_STAT. -/
theorem test_hm_clr_full : after (.stHmClr 0 .host 9) { awake with clearQ := List.replicate 16 0 }
    (fun n => rget n.regs Reg.ST_HM_STAT == 0x100 && n.clearQ.length == 16) = true := by decide +kernel

/-- 13 R476: address 0x800000 of the window is byte 0 of bank 1. -/
theorem test_frame_store_write : after (.bar2FrameStoreWrite 0 .host 0x800000 [0x5A]) awake
    (fun n => n.bank1.byte 0 == 0x5A && n.bank0.byte 0 == 0) = true := by decide +kernel

/-- 09 R328: an entry index past 1024 is taken as 1024. -/
theorem test_cr_tdata : after (.crTdataWrite 0 .host 0xFFFFFFFF) (withRegs [(Reg.CR_TADDR, 0x7FF)] awake)
    (fun n => smGet (fun _ => (0 : BitVec 20)) n.corr.curve 1024 == 0xFFFFF) = true := by decide +kernel

/-- 09 R337: MSTEP only falls. -/
theorem test_cr_mlim : after (.crMlim 0 .host 0 200) curves (fun n => rget n.regs Reg.CR_MLIM == 100) = true := by decide +kernel

/-- 15 R551: a stale array of the map raises THM_ATEMP, one that is not in the map does not. -/
theorem test_array_temp_stale : after (.arrayTempStale 0 3) awake (fun n => n.flt.raised == []) = true ∧
    after (.arrayTempStale 0 0) (linked none 0 {}) (fun n => n.flt.raised.contains Src.THM_ATEMP) = true := by
  constructor <;> decide +kernel

/-- 06 R249: a side packet counts in IN_SPCNT. -/
theorem test_side_packet : after (.sidePacket 0 0 [0x577E000009000334, 0x1122334455667788, 0x4703E9D800000035]) (storing 0)
    (fun n => lget n.live (Reg.IN_SPCNT (0 : Fin 4)) == 1 && (n.intake.drq[(0 : Fin 4)]).length == 1) = true := by decide +kernel

/-- 06 R246: FE of a complete frame counts in IN_FRAMES. -/
theorem test_frame_end : after (.frameEnd 0 0 0xCC40000000000931) (intaking (some (frameNine 8)))
    (fun n => lget n.live (Reg.IN_FRAMES (0 : Fin 4)) == 1) = true := by decide +kernel

/-- 06 R233: a header whose CRC-16 is invalid counts once in IN_PKTERR. -/
theorem test_bad_header : after (.linePacket 0 0 [0x0064000400000932, 1, 2]) (intaking (some (frameNine 0)))
    (fun n => lget n.live (Reg.IN_PKTERR (0 : Fin 4)) == 1) = true := by decide +kernel

/-- 08 R309: a margin above 12 is taken as 12. -/
theorem test_fb_mreq : after (.fbMreq 0 .host 0 15) awake (fun n => rget n.regs (Reg.FB_MREQ 0) == 12) = true := by decide +kernel

/-- 14 R510: SWREQ at 255 sets REQOVF and adds nothing. -/
theorem test_swreq_full : after (.dmaSwreq 0 .host 0) (channel { st := .wait, swPend := 255 } .service)
    (fun n => (n.dma.ch[(0 : Fin 8)]).reqOvf && (n.dma.ch[(0 : Fin 8)]).swPend == 255) = true := by decide +kernel

/-- 14 R519: START of a channel whose request line is 9 to 14 is refused with CFGERR. -/
theorem test_dma_start_refused : after (.dmaStart 0 .host 0) (withRegs [(Reg.DMA_CFG 0, 14)] awake)
    (fun n => (n.dma.ch[(0 : Fin 8)]).cfgErr && (n.dma.ch[(0 : Fin 8)]).st == .idle) = true := by decide +kernel

/-- 14 R524: ABORT in SERVICE sets ABTERR. -/
theorem test_dma_abort_in_service : after (.dmaAbort 0 .host 0) (channel { st := .wait } .service)
    (fun n => (n.dma.ch[(0 : Fin 8)]).abtErr && (n.dma.ch[(0 : Fin 8)]).st == .wait) = true := by decide +kernel

/-- 13 R482: PG_OWNER written with OWN_LOCK set stays. -/
theorem test_owner_locked : after (.pgOwnerWrite 0 .host 0x2C 0) (withRegs [(0x2C008, 0x1)] awake)
    (fun n => rget n.regs 0x2C02C == rget awake.regs 0x2C02C) = true ∧
    after (.pgOwnerWrite 0 .host 0x2C 2) awake (fun n => rget n.regs 0x2C02C == rget awake.regs 0x2C02C &&& 2) = true := by
  constructor <;> decide +kernel

/-- 16 R582: with injection locked FB_INJ sets INJERR. -/
theorem test_inject_locked : after (.fbInj 0 .host 0 0x10) (injecting false) (fun n => n.flt.inj.injErr) = true := by decide +kernel

/-- 19 R674: a wrong key is ECODE 2, a right one with nothing in progress starts. -/
theorem test_sec_key : after (.verify 0 0x05ED0001) (commanded none false false) (fun n => n.sec.ecode == 2 && n.sec.job.isNone) = true ∧
    after (.verify 0 0x05EC0001) (commanded none false false) (fun n => n.sec.job.isSome) = true := by
  constructor <;> decide +kernel

/-- 19 R669: programming 5 over 9 leaves 13. -/
theorem test_otp_bits_stay : after (.secCommandEnd 0 [] [])
    (withOtp [(32, 9)] (commanded (some ⟨4, false, 4, 5⟩) false false)) (fun n => n.sec.otpWord 4 == 13) = true := by decide +kernel

/-- 19 R683: ten seconds after a challenge no response is accepted. -/
theorem test_challenge_expiry : after (.challengeExpiry 0) (debugging false 0) (fun n => n.sec.chalAt.isNone) = true := by
  decide +kernel

/-- 05 R211: RETRY of a FAILED lane takes it to DOWN with ATTEMPTS 0. -/
theorem test_retry : after (.retry 0 .host 0 1) (laneIn .failed .fresh 3 true)
    (fun n => (n.lane[(0 : Fin 8)]).st == .down && (n.lane[(0 : Fin 8)]).attempts == 0) = true := by decide +kernel

/-- 05 R200: 10 ms of idle make an intake lane stale. -/
theorem test_intake_idle : after (.intakeIdleTimeExpiry 0 2) awake (fun n => (n.intake.lanes[(2 : Fin 4)]).stale) = true := by
  decide +kernel

/-- 11 R411: an arming with a wrong key arms nothing. -/
theorem test_commit_key : after (.topCommit 0 .host 0x6B1C0003) awake (fun n => n.cmt.st == .idle) = true := by decide +kernel

/-- 13 R477: a write with byte enables of a part of the dword has no effect and counts in HOST_BADACC. -/
theorem test_partial_write : after (.registerWrite 0 .host (BitVec.ofNat 21 (Reg.DMA_CFG 0)) 15 7) awake
    (fun n => rget n.regs (Reg.DMA_CFG 0) == rget awake.regs (Reg.DMA_CFG 0) && rget n.regs Reg.HOST_BADACC == 1) = true := by
  decide +kernel


/-- 08 R298, R299: an all-zero field with parity 0 fails its parity; a digit of two rails and the value 6 are code errors; a
good bundle has no error. -/
theorem test_bundle_checks : bundleErrors ⟨7, 1, 2, [(0, false)], false⟩ = [.parity 7] ∧
    bundleErrors ⟨7, 3, 2, [(1, false)], false⟩ = [.code] ∧ bundleErrors ⟨7, 2, 4, [(1, false)], false⟩ = [.code] ∧
    bundleErrors ⟨7, 2, 2, [(1, false), (3, true)], false⟩ = [] := by decide +kernel

/-! ### Values the spec tables -/

/-- 22 R722: balls of each kind. -/
theorem test_ball_counts : ([.signal, .vss, .core, .sram, .vdda, .vddh, .io18, .io33, .gld, .otp] : List Ball).map ballCount =
    [100, 147, 42, 24, 16, 14, 6, 6, 4, 2] ∧ signalBalls.length = 100 := by decide +kernel

/-- 22 R724: every ball of the pin table is a signal ball of the map, and no ball carries two signals. -/
theorem test_signal_balls : signalBalls.all (fun b => ballAt b.1 b.2 == some .signal) = true ∧ signalBalls.Nodup := by
  decide +kernel

/-- 22 R728, R729 and 16 R571: a recommended range lies inside the trip limits and below the rating. -/
theorem test_rail_ranges : (List.range 7).all (fun r => (railLimits r).1 < (railRange r).1 && (railRange r).2 < (railLimits r).2 &&
    (railLimits r).2 < railRating r) = true := by decide

/-- 05 R185: rates of output and return lanes in Mb/s. -/
theorem test_lane_rates : (List.range 8).map laneRate = [2500, 3125, 5000, 6250, 8000, 10000, 12500, 16000] ∧
    (List.range 4).map retRate = [1250, 2500, 3125, 5000] := by decide

/-- 13 R460: the identity in the configuration header. -/
theorem test_header : vendorId (fun _ => 0) = 0x1F2E ∧ deviceId (fun _ => 0) = 0x4410 ∧ revisionId (fun _ => 0) = 0xB1 ∧
    classCode (fun _ => 0) = 0x038000 ∧ subsystemVendorId (fun _ => 0) = 0x1F2E ∧ subsystemId (fun _ => 0) = 1 := by
  decide +kernel

/-- 05 R188, R189: the header's bits stand below the payload; with zeros before it, a one at bit 0 returns at bits 39 and 58. -/
theorem test_scrambler : wireBits (syncHeader (dataBlock 1)) 1 = 0b101#66 ∧
    (scramble 0 1).1 = BitVec.ofNat 64 (1 + 2 ^ 39 + 2 ^ 58) ∧
    (descrambleBits 0 (payloadBits (scramble 0 1).1)).1 = payloadBits 1 := by decide +kernel

/-- 08 R314: an acknowledge of the tick of the trip prevails. -/
theorem test_watchdog_tie : after (.segmentWatchdog 64 7 .handshake (some 64)) (injecting true)
    (fun n => !n.flt.raised.contains Src.FB_STALL) = true ∧
    after (.segmentWatchdog 64 7 .handshake none) (injecting true) (fun n => n.flt.raised.contains Src.FB_STALL) = true := by
  constructor <;> decide +kernel
end Sys2Proof.Tests
end

section
/-! Register pages: who may write PG_OWNER and what a write leaves there (13 R482, R483; 17 R633). -/

namespace Sys2Proof.Machine

open Sys2Proof

/-- PG_OWNER_WRITE in the dispatch: every proof about the command enters its body here. -/
theorem exec_pgOwnerWrite (t : Nat) (req : Req) (page : Byte) (v : Word) (s : State) :
    exec (.pgOwnerWrite t req page v) s = execPgOwnerWrite t req page v s := rfl

/-! ### Words with a bit cleared -/

/-- A bit of a word with bit `j` cleared. -/
theorem bit_clearBit {w : Nat} (x : BitVec w) (i j : Nat) : bit (clearBit x j) i = (bit x i && decide (i ≠ j)) := by
  by_cases hi : i < w
  · have mask : (BitVec.ofNat w (2 ^ j)).getLsbD i = decide (i = j) := by
      rw [BitVec.getLsbD_ofNat, Nat.testBit_two_pow]
      simp [hi, eq_comm]
    rw [bit, clearBit, BitVec.getLsbD_and, BitVec.getLsbD_not, mask]
    simp [bit, hi]
  · simp [bit, BitVec.getLsbD_of_ge _ _ (Nat.le_of_not_gt hi)]

/-! ### What PG_OWNER holds after a write -/

/-- A locked page keeps its owner. -/
theorem ownerAfter_locked {req : Req} {page : Byte} {ctrl old v : Word} (h : bit ctrl 0 = true) :
    ownerAfter req page ctrl old v = old := by
  simp [ownerAfter, h]

/-- The GLADE page keeps its owner. -/
theorem ownerAfter_glade {req : Req} {ctrl old v : Word} : ownerAfter req 0x50 ctrl old v = old := by
  simp [ownerAfter]

/-- Forester stores both bits of an open page. -/
theorem ownerAfter_forester {page : Byte} {ctrl old v : Word} (h : bit ctrl 0 = false) (hp : page ≠ 0x50) :
    ownerAfter .forester page ctrl old v = v &&& 3 := by
  rw [ownerAfter, h, beq_false_of_ne hp]; rfl

/-- The host gives an open page up by a 0 in HOST_W, and changes nothing else. -/
theorem bit_ownerAfter_host {page : Byte} {ctrl old v : Word} (h : bit ctrl 0 = false) (hp : page ≠ 0x50) (i : Nat) :
    bit (ownerAfter .host page ctrl old v) i = (bit old i && (decide (i ≠ 0) || bit v 0)) := by
  have written : ownerAfter .host page ctrl old v = if bit v 0 then old else clearBit old 0 := by
    rw [ownerAfter, h, beq_false_of_ne hp]; rfl
  rw [written]
  cases hv : bit v 0
  · simp [bit_clearBit]
  · simp

/-- A DMA channel changes no owner. -/
@[simp] theorem ownerAfter_dma {ch : Fin 8} {page : Byte} {ctrl old v : Word} :
    ownerAfter (.dma ch) page ctrl old v = old := by
  simp [ownerAfter]

/-! ### The write -/

/-- The register file after a write to PG_OWNER: one word set, by the OWN_LOCK in force before the sample. -/
theorem State.writeOwner_regs {req : Req} {page : Byte} {v : Word} {s : State} :
    (s.writeOwner req page v).regs =
      rset (hdr page.toNat 0x02C)
        (ownerAfter req page (s.before (hdr page.toNat 0x008)) (rget s.regs (hdr page.toNat 0x02C)) v) s.regs := rfl

/-- PG_OWNER is the only word that a write to it changes. -/
theorem State.writeOwner_regsOnly {req : Req} {page : Byte} {v : Word} {s : State} :
    RegsOnly [hdr page.toNat 0x02C] s (s.writeOwner req page v) := by
  intro a ha
  rw [State.writeOwner_regs]
  exact rget_rset_ne (List.ne_of_not_mem_cons ha)

/-- PG_OWNER reads what the write leaves there. -/
theorem State.writeOwner_owner {req : Req} {page : Byte} {v : Word} {s : State} (h : s.Canonical) :
    rget (s.writeOwner req page v).regs (hdr page.toNat 0x02C) =
      ownerAfter req page (s.before (hdr page.toNat 0x008)) (rget s.regs (hdr page.toNat 0x02C)) v := by
  rw [State.writeOwner_regs]
  exact rget_rset_self h.regs

/-- A write to PG_OWNER of a page in use whose domain answers is performed at its instant. -/
theorem execPgOwnerWrite_reached {t : Nat} {req : Req} {page : Byte} {v : Word} {s : State} (on : s.coreOn = true)
    (used : pageUsed page.toNat = true) (answers : s.stalledTo (pageDomain page.toNat) = false) :
    execPgOwnerWrite t req page v s = .next ((s.stamp t).writeOwner req page v) := by
  simp [execPgOwnerWrite, onCore_on on, State.when_true used, answers]

/-- Settles O18: the write is performed as `writeOwner`, and `ownerAfter` has one law for each line of 13 R482. -/
theorem pageOwnerWrites : Obligations.PageOwnerWrites := by
  unfold Obligations.PageOwnerWrites
  intro t req page v old s on used answers canon hold
  have canonT : (s.stamp t).Canonical := .only State.stamp_only rfl canon
  have owner : rget ((s.stamp t).writeOwner req page v).regs (page.toNat * 0x1000 + 0x02C) =
      ownerAfter req page ((s.stamp t).before (page.toNat * 0x1000 + 0x008)) old v := by
    rw [hold]; exact State.writeOwner_owner canonT
  refine ⟨(s.stamp t).writeOwner req page v, ?_, State.writeOwner_regsOnly,
    .app State.writeOwner_only rfl (State.stamp_only.mono rfl), ?_, ?_, ?_⟩
  · rw [exec_pgOwnerWrite, execPgOwnerWrite_reached on used answers]
  · intro locked
    rw [owner, ownerAfter_locked locked]
  · rintro rfl
    rw [owner, ownerAfter_glade]
  · intro opened notGlade
    rw [owner]
    refine ⟨?_, ?_, ?_⟩
    · rintro rfl
      exact ownerAfter_forester opened notGlade
    · rintro rfl i
      exact bit_ownerAfter_host opened notGlade i
    · rintro ch rfl
      exact ownerAfter_dma

end Sys2Proof.Machine
end

section
/-! A DMA channel's descriptor fetch that ends in error (14 R516). -/

namespace Sys2Proof.Machine

open Sys2Proof

/-! ### One channel replaced -/

/-- The engine after a channel is replaced. -/
@[simp] theorem State.setCh_dma {n : Fin 8} {x : DmaCh} {s : State} :
    (s.setCh n x).dma = { s.dma with ch := s.dma.ch.set n x } := rfl

/-- The later of two replacements of a channel stays. -/
theorem State.setCh_setCh {n : Fin 8} {x y : DmaCh} {s : State} : (s.setCh n x).setCh n y = s.setCh n y := by
  simp [State.setCh]

/-! ### A descriptor fetch that ends in error (14 R516) -/

/-- DESCRIPTOR_FETCHED in the dispatch. -/
theorem exec_descriptorFetched (t : Nat) (c : Fin 8) (s : State) :
    exec (.descriptorFetched t c) s = execDescriptorFetched t c s := rfl

/-- A source raised and a bit set by an event change no register word, no count and no output. -/
theorem State.report_raise_hit {x : Fin 171} {a m : Nat} {s : State} :
    s.report [.raise x, .hit a m] = State.hit a m { s with flt := { s.flt with raised := s.flt.raised ++ [x] } } := rfl

/-- The channel after a descriptor fetch that ends in error. -/
def DmaCh.fetchFailed (x : DmaCh) : DmaCh := { x.toIdle with fetchErr := true }

/-- The engine after the read has been taken. -/
theorem State.dmaTook_dma {n : Fin 8} {s : State} :
    (s.dmaTook n).dma = { s.dma with ch := s.dma.ch.set n { s.dma.ch[n] with upTag := none } } := rfl

/-- A failed fetch makes the channel idle, whichever read it had under way, and the other channels stay. -/
theorem State.fetchError_dmaTook_dma {n : Fin 8} {s : State} :
    ((s.dmaTook n).fetchError n).dma = { s.dma with ch := s.dma.ch.set n (s.dma.ch[n]).fetchFailed } := by
  simp [State.fetchError, State.dmaTook_dma, DmaCh.fetchFailed, DmaCh.toIdle]

/-- A failed fetch raises DMA_FETCH alone. -/
theorem State.fetchError_dmaTook_raised {n : Fin 8} {s : State} :
    Raised [Src.DMA_FETCH] s ((s.dmaTook n).fetchError n) := rfl

/-- A failed fetch writes nothing back and sends nothing: beside the channel only the host port forgets the read. -/
theorem State.fetchError_dmaTook_only {n : Fin 8} {s : State} :
    Only [.now, .host, .dma, .flt] s ((s.dmaTook n).fetchError n) := by
  rw [State.fetchError, State.report_raise_hit]
  exact .app State.hit_only rfl (.app Only.set_flt rfl (.app State.setCh_only rfl (.app State.dmaTook_only rfl .refl)))

/-- An error answer to the read of a channel in FETCH is a failed fetch. -/
theorem State.descriptorIn_error {n : Fin 8} {s : State} (st : (s.dma.ch[n]).st = .fetch)
    (answer : s.fetchResult n (s.dma.ch[n]).cur.toNat 32 = some none) :
    s.descriptorIn n = (s.dmaTook n).fetchError n := by
  simp only [State.descriptorIn, st, answer, if_true]

/-- Settles O56: the command is the failed fetch at its instant, and the rules of the failed fetch say the rest. -/
theorem descriptorFetchErrors : Obligations.DescriptorFetchErrors := by
  unfold Obligations.DescriptorFetchErrors
  intro t c s on st answer
  have dma := State.fetchError_dmaTook_dma (n := c) (s := s.stamp t)
  have ch : (((s.stamp t).dmaTook c).fetchError c).dma.ch[c] = (s.dma.ch[c]).fetchFailed := by simp [dma]
  have only : Only [.now, .host, .dma, .flt] s (((s.stamp t).dmaTook c).fetchError c) :=
    .app State.fetchError_dmaTook_only rfl (.app State.stamp_only rfl .refl)
  refine ⟨((s.stamp t).dmaTook c).fetchError c, ?_, dma, ?_, ?_, ?_, State.fetchError_dmaTook_raised, only .out rfl, only⟩
  · rw [exec_descriptorFetched, execDescriptorFetched, onCore_on on, State.descriptorIn_error (s := s.stamp t) st answer]
  all_goals rw [ch]; rfl

end Sys2Proof.Machine
end

section
/-! What a command leaves alone, by the parts that `touches` lists for it. -/

namespace Sys2Proof.Machine

open Sys2Proof

/-- A longer list of parts says less of an answer. -/
theorem OnlyOut.mono {l m : List Part} {s : State} {o : Host.Outcome State Fault Refusal} (h : OnlyOut m s o)
    (hm : m.all (fun p => l.contains p) = true) : OnlyOut l s o := fun t e => (h t e).mono hm

/-- A command changes no part that `touches` does not list for it. -/
theorem exec_only {k : Instr} {s : State} : OnlyOut (touches k) s (exec k s) := by
  cases k with
  | porstNRelease => exact execPorstNRelease_only.mono rfl
  | porstNAssert => exact execPorstNAssert_only.mono rfl
  | storeInitDone => exact execStoreInitDone_only.mono rfl
  | cryptoSelfTestDone => exact execCryptoSelfTestDone_only.mono rfl
  | coreUnderVoltage => exact execCoreUnderVoltage_only.mono rfl
  | coreReset => exact execCoreReset_only.mono rfl
  | coreRelease => exact execCoreRelease_only.mono rfl
  | gladePowerLoss => exact execGladePowerLoss_only.mono rfl
  | gladeLoadEnd => exact execGladeLoadEnd_only.mono rfl
  | timeBaseBoundary => exact execTimeBaseBoundary_only.mono rfl
  | genlockEdge => exact execGenlockEdge_only.mono rfl
  | genlockMissing => exact execGenlockMissing_only.mono rfl
  | holdoverExpiry => exact execHoldoverExpiry_only.mono rfl
  | genlockOutPulseEnd => exact execGenlockOutPulseEnd_only.mono rfl
  | surfaceFrameBoundary => exact execSurfaceFrameBoundary_only.mono rfl
  | deratingMapWritten => exact execDeratingMapWritten_only.mono rfl
  | decisionInstant => exact execDecisionInstant_only.mono rfl
  | planeCutoff => exact execPlaneCutoff_only.mono rfl
  | planeLoadStart => exact execPlaneLoadStart_only.mono rfl
  | planeShowInstant => exact execPlaneShowInstant_only.mono rfl
  | tickRow => exact execTickRow_only.mono rfl
  | fallbackSelectRise => exact execFallbackSelectRise_only.mono rfl
  | fallbackSelectFall => exact execFallbackSelectFall_only.mono rfl
  | splice => exact execSplice_only.mono rfl
  | bar2FrameStoreRead => exact execBar2FrameStoreRead_only.mono rfl
  | bar2FrameStoreWrite t req => exact (execBar2FrameStoreWrite_only (x1 := req)).mono rfl
  | bar2HealthMapWrite t req => exact (execBar2HealthMapWrite_only (x1 := req)).mono rfl
  | bar2LayerStoreWrite t req => exact (execBar2LayerStoreWrite_only (x1 := req)).mono rfl
  | bar2CalibrationWrite t req => exact (execBar2CalibrationWrite_only (x1 := req)).mono rfl
  | bar2CalibrationRead => exact execBar2CalibrationRead_only.mono rfl
  | stHmSet => exact execStHmSet_only.mono rfl
  | stHmClr => exact execStHmClr_only.mono rfl
  | pollInterval => exact execPollInterval_only.mono rfl
  | missingPoll => exact execMissingPoll_only.mono rfl
  | statusResponse => exact execStatusResponse_only.mono rfl
  | identityResponse => exact execIdentityResponse_only.mono rfl
  | registerReadResponse => exact execRegisterReadResponse_only.mono rfl
  | returnBlockDiscard => exact execReturnBlockDiscard_only.mono rfl
  | arrayRegWrite => exact execArrayRegWrite_only.mono rfl
  | arrayRegRead => exact execArrayRegRead_only.mono rfl
  | lalertReceived => exact execLalertReceived_only.mono rfl
  | outputDriverFault => exact execOutputDriverFault_only.mono rfl
  | trainingBurstEnd => exact execTrainingBurstEnd_only.mono rfl
  | retrainWaitExpiry => exact execRetrainWaitExpiry_only.mono rfl
  | holdConfirmTimeout => exact execHoldConfirmTimeout_only.mono rfl
  | holdIdleTimeout => exact execHoldIdleTimeout_only.mono rfl
  | serviceStableTimer => exact execServiceStableTimer_only.mono rfl
  | synthesiserLockLoss => exact execSynthesiserLockLoss_only.mono rfl
  | synthesiserRelock => exact execSynthesiserRelock_only.mono rfl
  | markerSlot => exact execMarkerSlot_only.mono rfl
  | retry => exact execRetry_only.mono rfl
  | skLoopWrite => exact execSkLoopWrite_only.mono rfl
  | returnLaneLockLoss => exact execReturnLaneLockLoss_only.mono rfl
  | intakeLaneLockLoss => exact execIntakeLaneLockLoss_only.mono rfl
  | frameStart => exact execFrameStart_only.mono rfl
  | linePacket => exact execLinePacket_only.mono rfl
  | frameEnd => exact execFrameEnd_only.mono rfl
  | sidePacket => exact execSidePacket_only.mono rfl
  | plyBlockError => exact execPlyBlockError_only.mono rfl
  | sidePacketApertureRead => exact execSidePacketApertureRead_only.mono rfl
  | composeOutputLine => exact execComposeOutputLine_only.mono rfl
  | lineFetchIssue => exact execLineFetchIssue_only.mono rfl
  | lineFetchComplete => exact execLineFetchComplete_only.mono rfl
  | frameComplete => exact execFrameComplete_only.mono rfl
  | segmentWatchdog => exact execSegmentWatchdog_only.mono rfl
  | fbInj => exact execFbInj_only.mono rfl
  | fbMreq => exact execFbMreq_only.mono rfl
  | fbClr => exact execFbClr_only.mono rfl
  | droopTrip => exact execDroopTrip_only.mono rfl
  | droopRelease => exact execDroopRelease_only.mono rfl
  | droopLong => exact execDroopLong_only.mono rfl
  | railSample => exact execRailSample_only.mono rfl
  | monitorSelfCheck => exact execMonitorSelfCheck_only.mono rfl
  | dieModelStep => exact execDieModelStep_only.mono rfl
  | throttleStep => exact execThrottleStep_only.mono rfl
  | orderlyWindowEnd => exact execOrderlyWindowEnd_only.mono rfl
  | trefStale => exact execTrefStale_only.mono rfl
  | arrayTempStale => exact execArrayTempStale_only.mono rfl
  | thmTref => exact execThmTref_only.mono rfl
  | thmTjadd => exact execThmTjadd_only.mono rfl
  | thmLim => exact execThmLim_only.mono rfl
  | clockMonitorWindow => exact execClockMonitorWindow_only.mono rfl
  | crossingStall => exact execCrossingStall_only.mono rfl
  | hostPortReset => exact execHostPortReset_only.mono rfl
  | upstreamCompletion => exact execUpstreamCompletion_only.mono rfl
  | completionTimeout => exact execCompletionTimeout_only.mono rfl
  | registerWrite => exact execRegisterWrite_only.mono rfl
  | qspiRead => exact execQspiRead_only.mono rfl
  | qspiReadTimeout => exact execQspiReadTimeout_only.mono rfl
  | qspiWrite => exact execQspiWrite_only.mono rfl
  | qspiStatus => exact execQspiStatus_only.mono rfl
  | qspiIdent => exact execQspiIdent_only.mono rfl
  | pgOwnerWrite => exact execPgOwnerWrite_only.mono rfl
  | ownLock => exact execOwnLock_only.mono rfl
  | pgIrqPendClear => exact execPgIrqPendClear_only.mono rfl
  | pgIrqForce => exact execPgIrqForce_only.mono rfl
  | pgFltForce => exact execPgFltForce_only.mono rfl
  | hostVecArm => exact execHostVecArm_only.mono rfl
  | msixMessage => exact execMsixMessage_only.mono rfl
  | mbDoor => exact execMbDoor_only.mono rfl
  | mailboxTimeout => exact execMailboxTimeout_only.mono rfl
  | fpMbDone => exact execFpMbDone_only.mono rfl
  | fpMbEvt => exact execFpMbEvt_only.mono rfl
  | topCommit => exact execTopCommit_only.mono rfl
  | topPhaseWrite => exact execTopPhaseWrite_only.mono rfl
  | shutdownStart => exact execShutdownStart_only.mono rfl
  | shutdownEnd => exact execShutdownEnd_only.mono rfl
  | dmaStart => exact execDmaStart_only.mono rfl
  | dmaStop => exact execDmaStop_only.mono rfl
  | dmaAbort => exact execDmaAbort_only.mono rfl
  | dmaDoor => exact execDmaDoor_only.mono rfl
  | dmaSwreq => exact execDmaSwreq_only.mono rfl
  | descriptorFetched => exact execDescriptorFetched_only.mono rfl
  | dmaRequestTaken => exact execDmaRequestTaken_only.mono rfl
  | dmaBurstGrant => exact execDmaBurstGrant_only.mono rfl
  | dmaBurstEnd => exact execDmaBurstEnd_only.mono rfl
  | dmaBusError => exact execDmaBusError_only.mono rfl
  | dmaWriteBackDone => exact execDmaWriteBackDone_only.mono rfl
  | shMbpubGo => exact execShMbpubGo_only.mono rfl
  | mailboxCopyDone => exact execMailboxCopyDone_only.mono rfl
  | listTakeUp => exact execListTakeUp_only.mono rfl
  | listLifeExpiry => exact execListLifeExpiry_only.mono rfl
  | crTdataWrite => exact execCrTdataWrite_only.mono rfl
  | crMlim => exact execCrMlim_only.mono rfl
  | faultArrival => exact execFaultArrival_only.mono rfl
  | episodeClose => exact execEpisodeClose_only.mono rfl
  | fcSrccls => exact execFcSrccls_only.mono rfl
  | injectionKey => exact execInjectionKey_only.mono rfl
  | injectionLock => exact execInjectionLock_only.mono rfl
  | injectionTimeout => exact execInjectionTimeout_only.mono rfl
  | fcChkinv => exact execFcChkinv_only.mono rfl
  | heartbeatToggle => exact execHeartbeatToggle_only.mono rfl
  | classLineChange => exact execClassLineChange_only.mono rfl
  | heartbeatTimeout => exact execHeartbeatTimeout_only.mono rfl
  | classLineFault => exact execClassLineFault_only.mono rfl
  | gladeCycle => exact execGladeCycle_only.mono rfl
  | lineMaskExpiry => exact execLineMaskExpiry_only.mono rfl
  | rcClockWindow => exact execRcClockWindow_only.mono rfl
  | sysclkCheckWindow => exact execSysclkCheckWindow_only.mono rfl
  | gladeSupplyFault => exact execGladeSupplyFault_only.mono rfl
  | readbackMismatch => exact execReadbackMismatch_only.mono rfl
  | fallbackCrcCheck => exact execFallbackCrcCheck_only.mono rfl
  | errHoldExpiry => exact execErrHoldExpiry_only.mono rfl
  | returnDwellExpiry => exact execReturnDwellExpiry_only.mono rfl
  | sspiFrame => exact execSspiFrame_only.mono rfl
  | sspiStatus => exact execSspiStatus_only.mono rfl
  | sspiRead => exact execSspiRead_only.mono rfl
  | sspiWrite => exact execSspiWrite_only.mono rfl
  | resume => exact execResume_only.mono rfl
  | clear => exact execClear_only.mono rfl
  | injkey => exact execInjkey_only.mono rfl
  | sspiWatchdog => exact execSspiWatchdog_only.mono rfl
  | fpWdog => exact execFpWdog_only.mono rfl
  | firmwareWatchdogExpiry => exact execFirmwareWatchdogExpiry_only.mono rfl
  | foresterReset => exact execForesterReset_only.mono rfl
  | swrst => exact execSwrst_only.mono rfl
  | bootSelect => exact execBootSelect_only.mono rfl
  | tcmError => exact execTcmError_only.mono rfl
  | foresterException => exact execForesterException_only.mono rfl
  | spiNorCommand => exact execSpiNorCommand_only.mono rfl
  | spiNorCommandDone => exact execSpiNorCommandDone_only.mono rfl
  | spiNorWipTimeout => exact execSpiNorWipTimeout_only.mono rfl
  | sensorSlotDue => exact execSensorSlotDue_only.mono rfl
  | sensorTransferDone => exact execSensorTransferDone_only.mono rfl
  | sensorSclTimeout => exact execSensorSclTimeout_only.mono rfl
  | logAppendFirmware => exact execLogAppendFirmware_only.mono rfl
  | fpLogRd => exact execFpLogRd_only.mono rfl
  | logExportRead => exact execLogExportRead_only.mono rfl
  | verify => exact execVerify_only.mono rfl
  | load => exact execLoad_only.mono rfl
  | arbRaise => exact execArbRaise_only.mono rfl
  | otpProg => exact execOtpProg_only.mono rfl
  | cfgSet => exact execCfgSet_only.mono rfl
  | secCommandEnd => exact execSecCommandEnd_only.mono rfl
  | secChal => exact execSecChal_only.mono rfl
  | secResp => exact execSecResp_only.mono rfl
  | challengeExpiry => exact execChallengeExpiry_only.mono rfl
  | intakeLaneLockGain => exact execIntakeLaneLockGain_only.mono rfl
  | intakeIdleTimeExpiry => exact execIntakeIdleTimeExpiry_only.mono rfl
  | returnLaneLockGain => exact execReturnLaneLockGain_only.mono rfl
  | prbsLock => exact execPrbsLock_only.mono rfl
  | linkUp => exact execLinkUp_only.mono rfl
  | configurationWrite => exact execConfigurationWrite_only.mono rfl
  | counterLowWordRead => exact execCounterLowWordRead_only.mono rfl
  | uartByteReceived => exact execUartByteReceived_only.mono rfl
  | debugAccess => exact execDebugAccess_only.mono rfl

end Sys2Proof.Machine
end

section
/-! A DMA channel's software requests: writes of SWREQ and requests taken from its own line (14 R509, R510, R520). -/

namespace Sys2Proof.Machine

open Sys2Proof

/-! ### Writes of SWREQ (14 R510, R520) -/

/-- REGISTER_WRITE in the dispatch. -/
theorem exec_registerWrite (t : Nat) (req : Req) (a : BitVec 21) (v : Word) (be : BitVec 4) (s : State) :
    exec (.registerWrite t req a v be) s = execRegisterWrite t req a v be s := rfl

/-- The address of DMA_CHn_CTRL fits the address of a register write. -/
theorem dmaCtrl_toNat (c : Fin 8) : (BitVec.ofNat 21 (Reg.DMA_CTRL c)).toNat = Reg.DMA_CTRL c := by
  have := c.isLt
  simp only [BitVec.toNat_ofNat, Reg.DMA_CTRL]
  omega

/-- A dword written to DMA_CHn_CTRL by an owner of the page acts by its bits, without those that an event of the sample
holds (00 R8). -/
theorem State.writeReg_dmaCtrl (req : Req) (c : Fin 8) (v : Word) (s : State) :
    s.writeReg req (Reg.DMA_CTRL c) v =
      State.access req 0x0A (fun s => s.writeDmaCtrl req c (s.cold (Reg.DMA_CTRL c) v)) s := by
  fin_cases c <;> rfl

/-- A command whose event has not been taken ahead acts. -/
theorem State.once_fresh {k : Instr} {f : State → State} {s : State} (h : s.Fresh k) :
    (s.stamp k.time).once k f = f (s.stamp k.time) := by
  rw [State.once, State.stamp_sample, if_neg (by rw [h]; exact Bool.false_ne_true)]

/-- The register write of DMA_CHn_CTRL as a command, its bits without those that an event of the sample holds. -/
theorem exec_registerWrite_dmaCtrl {t : Nat} {req : Req} {c : Fin 8} {v : Word} {s : State}
    (writable : s.Writable t req 0x0A)
    (fresh : s.Fresh (.registerWrite t req (BitVec.ofNat 21 (Reg.DMA_CTRL c)) v 0xF)) :
    exec (.registerWrite t req (BitVec.ofNat 21 (Reg.DMA_CTRL c)) v 0xF) s =
      .next ((s.stamp t).writeDmaCtrl req c ((s.stamp t).cold (Reg.DMA_CTRL c) v)) := by
  have inBar0 : ¬0x100000 ≤ Reg.DMA_CTRL c := by
    have := c.isLt
    simp only [Reg.DMA_CTRL]
    omega
  have act := State.once_fresh fresh (f := State.busWrite req (BitVec.ofNat 21 (Reg.DMA_CTRL c)).toNat v 0xF)
  rw [exec_registerWrite, execRegisterWrite, onCore_on writable.1]
  refine congrArg Host.Outcome.next (act.trans ?_)
  rw [dmaCtrl_toNat, State.busWrite, if_neg inBar0, if_neg (not_not_intro rfl), State.writeReg_dmaCtrl]
  exact writable.access

/-- DMA_CHn_CTRL written with no bit set does nothing. -/
theorem State.writeDmaCtrl_zero {req : Req} {c : Fin 8} {s : State} : s.writeDmaCtrl req c 0 = s := rfl

/-- A register write whose every bit an event of the sample holds does nothing (00 R8). -/
theorem State.cold_held {s : State} {a : Nat} {v : Word} (h : lget (s.sample.on (s.now / tick)).hit a = v) :
    s.cold a v = 0 := by
  rw [State.cold, h, BitVec.and_not_self]

/-- DMA_CHn_CTRL written with nothing but bits that events of the sample hold: the command does nothing. -/
theorem exec_registerWrite_dmaCtrl_held {t : Nat} {req : Req} {c : Fin 8} {v : Word} {s : State}
    (writable : s.Writable t req 0x0A)
    (fresh : s.Fresh (.registerWrite t req (BitVec.ofNat 21 (Reg.DMA_CTRL c)) v 0xF))
    (held : lget (s.sample.on ((s.stamp t).now / tick)).hit (Reg.DMA_CTRL c) = v) :
    exec (.registerWrite t req (BitVec.ofNat 21 (Reg.DMA_CTRL c)) v 0xF) s = .next (s.stamp t) := by
  rw [exec_registerWrite_dmaCtrl writable fresh, State.cold_held (s := s.stamp t) held, State.writeDmaCtrl_zero]

/-- SWREQ of a dword written alone stays where no event of the sample holds that bit. -/
theorem State.cold_swreq {s : State} {a : Nat} (h : bit (lget (s.sample.on (s.now / tick)).hit a) 4 = false) :
    s.cold a 0x10 = 0x10 := by
  have alone : (0x10 : Word) = BitVec.twoPow 32 4 := rfl
  have kept : (~~~lget (s.sample.on (s.now / tick)).hit a).getLsbD 4 = true := by
    rw [BitVec.getLsbD_not, show BitVec.getLsbD _ 4 = false from h]
    rfl
  rw [State.cold, alone, BitVec.and_comm, BitVec.and_twoPow, if_pos kept]

/-- DMA_CHn_CTRL written with SWREQ alone. -/
theorem State.writeDmaCtrl_swreq {req : Req} {c : Fin 8} {s : State} : s.writeDmaCtrl req c 0x10 = s.dmaSwreq c := rfl

/-- The register write of SWREQ alone, in a sample whose record of events does not hold it, is SWREQ. -/
theorem exec_registerWrite_swreq {t : Nat} {req : Req} {c : Fin 8} {s : State} (writable : s.Writable t req 0x0A)
    (fresh : s.Fresh (.registerWrite t req (BitVec.ofNat 21 (Reg.DMA_CTRL c)) 0x10 0xF))
    (free : bit (lget (s.sample.on ((s.stamp t).now / tick)).hit (Reg.DMA_CTRL c)) 4 = false) :
    exec (.registerWrite t req (BitVec.ofNat 21 (Reg.DMA_CTRL c)) 0x10 0xF) s = .next ((s.stamp t).dmaSwreq c) := by
  rw [exec_registerWrite_dmaCtrl writable fresh, State.cold_swreq (s := s.stamp t) free, State.writeDmaCtrl_swreq]

/-- The command SWREQ of an owner of the page is SWREQ. -/
theorem exec_dmaSwreq {t : Nat} {req : Req} {c : Fin 8} {s : State} (writable : s.Writable t req 0x0A) :
    exec (.dmaSwreq t req c) s = .next ((s.stamp t).dmaSwreq c) :=
  (onCore_on writable.1).trans (congrArg Host.Outcome.next writable.access)

/-- SWREQ has no effect on an idle channel. -/
theorem State.dmaSwreq_idle {c : Fin 8} {s : State} (idle : (s.dma.ch[c]).st = .idle) : s.dmaSwreq c = s := if_pos idle

/-- SWREQ at the limit of 255 sets REQOVF. -/
theorem State.dmaSwreq_full {c : Fin 8} {s : State} (busy : (s.dma.ch[c]).st ≠ .idle) (full : (s.dma.ch[c]).swPend = 255) :
    s.dmaSwreq c = (s.setCh c { s.dma.ch[c] with reqOvf := true }).hit (Reg.DMA_STAT c) 0x10000 :=
  (if_neg busy).trans (if_pos full)

/-- SWREQ below the limit adds 1 to SWPEND. -/
theorem State.dmaSwreq_room {c : Fin 8} {s : State} (busy : (s.dma.ch[c]).st ≠ .idle) (room : (s.dma.ch[c]).swPend ≠ 255) :
    s.dmaSwreq c = s.setCh c { s.dma.ch[c] with swPend := (s.dma.ch[c]).swPend + 1 } :=
  (if_neg busy).trans (if_neg room)

/-! ### What the sample takes first (12 R438, 14 R526) -/

/-- The events of the sample taken first keep what each of them and the record of the sample keep. -/
theorem State.takeFirst_induction {s : State} {P : State → Prop} {p : Instr → Option (State → State)}
    (record : ∀ (v : State) y, P v → P { v with sample := y }) (event : ∀ k f, p k = some f → ∀ v, P v → P (f v))
    (h : P s) :
    P (s.takeFirst p) := by
  refine List.foldlRecOn _ _ h (fun v hv k _ => ?_)
  cases found : p k with
  | none => exact hv
  | some f => exact record _ _ (event k f found v hv)

/-- What a STOP or an ABORT taken first keeps. -/
theorem State.haltFirst_induction {s : State} {P : State → Prop} {n : Fin 8}
    (record : ∀ (v : State) y, P v → P { v with sample := y })
    (stop : ∀ req v, P v → P (State.access req 0x0A (State.dmaStop n) v))
    (abort : ∀ req v, P v →
      P (State.access req 0x0A (fun s => s.setCh n { s.dma.ch[n] with abortPend := true }) v)) (h : P s) :
    P (s.haltFirst n) := by
  refine State.takeFirst_induction record (fun k f found v hv => ?_) h
  split at found
  · split at found <;> cases found
    exact stop _ v hv
  · split at found <;> cases found
    exact abort _ v hv
  · cases found

/-! ### Requests taken from the channel's own line (14 R509, R510) -/

/-- The line that is the channel's own is asserted while SWPEND is not 0. -/
theorem State.reqLine_own {c : Fin 8} {s : State} : s.reqLine c 15 = ((s.dma.ch[c]).swPend != 0) := rfl

/-- A channel that waits takes a request of its own line by lowering SWPEND. -/
theorem State.takeRequest_own {c : Fin 8} {s : State} (own : s.dmaReq c = 15) (wait : (s.dma.ch[c]).st = .wait)
    (settled : (s.dma.ch[c]).lineSettled s.now = true) (pending : (s.dma.ch[c]).swPend ≠ 0) :
    s.takeRequest c = s.setCh c { s.dma.ch[c] with
      st := .move, readyAt := s.now, taken := true, swPend := (s.dma.ch[c]).swPend - 1 } := by
  have line : s.reqLine c (s.dmaReq c) = true := by rw [own, State.reqLine_own]; exact bne_iff_ne.mpr pending
  refine (if_pos ⟨wait, line, settled⟩).trans ?_
  rw [if_pos own]

/-- A write by a requester keeps the instant where the register's own write does. -/
theorem State.access_now {req : Req} {page : Nat} {f : State → State} {s : State} (hf : (f s).now = s.now) :
    (s.access req page f).now = s.now := by
  unfold State.access
  split
  · rfl
  · split
    · exact hf
    · rfl

/-- What the sample takes first leaves the instant. -/
theorem State.haltFirst_now {c : Fin 8} {s : State} : (s.haltFirst c).now = s.now :=
  State.haltFirst_induction (P := fun v => v.now = s.now) (fun _ _ k => k)
    (fun _ _ k => (State.access_now (State.dmaStop_only .now rfl).1).trans k)
    (fun _ _ k => (State.access_now rfl).trans k) rfl

/-- DMA_REQUEST_TAKEN by a waiting channel whose line is its own, with no ABORT that the sample takes first. -/
theorem exec_dmaRequestTaken_own {t : Nat} {c : Fin 8} {s m : State} (on : s.coreOn = true)
    (first : m = (s.stamp t).haltFirst c) (own : m.dmaReq c = 15) (wait : (m.dma.ch[c]).st = .wait)
    (kept : (m.dma.ch[c]).abortPend = false) (settled : (m.dma.ch[c]).lineSettled (max s.now t) = true)
    (pending : (m.dma.ch[c]).swPend ≠ 0) :
    exec (.dmaRequestTaken t c) s = .next (m.setCh c { m.dma.ch[c] with
      st := .move, readyAt := max s.now t, taken := true, swPend := (m.dma.ch[c]).swPend - 1 }) := by
  have now : m.now = max s.now t := by rw [first]; exact State.haltFirst_now
  have goesOn : ¬((m.dma.ch[c]).st = .wait ∧ (m.dma.ch[c]).abortPend = true) :=
    fun ⟨_, abort⟩ => Bool.false_ne_true (kept.symm.trans abort)
  have request : (s.stamp t).requestIn c = m.takeRequest c := by
    subst first
    exact if_neg goesOn
  rw [← now] at settled ⊢
  rw [← State.takeRequest_own own wait settled pending, ← request]
  exact onCore_on on

end Sys2Proof.Machine
end

section
/-! A DMA channel that is idle holds no software request (14 R510): every command keeps it. -/

namespace Sys2Proof.Machine

open Sys2Proof

/-- A channel that is idle has SWPEND 0. -/
def DmaCh.IdleClear (x : DmaCh) : Prop := x.st = .idle → x.swPend = 0

/-- Channel `c`, where it is idle, has SWPEND 0. -/
def State.IdleClear (c : Fin 8) (s : State) : Prop := (s.dma.ch[c]).IdleClear

section
variable {c : Fin 8} {s : State}

/-- A change that leaves the engine. -/
theorem State.IdleClear.only {l : List Part} {u : State} (k : Only l s u) (hl : l.contains .dma = false)
    (h : s.IdleClear c) : u.IdleClear c := by
  have same : u.dma = s.dma := k .dma hl
  rwa [State.IdleClear, same]

/-- A branch. -/
theorem State.IdleClear.ite {a b : State} {p : Prop} [Decidable p] (ha : a.IdleClear c) (hb : b.IdleClear c) :
    (if p then a else b).IdleClear c := by split <;> assumption

/-- A change made under a condition. -/
theorem State.IdleClear.when {b : Bool} {f : State → State} (hf : ∀ v : State, v.IdleClear c → (f v).IdleClear c)
    (h : s.IdleClear c) : (s.when b f).IdleClear c := .ite (hf s h) h

/-- A fold of changes. -/
theorem State.IdleClear.foldl {α : Type} {f : State → α → State} {xs : List α}
    (hf : ∀ (v : State) x, v.IdleClear c → (f v x).IdleClear c) (h : s.IdleClear c) :
    (xs.foldl f s).IdleClear c :=
  List.foldlRecOn xs f h (fun v hv x _ => hf v x hv)

/-- A write of a register by a requester. -/
theorem State.IdleClear.access {req : Req} {page : Nat} {f : State → State}
    (hf : ∀ v : State, v.IdleClear c → (f v).IdleClear c) (h : s.IdleClear c) :
    (s.access req page f).IdleClear c :=
  .ite (.only State.report_only rfl h) (.ite (hf s h) (.only State.report_only rfl h))

/-- A command whose event may have been taken ahead of its turn. -/
theorem State.IdleClear.once {k : Instr} {f : State → State}
    (hf : ∀ v : State, v.IdleClear c → (f v).IdleClear c) (h : s.IdleClear c) : (s.once k f).IdleClear c :=
  .ite (.only Only.set_sample rfl h) (hf s h)

/-! #### The channel's own transitions -/

/-- A channel replaced by one that holds no request while idle where the old one held none. -/
theorem State.setCh_idleClear {n : Fin 8} {x : DmaCh} (hx : (s.dma.ch[n]).IdleClear → x.IdleClear)
    (h : s.IdleClear c) : (s.setCh n x).IdleClear c := by
  by_cases same : n = c
  · subst same
    simpa [State.IdleClear] using hx h
  · have other : (s.setCh n x).dma.ch[c] = s.dma.ch[c] := by
      simpa using Vector.getElem_set_ne n.isLt c.isLt (Fin.val_ne_of_ne same)
    rwa [State.IdleClear, other]

/-- A channel replaced by one in another state than IDLE. -/
theorem State.setCh_idleClear_of_ne {n : Fin 8} {x : DmaCh} (hx : x.st ≠ .idle) (h : s.IdleClear c) :
    (s.setCh n x).IdleClear c := State.setCh_idleClear (fun _ e => absurd e hx) h

/-- A channel that enters IDLE. -/
theorem State.setCh_idleClear_of_zero {n : Fin 8} {x : DmaCh} (hx : x.swPend = 0) (h : s.IdleClear c) :
    (s.setCh n x).IdleClear c := State.setCh_idleClear (fun _ _ => hx) h

theorem State.dmaUpRead_idleClear {n : Fin 8} {addr len : Nat} (h : s.IdleClear c) :
    (s.dmaUpRead n addr len).IdleClear c :=
  State.setCh_idleClear id (.only State.upRead_only rfl (.only Only.set_host rfl h))

theorem State.dmaFetch_idleClear {n : Fin 8} (h : s.IdleClear c) : (s.dmaFetch n).IdleClear c := by
  unfold State.dmaFetch
  exact .ite (State.setCh_idleClear_of_ne nofun h) (State.dmaUpRead_idleClear (State.setCh_idleClear_of_ne nofun h))

theorem State.dmaReread_idleClear {n : Fin 8} (h : s.IdleClear c) : (s.dmaReread n).IdleClear c := by
  unfold State.dmaReread
  exact .ite (State.setCh_idleClear id h) (State.dmaUpRead_idleClear (State.setCh_idleClear id h))

theorem State.dmaPark_idleClear {n : Fin 8} (h : s.IdleClear c) : (s.dmaPark n).IdleClear c := by
  have parked : State.IdleClear c ((s.setCh n { s.dma.ch[n] with st := .parked, reread := false, upTag := none }).report
      [haltNote n]) := .only State.report_only rfl (State.setCh_idleClear_of_ne nofun h)
  exact .ite (State.dmaReread_idleClear parked) parked

theorem State.dmaStop_idleClear {n : Fin 8} (h : s.IdleClear c) : (s.dmaStop n).IdleClear c := by
  unfold State.dmaStop
  exact .ite h (.ite (State.setCh_idleClear_of_zero rfl h) (State.setCh_idleClear id h))

theorem State.haltFirst_idleClear {n : Fin 8} (h : s.IdleClear c) : (s.haltFirst n).IdleClear c :=
  State.haltFirst_induction (P := State.IdleClear c) (fun _ _ k => .only Only.set_sample rfl k)
    (fun _ _ k => .access (fun _ => State.dmaStop_idleClear) k)
    (fun _ _ k => .access (fun _ => State.setCh_idleClear id) k) h

theorem State.dmaBoundary_idleClear {n : Fin 8} (h : s.IdleClear c) : (s.dmaBoundary n).IdleClear c := by
  have halted : (s.haltFirst n).IdleClear c := State.haltFirst_idleClear h
  unfold State.dmaBoundary
  exact .ite (.only State.report_only rfl (State.setCh_idleClear_of_zero rfl halted)) (.ite
    (.only State.report_only rfl (State.setCh_idleClear_of_zero rfl halted)) (.ite
    (.only State.report_only rfl (State.setCh_idleClear_of_zero rfl halted)) (.ite
    (State.dmaPark_idleClear halted) (State.dmaFetch_idleClear (State.setCh_idleClear id halted)))))

theorem State.dmaEnd_idleClear {n : Fin 8} {out : DmaOut} {cause residue : Nat} (h : s.IdleClear c) :
    (s.dmaEnd n out cause residue).IdleClear c := by
  unfold State.dmaEnd
  exact .ite (.only State.report_only rfl (State.setCh_idleClear_of_ne nofun h))
    (State.dmaBoundary_idleClear (.only State.report_only rfl (State.setCh_idleClear_of_ne nofun h)))

/-! #### Control commands -/

theorem State.dmaStart_idleClear {req : Req} {n : Fin 8} (h : s.IdleClear c) : (s.dmaStart req n).IdleClear c := by
  unfold State.dmaStart
  exact .ite (.only State.hit_only rfl (State.setCh_idleClear id h)) (.ite
    (.only State.hit_only rfl (State.setCh_idleClear id h)) (State.dmaFetch_idleClear (State.setCh_idleClear id h)))

/-- A request is counted only by a channel that is not idle. -/
theorem State.dmaSwreq_idleClear {n : Fin 8} (h : s.IdleClear c) : (s.dmaSwreq n).IdleClear c := by
  unfold State.dmaSwreq
  dsimp only
  split
  case isTrue => exact h
  case isFalse busy =>
    exact .ite (.only State.hit_only rfl (State.setCh_idleClear id h)) (State.setCh_idleClear_of_ne busy h)

theorem State.dmaDoor_idleClear {n : Fin 8} (h : s.IdleClear c) : (s.dmaDoor n).IdleClear c := by
  unfold State.dmaDoor
  exact .ite (State.dmaReread_idleClear h) (State.setCh_idleClear id h)

theorem State.dmaAborted_idleClear {n : Fin 8} (h : s.IdleClear c) : (s.dmaAborted n).IdleClear c := by
  unfold State.dmaAborted
  exact .ite h (.ite (State.setCh_idleClear_of_zero rfl h) (.ite (State.dmaEnd_idleClear h) (State.setCh_idleClear id h)))

theorem State.dmaAbort_idleClear {n : Fin 8} (h : s.IdleClear c) : (s.dmaAbort n).IdleClear c := by
  unfold State.dmaAbort
  exact .ite (.only State.hit_only rfl (State.setCh_idleClear id h)) (State.dmaAborted_idleClear h)

theorem State.writeDmaCtrl_idleClear {req : Req} {n : Fin 8} {v : Word} (h : s.IdleClear c) :
    (s.writeDmaCtrl req n v).IdleClear c :=
  .when (fun _ => State.dmaAbort_idleClear) (.when (fun _ => State.dmaStop_idleClear)
    (.when (fun _ => State.dmaDoor_idleClear) (.when (fun _ => State.dmaSwreq_idleClear)
    (.when (fun _ => State.dmaStart_idleClear) h))))

/-! #### Register writes and the on-chip address space -/

theorem State.putDma_idleClear {req : Req} {off : Nat} {v : Word} (h : s.IdleClear c) :
    (s.putDma req off v).IdleClear c := by
  unfold State.putDma
  exact .ite (.ite (State.writeDmaCtrl_idleClear h) (.ite (State.setCh_idleClear id h) h)) (.ite
    (.ite (.only State.hit_only rfl (State.setCh_idleClear id h)) (.only State.putPlain_only rfl h))
    (.only State.putPlain_only rfl h))

theorem State.pageWrite_idleClear {req : Req} {p off : Nat} {v : Word} (h : s.IdleClear c) :
    (s.pageWrite req p off v).IdleClear c := by
  unfold State.pageWrite
  exact .ite (.only State.putHeader_only rfl h) (.ite (.only State.putTop_only rfl h) (.ite
    (.only State.putIntake_only rfl h) (.ite (.only State.putHost_only rfl h) (.ite
    (.only State.putMsix_only rfl h) (.ite (State.putDma_idleClear h) (.ite
    (.only State.putComposer_only rfl h) (.ite (.only State.putCorr_only rfl h) (.ite
    (.only State.putShade_only rfl h) (.ite (.only State.putStitch_only rfl h) (.ite
    (.only State.putSkein_only rfl h) (.ite (.only State.putSal_only rfl h) (.ite
    (.only State.putTherm_only rfl h) (.ite (.only State.putFault_only rfl h) (.ite
    (.only State.putForester_only rfl h) (.ite (.only State.putSec_only rfl h)
    (.only State.putPlain_only rfl h))))))))))))))))

theorem State.writeReg_idleClear {req : Req} {a : Nat} {v : Word} (h : s.IdleClear c) :
    (s.writeReg req a v).IdleClear c := by
  unfold State.writeReg
  exact .ite h (.ite (.access (fun _ => State.pageWrite_idleClear) h) (.ite (.only State.report_only rfl h) (.ite
    (.only State.writeOwner_only rfl h) h)))

theorem State.busWrite_idleClear {req : Req} {a : Nat} {v : Word} {be : BitVec 4} (h : s.IdleClear c) :
    (s.busWrite req a v be).IdleClear c := by
  unfold State.busWrite
  exact .ite (.ite (.only State.writeFp_only rfl h) h) (.ite (.only State.report_only rfl h) (State.writeReg_idleClear h))

theorem State.hostWrites_idleClear (h : s.IdleClear c) : s.hostWrites.IdleClear c := by
  refine State.takeFirst_induction (P := State.IdleClear c) (fun _ _ k => .only Only.set_sample rfl k)
    (fun k f found v hv => ?_) h
  split at found <;> cases found
  · exact .access (fun _ k => .only State.writePhase_only rfl k) hv
  · exact State.busWrite_idleClear hv

theorem State.putPart_idleClear {lo hi a : Nat} {l : List Byte} {f : Nat → List Byte → State → State}
    (hf : ∀ x y v, State.IdleClear c v → (f x y v).IdleClear c) (h : s.IdleClear c) :
    (State.putPart lo hi a l f s).IdleClear c := by
  unfold State.putPart
  exact .ite h (hf _ _ _ h)

theorem State.putPages_idleClear {req : Req} {a : Nat} {l : List Byte} (h : s.IdleClear c) :
    (State.putPages req a l s).IdleClear c := by
  induction a, l, s using State.putPages.induct req with
  | case1 a s => unfold State.putPages; exact h
  | case2 a b0 s b1 b2 b3 r aligned ih =>
    unfold State.putPages
    simp only [aligned, if_true]
    exact ih (State.writeReg_idleClear h)
  | case3 a b0 s b1 b2 b3 r misaligned ih =>
    unfold State.putPages
    simp only [misaligned, if_false]
    exact ih (.when (fun _ k => .only State.report_only rfl k) h)
  | case4 a b0 r s short =>
    unfold State.putPages
    split
    · exact absurd rfl (short _ _ _ _)
    · exact .only State.report_only rfl h

theorem State.chipWrite_idleClear {req : Req} {a : Nat} {l : List Byte} (h : s.IdleClear c) :
    (State.chipWrite req a l s).IdleClear c :=
  State.putPart_idleClear (fun _ _ _ k => .only State.shadePort_only rfl k) (State.putPart_idleClear
    (fun _ _ _ k => .only State.shadePort_only rfl k) (State.putPart_idleClear (fun _ _ _ => State.putPages_idleClear)
    (State.putPart_idleClear (fun _ _ _ k => .only State.writeHealth_only rfl k) (State.putPart_idleClear
    (fun _ _ _ k => .only State.putCalib_only rfl k) (State.putPart_idleClear (fun _ _ _ k => .only Only.set_layers rfl k)
    (State.putPart_idleClear (fun _ _ _ k => .only State.report_only rfl (.only State.putFrame_only rfl k)) h))))))

theorem State.qspiPut_idleClear {x : Word × Word} (h : s.IdleClear c) : (s.qspiPut x).IdleClear c := by
  unfold State.qspiPut
  exact .ite (.only State.report_only rfl h) (.ite (State.chipWrite_idleClear h) (State.writeReg_idleClear h))

theorem State.qspiRead_idleClear {a : Word} {dwords : Nat} (h : s.IdleClear c) : (s.qspiRead a dwords).IdleClear c := by
  have drained : s.qspiDrain.IdleClear c := .foldl (fun _ _ => State.qspiPut_idleClear) (.only Only.set_host rfl h)
  unfold State.qspiRead
  exact .ite (.only State.qspiGets_only rfl drained) (.only State.report_only rfl drained)

theorem State.debugWrite_idleClear {a : Nat} {v : Word} (h : s.IdleClear c) : (s.debugWrite a v).IdleClear c := by
  unfold State.debugWrite
  split
  · exact .only State.debugTcmPut_only rfl h
  · exact .when (fun _ k => .only State.writeFp_only rfl k) h
  · exact .ite (State.writeReg_idleClear h) (.ite (.only State.report_only rfl h) (State.chipWrite_idleClear h))
  · exact .only State.debugError_only rfl h

theorem State.debug_idleClear {op : DebugOp} (h : s.IdleClear c) : (s.debug op).IdleClear c := by
  cases op with
  | idcode => exact .only State.report_only rfl h
  | halt | resume | step => exact .when (fun _ k => .only Only.set_fst rfl k) h
  | reset => exact .when (fun _ k => .only State.resetForester_only rfl k) h
  | read a => exact .when (fun _ k => .only State.debugRead_only rfl k) h
  | write a v => exact .when (fun _ => State.debugWrite_idleClear) h
  | extest | sample => exact .when (fun _ k => .only State.report_only rfl k) h

/-! #### Bursts, fetches and write-backs -/

theorem State.dmaTook_idleClear {n : Fin 8} (h : s.IdleClear c) : (s.dmaTook n).IdleClear c :=
  .when (fun _ k => .only Only.set_host rfl k) (State.setCh_idleClear id h)

/-- The layers' request lines are no part of a channel. -/
theorem State.setLyDrq_idleClear {x : BitVec 2} (h : s.IdleClear c) :
    State.IdleClear c { s with dma := { s.dma with lyDrq := x } } := h

theorem State.settleLine_idleClear {r : Nat} (h : s.IdleClear c) : (s.settleLine r).IdleClear c := by
  unfold State.settleLine
  exact .ite (.only Only.set_shade rfl h) (.ite (State.setLyDrq_idleClear h) h)

theorem State.signalEnd_idleClear {n : Fin 8} (h : s.IdleClear c) : (s.signalEnd n).IdleClear c := by
  unfold State.signalEnd
  exact .ite (State.settleLine_idleClear (State.setCh_idleClear id h)) (State.setCh_idleClear id h)

theorem State.chanBuf_idleClear {n : Fin 8} {l : List Byte} (h : s.IdleClear c) : (s.chanBuf n l).IdleClear c :=
  State.setCh_idleClear id h

theorem State.takeAperture_idleClear {n : Fin 8} {q : Fin 4} (h : s.IdleClear c) : (s.takeAperture n q).IdleClear c :=
  .only State.freeSide_only rfl (.only State.report_only rfl (State.chanBuf_idleClear h))

theorem State.freesFirst_idleClear {st : Fin 4} (h : s.IdleClear c) : (s.freesFirst st).IdleClear c := by
  refine State.takeFirst_induction (P := State.IdleClear c) (fun _ _ k => .only Only.set_sample rfl k)
    (fun k f found v hv => ?_) h
  split at found
  · split at found <;> cases found
    exact State.takeAperture_idleClear hv
  · cases found

theorem State.fetchError_idleClear {n : Fin 8} (h : s.IdleClear c) : (s.fetchError n).IdleClear c :=
  .only State.report_only rfl (State.setCh_idleClear_of_zero rfl h)

/-- MOVE or WAIT is entered for the next burst. -/
theorem State.setCh_paced_idleClear {n : Fin 8} {x : DmaCh} {pace : Bool} {t : Nat} (h : s.IdleClear c) :
    (s.setCh n { x with st := if pace then .wait else .move, readyAt := t }).IdleClear c :=
  State.setCh_idleClear_of_ne (by cases pace <;> nofun) h

theorem State.fetched_idleClear {n : Fin 8} {l : List Byte} (h : s.IdleClear c) : (s.fetched n l).IdleClear c := by
  have held : State.IdleClear c (s.setCh n { s.dma.ch[n] with desc := descOf l, moved := 0 }) := State.setCh_idleClear id h
  unfold State.fetched
  exact .ite (State.dmaEnd_idleClear held) (.ite (State.setCh_idleClear_of_zero rfl held) (.ite
    (State.dmaEnd_idleClear held) (State.setCh_paced_idleClear held)))

theorem State.refetched_idleClear {n : Fin 8} {l : List Byte} (h : s.IdleClear c) : (s.refetched n l).IdleClear c := by
  unfold State.refetched
  have held : State.IdleClear c (s.setCh n { s.dma.ch[n] with
      desc := { (s.dma.ch[n]).desc with next := BitVec.ofNat 64 (leAt l 0 8) }, reread := false }) :=
    State.setCh_idleClear id h
  refine .ite (State.dmaFetch_idleClear ?_) (.ite (State.dmaReread_idleClear held) held)
  rw [State.setCh_setCh]
  exact State.setCh_idleClear id h

theorem State.descriptorIn_idleClear {n : Fin 8} (h : s.IdleClear c) : (s.descriptorIn n).IdleClear c := by
  have took : (s.dmaTook n).IdleClear c := State.dmaTook_idleClear h
  unfold State.descriptorIn
  refine .ite ?_ (.ite ?_ h)
  · split
    · exact h
    · exact State.fetchError_idleClear took
    · exact State.fetched_idleClear took
  · split
    · exact h
    · exact State.fetchError_idleClear took
    · exact State.refetched_idleClear took

theorem State.takeRequest_idleClear {n : Fin 8} (h : s.IdleClear c) : (s.takeRequest n).IdleClear c := by
  unfold State.takeRequest
  exact .ite (State.setCh_idleClear_of_ne nofun h) h

theorem State.requestIn_idleClear {n : Fin 8} (h : s.IdleClear c) : (s.requestIn n).IdleClear c :=
  .ite (State.dmaEnd_idleClear (State.haltFirst_idleClear h)) (State.takeRequest_idleClear (State.haltFirst_idleClear h))

theorem State.grant_idleClear {n : Fin 8} (h : s.IdleClear c) : (s.grant n).IdleClear c := by
  have granted := State.setCh_idleClear (n := n) (x := { s.dma.ch[n] with burst := true, buf := [], upTag := none }) id h
  exact .ite granted (State.dmaUpRead_idleClear granted)

theorem State.burstWrite_idleClear {n : Fin 8} {a : Nat} {l : List Byte} (h : s.IdleClear c) :
    (s.burstWrite n a l).IdleClear c :=
  .ite (State.chipWrite_idleClear h) (.only State.report_only rfl h)

theorem State.afterBurst_idleClear {n : Fin 8} (h : s.IdleClear c) : (s.afterBurst n).IdleClear c :=
  .ite (State.dmaEnd_idleClear h) (.ite (State.dmaEnd_idleClear h) (State.setCh_paced_idleClear h))

theorem State.burstEnds_idleClear {n : Fin 8} (h : s.IdleClear c) : (s.burstEnds n).IdleClear c :=
  State.afterBurst_idleClear (State.setCh_idleClear id (State.signalEnd_idleClear (.when
    (fun _ k => .only State.portArrivals_only rfl k) (State.burstWrite_idleClear (State.dmaTook_idleClear
    (.only State.burstData_only rfl h))))))

theorem State.partialPages_idleClear {n : Fin 8} {mask a i : Nat} {fails : Option Nat} {l : List (Option Byte)}
    (h : s.IdleClear c) : (State.partialPages n mask fails a i l s).IdleClear c := by
  induction a, i, l, s using State.partialPages.induct n mask fails with
  | case1 a i b0 b1 b2 b3 r s v known u ih =>
    unfold State.partialPages
    exact ih (.ite (State.writeReg_idleClear h) h)
  | case2 a i l s short =>
    unfold State.partialPages
    split
    · exact absurd rfl (short _ _ _ _ _)
    · exact h

theorem State.partialWrites_idleClear {n : Fin 8} {mask stop a i : Nat} {l : List (Option Byte)} (h : s.IdleClear c) :
    (State.partialWrites n mask stop a i l s).IdleClear c := by
  induction l generalizing a i s with
  | nil => exact h
  | cons b r ih =>
    refine ih ?_
    cases b with
    | none => exact h
    | some x => exact .ite (State.burstWrite_idleClear h) h

theorem State.busError_idleClear {n : Fin 8} {cause : Nat} (h : s.IdleClear c) : (s.busError n cause).IdleClear c :=
  State.dmaEnd_idleClear (State.signalEnd_idleClear (.only State.report_only rfl (.when
    (fun _ k => .only State.portFailed_only rfl k) (.when (fun _ => State.partialPages_idleClear)
    (State.partialWrites_idleClear (.only State.spend_only rfl (State.dmaTook_idleClear
    (.only (.snd_ite State.burstData_only .refl) rfl h))))))))

theorem State.wbWrite_idleClear {n : Fin 8} (h : s.IdleClear c) : (s.wbWrite n).IdleClear c :=
  .ite (State.chipWrite_idleClear h) (.only State.report_only rfl h)

theorem State.writtenBack_idleClear {n : Fin 8} {ok : Bool} (h : s.IdleClear c) : (s.writtenBack n ok).IdleClear c :=
  .ite (State.dmaBoundary_idleClear (.only State.report_only rfl (.when (fun _ => State.wbWrite_idleClear) h))) h

/-! #### Resets and frame boundaries -/

/-- Every channel is idle with SWPEND 0 right after reset. -/
theorem State.idleClear_of_reset (h : s.dma = {}) : s.IdleClear c := by
  rw [State.IdleClear, h]
  intro _
  simp

theorem State.powerUp_idleClear {hostSel : Bool} : (s.powerUp hostSel).IdleClear c := by
  unfold State.powerUp
  exact .only State.coreStart_only rfl (State.idleClear_of_reset rfl)

theorem State.beginPeriodOf_idleClear {v : FrameView} {first lim tpar : Bool} (h : s.IdleClear c) :
    (State.beginPeriodOf v first lim tpar s).IdleClear c :=
  State.setLyDrq_idleClear (.only State.beginCompose_only rfl (.only State.corrBoundary_only rfl
    (.only State.applyClears_only rfl (.only State.retire_only rfl (.only State.applyCommit_only rfl h)))))

theorem State.frameBoundary_idleClear {u : Fin 2} (h : s.IdleClear c) : (s.frameBoundary u).IdleClear c :=
  .only State.gladeSettle_only rfl (.only State.captureAll_only rfl (State.beginPeriodOf_idleClear
    (.only State.beginFrame_only rfl (.only State.endPeriods_only rfl (.only State.report_only rfl h)))))

/-! #### Every command -/

/-- What a command answers keeps an idle channel's SWPEND at 0. -/
def IdleClearOut (c : Fin 8) (o : Host.Outcome State Fault Refusal) : Prop := ∀ n, o = .next n → n.IdleClear c

/-- A next state. -/
theorem IdleClearOut.next (h : s.IdleClear c) : IdleClearOut c (.next s) := by
  rintro _ ⟨⟩
  exact h

/-- A command that leaves the engine. -/
theorem IdleClearOut.only {l : List Part} {o : Host.Outcome State Fault Refusal} (k : OnlyOut l s o)
    (hl : l.contains .dma = false) (h : s.IdleClear c) : IdleClearOut c o := fun n e => .only (k n e) hl h

/-- A command to the core. -/
theorem IdleClearOut.core {t : Nat} {f : State → State} (hf : ∀ v : State, v.IdleClear c → (f v).IdleClear c)
    (h : s.IdleClear c) : IdleClearOut c (onCore t s f) :=
  .next (.ite (hf (s.stamp t) h) h)

theorem execPorstNRelease_idleClear {t : Nat} {hostSel testEn : Bool} (h : s.IdleClear c) :
    IdleClearOut c (execPorstNRelease t hostSel testEn s) := by
  have stamped : (s.stamp t).IdleClear c := h
  exact .next (.ite stamped (.ite (.only Only.set_top rfl stamped) State.powerUp_idleClear))

theorem execPorstNAssert_idleClear {t : Nat} : IdleClearOut c (execPorstNAssert t s) :=
  .next (State.idleClear_of_reset rfl)

theorem execCoreReset_idleClear {t : Nat} (h : s.IdleClear c) :
    IdleClearOut c (execCoreReset t s) :=
  .core (fun _ _ => State.idleClear_of_reset rfl) h

theorem execSurfaceFrameBoundary_idleClear {t : Nat} {u : Fin 2} (h : s.IdleClear c) :
    IdleClearOut c (execSurfaceFrameBoundary t u s) :=
  .core (fun _ => .when (fun _ k => State.frameBoundary_idleClear (.only State.endingFirst_only rfl k))) h

theorem execSidePacket_idleClear {t : Nat} {st : Fin 4} {blocks : List Block} (h : s.IdleClear c) :
    IdleClearOut c (execSidePacket t st blocks s) := by
  unfold execSidePacket
  refine .core (fun v hv => ?_) h
  split
  · exact .when (fun _ k => .only State.sidePacket_only rfl (State.freesFirst_idleClear k)) hv
  · exact hv

theorem execSidePacketApertureRead_idleClear {t : Nat} {n : Fin 8} {q : Fin 4} (h : s.IdleClear c) :
    IdleClearOut c (execSidePacketApertureRead t n q s) :=
  .core (fun _ => .once (fun _ => State.takeAperture_idleClear)) h

theorem execLogExportRead_idleClear {t : Nat} {n : Fin 8} (h : s.IdleClear c) :
    IdleClearOut c (execLogExportRead t n s) :=
  .core (fun _ k => .only State.exportNext_only rfl (.only State.report_only rfl (State.chanBuf_idleClear k))) h

theorem execHostPortReset_idleClear {t : Nat} {k : HostReset} (h : s.IdleClear c) :
    IdleClearOut c (execHostPortReset t k s) :=
  .core (fun _ => .when (fun _ k => .only State.hostReset_only rfl (State.hostWrites_idleClear k))) h

theorem execRegisterWrite_idleClear {t : Nat} {req : Req} {a : BitVec 21} {v : Word} {be : BitVec 4} (h : s.IdleClear c) :
    IdleClearOut c (execRegisterWrite t req a v be s) :=
  .core (fun _ => .once (fun _ => State.busWrite_idleClear)) h

theorem execQspiRead_idleClear {t : Nat} {a : Word} {dwords : Nat} (h : s.IdleClear c) :
    IdleClearOut c (execQspiRead t a dwords s) := by
  unfold execQspiRead onQspi
  exact .core (fun _ => .when (fun _ => State.qspiRead_idleClear)) h

theorem execDebugAccess_idleClear {t : Nat} {op : DebugOp} (h : s.IdleClear c) :
    IdleClearOut c (execDebugAccess t op s) :=
  .core (fun _ => State.debug_idleClear) h

theorem execDmaStart_idleClear {t : Nat} {req : Req} {n : Fin 8} (h : s.IdleClear c) :
    IdleClearOut c (execDmaStart t req n s) :=
  .core (fun _ => .access (fun _ => State.dmaStart_idleClear)) h

theorem execDmaStop_idleClear {t : Nat} {req : Req} {n : Fin 8} (h : s.IdleClear c) :
    IdleClearOut c (execDmaStop t req n s) :=
  .core (fun _ => .once (fun _ => .access (fun _ => State.dmaStop_idleClear))) h

theorem execDmaAbort_idleClear {t : Nat} {req : Req} {n : Fin 8} (h : s.IdleClear c) :
    IdleClearOut c (execDmaAbort t req n s) :=
  .core (fun _ => .once (fun _ => .access (fun _ => State.dmaAbort_idleClear))) h

theorem execDmaDoor_idleClear {t : Nat} {req : Req} {n : Fin 8} (h : s.IdleClear c) :
    IdleClearOut c (execDmaDoor t req n s) :=
  .core (fun _ => .access (fun _ => State.dmaDoor_idleClear)) h

theorem execDmaSwreq_idleClear {t : Nat} {req : Req} {n : Fin 8} (h : s.IdleClear c) :
    IdleClearOut c (execDmaSwreq t req n s) :=
  .core (fun _ => .access (fun _ => State.dmaSwreq_idleClear)) h

theorem execDescriptorFetched_idleClear {t : Nat} {n : Fin 8} (h : s.IdleClear c) :
    IdleClearOut c (execDescriptorFetched t n s) :=
  .core (fun _ => State.descriptorIn_idleClear) h

theorem execDmaRequestTaken_idleClear {t : Nat} {n : Fin 8} (h : s.IdleClear c) :
    IdleClearOut c (execDmaRequestTaken t n s) :=
  .core (fun _ => State.requestIn_idleClear) h

theorem execDmaBurstGrant_idleClear {t : Nat} {n : Fin 8} (h : s.IdleClear c) :
    IdleClearOut c (execDmaBurstGrant t n s) :=
  .core (fun _ => .when (fun _ => State.grant_idleClear)) h

theorem execDmaBurstEnd_idleClear {t : Nat} {n : Fin 8} (h : s.IdleClear c) :
    IdleClearOut c (execDmaBurstEnd t n s) :=
  .core (fun _ => .when (fun _ => State.burstEnds_idleClear)) h

theorem execDmaBusError_idleClear {t : Nat} {n : Fin 8} (h : s.IdleClear c) :
    IdleClearOut c (execDmaBusError t n s) := by
  unfold execDmaBusError
  refine .core (fun v hv => .ite ?_ hv) h
  split
  · exact State.busError_idleClear hv
  · exact hv

theorem execDmaWriteBackDone_idleClear {t : Nat} {n : Fin 8} {ok : Bool} (h : s.IdleClear c) :
    IdleClearOut c (execDmaWriteBackDone t n ok s) :=
  .core (fun _ => State.writtenBack_idleClear) h

/-- Every command keeps an idle channel's SWPEND at 0. -/
theorem exec_idleClear {k : Instr} (h : s.IdleClear c) : IdleClearOut c (exec k s) := by
  cases k with
  | porstNRelease => exact execPorstNRelease_idleClear h
  | porstNAssert => exact execPorstNAssert_idleClear
  | coreReset => exact execCoreReset_idleClear h
  | surfaceFrameBoundary => exact execSurfaceFrameBoundary_idleClear h
  | sidePacket => exact execSidePacket_idleClear h
  | sidePacketApertureRead => exact execSidePacketApertureRead_idleClear h
  | logExportRead => exact execLogExportRead_idleClear h
  | hostPortReset => exact execHostPortReset_idleClear h
  | registerWrite => exact execRegisterWrite_idleClear h
  | qspiRead => exact execQspiRead_idleClear h
  | debugAccess => exact execDebugAccess_idleClear h
  | dmaStart => exact execDmaStart_idleClear h
  | dmaStop => exact execDmaStop_idleClear h
  | dmaAbort => exact execDmaAbort_idleClear h
  | dmaDoor => exact execDmaDoor_idleClear h
  | dmaSwreq => exact execDmaSwreq_idleClear h
  | descriptorFetched => exact execDescriptorFetched_idleClear h
  | dmaRequestTaken => exact execDmaRequestTaken_idleClear h
  | dmaBurstGrant => exact execDmaBurstGrant_idleClear h
  | dmaBurstEnd => exact execDmaBurstEnd_idleClear h
  | dmaBusError => exact execDmaBusError_idleClear h
  | dmaWriteBackDone => exact execDmaWriteBackDone_idleClear h
  | _ => exact .only exec_only rfl h

/-- A channel that enters IDLE has SWPEND 0, whatever the command. -/
theorem exec_entersIdle_swPend {k : Instr} {n : State} (step : exec k s = .next n) (busy : (s.dma.ch[c]).st ≠ .idle)
    (idle : (n.dma.ch[c]).st = .idle) : (n.dma.ch[c]).swPend = 0 :=
  exec_idleClear (fun e => absurd e busy) n step idle

end

end Sys2Proof.Machine
end

section
/-! The statement of software requests (14 R510) for every state. -/

namespace Sys2Proof.Machine

open Sys2Proof

/-- Channel 0 waits for requests, in a sample whose record of events holds the bit SWREQ of DMA_CH0_CTRL. -/
def swreqHeld : State :=
  { State.reset with
    top := { State.reset.top with porst := false }
    sample := { hit := [(Reg.DMA_CTRL 0, 0x10)] }
    dma := { State.reset.dma with ch := State.reset.dma.ch.set 0 { st := .wait } } }

/-- Refutes O57: a register write acts without the bits that an event of its sample sets (00 R8), and the statement does not
ask that the sample's record holds none for DMA_CHn_CTRL. In `swreqHeld` it holds SWREQ, so the dword written there adds
nothing to SWPEND. The rest of the statement holds: SWREQ that no event of the sample holds (`exec_dmaSwreq`,
`exec_registerWrite_swreq`, and the laws of `State.dmaSwreq`), the request taken (`exec_dmaRequestTaken_own`), and SWPEND 0 on
entry to IDLE (`exec_entersIdle_swPend`). -/
theorem not_softwareRequests : ¬ Obligations.SoftwareRequests := by
  unfold Obligations.SoftwareRequests
  rintro ⟨writes, -, -⟩
  have writable : swreqHeld.Writable 0 .host 0x0A := by decide +kernel
  have fresh : swreqHeld.Fresh (.registerWrite 0 .host (BitVec.ofNat 21 (Reg.DMA_CTRL (0 : Fin 8))) 0x10 0xF) := by decide
  have nothing := exec_registerWrite_dmaCtrl_held writable fresh (by decide)
  obtain ⟨-, -, adds⟩ := writes 0 .host 0 _ swreqHeld writable (.inr ⟨rfl, fresh⟩)
  obtain ⟨n, step, dma, -⟩ := adds (by decide) (by decide)
  obtain rfl : swreqHeld.stamp 0 = n := Host.Outcome.next.inj (nothing.symm.trans step)
  exact absurd (congrArg (fun d : Dma => (d.ch[(0 : Fin 8)]).swPend) dma) (by decide)

end Sys2Proof.Machine
end

section
/-! The block as a whole: every command answers, what a block held in reset does, and the reset state. -/

namespace Sys2Proof.Machine

open Sys2Proof

/-- A command to the core or to Glade answers a next state; the timeout of the injection is one to either. -/
theorem exec_next (c : Instr) (s : State) : ∃ n, exec c s = .next n := by
  cases c with
  | injectionTimeout t glade => cases glade <;> exact ⟨_, rfl⟩
  | _ => exact ⟨_, rfl⟩

/-- Settles O3: each command answers, and `exec_only` is its frame. -/
theorem everyCommandTouchesOnlyItsParts : Obligations.EveryCommandTouchesOnlyItsParts := by
  unfold Obligations.EveryCommandTouchesOnlyItsParts
  intro c s
  obtain ⟨n, step⟩ := exec_next c s
  exact ⟨n, step, exec_only n step⟩

/-- A command held back by the resets of the core and of Glade only lets time pass (20 R694, 15 R537, 17 R588). -/
theorem exec_held {c : Instr} {s : State} (core : ¬s.coreOn = true) (glade : ¬s.gladeOn = true)
    (release : ∀ t h e, c ≠ .porstNRelease t h e) (assert : ∀ t, c ≠ .porstNAssert t)
    (coreRelease : ∀ t, c ≠ .coreRelease t) : exec c s = .next (s.stamp c.time) := by
  cases c with
  | porstNRelease t h e => exact absurd rfl (release t h e)
  | porstNAssert t => exact absurd rfl (assert t)
  | coreRelease t => exact absurd rfl (coreRelease t)
  | injectionTimeout t g =>
    cases g with
    | true => exact congrArg Host.Outcome.next (if_neg glade)
    | false => exact congrArg Host.Outcome.next (if_neg core)
  | gladePowerLoss | gladeLoadEnd | heartbeatTimeout | classLineChange | classLineFault | gladeCycle | lineMaskExpiry => exact congrArg Host.Outcome.next (if_neg glade)
  | rcClockWindow | sysclkCheckWindow | gladeSupplyFault | readbackMismatch | fallbackCrcCheck => exact congrArg Host.Outcome.next (if_neg glade)
  | errHoldExpiry | returnDwellExpiry | sspiFrame | sspiStatus | sspiRead | sspiWrite | resume | clear => exact congrArg Host.Outcome.next (if_neg glade)
  | injkey | sspiWatchdog | firmwareWatchdogExpiry => exact congrArg Host.Outcome.next (if_neg glade)
  | _ => exact congrArg Host.Outcome.next (if_neg core)


/-- Settles O4: a command that is held back is the stamp of its instant. -/
theorem heldBlockOnlyCountsTime : Obligations.HeldBlockOnlyCountsTime := by
  unfold Obligations.HeldBlockOnlyCountsTime
  intro c s core glade release assert coreRelease
  exact ⟨s.stamp c.time, exec_held (Bool.eq_false_iff.mp core) (Bool.eq_false_iff.mp glade) release assert coreRelease,
    Nat.le_max_left _ _, State.stamp_only⟩

/-- A step with a command in front of the queue performs it with the queue's rest. -/
theorem step_cons {c : Instr} {cs : List Instr} {s : State} (front : s.pending = c :: cs) :
    step s = exec c { s with pending := cs } := by
  simp only [step, front]

/-- A step on an empty queue is what the block does with nothing commanded. -/
theorem step_nil {s : State} (empty : s.pending = []) : step s = .next (idle s) := by
  simp only [step, empty]

/-- Settles O1. -/
theorem stepTakesFront : Obligations.StepTakesFront := by
  unfold Obligations.StepTakesFront
  exact fun _ _ _ => step_cons

/-- Settles O7: fields and words of the reset state are read off it; right after reset every sparse map is empty. -/
theorem resetState : Obligations.ResetState := by
  unfold Obligations.ResetState
  refine ⟨⟨rfl, rfl, rfl, rfl, rfl, rfl, rfl, rfl, rfl, rfl, rfl, rfl, ?_, ?_, fun _ => rfl, by decide, by decide, by decide⟩,
    ⟨rfl, rfl, rfl, rfl, rfl, rfl, rfl, rfl, rfl, rfl, rfl, rfl, rfl, rfl, rfl⟩, by constructor <;> decide⟩
  · decide
  · decide

end Sys2Proof.Machine
end

section
/-! What a list of notes changes: parts, register words and live counts. -/

namespace Sys2Proof.Machine

open Sys2Proof

/-! ### What a list of notes changes -/

/-- The parts that carrying out a note changes. -/
def Note.parts : Note → List Part
  | .raise _ => [.flt]
  | .count .. | .word .. => [.regs]
  | .tally .. => [.live]
  | .bits .. => [.now, .regs]
  | .hit .. => [.now]
  | .send _ => [.out]

/-- The register words that a note changes. -/
def Note.words : Note → List Nat
  | .count a _ | .bits a _ | .word a _ => [a]
  | _ => []

/-- The live counts that a note changes. -/
def Note.counts : Note → List Nat
  | .tally a _ => [a]
  | _ => []

/-- What a note leaves in the register word at `a`. -/
def Note.onWord (a : Nat) (v : Word) : Note → Word
  | .count b n => if a = b then satAdd v n else v
  | .bits b m => if a = b then v ||| BitVec.ofNat 32 m else v
  | .word b w => if a = b then w else v
  | _ => v

/-- What a note leaves in the live count at `a`. -/
def Note.onCount (a : Nat) (v : Word) : Note → Word
  | .tally b n => if a = b then satAdd v n else v
  | _ => v

/-- A word of the register file after a note. -/
theorem rget_onRegs {f : RegFile} {x : Note} {a : Nat} (h : smWf regReset f = true) :
    rget (x.onRegs f) a = x.onWord a (rget f a) := by
  cases x with
  | count | bits =>
    refine (rget_rset h).trans ?_
    simp only [Note.onWord]
    split <;> simp_all
  | word => exact rget_rset h
  | _ => rfl

/-- A live count after a note. -/
theorem lget_onLive {f : RegFile} {x : Note} {a : Nat} (h : smWf (fun _ => (0 : Word)) f = true) :
    lget (x.onLive f) a = x.onCount a (lget f a) := by
  cases x with
  | tally =>
    refine (lget_lset h).trans ?_
    simp only [Note.onCount]
    split <;> simp_all
  | _ => rfl


/-- No note, no change. -/
theorem State.report_nil {s : State} : s.report [] = s := by simp [State.report]

/-- Notes of a list after those of another. -/
theorem State.report_append {l m : List Note} {s : State} : s.report (l ++ m) = (s.report l).report m := by
  simp [State.report, List.foldl_append]

/-- Notes are carried out one by one. -/
theorem State.report_cons {x : Note} {l : List Note} {s : State} : s.report (x :: l) = (s.report [x]).report l :=
  State.report_append (l := [x])

theorem Only.set_live {v} {s : State} : Only [.live] s { s with live := v } := by
  intro p h; cases p <;> first | exact ⟨rfl, rfl⟩ | rfl | cases h

theorem Only.set_out {v} {s : State} : Only [.out] s { s with out := v } := by
  intro p h; cases p <;> first | exact ⟨rfl, rfl⟩ | rfl | cases h

theorem Only.set_sample_regs {v w} {s : State} : Only [.now, .regs] s { s with sample := v, regs := w } := by
  intro p h; cases p <;> first | exact ⟨rfl, rfl⟩ | rfl | cases h

/-- A note that raises no source and sends nothing changes register words, live counts and what the sample has set. -/
theorem State.report_quiet {x : Note} {s : State} (src : x.src = none) (sent : x.sent = none) :
    s.report [x] = { s with
      regs := x.onRegs s.regs, live := x.onLive s.live, sample := Note.onSample (s.now / tick) s.sample x } := by
  simp [State.report, src, sent]

/-- A note changes its own parts alone. -/
theorem State.report_note_only {x : Note} {s : State} : Only x.parts s (s.report [x]) := by
  cases x with
  | raise x => exact Only.set_flt
  | count | word => rw [State.report_quiet rfl rfl]; exact Only.set_regs
  | tally => rw [State.report_quiet rfl rfl]; exact Only.set_live
  | bits => rw [State.report_quiet rfl rfl]; exact Only.set_sample_regs
  | hit => rw [State.report_quiet rfl rfl]; exact Only.set_sample
  | send o =>
    have src : [Note.send o].filterMap Note.src = [] := rfl
    have sends : s.report [.send o] = { s with out := o :: s.out } := by
      rw [State.report, src, List.append_nil]
      rfl
    rw [sends]
    exact Only.set_out

/-- A list of notes changes no part but theirs. -/
theorem State.report_parts {l : List Note} {s : State} : Only (l.flatMap Note.parts) s (s.report l) := by
  induction l generalizing s with
  | nil => rw [State.report_nil]; exact .refl
  | cons x l ih =>
    rw [State.report_cons]
    refine .app ih ?_ (State.report_note_only.mono ?_)
    all_goals rw [List.all_eq_true]; intro p hp; simp_all

/-- A list of notes changes no register word but theirs. -/
theorem State.report_regsOnly {l : List Note} {s : State} : RegsOnly (l.flatMap Note.words) s (s.report l) := by
  induction l generalizing s with
  | nil => rw [State.report_nil]; exact .refl
  | cons x l ih =>
    rw [State.report_cons]
    intro a ha
    rw [List.flatMap_cons, List.mem_append, not_or] at ha
    rw [ih a ha.2]
    have own := ha.1
    cases x <;> simp only [Note.words, List.mem_singleton] at own <;>
      first
      | rfl
      | exact rget_rset_ne own

/-- A list of notes carried out by a block with the register words of another. -/
theorem State.report_regsOnly_of {l : List Note} {m : List Nat} {s u : State} (words : l.flatMap Note.words ⊆ m)
    (same : u.regs = s.regs) : RegsOnly m s (u.report l) :=
  fun a ha => (State.report_regsOnly a (fun e => ha (words e))).trans (congrArg (rget · a) same)

/-- A list of notes changes no live count but theirs. -/
theorem State.report_liveOnly {l : List Note} {s : State} : LiveOnly (l.flatMap Note.counts) s (s.report l) := by
  induction l generalizing s with
  | nil => rw [State.report_nil]; exact fun _ _ => rfl
  | cons x l ih =>
    rw [State.report_cons]
    intro a ha
    rw [List.flatMap_cons, List.mem_append, not_or] at ha
    rw [ih a ha.2]
    have own := ha.1
    cases x <;> simp only [Note.counts, List.mem_singleton] at own <;>
      first
      | rfl
      | exact smGet_smSet_ne own

/-- A list of notes carried out by a block with the live counts of another. -/
theorem State.report_liveOnly_of {l : List Note} {m : List Nat} {s u : State} (counts : l.flatMap Note.counts ⊆ m)
    (same : u.live = s.live) : LiveOnly m s (u.report l) :=
  fun a ha => (State.report_liveOnly a (fun e => ha (counts e))).trans (congrArg (lget · a) same)

/-- What a register word reads after a list of notes. -/
theorem State.rget_report {l : List Note} {a : Nat} {s : State} (h : smWf regReset s.regs = true) :
    rget (s.report l).regs a = l.foldl (Note.onWord a) (rget s.regs a) := by
  rw [State.report_regs]
  generalize s.regs = f at h ⊢
  induction l generalizing f with
  | nil => rfl
  | cons x l ih => rw [List.foldl_cons, List.foldl_cons, ih (x.onRegs f) (notes_regs_wf (l := [x]) h), rget_onRegs h]

/-- What a live count is after a list of notes. -/
theorem State.lget_report {l : List Note} {a : Nat} {s : State} (h : smWf (fun _ => (0 : Word)) s.live = true) :
    lget (s.report l).live a = l.foldl (Note.onCount a) (lget s.live a) := by
  rw [State.report_live]
  generalize s.live = f at h ⊢
  induction l generalizing f with
  | nil => rfl
  | cons x l ih => rw [List.foldl_cons, List.foldl_cons, ih (x.onLive f) (notes_live_wf (l := [x]) h), lget_onLive h]

/-! ### Changes in sequence -/

/-- A change of register words after another. -/
theorem RegsOnly.app {l m : List Nat} {s u v : State} (k : RegsOnly m u v) (hm : ∀ a ∈ m, a ∈ l) (h : RegsOnly l s u) :
    RegsOnly l s v := fun a ha => (k a (fun e => ha (hm a e))).trans (h a ha)

/-- A longer list of words says less. -/
theorem RegsOnly.mono {l m : List Nat} {s u : State} (h : RegsOnly m s u) (hm : ∀ a ∈ m, a ∈ l) : RegsOnly l s u :=
  fun a ha => h a (fun e => ha (hm a e))

/-- A change that leaves the register words. -/
theorem RegsOnly.only {l : List Nat} {m : List Part} {s u : State} (h : Only m s u) (hm : m.contains .regs = false) :
    RegsOnly l s u := fun _ _ => congrArg (rget · _) (h .regs hm)

/-- A change of live counts after another. -/
theorem LiveOnly.app {l m : List Nat} {s u v : State} (k : LiveOnly m u v) (hm : ∀ a ∈ m, a ∈ l) (h : LiveOnly l s u) :
    LiveOnly l s v := fun a ha => (k a (fun e => ha (hm a e))).trans (h a ha)

/-- A longer list of counts says less. -/
theorem LiveOnly.mono {l m : List Nat} {s u : State} (h : LiveOnly m s u) (hm : ∀ a ∈ m, a ∈ l) : LiveOnly l s u :=
  fun a ha => h a (fun e => ha (hm a e))

/-- A change that leaves the live counts. -/
theorem LiveOnly.only {l : List Nat} {m : List Part} {s u : State} (h : Only m s u) (hm : m.contains .live = false) :
    LiveOnly l s u := fun _ _ => congrArg (lget · _) (h .live hm)

end Sys2Proof.Machine
end

section
/-! Canonical form over every step, and the step on an empty queue. -/

namespace Sys2Proof.Machine

open Sys2Proof

theorem Only.set_pending {v} {s : State} : Only [.pending] s { s with pending := v } := by
  intro p h; cases p <;> first | exact ⟨rfl, rfl⟩ | rfl | cases h

/-- What a command answers keeps the canonical form. -/
theorem exec_canon {k : Instr} {s : State} (h : s.Canonical) : CanonOut (exec k s) := by
  cases k with
  | porstNRelease => exact execPorstNRelease_canon h
  | porstNAssert => exact execPorstNAssert_canon h
  | cryptoSelfTestDone => exact execCryptoSelfTestDone_canon h
  | coreUnderVoltage => exact execCoreUnderVoltage_canon h
  | coreReset => exact execCoreReset_canon h
  | coreRelease => exact execCoreRelease_canon h
  | gladePowerLoss => exact execGladePowerLoss_canon h
  | gladeLoadEnd => exact execGladeLoadEnd_canon h
  | timeBaseBoundary => exact execTimeBaseBoundary_canon h
  | genlockEdge => exact execGenlockEdge_canon h
  | genlockMissing => exact execGenlockMissing_canon h
  | holdoverExpiry => exact execHoldoverExpiry_canon h
  | surfaceFrameBoundary => exact execSurfaceFrameBoundary_canon h
  | deratingMapWritten => exact execDeratingMapWritten_canon h
  | decisionInstant => exact execDecisionInstant_canon h
  | planeCutoff => exact execPlaneCutoff_canon h
  | planeLoadStart => exact execPlaneLoadStart_canon h
  | planeShowInstant => exact execPlaneShowInstant_canon h
  | tickRow => exact execTickRow_canon h
  | fallbackSelectRise => exact execFallbackSelectRise_canon h
  | fallbackSelectFall => exact execFallbackSelectFall_canon h
  | splice => exact execSplice_canon h
  | bar2FrameStoreRead => exact execBar2FrameStoreRead_canon h
  | bar2FrameStoreWrite t req => exact execBar2FrameStoreWrite_canon (x1 := req) h
  | bar2HealthMapWrite t req => exact execBar2HealthMapWrite_canon (x1 := req) h
  | bar2LayerStoreWrite t req => exact execBar2LayerStoreWrite_canon (x1 := req) h
  | bar2CalibrationWrite t req => exact execBar2CalibrationWrite_canon (x1 := req) h
  | bar2CalibrationRead => exact execBar2CalibrationRead_canon h
  | stHmSet => exact execStHmSet_canon h
  | stHmClr => exact execStHmClr_canon h
  | pollInterval => exact execPollInterval_canon h
  | missingPoll => exact execMissingPoll_canon h
  | statusResponse => exact execStatusResponse_canon h
  | identityResponse => exact execIdentityResponse_canon h
  | registerReadResponse => exact execRegisterReadResponse_canon h
  | returnBlockDiscard => exact execReturnBlockDiscard_canon h
  | arrayRegWrite => exact execArrayRegWrite_canon h
  | arrayRegRead => exact execArrayRegRead_canon h
  | lalertReceived => exact execLalertReceived_canon h
  | outputDriverFault => exact execOutputDriverFault_canon h
  | trainingBurstEnd => exact execTrainingBurstEnd_canon h
  | retrainWaitExpiry => exact execRetrainWaitExpiry_canon h
  | holdConfirmTimeout => exact execHoldConfirmTimeout_canon h
  | holdIdleTimeout => exact execHoldIdleTimeout_canon h
  | synthesiserLockLoss => exact execSynthesiserLockLoss_canon h
  | synthesiserRelock => exact execSynthesiserRelock_canon h
  | markerSlot => exact execMarkerSlot_canon h
  | retry => exact execRetry_canon h
  | skLoopWrite => exact execSkLoopWrite_canon h
  | returnLaneLockLoss => exact execReturnLaneLockLoss_canon h
  | intakeLaneLockLoss => exact execIntakeLaneLockLoss_canon h
  | frameStart => exact execFrameStart_canon h
  | linePacket => exact execLinePacket_canon h
  | frameEnd => exact execFrameEnd_canon h
  | sidePacket => exact execSidePacket_canon h
  | plyBlockError => exact execPlyBlockError_canon h
  | sidePacketApertureRead => exact execSidePacketApertureRead_canon h
  | composeOutputLine => exact execComposeOutputLine_canon h
  | lineFetchIssue => exact execLineFetchIssue_canon h
  | lineFetchComplete => exact execLineFetchComplete_canon h
  | segmentWatchdog => exact execSegmentWatchdog_canon h
  | fbInj => exact execFbInj_canon h
  | fbMreq => exact execFbMreq_canon h
  | fbClr => exact execFbClr_canon h
  | droopTrip => exact execDroopTrip_canon h
  | droopRelease => exact execDroopRelease_canon h
  | droopLong => exact execDroopLong_canon h
  | railSample => exact execRailSample_canon h
  | monitorSelfCheck => exact execMonitorSelfCheck_canon h
  | dieModelStep => exact execDieModelStep_canon h
  | orderlyWindowEnd => exact execOrderlyWindowEnd_canon h
  | trefStale => exact execTrefStale_canon h
  | arrayTempStale => exact execArrayTempStale_canon h
  | thmTref => exact execThmTref_canon h
  | thmTjadd => exact execThmTjadd_canon h
  | thmLim => exact execThmLim_canon h
  | clockMonitorWindow => exact execClockMonitorWindow_canon h
  | crossingStall => exact execCrossingStall_canon h
  | hostPortReset => exact execHostPortReset_canon h
  | upstreamCompletion => exact execUpstreamCompletion_canon h
  | completionTimeout => exact execCompletionTimeout_canon h
  | registerWrite => exact execRegisterWrite_canon h
  | qspiRead => exact execQspiRead_canon h
  | qspiReadTimeout => exact execQspiReadTimeout_canon h
  | qspiWrite => exact execQspiWrite_canon h
  | qspiStatus => exact execQspiStatus_canon h
  | qspiIdent => exact execQspiIdent_canon h
  | pgOwnerWrite => exact execPgOwnerWrite_canon h
  | ownLock => exact execOwnLock_canon h
  | pgIrqPendClear => exact execPgIrqPendClear_canon h
  | pgIrqForce => exact execPgIrqForce_canon h
  | pgFltForce => exact execPgFltForce_canon h
  | hostVecArm => exact execHostVecArm_canon h
  | msixMessage => exact execMsixMessage_canon h
  | mbDoor => exact execMbDoor_canon h
  | mailboxTimeout => exact execMailboxTimeout_canon h
  | fpMbDone => exact execFpMbDone_canon h
  | fpMbEvt => exact execFpMbEvt_canon h
  | topCommit => exact execTopCommit_canon h
  | topPhaseWrite => exact execTopPhaseWrite_canon h
  | shutdownStart => exact execShutdownStart_canon h
  | shutdownEnd => exact execShutdownEnd_canon h
  | dmaStart => exact execDmaStart_canon h
  | dmaStop => exact execDmaStop_canon h
  | dmaAbort => exact execDmaAbort_canon h
  | dmaDoor => exact execDmaDoor_canon h
  | dmaSwreq => exact execDmaSwreq_canon h
  | descriptorFetched => exact execDescriptorFetched_canon h
  | dmaRequestTaken => exact execDmaRequestTaken_canon h
  | dmaBurstGrant => exact execDmaBurstGrant_canon h
  | dmaBurstEnd => exact execDmaBurstEnd_canon h
  | dmaBusError => exact execDmaBusError_canon h
  | dmaWriteBackDone => exact execDmaWriteBackDone_canon h
  | shMbpubGo => exact execShMbpubGo_canon h
  | mailboxCopyDone => exact execMailboxCopyDone_canon h
  | listTakeUp => exact execListTakeUp_canon h
  | listLifeExpiry => exact execListLifeExpiry_canon h
  | crTdataWrite => exact execCrTdataWrite_canon h
  | crMlim => exact execCrMlim_canon h
  | faultArrival => exact execFaultArrival_canon h
  | episodeClose => exact execEpisodeClose_canon h
  | fcSrccls => exact execFcSrccls_canon h
  | injectionKey => exact execInjectionKey_canon h
  | injectionLock => exact execInjectionLock_canon h
  | injectionTimeout => exact execInjectionTimeout_canon h
  | fcChkinv => exact execFcChkinv_canon h
  | heartbeatToggle => exact execHeartbeatToggle_canon h
  | classLineChange => exact execClassLineChange_canon h
  | heartbeatTimeout => exact execHeartbeatTimeout_canon h
  | classLineFault => exact execClassLineFault_canon h
  | gladeCycle => exact execGladeCycle_canon h
  | lineMaskExpiry => exact execLineMaskExpiry_canon h
  | rcClockWindow => exact execRcClockWindow_canon h
  | sysclkCheckWindow => exact execSysclkCheckWindow_canon h
  | gladeSupplyFault => exact execGladeSupplyFault_canon h
  | readbackMismatch => exact execReadbackMismatch_canon h
  | fallbackCrcCheck => exact execFallbackCrcCheck_canon h
  | errHoldExpiry => exact execErrHoldExpiry_canon h
  | returnDwellExpiry => exact execReturnDwellExpiry_canon h
  | sspiFrame => exact execSspiFrame_canon h
  | sspiStatus => exact execSspiStatus_canon h
  | sspiRead => exact execSspiRead_canon h
  | sspiWrite => exact execSspiWrite_canon h
  | resume => exact execResume_canon h
  | clear => exact execClear_canon h
  | injkey => exact execInjkey_canon h
  | sspiWatchdog => exact execSspiWatchdog_canon h
  | fpWdog => exact execFpWdog_canon h
  | firmwareWatchdogExpiry => exact execFirmwareWatchdogExpiry_canon h
  | foresterReset => exact execForesterReset_canon h
  | swrst => exact execSwrst_canon h
  | bootSelect => exact execBootSelect_canon h
  | tcmError => exact execTcmError_canon h
  | foresterException => exact execForesterException_canon h
  | spiNorCommand => exact execSpiNorCommand_canon h
  | spiNorCommandDone => exact execSpiNorCommandDone_canon h
  | spiNorWipTimeout => exact execSpiNorWipTimeout_canon h
  | sensorSlotDue => exact execSensorSlotDue_canon h
  | sensorTransferDone => exact execSensorTransferDone_canon h
  | sensorSclTimeout => exact execSensorSclTimeout_canon h
  | logAppendFirmware => exact execLogAppendFirmware_canon h
  | fpLogRd => exact execFpLogRd_canon h
  | logExportRead => exact execLogExportRead_canon h
  | verify => exact execVerify_canon h
  | load => exact execLoad_canon h
  | arbRaise => exact execArbRaise_canon h
  | otpProg => exact execOtpProg_canon h
  | cfgSet => exact execCfgSet_canon h
  | secCommandEnd => exact execSecCommandEnd_canon h
  | secChal => exact execSecChal_canon h
  | secResp => exact execSecResp_canon h
  | challengeExpiry => exact execChallengeExpiry_canon h
  | intakeLaneLockGain => exact execIntakeLaneLockGain_canon h
  | prbsLock => exact execPrbsLock_canon h
  | linkUp => exact execLinkUp_canon h
  | counterLowWordRead => exact execCounterLowWordRead_canon h
  | uartByteReceived => exact execUartByteReceived_canon h
  | debugAccess => exact execDebugAccess_canon h
  | _ => exact fun _ e => .only (exec_only _ e) rfl h

/-- Settles O5: a step is a command with the queue's rest, or what the block does with nothing commanded. -/
theorem stepKeepsCanonicalForm : Obligations.StepKeepsCanonicalForm := by
  unfold Obligations.StepKeepsCanonicalForm
  intro s n canon next
  cases queue : s.pending with
  | nil =>
    obtain rfl : idle s = n := Host.Outcome.next.inj ((step_nil queue).symm.trans next)
    exact idle_canon canon
  | cons c cs => exact exec_canon (.only Only.set_pending rfl canon) n ((step_cons queue).symm.trans next)

/-! ### Nothing commanded (log entry 3) -/

/-- The oldest queued write, to an illegal address, is counted and dropped (13 R469, R471). -/
theorem State.qspiStep_bad {a v : Word} {r : List (Word × Word)} {s : State} (front : s.host.qspiQ = (a, v) :: r)
    (bad : qspiGood a = false) : s.qspiStep = { s with host := { s.host with qspiQ := r } }.report badAccess := by
  simp only [State.qspiStep, front, State.qspiPut, bad, Bool.not_false, if_true]

/-- The oldest byte of the UART's transmit FIFO leaves (18 R645). -/
theorem State.uartStep_cons {b : Byte} {r : List Byte} {s : State} (front : s.fst.uartTx = b :: r) :
    s.uartStep = { s with fst := { s.fst with uartTx := r } }.report [.send (.uart b)] := by
  simp only [State.uartStep, front]

/-- With no byte to send the block stays. -/
theorem State.uartStep_nil {s : State} (empty : s.fst.uartTx = []) : s.uartStep = s := by
  simp only [State.uartStep, empty]

/-- A block held in reset idles. -/
theorem idle_held {s : State} (off : s.coreOn = false) : idle s = s := by
  simp only [idle, off, Bool.not_false, if_true]

/-- A queued write of the quad-SPI port goes before the UART. -/
theorem idle_qspi {x : Word × Word} {r : List (Word × Word)} {s : State} (on : s.coreOn = true)
    (front : s.host.qspiQ = x :: r) : idle s = s.qspiStep := by
  simp [idle, on, front]

/-- With no write queued the UART sends. -/
theorem idle_uart {s : State} (on : s.coreOn = true) (empty : s.host.qspiQ = []) : idle s = s.uartStep := by
  simp [idle, on, empty]

/-- Settles O2. -/
theorem emptyQueueStep : Obligations.EmptyQueueStep := by
  unfold Obligations.EmptyQueueStep
  intro s empty canon
  rw [step_nil empty]
  refine ⟨fun off => by rw [idle_held off], fun a v r on front bad => ?_, fun b r on none front => ?_, fun on none done => ?_⟩
  · refine ⟨_, rfl, ?_⟩
    rw [idle_qspi on front, State.qspiStep_bad front bad]
    exact ⟨rfl, State.rget_report canon.regs, rfl, State.report_regsOnly_of (fun _ h => h) rfl,
      .app State.report_parts rfl (Only.set_host.mono rfl)⟩
  · refine ⟨_, rfl, ?_⟩
    rw [idle_uart on none, State.uartStep_cons front]
    exact ⟨rfl, rfl, .app State.report_parts rfl (Only.set_fst.mono rfl)⟩
  · rw [idle_uart on none, State.uartStep_nil done]

end Sys2Proof.Machine
end

section
/-! What every command keeps of the queues, of the OTP key store and of Glade's latches. -/

namespace Sys2Proof.Machine

open Sys2Proof

/-! ### What every command keeps of a block

`Sound s t` holds of a block and what becomes of it where no queue grows past its size, no bit of the OTP key store returns
to 0, and Glade's latches stay: LOCKOUT and the raised bits of the sources that lock. -/

/-- The OTP key store stays canonical and loses no bit (19 R669). -/
def Sec.Grows (x y : Sec) : Prop :=
  Memory.wf otpByte0 x.otp = true → Memory.wf otpByte0 y.otp = true ∧
    ∀ a i, bit (x.otpByte a) i = true → bit (y.otpByte a) i = true

/-- Genlock's records stay within their sizes (11 R404, R405). -/
def TimeBase.Fits (x y : TimeBase) : Prop :=
  (x.acqn ≤ 4 → y.acqn ≤ 4) ∧ (x.spacings.length ≤ 4 → y.spacings.length ≤ 4) ∧
    (x.edges.length ≤ 4 → y.edges.length ≤ 4) ∧ (x.phaseRun ≤ 4 → y.phaseRun ≤ 4)

/-- The UART's FIFOs stay within their sizes (18 R645). -/
def Forester.Fits (x y : Forester) : Prop :=
  (x.uartTx.length ≤ 16 → y.uartTx.length ≤ 16) ∧ (x.uartRx.length ≤ 16 → y.uartRx.length ≤ 16)

/-- The quad-SPI write queue stays within its size (13 R471). -/
def HostPort.Fits (x y : HostPort) : Prop := x.qspiQ.length ≤ 16 → y.qspiQ.length ≤ 16

/-- LOCKOUT stays, and every raised bit of a source that locks (17 R606). -/
def Glade.Latched (x y : Glade) : Prop :=
  (x.st = .lockout → y.st = .lockout) ∧ ∀ j, j < 7 → bit x.raised j = true → bit y.raised j = true

/-- The queues within their sizes and the OTP key store without a loss. -/
structure Stored (s t : State) : Prop where
  clearQ : s.clearQ.length ≤ 16 → t.clearQ.length ≤ 16
  host : s.host.Fits t.host
  fst : s.fst.Fits t.fst
  tb : s.tb.Fits t.tb
  sec : s.sec.Grows t.sec

/-- What every command keeps but a reset, a loss of Glade's supply and an accepted press. -/
structure Sound (s t : State) : Prop extends Stored s t where
  glade : s.glade.Latched t.glade

theorem Sec.Grows.of_eq {x y : Sec} (h : y.otp = x.otp) : x.Grows y := by
  intro w
  unfold Sec.otpByte
  rw [h]
  exact ⟨w, fun _ _ e => e⟩

theorem Sec.Grows.trans {x y z : Sec} (h : x.Grows y) (k : y.Grows z) : x.Grows z := fun w =>
  have ⟨wy, by_⟩ := h w
  have ⟨wz, bz⟩ := k wy
  ⟨wz, fun a i e => bz a i (by_ a i e)⟩

theorem TimeBase.Fits.of_eq {x y : TimeBase} (acqn : y.acqn = x.acqn) (spacings : y.spacings = x.spacings)
    (edges : y.edges = x.edges) (phaseRun : y.phaseRun = x.phaseRun) : x.Fits y := by
  rw [TimeBase.Fits, acqn, spacings, edges, phaseRun]
  exact ⟨id, id, id, id⟩

theorem TimeBase.Fits.trans {x y z : TimeBase} (h : x.Fits y) (k : y.Fits z) : x.Fits z := by
  obtain ⟨h1, h2, h3, h4⟩ := h
  obtain ⟨k1, k2, k3, k4⟩ := k
  exact ⟨k1 ∘ h1, k2 ∘ h2, k3 ∘ h3, k4 ∘ h4⟩

theorem Forester.Fits.of_eq {x y : Forester} (tx : y.uartTx = x.uartTx) (rx : y.uartRx = x.uartRx) : x.Fits y := by
  rw [Forester.Fits, tx, rx]
  exact ⟨id, id⟩

theorem Forester.Fits.trans {x y z : Forester} (h : x.Fits y) (k : y.Fits z) : x.Fits z := ⟨k.1 ∘ h.1, k.2 ∘ h.2⟩

theorem HostPort.Fits.of_eq {x y : HostPort} (h : y.qspiQ = x.qspiQ) : x.Fits y := by
  rw [HostPort.Fits, h]
  exact id

theorem Glade.Latched.of_eq {x y : Glade} (st : y.st = x.st) (raised : y.raised = x.raised) : x.Latched y := by
  rw [Glade.Latched, st, raised]
  exact ⟨id, fun _ _ => id⟩

theorem Glade.Latched.trans {x y z : Glade} (h : x.Latched y) (k : y.Latched z) : x.Latched z :=
  ⟨k.1 ∘ h.1, fun j hj e => k.2 j hj (h.2 j hj e)⟩

/-- A change of other parts keeps the stores. -/
theorem Stored.of_only {l : List Part} {s t : State} (k : Only l s t)
    (hl : [Part.clearQ, .host, .fst, .tb, .sec].all (fun p => !l.contains p) = true) : Stored s t := by
  simp only [List.all_cons, List.all_nil, Bool.and_eq_true, Bool.not_eq_true'] at hl
  obtain ⟨h1, h2, h3, h4, h5, -⟩ := hl
  have clearQ : t.clearQ = s.clearQ := k _ h1
  have host : t.host = s.host := k _ h2
  have fst : t.fst = s.fst := k _ h3
  have tb : t.tb = s.tb := k _ h4
  have sec : t.sec = s.sec := k _ h5
  exact ⟨by rw [clearQ]; exact id, .of_eq (by rw [host]), .of_eq (by rw [fst]) (by rw [fst]),
    .of_eq (by rw [tb]) (by rw [tb]) (by rw [tb]) (by rw [tb]), .of_eq (by rw [sec])⟩

/-- A change of other parts is sound. -/
theorem Sound.of_only {l : List Part} {s t : State} (k : Only l s t)
    (hl : [Part.clearQ, .host, .fst, .tb, .sec, .glade].all (fun p => !l.contains p) = true) : Sound s t := by
  have h : [Part.clearQ, .host, .fst, .tb, .sec].all (fun p => !l.contains p) = true ∧ l.contains .glade = false := by
    simpa [and_assoc] using hl
  have glade : t.glade = s.glade := k _ h.2
  exact ⟨.of_only k h.1, .of_eq (by rw [glade]) (by rw [glade])⟩

/-- A second change after a first one. -/
theorem Stored.app {s u v : State} (k : Stored u v) (h : Stored s u) : Stored s v where
  clearQ := k.clearQ ∘ h.clearQ
  host := k.host ∘ h.host
  fst := h.fst.trans k.fst
  tb := h.tb.trans k.tb
  sec := h.sec.trans k.sec

/-- A second change after a first one. -/
theorem Sound.app {s u v : State} (k : Sound u v) (h : Sound s u) : Sound s v where
  toStored := .app k.toStored h.toStored
  glade := h.glade.trans k.glade

/-- A change of other parts after a first one. -/
theorem Sound.only {l : List Part} {s u v : State} (k : Only l u v)
    (hl : [Part.clearQ, .host, .fst, .tb, .sec, .glade].all (fun p => !l.contains p) = true) (h : Sound s u) : Sound s v :=
  .app (.of_only k hl) h

/-- Nothing changed. -/
theorem Sound.refl {s : State} : Sound s s := .of_only (l := []) .refl rfl

/-- A branch. -/
theorem Sound.ite {s a b : State} {c : Prop} [Decidable c] (ha : Sound s a) (hb : Sound s b) :
    Sound s (if c then a else b) := by split <;> assumption

/-- A branch that answers a value beside the state. -/
theorem Sound.snd_ite {α : Type} {s : State} {a b : α × State} {c : Prop} [Decidable c]
    (ha : Sound s a.2) (hb : Sound s b.2) : Sound s (if c then a else b).2 := by split <;> assumption

/-- A fold of changes. -/
theorem Sound.foldl {α : Type} {s u : State} {f : State → α → State} {xs : List α}
    (h : Sound s u) (hf : ∀ v x, Sound s v → Sound s (f v x)) : Sound s (xs.foldl f u) :=
  List.foldlRecOn xs f h (fun v hv x _ => hf v x hv)

/-- A change made under a condition. -/
theorem Sound.when {s u : State} {c : Bool} {f : State → State} (hf : ∀ v, Sound s v → Sound s (f v))
    (h : Sound s u) : Sound s (u.when c f) := by
  unfold State.when
  exact .ite (hf u h) h

/-- A write of a register by a requester. -/
theorem Sound.access {s u : State} {req : Req} {page : Nat} {f : State → State}
    (hf : ∀ v, Sound s v → Sound s (f v)) (h : Sound s u) : Sound s (u.access req page f) := by
  unfold State.access
  exact .ite (.only State.report_only rfl h) (.ite (hf u h) (.only State.report_only rfl h))

/-- A command whose event may have been taken ahead of its turn. -/
theorem Sound.once {s u : State} {c : Instr} {f : State → State}
    (hf : ∀ v, Sound s v → Sound s (f v)) (h : Sound s u) : Sound s (u.once c f) := by
  unfold State.once
  exact .ite (.only Only.set_sample rfl h) (hf u h)

/-- What a search answers is sound. -/
def OptSound (s : State) (o : Option (State → State)) : Prop := ∀ f, o = some f → ∀ v, Sound s v → Sound s (f v)

/-- Nothing found. -/
theorem OptSound.none {s : State} : OptSound s none := nofun

/-- A change found. -/
theorem OptSound.some {s : State} {f : State → State} (h : ∀ v, Sound s v → Sound s (f v)) : OptSound s (some f) := by
  rintro _ ⟨⟩
  exact h

/-- A branch between two searches. -/
theorem OptSound.ite {s : State} {a b : Option (State → State)} {c : Prop} [Decidable c]
    (ha : OptSound s a) (hb : OptSound s b) : OptSound s (if c then a else b) := by split <;> assumption

/-- The events of the sample taken first. -/
theorem Sound.takeFirst {s u : State} {p : Instr → Option (State → State)}
    (hp : ∀ c, OptSound s (p c)) (h : Sound s u) : Sound s (u.takeFirst p) :=
  State.takeFirst_induction (P := Sound s) (fun _ _ k => .only Only.set_sample rfl k) (fun c f e => hp c f e) h

/-- Occurrences of a checker on the words of a list. -/
theorem Sound.injWords {s u : State} {target : Nat} {put : Nat → Bool → State → State} {xs : List Nat}
    (hp : ∀ w b v, Sound s v → Sound s (put w b v)) (h : Sound s u) : Sound s (State.injWords target put xs u) := by
  induction xs generalizing u with
  | nil => exact h
  | cons x xs ih =>
    unfold State.injWords
    exact ih (.ite h (hp _ _ _ (.only State.useInj_only rfl h)))

/-- A write handler run on a part of a byte string. -/
theorem Sound.putPart {s u : State} {lo hi a : Nat} {data : List Byte} {f : Nat → List Byte → State → State}
    (hf : ∀ x l v, Sound s v → Sound s (f x l v)) (h : Sound s u) : Sound s (State.putPart lo hi a data f u) := by
  unfold State.putPart
  exact .ite h (hf _ _ _ h)

/-! ### Updates of fields -/

theorem Sound.set_clearQ {v} {s : State} (h : s.clearQ.length ≤ 16 → v.length ≤ 16) : Sound s { s with clearQ := v } :=
  { Sound.refl (s := s) with clearQ := h }

theorem Sound.set_host {x} {s : State} (h : x.qspiQ = s.host.qspiQ) : Sound s { s with host := x } :=
  { Sound.refl (s := s) with host := .of_eq h }

theorem Sound.set_clk_host {v x} {s : State} (h : x.qspiQ = s.host.qspiQ) : Sound s { s with clk := v, host := x } :=
  { Sound.refl (s := s) with host := .of_eq h }

theorem Sound.set_regs_top_host {v w x} {s : State} (h : x.qspiQ = s.host.qspiQ) :
    Sound s { s with regs := v, top := w, host := x } :=
  { Sound.refl (s := s) with host := .of_eq h }

theorem Sound.set_fst {x} {s : State} (tx : x.uartTx = s.fst.uartTx) (rx : x.uartRx = s.fst.uartRx) :
    Sound s { s with fst := x } :=
  { Sound.refl (s := s) with fst := .of_eq tx rx }

theorem Sound.set_fst_fits {x} {s : State} (h : s.fst.Fits x) : Sound s { s with fst := x } :=
  { Sound.refl (s := s) with fst := h }

theorem Sound.set_host_fits {x} {s : State} (h : s.host.Fits x) : Sound s { s with host := x } :=
  { Sound.refl (s := s) with host := h }

theorem Sound.set_regs_glade_fst_sec {v w x y} {s : State} (h : s.glade.Latched w) (f : s.fst.Fits x)
    (k : s.sec.Grows y) : Sound s { s with regs := v, glade := w, fst := x, sec := y } :=
  { Sound.refl (s := s) with glade := h, fst := f, sec := k }

theorem Sound.set_regs_fst {v x} {s : State} (tx : x.uartTx = s.fst.uartTx) (rx : x.uartRx = s.fst.uartRx) :
    Sound s { s with regs := v, fst := x } :=
  { Sound.refl (s := s) with fst := .of_eq tx rx }

theorem Sound.set_thm_fst {v x} {s : State} (tx : x.uartTx = s.fst.uartTx) (rx : x.uartRx = s.fst.uartRx) :
    Sound s { s with thm := v, fst := x } :=
  { Sound.refl (s := s) with fst := .of_eq tx rx }

theorem Sound.set_host_fst {v x} {s : State} (h : v.qspiQ = s.host.qspiQ) (tx : x.uartTx = s.fst.uartTx)
    (rx : x.uartRx = s.fst.uartRx) : Sound s { s with host := v, fst := x } :=
  { Sound.refl (s := s) with host := .of_eq h, fst := .of_eq tx rx }

theorem Sound.set_regs_host_fst {w v x} {s : State} (h : v.qspiQ = s.host.qspiQ) (tx : x.uartTx = s.fst.uartTx)
    (rx : x.uartRx = s.fst.uartRx) : Sound s { s with regs := w, host := v, fst := x } :=
  { Sound.refl (s := s) with host := .of_eq h, fst := .of_eq tx rx }

theorem Sound.set_sec {x} {s : State} (h : s.sec.Grows x) : Sound s { s with sec := x } :=
  { Sound.refl (s := s) with sec := h }

/-- A new security block that keeps the OTP key store as it was before the changes up to here. -/
theorem Sound.put_sec {x} {s u : State} (h : Sound s u) (k : s.sec.Grows x) : Sound s { u with sec := x } :=
  { h with sec := k }

theorem Sound.set_regs_fst_sec {v w x} {s : State} (tx : w.uartTx = s.fst.uartTx) (rx : w.uartRx = s.fst.uartRx)
    (h : s.sec.Grows x) : Sound s { s with regs := v, fst := w, sec := x } :=
  { Sound.refl (s := s) with fst := .of_eq tx rx, sec := h }

theorem Sound.set_free_sec {v x} {s : State} (h : s.sec.Grows x) : Sound s { s with free := v, sec := x } :=
  { Sound.refl (s := s) with sec := h }

theorem Sound.set_glade {x} {s : State} (h : s.glade.Latched x) : Sound s { s with glade := x } :=
  { Sound.refl (s := s) with glade := h }

theorem Sound.set_clk_glade {v x} {s : State} (h : s.glade.Latched x) : Sound s { s with clk := v, glade := x } :=
  { Sound.refl (s := s) with glade := h }

theorem Sound.set_flt_glade {v x} {s : State} (h : s.glade.Latched x) : Sound s { s with flt := v, glade := x } :=
  { Sound.refl (s := s) with glade := h }

theorem Sound.set_thm_glade_fst {v w x} {s : State} (h : s.glade.Latched w) (tx : x.uartTx = s.fst.uartTx)
    (rx : x.uartRx = s.fst.uartRx) : Sound s { s with thm := v, glade := w, fst := x } :=
  { Sound.refl (s := s) with glade := h, fst := .of_eq tx rx }

theorem Sound.set_tb {x} {s : State} (h : s.tb.Fits x) : Sound s { s with tb := x } :=
  { Sound.refl (s := s) with tb := h }

theorem Sound.set_tb_cmt {x v} {s : State} (h : s.tb.Fits x) : Sound s { s with tb := x, cmt := v } :=
  { Sound.refl (s := s) with tb := h }

theorem Sound.set_regs_tb_cmt_flt {v x w y} {s : State} (h : s.tb.Fits x) :
    Sound s { s with regs := v, tb := x, cmt := w, flt := y } :=
  { Sound.refl (s := s) with tb := h }

/-! ### What a command answers -/

/-- What a command answers is sound. -/
def SoundOut (s : State) (o : Host.Outcome State Fault Refusal) : Prop := ∀ t, o = .next t → Sound s t

/-- A next state. -/
theorem SoundOut.next {s t : State} (h : Sound s t) : SoundOut s (.next t) := by
  rintro _ ⟨⟩
  exact h

/-- A branch between two answers. -/
theorem SoundOut.ite {s : State} {a b : Host.Outcome State Fault Refusal} {c : Prop} [Decidable c]
    (ha : SoundOut s a) (hb : SoundOut s b) : SoundOut s (if c then a else b) := by split <;> assumption

section
variable {s : State} {t : Nat} {f : State → State}

/-- A command to the core. -/
theorem SoundOut.core (hf : ∀ v, Sound s v → Sound s (f v)) : SoundOut s (onCore t s f) :=
  .next (.ite (hf _ (.only State.stamp_only rfl .refl)) (.only State.stamp_only rfl .refl))

/-- A command to Glade. -/
theorem SoundOut.glade (hf : ∀ v, Sound s v → Sound s (f v)) : SoundOut s (onGlade t s f) :=
  .next (.ite (hf _ (.only State.stamp_only rfl .refl)) (.only State.stamp_only rfl .refl))

/-- A command to Forester. -/
theorem SoundOut.forester (hf : ∀ v, Sound s v → Sound s (f v)) : SoundOut s (onForester t s f) :=
  SoundOut.core (fun _ h => .when hf h)

/-- A write to the SEC page. -/
theorem SoundOut.sec (hf : ∀ v, Sound s v → Sound s (f v)) : SoundOut s (onSec t s f) :=
  SoundOut.forester (fun _ h => .access hf h)

/-- A transaction on the quad-SPI port. -/
theorem SoundOut.qspi (hf : ∀ v, Sound s v → Sound s (f v)) : SoundOut s (onQspi t s f) :=
  SoundOut.core (fun _ h => .when hf h)

end

end Sys2Proof.Machine
end

section
/-! The OTP key store, genlock's records, the queues and Glade's latches: what each change of them keeps. -/

namespace Sys2Proof.Machine

open Sys2Proof

/-! ### Bytes of the OTP key store (19 R669) -/

theorem ofBytesLE_testBit {l : List Byte} {i k : Nat} (hk : k < 8) :
    (ofBytesLE l).testBit (8 * i + k) = bit (l.getD i 0) k := by
  induction l generalizing i with
  | nil => simp [ofBytesLE, bit]
  | cons b r ih =>
    have e : ofBytesLE (b :: r) = 2 ^ 8 * ofBytesLE r + b.toNat := by simp [ofBytesLE, Nat.add_comm]
    rw [e, Nat.testBit_two_pow_mul_add _ b.isLt]
    cases i with
    | zero => simp [hk, bit, BitVec.getLsbD]
    | succ i =>
      have h8 : ¬ 8 * (i + 1) + k < 8 := by omega
      rw [if_neg h8, show 8 * (i + 1) + k - 8 = 8 * i + k by omega, ih, List.getD_cons_succ]

theorem toBytesLE_length {n x : Nat} : (toBytesLE n x).length = n := by
  induction n generalizing x with
  | zero => rfl
  | succ n ih => simp [toBytesLE, ih]

theorem bit_toBytesLE {n x i k : Nat} (hi : i < n) (hk : k < 8) :
    bit ((toBytesLE n x).getD i 0) k = x.testBit (8 * i + k) := by
  induction n generalizing x i with
  | zero => omega
  | succ n ih =>
    cases i with
    | zero =>
      rw [toBytesLE, List.getD_cons_zero, bit, BitVec.getLsbD_ofNat, decide_eq_true hk, Bool.true_and, Nat.mul_zero,
        Nat.zero_add]
    | succ i =>
      rw [toBytesLE, List.getD_cons_succ, ih (by omega), show (256 : Nat) = 2 ^ 8 from rfl, Nat.testBit_div_two_pow]
      congr 1
      omega

theorem Memory.read_writeL {d : Nat → Byte} {m : List Host.Cell} {a j : Nat} {l : List Byte} (h : Memory.wf d m = true) :
    Memory.read d (Memory.writeL d m a l) j =
      if a ≤ j ∧ j < a + l.length then l.getD (j - a) 0 else Memory.read d m j := by
  induction l generalizing m a with
  | nil =>
    have : ¬ (a ≤ j ∧ j < a + ([] : List Byte).length) := by simp
    rw [if_neg this, Memory.writeL]
  | cons b r ih =>
    rw [Memory.writeL, ih (Memory.write_wf h)]
    by_cases e : j = a
    · subst e
      simp only [Memory.read, Memory.write, List.length_cons]
      rw [if_neg (by omega), if_pos (by omega), smGet_smSet_self h, Nat.sub_self, List.getD_cons_zero]
    · have hr : Memory.read d (Memory.write d m a b) j = Memory.read d m j := smGet_smSet_ne e
      rw [hr, List.length_cons]
      by_cases k : a + 1 ≤ j ∧ j < a + 1 + r.length
      · rw [if_pos k, if_pos (by omega), show j - a = (j - (a + 1)) + 1 by omega, List.getD_cons_succ]
      · rw [if_neg k, if_neg (by omega)]

/-- A program sets bits of one word and clears none. -/
theorem Sec.program_grows {x : Sec} {w v : Nat} : x.Grows (x.program w v) := by
  intro h
  refine ⟨Sec.program_otp h, fun a i e => ?_⟩
  have hi : i < 8 := by
    by_contra k
    rw [bit, BitVec.getLsbD_of_ge _ _ (Nat.le_of_not_lt k)] at e
    cases e
  unfold Sec.otpByte Sec.program
  rw [Memory.read_writeL h, toBytesLE_length]
  split
  case isFalse => exact e
  case isTrue hw =>
    have byte : (x.otpBytes (8 * w) 8).getD (a - 8 * w) 0 = x.otpByte a := by
      have hl : a - 8 * w < 8 := by omega
      simp only [Sec.otpBytes, Memory.readN, List.getD_eq_getElem?_getD, List.getElem?_map, List.getElem?_range hl,
        Option.map_some, Option.getD_some]
      rw [show 8 * w + (a - 8 * w) = a by omega, Sec.otpByte]
    rw [bit_toBytesLE (by omega) hi, Nat.testBit_or, Sec.otpWord, ofBytesLE_testBit hi, byte, e, Bool.true_or]

theorem Sec.setCfg_grows {x : Sec} {v : Nat} : x.Grows (x.setCfg v) :=
  (Sec.program_grows.trans Sec.program_grows).trans Sec.program_grows

theorem Sec.partialWord_grows {x : Sec} {k : Nat} {w : Nat × Nat} : x.Grows (x.partialWord k w) := by
  have h : x.Grows (x.program w.1 (w.2 &&& Config.freeValue k)) := Sec.program_grows
  unfold Sec.partialWord
  dsimp only
  split
  · exact h.trans (.of_eq rfl)
  · exact h

/-! ### Genlock's records (11 R404, R405) -/

theorem TimeBase.free_fits {b : TimeBase} : b.Fits b.free :=
  ⟨fun _ => Nat.zero_le _, fun _ => Nat.zero_le _, fun _ => Nat.zero_le _, id⟩

theorem TimeBase.lose_fits {b : TimeBase} {e : Nat} : b.Fits (b.lose e) :=
  ⟨fun _ => Nat.zero_le _, fun _ => Nat.zero_le _, id, id⟩

theorem TimeBase.good_fits {b : TimeBase} {c : TimeSet} {e sp : Nat} : b.Fits (b.good c e sp) := by
  have n : min 4 (b.acqn + 1) ≤ 4 := Nat.min_le_left _ _
  have l (x : List Nat) : (x.take 4).length ≤ 4 := by rw [List.length_take]; exact Nat.min_le_left _ _
  unfold TimeBase.good
  dsimp only
  split <;> exact ⟨fun _ => n, fun _ => l _, fun _ => l _, id⟩

theorem TimeBase.edge_fits {b : TimeBase} {c : TimeSet} {e : Nat} : b.Fits (b.edge c e) := by
  unfold TimeBase.edge
  split
  case h_1 => exact ⟨fun _ => Nat.zero_le _, fun _ => Nat.zero_le _, id, id⟩
  case h_2 =>
    split
    · exact ⟨fun _ => Nat.zero_le _, fun _ => Nat.zero_le _, id, id⟩
    · split
      · exact TimeBase.good_fits
      · exact TimeBase.lose_fits

theorem TimeBase.gate_fits {b : TimeBase} {c : TimeSet} : b.Fits (b.gate c) := by
  unfold TimeBase.gate
  split
  · exact .of_eq rfl rfl rfl rfl
  · exact TimeBase.free_fits

theorem TimeBase.boundary_fits {b : TimeBase} {c : TimeSet} {t per : Nat} {hard : Bool} {ofs : Vector Nat 2} :
    b.Fits (b.boundary c t per hard ofs) := by
  obtain ⟨h1, h2, h3, -⟩ := TimeBase.gate_fits (b := b) (c := c)
  refine ⟨h1, h2, h3, fun _ => ?_⟩
  unfold TimeBase.boundary
  dsimp only
  by_cases e : ((b.gate c).gl == .locked) = true
  case neg => simp [e]
  simp only [e, Bool.true_and, if_true]
  split
  · exact Nat.min_le_left _ _
  · exact Nat.zero_le _

/-! ### The queues of the host port and of the UART (13 R471, 18 R645) -/

theorem HostPort.stallAt_qspiQ {h : HostPort} {c : Crossing} : (h.stallAt c).qspiQ = h.qspiQ := by
  unfold HostPort.stallAt
  split <;> rfl

theorem HostPort.configure_qspiQ {h : HostPort} {w : CfgWrite} : (h.configure w).qspiQ = h.qspiQ := by
  cases w <;> rfl

theorem HostPort.qspiPush_fits {h : HostPort} {x : Word × Word} : h.Fits (h.qspiPush x) := by
  intro k
  unfold HostPort.qspiPush
  split
  case isTrue hlt => simpa using hlt
  case isFalse => exact k

theorem HostPort.qspiPushes_fits {h : HostPort} {l : List (Word × Word)} : h.Fits (l.foldl HostPort.qspiPush h) :=
  fun k => List.foldlRecOn (motive := fun y => y.qspiQ.length ≤ 16) l HostPort.qspiPush k (fun _ hb _ _ => HostPort.qspiPush_fits hb)

theorem Forester.reset_fits {x : Forester} {c : ForCause} {held : Bool} : x.Fits (x.reset c held) :=
  ⟨fun _ => Nat.zero_le _, fun _ => Nat.zero_le _⟩

theorem Forester.receive_fits {x : Forester} {b : Byte} : x.Fits (x.receive b) := by
  unfold Forester.receive
  split
  case isTrue hlt => exact ⟨id, fun _ => by simpa using hlt⟩
  case isFalse => exact ⟨id, id⟩

theorem Forester.writeFlags_fits {x : Forester} {off : Nat} {v : Word} : x.Fits (x.writeFlags off v) := by
  unfold Forester.writeFlags
  split_ifs <;> exact .of_eq rfl rfl

theorem Forester.try_fits {x : Forester} {b : Bool} : x.Fits (x.try_ b) := by
  unfold Forester.try_
  split <;> exact .of_eq rfl rfl

theorem Forester.untry_fits {x : Forester} {b : Bool} : x.Fits (x.untry b) := by
  unfold Forester.untry
  split <;> exact .of_eq rfl rfl

/-! ### Glade's latches (17 R606) -/

/-- More raised bits, in an unchanged state of Glade or in LOCKOUT. -/
theorem Glade.Latched.of_or {x y : Glade} (st : x.st = .lockout → y.st = .lockout) (m : BitVec 12)
    (raised : y.raised = x.raised ||| m) : x.Latched y := by
  refine ⟨st, fun j _ e => ?_⟩
  rw [raised]
  unfold bit at *
  rw [BitVec.getLsbD_or, e, Bool.true_or]

theorem Glade.transit_raised {g : Glade} {ready : Bool} : (g.transit ready).raised = g.raised := by
  unfold Glade.transit
  split
  · rfl
  · split
    case h_1 => split <;> rfl
    case h_2 => split_ifs <;> rfl
    case h_3 => split_ifs <;> rfl
    case h_4 => split_ifs <;> rfl
    case h_5 => rfl

theorem Glade.transit_lockout {g : Glade} {ready : Bool} (h : g.st = .lockout) : g.transit ready = g := by
  simp [Glade.transit, h]

theorem Glade.transit_latched {g : Glade} {ready : Bool} : g.Latched (g.transit ready) :=
  ⟨fun h => by rw [Glade.transit_lockout h, h], fun _ _ e => by rw [Glade.transit_raised]; exact e⟩

/-- A sample of the state machine keeps the latches. -/
theorem Glade.sample_latched {g : Glade} {now : Nat} {r0 r1 : Bool} : g.Latched (g.sample now r0 r1) := by
  let ripe := { g with pairA := g.pairA.ripe now, pairB := g.pairB.ripe now }
  let raised := { ripe with raised := g.raised ||| ripe.readback.holding, cond := ripe.readback.cond }
  have h : g.Latched { raised with retOk := raised.retOkNow } := .of_or id ripe.readback.holding rfl
  have k := Glade.transit_latched (g := { raised with retOk := raised.retOkNow })
    (ready := { raised with retOk := raised.retOkNow }.ready r0 r1)
  exact (h.trans k).trans (.of_eq rfl rfl)

theorem Glade.fbFail_latched {g : Glade} : g.Latched g.fbFail := by
  unfold Glade.fbFail
  split <;> exact .of_eq rfl rfl

theorem Glade.judgePattern_latched {g : Glade} : g.Latched g.judgePattern := by
  unfold Glade.judgePattern
  split
  · exact .of_eq rfl rfl
  · split <;> exact .of_eq rfl rfl

theorem Glade.load_latched {g : Glade} {x : FlashLoad} {now : Nat} : g.Latched (g.load x now) := by
  unfold Glade.load
  dsimp only
  split
  · exact .of_eq rfl rfl
  · refine .trans ?_ Glade.judgePattern_latched
    exact .of_eq rfl rfl

/-- A clear without a bit of a source that locks keeps the latches. -/
theorem Glade.clearRaised_latched {g : Glade} {v : Word} (h : v &&& 0x7F = 0) : g.Latched (g.clearRaised v) := by
  refine ⟨id, fun j hj e => ?_⟩
  have hv : v.getLsbD j = false := by
    have m : ∀ k, k < 7 → (0x7F : Word).getLsbD k = true := by decide
    have z : (v &&& 0x7F).getLsbD j = false := by rw [h]; exact BitVec.getLsbD_zero
    rwa [BitVec.getLsbD_and, m j hj, Bool.and_true] at z
  have hw : j < 12 := by omega
  unfold bit at *
  simp [Glade.clearRaised, e, hv, hw]

/-! ### Commands to Glade -/

theorem State.gladeSample_sound {s : State} : Sound s (State.gladeSample s) := by
  unfold State.gladeSample
  exact .only State.gladeReport_only rfl (.app (Sound.set_glade Glade.sample_latched) .refl)

theorem State.gladeSettle_sound {s : State} :
    Sound s (State.gladeSettle s) := by
  unfold State.gladeSettle
  exact .ite (.app State.gladeSample_sound (.app State.gladeSample_sound (.app State.gladeSample_sound
    (.app State.gladeSample_sound .refl)))) .refl

/-- A command to Glade with the samples it leads to. -/
theorem SoundOut.settled {s : State} {t : Nat} {f : State → State} (hf : ∀ v, Sound s v → Sound s (f v)) :
    SoundOut s (onGladeSettled t s f) := by
  unfold onGladeSettled
  exact SoundOut.glade (fun _ h => .app State.gladeSettle_sound (hf _ h))

/-- A command that a frame of the safety serial port carries. -/
theorem SoundOut.sspi {s : State} {t : Nat} {cmd : Byte} {f : SspiReq → State → State}
    (hf : ∀ r v, Sound s v → Sound s (f r v)) : SoundOut s (onSspi t cmd s f) := by
  unfold onSspi
  refine SoundOut.settled (fun v h => ?_)
  split
  · exact hf _ v h
  · exact h

end Sys2Proof.Machine
end

section
/-! The queues, the OTP key store and Glade's latches over every function of the model. -/

namespace Sys2Proof.Machine

open Sys2Proof

theorem State.stallCrossing_sound {c lost} {s : State} :
    Sound s (State.stallCrossing c lost s) := by
  unfold State.stallCrossing
  exact .only State.report_only rfl (.app (Sound.set_clk_host HostPort.stallAt_qspiQ) .refl)

theorem execCrossingStall_sound {t live far kind lost ack} {s : State} :
    SoundOut s (execCrossingStall t live far kind lost ack s) := by
  unfold execCrossingStall
  exact SoundOut.core (fun _ h0 => (Sound.when (fun _ h1 => (.app State.stallCrossing_sound h1)) h0))

theorem State.applyClears_sound {u} {s : State} :
    Sound s (State.applyClears u s) := by
  unfold State.applyClears
  exact { (Sound.foldl .refl (fun _ _ h => .only State.clearHealth_only rfl h) : Sound s _) with
    clearQ := fun h => (List.length_filter_le _ _).trans h }

theorem State.queueClear_sound {n} {s : State} :
    Sound s (State.queueClear n s) := by
  unfold State.queueClear
  split
  case isTrue h => exact .set_clearQ (fun _ => by simpa using h)
  case isFalse => exact .only State.report_only rfl .refl

theorem execStHmClr_sound {t req v} {s : State} :
    SoundOut s (execStHmClr t req v s) := by
  unfold execStHmClr
  exact SoundOut.core (fun _ h0 => (Sound.access (fun _ h1 => (.app State.queueClear_sound h1)) h0))

theorem State.genlockEdge_sound {t} {s : State} :
    Sound s (State.genlockEdge t s) := by
  unfold State.genlockEdge
  exact .only State.report_only rfl (.app (Sound.set_tb TimeBase.edge_fits) .refl)

theorem State.genlockChange_sound {t rise held} {s : State} :
    Sound s (State.genlockChange t rise held s) := by
  unfold State.genlockChange
  exact Sound.when (fun _ h0 => (.app State.genlockEdge_sound h0)) .refl

theorem State.edgesFirst_sound {s : State} : Sound s (State.edgesFirst s) := by
  unfold State.edgesFirst
  exact (Sound.takeFirst (fun _ => (by
      split
      · exact (.some (fun _ h0 => (.app State.genlockChange_sound h0)))
      · exact .none)) .refl)

theorem State.genlockMissing_sound {s : State} :
    Sound s (State.genlockMissing s) := by
  unfold State.genlockMissing
  exact (by
    split
    · exact .refl
    · exact (.ite .refl (.only State.report_only rfl (.app (Sound.set_tb TimeBase.lose_fits) .refl))))

theorem State.holdoverExpiry_sound {s : State} :
    Sound s (State.holdoverExpiry s) := by
  unfold State.holdoverExpiry
  exact .only State.report_only rfl (.app (Sound.set_tb TimeBase.free_fits) .refl)

theorem execGenlockEdge_sound {t rise held} {s : State} :
    SoundOut s (execGenlockEdge t rise held s) := by
  unfold execGenlockEdge
  exact SoundOut.core (fun _ h0 => (Sound.once (fun _ h1 => (.app State.genlockChange_sound h1)) h0))

theorem execGenlockMissing_sound {t} {s : State} :
    SoundOut s (execGenlockMissing t s) := by
  unfold execGenlockMissing
  exact SoundOut.core (fun _ h0 => (Sound.when (fun _ h1 => (.app State.genlockMissing_sound
      (.app State.edgesFirst_sound h1))) h0))

theorem execGenlockOutPulseEnd_sound {t} {s : State} : SoundOut s (execGenlockOutPulseEnd t s) := by
  unfold execGenlockOutPulseEnd
  exact SoundOut.core (fun _ h0 => (.app (Sound.set_tb (.of_eq rfl rfl rfl rfl)) h0))

theorem execHoldoverExpiry_sound {t} {s : State} :
    SoundOut s (execHoldoverExpiry t s) := by
  unfold execHoldoverExpiry
  exact SoundOut.core (fun _ h0 => (Sound.when (fun _ h1 => (.app State.holdoverExpiry_sound h1))
      (.app State.edgesFirst_sound h0)))

theorem State.lockOnC4_sound {s : State} : Sound s (State.lockOnC4 s) := by
  unfold State.lockOnC4
  exact .only State.lockInj_only rfl (.app (Sound.set_glade (.of_eq rfl rfl)) (.only State.forcesFirst_only rfl .refl))

theorem State.episode_sound {l} {s : State} :
    Sound s (State.episode l s) := by
  unfold State.episode
  exact .ite .refl (.ite (Sound.when (fun _ h0 => (.app State.lockOnC4_sound h0)) (.only State.logHw_only rfl
      (.only State.report_only rfl (.only Only.set_flt rfl .refl)))) (.ite (Sound.when (fun _ h0 =>
      (.app State.lockOnC4_sound h0)) (.only State.logHw_only rfl (.only State.report_only rfl
          (.only Only.set_flt rfl .refl)))) (.only Only.set_flt rfl .refl)))

theorem State.arrive_sound {srcs} {s : State} :
    Sound s (State.arrive srcs s) := by
  unfold State.arrive
  exact .ite .refl (.only State.collectorParity_only rfl (.app State.episode_sound (.only State.report_only rfl
      (.only Only.set_flt rfl .refl))))

theorem State.arrivalsFirst_sound {s : State} :
    Sound s (State.arrivalsFirst s) := by
  unfold State.arrivalsFirst
  exact (Sound.takeFirst (fun _ => (by
      split
      · exact (.some (fun _ h0 => (.app State.arrive_sound h0)))
      · exact .none)) .refl)

theorem execEpisodeClose_sound {t} {s : State} :
    SoundOut s (execEpisodeClose t s) := by
  unfold execEpisodeClose
  exact SoundOut.core (fun _ h0 => (Sound.when (fun _ h1 => (.only State.closeEpisode_only rfl h1))
      (.app State.arrivalsFirst_sound h0)))

theorem execFaultArrival_sound {t srcs} {s : State} :
    SoundOut s (execFaultArrival t srcs s) := by
  unfold execFaultArrival
  exact SoundOut.core (fun _ h0 => (Sound.once (fun _ h1 => (.app State.arrive_sound h1)) h0))

theorem execInjectionTimeout_sound {t glade} {s : State} :
    SoundOut s (execInjectionTimeout t glade s) := by
  unfold execInjectionTimeout
  exact .ite (SoundOut.glade (fun _ h0 => (.app (Sound.set_glade (.of_eq rfl rfl)) h0))) (SoundOut.core (fun _ h0 =>
      (Sound.when (fun _ h1 => (.only State.lockInj_only rfl (.only State.forcesFirst_only rfl h1))) h0)))

theorem State.resetForester_sound {c held} {s : State} :
    Sound s (State.resetForester c held s) := by
  unfold State.resetForester
  exact .only State.logHw_only rfl (.app (Sound.set_regs_glade_fst_sec (.of_eq rfl rfl) Forester.reset_fits
      (.of_eq rfl)) .refl)

theorem State.gladeCond_sound {j on} {s : State} : Sound s (State.gladeCond j on s) := by
  unfold State.gladeCond
  exact .app (Sound.set_glade (.of_eq rfl rfl)) .refl

theorem State.fwdogExpire_sound {s : State} :
    Sound s (State.fwdogExpire s) := by
  unfold State.fwdogExpire
  exact .app State.resetForester_sound (.app State.gladeSettle_sound (.app State.gladeCond_sound .refl))

theorem State.fwdogService_sound {s : State} :
    Sound s (State.fwdogService s) := by
  unfold State.fwdogService
  exact .ite (.app State.fwdogExpire_sound .refl) (.app State.gladeSettle_sound (.app State.gladeCond_sound (.app
      (Sound.set_glade (.of_eq rfl rfl)) .refl)))

theorem State.wdKey_sound {on} {s : State} : Sound s (State.wdKey on s) := by
  unfold State.wdKey
  exact .app (Sound.set_fst rfl rfl) .refl

theorem State.writeWdog_sound {v} {s : State} :
    Sound s (State.writeWdog v s) := by
  unfold State.writeWdog
  exact .ite (.app State.wdKey_sound .refl) (.ite (.app State.wdKey_sound .refl) (.ite
      (.app State.fwdogService_sound (.app State.wdKey_sound .refl)) (.app State.fwdogExpire_sound
          (.app State.wdKey_sound .refl))))

theorem State.faultLine_sound {l} {s : State} : Sound s (State.faultLine l s) := by
  unfold State.faultLine
  exact Sound.when (fun _ h0 => (.only State.hit_only rfl h0)) (.app (Sound.set_glade (.of_eq rfl rfl)) .refl)

theorem State.gladeForce_sound {v} {s : State} : Sound s (State.gladeForce v s) := by
  unfold State.gladeForce
  exact .app (Sound.set_flt_glade (.of_or id _ rfl)) .refl

theorem State.seeLines_sound {l} {s : State} : Sound s (State.seeLines l s) := by
  unfold State.seeLines
  exact Sound.when (fun _ h0 => (.only State.hit_only rfl h0)) (.app (Sound.set_glade (.of_eq rfl rfl)) .refl)

theorem State.sspiAnswer_sound {result data r} {s : State} : Sound s (State.sspiAnswer result data r s) := by
  unfold State.sspiAnswer
  exact .app (Sound.set_glade (.of_eq rfl rfl)) .refl

theorem State.sspiFrame_sound {began bits b} {s : State} :
    Sound s (State.sspiFrame began bits b s) := by
  unfold State.sspiFrame
  exact .only State.spend_only rfl (.only State.report_only rfl (.app (Sound.set_glade (.of_eq rfl rfl)) .refl))

theorem State.sspiRefuse_sound {r} {s : State} : Sound s (State.sspiRefuse r s) := by
  unfold State.sspiRefuse
  exact .only State.spend_only rfl (.app State.sspiAnswer_sound .refl)

theorem execClassLineChange_sound {t lines} {s : State} :
    SoundOut s (execClassLineChange t lines s) := by
  unfold execClassLineChange
  exact SoundOut.settled (fun _ h0 => (.app State.seeLines_sound h0))

theorem execClassLineFault_sound {t l} {s : State} :
    SoundOut s (execClassLineFault t l s) := by
  unfold execClassLineFault
  exact SoundOut.settled (fun _ h0 => (.app State.faultLine_sound h0))

theorem execClear_sound {t} {s : State} : SoundOut s (execClear t s) := by
  unfold execClear
  refine SoundOut.sspi (fun r v h => ?_)
  split
  case isTrue => exact .app State.sspiRefuse_sound h
  case isFalse keep =>
    exact .app State.sspiAnswer_sound (.app (Sound.set_glade (Glade.clearRaised_latched (not_not.mp keep))) h)

theorem execErrHoldExpiry_sound {t} {s : State} :
    SoundOut s (execErrHoldExpiry t s) := by
  unfold execErrHoldExpiry
  exact SoundOut.settled (fun _ h0 => (.app (Sound.set_glade (.of_eq rfl rfl)) h0))

theorem execFallbackCrcCheck_sound {t} {s : State} :
    SoundOut s (execFallbackCrcCheck t s) := by
  unfold execFallbackCrcCheck
  exact SoundOut.settled (fun _ h0 => (Sound.when (fun _ h1 => (.app (Sound.set_glade Glade.fbFail_latched) h1)) h0))

theorem execFirmwareWatchdogExpiry_sound {t} {s : State} :
    SoundOut s (execFirmwareWatchdogExpiry t s) := by
  unfold execFirmwareWatchdogExpiry
  exact SoundOut.glade (fun _ h0 => (Sound.when (fun _ h1 => (.app State.fwdogExpire_sound h1)) h0))

theorem execFpWdog_sound {t v} {s : State} :
    SoundOut s (execFpWdog t v s) := by
  unfold execFpWdog
  exact SoundOut.core (fun _ h0 => (Sound.when (fun _ h1 => (.app State.writeWdog_sound h1)) h0))

theorem execGladeSupplyFault_sound {t bad} {s : State} :
    SoundOut s (execGladeSupplyFault t bad s) := by
  unfold execGladeSupplyFault
  exact SoundOut.settled (fun _ h0 => (.app State.gladeCond_sound h0))

theorem execHeartbeatTimeout_sound {t} {s : State} :
    SoundOut s (execHeartbeatTimeout t s) := by
  unfold execHeartbeatTimeout
  exact SoundOut.settled (fun _ h0 => (Sound.when (fun _ h1 => (.app State.gladeCond_sound h1)) h0))

theorem execHeartbeatToggle_sound {t} {s : State} :
    SoundOut s (execHeartbeatToggle t s) := by
  unfold execHeartbeatToggle
  exact SoundOut.core (fun _ h0 => (.app State.gladeSettle_sound (.app State.gladeCond_sound
      (.only State.hit_only rfl (.only Only.set_flt rfl h0)))))

theorem execInjkey_sound {t} {s : State} :
    SoundOut s (execInjkey t s) := by
  unfold execInjkey
  exact SoundOut.sspi (fun _ _ h0 => (.app State.sspiAnswer_sound (.app (Sound.set_glade (.of_eq rfl rfl)) h0)))

theorem execLineMaskExpiry_sound {t} {s : State} :
    SoundOut s (execLineMaskExpiry t s) := by
  unfold execLineMaskExpiry
  exact SoundOut.settled (fun _ h0 => (.app (Sound.set_glade (.of_eq rfl rfl)) h0))

theorem execRcClockWindow_sound {t count} {s : State} :
    SoundOut s (execRcClockWindow t count s) := by
  unfold execRcClockWindow
  exact SoundOut.settled (fun _ h0 => (.app (Sound.set_clk_glade (.of_eq rfl rfl)) h0))

theorem execReadbackMismatch_sound {t aen err} {s : State} :
    SoundOut s (execReadbackMismatch t aen err s) := by
  unfold execReadbackMismatch
  exact SoundOut.settled (fun _ h0 => (.app (Sound.set_glade (.of_eq rfl rfl)) h0))

theorem execResume_sound {t} {s : State} :
    SoundOut s (execResume t s) := by
  unfold execResume
  exact SoundOut.sspi (fun _ _ h0 => (.ite (.app State.sspiRefuse_sound h0) (.app State.sspiAnswer_sound (.app
      (Sound.set_glade (.of_eq rfl rfl)) h0))))

theorem execReturnDwellExpiry_sound {t} {s : State} :
    SoundOut s (execReturnDwellExpiry t s) := by
  unfold execReturnDwellExpiry
  exact SoundOut.settled (fun _ h0 => (Sound.when (fun _ h1 => (.app (Sound.set_glade (.of_eq rfl rfl)) h1)) h0))

theorem execSspiFrame_sound {t began bits bytes} {s : State} :
    SoundOut s (execSspiFrame t began bits bytes s) := by
  unfold execSspiFrame
  exact SoundOut.settled (fun _ h0 => (.app State.sspiFrame_sound h0))

theorem execSspiRead_sound {t} {s : State} :
    SoundOut s (execSspiRead t s) := by
  unfold execSspiRead
  exact SoundOut.sspi (fun _ _ h0 => (.ite (.app State.sspiAnswer_sound h0)
      (.app State.sspiRefuse_sound h0)))

theorem execSspiStatus_sound {t} {s : State} :
    SoundOut s (execSspiStatus t s) := by
  unfold execSspiStatus
  exact SoundOut.sspi (fun _ _ h0 => (.app State.sspiAnswer_sound h0))

theorem execSspiWatchdog_sound {t} {s : State} :
    SoundOut s (execSspiWatchdog t s) := by
  unfold execSspiWatchdog
  exact SoundOut.settled (fun _ h0 => (Sound.when (fun _ h1 => (.app (Sound.set_glade (.of_eq rfl rfl)) h1)) h0))

theorem execSspiWrite_sound {t} {s : State} :
    SoundOut s (execSspiWrite t s) := by
  unfold execSspiWrite
  exact SoundOut.sspi (fun _ _ h0 => (.ite (.app State.sspiAnswer_sound (.app (Sound.set_glade (.of_eq rfl rfl)) h0))
      (.ite
      (.app State.sspiAnswer_sound (.app State.gladeForce_sound h0)) (.app State.sspiRefuse_sound h0))))

theorem execSysclkCheckWindow_sound {t count} {s : State} :
    SoundOut s (execSysclkCheckWindow t count s) := by
  unfold execSysclkCheckWindow
  exact SoundOut.settled (fun _ h0 => (.app (Sound.set_glade (.of_eq rfl rfl)) h0))

theorem State.upset_sound {u b x} {s : State} :
    Sound s (State.upset u b s x) := by
  unfold State.upset
  exact (by
    split
    · exact (.only State.setBank_only rfl .refl)
    · exact (.only Only.set_health rfl .refl)
    · exact (.only Only.set_calib rfl .refl)
    · exact (.only Only.set_corr rfl .refl)
    · exact (by
      split
      · exact (.only Only.set_corr rfl .refl)
      · exact .refl)
    · exact (.app (Sound.set_glade (.of_eq rfl rfl)) .refl)
    · exact (.only State.setShade_only rfl .refl))

theorem State.countHealth_sound {v k ahead} {s : State} :
    Sound s (State.countHealth v k ahead s) := by
  unfold State.countHealth
  exact .only Only.set_surf rfl .refl

theorem State.readPlane_sound {v k upsets errs} {s : State} :
    Sound s (State.readPlane v k upsets errs s) := by
  unfold State.readPlane
  exact .ite (.app State.gladeSettle_sound (.app (Sound.set_glade Glade.fbFail_latched) (.foldl (.foldl (.foldl
      .refl (fun _ _ h0 =>
      (.app State.upset_sound h0))) (fun _ _ h0 => (.only State.readShare_only rfl h0))) (fun _ _ h0 =>
      (.only State.fabricError_only rfl h0))))) (.foldl (.foldl (.foldl .refl (fun _ _ h0 =>
      (.app State.upset_sound h0))) (fun _ _ h0 => (.only State.readShare_only rfl h0))) (fun _ _ h0 =>
      (.only State.fabricError_only rfl h0)))

theorem State.upRead_sound {who addr len} {s : State} :
    Sound s (State.upRead who addr len s) := by
  unfold State.upRead
  exact .only State.report_only rfl (.app (Sound.set_host rfl) .refl)

theorem State.armVectors_sound {v} {s : State} : Sound s (State.armVectors v s) := by
  unfold State.armVectors
  exact .app (Sound.set_host rfl) .refl

theorem State.completion_sound {tag a} {s : State} :
    Sound s (State.completion tag a s) := by
  unfold State.completion
  exact .ite (.only State.report_only rfl (.app (Sound.set_host rfl) .refl)) (.app (Sound.set_host rfl) .refl)

theorem State.expire_sound {tag} {s : State} :
    Sound s (State.expire tag s) := by
  unfold State.expire
  exact .only State.report_only rfl (.app (Sound.set_host rfl) .refl)

theorem State.hostReset_sound {k} {s : State} :
    Sound s (State.hostReset k s) := by
  unfold State.hostReset
  exact .only State.report_only rfl (.app (Sound.set_regs_top_host rfl) (.only State.keepPhase_only rfl .refl))

theorem State.linkUpAt_sound {speed width} {s : State} :
    Sound s (State.linkUpAt speed width s) := by
  unfold State.linkUpAt
  exact .only State.report_only rfl (.app (Sound.set_host rfl) .refl)

theorem State.message_sound {v} {s : State} :
    Sound s (State.message v s) := by
  unfold State.message
  exact .ite (.ite (.app (Sound.set_host rfl) .refl) .refl) (.ite (.app (Sound.set_host rfl) .refl) (.ite
      (.only State.report_only rfl (.app (Sound.set_host rfl) .refl)) .refl))

theorem execCompletionTimeout_sound {t tag} {s : State} :
    SoundOut s (execCompletionTimeout t tag s) := by
  unfold execCompletionTimeout
  exact SoundOut.core (fun _ h0 => (Sound.when (fun _ h1 => (.app State.expire_sound h1)) h0))

theorem execConfigurationWrite_sound {t w} {s : State} : SoundOut s (execConfigurationWrite t w s) := by
  unfold execConfigurationWrite
  exact SoundOut.core (fun _ h0 => (Sound.when (fun _ h1 => (.app (Sound.set_host HostPort.configure_qspiQ) h1)) h0))

theorem execHostVecArm_sound {t req v} {s : State} :
    SoundOut s (execHostVecArm t req v s) := by
  unfold execHostVecArm
  exact SoundOut.core (fun _ h0 => (Sound.access (fun _ h1 => (.app State.armVectors_sound h1)) h0))

theorem execLinkUp_sound {t speed width} {s : State} :
    SoundOut s (execLinkUp t speed width s) := by
  unfold execLinkUp
  exact SoundOut.core (fun _ h0 => (Sound.when (fun _ h1 => (.app State.linkUpAt_sound h1)) h0))

theorem execMsixMessage_sound {t v} {s : State} :
    SoundOut s (execMsixMessage t v s) := by
  unfold execMsixMessage
  exact SoundOut.core (fun _ h0 => (.app State.message_sound h0))

theorem execUpstreamCompletion_sound {t tag a} {s : State} :
    SoundOut s (execUpstreamCompletion t tag a s) := by
  unfold execUpstreamCompletion
  exact SoundOut.core (fun _ h0 => (Sound.when (fun _ h1 => (Sound.once (fun _ h2 =>
      (.app State.completion_sound h2)) h1)) h0))

theorem State.busNext_sound {b} {s : State} : Sound s (State.busNext b s) := by
  unfold State.busNext
  exact (.ite .refl (by
    split
    · exact (.only State.report_only rfl (.app (Sound.set_fst rfl rfl) .refl))
    · exact .refl))

theorem State.slotDue_sound {n} {s : State} : Sound s (State.slotDue n s) := by
  unfold State.slotDue
  exact .ite (.app State.busNext_sound (.app (Sound.set_fst rfl rfl) .refl)) .refl

theorem State.slotsAtFrame_sound {u} {s : State} :
    Sound s (State.slotsAtFrame u s) := by
  unfold State.slotsAtFrame
  exact .ite .refl (.foldl .refl (fun _ _ h0 => (.ite (.app State.slotDue_sound h0) h0)))

theorem State.mbStart_sound {v} {s : State} : Sound s (State.mbStart v s) := by
  unfold State.mbStart
  exact .only State.hit_only rfl (.app (Sound.set_regs_host_fst rfl rfl rfl) .refl)

theorem State.mbComplete_sound {v} {s : State} :
    Sound s (State.mbComplete v s) := by
  unfold State.mbComplete
  exact .only State.report_only rfl (.app (Sound.set_regs_host_fst rfl rfl rfl) .refl)

theorem State.mbDrop_sound {s : State} : Sound s (State.mbDrop s) := by
  unfold State.mbDrop
  exact .only State.report_only rfl (.app (Sound.set_fst rfl rfl) .refl)

theorem State.writeMbDone_sound {v} {s : State} :
    Sound s (State.writeMbDone v s) := by
  unfold State.writeMbDone
  exact .ite (.app State.mbComplete_sound .refl) (.app State.mbDrop_sound .refl)

theorem State.norRefuse_sound {v addr} {s : State} :
    Sound s (State.norRefuse v addr s) := by
  unfold State.norRefuse
  exact .only State.report_only rfl (.app (Sound.set_fst rfl rfl) .refl)

theorem State.norStart_sound {v addr} {s : State} :
    Sound s (State.norStart v addr s) := by
  unfold State.norStart
  exact .ite (.app State.norRefuse_sound .refl) (.only State.report_only rfl (.app (Sound.set_fst rfl rfl) .refl))

theorem State.writeNor_sound {v} {s : State} :
    Sound s (State.writeNor v s) := by
  unfold State.writeNor
  exact .ite .refl (.ite (.app (Sound.set_fst rfl rfl) .refl) (.app State.norStart_sound .refl))

theorem State.norRelease_sound {s : State} : Sound s (State.norRelease s) := by
  unfold State.norRelease
  exact (by
    split
    · exact (.ite (.app State.norStart_sound .refl) .refl)
    · exact .refl)

theorem State.tcmError_sound {x0} {s : State} :
    Sound s (State.tcmError x0 s) := by
  unfold State.tcmError
  exact (by
    split
    · exact (.only State.report_only rfl (.app (Sound.set_fst rfl rfl) .refl))
    · exact (.app State.resetForester_sound (.only State.report_only rfl (.app (Sound.set_fst rfl rfl) .refl))))

theorem State.exception_sound {x0} {s : State} :
    Sound s (State.exception x0 s) := by
  unfold State.exception
  exact (by
    split
    · exact (.only State.report_only rfl (.app (Sound.set_fst rfl rfl) .refl))
    · exact (.only State.report_only rfl (.app (Sound.set_fst rfl rfl) .refl)))

theorem State.mbExpire_sound {s : State} :
    Sound s (State.mbExpire s) := by
  unfold State.mbExpire
  exact .only State.report_only rfl (.app (Sound.set_host_fst rfl rfl rfl) .refl)

theorem State.norClosed_sound {s : State} : Sound s (State.norClosed s) := by
  unfold State.norClosed
  exact .only State.report_only rfl (.app (Sound.set_fst rfl rfl) .refl)

theorem State.norDone_sound {data} {s : State} :
    Sound s (State.norDone data s) := by
  unfold State.norDone
  exact (by
    split
    · exact (.ite .refl (.only State.report_only rfl (.app (Sound.set_regs_fst rfl rfl) .refl)))
    · exact .refl)

theorem State.norGiveUp_sound {s : State} : Sound s (State.norGiveUp s) := by
  unfold State.norGiveUp
  exact .app (Sound.set_fst rfl rfl) .refl

theorem State.norTimeout_sound {s : State} : Sound s (State.norTimeout s) := by
  unfold State.norTimeout
  exact (by
    split
    · exact (.ite .refl (.only State.report_only rfl (.app (Sound.set_fst rfl rfl) .refl)))
    · exact .refl)

theorem State.senDone_sound {b good} {s : State} :
    Sound s (State.senDone b good s) := by
  unfold State.senDone
  exact (by
    split
    · exact .refl
    · exact (.app State.busNext_sound (.only State.report_only rfl (.app (Sound.set_regs_fst rfl rfl) .refl))))

theorem execForesterException_sound {t e} {s : State} :
    SoundOut s (execForesterException t e s) := by
  unfold execForesterException
  exact SoundOut.forester (fun _ h0 => (.app State.exception_sound h0))

theorem execForesterReset_sound {t cause} {s : State} :
    SoundOut s (execForesterReset t cause s) := by
  unfold execForesterReset
  exact SoundOut.core (fun _ h0 => (.app State.resetForester_sound h0))

theorem execFpMbDone_sound {t v} {s : State} :
    SoundOut s (execFpMbDone t v s) := by
  unfold execFpMbDone
  exact SoundOut.forester (fun _ h0 => (.app State.writeMbDone_sound h0))

theorem execMailboxTimeout_sound {t} {s : State} :
    SoundOut s (execMailboxTimeout t s) := by
  unfold execMailboxTimeout
  exact SoundOut.core (fun _ h0 => (Sound.when (fun _ h1 => (.app State.mbExpire_sound h1)) h0))

theorem execSensorSclTimeout_sound {t bus} {s : State} :
    SoundOut s (execSensorSclTimeout t bus s) := by
  unfold execSensorSclTimeout
  exact SoundOut.forester (fun _ h0 => (Sound.when (fun _ h1 => (.app State.senDone_sound h1)) h0))

theorem execSensorSlotDue_sound {t n} {s : State} :
    SoundOut s (execSensorSlotDue t n s) := by
  unfold execSensorSlotDue
  exact SoundOut.forester (fun _ h0 => (.app State.slotDue_sound h0))

theorem execSensorTransferDone_sound {t bus ack data} {s : State} :
    SoundOut s (execSensorTransferDone t bus ack data s) := by
  unfold execSensorTransferDone
  exact SoundOut.forester (fun _ h0 => (.app State.senDone_sound h0))

theorem execSpiNorCommand_sound {t v} {s : State} :
    SoundOut s (execSpiNorCommand t v s) := by
  unfold execSpiNorCommand
  exact SoundOut.forester (fun _ h0 => (.app State.writeNor_sound h0))

theorem execSwrst_sound {t v} {s : State} :
    SoundOut s (execSwrst t v s) := by
  unfold execSwrst
  exact SoundOut.forester (fun _ h0 => (Sound.when (fun _ h1 => (.app State.resetForester_sound h1)) h0))

theorem execTcmError_sound {t e} {s : State} :
    SoundOut s (execTcmError t e s) := by
  unfold execTcmError
  exact SoundOut.forester (fun _ h0 => (.app State.tcmError_sound h0))

theorem execUartByteReceived_sound {t byte} {s : State} :
    SoundOut s (execUartByteReceived t byte s) := by
  unfold execUartByteReceived
  exact SoundOut.forester (fun _ h0 => (.only State.report_only rfl (.app (Sound.set_fst_fits Forester.receive_fits) h0)))

theorem State.composeLine_sound {u upsets bundles} {s : State} :
    Sound s (State.composeLine u upsets bundles s) := by
  unfold State.composeLine
  exact .ite .refl (.ite (.only State.setComp_only rfl (.foldl .refl (fun _ _ h0 => (.app State.upset_sound h0))))
      (.ite (.foldl .refl (fun _ _ h0 => (.app State.upset_sound h0))) (.ite (.only State.lineDone_only rfl
          (.only State.setComp_only rfl (.only State.takeTurn_only rfl (.foldl .refl (fun _ _ h0 =>
      (.app State.upset_sound h0)))))) (.only State.composeReady_only rfl (.only State.takeTurn_only rfl (.foldl
          .refl (fun _ _ h0 => (.app State.upset_sound h0))))))))

theorem State.fetchEnds_sound {n r} {s : State} :
    Sound s (State.fetchEnds n r s) := by
  unfold State.fetchEnds
  exact (by
    dsimp only
    split
    · exact (.only State.report_only rfl (.app (Sound.set_host rfl) .refl))
    · exact (by
      try dsimp only
      split
      · exact (.only State.urgency_only rfl (.only State.setLayer_only rfl (.only State.report_only rfl (.app
          (Sound.set_host rfl) .refl))))
      · exact (.only State.seeTag_only rfl (.only State.setLayer_only rfl (.only State.report_only rfl (.app
          (Sound.set_host rfl) .refl))))
      · exact (.only State.setLayer_only rfl (.only State.report_only rfl (.app (Sound.set_host rfl) .refl)))))

theorem State.fetchComplete_sound {slot} {s : State} :
    Sound s (State.fetchComplete slot s) := by
  unfold State.fetchComplete
  exact (by
    split
    · exact (.app State.fetchEnds_sound .refl)
    · exact .refl)

theorem State.fetchHost_sound {n r} {s : State} :
    Sound s (State.fetchHost n r s) := by
  unfold State.fetchHost
  exact (by
    dsimp only
    split
    · exact (.app State.upRead_sound (.only State.setLayer_only rfl .refl))
    · exact (.app State.upRead_sound (.only State.setLayer_only rfl .refl)))

theorem State.fetchLine_sound {n r} {s : State} :
    Sound s (State.fetchLine n r s) := by
  unfold State.fetchLine
  exact .ite (.app State.fetchHost_sound (.only State.setLayer_only rfl (Sound.when (fun _ h0 =>
      (.app State.fetchHost_sound (.only State.setLayer_only rfl h0))) .refl))) (.app State.fetchHost_sound
          (.only State.setLayer_only rfl (.app State.fetchHost_sound (.only State.setLayer_only rfl (Sound.when
      (fun _ h0 => (.app State.fetchHost_sound (.only State.setLayer_only rfl h0))) .refl)))))

theorem State.fetchesFirst_sound {u} {s : State} :
    Sound s (State.fetchesFirst u s) := by
  unfold State.fetchesFirst
  exact (Sound.takeFirst (fun _ => (by
      split
      · exact (.ite (.some (fun _ h0 => (.app State.completion_sound h0))) .none)
      · exact (.ite (.some (fun _ h0 => (.app State.fetchComplete_sound h0))) .none)
      · exact .none)) .refl)

theorem State.issueFetch_sound {n} {s : State} :
    Sound s (State.issueFetch n s) := by
  unfold State.issueFetch
  exact (.ite .refl (by
    split
    · exact .refl
    · exact (.ite (.only State.fetchStore_only rfl .refl) (.ite (.app State.fetchLine_sound .refl) .refl))))

theorem execComposeOutputLine_sound {t u upsets bundles} {s : State} :
    SoundOut s (execComposeOutputLine t u upsets bundles s) := by
  unfold execComposeOutputLine
  exact SoundOut.core (fun _ h0 => (.app State.composeLine_sound (.app State.fetchesFirst_sound h0)))

theorem execLineFetchComplete_sound {t slot} {s : State} :
    SoundOut s (execLineFetchComplete t slot s) := by
  unfold execLineFetchComplete
  exact SoundOut.core (fun _ h0 => (Sound.once (fun _ h1 => (.app State.fetchComplete_sound h1)) h0))

theorem execLineFetchIssue_sound {t slot} {s : State} :
    SoundOut s (execLineFetchIssue t slot s) := by
  unfold execLineFetchIssue
  exact SoundOut.core (fun _ h0 => (.app State.issueFetch_sound h0))

theorem State.acceptCommit_sound {s : State} :
    Sound s (State.acceptCommit s) := by
  unfold State.acceptCommit
  exact .only State.logHw_only rfl (.only State.applySettings_only rfl (.only State.leaveSkeins_only rfl (.app
      (Sound.set_tb_cmt (.of_eq rfl rfl rfl rfl)) .refl)))

theorem State.judge_sound {s : State} :
    Sound s (State.judge s) := by
  unfold State.judge
  exact .ite .refl (.ite (.app State.acceptCommit_sound .refl) (.only State.refuseCommit_only rfl .refl))

theorem State.tbBoundary_sound {t} {s : State} :
    Sound s (State.tbBoundary t s) := by
  unfold State.tbBoundary
  exact .only State.capture_only rfl (.only State.report_only rfl (.app (Sound.set_tb TimeBase.boundary_fits)
      (.app State.judge_sound (.app State.edgesFirst_sound .refl))))

theorem execTimeBaseBoundary_sound {t} {s : State} :
    SoundOut s (execTimeBaseBoundary t s) := by
  unfold execTimeBaseBoundary
  exact SoundOut.core (fun _ h0 => (Sound.when (fun _ h1 => (.app State.tbBoundary_sound h1)) h0))

theorem State.form_sound {v k j ahead upsets bundles} {s : State} :
    Sound s (State.form v k j ahead upsets bundles s) := by
  unfold State.form
  exact .only State.setSkein_only rfl (Sound.when (fun _ h0 => (.app State.countHealth_sound h0))
      (.only State.checkList_only rfl (.only State.disarmShow_only rfl (.app State.readPlane_sound .refl))))

theorem State.cutoff_sound {k upsets bundles} {s : State} :
    Sound s (State.cutoff k upsets bundles s) := by
  unfold State.cutoff
  exact (.ite .refl (by
    split
    · exact (.ite (.app State.form_sound .refl) .refl)
    · exact .refl))

theorem State.loadDue_sound {k idles} {s : State} :
    Sound s (State.loadDue k idles s) := by
  unfold State.loadDue
  exact (by
    dsimp only
    split
    · exact .refl
    · exact (by
      split
      · exact (.only State.setSkein_only rfl .refl)
      · exact (.ite .refl (.ite (.only State.skipPlane_only rfl .refl) (.only State.startLoad_only rfl .refl)))))

theorem State.spliceNow_sound {v k p idles bundles} {s : State} :
    Sound s (State.spliceNow v k p idles bundles s) := by
  unfold State.spliceNow
  exact .ite .refl (.only State.report_only rfl (Sound.when (fun _ h0 => (.only State.sendPlane_only rfl h0))
      (.only State.setSkein_only rfl (.only State.checkList_only rfl (.only State.disarmShow_only rfl
          (.app State.readPlane_sound .refl))))))

theorem State.splice_sound {k idles bundles} {s : State} :
    Sound s (State.splice k idles bundles s) := by
  unfold State.splice
  exact (by
    split
    · exact (.app State.spliceNow_sound .refl)
    · exact .refl)

theorem execPlaneCutoff_sound {t k upsets bundles} {s : State} :
    SoundOut s (execPlaneCutoff t k upsets bundles s) := by
  unfold execPlaneCutoff
  exact SoundOut.core (fun _ h0 => (.app State.cutoff_sound (.only State.takeUpsFirst_only rfl h0)))

theorem execPlaneLoadStart_sound {t k idles} {s : State} :
    SoundOut s (execPlaneLoadStart t k idles s) := by
  unfold execPlaneLoadStart
  exact SoundOut.core (fun _ h0 => (.app State.loadDue_sound h0))

theorem execSplice_sound {t k idles bundles} {s : State} :
    SoundOut s (execSplice t k idles bundles s) := by
  unfold execSplice
  exact SoundOut.core (fun _ h0 => (.app State.splice_sound h0))

theorem State.takeSums_sound {u} {s : State} :
    Sound s (State.takeSums u s) := by
  unfold State.takeSums
  exact .app State.slotsAtFrame_sound (.only Only.set_corr rfl .refl)

theorem State.beginFrame_sound {v d k per} {s : State} :
    Sound s (State.beginFrame v d k per s) := by
  unfold State.beginFrame
  exact .only State.shadeFrame_only rfl (.only State.frameRows_only rfl (.only State.beginSkeins_only rfl
      (.only State.report_only rfl (Sound.when (fun _ h0 => (.app State.takeSums_sound h0))
      (.only State.setSurf_only rfl (Sound.when (fun _ h0 => (.only State.comingRanges_only rfl h0)) .refl))))))

theorem State.beginPeriodOf_sound {v first lim tpar} {s : State} :
    Sound s (State.beginPeriodOf v first lim tpar s) := by
  unfold State.beginPeriodOf
  exact .only Only.set_dma rfl (.only State.beginCompose_only rfl (.only State.corrBoundary_only rfl
      (.app State.applyClears_sound (.only State.retire_only rfl (.only State.applyCommit_only rfl .refl)))))

theorem State.frameBoundary_sound {u} {s : State} :
    Sound s (State.frameBoundary u s) := by
  unfold State.frameBoundary
  exact .app State.gladeSettle_sound (.only State.captureAll_only rfl (.app State.beginPeriodOf_sound
      (.app State.beginFrame_sound (.only State.endPeriods_only rfl (.only State.report_only rfl .refl)))))

theorem execSurfaceFrameBoundary_sound {t u} {s : State} :
    SoundOut s (execSurfaceFrameBoundary t u s) := by
  unfold execSurfaceFrameBoundary
  exact SoundOut.core (fun _ h0 => (Sound.when (fun _ h1 => (.app State.frameBoundary_sound
      (.only State.endingFirst_only rfl h1))) h0))

theorem State.dmaUpRead_sound {n addr len} {s : State} :
    Sound s (State.dmaUpRead n addr len s) := by
  unfold State.dmaUpRead
  exact .only State.setCh_only rfl (.app State.upRead_sound (.app (Sound.set_host rfl) .refl))

theorem State.dmaFetch_sound {n} {s : State} :
    Sound s (State.dmaFetch n s) := by
  unfold State.dmaFetch
  exact .ite (.only State.setCh_only rfl .refl) (.app State.dmaUpRead_sound (.only State.setCh_only rfl .refl))

theorem State.dmaReread_sound {n} {s : State} :
    Sound s (State.dmaReread n s) := by
  unfold State.dmaReread
  exact .ite (.only State.setCh_only rfl .refl) (.app State.dmaUpRead_sound (.only State.setCh_only rfl .refl))

theorem State.dmaPark_sound {n} {s : State} :
    Sound s (State.dmaPark n s) := by
  unfold State.dmaPark
  exact .ite (.app State.dmaReread_sound (.only State.report_only rfl (.only State.setCh_only rfl .refl)))
      (.only State.report_only rfl (.only State.setCh_only rfl .refl))

theorem State.dmaBoundary_sound {n} {s : State} :
    Sound s (State.dmaBoundary n s) := by
  unfold State.dmaBoundary
  exact .ite (.only State.report_only rfl (.only State.setCh_only rfl (.only State.haltFirst_only rfl .refl))) (.ite
      (.only State.report_only rfl (.only State.setCh_only rfl (.only State.haltFirst_only rfl .refl))) (.ite
      (.only State.report_only rfl (.only State.setCh_only rfl (.only State.haltFirst_only rfl .refl))) (.ite
      (.app State.dmaPark_sound (.only State.haltFirst_only rfl .refl)) (.app State.dmaFetch_sound
          (.only State.setCh_only rfl (.only State.haltFirst_only rfl .refl))))))

theorem State.dmaEnd_sound {n out cause residue} {s : State} :
    Sound s (State.dmaEnd n out cause residue s) := by
  unfold State.dmaEnd
  exact .ite (.only State.report_only rfl (.only State.setCh_only rfl .refl)) (.app State.dmaBoundary_sound
      (.only State.report_only rfl (.only State.setCh_only rfl .refl)))

theorem State.dmaAborted_sound {n} {s : State} :
    Sound s (State.dmaAborted n s) := by
  unfold State.dmaAborted
  exact .ite .refl (.ite (.only State.setCh_only rfl .refl) (.ite (.app State.dmaEnd_sound .refl)
      (.only State.setCh_only rfl .refl)))

theorem State.dmaAbort_sound {n} {s : State} :
    Sound s (State.dmaAbort n s) := by
  unfold State.dmaAbort
  exact .ite (.only State.hit_only rfl (.only State.setCh_only rfl .refl)) (.app State.dmaAborted_sound .refl)

theorem State.dmaDoor_sound {n} {s : State} :
    Sound s (State.dmaDoor n s) := by
  unfold State.dmaDoor
  exact .ite (.app State.dmaReread_sound .refl) (.only State.setCh_only rfl .refl)

theorem State.dmaStart_sound {req n} {s : State} :
    Sound s (State.dmaStart req n s) := by
  unfold State.dmaStart
  exact .ite (.only State.hit_only rfl (.only State.setCh_only rfl .refl)) (.ite (.only State.hit_only rfl
      (.only State.setCh_only rfl .refl)) (.app State.dmaFetch_sound (.only State.setCh_only rfl .refl)))

theorem State.writeDmaCtrl_sound {req n v} {s : State} :
    Sound s (State.writeDmaCtrl req n v s) := by
  unfold State.writeDmaCtrl
  exact Sound.when (fun _ h0 => (.app State.dmaAbort_sound h0)) (Sound.when (fun _ h0 =>
      (.only State.dmaStop_only rfl h0)) (Sound.when (fun _ h0 => (.app State.dmaDoor_sound h0)) (Sound.when
      (fun _ h0 => (.only State.dmaSwreq_only rfl h0)) (Sound.when (fun _ h0 =>
      (.app State.dmaStart_sound h0)) .refl))))

theorem execDmaAbort_sound {t req n} {s : State} :
    SoundOut s (execDmaAbort t req n s) := by
  unfold execDmaAbort
  exact SoundOut.core (fun _ h0 => (Sound.once (fun _ h1 => (Sound.access (fun _ h2 =>
      (.app State.dmaAbort_sound h2)) h1)) h0))

theorem execDmaDoor_sound {t req n} {s : State} :
    SoundOut s (execDmaDoor t req n s) := by
  unfold execDmaDoor
  exact SoundOut.core (fun _ h0 => (Sound.access (fun _ h1 => (.app State.dmaDoor_sound h1)) h0))

theorem execDmaStart_sound {t req n} {s : State} :
    SoundOut s (execDmaStart t req n s) := by
  unfold execDmaStart
  exact SoundOut.core (fun _ h0 => (Sound.access (fun _ h1 => (.app State.dmaStart_sound h1)) h0))

theorem State.restart_sound {s : State} : Sound s (State.restart s) := by
  unfold State.restart
  exact .ite (.app (Sound.set_thm_glade_fst (.of_eq rfl rfl) rfl rfl) .refl) .refl

theorem State.shutdownOff_sound {s : State} : Sound s (State.shutdownOff s) := by
  unfold State.shutdownOff
  exact .ite (.app State.restart_sound (.only Only.set_top rfl .refl)) (.only State.shutdownError_only rfl .refl)

theorem State.openWindow_sound {s : State} : Sound s (State.openWindow s) := by
  unfold State.openWindow
  exact .ite .refl (.only State.hit_only rfl (.app (Sound.set_thm_fst rfl rfl) .refl))

theorem State.shutdownOn_sound {s : State} : Sound s (State.shutdownOn s) := by
  unfold State.shutdownOn
  exact .ite (.only State.shutdownError_only rfl .refl) (.app State.openWindow_sound (.only Only.set_top rfl .refl))

theorem State.writeShdn_sound {on v} {s : State} :
    Sound s (State.writeShdn on v s) := by
  unfold State.writeShdn
  exact .ite (.ite (.app State.shutdownOn_sound .refl) (.app State.shutdownOff_sound .refl))
      (.only State.shutdownError_only rfl .refl)

theorem State.dieStep_sound {s : State} :
    Sound s (State.dieStep s) := by
  unfold State.dieStep
  exact Sound.when (fun _ h0 => (.app State.restart_sound h0)) (Sound.when (fun _ h0 =>
      (.app State.openWindow_sound h0)) (.only State.meter_only rfl (Sound.when (fun _ h0 =>
      (.only State.logHw_only rfl h0)) (.only State.report_only rfl (.only Only.set_fab_pwr_thm rfl
          (.only State.judgeTref_only rfl .refl))))))

theorem execDieModelStep_sound {t} {s : State} :
    SoundOut s (execDieModelStep t s) := by
  unfold execDieModelStep
  exact SoundOut.core (fun _ h0 => (.app State.dieStep_sound (.only State.stepInputs_only rfl h0)))

theorem execShutdownEnd_sound {t req v} {s : State} :
    SoundOut s (execShutdownEnd t req v s) := by
  unfold execShutdownEnd
  exact SoundOut.core (fun _ h0 => (Sound.access (fun _ h1 => (.app State.writeShdn_sound h1)) h0))

theorem execShutdownStart_sound {t req v} {s : State} :
    SoundOut s (execShutdownStart t req v s) := by
  unfold execShutdownStart
  exact SoundOut.core (fun _ h0 => (Sound.access (fun _ h1 => (.app State.writeShdn_sound h1)) h0))

theorem State.watchdog_sound {seg wait ack} {s : State} :
    Sound s (State.watchdog seg wait ack s) := by
  unfold State.watchdog
  exact (.ite .refl (by
    split
    · exact (Sound.when (fun _ h0 => (.app State.stallCrossing_sound h0)) .refl)
    · exact (.only State.segmentStall_only rfl .refl)))

theorem execSegmentWatchdog_sound {t seg wait ack} {s : State} :
    SoundOut s (execSegmentWatchdog t seg wait ack s) := by
  unfold execSegmentWatchdog
  exact SoundOut.core (fun _ h0 => (.app State.watchdog_sound h0))

theorem State.arbEnd_sound {j} {s : State} :
    Sound s (State.arbEnd j s) := by
  have k : Sound s (s.report (otpNotes s.sec.arbBad)) := .only State.report_only rfl .refl
  unfold State.arbEnd
  exact .ite k (.only State.logHw_only rfl (k.put_sec Sec.program_grows))

theorem State.recover_sound {s : State} :
    Sound s (State.recover s) := by
  unfold State.recover
  exact Sound.when (fun _ h0 => (.app State.fwdogService_sound h0)) (.only State.report_only rfl (.app
      (Sound.set_regs_fst rfl rfl) .refl))

theorem State.putTcm_sound {l} {s : State} : Sound s (State.putTcm l s) := by
  unfold State.putTcm
  exact .app (Sound.set_fst rfl rfl) .refl

theorem State.secVerify_sound {slotB b dir} {s : State} :
    Sound s (State.secVerify slotB b dir s) := by
  unfold State.secVerify
  exact .only State.report_only rfl (.app (Sound.set_sec (.of_eq Sec.result_otp)) .refl)

theorem State.secLoad_sound {slotB b dir} {s : State} :
    Sound s (State.secLoad slotB b dir s) := by
  unfold State.secLoad
  exact (.ite (.app State.secVerify_sound .refl) (by
    split
    · exact (.only State.report_only rfl (.only State.keepImg_only rfl (.app (Sound.set_sec (.of_eq Sec.result_otp))
        (.app State.putTcm_sound .refl))))
    · exact (.only State.report_only rfl (.app (Sound.set_sec (.of_eq Sec.result_otp)) (.app State.putTcm_sound .refl)))))

theorem State.bootTry_sound {a b dir trial sk l first} {s : State} :
    Sound s (State.bootTry a b dir trial sk l first s) := by
  induction l generalizing first s with
  | nil => exact .app State.recover_sound .refl
  | cons c r ih =>
    unfold State.bootTry
    exact .ite (.app (Sound.set_regs_fst_sec rfl rfl (.of_eq rfl)) (.app State.secLoad_sound .refl))
      (.app ih (.app State.secLoad_sound .refl))

theorem State.boot_sound {ja jb a b dir} {s : State} :
    Sound s (State.boot ja jb a b dir s) := by
  unfold State.boot
  exact (.app State.bootTry_sound (.app (Sound.set_fst rfl rfl) (by
    split
    · exact (.app (Sound.set_fst_fits Forester.try_fits) .refl)
    · exact .refl)))

theorem State.secRefuse_sound {code} {s : State} : Sound s (State.secRefuse code s) := by
  unfold State.secRefuse
  exact .only State.hit_only rfl (.app (Sound.set_sec (.of_eq rfl)) .refl)

theorem State.secStart_sound {op rowCode addr v w} {s : State} :
    Sound s (State.secStart op rowCode addr v w s) := by
  unfold State.secStart
  exact .ite (.app State.secRefuse_sound .refl) (.ite (.app State.secRefuse_sound .refl) (.ite
      (.app State.secRefuse_sound .refl) (.ite (.app State.secRefuse_sound .refl)
      (.app (Sound.set_sec (.of_eq rfl)) .refl))))

theorem State.cmdVerify_sound {v} {s : State} : Sound s (State.cmdVerify v s) := by
  unfold State.cmdVerify
  exact .app State.secStart_sound .refl

theorem State.cmdArb_sound {v} {s : State} : Sound s (State.cmdArb v s) := by
  unfold State.cmdArb
  exact .app State.secStart_sound .refl

theorem State.cmdCfg_sound {v} {s : State} : Sound s (State.cmdCfg v s) := by
  unfold State.cmdCfg
  exact .app State.secStart_sound .refl

theorem State.cmdLoad_sound {v} {s : State} : Sound s (State.cmdLoad v s) := by
  unfold State.cmdLoad
  exact .app State.secStart_sound .refl

theorem State.cmdProg_sound {v} {s : State} : Sound s (State.cmdProg v s) := by
  unfold State.cmdProg
  exact .app State.secStart_sound .refl

theorem State.writeSecCmd_sound {v} {s : State} : Sound s (State.writeSecCmd v s) := by
  unfold State.writeSecCmd
  exact .ite (.app State.cmdVerify_sound .refl) (.ite (.app State.cmdLoad_sound .refl) (.ite
      (.app State.cmdArb_sound .refl) (.ite (.app State.cmdProg_sound .refl) (.ite
      (.app State.cmdCfg_sound .refl) .refl))))

theorem State.challenge_sound {s : State} :
    Sound s (State.challenge s) := by
  unfold State.challenge
  exact .only State.spend_only rfl (.only State.report_only rfl (.app (Sound.set_sec (.of_eq rfl)) .refl))

theorem State.debugFail_sound {s : State} : Sound s (State.debugFail s) := by
  unfold State.debugFail
  exact .only State.report_only rfl (.app (Sound.set_sec (.of_eq rfl)) .refl)

theorem State.debugOpen_sound {level k} {s : State} :
    Sound s (State.debugOpen level k s) := by
  unfold State.debugOpen
  exact .only State.logHw_only rfl (.only State.report_only rfl (.app (Sound.set_sec (.of_eq rfl)) .refl))

theorem State.respond_sound {level k sig key} {s : State} :
    Sound s (State.respond level k sig key s) := by
  unfold State.respond
  exact .only State.report_only rfl (.ite (.app State.debugOpen_sound .refl) (.app State.debugFail_sound .refl))

theorem State.respFirst_sound {s : State} :
    Sound s (State.respFirst s) := by
  unfold State.respFirst
  exact (Sound.takeFirst (fun _ => (by
      split
      · exact (.some (fun _ h0 => (.app State.respond_sound h0)))
      · exact .none)) .refl)

theorem State.secEnd_sound {j slot dir} {s : State} :
    Sound s (State.secEnd j slot dir s) := by
  unfold State.secEnd
  exact .ite (.app State.secVerify_sound .refl) (.ite (.app State.secLoad_sound .refl) (.ite
      (.app State.arbEnd_sound .refl) (.ite (.app (Sound.set_sec Sec.program_grows) .refl)
          (.only State.report_only rfl (.app (Sound.set_sec Sec.setCfg_grows) .refl)))))

theorem State.secFinish_sound {slot dir} {s : State} :
    Sound s (State.secFinish slot dir s) := by
  unfold State.secFinish
  exact (by
    split
    · exact .refl
    · exact (.only State.report_only rfl (.app (Sound.set_sec (.of_eq rfl)) (.app State.secEnd_sound .refl))))

theorem execArbRaise_sound {t v} {s : State} :
    SoundOut s (execArbRaise t v s) := by
  unfold execArbRaise
  exact SoundOut.sec (fun _ h0 => (.app State.cmdArb_sound h0))

theorem execBootSelect_sound {t journalA journalB slotA slotB dir} {s : State} :
    SoundOut s (execBootSelect t journalA journalB slotA slotB dir s) := by
  unfold execBootSelect
  exact SoundOut.forester (fun _ h0 => (Sound.when (fun _ h1 => (.app State.boot_sound h1)) h0))

theorem execCfgSet_sound {t v} {s : State} :
    SoundOut s (execCfgSet t v s) := by
  unfold execCfgSet
  exact SoundOut.sec (fun _ h0 => (.app State.cmdCfg_sound h0))

theorem execChallengeExpiry_sound {t} {s : State} : SoundOut s (execChallengeExpiry t s) := by
  unfold execChallengeExpiry
  exact SoundOut.core (fun _ h0 => (Sound.when (fun _ h1 => (.app (Sound.set_sec (.of_eq rfl)) h1)) h0))

theorem execCryptoSelfTestDone_sound {t ok} {s : State} :
    SoundOut s (execCryptoSelfTestDone t ok s) := by
  unfold execCryptoSelfTestDone
  exact SoundOut.core (fun _ h0 => (.only State.report_only rfl (.app (Sound.set_sec (.of_eq rfl)) h0)))

theorem execLoad_sound {t v} {s : State} : SoundOut s (execLoad t v s) := by
  unfold execLoad
  exact SoundOut.sec (fun _ h0 => (.app State.cmdLoad_sound h0))

theorem execOtpProg_sound {t v} {s : State} :
    SoundOut s (execOtpProg t v s) := by
  unfold execOtpProg
  exact SoundOut.sec (fun _ h0 => (.app State.cmdProg_sound h0))

theorem execSecChal_sound {t} {s : State} :
    SoundOut s (execSecChal t s) := by
  unfold execSecChal
  exact SoundOut.core (fun _ h0 => (Sound.when (fun _ h1 => (.app State.challenge_sound h1))
      (.app State.respFirst_sound h0)))

theorem execSecResp_sound {t level k sig dirKey} {s : State} :
    SoundOut s (execSecResp t level k sig dirKey s) := by
  unfold execSecResp
  exact SoundOut.core (fun _ h0 => (Sound.once (fun _ h1 => (.app State.respond_sound h1)) h0))

theorem execVerify_sound {t v} {s : State} :
    SoundOut s (execVerify t v s) := by
  unfold execVerify
  exact SoundOut.sec (fun _ h0 => (.app State.cmdVerify_sound h0))

theorem State.romReply_sound {seq cmd rc ws} {s : State} :
    Sound s (State.romReply seq cmd rc ws s) := by
  unfold State.romReply
  exact .app State.writeMbDone_sound (.only Only.set_regs rfl .refl)

theorem State.setRom_sound {x} {s : State} : Sound s (State.setRom x s) := by
  unfold State.setRom
  exact .app (Sound.set_fst rfl rfl) .refl

theorem State.romAnswer_sound {rc} {s : State} :
    Sound s (State.romAnswer rc s) := by
  unfold State.romAnswer
  exact (by
    split
    · exact (.app State.romReply_sound (.app State.setRom_sound .refl))
    · exact .refl)

theorem State.romDone_sound {s : State} :
    Sound s (State.romDone s) := by
  unfold State.romDone
  exact (by
    dsimp only
    split
    · exact (.only State.writeMbEvt_only rfl (.app State.setRom_sound .refl))
    · exact (.app State.romAnswer_sound (.app State.setRom_sound .refl))
    · exact (.app State.romAnswer_sound (.app State.setRom_sound (.app (Sound.set_fst_fits Forester.untry_fits) .refl)))
    · exact .refl)

theorem State.romFail_sound {rc} {s : State} :
    Sound s (State.romFail rc s) := by
  unfold State.romFail
  exact .app State.romAnswer_sound (.app State.setRom_sound .refl)

theorem State.romIssue_sound {s : State} :
    Sound s (State.romIssue s) := by
  unfold State.romIssue
  exact (by
    split
    · exact (.app State.romDone_sound .refl)
    · exact (.ite (.app State.romFail_sound .refl) (.ite (.app State.writeNor_sound (.only Only.set_regs rfl .refl))
        (.app State.romFail_sound (.app State.writeNor_sound (.only Only.set_regs rfl .refl))))))

theorem State.romSay_sound {rc ws} {s : State} :
    Sound s (State.romSay rc ws s) := by
  unfold State.romSay
  exact .app State.romReply_sound .refl

theorem State.romBegin_sound {s : State} :
    Sound s (State.romBegin s) := by
  unfold State.romBegin
  exact .ite (.app State.romSay_sound .refl) (.ite (.app State.romSay_sound .refl) (.ite
      (.app State.romSay_sound .refl) (.app State.romIssue_sound (.app State.setRom_sound (.app State.romSay_sound
          .refl)))))

theorem State.romCommit_sound {s : State} :
    Sound s (State.romCommit s) := by
  unfold State.romCommit
  exact .ite (.app State.romSay_sound .refl) (.ite (.app State.romSay_sound .refl) (.ite
      (.app State.romSay_sound .refl) (.ite (.app State.setRom_sound (.app State.cmdVerify_sound .refl))
      (.app State.romSay_sound (.app State.cmdVerify_sound .refl)))))

theorem State.romReboot_sound {s : State} :
    Sound s (State.romReboot s) := by
  unfold State.romReboot
  exact .app State.resetForester_sound (.app State.romSay_sound .refl)

theorem State.romStart_sound {x} {s : State} :
    Sound s (State.romStart x s) := by
  unfold State.romStart
  exact .app State.romIssue_sound (.app State.setRom_sound .refl)

theorem State.romWrite_sound {s : State} :
    Sound s (State.romWrite s) := by
  unfold State.romWrite
  exact (.ite (.app State.romSay_sound .refl) (.ite (.app State.romSay_sound .refl) (by
    split
    · exact (.app State.romSay_sound .refl)
    · exact (.app State.romStart_sound .refl))))

theorem State.romServe_sound {s : State} :
    Sound s (State.romServe s) := by
  unfold State.romServe
  exact .ite (.app State.romSay_sound .refl) (.ite (.app State.romSay_sound .refl) (.ite
      (.app State.romBegin_sound .refl) (.ite (.app State.romWrite_sound .refl) (.ite
      (.app State.romCommit_sound .refl) (.ite (.app State.romSay_sound .refl) (.ite
      (.app State.romReboot_sound .refl) (.app State.romSay_sound .refl)))))))

theorem State.writeDoor_sound {v} {s : State} :
    Sound s (State.writeDoor v s) := by
  unfold State.writeDoor
  exact .ite (Sound.when (fun _ h0 => (.app State.romServe_sound h0)) (.app State.mbStart_sound .refl))
      (.only State.report_only rfl (.app (Sound.set_host rfl) .refl))

theorem State.romNext_sound {s : State} :
    Sound s (State.romNext s) := by
  unfold State.romNext
  exact .ite (.app State.romIssue_sound (.app State.setRom_sound .refl)) .refl

theorem State.norEnd_sound {data} {s : State} :
    Sound s (State.norEnd data s) := by
  unfold State.norEnd
  exact .ite (Sound.when (fun _ h0 => (.app State.norClosed_sound h0)) .refl) (Sound.when (fun _ h0 =>
      (.app State.romNext_sound h0)) (.app State.norDone_sound .refl))

theorem State.romError_sound {s : State} :
    Sound s (State.romError s) := by
  unfold State.romError
  exact Sound.when (fun _ h0 => (.app State.romFail_sound h0)) .refl

theorem State.norLate_sound {s : State} :
    Sound s (State.norLate s) := by
  unfold State.norLate
  exact .ite (Sound.when (fun _ h0 => (.app State.norGiveUp_sound h0)) .refl) (Sound.when (fun _ h0 =>
      (.app State.romError_sound h0)) (.app State.norTimeout_sound .refl))

theorem State.romVerified_sound {code} {s : State} :
    Sound s (State.romVerified code s) := by
  unfold State.romVerified
  exact (by
    dsimp only
    split
    · exact (.ite (.app State.romFail_sound .refl) (.ite (.app State.romFail_sound .refl)
        (.app State.romIssue_sound (.app State.setRom_sound .refl))))
    · exact .refl)

theorem State.secOver_sound {slot dir} {s : State} :
    Sound s (State.secOver slot dir s) := by
  unfold State.secOver
  exact Sound.when (fun _ h0 => (.app State.romVerified_sound h0)) (.app State.secFinish_sound .refl)

theorem execMbDoor_sound {t req v} {s : State} :
    SoundOut s (execMbDoor t req v s) := by
  unfold execMbDoor
  exact SoundOut.core (fun _ h0 => (Sound.access (fun _ h1 => (.app State.writeDoor_sound h1)) h0))

theorem execSecCommandEnd_sound {t slot dir} {s : State} :
    SoundOut s (execSecCommandEnd t slot dir s) := by
  unfold execSecCommandEnd
  exact SoundOut.core (fun _ h0 => (.app State.secOver_sound h0))

theorem execSpiNorCommandDone_sound {t data} {s : State} :
    SoundOut s (execSpiNorCommandDone t data s) := by
  unfold execSpiNorCommandDone
  exact SoundOut.core (fun _ h0 => (.app State.norEnd_sound h0))

theorem execSpiNorWipTimeout_sound {t} {s : State} :
    SoundOut s (execSpiNorWipTimeout t s) := by
  unfold execSpiNorWipTimeout
  exact SoundOut.core (fun _ h0 => (Sound.when (fun _ h1 => (.app State.norLate_sound h1)) h0))

theorem State.applyProfile_sound {s : State} :
    Sound s (State.applyProfile s) := by
  unfold State.applyProfile
  exact .only State.idleCheck_only rfl (.only State.retLocks_only rfl (.foldl
      (.app (Sound.set_regs_tb_cmt_flt (.of_eq rfl rfl rfl rfl)) .refl) (fun _ _ h0 =>
          (.only State.laneSet_only rfl h0))))

theorem State.closeNor_sound {x} {s : State} :
    Sound s (State.closeNor x s) := by
  unfold State.closeNor
  exact .only State.report_only rfl (.app (Sound.set_fst rfl rfl) .refl)

theorem State.coreLoaded_sound {s : State} :
    Sound s (State.coreLoaded s) := by
  unfold State.coreLoaded
  exact Sound.when (fun _ h0 => (.app State.applyProfile_sound h0)) (.only Only.set_top rfl .refl)

theorem State.coreAfterLoad_sound {s : State} :
    Sound s (State.coreAfterLoad s) := by
  unfold State.coreAfterLoad
  exact .app (Sound.set_glade (.of_eq rfl rfl)) (.app State.norRelease_sound (.app State.coreLoaded_sound .refl))

theorem State.cutOtp_sound {s : State} : Sound s (State.cutOtp s) := by
  unfold State.cutOtp
  exact (by
    split
    · exact .refl
    · exact (.foldl .refl (fun _ _ h0 => (.app (Sound.set_free_sec Sec.partialWord_grows) h0))))

theorem State.coreOff_sound {s : State} :
    Sound s s.coreOff := by
  have k : Sound s s.cutOtp := State.cutOtp_sound
  unfold State.coreOff
  exact {
    clearQ := fun _ => Nat.zero_le _
    host := fun _ => Nat.zero_le _
    fst := ⟨fun _ => Nat.zero_le _, fun _ => Nat.zero_le _⟩
    tb := ⟨fun _ => Nat.zero_le _, fun _ => Nat.zero_le _, fun _ => Nat.zero_le _, fun _ => Nat.zero_le _⟩
    sec := k.sec.trans (.of_eq rfl)
    glade := k.glade }

theorem State.coreStart_sound {uv} {s : State} :
    Sound s (State.coreStart uv s) := by
  unfold State.coreStart
  exact .app State.resetForester_sound (.only State.logHw_only rfl (.only State.spend_only rfl
      (.only Only.set_top_clk rfl .refl)))

theorem State.coreUp_sound {s : State} :
    Sound s (State.coreUp s) := by
  unfold State.coreUp
  exact .app State.gladeSettle_sound (.app State.coreAfterLoad_sound (.app State.coreStart_sound
      (.only Only.set_pwr rfl .refl)))

theorem State.loadEnd_sound {x} {s : State} :
    Sound s (State.loadEnd x s) := by
  unfold State.loadEnd
  exact .ite .refl (Sound.when (fun _ h0 => (.app State.coreAfterLoad_sound h0)) (.only State.report_only rfl
      (.app (Sound.set_glade Glade.load_latched) .refl)))

theorem State.stopParts_sound {s : State} :
    Sound s (State.stopParts s) := by
  unfold State.stopParts
  exact .foldl (.foldl (.app State.closeNor_sound (.app State.resetForester_sound (.only Only.set_thm rfl .refl)))
      (fun _ _ h0 => (.only State.failOpen_only rfl h0))) (fun _ _ h0 =>
      (.only State.stopSurface_only rfl h0))

theorem State.orderlyEnd_sound {s : State} :
    Sound s (State.orderlyEnd s) := by
  unfold State.orderlyEnd
  exact .only State.report_only rfl (Sound.when (fun _ h0 => (.app State.stopParts_sound h0))
      (.only State.keepAs_only rfl (.only Only.set_thm rfl .refl)))

theorem execCoreRelease_sound {t} {s : State} :
    SoundOut s (execCoreRelease t s) := by
  unfold execCoreRelease
  exact .next (.ite (.app State.coreUp_sound (.only State.stamp_only rfl .refl)) (.only State.stamp_only rfl .refl))

theorem execCoreReset_sound {t} {s : State} :
    SoundOut s (execCoreReset t s) := by
  unfold execCoreReset
  exact SoundOut.core (fun _ h0 => (.app State.coreOff_sound h0))

theorem execGladeLoadEnd_sound {t flash} {s : State} :
    SoundOut s (execGladeLoadEnd t flash s) := by
  unfold execGladeLoadEnd
  exact SoundOut.settled (fun _ h0 => (.app State.loadEnd_sound h0))

theorem execOrderlyWindowEnd_sound {t} {s : State} :
    SoundOut s (execOrderlyWindowEnd t s) := by
  unfold execOrderlyWindowEnd
  exact SoundOut.core (fun _ h0 => (Sound.when (fun _ h1 => (.app State.orderlyEnd_sound h1)) h0))

theorem State.putDma_sound {req off v} {s : State} :
    Sound s (State.putDma req off v s) := by
  unfold State.putDma
  exact .ite (.ite (.app State.writeDmaCtrl_sound .refl) (.ite (.only State.setCh_only rfl .refl) .refl)) (.ite
      (.ite (.only State.hit_only rfl (.only State.setCh_only rfl .refl)) (.only State.putPlain_only rfl .refl))
      (.only State.putPlain_only rfl .refl))

theorem State.putForester_sound {req off v} {s : State} :
    Sound s (State.putForester req off v s) := by
  unfold State.putForester
  exact .ite (.only State.report_only rfl .refl) (.ite (.app State.writeDoor_sound .refl) (.ite
      (.app (Sound.set_host rfl) .refl) (.ite (.only Only.set_regs rfl .refl) (.only State.putPlain_only rfl .refl))))

theorem State.putHost_sound {off v} {s : State} : Sound s (State.putHost off v s) := by
  unfold State.putHost
  exact .ite (.app State.armVectors_sound .refl) (.only State.putPlain_only rfl .refl)

theorem State.putMsix_sound {off v} {s : State} : Sound s (State.putMsix off v s) := by
  unfold State.putMsix
  exact .ite (.app (Sound.set_host rfl) (.only State.putPlain_only rfl .refl)) (.only State.putPlain_only rfl .refl)

theorem State.putSec_sound {off v} {s : State} : Sound s (State.putSec off v s) := by
  unfold State.putSec
  exact .ite (.app State.writeSecCmd_sound .refl) (.ite (.app (Sound.set_sec (.of_eq rfl)) .refl)
      (.only State.putPlain_only rfl .refl))

theorem State.putStitch_sound {off v} {s : State} :
    Sound s (State.putStitch off v s) := by
  unfold State.putStitch
  exact .ite (.only State.spoilHealth_only rfl (.only State.setHealth_only rfl .refl)) (.ite
      (.app State.queueClear_sound .refl) (.ite (.only Only.set_regs rfl .refl)
      (.only State.putPlain_only rfl .refl)))

theorem State.putTop_sound {off v} {s : State} :
    Sound s (State.putTop off v s) := by
  unfold State.putTop
  exact .ite (.only State.writeCommit_only rfl .refl) (.ite (.only Only.set_cmt rfl .refl) (.ite
      (.only State.writePhase_only rfl .refl) (.ite (.app State.writeShdn_sound .refl) (.ite
      (.only Only.set_top rfl .refl) (.only State.putPlain_only rfl .refl)))))

theorem State.pageWrite_sound {req p off v} {s : State} :
    Sound s (State.pageWrite req p off v s) := by
  unfold State.pageWrite
  exact .ite (.only State.putHeader_only rfl .refl) (.ite (.app State.putTop_sound .refl) (.ite
      (.only State.putIntake_only rfl .refl) (.ite (.app State.putHost_sound .refl) (.ite
      (.app State.putMsix_sound .refl) (.ite (.app State.putDma_sound .refl) (.ite
      (.only State.putComposer_only rfl .refl) (.ite (.only State.putCorr_only rfl .refl) (.ite
      (.only State.putShade_only rfl .refl) (.ite (.app State.putStitch_sound .refl) (.ite
      (.only State.putSkein_only rfl .refl) (.ite (.only State.putSal_only rfl .refl) (.ite
      (.only State.putTherm_only rfl .refl) (.ite (.only State.putFault_only rfl .refl) (.ite
      (.app State.putForester_sound .refl) (.ite (.app State.putSec_sound .refl)
      (.only State.putPlain_only rfl .refl))))))))))))))))

theorem State.writeReg_sound {req a v} {s : State} :
    Sound s (State.writeReg req a v s) := by
  unfold State.writeReg
  exact .ite .refl (.ite (Sound.access (fun _ h0 => (.app State.pageWrite_sound h0)) .refl) (.ite
      (.only State.report_only rfl .refl) (.ite (.only State.writeOwner_only rfl .refl) .refl)))

theorem State.uartPut_sound {b} {s : State} : Sound s (State.uartPut b s) := by
  unfold State.uartPut
  split
  case isTrue h => exact .set_fst_fits ⟨fun _ => by simpa using h, id⟩
  case isFalse =>
    refine .ite (.only State.spend_only rfl .refl) (.app (.set_fst_fits ⟨fun h => ?_, id⟩)
        (.only State.spend_only rfl .refl))
    have h : s.fst.uartTx.length ≤ 16 := h
    rw [List.length_append, List.length_tail, List.length_singleton]
    omega

theorem State.writeFp_sound {off v} {s : State} :
    Sound s (State.writeFp off v s) := by
  unfold State.writeFp
  exact .ite (Sound.when (fun _ h0 => (.app State.resetForester_sound h0)) .refl) (.ite
      (.app State.writeWdog_sound .refl) (.ite (.app State.writeMbDone_sound .refl) (.ite
      (.only State.writeMbEvt_only rfl .refl) (.ite (.only State.writeLogRd_only rfl .refl) (.ite
      (.only State.writeLogCode_only rfl .refl) (.ite (.app State.writeNor_sound .refl) (.ite
      (.app State.uartPut_sound .refl) (.ite (.app (Sound.set_fst_fits Forester.writeFlags_fits) .refl)
      (.only State.putPlain_only rfl .refl)))))))))

theorem State.busWrite_sound {req a v be} {s : State} :
    Sound s (State.busWrite req a v be s) := by
  unfold State.busWrite
  exact .ite (.ite (.app State.writeFp_sound .refl) .refl) (.ite (.only State.report_only rfl .refl)
      (.app State.writeReg_sound .refl))

theorem State.hostWrites_sound {s : State} :
    Sound s (State.hostWrites s) := by
  unfold State.hostWrites
  exact (Sound.takeFirst (fun _ => (by
      split
      · exact (.some (fun _ h0 => (Sound.access (fun _ h1 => (.only State.writePhase_only rfl h1)) h0)))
      · exact (.some (fun _ h0 => (.app State.busWrite_sound h0)))
      · exact .none)) .refl)

theorem execHostPortReset_sound {t k} {s : State} :
    SoundOut s (execHostPortReset t k s) := by
  unfold execHostPortReset
  exact SoundOut.core (fun _ h0 => (Sound.when (fun _ h1 => (.app State.hostReset_sound
      (.app State.hostWrites_sound h1))) h0))

theorem execRegisterWrite_sound {t req addr v be} {s : State} :
    SoundOut s (execRegisterWrite t req addr v be s) := by
  unfold execRegisterWrite
  exact SoundOut.core (fun _ h0 => (Sound.once (fun _ h1 => (.app State.busWrite_sound h1)) h0))

theorem State.afterFp_sound {off} {s : State} : Sound s (State.afterFp off s) := by
  unfold State.afterFp
  exact .ite (.set_fst_fits ⟨id, fun h => (List.length_tail ▸ Nat.sub_le _ _).trans h⟩)
    (.ite (.only State.spend_only rfl .refl) (.ite (.only Only.set_hi rfl .refl) .refl))

theorem State.busRead_sound {req a} {s : State} :
    Sound s (State.busRead req a s) := by
  unfold State.busRead
  exact .ite (.only State.readReg_only rfl .refl) (.ite (.only State.report_only rfl (.app State.afterFp_sound
      .refl)) .refl)

theorem execCounterLowWordRead_sound {t req addr} {s : State} :
    SoundOut s (execCounterLowWordRead t req addr s) := by
  unfold execCounterLowWordRead
  exact SoundOut.core (fun _ h0 => (.app State.busRead_sound h0))

theorem State.putPages_sound {req a data} {s : State} :
    Sound s (State.putPages req a data s) := by
  induction a, data, s using State.putPages.induct req with
  | case1 a s => unfold State.putPages; exact .refl
  | case2 a s b0 b1 b2 b3 r h ih =>
    unfold State.putPages
    simp only [h, if_true]
    exact .app ih (.app State.writeReg_sound .refl)
  | case3 a s b0 b1 b2 b3 r h ih =>
    unfold State.putPages
    simp only [h, if_false]
    exact .app ih (Sound.when (fun _ k => .only State.report_only rfl k) .refl)
  | case4 a b0 r s h =>
    unfold State.putPages
    split
    · exact absurd rfl (h _ _ _ _)
    · exact .only State.report_only rfl .refl

theorem State.chipWrite_sound {req a l} {s : State} :
    Sound s (State.chipWrite req a l s) := by
  unfold State.chipWrite
  exact Sound.putPart (fun _ _ _ h0 => (.only State.shadePort_only rfl h0)) (Sound.putPart (fun _ _ _ h0 =>
      (.only State.shadePort_only rfl h0)) (Sound.putPart (fun _ _ _ h0 => (.app State.putPages_sound h0))
      (Sound.putPart (fun _ _ _ h0 => (.only State.writeHealth_only rfl h0)) (Sound.putPart (fun _ _ _ h0 =>
      (.only State.putCalib_only rfl h0)) (Sound.putPart (fun _ _ _ h0 => (.only Only.set_layers rfl h0)) (Sound.putPart
      (fun _ _ _ h0 => (.only State.report_only rfl (.only State.putFrame_only rfl h0))) .refl))))))

theorem State.debugTcm_sound {w} {s : State} :
    Sound s (State.debugTcm w s) := by
  unfold State.debugTcm
  exact .ite (.app State.tcmError_sound .refl) (.only State.report_only rfl (Sound.when (fun _ h0 =>
      (.app State.tcmError_sound h0)) .refl))

theorem State.debugRead_sound {a} {s : State} :
    Sound s (State.debugRead a s) := by
  unfold State.debugRead
  exact (by
    split
    · exact (.only State.spend_only rfl (.only State.report_only rfl .refl))
    · exact (.app State.debugTcm_sound .refl)
    · exact (.only State.report_only rfl (.app State.afterFp_sound .refl))
    · exact (.only State.report_only rfl .refl)
    · exact (.only State.debugChip_only rfl .refl)
    · exact (.only State.debugError_only rfl .refl))

theorem State.debugTcmPut_sound {w v} {s : State} : Sound s (State.debugTcmPut w v s) := by
  unfold State.debugTcmPut
  exact .app (Sound.set_fst rfl rfl) .refl

theorem State.debugWrite_sound {a v} {s : State} :
    Sound s (State.debugWrite a v s) := by
  unfold State.debugWrite
  exact (by
    split
    · exact (.app State.debugTcmPut_sound .refl)
    · exact (Sound.when (fun _ h0 => (.app State.writeFp_sound h0)) .refl)
    · exact (.ite (.app State.writeReg_sound .refl) (.ite (.only State.report_only rfl .refl)
        (.app State.chipWrite_sound .refl)))
    · exact (.only State.debugError_only rfl .refl))

theorem State.debug_sound {x0} {s : State} :
    Sound s (State.debug x0 s) := by
  unfold State.debug
  exact (by
    split
    · exact (.only State.report_only rfl .refl)
    · exact (Sound.when (fun _ h0 => (.app (Sound.set_fst rfl rfl) h0)) .refl)
    · exact (Sound.when (fun _ h0 => (.app (Sound.set_fst rfl rfl) h0)) .refl)
    · exact (Sound.when (fun _ h0 => (.app (Sound.set_fst rfl rfl) h0)) .refl)
    · exact (Sound.when (fun _ h0 => (.app State.resetForester_sound h0)) .refl)
    · exact (Sound.when (fun _ h0 => (.app State.debugRead_sound h0)) .refl)
    · exact (Sound.when (fun _ h0 => (.app State.debugWrite_sound h0)) .refl)
    · exact (Sound.when (fun _ h0 => (.only State.report_only rfl h0)) .refl)
    · exact (Sound.when (fun _ h0 => (.only State.report_only rfl h0)) .refl))

theorem execDebugAccess_sound {t op} {s : State} :
    SoundOut s (execDebugAccess t op s) := by
  unfold execDebugAccess
  exact SoundOut.core (fun _ h0 => (.app State.debug_sound h0))

theorem State.reform_sound {v k} {s : State} :
    Sound s (State.reform v s k) := by
  unfold State.reform
  exact (by
    dsimp only
    split
    · exact (.ite .refl (.ite (.only State.setSkein_only rfl (.app State.readPlane_sound .refl))
        (.only State.setSkein_only rfl .refl)))
    · exact .refl)

theorem State.takeDecision_sound {u} {s : State} :
    Sound s (State.takeDecision u s) := by
  unfold State.takeDecision
  exact .only State.comingRanges_only rfl (.foldl (.only State.setSurf_only rfl (.only State.returnLanes_only rfl
      .refl)) (fun _ _ h0 => (.app State.reform_sound h0)))

theorem State.redecide_sound {s : State} :
    Sound s (State.redecide s) := by
  unfold State.redecide
  exact .foldl .refl (fun _ _ h0 => (Sound.when (fun _ h1 => (.app State.takeDecision_sound h1)) h0))

theorem State.statusIn_sound {b blocks} {s : State} :
    Sound s (State.statusIn b blocks s) := by
  unfold State.statusIn
  exact .app State.redecide_sound (.only State.receive_only rfl .refl)

theorem State.statusFirst_sound {s : State} :
    Sound s (State.statusFirst s) := by
  unfold State.statusFirst
  exact (Sound.takeFirst (fun _ => (by
      split
      · exact (.some (fun _ h0 => (.app State.statusIn_sound h0)))
      · exact .none)) .refl)

theorem execDecisionInstant_sound {t u} {s : State} :
    SoundOut s (execDecisionInstant t u s) := by
  unfold execDecisionInstant
  exact SoundOut.core (fun _ h0 => (Sound.when (fun _ h1 => (.app State.takeDecision_sound h1)) h0))

theorem execHoldConfirmTimeout_sound {t l} {s : State} :
    SoundOut s (execHoldConfirmTimeout t l s) := by
  unfold execHoldConfirmTimeout
  exact SoundOut.core (fun _ h0 => (.only State.holdConfirm_only rfl (.app State.statusFirst_sound h0)))

theorem execLalertReceived_sound {t b blk} {s : State} :
    SoundOut s (execLalertReceived t b blk s) := by
  unfold execLalertReceived
  exact SoundOut.core (fun _ h0 => (.app State.redecide_sound (.only State.alert_only rfl h0)))

theorem execOutputDriverFault_sound {t l} {s : State} :
    SoundOut s (execOutputDriverFault t l s) := by
  unfold execOutputDriverFault
  exact SoundOut.core (fun _ h0 => (.app State.redecide_sound (.only State.driverFault_only rfl h0)))

theorem execStatusResponse_sound {t b blocks} {s : State} :
    SoundOut s (execStatusResponse t b blocks s) := by
  unfold execStatusResponse
  exact SoundOut.core (fun _ h0 => (Sound.once (fun _ h1 => (.app State.statusIn_sound h1)) h0))

theorem execSynthesiserLockLoss_sound {t syn} {s : State} :
    SoundOut s (execSynthesiserLockLoss t syn s) := by
  unfold execSynthesiserLockLoss
  exact SoundOut.core (fun _ h0 => (.app State.redecide_sound (.only State.synLoss_only rfl h0)))

theorem State.afterBurst_sound {n} {s : State} :
    Sound s (State.afterBurst n s) := by
  unfold State.afterBurst
  exact .ite (.app State.dmaEnd_sound .refl) (.ite (.app State.dmaEnd_sound .refl)
      (.only State.setCh_only rfl .refl))

theorem State.burstWrite_sound {n a l} {s : State} :
    Sound s (State.burstWrite n a l s) := by
  unfold State.burstWrite
  exact .ite (.app State.chipWrite_sound .refl) (.only State.report_only rfl .refl)

theorem State.dmaTook_sound {n} {s : State} : Sound s (State.dmaTook n s) := by
  unfold State.dmaTook
  exact Sound.when (fun _ h0 => (.app (Sound.set_host rfl) h0)) (.only State.setCh_only rfl .refl)

theorem State.burstEnds_sound {n} {s : State} :
    Sound s (State.burstEnds n s) := by
  unfold State.burstEnds
  exact .app State.afterBurst_sound (.only State.setCh_only rfl (.only State.signalEnd_only rfl (Sound.when
      (fun _ h0 => (.only State.portArrivals_only rfl h0)) (.app State.burstWrite_sound (.app State.dmaTook_sound
          (.only State.burstData_only rfl .refl))))))

theorem State.partialPages_sound {n mask fails a i data} {s : State} :
    Sound s (State.partialPages n mask fails a i data s) := by
  induction a, i, data, s using State.partialPages.induct n mask fails with
  | case1 a i b0 b1 b2 b3 r s v known u ih =>
    unfold State.partialPages
    exact .app ih (.ite (.app State.writeReg_sound .refl) .refl)
  | case2 a i data s h =>
    unfold State.partialPages
    split
    · exact absurd rfl (h _ _ _ _ _)
    · exact .refl

theorem State.partialWrites_sound {n mask stop a i data} {s : State} :
    Sound s (State.partialWrites n mask stop a i data s) := by
  induction data generalizing a i s with
  | nil => exact .refl
  | cons b r ih =>
    refine .app ih ?_
    split
    · exact .ite (.app State.burstWrite_sound .refl) .refl
    · exact .refl

theorem State.busError_sound {n cause} {s : State} :
    Sound s (State.busError n cause s) := by
  unfold State.busError
  exact .app State.dmaEnd_sound (.only State.signalEnd_only rfl (.only State.report_only rfl (Sound.when
      (fun _ h0 => (.only State.portFailed_only rfl h0)) (Sound.when (fun _ h0 =>
      (.app State.partialPages_sound h0)) (.app State.partialWrites_sound (.only State.spend_only rfl
          (.app State.dmaTook_sound (.snd_ite (.only State.burstData_only rfl .refl) .refl))))))))

theorem State.fetched_sound {n l} {s : State} :
    Sound s (State.fetched n l s) := by
  unfold State.fetched
  exact .ite (.app State.dmaEnd_sound (.only State.setCh_only rfl .refl)) (.ite (.only State.setCh_only rfl
      (.only State.setCh_only rfl .refl)) (.ite (.app State.dmaEnd_sound (.only State.setCh_only rfl .refl))
      (.only State.setCh_only rfl (.only State.setCh_only rfl .refl))))

theorem State.refetched_sound {n l} {s : State} :
    Sound s (State.refetched n l s) := by
  unfold State.refetched
  exact .ite (.app State.dmaFetch_sound (.only State.setCh_only rfl (.only State.setCh_only rfl .refl))) (.ite
      (.app State.dmaReread_sound (.only State.setCh_only rfl .refl)) (.only State.setCh_only rfl .refl))

theorem State.descriptorIn_sound {n} {s : State} :
    Sound s (State.descriptorIn n s) := by
  unfold State.descriptorIn
  exact (.ite (by
    split
    · exact .refl
    · exact (.only State.fetchError_only rfl (.app State.dmaTook_sound .refl))
    · exact (.app State.fetched_sound (.app State.dmaTook_sound .refl))) (.ite (by
    split
    · exact .refl
    · exact (.only State.fetchError_only rfl (.app State.dmaTook_sound .refl))
    · exact (.app State.refetched_sound (.app State.dmaTook_sound .refl))) .refl))

theorem State.grant_sound {n} {s : State} :
    Sound s (State.grant n s) := by
  unfold State.grant
  exact .ite (.only Only.set_dma rfl (.only State.setCh_only rfl .refl)) (.app State.dmaUpRead_sound
      (.only Only.set_dma rfl (.only State.setCh_only rfl .refl)))

theorem State.requestIn_sound {n} {s : State} :
    Sound s (State.requestIn n s) := by
  unfold State.requestIn
  exact .ite (.app State.dmaEnd_sound (.only State.haltFirst_only rfl .refl)) (.only State.takeRequest_only rfl
      (.only State.haltFirst_only rfl .refl))

theorem State.wbWrite_sound {n} {s : State} :
    Sound s (State.wbWrite n s) := by
  unfold State.wbWrite
  exact .ite (.app State.chipWrite_sound .refl) (.only State.report_only rfl .refl)

theorem State.writtenBack_sound {n ok} {s : State} :
    Sound s (State.writtenBack n ok s) := by
  unfold State.writtenBack
  exact .ite (.app State.dmaBoundary_sound (.only State.report_only rfl (Sound.when (fun _ h0 =>
      (.app State.wbWrite_sound h0)) .refl))) .refl

theorem execDescriptorFetched_sound {t n} {s : State} :
    SoundOut s (execDescriptorFetched t n s) := by
  unfold execDescriptorFetched
  exact SoundOut.core (fun _ h0 => (.app State.descriptorIn_sound h0))

theorem execDmaBurstEnd_sound {t n} {s : State} :
    SoundOut s (execDmaBurstEnd t n s) := by
  unfold execDmaBurstEnd
  exact SoundOut.core (fun _ h0 => (Sound.when (fun _ h1 => (.app State.burstEnds_sound h1)) h0))

theorem execDmaBurstGrant_sound {t n} {s : State} :
    SoundOut s (execDmaBurstGrant t n s) := by
  unfold execDmaBurstGrant
  exact SoundOut.core (fun _ h0 => (Sound.when (fun _ h1 => (.app State.grant_sound h1)) h0))

theorem execDmaBusError_sound {t n} {s : State} :
    SoundOut s (execDmaBusError t n s) := by
  unfold execDmaBusError
  exact (SoundOut.core (fun _ h0 => (.ite (by
    split
    · exact (.app State.busError_sound h0)
    · exact h0) h0)))

theorem execDmaRequestTaken_sound {t n} {s : State} :
    SoundOut s (execDmaRequestTaken t n s) := by
  unfold execDmaRequestTaken
  exact SoundOut.core (fun _ h0 => (.app State.requestIn_sound h0))

theorem execDmaWriteBackDone_sound {t n ok} {s : State} :
    SoundOut s (execDmaWriteBackDone t n ok s) := by
  unfold execDmaWriteBackDone
  exact SoundOut.core (fun _ h0 => (.app State.writtenBack_sound h0))

theorem State.qspiPut_sound {x} {s : State} :
    Sound s (State.qspiPut x s) := by
  unfold State.qspiPut
  exact .ite (.only State.report_only rfl .refl) (.ite (.app State.chipWrite_sound .refl)
      (.app State.writeReg_sound .refl))

theorem State.qspiDrain_sound {s : State} :
    Sound s (State.qspiDrain s) := by
  unfold State.qspiDrain
  exact .foldl (.set_host_fits fun _ => Nat.zero_le _) (fun _ _ h => .app State.qspiPut_sound h)

theorem State.qspiRead_sound {a dwords} {s : State} :
    Sound s (State.qspiRead a dwords s) := by
  unfold State.qspiRead
  exact .ite (.only State.qspiGets_only rfl (.app State.qspiDrain_sound .refl)) (.only State.report_only rfl
      (.app State.qspiDrain_sound .refl))

theorem State.qspiStep_sound {s : State} : Sound s (State.qspiStep s) := by
  unfold State.qspiStep
  split
  case h_1 => exact .refl
  case h_2 x r e =>
    exact .app State.qspiPut_sound (.set_host_fits fun h => by rw [e] at h; exact Nat.le_of_succ_le h)

theorem State.qspiWrite_sound {a bytes} {s : State} :
    Sound s (State.qspiWrite a bytes s) := by
  unfold State.qspiWrite
  exact .ite (.only State.report_only rfl .refl) (.only State.report_only rfl (.app
      (Sound.set_host_fits HostPort.qspiPushes_fits) .refl))

theorem execQspiRead_sound {t addr dwords} {s : State} :
    SoundOut s (execQspiRead t addr dwords s) := by
  unfold execQspiRead
  exact SoundOut.qspi (fun _ h0 => (.app State.qspiRead_sound h0))

theorem execQspiReadTimeout_sound {t addr} {s : State} :
    SoundOut s (execQspiReadTimeout t addr s) := by
  unfold execQspiReadTimeout
  exact SoundOut.qspi (fun _ h0 => (Sound.when (fun _ h1 => (.only State.report_only rfl (.app
      (Sound.set_host rfl) h1))) h0))

theorem execQspiStatus_sound {t} {s : State} :
    SoundOut s (execQspiStatus t s) := by
  unfold execQspiStatus
  exact SoundOut.qspi (fun _ h0 => (.only State.report_only rfl (.app (Sound.set_host rfl) h0)))

theorem execQspiWrite_sound {t addr bytes} {s : State} :
    SoundOut s (execQspiWrite t addr bytes s) := by
  unfold execQspiWrite
  exact SoundOut.qspi (fun _ h0 => (.app State.qspiWrite_sound h0))

theorem State.uartStep_sound {s : State} : Sound s (State.uartStep s) := by
  unfold State.uartStep
  split
  case h_1 => exact .refl
  case h_2 b r e =>
    exact .only State.report_only rfl (.set_fst_fits ⟨fun h => by rw [e] at h; exact Nat.le_of_succ_le h, id⟩)

theorem idle_sound {s : State} :
    Sound s (idle s) := by
  unfold idle
  exact .ite .refl (.ite (.app State.qspiStep_sound .refl) (.app State.uartStep_sound .refl))

end Sys2Proof.Machine
end

section
/-! The queues, the OTP key store and Glade's latches over every command and every step. -/

namespace Sys2Proof.Machine

open Sys2Proof

/-! ### Every command -/

/-- No reset of the chip, no loss of Glade's supply and no Glade cycle, which may bring an accepted press (17 R612). -/
def sparesGlade : Instr → Bool
  | .porstNRelease .. | .porstNAssert .. | .gladePowerLoss .. | .gladeCycle .. => false
  | _ => true

/-- A command that touches other parts. -/
theorem SoundOut.of_only {l : List Part} {s : State} {o : Host.Outcome State Fault Refusal} (k : OnlyOut l s o)
    (hl : [Part.clearQ, .host, .fst, .tb, .sec, .glade].all (fun p => !l.contains p) = true) : SoundOut s o :=
  fun t e => Sound.of_only (k t e) hl

theorem exec_sound {k : Instr} {s : State} (h : sparesGlade k = true) : SoundOut s (exec k s) := by
  cases k with
  | porstNRelease => cases h
  | porstNAssert => cases h
  | storeInitDone => exact .of_only exec_only rfl
  | cryptoSelfTestDone => exact execCryptoSelfTestDone_sound
  | coreUnderVoltage => exact .of_only exec_only rfl
  | coreReset => exact execCoreReset_sound
  | coreRelease => exact execCoreRelease_sound
  | gladePowerLoss => cases h
  | gladeLoadEnd => exact execGladeLoadEnd_sound
  | timeBaseBoundary => exact execTimeBaseBoundary_sound
  | genlockEdge => exact execGenlockEdge_sound
  | genlockMissing => exact execGenlockMissing_sound
  | holdoverExpiry => exact execHoldoverExpiry_sound
  | genlockOutPulseEnd => exact execGenlockOutPulseEnd_sound
  | surfaceFrameBoundary => exact execSurfaceFrameBoundary_sound
  | deratingMapWritten => exact .of_only exec_only rfl
  | decisionInstant => exact execDecisionInstant_sound
  | planeCutoff => exact execPlaneCutoff_sound
  | planeLoadStart => exact execPlaneLoadStart_sound
  | planeShowInstant => exact .of_only exec_only rfl
  | tickRow => exact .of_only exec_only rfl
  | fallbackSelectRise => exact .of_only exec_only rfl
  | fallbackSelectFall => exact .of_only exec_only rfl
  | splice => exact execSplice_sound
  | bar2FrameStoreRead => exact .of_only exec_only rfl
  | bar2FrameStoreWrite => exact .of_only exec_only rfl
  | bar2HealthMapWrite => exact .of_only exec_only rfl
  | bar2LayerStoreWrite => exact .of_only exec_only rfl
  | bar2CalibrationWrite => exact .of_only exec_only rfl
  | bar2CalibrationRead => exact .of_only exec_only rfl
  | stHmSet => exact .of_only exec_only rfl
  | stHmClr => exact execStHmClr_sound
  | pollInterval => exact .of_only exec_only rfl
  | missingPoll => exact .of_only exec_only rfl
  | statusResponse => exact execStatusResponse_sound
  | identityResponse => exact .of_only exec_only rfl
  | registerReadResponse => exact .of_only exec_only rfl
  | returnBlockDiscard => exact .of_only exec_only rfl
  | arrayRegWrite => exact .of_only exec_only rfl
  | arrayRegRead => exact .of_only exec_only rfl
  | lalertReceived => exact execLalertReceived_sound
  | outputDriverFault => exact execOutputDriverFault_sound
  | trainingBurstEnd => exact .of_only exec_only rfl
  | retrainWaitExpiry => exact .of_only exec_only rfl
  | holdConfirmTimeout => exact execHoldConfirmTimeout_sound
  | holdIdleTimeout => exact .of_only exec_only rfl
  | serviceStableTimer => exact .of_only exec_only rfl
  | synthesiserLockLoss => exact execSynthesiserLockLoss_sound
  | synthesiserRelock => exact .of_only exec_only rfl
  | markerSlot => exact .of_only exec_only rfl
  | retry => exact .of_only exec_only rfl
  | skLoopWrite => exact .of_only exec_only rfl
  | returnLaneLockLoss => exact .of_only exec_only rfl
  | intakeLaneLockLoss => exact .of_only exec_only rfl
  | frameStart => exact .of_only exec_only rfl
  | linePacket => exact .of_only exec_only rfl
  | frameEnd => exact .of_only exec_only rfl
  | sidePacket => exact .of_only exec_only rfl
  | plyBlockError => exact .of_only exec_only rfl
  | sidePacketApertureRead => exact .of_only exec_only rfl
  | composeOutputLine => exact execComposeOutputLine_sound
  | lineFetchIssue => exact execLineFetchIssue_sound
  | lineFetchComplete => exact execLineFetchComplete_sound
  | frameComplete => exact .of_only exec_only rfl
  | segmentWatchdog => exact execSegmentWatchdog_sound
  | fbInj => exact .of_only exec_only rfl
  | fbMreq => exact .of_only exec_only rfl
  | fbClr => exact .of_only exec_only rfl
  | droopTrip => exact .of_only exec_only rfl
  | droopRelease => exact .of_only exec_only rfl
  | droopLong => exact .of_only exec_only rfl
  | railSample => exact .of_only exec_only rfl
  | monitorSelfCheck => exact .of_only exec_only rfl
  | dieModelStep => exact execDieModelStep_sound
  | throttleStep => exact .of_only exec_only rfl
  | orderlyWindowEnd => exact execOrderlyWindowEnd_sound
  | trefStale => exact .of_only exec_only rfl
  | arrayTempStale => exact .of_only exec_only rfl
  | thmTref => exact .of_only exec_only rfl
  | thmTjadd => exact .of_only exec_only rfl
  | thmLim => exact .of_only exec_only rfl
  | clockMonitorWindow => exact .of_only exec_only rfl
  | crossingStall => exact execCrossingStall_sound
  | hostPortReset => exact execHostPortReset_sound
  | upstreamCompletion => exact execUpstreamCompletion_sound
  | completionTimeout => exact execCompletionTimeout_sound
  | registerWrite => exact execRegisterWrite_sound
  | qspiRead => exact execQspiRead_sound
  | qspiReadTimeout => exact execQspiReadTimeout_sound
  | qspiWrite => exact execQspiWrite_sound
  | qspiStatus => exact execQspiStatus_sound
  | qspiIdent => exact .of_only exec_only rfl
  | pgOwnerWrite => exact .of_only exec_only rfl
  | ownLock => exact .of_only exec_only rfl
  | pgIrqPendClear => exact .of_only exec_only rfl
  | pgIrqForce => exact .of_only exec_only rfl
  | pgFltForce => exact .of_only exec_only rfl
  | hostVecArm => exact execHostVecArm_sound
  | msixMessage => exact execMsixMessage_sound
  | mbDoor => exact execMbDoor_sound
  | mailboxTimeout => exact execMailboxTimeout_sound
  | fpMbDone => exact execFpMbDone_sound
  | fpMbEvt => exact .of_only exec_only rfl
  | topCommit => exact .of_only exec_only rfl
  | topPhaseWrite => exact .of_only exec_only rfl
  | shutdownStart => exact execShutdownStart_sound
  | shutdownEnd => exact execShutdownEnd_sound
  | dmaStart => exact execDmaStart_sound
  | dmaStop => exact .of_only exec_only rfl
  | dmaAbort => exact execDmaAbort_sound
  | dmaDoor => exact execDmaDoor_sound
  | dmaSwreq => exact .of_only exec_only rfl
  | descriptorFetched => exact execDescriptorFetched_sound
  | dmaRequestTaken => exact execDmaRequestTaken_sound
  | dmaBurstGrant => exact execDmaBurstGrant_sound
  | dmaBurstEnd => exact execDmaBurstEnd_sound
  | dmaBusError => exact execDmaBusError_sound
  | dmaWriteBackDone => exact execDmaWriteBackDone_sound
  | shMbpubGo => exact .of_only exec_only rfl
  | mailboxCopyDone => exact .of_only exec_only rfl
  | listTakeUp => exact .of_only exec_only rfl
  | listLifeExpiry => exact .of_only exec_only rfl
  | crTdataWrite => exact .of_only exec_only rfl
  | crMlim => exact .of_only exec_only rfl
  | faultArrival => exact execFaultArrival_sound
  | episodeClose => exact execEpisodeClose_sound
  | fcSrccls => exact .of_only exec_only rfl
  | injectionKey => exact .of_only exec_only rfl
  | injectionLock => exact .of_only exec_only rfl
  | injectionTimeout => exact execInjectionTimeout_sound
  | fcChkinv => exact .of_only exec_only rfl
  | heartbeatToggle => exact execHeartbeatToggle_sound
  | classLineChange => exact execClassLineChange_sound
  | heartbeatTimeout => exact execHeartbeatTimeout_sound
  | classLineFault => exact execClassLineFault_sound
  | gladeCycle => cases h
  | lineMaskExpiry => exact execLineMaskExpiry_sound
  | rcClockWindow => exact execRcClockWindow_sound
  | sysclkCheckWindow => exact execSysclkCheckWindow_sound
  | gladeSupplyFault => exact execGladeSupplyFault_sound
  | readbackMismatch => exact execReadbackMismatch_sound
  | fallbackCrcCheck => exact execFallbackCrcCheck_sound
  | errHoldExpiry => exact execErrHoldExpiry_sound
  | returnDwellExpiry => exact execReturnDwellExpiry_sound
  | sspiFrame => exact execSspiFrame_sound
  | sspiStatus => exact execSspiStatus_sound
  | sspiRead => exact execSspiRead_sound
  | sspiWrite => exact execSspiWrite_sound
  | resume => exact execResume_sound
  | clear => exact execClear_sound
  | injkey => exact execInjkey_sound
  | sspiWatchdog => exact execSspiWatchdog_sound
  | fpWdog => exact execFpWdog_sound
  | firmwareWatchdogExpiry => exact execFirmwareWatchdogExpiry_sound
  | foresterReset => exact execForesterReset_sound
  | swrst => exact execSwrst_sound
  | bootSelect => exact execBootSelect_sound
  | tcmError => exact execTcmError_sound
  | foresterException => exact execForesterException_sound
  | spiNorCommand => exact execSpiNorCommand_sound
  | spiNorCommandDone => exact execSpiNorCommandDone_sound
  | spiNorWipTimeout => exact execSpiNorWipTimeout_sound
  | sensorSlotDue => exact execSensorSlotDue_sound
  | sensorTransferDone => exact execSensorTransferDone_sound
  | sensorSclTimeout => exact execSensorSclTimeout_sound
  | logAppendFirmware => exact .of_only exec_only rfl
  | fpLogRd => exact .of_only exec_only rfl
  | logExportRead => exact .of_only exec_only rfl
  | verify => exact execVerify_sound
  | load => exact execLoad_sound
  | arbRaise => exact execArbRaise_sound
  | otpProg => exact execOtpProg_sound
  | cfgSet => exact execCfgSet_sound
  | secCommandEnd => exact execSecCommandEnd_sound
  | secChal => exact execSecChal_sound
  | secResp => exact execSecResp_sound
  | challengeExpiry => exact execChallengeExpiry_sound
  | intakeLaneLockGain => exact .of_only exec_only rfl
  | intakeIdleTimeExpiry => exact .of_only exec_only rfl
  | returnLaneLockGain => exact .of_only exec_only rfl
  | prbsLock => exact .of_only exec_only rfl
  | linkUp => exact execLinkUp_sound
  | configurationWrite => exact execConfigurationWrite_sound
  | counterLowWordRead => exact execCounterLowWordRead_sound
  | uartByteReceived => exact execUartByteReceived_sound
  | debugAccess => exact execDebugAccess_sound

/-- A loss of power keeps the stores: a program under way is cut short (19 R669). -/
theorem State.lost_stored {s : State} : Stored s s.lost where
  clearQ := fun _ => Nat.zero_le _
  host := fun _ => Nat.zero_le _
  fst := ⟨fun _ => Nat.zero_le _, fun _ => Nat.zero_le _⟩
  tb := ⟨fun _ => Nat.zero_le _, fun _ => Nat.zero_le _, fun _ => Nat.zero_le _, fun _ => Nat.zero_le _⟩
  sec := (State.cutOtp_sound (s := s)).sec.trans (.of_eq rfl)

theorem State.powerUp_stored {b : Bool} {s : State} : Stored s (s.powerUp b) :=
  .app (State.coreStart_sound (uv := false)).toStored
    { State.lost_stored (s := s) with }

theorem execPorstNRelease_stored {t : Nat} {hostSel testEn : Bool} {s n : State}
    (e : execPorstNRelease t hostSel testEn s = .next n) : Stored s n := by
  have k : Stored s (s.stamp t) := .of_only State.stamp_only rfl
  unfold execPorstNRelease at e
  cases e
  split
  · exact k
  · split
    · exact .app (.of_only Only.set_top rfl) k
    · exact .app State.powerUp_stored k

/-- Every command keeps the stores. -/
theorem exec_stored {k : Instr} {s n : State} (e : exec k s = .next n) : Stored s n := by
  by_cases h : sparesGlade k = true
  case pos => exact (exec_sound h n e).toStored
  cases k with
  | porstNRelease t hostSel testEn => exact execPorstNRelease_stored e
  | porstNAssert t =>
    cases e
    exact .app State.lost_stored (.of_only State.stamp_only rfl)
  | gladePowerLoss t => exact .of_only (exec_only n e) rfl
  | gladeCycle t pins => exact .of_only (exec_only n e) rfl
  | _ => exact absurd rfl h

/-- Every step keeps the stores. -/
theorem step_stored {s n : State} (e : step s = .next n) : Stored s n := by
  cases queue : s.pending with
  | nil =>
    rw [step_nil queue] at e
    cases e
    exact idle_sound.toStored
  | cons c cs =>
    rw [step_cons queue] at e
    exact .app (exec_stored e) (.of_only Only.set_pending rfl)

/-- Settles O6: every command and every drain of an empty queue keeps the queues within their sizes. -/
theorem stepKeepsQueuesBounded : Obligations.StepKeepsQueuesBounded := by
  unfold Obligations.StepKeepsQueuesBounded
  intro s n h e
  have k := step_stored e
  obtain ⟨acqn, spacings, edges, phaseRun⟩ := k.tb
  exact {
    clearQ := k.clearQ h.clearQ
    qspiQ := k.host h.qspiQ
    uartTx := k.fst.1 h.uartTx
    uartRx := k.fst.2 h.uartRx
    acqn := acqn h.acqn
    spacings := spacings h.spacings
    edges := edges h.edges
    phaseRun := phaseRun h.phaseRun }

/-- Settles O8: a program sets bits of a word, and a reset keeps the store. -/
theorem otpBitsNeverReturnToZero : Obligations.OtpBitsNeverReturnToZero := by
  unfold Obligations.OtpBitsNeverReturnToZero
  intro s n a i canon e
  exact ((step_stored e).sec canon.otp).2 a i

/-- Settles O9: every other command only adds raised bits and takes no transition out of LOCKOUT. -/
theorem lockoutLeftOnlyByPressOrReset : Obligations.LockoutLeftOnlyByPressOrReset := by
  unfold Obligations.LockoutLeftOnlyByPressOrReset
  intro c s n cycle release assert loss e
  have h : sparesGlade c = true := by
    cases c with
    | gladeCycle t p => exact absurd rfl (cycle t p)
    | porstNRelease t hs te => exact absurd rfl (release t hs te)
    | porstNAssert t => exact absurd rfl (assert t)
    | gladePowerLoss t => exact absurd rfl (loss t)
    | _ => rfl
  exact (exec_sound h n e).glade

end Sys2Proof.Machine
end

section
/-! Refused writes. -/

namespace Sys2Proof.Machine

open Sys2Proof

/-- What a register word reads after notes on a block whose words are those of another. -/
theorem State.report_reads {l : List Note} {a : Nat} {v : Word} {s u : State} (h : smWf regReset s.regs = true)
    (same : u.regs = s.regs) (value : l.foldl (Note.onWord a) (rget s.regs a) = v) : rget (u.report l).regs a = v := by
  rw [State.rget_report (same ▸ h), same, value]

/-- What a live count reads after notes on a block whose counts are those of another. -/
theorem State.report_counts {l : List Note} {a : Nat} {v : Word} {s u : State}
    (h : smWf (fun _ => (0 : Word)) s.live = true) (same : u.live = s.live)
    (value : l.foldl (Note.onCount a) (lget s.live a) = v) : lget (u.report l).live a = v := by
  rw [State.lget_report (same ▸ h), same, value]

/-! ### Refused writes (13 R481, R483; 12 R452) -/

/-- A register command that `target` lists goes through the access check of its page. -/
theorem exec_access {c : Instr} {req : Req} {page : Nat} {s : State} (h : target c = some (req, page))
    (used : pageUsed page = true) (on : s.coreOn = true) (fresh : s.Fresh c) :
    ∃ f, exec c s = .next ((s.stamp c.time).access req page f) := by
  cases c with
  | topCommit | shutdownStart | shutdownEnd | hostVecArm | dmaStart | dmaDoor | dmaSwreq | fbInj | fbMreq | fbClr
  | crTdataWrite | crMlim | shMbpubGo | stHmSet | stHmClr | retry | skLoopWrite | arrayRegWrite | arrayRegRead | thmTref
  | fcSrccls | injectionKey | injectionLock | mbDoor =>
    cases h
    exact ⟨_, onCore_on on⟩
  | topPhaseWrite | dmaStop | dmaAbort | thmTjadd | thmLim | fcChkinv =>
    cases h
    exact ⟨_, (onCore_on on).trans (congrArg _ (State.once_fresh fresh))⟩
  | ownLock | pgIrqPendClear | pgIrqForce =>
    cases h
    exact ⟨_, (onCore_on on).trans (congrArg _ (State.when_true used))⟩
  | pgFltForce =>
    cases h
    exact ⟨_, (onCore_on on).trans (congrArg _ ((State.once_fresh fresh).trans (State.when_true used)))⟩
  | _ => cases h

/-- A write that its page's owner bit refuses. -/
theorem State.access_refused {req : Req} {page : Nat} {f : State → State} {s : State}
    (open_ : s.stalledTo (pageDomain page) = false) (owner : s.mayWrite req page = false) :
    s.access req page f = s.report (ownerError page) := by
  simp [State.access, open_, owner]

/-- A write across a stalled crossing. -/
theorem State.access_stalled {req : Req} {page : Nat} {f : State → State} {s : State}
    (stalled : s.stalledTo (pageDomain page) = true) : s.access req page f = s.report (errorAccess req) := by
  simp [State.access, stalled]

/-- Settles O10: every listed command goes through the access check, whose two refusals only report. -/
theorem refusedWritesOnlyReport : Obligations.RefusedWritesOnlyReport := by
  unfold Obligations.RefusedWritesOnlyReport
  refine ⟨fun c req page s h used on open_ owner canon fresh => ?_, fun c req page s h used on stalled canon fresh => ?_⟩
  · obtain ⟨f, e⟩ := exec_access h used on fresh
    have status : page * 0x1000 + 0x00C ≠ Reg.HOST_OWNCNT := by
      unfold Reg.HOST_OWNCNT
      omega
    exact ⟨_, e.trans (congrArg _ (State.access_refused open_ owner)),
      State.report_reads canon.regs rfl (by simp [ownerError, Note.onWord, status]),
      State.report_reads canon.regs rfl (by simp [ownerError, Note.onWord, status.symm]), rfl,
      State.report_regsOnly_of (fun _ k => k) rfl, .app State.report_parts rfl (.app State.stamp_only rfl .refl)⟩
  · obtain ⟨f, e⟩ := exec_access h used on fresh
    exact ⟨_, e.trans (congrArg _ (State.access_stalled stalled)), rfl,
      State.report_reads canon.regs rfl (by simp [errorAccess, badAccess, Note.onWord]), rfl,
      State.report_regsOnly_of (fun _ k => k) rfl, .app State.report_parts rfl (.app State.stamp_only rfl .refl)⟩

end Sys2Proof.Machine
end

section
/-! Genlock. -/

namespace Sys2Proof.Machine

open Sys2Proof

/-- The sources that a list of notes raises. -/
theorem State.report_raised {l : List Note} {r : List (Fin 171)} {s u : State} (same : u.flt = s.flt)
    (srcs : l.filterMap Note.src = r) : Raised r s (u.report l) := by
  rw [Raised, ← srcs, ← same]
  rfl

/-- The words of notes made under a condition. -/
theorem noteIf_words {c : Bool} {l : List Note} {m : List Nat} (h : l.flatMap Note.words ⊆ m) :
    (noteIf c l).flatMap Note.words ⊆ m := by
  unfold noteIf
  split
  · exact h
  · exact List.nil_subset _

/-- The live counts of notes made under a condition. -/
theorem noteIf_counts {c : Bool} {l : List Note} {m : List Nat} (h : l.flatMap Note.counts ⊆ m) :
    (noteIf c l).flatMap Note.counts ⊆ m := by
  unfold noteIf
  split
  · exact h
  · exact List.nil_subset _

/-- The parts of notes made under a condition. -/
theorem noteIf_parts {c : Bool} {l : List Note} {f : Part → Bool} (h : (l.flatMap Note.parts).all f = true) :
    ((noteIf c l).flatMap Note.parts).all f = true := by
  unfold noteIf
  split
  · exact h
  · rfl

/-- The sources of notes made under a condition. -/
theorem noteIf_srcs {c : Bool} {l : List Note} :
    (noteIf c l).filterMap Note.src = if c then l.filterMap Note.src else [] := by
  unfold noteIf
  split <;> rfl

/-- A register word after notes made under a condition. -/
theorem noteIf_onWord {c : Bool} {l : List Note} {a : Nat} {v : Word} :
    (noteIf c l).foldl (Note.onWord a) v = if c then l.foldl (Note.onWord a) v else v := by
  unfold noteIf
  split <;> rfl

/-- A live count after notes made under a condition. -/
theorem noteIf_onCount {c : Bool} {l : List Note} {a : Nat} {v : Word} :
    (noteIf c l).foldl (Note.onCount a) v = if c then l.foldl (Note.onCount a) v else v := by
  unfold noteIf
  split <;> rfl

theorem satAdd_zero {v : Word} : satAdd v 0 = v := by
  have h : v.toNat ≤ 0xFFFFFFFF := Nat.le_of_lt_succ v.isLt
  rw [satAdd, Nat.add_zero, Nat.min_eq_left h]
  exact BitVec.ofNat_toNat _ _

/-! ### Genlock (11 R402–R407) -/

section
variable {s : State} {t p held : Nat} {rise : Bool}

theorem State.genlockChange_ignored (h : s.timing.en = false ∨ rise = s.timing.pol ∨ held < 40) :
    s.genlockChange t rise held = s := by
  have e : s.isEdge rise held = false := by
    rcases h with h | h | h
    · simp [State.isEdge, h]
    · simp [State.isEdge, h]
    · simp [State.isEdge, Nat.not_le.mpr h]
  simp [State.genlockChange, State.when, e]

theorem State.genlockChange_edge (en : s.timing.en = true) (level : rise ≠ s.timing.pol) (long : 40 ≤ held) :
    s.genlockChange t rise held = s.genlockEdge t :=
  State.when_true (by simp [State.isEdge, en, level, long])

theorem TimeBase.edge_valid {b : TimeBase} {c : TimeSet} {e : Nat} (from_ : b.edgeFrom = some p) (lock : b.gl ≠ .free)
    (valid : c.valid (e - p) = true) : b.edge c e = b.good c e (e - p) := by
  simp [TimeBase.edge, from_, lock, valid]

theorem TimeBase.edge_invalid {b : TimeBase} {c : TimeSet} {e : Nat} (from_ : b.edgeFrom = some p) (lock : b.gl ≠ .free)
    (valid : c.valid (e - p) = false) : b.edge c e = b.lose e := by
  simp [TimeBase.edge, from_, lock, valid]

/-- An edge that ends a valid spacing counts towards lock (11 R404). -/
theorem State.genlockEdge_valid (from_ : s.tb.edgeFrom = some p) (lock : s.tb.gl ≠ .free)
    (valid : s.timing.valid (t / 64 - p) = true) :
    s.genlockEdge t = { s with tb := s.tb.good s.timing (t / 64) (t / 64 - p) }.report
      (glChange s.tb.gl (s.tb.good s.timing (t / 64) (t / 64 - p)).gl) := by
  simp only [State.genlockEdge, edgeNotes, from_, lock, valid, if_true, if_false, TimeBase.edge_valid from_ lock valid]

/-- An edge that ends an early spacing starts the count again (11 R403). -/
theorem State.genlockEdge_early (from_ : s.tb.edgeFrom = some p) (lock : s.tb.gl ≠ .free)
    (early : s.timing.early (t / 64 - p) = true) :
    s.genlockEdge t = { s with tb := s.tb.lose (t / 64) }.report
      (Note.tally Reg.TM_GLBAD 1 :: .raise Src.TM_BADEDGE :: loseNotes s.tb) := by
  have valid : s.timing.valid (t / 64 - p) = false := by simp [TimeSet.valid, early]
  simp [State.genlockEdge, edgeNotes, from_, lock, valid, early, noteIf, TimeBase.edge_invalid from_ lock valid]

theorem TimeBase.good_gl {b : TimeBase} {c : TimeSet} {e sp : Nat} :
    (b.good c e sp).gl = if b.acqn < 3 then b.gl else .locked := by
  unfold TimeBase.good
  dsimp only
  by_cases h : b.acqn < 3
  · rw [if_neg (by omega), if_pos h]
  · rw [if_pos (by omega), if_neg h]

theorem TimeBase.good_count {b : TimeBase} {c : TimeSet} {e sp : Nat} :
    (b.good c e sp).acqn = min 4 (b.acqn + 1) ∧ (b.good c e sp).edgeFrom = some e ∧
      (b.good c e sp).spacings = (sp :: b.spacings).take 4 ∧ (b.good c e sp).fcnt = b.fcnt ∧
      (b.good c e sp).next = b.next := by
  unfold TimeBase.good
  dsimp only
  split <;> exact ⟨rfl, rfl, rfl, rfl, rfl⟩

theorem loseNotes_srcs {b : TimeBase} : (loseNotes b).filterMap Note.src = if b.gl = .locked then [Src.TM_HOLD] else [] := by
  refine noteIf_srcs.trans ?_
  by_cases lock : b.gl = .locked
  · rw [if_pos (by simp [lock]), if_pos lock]
    rfl
  · rw [if_neg (by simp [lock]), if_neg lock]

/-- An edge that ends a valid spacing. -/
theorem execGenlockEdge_valid (on : s.coreOn = true) (en : s.timing.en = true) (from_ : s.tb.edgeFrom = some p)
    (lock : s.tb.gl ≠ .free) (level : rise ≠ s.timing.pol) (long : 40 ≤ held) (fresh : s.Fresh (.genlockEdge t rise held))
    (valid : s.timing.valid (t / 64 - p) = true) :
    ∃ n, exec (.genlockEdge t rise held) s = .next n ∧
      n.tb.acqn = min 4 (s.tb.acqn + 1) ∧ n.tb.edgeFrom = some (t / 64) ∧
      n.tb.spacings = ((t / 64 - p) :: s.tb.spacings).take 4 ∧ n.tb.gl = (if s.tb.acqn < 3 then s.tb.gl else .locked) ∧
      n.tb.fcnt = s.tb.fcnt ∧ n.tb.next = s.tb.next ∧ RegsOnly [rawOf 0x01] s n ∧ Only [.now, .tb, .regs] s n := by
  have e : exec (.genlockEdge t rise held) s = .next ((s.stamp t).genlockEdge t) :=
    (onCore_on on).trans (congrArg _ ((State.once_fresh fresh).trans (State.genlockChange_edge en level long)))
  obtain ⟨acqn, from', spacings, fcnt, next⟩ := TimeBase.good_count (b := s.tb) (c := s.timing) (e := t / 64)
    (sp := t / 64 - p)
  rw [State.genlockEdge_valid (s := s.stamp t) from_ lock valid] at e
  exact ⟨_, e, acqn, from', spacings, TimeBase.good_gl, fcnt, next, State.report_regsOnly_of (noteIf_words fun _ h => h) rfl,
    .app State.report_parts (noteIf_parts rfl) (.app Only.set_tb rfl (.app State.stamp_only rfl .refl))⟩

/-- An edge that ends an early spacing. -/
theorem execGenlockEdge_early (on : s.coreOn = true) (canon : s.Canonical) (en : s.timing.en = true)
    (from_ : s.tb.edgeFrom = some p) (lock : s.tb.gl ≠ .free) (level : rise ≠ s.timing.pol) (long : 40 ≤ held)
    (fresh : s.Fresh (.genlockEdge t rise held)) (early : s.timing.early (t / 64 - p) = true) :
    ∃ n, exec (.genlockEdge t rise held) s = .next n ∧
      n.tb.acqn = 0 ∧ n.tb.spacings = [] ∧ n.tb.edgeFrom = some (t / 64) ∧
      n.tb.gl = (if s.tb.gl = .locked then .holdover else s.tb.gl) ∧
      lget n.live Reg.TM_GLBAD = satAdd (lget s.live Reg.TM_GLBAD) 1 ∧ LiveOnly [Reg.TM_GLBAD, Reg.TM_HOLDCNT] s n ∧
      Raised (Src.TM_BADEDGE :: if s.tb.gl = .locked then [Src.TM_HOLD] else []) s n ∧
      RegsOnly [rawOf 0x01] s n ∧ Only [.now, .tb, .regs, .live, .flt] s n := by
  have e : exec (.genlockEdge t rise held) s = .next ((s.stamp t).genlockEdge t) :=
    (onCore_on on).trans (congrArg _ ((State.once_fresh fresh).trans (State.genlockChange_edge en level long)))
  rw [State.genlockEdge_early (s := s.stamp t) from_ lock early] at e
  refine ⟨_, e, rfl, rfl, rfl, rfl, State.report_counts canon.live rfl ?_, State.report_liveOnly_of ?_ rfl,
    State.report_raised rfl ?_, State.report_regsOnly_of (noteIf_words fun _ h => h) rfl,
    .app State.report_parts ?_ (.app Only.set_tb rfl (.app State.stamp_only rfl .refl))⟩
  · refine noteIf_onCount.trans ?_
    split <;> rfl
  · exact List.cons_subset.mpr ⟨List.mem_cons_self, noteIf_counts (List.subset_cons_self _ _)⟩
  · exact congrArg (Src.TM_BADEDGE :: ·) loseNotes_srcs
  · exact (Bool.and_eq_true _ _).mpr ⟨rfl, (Bool.and_eq_true _ _).mpr ⟨rfl, noteIf_parts rfl⟩⟩

/-- A spacing whose window closes without an edge (11 R403, R404). -/
theorem State.genlockMissing_closed {m : State} (canon : m.Canonical) (from_ : m.tb.edgeFrom = some p)
    (closed : p + m.timing.window ≤ m.now / tick) :
    m.genlockMissing.tb = { m.tb with
        acqn := 0, spacings := [], edgeFrom := some (p + m.timing.window)
        gl := if m.tb.gl = .locked then .holdover else m.tb.gl } ∧
      lget m.genlockMissing.live Reg.TM_GLMISS = satAdd (lget m.live Reg.TM_GLMISS) 1 ∧
      lget m.genlockMissing.live Reg.TM_HOLDCNT =
        satAdd (lget m.live Reg.TM_HOLDCNT) (if m.tb.gl = .locked then 1 else 0) ∧
      LiveOnly [Reg.TM_GLMISS, Reg.TM_HOLDCNT] m m.genlockMissing ∧
      Raised (if m.tb.gl = .locked then [Src.TM_HOLD] else []) m m.genlockMissing ∧
      RegsOnly [rawOf 0x01] m m.genlockMissing ∧ Only [.now, .tb, .regs, .live, .flt] m m.genlockMissing := by
  have e : m.genlockMissing = { m with tb := m.tb.lose (p + m.timing.window) }.report
      (.tally Reg.TM_GLMISS 1 :: loseNotes m.tb) := by
    simp [State.genlockMissing, from_, Nat.not_lt.mpr closed]
  rw [e]
  refine ⟨rfl, State.report_counts canon.live rfl ?_, State.report_counts canon.live rfl ?_,
    State.report_liveOnly_of ?_ rfl, State.report_raised rfl loseNotes_srcs,
    State.report_regsOnly_of (noteIf_words fun _ h => h) rfl, .app State.report_parts ?_ (.app Only.set_tb rfl .refl)⟩
  · refine noteIf_onCount.trans ?_
    split <;> rfl
  · refine noteIf_onCount.trans ?_
    by_cases lock : m.tb.gl = .locked
    · rw [if_pos (by simp [lock]), if_pos lock]
      rfl
    · rw [if_neg (by simp [lock]), if_neg lock, satAdd_zero]
      rfl
  · exact List.cons_subset.mpr ⟨List.mem_cons_self, noteIf_counts (List.subset_cons_self _ _)⟩
  · exact (Bool.and_eq_true _ _).mpr ⟨rfl, noteIf_parts rfl⟩

theorem State.genlockMissing_open {m : State} (from_ : m.tb.edgeFrom = some p)
    (open_ : m.now / tick < p + m.timing.window) : m.genlockMissing = m := by
  simp [State.genlockMissing, from_, open_]

theorem State.genlockMissing_none {m : State} (from_ : m.tb.edgeFrom = none) : m.genlockMissing = m := by
  simp [State.genlockMissing, from_]

/-- The end of HOLDOVER (11 R404). -/
theorem State.holdoverExpiry_ends {m : State} (canon : m.Canonical) :
    rget m.holdoverExpiry.regs (rawOf 0x01) = rget m.regs (rawOf 0x01) ||| 2 ∧
      Raised [Src.TM_FREE] m m.holdoverExpiry ∧ RegsOnly [rawOf 0x01] m m.holdoverExpiry ∧
      Only [.now, .tb, .regs, .flt] m m.holdoverExpiry := by
  unfold State.holdoverExpiry
  exact ⟨State.report_reads canon.regs rfl rfl, rfl, State.report_regsOnly_of (fun _ h => h) rfl,
    .app State.report_parts rfl (.app Only.set_tb rfl .refl)⟩

end

/-- Settles O11. -/
theorem genlockEdgesAndHoldover : Obligations.GenlockEdgesAndHoldover := by
  unfold Obligations.GenlockEdgesAndHoldover
  refine ⟨⟨fun t held rise s on fresh h => ?_, fun t p held rise s on canon en from_ lock level long fresh =>
      ⟨execGenlockEdge_valid on en from_ lock level long fresh,
        execGenlockEdge_early on canon en from_ lock level long fresh⟩⟩,
    fun t s m on canon en hm => ?_, fun t s m on canon hm => ?_⟩
  · exact (onCore_on on).trans (congrArg _ ((State.once_fresh fresh).trans (State.genlockChange_ignored h)))
  · have e : exec (.genlockMissing t) s = .next m.genlockMissing := by
      rw [hm]
      exact (onCore_on on : execGenlockMissing t s = _).trans (congrArg _ (State.when_true en))
    have canon : m.Canonical := hm ▸ State.edgesFirst_canon (.only State.stamp_only rfl canon)
    exact ⟨fun p from_ closed => ⟨_, e, State.genlockMissing_closed canon from_ closed⟩,
      fun p from_ open_ => e.trans (congrArg _ (State.genlockMissing_open from_ open_)),
      fun from_ => e.trans (congrArg _ (State.genlockMissing_none from_))⟩
  · have e : exec (.holdoverExpiry t) s = .next (m.when (m.tb.gl == .holdover) State.holdoverExpiry) := by
      rw [hm]
      exact (onCore_on on : execHoldoverExpiry t s = _)
    have canon : m.Canonical := hm ▸ State.edgesFirst_canon (.only State.stamp_only rfl canon)
    refine ⟨fun lock => ⟨_, e.trans (congrArg _ (State.when_true (by simp [lock]))), rfl, rfl, rfl, rfl, rfl, rfl,
        State.holdoverExpiry_ends canon⟩,
      fun lock => e.trans (congrArg _ (State.when_false (by simp [lock]))), _, (onCore_on on : execGenlockOutPulseEnd t s = _), rfl,
      .app Only.set_tb rfl (.app State.stamp_only rfl .refl)⟩

end Sys2Proof.Machine
end

section
/-! Clock monitors and crossings. -/

namespace Sys2Proof.Machine

open Sys2Proof

/-! ### Clock monitors (12 R435, R453) -/

section
variable {t : Nat} {w : ClockWindow} {s : State}

theorem Monitor.window_bad {m : Monitor} {khz : BitVec 20} (h : m.bad ≠ 0) :
    m.window false true khz = { running := false, good := 0, bad := min 2 (m.bad + 1), khz := khz } := by
  simp [Monitor.window, h]

theorem Monitor.window_good {m : Monitor} {khz : BitVec 20} (h : m.good ≠ 0) :
    m.window false false khz = { running := true, good := min 2 (m.good + 1), bad := 0, khz := khz } := by
  simp [Monitor.window, Nat.pos_of_ne_zero h]

/-- The clock logic where a domain's report goes to stopped. -/
theorem Clk.window_stopped {c : Clk} {d : Fin 8} {m : Monitor} {ρ now : Nat} (h : m.running = false) :
    (c.window d m ρ now).stalled = c.stalled := by
  simp [Clk.window, h]

/-- The clock logic where a domain's report goes to running. -/
theorem Clk.window_freed {c : Clk} {d : Fin 8} {m : Monitor} {ρ now : Nat} (h : m.running = true)
    (was : (c.mon[d]).running = false) : (c.window d m ρ now).stalled = c.stalled.filter (fun x => x.far != d) := by
  rw [Clk.window]
  dsimp only
  rw [if_pos (by rw [h, was]; rfl)]

theorem Clk.window_mon {c : Clk} {d : Fin 8} {m : Monitor} {ρ now : Nat} : (c.window d m ρ now).mon[d] = m := by
  simp [Clk.window]

theorem Clk.window_mon_ne {c : Clk} {d e : Fin 8} {m : Monitor} {ρ now : Nat} (h : e ≠ d) :
    (c.window d m ρ now).mon[e] = c.mon[e] := by
  have : d.val ≠ e.val := fun k => h (Fin.ext k.symm)
  simp [Clk.window, this]

/-- A second bad window in a row reports a domain stopped. -/
theorem clockMonitorWindow_stops (on : s.coreOn = true) (canon : s.Canonical) (masked : s.monMasked w.dom = false)
    (bad : windowBad w.edges (s.nominal w.dom) = true) (running : (s.clk.mon[w.dom]).running = true)
    (second : (s.clk.mon[w.dom]).bad ≠ 0) :
    ∃ n, exec (.clockMonitorWindow t w) s = .next n ∧
      (n.clk.mon[w.dom]).running = false ∧ (n.clk.mon[w.dom]).good = 0 ∧ (n.clk.mon[w.dom]).khz = w.khz ∧
      (∀ d : Fin 8, d ≠ w.dom → n.clk.mon[d] = s.clk.mon[d]) ∧ n.clk.stalled = s.clk.stalled ∧
      Raised [if w.dom.val = 3 ∨ w.dom.val = 4 then Src.CLK_MONCRIT else Src.CLK_MON] s n ∧
      rget n.regs (rawOf 0x02) = rget s.regs (rawOf 0x02) ||| 2 ∧ RegsOnly [rawOf 0x02] s n ∧
      Only [.now, .clk, .regs, .flt] s n := by
  have e : exec (.clockMonitorWindow t w) s = .next ((s.stamp t).clockWindow w) := (onCore_on on : execClockMonitorWindow t w s = _)
  have m : (s.clk.mon[w.dom]).window ((s.stamp t).monMasked w.dom) (windowBad w.edges ((s.stamp t).nominal w.dom)) w.khz =
      { running := false, good := 0, bad := min 2 ((s.clk.mon[w.dom]).bad + 1), khz := w.khz } := by
    rw [show (s.stamp t).monMasked w.dom = false from masked,
      show windowBad w.edges ((s.stamp t).nominal w.dom) = true from bad, Monitor.window_bad second]
  rw [State.clockWindow, State.stamp_clk, m, running] at e
  refine ⟨_, e, ?_, ?_, ?_, fun d hd => Clk.window_mon_ne hd, Clk.window_stopped rfl, rfl,
    State.report_reads canon.regs rfl rfl, State.report_regsOnly_of (fun _ h => h) rfl,
    .app State.report_parts rfl (.app Only.set_clk rfl (.app State.stamp_only rfl .refl))⟩
  · exact congrArg Monitor.running Clk.window_mon
  · exact congrArg Monitor.good Clk.window_mon
  · exact congrArg Monitor.khz Clk.window_mon

/-- A second good window in a row reports a domain running and frees the crossings towards it. -/
theorem clockMonitorWindow_runs (on : s.coreOn = true) (canon : s.Canonical) (masked : s.monMasked w.dom = false)
    (good : windowBad w.edges (s.nominal w.dom) = false) (stopped : (s.clk.mon[w.dom]).running = false)
    (second : (s.clk.mon[w.dom]).good ≠ 0) :
    ∃ n, exec (.clockMonitorWindow t w) s = .next n ∧
      (n.clk.mon[w.dom]).running = true ∧ (n.clk.mon[w.dom]).bad = 0 ∧
      n.clk.stalled = s.clk.stalled.filter (fun x => x.far != w.dom) ∧
      rget n.regs (rawOf 0x02) = rget s.regs (rawOf 0x02) ||| 2 ∧ RegsOnly [rawOf 0x02] s n ∧
      Only [.now, .clk, .regs] s n := by
  have e : exec (.clockMonitorWindow t w) s = .next ((s.stamp t).clockWindow w) := (onCore_on on : execClockMonitorWindow t w s = _)
  have m : (s.clk.mon[w.dom]).window ((s.stamp t).monMasked w.dom) (windowBad w.edges ((s.stamp t).nominal w.dom)) w.khz =
      { running := true, good := min 2 ((s.clk.mon[w.dom]).good + 1), bad := 0, khz := w.khz } := by
    rw [show (s.stamp t).monMasked w.dom = false from masked,
      show windowBad w.edges ((s.stamp t).nominal w.dom) = false from good, Monitor.window_good second]
  rw [State.clockWindow, State.stamp_clk, m, stopped] at e
  refine ⟨_, e, ?_, ?_, Clk.window_freed rfl stopped, State.report_reads canon.regs rfl rfl,
    State.report_regsOnly_of (fun _ h => h) rfl,
    .app State.report_parts rfl (.app Only.set_clk rfl (.app State.stamp_only rfl .refl))⟩
  · exact congrArg Monitor.running Clk.window_mon
  · exact congrArg Monitor.bad Clk.window_mon

end

/-! ### Stalled crossings (12 R452) -/

section
variable {s : State} {c : Crossing} {lost : List Req}

/-- The error accesses of abandoned transactions count and raise, and change no other word. -/
theorem lostNotes_words : (noteIf (c.kind == .fifo) (lost.flatMap errorAccess)).flatMap Note.words ⊆ [Reg.HOST_BADACC] := by
  refine noteIf_words ?_
  induction lost with
  | nil => exact List.nil_subset _
  | cons r l ih => exact List.cons_subset.mpr ⟨List.mem_cons_self, ih⟩

theorem lostNotes_parts :
    ((noteIf (c.kind == .fifo) (lost.flatMap errorAccess)).flatMap Note.parts).all [Part.regs, .flt, .out].contains = true := by
  refine noteIf_parts ?_
  induction lost with
  | nil => rfl
  | cons r l ih => exact ih

/-- Notes without a word leave it. -/
theorem Note.foldl_onWord {l : List Note} {a : Nat} {v : Word} (h : a ∉ l.flatMap Note.words) :
    l.foldl (Note.onWord a) v = v := by
  induction l generalizing v with
  | nil => rfl
  | cons x l ih =>
    rw [List.flatMap_cons, List.mem_append, not_or] at h
    have e : Note.onWord a v x = v := by
      cases x with
      | count b n => exact if_neg (fun k : a = b => h.1 (k ▸ List.mem_singleton_self _))
      | bits b m => exact if_neg (fun k : a = b => h.1 (k ▸ List.mem_singleton_self _))
      | word b w => exact if_neg (fun k : a = b => h.1 (k ▸ List.mem_singleton_self _))
      | _ => rfl
    rw [List.foldl_cons, e, ih h.2]

/-- An entry to STALLED is listed, counted and raised. -/
theorem State.stallCrossing_entry (canon : s.Canonical) :
    (s.stallCrossing c lost).clk.stalled = s.clk.stalled ++ [c] ∧ (s.stallCrossing c lost).clk.mon = s.clk.mon ∧
      Src.CDC_STALL ∈ (s.stallCrossing c lost).flt.raised ∧
      rget (s.stallCrossing c lost).regs Reg.CLK_STALLCNT = satAdd (rget s.regs Reg.CLK_STALLCNT) 1 ∧
      rget (s.stallCrossing c lost).regs (rawOf 0x02) = rget s.regs (rawOf 0x02) ||| 1 ∧
      (c.kind = .holdAndFlag → Raised [Src.CDC_STALL] s (s.stallCrossing c lost) ∧
        (s.stallCrossing c lost).host = s.host) ∧
      RegsOnly [Reg.CLK_STALLCNT, Reg.CLK_STALLINFO, rawOf 0x02, Reg.HOST_BADACC] s (s.stallCrossing c lost) ∧
      Only [.now, .clk, .host, .regs, .flt, .out] s (s.stallCrossing c lost) := by
  have others (a : Nat) (h : a ≠ Reg.HOST_BADACC) (v : Word) :
      (noteIf (c.kind == .fifo) (lost.flatMap errorAccess)).foldl (Note.onWord a) v = v :=
    Note.foldl_onWord (fun k => h (List.mem_singleton.mp (lostNotes_words k)))
  unfold State.stallCrossing stallNotes
  refine ⟨rfl, rfl, ?_, State.report_reads canon.regs rfl ?_, State.report_reads canon.regs rfl ?_, fun hold => ⟨?_, ?_⟩,
    State.report_regsOnly_of ?_ rfl, .app State.report_parts ?_ (.app Only.set_clk_host rfl .refl)⟩
  · exact List.mem_append_right _ (List.mem_filterMap.mpr ⟨.raise Src.CDC_STALL, by simp, rfl⟩)
  · rw [List.foldl_append, others _ (by decide)]
    rfl
  · rw [List.foldl_append, others _ (by decide)]
    rfl
  · rw [hold]
    rfl
  · simp [HostPort.stallAt, hold]
  · rw [List.flatMap_append]
    exact List.append_subset.mpr ⟨show [rawOf 0x02, Reg.CLK_STALLCNT, Reg.CLK_STALLINFO] ⊆ _ by decide, fun a h => by simp [List.mem_singleton.mp (lostNotes_words h)]⟩
  · rw [List.flatMap_append, List.all_append, Bool.and_eq_true]
    refine ⟨rfl, List.all_eq_true.mpr (fun p h => ?_)⟩
    have k := List.all_eq_true.mp lostNotes_parts p h
    revert k
    cases p <;> decide

end

/-! ### Gray codes (12 R448) -/

theorem ofGray_grayCode {b : BitVec 10} : ofGray (grayCode b) = b := by
  have past (k : Nat) (h : 10 ≤ k) : b >>> k = 0#10 := BitVec.ushiftRight_eq_zero h
  have swap (x y z : BitVec 10) : x ^^^ (y ^^^ z) = y ^^^ (x ^^^ z) := by
    rw [← BitVec.xor_assoc, BitVec.xor_comm x, BitVec.xor_assoc]
  have cancel (x y : BitVec 10) : x ^^^ (x ^^^ y) = y := by rw [← BitVec.xor_assoc, BitVec.xor_self, BitVec.zero_xor]
  simp [ofGray, grayCode, BitVec.ushiftRight_xor_distrib, ← BitVec.shiftRight_add, past, swap, cancel,
    BitVec.xor_comm]

/-- A count and its successor differ in a run of low bits. -/
theorem Nat.xor_succ_mask (b : Nat) : ∃ k, b ^^^ (b + 1) = 2 ^ (k + 1) - 1 := by
  induction b using Nat.binaryRec with
  | zero => exact ⟨0, rfl⟩
  | bit x c ih =>
    cases x with
    | false =>
      refine ⟨0, ?_⟩
      rw [show Nat.bit false c + 1 = Nat.bit true c from rfl, Nat.xor_bit, Nat.xor_self]
      rfl
    | true =>
      obtain ⟨k, h⟩ := ih
      refine ⟨k + 1, ?_⟩
      have next : Nat.bit true c + 1 = Nat.bit false (c + 1) := by simp only [Nat.bit, cond]; omega
      have double : 2 ^ (k + 1 + 1) = 2 * 2 ^ (k + 1) := Nat.pow_succ'
      rw [next, Nat.xor_bit, h, double]
      have pos : 0 < 2 ^ (k + 1) := Nat.two_pow_pos _
      change 2 * (2 ^ (k + 1) - 1) + 1 = 2 * 2 ^ (k + 1) - 1
      omega

/-- Two Gray codes differ as the counts do, each bit of which is the sum of those of the code from it on. -/
theorem grayCode_xor {x y : BitVec 10} : grayCode x ^^^ grayCode y = (y ^^^ x) ^^^ ((y ^^^ x) >>> 1) := by
  rw [grayCode, grayCode, BitVec.ushiftRight_xor_distrib]
  ac_rfl

/-- A Gray code changes in one bit. -/
theorem grayCode_succ {b : BitVec 10} : ∃ i : Fin 10, grayCode (b + 1) ^^^ grayCode b = 1#10 <<< i.val := by
  obtain ⟨k, h⟩ := Nat.xor_succ_mask b.toNat
  have mask : ∃ i : Fin 10, b ^^^ (b + 1) = BitVec.ofNat 10 (2 ^ (i.val + 1) - 1) := by
    by_cases last : b.toNat = 1023
    · refine ⟨9, BitVec.eq_of_toNat_eq ?_⟩
      simp [BitVec.toNat_add, last]
    · have bound : b.toNat + 1 < 2 ^ 10 := by have := b.isLt; omega
      have small : 2 ^ (k + 1) - 1 < 2 ^ 10 := h ▸ Nat.xor_lt_two_pow b.isLt bound
      have hk : k < 10 := by
        by_contra far
        have : 2 ^ 11 ≤ 2 ^ (k + 1) := Nat.pow_le_pow_right (by decide) (by omega)
        omega
      refine ⟨⟨k, hk⟩, BitVec.eq_of_toNat_eq ?_⟩
      rw [BitVec.toNat_xor, BitVec.toNat_add, BitVec.toNat_ofNat, Nat.mod_eq_of_lt small, ← h]
      congr 1
      exact Nat.mod_eq_of_lt bound
  obtain ⟨i, e⟩ := mask
  have shifts : ∀ i : Fin 10, BitVec.ofNat 10 (2 ^ (i.val + 1) - 1) ^^^
      (BitVec.ofNat 10 (2 ^ (i.val + 1) - 1) >>> 1) = 1#10 <<< i.val := by decide
  exact ⟨i, by rw [grayCode_xor, e, shifts]⟩

/-! ### Hold-and-flag crossings (12 R444–R446) -/

section
variable {ρ t u : Nat} {v : Word} {h : HoldFlag}

/-- A crossing at an instant: at rest with nothing to deliver, or with a transfer launched by then. -/
def HoldFlag.AtRestOrLaunched (h : HoldFlag) (t : Nat) : Prop :=
  (h.inFlight = false → h.ack = h.flag ∧ h.pending = none) ∧ (h.inFlight = true → h.since / tick ≤ t / tick)

theorem HoldFlag.inFlight_false : h.inFlight = false ↔ h.flag = h.acked := by
  simp [HoldFlag.inFlight]

theorem HoldFlag.capture_atRestOrLaunched (k : h.AtRestOrLaunched t) : (h.capture ρ t).AtRestOrLaunched t := by
  unfold HoldFlag.capture
  split
  · exact ⟨fun e => ⟨rfl, (k.1 e).2⟩, k.2⟩
  · exact k

theorem HoldFlag.register_atRestOrLaunched (k : h.AtRestOrLaunched t) : (h.register ρ t).AtRestOrLaunched t := by
  unfold HoldFlag.register
  split
  case isFalse => exact k
  case isTrue due =>
    simp only [Bool.and_eq_true, beq_iff_eq, decide_eq_true_eq] at due
    obtain ⟨⟨-, ack⟩, time⟩ := due
    dsimp only
    split
    case h_1 w pending => exact ⟨fun e => by simp [HoldFlag.launch, HoldFlag.inFlight, ack] at e, fun _ => time⟩
    case h_2 pending => exact ⟨fun _ => ⟨ack, pending⟩, fun e => by simp [HoldFlag.inFlight, ack] at e⟩

theorem HoldFlag.settle_atRestOrLaunched (k : h.AtRestOrLaunched t) : (h.settle ρ t).AtRestOrLaunched t :=
  register_atRestOrLaunched (capture_atRestOrLaunched (register_atRestOrLaunched (capture_atRestOrLaunched k)))

/-- A capture in its time brings the held value. -/
theorem HoldFlag.capture_due (flag : h.flag ≠ h.ack) (due : (h.since + ρ / 2) / tick < t / tick) :
    h.capture ρ t = { h with dest := h.hold, ack := h.flag } := by
  simp [HoldFlag.capture, flag, due]

theorem HoldFlag.capture_done (flag : h.flag = h.ack) : h.capture ρ t = h := by
  simp [HoldFlag.capture, flag]

theorem HoldFlag.register_dest : (h.register ρ t).dest = h.dest := by
  unfold HoldFlag.register
  split
  · dsimp only
    split <;> rfl
  · rfl

/-- A registration in its time launches a pending value. -/
theorem HoldFlag.register_pending (flight : h.inFlight = true) (ack : h.ack = h.flag)
    (due : (h.since + ρ) / tick ≤ t / tick) (pending : h.pending = some v) :
    h.register ρ t = { { h with acked := h.ack }.launch (h.since + ρ) v with pending := none } := by
  simp [HoldFlag.register, flight, ack, due, pending]

/-- A registration in its time with nothing pending ends the transfer. -/
theorem HoldFlag.register_end (ack : h.ack = h.flag) (pending : h.pending = none) :
    (h.register ρ t).flag = (h.register ρ t).ack := by
  unfold HoldFlag.register
  split
  · simp [pending, ack]
  · exact ack.symm

/-- A value launched from rest is delivered within `ρ`. -/
theorem HoldFlag.read_launch (ack : h.ack = h.flag) (pending : h.pending = none)
    (width : 4 * tick ≤ ρ) (due : t + ρ ≤ u) : (h.launch t v).read ρ u = some v := by
  have captured : (h.launch t v).capture ρ u = { h.launch t v with dest := some v, ack := !h.flag } :=
    capture_due (by simp [HoldFlag.launch, ack]) (by simp only [HoldFlag.launch, tick] at *; omega)
  have ended : (((h.launch t v).capture ρ u).register ρ u).flag = (((h.launch t v).capture ρ u).register ρ u).ack := by
    rw [captured]
    exact register_end rfl pending
  rw [HoldFlag.read, HoldFlag.settle, register_dest, capture_done ended, register_dest, captured]

/-- A value put into PENDING while a transfer is in flight is delivered within `2ρ`. -/
theorem HoldFlag.read_pending (flight : h.inFlight = true) (since : h.since / tick ≤ t / tick) (width : 4 * tick ≤ ρ)
    (due : t + 2 * ρ ≤ u) : ({ h with pending := some v } : HoldFlag).read ρ u = some v := by
  let x : HoldFlag := { h with pending := some v }
  have early : (h.since + ρ / 2) / tick < u / tick := by simp only [tick] at *; omega
  have late : (h.since + ρ) / tick ≤ u / tick := by simp only [tick] at *; omega
  have later : (h.since + ρ + ρ / 2) / tick < u / tick := by simp only [tick] at *; omega
  have acked : (x.capture ρ u).ack = (x.capture ρ u).flag ∧ (x.capture ρ u).pending = some v ∧
      (x.capture ρ u).since = h.since ∧ (x.capture ρ u).inFlight = true := by
    by_cases flag : h.flag = h.ack
    · rw [capture_done (h := x) flag]
      exact ⟨flag.symm, rfl, rfl, flight⟩
    · rw [capture_due (h := x) flag early]
      exact ⟨rfl, rfl, rfl, flight⟩
  obtain ⟨ack, pending, since', flight'⟩ := acked
  have launched := register_pending (ρ := ρ) (t := u) flight' ack (since' ▸ late) pending
  rw [HoldFlag.read, HoldFlag.settle, register_dest, show ({ h with pending := some v } : HoldFlag) = x from rfl, launched,
    capture_due (by simp [HoldFlag.launch, ack]) (by simp only [HoldFlag.launch]; rw [since']; exact later)]
  rfl

/-- The value that the source of a crossing produces last is delivered (12 R444–R446). -/
theorem HoldFlag.produce_delivers (width : 4 * tick ≤ ρ) (since : h.since ≤ t)
    (rest : h.inFlight = false → h.ack = h.flag ∧ h.pending = none) :
    (h.produce ρ t v).newest = some v ∧ (h.inFlight = false → t + ρ ≤ u → (h.produce ρ t v).read ρ u = some v) ∧
      (t + 2 * ρ ≤ u → (h.produce ρ t v).read ρ u = some v) := by
  have settled : (h.settle ρ t).AtRestOrLaunched t :=
    settle_atRestOrLaunched ⟨rest, fun _ => Nat.div_le_div_right since⟩
  by_cases flight : (h.settle ρ t).inFlight = true
  case pos =>
    have e : h.produce ρ t v = { h.settle ρ t with pending := some v } := by simp [HoldFlag.produce, flight]
    rw [e]
    refine ⟨rfl, fun idle => ?_, fun due => read_pending flight (settled.2 flight) width due⟩
    have same : h.settle ρ t = h := by
      have flag := inFlight_false.mp idle
      have reg : h.register ρ t = h := by simp [HoldFlag.register, idle]
      simp only [HoldFlag.settle, capture_done (rest idle).1.symm, reg]
    rw [same, idle] at flight
    cases flight
  case neg =>
    have idle : (h.settle ρ t).inFlight = false := by simpa using flight
    obtain ⟨ack, pending⟩ := settled.1 idle
    have e : h.produce ρ t v = (h.settle ρ t).launch t v := by simp [HoldFlag.produce, idle]
    rw [e]
    refine ⟨by simp [HoldFlag.newest, HoldFlag.launch, pending], fun _ due => read_launch ack pending width due,
      fun due => read_launch ack pending width (by omega)⟩

end

/-- Settles O12. -/
theorem clockMonitorAndStall : Obligations.ClockMonitorAndStall := by
  unfold Obligations.ClockMonitorAndStall
  refine ⟨fun t s on canon => ⟨fun w masked bad running second => clockMonitorWindow_stops on canon masked bad running second,
    fun w masked good stopped second => clockMonitorWindow_runs on canon masked good stopped second,
    fun live far kind lost ack may late => ?_, fun live far kind lost ack h => ?_⟩,
    fun b => ⟨ofGray_grayCode, grayCode_succ⟩, fun ρ t u v h width since rest => HoldFlag.produce_delivers width since rest⟩
  · have e : exec (.crossingStall t live far kind lost ack) s = .next ((s.stamp t).stallCrossing ⟨live, far, kind⟩ lost) :=
      (onCore_on on : execCrossingStall t live far kind lost ack s = _).trans
        (congrArg _ (State.when_true (by rw [may, late]; rfl)))
    obtain ⟨stalled, mon, raised, count, irq, hold, words, parts⟩ :=
      State.stallCrossing_entry (c := ⟨live, far, kind⟩) (lost := lost) (s := s.stamp t) (.only State.stamp_only rfl canon)
    exact ⟨_, e, stalled, mon, raised, count, irq, hold, words, .app parts rfl (.app State.stamp_only rfl .refl)⟩
  · have stays : ((s.stamp t).mayStall ⟨live, far, kind⟩ && !(s.stamp t).delivered ack) = false := by
      rcases h with late | same | listed | ⟨idle, host⟩
      · rw [late, Bool.not_true, Bool.and_false]
      · simp [State.mayStall, same]
      · simp [State.mayStall, listed]
      · rcases host with rfl | rfl <;> simp [State.mayStall, idle]
    exact (onCore_on on : execCrossingStall t live far kind lost ack s = _).trans (congrArg _ (State.when_false stays))

end Sys2Proof.Machine
end

section
/-! Droop, rails and monitors. -/

namespace Sys2Proof.Machine

open Sys2Proof

/-! ### The droop detector (15 R534–R536) -/

section
variable {t : Nat} {s : State}

/-- A register word that no note of a list writes. -/
theorem State.report_leaves {l : List Note} {a : Nat} (h : a ∉ l.flatMap Note.words) :
    rget (s.report l).regs a = rget s.regs a := State.report_regsOnly a h

/-- The tokens that a level of the droop detector leaves in circulation (08 R307–R309). -/
theorem State.meter_fab {m : Nat} {q : Word} (level : s.mDroop = m) (asked : rget s.regs (Reg.FB_MREQ 0) = q) :
    s.meter.fab = { s.fab with tokens := Vector.replicate 5 (16 - max m (max s.fab.mTherm.toNat (fld q 0 4))) } := by
  rw [State.meter, level, State.meterLevel, asked]

theorem droopTrip_first (on : s.coreOn = true) (canon : s.Canonical) (idle : s.pwr.droop = false) :
    ∃ n, exec (.droopTrip t) s = .next n ∧
      n.pwr = { s.pwr with droop := true, droopAt := max s.now t, droopLong := false, lowAt := max s.now t } ∧
      n.fab = { s.fab with tokens := Vector.replicate 5 (16 - max (fld (s.active (Reg.FB_MCFG 0)) 0 4)
        (max s.fab.mTherm.toNat (fld (rget s.regs (Reg.FB_MREQ 0)) 0 4))) } ∧
      rget n.regs Reg.PWR_DROOPCNT = satAdd (rget s.regs Reg.PWR_DROOPCNT) 1 ∧
      rget n.regs (rawOf 0x40) = rget s.regs (rawOf 0x40) ||| 1 ∧
      RegsOnly [Reg.PWR_DROOPCNT, rawOf 0x40] s n ∧ Only [.now, .pwr, .fab, .regs] s n := by
  have e : exec (.droopTrip t) s = .next (State.tripped (s.stamp t).droopOn) :=
    (onCore_on on : execDroopTrip t s = _).trans
      (congrArg (fun u => Host.Outcome.next (State.tripped u)) (State.when_true (by simp [idle])))
  have words : RegsOnly [Reg.PWR_DROOPCNT, rawOf 0x40] s (s.stamp t).droopOn := State.report_regsOnly_of (fun _ h => h) rfl
  refine ⟨_, e, rfl, ?_, State.report_reads canon.regs rfl rfl, State.report_reads canon.regs rfl rfl, words,
    .app State.hit_only rfl (.app Only.set_pwr rfl (.app State.meter_only rfl (.app State.report_parts rfl
      (.app Only.set_pwr rfl (.app State.stamp_only rfl .refl)))))⟩
  refine State.meter_fab (s := State.report _ _) ?_ (words (Reg.FB_MREQ 0) (by decide))
  exact congrArg (fld · 0 4) (words (Reg.FB_MCFG 0 + 0x800) (by decide))

theorem droopTrip_again (on : s.coreOn = true) (active : s.pwr.droop = true) :
    ∃ n, exec (.droopTrip t) s = .next n ∧ n.pwr = { s.pwr with lowAt := max s.now t } ∧ Only [.now, .pwr] s n := by
  have e : exec (.droopTrip t) s = .next (State.tripped (s.stamp t)) :=
    (onCore_on on : execDroopTrip t s = _).trans
      (congrArg (fun u => Host.Outcome.next (State.tripped u)) (State.when_false (by simp [active])))
  exact ⟨_, e, rfl, .app State.hit_only rfl (.app Only.set_pwr rfl (.app State.stamp_only rfl .refl))⟩

theorem droopRelease_ends (on : s.coreOn = true) (canon : s.Canonical) (active : s.pwr.droop = true)
    (calm : (s.stamp t).tripping = false) (time : s.pwr.lowAt + 2 * usec ≤ max s.now t) :
    ∃ n, exec (.droopRelease t) s = .next n ∧ n.pwr = { s.pwr with droop := false } ∧
      n.fab = { s.fab with tokens := Vector.replicate 5 (16 -
        max s.fab.mTherm.toNat (fld (rget s.regs (Reg.FB_MREQ 0)) 0 4)) } ∧
      rget n.regs Reg.PWR_DROOPTIME = satAdd (rget s.regs Reg.PWR_DROOPTIME) ((max s.now t - s.pwr.droopAt) / usec) ∧
      (rget n.regs Reg.PWR_DROOPMAX).toNat = min 0xFFFFFFFF
        (max (rget s.regs Reg.PWR_DROOPMAX).toNat ((max s.now t - s.pwr.droopAt) / usec)) ∧
      RegsOnly [Reg.PWR_DROOPTIME, Reg.PWR_DROOPMAX] s n ∧ Only [.now, .pwr, .fab, .regs] s n := by
  have e : exec (.droopRelease t) s = .next (s.stamp t).droopOff :=
    (onCore_on on : execDroopRelease t s = _).trans (congrArg _ (State.when_true (by simp [active, calm, time])))
  have words : RegsOnly [Reg.PWR_DROOPTIME, Reg.PWR_DROOPMAX] s (s.stamp t).droopOff :=
    State.report_regsOnly_of (fun _ h => h) rfl
  refine ⟨_, e, rfl, ?_, State.report_reads canon.regs rfl rfl, ?_, words,
    .app State.meter_only rfl (.app State.report_parts rfl (.app Only.set_pwr rfl (.app State.stamp_only rfl .refl)))⟩
  · refine (State.meter_fab (s := State.report _ _) (m := 0) rfl (words (Reg.FB_MREQ 0) (by decide))).trans ?_
    rw [Nat.zero_max]
    rfl
  · have m : rget (s.stamp t).droopOff.regs Reg.PWR_DROOPMAX = BitVec.ofNat 32 (min 0xFFFFFFFF
        (max (rget s.regs Reg.PWR_DROOPMAX).toNat ((max s.now t - s.pwr.droopAt) / usec))) :=
      State.report_reads canon.regs rfl rfl
    rw [m, BitVec.toNat_ofNat]
    exact Nat.mod_eq_of_lt (Nat.lt_succ_of_le (Nat.min_le_left _ _))

end

/-- Vectors change at one place. -/
theorem Vector.getElem_set_fin_ne {α : Type} {n : Nat} {v : Vector α n} {i j : Fin n} {x : α} (h : j ≠ i) :
    (v.set i x)[j] = v[j] := by
  have : i.val ≠ j.val := fun k => h (Fin.ext k.symm)
  simp [this]

/-! ### Rails and monitors (15 R531, R532) -/

/-- What the supplies hold of one rail: samples outside in a row, samples inside in a row, its RAILERR bit, and the sum of
the step. -/
def Power.atRail (p : Power) (r : Fin 7) : Nat × Nat × Bool × Nat := (p.railOut[r], p.railIn[r], bit p.railErr r, p.accV[r])

/-- A rail's values after a sample (15 R531). -/
def railAfter (r : Fin 7) (mv : Nat) (x : Nat × Nat × Bool × Nat) : Nat × Nat × Bool × Nat :=
  let o := if railOff r mv then min 2 (x.1 + 1) else 0
  let i := if railOff r mv then 0 else min 100 (x.2.1 + 1)
  (o, i, o == 2 || (x.2.2.1 && i != 100), x.2.2.2 + mv)

/-- A second sample in a row outside the limits sets the bit. -/
theorem railAfter_second {r : Fin 7} {mv : Nat} {x : Nat × Nat × Bool × Nat} (off : railOff r mv = true) (h : x.1 = 1) :
    (railAfter r mv x).2.2.1 = true := by
  simp [railAfter, off, h]

/-- The hundredth sample in a row within the limits clears it. -/
theorem railAfter_clears {r : Fin 7} {mv : Nat} {x : Nat × Nat × Bool × Nat} (off : railOff r mv = false) (h : x.2.1 = 99) :
    (railAfter r mv x).2.2.1 = false := by
  simp [railAfter, off, h]

theorem bit_setBit {w i j : Nat} {x : BitVec w} (h : j < w) : bit (setBit x j) i = (bit x i || decide (i = j)) := by
  have mask : (BitVec.ofNat w (2 ^ j)).getLsbD i = decide (i = j) := by
    rw [BitVec.getLsbD_ofNat, Nat.testBit_two_pow]
    by_cases e : i = j
    · simp [e, h]
    · simp [e, Ne.symm e]
  rw [bit, setBit, BitVec.getLsbD_or, mask, bit]

theorem bit_putBit_self {w : Nat} {x : BitVec w} {i : Nat} {b : Bool} (h : i < w) : bit (putBit x i b) i = b := by
  cases b with
  | true => simp [putBit, bit_setBit h]
  | false => simp [putBit, bit_clearBit]

theorem bit_putBit_ne {w : Nat} {x : BitVec w} {i j : Nat} {b : Bool} (hj : j < w) (h : i ≠ j) :
    bit (putBit x j b) i = bit x i := by
  cases b with
  | true => simp [putBit, bit_setBit hj, h]
  | false => simp [putBit, bit_clearBit, h]

theorem Power.railStep_atRail {p : Power} {r : Fin 7} {mv : Nat} : (p.railStep r mv).atRail r = railAfter r mv (p.atRail r) := by
  simp [Power.railStep, Power.atRail, railAfter, bit_putBit_self]

theorem Power.railStep_atRail_ne {p : Power} {r i : Fin 7} {mv : Nat} (h : r ≠ i) : (p.railStep i mv).atRail r = p.atRail r := by
  have : r.val ≠ i.val := fun k => h (Fin.ext k)
  simp [Power.railStep, Power.atRail, bit_putBit_ne i.isLt this, Vector.getElem_set_fin_ne h]

/-- A sample takes each rail once. -/
theorem Power.rails_atRail {p : Power} {mv : Fin 7 → Nat} {l : List (Fin 7)} {r : Fin 7} (once : l.Nodup) :
    (l.foldl (fun p i => p.railStep i (mv i)) p).atRail r = if r ∈ l then railAfter r (mv r) (p.atRail r) else p.atRail r := by
  induction l generalizing p with
  | nil => simp
  | cons i l ih =>
    obtain ⟨new, once⟩ := List.nodup_cons.mp once
    rw [List.foldl_cons, ih once]
    by_cases e : r = i
    · subst e
      simp [new, Power.railStep_atRail]
    · simp [e, Power.railStep_atRail_ne e]

/-- What the samples of the rails leave. -/
theorem Power.rails_keep {p : Power} {mv : Fin 7 → Nat} {l : List (Fin 7)} :
    (l.foldl (fun p i => p.railStep i (mv i)) p).samples = p.samples ∧
      (l.foldl (fun p i => p.railStep i (mv i)) p).droop = p.droop := by
  induction l generalizing p with
  | nil => exact ⟨rfl, rfl⟩
  | cons i l ih => exact ih (p := p.railStep i (mv i))

/-- What the samples of the current monitors leave. -/
theorem Power.monitors_keep {p : Power} {mv cur : Fin 4 → Nat} {l : List (Fin 4)} :
    (∀ r, (l.foldl (fun p i => p.monStep i (mv i) (cur i)) p).atRail r = p.atRail r) ∧
      (l.foldl (fun p i => p.monStep i (mv i) (cur i)) p).samples = p.samples ∧
      (l.foldl (fun p i => p.monStep i (mv i) (cur i)) p).droop = p.droop := by
  induction l generalizing p with
  | nil => exact ⟨fun _ => rfl, rfl, rfl⟩
  | cons i l ih => exact ih (p := p.monStep i (mv i) (cur i))

/-- The supplies after a sample, rail by rail. -/
theorem Power.sample_rails {p : Power} {x : RailReading} :
    (∀ r : Fin 7, (p.sample x).atRail r = railAfter r (x.mv[r]) (p.atRail r)) ∧
      (p.sample x).samples = p.samples + 1 ∧ (p.sample x).droop = p.droop := by
  obtain ⟨samples, droop⟩ := Power.rails_keep (p := p) (mv := fun i => x.mv[i]) (l := rails)
  obtain ⟨rails', samples', droop'⟩ := Power.monitors_keep
    (p := rails.foldl (fun p i => p.railStep i (x.mv[i])) p) (mv := fun i => x.mv[i.val]'(by have := i.isLt; omega))
    (cur := fun i => x.cur[i]) (l := monitors)
  have last (q : Power) (n : Nat) (r : Fin 7) : ({ q.uvStep (x.mv[0]) with samples := n } : Power).atRail r = q.atRail r := rfl
  have lastDroop (q : Power) (n : Nat) : ({ q.uvStep (x.mv[0]) with samples := n } : Power).droop = q.droop := rfl
  refine ⟨fun r => ?_, ?_, ?_⟩
  · rw [Power.sample, last, rails', Power.rails_atRail (l := rails) (List.nodup_finRange 7)]
    exact if_pos (List.mem_finRange r)
  · rw [Power.sample, samples', samples]
  · rw [Power.sample, lastDroop, droop', droop]

/-- The notes of a change of the supplies set the page's event bits and raise sources. -/
theorem railNotes_words {old new : Power} : (railNotes old new).flatMap Note.words ⊆ [rawOf 0x40] := by
  intro a h
  simp only [railNotes, List.flatMap_append, List.mem_append, List.mem_flatMap] at h
  rcases h with ⟨x, ⟨_, _, hx⟩, ha⟩ | ⟨x, ⟨_, _, hx⟩, ha⟩ <;>
  · rcases List.mem_cons.mp hx with rfl | hx
    · cases ha
    · cases List.mem_singleton.mp hx
      exact ha

theorem railNotes_parts {old new : Power} :
    ((railNotes old new).flatMap Note.parts).all [Part.now, .pwr, .regs, .flt].contains = true := by
  refine List.all_eq_true.mpr (fun p h => ?_)
  simp only [railNotes, List.flatMap_append, List.mem_append, List.mem_flatMap] at h
  rcases h with ⟨x, ⟨_, _, hx⟩, hp⟩ | ⟨x, ⟨_, _, hx⟩, hp⟩ <;>
  · rcases List.mem_cons.mp hx with rfl | hx
    · cases List.mem_singleton.mp hp
      rfl
    · cases List.mem_singleton.mp hx
      revert hp
      cases p <;> decide

theorem railSample_takes {t : Nat} {x : RailReading} {s : State} (on : s.coreOn = true) (fresh : s.Fresh (.railSample t x)) :
    ∃ n, exec (.railSample t x) s = .next n ∧
      (∀ r : Fin 7, railOff r (x.mv[r]) = true → s.pwr.railOut[r] = 1 → bit n.pwr.railErr r = true) ∧
      (∀ r : Fin 7, railOff r (x.mv[r]) = false → s.pwr.railIn[r] = 99 → bit n.pwr.railErr r = false) ∧
      (∀ r : Fin 7, n.pwr.accV[r] = s.pwr.accV[r] + x.mv[r]) ∧
      n.pwr.samples = s.pwr.samples + 1 ∧ n.pwr.droop = s.pwr.droop ∧
      RegsOnly [rawOf 0x40] s n ∧ Only [.now, .pwr, .regs, .flt] s n := by
  have e : exec (.railSample t x) s = .next ((s.stamp t).railIn x) :=
    (onCore_on on : execRailSample t x s = _).trans (congrArg _ (State.once_fresh fresh))
  obtain ⟨p, hp, same⟩ : ∃ p, (s.stamp t).railIn x = (s.stamp t).setPower p ∧ (∀ r, p.atRail r = (s.pwr.sample x).atRail r) ∧
      p.samples = (s.pwr.sample x).samples ∧ p.droop = (s.pwr.sample x).droop := by
    refine ⟨_, rfl, ?_⟩
    split <;> exact ⟨fun _ => rfl, rfl, rfl⟩
  obtain ⟨sameRails, sameSamples, sameDroop⟩ := same
  obtain ⟨rails, samples, droop⟩ := Power.sample_rails (p := s.pwr) (x := x)
  have at_ (r : Fin 7) : p.atRail r = railAfter r (x.mv[r]) (s.pwr.atRail r) := (sameRails r).trans (rails r)
  rw [hp] at e
  refine ⟨_, e, fun r off out => ?_, fun r off out => ?_, fun r => ?_, sameSamples.trans samples, sameDroop.trans droop,
    State.report_regsOnly_of railNotes_words rfl,
    .app State.report_parts railNotes_parts (.app Only.set_pwr rfl (.app State.stamp_only rfl .refl))⟩
  · exact (congrArg (·.2.2.1) (at_ r)).trans (railAfter_second off out)
  · exact (congrArg (·.2.2.1) (at_ r)).trans (railAfter_clears off out)
  · exact congrArg (·.2.2.2) (at_ r)

/-- A failed self-check marks its monitor bad. -/
theorem monitorSelfCheck_fails {t : Nat} {m : Fin 4} {s : State} (on : s.coreOn = true) (canon : s.Canonical)
    (good : bit s.pwr.monBad m = false) (fresh : s.Fresh (.monitorSelfCheck t m false)) :
    ∃ n, exec (.monitorSelfCheck t m false) s = .next n ∧
      bit n.pwr.monBad m = true ∧ n.pwr.monPass[m] = 0 ∧ n.pwr.railErr = s.pwr.railErr ∧
      Raised [Src.PWR_MONFAIL] s n ∧ rget n.regs (rawOf 0x40) = rget s.regs (rawOf 0x40) ||| 2 ∧
      RegsOnly [rawOf 0x40] s n ∧ Only [.now, .pwr, .regs, .flt] s n := by
  have e : exec (.monitorSelfCheck t m false) s = .next ((s.stamp t).monitorIn m false) :=
    (onCore_on on : execMonitorSelfCheck t m false s = _).trans (congrArg _ (State.once_fresh fresh))
  have marks : ∀ (m : Fin 4) (b : BitVec 4), bit b m = false → bitsOf (putBit b m true &&& ~~~b) 4 = [m.val] := by decide
  have notes : railNotes s.pwr (s.pwr.selfCheck m false) = [.raise Src.PWR_MONFAIL, .irq 0x40 1] := by
    rw [railNotes, show (s.pwr.selfCheck m false).railErr = s.pwr.railErr from rfl, BitVec.and_not_self,
      show (s.pwr.selfCheck m false).monBad = putBit s.pwr.monBad m true from rfl, marks m _ good]
    rfl
  rw [State.monitorIn, State.setPower, State.stamp_pwr, notes] at e
  exact ⟨_, e, bit_putBit_self m.isLt, Vector.getElem_set_self _, rfl, rfl, State.report_reads canon.regs rfl rfl,
    State.report_regsOnly_of (fun _ h => h) rfl,
    .app State.report_parts rfl (.app Only.set_pwr rfl (.app State.stamp_only rfl .refl))⟩

/-- The third self-check passed in a row clears the mark. -/
theorem monitorSelfCheck_clears {t : Nat} {m : Fin 4} {s : State} (on : s.coreOn = true) (third : s.pwr.monPass[m] = 2)
    (fresh : s.Fresh (.monitorSelfCheck t m true)) :
    ∃ n, exec (.monitorSelfCheck t m true) s = .next n ∧
      bit n.pwr.monBad m = false ∧ n.pwr.monPass[m] = 3 ∧ n.pwr.railErr = s.pwr.railErr ∧ Only [.now, .pwr] s n := by
  have e : exec (.monitorSelfCheck t m true) s = .next ((s.stamp t).monitorIn m true) :=
    (onCore_on on : execMonitorSelfCheck t m true s = _).trans (congrArg _ (State.once_fresh fresh))
  have clears : ∀ (m : Fin 4) (b : BitVec 4), bitsOf (putBit b m false &&& ~~~b) 4 = [] := by decide
  have check : s.pwr.selfCheck m true = { s.pwr with
      monPass := s.pwr.monPass.set m 3, monBad := putBit s.pwr.monBad m false } := by
    simp [Power.selfCheck, show s.pwr.monPass[m.val] = 2 from third]
  have notes : railNotes s.pwr (s.pwr.selfCheck m true) = [] := by
    rw [railNotes, check, BitVec.and_not_self, clears]
    rfl
  rw [State.monitorIn, State.setPower, State.stamp_pwr, notes, State.report_nil, check] at e
  exact ⟨_, e, bit_putBit_self m.isLt, Vector.getElem_set_self _, rfl,
    .app Only.set_pwr rfl (.app State.stamp_only rfl .refl)⟩

/-- Settles O13. -/
theorem supplyMonitoring : Obligations.SupplyMonitoring := by
  unfold Obligations.SupplyMonitoring
  refine ⟨fun t s on canon => ⟨droopTrip_first on canon, droopTrip_again on, droopRelease_ends on canon, fun h => ?_,
      fun active short keeps => ?_⟩,
    fun t s on canon => ⟨fun x fresh => railSample_takes on fresh,
      fun m good fresh => monitorSelfCheck_fails on canon good fresh,
      fun m third fresh => monitorSelfCheck_clears on third fresh, fun high => ?_⟩⟩
  · have stays : ((s.stamp t).pwr.droop && !(s.stamp t).tripping &&
        decide ((s.stamp t).pwr.lowAt + 2 * usec ≤ (s.stamp t).now)) = false := by
      rcases h with idle | trip | early
      · simp [idle]
      · simp [trip]
      · exact (congrArg _ (decide_eq_false (Nat.not_le.mpr early))).trans (Bool.and_false _)
    exact (onCore_on on : execDroopRelease t s = _).trans (congrArg _ (State.when_false stays))
  · have e : exec (.droopLong t) s = .next (s.stamp t).droopLong :=
      (onCore_on on : execDroopLong t s = _).trans (congrArg _ (State.when_true (by simp [active, short, keeps])))
    exact ⟨_, e, rfl, rfl, .app State.report_parts rfl (.app Only.set_pwr rfl (.app State.stamp_only rfl .refl))⟩
  · have e : exec (.coreUnderVoltage t) s = .next (s.stamp t).underVoltage :=
      (onCore_on on : execCoreUnderVoltage t s = _).trans (congrArg _ (State.when_true (by simp [high])))
    exact ⟨_, e, rfl, rfl, .app State.report_parts rfl (.app Only.set_pwr rfl (.app State.stamp_only rfl .refl))⟩

end Sys2Proof.Machine
end

section
/-! Die temperature and thermal limits. -/

namespace Sys2Proof.Machine

open Sys2Proof

/-! ### Fields of a word -/

theorem fld_at32 {lo n x : Nat} (h : lo + n ≤ 32) : fld (at32 lo x) lo n = x % 2 ^ n := by
  have e : (2 : Nat) ^ 32 = 2 ^ lo * (2 ^ n * 2 ^ (32 - lo - n)) := by rw [← Nat.pow_add, ← Nat.pow_add]; congr 1; omega
  rw [fld, at32, BitVec.toNat_ofNat, e, Nat.mul_comm x, Nat.mul_mod_mul_left,
    Nat.mul_div_cancel_left _ (Nat.two_pow_pos lo), Nat.mod_mul_right_mod]

theorem fld_lt {w lo n : Nat} {v : BitVec w} : fld v lo n < 2 ^ n := Nat.mod_lt _ (Nat.two_pow_pos n)

theorem bit_at32 {lo x i : Nat} (h : i < 32) : bit (at32 lo x) i = (decide (lo ≤ i) && x.testBit (i - lo)) := by
  rw [bit, at32, BitVec.getLsbD_ofNat, decide_eq_true h, Bool.true_and, Nat.testBit_mul_two_pow]

theorem fld_testBit {w lo n i : Nat} {v : BitVec w} : (fld v lo n).testBit i = (decide (i < n) && bit v (lo + i)) := by
  rw [fld, Nat.testBit_mod_two_pow, Nat.testBit_div_two_pow, bit, BitVec.getLsbD, Nat.add_comm]

theorem fld_or {w lo n : Nat} {u v : BitVec w} : fld (u ||| v) lo n = fld u lo n ||| fld v lo n := by
  refine Nat.eq_of_testBit_eq (fun i => ?_)
  simp only [Nat.testBit_or, fld_testBit, bit, BitVec.getLsbD_or]
  exact Bool.and_or_distrib_left _ _ _

/-- A field below the one written. -/
theorem fld_at32_below {lo hi n x : Nat} (h : lo + n ≤ hi) (top : lo + n ≤ 32) : fld (at32 hi x) lo n = 0 := by
  refine Nat.eq_of_testBit_eq (fun i => ?_)
  rw [fld_testBit, Nat.zero_testBit]
  by_cases k : i < n
  · have apart : ¬ hi ≤ lo + i := by omega
    rw [bit_at32 (by omega), decide_eq_false apart, Bool.false_and, Bool.and_false]
  · rw [decide_eq_false k, Bool.false_and]

/-- A field above the one written. -/
theorem fld_at32_above {lo hi n k x : Nat} (h : lo + k ≤ hi) (top : hi + n ≤ 32) (small : x < 2 ^ k) :
    fld (at32 lo x) hi n = 0 := by
  refine Nat.eq_of_testBit_eq (fun i => ?_)
  rw [fld_testBit, Nat.zero_testBit]
  by_cases hi' : i < n
  · have high : x.testBit (hi + i - lo) = false :=
      Nat.testBit_lt_two_pow (Nat.lt_of_lt_of_le small (Nat.pow_le_pow_right (by decide) (by omega)))
    rw [bit_at32 (by omega), high, Bool.and_false, Bool.and_false]
  · rw [decide_eq_false hi', Bool.false_and]

/-! ### THM_TJADD, THM_LIM and THM_TREF (15 R539–R541) -/

section
variable {t : Nat} {req : Req} {v : Word} {s : State}

theorem thmTjadd_raises (write : s.Writable t req 0x41) (canon : s.Canonical) (fresh : s.Fresh (.thmTjadd t req v)) :
    ∃ n, exec (.thmTjadd t req v) s = .next n ∧
      fld (rget n.regs Reg.THM_TJADD) 0 8 = max (fld v 0 8) (fld (rget s.regs Reg.THM_TJADD) 0 8) ∧
      RegsOnly [Reg.THM_TJADD] s n ∧ Only [.now, .regs] s n := by
  have e : exec (.thmTjadd t req v) s = .next ((s.stamp t).writeTjadd v) :=
    (onCore_on write.1 : execThmTjadd t req v s = _).trans
      (congrArg _ ((State.once_fresh fresh).trans write.access))
  refine ⟨_, e, ?_, fun a ha => rget_rset_ne (fun k => ha (k ▸ List.mem_singleton_self _)),
    .app Only.set_regs rfl (.app State.stamp_only rfl .refl)⟩
  have word : rget ((s.stamp t).writeTjadd v).regs Reg.THM_TJADD = at32 0 (max (fld v 0 8) (fld (rget s.regs Reg.THM_TJADD) 0 8)) :=
    rget_rset_self canon.regs
  rw [word, fld_at32 (by decide), Nat.mod_eq_of_lt (Nat.max_lt.mpr ⟨fld_lt, fld_lt⟩)]

/-- THM_LIM's fields after a write (15 R541). -/
theorem limFields {o v : Word} (i : Fin 3) :
    fld (limField o v 0 ||| limField o v 8 ||| limField o v 16) (8 * i) 8 = min (fld o (8 * i) 8) (fld v (8 * i) 8) := by
  have small (lo : Nat) : min (fld o lo 8) (fld v lo 8) < 2 ^ 8 := Nat.lt_of_le_of_lt (Nat.min_le_left _ _) fld_lt
  simp only [fld_or, limField]
  match i with
  | 0 =>
    change fld (at32 0 _) 0 8 ||| fld (at32 8 _) 0 8 ||| fld (at32 16 _) 0 8 = min (fld o 0 8) (fld v 0 8)
    rw [fld_at32 (by decide), fld_at32_below (by decide) (by decide), fld_at32_below (by decide) (by decide), Nat.or_zero,
      Nat.or_zero, Nat.mod_eq_of_lt (small _)]
  | 1 =>
    change fld (at32 0 _) 8 8 ||| fld (at32 8 _) 8 8 ||| fld (at32 16 _) 8 8 = min (fld o 8 8) (fld v 8 8)
    rw [fld_at32 (lo := 8) (by decide), fld_at32_above (k := 8) (by decide) (by decide) (small _),
      fld_at32_below (by decide) (by decide), Nat.or_zero, Nat.zero_or, Nat.mod_eq_of_lt (small _)]
  | 2 =>
    change fld (at32 0 _) 16 8 ||| fld (at32 8 _) 16 8 ||| fld (at32 16 _) 16 8 = min (fld o 16 8) (fld v 16 8)
    rw [fld_at32 (lo := 16) (by decide), fld_at32_above (k := 8) (by decide) (by decide) (small _),
      fld_at32_above (k := 8) (by decide) (by decide) (small _), Nat.zero_or, Nat.zero_or, Nat.mod_eq_of_lt (small _)]

theorem thmLim_lowers (write : s.Writable t req 0x41) (canon : s.Canonical) (fresh : s.Fresh (.thmLim t req v)) :
    ∃ n, exec (.thmLim t req v) s = .next n ∧
      (∀ i : Fin 3, fld (rget n.regs Reg.THM_LIM) (8 * i) 8 =
        min (fld (rget s.regs Reg.THM_LIM) (8 * i) 8) (fld v (8 * i) 8)) ∧
      RegsOnly [Reg.THM_LIM] s n ∧ Only [.now, .regs] s n := by
  have e : exec (.thmLim t req v) s = .next ((s.stamp t).writeLim v) :=
    (onCore_on write.1 : execThmLim t req v s = _).trans (congrArg _ ((State.once_fresh fresh).trans write.access))
  refine ⟨_, e, fun i => ?_, fun a ha => rget_rset_ne (fun k => ha (k ▸ List.mem_singleton_self _)),
    .app Only.set_regs rfl (.app State.stamp_only rfl .refl)⟩
  have word : rget ((s.stamp t).writeLim v).regs Reg.THM_LIM = limField (rget s.regs Reg.THM_LIM) v 0 |||
      limField (rget s.regs Reg.THM_LIM) v 8 ||| limField (rget s.regs Reg.THM_LIM) v 16 := rget_rset_self canon.regs
  rw [word]
  exact limFields i

/-- A reference that is used is judged without a report (15 R539). -/
theorem State.judgeTref_used (used : s.trefUsed = true) :
    s.judgeTref = { s with thm := { s.thm with refDef := false, trefu := s.tref } } := by
  simp [State.judgeTref, State.trefu, used, noteIf, State.report_nil]

theorem thmTref_used (write : s.Writable t req 0x41) (canon : s.Canonical) (gpr : s.glade.hasGpr = true)
    (low : s.glade.trefLimits.1 ≤ signed 16 (fld v 0 16)) (high : signed 16 (fld v 0 16) ≤ s.glade.trefLimits.2) :
    ∃ n, exec (.thmTref t req v) s = .next n ∧ rget n.regs Reg.THM_TREF = at32 0 (fld v 0 16) ∧
      n.thm = { s.thm with trefFresh := true, refDef := false, trefu := signed 16 (fld v 0 16) } ∧
      RegsOnly [Reg.THM_TREF] s n ∧ Only [.now, .regs, .thm] s n := by
  let u : State := State.hit Reg.THM_TREF 1 { s.stamp t with
    regs := rset Reg.THM_TREF (at32 0 (fld v 0 16)) s.regs
    thm := { s.thm with trefFresh := true } }
  have word : rget u.regs Reg.THM_TREF = at32 0 (fld v 0 16) := rget_rset_self canon.regs
  have tref : u.tref = signed 16 (fld v 0 16) := by
    rw [State.tref, word, fld_at32 (by decide), Nat.mod_eq_of_lt fld_lt]
  have used : u.trefUsed = true := by
    rw [State.trefUsed, tref]
    simp only [Bool.and_eq_true, decide_eq_true_eq]
    exact ⟨⟨⟨rfl, gpr⟩, low⟩, high⟩
  have e : exec (.thmTref t req v) s = .next u.judgeTref :=
    (onCore_on write.1 : execThmTref t req v s = _).trans (congrArg _ write.access)
  rw [State.judgeTref_used used, tref] at e
  exact ⟨_, e, word, rfl, fun a ha => rget_rset_ne (fun k => ha (k ▸ List.mem_singleton_self _)),
    .app Only.set_thm rfl (.app State.hit_only rfl (.app Only.set_regs_thm rfl (.app State.stamp_only rfl .refl)))⟩

theorem trefStale_ends (on : s.coreOn = true) (canon : s.Canonical) (gpr : s.glade.hasGpr = true)
    (was : s.thm.refDef = false) (silent : (s.stamp t).trefWritten = false) :
    ∃ n, exec (.trefStale t) s = .next n ∧
      n.thm = { s.thm with trefFresh := false, refDef := true, trefu := s.glade.trefLimits.2 } ∧
      Raised [Src.THM_REFDEF] s n ∧ rget n.regs (rawOf 0x41) = rget s.regs (rawOf 0x41) ||| 16 ∧
      RegsOnly [rawOf 0x41] s n ∧ Only [.now, .regs, .thm, .flt] s n := by
  let u : State := { s.stamp t with thm := { s.thm with trefFresh := false } }
  have e : exec (.trefStale t) s = .next u.judgeTref :=
    (onCore_on on : execTrefStale t s = _).trans (congrArg _ (State.when_true (by simp [silent])))
  have unused : u.trefUsed = false := by simp [State.trefUsed, u]
  have refu : u.trefu = s.glade.trefLimits.2 := by
    rw [State.trefu, unused]
    exact if_pos gpr
  have judged : u.judgeTref = { u with thm := { s.thm with trefFresh := false, refDef := true, trefu := s.glade.trefLimits.2 } }.report
      [.raise Src.THM_REFDEF, .irq 0x41 4] := by
    rw [State.judgeTref, unused, refu, show u.thm.refDef = false from was]
    rfl
  rw [judged] at e
  exact ⟨_, e, rfl, rfl, State.report_reads canon.regs rfl rfl, State.report_regsOnly_of (fun _ h => h) rfl,
    .app State.report_parts rfl (.app Only.set_thm rfl (.app Only.set_thm rfl (.app State.stamp_only rfl .refl)))⟩

end

/-! ### A step of the die model (15 R538–R545) -/

/-- Notes of two lists keep to the parts that both keep to. -/
theorem parts_append {l m : List Note} {f : Part → Bool} (hl : (l.flatMap Note.parts).all f = true)
    (hm : (m.flatMap Note.parts).all f = true) : ((l ++ m).flatMap Note.parts).all f = true := by
  rw [List.flatMap_append, List.all_append, hl, hm]
  rfl

/-- Notes of two lists keep to the words that both keep to. -/
theorem words_append {l m : List Note} {w : List Nat} (hl : l.flatMap Note.words ⊆ w) (hm : m.flatMap Note.words ⊆ w) :
    (l ++ m).flatMap Note.words ⊆ w := by
  rw [List.flatMap_append]
  exact List.append_subset.mpr ⟨hl, hm⟩

/-- A hardware record changes the log, and raises a source where the ring is full. -/
theorem State.logHw_parts {code src data : Nat} {s : State} : Only [.flt, .log] s (s.logHw code src data) := by
  unfold State.logHw State.logBy
  exact .ite (.app State.report_parts (noteIf_parts rfl) (.app Only.set_log rfl .refl)) .refl

/-- The temperatures of a step on a block whose reference has been judged. -/
def State.heated (s : State) : Thermal :=
  { s.thm.heat s.pwr.total s.glade.board with
    tj := tjOf (s.thm.heat s.pwr.total s.glade.board) (fld (rget s.regs Reg.THM_TJADD) 0 8) }

/-- The thermal states after the step. -/
def State.heatJudged (s : State) : Thermal := s.heated.judge (s.limit 0) (s.limit 1) (s.limit 2)

/-- What a step reports. -/
def State.stepNotes (s : State) : List Note :=
  s.pwr.readings ++ [Note.word Reg.THM_TJMAX (tjWord (s.tjMax s.heated.tj))] ++ thermNotes s.heated s.heatJudged

/-- The block with the step's temperatures, states, reports and record. -/
def State.stepped (s : State) : State :=
  ({ s with
    thm := s.heatJudged, pwr := s.pwr.newStep
    fab := { s.fab with mTherm := mThermEntry s.heated s.heatJudged s.fab.mTherm } }.report s.stepNotes).when
      (s.heated.bits != s.heatJudged.bits)
      (State.logHw 0x0040 0xFF (s.heatJudged.bits + twos 16 s.heated.tj * 65536))

section
variable {s m : State}

theorem State.dieStep_eq : m.dieStep = (m.judgeTref.stepped.meter.when
    (!m.judgeTref.heated.shut && m.judgeTref.heatJudged.shut) State.openWindow).when
      (m.judgeTref.heated.shut && !m.judgeTref.heatJudged.shut) State.restart := rfl

/-- The register words that a step of the die model changes. -/
def stepWords : List Nat :=
  [0x40044, 0x40048, 0x4004C, 0x40050, 0x40054, 0x40058, 0x4005C, 0x40060, Reg.THM_TJMAX, rawOf 0x41, Reg.THM_THROTCNT,
    Reg.THM_SHUTCNT]

theorem thermNotes_words {a b : Thermal} : (thermNotes a b).flatMap Note.words ⊆ stepWords :=
  words_append (words_append (words_append (noteIf_words (by decide)) (noteIf_words (by decide))) (noteIf_words (by decide)))
    (noteIf_words (by decide))

theorem thermNotes_parts {a b : Thermal} : ((thermNotes a b).flatMap Note.parts).all [Part.now, .regs, .flt].contains = true :=
  parts_append (parts_append (parts_append (noteIf_parts rfl) (noteIf_parts rfl)) (noteIf_parts rfl)) (noteIf_parts rfl)

theorem State.stepNotes_words : s.stepNotes.flatMap Note.words ⊆ stepWords :=
  words_append (words_append (show [_, _, _, _, _, _, _, _] ⊆ _ by decide)
    (show [Reg.THM_TJMAX] ⊆ _ by decide)) thermNotes_words

theorem State.stepNotes_parts : (s.stepNotes.flatMap Note.parts).all [Part.now, .regs, .flt].contains = true :=
  parts_append (parts_append rfl rfl) thermNotes_parts

/-- What the judgement of the reference leaves. -/
theorem State.judgeTref_parts : Only [.now, .regs, .thm, .flt] m m.judgeTref :=
  .app State.report_parts (noteIf_parts rfl) (.app Only.set_thm rfl .refl)

theorem State.judgeTref_words : RegsOnly [rawOf 0x41] m m.judgeTref :=
  State.report_regsOnly_of (noteIf_words fun _ h => h) rfl

/-- The step's block before its record. -/
theorem State.stepped_record : Only [.flt, .log] ({ s with
    thm := s.heatJudged, pwr := s.pwr.newStep
    fab := { s.fab with mTherm := mThermEntry s.heated s.heatJudged s.fab.mTherm } }.report s.stepNotes) s.stepped :=
  Only.when (fun _ h => .app State.logHw_parts rfl h) .refl

theorem State.stepped_thm : s.stepped.thm = s.heatJudged := State.stepped_record .thm rfl

theorem State.stepped_pwr : s.stepped.pwr = s.pwr.newStep := State.stepped_record .pwr rfl

theorem State.stepped_now : s.stepped.now = s.now := (State.stepped_record .now rfl).1

theorem State.stepped_fab :
    s.stepped.fab = { s.fab with mTherm := mThermEntry s.heated s.heatJudged s.fab.mTherm } := State.stepped_record .fab rfl

theorem State.stepped_regs : s.stepped.regs = s.stepNotes.foldl Note.onRegs s.regs := State.stepped_record .regs rfl

theorem State.stepped_words : RegsOnly stepWords s s.stepped := fun a ha =>
  (congrArg (rget · a) State.stepped_regs).trans (State.report_regsOnly_of (u := s) State.stepNotes_words rfl a ha)

theorem State.stepped_parts : Only [.now, .regs, .flt, .fab, .pwr, .thm, .log] s s.stepped :=
  .app State.stepped_record rfl (.app State.report_parts
    (List.all_eq_true.mpr fun p h => by
      have k := List.all_eq_true.mp (State.stepNotes_parts (s := s)) p h
      revert k
      cases p <;> decide) (.app Only.set_fab_pwr_thm rfl .refl))

/-- The orderly window and the restart after a step. -/
theorem State.dieStep_tail : Only [.now, .fab, .thm, .fst, .glade] m.judgeTref.stepped m.dieStep := by
  rw [State.dieStep_eq]
  exact Only.when (fun _ h => .app State.restart_only rfl h)
    (Only.when (fun _ h => .app State.openWindow_only rfl h) (.app State.meter_only rfl .refl))

theorem State.dieStep_parts : Only [.now, .regs, .flt, .fab, .pwr, .thm, .glade, .fst, .log] m m.dieStep :=
  .app State.dieStep_tail rfl (.app State.stepped_parts rfl (.app State.judgeTref_parts rfl .refl))

theorem State.openWindow_thm (closed : s.thm.window = false) (running : s.thm.stopped = false) :
    s.openWindow.thm = { s.thm with window := true, windowAt := s.now } := by
  simp [State.openWindow, closed, running]

theorem State.openWindow_tj : s.openWindow.thm.tj = s.thm.tj := by
  unfold State.openWindow
  split <;> rfl

theorem State.restart_tj : s.restart.thm.tj = s.thm.tj := by
  unfold State.restart
  split <;> rfl

theorem Thermal.judge_tj {h : Thermal} {a b c : Int} : (h.judge a b c).tj = h.tj := by
  unfold Thermal.judge
  dsimp only
  split <;> rfl

theorem State.dieStep_tj : m.dieStep.thm.tj = m.judgeTref.heated.tj := by
  have k : m.judgeTref.stepped.meter.thm.tj = m.judgeTref.heated.tj := by
    rw [show m.judgeTref.stepped.meter.thm = m.judgeTref.stepped.thm from rfl, State.stepped_thm]
    exact Thermal.judge_tj
  rw [State.dieStep_eq, ← k]
  unfold State.when
  split_ifs
  · rw [State.restart_tj, State.openWindow_tj]
  · rw [State.restart_tj]
  · rw [State.openWindow_tj]
  · rfl

/-- The temperature of a step, from the block before it. -/
theorem State.judged_tj : m.judgeTref.heated.tj =
    tjOf ({ m.thm with trefu := m.trefu }.heat m.pwr.total m.glade.board) (fld (rget m.regs Reg.THM_TJADD) 0 8) := by
  rw [State.heated, State.judgeTref_words Reg.THM_TJADD (by decide)]
  rfl

theorem State.judged_shutLimit : m.judgeTref.limit 2 = (16 * fld (rget m.regs Reg.THM_LIM) 16 8 : Nat) := by
  rw [State.limit, State.judgeTref_words Reg.THM_LIM (by decide)]

/-- The entry to SHUT. -/
theorem State.heatJudged_hot (hot : s.limit 2 ≤ s.heated.tj) :
    s.heatJudged = { s.heated with warn := true, throt := true, shut := true, dwellW := 100, dwellT := 100 } := by
  simp [State.heatJudged, Thermal.judge, shutStep, hot]

theorem State.logHw_raised {code src data : Nat} {x : Fin 171} (h : x ∈ s.flt.raised) :
    x ∈ (s.logHw code src data).flt.raised := by
  unfold State.logHw State.logBy
  split
  · exact List.mem_append_left _ h
  · exact h

theorem State.stepped_raised {x : Fin 171} (h : x ∈ s.stepNotes.filterMap Note.src) : x ∈ s.stepped.flt.raised := by
  unfold State.stepped State.when
  split
  · exact State.logHw_raised (List.mem_append_right _ h)
  · exact List.mem_append_right _ h

/-- The count of entries to SHUT after a step's notes. -/
theorem thermNotes_shutCount {a b : Thermal} {v : Word} (cool : a.shut = false) (hot : b.shut = true) :
    (thermNotes a b).foldl (Note.onWord Reg.THM_SHUTCNT) v = satAdd v 1 := by
  have warn {c : Bool} : (noteIf c [.irq 0x41 0, .raise Src.THM_WARN]).foldl (Note.onWord Reg.THM_SHUTCNT) v = v := by
    rw [noteIf_onWord, Note.foldl_onWord (by decide), ite_self]
  have throt {c : Bool} : (noteIf c [.irq 0x41 1, .raise Src.THM_THROT, .count Reg.THM_THROTCNT 1]).foldl
      (Note.onWord Reg.THM_SHUTCNT) v = v := by
    rw [noteIf_onWord, Note.foldl_onWord (by decide), ite_self]
  have leave {c : Bool} {w : Word} : (noteIf c [.irq 0x41 3]).foldl (Note.onWord Reg.THM_SHUTCNT) w = w := by
    rw [noteIf_onWord, Note.foldl_onWord (by decide), ite_self]
  rw [thermNotes, List.foldl_append, List.foldl_append, List.foldl_append, leave, warn, throt, noteIf_onWord, cool, hot]
  rfl

theorem State.stepped_shutCount (canon : s.Canonical) (cool : s.heated.shut = false) (hot : s.heatJudged.shut = true) :
    rget s.stepped.regs Reg.THM_SHUTCNT = satAdd (rget s.regs Reg.THM_SHUTCNT) 1 := by
  rw [State.stepped_regs, ← State.report_regs, State.rget_report canon.regs]
  rw [State.stepNotes, List.foldl_append, thermNotes_shutCount cool hot]
  rfl

theorem State.stepInputs_now : s.stepInputs.now = s.now := by
  refine State.takeFirst_induction (P := fun v => v.now = s.now) (fun _ _ h => h) (fun k f found v hv => ?_) rfl
  rw [← hv]
  have access {req : Req} {page : Nat} {g : State → State} (h : (g v).now = v.now) : (v.access req page g).now = v.now := by
    unfold State.access
    split
    · rfl
    · split
      · exact h
      · rfl
  split at found
  all_goals cases found
  · exact access rfl
  · exact access rfl
  · rfl
  · rfl

/-- A step above T_S enters SHUT (15 R542–R545). -/
theorem State.dieStep_shut (canon : m.Canonical) (cool : m.thm.shut = false) (closed : m.thm.window = false)
    (running : m.thm.stopped = false) (hot : ((16 * fld (rget m.regs Reg.THM_LIM) 16 8 : Nat) : Int) ≤ m.judgeTref.heated.tj) :
    m.dieStep.thm.warn = true ∧ m.dieStep.thm.throt = true ∧ m.dieStep.thm.shut = true ∧ m.dieStep.thm.window = true ∧
      m.dieStep.thm.windowAt = m.now ∧
      m.dieStep.fab = { m.fab with mTherm := 12, tokens := Vector.replicate 5 (16 - max m.mDroop
        (max 12 (fld (rget m.regs (Reg.FB_MREQ 0)) 0 4))) } ∧
      Src.THM_SHUT ∈ m.dieStep.flt.raised ∧
      rget m.dieStep.regs Reg.THM_SHUTCNT = satAdd (rget m.regs Reg.THM_SHUTCNT) 1 ∧ m.dieStep.glade = m.glade := by
  let u := m.judgeTref
  have judged : u.heatJudged = { u.heated with warn := true, throt := true, shut := true, dwellW := 100, dwellT := 100 } :=
    State.heatJudged_hot (State.judged_shutLimit.symm ▸ hot)
  have before : u.heated.shut = false := cool
  have after : u.heatJudged.shut = true := by rw [judged]
  have step : m.dieStep = u.stepped.meter.openWindow := by
    rw [State.dieStep_eq, State.when_false (by rw [before, after]; rfl), State.when_true (by rw [before, after]; rfl)]
  have thm : u.stepped.meter.thm = u.heatJudged := State.stepped_thm
  have w : u.stepped.meter.thm.window = false := by rw [thm, judged]; exact closed
  have z : u.stepped.meter.thm.stopped = false := by rw [thm, judged]; exact running
  have now : u.stepped.meter.now = m.now := State.stepped_now
  have opened : m.dieStep.thm = { u.heatJudged with window := true, windowAt := m.now } := by
    rw [step, State.openWindow_thm w z, thm, now]
  have fab : m.dieStep.fab = u.stepped.meter.fab := by
    rw [step]
    exact State.openWindow_only .fab rfl
  have glade : m.dieStep.glade = u.stepped.meter.glade := by
    rw [step]
    exact State.openWindow_only .glade rfl
  have flt : m.dieStep.flt = u.stepped.flt := State.dieStep_tail .flt rfl
  have regs : m.dieStep.regs = u.stepped.regs := State.dieStep_tail .regs rfl
  have leaves (a : Nat) (h : a ∉ stepWords) (k : a ∉ [rawOf 0x41]) : rget u.stepped.regs a = rget m.regs a :=
    (State.stepped_words a h).trans (State.judgeTref_words a k)
  have level : u.stepped.mDroop = m.mDroop := by
    rw [State.mDroop, State.stepped_pwr, State.active, ract, leaves _ (by decide) (by decide)]
    rfl
  have entry : u.stepped.fab = { m.fab with mTherm := 12 } := by
    rw [State.stepped_fab, mThermEntry, before, after]
    rfl
  have canon' : u.Canonical := State.judgeTref_canon canon
  refine ⟨?_, ?_, ?_, ?_, ?_, ?_, ?_, ?_, ?_⟩
  · rw [opened, judged]
  · rw [opened, judged]
  · rw [opened, judged]
  · rw [opened]
  · rw [opened]
  · rw [fab, State.meter_fab level (leaves _ (by decide) (by decide)), entry]
    rfl
  · rw [flt]
    refine State.stepped_raised (List.mem_filterMap.mpr ⟨.raise Src.THM_SHUT, ?_, rfl⟩)
    simp [State.stepNotes, thermNotes, noteIf, before, after]
  · rw [regs, State.stepped_shutCount canon' before after, State.judgeTref_words _ (by decide)]
  · rw [glade]
    exact (State.stepped_parts (s := u) .glade rfl).trans (State.judgeTref_parts .glade rfl)

end

/-! ### Throttling (15 R544) -/

theorem throttleStep_level {t : Nat} {s : State} {k : BitVec 4} (on : s.coreOn = true)
    (h : k = mThermStep s.thm.throt (decide (s.limit 1 ≤ s.thm.tj)) s.fab.mTherm) :
    ∃ n, exec (.throttleStep t) s = .next n ∧
      n.fab = { s.fab with mTherm := k, tokens := Vector.replicate 5 (16 - max s.mDroop
        (max k.toNat (fld (rget s.regs (Reg.FB_MREQ 0)) 0 4))) } ∧ Only [.now, .fab] s n := by
  subst h
  exact ⟨_, (onCore_on on : execThrottleStep t s = _), State.meter_fab rfl rfl,
    .app State.meter_only rfl (.app Only.set_fab rfl (.app State.stamp_only rfl .refl))⟩

/-- Settles O14. -/
theorem dieTemperatureAndThermalLimits : Obligations.DieTemperatureAndThermalLimits := by
  unfold Obligations.DieTemperatureAndThermalLimits
  refine ⟨fun t req v s write canon => ⟨fun fresh => thmTjadd_raises write canon fresh,
      fun fresh => thmLim_lowers write canon fresh⟩,
    fun t s canon gpr => ⟨fun req v write low high => thmTref_used write canon gpr low high,
      fun on was silent => trefStale_ends on canon gpr was silent, fun on written => ?_⟩,
    fun t s m on canon hm => ⟨fun j hj => ?_, fun k h => throttleStep_level on ?_⟩⟩
  · exact (onCore_on on : execTrefStale t s = _).trans (congrArg _ (State.when_false (by simp [written])))
  · have e : exec (.dieModelStep t) s = .next m.dieStep := by
      rw [hm]
      exact (onCore_on on : execDieModelStep t s = _)
    have canon : m.Canonical := hm ▸ State.stepInputs_canon (.only State.stamp_only rfl canon)
    have now : m.now = max s.now t := by
      rw [hm, State.stepInputs_now]
      rfl
    have tj : m.judgeTref.heated.tj = j := State.judged_tj.trans hj.symm
    have pwr : m.dieStep.pwr = m.pwr.newStep :=
      (State.dieStep_tail .pwr rfl : m.dieStep.pwr = _).trans State.stepped_pwr
    refine ⟨_, e, State.dieStep_tj.trans tj, ?_, ?_, ?_, State.dieStep_parts, fun cool closed running hot => ?_⟩
    · rw [pwr]
      rfl
    · rw [pwr]
      rfl
    · rw [pwr]
      rfl
    · have k := State.dieStep_shut canon cool closed running (tj.symm ▸ hot)
      rwa [now] at k
  · rcases h with ⟨throt, hot, rfl⟩ | ⟨throt, cool, rfl⟩ | ⟨throt, rfl⟩
    · rw [throt, show decide (s.limit 1 ≤ s.thm.tj) = true from decide_eq_true hot]
      rfl
    · rw [throt, show decide (s.limit 1 ≤ s.thm.tj) = false from decide_eq_false (Int.not_le.mpr cool)]
      rfl
    · rw [throt]
      rfl

end Sys2Proof.Machine
end

section
/-! Commanded shutdown and the orderly window. -/

namespace Sys2Proof.Machine

open Sys2Proof

/-! ### Commanded shutdown (20 R707, R708) -/

section
variable {t : Nat} {req : Req} {v : Word} {s : State}

theorem State.shutdownError_top : s.shutdownError.top = { s.top with sdErr := true } := rfl

theorem State.shutdownError_parts : Only [.now, .top] s s.shutdownError :=
  .app State.hit_only rfl (.app Only.set_top rfl .refl)

theorem exec_shutdownStart (write : s.Writable t req 0x00) :
    exec (.shutdownStart t req v) s = .next ((s.stamp t).writeShdn true v) :=
  (onCore_on write.1 : execShutdownStart t req v s = _).trans (congrArg _ write.access)

theorem exec_shutdownEnd (write : s.Writable t req 0x00) :
    exec (.shutdownEnd t req v) s = .next ((s.stamp t).writeShdn false v) :=
  (onCore_on write.1 : execShutdownEnd t req v s = _).trans (congrArg _ write.access)

theorem State.writeShdn_start (key : fld v 16 16 = 0x5D0E) : s.writeShdn true v = s.shutdownOn := if_pos key

theorem State.writeShdn_end (key : fld v 16 16 = 0x5D0E) : s.writeShdn false v = s.shutdownOff := if_pos key

theorem State.writeShdn_wrong {on : Bool} (key : fld v 16 16 ≠ 0x5D0E) : s.writeShdn on v = s.shutdownError := if_neg key

/-- A second start sets SDERR, whatever its key. -/
theorem State.writeShdn_again (force : s.top.cmdSd = true) : s.writeShdn true v = s.shutdownError := by
  by_cases key : fld v 16 16 = 0x5D0E
  · rw [State.writeShdn_start key]
    exact if_pos force
  · exact State.writeShdn_wrong key

/-- An end without a shutdown in force, or before its window is over, sets SDERR, whatever its key. -/
theorem State.writeShdn_early (h : s.top.cmdSd = false ∨ s.thm.window = true ∨ s.windowEnds = true) :
    s.writeShdn false v = s.shutdownError := by
  by_cases key : fld v 16 16 = 0x5D0E
  · refine (State.writeShdn_end key).trans (if_neg ?_)
    rcases h with h | h | h <;> simp [h]
  · exact State.writeShdn_wrong key

theorem shutdownStart_first (write : s.Writable t req 0x00) (key : fld v 16 16 = 0x5D0E) (idle : s.top.cmdSd = false)
    (closed : s.thm.window = false) (running : s.thm.stopped = false) :
    ∃ n, exec (.shutdownStart t req v) s = .next n ∧ n.top = { s.top with cmdSd := true } ∧
      n.thm = { s.thm with window := true, windowAt := max s.now t } ∧ n.fst = s.fst.raiseIrq 2 ∧
      Only [.now, .top, .thm, .fst] s n := by
  let u : State := { s.stamp t with top := { s.top with cmdSd := true } }
  have on : (s.stamp t).writeShdn true v = u.openWindow := by
    rw [State.writeShdn_start key]
    simp [State.shutdownOn, idle, u]
  have fst : u.openWindow.fst = s.fst.raiseIrq 2 := by simp [State.openWindow, closed, running, u]
  exact ⟨_, (exec_shutdownStart write).trans (congrArg _ on), State.openWindow_only (s := u) .top rfl,
    State.openWindow_thm closed running, fst,
    .app State.openWindow_only rfl (.app Only.set_top rfl (.app State.stamp_only rfl .refl))⟩

theorem shutdownEnd_restarts (write : s.Writable t req 0x00) (key : fld v 16 16 = 0x5D0E) (force : s.top.cmdSd = true)
    (closed : s.thm.window = false) (ended : (s.stamp t).windowEnds = false) (cool : s.thm.shut = false)
    (stopped : s.thm.stopped = true) :
    ∃ n, exec (.shutdownEnd t req v) s = .next n ∧ n.top = { s.top with cmdSd := false } ∧
      n.thm = { s.thm with stopped := false } ∧
      n.fst = { s.fst with
        st := if s.fst.st = .reset then .rom else s.fst.st
        spi := if s.fst.st = .reset then {} else s.fst.spi } ∧
      n.glade.wdBoot = true ∧ n.glade.wdStopped = false ∧ n.glade.st = s.glade.st ∧
      Only [.now, .top, .thm, .fst, .glade] s n := by
  let u : State := { s.stamp t with top := { s.top with cmdSd := false } }
  have off : (s.stamp t).writeShdn false v = u.restart := by
    rw [State.writeShdn_end key]
    simp [State.shutdownOff, force, closed, ended, u]
  have restart : u.restart = { u with
      thm := { s.thm with stopped := false }
      fst := { s.fst with st := if s.fst.st = .reset then .rom else s.fst.st, spi := if s.fst.st = .reset then {} else s.fst.spi }
      glade := s.glade.wdRestart (max s.now t) false } := by
    exact if_pos (by simp [u, cool, stopped])
  refine ⟨_, (exec_shutdownEnd write).trans (congrArg _ (off.trans restart)), rfl, rfl, rfl, rfl, rfl, rfl,
    .app Only.set_thm_glade_fst rfl (.app Only.set_top rfl (.app State.stamp_only rfl .refl))⟩

end

/-! ### The orderly window's end (15 R545) -/

/-- Nothing of a surface changes but that its frame may become incomplete. -/
def State.LosesFrames (s v : State) : Prop :=
  ∀ u : Fin 2, v.surf[u] = { s.surf[u] with complete := (v.surf[u]).complete } ∧
    ((v.surf[u]).complete = true → (s.surf[u]).complete = true)

theorem State.LosesFrames.of_eq {s v : State} (h : v.surf = s.surf) : s.LosesFrames v := fun u => by
  rw [h]
  exact ⟨rfl, id⟩

theorem State.LosesFrames.trans {s v w : State} (h : s.LosesFrames v) (k : v.LosesFrames w) : s.LosesFrames w := fun u => by
  obtain ⟨same, less⟩ := h u
  obtain ⟨same', less'⟩ := k u
  refine ⟨?_, less ∘ less'⟩
  rw [same', same]

theorem State.stopComposing_losesFrames {u : Fin 2} {s : State} : s.LosesFrames (s.stopComposing u) := fun w => by
  by_cases e : w = u
  · subst e
    simp [State.stopComposing]
  · have h : (s.stopComposing u).surf[w] = s.surf[w] := Vector.getElem_set_fin_ne e
    rw [h]
    exact ⟨rfl, id⟩

theorem State.failFrame_losesFrames {st : Fin 4} {nx : Bool} {s : State} : s.LosesFrames (s.failFrame st nx) := by
  unfold State.failFrame
  dsimp only
  split
  case h_1 => exact .of_eq rfl
  case h_2 f _ =>
    split
    · exact .of_eq rfl
    · refine .trans (v := State.when _ _ _) ?_ (.of_eq rfl)
      unfold State.when
      split
      · exact .trans (.of_eq rfl) State.stopComposing_losesFrames
      · exact .of_eq rfl

theorem State.failOpen_losesFrames {st : Fin 4} {s : State} : s.LosesFrames (s.failOpen st) :=
  .trans State.failFrame_losesFrames State.failFrame_losesFrames

theorem State.stopSurface_comp {s : State} {u : Fin 2} : (s.stopSurface u).comp[u] =
    { s.comp[u] with composing := false, waitIntake := false, discard := true } := Vector.getElem_set_self _

/-- Every surface's composer stops and discards. -/
theorem State.stopSurfaces_comp {s : State} (u : Fin 2) :
    ((surfaces.foldl State.stopSurface s).comp[u]).composing = false ∧
      ((surfaces.foldl State.stopSurface s).comp[u]).discard = true := by
  have both : surfaces.foldl State.stopSurface s = (s.stopSurface 0).stopSurface 1 := rfl
  rw [both]
  match u with
  | 0 =>
    have first : ((s.stopSurface 0).stopSurface 1).comp[(0 : Fin 2)] = (s.stopSurface 0).comp[(0 : Fin 2)] :=
      Vector.getElem_set_fin_ne (by decide)
    rw [first, State.stopSurface_comp]
    exact ⟨rfl, rfl⟩
  | 1 =>
    rw [State.stopSurface_comp]
    exact ⟨rfl, rfl⟩

section
variable {s : State} {c : ForCause} {held : Bool}

theorem State.resetForester_fst : (s.resetForester c held).fst = s.fst.reset c held := State.logHw_parts .fst rfl

theorem State.resetForester_glade : (s.resetForester c held).glade = s.glade.wdRestart s.now held :=
  State.logHw_parts .glade rfl

theorem State.resetForester_sec : (s.resetForester c held).sec = { s.sec with romPhase := true } :=
  State.logHw_parts .sec rfl

theorem State.resetForester_regs : (s.resetForester c held).regs = foresterRegs c s.regs := State.logHw_parts .regs rfl

end

/-- The intake and both composers stopped. -/
def State.stopSides (s : State) : State :=
  surfaces.foldl State.stopSurface (intakes.foldl (fun (s : State) st => s.failOpen st) s)

theorem State.stopSides_only {s : State} : Only [.now, .regs, .live, .surf, .intake, .comp, .flt, .out] s s.stopSides :=
  .foldl (.foldl .refl (fun _ _ h => .app State.failOpen_only rfl h)) (fun _ _ h => .app State.stopSurface_only rfl h)

theorem State.stopSides_losesFrames {s : State} : s.LosesFrames s.stopSides := by
  have stops : Only [.comp] (intakes.foldl (fun (s : State) st => s.failOpen st) s) s.stopSides :=
    .foldl .refl (fun _ _ h => .app State.stopSurface_only rfl h)
  exact .trans (List.foldlRecOn intakes _ (.of_eq rfl) (fun v hv st _ => hv.trans State.failOpen_losesFrames))
    (.of_eq (stops .surf rfl))

theorem State.stopParts_eq {s : State} : s.stopParts =
    (({ s with thm := { s.thm with stopped := true } }.resetForester .shutdown true).closeNor s.fst.spi).stopSides := rfl

/-- What stops at the end of the orderly window of a shutdown in force. -/
theorem State.stopParts_stops {s : State} :
    s.stopParts.thm = { s.thm with stopped := true } ∧ s.stopParts.fst.st = .reset ∧ s.stopParts.fst.cause = 2 ∧
      s.stopParts.fst.tcm = s.fst.tcm ∧ s.stopParts.glade.wdStopped = true ∧ s.stopParts.glade.st = s.glade.st ∧
      s.stopParts.sec.romPhase = true ∧ s.LosesFrames s.stopParts ∧
      ∀ u : Fin 2, (s.stopParts.comp[u]).composing = false ∧ (s.stopParts.comp[u]).discard = true := by
  rw [State.stopParts_eq]
  have fst := State.resetForester_fst (s := { s with thm := { s.thm with stopped := true } }) (c := .shutdown) (held := true)
  have glade := State.resetForester_glade (s := { s with thm := { s.thm with stopped := true } }) (c := .shutdown) (held := true)
  have sec := State.resetForester_sec (s := { s with thm := { s.thm with stopped := true } }) (c := .shutdown) (held := true)
  have others := State.resetForester_only (s := { s with thm := { s.thm with stopped := true } }) (c := .shutdown) (held := true)
  have thm := others .thm rfl
  have surf := others .surf rfl
  generalize State.resetForester .shutdown true _ = r at fst glade sec thm surf ⊢
  have nor : Only [.now, .regs, .live, .flt, .fst, .out] r (r.closeNor s.fst.spi) := State.closeNor_only
  have norFst : (r.closeNor s.fst.spi).fst = { r.fst with spi := s.fst.spi.close } := rfl
  have norThm := (nor .thm rfl).trans thm
  have norGlade := (nor .glade rfl).trans glade
  have norSec := (nor .sec rfl).trans sec
  have norSurf := (nor .surf rfl).trans surf
  generalize r.closeNor s.fst.spi = v at norFst norThm norGlade norSec norSurf ⊢
  have sides : Only [.now, .regs, .live, .surf, .intake, .comp, .flt, .out] v v.stopSides := State.stopSides_only
  have endFst : v.stopSides.fst = v.fst := sides .fst rfl
  have endGlade : v.stopSides.glade = v.glade := sides .glade rfl
  have endSec : v.stopSides.sec = v.sec := sides .sec rfl
  have endThm : v.stopSides.thm = v.thm := sides .thm rfl
  rw [endFst, endGlade, endSec, endThm, norFst, norThm, norGlade, norSec, fst]
  exact ⟨rfl, rfl, rfl, rfl, rfl, rfl, rfl, .trans (.of_eq norSurf) State.stopSides_losesFrames, State.stopSurfaces_comp⟩

/-- The block with its orderly window closed. -/
def State.closeWindow (s : State) : State := { s with thm := { s.thm with window := false } }.keepAs Reg.TOP_SHDNSTAT 2

theorem State.orderlyEnd_eq {s : State} : s.orderlyEnd =
    (s.closeWindow.when (s.thm.shut || s.top.cmdSd) State.stopParts).report (noteIf s.top.cmdSd [.irq 0x00 3]) := rfl

theorem exec_orderlyWindowEnd {t : Nat} {s : State} (on : s.coreOn = true) (window : s.thm.window = true) :
    exec (.orderlyWindowEnd t) s = .next (s.stamp t).orderlyEnd :=
  (onCore_on on : execOrderlyWindowEnd t s = _).trans (congrArg _ (State.when_true window))

/-- The end of the orderly window of a shutdown in force. -/
theorem orderlyWindowEnd_stops {t : Nat} {s : State} (on : s.coreOn = true) (window : s.thm.window = true)
    (force : s.thm.shut = true ∨ s.top.cmdSd = true) :
    ∃ n, exec (.orderlyWindowEnd t) s = .next n ∧
      n.thm = { s.thm with window := false, stopped := true } ∧ n.fst.st = .reset ∧ n.fst.cause = 2 ∧
      n.fst.tcm = s.fst.tcm ∧ n.glade.wdStopped = true ∧ n.glade.st = s.glade.st ∧ n.sec.romPhase = true ∧
      (∀ u : Fin 2, (n.comp[u]).composing = false ∧ (n.comp[u]).discard = true ∧
        n.surf[u] = { s.surf[u] with complete := (n.surf[u]).complete } ∧
        ((n.surf[u]).complete = true → (s.surf[u]).complete = true)) ∧ n.top = s.top ∧
      n.lane = s.lane ∧ Only (touches (.orderlyWindowEnd t)) s n := by
  have e := exec_orderlyWindowEnd (t := t) on window
  have parts : Only (touches (.orderlyWindowEnd t)) s (s.stamp t).orderlyEnd := exec_only _ e
  rw [State.orderlyEnd_eq, State.when_true (by rcases force with h | h <;> simp [h])] at e parts
  obtain ⟨thm, st, cause, tcm, wd, gst, rom, frames, comps⟩ := State.stopParts_stops (s := (s.stamp t).closeWindow)
  have rest := State.stopParts_only (s := (s.stamp t).closeWindow)
  have top : (s.stamp t).closeWindow.stopParts.top = s.top := rest .top rfl
  have lane : (s.stamp t).closeWindow.stopParts.lane = s.lane := rest .lane rfl
  clear rest
  generalize (s.stamp t).closeWindow.stopParts = v at *
  refine ⟨_, e, thm, st, cause, tcm, wd, gst, rom, fun w => ?_, top, lane, parts⟩
  obtain ⟨composing, discard⟩ := comps w
  obtain ⟨same, less⟩ := frames w
  exact ⟨composing, discard, same, less⟩

/-- The end of the orderly window of a shutdown that is over. -/
theorem orderlyWindowEnd_closes {t : Nat} {s : State} (on : s.coreOn = true) (window : s.thm.window = true)
    (cool : s.thm.shut = false) (idle : s.top.cmdSd = false) :
    ∃ n, exec (.orderlyWindowEnd t) s = .next n ∧ n.thm = { s.thm with window := false } ∧ Only [.now, .thm] s n := by
  have e := exec_orderlyWindowEnd (t := t) on window
  rw [State.orderlyEnd_eq, State.when_false (by simp [cool, idle]), State.stamp_top, idle] at e
  exact ⟨_, e.trans (congrArg _ State.report_nil), rfl,
    .app State.keepAs_only rfl (.app Only.set_thm rfl (.app State.stamp_only rfl .refl))⟩

/-- Settles O15. -/
theorem shutdownAndItsWindow : Obligations.ShutdownAndItsWindow := by
  unfold Obligations.ShutdownAndItsWindow
  refine ⟨fun t req v s write => ⟨shutdownStart_first write, shutdownEnd_restarts write, fun c h => ?_⟩,
    fun t s on window => ⟨orderlyWindowEnd_stops on window, orderlyWindowEnd_closes on window⟩⟩
  have refused : exec c s = .next (s.stamp t).shutdownError := by
    rcases h with ⟨key, rfl | rfl⟩ | ⟨force, rfl⟩ | ⟨early, rfl⟩
    · exact (exec_shutdownStart write).trans (congrArg _ (State.writeShdn_wrong key))
    · exact (exec_shutdownEnd write).trans (congrArg _ (State.writeShdn_wrong key))
    · exact (exec_shutdownStart write).trans (congrArg _ (State.writeShdn_again force))
    · exact (exec_shutdownEnd write).trans (congrArg _ (State.writeShdn_early early))
  exact ⟨_, refused, State.shutdownError_top, .app State.shutdownError_parts rfl (.app State.stamp_only rfl .refl)⟩

end Sys2Proof.Machine
end

section
/-! Resets of the chip. -/

namespace Sys2Proof.Machine

open Sys2Proof

/-! ### The event log and Forester at a start (18 R640, R654) -/

section
variable {g : Log} {x : Sec} {r : List Word} {s : State} {c : ForCause} {held uv : Bool} {code src data : Nat}

theorem Log.seal_wr : (g.seal x).wr = g.wr := by
  unfold Log.seal
  split <;> rfl

theorem Log.seal_rd : (g.seal x).rd = g.rd := by
  unfold Log.seal
  split <;> rfl

theorem Log.seal_full : (g.seal x).full = g.full := by
  unfold Log.seal
  split <;> rfl

/-- A record appended to a ring with room. -/
theorem Log.append_room (room : g.full = false) : (g.append x r).wr = g.wr + 1 ∧ (g.append x r).rd = g.rd ∧
    (g.append x r).full = (g.wr + 1 == g.rd) := by
  rw [Log.append, if_neg (by rw [room]; exact Bool.false_ne_true)]
  dsimp only
  split
  · exact ⟨Log.seal_wr, Log.seal_rd, Log.seal_full⟩
  · exact ⟨rfl, rfl, rfl⟩

/-- A hardware record in a ring with room. -/
theorem State.logHw_room (on : s.coreOn = true) (room : s.log.full = false) :
    (s.logHw code src data).log.wr = s.log.wr + 1 ∧ (s.logHw code src data).log.rd = s.log.rd ∧
      (s.logHw code src data).log.full = (s.log.wr + 1 == s.log.rd) ∧ (s.logHw code src data).flt = s.flt := by
  have e : s.logHw code src data = { s with log := s.log.append s.sec (s.log.record code src false s.usecs data) } := by
    simp [State.logHw, State.logBy, on, room, noteIf, State.report_nil]
  obtain ⟨wr, rd, full⟩ := Log.append_room (x := s.sec) (r := s.log.record code src false s.usecs data) room
  rw [e]
  exact ⟨wr, rd, full, rfl⟩

theorem State.resetForester_parts : Only [.regs, .fst, .sec, .glade, .flt, .log] s (s.resetForester c held) :=
  .app State.logHw_parts rfl (.app Only.set_regs_glade_fst_sec rfl .refl)

/-- The synthesisers locked and TOP_RSTCAUSE written, before the records of a core start. -/
def State.startClocks (uv : Bool) (s : State) : State :=
  { s with
    clk := { s.clk with lockSys := true, lockOl := true, lockIl := true, lockPcie := true }
    top := { s.top with por := !uv, coreUv := uv, hostRsts := 0, phase := .startUp, startAt := s.now } }

theorem State.startClocks_parts : Only [.top, .clk] s (s.startClocks uv) := Only.set_top_clk

/-- The session record of a core start (19 R687). -/
def State.startRecord (uv : Bool) (s : State) : State :=
  (s.startClocks uv).spend.logHw 0x0050 0xFF ((Config.entropy s.free).toNat % 2 ^ 64)

theorem State.coreStart_eq : s.coreStart uv = (s.startRecord uv).resetForester .power false := rfl

theorem State.startRecord_parts : Only [.flt, .log] (s.startClocks uv).spend (s.startRecord uv) := State.logHw_parts

theorem State.coreStart_parts : Only [.free, .clk, .top, .regs, .fst, .sec, .glade, .flt, .log] s (s.coreStart uv) :=
  .app State.resetForester_parts rfl (.app State.startRecord_parts rfl
    (.app (State.spend_only (s := s.startClocks uv)) rfl
    (.app State.startClocks_parts rfl .refl)))

theorem State.coreStart_top : (s.coreStart uv).top =
    { s.top with por := !uv, coreUv := uv, hostRsts := 0, phase := .startUp, startAt := s.now } :=
  (State.resetForester_parts .top rfl).trans (State.startRecord_parts .top rfl)

theorem State.coreStart_clk : (s.coreStart uv).clk =
    { s.clk with lockSys := true, lockOl := true, lockIl := true, lockPcie := true } :=
  (State.resetForester_parts .clk rfl).trans (State.startRecord_parts .clk rfl)

theorem State.coreStart_fst : (s.coreStart uv).fst = s.fst.reset .power false :=
  State.resetForester_fst.trans (congrArg (Forester.reset · .power false) (State.startRecord_parts .fst rfl))

theorem State.coreStart_sec : (s.coreStart uv).sec = { s.sec with romPhase := true } := by
  rw [State.coreStart_eq, State.resetForester_sec, show (s.startRecord uv).sec = s.sec from State.startRecord_parts .sec rfl]

theorem State.coreStart_regs : (s.coreStart uv).regs = foresterRegs .power s.regs :=
  State.resetForester_regs.trans (congrArg (foresterRegs .power) (State.startRecord_parts .regs rfl))

theorem State.coreStart_glade : (s.coreStart uv).glade = s.glade.wdRestart s.now false := by
  have now : (s.startRecord uv).now = s.now := (State.startRecord_parts .now rfl).1
  rw [State.coreStart_eq, State.resetForester_glade, now,
    show (s.startRecord uv).glade = s.glade from State.startRecord_parts .glade rfl]

/-- The records of a core start in an empty ring, and no source raised. -/
theorem State.coreStart_log (on : s.coreOn = true) (empty : s.log = {}) :
    (s.coreStart uv).log.wr = 2 ∧ (s.coreStart uv).log.rd = 0 ∧ (s.coreStart uv).flt = s.flt := by
  have on' : (s.startClocks uv).spend.coreOn = true := on
  have first := State.logHw_room (code := 0x0050) (src := 0xFF) (data := (Config.entropy s.free).toNat % 2 ^ 64) on'
    (congrArg Log.full empty)
  obtain ⟨wr, rd, full, flt⟩ := first
  rw [show (s.startClocks uv).spend.log = {} from empty] at wr rd full
  have on'' : (s.startRecord uv).coreOn = true := by
    rw [State.coreOn, show (s.startRecord uv).top = _ from State.startRecord_parts .top rfl,
      show (s.startRecord uv).pwr = _ from State.startRecord_parts .pwr rfl]
    exact on
  obtain ⟨wr', rd', -, flt'⟩ := State.logHw_room (s := { s.startRecord uv with
    regs := foresterRegs .power (s.startRecord uv).regs, fst := (s.startRecord uv).fst.reset .power false
    sec := { (s.startRecord uv).sec with romPhase := true }
    glade := (s.startRecord uv).glade.wdRestart (s.startRecord uv).now false })
    (code := 0x0030) (src := 0xFF) (data := (causeCode .power).toNat) on'' full
  rw [State.coreStart_eq]
  refine ⟨wr'.trans ?_, rd'.trans rd, flt'.trans flt⟩
  exact congrArg (· + 1) wr

end

/-! ### PORST_N and the core reset (20 R694–R696; 15 R537) -/

section
variable {s : State} {t : Nat}

/-- A reset with no program under way. -/
theorem State.cutOtp_idle (idle : s.sec.job = none) : s.cutOtp = s := by
  unfold State.cutOtp
  rw [idle]

theorem State.lost_idle (idle : s.sec.job = none) : s.lost = { State.reset with
    now := s.now, free := s.free, sample := s.sample, out := s.out, pending := s.pending
    sec := { otp := s.sec.otp, otpBad := s.sec.otpBad }
    top := { por := s.top.por, coreUv := s.top.coreUv, hostRsts := s.top.hostRsts } } := by
  rw [State.lost, State.cutOtp_idle idle]
  rfl

theorem State.coreOff_idle (idle : s.sec.job = none) : s.coreOff = { State.reset with
    now := s.now, free := s.free, sample := s.sample, out := s.out, pending := s.pending, glade := s.glade
    sec := { otp := s.sec.otp, otpBad := s.sec.otpBad }, host := { portSpi := s.host.portSpi }
    pwr := { coreReset := true }
    top := { porst := false, por := s.top.por, coreUv := s.top.coreUv, hostRsts := s.top.hostRsts } } := by
  rw [State.coreOff, State.cutOtp_idle idle]
  rfl

/-- The block that PORST_N rising starts the core of, with HOSTSEL as sampled (13 R458). -/
def State.poweredUp (h : Bool) (s : State) : State := { State.reset with
  free := s.free, pending := s.pending, sec := { otp := s.sec.otp, otpBad := s.sec.otpBad }
  top := { porst := false, por := s.top.por, coreUv := s.top.coreUv, hostRsts := s.top.hostRsts }
  host := { portSpi := h }, glade := { inReset := false, errHold := true } }

theorem State.powerUp_idle {h : Bool} (idle : s.sec.job = none) : s.powerUp h = (s.poweredUp h).coreStart false := by
  rw [State.powerUp, State.lost_idle idle]
  rfl

theorem porstNRelease_starts {h : Bool} (idle : s.sec.job = none) (low : s.top.porst = true) :
    ∃ n, exec (.porstNRelease t h false) s = .next n ∧
      n.now = 0 ∧ n.out = [] ∧ n.regs = [] ∧ n.live = [] ∧ n.host = { portSpi := h } ∧
      n.top = { porst := false, por := true, startAt := 0 } ∧
      n.glade.inReset = false ∧ n.glade.st = .load ∧ n.glade.loadEnded = false ∧ n.glade.resetAt = 0 ∧
      n.fst.st = .rom ∧ n.fst.cause = 1 ∧ n.sec.otp = s.sec.otp ∧ n.sec.romPhase = true ∧
      n.clk.lockSys = true ∧ n.clk.lockOl = true ∧ n.clk.lockIl = true ∧ n.clk.lockPcie = true ∧
      n.log.wr = 2 ∧ n.log.rd = 0 ∧ n.tb = State.reset.tb ∧ n.surf = State.reset.surf ∧ n.lane = State.reset.lane ∧
      n.flt = State.reset.flt ∧ n.pending = s.pending := by
  have e : exec (.porstNRelease t h false) s = .next (((s.stamp t).poweredUp h).coreStart false) := by
    rw [← State.powerUp_idle (s := s.stamp t) idle]
    exact congrArg Host.Outcome.next (if_neg (by simp [low]))
  obtain ⟨wr, rd, flt⟩ := State.coreStart_log (s := (s.stamp t).poweredUp h) (uv := false) rfl rfl
  have glade := State.coreStart_glade (s := (s.stamp t).poweredUp h) (uv := false)
  have fst := State.coreStart_fst (s := (s.stamp t).poweredUp h) (uv := false)
  have sec := State.coreStart_sec (s := (s.stamp t).poweredUp h) (uv := false)
  have clk := State.coreStart_clk (s := (s.stamp t).poweredUp h) (uv := false)
  have top := State.coreStart_top (s := (s.stamp t).poweredUp h) (uv := false)
  have regs := State.coreStart_regs (s := (s.stamp t).poweredUp h) (uv := false)
  have rest := State.coreStart_parts (s := (s.stamp t).poweredUp h) (uv := false)
  generalize ((s.stamp t).poweredUp h).coreStart false = n at *
  refine ⟨n, e, (rest .now rfl).1, rest .out rfl, regs, rest .live rfl, rest .host rfl, top, ?_, ?_, ?_, ?_, ?_, ?_, ?_, ?_,
    ?_, ?_, ?_, ?_, wr, rd, rest .tb rfl, rest .surf rfl, rest .lane rfl, flt, rest .pending rfl⟩
  · rw [glade]; rfl
  · rw [glade]; rfl
  · rw [glade]; rfl
  · rw [glade]; rfl
  · rw [fst]; rfl
  · rw [fst]; rfl
  · rw [sec]; rfl
  · rw [sec]
  · rw [clk]
  · rw [clk]
  · rw [clk]
  · rw [clk]

/-- What LOAD and the watchdog hold of Glade, which a sample of its state machine leaves. -/
def Glade.kept (g : Glade) : Bool × BitVec 2 × List Byte × BitVec 20 × Store × Bool :=
  (g.loadEnded, g.gprSrc, g.gpr, g.loadUs, g.fb, g.wdBoot)

theorem Glade.transit_kept {g : Glade} {ready : Bool} : (g.transit ready).kept = g.kept := by
  unfold Glade.transit
  split
  · rfl
  · split
    case h_1 => split <;> rfl
    case h_2 => split_ifs <;> rfl
    case h_3 => split_ifs <;> rfl
    case h_4 => split_ifs <;> rfl
    case h_5 => rfl

theorem Glade.sample_kept {g : Glade} {now : Nat} {r0 r1 : Bool} : (g.sample now r0 r1).kept = g.kept :=
  Glade.transit_kept

theorem State.gladeReport_glade {x y : Glade} : (s.gladeReport x y).glade = s.glade := by
  unfold State.gladeReport
  dsimp only
  split
  · rfl
  · exact State.logHw_parts .glade rfl

theorem State.gladeSample_glade : s.gladeSample.glade = s.glade.sample s.now (s.rdy 0) (s.rdy 1) :=
  State.gladeReport_glade

theorem State.gladeSample_kept : s.gladeSample.glade.kept = s.glade.kept := by
  rw [State.gladeSample_glade, Glade.sample_kept]

theorem State.gladeSettle_kept : s.gladeSettle.glade.kept = s.glade.kept := by
  unfold State.gladeSettle
  split
  · rw [State.gladeSample_kept, State.gladeSample_kept, State.gladeSample_kept, State.gladeSample_kept]
  · rfl

/-- With no flash command waiting, the end of LOAD starts none. -/
theorem State.norRelease_idle (idle : s.fst.spi.cmd = none) : s.norRelease = s := by
  unfold State.norRelease
  rw [idle]

theorem State.coreLoaded_loadAt : s.coreLoaded.top = { s.top with loadAt := some s.now } := by
  unfold State.coreLoaded State.when
  split
  · exact State.applyProfile_only .top rfl
  · rfl

/-- What the end of LOAD leaves of the core's start. -/
theorem State.coreAfterLoad_starts (idle : s.fst.spi.cmd = none) :
    s.coreAfterLoad.fst = s.fst ∧ s.coreAfterLoad.top = { s.top with loadAt := some s.now } ∧
      s.coreAfterLoad.glade = s.glade.wdRestart s.coreLoaded.now (s.fst.st == .reset) := by
  have fst : s.coreLoaded.fst = s.fst := State.coreLoaded_only .fst rfl
  have glade : s.coreLoaded.glade = s.glade := State.coreLoaded_only .glade rfl
  have quiet : s.coreLoaded.norRelease = s.coreLoaded := State.norRelease_idle (by rw [fst]; exact idle)
  rw [State.coreAfterLoad, quiet]
  dsimp only
  rw [glade, fst]
  exact ⟨rfl, State.coreLoaded_loadAt, rfl⟩

/-- The block whose core is no longer held, before it starts. -/
def State.unheld (s : State) : State := { s with pwr := { s.pwr with coreReset := false } }

theorem State.coreUp_eq : s.coreUp = (s.unheld.coreStart true).coreAfterLoad.gladeSettle := rfl

/-- The release of the core: a core start, the end of LOAD taken at once, and Glade settled. -/
theorem State.coreUp_starts :
    s.coreUp.pwr = { s.pwr with coreReset := false } ∧
      s.coreUp.top = { s.top with
        por := false, coreUv := true, hostRsts := 0, phase := .startUp, startAt := s.now, loadAt := some s.now } ∧
      s.coreUp.fst = s.fst.reset .power false ∧
      s.coreUp.clk = { s.clk with lockSys := true, lockOl := true, lockIl := true, lockPcie := true } ∧
      s.coreUp.sec = { s.sec with romPhase := true } ∧
      s.coreUp.glade.kept = { s.glade with wdBoot := true }.kept := by
  have pwr : (s.unheld.coreStart true).pwr = { s.pwr with coreReset := false } := State.coreStart_parts .pwr rfl
  have now : (s.unheld.coreStart true).now = s.now := (State.coreStart_parts .now rfl).1
  have top : (s.unheld.coreStart true).top = { s.top with
      por := false, coreUv := true, hostRsts := 0, phase := .startUp, startAt := s.now } := State.coreStart_top
  have clk : (s.unheld.coreStart true).clk = { s.clk with
      lockSys := true, lockOl := true, lockIl := true, lockPcie := true } := State.coreStart_clk
  have fst : (s.unheld.coreStart true).fst = s.fst.reset .power false := State.coreStart_fst
  have sec : (s.unheld.coreStart true).sec = { s.sec with romPhase := true } := State.coreStart_sec
  have glade : (s.unheld.coreStart true).glade = s.glade.wdRestart s.now false := State.coreStart_glade
  rw [State.coreUp_eq]
  generalize s.unheld.coreStart true = u at *
  have idle : u.fst.spi.cmd = none := by rw [fst]; rfl
  obtain ⟨loadFst, loadTop, loadGlade⟩ := State.coreAfterLoad_starts idle
  have load : Only [.now, .regs, .live, .top, .skein, .arr, .ret, .lane, .stream, .tb, .cmt, .flt, .glade, .fst, .out]
      u u.coreAfterLoad := State.coreAfterLoad_only
  have settle : Only [.now, .regs, .live, .flt, .glade, .log, .out] u.coreAfterLoad u.coreAfterLoad.gladeSettle :=
    State.gladeSettle_only
  refine ⟨(settle .pwr rfl).trans ((load .pwr rfl).trans pwr), (settle .top rfl).trans (loadTop.trans ?_),
    (settle .fst rfl).trans (loadFst.trans fst), (settle .clk rfl).trans ((load .clk rfl).trans clk),
    (settle .sec rfl).trans ((load .sec rfl).trans sec), State.gladeSettle_kept.trans ?_⟩
  · rw [top, now]
  · rw [loadGlade, glade]
    rfl

theorem coreRelease_starts (high : s.top.porst = false) (held : s.pwr.coreReset = true) :
    ∃ n, exec (.coreRelease t) s = .next n ∧
      n.pwr.coreReset = false ∧ n.top.coreUv = true ∧ n.top.por = false ∧ n.top.hostRsts = 0 ∧
      n.top.phase = .startUp ∧ n.top.startAt = max s.now t ∧ n.top.loadAt = some (max s.now t) ∧
      n.fst.st = .rom ∧ n.fst.cause = 1 ∧ n.clk.lockSys = true ∧ n.clk.lockOl = true ∧ n.clk.lockIl = true ∧
      n.sec.romPhase = true ∧ n.glade.gpr = s.glade.gpr ∧ n.glade.wdBoot = true ∧ n.host = s.host ∧
      n.bank0 = s.bank0 ∧ n.surf = s.surf ∧ n.intake = s.intake ∧ n.pending = s.pending := by
  have e : exec (.coreRelease t) s = .next (s.stamp t).coreUp :=
    congrArg Host.Outcome.next (if_pos (by simp [high, held]))
  have parts := exec_only _ e
  obtain ⟨pwr, top, fst, clk, sec, kept⟩ := State.coreUp_starts (s := s.stamp t)
  generalize (s.stamp t).coreUp = n at *
  refine ⟨n, e, ?_, ?_, ?_, ?_, ?_, ?_, ?_, ?_, ?_, ?_, ?_, ?_, ?_, congrArg (·.2.2.1) kept, congrArg (·.2.2.2.2.2) kept,
    parts .host rfl, parts .bank0 rfl, parts .surf rfl, parts .intake rfl, parts .pending rfl⟩
  · rw [pwr]
  · rw [top]
  · rw [top]
  · rw [top]
  · rw [top]
  · rw [top]; rfl
  · rw [top]; rfl
  · rw [fst]; rfl
  · rw [fst]; rfl
  · rw [clk]
  · rw [clk]
  · rw [clk]
  · rw [sec]

/-- Settles O16, command by command; an OTP program under way is excluded by `s.sec.job = none`. -/
theorem resetsOfTheChip : Obligations.ResetsOfTheChip := by
  refine ⟨fun t h s idle => ⟨porstNRelease_starts idle, fun low => ?_, fun high test => ?_, ?_⟩, fun t s idle =>
    ⟨fun on => ?_, coreRelease_starts, fun on => ?_⟩⟩
  · exact ⟨{ s.stamp t with top := { s.top with testEn := true } },
      congrArg Host.Outcome.next (if_neg (by simp [low])), rfl, .app Only.set_top rfl (.app State.stamp_only rfl .refl)⟩
  · exact ⟨_, congrArg Host.Outcome.next (if_pos (by simp [high])), .app State.stamp_only rfl .refl⟩
  · exact ⟨_, rfl, State.lost_idle (s := s.stamp t) idle⟩
  · exact ⟨_, congrArg Host.Outcome.next (if_pos on), State.coreOff_idle (s := s.stamp t) idle⟩
  · have running : s.pwr.coreReset = false := by simpa using (Bool.and_eq_true_iff.mp on).2
    exact ⟨_, congrArg Host.Outcome.next (if_neg (by simp [running])), .app State.stamp_only rfl .refl⟩

end

end Sys2Proof.Machine
end

section
/-! The end of LOAD, start-up and phases. -/

namespace Sys2Proof.Machine

open Sys2Proof

/-! ### A sample of Glade's state machine (17 R605, R606) -/

section
variable {g : Glade} {now : Nat} {r0 r1 ready : Bool}

/-- Glade as its table of transitions takes it: demands ripe, the conditions raised, RETOK judged. -/
def Glade.sensed (g : Glade) (now : Nat) : Glade :=
  let g := { g with pairA := g.pairA.ripe now, pairB := g.pairB.ripe now }
  let g := { g with raised := g.raised ||| g.readback.holding, cond := g.readback.cond }
  { g with retOk := g.retOkNow }

theorem Glade.sample_eq :
    g.sample now r0 r1 = ((g.sensed now).transit ((g.sensed now).ready r0 r1)).drive := rfl

/-- Outside the state LOAD, no transition leads into it; and out of it LOAD's end leads. -/
theorem Glade.transit_loaded (ended : g.loadEnded = true) : (g.transit ready).st ≠ .load := by
  unfold Glade.transit
  split
  · exact GladeState.noConfusion
  · split
    case h_1 => simp [ended, Glade.enter]
    case h_2 e => split_ifs <;> simp [Glade.toSlo, Glade.toFb, Glade.enter, e]
    case h_3 e => split_ifs <;> simp [Glade.toSlo, Glade.enter, e]
    case h_4 e => split_ifs <;> simp [Glade.toFb, Glade.enter, e]
    case h_5 e => simp [e]

theorem Glade.sample_loaded (ended : g.loadEnded = true) : (g.sample now r0 r1).st ≠ .load :=
  Glade.transit_loaded (g := g.sensed now) ended

/-- A condition that locks, or LOCKOUT, leads to LOCKOUT with the array enables low. -/
theorem Glade.transit_locks (lock : g.st = .lockout ∨ g.dLock = true) : (g.transit ready).st = .lockout := by
  unfold Glade.transit
  by_cases st : g.st = .lockout
  · simp [st]
  · rw [if_pos (by simp [st, lock.resolve_left st])]
    rfl

theorem Glade.drive_lockout (st : g.st = .lockout) : g.drive.aenDrv = 0 := by
  show g.aenOut = 0
  unfold Glade.aenOut
  rw [st]
  exact ite_self _

/-- A raised source that locks is a component of D_LOCK. -/
theorem Glade.dLock_of_raised {j : Nat} (lock : j < 7) (h : bit g.raised j = true) : g.dLock = true := by
  have nonzero : (g.raised &&& 0x7F#12) ≠ 0 := by
    intro z
    have m : ∀ k, k < 7 → (0x7F#12).getLsbD k = true := by decide
    have e : (g.raised &&& 0x7F#12).getLsbD j = false := by rw [z]; exact BitVec.getLsbD_zero
    rw [BitVec.getLsbD_and, m j lock, Bool.and_true] at e
    exact absurd (h.symm.trans e) (by decide)
  have third : (if (g.raised &&& 0x7F#12) != 0 then [3] else []) = [3] := if_pos (by simpa using nonzero)
  rw [Glade.dLock, Glade.lockCauses, third]
  simp

theorem Glade.sensed_raised_of {j : Nat} (h : bit g.raised j = true) : bit (g.sensed now).raised j = true := by
  show bit (g.raised ||| _) j = true
  unfold bit at *
  rw [BitVec.getLsbD_or, h, Bool.true_or]

/-- A sample raises the source of a condition that its own read-backs and lines do not judge. -/
theorem Glade.sensed_raises {j : Nat} (h : bit g.cond j = true) (own : j ≠ 6 ∧ j ≠ 8 ∧ j ≠ 9) :
    bit (g.sensed now).raised j = true := by
  obtain ⟨h6, h8, h9⟩ := own
  have cond : bit (Glade.readback { g with pairA := g.pairA.ripe now, pairB := g.pairB.ripe now }).cond j = true :=
    (bit_putBit_ne (by decide) h9).trans ((bit_putBit_ne (by decide) h6).trans h)
  have holding : bit (Glade.readback { g with pairA := g.pairA.ripe now, pairB := g.pairB.ripe now }).holding j = true := by
    refine (bit_putBit_ne (by decide) h8).trans ?_
    split
    · exact cond
    · exact (bit_setBit (by decide)).trans (by simp [cond])
  show bit (g.raised ||| _) j = true
  unfold bit at *
  rw [BitVec.getLsbD_or, holding, Bool.or_true]

end

/-! ### The samples that a command to Glade leads to -/

section
variable {s : State}

theorem State.gladeReport_parts {x y : Glade} : Only [.flt, .log] s (s.gladeReport x y) := by
  have raises : Only [.flt] s
      (s.report ((bitsOf (y.raised &&& ~~~x.raised) 12).map (fun j => .raise (gladeSrc j)))) :=
    State.report_parts.mono (by simp [Note.parts])
  unfold State.gladeReport
  exact .ite (raises.mono rfl) (.app State.logHw_parts rfl (raises.mono rfl))

theorem State.gladeSample_parts : Only [.flt, .glade, .log] s s.gladeSample :=
  .app State.gladeReport_parts rfl (.app Only.set_glade rfl .refl)

/-- What the first sample establishes and each keeps holds once Glade has settled. -/
theorem State.gladeSettle_induction {p : State → Prop} (on : s.gladeOn = true) (first : p s.gladeSample)
    (step : ∀ u, p u → p u.gladeSample) : p s.gladeSettle := by
  rw [State.gladeSettle, if_pos on]
  exact step _ (step _ (step _ first))

theorem State.gladeSettle_parts : Only [.flt, .glade, .log] s s.gladeSettle := by
  unfold State.gladeSettle
  exact .ite (.app State.gladeSample_parts rfl (.app State.gladeSample_parts rfl (.app State.gladeSample_parts rfl
    (.app State.gladeSample_parts rfl .refl)))) .refl

theorem State.gladeSettle_loaded (on : s.gladeOn = true) (ended : s.glade.loadEnded = true) :
    s.gladeSettle.glade.st ≠ .load := by
  have h : s.gladeSettle.glade.loadEnded = true ∧ s.gladeSettle.glade.st ≠ .load := by
    refine State.gladeSettle_induction on (p := fun u => u.glade.loadEnded = true ∧ u.glade.st ≠ .load) ⟨?_, ?_⟩
      (fun u hu => ⟨?_, ?_⟩)
    · rw [State.gladeSample_glade]; exact (congrArg (·.1) Glade.sample_kept).trans ended
    · rw [State.gladeSample_glade]; exact Glade.sample_loaded ended
    · rw [State.gladeSample_glade]; exact (congrArg (·.1) Glade.sample_kept).trans hu.1
    · rw [State.gladeSample_glade]; exact Glade.sample_loaded hu.1
  exact h.2

/-- A condition that locks leaves Glade in LOCKOUT, its source raised and the array enables low. -/
theorem State.gladeSettle_locks {j : Nat} (on : s.gladeOn = true) (h : bit s.glade.cond j = true) (lock : j < 7)
    (own : j ≠ 6) :
    bit s.gladeSettle.glade.raised j = true ∧ s.gladeSettle.glade.st = .lockout ∧ s.gladeSettle.glade.aenDrv = 0 := by
  refine State.gladeSettle_induction on (p := fun u => bit u.glade.raised j = true ∧ u.glade.st = .lockout ∧
    u.glade.aenDrv = 0) ?_ (fun u hu => ?_)
  · have raised : bit (s.glade.sensed s.now).raised j = true := Glade.sensed_raises h ⟨own, by omega, by omega⟩
    have st := Glade.transit_locks (ready := (s.glade.sensed s.now).ready (s.rdy 0) (s.rdy 1))
      (.inr (Glade.dLock_of_raised lock raised))
    rw [State.gladeSample_glade, Glade.sample_eq]
    exact ⟨(congrArg (bit · j) Glade.transit_raised).trans raised, st, Glade.drive_lockout st⟩
  · obtain ⟨raised, lockout, -⟩ := hu
    have st := Glade.transit_locks (g := u.glade.sensed u.now) (ready := (u.glade.sensed u.now).ready (u.rdy 0) (u.rdy 1))
      (.inl lockout)
    rw [State.gladeSample_glade, Glade.sample_eq]
    exact ⟨(congrArg (bit · j) Glade.transit_raised).trans (Glade.sensed_raised_of raised), st, Glade.drive_lockout st⟩

end

/-! ### The end of LOAD (17 R616–R620) -/

section
variable {s : State} {x : FlashLoad} {t : Nat}

/-- What Glade holds of LOAD's end: the copy in force, the time it took, and GL_GPR where no copy is valid. -/
structure Glade.Loads (x : FlashLoad) (now : Nat) (g n : Glade) : Prop where
  ended : n.loadEnded = true
  src : n.gprSrc = (gprChoice x).1
  gpr : n.gpr = (gprChoice x).2
  took : n.loadUs = BitVec.ofNat 20 (min 0xFFFFF ((now - g.resetAt) / usec))
  cond : bit n.cond 2 = ((gprChoice x).1 == 0)
  inReset : n.inReset = g.inReset

theorem Glade.Loads.judgePattern {now : Nat} {g n : Glade} (h : g.Loads x now n) : g.Loads x now n.judgePattern := by
  unfold Glade.judgePattern
  split_ifs <;> exact ⟨h.ended, h.src, h.gpr, h.took, h.cond, h.inReset⟩

theorem Glade.load_loads {now : Nat} {g : Glade} : g.Loads x now (g.load x now) := by
  have cond : bit (putBit g.cond 2 ((gprChoice x).1 == 0)) 2 = ((gprChoice x).1 == 0) := bit_putBit_self (by decide)
  unfold Glade.load
  dsimp only
  split
  · exact ⟨rfl, rfl, rfl, rfl, cond, rfl⟩
  · exact .judgePattern ⟨rfl, rfl, rfl, rfl, cond, rfl⟩

theorem State.norRelease_glade : s.norRelease.glade = s.glade := State.norRelease_only .glade rfl

theorem State.norRelease_top : s.norRelease.top = s.top := State.norRelease_only .top rfl

theorem State.coreAfterLoad_top : s.coreAfterLoad.top = { s.top with loadAt := some s.now } :=
  State.norRelease_top.trans State.coreLoaded_loadAt

theorem State.coreAfterLoad_loads {now : Nat} {g : Glade} (h : g.Loads x now s.glade) :
    g.Loads x now s.coreAfterLoad.glade := by
  have glade : s.coreLoaded.norRelease.glade = s.glade :=
    State.norRelease_glade.trans (State.coreLoaded_only .glade rfl)
  rw [← glade] at h
  exact ⟨h.ended, h.src, h.gpr, h.took, h.cond, h.inReset⟩

/-- The block at the end of LOAD, before Glade settles. -/
theorem State.loadEnd_loads (before : s.glade.loadEnded = false) :
    s.glade.Loads x s.now (s.loadEnd x).glade ∧ (s.loadEnd x).top.porst = s.top.porst ∧
      (s.coreOn = true → (s.loadEnd x).top.loadAt = some s.now) := by
  rw [State.loadEnd, before, if_neg (by simp)]
  dsimp only
  unfold State.when
  split
  next on =>
    refine ⟨State.coreAfterLoad_loads Glade.load_loads, ?_, fun _ => ?_⟩
    · rw [State.coreAfterLoad_top]; rfl
    · rw [State.coreAfterLoad_top]; rfl
  next off => exact ⟨Glade.load_loads, rfl, fun on => absurd on off⟩

theorem gprChoice_primary (a : gprValid x.gprA = true) : gprChoice x = (1, x.gprA) := if_pos a

theorem gprChoice_secondary (a : gprValid x.gprA = false) (b : gprValid x.gprB = true) : gprChoice x = (2, x.gprB) := by
  simp [gprChoice, a, b]

theorem gprChoice_none (a : gprValid x.gprA = false) (b : gprValid x.gprB = false) : gprChoice x = (0, []) := by
  simp [gprChoice, a, b]

/-- The block after GLADE_LOAD_END. -/
def State.loaded (t : Nat) (x : FlashLoad) (s : State) : State := ((s.stamp t).loadEnd x).gladeSettle

theorem onGladeSettled_on {f : State → State} (on : s.gladeOn = true) :
    onGladeSettled t s f = .next (f (s.stamp t)).gladeSettle :=
  onGlade_on on

theorem onGladeSettled_off {f : State → State} (off : s.gladeOn = false) : onGladeSettled t s f = .next (s.stamp t) :=
  onGlade_off off

theorem execGladeLoadEnd_on (on : s.gladeOn = true) : exec (.gladeLoadEnd t x) s = .next (s.loaded t x) :=
  (onGladeSettled_on on : execGladeLoadEnd t x s = _)

/-- What GLADE_LOAD_END leaves in Glade. -/
theorem State.loaded_facts (on : s.gladeOn = true) (before : s.glade.loadEnded = false) :
    (s.loaded t x).glade.loadEnded = true ∧ (s.loaded t x).glade.gprSrc = (gprChoice x).1 ∧
      (s.loaded t x).glade.gpr = (gprChoice x).2 ∧ (s.loaded t x).glade.st ≠ .load ∧
      (s.loaded t x).glade.loadUs = BitVec.ofNat 20 (min 0xFFFFF ((max s.now t - s.glade.resetAt) / usec)) ∧
      (s.coreOn = true → (s.loaded t x).top.loadAt = some (max s.now t)) ∧
      ((gprChoice x).1 = 0 → bit (s.loaded t x).glade.raised 2 = true ∧ (s.loaded t x).glade.st = .lockout ∧
        (s.loaded t x).glade.aenDrv = 0) := by
  obtain ⟨loads, porst, loadAt⟩ := State.loadEnd_loads (s := s.stamp t) (x := x) before
  have on' : ((s.stamp t).loadEnd x).gladeOn = true := by
    rw [State.gladeOn, porst, loads.inReset]
    exact on
  have settled := State.gladeSettle_parts (s := (s.stamp t).loadEnd x)
  have kept := State.gladeSettle_kept (s := (s.stamp t).loadEnd x)
  refine ⟨(congrArg (·.1) kept).trans loads.ended, (congrArg (·.2.1) kept).trans loads.src,
    (congrArg (·.2.2.1) kept).trans loads.gpr, State.gladeSettle_loaded on' loads.ended,
    (congrArg (·.2.2.2.1) kept).trans loads.took, fun core => ?_, fun none => ?_⟩
  · exact (congrArg (·.loadAt) (settled .top rfl)).trans (loadAt core)
  · exact State.gladeSettle_locks on' (loads.cond.trans (by rw [none]; rfl)) (by decide) (by decide)

/-- Once LOAD has ended, its end changes nothing that it brought. -/
theorem gladeLoadEnd_again (ended : s.glade.loadEnded = true) :
    ∃ m, exec (.gladeLoadEnd t x) s = .next m ∧ m.glade.gpr = s.glade.gpr ∧ m.glade.gprSrc = s.glade.gprSrc ∧
      m.glade.fb = s.glade.fb ∧ m.regs = s.regs := by
  cases on : s.gladeOn with
  | false => exact ⟨_, (onGladeSettled_off on : execGladeLoadEnd t x s = _), rfl, rfl, rfl, rfl⟩
  | true =>
    have rest : (s.stamp t).loadEnd x = s.stamp t := if_pos ended
    have kept := State.gladeSettle_kept (s := s.stamp t)
    refine ⟨(s.stamp t).gladeSettle, (execGladeLoadEnd_on on).trans (by rw [State.loaded, rest]), congrArg (·.2.2.1) kept,
      congrArg (·.2.1) kept, congrArg (·.2.2.2.2.1) kept, State.gladeSettle_parts .regs rfl⟩

end

/-! ### A write of TOP_PHASE (20 R701, R710, R711) -/

section
variable {s : State} {t : Nat} {req : Req} {v : Word}

theorem topPhaseWrite_runs (write : s.Writable t req 0x00) (fresh : s.Fresh (.topPhaseWrite t req v)) :
    exec (.topPhaseWrite t req v) s = .next ((s.stamp t).writePhase v) :=
  (onCore_on write.1 : execTopPhaseWrite t req v s = _).trans
    (congrArg _ ((State.once_fresh fresh).trans write.access))

/-- A write of a phase that the table of transitions allows, the bits of its flags 0. -/
theorem topPhaseWrite_allowed {p : Phase} (canon : s.Canonical) (write : s.Writable t req 0x00)
    (fresh : s.Fresh (.topPhaseWrite t req v)) (cold : (s.stamp t).cold Reg.TOP_PHASE v = v) (b2 : bit v 2 = false)
    (b3 : bit v 3 = false) (alone : (bit (s.stamp t).phaseBefore 31 && decide (fld v 0 2 = 2)) = false)
    (allowed : s.top.phase.write (fld v 0 2) s.anyEn = some p) (moves : p ≠ s.top.phase) :
    ∃ n, exec (.topPhaseWrite t req v) s = .next n ∧
      n.top = { s.top with phase := p } ∧ rget n.regs (rawOf 0x00) = rget s.regs (rawOf 0x00) ||| 4 ∧
      RegsOnly [rawOf 0x00] s n ∧ Only [.now, .top, .regs] s n := by
  have top : (s.stamp t).top.writePhase v (s.stamp t).anyEn = { s.top with phase := p } := by
    show s.top.writePhase v s.anyEn = _
    simp [Top.writePhase, allowed, b2, b3]
  have allowed' : (s.stamp t).top.phase.write (fld v 0 2) (s.stamp t).anyEn = some p := allowed
  have e : (s.stamp t).writePhase v =
      { (s.stamp t).keepPhase with top := { s.top with phase := p } }.report [.irq 0x00 2] := by
    rw [State.writePhase, cold, if_neg (by simp [alone]), top, allowed']
    simp [noteIf, moves]
  refine ⟨_, (topPhaseWrite_runs write fresh).trans (congrArg _ e), rfl, State.report_reads canon.regs rfl rfl,
    State.report_regsOnly_of (fun _ h => h) rfl, .app State.report_parts rfl
      (.app Only.set_top rfl (.app Only.set_sample rfl (.app State.stamp_only rfl .refl)))⟩

/-- A write of a phase that the table of transitions does not allow. -/
theorem topPhaseWrite_forbidden (write : s.Writable t req 0x00)
    (fresh : s.Fresh (.topPhaseWrite t req v)) (cold : (s.stamp t).cold Reg.TOP_PHASE v = v) (b2 : bit v 2 = false)
    (b3 : bit v 3 = false) (alone : (bit (s.stamp t).phaseBefore 31 && decide (fld v 0 2 = 2)) = false)
    (forbidden : s.top.phase.write (fld v 0 2) s.anyEn = none) :
    ∃ n, exec (.topPhaseWrite t req v) s = .next n ∧ n.top = { s.top with phErr := true } ∧ Only [.now, .top] s n := by
  have top : (s.stamp t).top.writePhase v (s.stamp t).anyEn = { s.top with phErr := true } := by
    show s.top.writePhase v s.anyEn = _
    simp [Top.writePhase, forbidden, b2, b3]
  have forbidden' : (s.stamp t).top.phase.write (fld v 0 2) (s.stamp t).anyEn = none := forbidden
  have e : (s.stamp t).writePhase v =
      { (s.stamp t).keepPhase with top := { s.top with phErr := true } }.report [.hit Reg.TOP_PHASE 4] := by
    rw [State.writePhase, cold, if_neg (by simp [alone]), top, forbidden']
    simp [noteIf]
  exact ⟨_, (topPhaseWrite_runs write fresh).trans (congrArg _ e), rfl, .app State.report_parts rfl
      (.app Only.set_top rfl (.app Only.set_sample rfl (.app State.stamp_only rfl .refl)))⟩

/-- A write of TEST in a sample whose commit lights a surface (20 R710). -/
theorem topPhaseWrite_beside (write : s.Writable t req 0x00)
    (fresh : s.Fresh (.topPhaseWrite t req v)) (cold : (s.stamp t).cold Reg.TOP_PHASE v = v) (b2 : bit v 2 = false)
    (b3 : bit v 3 = false) (test : fld v 0 2 = 2) (lights : bit (s.stamp t).phaseBefore 31 = true) :
    ∃ n, exec (.topPhaseWrite t req v) s = .next n ∧ n.top = s.top ∧ Only [.now, .top] s n := by
  have e : (s.stamp t).writePhase v = s.stamp t := by
    rw [State.writePhase, cold, if_pos (by simp [test, lights])]
    simp [b2, b3, State.stamp]
  exact ⟨_, (topPhaseWrite_runs write fresh).trans (congrArg _ e), rfl, .app State.stamp_only rfl .refl⟩

end

/-- Settles O17, from what Glade's samples keep and establish after LOAD, and from the table of transitions of the phase. -/
theorem loadStartUpAndPhases : Obligations.LoadStartUpAndPhases := by
  refine ⟨fun t x s on before => ?_, fun t s canon => ⟨fun on => ?_, fun ok on => ?_, fun req v write fresh cold b2 b3 =>
    ⟨fun two lights => ?_, fun st one => ?_, fun st two dark en => ?_, fun st two dark en => ?_, fun st one => ?_⟩⟩⟩
  · have e := execGladeLoadEnd_on (t := t) (x := x) on
    obtain ⟨ended, src, gpr, loaded, took, loadAt, none⟩ := State.loaded_facts (t := t) (x := x) on before
    refine ⟨fun a => ?_, fun a b => ?_, fun a b => ?_, fun y => ⟨_, e, gladeLoadEnd_again ended⟩⟩
    · rw [gprChoice_primary a] at src gpr
      exact ⟨_, e, ended, src, gpr, loaded, took, loadAt, exec_only _ e⟩
    · rw [gprChoice_secondary a b] at src gpr
      exact ⟨_, e, src, gpr, loaded⟩
    · rw [gprChoice_none a b] at src gpr none
      exact ⟨_, e, src, gpr, none rfl⟩
  · exact ⟨_, (onCore_on on : execStoreInitDone t s = _), rfl, .app Only.set_top rfl (.app State.stamp_only rfl .refl)⟩
  · refine ⟨_, (onCore_on on : execCryptoSelfTestDone t ok s = _), rfl, State.report_raised rfl ?_, .app State.report_parts
      (noteIf_parts rfl) (.app Only.set_sec rfl (.app State.stamp_only rfl .refl))⟩
    cases ok <;> rfl
  · exact topPhaseWrite_beside write fresh cold b2 b3 two lights
  · exact topPhaseWrite_allowed canon write fresh cold b2 b3 (by simp [one]) (by rw [st, one]; rfl) (by rw [st]; decide)
  · exact topPhaseWrite_forbidden write fresh cold b2 b3 (by simp [dark]) (by rw [st, two, en]; rfl)
  · obtain ⟨n, e, top, -, words, parts⟩ := topPhaseWrite_allowed (p := .test) canon write fresh cold b2 b3
      (by simp [dark]) (by rw [st, two, en]; rfl) (by rw [st]; decide)
    exact ⟨n, e, top, words, parts⟩
  · obtain ⟨n, e, top, -, words, parts⟩ := topPhaseWrite_allowed (p := .service) canon write fresh cold b2 b3
      (by simp [one]) (by rw [st, one]; rfl) (by rw [st]; decide)
    exact ⟨n, e, top, words, parts⟩

end Sys2Proof.Machine
end

section
/-! Page headers and the host link. -/

namespace Sys2Proof.Machine

open Sys2Proof

/-! ### Page headers (13 R479, R487, R488) -/

section
variable {s : State} {t : Nat} {req : Req} {page : Byte} {v : Word}

/-- OWN_LOCK after a write of the page's control word. -/
theorem ownLock_sets (write : s.Writable t req page.toNat) (used : pageUsed page.toNat = true) (canon : s.Canonical) :
    ∃ n, exec (.ownLock t req page v) s = .next n ∧
      (∀ i, bit (rget n.regs (page.toNat * 0x1000 + 0x008)) i =
        (bit (rget s.regs (page.toNat * 0x1000 + 0x008)) i || (decide (i = 0) && bit v 0))) ∧
      RegsOnly [page.toNat * 0x1000 + 0x008] s n ∧ Only [.now, .regs] s n := by
  have e : exec (.ownLock t req page v) s = .next ((s.stamp t).writeCtrl page v) :=
    (onCore_on write.1 : execOwnLock t req page v s = _).trans
      (congrArg _ ((State.when_true used).trans write.access))
  refine ⟨_, e, fun i => ?_, fun a ha => rget_rset_ne (List.mem_singleton.not.mp ha),
    .app Only.set_regs rfl (.app Only.set_sample rfl (.app State.stamp_only rfl .refl))⟩
  have one : ((v &&& 1).getLsbD i) = (decide (i = 0) && v.getLsbD 0) := by
    rw [BitVec.getLsbD_and, show (1 : Word) = 1#32 from rfl, BitVec.getLsbD_one]
    by_cases z : i = 0
    · simp [z]
    · simp [z]
  have word : rget ((s.stamp t).writeCtrl page v).regs (page.toNat * 0x1000 + 0x008) =
      rget s.regs (page.toNat * 0x1000 + 0x008) ||| (v &&& 1) := rget_rset_self canon.regs
  rw [word, bit, BitVec.getLsbD_or, one]
  rfl

/-- PG_IRQ_RAW after a write of ones to PG_IRQ_PEND. -/
theorem pgIrqPendClear_clears (write : s.Writable t req page.toNat) (used : pageUsed page.toNat = true)
    (canon : s.Canonical) :
    ∃ n, exec (.pgIrqPendClear t req page v) s = .next n ∧
      (∀ i, bit (rget n.regs (rawOf page.toNat)) i =
        (bit (rget s.regs (rawOf page.toNat)) i && !bit ((s.stamp t).cold (rawOf page.toNat) v) i)) ∧
      RegsOnly [rawOf page.toNat] s n ∧ Only [.now, .regs] s n := by
  have e : exec (.pgIrqPendClear t req page v) s = .next ((s.stamp t).clearIrq page v) :=
    (onCore_on write.1 : execPgIrqPendClear t req page v s = _).trans
      (congrArg _ ((State.when_true used).trans write.access))
  refine ⟨_, e, fun i => ?_, fun a ha => rget_rset_ne (List.mem_singleton.not.mp ha),
    .app Only.set_regs rfl (.app State.stamp_only rfl .refl)⟩
  have word : rget ((s.stamp t).clearIrq page v).regs (rawOf page.toNat) =
      rget s.regs (rawOf page.toNat) &&& ~~~((s.stamp t).cold (rawOf page.toNat) v) := rget_rset_self canon.regs
  rw [word]
  by_cases wide : i < 32
  · simp [bit, wide]
  · simp [bit, BitVec.getLsbD_of_ge _ i (Nat.le_of_not_lt wide)]

/-- PG_IRQ_RAW after a write of ones to PG_IRQ_FORCE. -/
theorem pgIrqForce_sets (write : s.Writable t req page.toNat) (used : pageUsed page.toNat = true) (canon : s.Canonical) :
    ∃ n, exec (.pgIrqForce t req page v) s = .next n ∧
      (∀ i, i < 32 → bit (rget n.regs (rawOf page.toNat)) i =
        (bit (rget s.regs (rawOf page.toNat)) i || (bit v i && Nat.testBit (irqMask page.toNat) i))) ∧
      RegsOnly [rawOf page.toNat] s n ∧ Only [.now, .regs] s n := by
  have e : exec (.pgIrqForce t req page v) s = .next ((s.stamp t).forceIrq page v) :=
    (onCore_on write.1 : execPgIrqForce t req page v s = _).trans
      (congrArg _ ((State.when_true used).trans write.access))
  refine ⟨_, e, fun i wide => ?_, fun a ha => rget_rset_ne (List.mem_singleton.not.mp ha),
    .app Only.set_sample rfl (.app Only.set_regs rfl (.app State.stamp_only rfl .refl))⟩
  have word : rget ((s.stamp t).forceIrq page v).regs (rawOf page.toNat) =
      rget s.regs (rawOf page.toNat) ||| (v &&& BitVec.ofNat 32 (irqMask page.toNat)) := rget_rset_self canon.regs
  rw [word, bit, BitVec.getLsbD_or, BitVec.getLsbD_and, BitVec.getLsbD_ofNat, decide_eq_true wide, Bool.true_and]
  rfl

end

/-! ### The link, its configuration and its resets (13 R463–R465, R502) -/

section
variable {s : State} {t : Nat}

theorem smGet_filter {α : Type} {d : Nat → α} {m : List (Nat × α)} {p : Nat → Bool} {k : Nat} :
    smGet d (m.filter (fun x => p x.1)) k = if p k then smGet d m k else d k := by
  induction m with
  | nil => simp [smGet]
  | cons x m ih =>
    obtain ⟨j, v⟩ := x
    by_cases e : k = j
    · subst e
      by_cases keep : p k
      · simp [keep, smGet]
      · simp [keep, ih]
    · by_cases keep : p j
      · simp [keep, smGet, e, ih]
      · simp [keep, smGet, e, ih]

/-- A word after a reset of the MSI-X table. -/
theorem rget_msixReset {f : RegFile} {a : Nat} :
    rget (msixReset f) a = if 0x9100 ≤ a ∧ a < 0x9300 then regReset a else rget f a := by
  have filtered : rget (msixReset f) a = _ :=
    smGet_filter (d := regReset) (p := fun a => !(decide (0x9100 ≤ a) && decide (a < 0x9300)))
  rw [filtered]
  by_cases h : 0x9100 ≤ a ∧ a < 0x9300
  · simp [h]
  · rw [if_neg h, if_pos (by simp; omega)]
    rfl

theorem resetNotes_words {h : HostPort} {k : HostReset} {p : Phase} :
    (resetNotes h k p).flatMap Note.words ⊆ [rawOf 0x08, rawOf 0x00] :=
  words_append (words_append (noteIf_words (by decide)) (noteIf_words (by decide))) (noteIf_words (by decide))

theorem resetNotes_parts {h : HostPort} {k : HostReset} {p : Phase} {f : Part → Bool}
    (own : ([.now, .regs, .flt] : List Part).all f = true) : ((resetNotes h k p).flatMap Note.parts).all f = true := by
  simp only [List.all_cons, List.all_nil, Bool.and_true, Bool.and_eq_true] at own
  obtain ⟨now, regs, flt⟩ := own
  exact parts_append (parts_append (noteIf_parts (by simp [Note.irq, Note.parts, now, regs]))
    (noteIf_parts (by simp [Note.parts, flt]))) (noteIf_parts (by simp [Note.irq, Note.parts, now, regs]))

theorem endUpstream_waiting {l : List UpReq} : (endUpstream l).filter (fun r => decide (r.res = .waiting)) = [] := by
  rw [List.filter_eq_nil_iff]
  intro r hr
  obtain ⟨x, -, rfl⟩ := List.mem_map.mp hr
  by_cases e : x.res = .waiting
  · simp [e]
  · simp [e]

/-- A reset of the host port (13 R463). -/
theorem State.hostReset_does {k : HostReset} {m : State} :
    (m.hostReset k).host = m.host.reset k ∧ (m.hostReset k).top = m.top.hostReset ∧
      (∀ a, 0x9100 ≤ a → a < 0x9300 → rget (m.hostReset k).regs a = regReset a) ∧
      (∀ a, ¬(0x9100 ≤ a ∧ a < 0x9300) → a ≠ rawOf 0x08 → a ≠ rawOf 0x00 →
        rget (m.hostReset k).regs a = rget m.regs a) ∧
      Only [.now, .host, .regs, .top, .flt] m (m.hostReset k) := by
  have words : ∀ a, a ≠ rawOf 0x08 → a ≠ rawOf 0x00 → rget (m.hostReset k).regs a = rget (msixReset m.regs) a :=
    fun a h8 h0 => State.report_regsOnly (l := resetNotes m.host k m.top.phase) a
      (fun h => by simpa [h8, h0] using resetNotes_words h)
  refine ⟨rfl, rfl, fun a low high => ?_, fun a out h8 h0 => ?_, ?_⟩
  · rw [words a (by unfold rawOf; omega) (by unfold rawOf; omega), rget_msixReset, if_pos ⟨low, high⟩]
  · rw [words a h8 h0, rget_msixReset, if_neg out]
  · exact .app State.report_parts (resetNotes_parts rfl) (.app Only.set_regs_top_host rfl (.app Only.set_sample rfl .refl))

theorem configurationWrite_configures (on : s.coreOn = true) (port : s.host.portSpi = false) {w : CfgWrite} :
    exec (.configurationWrite t w) s = .next { s.stamp t with host := s.host.configure w } :=
  (onCore_on on : execConfigurationWrite t w s = _).trans
    (congrArg _ (State.when_true (s := s.stamp t) (by simp [port])))

end

/-- The identity in the configuration header (13 R460). -/
theorem configuration_identity (base : Nat → Word) : vendorId base = 0x1F2E ∧ deviceId base = 0x4410 ∧
    revisionId base = 0xB1 ∧ classCode base = 0x038000 ∧ subsystemVendorId base = 0x1F2E ∧ subsystemId base = 0x0001 := by
  have vendor : configWord base 0x00 = 0x44101F2E := rfl
  have revision : configWord base 0x08 = 0x038000B1 := rfl
  have subsystem : configWord base 0x2C = 0x00011F2E := rfl
  rw [vendorId, deviceId, revisionId, classCode, subsystemVendorId, subsystemId, vendor, revision, subsystem]
  decide

/-- Settles O19: the page headers bit by bit, the link and its configuration, and a reset of the port after the host's
writes of its sample. -/
theorem pageHeadersAndHostLink : Obligations.PageHeadersAndHostLink := by
  refine ⟨fun t req page v s write used canon => ⟨ownLock_sets write used canon, pgIrqPendClear_clears write used canon,
    pgIrqForce_sets write used canon⟩, ⟨configuration_identity, fun t s on port canon =>
    ⟨fun sp w down => ?_, fun w => ?_, fun k m sample => ?_⟩⟩⟩
  · have e : exec (.linkUp t sp w) s = .next ((s.stamp t).linkUpAt sp w) :=
      (onCore_on on : execLinkUp t sp w s = _).trans (congrArg _ (State.when_true (by simp [port])))
    have notes : (s.stamp t).linkUpAt sp w =
        { s.stamp t with host := { s.host with linkUp := true, speed := sp, width := w } }.report [.irq 0x08 0] := by
      rw [State.linkUpAt, show (s.stamp t).host = s.host from rfl, down]
      rfl
    rw [notes] at e
    exact ⟨_, e, rfl, State.report_reads canon.regs rfl rfl, State.report_regsOnly_of (fun _ h => h) rfl,
      .app State.report_parts rfl (.app Only.set_host rfl (.app State.stamp_only rfl .refl))⟩
  · refine ⟨_, configurationWrite_configures on port, .app Only.set_host rfl (.app State.stamp_only rfl .refl), ?_, ?_, ?_, ?_⟩
    · rintro _ rfl; rfl
    · rintro _ rfl; rfl
    · rintro _ _ rfl; rfl
    · rintro _ rfl; rfl
  · have e : exec (.hostPortReset t k) s = .next (m.hostReset k) := by
      rw [sample]
      exact (onCore_on on : execHostPortReset t k s = _).trans
        (congrArg _ (State.when_true (s := s.stamp t) (by simp [port])))
    obtain ⟨host, top, table, rest, parts⟩ := State.hostReset_does (k := k) (m := m)
    refine ⟨_, e, ?_, ?_, ?_, ?_, ?_, ?_, ?_, table, rest, top, parts⟩
    · rw [host]; rfl
    · rw [host]; rfl
    · rw [host]; rfl
    · rw [host]; rfl
    · rw [host]; rfl
    · rw [host]; exact congrArg List.length endUpstream_waiting
    · rw [host]; rfl

end Sys2Proof.Machine
end

section
/-! Messages and upstream completions. -/

namespace Sys2Proof.Machine

open Sys2Proof

/-! ### Messages (13 R490, R491) -/

section
variable {s : State} {t : Nat} {v : Fin 32}

theorem execMsixMessage_on (on : s.coreOn = true) : exec (.msixMessage t v) s = .next ((s.stamp t).message v) :=
  (onCore_on on : execMsixMessage t v s = _)

/-- The message of a vector whose message is due, unmasked, on a link that takes it. -/
theorem State.message_leaves (due : s.messageDue v = true) (unmasked : bit (msixWord s.regs v 3) 0 = false)
    (ready : s.linkReady = true) :
    s.message v = { s with host := { s.host with
      armed := clearBit s.host.armed v, pba := clearBit s.host.pba v } }.report
        [.send (msixMessageOf s.regs v), Note.hit (Awaited.message v).key 1] := by
  rw [State.message, if_neg (by simp [unmasked]), if_neg (by simp [due]), if_pos ready]

/-- The message of a vector that is due and masked. -/
theorem State.message_pends (due : s.messageDue v = true) (masked : bit (msixWord s.regs v 3) 0 = true) :
    s.message v = { s with host := { s.host with pba := setBit s.host.pba v } } := by
  rw [State.message, if_pos masked, if_pos due]

theorem State.messageDue_armed (disarmed : bit s.host.armed v = false) : s.messageDue v = false := by
  simp [State.messageDue, disarmed]

/-- A vector that is not armed sends nothing. -/
theorem State.message_disarmed (disarmed : bit s.host.armed v = false) :
    (s.message v).out = s.out ∧ (s.message v).host.armed = s.host.armed ∧ Only [.host] s (s.message v) := by
  have due := State.messageDue_armed disarmed
  unfold State.message
  rw [due, if_pos (by rfl : (!false) = true)]
  split
  · exact ⟨rfl, rfl, .refl⟩
  · exact ⟨rfl, rfl, .app Only.set_host rfl .refl⟩

/-! ### Upstream completions and their time-outs (13 R466, R467) -/

variable {tag : Nat}

theorem upstreamCompletion_runs {a : UpAnswer} (on : s.coreOn = true) (port : s.host.portSpi = false)
    (fresh : s.Fresh (.upstreamCompletion t tag a)) :
    exec (.upstreamCompletion t tag a) s = .next ((s.stamp t).completion tag a) :=
  (onCore_on on : execUpstreamCompletion t tag a s = _).trans
    (congrArg _ ((State.when_true (s := s.stamp t) (by simp [port])).trans (State.once_fresh fresh)))

/-- A completion whose request waits. -/
theorem State.completion_answers {a : UpAnswer} (waits : s.host.awaits tag = true) :
    s.completion tag a = { s with host := { s.host.answer tag (answerResult a) with
      aer := answerAer a ++ s.host.aer } }.report (answerNotes a) := if_pos waits

end

/-- Settles O20, outcome by outcome of a message, of a completion and of an expiry. -/
theorem messagesAndUpstreamCompletions : Obligations.MessagesAndUpstreamCompletions := by
  refine ⟨fun t v s on => ⟨fun due unmasked ready => ?_, fun due masked => ?_, fun disarmed => ?_, fun req w write => ?_⟩,
    fun t tag s on canon => ⟨fun waits port b fresh => ?_, fun waits port a failed fresh => ?_, fun idle port a fresh => ?_,
      fun waits late => ?_, fun ended => ?_⟩⟩
  · have e := (execMsixMessage_on (t := t) (v := v) on).trans
      (congrArg _ (State.message_leaves (s := s.stamp t) due unmasked ready))
    refine ⟨_, e, rfl, fun w => ?_, ?_, rfl, .app State.report_parts rfl (.app Only.set_host rfl
      (.app State.stamp_only rfl .refl))⟩
    · refine (bit_clearBit s.host.armed w.val v.val).trans ?_
      simp [Fin.ext_iff]
    · exact (bit_clearBit s.host.pba v.val v.val).trans (by simp)
  · have e := (execMsixMessage_on (t := t) (v := v) on).trans (congrArg _ (State.message_pends (s := s.stamp t) due masked))
    refine ⟨_, e, ?_, rfl, .app Only.set_host rfl (.app State.stamp_only rfl .refl)⟩
    exact (bit_setBit v.isLt).trans (by simp)
  · obtain ⟨out, armed, parts⟩ := State.message_disarmed (s := s.stamp t) disarmed
    exact ⟨_, execMsixMessage_on on, out, armed, .app parts rfl (.app State.stamp_only rfl .refl)⟩
  · have e : exec (.hostVecArm t req w) s = .next ((s.stamp t).armVectors w) :=
      (onCore_on on : execHostVecArm t req w s = _).trans (congrArg _ write.access)
    exact ⟨_, e, rfl, .app Only.set_host rfl (.app State.stamp_only rfl .refl)⟩
  · have e := (upstreamCompletion_runs on port fresh).trans (congrArg _ (State.completion_answers waits))
    exact ⟨_, e, rfl, .app State.report_parts rfl (.app Only.set_host rfl (.app State.stamp_only rfl .refl))⟩
  · have e := (upstreamCompletion_runs on port fresh).trans (congrArg _ (State.completion_answers waits))
    have failure : answerResult a = .error ∧ answerNotes a = [.count Reg.HOST_CPLERR 1, .raise Src.HP_CPLERR] ∧
        answerAer a ++ s.host.aer = if a = .poisoned then .poisonedTlp :: s.host.aer else s.host.aer := by
      rcases failed with rfl | rfl
      · exact ⟨rfl, rfl, rfl⟩
      · exact ⟨rfl, rfl, rfl⟩
    obtain ⟨result, notes, aer⟩ := failure
    rw [result, notes] at e
    exact ⟨_, e, rfl, State.report_reads canon.regs rfl rfl, State.report_raised rfl rfl, aer,
      State.report_regsOnly_of (fun _ h => h) rfl,
      .app State.report_parts rfl (.app Only.set_host rfl (.app State.stamp_only rfl .refl))⟩
  · have e := (upstreamCompletion_runs on port fresh).trans (congrArg _ (if_neg (by simp [idle])))
    exact ⟨_, e, rfl, .app Only.set_host rfl (.app State.stamp_only rfl .refl)⟩
  · have e : exec (.completionTimeout t tag) s = .next ((s.stamp t).expire tag) :=
      (onCore_on on : execCompletionTimeout t tag s = _).trans (congrArg _ (State.when_true (s := s.stamp t)
        (by simp [waits, late])))
    refine ⟨_, e, rfl, State.report_reads canon.regs rfl rfl, State.report_reads canon.regs rfl rfl,
      State.report_raised rfl rfl, rfl, State.report_regsOnly_of (fun _ h => h) rfl,
      .app State.report_parts rfl (.app Only.set_host rfl (.app State.stamp_only rfl .refl))⟩
  · have e : exec (.completionTimeout t tag) s = .next (s.stamp t) :=
      (onCore_on on : execCompletionTimeout t tag s = _).trans (congrArg _ (if_neg (by
        rcases ended with h | h <;> simp [h])))
    exact e

end Sys2Proof.Machine
end

section
/-! Quad-SPI transactions. -/

namespace Sys2Proof.Machine

open Sys2Proof

/-! ### Quad-SPI transactions (13 R469–R473) -/

section
variable {s : State} {t : Nat} {a : Word}

/-- A transaction on the selected quad-SPI port. -/
theorem onQspi_on {f : State → State} (on : s.coreOn = true) (port : s.host.portSpi = true) :
    onQspi t s f = .next (f (s.stamp t)) :=
  (onCore_on on : onQspi t s f = _).trans (congrArg _ (State.when_true (s := s.stamp t) port))

/-- With no write queued, a READ finds the block as it stands. -/
theorem State.qspiDrain_empty (empty : s.host.qspiQ = []) : s.qspiDrain = s := by
  have host : ({ s.host with qspiQ := [] } : HostPort) = s.host := by rw [← empty]
  rw [State.qspiDrain, empty, List.foldl_nil, host]

theorem State.latch_other {req : Req} {r : Nat} (other : counterLow r = false) : s.latch req r = s := by
  unfold State.latch
  rw [other]
  rfl

/-- A byte made of four flags. -/
theorem bit_flags {b0 b1 b2 b3 : Bool} :
    bit (BitVec.ofNat 8 (b0.toNat + 2 * b1.toNat + 4 * b2.toNat + 8 * b3.toNat)) 0 = b0 ∧
      bit (BitVec.ofNat 8 (b0.toNat + 2 * b1.toNat + 4 * b2.toNat + 8 * b3.toNat)) 1 = b1 ∧
      bit (BitVec.ofNat 8 (b0.toNat + 2 * b1.toNat + 4 * b2.toNat + 8 * b3.toNat)) 2 = b2 ∧
      bit (BitVec.ofNat 8 (b0.toNat + 2 * b1.toNat + 4 * b2.toNat + 8 * b3.toNat)) 3 = b3 := by
  revert b0 b1 b2 b3
  decide

end

/-- Settles O21, transaction by transaction. -/
theorem quadSpiTransactions : Obligations.QuadSpiTransactions := by
  intro t a s on port canon
  refine ⟨fun b0 b1 b2 b3 good => ?_, fun l bad => ?_, ?_, ?_, fun good bar0 empty plain free => ?_, fun good late => ?_⟩
  · have e : exec (.qspiWrite t a [b0, b1, b2, b3]) s = .next ((s.stamp t).qspiWrite a [b0, b1, b2, b3]) :=
      (onQspi_on on port : execQspiWrite t a [b0, b1, b2, b3] s = _)
    have whole : (s.stamp t).qspiWrite a [b0, b1, b2, b3] = { s.stamp t with
        host := s.host.qspiPush (a, BitVec.ofNat 32 (ofBytesLE [b0, b1, b2, b3])) } := by
      have complete : noteIf ([b0, b1, b2, b3].length % 4 != 0) badAccess = [] := by simp [noteIf]
      rw [State.qspiWrite, if_neg (by simp [good]), complete, State.report_nil]
      rfl
    exact ⟨_, e.trans (congrArg _ whole), rfl, .app Only.set_host rfl (.app State.stamp_only rfl .refl)⟩
  · have e : exec (.qspiWrite t a l) s = .next ((s.stamp t).report badAccess) :=
      (onQspi_on on port : execQspiWrite t a l s = _).trans (congrArg _ (if_pos (by simp [bad])))
    exact ⟨_, e, State.report_reads canon.regs rfl rfl, State.report_raised rfl rfl,
      State.report_regsOnly_of (fun _ h => h) rfl, .app State.report_parts rfl (.app State.stamp_only rfl .refl)⟩
  · have e : exec (.qspiStatus t) s = .next ({ s.stamp t with host := { s.host with qspiErr := false } }.report
        [.send (.qspi [(s.stamp t).qspiStatusByte])]) := (onQspi_on on port : execQspiStatus t s = _)
    exact ⟨_, e, rfl, ⟨_, rfl, bit_flags⟩, .app State.report_parts rfl (.app Only.set_host rfl
      (.app State.stamp_only rfl .refl))⟩
  · exact ⟨_, (onQspi_on on port : execQspiIdent t s = _), rfl, .app State.report_parts rfl (.app State.stamp_only rfl .refl)⟩
  · have e : exec (.qspiRead t a 1) s = .next ((s.stamp t).qspiRead a 1) :=
      (onQspi_on on port : execQspiRead t a 1 s = _)
    have answer : (s.stamp t).qspiRead a 1 =
        (s.stamp t).report [.send (.qspi (qspiData (toBytesLE 4 ((s.stamp t).readWord .host (qspiOff0 a)).toNat)))] := by
      rw [State.qspiRead, if_pos good, State.qspiDrain_empty (s := s.stamp t) empty]
      show State.qspiGet a (s.stamp t) = _
      rw [State.qspiGet]
      dsimp only
      rw [if_neg (by simp [good]), if_neg (by simp [bar0]), if_neg (by simp [free]), State.latch_other plain]
    exact ⟨_, s.stamp t, e.trans (congrArg _ answer), rfl, rfl, .app State.report_parts rfl (.app State.stamp_only rfl .refl)⟩
  · have e : exec (.qspiReadTimeout t a) s = .next ({ s.stamp t with host := { s.host with qspiErr := true } }.report
        [.send (.qspi qspiBad)]) :=
      (onQspi_on on port : execQspiReadTimeout t a s = _).trans
        (congrArg _ (State.when_true (s := s.stamp t) (by simp [good, late])))
    exact ⟨_, e, rfl, rfl, .app State.report_parts rfl (.app Only.set_host rfl (.app State.stamp_only rfl .refl))⟩

end Sys2Proof.Machine
end

section
/-! Register writes and counter reads. -/

namespace Sys2Proof.Machine

open Sys2Proof

/-! ### A register write by its access code (00 R5–R7, 13 R477) -/

section
variable {s : State} {t : Nat} {req : Req} {a : BitVec 21} {v : Word}

theorem registerWrite_runs {be : BitVec 4} (on : s.coreOn = true) (fresh : s.Fresh (.registerWrite t req a v be)) :
    exec (.registerWrite t req a v be) s = .next ((s.stamp t).busWrite req a.toNat v be) :=
  (onCore_on on : execRegisterWrite t req a v be s = _).trans (congrArg _ (State.once_fresh fresh))

/-- A whole dword of BAR0 goes to the register file. -/
theorem State.busWrite_whole {a : Nat} (low : a < 0x100000) : s.busWrite req a v 0xF = s.writeReg req a v := by
  rw [State.busWrite, if_neg (by omega), if_neg (by simp)]

/-- Pages whose registers hold what is written. -/
def holdsWritten (p : Nat) : Prop := p ∈ [0x01, 0x02, 0x3C, 0x3E, 0x40] ∨ (0x10 ≤ p ∧ p < 0x20)

theorem holdsWritten_used {p : Nat} (h : holdsWritten p) : pageUsed p = true := by
  have small : p < 0x41 := by
    rcases h with h | h
    · simp at h; omega
    · omega
  have all : ∀ p, p < 0x41 → (p ∈ [0x01, 0x02, 0x3C, 0x3E, 0x40] ∨ (0x10 ≤ p ∧ p < 0x20)) → pageUsed p = true := by decide
  exact all p small h

/-- A register above the header of such a page. -/
theorem State.pageWrite_plain {p off : Nat} (h : holdsWritten p) (high : 0x040 ≤ off)
    (cold : s.cold (hdr p off) v = v) : s.pageWrite req p off v = s.putPlain (hdr p off) v := by
  have ne : p ≠ 0x00 ∧ ¬(0x04 ≤ p ∧ p < 0x08) ∧ p ≠ 0x08 ∧ p ≠ 0x09 ∧ p ≠ 0x0A ∧ ¬(p = 0x20 ∨ p = 0x21) ∧
      ¬(p = 0x24 ∨ p = 0x25) ∧ p ≠ 0x28 ∧ p ≠ 0x2C ∧ ¬(0x30 ≤ p ∧ p < 0x38) ∧ p ≠ 0x38 ∧ p ≠ 0x41 ∧ p ≠ 0x48 ∧
      p ≠ 0x58 ∧ p ≠ 0x60 := by
    rcases h with h | h
    · simp at h; omega
    · omega
  obtain ⟨h00, h04, h08, h09, h0A, h20, h24, h28, h2C, h30, h38, h41, h48, h58, h60⟩ := ne
  rw [State.pageWrite, cold]
  rw [if_neg (by omega), if_neg h00, if_neg h04, if_neg h08, if_neg h09, if_neg h0A, if_neg h20, if_neg h24, if_neg h28,
    if_neg h2C, if_neg h30, if_neg h38, if_neg h41, if_neg h48, if_neg h58, if_neg h60]

/-- A write that reaches a register of such a page. -/
theorem registerWrite_plain (low : a.toNat < 0x100000) (aligned : a.toNat % 4 = 0) (high : 0x040 ≤ a.toNat % 0x1000)
    (below : a.toNat % 0x1000 < 0x800) (write : s.Writable t req (a.toNat / 0x1000))
    (fresh : s.Fresh (.registerWrite t req a v 0xF)) (cold : (s.stamp t).cold a.toNat v = v)
    (page : holdsWritten (a.toNat / 0x1000)) :
    exec (.registerWrite t req a v 0xF) s = .next ((s.stamp t).putPlain a.toNat v) := by
  have off : a.toNat % 0x1000 / 4 * 4 = a.toNat % 0x1000 := by omega
  have addr : hdr (a.toNat / 0x1000) (a.toNat % 0x1000) = a.toNat := by unfold hdr; omega
  rw [registerWrite_runs write.1 fresh, State.busWrite_whole low, State.writeReg]
  rw [off, if_neg (by simp [holdsWritten_used page]), if_pos (by simp [judged, high, below]), write.access,
    State.pageWrite_plain page high (by rw [addr]; exact cold), addr]

theorem bit_mergeWord {mask : Nat} {old : Word} {i : Nat} (wide : i < 32) :
    bit (mergeWord mask old v) i = if Nat.testBit mask i then bit v i else bit old i := by
  unfold mergeWord bit
  rw [BitVec.getLsbD_or, BitVec.getLsbD_and, BitVec.getLsbD_and, BitVec.getLsbD_not, BitVec.getLsbD_ofNat,
    decide_eq_true wide]
  cases Nat.testBit mask i <;> simp

/-- While no commit is in progress no shadow word is locked. -/
theorem State.locked_idle {a : Nat} {w : Word} (idle : s.cmt.st = .idle) : s.locked a w = false := by
  simp [State.locked, idle]

theorem mem_insertNat {a : Nat} {l : List Nat} : a ∈ insertNat a l := by
  induction l with
  | nil => exact List.mem_singleton.mpr rfl
  | cons y r ih =>
    unfold insertNat
    split_ifs with low same
    · exact List.mem_cons_self
    · exact same ▸ List.mem_cons_self
    · exact List.mem_cons_of_mem y ih

theorem State.putShadow_open {a : Nat} {w : Word} (unlocked : s.locked a w = false) :
    s.putShadow a w = { s with
      regs := rset a w s.regs
      cmt := { s.cmt with written := if s.cmt.accepted then s.cmt.written else insertNat a s.cmt.written } } :=
  if_neg (by simp [unlocked])

theorem State.putShadow_locked {a : Nat} {w : Word} (locked : s.locked a w = true) :
    s.putShadow a w = ({ s with cmt := { s.cmt with shwLock := true } }).hit Reg.TOP_CMT_STAT 0x400 := if_pos locked

theorem State.putPlain_row {a : Nat} {r : RegRow} (row : regRow a = some r) :
    s.putPlain a v = if r.sh then s.putShadow a (mergeWord r.mask (rget s.regs a) v)
      else { s with regs := rset a (mergeWord r.mask (rget s.regs a) v) s.regs } := by
  rw [State.putPlain, row]

theorem State.putPlain_none {a : Nat} (row : regRow a = none) : s.putPlain a v = s := by
  rw [State.putPlain, row]

/-- What a word of a register file holds after the masked write of one. -/
theorem rget_merged {f : RegFile} {a : Nat} {r : RegRow} (canon : smWf regReset f = true) :
    (∀ i, i < 32 → bit (rget (rset a (mergeWord r.mask (rget f a) v) f) a) i =
      if Nat.testBit r.mask i then bit v i else bit (rget f a) i) := by
  intro i wide
  rw [rget_rset_self canon, bit_mergeWord wide]

/-- The register of a row written: its writable bits, or its shadow, or SHWLOCK. -/
theorem State.putPlain_writes {a : Nat} {r : RegRow} (canon : smWf regReset s.regs = true) (row : regRow a = some r) :
    (r.sh = false ∨ s.cmt.st = .idle →
        (∀ i, i < 32 → bit (rget (s.putPlain a v).regs a) i =
          if Nat.testBit r.mask i then bit v i else bit (rget s.regs a) i) ∧
        RegsOnly [a] s (s.putPlain a v) ∧ Only [.regs, .cmt] s (s.putPlain a v)) ∧
      (r.sh = false → (s.putPlain a v).cmt = s.cmt) ∧
      (r.sh = true → s.cmt.st = .idle → s.cmt.accepted = false → a ∈ (s.putPlain a v).cmt.written) ∧
      (r.sh = true → s.locked a (mergeWord r.mask (rget s.regs a) v) = true →
        (s.putPlain a v).cmt = { s.cmt with shwLock := true } ∧ Only [.now, .cmt] s (s.putPlain a v)) := by
  rw [State.putPlain_row row]
  cases sh : r.sh with
  | false =>
    refine ⟨fun _ => ⟨rget_merged canon, fun b hb => rget_rset_ne (List.mem_singleton.not.mp hb),
      .app Only.set_regs rfl .refl⟩, fun _ => rfl, nofun, nofun⟩
  | true =>
    rw [if_pos rfl]
    refine ⟨fun idle => ?_, nofun, fun _ idle fresh => ?_, fun _ locked => ?_⟩
    · have idle : s.cmt.st = .idle := idle.resolve_left nofun
      rw [State.putShadow_open (State.locked_idle idle)]
      exact ⟨rget_merged canon, fun b hb => rget_rset_ne (List.mem_singleton.not.mp hb),
        .app Only.set_regs_cmt rfl .refl⟩
    · rw [State.putShadow_open (State.locked_idle idle)]
      dsimp only
      rw [fresh]
      exact mem_insertNat
    · rw [State.putShadow_locked locked]
      exact ⟨rfl, .app Only.set_sample rfl (.app Only.set_cmt rfl .refl)⟩

/-! ### The low word of a counter and its high word (11 R425, R429) -/

theorem counterLowWordRead_reads {a : BitVec 21} (on : s.coreOn = true) (low : a.toNat < 0x100000)
    (free : s.stalledTo (pageDomain (a.toNat / 0x1000)) = false) :
    exec (.counterLowWordRead t req a) s = .next (((s.stamp t).latch req a.toNat).report
      [.send (.data req (toBytesLE 4 ((s.stamp t).readWord req a.toNat).toNat))]) := by
  refine (onCore_on on : execCounterLowWordRead t req a s = _).trans (congrArg _ ?_)
  rw [State.busRead, if_pos low, State.readReg, if_neg (by simp [free])]

end

/-- Settles O22: each access code by the row of the register, and TM_FCNT by the holding register of its reader. -/
theorem registerWritesAndCounterReads : Obligations.RegisterWritesAndCounterReads := by
  refine ⟨fun t req a v s on canon low => ⟨fun be part fresh => ?_, fun unused fresh => ?_,
    fun aligned high below write fresh cold page => ⟨fun row => ?_, fun r row => ?_⟩⟩, fun t req s on free => ⟨?_, ?_⟩⟩
  · have e : exec (.registerWrite t req a v be) s = .next ((s.stamp t).report badAccess) := by
      rw [registerWrite_runs on fresh, State.busWrite, if_neg (by omega), if_pos part]
    exact ⟨_, e, State.report_reads canon.regs rfl rfl, State.report_raised rfl rfl,
      State.report_regsOnly_of (fun _ h => h) rfl, .app State.report_parts rfl (.app State.stamp_only rfl .refl)⟩
  · have e : exec (.registerWrite t req a v 0xF) s = .next (s.stamp t) := by
      rw [registerWrite_runs on fresh, State.busWrite_whole low, State.writeReg, if_pos (by simp [unused])]
    exact ⟨_, e, .app State.stamp_only rfl .refl⟩
  · have e := registerWrite_plain low aligned high below write fresh cold page
    rw [State.putPlain_none row] at e
    exact ⟨_, e, .app State.stamp_only rfl .refl⟩
  · have e := registerWrite_plain low aligned high below write fresh cold page
    obtain ⟨opened, live, noted, locked⟩ := State.putPlain_writes (s := s.stamp t) (v := v) canon.regs row
    refine ⟨_, e, fun h => ?_, live, noted, fun sh lock => ?_⟩
    · obtain ⟨bits, words, parts⟩ := opened h
      exact ⟨bits, words, .app parts rfl (.app State.stamp_only rfl .refl)⟩
    · obtain ⟨cmt, parts⟩ := locked sh lock
      exact ⟨cmt, .app parts rfl (.app State.stamp_only rfl .refl)⟩
  · have e := counterLowWordRead_reads (t := t) (req := req) (a := 0x01058) on (by decide) free
    have high : (s.stamp t).regWord 0x0105C = BitVec.ofNat 32 (s.tb.fcnt.toNat / 2 ^ 32) := by
      show at32 0 (s.tb.fcnt.toNat / 2 ^ 32) = _
      rw [at32, Nat.pow_zero, Nat.mul_one]
    have latched : (s.stamp t).latch req 0x01058 = { s.stamp t with
        hi := s.hi.set (holdOf req) (BitVec.ofNat 32 (s.tb.fcnt.toNat / 2 ^ 32)) } := by
      rw [State.latch, if_pos (by decide), ← high]
      rfl
    have word : (s.stamp t).readWord req 0x01058 = BitVec.ofNat 32 s.tb.fcnt.toNat := by
      rw [State.readWord, if_neg (by decide)]
      show at32 0 s.tb.fcnt.toNat = _
      rw [at32, Nat.pow_zero, Nat.mul_one]
    rw [show BitVec.toNat (0x01058 : BitVec 21) = 0x01058 from rfl, latched, word] at e
    exact ⟨_, e, Vector.getElem_set_self _, fun i ne => Vector.getElem_set_fin_ne ne, rfl,
      .app State.report_parts rfl (.app Only.set_hi rfl (.app State.stamp_only rfl .refl))⟩
  · have e := counterLowWordRead_reads (t := t) (req := req) (a := 0x0105C) on (by decide) free
    have latched : (s.stamp t).latch req 0x0105C = s.stamp t := State.latch_other (by decide)
    have word : (s.stamp t).readWord req 0x0105C = s.hi[holdOf req] := if_pos (by decide)
    rw [show BitVec.toNat (0x0105C : BitVec 21) = 0x0105C from rfl, latched, word] at e
    exact ⟨_, e, rfl, .app State.report_parts rfl (.app State.stamp_only rfl .refl)⟩

end Sys2Proof.Machine
end

section
/-! Mailbox requests and completions. -/

namespace Sys2Proof.Machine

open Sys2Proof

/-! ### Words copied within the register file -/

section
variable {f : RegFile} {dst src : Nat → Nat}

/-- Words copied one by one, none of them over a source. -/
theorem rget_copied {n : Nat} (wf : smWf regReset f = true) (inj : ∀ i j, dst i = dst j → i = j)
    (apart : ∀ i j, i < n → j < n → src i ≠ dst j) :
    smWf regReset ((List.range n).foldl (fun f i => rset (dst i) (rget f (src i)) f) f) = true ∧
      (∀ i, i < n → rget ((List.range n).foldl (fun f i => rset (dst i) (rget f (src i)) f) f) (dst i) = rget f (src i)) ∧
      (∀ a, (∀ i, i < n → a ≠ dst i) →
        rget ((List.range n).foldl (fun f i => rset (dst i) (rget f (src i)) f) f) a = rget f a) := by
  induction n with
  | zero => exact ⟨wf, nofun, fun _ _ => rfl⟩
  | succ n ih =>
    obtain ⟨wf', copied, rest⟩ := ih (fun i j hi hj => apart i j (by omega) (by omega))
    rw [List.range_succ, List.foldl_append, List.foldl_cons, List.foldl_nil]
    generalize (List.range n).foldl _ f = g at *
    refine ⟨rset_wf wf', fun i hi => ?_, fun a ha => ?_⟩
    · rw [rget_rset wf']
      by_cases e : dst i = dst n
      · rw [if_pos e, inj i n e]
        exact rest _ (fun j hj => apart n j (by omega) (by omega))
      · rw [if_neg e]
        exact copied i (by have : i ≠ n := fun h => e (h ▸ rfl); omega)
    · rw [rget_rset_ne (ha n (by omega))]
      exact rest a (fun i hi => ha i (by omega))

/-- Words written one by one from the k-th place on. -/
theorem rget_written {ws : List Word} {k : Nat} (wf : smWf regReset f = true) (inj : ∀ i j, dst i = dst j → i = j) :
    smWf regReset ((ws.zipIdx k).foldl (fun f x => rset (dst x.2) x.1 f) f) = true ∧
      (∀ i, i < ws.length → rget ((ws.zipIdx k).foldl (fun f x => rset (dst x.2) x.1 f) f) (dst (k + i)) = ws.getD i 0) ∧
      (∀ a, (∀ i, k ≤ i → a ≠ dst i) → rget ((ws.zipIdx k).foldl (fun f x => rset (dst x.2) x.1 f) f) a = rget f a) := by
  induction ws generalizing f k with
  | nil => exact ⟨wf, nofun, fun _ _ => rfl⟩
  | cons w ws ih =>
    obtain ⟨wf', words, rest⟩ := ih (k := k + 1) (rset_wf (a := dst k) (v := w) wf)
    rw [List.zipIdx_cons, List.foldl_cons]
    refine ⟨wf', fun i hi => ?_, fun a ha => ?_⟩
    · cases i with
      | zero =>
        rw [rest _ (fun j hj e => by have := inj _ _ e; omega), Nat.add_zero, rget_rset_self wf]
        rfl
      | succ i =>
        have := words i (by simpa using hi)
        rwa [Nat.add_assoc, Nat.add_comm 1 i] at this
    · rw [rest a (fun i hi => ha i (by omega)), rget_rset_ne (ha k (Nat.le_refl k))]

end

/-! ### Doorbells, completions and events of the mailbox (13 R498, R499; 18 R661, R662) -/

section
variable {s : State} {t : Nat} {v : Word}

theorem mbDoor_runs {req : Req} (write : s.Writable t req 0x58) :
    exec (.mbDoor t req v) s = .next ((s.stamp t).writeDoor v) :=
  (onCore_on write.1 : execMbDoor t req v s = _).trans (congrArg _ write.access)

theorem onForester_on {f : State → State} (on : s.coreOn = true) (awake : s.fst.st ≠ .reset) :
    onForester t s f = .next (f (s.stamp t)) :=
  (onCore_on on : onForester t s f = _).trans (congrArg _ (State.when_true (s := s.stamp t) (by simpa using awake)))

theorem State.doorCode_accepts (idle : s.host.mbBusy = false) (apart : s.host.mbFell ≠ some (s.now / tick))
    (opened : s.mbOpen = true) (low : 1 ≤ fld v 8 5) (high : fld v 8 5 ≤ 16) : s.doorCode v = 0 := by
  have len : ¬(fld v 8 5 = 0 ∨ 16 < fld v 8 5) := by omega
  simp [State.doorCode, idle, apart, opened, len]

theorem State.doorCode_refuses {code : Nat}
    (cause : (code = 1 ∧ (s.host.mbBusy = true ∨ s.host.mbFell = some (s.now / tick))) ∨
      (code = 2 ∧ s.host.mbBusy = false ∧ s.host.mbFell ≠ some (s.now / tick) ∧ s.mbOpen = false) ∨
      (code = 4 ∧ s.host.mbBusy = false ∧ s.host.mbFell ≠ some (s.now / tick) ∧ s.mbOpen = true ∧
        (fld v 8 5 = 0 ∨ 16 < fld v 8 5))) : s.doorCode v = code ∧ code ≠ 0 := by
  rcases cause with ⟨rfl, h⟩ | ⟨rfl, idle, apart, shut⟩ | ⟨rfl, idle, apart, opened, len⟩
  · exact ⟨if_pos (by simpa using h), by decide⟩
  · simp [State.doorCode, idle, apart, shut]
  · simp [State.doorCode, idle, apart, opened, len]

/-- The request dwords in Forester's page after an accepted doorbell. -/
theorem State.mbStart_regs (wf : smWf regReset s.regs = true) :
    smWf regReset (s.mbStart v).regs = true ∧
      (∀ i, i < 16 → rget (s.mbStart v).regs (Reg.FP_MB_REQ i) = rget s.regs (Reg.MB_REQ i)) ∧
      (∀ a, (∀ i, i < 16 → a ≠ Reg.FP_MB_REQ i) → rget (s.mbStart v).regs a = rget s.regs a) := by
  have regs : (s.mbStart v).regs = copyReq s.regs := by rw [State.mbStart, State.hit]
  rw [regs, copyReq]
  exact rget_copied wf (fun i j h => by unfold Reg.FP_MB_REQ at h; omega)
    (fun i j _ _ => by unfold Reg.MB_REQ Reg.FP_MB_REQ; omega)

/-- A completion of the pending request. -/
theorem State.writeMbDone_completes (pending : s.fst.mbPending = true) (seq : s.fst.mbSeq = BitVec.ofNat 8 (fld v 0 8))
    (len : fld v 8 5 ≤ 16) (wf : smWf regReset s.regs = true) :
    (∀ i, i < fld v 8 5 → rget (s.writeMbDone v).regs (Reg.MB_RSP i) = rget s.regs (Reg.FP_MB_RSP i)) ∧
      (∀ a, a ≠ rawOf 0x58 → (∀ i, i < fld v 8 5 → a ≠ Reg.MB_RSP i) → rget (s.writeMbDone v).regs a = rget s.regs a) ∧
      rget (s.writeMbDone v).regs (rawOf 0x58) = rget s.regs (rawOf 0x58) ||| 1 ∧
      (s.writeMbDone v).host = { s.host with
        mbBusy := false, mbFell := some (s.now / tick), mbDone := true, mbCode := 0, mbSeq := s.host.mbReqSeq
        mbRspLen := BitVec.ofNat 5 (fld v 8 5) } ∧
      (s.writeMbDone v).fst = { s.fst with mbPending := false } ∧ Only [.now, .regs, .host, .fst] s (s.writeMbDone v) := by
  have e : s.writeMbDone v = s.mbComplete v := if_pos (by simp [pending, seq])
  have n : min 16 (fld v 8 5) = fld v 8 5 := Nat.min_eq_right len
  rw [e, State.mbComplete, n]
  dsimp only
  obtain ⟨wf', copied, rest⟩ := rget_copied (n := fld v 8 5) (dst := Reg.MB_RSP) (src := Reg.FP_MB_RSP) wf
    (fun i j h => by unfold Reg.MB_RSP at h; omega) (fun i j _ _ => by unfold Reg.MB_RSP Reg.FP_MB_RSP; omega)
  change smWf regReset (copyRsp (fld v 8 5) s.regs) = true at wf'
  refine ⟨fun i hi => ?_, fun a ha hr => ?_, ?_, rfl, rfl, .app State.report_parts rfl (.app Only.set_regs_host_fst rfl .refl)⟩
  · exact (State.report_leaves (by simp [Note.irq, Note.words, Reg.MB_RSP]; omega)).trans (copied i hi)
  · exact (State.report_leaves (by simpa [Note.irq, Note.words, rawOf] using ha)).trans (rest a hr)
  · refine State.report_reads wf' rfl ?_
    rw [show rget (copyRsp (fld v 8 5) s.regs) (rawOf 0x58) = rget s.regs (rawOf 0x58) from
      rest _ (fun i _ => by unfold rawOf Reg.MB_RSP; omega)]
    rfl

/-- A completion of another request, or of none. -/
theorem State.writeMbDone_drops (other : s.fst.mbPending = false ∨ s.fst.mbSeq ≠ BitVec.ofNat 8 (fld v 0 8)) :
    (s.writeMbDone v).fst = { s.fst with irq := s.fst.irq ||| 2, mbDiscard := true } ∧
      Only [.now, .fst] s (s.writeMbDone v) := by
  have e : s.writeMbDone v = s.mbDrop := if_neg (by
    rcases other with h | h
    · simp [h]
    · simp [h])
  rw [e]
  exact ⟨rfl, .app State.report_parts rfl (.app Only.set_fst rfl .refl)⟩

/-- The command of the request in Forester's page. -/
theorem State.mbStart_cmd (wf : smWf regReset s.regs = true) :
    (s.mbStart v).mbCmd = fld (rget s.regs (Reg.MB_REQ 0)) 0 16 := by
  rw [State.mbCmd, State.mbReq, (State.mbStart_regs wf).2.1 0 (by decide)]

/-- The recovery ROM's answer to the request in progress (18 R662, R663). -/
theorem State.romSay_answers {rc : Nat} {ws : List Word} (wf : smWf regReset s.regs = true) (pending : s.fst.mbPending = true)
    (short : ws.length < 16) :
    (s.romSay rc ws).host.mbBusy = false ∧ (s.romSay rc ws).host.mbDone = true ∧
      (s.romSay rc ws).host.mbSeq = s.host.mbReqSeq ∧
      (s.romSay rc ws).host.mbRspLen = BitVec.ofNat 5 (ws.length + 1) ∧
      rget (s.romSay rc ws).regs (Reg.MB_RSP 0) = (at32 0 rc ||| at32 16 s.mbCmd) ∧
      (∀ i, i < ws.length → rget (s.romSay rc ws).regs (Reg.MB_RSP (i + 1)) = ws.getD i 0) ∧
      Only [.now, .regs, .host, .fst] s (s.romSay rc ws) := by
  have len : ((at32 0 rc ||| at32 16 s.mbCmd) :: ws).length = ws.length + 1 := rfl
  have seq : fld (at32 0 s.fst.mbSeq.toNat ||| at32 8 (ws.length + 1)) 0 8 = s.fst.mbSeq.toNat := by
    rw [fld_or, fld_at32 (by decide), fld_at32_below (by decide) (by decide), Nat.or_zero, Nat.mod_eq_of_lt s.fst.mbSeq.isLt]
  have size : fld (at32 0 s.fst.mbSeq.toNat ||| at32 8 (ws.length + 1)) 8 5 = ws.length + 1 := by
    rw [fld_or, fld_at32 (by decide), fld_at32_above (k := 8) (by decide) (by decide) s.fst.mbSeq.isLt, Nat.zero_or,
      Nat.mod_eq_of_lt (by omega)]
  rw [State.romSay, State.romReply, len]
  obtain ⟨wf', put, rest⟩ := rget_written (ws := (at32 0 rc ||| at32 16 s.mbCmd) :: ws) (k := 0) (dst := Reg.FP_MB_RSP) wf
    (fun i j h => by unfold Reg.FP_MB_RSP at h; omega)
  obtain ⟨copied, -, -, host, -, parts⟩ := State.writeMbDone_completes
    (s := { s with regs := putRsp ((at32 0 rc ||| at32 16 s.mbCmd) :: ws) s.regs })
    (v := at32 0 s.fst.mbSeq.toNat ||| at32 8 (ws.length + 1)) pending (by rw [seq]; simp) (by rw [size]; omega) wf'
  rw [size] at copied host
  refine ⟨?_, ?_, ?_, ?_, ?_, fun i hi => ?_, .app parts rfl (.app Only.set_regs rfl .refl)⟩
  · rw [host]
  · rw [host]
  · rw [host]
  · rw [host]
  · rw [copied 0 (by omega)]
    exact put 0 (by simp)
  · rw [copied (i + 1) (by omega)]
    have := put (i + 1) (by simpa using hi)
    rwa [Nat.zero_add] at this

/-- A request that finds its mailbox idle, open and of a length that it takes, outside the recovery set. -/
theorem State.writeDoor_accepts (code : s.doorCode v = 0) (firmware : s.fst.st ≠ .recovery) :
    s.writeDoor v = s.mbStart v := by
  rw [State.writeDoor, if_pos code, State.when_false (by
    show (s.fst.st == _) = false
    simpa using firmware)]

/-- A request that the recovery ROM answers at once. -/
theorem State.writeDoor_serves (code : s.doorCode v = 0) (recovery : s.fst.st = .recovery) :
    s.writeDoor v = (s.mbStart v).romServe := by
  rw [State.writeDoor, if_pos code, State.when_true (by
    show (s.fst.st == _) = true
    simpa using recovery)]

/-- The answers of the recovery ROM that need no more than the request. -/
theorem State.romServe_says {rc : Nat} {ws : List Word}
    (row : (s.mbCmd = 0x0001 ∧ rc = 0 ∧ ws = [Config.romVersion]) ∨ (s.mbCmd = 0x0105 ∧ rc = 0 ∧ ws = s.fst.rom.status) ∨
      (s.mbCmd ∉ [0x0001, 0x0002, 0x0100, 0x0101, 0x0102, 0x0105, 0x0200] ∧ rc = 1 ∧ ws = [])) :
    s.romServe = s.romSay rc ws ∧ ws.length < 16 := by
  rcases row with ⟨cmd, rfl, rfl⟩ | ⟨cmd, rfl, rfl⟩ | ⟨cmd, rfl, rfl⟩
  · simp [State.romServe, cmd]
  · simp [State.romServe, cmd, Rom.status]
  · simp only [List.mem_cons, List.not_mem_nil, or_false, not_or] at cmd
    obtain ⟨h1, h2, h3, h4, h5, h6, h7⟩ := cmd
    simp [State.romServe, h1, h2, h3, h4, h5, h6, h7]

end

/-- Settles O23, outcome by outcome of a doorbell, a time-out, a completion and an event. -/
theorem mailboxRequestsAndCompletions : Obligations.MailboxRequestsAndCompletions := by
  refine ⟨fun t s on canon => ⟨fun req v write => ⟨fun idle apart opened low high firmware => ?_, fun code cause => ?_,
    fun idle apart opened low high recovery cmd rc ws hcmd row => ?_⟩, fun busy late => ?_, fun ended => ?_⟩,
    fun t v s on awake canon => ⟨fun pending seq len => ?_, fun other => ?_, ?_⟩⟩
  · have e := (mbDoor_runs write).trans (congrArg _ (State.writeDoor_accepts (s := s.stamp t)
      (State.doorCode_accepts idle apart opened low high) firmware))
    obtain ⟨-, copied, rest⟩ := State.mbStart_regs (s := s.stamp t) (v := v) canon.regs
    exact ⟨_, e, copied, rest, rfl, rfl, .app Only.set_sample rfl (.app Only.set_regs_host_fst rfl
      (.app State.stamp_only rfl .refl))⟩
  · obtain ⟨door, refused⟩ := State.doorCode_refuses (s := s.stamp t) (v := v) cause
    have e : exec (.mbDoor t req v) s = .next ({ s.stamp t with host := s.host.mbRefuse code v }.report
        [.irq 0x58 0, Note.hit Reg.MB_STAT 4]) := by
      rw [mbDoor_runs write, State.writeDoor, door, if_neg refused]
      rfl
    exact ⟨_, e, rfl, State.report_reads canon.regs rfl rfl, State.report_regsOnly_of (fun _ h => h) rfl,
      .app State.report_parts rfl (.app Only.set_host rfl (.app State.stamp_only rfl .refl))⟩
  · have e := (mbDoor_runs write).trans (congrArg _ (State.writeDoor_serves (s := s.stamp t)
      (State.doorCode_accepts idle apart opened low high) recovery))
    have asked := State.mbStart_cmd (s := s.stamp t) (v := v) canon.regs
    obtain ⟨wf, -, -⟩ := State.mbStart_regs (s := s.stamp t) (v := v) canon.regs
    have cmd' : ((s.stamp t).mbStart v).mbCmd = cmd := asked.trans hcmd.symm
    obtain ⟨said, short⟩ := State.romServe_says (s := (s.stamp t).mbStart v) (rc := rc) (ws := ws) (by rw [cmd']; exact row)
    obtain ⟨busy, done, seq, len, first, rest, parts⟩ :=
      State.romSay_answers (s := (s.stamp t).mbStart v) (rc := rc) (ws := ws) wf rfl short
    rw [said] at e
    rw [cmd'] at first
    exact ⟨_, e, busy, done, seq, len, first, rest, .app parts rfl (.app Only.set_sample rfl (.app Only.set_regs_host_fst rfl
      (.app State.stamp_only rfl .refl)))⟩
  · have e : exec (.mailboxTimeout t) s = .next (s.stamp t).mbExpire :=
      (onCore_on on : execMailboxTimeout t s = _).trans (congrArg _ (State.when_true (s := s.stamp t) (by simp [busy, late])))
    exact ⟨_, e, rfl, rfl, State.report_raised rfl rfl, State.report_reads canon.regs rfl rfl,
      State.report_regsOnly_of (fun _ h => h) rfl,
      .app State.report_parts rfl (.app Only.set_host_fst rfl (.app State.stamp_only rfl .refl))⟩
  · exact (onCore_on on : execMailboxTimeout t s = _).trans (congrArg _ (State.when_false (s := s.stamp t) (by
      rcases ended with h | h
      · simp [h]
      · simp [h])))
  · have e : exec (.fpMbDone t v) s = .next ((s.stamp t).writeMbDone v) := (onForester_on on awake : execFpMbDone t v s = _)
    obtain ⟨copied, rest, raw, host, fst, parts⟩ :=
      State.writeMbDone_completes (s := s.stamp t) pending seq len canon.regs
    exact ⟨_, e, copied, rest, raw, host, fst, .app parts rfl (.app State.stamp_only rfl .refl)⟩
  · have e : exec (.fpMbDone t v) s = .next ((s.stamp t).writeMbDone v) := (onForester_on on awake : execFpMbDone t v s = _)
    obtain ⟨fst, parts⟩ := State.writeMbDone_drops (s := s.stamp t) other
    exact ⟨_, e, fst, .app parts rfl (.app State.stamp_only rfl .refl)⟩
  · have e : exec (.fpMbEvt t v) s = .next ((s.stamp t).writeMbEvt v) := (onForester_on on awake : execFpMbEvt t v s = _)
    refine ⟨_, e, fun i => ?_, State.report_regsOnly_of (noteIf_words (fun _ h => h)) rfl,
      .app State.report_parts (noteIf_parts rfl) (.app State.stamp_only rfl .refl)⟩
    have word : rget ((s.stamp t).writeMbEvt v).regs (rawOf 0x58) =
        if bit v 0 then rget s.regs (rawOf 0x58) ||| 2 else rget s.regs (rawOf 0x58) :=
      State.report_reads canon.regs rfl noteIf_onWord
    rw [word]
    cases evt : bit v 0 with
    | false => simp
    | true => exact (bit_setBit (x := rget s.regs (rawOf 0x58)) (j := 1) (by decide)).trans (by simp)

end Sys2Proof.Machine
end

section
/-! Forester's resets and its watchdog. -/

namespace Sys2Proof.Machine

open Sys2Proof

/-! ### What Glade's samples leave as it was -/

section
variable {g : Glade} {now : Nat} {r0 r1 ready : Bool} {s : State} {α : Type} {f : Glade → α}

/-- Glade with the fields that a transition writes. -/
def Glade.moved (g : Glade) (st : GladeState) (cause : BitVec 4) (reacted resumed retOk : Bool)
    (slo fb lock : Word) : Glade :=
  { g with
    st := st, cause := cause, reacted := reacted, resumed := resumed, retOk := retOk
    cntSlo := slo, cntFb := fb, cntLock := lock }

/-- What no transition writes. -/
theorem Glade.transit_unchanged
    (moved : ∀ g st cause re rs ro x y z, f (Glade.moved g st cause re rs ro x y z) = f g) : f (g.transit ready) = f g := by
  unfold Glade.transit
  split
  · exact moved g _ _ _ _ _ _ _ _
  · split
    case h_1 => split_ifs; exacts [moved g _ _ _ _ _ _ _ _, rfl]
    case h_2 => split_ifs; exacts [moved g _ _ _ _ _ _ _ _, moved g _ _ _ _ _ _ _ _, rfl]
    case h_3 =>
      split_ifs
      exacts [moved g _ _ _ _ _ _ _ _, moved g _ _ _ _ _ _ _ _, rfl, moved g _ _ _ _ _ _ _ _, rfl]
    case h_4 =>
      split_ifs
      exacts [rfl, rfl, moved g _ _ _ _ _ _ _ _, moved g _ _ _ _ _ _ _ _, moved g _ _ _ _ _ _ _ _, rfl]
    case h_5 => rfl

/-- What neither a judgement of the inputs, nor a transition, nor the outputs write. -/
theorem Glade.sample_unchanged (sensed : ∀ g now, f (Glade.sensed g now) = f g)
    (moved : ∀ g st cause re rs ro x y z, f (Glade.moved g st cause re rs ro x y z) = f g)
    (drive : ∀ g, f (Glade.drive g) = f g) : f (g.sample now r0 r1) = f g := by
  rw [Glade.sample_eq, drive, Glade.transit_unchanged moved, sensed]

theorem State.gladeSample_unchanged (sensed : ∀ g now, f (Glade.sensed g now) = f g)
    (moved : ∀ g st cause re rs ro x y z, f (Glade.moved g st cause re rs ro x y z) = f g)
    (drive : ∀ g, f (Glade.drive g) = f g) : f s.gladeSample.glade = f s.glade := by
  rw [State.gladeSample_glade, Glade.sample_unchanged sensed moved drive]

theorem State.gladeSettle_unchanged (sensed : ∀ g now, f (Glade.sensed g now) = f g)
    (moved : ∀ g st cause re rs ro x y z, f (Glade.moved g st cause re rs ro x y z) = f g)
    (drive : ∀ g, f (Glade.drive g) = f g) : f s.gladeSettle.glade = f s.glade := by
  unfold State.gladeSettle
  split
  · rw [State.gladeSample_unchanged sensed moved drive, State.gladeSample_unchanged sensed moved drive,
      State.gladeSample_unchanged sensed moved drive, State.gladeSample_unchanged sensed moved drive]
  · rfl

/-- The watchdog's window and its start. -/
theorem State.gladeSettle_watchdog :
    s.gladeSettle.glade.wdBoot = s.glade.wdBoot ∧ s.gladeSettle.glade.wdAt = s.glade.wdAt := by
  constructor
  · exact State.gladeSettle_unchanged (f := Glade.wdBoot) (fun _ _ => rfl) (fun _ _ _ _ _ _ _ _ _ => rfl) (fun _ => rfl)
  · exact State.gladeSettle_unchanged (f := Glade.wdAt) (fun _ _ => rfl) (fun _ _ _ _ _ _ _ _ _ => rfl) (fun _ => rfl)

/-- A condition that Glade's own read-backs do not judge. -/
theorem State.gladeSettle_cond {j : Nat} (own : j ≠ 6 ∧ j ≠ 9) :
    bit s.gladeSettle.glade.cond j = bit s.glade.cond j :=
  State.gladeSettle_unchanged (f := fun g => bit g.cond j)
    (fun _ _ => (bit_putBit_ne (by decide) own.2).trans (bit_putBit_ne (by decide) own.1))
    (fun _ _ _ _ _ _ _ _ _ => rfl) (fun _ => rfl)

/-- A condition that holds is raised once Glade has settled. -/
theorem State.gladeSettle_raises {j : Nat} (on : s.gladeOn = true) (h : bit s.glade.cond j = true)
    (own : j ≠ 6 ∧ j ≠ 8 ∧ j ≠ 9) : bit s.gladeSettle.glade.raised j = true := by
  refine State.gladeSettle_induction on (p := fun u => bit u.glade.raised j = true) ?_ (fun u hu => ?_)
  · rw [State.gladeSample_glade, Glade.sample_eq]
    exact (congrArg (bit · j) Glade.transit_raised).trans (Glade.sensed_raises h own)
  · rw [State.gladeSample_glade, Glade.sample_eq]
    exact (congrArg (bit · j) Glade.transit_raised).trans (Glade.sensed_raised_of hu)

end

/-! ### Resets of Forester (18 R638–R640) -/

section
variable {s : State} {c : ForCause} {t : Nat}

theorem Log.append_wr {g : Log} {x : Sec} {r : List Word} : (g.append x r).wr = g.wr + 1 := by
  unfold Log.append
  split
  · exact Log.seal_wr
  · dsimp only
    split
    · exact Log.seal_wr
    · rfl

/-- A hardware record takes the next index. -/
theorem State.logHw_wr {code src data : Nat} (on : s.coreOn = true) : (s.logHw code src data).log.wr = s.log.wr + 1 := by
  rw [State.logHw, State.logBy, if_pos on]
  exact Log.append_wr

/-- The FP page after a reset: every word at its reset value but FP_BOOT, which only a power reset clears. -/
theorem rget_foresterRegs {f : RegFile} {a : Nat} :
    rget (foresterRegs c f) a =
      if a < 0x100000 ∨ (a = Reg.FP_BOOT ∧ c ≠ .power) then rget f a else regReset a := by
  have filtered : rget (foresterRegs c f) a = _ :=
    smGet_filter (d := regReset) (p := fun a => decide (a < 0x100000) || (a == Reg.FP_BOOT && c != .power))
  rw [filtered]
  by_cases h : a < 0x100000 ∨ (a = Reg.FP_BOOT ∧ c ≠ .power)
  · rw [if_pos h, if_pos (by simpa using h)]
    rfl
  · rw [if_neg h, if_neg (by simpa using h)]

theorem State.resetForester_low {held : Bool} {a : Nat} (low : a < 0x100000) :
    rget (s.resetForester c held).regs a = rget s.regs a := by
  rw [State.resetForester_regs, rget_foresterRegs, if_pos (.inl low)]

/-- A reset of Forester that does not hold it. -/
theorem State.resetForester_does (on : s.coreOn = true) :
    (s.resetForester c false).fst = { st := .rom, cause := causeCode c, tcm := s.fst.tcm
                                      triedA := s.fst.triedA && decide (c ≠ .power)
                                      triedB := s.fst.triedB && decide (c ≠ .power) } ∧
      (s.resetForester c false).sec = { s.sec with romPhase := true } ∧
      (s.resetForester c false).glade = { s.glade with wdBoot := true, wdAt := s.now, wdStopped := false } ∧
      (∀ a, a < 0x100000 → rget (s.resetForester c false).regs a = rget s.regs a) ∧
      (∀ a, 0x100000 ≤ a → a ≠ Reg.FP_BOOT → rget (s.resetForester c false).regs a = regReset a) ∧
      rget (s.resetForester c false).regs Reg.FP_BOOT =
        (if c = .power then regReset Reg.FP_BOOT else rget s.regs Reg.FP_BOOT) ∧
      (s.resetForester c false).log.wr = s.log.wr + 1 := by
  refine ⟨State.resetForester_fst.trans ?_, State.resetForester_sec, State.resetForester_glade,
    fun a low => State.resetForester_low low, fun a high boot => ?_, ?_, State.logHw_wr on⟩
  · have power : (c != .power) = decide (c ≠ .power) := by cases c <;> rfl
    rw [Forester.reset, power]
    rfl
  · rw [State.resetForester_regs, rget_foresterRegs, if_neg (by simp [boot]; omega)]
  · rw [State.resetForester_regs, rget_foresterRegs]
    by_cases h : c = .power
    · rw [if_neg (by simp [h, Reg.FP_BOOT]), if_pos h]
    · rw [if_pos (.inr ⟨rfl, h⟩), if_neg h]

theorem State.resetForester_raised {held : Bool} {x : Fin 171} (h : x ∈ s.flt.raised) :
    x ∈ (s.resetForester c held).flt.raised := State.logHw_raised h

/-- An uncorrectable word of the TCM. -/
def State.tcmDouble (w : Nat) (s : State) : State :=
  { s with fst := { s.fst with tcm := { s.fst.tcm with ue := insertNat w s.fst.tcm.ue } } }.report [.raise Src.FO_TCMUE]

theorem State.tcmDouble_parts {w : Nat} : Only [.flt, .fst] s (s.tcmDouble w) :=
  .app State.report_parts rfl (.app Only.set_fst rfl .refl)

end

/-! ### The firmware watchdog (18 R659, R660) -/

section
variable {s : State} {t : Nat} {v : Word}

theorem fpWdog_runs (on : s.coreOn = true) (runs : s.wdRuns = true) :
    exec (.fpWdog t v) s = .next ((s.stamp t).writeWdog v) := by
  have awake : (s.fst.st != .reset) = true := (Bool.and_eq_true_iff.mp runs).2
  exact (onCore_on on : execFpWdog t v s = _).trans (congrArg _ (State.when_true (s := s.stamp t) awake))

theorem State.writeWdog_first (key : fld v 0 16 = 0x5A5A) : s.writeWdog v = s.wdKey true := if_pos key

/-- A second key that follows the first is a service. -/
theorem State.writeWdog_services (key : fld v 0 16 = 0xA5A5) (first : s.fst.wdKey = true) (runs : s.wdRuns = true)
    (glade : s.gladeOn = true) : s.writeWdog v = (s.wdKey false).fwdogService := by
  have runs' : ((s.wdKey false).wdRuns && (s.wdKey false).gladeOn) = true := by
    rw [show (s.wdKey false).wdRuns = s.wdRuns from rfl, show (s.wdKey false).gladeOn = s.gladeOn from rfl, runs, glade]
    rfl
  simp only [State.writeWdog]
  rw [if_neg (by omega), if_neg (by simp [runs']), if_pos ⟨key, first⟩]

/-- Any other key, or a second one alone, is an expiry. -/
theorem State.writeWdog_expires (key : fld v 0 16 ≠ 0x5A5A) (bad : fld v 0 16 ≠ 0xA5A5 ∨ s.fst.wdKey = false)
    (runs : s.wdRuns = true) (glade : s.gladeOn = true) : s.writeWdog v = (s.wdKey false).fwdogExpire := by
  have runs' : ((s.wdKey false).wdRuns && (s.wdKey false).gladeOn) = true := by
    rw [show (s.wdKey false).wdRuns = s.wdRuns from rfl, show (s.wdKey false).gladeOn = s.gladeOn from rfl, runs, glade]
    rfl
  simp only [State.writeWdog]
  rw [if_neg key, if_neg (by simp [runs']), if_neg]
  rintro ⟨second, first⟩
  rcases bad with h | h
  · exact h second
  · rw [h] at first
    exact Bool.false_ne_true first

/-- An expiry raises GL_FWDOG and resets Forester with cause 3. -/
theorem State.fwdogExpire_does (on : s.gladeOn = true) :
    s.fwdogExpire.fst.st = .rom ∧ s.fwdogExpire.fst.cause = 3 ∧ bit s.fwdogExpire.glade.raised 11 = true ∧
      s.fwdogExpire.glade.wdBoot = true ∧ s.fwdogExpire.fst.tcm = s.fst.tcm ∧ s.fwdogExpire.glade.wdAt = s.now := by
  have raised : bit (s.gladeCond 11 true).gladeSettle.glade.raised 11 = true :=
    State.gladeSettle_raises on (bit_putBit_self (by decide)) (by decide)
  have parts := State.gladeSettle_parts (s := s.gladeCond 11 true)
  have fst := State.resetForester_fst (s := (s.gladeCond 11 true).gladeSettle) (c := .watchdog) (held := false)
  have glade := State.resetForester_glade (s := (s.gladeCond 11 true).gladeSettle) (c := .watchdog) (held := false)
  have now : (s.gladeCond 11 true).gladeSettle.now = s.now := (parts .now rfl).1
  have fst' : (s.gladeCond 11 true).gladeSettle.fst = s.fst := parts .fst rfl
  rw [State.fwdogExpire]
  generalize (s.gladeCond 11 true).gladeSettle = u at *
  generalize u.resetForester .watchdog false = n at *
  rw [fst, glade, fst', now]
  exact ⟨rfl, rfl, raised, rfl, rfl, rfl⟩

/-- A service outside the first quarter of the window ends GL_FWDOG's condition and opens the run window. -/
theorem State.fwdogService_does (timely : s.glade.wdSoon s.now = false) :
    s.fwdogService.glade.wdBoot = false ∧ s.fwdogService.glade.wdAt = s.now ∧
      bit s.fwdogService.glade.cond 11 = false ∧ s.fwdogService.fst = s.fst ∧ s.fwdogService.sec = s.sec := by
  have e : s.fwdogService =
      ({ s with glade := { s.glade with wdBoot := false, wdAt := s.now } }.gladeCond 11 false).gladeSettle :=
    if_neg (by simp [timely])
  rw [e]
  have parts := State.gladeSettle_parts (s := { s with glade := { s.glade with
    wdBoot := false, wdAt := s.now } }.gladeCond 11 false)
  obtain ⟨boot, start⟩ := State.gladeSettle_watchdog (s := { s with glade := { s.glade with
    wdBoot := false, wdAt := s.now } }.gladeCond 11 false)
  exact ⟨boot, start, (State.gladeSettle_cond (by decide)).trans (bit_putBit_self (by decide)), parts .fst rfl, parts .sec rfl⟩

end

/-- Settles O24, cause by cause of a reset and key by key of the watchdog. -/
theorem foresterResetsAndWatchdog : Obligations.ForesterResetsAndWatchdog := by
  refine ⟨fun t s on => ⟨fun c running => ?_, fun v awake rst => ?_, fun w awake => ?_, fun w awake => ?_,
    fun c awake => ⟨?_, ?_⟩⟩, fun t v s on glade runs => ⟨fun key => ?_, fun key first boot => ?_, fun key bad => ?_,
    fun key first boot soon => ?_, fun served => ?_, fun late awake => ?_⟩⟩
  · have e : exec (.foresterReset t c) s = .next ((s.stamp t).resetForester c false) := by
      have shut : (c == .shutdown && s.thm.stopped) = false := by cases c <;> simp_all
      exact (onCore_on on : execForesterReset t c s = _).trans (congrArg (fun h => Host.Outcome.next
        ((s.stamp t).resetForester c h)) shut)
    obtain ⟨fst, sec, glade, low, high, boot, wr⟩ := State.resetForester_does (s := s.stamp t) (c := c) on
    exact ⟨_, e, fst, sec, glade, low, high, boot, wr, .app State.resetForester_parts rfl (.app State.stamp_only rfl .refl)⟩
  · have e : exec (.swrst t v) s = .next ((s.stamp t).resetForester .software false) :=
      (onForester_on on awake : execSwrst t v s = _).trans (congrArg _ (State.when_true rst))
    obtain ⟨fst, sec, glade, low, high, boot, wr⟩ := State.resetForester_does (s := s.stamp t) (c := .software) on
    refine ⟨_, e, ?_, ?_, ?_, sec, low, .app State.resetForester_parts rfl (.app State.stamp_only rfl .refl)⟩
    · rw [fst]
    · rw [fst]; rfl
    · rw [fst]; rfl
  · have e : exec (.tcmError t (.double w)) s = .next (((s.stamp t).tcmDouble w).resetForester .tcm false) :=
      (onForester_on on awake : execTcmError t (.double w) s = _)
    have fst := State.resetForester_fst (s := (s.stamp t).tcmDouble w) (c := .tcm) (held := false)
    refine ⟨_, e, ?_, ?_, ?_, ?_, State.resetForester_raised (List.mem_append_right _ (List.mem_singleton.mpr rfl)),
      .app State.resetForester_parts rfl (.app State.tcmDouble_parts rfl (.app State.stamp_only rfl .refl))⟩
    · rw [fst]; rfl
    · rw [fst]; rfl
    · rw [fst]; exact mem_insertNat
    · rw [fst]; rfl
  · exact ⟨_, (onForester_on on awake : execTcmError t (.single w) s = _), rfl, State.report_raised rfl rfl,
      .app State.report_parts rfl (.app Only.set_fst rfl (.app State.stamp_only rfl .refl))⟩
  · exact ⟨_, (onForester_on on awake : execForesterException t (.pmp c) s = _), rfl, State.report_raised rfl rfl,
      .app State.report_parts rfl (.app Only.set_fst rfl (.app State.stamp_only rfl .refl))⟩
  · exact ⟨_, (onForester_on on awake : execForesterException t (.other c) s = _), rfl, State.report_raised rfl rfl,
      .app State.report_parts rfl (.app Only.set_fst rfl (.app State.stamp_only rfl .refl))⟩
  · have e := (fpWdog_runs (t := t) on runs).trans (congrArg _ (State.writeWdog_first (s := s.stamp t) key))
    exact ⟨_, e, rfl, .app Only.set_fst rfl (.app State.stamp_only rfl .refl)⟩
  · have e := (fpWdog_runs (t := t) on runs).trans
      (congrArg _ (State.writeWdog_services (s := s.stamp t) key first runs glade))
    obtain ⟨boot', start, cond, fst, sec⟩ := State.fwdogService_does (s := (s.stamp t).wdKey false) (by
      show (!s.glade.wdBoot && _) = false
      rw [boot]
      rfl)
    exact ⟨_, e, boot', start, cond, fst, sec, exec_only _ e⟩
  · have e := (fpWdog_runs (t := t) on runs).trans
      (congrArg _ (State.writeWdog_expires (s := s.stamp t) key bad runs glade))
    obtain ⟨st, cause, raised, boot, -, -⟩ := State.fwdogExpire_does (s := (s.stamp t).wdKey false) glade
    exact ⟨_, e, st, cause, raised, boot, exec_only _ e⟩
  · have e := (fpWdog_runs (t := t) on runs).trans
      (congrArg _ (State.writeWdog_services (s := s.stamp t) key first runs glade))
    have early : ((s.stamp t).wdKey false).fwdogService = ((s.stamp t).wdKey false).fwdogExpire := if_pos (by
      show (!s.glade.wdBoot && decide ((max s.now t - s.glade.wdAt) / msec < s.glade.runMs / 4)) = true
      rw [boot, decide_eq_true soon]
      rfl)
    obtain ⟨st, cause, raised, -, -, -⟩ := State.fwdogExpire_does (s := (s.stamp t).wdKey false) glade
    rw [early] at e
    exact ⟨_, e, st, cause, raised⟩
  · exact (onGlade_on glade : execFirmwareWatchdogExpiry t s = _).trans (congrArg _ (State.when_false (s := s.stamp t) (by
      rcases served with h | h
      · rw [h]; simp
      · rw [show (s.stamp t).romServes = s.romServes from rfl, h]; simp)))
  · have e : exec (.firmwareWatchdogExpiry t) s = .next (s.stamp t).fwdogExpire :=
      (onGlade_on glade : execFirmwareWatchdogExpiry t s = _).trans (congrArg _ (State.when_true (s := s.stamp t) (by
        rw [show (s.stamp t).wdRuns = s.wdRuns from rfl, show (s.stamp t).romServes = s.romServes from rfl, runs, late, awake]
        rfl)))
    obtain ⟨st, cause, raised, -, tcm, start⟩ := State.fwdogExpire_does (s := s.stamp t) glade
    exact ⟨_, e, st, cause, raised, tcm, start, exec_only _ e⟩

end Sys2Proof.Machine
end

section
/-! The SPI NOR flash. -/

namespace Sys2Proof.Machine

open Sys2Proof

/-! ### Bytes of words -/

section
variable {l : List Byte} {n : Nat}

theorem ofBytesLE_lt : ofBytesLE l < 256 ^ l.length := by
  induction l with
  | nil => simp [ofBytesLE]
  | cons b r ih =>
    have := b.isLt
    rw [ofBytesLE, List.length_cons, Nat.pow_succ]
    omega

/-- The bytes of the number that a string stands for. -/
theorem toBytesLE_ofBytesLE : toBytesLE l.length (ofBytesLE l) = l := by
  induction l with
  | nil => rfl
  | cons b r ih =>
    have small := b.isLt
    have low : BitVec.ofNat 8 (b.toNat + 256 * ofBytesLE r) = b := by
      apply BitVec.eq_of_toNat_eq
      rw [BitVec.toNat_ofNat]
      omega
    have high : (b.toNat + 256 * ofBytesLE r) / 256 = ofBytesLE r := by omega
    rw [ofBytesLE, List.length_cons, toBytesLE, low, high, ih]

/-- A string cut into dwords and put together again. -/
theorem flatMap_dwords : (List.range n).flatMap (fun i => (l.drop (4 * i)).take 4) = l.take (4 * n) := by
  induction n with
  | zero => rfl
  | succ n ih =>
    rw [List.range_succ, List.flatMap_append, ih, List.flatMap_cons, List.flatMap_nil, List.append_nil, Nat.mul_succ,
      List.take_add]

end

/-! ### The buffer of the SPI NOR master (18 R646) -/

section
variable {f : RegFile} {dst : Nat → Nat} {v : Nat → Word} {l : List Byte}

/-- Words written one by one, each at an address of its own. -/
theorem rget_ranged {n : Nat} (wf : smWf regReset f = true) (inj : ∀ i j, dst i = dst j → i = j) :
    smWf regReset ((List.range n).foldl (fun f i => rset (dst i) (v i) f) f) = true ∧
      (∀ i, i < n → rget ((List.range n).foldl (fun f i => rset (dst i) (v i) f) f) (dst i) = v i) ∧
      (∀ a, (∀ i, i < n → a ≠ dst i) → rget ((List.range n).foldl (fun f i => rset (dst i) (v i) f) f) a = rget f a) := by
  induction n with
  | zero => exact ⟨wf, nofun, fun _ _ => rfl⟩
  | succ n ih =>
    obtain ⟨wf', words, rest⟩ := ih
    rw [List.range_succ, List.foldl_append, List.foldl_cons, List.foldl_nil]
    generalize (List.range n).foldl _ f = g at *
    refine ⟨rset_wf wf', fun i hi => ?_, fun a ha => ?_⟩
    · rw [rget_rset wf']
      by_cases e : i = n
      · rw [e, if_pos rfl]
      · rw [if_neg (fun h => e (inj i n h))]
        exact words i (by omega)
    · rw [rget_rset_ne (ha n (by omega))]
      exact rest a (fun i hi => ha i (by omega))

theorem norBuf_length : (norBuf f 256).length = 256 := by
  rw [norBuf, List.length_take, List.length_flatMap]
  simp [toBytesLE_length]

/-- What the buffer holds once bytes have been put into it from its start. -/
theorem norBuf_norFill (wf : smWf regReset f = true) (short : l.length ≤ 256) :
    norBuf (norFill f l) 256 = l ++ (norBuf f 256).drop l.length := by
  obtain ⟨-, words, -⟩ := rget_ranged (n := 64) (dst := Reg.FP_SPI_BUF)
    (v := fun i => BitVec.ofNat 32 (leAt (l ++ (norBuf f 256).drop l.length) (4 * i) 4)) wf
    (fun i j h => by unfold Reg.FP_SPI_BUF at h; omega)
  have size : (l ++ (norBuf f 256).drop l.length).length = 256 := by
    rw [List.length_append, List.length_drop, norBuf_length]
    omega
  rw [norBuf, norFill]
  generalize l ++ (norBuf f 256).drop l.length = all at *
  have dword : ∀ i ∈ List.range 64, toBytesLE 4 (rget ((List.range 64).foldl
      (fun f i => rset (Reg.FP_SPI_BUF i) (BitVec.ofNat 32 (leAt all (4 * i) 4)) f) f) (Reg.FP_SPI_BUF i)).toNat =
      (all.drop (4 * i)).take 4 := by
    intro i hi
    have four : ((all.drop (4 * i)).take 4).length = 4 := by
      have := List.mem_range.mp hi
      rw [List.length_take, List.length_drop, size]
      omega
    have small : leAt all (4 * i) 4 < 2 ^ 32 := by
      have := ofBytesLE_lt (l := (all.drop (4 * i)).take 4)
      rwa [four] at this
    rw [words i (List.mem_range.mp hi), BitVec.toNat_ofNat, Nat.mod_eq_of_lt small, leAt]
    have := toBytesLE_ofBytesLE (l := (all.drop (4 * i)).take 4)
    rwa [four] at this
  rw [List.flatMap_congr dword, flatMap_dwords, List.take_take, List.take_of_length_le (by rw [size]; decide)]

theorem norFill_leaves {a : Nat} (wf : smWf regReset f = true) (apart : ∀ i, i < 64 → a ≠ Reg.FP_SPI_BUF i) :
    rget (norFill f l) a = rget f a := by
  have inj : ∀ i j, Reg.FP_SPI_BUF i = Reg.FP_SPI_BUF j → i = j := fun i j h => by unfold Reg.FP_SPI_BUF at h; omega
  rw [norFill]
  exact (rget_ranged wf inj).2.2 a apart

end

/-! ### Commands to the SPI NOR flash (18 R644, R646, R666) -/

section
variable {s : State} {t : Nat} {v : Word} {a : BitVec 24} {d : List Byte}

theorem spiNorCommand_runs (on : s.coreOn = true) (awake : s.fst.st ≠ .reset) (idle : s.fst.spi.cmd = none)
    (loaded : s.loading = false) :
    exec (.spiNorCommand t v) s = .next ((s.stamp t).norStart v (BitVec.ofNat 24 (rget s.regs Reg.FP_SPI_ADDR).toNat)) := by
  refine (onForester_on on awake : execSpiNorCommand t v s = _).trans (congrArg _ ?_)
  have idle' : (s.stamp t).fst.spi.cmd.isSome = false := by
    show s.fst.spi.cmd.isSome = false
    rw [idle]
    rfl
  rw [State.writeNor, if_neg (by rw [idle']; exact Bool.false_ne_true),
    if_neg (by rw [show (s.stamp t).loading = s.loading from rfl, loaded]; exact Bool.false_ne_true)]
  rfl

/-- A page program within Glade's parameters meets their guard and no journal slot. -/
theorem norGuarded_parameters (op : fld v 0 8 = 0x02) (level : s.sec.dbgLevel.toNat < 2) (low : 0x10000 ≤ a.toNat)
    (high : a.toNat < 0x12000) : s.norGuarded v a = true ∧ inJournal (norRange v a) = false := by
  have erase : norErase v = 0 := by simp [norErase, op]
  have range : norRange v a = (a.toNat / 256 * 256, 256) := by simp [norRange, erase, norProgram, op]
  have guard : meets (a.toNat / 256 * 256) 256 0x10000 0x2000 = true := by
    simp [meets]
    omega
  have apart : meets (a.toNat / 256 * 256) 256 0x12000 0x2000 = false := by
    simp [meets]
    omega
  constructor
  · rw [State.norGuarded, range, Glade.guards, guard]
    simp [level]
  · rw [inJournal, range, apart]

/-- The end of a command that neither the recovery set nor LOAD holds. -/
theorem State.norEnd_does (awake : s.fst.st ≠ .reset) (cmd : s.fst.spi.cmd = some (v, a)) (out : s.fst.spi.loadWait = false)
    (firmware : ¬(s.fst.st = .recovery ∧ s.fst.rom.steps ≠ [])) :
    s.norEnd d = { s with
      regs := if bit v 15 then s.regs else norFill s.regs (d.take (min 256 (fld v 16 9)))
      fst := { s.fst with irq := s.fst.irq ||| 16, spi := { s.fst.spi with
        cmd := none, done := true, last := some (v, a), journal := s.fst.spi.journal && !journalLast v a } } }.report
        [Note.hit Reg.FP_IRQ 0x10, Note.hit Reg.FP_SPI_STAT 2] := by
  have done : s.norDone d = { s with
      regs := if bit v 15 then s.regs else norFill s.regs (d.take (min 256 (fld v 16 9)))
      fst := { s.fst with irq := s.fst.irq ||| 16, spi := { s.fst.spi with
        cmd := none, done := true, last := some (v, a), journal := s.fst.spi.journal && !journalLast v a } } }.report
        [Note.hit Reg.FP_IRQ 0x10, Note.hit Reg.FP_SPI_STAT 2] := by
    rw [State.norDone, cmd]
    dsimp only
    rw [out]
    rfl
  rw [State.norEnd, if_neg awake, done, State.when]
  split
  · exact if_neg firmware
  · rfl

/-- The end of a write's polling without success. -/
theorem State.norLate_does (awake : s.fst.st ≠ .reset) (cmd : s.fst.spi.cmd = some (v, a)) (out : s.fst.spi.loadWait = false)
    (polls : bit v 25 = true) (firmware : ¬(s.fst.st = .recovery ∧ s.fst.rom.steps ≠ [])) :
    s.norLate = { s with fst := { s.fst with irq := s.fst.irq ||| 16, spi := { s.fst.spi with
        cmd := none, done := true, err := true, last := some (v, a)
        journal := s.fst.spi.journal && !inJournal (norRange v a) } } }.report
      ([Note.raise Src.FO_FLASH, Note.hit Reg.FP_IRQ 0x10, Note.hit Reg.FP_SPI_STAT 6] ++
        noteIf (inJournal (norRange v a)) [.raise Src.FO_JRNL]) := by
  have late : s.norTimeout = { s with fst := { s.fst with irq := s.fst.irq ||| 16, spi := { s.fst.spi with
        cmd := none, done := true, err := true, last := some (v, a)
        journal := s.fst.spi.journal && !inJournal (norRange v a) } } }.report
      ([Note.raise Src.FO_FLASH, Note.hit Reg.FP_IRQ 0x10, Note.hit Reg.FP_SPI_STAT 6] ++
        noteIf (inJournal (norRange v a)) [.raise Src.FO_JRNL]) := by
    rw [State.norTimeout, cmd]
    dsimp only
    rw [out, polls]
    rfl
  have calm : (s.fst.st == .recovery && s.fst.rom.steps != []) = false := by
    simpa using firmware
  rw [State.norLate, if_neg awake, late]
  generalize hn : State.report _ _ = n
  have st : (n.fst.st == .recovery && n.fst.rom.steps != []) = false := by
    rw [← hn]
    exact calm
  have ignored : n.romError = n := by rw [State.romError, State.when_false st]
  rw [State.when, ignored, ite_self]

end
end Sys2Proof.Machine
end

section
/-! Sensors, UART and event log. -/

namespace Sys2Proof.Machine

open Sys2Proof

/-! ### Sensor slots (18 R656–R658) -/

section
variable {s : State} {t : Nat} {k : Fin 8} {b : Fin 2}

/-- With no slot waiting, a bus takes none. -/
theorem State.busNext_rests (calm : ∀ m : Fin 8, (s.fst.slots[m]).waiting = false) : s.busNext b = s := by
  have nobody : senSlots.find? (fun n => (s.fst.slots[n]).waiting && slotBus s.regs n == b) = none := by
    rw [List.find?_eq_none]
    intro m _
    rw [calm m]
    exact Bool.false_ne_true
  unfold State.busNext
  rw [nobody]
  exact ite_self _

/-- A bus in use takes no further slot. -/
theorem State.busNext_taken (taken : (s.fst.bus[b]).isSome = true) : s.busNext b = s := if_pos taken

/-- The only slot that waits starts on its free bus. -/
theorem State.busNext_starts (free : s.fst.bus[b] = none) (waits : (s.fst.slots[k]).waiting = true)
    (own : slotBus s.regs k = b) (others : ∀ m : Fin 8, m ≠ k → (s.fst.slots[m]).waiting = false) :
    s.busNext b = { s with fst := { s.fst with
      slots := s.fst.slots.set k { s.fst.slots[k] with waiting := false }
      bus := s.fst.bus.set b (some k) } }.report [.send (.i2c b k)] := by
  have first : senSlots.find? (fun n => (s.fst.slots[n]).waiting && slotBus s.regs n == b) = some k := by
    have exists_ : (senSlots.find? (fun n => (s.fst.slots[n]).waiting && slotBus s.regs n == b)).isSome = true := by
      rw [List.find?_isSome]
      exact ⟨k, List.mem_finRange k, by rw [waits, own]; simp⟩
    obtain ⟨m, hm⟩ := Option.isSome_iff_exists.mp exists_
    have found := List.find?_some hm
    by_cases e : m = k
    · rw [hm, e]
    · rw [others m e] at found
      exact absurd found Bool.false_ne_true
  unfold State.busNext
  rw [free, if_neg (by exact Bool.false_ne_true), first]

/-- The block with slot k waiting. -/
def State.slotWaits (k : Fin 8) (s : State) : State :=
  { s with fst := { s.fst with slots := s.fst.slots.set k { s.fst.slots[k] with waiting := true } } }

/-- A slot that falls due. -/
theorem State.slotDue_waits (en : bit (rget s.regs (Reg.FP_SEN_CFG k)) 0 = true) (idle : s.slotBusy k = false) :
    s.slotDue k = (s.slotWaits k).busNext (slotBus s.regs k) :=
  if_pos (by rw [en, idle]; rfl)

theorem SenSlot.at_rest {x : SenSlot} (h : x.waiting = false) : { x with waiting := false } = x := by
  cases x
  cases h
  rfl

/-- A slot that waits and starts at once is left as it was. -/
theorem State.slotWaits_starts (rests : (s.fst.slots[k]).waiting = false) :
    (s.slotWaits k).fst.slots.set k { (s.slotWaits k).fst.slots[k] with waiting := false } = s.fst.slots := by
  have slot : { (s.slotWaits k).fst.slots[k] with waiting := false } = s.fst.slots[k] := by
    rw [show (s.slotWaits k).fst.slots[k] = { s.fst.slots[k] with waiting := true } from Vector.getElem_set_self _]
    exact SenSlot.at_rest rests
  rw [slot]
  show (s.fst.slots.set k _).set k s.fst.slots[k] = s.fst.slots
  rw [Vector.set_set]
  exact Vector.set_getElem_self _

theorem State.slotDue_starts (en : bit (rget s.regs (Reg.FP_SEN_CFG k)) 0 = true) (idle : s.slotBusy k = false)
    (own : b = slotBus s.regs k) (free : s.fst.bus[b] = none) (calm : ∀ m : Fin 8, (s.fst.slots[m]).waiting = false) :
    s.slotDue k = { s with fst := { s.fst with bus := s.fst.bus.set b (some k) } }.report [.send (.i2c b k)] := by
  have waits : ((s.slotWaits k).fst.slots[k]).waiting = true :=
    congrArg SenSlot.waiting (Vector.getElem_set_self (xs := s.fst.slots) _)
  have others : ∀ m : Fin 8, m ≠ k → ((s.slotWaits k).fst.slots[m]).waiting = false := fun m e =>
    (congrArg SenSlot.waiting (Vector.getElem_set_fin_ne e)).trans (calm m)
  rw [State.slotDue_waits en idle, ← own, State.busNext_starts (s := s.slotWaits k) (k := k) free waits own.symm others,
    State.slotWaits_starts (calm k)]
  rfl

/-- A slot after the end of its transfer: good with its data, of which it takes `n` bytes, or not. -/
def SenSlot.ended (good : Option (List Byte)) (n now : Nat) (x : SenSlot) : SenSlot :=
  match good with
  | some d => x.good (d.take n) now
  | none => { x with err := true }

theorem SenSlot.ended_waiting {good : Option (List Byte)} {n now : Nat} {x : SenSlot} :
    (x.ended good n now).waiting = x.waiting := by
  cases good with
  | none => rfl
  | some d => rfl

/-- The block after the transfer of slot k on bus b, before the bus takes another. -/
def State.senEnded (b : Fin 2) (k : Fin 8) (good : Option (List Byte)) (s : State) : State :=
  { s with fst := { s.fst with
      irq := s.fst.irq ||| 8
      slots := s.fst.slots.set k ((s.fst.slots[k]).ended good (fld (rget s.regs (Reg.FP_SEN_CFG k)) 24 3) s.now)
      bus := s.fst.bus.set b none } }.report
    ([Note.hit Reg.FP_IRQ 8] ++ noteIf good.isNone [.raise Src.FO_I2C, Note.hit (Reg.FP_SEN_STAT k) 0x10000])

/-- The end of a transfer with no slot waiting. -/
theorem State.senDone_does {good : Option (List Byte)} (busy : s.fst.bus[b] = some k)
    (polls : bit (rget s.regs (Reg.FP_SEN_CFG k)) 4 = false) (calm : ∀ m : Fin 8, (s.fst.slots[m]).waiting = false) :
    s.senDone b good = s.senEnded b k good := by
  have regs : senEnd s.regs k = s.regs := if_neg (by rw [polls]; exact Bool.false_ne_true)
  have quiet : ∀ m : Fin 8, ((s.senEnded b k good).fst.slots[m]).waiting = false := by
    intro m
    by_cases e : m = k
    · subst e
      rw [show (s.senEnded b m good).fst.slots[m] = _ from Vector.getElem_set_self _, SenSlot.ended_waiting]
      exact calm m
    · exact (congrArg SenSlot.waiting (Vector.getElem_set_fin_ne e)).trans (calm m)
  have done : s.senDone b good = (s.senEnded b k good).busNext b := by
    unfold State.senDone
    rw [busy]
    dsimp only
    rw [regs]
    cases good with
    | none => rfl
    | some d => rfl
  rw [done, State.busNext_rests quiet]

end

/-! ### The event log (18 R651–R655) -/

section
variable {s : State} {g : Log} {x : Sec} {r : List Word} {p j : Nat}

/-- A record is found where it has been put. -/
theorem Log.recAt_put (ring : smWf (fun _ => (List.replicate 8 0 : List Word)) g.ring = true) :
    (g.put p r).recAt p = r := smGet_smSet_self ring

/-- A seal leaves the first six words of every record. -/
theorem Log.recAt_seal (ring : smWf (fun _ => (List.replicate 8 0 : List Word)) g.ring = true) (word : j < 6)
    (long : 6 ≤ (g.recAt p).length) : ((g.seal x).recAt p).getD j 0 = (g.recAt p).getD j 0 := by
  unfold Log.seal
  split
  · by_cases e : p = g.rd.toNat
    · subst e
      show ((g.put g.rd.toNat _).recAt g.rd.toNat).getD j 0 = _
      rw [Log.recAt_put ring, List.getD_append _ _ _ _ (by rw [List.length_take]; omega),
        List.getD_eq_getElem?_getD, List.getElem?_take_of_lt word, ← List.getD_eq_getElem?_getD]
    · show (smGet _ (smSet _ _ _ g.ring) p).getD j 0 = _
      rw [smGet_smSet_ne e]
      rfl
  · rfl

theorem Log.put_ring (ring : smWf (fun _ => (List.replicate 8 0 : List Word)) g.ring = true) :
    smWf (fun _ => (List.replicate 8 0 : List Word)) (g.put p r).ring = true := smWf_smSet ring

theorem Log.seal_keeps : (g.seal x).lseq = g.lseq ∧ (g.seal x).lost = g.lost := by
  unfold Log.seal
  split
  · exact ⟨rfl, rfl⟩
  · exact ⟨rfl, rfl⟩

/-- A record appended: its index, what the counts and RD become, and its first six words. -/
theorem Log.append_does (ring : smWf (fun _ => (List.replicate 8 0 : List Word)) g.ring = true) (long : 6 ≤ r.length) :
    (g.append x r).lseq = g.lseq + 1 ∧
      (g.full = true → (g.append x r).rd = g.rd + 1 ∧ (g.append x r).lost = satAdd g.lost 1) ∧
      (g.full = false → (g.append x r).rd = g.rd ∧ (g.append x r).lost = g.lost) ∧
      (∀ j, j < 6 → ((g.append x r).recAt g.wr.toNat).getD j 0 = r.getD j 0) := by
  have put : (g.put g.wr.toNat r).recAt g.wr.toNat = r := Log.recAt_put ring
  have wf := Log.put_ring (p := g.wr.toNat) (r := r) ring
  have sealed : ∀ y : Log, y.ring = (g.put g.wr.toNat r).ring → ∀ j, j < 6 →
      ((y.seal x).recAt g.wr.toNat).getD j 0 = r.getD j 0 := by
    intro y hy j hj
    have stored : y.recAt g.wr.toNat = r := by rw [Log.recAt, hy]; exact put
    rw [Log.recAt_seal (by rw [hy]; exact wf) hj (by rw [stored]; exact long), stored]
  cases full : g.full with
  | true =>
    rw [Log.append, full, if_pos rfl]
    exact ⟨Log.seal_keeps.1, fun _ => ⟨Log.seal_rd, Log.seal_keeps.2⟩, nofun, sealed _ rfl⟩
  | false =>
    rw [Log.append, full, if_neg Bool.false_ne_true]
    dsimp only
    split
    · exact ⟨Log.seal_keeps.1, nofun, fun _ => ⟨Log.seal_rd, Log.seal_keeps.2⟩, sealed _ rfl⟩
    · exact ⟨rfl, nofun, fun _ => ⟨rfl, rfl⟩, fun j _ => congrArg (·.getD j 0) put⟩

/-- A firmware record of the words written before it. -/
theorem State.writeLogCode_does {v : Word} (on : s.coreOn = true)
    (ring : smWf (fun _ => (List.replicate 8 0 : List Word)) s.log.ring = true) :
    (s.writeLogCode v).log.wr = s.log.wr + 1 ∧ (s.writeLogCode v).log.lseq = s.log.lseq + 1 ∧
      (s.log.full = true → (s.writeLogCode v).log.rd = s.log.rd + 1 ∧ (s.writeLogCode v).log.lost = satAdd s.log.lost 1) ∧
      (s.log.full = false → (s.writeLogCode v).log.rd = s.log.rd ∧ (s.writeLogCode v).log.lost = s.log.lost) ∧
      (((s.writeLogCode v).log.recAt s.log.wr.toNat).getD 0 0 = s.log.lseq) ∧
      (((s.writeLogCode v).log.recAt s.log.wr.toNat).getD 1 0 =
        at32 0 (fld v 0 15 + 0x8000) ||| at32 16 (fld v 16 8) ||| 0x01000000) ∧
      (((s.writeLogCode v).log.recAt s.log.wr.toNat).getD 4 0 = rget s.regs (Reg.FP_LOGW 0)) ∧
      (((s.writeLogCode v).log.recAt s.log.wr.toNat).getD 5 0 = rget s.regs (Reg.FP_LOGW 1)) ∧
      Raised (if s.log.full then [Src.FO_LOGOVF] else []) s (s.writeLogCode v) ∧ Only [.log, .flt] s (s.writeLogCode v) := by
  have low := (rget s.regs (Reg.FP_LOGW 0)).isLt
  have high := (rget s.regs (Reg.FP_LOGW 1)).isLt
  have code : (fld v 0 15 + 0x8000) % 65536 = fld v 0 15 + 0x8000 := by
    have := fld_lt (v := v) (lo := 0) (n := 15)
    omega
  have src : fld v 16 8 % 256 = fld v 16 8 := Nat.mod_eq_of_lt fld_lt
  have first : BitVec.ofNat 32 ((rget s.regs (Reg.FP_LOGW 0)).toNat + (rget s.regs (Reg.FP_LOGW 1)).toNat * 2 ^ 32) =
      rget s.regs (Reg.FP_LOGW 0) := by
    apply BitVec.eq_of_toNat_eq
    rw [BitVec.toNat_ofNat]
    omega
  have second : BitVec.ofNat 32 (((rget s.regs (Reg.FP_LOGW 0)).toNat +
      (rget s.regs (Reg.FP_LOGW 1)).toNat * 2 ^ 32) / 2 ^ 32) = rget s.regs (Reg.FP_LOGW 1) := by
    apply BitVec.eq_of_toNat_eq
    rw [BitVec.toNat_ofNat]
    omega
  rw [State.writeLogCode, State.logBy, if_pos on]
  generalize hr : s.log.record _ _ _ _ _ = r
  have long : 6 ≤ r.length := by
    rw [← hr]
    exact (by decide : 6 ≤ 8)
  obtain ⟨lseq, taken, room, words⟩ := Log.append_does (x := s.sec) (r := r) ring long
  refine ⟨Log.append_wr, lseq, taken, room, (words 0 (by decide)).trans ?_, (words 1 (by decide)).trans ?_,
    (words 4 (by decide)).trans ?_, (words 5 (by decide)).trans ?_, State.report_raised rfl noteIf_srcs,
    .app State.report_parts (noteIf_parts rfl) (.app Only.set_log rfl .refl)⟩
  · rw [← hr]; rfl
  · rw [← hr]
    show at32 0 ((fld v 0 15 + 0x8000) % 65536) ||| at32 16 (fld v 16 8 % 256) ||| flag32 24 true = _
    rw [code, src]
    rfl
  · rw [← hr]; exact first
  · rw [← hr]; exact second

/-- RD moved on by a read of the log aperture. -/
theorem Log.advance_does : (g.advance x).rd = g.rd + 1 ∧ (g.advance x).full = false ∧ (g.advance x).wr = g.wr :=
  ⟨Log.seal_rd, Log.seal_full, Log.seal_wr⟩

/-- RD moved by firmware. -/
theorem Log.moveRd_does {rd : BitVec 10} : (g.moveRd x rd).rd = rd ∧ (g.moveRd x rd).wr = g.wr := by
  unfold Log.moveRd
  split
  · rename_i same
    exact ⟨same.symm, rfl⟩
  · exact ⟨Log.seal_rd, Log.seal_wr⟩

end

/-- Settles O25, peripheral by peripheral. -/
theorem foresterPeripherals : Obligations.ForesterPeripherals := by
  refine ⟨fun t v s on awake canon => ⟨fun idle loaded free window => ?_, fun idle loaded op level low high => ?_,
    fun a d cmd out firmware => ?_, fun a cmd out polls firmware late => ?_, fun ends => ?_⟩,
    fun t k b s on awake canon own => ⟨fun en idle free calm => ?_, fun en idle taken => ?_, fun busy polls calm =>
      ⟨fun d => ?_, fun c d hc => ?_⟩⟩,
    fun t s on canon => ⟨fun b awake room => ?_, fun b awake full => ?_, fun v awake => ?_, fun v awake exports => ?_,
      fun v awake exports => ?_, fun ch exports some => ?_⟩⟩
  · have e := spiNorCommand_runs (t := t) (v := v) on awake idle loaded
    have runs : (s.stamp t).norStart v (BitVec.ofNat 24 (rget s.regs Reg.FP_SPI_ADDR).toNat) =
        { s.stamp t with fst := { s.fst with spi := { s.fst.spi with
          cmd := some (v, BitVec.ofNat 24 (rget s.regs Reg.FP_SPI_ADDR).toNat), loadWait := false
          journal := s.fst.spi.journal || inJournal (norRange v (BitVec.ofNat 24 (rget s.regs Reg.FP_SPI_ADDR).toNat)) } } }.report
        [.send (.nor v (BitVec.ofNat 24 (rget s.regs Reg.FP_SPI_ADDR).toNat)
          (if bit v 15 then norBuf s.regs (fld v 16 9) else []))] := by
      have window' : (s.stamp t).norWindow v = false := by
        show (s.thm.window && _) = false
        rw [window]
        rfl
      exact if_neg (by
        rw [window', show (s.stamp t).norGuarded v _ = s.norGuarded v _ from rfl, free]
        exact Bool.false_ne_true)
    exact ⟨_, e.trans (congrArg _ runs), rfl, rfl, .app State.report_parts rfl (.app Only.set_fst rfl
      (.app State.stamp_only rfl .refl))⟩
  · have e := spiNorCommand_runs (t := t) (v := v) on awake idle loaded
    have addr : (BitVec.ofNat 24 (rget s.regs Reg.FP_SPI_ADDR).toNat).toNat = fld (rget s.regs Reg.FP_SPI_ADDR) 0 24 := by
      rw [BitVec.toNat_ofNat, fld, Nat.pow_zero, Nat.div_one]
    obtain ⟨guarded, apart⟩ := norGuarded_parameters (s := s) (v := v) (a := BitVec.ofNat 24 (rget s.regs Reg.FP_SPI_ADDR).toNat) op level
      (by rw [addr]; exact low) (by rw [addr]; exact high)
    generalize BitVec.ofNat 24 (rget s.regs Reg.FP_SPI_ADDR).toNat = a at *
    have refused : (s.stamp t).norStart v a = (s.stamp t).norRefuse v a := if_pos (by
      rw [show (s.stamp t).norGuarded v a = s.norGuarded v a from rfl, guarded]
      rfl)
    have does : (s.stamp t).norRefuse v a = { s.stamp t with fst := { s.fst with
        irq := s.fst.irq ||| 16, spi := { s.fst.spi with refused := true, loadWait := false } } }.report
          [Note.hit Reg.FP_IRQ 0x10, Note.hit Reg.FP_SPI_STAT 8] := by
      have spi : ({ s.fst.spi with refused := true, cmd := none, loadWait := false
                                   journal := s.fst.spi.journal && !false } : SpiNor) =
          { s.fst.spi with refused := true, loadWait := false } := by
        rw [← idle, Bool.not_false, Bool.and_true]
      rw [State.norRefuse, apart]
      exact congrArg (fun x => State.report [Note.hit Reg.FP_IRQ 0x10, Note.hit Reg.FP_SPI_STAT 8]
        { s.stamp t with fst := { s.fst with irq := s.fst.irq ||| 16, spi := x } }) spi
    exact ⟨_, e.trans (congrArg _ (refused.trans does)), rfl, rfl, .app State.report_parts rfl (.app Only.set_fst rfl
      (.app State.stamp_only rfl .refl))⟩
  · have e : exec (.spiNorCommandDone t d) s = .next ((s.stamp t).norEnd d) := (onCore_on on : execSpiNorCommandDone t d s = _)
    rw [State.norEnd_does (s := s.stamp t) awake cmd out firmware] at e
    have short : (d.take (min 256 (fld v 16 9))).length ≤ 256 := by
      rw [List.length_take]
      omega
    refine ⟨_, e, rfl, fun write => if_pos write, fun read => ?_, fun x apart => ?_, .app State.report_parts rfl
      (.app Only.set_regs_fst rfl (.app State.stamp_only rfl .refl))⟩
    · show (norBuf (if bit v 15 then s.regs else norFill s.regs (d.take (min 256 (fld v 16 9)))) 256).take _ = _
      rw [read, if_neg Bool.false_ne_true, norBuf_norFill canon.regs short, ← List.length_take, List.take_left]
    · show rget (if bit v 15 then s.regs else norFill s.regs (d.take (min 256 (fld v 16 9)))) x = _
      split
      · rfl
      · exact norFill_leaves canon.regs apart
  · have e : exec (.spiNorWipTimeout t) s = .next (s.stamp t).norLate :=
      (onCore_on on : execSpiNorWipTimeout t s = _).trans (congrArg _ (State.when_true (s := s.stamp t) (by rw [late]; rfl)))
    rw [State.norLate_does (s := s.stamp t) awake cmd out polls firmware] at e
    refine ⟨_, e, State.report_raised rfl ?_, rfl, .app State.report_parts (parts_append rfl (noteIf_parts rfl))
      (.app Only.set_fst rfl (.app State.stamp_only rfl .refl))⟩
    rw [List.filterMap_append, noteIf_srcs]
    rfl
  · exact (onCore_on on : execSpiNorWipTimeout t s = _).trans (congrArg _ (State.when_false (s := s.stamp t) (by rw [ends]; rfl)))
  · have e : exec (.sensorSlotDue t k) s = .next ((s.stamp t).slotDue k) := (onForester_on on awake : execSensorSlotDue t k s = _)
    rw [State.slotDue_starts (s := s.stamp t) en idle own free calm] at e
    exact ⟨_, e, rfl, rfl, .app State.report_parts rfl (.app Only.set_fst rfl (.app State.stamp_only rfl .refl))⟩
  · have e : exec (.sensorSlotDue t k) s = .next ((s.stamp t).slotDue k) := (onForester_on on awake : execSensorSlotDue t k s = _)
    rw [State.slotDue_waits (s := s.stamp t) en idle, show slotBus (s.stamp t).regs k = b from own.symm,
      State.busNext_taken (s := (s.stamp t).slotWaits k) (Option.isSome_iff_ne_none.mpr taken)] at e
    exact ⟨_, e, rfl, .app Only.set_fst rfl (.app State.stamp_only rfl .refl)⟩
  · have e : exec (.sensorTransferDone t b true d) s = .next ((s.stamp t).senDone b (some d)) :=
      (onForester_on on awake : execSensorTransferDone t b true d s = _)
    rw [State.senDone_does (s := s.stamp t) busy polls calm] at e
    exact ⟨_, e, rfl, .app State.report_parts rfl (.app Only.set_fst rfl (.app State.stamp_only rfl .refl))⟩
  · have e : exec c s = .next ((s.stamp t).senDone b none) := by
      rcases hc with rfl | ⟨rfl, late⟩
      · exact (onForester_on on awake : execSensorTransferDone t b false d s = _)
      · exact (onForester_on on awake : execSensorSclTimeout t b s = _).trans
          (congrArg _ (State.when_true (s := s.stamp t) (by rw [late]; rfl)))
    rw [State.senDone_does (s := s.stamp t) busy polls calm] at e
    exact ⟨_, e, rfl, State.report_raised rfl rfl,
      .app State.report_parts rfl (.app Only.set_fst rfl (.app State.stamp_only rfl .refl))⟩
  · have e : exec (.uartByteReceived t b) s = .next (State.report
        [if s.fst.uartRx.length < 16 then Note.hit Reg.FP_IRQ 0x20 else Note.hit Reg.FP_UART_STAT 0x10000]
        { s.stamp t with fst := s.fst.receive b }) := (onForester_on on awake : execUartByteReceived t b s = _)
    have taken : s.fst.receive b = { s.fst with irq := s.fst.irq ||| 32, uartRx := s.fst.uartRx ++ [b] } := if_pos room
    rw [if_pos room, taken] at e
    exact ⟨_, e, rfl, .app State.report_parts rfl (.app Only.set_fst rfl (.app State.stamp_only rfl .refl))⟩
  · have e : exec (.uartByteReceived t b) s = .next (State.report
        [if s.fst.uartRx.length < 16 then Note.hit Reg.FP_IRQ 0x20 else Note.hit Reg.FP_UART_STAT 0x10000]
        { s.stamp t with fst := s.fst.receive b }) := (onForester_on on awake : execUartByteReceived t b s = _)
    have lost : s.fst.receive b = { s.fst with rxOvf := true } := if_neg (by omega)
    rw [if_neg (by omega), lost] at e
    exact ⟨_, e, rfl, .app State.report_parts rfl (.app Only.set_fst rfl (.app State.stamp_only rfl .refl))⟩
  · have e : exec (.logAppendFirmware t v) s = .next ((s.stamp t).writeLogCode v) :=
      (onForester_on on awake : execLogAppendFirmware t v s = _)
    obtain ⟨wr, lseq, taken, room, w0, w1, w4, w5, raised, parts⟩ :=
      State.writeLogCode_does (s := s.stamp t) (v := v) on canon.ring
    exact ⟨_, e, wr, lseq, taken, room, w0, w1, w4, w5, raised, .app parts rfl (.app State.stamp_only rfl .refl)⟩
  · have e : exec (.fpLogRd t v) s = .next (s.stamp t) :=
      (onForester_on on awake : execFpLogRd t v s = _).trans (congrArg _ (if_pos exports))
    exact ⟨_, e, .app State.stamp_only rfl .refl⟩
  · have e : exec (.fpLogRd t v) s = .next { s.stamp t with log := s.log.moveRd s.sec (BitVec.ofNat 10 v.toNat) } :=
      (onForester_on on awake : execFpLogRd t v s = _).trans (congrArg _ (if_neg (by
        rw [show (s.stamp t).exporting = false from exports]
        exact Bool.false_ne_true)))
    exact ⟨_, e, Log.moveRd_does.1, Log.moveRd_does.2, .app Only.set_log rfl (.app State.stamp_only rfl .refl)⟩
  · have open_ : (s.exporting && !s.log.empty) = true := by
      rw [show s.exporting = true from exports, some]
      rfl
    have shown : (s.stamp t).aperture = recBytes (s.log.recAt s.log.rd.toNat) := if_pos open_
    have e : exec (.logExportRead t ch) s = .next ((((s.stamp t).chanBuf ch (s.stamp t).aperture).report
        [.send (.data (.dma ch) (s.stamp t).aperture)]).exportNext) := (onCore_on on : execLogExportRead t ch s = _)
    have next : (((s.stamp t).chanBuf ch (s.stamp t).aperture).report
        [.send (.data (.dma ch) (s.stamp t).aperture)]).exportNext =
        { ((s.stamp t).chanBuf ch (s.stamp t).aperture).report [.send (.data (.dma ch) (s.stamp t).aperture)] with
          log := s.log.advance s.sec } := if_pos open_
    rw [next, shown] at e
    obtain ⟨rd, full, wr⟩ := Log.advance_does (g := s.log) (x := s.sec)
    exact ⟨_, e, rfl, rd, full, wr, .app Only.set_log rfl (.app State.report_parts rfl
      (.app Only.set_dma rfl (.app State.stamp_only rfl .refl)))⟩

end Sys2Proof.Machine
end

section
/-! Lines and heartbeat at Glade. -/

namespace Sys2Proof.Machine

open Sys2Proof

/-! ### The sources that Glade's samples raise -/

section
variable {s u n : State} {x : Fin 171}

/-- The collector keeps all but the list of waiting raises, which only grows. -/
def Raises (s n : State) : Prop := ∃ l, Raised l s n

theorem Raises.refl : Raises s s := ⟨[], by rw [Raised, List.append_nil]⟩

theorem Raises.of_flt (same : n.flt = s.flt) : Raises s n := ⟨[], by rw [Raised, same, List.append_nil]⟩

theorem Raises.trans (h : Raises s u) (k : Raises u n) : Raises s n := by
  obtain ⟨l, hl⟩ := h
  obtain ⟨m, hm⟩ := k
  rw [Raised] at hl hm
  exact ⟨l ++ m, by rw [Raised, hm, hl, List.append_assoc]⟩

theorem Raises.mem (h : Raises s n) (hx : x ∈ s.flt.raised) : x ∈ n.flt.raised := by
  obtain ⟨l, hl⟩ := h
  rw [hl]
  exact List.mem_append_left l hx

theorem Raises.beat (h : Raises s n) : n.flt.beat = s.flt.beat := by
  obtain ⟨l, hl⟩ := h
  rw [hl]

theorem State.report_raises {l : List Note} : Raises s (s.report l) := ⟨l.filterMap Note.src, rfl⟩

theorem State.logHw_raises {code src data : Nat} : Raises s (s.logHw code src data) := by
  unfold State.logHw State.logBy
  split
  · exact ⟨_, rfl⟩
  · exact .refl

theorem State.gladeReport_raises {a b : Glade} : Raises s (s.gladeReport a b) := by
  unfold State.gladeReport
  split
  · exact State.report_raises
  · exact State.report_raises.trans State.logHw_raises

theorem State.gladeSample_raises : Raises s s.gladeSample :=
  (Raises.of_flt rfl).trans State.gladeReport_raises

theorem State.gladeSettle_raisesFlt : Raises s s.gladeSettle := by
  unfold State.gladeSettle
  split
  · exact State.gladeSample_raises.trans (State.gladeSample_raises.trans
      (State.gladeSample_raises.trans State.gladeSample_raises))
  · exact .refl

/-- A bit of GL_RAISED that a sample sets is an arrival of its source (17 R605). -/
theorem State.gladeReport_arrives {a b : Glade} {j : Nat} (new : bit b.raised j = true) (old : bit a.raised j = false)
    (wide : j < 12) : gladeSrc j ∈ (s.gladeReport a b).flt.raised := by
  have listed : j ∈ bitsOf (b.raised &&& ~~~a.raised) 12 := by
    have now : bit (b.raised &&& ~~~a.raised) j = true := by
      unfold bit at *
      rw [BitVec.getLsbD_and, BitVec.getLsbD_not, new, old]
      simpa using wide
    exact List.mem_filter.mpr ⟨List.mem_range.mpr wide, now⟩
  have arrives : gladeSrc j ∈ (s.report ((bitsOf (b.raised &&& ~~~a.raised) 12).map
      (fun j => .raise (gladeSrc j)))).flt.raised := by
    refine List.mem_append_right _ (List.mem_filterMap.mpr ⟨.raise (gladeSrc j), List.mem_map.mpr ⟨j, listed, rfl⟩, rfl⟩)
  unfold State.gladeReport
  split
  · exact arrives
  · exact State.logHw_raised arrives

/-- A source that the first sample finds to hold is raised once Glade has settled, with an arrival the first time. -/
theorem State.gladeSettle_raised_of_sensed {j : Nat} (on : s.gladeOn = true)
    (h : bit (s.glade.sensed s.now).raised j = true) (wide : j < 12) :
    bit s.gladeSettle.glade.raised j = true ∧
      (bit s.glade.raised j = false → gladeSrc j ∈ s.gladeSettle.flt.raised) := by
  refine State.gladeSettle_induction on (p := fun u => bit u.glade.raised j = true ∧
    (bit s.glade.raised j = false → gladeSrc j ∈ u.flt.raised)) ?_ (fun u hu => ?_)
  · have raised : bit (s.glade.sample s.now (s.rdy 0) (s.rdy 1)).raised j = true := by
      rw [Glade.sample_eq]
      exact (congrArg (bit · j) Glade.transit_raised).trans h
    exact ⟨by rw [State.gladeSample_glade]; exact raised, fun old => State.gladeReport_arrives raised old wide⟩
  · obtain ⟨raised, arrived⟩ := hu
    refine ⟨?_, fun old => State.gladeSample_raises.mem (arrived old)⟩
    rw [State.gladeSample_glade, Glade.sample_eq]
    exact (congrArg (bit · j) Glade.transit_raised).trans (Glade.sensed_raised_of raised)

theorem Glade.drive_err {g : Glade} (st : g.st ≠ .run) : g.drive.errFault = true := by
  show (g.errWanted || _) = true
  rw [Glade.errWanted, show (g.st != .run) = true by simpa using st]
  simp

/-- In LOCKOUT, or under a lock demand, Glade settles in LOCKOUT with its array enables low and the ERR pair in Fault. -/
theorem State.gladeSettle_lockout (on : s.gladeOn = true)
    (lock : s.glade.st = .lockout ∨ (s.glade.sensed s.now).dLock = true) :
    s.gladeSettle.glade.st = .lockout ∧ s.gladeSettle.glade.aenDrv = 0 ∧ s.gladeSettle.glade.errFault = true := by
  have one : ∀ {u : State}, (u.glade.st = .lockout ∨ (u.glade.sensed u.now).dLock = true) →
      u.gladeSample.glade.st = .lockout ∧ u.gladeSample.glade.aenDrv = 0 ∧ u.gladeSample.glade.errFault = true := by
    intro u h
    have st := Glade.transit_locks (g := u.glade.sensed u.now) (ready := (u.glade.sensed u.now).ready (u.rdy 0) (u.rdy 1)) h
    rw [State.gladeSample_glade, Glade.sample_eq]
    exact ⟨st, Glade.drive_lockout st, Glade.drive_err (by rw [st]; decide)⟩
  exact State.gladeSettle_induction on (p := fun u => u.glade.st = .lockout ∧ u.glade.aenDrv = 0 ∧ u.glade.errFault = true)
    (one lock) (fun u hu => one (.inl hu.1))

/-- The CAUSE of an entry to LOCKOUT stays. -/
theorem State.gladeSettle_lockCause (on : s.gladeOn = true) (out : s.glade.st ≠ .lockout)
    (lock : (s.glade.sensed s.now).dLock = true) :
    s.gladeSettle.glade.cause = causeOf (s.glade.sensed s.now).lockCauses := by
  have h : s.gladeSettle.glade.st = .lockout ∧ s.gladeSettle.glade.cause = causeOf (s.glade.sensed s.now).lockCauses := by
    refine State.gladeSettle_induction on (p := fun u => u.glade.st = .lockout ∧
      u.glade.cause = causeOf (s.glade.sensed s.now).lockCauses) ?_ (fun u hu => ?_)
    · have enters : (s.glade.sensed s.now).transit ((s.glade.sensed s.now).ready (s.rdy 0) (s.rdy 1)) =
          (s.glade.sensed s.now).toLock := if_pos (by
        rw [lock, show (s.glade.sensed s.now).st = s.glade.st from rfl]
        simpa using out)
      rw [State.gladeSample_glade, Glade.sample_eq, enters]
      exact ⟨rfl, rfl⟩
    · obtain ⟨st, cause⟩ := hu
      rw [State.gladeSample_glade, Glade.sample_eq, Glade.transit_lockout (g := u.glade.sensed u.now) st]
      exact ⟨st, cause⟩
  exact h.2

/-- L4 as Glade takes it is a lock demand, with CAUSE 2 first. -/
theorem Glade.lockCauses_line {g : Glade} (line : bit g.taken 3 = true) : g.dLock = true ∧ causeOf g.lockCauses = 2 := by
  rw [Glade.dLock, Glade.lockCauses, line, if_pos rfl]
  split
  · exact ⟨rfl, rfl⟩
  · exact ⟨rfl, rfl⟩

theorem bit_taken {g : Glade} {j : Nat} (line : bit g.lines j = true) (unmasked : bit g.masked j = false) (wide : j < 5) :
    bit g.taken j = true := by
  unfold Glade.taken
  unfold bit at *
  rw [BitVec.getLsbD_and, BitVec.getLsbD_or, BitVec.getLsbD_not, line, unmasked]
  simpa using wide

/-- L4 not masked leads to LOCKOUT. -/
theorem State.gladeSettle_line (on : s.gladeOn = true) (line : bit s.glade.lines 3 = true)
    (unmasked : bit s.glade.masked 3 = false) :
    s.gladeSettle.glade.st = .lockout ∧ s.gladeSettle.glade.aenDrv = 0 ∧ s.gladeSettle.glade.errFault = true ∧
      (s.glade.st ≠ .lockout → s.gladeSettle.glade.cause = 2) := by
  obtain ⟨lock, cause⟩ := Glade.lockCauses_line (g := s.glade.sensed s.now)
    (bit_taken (g := s.glade) line unmasked (by decide))
  obtain ⟨st, aen, err⟩ := State.gladeSettle_lockout on (.inr lock)
  exact ⟨st, aen, err, fun out => (State.gladeSettle_lockCause on out lock).trans cause⟩

/-- A line whose levels are equal raises GL_HB (16 R573). -/
theorem Glade.sensed_line {g : Glade} {now : Nat} (bad : g.lineBad ≠ 0) : bit (g.sensed now).raised 10 = true := by
  have holding : bit (Glade.readback { g with pairA := g.pairA.ripe now, pairB := g.pairB.ripe now }).holding 10 = true := by
    refine (bit_putBit_ne (by decide) (by decide)).trans ?_
    rw [show (Glade.readback { g with pairA := g.pairA.ripe now, pairB := g.pairB.ripe now }).lineBad = g.lineBad from rfl,
      if_neg bad]
    exact (bit_setBit (by decide)).trans (by simp)
  show bit (g.raised ||| _) 10 = true
  unfold bit at *
  rw [BitVec.getLsbD_or, holding, Bool.or_true]

/-- What Glade's inputs, record and serial port hold, which its samples leave. -/
theorem State.gladeSettle_inputs :
    s.gladeSettle.glade.lines = s.glade.lines ∧ s.gladeSettle.glade.lineBad = s.glade.lineBad ∧
      s.gladeSettle.glade.masked = s.glade.masked ∧ s.gladeSettle.glade.gpr = s.glade.gpr ∧
      s.gladeSettle.glade.sspi = s.glade.sspi ∧ s.gladeSettle.glade.fb = s.glade.fb := by
  refine ⟨?_, ?_, ?_, ?_, ?_, ?_⟩
  · exact State.gladeSettle_unchanged (f := Glade.lines) (fun _ _ => rfl) (fun _ _ _ _ _ _ _ _ _ => rfl) (fun _ => rfl)
  · exact State.gladeSettle_unchanged (f := Glade.lineBad) (fun _ _ => rfl) (fun _ _ _ _ _ _ _ _ _ => rfl) (fun _ => rfl)
  · exact State.gladeSettle_unchanged (f := Glade.masked) (fun _ _ => rfl) (fun _ _ _ _ _ _ _ _ _ => rfl) (fun _ => rfl)
  · exact State.gladeSettle_unchanged (f := Glade.gpr) (fun _ _ => rfl) (fun _ _ _ _ _ _ _ _ _ => rfl) (fun _ => rfl)
  · exact State.gladeSettle_unchanged (f := Glade.sspi) (fun _ _ => rfl) (fun _ _ _ _ _ _ _ _ _ => rfl) (fun _ => rfl)
  · exact State.gladeSettle_unchanged (f := Glade.fb) (fun _ _ => rfl) (fun _ _ _ _ _ _ _ _ _ => rfl) (fun _ => rfl)

end

/-! ### Lines and heartbeat (16 R570, R573; 17 R606, R612) -/

section
variable {s : State}

/-- The lines as Glade sees them, without the note of a rise of L4. -/
theorem State.seeLines_glade {l : BitVec 5} : (s.seeLines l).glade = s.glade.see l ∧ (s.seeLines l).gladeOn = s.gladeOn ∧
    Only [.now, .glade] s (s.seeLines l) := by
  unfold State.seeLines State.when
  dsimp only
  split
  · exact ⟨rfl, rfl, .app Only.set_sample rfl (.app Only.set_glade rfl .refl)⟩
  · exact ⟨rfl, rfl, .app Only.set_glade rfl .refl⟩

theorem State.faultLine_glade {l : Fin 5} : (s.faultLine l).glade = { s.glade with
      lines := setBit s.glade.lines l, lineBad := setBit s.glade.lineBad l } ∧
    (s.faultLine l).gladeOn = s.gladeOn ∧ Only [.now, .glade] s (s.faultLine l) := by
  unfold State.faultLine State.when
  dsimp only
  split
  · exact ⟨rfl, rfl, .app Only.set_sample rfl (.app Only.set_glade rfl .refl)⟩
  · exact ⟨rfl, rfl, .app Only.set_glade rfl .refl⟩

end

/-- Settles O26, from what Glade's samples keep, raise and lead to. -/
theorem linesThatReachGlade : Obligations.LinesThatReachGlade := by
  refine ⟨fun t s on => ⟨fun l => ?_, fun l => ?_, ?_⟩, fun t s on => ⟨fun core => ?_, fun beats => ?_, fun missing => ?_⟩⟩
  · have e : exec (.classLineChange t l) s = .next ((s.stamp t).seeLines l).gladeSettle :=
      (onGladeSettled_on on : execClassLineChange t l s = _)
    obtain ⟨glade, on', parts⟩ := State.seeLines_glade (s := s.stamp t) (l := l)
    generalize (s.stamp t).seeLines l = u at *
    obtain ⟨lines, lineBad, masked, gpr, sspi, fb⟩ := State.gladeSettle_inputs (s := u)
    rw [glade] at lines lineBad masked gpr sspi fb
    refine ⟨_, e, lines, lineBad, masked, fun line unmasked => ?_, gpr, sspi, fb,
      .app State.gladeSettle_parts rfl (.app parts rfl (.app State.stamp_only rfl .refl))⟩
    have locks := State.gladeSettle_line (s := u) (on'.trans on) (by rw [glade]; exact line) (by
      rw [glade]
      show bit (s.glade.masked &&& l) 3 = false
      unfold bit at *
      rw [BitVec.getLsbD_and, unmasked, Bool.false_and])
    rwa [glade] at locks
  · have e : exec (.classLineFault t l) s = .next ((s.stamp t).faultLine l).gladeSettle :=
      (onGladeSettled_on on : execClassLineFault t l s = _)
    obtain ⟨glade, on', parts⟩ := State.faultLine_glade (s := s.stamp t) (l := l)
    generalize (s.stamp t).faultLine l = u at *
    obtain ⟨lines, lineBad, masked, -, -, -⟩ := State.gladeSettle_inputs (s := u)
    have line : bit u.glade.lines l = true := by rw [glade]; exact (bit_setBit l.isLt).trans (by simp)
    have bad : bit u.glade.lineBad l = true := by rw [glade]; exact (bit_setBit l.isLt).trans (by simp)
    have some : u.glade.lineBad ≠ 0 := by
      intro z
      rw [z, bit, show (0 : BitVec 5) = 0#5 from rfl, BitVec.getLsbD_zero] at bad
      exact Bool.false_ne_true bad
    obtain ⟨raised, arrives⟩ := State.gladeSettle_raised_of_sensed (s := u) (j := 10) (on'.trans on)
      (Glade.sensed_line some) (by decide)
    refine ⟨_, e, by rw [lines]; exact line, by rw [lineBad]; exact bad, by rw [masked, glade]; rfl, raised,
      fun old => arrives (by rw [glade]; exact old), fun third unmasked => ?_,
      .app State.gladeSettle_parts rfl (.app parts rfl (.app State.stamp_only rfl .refl))⟩
    subst third
    exact (State.gladeSettle_line (s := u) (on'.trans on) line (by rw [glade]; exact unmasked)).1
  · have e : exec (.lineMaskExpiry t) s = .next
        ({ s.stamp t with glade := { s.glade with masked := 0 } } : State).gladeSettle :=
      (onGladeSettled_on on : execLineMaskExpiry t s = _)
    obtain ⟨lines, -, masked, -, -, -⟩ := State.gladeSettle_inputs
      (s := { s.stamp t with glade := { s.glade with masked := 0 } })
    refine ⟨_, e, masked, lines, fun line => (State.gladeSettle_line
      (s := { s.stamp t with glade := { s.glade with masked := 0 } }) on line BitVec.getLsbD_zero).1,
      .app State.gladeSettle_parts rfl (.app Only.set_glade rfl (.app State.stamp_only rfl .refl))⟩
  · have e : exec (.heartbeatToggle t) s = .next (((State.hit Awaited.beat.key 1 { s.stamp t with
        flt := { s.flt with beat := !s.flt.beat } }).gladeCond 10 false).gladeSettle) :=
      (onCore_on core : execHeartbeatToggle t s = _)
    refine ⟨_, e, State.gladeSettle_raisesFlt.beat, (State.gladeSettle_cond (by decide)).trans (bit_putBit_self (by decide)),
      State.gladeSettle_inputs.1, .app State.gladeSettle_parts rfl (.app Only.set_glade rfl
        (.app Only.set_sample rfl (.app Only.set_flt rfl (.app State.stamp_only rfl .refl))))⟩
  · exact (onGladeSettled_on on : execHeartbeatTimeout t s = _).trans
      (congrArg (fun u => Host.Outcome.next u.gladeSettle) (State.when_false (s := s.stamp t) (by rw [beats]; rfl)))
  · have e : exec (.heartbeatTimeout t) s = .next ((s.stamp t).gladeCond 10 true).gladeSettle :=
      (onGladeSettled_on on : execHeartbeatTimeout t s = _).trans
        (congrArg (fun u => Host.Outcome.next u.gladeSettle) (State.when_true (s := s.stamp t) (by rw [missing]; rfl)))
    have on' : ((s.stamp t).gladeCond 10 true).gladeOn = true := on
    have holds : bit ((s.stamp t).gladeCond 10 true).glade.cond 10 = true := bit_putBit_self (by decide)
    obtain ⟨raised, arrives⟩ := State.gladeSettle_raised_of_sensed on' (Glade.sensed_raises holds (by decide)) (by decide)
    exact ⟨_, e, raised, State.gladeSettle_raisesFlt.beat, arrives, State.gladeSettle_inputs.1,
      .app State.gladeSettle_parts rfl (.app Only.set_glade rfl (.app State.stamp_only rfl .refl))⟩

end Sys2Proof.Machine
end

section
/-! Inputs, press and checkers of Glade. -/

namespace Sys2Proof.Machine

open Sys2Proof

/-! ### Conditions that a sample's read-backs judge, and demands for Safe Light Off -/

section
variable {g : Glade} {now : Nat} {s : State}

theorem Glade.sensed_holds {j : Nat} (h : bit (Glade.readback { g with
    pairA := g.pairA.ripe now, pairB := g.pairB.ripe now }).holding j = true) : bit (g.sensed now).raised j = true := by
  show bit (g.raised ||| _) j = true
  unfold bit at *
  rw [BitVec.getLsbD_or, h, Bool.or_true]

theorem Glade.holding_of_cond {j : Nat} (h : bit g.cond j = true) (own : j ≠ 8) : bit g.holding j = true := by
  refine (bit_putBit_ne (by decide) own).trans ?_
  split
  · exact h
  · exact (bit_setBit (by decide)).trans (by simp [h])

/-- A read-back of the array enables that still differs. -/
theorem Glade.sensed_aen (h : bit g.cond 6 = true) (differs : g.aenRb ≠ g.aenDrv) : bit (g.sensed now).raised 6 = true := by
  refine Glade.sensed_holds (Glade.holding_of_cond ?_ (by decide))
  refine (bit_putBit_ne (by decide) (by decide)).trans ((bit_putBit_self (by decide)).trans ?_)
  simpa [h] using differs

/-- A read-back of the ERR pair that still differs. -/
theorem Glade.sensed_err (h : bit g.cond 9 = true) (differs : g.errRb ≠ (if g.errFault then 2 else 1)) :
    bit (g.sensed now).raised 9 = true := by
  refine Glade.sensed_holds (Glade.holding_of_cond ?_ (by decide))
  refine (bit_putBit_self (by decide)).trans ?_
  simpa [h] using differs

/-- A fallback store that is lost while the profile needs it. -/
theorem Glade.sensed_fallback (ended : g.loadEnded = true) (lost : g.fbOk = false) (needed : g.anySurf = true) :
    bit (g.sensed now).raised 8 = true := by
  refine Glade.sensed_holds ((bit_putBit_self (by decide)).trans ?_)
  show (g.loadEnded && !g.fbOk && g.anySurf) = true
  rw [ended, lost, needed]
  rfl

/-- GL_XSYS or GL_FB raised is a demand for Safe Light Off. -/
theorem Glade.dSlo_of_raised (h : bit g.raised 7 = true ∨ bit g.raised 8 = true) : g.dSlo = true := by
  have third : (if bit g.raised 7 || bit g.raised 8 || (bit g.raised 9 && g.rxSel 2) || (bit g.raised 10 && g.rxSel 3) ||
      (bit g.raised 11 && g.rxSel 4) then [3] else []) = [3] := if_pos (by rcases h with h | h <;> simp [h])
  rw [Glade.dSlo, Glade.sloCauses, third]
  simp

/-- Under a demand for Safe Light Off Glade is neither in RUN nor in FBEAM. -/
theorem Glade.transit_slo {ready : Bool} (demand : g.dSlo = true) :
    (g.transit ready).st ≠ .run ∧ (g.transit ready).st ≠ .fbeam := by
  unfold Glade.transit
  split
  · exact ⟨GladeState.noConfusion, GladeState.noConfusion⟩
  · split
    case h_1 e => split_ifs <;> simp [Glade.enter, e]
    case h_2 e => simp [Glade.toSlo, Glade.enter]
    case h_3 e => simp [Glade.toSlo, Glade.enter]
    case h_4 e => simp [e]
    case h_5 e => simp [e]

/-- A source that demands Safe Light Off leaves neither RUN nor FBEAM. -/
theorem State.gladeSettle_slo {j : Nat} (on : s.gladeOn = true) (source : j = 7 ∨ j = 8)
    (h : bit (s.glade.sensed s.now).raised j = true) :
    bit s.gladeSettle.glade.raised j = true ∧ s.gladeSettle.glade.st ≠ .run ∧ s.gladeSettle.glade.st ≠ .fbeam := by
  have demand : ∀ {x : Glade}, bit x.raised j = true → x.dSlo = true := by
    intro x hx
    rcases source with rfl | rfl
    · exact Glade.dSlo_of_raised (.inl hx)
    · exact Glade.dSlo_of_raised (.inr hx)
  have one : ∀ {u : State}, bit (u.glade.sensed u.now).raised j = true →
      bit u.gladeSample.glade.raised j = true ∧ u.gladeSample.glade.st ≠ .run ∧ u.gladeSample.glade.st ≠ .fbeam := by
    intro u hu
    rw [State.gladeSample_glade, Glade.sample_eq]
    exact ⟨(congrArg (bit · j) Glade.transit_raised).trans hu, Glade.transit_slo (demand hu)⟩
  exact State.gladeSettle_induction on
    (p := fun u => bit u.glade.raised j = true ∧ u.glade.st ≠ .run ∧ u.glade.st ≠ .fbeam) (one h)
    (fun u hu => one (Glade.sensed_raised_of hu.1))

/-- A raised source that locks leads to LOCKOUT. -/
theorem State.gladeSettle_locks_of_sensed {j : Nat} (on : s.gladeOn = true) (lock : j < 7)
    (h : bit (s.glade.sensed s.now).raised j = true) :
    bit s.gladeSettle.glade.raised j = true ∧ s.gladeSettle.glade.st = .lockout ∧ s.gladeSettle.glade.aenDrv = 0 := by
  obtain ⟨st, aen, -⟩ := State.gladeSettle_lockout on (.inr (Glade.dLock_of_raised lock h))
  exact ⟨(State.gladeSettle_raised_of_sensed on h (by omega)).1, st, aen⟩

end

/-! ### The clock checkers (17 R590, R591) -/

section
variable {s : State}

/-- What the checkers hold, which Glade's samples leave. -/
theorem State.gladeSettle_checkers :
    s.gladeSettle.glade.rcHold = s.glade.rcHold ∧ s.gladeSettle.glade.rcBad = s.glade.rcBad ∧
      s.gladeSettle.glade.xcnt = s.glade.xcnt ∧ s.gladeSettle.glade.sysBad = s.glade.sysBad ∧
      s.gladeSettle.glade.scnt = s.glade.scnt ∧ s.gladeSettle.glade.fbOk = s.glade.fbOk ∧
      s.gladeSettle.glade.fbErr = s.glade.fbErr := by
  refine ⟨?_, ?_, ?_, ?_, ?_, ?_, ?_⟩
  · exact State.gladeSettle_unchanged (f := Glade.rcHold) (fun _ _ => rfl) (fun _ _ _ _ _ _ _ _ _ => rfl) (fun _ => rfl)
  · exact State.gladeSettle_unchanged (f := Glade.rcBad) (fun _ _ => rfl) (fun _ _ _ _ _ _ _ _ _ => rfl) (fun _ => rfl)
  · exact State.gladeSettle_unchanged (f := Glade.xcnt) (fun _ _ => rfl) (fun _ _ _ _ _ _ _ _ _ => rfl) (fun _ => rfl)
  · exact State.gladeSettle_unchanged (f := Glade.sysBad) (fun _ _ => rfl) (fun _ _ _ _ _ _ _ _ _ => rfl) (fun _ => rfl)
  · exact State.gladeSettle_unchanged (f := Glade.scnt) (fun _ _ => rfl) (fun _ _ _ _ _ _ _ _ _ => rfl) (fun _ => rfl)
  · exact State.gladeSettle_unchanged (f := Glade.fbOk) (fun _ _ => rfl) (fun _ _ _ _ _ _ _ _ _ => rfl) (fun _ => rfl)
  · exact State.gladeSettle_unchanged (f := Glade.fbErr) (fun _ _ => rfl) (fun _ _ _ _ _ _ _ _ _ => rfl) (fun _ => rfl)

/-- The second bad window of the RC clock in a row. -/
theorem Glade.rcWindow_bad {g : Glade} {c : Nat} (out : c < 768 ∨ 1280 < c) (before : g.rcBad ≠ 0) :
    (g.rcWindow c).rcHold = true ∧ (g.rcWindow c).rcBad = 2 ∧ bit (g.rcWindow c).cond 0 = true := by
  have two : (g.rcWindow c).rcBad = 2 := (if_pos (by simpa using out)).trans (by omega)
  have holds : (g.rcHold || (g.rcWindow c).rcBad == 2) = true := by rw [two]; simp
  exact ⟨holds, two, (bit_putBit_self (by decide)).trans holds⟩

/-- A good window of the RC clock. -/
theorem Glade.rcWindow_good {g : Glade} {c : Nat} (low : 768 ≤ c) (high : c ≤ 1280) :
    (g.rcWindow c).rcHold = g.rcHold ∧ (g.rcWindow c).rcBad = 0 := by
  have zero : (g.rcWindow c).rcBad = 0 := if_neg (by simp; omega)
  have holds : (g.rcHold || (g.rcWindow c).rcBad == 2) = g.rcHold := by rw [zero]; simp
  exact ⟨holds, zero⟩

/-- The second bad window of XTAL_SYS in a row. -/
theorem Glade.sysWindow_bad {g : Glade} {c : Nat} (out : c < 24500 ∨ 25500 < c) (before : g.sysBad ≠ 0) :
    (g.sysWindow c).sysBad = 2 ∧ bit (g.sysWindow c).cond 7 = true := by
  have two : (g.sysWindow c).sysBad = 2 := (if_pos (by simpa using out)).trans (by omega)
  exact ⟨two, (bit_putBit_self (by decide)).trans (beq_iff_eq.mpr two)⟩

end

/-! ### The cycle's inputs (17 R598–R601, R611) -/

section
variable {s : State} {g : Glade} {p : SinPair} {pins : GladePins} {now : Nat}

/-- The levels and the timer of a pair, which its demand leaves. -/
theorem SinPair.demands_levels {compat : Bool} : (p.demands now compat).raw1 = p.raw1 ∧
    (p.demands now compat).raw2 = p.raw2 ∧ (p.demands now compat).filt1 = p.filt1 ∧
    (p.demands now compat).filt2 = p.filt2 ∧ (p.demands now compat).timer = p.timer := by
  unfold SinPair.demands
  dsimp only
  split
  · exact ⟨rfl, rfl, rfl, rfl, rfl⟩
  · exact ⟨rfl, rfl, rfl, rfl, rfl⟩

theorem SinPair.discrepancy_levels {on : Bool} : (p.discrepancy on).raw1 = p.raw1 ∧
    (p.discrepancy on).raw2 = p.raw2 ∧ (p.discrepancy on).filt1 = p.filt1 ∧ (p.discrepancy on).filt2 = p.filt2 ∧
    (p.discrepancy on).timer =
      if on && p.filt1 != p.filt2 then some ((p.timer.map (fun j => j + 1)).getD 0) else none := by
  unfold SinPair.discrepancy
  dsimp only
  split
  · refine ⟨rfl, rfl, rfl, rfl, ?_⟩
    cases p.timer with
    | none => rfl
    | some j => rfl
  · exact ⟨rfl, rfl, rfl, rfl, rfl⟩

theorem runOf_same {a b : Bool} {n top : Nat} (h : a = b) : runOf a b n top = min top (n + 1) := if_pos (by simp [h])

theorem runOf_other {a b : Bool} {n top : Nat} (h : a ≠ b) : runOf a b n top = 1 := if_neg (by simp [h])

theorem Glade.pairCycle_eq {i : Nat} {a b : Bool} : g.pairCycle i p a b now =
    ((p.samples a b (g.pairFn i != 0) (g.pairFilt i)).demands now g.compat).discrepancy (g.pairFn i != 0) := rfl

/-- A pair after a cycle. -/
theorem Glade.pairCycle_levels {i : Nat} {a b : Bool} :
    (g.pairCycle i p a b now).raw1 = a ∧ (g.pairCycle i p a b now).raw2 = b ∧
      (g.pairCycle i p a b now).filt1 =
        (!(g.pairFn i != 0) || (if 4 * g.pairFilt i ≤ runOf p.raw1 a p.run1 80 then a else p.filt1)) ∧
      (g.pairCycle i p a b now).timer =
        if (g.pairFn i != 0 && (g.pairCycle i p a b now).filt1 != (g.pairCycle i p a b now).filt2) then
          some ((p.timer.map (fun j => j + 1)).getD 0) else none := by
  rw [Glade.pairCycle_eq]
  obtain ⟨raw1, raw2, filt1, filt2, timer⟩ := SinPair.demands_levels (p := p.samples a b (g.pairFn i != 0) (g.pairFilt i))
    (now := now) (compat := g.compat)
  generalize (p.samples a b (g.pairFn i != 0) (g.pairFilt i)).demands now g.compat = q at *
  obtain ⟨raw1', raw2', filt1', filt2', timer'⟩ := SinPair.discrepancy_levels (p := q) (on := g.pairFn i != 0)
  refine ⟨raw1'.trans raw1, raw2'.trans raw2, filt1'.trans filt1, ?_⟩
  rw [timer', filt1', filt2', timer]
  rfl

/-- A pair that is not enabled has no discrepancy. -/
theorem Glade.pairCycle_off {i : Nat} {a b : Bool} (off : g.pairFn i = 0) : (g.pairCycle i p a b now).timer = none := by
  rw [Glade.pairCycle_levels.2.2.2, off]
  rfl

theorem discCond_off {cond : BitVec 12} {j d : Nat} (off : p.timer = none) : discCond cond j p d = putBit cond j false := by
  simp [discCond, SinPair.discFault, off]

/-- The levels of the pairs and of the button, which Glade's samples leave. -/
theorem State.gladeSettle_pairs :
    s.gladeSettle.glade.pairA.raw1 = s.glade.pairA.raw1 ∧ s.gladeSettle.glade.pairA.raw2 = s.glade.pairA.raw2 ∧
      s.gladeSettle.glade.pairB.raw1 = s.glade.pairB.raw1 ∧ s.gladeSettle.glade.pairB.raw2 = s.glade.pairB.raw2 ∧
      s.gladeSettle.glade.pairA.filt1 = s.glade.pairA.filt1 ∧ s.gladeSettle.glade.pairA.filt2 = s.glade.pairA.filt2 ∧
      s.gladeSettle.glade.pairA.timer = s.glade.pairA.timer ∧ s.gladeSettle.glade.srstRaw = s.glade.srstRaw := by
  refine ⟨?_, ?_, ?_, ?_, ?_, ?_, ?_, ?_⟩
  · exact State.gladeSettle_unchanged (f := fun g => g.pairA.raw1) (fun _ _ => rfl) (fun _ _ _ _ _ _ _ _ _ => rfl) (fun _ => rfl)
  · exact State.gladeSettle_unchanged (f := fun g => g.pairA.raw2) (fun _ _ => rfl) (fun _ _ _ _ _ _ _ _ _ => rfl) (fun _ => rfl)
  · exact State.gladeSettle_unchanged (f := fun g => g.pairB.raw1) (fun _ _ => rfl) (fun _ _ _ _ _ _ _ _ _ => rfl) (fun _ => rfl)
  · exact State.gladeSettle_unchanged (f := fun g => g.pairB.raw2) (fun _ _ => rfl) (fun _ _ _ _ _ _ _ _ _ => rfl) (fun _ => rfl)
  · exact State.gladeSettle_unchanged (f := fun g => g.pairA.filt1) (fun _ _ => rfl) (fun _ _ _ _ _ _ _ _ _ => rfl) (fun _ => rfl)
  · exact State.gladeSettle_unchanged (f := fun g => g.pairA.filt2) (fun _ _ => rfl) (fun _ _ _ _ _ _ _ _ _ => rfl) (fun _ => rfl)
  · exact State.gladeSettle_unchanged (f := fun g => g.pairA.timer) (fun _ _ => rfl) (fun _ _ _ _ _ _ _ _ _ => rfl) (fun _ => rfl)
  · exact State.gladeSettle_unchanged (f := Glade.srstRaw) (fun _ _ => rfl) (fun _ _ _ _ _ _ _ _ _ => rfl) (fun _ => rfl)

end

/-! ### The press of the deliberate reset (17 R611, R612, R632) -/

section
variable {s : State} {g : Glade} {pins : GladePins} {now : Nat} {x : BitVec 12}

theorem State.closeEpisode_parts : Only [.now, .regs, .flt, .log] s s.closeEpisode :=
  .app State.logHw_parts rfl (.app State.report_parts rfl (.app Only.set_flt rfl .refl))

/-- An accepted press in LOCKOUT. -/
theorem State.pressed_lockout (st : s.glade.st = .lockout) :
    s.pressed.glade = s.glade.pressLock ∧ Only [.now, .regs, .flt, .glade, .log] s s.pressed := by
  have report : Only [.flt, .log] { s with glade := s.glade.pressLock }
      (({ s with glade := s.glade.pressLock } : State).gladeReport s.glade s.glade.pressLock) := State.gladeReport_parts
  have close : ∀ u : State, Only [.now, .regs, .flt, .log] u (u.when (u.coreOn && u.flt.ep.isOpen && u.flt.ep.cls == 4)
      State.closeEpisode) := fun u => Only.when (fun _ h => .app State.closeEpisode_parts rfl h) .refl
  have e : s.pressed = (({ s with glade := s.glade.pressLock } : State).gladeReport s.glade s.glade.pressLock).when
      (s.coreOn && s.flt.ep.isOpen && s.flt.ep.cls == 4) State.closeEpisode := if_pos (by simp [st])
  have closes : Only [.now, .regs, .flt, .log]
      (({ s with glade := s.glade.pressLock } : State).gladeReport s.glade s.glade.pressLock) s.pressed := by
    rw [e]
    exact Only.when (fun _ h => .app State.closeEpisode_parts rfl h) .refl
  exact ⟨(closes .glade rfl).trans (report .glade rfl), .app closes rfl (.app report rfl (.app Only.set_glade rfl .refl))⟩

/-- A press outside LOCKOUT changes Glade's permission to return, or nothing. -/
theorem State.pressed_else (st : s.glade.st ≠ .lockout) :
    s.pressed = { s with glade := { s.glade with retOk := true, cntSrst := satAdd s.glade.cntSrst 1 } } ∨ s.pressed = s := by
  unfold State.pressed
  rw [if_neg (by simpa using st)]
  split
  · exact .inl rfl
  · exact .inr rfl

theorem State.pressed_inputs : s.pressed.glade.pairA = s.glade.pairA ∧ s.pressed.glade.pairB = s.glade.pairB ∧
    s.pressed.glade.srstRaw = s.glade.srstRaw ∧ Only [.now, .regs, .flt, .glade, .log] s s.pressed := by
  by_cases st : s.glade.st = .lockout
  · obtain ⟨glade, parts⟩ := State.pressed_lockout st
    rw [glade]
    exact ⟨rfl, rfl, rfl, parts⟩
  · rcases State.pressed_else st with e | e
    · rw [e]
      exact ⟨rfl, rfl, rfl, .app Only.set_glade rfl .refl⟩
    · rw [e]
      exact ⟨rfl, rfl, rfl, .refl⟩

/-- The pairs and the button after a cycle, whether or not its press is accepted. -/
theorem State.gladeCycle_inputs :
    (s.gladeCycle pins).glade.pairA = s.glade.pairCycle 0 s.glade.pairA pins.a1 pins.a2 s.now ∧
      (s.gladeCycle pins).glade.pairB = s.glade.pairCycle 1 s.glade.pairB pins.b1 pins.b2 s.now ∧
      (s.gladeCycle pins).glade.srstRaw = (!pins.srst) ∧
      Only [.now, .regs, .flt, .glade, .log] s (s.gladeCycle pins) := by
  obtain ⟨a, b, srst, parts⟩ :=
    State.pressed_inputs (s := { s with glade := (s.glade.inputs pins s.now).button pins.srst })
  unfold State.gladeCycle State.when
  dsimp only
  split
  · exact ⟨a, b, srst, .app parts rfl (.app Only.set_glade rfl .refl)⟩
  · exact ⟨rfl, rfl, rfl, .app Only.set_glade rfl .refl⟩

/-- No bit of a source that locks. -/
def Unlocked (x : BitVec 12) : Prop := ∀ j, j < 7 → bit x j = false

theorem unlocked_iff : Unlocked x ↔ x &&& 0x7F#12 = 0 := by
  have mask : ∀ j, j < 12 → (0x7F#12).getLsbD j = decide (j < 7) := by decide
  constructor
  · intro h
    refine BitVec.eq_of_getLsbD_eq (fun j hj => ?_)
    rw [BitVec.getLsbD_and, mask j hj, show (0 : BitVec 12) = 0#12 from rfl, BitVec.getLsbD_zero]
    by_cases lock : j < 7
    · rw [show x.getLsbD j = false from h j lock, Bool.false_and]
    · rw [decide_eq_false lock, Bool.and_false]
  · intro h j lock
    have e : (x &&& 0x7F#12).getLsbD j = false := by rw [h]; exact BitVec.getLsbD_zero
    rw [BitVec.getLsbD_and, mask j (by omega), decide_eq_true lock, Bool.and_true] at e
    exact e

theorem Unlocked.putBit {j : Nat} {b : Bool} (h : Unlocked x) (wide : j < 12) (clear : 7 ≤ j ∨ b = false) :
    Unlocked (putBit x j b) := by
  intro k lock
  by_cases e : k = j
  · subst e
    rw [bit_putBit_self wide]
    exact clear.resolve_left (by omega)
  · rw [bit_putBit_ne wide e]
    exact h k lock

theorem Unlocked.setBit {j : Nat} (h : Unlocked x) (wide : j < 12) (high : 7 ≤ j) : Unlocked (setBit x j) := by
  intro k lock
  rw [bit_setBit wide, h k lock, decide_eq_false (by omega)]
  rfl

/-- Conditions without a lock condition hold none. -/
theorem Glade.holding_unlocked (h : Unlocked g.cond) : Unlocked g.holding := by
  refine Unlocked.putBit ?_ (by decide) (.inl (by decide))
  split
  · exact h
  · exact h.setBit (by decide) (by decide)

/-- The read-backs bring no lock condition. -/
theorem Glade.readback_unlocked (h : Unlocked g.cond) : Unlocked g.readback.cond :=
  (h.putBit (by decide) (.inr (by rw [h 6 (by decide)]; rfl))).putBit (by decide) (.inl (by decide))

theorem Glade.sensed_unlocked (cond : Unlocked g.cond) (raised : Unlocked g.raised) :
    Unlocked (g.sensed now).cond ∧ Unlocked (g.sensed now).raised := by
  have read : Unlocked (Glade.readback { g with pairA := g.pairA.ripe now, pairB := g.pairB.ripe now }).cond :=
    Glade.readback_unlocked (g := { g with pairA := g.pairA.ripe now, pairB := g.pairB.ripe now }) cond
  refine ⟨read, fun j lock => ?_⟩
  have holds := Glade.holding_unlocked read j lock
  show bit (g.raised ||| _) j = false
  unfold bit at *
  rw [BitVec.getLsbD_or, holds, show g.raised.getLsbD j = false from raised j lock]
  rfl

/-- With no lock demand, no transition leads to LOCKOUT. -/
theorem Glade.transit_free {ready : Bool} (st : g.st ≠ .lockout) (free : g.dLock = false) :
    (g.transit ready).st ≠ .lockout := by
  unfold Glade.transit
  rw [free, Bool.and_false, if_neg Bool.false_ne_true]
  split
  case h_1 e => split_ifs <;> simp [Glade.enter, e]
  case h_2 e => split_ifs <;> simp [Glade.toSlo, Glade.toFb, Glade.enter, e]
  case h_3 e => split_ifs <;> simp [Glade.toSlo, Glade.enter, e]
  case h_4 e => split_ifs <;> simp [Glade.toFb, Glade.enter, e]
  case h_5 e => exact absurd e st

theorem Glade.dLock_free (line : bit g.taken 3 = false) (raised : Unlocked g.raised) : g.dLock = false := by
  rw [Glade.dLock, Glade.lockCauses, line, unlocked_iff.mp raised]
  rfl

/-- With no lock condition left and L4 masked or false, Glade settles outside LOCKOUT. -/
theorem State.gladeSettle_free (on : s.gladeOn = true) (st : s.glade.st ≠ .lockout) (line : bit s.glade.taken 3 = false)
    (cond : Unlocked s.glade.cond) (raised : Unlocked s.glade.raised) :
    s.gladeSettle.glade.st ≠ .lockout ∧ Unlocked s.gladeSettle.glade.raised := by
  have one : ∀ {u : State}, (u.glade.st ≠ .lockout ∧ bit u.glade.taken 3 = false ∧ Unlocked u.glade.cond ∧
      Unlocked u.glade.raised) → u.gladeSample.glade.st ≠ .lockout ∧ bit u.gladeSample.glade.taken 3 = false ∧
      Unlocked u.gladeSample.glade.cond ∧ Unlocked u.gladeSample.glade.raised := by
    rintro u ⟨st, line, cond, raised⟩
    obtain ⟨cond', raised'⟩ := Glade.sensed_unlocked (now := u.now) cond raised
    have free : (u.glade.sensed u.now).dLock = false := Glade.dLock_free line raised'
    have taken : u.gladeSample.glade.taken = u.glade.taken := State.gladeSample_unchanged (f := Glade.taken)
      (fun _ _ => rfl) (fun _ _ _ _ _ _ _ _ _ => rfl) (fun _ => rfl)
    have kept : (u.glade.sensed u.now).cond = u.gladeSample.glade.cond := by
      rw [State.gladeSample_glade, Glade.sample_eq]
      exact (Glade.transit_unchanged (f := Glade.cond) (fun _ _ _ _ _ _ _ _ _ => rfl)).symm
    have raises : (u.glade.sensed u.now).raised = u.gladeSample.glade.raised := by
      rw [State.gladeSample_glade, Glade.sample_eq]
      exact (Glade.transit_unchanged (f := Glade.raised) (fun _ _ _ _ _ _ _ _ _ => rfl)).symm
    refine ⟨?_, by rw [taken]; exact line, by rw [← kept]; exact cond', by rw [← raises]; exact raised'⟩
    rw [State.gladeSample_glade, Glade.sample_eq]
    exact Glade.transit_free (g := u.glade.sensed u.now) st free
  obtain ⟨st', -, -, raised'⟩ := State.gladeSettle_induction on (p := fun u => u.glade.st ≠ .lockout ∧
    bit u.glade.taken 3 = false ∧ Unlocked u.glade.cond ∧ Unlocked u.glade.raised) (one ⟨st, line, cond, raised⟩)
    (fun u hu => one hu)
  exact ⟨st', raised'⟩

/-- The button released for the eighth cycle. -/
theorem Glade.button_released (raw : g.srstRaw = false) (run : 7 ≤ g.srstRun) :
    g.button true = { g with srstRaw := false, srstRun := 8, pressed := false, cond := putBit g.cond 5 false } := by
  have runs : runOf g.srstRaw (!true) g.srstRun 8 = 8 := by
    rw [raw]
    simp [runOf]
    omega
  unfold Glade.button
  dsimp only at runs ⊢
  rw [runs]
  simp

/-- The cycle that ends a press of the length that R612 accepts, the pairs not enabled. -/
theorem Glade.press_released (down : g.pressed = true) (raw : g.srstRaw = false) (run : 7 ≤ g.srstRun)
    (long : 200 ≤ g.press) (short : g.press ≤ 12000) (free : g.stuck = false)
    (offA : g.pairFn 0 = 0) (offB : g.pairFn 1 = 0) (cond : Unlocked g.cond) :
    g.pressGood ((g.inputs pins now).button true) = true ∧ Unlocked ((g.inputs pins now).button true).cond := by
  have a : (g.pairCycle 0 g.pairA pins.a1 pins.a2 now).timer = none := Glade.pairCycle_off offA
  have b : (g.pairCycle 1 g.pairB pins.b1 pins.b2 now).timer = none := Glade.pairCycle_off offB
  rw [Glade.button_released (g := g.inputs pins now) raw run]
  constructor
  · show (g.pressed && !false && decide (200 ≤ g.press) && decide (g.press ≤ 12000) && !g.stuck &&
      (g.pairFn 0 == 0 || _) && (g.pairFn 1 == 0 || _)) = true
    simp [down, long, short, free, offA, offB]
  · refine Unlocked.putBit ?_ (by decide) (.inr rfl)
    show Unlocked (discCond (discCond g.cond 3 _ (g.pairDisc 0)) 4 _ (g.pairDisc 1))
    rw [discCond_off b, discCond_off a]
    exact (cond.putBit (by decide) (.inr rfl)).putBit (by decide) (.inr rfl)

/-- A press accepted in LOCKOUT with no lock condition left and no rise of L4 (17 R612, R632). -/
theorem State.gladeCycle_accepts (on : s.gladeOn = true) (st : s.glade.st = .lockout) (down : s.glade.pressed = true)
    (raw : s.glade.srstRaw = false) (run : 7 ≤ s.glade.srstRun) (up : pins.srst = true) (long : 200 ≤ s.glade.press)
    (short : s.glade.press ≤ 12000) (free : s.glade.stuck = false) (offA : s.glade.pairFn 0 = 0)
    (offB : s.glade.pairFn 1 = 0) (cond : Unlocked s.glade.cond) (calm : s.lockRising = false) :
    (s.gladeCycle pins).gladeSettle.glade.st ≠ .lockout ∧ Unlocked (s.gladeCycle pins).gladeSettle.glade.raised ∧
      (s.gladeCycle pins).gladeSettle.glade.masked = s.glade.lines ||| s.glade.lineBad ∧
      (s.gladeCycle pins).gladeSettle.glade.cntSrst = satAdd s.glade.cntSrst 1 := by
  obtain ⟨good, cond'⟩ := Glade.press_released (g := s.glade) (pins := pins) (now := s.now) down raw run long short free
    offA offB cond
  have newLock : s.glade.newLock ((s.glade.inputs pins s.now).button true) = false := by
    have holds := unlocked_iff.mp (Glade.holding_unlocked cond')
    have none : ((s.glade.inputs pins s.now).button true).holding &&& ~~~s.glade.raised &&& 0x7F#12 = 0 := by
      rw [BitVec.and_assoc, BitVec.and_comm (~~~s.glade.raised), ← BitVec.and_assoc, holds]
      exact BitVec.zero_and
    rw [Glade.newLock, none]
    rfl
  have accepted : s.gladeCycle pins = State.pressed { s with glade := (s.glade.inputs pins s.now).button true } := by
    unfold State.gladeCycle
    rw [up]
    exact State.when_true (by rw [good, newLock, calm]; rfl)
  rw [accepted]
  obtain ⟨glade, parts⟩ := State.pressed_lockout (s := { s with glade := (s.glade.inputs pins s.now).button true }) st
  have top : State.top (State.pressed { s with glade := (s.glade.inputs pins s.now).button true }) = s.top := parts .top rfl
  generalize State.pressed { s with glade := (s.glade.inputs pins s.now).button true } = u at *
  have on' : u.gladeOn = true := by
    rw [State.gladeOn, top, glade]
    exact on
  have line : bit u.glade.taken 3 = false := by
    rw [glade]
    show bit ((s.glade.lines ||| s.glade.lineBad) &&& ~~~(s.glade.lines ||| s.glade.lineBad)) 3 = false
    rw [BitVec.and_not_self]
    exact BitVec.getLsbD_zero
  obtain ⟨st', raised'⟩ := State.gladeSettle_free on' (by rw [glade]; exact GladeState.noConfusion) line
    (by rw [glade]; exact cond') (by rw [glade]; exact fun j _ => BitVec.getLsbD_zero)
  refine ⟨st', raised', State.gladeSettle_inputs.2.2.1.trans (by rw [glade]; rfl), ?_⟩
  refine (State.gladeSettle_unchanged (f := Glade.cntSrst) (fun _ _ => rfl) (fun _ _ _ _ _ _ _ _ _ => rfl)
    (fun _ => rfl)).trans ?_
  rw [glade]
  rfl

end

/-- The parts that a change of Glade alone and its samples may change. -/
theorem State.settled_parts {s u : State} {t : Nat} (parts : Only [.glade] (s.stamp t) u) :
    Only [.now, .glade, .flt, .log] s u.gladeSettle :=
  .app State.gladeSettle_parts rfl (.app parts rfl (.app State.stamp_only rfl .refl))

/-- Settles O27: the inputs and the press by the cycle, each checker by the condition that it sets. -/
theorem gladeInputsAndCheckers : Obligations.GladeInputsAndCheckers := by
  refine ⟨fun t p s on => ?_, fun t s on => ⟨fun c out before => ?_, fun c low high => ?_, fun c out before => ?_, ?_, ?_,
    fun a e differs => ?_, fun e differs => ?_, fun ok bad ended needed => ?_⟩⟩
  · have e : exec (.gladeCycle t p) s = .next ((s.stamp t).gladeCycle p).gladeSettle :=
      (onGladeSettled_on on : execGladeCycle t p s = _)
    obtain ⟨pairA, pairB, srst, parts⟩ := State.gladeCycle_inputs (s := s.stamp t) (pins := p)
    obtain ⟨a1, a2, b1, b2, filt1, filt2, timer, raw⟩ := State.gladeSettle_pairs (s := (s.stamp t).gladeCycle p)
    obtain ⟨levelA1, levelA2, filtered, discrepancy⟩ := Glade.pairCycle_levels (g := s.glade) (i := 0) (p := s.glade.pairA)
      (a := p.a1) (b := p.a2) (now := (s.stamp t).now)
    obtain ⟨levelB1, levelB2, -, -⟩ := Glade.pairCycle_levels (g := s.glade) (i := 1) (p := s.glade.pairB)
      (a := p.b1) (b := p.b2) (now := (s.stamp t).now)
    rw [pairA] at a1 a2 filt1 filt2 timer
    rw [pairB] at b1 b2
    refine ⟨_, e, a1.trans levelA1, a2.trans levelA2, b1.trans levelB1, b2.trans levelB2, raw.trans srst,
      fun fn same run => ?_, fun fn other run => ?_, fun equal => ?_, fun fn differ => ?_,
      fun st down raw run up long short free offA offB cond calm => ?_,
      .app State.gladeSettle_parts rfl (.app parts rfl (.app State.stamp_only rfl .refl))⟩
    · refine filt1.trans (filtered.trans ?_)
      rw [runOf_same same, if_pos run]
      simp [fn]
    · refine filt1.trans (filtered.trans ?_)
      rw [runOf_other other, if_neg (by omega)]
      simp [fn]
    · rw [filt1, filt2] at equal
      refine timer.trans (discrepancy.trans (if_neg ?_))
      rw [show (s.stamp t).glade = s.glade from rfl] at equal
      rw [equal]
      simp
    · rw [filt1, filt2] at differ
      refine timer.trans (discrepancy.trans (if_pos ?_))
      rw [Bool.and_eq_true_iff]
      exact ⟨by simpa using fn, bne_iff_ne.mpr differ⟩
    · obtain ⟨out, raised, masked, count⟩ := State.gladeCycle_accepts (s := s.stamp t) (pins := p) on st down raw run up long
        short free offA offB (unlocked_iff.mpr cond) calm
      exact ⟨out, unlocked_iff.mp raised, masked, count⟩
  · have e : exec (.rcClockWindow t c) s = .next ({ s.stamp t with
        glade := s.glade.rcWindow c
        clk := if (s.glade.rcWindow c).rcBad = 0 then s.clk.freeGlade else s.clk } : State).gladeSettle :=
      (onGladeSettled_on on : execRcClockWindow t c s = _)
    obtain ⟨hold, two, cond⟩ := Glade.rcWindow_bad out before
    rw [if_neg (by rw [two]; decide)] at e
    obtain ⟨raised, st, aen⟩ := State.gladeSettle_locks (s := { s.stamp t with glade := s.glade.rcWindow c }) (j := 0) on cond
      (by decide) (by decide)
    obtain ⟨hold', bad', xcnt, -, -, -, -⟩ := State.gladeSettle_checkers (s := { s.stamp t with glade := s.glade.rcWindow c })
    have parts := State.settled_parts (u := { s.stamp t with glade := s.glade.rcWindow c }) (.app Only.set_glade rfl .refl)
    exact ⟨_, e, hold'.trans hold, bad'.trans two, aen, raised, st, xcnt, parts .clk rfl, parts⟩
  · have e : exec (.rcClockWindow t c) s = .next ({ s.stamp t with
        glade := s.glade.rcWindow c
        clk := if (s.glade.rcWindow c).rcBad = 0 then s.clk.freeGlade else s.clk } : State).gladeSettle :=
      (onGladeSettled_on on : execRcClockWindow t c s = _)
    obtain ⟨hold, zero⟩ := Glade.rcWindow_good (g := s.glade) low high
    rw [if_pos zero] at e
    obtain ⟨hold', bad', -, -, -, -, -⟩ :=
      State.gladeSettle_checkers (s := { s.stamp t with glade := s.glade.rcWindow c, clk := s.clk.freeGlade })
    have settled := State.gladeSettle_parts (s := { s.stamp t with glade := s.glade.rcWindow c, clk := s.clk.freeGlade })
    exact ⟨_, e, hold'.trans hold, bad'.trans zero, congrArg Clk.stalled (settled .clk rfl),
      .app settled rfl (.app Only.set_clk_glade rfl (.app State.stamp_only rfl .refl))⟩
  · have e : exec (.sysclkCheckWindow t c) s = .next ({ s.stamp t with glade := s.glade.sysWindow c } : State).gladeSettle :=
      (onGladeSettled_on on : execSysclkCheckWindow t c s = _)
    obtain ⟨two, cond⟩ := Glade.sysWindow_bad out before
    obtain ⟨raised, run, beam⟩ := State.gladeSettle_slo (s := { s.stamp t with glade := s.glade.sysWindow c }) (j := 7) on
      (.inl rfl) (Glade.sensed_raises cond (by decide))
    obtain ⟨-, -, -, bad', scnt, -, -⟩ := State.gladeSettle_checkers (s := { s.stamp t with glade := s.glade.sysWindow c })
    exact ⟨_, e, bad'.trans two, raised, run, beam, scnt, State.settled_parts (.app Only.set_glade rfl .refl)⟩
  · have e : exec (.gladeSupplyFault t true) s = .next ((s.stamp t).gladeCond 1 true).gladeSettle :=
      (onGladeSettled_on on : execGladeSupplyFault t true s = _)
    have on' : ((s.stamp t).gladeCond 1 true).gladeOn = true := on
    obtain ⟨raised, st, -⟩ := State.gladeSettle_locks on' (j := 1) (bit_putBit_self (by decide)) (by decide) (by decide)
    exact ⟨_, e, raised, st, State.settled_parts (.app Only.set_glade rfl .refl)⟩
  · have e : exec (.gladeSupplyFault t false) s = .next ((s.stamp t).gladeCond 1 false).gladeSettle :=
      (onGladeSettled_on on : execGladeSupplyFault t false s = _)
    exact ⟨_, e, (State.gladeSettle_cond (by decide)).trans (bit_putBit_self (by decide)),
      State.settled_parts (.app Only.set_glade rfl .refl)⟩
  · have x : exec (.readbackMismatch t a e) s = .next ({ s.stamp t with glade := s.glade.pads a e } : State).gladeSettle :=
      (onGladeSettled_on on : execReadbackMismatch t a e s = _)
    have cond : bit (s.glade.pads a e).cond 6 = true :=
      (bit_putBit_ne (by decide) (by decide)).trans ((bit_putBit_self (by decide)).trans (by simpa using differs))
    obtain ⟨raised, st, -⟩ := State.gladeSettle_locks_of_sensed (s := { s.stamp t with glade := s.glade.pads a e }) on
      (by decide) (Glade.sensed_aen cond differs)
    exact ⟨_, x, raised, st, State.settled_parts (.app Only.set_glade rfl .refl)⟩
  · have x : exec (.readbackMismatch t s.glade.aenDrv e) s = .next
        ({ s.stamp t with glade := s.glade.pads s.glade.aenDrv e } : State).gladeSettle :=
      (onGladeSettled_on on : execReadbackMismatch t s.glade.aenDrv e s = _)
    have cond : bit (s.glade.pads s.glade.aenDrv e).cond 9 = true :=
      (bit_putBit_self (by decide)).trans (by simpa using differs)
    obtain ⟨raised, -⟩ := State.gladeSettle_raised_of_sensed
      (s := { s.stamp t with glade := s.glade.pads s.glade.aenDrv e }) on (Glade.sensed_err cond differs) (by decide)
    exact ⟨_, x, raised, State.settled_parts (.app Only.set_glade rfl .refl)⟩
  · have failed : s.glade.fbFail = { s.glade with fbOk := false, fbErr := 3 } := if_pos ok
    have x : exec (.fallbackCrcCheck t) s = .next
        ({ s.stamp t with glade := { s.glade with fbOk := false, fbErr := 3 } } : State).gladeSettle := by
      rw [← failed]
      exact (onGladeSettled_on on : execFallbackCrcCheck t s = _).trans (congrArg (fun u => Host.Outcome.next u.gladeSettle)
        (State.when_true (s := s.stamp t) (Bool.and_eq_true_iff.mpr ⟨ok, bad⟩)))
    obtain ⟨raised, run, beam⟩ := State.gladeSettle_slo
      (s := { s.stamp t with glade := { s.glade with fbOk := false, fbErr := 3 } }) (j := 8) on
      (.inr rfl) (Glade.sensed_fallback ended rfl needed)
    obtain ⟨-, -, -, -, -, lost, err⟩ := State.gladeSettle_checkers
      (s := { s.stamp t with glade := { s.glade with fbOk := false, fbErr := 3 } })
    exact ⟨_, x, lost, err, raised, run, beam, State.settled_parts (.app Only.set_glade rfl .refl)⟩

end Sys2Proof.Machine
end

section
/-! Glade returns to RUN. -/

namespace Sys2Proof.Machine

open Sys2Proof

/-! ### A Glade without demands (17 R607, R608) -/

section
variable {g : Glade} {s : State} {now : Nat} {x y : BitVec 12} {c : BitVec 12}

theorem and_not_eq_zero_iff : x &&& ~~~y = 0 ↔ ∀ j, bit x j = true → bit y j = true := by
  constructor
  · intro h j hx
    have wide : j < 12 := BitVec.lt_of_getLsbD hx
    have e : (x &&& ~~~y).getLsbD j = false := by rw [h]; exact BitVec.getLsbD_zero
    rw [BitVec.getLsbD_and, BitVec.getLsbD_not, show x.getLsbD j = true from hx, decide_eq_true wide] at e
    have own : y.getLsbD j = true := by simpa using e
    exact own
  · intro h
    refine BitVec.eq_of_getLsbD_eq (fun j wide => ?_)
    rw [BitVec.getLsbD_and, BitVec.getLsbD_not, show (0 : BitVec 12) = 0#12 from rfl, BitVec.getLsbD_zero]
    cases hx : x.getLsbD j with
    | false => rfl
    | true => rw [show y.getLsbD j = true from h j hx]; simp

/-- Fewer conditions, fewer sources that hold. -/
theorem Glade.holding_mono (fewer : ∀ j, bit c j = true → bit g.cond j = true) {j : Nat}
    (h : bit (Glade.holding { g with cond := c }) j = true) : bit g.holding j = true := by
  by_cases e : j = 8
  · subst e
    exact (bit_putBit_self (by decide)).trans ((bit_putBit_self (by decide)).symm.trans h)
  · have h' := (bit_putBit_ne (by decide) e).symm.trans h
    refine (bit_putBit_ne (by decide) e).trans ?_
    change bit (if g.lineBad = 0 then c else setBit c 10) j = true at h'
    split at h'
    next z => rw [if_pos z]; exact fewer j h'
    next z =>
      rw [if_neg z]
      rw [bit_setBit (by decide)] at h' ⊢
      rcases Bool.or_eq_true_iff.mp h' with old | line
      · rw [fewer j old]; rfl
      · rw [line]; exact Bool.or_true _

theorem Glade.readback_fewer {j : Nat} (h : bit g.readback.cond j = true) : bit g.cond j = true := by
  by_cases nine : j = 9
  · subst nine
    have := (bit_putBit_self (by decide)).symm.trans h
    exact (Bool.and_eq_true_iff.mp this).1
  · have h' := (bit_putBit_ne (by decide) nine).symm.trans h
    by_cases six : j = 6
    · subst six
      have := (bit_putBit_self (by decide)).symm.trans h'
      exact (Bool.and_eq_true_iff.mp this).1
    · exact (bit_putBit_ne (by decide) six).symm.trans h'

theorem SinPair.ripe_idle {p : SinPair} (idle : p.due = []) : p.ripe now = p := by
  cases p
  cases idle
  rfl

/-- What a sample senses of a Glade without demands: its read-backs and the permission to return. -/
theorem Glade.sensed_quiet (quiet : g.Quiet) :
    g.sensed now = { g with cond := g.readback.cond, retOk := g.retOkNow } ∧ (g.sensed now).Quiet := by
  obtain ⟨held, a, b, lock, slo, fb⟩ := quiet
  have fewer : ∀ j, bit g.readback.holding j = true → bit g.raised j = true := fun j h =>
    and_not_eq_zero_iff.mp held j (Glade.holding_mono (fun _ => Glade.readback_fewer) h)
  have raised : g.raised ||| g.readback.holding = g.raised := by
    refine BitVec.eq_of_getLsbD_eq (fun j wide => ?_)
    rw [BitVec.getLsbD_or]
    cases h : g.readback.holding.getLsbD j with
    | false => exact Bool.or_false _
    | true => rw [show g.raised.getLsbD j = true from fewer j h]; rfl
  have e : g.sensed now = { g with cond := g.readback.cond, retOk := g.retOkNow } := by
    unfold Glade.sensed
    dsimp only
    rw [SinPair.ripe_idle a, SinPair.ripe_idle b, raised]
    rfl
  refine ⟨e, ?_⟩
  rw [e]
  exact ⟨and_not_eq_zero_iff.mpr fewer, a, b, lock, slo, fb⟩

/-- Glade in RUN, without a demand and with the raised sources `r`. -/
structure Glade.Runs (r : BitVec 12) (g : Glade) : Prop where
  quiet : g.Quiet
  st : g.st = .run
  cause : g.cause = 0
  reacted : g.reacted = false
  raised : g.raised = r
  aen : g.rcHold = false → g.aenDrv = g.aenRun

theorem Glade.transit_enters (st : g.st = .slo) (slo : g.dSlo = false) (fb : g.dFb = false) (lock : g.dLock = false)
    (ok : g.retOk = true) : g.transit true = g.enter .run 0 false := by
  simp [Glade.transit, st, slo, fb, lock, ok]

theorem Glade.transit_stays (st : g.st = .run) (slo : g.dSlo = false) (fb : g.dFb = false) (lock : g.dLock = false)
    {ready : Bool} : g.transit ready = g := by
  simp [Glade.transit, st, slo, fb, lock]

theorem Glade.drive_runs (quiet : g.Quiet) (st : g.st = .run) (cause : g.cause = 0) (reacted : g.reacted = false) :
    g.drive.Runs g.raised := by
  refine ⟨quiet, st, cause, reacted, rfl, fun hold => ?_⟩
  show g.aenOut = g.aenRun
  have hold' : g.rcHold = false := hold
  simp [Glade.aenOut, st, hold']

/-- The sample in which a Glade without demands, permitted to return and READY, goes to RUN. -/
theorem Glade.sample_returns {r0 r1 : Bool} (quiet : g.Quiet) (st : g.st = .slo) (ok : g.retOk = true)
    (ready : g.ready r0 r1 = true) : (g.sample now r0 r1).Runs g.raised := by
  obtain ⟨e, quiet'⟩ := Glade.sensed_quiet (now := now) quiet
  obtain ⟨-, -, -, lock, slo, fb⟩ := id quiet
  have permitted : g.retOkNow = true := by simp [Glade.retOkNow, Glade.ownDemand, st, slo, ok]
  rw [e, permitted] at quiet'
  rw [Glade.sample_eq, e, permitted, show Glade.ready { g with cond := g.readback.cond, retOk := true } r0 r1 = true from ready,
    Glade.transit_enters (g := { g with cond := g.readback.cond, retOk := true }) st slo fb lock rfl]
  exact Glade.drive_runs (g := Glade.enter { g with cond := g.readback.cond, retOk := true } .run 0 false) quiet' rfl rfl rfl

theorem Glade.Runs.sample {r0 r1 : Bool} {r : BitVec 12} (h : g.Runs r) : (g.sample now r0 r1).Runs r := by
  obtain ⟨e, quiet'⟩ := Glade.sensed_quiet (now := now) h.quiet
  obtain ⟨-, -, -, lock, slo, fb⟩ := h.quiet
  rw [e] at quiet'
  rw [Glade.sample_eq, e, Glade.transit_stays (g := { g with cond := g.readback.cond, retOk := g.retOkNow }) h.st slo fb lock,
    ← h.raised]
  exact Glade.drive_runs (g := { g with cond := g.readback.cond, retOk := g.retOkNow }) quiet' h.st h.cause h.reacted

/-- A Glade that may return settles in RUN. -/
theorem State.gladeSettle_runs (on : s.gladeOn = true) (quiet : s.glade.Quiet) (st : s.glade.st = .slo)
    (ok : s.glade.retOk = true) (ready : s.glade.ready (s.rdy 0) (s.rdy 1) = true) :
    s.gladeSettle.glade.Runs s.glade.raised := by
  refine State.gladeSettle_induction on (p := fun u => u.glade.Runs s.glade.raised) ?_ (fun u hu => ?_)
  · rw [State.gladeSample_glade]
    exact Glade.sample_returns quiet st ok ready
  · rw [State.gladeSample_glade]
    exact hu.sample

end

/-! ### The hold of the ERR pair (16 R576) -/

section
variable {s : State} {g : Glade} {now : Nat} {r0 r1 : Bool}

theorem Glade.sample_fault (st : g.st = .lockout) (fault : g.errFault = true) (free : g.errHold = false) :
    (g.sample now r0 r1).st = .lockout ∧ (g.sample now r0 r1).errFault = true ∧ (g.sample now r0 r1).errHold = false := by
  have stays : (g.sensed now).transit ((g.sensed now).ready r0 r1) = g.sensed now := by
    have st' : (g.sensed now).st = .lockout := st
    simp [Glade.transit, st']
  have wanted : (g.sensed now).errWanted = true := by
    have st' : (g.sensed now).st = .lockout := st
    simp [Glade.errWanted, st']
  rw [Glade.sample_eq, stays]
  refine ⟨st, ?_, ?_⟩
  · show ((g.sensed now).errWanted || _) = true
    rw [wanted]
    rfl
  · show (if ((g.sensed now).errWanted || (g.errFault && g.errHold)) && !g.errFault then true
        else g.errHold && ((g.sensed now).errWanted || (g.errFault && g.errHold))) = false
    rw [wanted, fault, free]
    rfl

theorem State.gladeSettle_fault (on : s.gladeOn = true) (st : s.glade.st = .lockout) (fault : s.glade.errFault = true)
    (free : s.glade.errHold = false) : s.gladeSettle.glade.st = .lockout ∧ s.gladeSettle.glade.errFault = true ∧
      s.gladeSettle.glade.errHold = false := by
  refine State.gladeSettle_induction on
    (p := fun u => u.glade.st = .lockout ∧ u.glade.errFault = true ∧ u.glade.errHold = false) ?_ (fun u hu => ?_)
  · rw [State.gladeSample_glade]
    exact Glade.sample_fault st fault free
  · obtain ⟨st', fault', free'⟩ := hu
    rw [State.gladeSample_glade]
    exact Glade.sample_fault st' fault' free'

end

/-! ### Requests of the safety port (17 R628, R629) -/

section
variable {s : State} {t : Nat} {r : SspiReq} {f : SspiReq → State → State} {cmd : Byte} {g : Glade}

/-- A command of the safety port executes the accepted request of its CMD. -/
theorem onSspi_on (on : s.gladeOn = true) (req : s.glade.sspi.request = some r) (is : r.cmd = cmd) :
    onSspi t cmd s f = .next (f r (s.stamp t)).gladeSettle := by
  have found : (s.stamp t).sspiReq cmd = some r := by
    show (s.glade.sspi.request.bind _) = some r
    rw [req]
    exact if_pos is
  refine (onGladeSettled_on on).trans ?_
  rw [found]

theorem GladeState.code_lt {x : GladeState} : x.code < 8 := by cases x <;> decide

/-- RESULT stands in bits 3 to 0 of the first byte of a response. -/
theorem Glade.response_result {result : Nat} {seq : Byte} {addr : BitVec 16} {data : Word} (fits : result < 16) :
    fld ((g.response result seq addr data).getD 0 0) 0 4 = result := by
  have low : fld (BitVec.ofNat 8 (result + g.st.code * 16 + (if g.errFault then 128 else 0))) 0 4 = result := by
    have code := GladeState.code_lt (x := g.st)
    simp only [fld, BitVec.toNat_ofNat]
    split <;> omega
  exact low

theorem State.sspiAnswer_parts {result : Nat} {data : Word} : Only [.glade] s (s.sspiAnswer result data r) :=
  .app Only.set_glade rfl .refl

theorem State.sspiRefuse_parts : Only [.glade, .free] s (s.sspiRefuse r) :=
  .app Only.set_free rfl (.app State.sspiAnswer_parts rfl .refl)

/-- What an answered request leaves in the port, which Glade's samples keep. -/
theorem State.sspiAnswer_settled {result : Nat} {data : Word} (fits : result < 16) :
    (s.sspiAnswer result data r).gladeSettle.glade.sspi.request = none ∧
      fld ((s.sspiAnswer result data r).gladeSettle.glade.sspi.response.getD 0 0) 0 4 = result := by
  rw [State.gladeSettle_inputs.2.2.2.2.1]
  exact ⟨rfl, Glade.response_result fits⟩

theorem State.sspiRefuse_settled :
    (s.sspiRefuse r).gladeSettle.glade.sspi.request = none ∧
      fld ((s.sspiRefuse r).gladeSettle.glade.sspi.response.getD 0 0) 0 4 = 6 := by
  rw [State.gladeSettle_inputs.2.2.2.2.1]
  exact ⟨rfl, Glade.response_result (by decide)⟩

/-- In LOCKOUT no sample changes a noted RESUME. -/
theorem State.gladeSettle_resumed (on : s.gladeOn = true) (st : s.glade.st = .lockout) :
    s.gladeSettle.glade.resumed = s.glade.resumed := by
  have one : ∀ u : State, u.glade.st = .lockout →
      u.gladeSample.glade.st = .lockout ∧ u.gladeSample.glade.resumed = u.glade.resumed := by
    intro u st
    have stays : (u.glade.sensed u.now).transit ((u.glade.sensed u.now).ready (u.rdy 0) (u.rdy 1)) = u.glade.sensed u.now := by
      have st' : (u.glade.sensed u.now).st = .lockout := st
      simp [Glade.transit, st']
    rw [State.gladeSample_glade, Glade.sample_eq, stays]
    exact ⟨st, rfl⟩
  exact (State.gladeSettle_induction on
    (p := fun u => u.glade.st = .lockout ∧ u.glade.resumed = s.glade.resumed) (one s st)
    (fun u hu => ⟨(one u hu.1).1, (one u hu.1).2.trans hu.2⟩)).2

end

/-- Settles O28: a Glade that is without demands and permitted to return goes to RUN in the first sample and stays there. -/
theorem gladeReturnsToRun : Obligations.GladeReturnsToRun := by
  refine ⟨fun t s on => ⟨if_pos on, fun st fault => ?_, fun st reacted mode quiet ready => ?_, ?_⟩, fun t r s on req is =>
    ⟨fun st reacted mode quiet ready => ?_, fun st => ?_⟩⟩
  · have e : exec (.errHoldExpiry t) s = .next ({ s.stamp t with glade := { s.glade with errHold := false } } : State).gladeSettle :=
      (onGladeSettled_on on : execErrHoldExpiry t s = _)
    obtain ⟨st', fault', free'⟩ := State.gladeSettle_fault
      (s := { s.stamp t with glade := { s.glade with errHold := false } }) on st fault rfl
    exact ⟨_, e, free', fault', st', State.settled_parts (.app Only.set_glade rfl .refl)⟩
  · obtain ⟨-, -, -, -, slo, -⟩ := id quiet
    have may : s.glade.returnOpen 0 = true := by simp [Glade.returnOpen, Glade.ownDemand, st, reacted, mode, slo]
    have e : exec (.returnDwellExpiry t) s = .next ({ s.stamp t with glade := { s.glade with retOk := true } } : State).gladeSettle :=
      (onGladeSettled_on on : execReturnDwellExpiry t s = _).trans
        (congrArg (fun u : State => Host.Outcome.next u.gladeSettle) (State.when_true (s := s.stamp t) may))
    have runs := State.gladeSettle_runs (s := { s.stamp t with glade := { s.glade with retOk := true } }) on quiet st rfl ready
    have hold := (State.gladeSettle_checkers (s := { s.stamp t with glade := { s.glade with retOk := true } })).1
    have aen := State.gladeSettle_unchanged (s := { s.stamp t with glade := { s.glade with retOk := true } })
      (f := Glade.aenRun) (fun _ _ => rfl) (fun _ _ _ _ _ _ _ _ _ => rfl) (fun _ => rfl)
    exact ⟨_, e, runs.st, runs.cause, runs.reacted, runs.raised, fun h => (runs.aen (hold.trans h)).trans aen, State.settled_parts (.app Only.set_glade rfl .refl)⟩
  · have e : exec (.gladePowerLoss t) s = .next { s.stamp t with glade := {} } := (onGlade_on on : execGladePowerLoss t s = _)
    have off : State.gladeOn { s.stamp t with glade := {} } = false := Bool.and_false _
    exact ⟨_, e, rfl, off, if_neg (by rw [off]; exact Bool.false_ne_true), .app Only.set_glade rfl (.app State.stamp_only rfl .refl)⟩
  · obtain ⟨-, -, -, -, slo, -⟩ := id quiet
    have ok : s.glade.resume.retOk = true := by
      simp [Glade.resume, Glade.returnOpen, Glade.ownDemand, st, reacted, mode, slo]
    have takes : ¬((s.stamp t).glade.st = .load ∨ (s.stamp t).glade.st = .lockout) := by simp [State.stamp, st]
    have e : exec (.resume t) s = .next (State.sspiAnswer 0 (State.glStat { s.stamp t with glade := s.glade.resume }) r
        { s.stamp t with glade := s.glade.resume }).gladeSettle :=
      (onSspi_on on req is : execResume t s = _).trans
        (congrArg (fun u : State => Host.Outcome.next u.gladeSettle) (if_neg takes))
    have runs := State.gladeSettle_runs (s := State.sspiAnswer 0 (State.glStat { s.stamp t with glade := s.glade.resume }) r
      { s.stamp t with glade := s.glade.resume }) on quiet st ok (by
        show (rdyAll s.glade.gpr (s.rdy 0) (s.rdy 1) && (s.glade.gp 0x010 4 1 == 0 || true)) = true
        rw [ready, Bool.or_true, Bool.and_true])
    obtain ⟨request, result⟩ := State.sspiAnswer_settled (s := { s.stamp t with glade := s.glade.resume }) (r := r) (result := 0)
      (data := State.glStat { s.stamp t with glade := s.glade.resume }) (by decide)
    exact ⟨_, e, runs.st, runs.reacted, request, result, runs.raised,
      State.settled_parts (.app State.sspiAnswer_parts rfl (.app Only.set_glade rfl .refl))⟩
  · have e : exec (.resume t) s = .next ((s.stamp t).sspiRefuse r).gladeSettle :=
      (onSspi_on on req is : execResume t s = _).trans
        (congrArg (fun u : State => Host.Outcome.next u.gladeSettle) (if_pos (Or.inr st)))
    have lockout := (State.gladeSettle_lockout (s := (s.stamp t).sspiRefuse r) on (.inl st)).1
    have resumed := State.gladeSettle_resumed (s := (s.stamp t).sspiRefuse r) on st
    obtain ⟨request, result⟩ := State.sspiRefuse_settled (s := s.stamp t) (r := r)
    exact ⟨_, e, lockout, request, resumed, result,
      .app State.gladeSettle_parts rfl (.app State.sspiRefuse_parts rfl (.app State.stamp_only rfl .refl))⟩

end Sys2Proof.Machine
end

section
/-! The safety serial port. -/

namespace Sys2Proof.Machine

open Sys2Proof

/-! ### Responses of the safety port (17 R627, R629) -/

section
variable {s : State} {t : Nat} {r : SspiReq} {g : Glade}

theorem ofBytesLE_toBytesLE {n x : Nat} (fits : x < 256 ^ n) : ofBytesLE (toBytesLE n x) = x := by
  induction n generalizing x with
  | zero => simp only [Nat.pow_zero] at fits; exact (Nat.lt_one_iff.mp fits).symm
  | succ n ih =>
    rw [Nat.pow_succ] at fits
    rw [toBytesLE, ofBytesLE, ih (by omega), BitVec.toNat_ofNat]
    omega

/-- DATA stands in the fifth to eighth byte of a response. -/
theorem Glade.response_data {result : Nat} {seq : Byte} {addr : BitVec 16} {data : Word} :
    leAt (g.response result seq addr data) 4 4 = data.toNat := by
  have bytes : ((g.response result seq addr data).drop 4).take 4 = toBytesLE 4 data.toNat := rfl
  rw [leAt, bytes]
  exact ofBytesLE_toBytesLE data.isLt

/-- What an answered request leaves in the port, which Glade's samples keep: no request, its RESULT and its DATA. -/
theorem State.sspiAnswer_answers {result : Nat} {data : Word} (fits : result < 16) :
    (s.sspiAnswer result data r).gladeSettle.glade.sspi.request = none ∧
      fld ((s.sspiAnswer result data r).gladeSettle.glade.sspi.response.getD 0 0) 0 4 = result ∧
      leAt (s.sspiAnswer result data r).gladeSettle.glade.sspi.response 4 4 = data.toNat ∧
      (s.sspiAnswer result data r).gladeSettle.glade.sspi.fn = s.glade.sspi.fn := by
  rw [State.gladeSettle_inputs.2.2.2.2.1]
  exact ⟨rfl, Glade.response_result fits, Glade.response_data, rfl⟩

theorem State.sspiRefuse_fn : (s.sspiRefuse r).gladeSettle.glade.sspi.fn = s.glade.sspi.fn := by
  rw [State.gladeSettle_inputs.2.2.2.2.1]
  rfl

/-- A command of the safety port that answers at once. -/
theorem onSspi_answers {f : SspiReq → State → State} {cmd : Byte} {u : State} {result : Nat} {data : Word}
    (on : s.gladeOn = true) (req : s.glade.sspi.request = some r) (is : r.cmd = cmd)
    (answer : f r (s.stamp t) = u.sspiAnswer result data r) (parts : Only [.glade] (s.stamp t) u) :
    onSspi t cmd s f = .next (u.sspiAnswer result data r).gladeSettle ∧
      Only [.now, .glade, .flt, .log] s (u.sspiAnswer result data r).gladeSettle :=
  ⟨(onSspi_on on req is).trans (congrArg (fun u : State => Host.Outcome.next u.gladeSettle) answer),
    State.settled_parts (.app State.sspiAnswer_parts rfl parts)⟩

end

/-! ### Demands of the safety port (17 R630) -/

section
variable {s : State} {g : Glade}

theorem Glade.dSlo_of_sspi (demand : g.sspiDemand = 1) : g.dSlo = true := by
  have fifth : (if g.sspiDemand = 1 then [g.sspiCause] else []) = [g.sspiCause] := if_pos demand
  rw [Glade.dSlo, Glade.sloCauses, fifth]
  simp

/-- Under the port's demand for Safe Light Off Glade settles in neither RUN nor FBEAM. -/
theorem State.gladeSettle_sspiSlo (on : s.gladeOn = true) (demand : s.glade.sspiDemand = 1) :
    s.gladeSettle.glade.st ≠ .run ∧ s.gladeSettle.glade.st ≠ .fbeam := by
  have keeps : ∀ u : State, u.gladeSample.glade.sspiDemand = u.glade.sspiDemand := fun u =>
    State.gladeSample_unchanged (f := Glade.sspiDemand) (fun _ _ => rfl) (fun _ _ _ _ _ _ _ _ _ => rfl) (fun _ => rfl)
  have one : ∀ u : State, u.glade.sspiDemand = 1 → u.gladeSample.glade.sspiDemand = 1 ∧
      u.gladeSample.glade.st ≠ .run ∧ u.gladeSample.glade.st ≠ .fbeam := by
    intro u hu
    refine ⟨(keeps u).trans hu, ?_⟩
    rw [State.gladeSample_glade, Glade.sample_eq]
    exact Glade.transit_slo (g := u.glade.sensed u.now) (Glade.dSlo_of_sspi hu)
  exact (State.gladeSettle_induction on
    (p := fun u => u.glade.sspiDemand = 1 ∧ u.glade.st ≠ .run ∧ u.glade.st ≠ .fbeam) (one s demand)
    (fun u hu => one u hu.1)).2

end

/-! ### CLEAR (17 R629) -/

section
variable {s : State} {g : Glade} {j now : Nat} {r0 r1 : Bool}

/-- A source whose condition does not hold keeps its bit over a sample. -/
theorem Glade.sample_raised_idle (idle : bit g.holding j = false) :
    bit (g.sample now r0 r1).holding j = false ∧ bit (g.sample now r0 r1).raised j = bit g.raised j := by
  have sensed : bit (Glade.readback { g with pairA := g.pairA.ripe now, pairB := g.pairB.ripe now }).holding j = false := by
    cases h : bit (Glade.readback { g with pairA := g.pairA.ripe now, pairB := g.pairB.ripe now }).holding j with
    | false => rfl
    | true =>
      have now' : bit g.holding j = true := Glade.holding_mono
        (g := { g with pairA := g.pairA.ripe now, pairB := g.pairB.ripe now }) (fun _ => Glade.readback_fewer) h
      exact now'.symm.trans idle
  rw [Glade.sample_eq]
  constructor
  · refine Eq.trans ?_ sensed
    exact congrArg (bit · j) (Glade.transit_unchanged (g := g.sensed now) (f := Glade.holding)
      (fun _ _ _ _ _ _ _ _ _ => rfl))
  · refine (congrArg (bit · j) Glade.transit_raised).trans ?_
    show bit (g.raised ||| _) j = _
    unfold bit at *
    rw [BitVec.getLsbD_or, sensed, Bool.or_false]

theorem State.gladeSettle_raised_idle (on : s.gladeOn = true) (idle : bit s.glade.holding j = false) :
    bit s.gladeSettle.glade.raised j = bit s.glade.raised j := by
  refine (State.gladeSettle_induction on
    (p := fun u => bit u.glade.holding j = false ∧ bit u.glade.raised j = bit s.glade.raised j) ?_ (fun u hu => ?_)).2
  · rw [State.gladeSample_glade]
    exact Glade.sample_raised_idle idle
  · obtain ⟨idle', raised⟩ := hu
    rw [State.gladeSample_glade]
    obtain ⟨a, b⟩ := Glade.sample_raised_idle (now := u.now) (r0 := u.rdy 0) (r1 := u.rdy 1) idle'
    exact ⟨a, b.trans raised⟩

theorem Glade.clearRaised_bit {v : Word} (wide : j < 12) (idle : bit g.holding j = false) :
    bit (g.clearRaised v).raised j = (bit g.raised j && !bit v j) := by
  have low : (BitVec.ofNat 12 v.toNat).getLsbD j = v.getLsbD j := by
    rw [BitVec.getLsbD_ofNat, decide_eq_true wide, Bool.true_and]
    rfl
  unfold bit at *
  rw [Glade.clearRaised, BitVec.getLsbD_and, BitVec.getLsbD_not, BitVec.getLsbD_and, BitVec.getLsbD_not, idle, low,
    decide_eq_true wide]
  simp

end

/-! ### Frames (17 R627, R628) -/

section
variable {s : State} {t began bits : Nat} {b : List Byte} {p : Sspi}

theorem Sspi.judge_good (wide : bits = 80) (long : b.length = 10) (crc : crc16 (b.take 8) = leAt b 8 2)
    (seq : ∀ x, p.lastSeq = some x → b.getD 1 0 = x + 1) (gap : ∀ e, p.lastEnd = some e → e + 500 * usec ≤ began) :
    p.judge began bits b = 0 := by
  have second : b[1]? = some (b.getD 1 0) := by
    rw [List.getD_eq_getElem?_getD, List.getElem?_eq_getElem (by omega)]
    rfl
  unfold Sspi.judge
  rw [if_neg (by omega), if_neg (by simp [crc]), if_neg ?_]
  · cases e : p.lastEnd with
    | none => rfl
    | some x => exact if_neg (by have := gap x e; omega)
  · rintro ⟨_, differs⟩
    cases e : p.lastSeq with
    | none => simp [e] at *
    | some x => exact differs (by rw [e, second, seq x e]; rfl)

theorem Sspi.judge_bad {r : Nat}
    (h : (r = 3 ∧ (bits ≠ 80 ∨ b.length ≠ 10)) ∨
      (r = 1 ∧ bits = 80 ∧ b.length = 10 ∧ crc16 (b.take 8) ≠ leAt b 8 2) ∨
      (r = 2 ∧ bits = 80 ∧ b.length = 10 ∧ crc16 (b.take 8) = leAt b 8 2 ∧
        ∃ x, p.lastSeq = some x ∧ b.getD 1 0 ≠ x + 1)) : p.judge began bits b = r := by
  unfold Sspi.judge
  rcases h with ⟨rfl, form⟩ | ⟨rfl, wide, long, crc⟩ | ⟨rfl, wide, long, crc, x, last, seq⟩
  · exact if_pos form
  · rw [if_neg (by omega), if_pos crc]
  · have second : b[1]? = some (b.getD 1 0) := by
      rw [List.getD_eq_getElem?_getD, List.getElem?_eq_getElem (by omega)]
      rfl
    rw [if_neg (by omega), if_neg (by simp [crc]), if_pos ?_]
    refine ⟨by rw [last]; rfl, ?_⟩
    rw [last, second]
    exact fun e => seq (Option.some.inj e).symm

/-- The port after a frame. -/
def State.sspiFramed (began bits : Nat) (b : List Byte) (s : State) : Sspi :=
  let j := s.glade.sspi.judge began bits b
  let p := if j = 0 then s.glade.sspi.accept b s.now (s.glade.gp 0x010 16 8) else s.glade.sspi.reject s.now
  if j = 0 ∧ sspiKnown (reqOf b).cmd then p
  else { p with request := none, response := s.glade.response (if j = 0 then 5 else j) (b.getD 1 0) (reqOf b).addr s.freeWord }

theorem execSspiFrame_on (on : s.gladeOn = true) : ∃ n, exec (.sspiFrame t began bits b) s = .next n ∧
    n.glade.sspi = (s.stamp t).sspiFramed began bits b ∧ n.out = .sspi s.sspiOut :: s.out ∧
    Only [.now, .free, .glade, .flt, .log, .out] s n := by
  have e : exec (.sspiFrame t began bits b) s = .next ((s.stamp t).sspiFrame began bits b).gladeSettle :=
    (onGladeSettled_on on : execSspiFrame t began bits b s = _)
  have settled := State.gladeSettle_parts (s := (s.stamp t).sspiFrame began bits b)
  have port := (State.gladeSettle_inputs (s := (s.stamp t).sspiFrame began bits b)).2.2.2.2.1
  exact ⟨_, e, port, settled .out rfl, .app settled rfl (.app Only.set_free rfl (.app State.report_parts rfl
    (.app Only.set_glade rfl (.app State.stamp_only rfl .refl))))⟩

/-- The port after an injection key. -/
theorem execInjkey_on {r : SspiReq} (on : s.gladeOn = true) (req : s.glade.sspi.request = some r) (is : r.cmd = 0x20) :
    ∃ n, exec (.injkey t) s = .next n ∧ n.glade.sspi = { s.glade.sspi.key s.injEn (fld r.data 0 16) with
      request := none, response := n.glade.sspi.response } ∧ Only [.now, .glade, .flt, .log] s n := by
  have e : exec (.injkey t) s = .next (State.sspiAnswer 0 (State.gladePage { s.stamp t with
      glade := { s.glade with sspi := s.glade.sspi.key s.injEn (fld r.data 0 16) } } 0x06C) r { s.stamp t with
      glade := { s.glade with sspi := s.glade.sspi.key s.injEn (fld r.data 0 16) } }).gladeSettle :=
    (onSspi_on on req is : execInjkey t s = _)
  refine ⟨_, e, ?_, State.settled_parts (.app State.sspiAnswer_parts rfl (.app Only.set_glade rfl .refl))⟩
  rw [State.gladeSettle_inputs.2.2.2.2.1]
  rfl

end

/-- Settles O29: the frame by the port after it, each command by its answer and by what Glade's samples make of it. -/
theorem safetyPort : Obligations.SafetyPort := by
  refine ⟨fun t began bits b s on => ⟨fun wide long crc seq gap known => ?_, fun r bad => ?_⟩, fun t r s on req =>
    ⟨fun is => ?_, fun is aligned inside => ?_, fun is addr code => ?_, fun is fn raised => ?_, fun is low => ?_,
      fun is key => ?_, fun is key first => ?_, fun run late => ?_⟩⟩
  · obtain ⟨n, e, port, out, parts⟩ := execSspiFrame_on (t := t) (began := began) (bits := bits) (b := b) on
    have judge : (s.stamp t).glade.sspi.judge began bits b = 0 := Sspi.judge_good wide long crc seq gap
    have accepted : n.glade.sspi = s.glade.sspi.accept b (max s.now t) (s.glade.gp 0x010 16 8) := by
      rw [port, State.sspiFramed, judge]
      exact if_pos ⟨rfl, known⟩
    refine ⟨n, e, ?_⟩
    rw [accepted]
    refine ⟨rfl, rfl, rfl, rfl, rfl, rfl, ?_, fun some => ?_, parts⟩
    · show (s.glade.gp 0x010 16 8 != 0) = _
      cases s.glade.gp 0x010 16 8 <;> rfl
    · rw [out, State.sspiOut, if_neg (by simpa using some)]
  · obtain ⟨n, e, port, -, parts⟩ := execSspiFrame_on (t := t) (began := began) (bits := bits) (b := b) on
    have judge : (s.stamp t).glade.sspi.judge began bits b = r := Sspi.judge_bad bad
    have nonzero : r ≠ 0 := by omega
    have rejected : n.glade.sspi = { s.glade.sspi.reject (max s.now t) with
        response := s.glade.response r (b.getD 1 0) (reqOf b).addr s.freeWord } := by
      rw [port, State.sspiFramed, judge]
      simp only [nonzero, false_and, if_false]
      rfl
    refine ⟨n, e, ?_⟩
    rw [rejected]
    exact ⟨rfl, Glade.response_result (by omega), rfl, rfl, rfl, rfl, parts⟩
  · obtain ⟨e, parts⟩ := onSspi_answers (t := t) (f := fun r s => s.sspiAnswer 0 s.glStat r) on req is rfl .refl
    obtain ⟨none, result, data, fn⟩ := State.sspiAnswer_answers (s := s.stamp t) (r := r) (result := 0)
      (data := (s.stamp t).glStat) (by decide)
    exact ⟨_, e, none, result, data, fn, parts⟩
  · obtain ⟨e, parts⟩ := onSspi_answers (t := t) (f := fun r s => if r.addr.toNat % 4 = 0 ∧ r.addr.toNat < 0x400 then
        s.sspiAnswer 0 (s.gladePage r.addr.toNat) r else s.sspiRefuse r) on req is (if_pos ⟨aligned, inside⟩) .refl
    obtain ⟨none, result, data, -⟩ := State.sspiAnswer_answers (s := s.stamp t) (r := r) (result := 0)
      (data := (s.stamp t).gladePage r.addr.toNat) (by decide)
    exact ⟨_, e, none, result, data, parts⟩
  · have e : exec (.sspiWrite t) s = .next (State.sspiAnswer 0 r.data r { s.stamp t with
        glade := { s.glade with sspi := { s.glade.sspi with fn := BitVec.ofNat 2 r.data.toNat } } }).gladeSettle :=
      (onSspi_on on req is : execSspiWrite t s = _).trans
        (congrArg (fun u : State => Host.Outcome.next u.gladeSettle) (if_pos ⟨addr, code⟩))
    obtain ⟨none, -, -, fn⟩ := State.sspiAnswer_answers (s := { s.stamp t with
      glade := { s.glade with sspi := { s.glade.sspi with fn := BitVec.ofNat 2 r.data.toNat } } }) (r := r) (result := 0)
      (data := r.data) (by decide)
    have demand : (BitVec.ofNat 2 r.data.toNat).toNat = fld r.data 0 2 := by simp [fld]
    refine ⟨_, e, none, (congrArg BitVec.toNat fn).trans demand, fun one calm => ?_,
      State.settled_parts (.app State.sspiAnswer_parts rfl (.app Only.set_glade rfl .refl))⟩
    refine State.gladeSettle_sspiSlo on ?_
    show (if s.glade.sspi.wdExp = true then _ else (BitVec.ofNat 2 r.data.toNat).toNat) = 1
    rw [calm, if_neg Bool.false_ne_true, demand, one]
  · have e : exec (.sspiWrite t) s = .next ((s.stamp t).sspiRefuse r).gladeSettle :=
      (onSspi_on on req is : execSspiWrite t s = _).trans
        (congrArg (fun u : State => Host.Outcome.next u.gladeSettle)
          ((if_neg fun h => fn h.1).trans (if_neg fun h => raised h.1)))
    obtain ⟨none, result⟩ := State.sspiRefuse_settled (s := s.stamp t) (r := r)
    exact ⟨_, e, none, result, State.sspiRefuse_fn,
      .app State.gladeSettle_parts rfl (.app State.sspiRefuse_parts rfl (.app State.stamp_only rfl .refl))⟩
  · have e : exec (.clear t) s = .next (State.sspiAnswer 0 (at32 0 (s.glade.clearRaised r.data).raised.toNat) r
        { s.stamp t with glade := s.glade.clearRaised r.data }).gladeSettle :=
      (onSspi_on on req is : execClear t s = _).trans
        (congrArg (fun u : State => Host.Outcome.next u.gladeSettle) (if_neg (not_not.mpr low)))
    obtain ⟨none, -, -, -⟩ := State.sspiAnswer_answers (s := { s.stamp t with glade := s.glade.clearRaised r.data }) (r := r)
      (result := 0) (data := at32 0 (s.glade.clearRaised r.data).raised.toNat) (by decide)
    exact ⟨_, e, none, fun j wide idle => (State.gladeSettle_raised_idle (s := State.sspiAnswer 0
        (at32 0 (s.glade.clearRaised r.data).raised.toNat) r { s.stamp t with glade := s.glade.clearRaised r.data }) on
        (j := j) idle).trans (Glade.clearRaised_bit (g := s.glade) wide idle),
      State.settled_parts (.app State.sspiAnswer_parts rfl (.app Only.set_glade rfl .refl))⟩
  · obtain ⟨n, e, port, parts⟩ := execInjkey_on (t := t) on req is
    refine ⟨n, e, ?_⟩
    rw [port, Sspi.key, if_pos key]
    exact ⟨rfl, rfl, rfl, parts⟩
  · obtain ⟨n, e, port, parts⟩ := execInjkey_on (t := t) on req is
    refine ⟨n, e, ?_⟩
    rw [port, Sspi.key, if_neg (by omega), key]
    cases en : s.injEn with
    | true => exact ⟨by simp [first], by simp [first], rfl, parts⟩
    | false => exact ⟨by simp, by simp, by simp, parts⟩
  · have e : exec (.sspiWatchdog t) s = .next ({ s.stamp t with
        glade := { s.glade with sspi := { s.glade.sspi with wdExp := true } } } : State).gladeSettle :=
      (onGladeSettled_on on : execSspiWatchdog t s = _).trans
        (congrArg (fun u : State => Host.Outcome.next u.gladeSettle) (State.when_true (s := s.stamp t) (by
          rw [Bool.and_eq_true_iff]
          exact ⟨run, decide_eq_true late⟩)))
    have port := (State.gladeSettle_inputs (s := { s.stamp t with
      glade := { s.glade with sspi := { s.glade.sspi with wdExp := true } } })).2.2.2.2.1
    refine ⟨_, e, ?_⟩
    rw [port]
    exact ⟨rfl, rfl, fun one => State.gladeSettle_sspiSlo on one,
      State.settled_parts (.app Only.set_glade rfl .refl)⟩

end Sys2Proof.Machine
end

section
/-! Arrivals, episodes and classes. -/

namespace Sys2Proof.Machine

open Sys2Proof

/-! ### What the collector counts, which episodes leave -/

/-- The collector but for the raises that wait, the episode and injection. -/
def Faults.counted (f : Faults) :
    BitVec 256 × List (Nat × BitVec 32) × BitVec 256 × List (Nat × Nat) × BitVec 9 × Bool :=
  (f.pend, f.count, f.lastForced, f.clsUp, f.rx, f.beat)

section
variable {s : State}

theorem State.logHw_counted {code src data : Nat} : (s.logHw code src data).flt.counted = s.flt.counted := by
  unfold State.logHw State.logBy
  split
  · rfl
  · rfl

theorem State.access_counted {req : Req} {page : Nat} {f : State → State} (h : (f s).flt.counted = s.flt.counted) :
    (s.access req page f).flt.counted = s.flt.counted := by
  unfold State.access
  split
  · rfl
  · split
    · exact h
    · rfl

theorem State.writeForce_counted {req : Req} {page : Nat} {v : Word} :
    (s.writeForce req page v).flt.counted = s.flt.counted := by
  unfold State.writeForce
  split <;> rfl

theorem State.writeChkinv_counted {req : Req} {v : Word} : (s.writeChkinv req v).flt.counted = s.flt.counted := by
  unfold State.writeChkinv
  split
  · split <;> rfl
  · rfl

theorem State.forcesFirst_counted : s.forcesFirst.flt.counted = s.flt.counted := by
  refine State.takeFirst_induction (P := fun u => u.flt.counted = s.flt.counted) (fun _ _ h => h) (fun k f found v hv => ?_) rfl
  split at found
  · cases found
    refine Eq.trans ?_ hv
    unfold State.forcePage State.when
    split
    · exact State.access_counted State.writeForce_counted
    · rfl
  · cases found
    exact (State.access_counted State.writeChkinv_counted).trans hv
  · cases found

theorem State.lockInj_counted : s.lockInj.flt.counted = s.flt.counted := by
  unfold State.lockInj
  split <;> rfl

theorem State.lockOnC4_counted : s.lockOnC4.flt.counted = s.flt.counted :=
  State.lockInj_counted.trans State.forcesFirst_counted

theorem State.when_counted {b : Bool} {f : State → State} (h : (f s).flt.counted = s.flt.counted) :
    (s.when b f).flt.counted = s.flt.counted := by
  unfold State.when
  split
  · exact h
  · rfl

theorem State.episode_counted {l : List Arrival} : (s.episode l).flt.counted = s.flt.counted := by
  unfold State.episode
  split
  · rfl
  · dsimp only
    split
    · exact (State.when_counted State.lockOnC4_counted).trans State.logHw_counted
    · split
      · exact (State.when_counted State.lockOnC4_counted).trans State.logHw_counted
      · rfl

theorem State.collectorParity_counted : s.collectorParity.flt.counted = s.flt.counted := by
  unfold State.collectorParity State.useInj
  split
  · rfl
  · rfl

end

/-! ### One arrival (16 R561, R565, R566) -/

section
variable {s : State} {x : Fin 171} {c t : Nat} {a : Arrival}

/-- The arrival of a source that a raise brought, of a class. -/
def Arrival.real (x : Fin 171) (c : Nat) : Arrival := { src := x.val, cls := c, forced := false }

@[simp] theorem Arrival.real_cls : (Arrival.real x c).cls = c := rfl

@[simp] theorem Arrival.real_any : List.any [Arrival.real x c] (fun a => a.cls == 0) = (c == 0) := Bool.or_false _

theorem Arrival.real_joins :
    [Arrival.real x c].filter (fun a => decide (0 < a.cls)) = if 0 < c then [.real x c] else [] := by
  by_cases positive : 0 < c
  · simp [positive]
  · simp [positive]

/-- A block with another episode record. -/
def State.withEp (e : Episode) (s : State) : State := { s with flt := { s.flt with ep := e } }

theorem State.withEp_parts {e : Episode} : Only [.flt] s (s.withEp e) := .app Only.set_flt rfl .refl

/-- The block that has counted an arrival of a waiting raise. -/
def State.countArrival (x : Fin 171) (c : Nat) (s : State) : State :=
  { s with
    flt := Faults.count1 { s.flt with raised := dropFirst x s.flt.raised, forcedQ := dropFirst x s.flt.forcedQ }
      (.real x c) }.report
    (noteIf (c == 0) [.irq 0x48 3] ++ [(Arrival.real x c).pending])

theorem State.arrive_single (raised : x ∈ s.flt.raised) (real : x ∉ s.flt.forcedQ)
    (judged : (s.judgeArrival { src := x.val, cls := s.flt.cls x, forced := false }).cls = c) :
    s.arrive [x] = ((s.countArrival x c).episode
      (if 0 < c then [.real x c] else [])).collectorParity := by
  have here : (s.flt.take [x]).2 = [{ src := x.val, cls := s.flt.cls x, forced := false }] := by
    simp [Faults.take, real, raised]
  have one : (s.flt.take [x]).2.map s.judgeArrival = [.real x c] := by
    rw [here, List.map_singleton, ← judged]
    rfl
  rw [State.arrive]
  dsimp only
  rw [one, if_neg (by simp)]
  rw [Arrival.real_joins]
  simp [State.countArrival, Faults.take]

theorem State.countArrival_regs : RegsOnly [rawOf 0x48] s (s.countArrival x c) ∧
    (c ≠ 0 → (s.countArrival x c).regs = s.regs) ∧ Only [.now, .regs, .flt] s (s.countArrival x c) ∧
    (s.Canonical → c = 0 → rget (s.countArrival x c).regs (rawOf 0x48) = rget s.regs (rawOf 0x48) ||| 8) := by
  refine ⟨State.report_regsOnly_of ?_ rfl, fun some => ?_, .app State.report_parts ?_ (.app Only.set_flt rfl .refl),
    fun canon none => State.report_reads canon.regs rfl ?_⟩
  · cases h : (c == 0) with
    | false => exact List.nil_subset _
    | true => exact List.Subset.refl _
  · have off : (c == 0) = false := by simpa using some
    rw [State.countArrival, off]
    rfl
  · cases h : (c == 0) <;> rfl
  · rw [none]
    rfl

/-- What an arrival counts (16 R561, R581). -/
theorem State.countArrival_counts (canon : s.Canonical) :
    bit (s.countArrival x c).flt.pend x = true ∧
      (s.countArrival x c).flt.countOf x = satAdd (s.flt.countOf x) 1 ∧
      (∀ y, y ≠ x.val → (s.countArrival x c).flt.countOf y = s.flt.countOf y) ∧
      bit (s.countArrival x c).flt.lastForced x = false ∧ (s.countArrival x c).flt.clsUp = s.flt.clsUp ∧
      (s.countArrival x c).flt.rx = s.flt.rx ∧ (s.countArrival x c).flt.beat = s.flt.beat := by
  have wide : x.val < 256 := by omega
  refine ⟨?_, smGet_smSet_self canon.count, fun y hy => smGet_smSet_ne hy, bit_putBit_self wide, rfl, rfl, rfl⟩
  exact (bit_setBit wide).trans (by simp)

/-- A single arrival of a class below C4 opens an episode (16 R566, R569). -/
theorem State.episode_opens (wf : smWf regReset s.regs = true) (on : s.coreOn = true) (closed : s.flt.ep.isOpen = false)
    (low : c < 4) : ∃ n, s.episode [.real x c] = n ∧
      n.flt.ep = s.flt.ep.begin [.real x c] s.now s.usecs s.frame16 ∧ n.flt.inj = s.flt.inj ∧
      n.log.wr = s.log.wr + 1 ∧ rget n.regs (rawOf 0x48) = rget s.regs (rawOf 0x48) ||| 1 ∧
      RegsOnly [rawOf 0x48] s n ∧ Only [.now, .regs, .flt, .log] s n := by
  generalize begun : s.flt.ep.begin [.real x c] s.now s.usecs s.frame16 = e
  have cls : e.cls = c := begun ▸ Nat.zero_max c
  have below : (e.cls == 4) = false := by
    rw [cls]
    simpa using (by omega : c ≠ 4)
  have opens : s.episode [.real x c] =
      ((s.withEp e).report [.irq 0x48 0]).logHw 1 e.first (e.cls + e.seq.toNat * 2 ^ 32) := by
    rw [State.episode, if_neg (by simp), if_pos (by simpa using closed), begun]
    exact State.when_false below
  have parts := State.logHw_parts (s := (s.withEp e).report [.irq 0x48 0]) (code := 1) (src := e.first)
    (data := e.cls + e.seq.toNat * 2 ^ 32)
  obtain ⟨l, flt⟩ := State.logHw_raises (s := (s.withEp e).report [.irq 0x48 0]) (code := 1) (src := e.first)
    (data := e.cls + e.seq.toNat * 2 ^ 32)
  refine ⟨_, opens, congrArg Faults.ep flt, (congrArg Faults.inj flt :), State.logHw_wr on, ?_, ?_,
    .app parts rfl (.app State.report_parts rfl (.app State.withEp_parts rfl .refl))⟩
  · rw [parts .regs rfl]
    exact State.report_reads wf rfl rfl
  · exact .app (.only parts rfl) (fun _ h => h) (State.report_regsOnly_of (fun _ h => h) rfl)

/-- A single arrival of a class below C4 joins the open episode (16 R566, R567). -/
theorem State.episode_joins (isOpen : s.flt.ep.isOpen = true) (low : c < 4) : ∃ n, s.episode [.real x c] = n ∧
    n.flt.ep = s.flt.ep.join [.real x c] s.now ∧ n.flt.inj = s.flt.inj ∧ Only [.now, .regs, .flt, .log] s n := by
  generalize joined : s.flt.ep.join [.real x c] s.now = e
  have cls : e.cls = max s.flt.ep.cls c := joined ▸ congrArg (max _) (Nat.zero_max c)
  refine ⟨_, rfl, ?_⟩
  rw [State.episode, if_neg (by simp), if_neg (by simpa using isOpen), joined]
  dsimp only
  by_cases escalates : s.flt.ep.cls < e.cls
  · have below : (e.cls == 4) = false := by
      rw [cls] at escalates ⊢
      simpa using (by omega : max s.flt.ep.cls c ≠ 4)
    rw [if_pos escalates, State.when_false below]
    obtain ⟨l, flt⟩ := State.logHw_raises (s := (s.withEp e).report [.irq 0x48 1]) (code := 2)
      (src := lowSrc ([Arrival.real x c].filter (fun a => a.cls == e.cls))) (data := e.cls)
    exact ⟨congrArg Faults.ep flt, (congrArg Faults.inj flt :), .app State.logHw_parts rfl
      (.app State.report_parts rfl (.app State.withEp_parts rfl .refl))⟩
  · rw [if_neg escalates]
    exact ⟨rfl, rfl, .app State.withEp_parts rfl .refl⟩

/-- The record of an episode that a single arrival opens. -/
theorem Episode.begin_real {e : Episode} {now us : Nat} {frame : BitVec 16} :
    (e.begin [.real x c] now us frame).cls = c ∧ (e.begin [.real x c] now us frame).first = x.val ∧
      (e.begin [.real x c] now us frame).last = x.val ∧ (e.begin [.real x c] now us frame).simul = false ∧
      (∀ y, y < 256 → bit (e.begin [.real x c] now us frame).mem y = decide (y = x.val)) := by
  have small : x.val < 171 := x.isLt
  have low : lowSrc [.real x c] = x.val := Nat.min_eq_right (by show x.val ≤ 255; omega)
  refine ⟨Nat.zero_max c, low, Nat.zero_max _, ?_, fun y _ => ?_⟩
  · show (List.any [Arrival.real x c] fun a => a.src != lowSrc [.real x c]) = false
    rw [low]
    simp [Arrival.real]
  · have wide : x.val < 256 := by omega
    refine (bit_setBit wide).trans ?_
    rw [show bit (0 : BitVec 256) y = false from BitVec.getLsbD_zero, Bool.false_or]

/-- The record of an episode that a single arrival joins. -/
theorem Episode.join_real {e : Episode} {now : Nat} :
    (e.join [.real x c] now).cls = max e.cls c ∧ (e.join [.real x c] now).last = x.val ∧
      (e.join [.real x c] now).escal =
        (if e.cls < c then BitVec.ofNat 8 (min 255 (e.escal.toNat + 1)) else e.escal) ∧
      bit (e.join [.real x c] now).mem x = true := by
  have small : x.val < 171 := x.isLt
  have wide : x.val < 256 := by omega
  have high : highCls [.real x c] = c := Nat.zero_max c
  refine ⟨congrArg (max _) high, Nat.zero_max _, ?_, (bit_setBit wide).trans (by simp)⟩
  rw [Episode.join, high]

theorem State.collectorParity_off (off : s.injMode 11 = 0) : s.collectorParity = s := if_pos off

/-- FAULT_ARRIVAL of one waiting source. -/
theorem execFaultArrival_single (on : s.coreOn = true) (raised : x ∈ s.flt.raised) (real : x ∉ s.flt.forcedQ)
    (fresh : s.Fresh (.faultArrival t [x]))
    (judged : c = ((s.stamp t).judgeArrival { src := x.val, cls := s.flt.cls x, forced := false }).cls) :
    exec (.faultArrival t [x]) s = .next (((s.stamp t).countArrival x c).episode
      (if 0 < c then [.real x c] else [])).collectorParity :=
  (onCore_on on : execFaultArrival t [x] s = _).trans (congrArg _ ((State.once_fresh fresh).trans
    (State.arrive_single (s := s.stamp t) raised real judged.symm)))

end

/-! ### The close of an episode and classes (16 R562, R568) -/

section
variable {s : State} {t : Nat}

/-- The close of an episode (16 R568). -/
theorem State.closeEpisode_does (canon : s.Canonical) :
    s.closeEpisode.flt.ep = s.flt.ep.close s.usecs ∧ s.closeEpisode.flt.pend = s.flt.pend ∧
      rget s.closeEpisode.regs (rawOf 0x48) = rget s.regs (rawOf 0x48) ||| 4 ∧ RegsOnly [rawOf 0x48] s s.closeEpisode := by
  have parts := State.logHw_parts (s := (s.withEp (s.flt.ep.close s.usecs)).report [.irq 0x48 2])
    (code := 3) (src := (s.flt.ep.close s.usecs).prevFirst.toNat) (data := (s.flt.ep.close s.usecs).prevDur.toNat)
  obtain ⟨l, flt⟩ := State.logHw_raises
    (s := (s.withEp (s.flt.ep.close s.usecs)).report [.irq 0x48 2]) (code := 3)
    (src := (s.flt.ep.close s.usecs).prevFirst.toNat) (data := (s.flt.ep.close s.usecs).prevDur.toNat)
  refine ⟨congrArg Faults.ep flt, (congrArg Faults.pend flt :), ?_, ?_⟩
  · exact (congrArg (rget · _) (parts .regs rfl)).trans (State.report_reads canon.regs rfl rfl)
  · exact .app (.only parts rfl) (fun _ h => h) (State.report_regsOnly_of (fun _ h => h) rfl)

theorem Faults.raiseCls_does {f : Faults} {n v : Nat} (wf : smWf baseClass f.clsUp = true) (known : n < 171) :
    (f.raiseCls n v).cls n = max (f.cls n) (min 4 v) ∧ (∀ y, y ≠ n → (f.raiseCls n v).cls y = f.cls y) ∧
      f.raiseCls n v = { f with clsUp := (f.raiseCls n v).clsUp } := by
  unfold Faults.raiseCls
  split
  next up =>
    refine ⟨(smGet_smSet_self wf).trans (by omega), fun y hy => smGet_smSet_ne hy, rfl⟩
  next keep => exact ⟨by omega, fun _ _ => rfl, rfl⟩

end

/-- Settles O30: an arrival by what it counts and by the episode that it opens or joins; a close and a class by their
functions. -/
theorem episodesOfFaults : Obligations.EpisodesOfFaults := by
  refine ⟨fun t x s on canon raised real calm fresh c judged => ⟨?_, fun zero => ?_, fun pos low closed => ?_⟩,
    fun t s on canon => ⟨fun x c raised real calm isOpen fresh judged pos low => ?_, fun m first => ⟨fun isOpen low idle quiet => ?_,
      fun stays => ?_⟩, fun req v write known => ?_⟩⟩
  · have counts := State.countArrival_counts (s := s.stamp t) (x := x) (c := c) (.only State.stamp_only rfl canon)
    have same : (((s.stamp t).countArrival x c).episode (if 0 < c then [.real x c] else [])).collectorParity.flt.counted =
        ((s.stamp t).countArrival x c).flt.counted := State.collectorParity_counted.trans State.episode_counted
    have e := execFaultArrival_single on raised real fresh judged
    generalize (((s.stamp t).countArrival x c).episode (if 0 < c then [.real x c] else [])).collectorParity = n at *
    simp only [Faults.counted, Prod.mk.injEq] at same
    obtain ⟨pend, count, forced, cls, rx, beat⟩ := same
    refine ⟨n, e, ?_⟩
    have countOf : ∀ y, n.flt.countOf y = ((s.stamp t).countArrival x c).flt.countOf y := fun y =>
      congrArg (smGet (fun _ => (0 : Word)) · y) count
    simp only [pend, countOf, forced, cls, rx, beat]
    exact counts
  · subst zero
    obtain ⟨words, -, parts, reads⟩ := State.countArrival_regs (s := s.stamp t) (x := x) (c := 0)
    refine ⟨_, (execFaultArrival_single on raised real fresh judged).trans
      (congrArg _ (State.collectorParity_off (s := (s.stamp t).countArrival x 0) calm)), rfl, List.append_nil _,
      reads (.only State.stamp_only rfl canon) rfl, words, .app parts rfl (.app State.stamp_only rfl .refl)⟩
  · have e := execFaultArrival_single on raised real fresh judged
    rw [if_pos pos] at e
    obtain ⟨-, regs, counted, -⟩ := State.countArrival_regs (s := s.stamp t) (x := x) (c := c)
    have regs := regs (by omega)
    obtain ⟨n, opens, ep, inj, log, reads, words, parts⟩ := State.episode_opens (s := (s.stamp t).countArrival x c) (x := x)
      (by rw [regs]; exact canon.regs) on closed low
    have off : n.injMode 11 = 0 := by
      rw [State.injMode, inj]
      exact calm
    rw [opens, State.collectorParity_off off] at e
    rw [regs] at reads
    refine ⟨n, e, ?_⟩
    obtain ⟨cls, first', last, simul, mem⟩ := Episode.begin_real (x := x) (c := c) (e := s.flt.ep)
      (now := ((s.stamp t).countArrival x c).now) (us := ((s.stamp t).countArrival x c).usecs)
      (frame := ((s.stamp t).countArrival x c).frame16)
    have words' : RegsOnly [rawOf 0x48] s n := fun a ha => (words a ha).trans (congrArg (rget · a) regs)
    refine ⟨?_, ?_, ?_, ?_, ?_, ?_, ?_, ?_, ?_, ?_, ?_, ?_, log, reads, words',
      .app parts rfl (.app counted rfl (.app State.stamp_only rfl .refl))⟩ <;> rw [ep]
    · rfl
    · exact cls
    · exact first'
    · exact last
    · exact simul
    · rfl
    · rfl
    · rfl
    · rfl
    · exact mem
    · rfl
    · rfl
  · have e := execFaultArrival_single on raised real fresh judged
    rw [if_pos pos] at e
    obtain ⟨-, -, counted, -⟩ := State.countArrival_regs (s := s.stamp t) (x := x) (c := c)
    obtain ⟨n, joins, ep, inj, parts⟩ := State.episode_joins (s := (s.stamp t).countArrival x c) (x := x) isOpen low
    have off : n.injMode 11 = 0 := by
      rw [State.injMode, inj]
      exact calm
    rw [joins, State.collectorParity_off off] at e
    obtain ⟨cls, last, escal, mem⟩ := Episode.join_real (x := x) (c := c) (e := s.flt.ep) (now := ((s.stamp t).countArrival x c).now)
    refine ⟨n, e, ?_⟩
    rw [ep]
    exact ⟨cls, rfl, last, rfl, rfl, rfl, escal, mem, .app parts rfl (.app counted rfl (.app State.stamp_only rfl .refl))⟩
  · have may : (m.flt.mayClose && m.quiet) = true := by
      simp [Faults.mayClose, isOpen, low, idle, quiet]
    have canon' : m.Canonical := first ▸ State.arrivalsFirst_canon (.only State.stamp_only rfl canon)
    obtain ⟨ep, pend, reads, words⟩ := State.closeEpisode_does canon'
    have e : exec (.episodeClose t) s = .next m.closeEpisode :=
      (onCore_on on : execEpisodeClose t s = _).trans (congrArg _ (by rw [← first]; exact State.when_true may))
    refine ⟨_, e, ?_⟩
    rw [Faults.epClass, ep]
    exact ⟨rfl, rfl, rfl, rfl, rfl, pend, rfl, reads, words, State.closeEpisode_parts⟩
  · have stays' : (m.flt.mayClose && m.quiet) = false := by
      rcases stays with closed | high | pending | loud
      · simp [Faults.mayClose, closed]
      · simp [Faults.mayClose, Nat.not_lt.mpr high]
      · rw [Faults.mayClose, beq_eq_false_iff_ne.mpr pending, Bool.and_false, Bool.false_and]
      · simp [loud]
    exact (onCore_on on : execEpisodeClose t s = _).trans (congrArg _ (by rw [← first]; exact State.when_false stays'))
  · obtain ⟨cls, rest, same⟩ := Faults.raiseCls_does (f := s.flt) (v := fld v 0 3) canon.cls known
    exact ⟨_, (onCore_on write.1 : execFcSrccls t req v s = _).trans (congrArg _ write.access), cls, rest, same,
      .app Only.set_flt rfl (.app Only.set_sample rfl (.app State.stamp_only rfl .refl))⟩

end Sys2Proof.Machine
end

section
/-! Fault injection. -/

namespace Sys2Proof.Machine

open Sys2Proof

/-! ### Keys and the lock of injection (16 R579, R580) -/

section
variable {s : State} {t : Nat} {v : Word} {by_ : Bool}

/-- INJERR set changes no more of the collector. -/
theorem State.injError_does : s.injError.flt = { s.flt with inj := { s.flt.inj with injErr := true } } ∧
    Only [.now, .flt] s s.injError :=
  ⟨rfl, .app State.hit_only rfl (.app Only.set_flt rfl .refl)⟩

/-- The time-out of the collector's injection, whose instant has come. -/
theorem execInjectionTimeout_due (on : s.coreOn = true) (due : s.flt.inj.usedAt + 1000 * msec ≤ max s.now t) :
    exec (.injectionTimeout t false) s = .next (s.stamp t).forcesFirst.lockInj :=
  ((if_neg Bool.false_ne_true).trans (onCore_on on) : execInjectionTimeout t false s = _).trans
    (congrArg _ (State.when_true (decide_eq_true due)))

/-- The time-out of the collector's injection before its instant. -/
theorem execInjectionTimeout_early (on : s.coreOn = true) (early : max s.now t < s.flt.inj.usedAt + 1000 * msec) :
    exec (.injectionTimeout t false) s = .next (s.stamp t) :=
  ((if_neg Bool.false_ne_true).trans (onCore_on on) : execInjectionTimeout t false s = _).trans
    (congrArg _ (State.when_false (decide_eq_false (Nat.not_le.mpr early))))

theorem State.mayInject_host (unlocked : s.flt.inj.unlocked = true) (own : s.flt.inj.by_ = false) :
    s.mayInject .host = true := by
  simp [State.mayInject, unlocked, own, injBy]

theorem State.mayInject_locked {req : Req} (locked : s.flt.inj.unlocked = false) : s.mayInject req = false := by
  simp [State.mayInject, locked]

/-- Injection locked while it is unlocked. -/
theorem State.lockInj_does (unlocked : s.flt.inj.unlocked = true) :
    s.lockInj.flt.inj = s.flt.inj.lock ∧ Src.FC_INJ ∈ s.lockInj.flt.raised ∧ RegsOnly [rawOf 0x48] s s.lockInj ∧
      Only [.now, .regs, .flt] s s.lockInj := by
  rw [State.lockInj, if_pos unlocked]
  exact ⟨rfl, List.mem_append_right _ (List.mem_singleton_self _), State.report_regsOnly_of (fun _ h => h) rfl,
    .app State.report_parts rfl (.app Only.set_flt rfl .refl)⟩

end

/-- Settles O31, command by command: each is one write of FC_INJ, FC_CHKINV or PG_FLT_FORCE, or the time-out's lock. -/
theorem faultInjection : Obligations.FaultInjection := by
  refine fun t s on canon => ⟨fun v write key => ?_, fun v t0 write key en locked first soon => ?_, fun v write one two => ?_,
    fun v unlocked write lock => ?_, fun m forced due => ⟨fun unlocked => ?_, fun locked => ?_⟩, fun early => ?_, fun glade => ?_,
    fun v write unlocked own low high mode count fresh => ?_, fun page v write used unlocked own fresh => ?_,
    fun page v req write used locked fresh => ?_⟩
  · have e : exec (.injectionKey t .host v) s = .next ((s.stamp t).firstKey (some (false, max s.now t))) :=
      (onCore_on on : execInjectionKey t .host v s = _).trans (congrArg _ (write.access.trans (if_pos key)))
    exact ⟨_, e, rfl, .app Only.set_flt rfl (.app State.stamp_only rfl .refl)⟩
  · have good : (s.stamp t).keyGood false = true := by
      have en' : (s.stamp t).injEn = true := en
      have first' : (s.stamp t).flt.inj.firstKey = some (false, t0) := first
      rw [State.keyGood, en', first']
      exact decide_eq_true soon
    have e : exec (.injectionKey t .host v) s = .next ((s.stamp t).unlockInj false) :=
      (onCore_on on : execInjectionKey t .host v s = _).trans (congrArg _ (write.access.trans
        ((if_neg (by omega)).trans ((if_pos ⟨key, good⟩).trans (if_neg (by
          rw [show (s.stamp t).flt.inj.unlocked = false from locked]; exact Bool.false_ne_true))))))
    exact ⟨_, e, rfl, List.mem_append_right _ (List.mem_singleton_self _), State.report_reads canon.regs rfl rfl,
      State.report_regsOnly_of (fun _ h => h) rfl,
      .app State.report_parts rfl (.app Only.set_flt rfl (.app State.stamp_only rfl .refl))⟩
  · have e : exec (.injectionKey t .host v) s = .next ((s.stamp t).firstKey none).injError :=
      (onCore_on on : execInjectionKey t .host v s = _).trans (congrArg _ (write.access.trans
        ((if_neg one).trans (if_neg fun h => two h.1))))
    obtain ⟨flt, parts⟩ := State.injError_does (s := (s.stamp t).firstKey none)
    exact ⟨_, e, flt, .app parts rfl (.app Only.set_flt rfl (.app State.stamp_only rfl .refl))⟩
  · have e : exec (.injectionLock t .host v) s = .next ((s.stamp t).firstKey none).lockInj :=
      (onCore_on on : execInjectionLock t .host v s = _).trans (congrArg _ (write.access.trans (if_pos lock)))
    obtain ⟨inj, raised, words, parts⟩ := State.lockInj_does (s := (s.stamp t).firstKey none) unlocked
    refine ⟨_, e, ?_⟩
    rw [inj]
    exact ⟨rfl, rfl, rfl, raised, words, .app parts rfl (.app Only.set_flt rfl (.app State.stamp_only rfl .refl))⟩
  · have e := execInjectionTimeout_due on due
    rw [← forced] at e
    obtain ⟨inj, raised, words, parts⟩ := State.lockInj_does unlocked
    refine ⟨_, e, ?_⟩
    rw [inj]
    exact ⟨rfl, rfl, rfl, raised, words, parts⟩
  · have e := execInjectionTimeout_due on due
    rw [← forced, State.lockInj, if_neg (by rw [locked]; exact Bool.false_ne_true)] at e
    exact e
  · exact execInjectionTimeout_early on early
  · exact ⟨_, ((if_pos rfl).trans (onGlade_on glade) : execInjectionTimeout t true s = _), rfl,
      .app Only.set_glade rfl (.app State.stamp_only rfl .refl)⟩
  · have armed : s.flt.inj.arm v = some { s.flt.inj with
        target := BitVec.ofNat 4 (fld v 0 4), mode := BitVec.ofNat 2 (fld v 4 2)
        remain := BitVec.ofNat 4 (fld v 8 4), addr := BitVec.ofNat 4 (fld v 12 4) } :=
      (if_neg (by omega)).trans (if_pos ⟨by omega, mode, count⟩)
    have e : exec (.fcChkinv t .host v) s = .next { s.stamp t with flt := { s.flt with inj := { s.flt.inj with
        target := BitVec.ofNat 4 (fld v 0 4), mode := BitVec.ofNat 2 (fld v 4 2), remain := BitVec.ofNat 4 (fld v 8 4)
        addr := BitVec.ofNat 4 (fld v 12 4), usedAt := max s.now t } } } := by
      refine (onCore_on on : execFcChkinv t .host v s = _).trans (congrArg _ ((State.once_fresh fresh).trans (write.access.trans ?_)))
      rw [State.writeChkinv, show (s.stamp t).flt.inj.arm v = _ from armed]
      exact if_pos (State.mayInject_host unlocked own)
    exact ⟨_, e, rfl, .app Only.set_flt rfl (.app State.stamp_only rfl .refl)⟩
  · have e : exec (.pgFltForce t .host page v) s = .next ((s.stamp t).writeForce .host page.toNat v) :=
      (onCore_on on : execPgFltForce t .host page v s = _).trans (congrArg _ ((State.once_fresh fresh).trans
        ((State.when_true (s := s.stamp t) used).trans write.access)))
    rw [State.writeForce, if_pos (State.mayInject_host (s := s.stamp t) unlocked own)] at e
    exact ⟨_, e, rfl, .app Only.set_flt rfl (.app State.stamp_only rfl .refl)⟩
  · have e : exec (.pgFltForce t req page v) s = .next ((s.stamp t).writeForce req page.toNat v) :=
      (onCore_on on : execPgFltForce t req page v s = _).trans (congrArg _ ((State.once_fresh fresh).trans
        ((State.when_true (s := s.stamp t) used).trans write.access)))
    rw [State.writeForce, if_neg (by rw [State.mayInject_locked (s := s.stamp t) locked]; exact Bool.false_ne_true)] at e
    obtain ⟨flt, parts⟩ := State.injError_does (s := s.stamp t)
    exact ⟨_, e, flt, .app parts rfl (.app State.stamp_only rfl .refl)⟩

end Sys2Proof.Machine
end

section
/-! Rows and streams: the parts they change. -/

namespace Sys2Proof.Machine

open Sys2Proof

/-! ### Notes that only send -/

section
variable {s : State} {l m : List Note}

/-- Every note sends something, and does no more. -/
def Sends (l : List Note) : Prop := ∀ x ∈ l, x.parts = [.out]

theorem State.report_sends (h : Sends l) : Only [.out] s (s.report l) := by
  refine State.report_parts.mono (List.all_eq_true.mpr (fun p hp => ?_))
  obtain ⟨x, hx, hp⟩ := List.mem_flatMap.mp hp
  rw [h x hx] at hp
  rw [List.mem_singleton.mp hp]
  rfl

theorem Sends.map {α : Type} {f : α → Output} {l : List α} : Sends (l.map (fun x => .send (f x))) := by
  intro x hx
  obtain ⟨y, -, rfl⟩ := List.mem_map.mp hx
  rfl

theorem Sends.wireNotes {l : List (Fin 8 × BitVec 66)} : Sends (wireNotes l) := by
  intro x hx
  obtain ⟨n, -, hx⟩ := List.mem_flatMap.mp hx
  unfold noteIf at hx
  dsimp only at hx
  split at hx
  · rw [List.mem_singleton.mp hx]
    rfl
  · exact absurd hx List.not_mem_nil

end

/-! ### The lanes' streams change the streams and what leaves the block -/

section
variable {s : State} {k : Fin 4} {least : Nat}

theorem State.advance_parts : Only [.stream, .out] s (s.advance k least) := by
  unfold State.advance
  exact .ite (.app (State.report_sends .wireNotes) rfl (.app Only.set_stream rfl .refl)) .refl

theorem State.setSkeinLine_parts {x : SkeinLine} : Only [.stream] s (s.setSkeinLine k x) := .app Only.set_stream rfl .refl

theorem State.setLine_parts {n : Fin 8} {x : LineTx} : Only [.stream] s (s.setLine n x) := .app Only.set_stream rfl .refl

theorem State.markStream_parts {mcnt : BitVec 24} : Only [.stream, .out] s (s.markStream k mcnt) := by
  unfold State.markStream
  exact .ite (.app (State.report_sends .wireNotes) rfl (.app Only.set_stream rfl (.app State.advance_parts rfl .refl))) .refl

theorem State.queueRow_parts {r : RowSlot} : Only [.stream, .out] s (s.queueRow k r) := by
  unfold State.queueRow
  exact .app State.setSkeinLine_parts rfl (.app State.advance_parts rfl .refl)

theorem State.queuePackets_parts {l : List Block66} : Only [.stream, .out] s (s.queuePackets k l) := by
  unfold State.queuePackets
  exact .app State.setSkeinLine_parts rfl (.app State.advance_parts rfl .refl)

theorem State.stopPackets_parts : Only [.stream, .out] s (s.stopPackets k) := by
  unfold State.stopPackets
  exact .app State.setSkeinLine_parts rfl (.app State.advance_parts rfl .refl)

theorem State.bufferedOnly_parts : Only [.stream, .out] s (s.bufferedOnly k) := by
  unfold State.bufferedOnly
  exact .app State.setSkeinLine_parts rfl (.app State.advance_parts rfl .refl)

theorem State.endStream_parts : Only [.stream, .out] s (s.endStream k) := by
  unfold State.endStream
  exact .app State.setSkeinLine_parts rfl (.app State.advance_parts rfl .refl)

theorem State.putLine_parts {n : Fin 8} {no : Nat} {plan : List (LinePart × Nat)} {fill : LineFill} :
    Only [.stream, .out] s (s.putLine n k no plan fill) := by
  unfold State.putLine
  exact .app State.setLine_parts rfl (.ite (.app State.advance_parts rfl (.app State.advance_parts rfl .refl))
    (.app State.setSkeinLine_parts rfl (.app State.advance_parts rfl (.app State.advance_parts rfl .refl))))

end

/-! ### Rows (04 R128): an armed check of the rows is used, and no source is raised -/

section
variable {s u n : State} {k : Fin 4} {m : BitVec 8} {r : Row}

/-- The collector but for the count of the armed inversion. -/
def Used (s n : State) : Prop := ∃ i, n.flt = { s.flt with inj := i }

theorem Used.refl : Used s s := ⟨s.flt.inj, rfl⟩

theorem Used.of_flt (h : n.flt = s.flt) : Used s n := ⟨s.flt.inj, h⟩

theorem Used.trans (h : Used s u) (k : Used u n) : Used s n := by
  obtain ⟨i, hi⟩ := h
  obtain ⟨j, hj⟩ := k
  exact ⟨j, by rw [hj, hi]⟩

theorem Used.raised (h : Used s n) : n.flt.raised = s.flt.raised := by
  obtain ⟨i, hi⟩ := h
  rw [hi]

theorem State.useInj_parts {target : Nat} : Only [.flt] s (s.useInj target) := by
  unfold State.useInj
  exact .ite .refl (.app Only.set_flt rfl .refl)

theorem State.useInj_used {target : Nat} : Used s (s.useInj target) := by
  unfold State.useInj
  split
  · exact .refl
  · exact ⟨_, rfl⟩

theorem State.sendRow_parts : Only [.stream, .out, .flt] s (s.sendRow k m r) := by
  unfold State.sendRow
  exact .ite .refl (.app (State.report_sends .map) rfl (.app State.useInj_parts rfl (.app State.queueRow_parts rfl .refl)))

theorem State.sendRow_used : Used s (s.sendRow k m r) := by
  unfold State.sendRow
  split
  · exact .refl
  · exact (Used.of_flt (State.queueRow_parts .flt rfl)).trans
      (State.useInj_used.trans (.of_flt (State.report_sends .map .flt rfl)))

/-- A row that a disarmed checker lets pass. -/
theorem State.injMode_off {target : Nat} (off : s.flt.inj.remain = 0) : s.injMode target = 0 := if_neg (fun h => h.1 off)

theorem State.sendRow_calm (off : s.flt.inj.remain = 0) : Only [.stream, .out] s (s.sendRow k m r) := by
  unfold State.sendRow
  have queued : (s.queueRow k { mask := m, copies := rowCopies m r (s.injMode 8), next := r.nextMask }).flt = s.flt :=
    State.queueRow_parts .flt rfl
  have calm : State.useInj 8 (s.queueRow k { mask := m, copies := rowCopies m r (s.injMode 8), next := r.nextMask }) =
      s.queueRow k { mask := m, copies := rowCopies m r (s.injMode 8), next := r.nextMask } :=
    if_pos (State.injMode_off (by rw [queued]; exact off))
  dsimp only
  rw [calm]
  exact .ite .refl (.app (State.report_sends .map) rfl (.app State.queueRow_parts rfl .refl))

theorem State.sendRows_parts {l : List (Fin 4 × Row)} : Only [.stream, .out, .flt] s (s.sendRows l) := by
  unfold State.sendRows
  exact List.foldlRecOn _ _ .refl (fun _ hv _ _ => .app State.sendRow_parts rfl hv)

end
end Sys2Proof.Machine
end

section
/-! Polls and missing polls. -/

namespace Sys2Proof.Machine

open Sys2Proof

/-! ### A poll (04 R161, R163) -/

section
variable {s : State} {b : Fin 2} {a : Fin 16} {e : ArrEntry} {t : Nat}

/-- The poll of an array as it goes out. -/
def State.pollOf (s : State) (b : Fin 2) (a : Fin 16) (e : ArrEntry) : Poll :=
  { addr := a, kind := BitVec.ofNat 2 (s.pollKind a), pseq := (s.ret[b]).pseq, aen := bit s.glade.aenRb e.aen, sent := s.now }

/-- The poll's row sent, and the poll outstanding. -/
def State.pollSent (s : State) (b : Fin 2) (a : Fin 16) (e : ArrEntry) : State :=
  (s.sendRow (skeinNo e.skein) (s.skein[skeinNo e.skein]).lmask (.poll a.val (s.pollKind a) (s.arr[a]).wack (s.ret[b]).pseq
    (s.arr[a]).fack.toNat (if s.pollKind a = 2 then fld (rget s.regs Reg.AL_AREG) 0 16 else 0))).setRet b
    { s.ret[b] with last := a, pseq := (s.ret[b]).pseq + 1, poll := some (s.pollOf b a e) }

theorem State.poll_eq (entry : s.linkEntry a = some e) : s.poll b a =
    if (s.pollSent b a e).reads a then
      { s.pollSent b a e with areq := { (s.pollSent b a e).areq with polls := (s.pollSent b a e).areq.polls + 1 } }
    else s.pollSent b a e := by
  unfold State.poll
  rw [entry]
  rfl

theorem State.pollSent_does : (s.pollSent b a e).ret =
      s.ret.set b { s.ret[b] with last := a, pseq := (s.ret[b]).pseq + 1, poll := some (s.pollOf b a e) } ∧
    Only [.flt, .out, .ret, .stream] s (s.pollSent b a e) := by
  refine ⟨?_, .app State.setRet_only rfl (.app State.sendRow_parts rfl .refl)⟩
  rw [State.pollSent, State.setRet_ret, State.sendRow_parts .ret rfl]

theorem State.poll_does (entry : s.linkEntry a = some e) :
    (s.poll b a).ret = s.ret.set b { s.ret[b] with last := a, pseq := (s.ret[b]).pseq + 1, poll := some (s.pollOf b a e) } ∧
      (s.poll b a).arr = s.arr ∧
      (s.poll b a).areq.polls = (if s.reads a then s.areq.polls + 1 else s.areq.polls) ∧
      Only [.flt, .out, .ret, .areq, .stream] s (s.poll b a) := by
  obtain ⟨ret, parts⟩ := State.pollSent_does (s := s) (b := b) (a := a) (e := e)
  have areq : (s.pollSent b a e).areq = s.areq := parts .areq rfl
  have reads : (s.pollSent b a e).reads a = s.reads a := by rw [State.reads, areq, State.reads]
  rw [State.poll_eq entry, reads]
  split
  · exact ⟨ret, parts .arr rfl, congrArg (·.polls + 1) areq, .app Only.set_areq rfl (.app parts rfl .refl)⟩
  · exact ⟨ret, parts .arr rfl, congrArg (·.polls) areq, .app parts rfl .refl⟩

end

/-! ### Missing polls (04 R167, R171) -/

section
variable {s : State} {b : Fin 2} {a : Fin 16} {p : Poll} {t : Nat}

/-- The block after a missing poll of an array whose skein is in use. -/
def State.pollMissed (b : Fin 2) (a : Fin 16) (s : State) : State :=
  ((s.setRet b { s.ret[b] with poll := none }).setArr a
    { s.arr[a] with misses := min 3 ((s.arr[a]).misses + 1), fack := 0, wack := false }).report [.tally Reg.AL_MISS 1]

theorem State.pollMissing_idle (poll : (s.ret[b]).poll = some p) (idle : s.arrayIdle p.addr = true) :
    s.pollMissing b = (s.setRet b { s.ret[b] with poll := none }).setArr p.addr { s.arr[p.addr] with fack := 0, wack := false } := by
  unfold State.pollMissing
  rw [poll]
  exact if_pos idle

theorem State.regTimeout_free (free : s.reads a = false) : s.regTimeout a = s :=
  State.when_false (by rw [free]; rfl)

/-- The third missing poll in a row, at an array. -/
theorem State.arrayLost_does :
    (s.arrayLost a).arr = s.arr.set a { s.arr[a] with
        ready := false, based := false, inLost := (s.arr[a]).inLost || s.arrayDriven a
        inNorsp := (s.arr[a]).inNorsp || !s.arrayDriven a } ∧
      (s.arrayDriven a = true → (s.arr[a]).inLost = false → Src.AL_LOST ∈ (s.arrayLost a).flt.raised) ∧
      (s.arrayDriven a = false → (s.arr[a]).inNorsp = false → Src.AL_NORSP ∈ (s.arrayLost a).flt.raised) ∧
      Only [.arr, .flt, .tile] s (s.arrayLost a) := by
  have raises : ∀ {l : List Note} {u : State}, (u.report l).flt.raised = u.flt.raised ++ l.filterMap Note.src := fun {_ _} => rfl
  refine ⟨rfl, fun driven calm => ?_, fun dark calm => ?_, ?_⟩
  · refine List.mem_append_left _ (List.mem_append_right _ ?_)
    rw [driven, calm]
    exact List.mem_cons_self
  · refine List.mem_append_left _ (List.mem_append_right _ ?_)
    rw [dark, calm]
    exact List.mem_cons_self
  · exact .app State.report_parts (noteIf_parts rfl) (.app Only.set_tile rfl (.app State.report_parts
      (parts_append (noteIf_parts rfl) (noteIf_parts rfl)) (.app State.setArr_only rfl .refl)))

/-- A missing poll of an array of a skein in use, with no register request outstanding. -/
theorem State.pollMissing_counts (canon : s.Canonical) (poll : (s.ret[b]).poll = some p) (free : s.areq.busy = false)
    (used : s.arrayIdle p.addr = false) :
    ∃ n, s.pollMissing b = n ∧ (n.ret[b]).poll = none ∧ (n.arr[p.addr]).misses = min 3 ((s.arr[p.addr]).misses + 1) ∧
      (n.arr[p.addr]).fack = 0 ∧ (n.arr[p.addr]).wack = false ∧ (∀ a : Fin 16, a ≠ p.addr → n.arr[a] = s.arr[a]) ∧
      (n.arr[p.addr]).w0 = (s.arr[p.addr]).w0 ∧
      lget n.live Reg.AL_MISS = satAdd (lget s.live Reg.AL_MISS) 1 ∧ LiveOnly [Reg.AL_MISS] s n ∧
      ((s.arr[p.addr]).misses < 2 → (n.arr[p.addr]).ready = (s.arr[p.addr]).ready ∧ Raised [] s n ∧
        Only [.ret, .arr, .live] s n) ∧
      (2 ≤ (s.arr[p.addr]).misses → (n.arr[p.addr]).ready = false ∧ (n.arr[p.addr]).based = false ∧
        (s.arrayDriven p.addr = true → (s.arr[p.addr]).inLost = false → Src.AL_LOST ∈ n.flt.raised) ∧
        (s.arrayDriven p.addr = false → (s.arr[p.addr]).inNorsp = false → Src.AL_NORSP ∈ n.flt.raised)) ∧
      Only [.ret, .arr, .live, .flt, .tile] s n := by
  have e : s.pollMissing b = ((s.pollMissed b p.addr).when (decide (min 3 ((s.arr[p.addr]).misses + 1) = 3))
      (State.arrayLost p.addr)).regTimeout p.addr := by
    unfold State.pollMissing
    rw [poll]
    exact if_neg (fun idle => Bool.false_ne_true (used.symm.trans idle))
  have live : lget (s.pollMissed b p.addr).live Reg.AL_MISS = satAdd (lget s.live Reg.AL_MISS) 1 :=
    State.report_counts canon.live rfl rfl
  have lives : LiveOnly [Reg.AL_MISS] s (s.pollMissed b p.addr) := State.report_liveOnly_of (fun _ h => h) rfl
  have parts : Only [.ret, .arr, .live] s (s.pollMissed b p.addr) :=
    .app State.report_parts rfl (.app State.setArr_only rfl (.app State.setRet_only rfl .refl))
  have polled : ((s.pollMissed b p.addr).ret[b]).poll = none := by simp [State.pollMissed]
  have arr : (s.pollMissed b p.addr).arr = s.arr.set p.addr
      { s.arr[p.addr] with misses := min 3 ((s.arr[p.addr]).misses + 1), fack := 0, wack := false } := rfl
  have flt : (s.pollMissed b p.addr).flt = { s.flt with raised := s.flt.raised ++ [] } := rfl
  have driven : (s.pollMissed b p.addr).arrayDriven p.addr = s.arrayDriven p.addr := rfl
  have areq : (s.pollMissed b p.addr).areq = s.areq := rfl
  by_cases third : 2 ≤ (s.arr[p.addr]).misses
  · rw [State.when_true (decide_eq_true (by omega))] at e
    obtain ⟨arr', lost, gone, parts'⟩ := State.arrayLost_does (s := s.pollMissed b p.addr) (a := p.addr)
    have free' : ((s.pollMissed b p.addr).arrayLost p.addr).reads p.addr = false := by
      rw [State.reads, parts' .areq rfl, areq, free]
      rfl
    rw [State.regTimeout_free free'] at e
    refine ⟨_, e, ?_⟩
    rw [parts' .ret rfl, parts' .live rfl, arr', arr]
    refine ⟨polled, by simp, by simp, by simp, fun a other => ?_, by simp, live, .app (.only parts' rfl) (fun _ h => h) lives,
      fun low => absurd third (by omega), fun _ => ⟨by simp, by simp, fun d calm => lost (driven.trans d) (by simpa [arr] using calm),
        fun d calm => gone (driven.trans d) (by simpa [arr] using calm)⟩, .app parts' rfl (.app parts rfl .refl)⟩
    rw [Vector.getElem_set_fin_ne other, Vector.getElem_set_fin_ne other]
  · rw [State.when_false (decide_eq_false (by omega))] at e
    have free' : (s.pollMissed b p.addr).reads p.addr = false := by
      rw [State.reads, areq, free]
      rfl
    rw [State.regTimeout_free free'] at e
    refine ⟨_, e, polled, ?_⟩
    rw [arr]
    exact ⟨by simp, by simp, by simp, fun a other => Vector.getElem_set_fin_ne other, by simp, live, lives,
      fun _ => ⟨by simp, flt, parts⟩, fun high => absurd high third, .app parts rfl .refl⟩

end

/-- Settles O32: a poll is what `poll` sends, a missing one what `pollMissing` counts. -/
theorem pollsAndMissingPolls : Obligations.PollsAndMissingPolls := by
  refine ⟨fun t b a e s on free next entry => ?_, fun t b p s on canon poll quiet silent => ⟨fun idle => ?_, fun used => ?_⟩⟩
  · have run : exec (.pollInterval t b) s = .next ((s.stamp t).poll b a) := by
      refine (onCore_on on : execPollInterval t b s = _).trans (congrArg _ ?_)
      have out : (s.stamp t).pollOut b = false := by
        show (s.ret[b]).poll.any _ = false
        rw [free]
        rfl
      rw [State.pollNext, out, if_neg Bool.false_ne_true, show (s.stamp t).nextPoll b = some a from next]
    obtain ⟨ret, arr, polls, parts⟩ := State.poll_does (s := s.stamp t) (b := b) entry
    refine ⟨_, run, ?_⟩
    rw [ret]
    refine ⟨by simp, by simp, by simp, ?_, fun c other => Vector.getElem_set_fin_ne other, arr, polls,
      .app parts rfl (.app State.stamp_only rfl .refl)⟩
    have kind : BitVec.ofNat 2 ((s.stamp t).pollKind a) = if (s.arr[a]).ready then (if s.reads a then 2 else 0) else 1 := by
      show BitVec.ofNat 2 (if !(s.arr[a]).ready then 1 else if s.reads a then 2 else 0) = _
      cases (s.arr[a]).ready with
      | false => rfl
      | true => cases s.reads a <;> rfl
    refine (congrArg ReturnLane.poll (Vector.getElem_set_self _)).trans (congrArg some ?_)
    rw [State.pollOf, kind]
    rfl
  · have run : exec (.missingPoll t b) s = .next ((s.stamp t).pollMissing b) :=
      (onCore_on on : execMissingPoll t b s = _).trans (congrArg _ (State.when_true (by rw [silent]; rfl)))
    rw [State.pollMissing_idle (s := s.stamp t) poll idle] at run
    exact ⟨_, run, by simp, rfl, .app State.setArr_only rfl (.app State.setRet_only rfl (.app State.stamp_only rfl .refl))⟩
  · have run : exec (.missingPoll t b) s = .next ((s.stamp t).pollMissing b) :=
      (onCore_on on : execMissingPoll t b s = _).trans (congrArg _ (State.when_true (by rw [silent]; rfl)))
    obtain ⟨n, e, none, misses, fack, wack, rest, -, miss, lives, few, many, parts⟩ := State.pollMissing_counts (s := s.stamp t)
      (.only State.stamp_only rfl canon) poll quiet used
    rw [e] at run
    exact ⟨n, run, none, misses, fack, wack, rest, miss, lives, fun low => ⟨(few low).1, (few low).2.1⟩, many,
      .app parts rfl (.app State.stamp_only rfl .refl)⟩

end Sys2Proof.Machine
end

section
/-! Lanes: the parts that their events change. -/

namespace Sys2Proof.Machine

open Sys2Proof

theorem Vector.getElem_set_fin_self {α : Type} {n : Nat} {v : Vector α n} {i : Fin n} {x : α} : (v.set i x)[i] = x :=
  Vector.getElem_set_self _

/-! ### The parts that lane events change (chapter 05) -/

section
variable {s : State} {l : Fin 8} {k : Fin 4} {c a : Nat}

theorem State.dropMask_parts : Only [.skein, .stream, .out] s (s.dropMask l) := by
  unfold State.dropMask
  exact .ite .refl (Only.when (fun _ h => .app State.endStream_parts rfl h) (.app State.setSkein_only rfl .refl))

theorem State.leaveMask_parts : Only [.skein, .stream, .flt, .out] s (s.leaveMask l) := by
  unfold State.leaveMask
  exact .ite .refl (.app State.sendRow_parts rfl (.app State.dropMask_parts rfl .refl))

theorem State.leaveMask_used : Used s (s.leaveMask l) := by
  unfold State.leaveMask
  dsimp only
  split
  · exact .refl
  · exact (Used.of_flt (State.dropMask_parts .flt rfl)).trans State.sendRow_used

theorem State.toIdle_parts : Only [.stream, .out] s (s.toIdle l) := by
  unfold State.toIdle
  exact .ite (.app State.report_parts rfl (.app State.putLine_parts rfl .refl)) (.app State.putLine_parts rfl .refl)

theorem State.setLane_parts {x : OutLane} : Only [.lane] s (s.setLane l x) := .app Only.set_lane rfl .refl

theorem State.fail_parts : Only [.lane, .stream, .flt, .out] s (s.fail l) := by
  unfold State.fail
  exact Only.when (fun _ h => .app State.setLane_parts rfl h) (.app State.report_parts rfl (.app State.toIdle_parts rfl
    (.app State.setLane_parts rfl .refl)))

theorem State.enterDown_parts : Only [.lane, .stream, .flt, .out] s (s.enterDown l c a) := by
  unfold State.enterDown
  exact Only.when (fun _ h => .app State.fail_parts rfl h) (.app State.putLine_parts rfl (.app State.setLane_parts rfl .refl))

theorem State.loseLane_parts : Only [.live, .skein, .lane, .stream, .flt, .out] s (s.loseLane l c a) := by
  unfold State.loseLane
  exact .ite .refl (.app State.enterDown_parts rfl (.app State.report_parts rfl (.app State.leaveMask_parts rfl .refl)))

theorem State.laneReport_parts {n : Fin 16} {mask cause : Nat} {some : Bool} :
    Only [.live, .skein, .lane, .stream, .flt, .out] s (State.laneReport n mask some cause s l) := by
  unfold State.laneReport
  exact .ite
    (.ite (.ite (.app State.setLane_parts rfl .refl) (Only.when (fun _ h => .app State.enterDown_parts rfl h) .refl))
      (Only.when (fun _ h => .app State.setLane_parts rfl h) .refl))
    (Only.when (fun _ h => .app State.loseLane_parts rfl h) .refl)

theorem State.lockReport_parts {e : ArrEntry} {mask cause : Nat} {some : Bool} :
    Only [.live, .skein, .lane, .stream, .flt, .out] s (s.lockReport e mask some cause) := by
  unfold State.lockReport
  exact List.foldlRecOn _ _ .refl (fun _ hv _ _ => .app State.laneReport_parts rfl hv)

theorem State.train_parts {org : TrainFrom} {b : Burst} : Only [.lane, .stream, .out] s (s.train l org b) := by
  unfold State.train
  exact .app State.report_parts rfl (.app State.setLane_parts rfl (.app State.putLine_parts rfl .refl))

theorem State.attempt_parts : Only [.lane, .stream, .out] s (s.attempt l) := by
  unfold State.attempt
  exact .app State.train_parts rfl (.app State.report_parts rfl (.app State.setLane_parts rfl .refl))

theorem State.offCheck_parts : Only [.lane, .stream, .out] s (s.offCheck l) := by
  unfold State.offCheck
  exact Only.when (fun _ h => .app State.train_parts rfl (.app State.setLane_parts rfl h)) .refl

end

/-! ### A decision of the sample taken again (04 R177, 05 R218) -/

section
variable {s n : State} {t : Nat}

theorem State.redecide_none (calm : ∀ u : Fin 2, (s.surf[u]).decided = none ∨ (s.surf[u]).decTick ≠ s.now / tick) :
    s.redecide = s := by
  unfold State.redecide
  refine List.foldlRecOn (motive := fun v => v = s) _ _ rfl (fun v hv u _ => ?_)
  rw [hv]
  refine State.when_false ?_
  rcases calm u with none | other
  · rw [none]
    rfl
  · rw [beq_eq_false_iff_ne.mpr other, Bool.and_false]

/-- Without a decision in its sample, an event that leaves the surfaces and the instant needs none. -/
theorem State.NoDecisionAt.redecide (calm : s.NoDecisionAt t) (surf : n.surf = s.surf) (now : n.now = max s.now t) :
    n.redecide = n :=
  State.redecide_none (fun u => by rw [surf, now]; exact calm u)

end
end Sys2Proof.Machine
end

section
/-! Returned blocks. -/

namespace Sys2Proof.Machine

open Sys2Proof

/-! ### What a response leaves (04 R164–R170) -/

section
variable {s : State} {a : Fin 16} {b : Fin 2} {e : ArrEntry} {p : Poll} {d l : List Block} {t : Nat}

theorem State.faultEntry_now {f : Block} : (State.faultEntry e s f).now = s.now := by
  unfold State.faultEntry
  dsimp only
  split
  · rfl
  · unfold State.when
    split <;> rfl

/-- Fault entries change health bits and what they raise and count, and no more. -/
theorem State.faultEntries_keep :
    (d.foldl (State.faultEntry e) s).now = s.now ∧ (d.foldl (State.faultEntry e) s).arr = s.arr ∧
      (d.foldl (State.faultEntry e) s).areq = s.areq ∧ (d.foldl (State.faultEntry e) s).ret = s.ret ∧
      (d.foldl (State.faultEntry e) s).surf = s.surf := by
  refine List.foldlRecOn (motive := fun v : State => v.now = s.now ∧ v.arr = s.arr ∧ v.areq = s.areq ∧ v.ret = s.ret ∧ v.surf = s.surf)
    _ _ ⟨rfl, rfl, rfl, rfl, rfl⟩ (fun v hv f _ => ?_)
  obtain ⟨now, arr, areq, ret, surf⟩ := hv
  have parts := State.faultEntry_only (e := e) (f := f) (s := v)
  exact ⟨State.faultEntry_now.trans now, (parts .arr rfl).trans arr, (parts .areq rfl).trans areq, (parts .ret rfl).trans ret,
    (parts .surf rfl).trans surf⟩

theorem State.atemp_parts : Only [.tile, .flt] s (s.atemp a) := by
  unfold State.atemp
  exact .app State.report_parts (noteIf_parts rfl) (.app Only.set_tile rfl .refl)

theorem State.atemp_fresh : (s.atemp a).tile.fresh = s.tile.fresh := rfl

/-- What an accepted status response leaves of its array (04 R165, R166). -/
def ArrayLink.status (x : ArrayLink) (driven : Bool) (p : Poll) (d : List Block) : ArrayLink :=
  { (State.statusFlags x driven p.aen (d.getD 0 0)).1 with
    w0 := d.getD 0 0, w1 := d.getD 1 0, based := true, misses := 0, fack := BitVec.ofNat 4 (d.drop 2).length
    wack := bit (d.getD 0 0) 7 }

theorem State.acceptStatus_does (entry : s.linkEntry p.addr = some e) :
    (s.acceptStatus p d).arr = s.arr.set p.addr ((s.arr[p.addr]).status (s.driven e.u) p d) ∧
      (s.acceptStatus p d).areq = s.areq ∧ (s.acceptStatus p d).ret = s.ret ∧ (s.acceptStatus p d).surf = s.surf ∧
      (s.acceptStatus p d).now = s.now ∧ bit (s.acceptStatus p d).tile.fresh p.addr = true := by
  unfold State.acceptStatus
  rw [entry]
  dsimp only
  generalize hv : (State.report _ (s.setArr p.addr _)) = v
  have arr : v.arr = s.arr.set p.addr ((s.arr[p.addr]).status (s.driven e.u) p d) := by rw [← hv]; rfl
  have areq : v.areq = s.areq := by rw [← hv]; rfl
  have ret : v.ret = s.ret := by rw [← hv]; rfl
  have surf : v.surf = s.surf := by rw [← hv]; rfl
  have now : v.now = s.now := by rw [← hv]; rfl
  obtain ⟨now', arr', areq', ret', surf'⟩ := State.faultEntries_keep (d := d.drop 2) (e := e) (s := v)
  generalize (d.drop 2).foldl (State.faultEntry e) v = u at *
  have heat := State.atemp_parts (a := p.addr) (s := { u with tile := { u.tile with fresh := setBit u.tile.fresh p.addr.val } })
  have fresh := State.atemp_fresh (a := p.addr) (s := { u with tile := { u.tile with fresh := setBit u.tile.fresh p.addr.val } })
  generalize State.atemp p.addr { u with tile := { u.tile with fresh := setBit u.tile.fresh p.addr.val } } = w at *
  have lanes := State.lockReport_parts (s := w) (e := e) (mask := w.maskWith (s.arr[p.addr]) (fld (d.getD 0 0) 8 8))
    (cause := 4) (some := fld (d.getD 0 0) 8 8 != 0)
  refine ⟨(lanes .arr rfl).trans ((heat .arr rfl).trans (arr'.trans arr)),
    (lanes .areq rfl).trans ((heat .areq rfl).trans (areq'.trans areq)),
    (lanes .ret rfl).trans ((heat .ret rfl).trans (ret'.trans ret)),
    (lanes .surf rfl).trans ((heat .surf rfl).trans (surf'.trans surf)),
    (lanes .now rfl).1.trans ((heat .now rfl).1.trans (now'.trans now)), ?_⟩
  rw [lanes .tile rfl, fresh]
  exact (bit_setBit p.addr.isLt).trans (by simp)

/-- What an accepted identity leaves of its array (04 R170). -/
def ArrayLink.identified (x : ArrayLink) (ready : Bool) (d : List Block) (now : Nat) : ArrayLink :=
  { x with
    ready := ready, ident := true, misses := 0, id0 := d.getD 0 0, id1 := d.getD 1 0, fack := 0, wack := false
    based := false, readyAt := now }

/-- The content of an identity meets R170. -/
def State.fits (s : State) (e : ArrEntry) (d : List Block) : Bool :=
  identityFits e (s.entryMode e) (skeinLanes s.active e.skein).length (d.getD 0 0) (d.getD 1 0)

/-- The block with an array identified. -/
def State.identified (s : State) (e : ArrEntry) (a : Fin 16) (d : List Block) : State :=
  s.setArr a ((s.arr[a]).identified (s.fits e d && !s.arrayIdle a) d s.now)

theorem State.acceptIdentity_eq (entry : s.linkEntry p.addr = some e) : s.acceptIdentity p d =
    if s.fits e d then
      State.atemp p.addr ((s.identified e p.addr d).sendRows ((s.identified e p.addr d).arrayRanges p.addr))
    else (s.identified e p.addr d).report [.raise Src.AL_IDMIS] := by
  unfold State.acceptIdentity
  rw [entry]
  rfl

/-- An accepted identity (04 R170, R178). -/
theorem State.acceptIdentity_does (entry : s.linkEntry p.addr = some e) :
    (s.acceptIdentity p d).arr =
        s.arr.set p.addr ((s.arr[p.addr]).identified (s.fits e d && !s.arrayIdle p.addr) d s.now) ∧
      (s.fits e d = false → Src.AL_IDMIS ∈ (s.acceptIdentity p d).flt.raised ∧ (s.acceptIdentity p d).tile = s.tile) ∧
      Only [.arr, .stream, .out, .flt, .tile] s (s.acceptIdentity p d) := by
  have arr : (s.identified e p.addr d).arr =
      s.arr.set p.addr ((s.arr[p.addr]).identified (s.fits e d && !s.arrayIdle p.addr) d s.now) := State.setArr_arr
  have parts : Only [.arr] s (s.identified e p.addr d) := State.setArr_only
  rw [State.acceptIdentity_eq entry]
  split
  next fits =>
    refine ⟨?_, fun unfit => absurd (unfit.symm.trans fits) Bool.false_ne_true,
      .app State.atemp_parts rfl (.app State.sendRows_parts rfl (.app parts rfl .refl))⟩
    rw [State.atemp_parts .arr rfl, State.sendRows_parts .arr rfl, arr]
  next =>
    exact ⟨arr, fun _ => ⟨List.mem_append_right _ (List.mem_singleton_self _), parts .tile rfl⟩,
      .app State.report_parts rfl (.app parts rfl .refl)⟩

/-- An accepted register read of the array that the request names (04 R163, R183). -/
theorem State.acceptRegister_does (reads : s.reads p.addr = true) :
    s.acceptRegister p d = State.hit Reg.AL_ASTAT 2 { s.setArr p.addr { s.arr[p.addr] with misses := 0, fack := 0, wack := false }
      with areq := { s.areq with busy := false, done := true, rdata := BitVec.ofNat 16 (fld (d.getD 0 0) 16 16) } } :=
  if_pos reads

/-- Before its third poll a register request does not time out. -/
theorem State.regTimeout_early (early : s.areq.polls < 3) : s.regTimeout a = s :=
  State.when_false (by rw [decide_eq_false (by omega), Bool.and_false])

theorem State.pastFirst_poll : ((s.pastFirst b).ret[b]).poll = (s.ret[b]).poll := by
  simp [State.pastFirst]

/-- The block that has taken an acceptable response off its return lane. -/
def State.tookReturn (b : Fin 2) (s : State) : State :=
  (s.pastFirst b).setRet b { (s.pastFirst b).ret[b] with poll := none }

theorem State.tookReturn_does : ((s.tookReturn b).ret[b]).poll = none ∧ Only [.ret] s (s.tookReturn b) :=
  ⟨by simp [State.tookReturn], .app State.setRet_only rfl (.app State.setRet_only rfl .refl)⟩

theorem State.receive_accepts (calm : s.flt.inj.remain = 0) (poll : (s.ret[b]).poll = some p)
    (accept : s.acceptable p l = some d) :
    s.receive b l = State.regTimeout p.addr
      (if p.kind = 0 then (s.tookReturn b).acceptStatus p d
      else if p.kind = 1 then (s.tookReturn b).acceptIdentity p d else (s.tookReturn b).acceptRegister p d) := by
  have spoils : (s.pastFirst b).spoilsReturn p.addr = false := by
    rw [State.spoilsReturn, State.injMode_off (s := s.pastFirst b) calm]
    rfl
  have poll' : ((s.pastFirst b).ret[b]).poll = some p := State.pastFirst_poll.trans poll
  have accept' : (s.pastFirst b).acceptable p l = some d := accept
  unfold State.receive
  dsimp only
  rw [poll']
  dsimp only
  rw [spoils, accept', State.when_false rfl]
  rfl

/-- A response that is not acceptable is discarded. -/
theorem State.receive_discards (calm : s.flt.inj.remain = 0) (poll : (s.ret[b]).poll = some p)
    (accept : s.acceptable p l = none) : s.receive b l = (s.pastFirst b).discardReturn b := by
  have spoils : (s.pastFirst b).spoilsReturn p.addr = false := by
    rw [State.spoilsReturn, State.injMode_off (s := s.pastFirst b) calm]
    rfl
  have poll' : ((s.pastFirst b).ret[b]).poll = some p := State.pastFirst_poll.trans poll
  have accept' : (s.pastFirst b).acceptable p l = none := accept
  unfold State.receive
  dsimp only
  rw [poll']
  dsimp only
  rw [spoils, accept', State.when_false rfl]

/-! ### Discarded returns (04 R132, R164, R167) -/

theorem State.pastFirst_old (old : (s.ret[b]).fresh = false) : s.pastFirst b = s := by
  have same : s.ret.set b { s.ret[b] with fresh := false } = s.ret := by
    refine Vector.ext (fun i hi => ?_)
    rw [Vector.getElem_set]
    split
    next e =>
      subst e
      rw [← old]
      rfl
    next => rfl
  rw [State.pastFirst, State.setRet, same]

/-- A discarded response whose poll counts as missing, before the third in a row. -/
theorem State.discardReturn_counts (canon : s.Canonical) (poll : (s.ret[b]).poll = some p) (free : s.areq.busy = false)
    (few : (s.arr[p.addr]).misses < 2) (used : s.arrayIdle p.addr = false) :
    ∃ n, s.discardReturn b = n ∧ (n.ret[b]).poll = none ∧ (n.arr[p.addr]).misses = (s.arr[p.addr]).misses + 1 ∧
      (n.arr[p.addr]).ready = (s.arr[p.addr]).ready ∧ (n.arr[p.addr]).w0 = (s.arr[p.addr]).w0 ∧
      lget n.live Reg.AL_RETERR = satAdd (lget s.live Reg.AL_RETERR) 1 ∧
      lget n.live Reg.AL_MISS = satAdd (lget s.live Reg.AL_MISS) 1 ∧ LiveOnly [Reg.AL_RETERR, Reg.AL_MISS] s n ∧
      Raised [Src.AL_RETERR] s n ∧ Only [.ret, .arr, .live, .flt] s n := by
  have canon' : (s.report retErr).Canonical := State.report_canon canon
  have err : lget (s.report retErr).live Reg.AL_RETERR = satAdd (lget s.live Reg.AL_RETERR) 1 :=
    State.report_counts canon.live rfl rfl
  have other : lget (s.report retErr).live Reg.AL_MISS = lget s.live Reg.AL_MISS := State.report_counts canon.live rfl rfl
  have errs : LiveOnly [Reg.AL_RETERR] s (s.report retErr) := State.report_liveOnly_of (fun _ h => h) rfl
  have raised : Raised [Src.AL_RETERR] s (s.report retErr) := State.report_raised rfl rfl
  have parts : Only [.live, .flt] s (s.report retErr) := State.report_parts.mono rfl
  obtain ⟨n, e, none, misses, -, -, -, w0, miss, lives, low, -, -⟩ := State.pollMissing_counts canon' (p := p) poll free used
  obtain ⟨ready, same, parts'⟩ := low few
  refine ⟨n, e, none, misses.trans (Nat.min_eq_right ?_), ready, w0, ?_, miss.trans (by rw [other]), ?_, ?_,
    .app parts' rfl (.app parts rfl .refl)⟩
  · show (s.arr[p.addr]).misses + 1 ≤ 3
    omega
  · exact (lives Reg.AL_RETERR (by decide)).trans err
  · exact .app lives (fun _ h => List.mem_cons_of_mem _ h) (errs.mono (fun _ h => List.mem_cons.mpr (.inl (List.mem_singleton.mp h))))
  · rw [Raised] at same raised ⊢
    rw [same, raised, List.append_nil]

theorem ignoredBlock_response {h : Block} (is : fld h 0 8 = 0x40) : ignoredBlock (ctrlBlock h) = false := by
  simp [ignoredBlock, ctrlBlock, is]

end
/-- Settles O33: an acceptable response by its kind; what is not one counts and raises AL_RETERR. -/
theorem returnedBlocks : Obligations.ReturnedBlocks := by
  refine ⟨fun t b l d p e s on calm poll entry accept early => ⟨fun kind quiet fresh => ?_, fun kind => ?_, fun kind reads => ?_⟩,
    fun t b s on canon calm => ⟨fun l ignored => ?_, fun h old block other => ?_,
      fun p h l c poll free is few used reject command => ?_⟩⟩
  · have received := State.receive_accepts (s := s.stamp t) calm poll accept
    rw [kind, if_pos rfl] at received
    obtain ⟨arr, areq, ret, surf, now, heated⟩ := State.acceptStatus_does (s := (s.stamp t).tookReturn b) (d := d) (p := p) entry
    rw [State.regTimeout_early (by rw [areq]; exact early)] at received
    have run : exec (.statusResponse t b l) s = .next ((s.stamp t).tookReturn b |>.acceptStatus p d) := by
      refine (onCore_on on : execStatusResponse t b l s = _).trans (congrArg _ ((State.once_fresh fresh).trans ?_))
      change (State.receive b l (s.stamp t)).redecide = _
      rw [received]
      exact quiet.redecide surf now
    refine ⟨_, run, ?_⟩
    rw [ret, arr, areq, Vector.getElem_set_fin_self]
    exact ⟨State.tookReturn_does.1, rfl, rfl, rfl, rfl, congrArg (BitVec.ofNat 4) List.length_drop, rfl, rfl, heated,
      fun a other => Vector.getElem_set_fin_ne other, rfl⟩
  · have received := State.receive_accepts (s := s.stamp t) calm poll accept
    rw [kind, if_neg (by decide), if_pos rfl] at received
    obtain ⟨arr, misfit, parts⟩ := State.acceptIdentity_does (s := (s.stamp t).tookReturn b) (d := d) (p := p) entry
    rw [State.regTimeout_early (by rw [parts .areq rfl]; exact early)] at received
    have run : exec (.identityResponse t b l) s = .next ((s.stamp t).tookReturn b |>.acceptIdentity p d) :=
      (onCore_on on : execIdentityResponse t b l s = _).trans (congrArg _ received)
    refine ⟨_, run, ?_⟩
    rw [parts .ret rfl, parts .lane rfl, arr, Vector.getElem_set_fin_self]
    exact ⟨State.tookReturn_does.1, rfl, rfl, rfl, rfl, rfl, rfl, misfit, rfl, fun a other => Vector.getElem_set_fin_ne other⟩
  · have received := State.receive_accepts (s := s.stamp t) calm poll accept
    rw [kind, if_neg (by decide), if_neg (by decide),
      State.acceptRegister_does (s := (s.stamp t).tookReturn b) (d := d) (p := p) reads,
      State.regTimeout_free rfl] at received
    have run := (onCore_on on : execRegisterReadResponse t b l s = _).trans (congrArg _ received)
    refine ⟨_, run, State.tookReturn_does.1, rfl, ?_, ?_, rfl, .app State.hit_only rfl (.app Only.set_areq rfl
      (.app State.setArr_only rfl (.app State.tookReturn_does.2 rfl (.app State.stamp_only rfl .refl))))⟩
    · show ((s.arr.set p.addr { s.arr[p.addr] with misses := 0, fack := 0, wack := false })[p.addr]).misses = 0
      rw [Vector.getElem_set_fin_self]
    · show ((s.arr.set p.addr { s.arr[p.addr] with misses := 0, fack := 0, wack := false })[p.addr]).ready = _
      rw [Vector.getElem_set_fin_self]
  · have none : (if ((s.stamp t).ret[b]).fresh then l.drop 1 else l).filter (fun x => !ignoredBlock x) = [] := by
      refine List.filter_eq_nil_iff.mpr (fun x hx => ?_)
      rw [ignored x hx]
      exact Bool.false_ne_true
    have run : exec (.returnBlockDiscard t b l) s = .next ((s.stamp t).pastFirst b) := by
      refine (onCore_on on : execReturnBlockDiscard t b l s = _).trans (congrArg _ ?_)
      rw [State.discardBlocks, none]
    exact ⟨_, run, rfl, .app State.setRet_only rfl (.app State.stamp_only rfl .refl)⟩
  · have kept : (if ((s.stamp t).ret[b]).fresh then [h].drop 1 else [h]).filter (fun x => !ignoredBlock x) = [h] := by
      rw [show ((s.stamp t).ret[b]).fresh = false from old, if_neg Bool.false_ne_true]
      exact List.filter_cons_of_pos (by rw [block]; rfl)
    have run : exec (.returnBlockDiscard t b [h]) s = .next ((s.stamp t).report retErr) := by
      refine (onCore_on on : execReturnBlockDiscard t b [h] s = _).trans (congrArg _ ?_)
      rw [State.discardBlocks, kept]
      dsimp only
      rw [if_neg other, State.pastFirst_old (s := s.stamp t) old]
      rfl
    exact ⟨_, run, State.report_counts canon.live rfl rfl, State.report_liveOnly_of (fun _ h => h) rfl,
      State.report_raised rfl rfl, .app State.report_parts rfl (.app State.stamp_only rfl .refl)⟩
  · have passed : Only [.now, .ret] s ((s.stamp t).pastFirst b) := .app State.setRet_only rfl (.app State.stamp_only rfl .refl)
    obtain ⟨n, e, none, misses, ready, w0, err, miss, lives, raised, parts⟩ := State.discardReturn_counts
      (s := (s.stamp t).pastFirst b) (.only passed rfl canon) (State.pastFirst_poll.trans poll) free few used
    have run : exec c s = .next n := by
      rcases command with ⟨rfl, quiet, fresh⟩ | rfl | rfl | ⟨rfl, old⟩
      · refine (onCore_on on : execStatusResponse t b (h :: l) s = _).trans (congrArg _ ((State.once_fresh fresh).trans ?_))
        change (State.receive b (h :: l) (s.stamp t)).redecide = _
        rw [State.receive_discards (s := s.stamp t) calm poll reject, e]
        exact quiet.redecide (parts .surf rfl) (parts .now rfl).1
      · exact (onCore_on on : execIdentityResponse t b (h :: l) s = _).trans
          (congrArg _ ((State.receive_discards (s := s.stamp t) calm poll reject).trans e))
      · exact (onCore_on on : execRegisterReadResponse t b (h :: l) s = _).trans
          (congrArg _ ((State.receive_discards (s := s.stamp t) calm poll reject).trans e))
      · refine (onCore_on on : execReturnBlockDiscard t b _ s = _).trans (congrArg _ (Eq.trans ?_ e))
        rw [State.discardBlocks, show ((s.stamp t).ret[b]).fresh = false from old, if_neg Bool.false_ne_true,
          List.filter_cons_of_pos (by rw [ignoredBlock_response is]; rfl)]
        exact if_pos ⟨rfl, is⟩
    exact ⟨n, run, none, misses, ready, w0, err, miss, lives, raised, .app parts rfl (.app passed rfl .refl)⟩

end Sys2Proof.Machine
end

section
/-! Array register requests. -/

namespace Sys2Proof.Machine

open Sys2Proof

/-! ### The row of a register write (04 R128, R134, R142) -/

section
variable {s : State} {k : Fin 4} {m : BitVec 8} {r : Row} {e : ArrEntry} {v : Word}

theorem rowCopies_good : rowCopies m r 0 = (bitsOf m 8).map r.block := by
  unfold rowCopies
  cases bitsOf m 8 <;> simp

theorem report_rows {l : List Block} :
    (s.report (l.map (fun b => .send (.row k b)))).out = (l.map (Output.row k)).reverse ++ s.out := by
  have sent : (l.map (fun b => Note.send (.row k b))).filterMap Note.sent = l.map (Output.row k) := by
    rw [List.filterMap_map]
    exact congrFun List.filterMap_eq_map' l
  show (List.filterMap Note.sent _).reverse ++ s.out = _
  rw [sent]

/-- What a row sends on a skein with lanes in service, the checker of rows not being armed. -/
theorem State.sendRow_out (some : m ≠ 0) (calm : s.flt.inj.remain = 0) :
    (s.sendRow k m r).out = ((bitsOf m 8).map (fun j => Output.row k (r.block j))).reverse ++ (s.advance k 0).out := by
  have queued : ∀ x : RowSlot, (s.queueRow k x).flt = s.flt ∧ (s.queueRow k x).out = (s.advance k 0).out := fun x =>
    ⟨State.queueRow_parts .flt rfl, rfl⟩
  have spent : ∀ x : RowSlot, (s.queueRow k x).useInj 8 = s.queueRow k x := fun x =>
    if_pos (State.injMode_off (by rw [(queued x).1]; exact calm))
  unfold State.sendRow
  dsimp only
  rw [if_neg some, report_rows, State.injMode_off calm, rowCopies_good, List.map_map, spent, (queued _).2]
  rfl

/-- The slots that pass do not depend on the request, nor on the events of the sample. -/
theorem State.advance_out {x : ArrayReq} {a n : Nat} {least : Nat} :
    ((State.hit a n { s with areq := x }).advance k least).out = (s.advance k least).out := by
  unfold State.advance
  split
  next h => rw [if_pos (show s.stream.alive k = true from h)]; rfl
  next h => rw [if_neg (show ¬s.stream.alive k = true from h)]; rfl

/-- The request that a write of AL_ACMD makes. -/
def ArrayReq.of (x : ArrayReq) (v : Word) : ArrayReq :=
  { x with busy := true, write := !bit v 4, addr := Fin.ofNat 16 (fld v 0 4), polls := 0 }

theorem State.writeAcmd_idle (idle : s.areq.busy = false) (free : s.hasCome Reg.AL_ASTAT = false) :
    s.writeAcmd v = State.sendArw { s with areq := s.areq.of v } := by
  rw [State.writeAcmd, idle, free]
  rfl

/-- A request of a write goes out where its array's skein has a lane. -/
theorem State.sendArw_lane (busy : s.areq.busy = true) (write : s.areq.write = true) (entry : s.linkEntry s.areq.addr = some e)
    (lane : (s.skein[skeinNo e.skein]).lmask ≠ 0) :
    s.sendArw = State.sendRow (skeinNo e.skein) (s.skein[skeinNo e.skein]).lmask
      (.arw s.areq.addr.val (fld (rget s.regs Reg.AL_AREG) 0 16) (fld (rget s.regs Reg.AL_AREG) 16 16))
      (State.hit Reg.AL_ASTAT 2 { s with areq := { s.areq with busy := false, done := true } }) := by
  rw [State.sendArw, if_pos (by rw [busy, write]; rfl), entry]
  exact if_neg lane

theorem State.sendArw_none (busy : s.areq.busy = true) (write : s.areq.write = true) (entry : s.linkEntry s.areq.addr = some e)
    (none : (s.skein[skeinNo e.skein]).lmask = 0) : s.sendArw = s := by
  rw [State.sendArw, if_pos (by rw [busy, write]; rfl), entry]
  exact if_pos none

theorem State.sendArw_read (read : s.areq.write = false) : s.sendArw = s :=
  if_neg (by rw [read, Bool.and_false]; exact Bool.false_ne_true)

end

/-- Settles O34: a write of AL_ACMD makes a request; a write goes out by `sendArw`, a read waits for its poll. -/
theorem arrayRegisterRequests : Obligations.ArrayRegisterRequests := by
  intro t req v s write
  have run : ∀ f, f = State.writeAcmd v → onCore t s (State.access req 0x38 f) = .next ((s.stamp t).writeAcmd v) := by
    rintro f rfl
    exact (onCore_on write.1).trans (congrArg _ write.access)
  refine ⟨fun e idle free out entry lane calm => ?_, fun e idle free out entry none => ?_, fun idle free read => ?_,
    fun busy c command => ?_⟩
  · have made : (s.areq.of v).write = true := by rw [ArrayReq.of, out]; rfl
    have e' : exec (.arrayRegWrite t req v) s = .next (State.sendRow (skeinNo e.skein) (s.skein[skeinNo e.skein]).lmask
        (.arw (Fin.ofNat 16 (fld v 0 4)).val (fld (rget s.regs Reg.AL_AREG) 0 16) (fld (rget s.regs Reg.AL_AREG) 16 16))
        (State.hit Reg.AL_ASTAT 2 { s.stamp t with areq := { s.areq.of v with busy := false, done := true } })) :=
      (run _ rfl : execArrayRegWrite t req v s = _).trans (congrArg _ ((State.writeAcmd_idle (s := s.stamp t) idle free).trans
        (State.sendArw_lane (s := { s.stamp t with areq := s.areq.of v }) rfl made entry lane)))
    have parts := State.sendRow_calm (s := State.hit Reg.AL_ASTAT 2
      { s.stamp t with areq := { s.areq.of v with busy := false, done := true } }) (k := skeinNo e.skein)
      (m := (s.skein[skeinNo e.skein]).lmask) (r := .arw (Fin.ofNat 16 (fld v 0 4)).val (fld (rget s.regs Reg.AL_AREG) 0 16)
        (fld (rget s.regs Reg.AL_AREG) 16 16)) calm
    refine ⟨_, e', (parts .areq rfl).trans ?_, ?_, .app parts rfl (.app State.hit_only rfl (.app Only.set_areq rfl
      (.app State.stamp_only rfl .refl)))⟩
    · show ({ s.areq.of v with busy := false, done := true } : ArrayReq) = _
      rw [ArrayReq.of, out]
      rfl
    · refine (State.sendRow_out lane ?_).trans ?_
      · exact calm
      rw [State.advance_out]
      have addr : (Fin.ofNat 16 (fld v 0 4)).val = fld v 0 4 := Nat.mod_eq_of_lt (Nat.mod_lt _ (by decide))
      rw [addr]
  · have made : (s.areq.of v).write = true := by rw [ArrayReq.of, out]; rfl
    have e' : exec (.arrayRegWrite t req v) s = .next { s.stamp t with areq := s.areq.of v } :=
      (run _ rfl : execArrayRegWrite t req v s = _).trans (congrArg _ ((State.writeAcmd_idle (s := s.stamp t) idle free).trans
        (State.sendArw_none (s := { s.stamp t with areq := s.areq.of v }) rfl made entry none)))
    refine ⟨_, e', ?_, .app Only.set_areq rfl (.app State.stamp_only rfl .refl)⟩
    show s.areq.of v = _
    rw [ArrayReq.of, out]
    rfl
  · have made : (s.areq.of v).write = false := by rw [ArrayReq.of, read]; rfl
    have e' : exec (.arrayRegRead t req v) s = .next { s.stamp t with areq := s.areq.of v } :=
      (run _ rfl : execArrayRegRead t req v s = _).trans (congrArg _ ((State.writeAcmd_idle (s := s.stamp t) idle free).trans
        (State.sendArw_read (s := { s.stamp t with areq := s.areq.of v }) made)))
    refine ⟨_, e', ?_, .app Only.set_areq rfl (.app State.stamp_only rfl .refl)⟩
    show s.areq.of v = _
    rw [ArrayReq.of, read]
    rfl
  · have ignored : (s.stamp t).writeAcmd v = s.stamp t := if_pos (by
      rcases busy with h | h
      · rw [show (s.stamp t).areq.busy = true from h]; rfl
      · rw [h, Bool.or_true])
    rcases command with rfl | rfl
    · exact ⟨_, (run _ rfl : execArrayRegWrite t req v s = _).trans (congrArg _ ignored), State.stamp_only⟩
    · exact ⟨_, (run _ rfl : execArrayRegRead t req v s = _).trans (congrArg _ ignored), State.stamp_only⟩

end Sys2Proof.Machine
end

section
/-! Training, hold and RETRY of lanes. -/

namespace Sys2Proof.Machine

open Sys2Proof

/-! ### What lane events leave of the lanes (05 R202–R212) -/

section
variable {s u : State} {l m : Fin 8} {k : Fin 4} {c a t : Nat} {ls : List (Fin 8)} {f : OutLane → OutLane} {b : Burst}
  {org : TrainFrom}

theorem outLanes_mem : l ∈ outLanes := List.mem_finRange l

theorem outLanes_nodup : outLanes.Nodup := List.nodup_finRange 8

theorem State.setLane_self {x : OutLane} : (s.setLane l x).lane[l] = x := Vector.getElem_set_fin_self

theorem State.setLane_other {x : OutLane} (h : m ≠ l) : (s.setLane l x).lane[m] = s.lane[m] := Vector.getElem_set_fin_ne h

/-- Lanes changed one after another, each once. -/
theorem State.eachLane_does (once : ls.Nodup) :
    (∀ m : Fin 8, (ls.foldl (fun (s : State) l => s.setLane l (f (s.lane[l]))) s).lane[m] =
      if m ∈ ls then f (s.lane[m]) else s.lane[m]) ∧
    Only [.lane] s (ls.foldl (fun (s : State) l => s.setLane l (f (s.lane[l]))) s) := by
  induction ls generalizing s with
  | nil => exact ⟨fun m => (if_neg List.not_mem_nil).symm, .refl⟩
  | cons x r ih =>
    obtain ⟨fresh, rest⟩ := List.nodup_cons.mp once
    obtain ⟨lanes, parts⟩ := ih (s := s.setLane x (f (s.lane[x]))) rest
    refine ⟨fun m => ?_, .app parts rfl (.app State.setLane_parts rfl .refl)⟩
    rw [List.foldl_cons, lanes m]
    by_cases e : m = x
    · subst e
      rw [if_neg fresh, if_pos List.mem_cons_self, State.setLane_self]
    · rw [State.setLane_other e]
      simp [e]

theorem State.setLine_line {x : LineTx} : (s.setLine l x).stream.line[l] = x := Vector.getElem_set_fin_self

/-- A lane's transmitter with a plan. -/
theorem State.putLine_line {no : Nat} {plan : List (LinePart × Nat)} {fill : LineFill} :
    ((s.putLine l k no plan fill).stream.line[l]).plan = plan ∧ ((s.putLine l k no plan fill).stream.line[l]).fill = fill := by
  unfold State.putLine
  dsimp only
  rw [State.setLine_line]
  exact ⟨rfl, rfl⟩

/-- The entry to TRAIN (05 R202, R204). -/
theorem State.train_does : (s.train l org b).lane = s.lane.set l { s.lane[l] with
      st := .train, from_ := org, burst := b, relock := false, trainAt := s.now } ∧
    (s.train l org b).out.head? = some (.burst l b) ∧ ((s.train l org b).stream.line[l]).plan = s.trainPlan l org b ∧
    ((s.train l org b).stream.line[l]).fill = org.after := by
  obtain ⟨plan, fill⟩ := State.putLine_line (s := s) (l := l) (k := s.laneSkein l) (no := s.laneNo l)
    (plan := s.trainPlan l org b) (fill := org.after)
  have parts := State.putLine_parts (s := s) (n := l) (k := s.laneSkein l) (no := s.laneNo l)
    (plan := s.trainPlan l org b) (fill := org.after)
  have lane := parts .lane rfl
  have now := (parts .now rfl).1
  unfold State.train
  dsimp only
  generalize s.putLine l (s.laneSkein l) (s.laneNo l) (s.trainPlan l org b) org.after = v at *
  refine ⟨?_, rfl, plan, fill⟩
  show v.lane.set l _ = _
  rw [lane, now]

/-- A lane as it enters DOWN, its transmitter taking the settings (05 R209, R211). -/
def OutLane.downed (x : OutLane) (c a now : Nat) (set : LaneSet) : OutLane :=
  OutLane.tune { x with
    st := .down, cause := BitVec.ofNat 4 c, addr := BitVec.ofNat 4 a, recent := false, conf := 0
    confirmed := false, downAt := now } set

theorem State.rtMax_of_regs (h : u.regs = s.regs) : u.rtMax l = s.rtMax l := by
  unfold State.rtMax State.active
  rw [h]

/-- A lane enters DOWN with attempts left (05 R211, R212). -/
theorem State.enterDown_does (few : (s.lane[l]).attempts.toNat < s.rtMax l) :
    (s.enterDown l c a).lane = s.lane.set l ((s.lane[l]).downed c a s.now (laneAt s.active l.val)) ∧
      ((s.enterDown l c a).stream.line[l]).fill = .quiet ∧ Only [.lane, .stream, .out] s (s.enterDown l c a) := by
  have e : s.enterDown l c a = State.when
      ((s.setLane l ((s.lane[l]).downed c a s.now (laneAt s.active l.val))).putLine l (s.stream.line[l]).skein
        (s.stream.line[l]).no [] .quiet)
      (decide (((s.setLane l ((s.lane[l]).downed c a s.now (laneAt s.active l.val))).putLine l (s.stream.line[l]).skein
        (s.stream.line[l]).no [] .quiet).rtMax l ≤ (s.lane[l]).attempts.toNat)) (State.fail l) := rfl
  have line := State.putLine_line (s := s.setLane l ((s.lane[l]).downed c a s.now (laneAt s.active l.val))) (l := l)
    (k := (s.stream.line[l]).skein) (no := (s.stream.line[l]).no) (plan := []) (fill := .quiet)
  have parts := State.putLine_parts (s := s.setLane l ((s.lane[l]).downed c a s.now (laneAt s.active l.val))) (n := l)
    (k := (s.stream.line[l]).skein) (no := (s.stream.line[l]).no) (plan := []) (fill := .quiet)
  generalize (s.setLane l ((s.lane[l]).downed c a s.now (laneAt s.active l.val))).putLine l (s.stream.line[l]).skein
    (s.stream.line[l]).no [] .quiet = v at *
  rw [State.when_false (decide_eq_false (by rw [State.rtMax_of_regs (parts .regs rfl)]; exact Nat.not_le.mpr few))] at e
  rw [e]
  exact ⟨parts .lane rfl, line.2, .app parts rfl (.app State.setLane_parts rfl .refl)⟩

theorem State.toIdle_fill : ((s.toIdle l).stream.line[l]).fill = .quiet := by
  have quiet : ∀ plan, ((s.putLine l (s.stream.line[l]).skein (s.stream.line[l]).no plan .quiet).stream.line[l]).fill = .quiet :=
    fun _ => State.putLine_line.2
  by_cases lock : s.clk.lockOl = true
  · rw [State.toIdle, if_pos lock]
    exact (congrArg (fun x : LaneStream => (x.line[l]).fill) State.report_stream).trans (quiet _)
  · rw [State.toIdle, if_neg lock]
    exact quiet _

/-- A lane of which the attempts are used up, and RETRY not written in the sample (05 R211, R218). -/
theorem State.fail_does (quiet : (s.lane[l]).retryAt ≠ some (s.now / tick)) :
    (s.fail l).lane = s.lane.set l { s.lane[l] with st := .failed, idleAt := s.now } ∧
      Raised [Src.SK_LANEFAIL l] s (s.fail l) ∧ ((s.fail l).stream.line[l]).fill = .quiet ∧
      Only [.lane, .stream, .flt, .out] s (s.fail l) := by
  have parts := State.toIdle_parts (s := s.setLane l { s.lane[l] with st := .failed, idleAt := s.now }) (l := l)
  have fill := State.toIdle_fill (s := s.setLane l { s.lane[l] with st := .failed, idleAt := s.now }) (l := l)
  unfold State.fail
  dsimp only
  generalize (s.setLane l { s.lane[l] with st := .failed, idleAt := s.now }).toIdle l = v at *
  have lane : v.lane = s.lane.set l { s.lane[l] with st := .failed, idleAt := s.now } := parts .lane rfl
  have retry : ((v.report [.raise (Src.SK_LANEFAIL l)]).lane[l]).retryAt = (s.lane[l]).retryAt := by
    show (v.lane[l]).retryAt = _
    rw [lane, Vector.getElem_set_fin_self]
  have now : (v.report [.raise (Src.SK_LANEFAIL l)]).now = s.now := (parts .now rfl).1
  rw [State.when_false (by rw [retry, now, beq_eq_false_iff_ne.mpr quiet]; rfl)]
  exact ⟨lane, State.report_raised (parts .flt rfl) rfl, fill,
    .app State.report_parts rfl (.app parts rfl (.app State.setLane_parts rfl .refl))⟩

theorem State.laneNo_of_regs (h : u.regs = s.regs) : u.laneNo l = s.laneNo l := by
  unfold State.laneNo State.active
  rw [h]

theorem State.laneSkein_of_regs (h : u.regs = s.regs) : u.laneSkein l = s.laneSkein l := by
  unfold State.laneSkein State.active
  rw [h]

theorem State.clearMisses_parts : Only [.arr] s (s.clearMisses k) := by
  unfold State.clearMisses
  exact List.foldlRecOn _ _ .refl (fun _ hv _ _ => .app State.setArr_only rfl hv)

theorem State.sendArw_parts : Only [.now, .areq, .stream, .flt, .out] s s.sendArw := by
  unfold State.sendArw
  split
  · split
    · exact .refl
    · exact .ite .refl (.app State.sendRow_parts rfl (.app State.hit_only rfl (.app Only.set_areq rfl .refl)))
  · exact .refl

/-- A skein's LMASK as it changes (05 R211). -/
theorem State.putMask_does {v : BitVec 8} : (s.putMask k v).skein = s.skein.set k { s.skein[k] with lmask := v } ∧
    Only [.now, .skein, .stream, .arr, .areq, .flt, .out] s (s.putMask k v) := by
  have cleared : Only [.arr] s (if (s.skein[k]).lmask = 0 then s.clearMisses k else s) := .ite State.clearMisses_parts .refl
  unfold State.putMask
  dsimp only
  generalize (if (s.skein[k]).lmask = 0 then s.clearMisses k else s) = w at *
  refine ⟨?_, .app State.sendArw_parts rfl (.app State.sendRow_parts rfl (.app State.setSkein_only rfl (.app cleared rfl .refl)))⟩
  rw [State.sendArw_parts .skein rfl, State.sendRow_parts .skein rfl, State.setSkein_skein, cleared .skein rfl]

/-- A lane as it enters SERVICE (05 R211, R212). -/
def OutLane.served (x : OutLane) : OutLane := { x with st := .service, recent := false, conf := 0, confirmed := false }

/-- Lanes of a skein enter SERVICE together (05 R202). -/
theorem State.serve_does (once : ls.Nodup) :
    (∀ m : Fin 8, (s.serve k ls).lane[m] = if m ∈ ls then (s.lane[m]).served else s.lane[m]) ∧
      (s.serve k ls).skein = s.skein.set k { s.skein[k] with
        lmask := ls.foldl (fun x m => setBit x (s.laneNo m)) (s.skein[k]).lmask } ∧
      Only [.now, .lane, .skein, .stream, .arr, .areq, .flt, .out] s (s.serve k ls) := by
  obtain ⟨lanes, parts⟩ := State.eachLane_does (s := s) (f := OutLane.served) once
  have e : s.serve k ls = (ls.foldl (fun (s : State) l => s.setLane l (s.lane[l]).served) s).putMask k
      (ls.foldl (fun m l => setBit m ((ls.foldl (fun (s : State) l => s.setLane l (s.lane[l]).served) s).laneNo l))
        ((ls.foldl (fun (s : State) l => s.setLane l (s.lane[l]).served) s).skein[k]).lmask) := rfl
  generalize ls.foldl (fun (s : State) l => s.setLane l (s.lane[l]).served) s = w at *
  have no : ∀ m, w.laneNo m = s.laneNo m := fun _ => State.laneNo_of_regs (parts .regs rfl)
  have skein : w.skein = s.skein := parts .skein rfl
  simp only [no, skein] at e
  obtain ⟨masks, parts'⟩ := State.putMask_does (s := w) (k := k)
    (v := ls.foldl (fun m l => setBit m (s.laneNo l)) (s.skein[k]).lmask)
  rw [e]
  refine ⟨fun m => ?_, ?_, .app parts' rfl (.app parts rfl .refl)⟩
  · rw [parts' .lane rfl, lanes m]
  · rw [masks, skein]

theorem State.skeinIdle_of {k : Nat} (regs : u.regs = s.regs) (glade : u.glade = s.glade) (surf : u.surf = s.surf) :
    u.skeinIdle k = s.skeinIdle k := by
  unfold State.skeinIdle State.skeinWanted State.driven State.gladeDrives State.activeEntries State.active
  rw [regs, glade, surf]

/-- Where a skein is in use, its lanes in electrical idle train and every other stays (05 R210). -/
theorem State.idleSkein_used (used : s.skeinIdle k.val = false) :
    (∀ m : Fin 8, (s.lane[m]).st ≠ .eidle → (s.idleSkein k).lane[m] = s.lane[m]) ∧
      Only [.lane, .stream, .out] s (s.idleSkein k) := by
  unfold State.idleSkein
  dsimp only
  rw [used, State.when_false rfl]
  refine List.foldlRecOn (motive := fun v : State => (∀ m : Fin 8, (s.lane[m]).st ≠ .eidle → v.lane[m] = s.lane[m]) ∧
    Only [.lane, .stream, .out] s v) _ _ ⟨fun _ _ => rfl, .refl⟩ (fun v hv l _ => ?_)
  obtain ⟨lanes, parts⟩ := hv
  by_cases idle : (!false && (v.lane[l]).st == .eidle && v.clk.lockOl) = true
  · have e : State.idleLane false v l = State.train l .fresh ((v.lane[l]).exitBurst v.now) v :=
      (if_neg Bool.false_ne_true).trans (if_pos idle)
    rw [e]
    refine ⟨fun m awake => ?_, .app State.train_parts rfl parts⟩
    have other : m ≠ l := by
      rintro rfl
      rw [lanes m awake, beq_eq_false_iff_ne.mpr awake] at idle
      exact Bool.false_ne_true idle
    exact ((congrArg (·[m]) State.train_does.1).trans (Vector.getElem_set_fin_ne other)).trans (lanes m awake)
  · have e : State.idleLane false v l = v := (if_neg Bool.false_ne_true).trans (if_neg idle)
    rw [e]
    exact ⟨lanes, parts⟩

theorem State.trainedWith_nodup : (s.trainedWith l).Nodup := by
  unfold State.trainedWith
  exact outLanes_nodup.filter _

theorem State.mem_trainedWith (training : (s.lane[l]).st = .train) : l ∈ s.trainedWith l := by
  unfold State.trainedWith
  refine List.mem_filter.mpr ⟨outLanes_mem, ?_⟩
  dsimp only
  rw [training]
  simp only [beq_self_eq_true, Bool.and_self]

end
section
variable {s : State} {l : Fin 8} {t : Nat}

/-- The burst of lanes that enter SERVICE ends (05 R202, R211). -/
theorem State.burstEnd_fresh (training : (s.lane[l]).st = .train) (fresh : (s.lane[l]).from_ = .fresh)
    (used : s.skeinIdle (s.laneSkein l).val = false) :
    (∀ m ∈ s.trainedWith l, ((s.burstEnd l).lane[m]).st = .service ∧
        ((s.burstEnd l).lane[m]).attempts = (s.lane[m]).attempts) ∧
      (s.burstEnd l).skein = s.skein.set (s.laneSkein l) { s.skein[s.laneSkein l] with
        lmask := (s.trainedWith l).foldl (fun x m => setBit x (s.laneNo m)) (s.skein[s.laneSkein l]).lmask } ∧
      (∀ m : Fin 8, m ∉ s.trainedWith l → (s.lane[m]).st ≠ .eidle → (s.burstEnd l).lane[m] = s.lane[m]) ∧
      Only [.now, .lane, .skein, .stream, .arr, .areq, .flt, .out] s (s.burstEnd l) := by
  have passed := State.advance_parts (s := s) (k := s.laneSkein l) (least := planSlots (s.stream.line[l]).plan)
  have e : s.burstEnd l = if ((s.advance (s.laneSkein l) (planSlots (s.stream.line[l]).plan)).lane[l]).from_ = .fresh then
        ((s.advance (s.laneSkein l) (planSlots (s.stream.line[l]).plan)).serve (s.laneSkein l) (s.trainedWith l)).idleSkein
          (s.laneSkein l)
      else (s.trainedWith l).foldl (fun (s : State) (m : Fin 8) => s.setLane m (s.lane[m]).toHold)
        (s.advance (s.laneSkein l) (planSlots (s.stream.line[l]).plan)) := if_neg (not_not.mpr training)
  generalize s.advance (s.laneSkein l) (planSlots (s.stream.line[l]).plan) = u at *
  have lane : u.lane = s.lane := passed .lane rfl
  have no : ∀ m, u.laneNo m = s.laneNo m := fun _ => State.laneNo_of_regs (passed .regs rfl)
  simp only [lane] at e
  rw [if_pos fresh] at e
  obtain ⟨lanes, skein, parts⟩ := State.serve_does (s := u) (k := s.laneSkein l) (State.trainedWith_nodup (s := s) (l := l))
  simp only [lane] at lanes
  have skeins : u.skein = s.skein := passed .skein rfl
  simp only [no, skeins] at skein
  generalize u.serve (s.laneSkein l) (s.trainedWith l) = w at *
  have used' : w.skeinIdle (s.laneSkein l).val = false := by
    rw [State.skeinIdle_of ((parts .regs rfl).trans (passed .regs rfl)) ((parts .glade rfl).trans (passed .glade rfl))
      ((parts .surf rfl).trans (passed .surf rfl))]
    exact used
  obtain ⟨awake, parts'⟩ := State.idleSkein_used used'
  rw [e]
  refine ⟨fun m hm => ?_, (parts' .skein rfl).trans skein, fun m out st => ?_,
    .app parts' rfl (.app parts rfl (.app passed rfl .refl))⟩
  · have served : w.lane[m] = (s.lane[m]).served := (lanes m).trans (if_pos hm)
    rw [awake m (by rw [served]; exact LaneState.noConfusion), served]
    exact ⟨rfl, rfl⟩
  · have same : w.lane[m] = s.lane[m] := (lanes m).trans (if_neg out)
    rw [awake m (by rw [same]; exact st), same]

/-- The burst of lanes that return, or validate, ends (05 R211). -/
theorem State.burstEnd_hold (training : (s.lane[l]).st = .train) (old : (s.lane[l]).from_ ≠ .fresh) :
    (∀ m : Fin 8, (s.burstEnd l).lane[m] = if m ∈ s.trainedWith l then (s.lane[m]).toHold else s.lane[m]) ∧
      Only [.lane, .stream, .out] s (s.burstEnd l) := by
  have passed := State.advance_parts (s := s) (k := s.laneSkein l) (least := planSlots (s.stream.line[l]).plan)
  have e : s.burstEnd l = if ((s.advance (s.laneSkein l) (planSlots (s.stream.line[l]).plan)).lane[l]).from_ = .fresh then
        ((s.advance (s.laneSkein l) (planSlots (s.stream.line[l]).plan)).serve (s.laneSkein l) (s.trainedWith l)).idleSkein
          (s.laneSkein l)
      else (s.trainedWith l).foldl (fun (s : State) (m : Fin 8) => s.setLane m (s.lane[m]).toHold)
        (s.advance (s.laneSkein l) (planSlots (s.stream.line[l]).plan)) := if_neg (not_not.mpr training)
  generalize s.advance (s.laneSkein l) (planSlots (s.stream.line[l]).plan) = u at *
  have lane : u.lane = s.lane := passed .lane rfl
  obtain ⟨lanes, parts⟩ := State.eachLane_does (s := u) (f := OutLane.toHold) (State.trainedWith_nodup (s := s) (l := l))
  simp only [lane] at e lanes
  rw [if_neg old] at e
  rw [e]
  exact ⟨lanes, .app parts rfl (.app passed rfl .refl)⟩

theorem OutLane.toHold_st {x : OutLane} : x.toHold.st = .hold := by
  unfold OutLane.toHold
  split <;> rfl

theorem OutLane.toHold_down {x : OutLane} (down : x.from_ = .down) : x.toHold.conf = 0 ∧ x.toHold.confirmed = false := by
  rw [OutLane.toHold, if_pos down]
  exact ⟨rfl, rfl⟩

theorem OutLane.toHold_kept {x : OutLane} (other : x.from_ ≠ .down) : x.toHold = { x with st := .hold } := if_neg other

theorem slotsFor_pos {ticks code : Nat} (some : 0 < ticks) : slotsFor ticks code ≠ 0 := by
  have low : 2500 ≤ laneRate code ∧ laneRate code ≤ 16000 := by
    unfold laneRate
    by_cases known : code < 8
    · interval_cases code <;> decide
    · rw [List.getD_eq_default _ _ (by simpa using known)]
      decide
  have time : 0 < blockTime code := Nat.div_pos (by omega) (by omega)
  unfold slotsFor divUp
  exact (Nat.div_pos (by omega) time).ne'

theorem State.trainPlan_down {b : Burst} :
    ∃ c, s.trainPlan l .down b = (.eie, 16) :: (.idle, c) :: [(.train b, b.blocks)] := by
  refine ⟨slotsFor (10 * usec) s.rateCode, ?_⟩
  have idle : idleSlots (slotsFor (10 * usec) s.rateCode) = [(.idle, slotsFor (10 * usec) s.rateCode)] :=
    if_neg (slotsFor_pos (by decide))
  unfold State.trainPlan
  rw [idle]
  rfl

/-- The attempt of a lane in DOWN (05 R204, R211). -/
theorem State.attempt_does :
    (s.attempt l).lane = s.lane.set l { s.lane[l] with
        attempts := (s.lane[l]).attempts + 1, st := .train, from_ := .down, burst := (s.lane[l]).attemptBurst
        relock := false, trainAt := s.now } ∧
      (s.attempt l).out.head? = some (.burst l (s.lane[l]).attemptBurst) ∧
      (∃ c, ((s.attempt l).stream.line[l]).plan =
        (.eie, 16) :: (.idle, c) :: [(.train (s.lane[l]).attemptBurst, (s.lane[l]).attemptBurst.blocks)]) ∧
      ((s.attempt l).stream.line[l]).fill = .lidle := by
  have e : s.attempt l = State.train l .down (s.lane[l]).attemptBurst
      ((s.setLane l { s.lane[l] with attempts := (s.lane[l]).attempts + 1 }).report (eieNotes l
        ((s.setLane l { s.lane[l] with attempts := (s.lane[l]).attempts + 1 }).laneNo l))) := by
    unfold State.attempt
    dsimp only
    rw [State.setLane_self]
    rfl
  have lane : ((s.setLane l { s.lane[l] with attempts := (s.lane[l]).attempts + 1 }).report (eieNotes l
      ((s.setLane l { s.lane[l] with attempts := (s.lane[l]).attempts + 1 }).laneNo l))).lane =
      s.lane.set l { s.lane[l] with attempts := (s.lane[l]).attempts + 1 } := rfl
  have now : ((s.setLane l { s.lane[l] with attempts := (s.lane[l]).attempts + 1 }).report (eieNotes l
      ((s.setLane l { s.lane[l] with attempts := (s.lane[l]).attempts + 1 }).laneNo l))).now = s.now := rfl
  generalize (s.setLane l { s.lane[l] with attempts := (s.lane[l]).attempts + 1 }).report (eieNotes l
    ((s.setLane l { s.lane[l] with attempts := (s.lane[l]).attempts + 1 }).laneNo l)) = u at *
  obtain ⟨lanes, out, plan, fill⟩ := State.train_does (s := u) (l := l) (org := .down) (b := (s.lane[l]).attemptBurst)
  obtain ⟨c, hc⟩ := State.trainPlan_down (s := u) (l := l) (b := (s.lane[l]).attemptBurst)
  rw [e]
  refine ⟨?_, out, ⟨c, plan.trans hc⟩, fill⟩
  rw [lanes]
  simp only [lane, now, Vector.getElem_set_fin_self, Vector.set_set]

end

section
variable {s : State} {l : Fin 8} {v : Word}

theorem State.holds (hold : (s.lane[l]).st = .hold) (pending : (s.lane[l]).confirmed = false) :
    ¬((s.lane[l]).st ≠ .hold ∨ (s.lane[l]).confirmed = true) := by
  rintro (other | confirmed)
  · exact other hold
  · exact Bool.false_ne_true (pending.symm.trans confirmed)

/-- The lane with RETRY noted, and with a new series. -/
def State.retried (l : Fin 8) (s : State) : State :=
  s.setLane l { s.lane[l] with retryAt := some (s.now / tick), attempts := 0 }

/-- RETRY of a lane in FAILED (05 R211). -/
theorem State.writeRetry_failed (one : bit v 0 = true) (failed : (s.lane[l]).st = .failed) :
    s.writeRetry l v = (s.retried l).enterDown l (s.lane[l]).cause.toNat (s.lane[l]).addr.toNat := by
  unfold State.writeRetry
  rw [State.when_true one]
  dsimp only
  rw [State.when_true (beq_iff_eq.mpr failed), State.retried, State.setLane_self]
  simp only [State.setLane, Vector.set_set]

/-- RETRY of another lane is only noted (05 R218). -/
theorem State.writeRetry_other (one : bit v 0 = true) (other : (s.lane[l]).st ≠ .failed) :
    s.writeRetry l v = s.setLane l { s.lane[l] with retryAt := some (s.now / tick) } := by
  unfold State.writeRetry
  rw [State.when_true one]
  exact State.when_false (beq_eq_false_iff_ne.mpr other)

end

/-- Settles O35: each command by what it leaves of the lane that it names and of those that trained with it. -/
theorem laneTrainingHoldAndRetry : Obligations.LaneTrainingHoldAndRetry := by
  refine ⟨fun t l s on => ⟨fun training fresh used => ?_, fun training old => ?_, fun down few lock => ?_,
      fun down few lost => ?_, fun down many quiet => ?_⟩,
    fun t l s on => ⟨fun m first => ⟨fun hold pending confirmed => ?_, fun hold pending missing few => ?_, fun settled => ?_⟩,
      fun hold => ?_, fun service => ?_, fun req v write => ⟨fun one failed tries => ?_, fun one other => ?_, fun zero => ?_⟩⟩⟩
  · have run : exec (.trainingBurstEnd t l) s = .next ((s.stamp t).burstEnd l) := (onCore_on on : execTrainingBurstEnd t l s = _)
    obtain ⟨lanes, skein, rest, parts⟩ := State.burstEnd_fresh (s := s.stamp t) training fresh used
    refine ⟨_, run, State.mem_trainedWith training, lanes, ?_, fun k other => ?_, rest, .app parts rfl (.app State.stamp_only rfl .refl)⟩
    · rw [skein]
      exact congrArg SkeinTx.lmask (Vector.getElem_set_fin_self (v := s.skein))
    · rw [skein]
      exact Vector.getElem_set_fin_ne (v := s.skein) other
  · have run : exec (.trainingBurstEnd t l) s = .next ((s.stamp t).burstEnd l) := (onCore_on on : execTrainingBurstEnd t l s = _)
    obtain ⟨lanes, parts⟩ := State.burstEnd_hold (s := s.stamp t) training old
    refine ⟨_, run, State.mem_trainedWith training, fun m hm => ?_, fun m out => (lanes m).trans (if_neg out),
      .app parts rfl (.app State.stamp_only rfl .refl)⟩
    rw [lanes m, if_pos (show m ∈ (s.stamp t).trainedWith l from hm)]
    exact ⟨OutLane.toHold_st, OutLane.toHold_down (x := s.lane[m]), fun hold =>
      OutLane.toHold_kept (x := s.lane[m]) (by rw [hold]; exact TrainFrom.noConfusion)⟩
  · have run : exec (.retrainWaitExpiry t l) s = .next ((s.stamp t).attempt l) :=
      (onCore_on on : execRetrainWaitExpiry t l s = _).trans (congrArg _ ((if_neg (not_not.mpr down)).trans
        ((if_neg (Nat.not_le.mpr few)).trans (State.when_true (s := s.stamp t) lock))))
    obtain ⟨lanes, out, plan, fill⟩ := State.attempt_does (s := s.stamp t) (l := l)
    have own : ((s.stamp t).attempt l).lane[l] = { s.lane[l] with
        attempts := (s.lane[l]).attempts + 1, st := .train, from_ := .down, burst := (s.lane[l]).attemptBurst
        relock := false, trainAt := max s.now t } := (congrArg (·[l]) lanes).trans Vector.getElem_set_fin_self
    refine ⟨_, run, ?_⟩
    rw [own]
    exact ⟨rfl, rfl, rfl, rfl, out, fun m other => (congrArg (·[m]) lanes).trans (Vector.getElem_set_fin_ne (v := s.lane) other),
      plan, fill, .app State.attempt_parts rfl (.app State.stamp_only rfl .refl)⟩
  · have run : exec (.retrainWaitExpiry t l) s = .next (s.stamp t) :=
      (onCore_on on : execRetrainWaitExpiry t l s = _).trans (congrArg _ ((if_neg (not_not.mpr down)).trans
        ((if_neg (Nat.not_le.mpr few)).trans (State.when_false (s := s.stamp t) lost))))
    exact ⟨_, run, State.stamp_only⟩
  · have run : exec (.retrainWaitExpiry t l) s = .next ((s.stamp t).fail l) :=
      (onCore_on on : execRetrainWaitExpiry t l s = _).trans (congrArg _ ((if_neg (not_not.mpr down)).trans (if_pos many)))
    obtain ⟨lanes, raised, fill, parts⟩ := State.fail_does (s := s.stamp t) quiet
    exact ⟨_, run, lanes, raised, fill, .app parts rfl (.app State.stamp_only rfl .refl)⟩
  · have run : exec (.holdConfirmTimeout t l) s = .next (m.setLane l { m.lane[l] with confirmed := true }) := by
      refine (onCore_on on : execHoldConfirmTimeout t l s = _).trans (congrArg _ ?_)
      rw [← first]
      exact (if_neg (State.holds hold pending)).trans (if_pos confirmed)
    exact ⟨_, run, rfl, .app State.setLane_parts rfl .refl⟩
  · have run : exec (.holdConfirmTimeout t l) s = .next (m.enterDown l 5 (m.lane[l]).addr.toNat) := by
      refine (onCore_on on : execHoldConfirmTimeout t l s = _).trans (congrArg _ ?_)
      rw [← first]
      exact (if_neg (State.holds hold pending)).trans (if_neg (by rw [missing]; exact Bool.false_ne_true))
    obtain ⟨lanes, -, parts⟩ := State.enterDown_does (c := 5) (a := (m.lane[l]).addr.toNat) few
    refine ⟨_, run, ?_⟩
    rw [lanes, Vector.getElem_set_fin_self]
    exact ⟨rfl, rfl, rfl, rfl, fun j other => Vector.getElem_set_fin_ne other, .app parts rfl .refl⟩
  · refine (onCore_on on : execHoldConfirmTimeout t l s = _).trans (congrArg _ ?_)
    rw [← first]
    exact if_pos settled
  · have run : exec (.holdIdleTimeout t l) s = .next ((s.stamp t).train l .hold .validate) :=
      (onCore_on on : execHoldIdleTimeout t l s = _).trans (congrArg _ (State.when_true (s := s.stamp t) (beq_iff_eq.mpr hold)))
    obtain ⟨lanes, out, -, -⟩ := State.train_does (s := s.stamp t) (l := l) (org := .hold) (b := .validate)
    exact ⟨_, run, lanes, out, .app State.train_parts rfl (.app State.stamp_only rfl .refl)⟩
  · have run : exec (.serviceStableTimer t l) s = .next ((s.stamp t).setLane l { s.lane[l] with attempts := 0, recent := false }) :=
      (onCore_on on : execServiceStableTimer t l s = _).trans (congrArg _ (State.when_true (s := s.stamp t) (beq_iff_eq.mpr service)))
    exact ⟨_, run, rfl, .app State.setLane_parts rfl (.app State.stamp_only rfl .refl)⟩
  · have run : exec (.retry t req l v) s = .next
        (((s.stamp t).retried l).enterDown l (s.lane[l]).cause.toNat (s.lane[l]).addr.toNat) :=
      (onCore_on on : execRetry t req l v s = _).trans (congrArg _ (write.access.trans (State.writeRetry_failed one failed)))
    have own : ((s.stamp t).retried l).lane[l] = { s.lane[l] with retryAt := some (max s.now t / tick), attempts := 0 } :=
      Vector.getElem_set_fin_self
    obtain ⟨lanes, -, parts⟩ := State.enterDown_does (s := (s.stamp t).retried l) (l := l) (c := (s.lane[l]).cause.toNat)
      (a := (s.lane[l]).addr.toNat) (by rw [own]; exact tries)
    refine ⟨_, run, ?_⟩
    rw [lanes, Vector.getElem_set_fin_self, own]
    exact ⟨rfl, rfl, (BitVec.ofNat_toNat 4 _).trans (BitVec.setWidth_eq _), rfl,
      fun m other => (Vector.getElem_set_fin_ne other).trans (Vector.getElem_set_fin_ne (v := s.lane) other),
      .app parts rfl (.app State.setLane_parts rfl (.app State.stamp_only rfl .refl))⟩
  · have run : exec (.retry t req l v) s = .next ((s.stamp t).setLane l { s.lane[l] with retryAt := some (max s.now t / tick) }) :=
      (onCore_on on : execRetry t req l v s = _).trans (congrArg _ (write.access.trans (State.writeRetry_other one other)))
    exact ⟨_, run, rfl, .app State.setLane_parts rfl (.app State.stamp_only rfl .refl)⟩
  · exact (onCore_on write.1 : execRetry t req l v s = _).trans (congrArg _ (write.access.trans (State.when_false (s := s.stamp t) zero)))

end Sys2Proof.Machine
end

section
/-! Lane loss, markers and loopback. -/

namespace Sys2Proof.Machine

open Sys2Proof

/-! ### The loss of a lane (05 R211, R212) -/

/-- The collector but for raises that wait, which only grow, and the count of the armed inversion. -/
def Grows (s n : State) : Prop := ∃ l i, n.flt = { s.flt with raised := s.flt.raised ++ l, inj := i }

section
variable {s u n : State} {l m : Fin 8} {k : Fin 4} {c a t : Nat} {x : Fin 171}

theorem Grows.refl : Grows s s := ⟨[], s.flt.inj, by rw [List.append_nil]⟩

theorem Grows.trans (h : Grows s u) (k : Grows u n) : Grows s n := by
  obtain ⟨l, i, hl⟩ := h
  obtain ⟨m, j, hm⟩ := k
  exact ⟨l ++ m, j, by rw [hm, hl, List.append_assoc]⟩

theorem Grows.mem (h : Grows s n) (hx : x ∈ s.flt.raised) : x ∈ n.flt.raised := by
  obtain ⟨l, i, hl⟩ := h
  rw [hl]
  exact List.mem_append_left l hx

theorem Grows.of_flt (h : n.flt = s.flt) : Grows s n := ⟨[], s.flt.inj, by rw [List.append_nil, h]⟩

theorem Used.grows (h : Used s n) : Grows s n := by
  obtain ⟨i, hi⟩ := h
  exact ⟨[], i, by rw [List.append_nil, hi]⟩

theorem State.report_grows {l : List Note} : Grows s (s.report l) := ⟨l.filterMap Note.src, s.flt.inj, rfl⟩

theorem State.when_cases {b : Bool} {f : State → State} {p : State → Prop} (yes : p (f s)) (no : p s) : p (s.when b f) := by
  cases b
  · exact no
  · exact yes

theorem State.fail_grows : Grows s (s.fail l) := by
  have idle : (State.toIdle l (s.setLane l { s.lane[l] with st := .failed, idleAt := s.now })).flt = s.flt :=
    State.toIdle_parts .flt rfl
  unfold State.fail
  dsimp only
  generalize State.toIdle l (s.setLane l { s.lane[l] with st := .failed, idleAt := s.now }) = v at *
  have raised : Grows s (v.report [.raise (Src.SK_LANEFAIL l)]) := (Grows.of_flt idle).trans State.report_grows
  generalize v.report [.raise (Src.SK_LANEFAIL l)] = w at *
  exact State.when_cases (p := Grows s) (raised.trans (.of_flt rfl)) raised

/-- What `fail` leaves of its lane and of the others. -/
theorem State.fail_lanes : (((s.fail l).lane[l]).st = .down ∨ ((s.fail l).lane[l]).st = .failed) ∧
    (∀ m : Fin 8, m ≠ l → (s.fail l).lane[m] = s.lane[m]) := by
  have lane : (State.toIdle l (s.setLane l { s.lane[l] with st := .failed, idleAt := s.now })).lane =
      s.lane.set l { s.lane[l] with st := .failed, idleAt := s.now } := State.toIdle_parts .lane rfl
  unfold State.fail
  dsimp only
  generalize State.toIdle l (s.setLane l { s.lane[l] with st := .failed, idleAt := s.now }) = v at *
  have lane' : (v.report [.raise (Src.SK_LANEFAIL l)]).lane =
      s.lane.set l { s.lane[l] with st := .failed, idleAt := s.now } := lane
  generalize v.report [.raise (Src.SK_LANEFAIL l)] = w at *
  refine State.when_cases (p := fun v : State => ((v.lane[l]).st = .down ∨ (v.lane[l]).st = .failed) ∧
    (∀ m : Fin 8, m ≠ l → v.lane[m] = s.lane[m])) ?_ ?_
  · rw [State.setLane_self]
    exact ⟨.inl rfl, fun m other => by rw [State.setLane_other other, lane', Vector.getElem_set_fin_ne other]⟩
  · rw [lane', Vector.getElem_set_fin_self]
    exact ⟨.inr rfl, fun m other => Vector.getElem_set_fin_ne other⟩

/-- The lane in DOWN, before it is judged whether its attempts are used up. -/
def State.placedDown (s : State) (l : Fin 8) (c a : Nat) : State :=
  (s.setLane l ((s.lane[l]).downed c a s.now (laneAt s.active l.val))).putLine l (s.stream.line[l]).skein
    (s.stream.line[l]).no [] .quiet

theorem State.enterDown_eq : s.enterDown l c a = (s.placedDown l c a).when
    (decide ((s.placedDown l c a).rtMax l ≤ (s.lane[l]).attempts.toNat)) (State.fail l) := rfl

theorem State.placedDown_does : (s.placedDown l c a).lane = s.lane.set l ((s.lane[l]).downed c a s.now (laneAt s.active l.val)) ∧
    Only [.lane, .stream, .out] s (s.placedDown l c a) :=
  ⟨State.putLine_parts .lane rfl, .app State.putLine_parts rfl (.app State.setLane_parts rfl .refl)⟩

theorem State.enterDown_grows : Grows s (s.enterDown l c a) := by
  have placed : Grows s (s.placedDown l c a) := .of_flt (State.placedDown_does.2 .flt rfl)
  rw [State.enterDown_eq]
  exact State.when_cases (p := Grows s) (placed.trans State.fail_grows) placed

/-- A lane's entry to DOWN leaves every other lane; it is in DOWN, or in FAILED with its attempts used up (05 R211, R212). -/
theorem State.enterDown_lanes : (((s.enterDown l c a).lane[l]).st = .down ∨ ((s.enterDown l c a).lane[l]).st = .failed) ∧
    (∀ m : Fin 8, m ≠ l → (s.enterDown l c a).lane[m] = s.lane[m]) := by
  obtain ⟨lane, -⟩ := State.placedDown_does (s := s) (l := l) (c := c) (a := a)
  rw [State.enterDown_eq]
  generalize s.placedDown l c a = v at *
  have rest : ∀ m : Fin 8, m ≠ l → v.lane[m] = s.lane[m] := fun m other => by rw [lane, Vector.getElem_set_fin_ne other]
  refine State.when_cases (p := fun v : State => ((v.lane[l]).st = .down ∨ (v.lane[l]).st = .failed) ∧
    (∀ m : Fin 8, m ≠ l → v.lane[m] = s.lane[m])) ?_ ?_
  · obtain ⟨st, others⟩ := State.fail_lanes (s := v) (l := l)
    exact ⟨st, fun m other => (others m other).trans (rest m other)⟩
  · refine ⟨.inl ?_, rest⟩
    rw [lane, Vector.getElem_set_fin_self]
    rfl

theorem State.loseLane_eq (service : (s.lane[l]).st = .service) : s.loseLane l c a =
    ((s.leaveMask l).report [.raise (Src.SK_LANEDOWN l), .tally (Reg.SK_DOWNCNT l.val) 1]).enterDown l
      (if (s.lane[l]).recent then 6 else c) a := if_neg (not_not.mpr service)

theorem clearBit_of_clear {w i : Nat} {v : BitVec w} (h : bit v i = false) : clearBit v i = v := by
  refine BitVec.eq_of_getLsbD_eq (fun j wide => ?_)
  show bit (clearBit v i) j = bit v j
  by_cases e : j = i
  · subst e
    rw [bit_clearBit, h]
    simp
  · rw [bit_clearBit]
    simp [e]

/-- LMASK without a lane (04 R174, 03 R106). -/
theorem State.dropMask_mask : ((s.dropMask l).skein[s.laneSkein l]).lmask =
      clearBit (s.skein[s.laneSkein l]).lmask (s.laneNo l) ∧
    (∀ k : Fin 4, k ≠ s.laneSkein l → (s.dropMask l).skein[k] = s.skein[k]) := by
  by_cases out : bit (s.skein[s.laneSkein l]).lmask (s.laneNo l) = true
  · generalize ho : (s.skein[s.laneSkein l]).lose s.now (fld (s.active Reg.AL_POLL) 8 13) s.rateCode (s.laneNo l)
      (s.shadeSkein (s.laneSkein l)) = y
    have e : s.dropMask l = (s.setSkein (s.laneSkein l) y).when (y.lmask == 0) (State.endStream (s.laneSkein l)) := by
      rw [← ho]
      exact if_neg (by rw [out]; exact Bool.false_ne_true)
    have skein : (s.dropMask l).skein = s.skein.set (s.laneSkein l) y := by
      rw [e]
      exact State.when_cases (p := fun v : State => v.skein = _) (State.endStream_parts .skein rfl) rfl
    rw [skein, Vector.getElem_set_fin_self]
    exact ⟨by rw [← ho]; rfl, fun k other => Vector.getElem_set_fin_ne other⟩
  · have e : s.dropMask l = s := if_pos (by simpa using out)
    rw [e, clearBit_of_clear (by simpa using out)]
    exact ⟨rfl, fun _ _ => rfl⟩

theorem State.leaveMask_mask : ((s.leaveMask l).skein[s.laneSkein l]).lmask =
      clearBit (s.skein[s.laneSkein l]).lmask (s.laneNo l) ∧
    (∀ k : Fin 4, k ≠ s.laneSkein l → (s.leaveMask l).skein[k] = s.skein[k]) := by
  by_cases out : bit (s.skein[s.laneSkein l]).lmask (s.laneNo l) = true
  · have e : (s.leaveMask l).skein = (s.dropMask l).skein := by
      unfold State.leaveMask
      dsimp only
      rw [if_neg (by rw [out]; exact Bool.false_ne_true)]
      exact State.sendRow_parts .skein rfl
    rw [e]
    exact State.dropMask_mask
  · have e : s.leaveMask l = s := if_pos (by simpa using out)
    rw [e, clearBit_of_clear (by simpa using out)]
    exact ⟨rfl, fun _ _ => rfl⟩

/-- A lane in SERVICE with attempts left is lost (05 R211, R212). -/
theorem State.loseLane_does (canon : s.Canonical) (service : (s.lane[l]).st = .service)
    (few : (s.lane[l]).attempts.toNat < s.rtMax l) :
    (s.loseLane l c a).lane = s.lane.set l
        ((s.lane[l]).downed (if (s.lane[l]).recent then 6 else c) a s.now (laneAt s.active l.val)) ∧
      ((s.loseLane l c a).skein[s.laneSkein l]).lmask = clearBit (s.skein[s.laneSkein l]).lmask (s.laneNo l) ∧
      (∀ k : Fin 4, k ≠ s.laneSkein l → (s.loseLane l c a).skein[k] = s.skein[k]) ∧
      lget (s.loseLane l c a).live (Reg.SK_DOWNCNT l.val) = satAdd (lget s.live (Reg.SK_DOWNCNT l.val)) 1 ∧
      LiveOnly [Reg.SK_DOWNCNT l.val] s (s.loseLane l c a) ∧ Src.SK_LANEDOWN l ∈ (s.loseLane l c a).flt.raised := by
  obtain ⟨mask, rest⟩ := State.leaveMask_mask (s := s) (l := l)
  have left := State.leaveMask_parts (s := s) (l := l)
  rw [State.loseLane_eq service]
  generalize s.leaveMask l = u at *
  have live : lget (u.report [.raise (Src.SK_LANEDOWN l), .tally (Reg.SK_DOWNCNT l.val) 1]).live (Reg.SK_DOWNCNT l.val) =
      satAdd (lget s.live (Reg.SK_DOWNCNT l.val)) 1 := by
    refine State.report_counts canon.live (left .live rfl) ?_
    exact if_pos rfl
  have lives : LiveOnly [Reg.SK_DOWNCNT l.val] s (u.report [.raise (Src.SK_LANEDOWN l), .tally (Reg.SK_DOWNCNT l.val) 1]) :=
    State.report_liveOnly_of (fun _ h => h) (left .live rfl)
  have raised : Src.SK_LANEDOWN l ∈ (u.report [.raise (Src.SK_LANEDOWN l), .tally (Reg.SK_DOWNCNT l.val) 1]).flt.raised :=
    List.mem_append_right _ (List.mem_singleton_self _)
  have told : Only [.live, .flt] u (u.report [.raise (Src.SK_LANEDOWN l), .tally (Reg.SK_DOWNCNT l.val) 1]) :=
    State.report_parts.mono rfl
  generalize u.report [.raise (Src.SK_LANEDOWN l), .tally (Reg.SK_DOWNCNT l.val) 1] = w at *
  have lane : w.lane = s.lane := (told .lane rfl).trans (left .lane rfl)
  have regs : w.regs = s.regs := (told .regs rfl).trans (left .regs rfl)
  have now : w.now = s.now := (told .now rfl).1.trans (left .now rfl).1
  have skein : w.skein = u.skein := told .skein rfl
  have active : laneAt w.active l.val = laneAt s.active l.val := by
    unfold State.active
    rw [regs]
  have few' : (w.lane[l]).attempts.toNat < w.rtMax l := by
    rw [State.rtMax_of_regs regs]
    simp only [lane]
    exact few
  obtain ⟨lanes, -, parts⟩ := State.enterDown_does (c := if (s.lane[l]).recent then 6 else c) (a := a) few'
  rw [parts .skein rfl, parts .live rfl, parts .flt rfl, lanes, active, now]
  simp only [lane, skein]
  exact ⟨trivial, mask, rest, live, fun a ha => (congrArg (lget · a) (parts .live rfl)).trans (lives a ha), raised⟩

theorem State.loseLane_grows : Grows s (s.loseLane l c a) := by
  by_cases service : (s.lane[l]).st = .service
  · rw [State.loseLane_eq service]
    exact (State.leaveMask_used.grows).trans (State.report_grows.trans State.enterDown_grows)
  · rw [State.loseLane, if_pos service]
    exact .refl

theorem State.loseLane_lanes (service : (s.lane[l]).st = .service) :
    (((s.loseLane l c a).lane[l]).st = .down ∨ ((s.loseLane l c a).lane[l]).st = .failed) ∧
      (∀ m : Fin 8, m ≠ l → (s.loseLane l c a).lane[m] = s.lane[m]) := by
  rw [State.loseLane_eq service]
  have lane : ((s.leaveMask l).report [.raise (Src.SK_LANEDOWN l), .tally (Reg.SK_DOWNCNT l.val) 1]).lane = s.lane :=
    State.leaveMask_parts .lane rfl
  generalize (s.leaveMask l).report [.raise (Src.SK_LANEDOWN l), .tally (Reg.SK_DOWNCNT l.val) 1] = w at *
  obtain ⟨st, rest⟩ := State.enterDown_lanes (s := w) (l := l) (c := if (s.lane[l]).recent then 6 else c) (a := a)
  simp only [lane] at rest
  exact ⟨st, rest⟩

end

/-! ### Lanes one after another -/

section
variable {s : State} {ls : List (Fin 8)} {g : State → Fin 8 → State} {Q : Fin 8 → OutLane → OutLane → Prop} {I : State → Prop}

/-- What an event does to its own lane, it does to each of a list of lanes. -/
theorem State.foldLanes (once : ls.Nodup) (start : I s) (keep : ∀ v l, I v → I (g v l))
    (own : ∀ v l, I v → Q l (v.lane[l]) ((g v l).lane[l])) (rest : ∀ v l, I v → ∀ m : Fin 8, m ≠ l → (g v l).lane[m] = v.lane[m]) :
    I (ls.foldl g s) ∧ ∀ m : Fin 8, (m ∈ ls → Q m (s.lane[m]) ((ls.foldl g s).lane[m])) ∧
      (m ∉ ls → (ls.foldl g s).lane[m] = s.lane[m]) := by
  induction ls generalizing s with
  | nil => exact ⟨start, fun m => ⟨nofun, fun _ => rfl⟩⟩
  | cons x r ih =>
    obtain ⟨fresh, others⟩ := List.nodup_cons.mp once
    obtain ⟨inv, lanes⟩ := ih others (keep s x start)
    refine ⟨inv, fun m => ⟨fun hm => ?_, fun hm => ?_⟩⟩
    · rw [List.foldl_cons]
      rcases List.mem_cons.mp hm with rfl | hm
      · rw [(lanes m).2 fresh]
        exact own s m start
      · have other : m ≠ x := fun e => fresh (e ▸ hm)
        rw [← rest s x start m other]
        exact (lanes m).1 hm
    · rw [List.mem_cons, not_or] at hm
      rw [List.foldl_cons, (lanes m).2 hm.2, rest s x start m hm.1]

end

/-! ### The synthesiser of the output lanes (05 R213) -/

section
variable {s u : State} {l : Fin 8} {t : Nat}

theorem State.pllLane_parts : Only [.live, .skein, .lane, .stream, .flt, .out] s (State.pllLane s l) := by
  unfold State.pllLane
  split
  · exact .refl
  · exact .refl
  · exact .app State.setLane_parts rfl (.app State.loseLane_parts rfl .refl)
  · exact .app State.setLane_parts rfl (.app State.enterDown_parts rfl .refl)

theorem State.pllLane_grows : Grows s (State.pllLane s l) := by
  unfold State.pllLane
  split
  · exact .refl
  · exact .refl
  · exact State.loseLane_grows.trans (.of_flt rfl)
  · exact State.enterDown_grows.trans (.of_flt rfl)

/-- What the synthesiser's loss leaves of a lane (05 R211, R213). -/
def Pll (_ : Fin 8) (x y : OutLane) : Prop :=
  (x.st = .service → (y.st = .down ∨ y.st = .failed) ∧ y.relock = true) ∧ (x.st = .off ∨ x.st = .loop → y = x)

theorem State.pllLane_lanes : Pll l (s.lane[l]) ((State.pllLane s l).lane[l]) ∧
    (∀ m : Fin 8, m ≠ l → (State.pllLane s l).lane[m] = s.lane[m]) := by
  unfold State.pllLane
  split
  next st => exact ⟨⟨fun h => absurd (st.symm.trans h) LaneState.noConfusion, fun _ => rfl⟩, fun _ _ => rfl⟩
  next st => exact ⟨⟨fun h => absurd (st.symm.trans h) LaneState.noConfusion, fun _ => rfl⟩, fun _ _ => rfl⟩
  next st =>
    obtain ⟨own, rest⟩ := State.loseLane_lanes (c := 1) (a := 0) st
    rw [State.setLane_self]
    refine ⟨⟨fun _ => ⟨own, rfl⟩, fun h => ?_⟩, fun m other => (State.setLane_other other).trans (rest m other)⟩
    rw [st] at h
    exact absurd h (by simp)
  next off loop service =>
    obtain ⟨-, rest⟩ := State.enterDown_lanes (s := s) (l := l) (c := 1) (a := 0)
    refine ⟨⟨fun h => absurd h service, fun h => ?_⟩, fun m other => (State.setLane_other other).trans (rest m other)⟩
    rcases h with h | h
    · exact absurd h off
    · exact absurd h loop

theorem State.relockLane_parts : Only [.lane, .stream, .out] s (State.relockLane s l) := by
  unfold State.relockLane
  exact .ite State.offCheck_parts (.ite State.attempt_parts .refl)

theorem State.laneOn_of (regs : u.regs = s.regs) (glade : u.glade = s.glade) (cmt : u.cmt = s.cmt) : u.laneOn l = s.laneOn l := by
  unfold State.laneOn State.active
  rw [regs, glade, cmt]

/-- What the synthesiser's relock leaves of a lane of a block (05 R213). -/
def Relocked (s : State) (l : Fin 8) (x y : OutLane) : Prop :=
  (x.st = .off → s.laneOn l = true → y.st = .train ∧ y.burst = .full ∧ y.from_ = .fresh) ∧
    (x.st = .service ∨ x.st = .hold → y = x)

theorem State.offCheck_on (off : (s.lane[l]).st = .off) (on : s.laneOn l = true) (lock : s.clk.lockOl = true) :
    s.offCheck l = State.train l .fresh .full (s.setLane l ((s.lane[l]).tune (laneAt s.active l.val))) :=
  State.when_true (by rw [off, on, lock]; rfl)

theorem State.offCheck_off (h : (s.lane[l]).st ≠ .off ∨ s.laneOn l = false) : s.offCheck l = s :=
  State.when_false (by
    rcases h with st | off
    · rw [beq_eq_false_iff_ne.mpr st]
      rfl
    · rw [off, Bool.and_false, Bool.false_and])

theorem State.offCheck_other : ∀ m : Fin 8, m ≠ l → (s.offCheck l).lane[m] = s.lane[m] := by
  intro m other
  unfold State.offCheck
  refine State.when_cases (p := fun v : State => v.lane[m] = s.lane[m]) ?_ rfl
  rw [State.train_does.1, Vector.getElem_set_fin_ne other]
  exact State.setLane_other other

theorem State.relockLane_lanes (lock : s.clk.lockOl = true) : Relocked s l (s.lane[l]) ((State.relockLane s l).lane[l]) ∧
    (∀ m : Fin 8, m ≠ l → (State.relockLane s l).lane[m] = s.lane[m]) := by
  by_cases off : (s.lane[l]).st = .off
  · have e : State.relockLane s l = s.offCheck l := if_pos off
    rw [e]
    refine ⟨⟨fun _ on => ?_, fun h => ?_⟩, State.offCheck_other⟩
    · rw [State.offCheck_on off on lock, State.train_does.1, Vector.getElem_set_fin_self]
      exact ⟨rfl, rfl, rfl⟩
    · rw [off] at h
      exact absurd h (by simp)
  · by_cases due : ((s.lane[l]).st = .down && decide ((s.lane[l]).downAt + s.rtWait l ≤ s.now)) = true
    · have e : State.relockLane s l = s.attempt l := (if_neg off).trans (if_pos due)
      rw [e, State.attempt_does.1]
      refine ⟨⟨fun h => absurd h off, fun h => ?_⟩, fun m other => Vector.getElem_set_fin_ne other⟩
      have down : (s.lane[l]).st = .down := of_decide_eq_true (Bool.and_eq_true_iff.mp due).1
      rw [down] at h
      exact absurd h (by simp)
    · have e : State.relockLane s l = s := (if_neg off).trans (if_neg due)
      rw [e]
      exact ⟨⟨fun h => absurd h off, fun _ => rfl⟩, fun _ _ => rfl⟩

/-! ### Marker slots (05 R194, R209) -/

/-- What a marker slot leaves of a lane. -/
def Marked (s : State) (l : Fin 8) (x y : OutLane) : Prop :=
  (x.st ≠ .service → y = x) ∧
    (x.st = .service → y.swing = stepTo x.swing (laneAt s.active l.val).swing ∧ y.st = .service)

theorem State.markLane_parts {mcnt : BitVec 24} : Only [.lane, .out] s (State.markLane mcnt s l) := by
  unfold State.markLane
  exact .ite (.app State.report_parts rfl (.app State.setLane_parts rfl .refl)) .refl

theorem OutLane.stepTune_marked {x : OutLane} : Marked s l x (x.stepTune (laneAt s.active l.val)) := by
  unfold OutLane.stepTune
  split
  next st => exact ⟨fun h => absurd st h, fun _ => ⟨rfl, st⟩⟩
  next st => exact ⟨fun _ => rfl, fun h => absurd h st⟩

theorem State.markLane_lanes {mcnt : BitVec 24} : Marked s l (s.lane[l]) ((State.markLane mcnt s l).lane[l]) ∧
    (∀ m : Fin 8, m ≠ l → (State.markLane mcnt s l).lane[m] = s.lane[m]) := by
  by_cases on : (s.lane[l]).transmits = true
  · have e : (State.markLane mcnt s l).lane = s.lane.set l ((s.lane[l]).stepTune (laneAt s.active l.val)) := by
      rw [State.markLane, if_pos on]
      rfl
    rw [e, Vector.getElem_set_fin_self]
    exact ⟨OutLane.stepTune_marked, fun m other => Vector.getElem_set_fin_ne other⟩
  · rw [State.markLane, if_neg on]
    refine ⟨⟨fun _ => rfl, fun st => absurd ?_ on⟩, fun _ _ => rfl⟩
    rw [OutLane.transmits, st]
    rfl

theorem skeinLanes_nodup {f : Nat → Word} {k : Nat} : (skeinLanes f k).Nodup := outLanes_nodup.filter _

end

/-! ### The pattern checker (05 R220) -/

section
variable {k run n : Nat} {r : BitVec 31} {x : OutLane} {b : Bool}

theorem prbsTaps_bounds : 0 < (prbsTaps k).2 ∧ (prbsTaps k).2 < (prbsTaps k).1 ∧ (prbsTaps k).1 ≤ 31 := by
  unfold prbsTaps
  split_ifs <;> decide

/-- Some of the bits that give the next one are set. -/
theorem fld_ne_zero_iff : fld r 0 n ≠ 0 ↔ ∃ j, j < n ∧ r.getLsbD j = true := by
  have low : ∀ j, (fld r 0 n).testBit j = (decide (j < n) && r.getLsbD j) := fun j => by
    rw [fld, Nat.testBit_mod_two_pow, pow_zero, Nat.div_one]
    rfl
  constructor
  · intro h
    obtain ⟨j, hj⟩ := Nat.exists_testBit_of_ne_zero h
    rw [low, Bool.and_eq_true, decide_eq_true_eq] at hj
    exact ⟨j, hj⟩
  · rintro ⟨j, small, set⟩ zero
    have h := low j
    rw [zero, Nat.zero_testBit, set, decide_eq_true small] at h
    exact absurd h.symm (by decide)

theorem prbsShift_bit {j : Nat} (wide : j < 31) :
    (prbsShift r b).getLsbD j = if j = 0 then b else r.getLsbD (j - 1) := by
  have one : (BitVec.ofNat 31 b.toNat).getLsbD j = (decide (j = 0) && b) := by
    cases b
    · simp
    · rw [Bool.and_true]
      show (1#31).getLsbD j = _
      simp [BitVec.getLsbD_one]
  rw [prbsShift, BitVec.getLsbD_or, BitVec.getLsbD_shiftLeft, one]
  rcases Nat.eq_zero_or_pos j with rfl | h
  · simp
  · simp [wide, Nat.not_lt.mpr h, Nat.ne_of_gt h]

/-- The register of the pattern never runs empty: the bit that leaves it feeds the one that enters. -/
theorem prbsShift_alive (h : fld r 0 (prbsTaps k).1 ≠ 0) : fld (prbsShift r (prbsNext k r)) 0 (prbsTaps k).1 ≠ 0 := by
  obtain ⟨pos, below, wide⟩ := prbsTaps_bounds (k := k)
  rw [fld_ne_zero_iff] at h ⊢
  obtain ⟨j, small, set⟩ := h
  by_cases last : j + 1 < (prbsTaps k).1
  · refine ⟨j + 1, last, ?_⟩
    rw [prbsShift_bit (by omega), if_neg (by omega), Nat.add_sub_cancel]
    exact set
  · by_cases tap : r.getLsbD ((prbsTaps k).2 - 1) = true
    · refine ⟨(prbsTaps k).2, below, ?_⟩
      rw [prbsShift_bit (by omega), if_neg (by omega)]
      exact tap
    · refine ⟨0, by omega, ?_⟩
      have top : j = (prbsTaps k).1 - 1 := by omega
      rw [prbsShift_bit (by omega), if_pos rfl, prbsNext, ← top, set, Bool.eq_false_iff.mpr tap]
      rfl

theorem checkBit_next (alive : fld x.prbsReg 0 (prbsTaps k).1 ≠ 0) (unlocked : x.prbsLock = false) :
    checkBit k (x, n) (prbsNext k x.prbsReg) = ({ x with
      prbsReg := prbsShift x.prbsReg (prbsNext k x.prbsReg), prbsRun := x.prbsRun + 1
      prbsLock := decide (64 ≤ x.prbsRun + 1) }, n) := by
  unfold checkBit
  dsimp only
  rw [if_neg (by rw [unlocked]; exact Bool.false_ne_true), if_pos ⟨rfl, alive⟩]

/-- The bits of the pattern that bring the run to 64 lock the checker, without an error. -/
theorem checkBits_lock (alive : fld x.prbsReg 0 (prbsTaps k).1 ≠ 0) (unlocked : x.prbsLock = false)
    (sum : x.prbsRun + (n + 1) = 64) :
    ((prbsBits k x.prbsReg (n + 1)).foldl (checkBit k) (x, 0)).1.prbsLock = true ∧
      ((prbsBits k x.prbsReg (n + 1)).foldl (checkBit k) (x, 0)).2 = 0 := by
  induction n generalizing x with
  | zero =>
    rw [prbsBits, prbsBits, List.foldl_cons, List.foldl_nil, checkBit_next alive unlocked]
    exact ⟨decide_eq_true (by omega), rfl⟩
  | succ n ih =>
    rw [prbsBits, List.foldl_cons, checkBit_next alive unlocked]
    exact ih (x := { x with
      prbsReg := prbsShift x.prbsReg (prbsNext k x.prbsReg), prbsRun := x.prbsRun + 1
      prbsLock := decide (64 ≤ x.prbsRun + 1) }) (prbsShift_alive alive) (decide_eq_false (by omega))
      (by show x.prbsRun + 1 + (n + 1) = 64; omega)

end

/-! ### A lane's test modes (05 R219, R220) -/

section
variable {s n : State} {l : Fin 8} {v : Word} {m : Nat} {t : Nat}

/-- The word that a write of SK_LOOP leaves. -/
def loopWord (v : Word) (m : Nat) : Word := at32 0 m ||| (v &&& 0x70)

theorem loopWord_prbs (small : m < 4) : fld (loopWord v m) 4 2 = fld v 4 2 := by
  have field : fld (v &&& 0x70) 4 2 = fld v 4 2 := by
    refine Nat.eq_of_testBit_eq (fun i => ?_)
    rw [fld_testBit, fld_testBit, bit, bit, BitVec.getLsbD_and]
    by_cases low : i < 2
    · have mask : BitVec.getLsbD (0x70 : Word) (4 + i) = true := by
        interval_cases i <;> rfl
      rw [mask, Bool.and_true]
    · rw [decide_eq_false low, Bool.false_and, Bool.false_and]
  rw [loopWord, fld_or, fld_at32_above (k := 2) (by decide) (by decide) small, field, Nat.zero_or]

/-- The lane that a write of SK_LOOP leaves. -/
def State.looped (s : State) (l : Fin 8) (v : Word) (m : Nat) : OutLane :=
  { s.lane[l] with
    st := if m ≠ 0 ∧ (s.lane[l]).st = .off then .loop else if m = 0 ∧ (s.lane[l]).st = .loop then .off else (s.lane[l]).st
    lbLock := (s.lane[l]).lbLock && decide (m = fld (rget s.regs (Reg.SK_LOOP l.val)) 0 2)
    prbsLock := (s.lane[l]).prbsLock && loopWord v m == rget s.regs (Reg.SK_LOOP l.val)
    prbsRun := if loopWord v m = rget s.regs (Reg.SK_LOOP l.val) then (s.lane[l]).prbsRun else 0 }

/-- The notes of a write of SK_LOOP (05 R219, R220). -/
def loopNotes (s : State) (l : Fin 8) (v : Word) (m : Nat) : List Note :=
  [.word (Reg.SK_LOOP l.val) (loopWord v m)] ++
    noteIf (bit v 6 && !bit (rget s.regs (Reg.SK_LOOP l.val)) 6) [.word (Reg.SK_PRBSERR l.val) 0] ++
    noteIf (((s.looped l v m).st == .off || (s.looped l v m).st == .loop) && loopWord v m != rget s.regs (Reg.SK_LOOP l.val))
      [.send (.pins l (s.loopDrive l m (fld (loopWord v m) 4 2)))]

theorem State.writeLoop_eq (mode : s.loopMode l v = m) :
    s.writeLoop l v = State.offCheck l ((s.setLane l (s.looped l v m)).report (loopNotes s l v m)) := by
  rw [← mode]
  rfl

theorem loopNotes_parts : (((loopNotes s l v m).flatMap Note.parts).all fun p => [.regs, .out].contains p) = true := by
  rw [loopNotes]
  exact parts_append (parts_append rfl (noteIf_parts rfl)) (noteIf_parts rfl)

theorem loopNotes_words : (loopNotes s l v m).flatMap Note.words ⊆ [Reg.SK_LOOP l, Reg.SK_PRBSERR l] := by
  rw [loopNotes, List.flatMap_append, List.flatMap_append]
  refine List.append_subset.mpr ⟨List.append_subset.mpr ⟨?_, noteIf_words ?_⟩, noteIf_words ?_⟩
  · exact fun a ha => List.mem_cons.mpr (.inl (List.mem_singleton.mp ha))
  · exact fun a ha => List.mem_cons.mpr (.inr ha)
  · exact List.nil_subset _

theorem loopNotes_word : (loopNotes s l v m).foldl (Note.onWord (Reg.SK_LOOP l)) (rget s.regs (Reg.SK_LOOP l)) = loopWord v m := by
  have apart : Reg.SK_LOOP l ≠ Reg.SK_PRBSERR l := by
    unfold Reg.SK_LOOP Reg.SK_PRBSERR
    omega
  rw [loopNotes, List.foldl_append, List.foldl_append, noteIf_onWord, noteIf_onWord]
  simp only [List.foldl_cons, List.foldl_nil, Note.onWord, if_true, if_neg apart, ite_self]

theorem loopNotes_sent (test : ((s.looped l v m).st == .off || (s.looped l v m).st == .loop) = true)
    (change : loopWord v m ≠ rget s.regs (Reg.SK_LOOP l)) :
    (loopNotes s l v m).filterMap Note.sent = [.pins l (s.loopDrive l m (fld (loopWord v m) 4 2))] := by
  have quiet : (noteIf (bit v 6 && !bit (rget s.regs (Reg.SK_LOOP l.val)) 6)
      [.word (Reg.SK_PRBSERR l.val) 0]).filterMap Note.sent = [] := by
    unfold noteIf
    split <;> rfl
  rw [loopNotes, List.filterMap_append, List.filterMap_append, quiet, test, bne_iff_ne.mpr change]
  rfl

theorem State.laneOn_kept (regs : RegsOnly [Reg.SK_LOOP l, Reg.SK_PRBSERR l] s n) (glade : n.glade = s.glade) (cmt : n.cmt = s.cmt) :
    n.laneOn l = s.laneOn l := by
  have set : laneAt n.active l.val = laneAt s.active l.val := by
    unfold laneAt State.active ract
    rw [regs]
    rw [List.mem_cons, List.mem_singleton, not_or]
    unfold Reg.SK_LCFG Reg.SK_LOOP Reg.SK_PRBSERR
    omega
  unfold State.laneOn
  rw [set, glade, cmt]

/-- A write of SK_LOOP after which the lane is not to leave OFF. -/
theorem State.writeLoop_does (canon : s.Canonical) (mode : s.loopMode l v = m)
    (rests : (s.looped l v m).st ≠ .off ∨ s.laneOn l = false) :
    (s.writeLoop l v).lane = s.lane.set l (s.looped l v m) ∧ rget (s.writeLoop l v).regs (Reg.SK_LOOP l) = loopWord v m ∧
      (s.writeLoop l v).out = ((loopNotes s l v m).filterMap Note.sent).reverse ++ s.out ∧
      RegsOnly [Reg.SK_LOOP l, Reg.SK_PRBSERR l] s (s.writeLoop l v) ∧ Only [.lane, .regs, .out] s (s.writeLoop l v) := by
  rw [State.writeLoop_eq mode]
  have regs : RegsOnly [Reg.SK_LOOP l, Reg.SK_PRBSERR l] s ((s.setLane l (s.looped l v m)).report (loopNotes s l v m)) :=
    State.report_regsOnly_of loopNotes_words rfl
  have word : rget ((s.setLane l (s.looped l v m)).report (loopNotes s l v m)).regs (Reg.SK_LOOP l) = loopWord v m :=
    State.report_reads canon.regs rfl loopNotes_word
  have out : ((s.setLane l (s.looped l v m)).report (loopNotes s l v m)).out =
    ((loopNotes s l v m).filterMap Note.sent).reverse ++ s.out := rfl
  have lane : ((s.setLane l (s.looped l v m)).report (loopNotes s l v m)).lane = s.lane.set l (s.looped l v m) := rfl
  have told : Only [.lane, .regs, .out] s ((s.setLane l (s.looped l v m)).report (loopNotes s l v m)) :=
    .app (State.report_parts.mono loopNotes_parts) rfl (.app State.setLane_parts rfl .refl)
  generalize (s.setLane l (s.looped l v m)).report (loopNotes s l v m) = u at *
  have calm : u.offCheck l = u := State.offCheck_off (by
    rw [State.laneOn_kept regs (told .glade rfl) (told .cmt rfl), lane, Vector.getElem_set_fin_self]
    exact rests)
  rw [calm]
  exact ⟨lane, word, out, regs, told⟩

theorem State.testLock_pattern {bits : List Bool} (test : (s.lane[l]).st = .loop ∨ (s.lane[l]).st = .off)
    (on : bit (rget s.regs (Reg.SK_LOOP l)) 6 = true) (prbs : fld (rget s.regs (Reg.SK_LOOP l)) 4 2 ≠ 0) :
    s.testLock l (.pattern bits) =
      (s.setLane l (bits.foldl (checkBit (fld (rget s.regs (Reg.SK_LOOP l)) 4 2)) (s.lane[l], 0)).1).report
        [.count (Reg.SK_PRBSERR l.val) (bits.foldl (checkBit (fld (rget s.regs (Reg.SK_LOOP l)) 4 2)) (s.lane[l], 0)).2] := by
  unfold State.testLock
  dsimp only
  refine State.when_true ?_
  have st : ((s.lane[l]).st == .off || (s.lane[l]).st == .loop) = true := by
    rcases test with h | h <;> rw [h] <;> rfl
  rw [st, on, decide_eq_true prbs]
  rfl

theorem State.testLock_blocks {hdrs : List (BitVec 2)} (test : (s.lane[l]).st = .loop)
    (mode : fld (rget s.regs (Reg.SK_LOOP l)) 0 2 = 1 ∨ fld (rget s.regs (Reg.SK_LOOP l)) 0 2 = 2) (locked : hdrsLock hdrs = true) :
    s.testLock l (.blocks hdrs) = s.setLane l { s.lane[l] with lbLock := true } := by
  refine State.when_true ?_
  have one : (decide (fld (rget s.regs (Reg.SK_LOOP l)) 0 2 = 1) || decide (fld (rget s.regs (Reg.SK_LOOP l)) 0 2 = 2)) = true := by
    rcases mode with h | h <;> rw [h] <;> rfl
  rw [test, one, locked]
  rfl

/-! ### A marker slot -/

variable {k : Fin 4}

/-- What a marker slot leaves of the lanes of its skein, and of the others. -/
theorem State.markSkein_does : (s.markSkein k).skein = s.skein.set k { s.skein[k] with mcnt := (s.skein[k]).mcnt + 1 } ∧
    (∀ m : Fin 8, (m ∈ skeinLanes s.active k → Marked s m (s.lane[m]) ((s.markSkein k).lane[m])) ∧
      (m ∉ skeinLanes s.active k → (s.markSkein k).lane[m] = s.lane[m])) ∧
    Only [.lane, .skein, .stream, .out] s (s.markSkein k) := by
  have first : Only [.stream, .out] (s.setSkein k { s.skein[k] with mcnt := (s.skein[k]).mcnt + 1 })
      ((s.setSkein k { s.skein[k] with mcnt := (s.skein[k]).mcnt + 1 }).advance k 16383) := State.advance_parts
  unfold State.markSkein
  dsimp only
  have start : Only [.skein] s (s.setSkein k { s.skein[k] with mcnt := (s.skein[k]).mcnt + 1 }) := State.setSkein_only
  have skein : (s.setSkein k { s.skein[k] with mcnt := (s.skein[k]).mcnt + 1 }).skein =
    s.skein.set k { s.skein[k] with mcnt := (s.skein[k]).mcnt + 1 } := rfl
  generalize s.setSkein k { s.skein[k] with mcnt := (s.skein[k]).mcnt + 1 } = u at *
  generalize u.advance k 16383 = v at *
  have regs : v.regs = s.regs := (first .regs rfl).trans (start .regs rfl)
  have active : v.active = s.active := funext fun a => congrArg (ract · a) regs
  rw [active]
  obtain ⟨-, lanes⟩ := State.foldLanes (s := v) (ls := skeinLanes s.active k.val) (g := State.markLane (s.skein[k]).mcnt)
    (Q := Marked s) (I := fun w => w.regs = s.regs) skeinLanes_nodup regs
    (fun w l h => (State.markLane_parts .regs rfl).trans h)
    (fun w l h => by
      have own := (State.markLane_lanes (s := w) (l := l) (mcnt := (s.skein[k]).mcnt)).1
      unfold Marked State.active at own ⊢
      rw [h] at own
      exact own)
    (fun w l _ => State.markLane_lanes.2)
  have fold : Only [.lane, .out] v ((skeinLanes s.active k.val).foldl (State.markLane (s.skein[k]).mcnt) v) :=
    .foldl .refl (fun w l h => .app State.markLane_parts rfl h)
  generalize (skeinLanes s.active k.val).foldl (State.markLane (s.skein[k]).mcnt) v = w at *
  have last : Only [.stream, .out] w (w.markStream k (s.skein[k]).mcnt) := State.markStream_parts
  have lane : v.lane = s.lane := (first .lane rfl).trans (start .lane rfl)
  have lane' : (w.markStream k (s.skein[k]).mcnt).lane = w.lane := last .lane rfl
  simp only [lane, ← lane'] at lanes
  exact ⟨((last .skein rfl).trans (fold .skein rfl)).trans ((first .skein rfl).trans skein), lanes,
    .app last rfl (.app fold rfl (.app first rfl (.app start rfl .refl)))⟩

/-! ### Loss and relock of the synthesisers -/

/-- The loss of the output synthesiser takes every lane in SERVICE out (05 R213). -/
theorem State.synLoss_out (lock : s.clk.lockOl = true) :
    (s.synLoss .ol).clk = { s.clk with lockOl := false } ∧ Src.SK_PLL ∈ (s.synLoss .ol).flt.raised ∧
      (∀ m : Fin 8, Pll m (s.lane[m]) ((s.synLoss .ol).lane[m])) ∧
      Only [.clk, .lane, .skein, .stream, .live, .flt, .out] s (s.synLoss .ol) := by
  have e : s.synLoss .ol = outLanes.foldl State.pllLane (outLanes.foldl (fun (s : State) l => State.dropMask l s)
      ({ s with clk := { s.clk with lockOl := false } }.report [.raise Src.SK_PLL])) := if_pos lock
  rw [e]
  have raised : Src.SK_PLL ∈ ({ s with clk := { s.clk with lockOl := false } }.report [.raise Src.SK_PLL]).flt.raised :=
    List.mem_append_right _ (List.mem_singleton_self _)
  have clk : ({ s with clk := { s.clk with lockOl := false } }.report [.raise Src.SK_PLL]).clk =
    { s.clk with lockOl := false } := rfl
  have told : Only [.clk, .flt] s ({ s with clk := { s.clk with lockOl := false } }.report [.raise Src.SK_PLL]) :=
    .app State.report_parts rfl (.app Only.set_clk rfl .refl)
  generalize { s with clk := { s.clk with lockOl := false } }.report [.raise Src.SK_PLL] = u at *
  have drop : Only [.skein, .stream, .out] u (outLanes.foldl (fun (s : State) l => State.dropMask l s) u) :=
    .foldl .refl (fun w l h => .app State.dropMask_parts rfl h)
  generalize outLanes.foldl (fun (s : State) l => State.dropMask l s) u = v at *
  obtain ⟨grows, lanes⟩ := State.foldLanes (s := v) (ls := outLanes) (g := State.pllLane) (Q := Pll) (I := Grows v)
    outLanes_nodup .refl (fun w l h => h.trans State.pllLane_grows) (fun w l _ => State.pllLane_lanes.1)
    (fun w l _ => State.pllLane_lanes.2)
  have fold : Only [.live, .skein, .lane, .stream, .flt, .out] v (outLanes.foldl State.pllLane v) :=
    .foldl .refl (fun w l h => .app State.pllLane_parts rfl h)
  have lane : v.lane = s.lane := (drop .lane rfl).trans (told .lane rfl)
  simp only [lane] at lanes
  refine ⟨((fold .clk rfl).trans (drop .clk rfl)).trans clk, grows.mem ?_, fun m => (lanes m).1 outLanes_mem,
    .app fold rfl (.app drop rfl (.app told rfl .refl))⟩
  rw [show v.flt = u.flt from drop .flt rfl]
  exact raised

theorem State.synLock_out : (s.synLock .ol).clk = { s.clk with lockOl := true } ∧
    (∀ m : Fin 8, Relocked s m (s.lane[m]) ((s.synLock .ol).lane[m])) ∧ Only [.clk, .lane, .stream, .out] s (s.synLock .ol) := by
  have e : s.synLock .ol = outLanes.foldl State.relockLane { s with clk := { s.clk with lockOl := true } } := rfl
  rw [e]
  obtain ⟨⟨lock, -, -, -⟩, lanes⟩ := State.foldLanes (s := { s with clk := { s.clk with lockOl := true } }) (ls := outLanes)
    (g := State.relockLane) (Q := Relocked s)
    (I := fun w => w.clk = { s.clk with lockOl := true } ∧ w.regs = s.regs ∧ w.glade = s.glade ∧ w.cmt = s.cmt)
    outLanes_nodup ⟨rfl, rfl, rfl, rfl⟩
    (fun w l ⟨clk, regs, glade, cmt⟩ => ⟨(State.relockLane_parts .clk rfl).trans clk, (State.relockLane_parts .regs rfl).trans regs,
      (State.relockLane_parts .glade rfl).trans glade, (State.relockLane_parts .cmt rfl).trans cmt⟩)
    (fun w l ⟨clk, regs, glade, cmt⟩ => by
      have own := (State.relockLane_lanes (s := w) (l := l) (by rw [clk])).1
      rw [Relocked, State.laneOn_of regs glade cmt] at own
      exact own)
    (fun w l ⟨clk, _, _, _⟩ => (State.relockLane_lanes (by rw [clk])).2)
  exact ⟨lock, fun m => (lanes m).1 outLanes_mem,
    .foldl (.app Only.set_clk rfl .refl) (fun w l h => .app State.relockLane_parts rfl h)⟩

end

section
variable {s : State} {t : Nat}

/-- Clauses of `Obligations.LaneLossMarkersAndLoopback`: a lane's driver fault (05 R211, R212, R218). -/
theorem driverFault_held {l : Fin 8} (on : s.coreOn = true) (quiet : s.NoDecisionAt t) (hold : (s.lane[l]).st = .hold) :
    exec (.outputDriverFault t l) s = .next ((s.stamp t).setLane l { s.lane[l] with conf := 0 }) := by
  refine (onCore_on on : execOutputDriverFault t l s = _).trans (congrArg _ ?_)
  have e : (s.stamp t).driverFault l = (s.stamp t).setLane l { s.lane[l] with conf := 0 } := if_pos hold
  rw [e]
  exact quiet.redecide rfl rfl

theorem driverFault_lost {l : Fin 8} (on : s.coreOn = true) (quiet : s.NoDecisionAt t) (service : (s.lane[l]).st = .service) :
    exec (.outputDriverFault t l) s = .next ((s.stamp t).loseLane l 2 0) := by
  refine (onCore_on on : execOutputDriverFault t l s = _).trans (congrArg _ ?_)
  have e : (s.stamp t).driverFault l = (s.stamp t).loseLane l 2 0 :=
    if_neg (fun h => absurd (service.symm.trans h) LaneState.noConfusion)
  rw [e]
  exact quiet.redecide (State.loseLane_parts .surf rfl) (State.loseLane_parts .now rfl).1

/-- The loss of a synthesiser, without a decision in its sample. -/
theorem synthesiserLockLoss_next {y : Synth} (on : s.coreOn = true) (quiet : s.NoDecisionAt t)
    (surf : ((s.stamp t).synLoss y).surf = s.surf) (now : ((s.stamp t).synLoss y).now = max s.now t) :
    exec (.synthesiserLockLoss t y) s = .next ((s.stamp t).synLoss y) :=
  (onCore_on on : execSynthesiserLockLoss t y s = _).trans (congrArg _ (quiet.redecide surf now))

end

/-- Settles O36. -/
theorem laneLossMarkersAndLoopback : Obligations.LaneLossMarkersAndLoopback := by
  unfold Obligations.LaneLossMarkersAndLoopback
  refine ⟨fun t s on canon => ⟨fun l hold quiet => ?_, fun l service few quiet => ?_, fun lock quiet => ?_, fun lock port quiet => ?_,
    fun lock quiet => ?_, fun lock quiet => ?_, ?_, ?_, ?_, ?_⟩,
    fun t s on canon => ⟨fun k => ?_, fun l req v write => ⟨fun off free some => ?_, fun loop none cold => ?_⟩,
      fun l bits y test on' prbs hy => ?_, fun l hdrs loop mode locked => ?_, fun k x _ _ alive unlocked start => ?_⟩⟩
  · exact ⟨_, driverFault_held on quiet hold, rfl, .app State.setLane_parts rfl (.app State.stamp_only rfl .refl)⟩
  · obtain ⟨lanes, mask, rest, count, counts, raised⟩ := State.loseLane_does (s := s.stamp t) (l := l) (c := 2) (a := 0)
      (.only State.stamp_only rfl canon) service few
    refine ⟨_, driverFault_lost on quiet service, ?_⟩
    rw [lanes, Vector.getElem_set_fin_self]
    refine ⟨rfl, ?_, rfl, mask, rest, fun m other => Vector.getElem_set_fin_ne (v := s.lane) other, count, counts, raised,
      .app State.loseLane_parts rfl (.app State.stamp_only rfl .refl)⟩
    show BitVec.ofNat 4 (if (s.lane[l]).recent then 6 else 2) = if (s.lane[l]).recent then 6 else 2
    cases (s.lane[l]).recent <;> rfl
  · obtain ⟨clk, raised, lanes, parts⟩ := State.synLoss_out (s := s.stamp t) lock
    exact ⟨_, synthesiserLockLoss_next on quiet (parts .surf rfl) (parts .now rfl).1, clk, raised, lanes,
      .app parts rfl (.app State.stamp_only rfl .refl)⟩
  · have told : Raised [Src.CLK_SYNPCIE] s ((s.stamp t).synLoss .pcie) := State.report_raised rfl (by
      show (noteIf (s.clk.lockPcie && !s.host.portSpi) _).filterMap Note.src = _
      rw [lock, port]
      rfl)
    have parts : Only [.clk, .flt] (s.stamp t) ((s.stamp t).synLoss .pcie) :=
      .app (State.report_parts.mono (noteIf_parts (f := fun p => [.flt].contains p) rfl)) rfl
          (.app Only.set_clk rfl .refl)
    exact ⟨_, synthesiserLockLoss_next on quiet rfl rfl, rfl, told, .app parts rfl (.app State.stamp_only rfl .refl)⟩
  · have told : Raised [Src.CLK_SYNSYS] s ((s.stamp t).synLoss .sys) := State.report_raised rfl (by
      show (noteIf (s.clk.lockSys) _).filterMap Note.src = _
      rw [lock]
      rfl)
    have parts : Only [.clk, .flt] (s.stamp t) ((s.stamp t).synLoss .sys) :=
      .app (State.report_parts.mono (noteIf_parts (f := fun p => [.flt].contains p) rfl)) rfl
          (.app Only.set_clk rfl .refl)
    exact ⟨_, synthesiserLockLoss_next on quiet rfl rfl, rfl, told, .app parts rfl (.app State.stamp_only rfl .refl)⟩
  · have told : Raised [Src.CLK_SYNIL] s ((s.stamp t).synLoss .il) := State.report_raised rfl (by
      show (noteIf (s.clk.lockIl) _).filterMap Note.src = _
      rw [lock]
      rfl)
    have parts : Only [.clk, .flt] (s.stamp t) ((s.stamp t).synLoss .il) :=
      .app (State.report_parts.mono (noteIf_parts (f := fun p => [.flt].contains p) rfl)) rfl
          (.app Only.set_clk rfl .refl)
    exact ⟨_, synthesiserLockLoss_next on quiet rfl rfl, rfl, told, .app parts rfl (.app State.stamp_only rfl .refl)⟩
  · obtain ⟨clk, lanes, parts⟩ := State.synLock_out (s := s.stamp t)
    exact ⟨_, (onCore_on on : execSynthesiserRelock t .ol s = _), clk, lanes, parts .skein rfl,
      .app parts rfl (.app State.stamp_only rfl .refl)⟩
  · exact ⟨_, (onCore_on on : execSynthesiserRelock t .il s = _), rfl, .app Only.set_clk rfl
      (.app State.stamp_only rfl .refl)⟩
  · exact ⟨_, (onCore_on on : execSynthesiserRelock t .sys s = _), rfl, .app Only.set_clk rfl
      (.app State.stamp_only rfl .refl)⟩
  · exact ⟨_, (onCore_on on : execSynthesiserRelock t .pcie s = _), rfl, .app Only.set_clk rfl
      (.app State.stamp_only rfl .refl)⟩
  · obtain ⟨skein, lanes, parts⟩ := State.markSkein_does (s := s.stamp t) (k := k)
    refine ⟨_, (onCore_on on : execMarkerSlot t k s = _), ?_⟩
    rw [skein, Vector.getElem_set_fin_self]
    refine ⟨rfl, rfl, fun j other => Vector.getElem_set_fin_ne (v := s.skein) other, fun l other => ?_, fun l mem service => ?_,
      .app parts rfl (.app State.stamp_only rfl .refl)⟩
    · by_cases mem : l ∈ skeinLanes (s.stamp t).active k
      · exact ((lanes l).1 mem).1 other
      · exact (lanes l).2 mem
    · exact ((lanes l).1 mem).2 service
  · have mode : (s.stamp t).loopMode l v = fld v 0 2 :=
      if_neg (fun h => h.2.elim (fun st => st off) (fun named => Bool.false_ne_true (free.symm.trans named)))
    have st : ((s.stamp t).looped l v (fld v 0 2)).st = .loop := if_pos ⟨some, off⟩
    obtain ⟨lanes, word, out, regs, parts⟩ := State.writeLoop_does (s := s.stamp t)
        (.only State.stamp_only rfl canon) mode
      (.inl (by rw [st]; exact LaneState.noConfusion))
    have run : exec (.skLoopWrite t req l v) s = .next ((s.stamp t).writeLoop l v) :=
      (onCore_on on : execSkLoopWrite t req l v s = _).trans (congrArg _ write.access)
    refine ⟨_, run, ?_⟩
    rw [lanes, Vector.getElem_set_fin_self, word]
    refine ⟨st, rfl, fun change => ?_, fun m other => Vector.getElem_set_fin_ne (v := s.lane) other, regs,
      .app parts rfl (.app State.stamp_only rfl .refl)⟩
    rw [out, loopNotes_sent (s := s.stamp t) (by rw [st]; rfl) change, loopWord_prbs fld_lt]
    rfl
  · have mode : (s.stamp t).loopMode l v = 0 := (if_neg (fun h => h.1 none)).trans none
    have st : ((s.stamp t).looped l v 0).st = .off := by
      show (if (0 : Nat) ≠ 0 ∧ (s.lane[l]).st = .off then LaneState.loop
        else if (0 : Nat) = 0 ∧ (s.lane[l]).st = .loop then .off else (s.lane[l]).st) = .off
      rw [if_neg (fun h => h.1 rfl), if_pos ⟨rfl, loop⟩]
    obtain ⟨lanes, -, -, regs, parts⟩ := State.writeLoop_does (s := s.stamp t)
        (.only State.stamp_only rfl canon) mode (.inr cold)
    have run : exec (.skLoopWrite t req l v) s = .next ((s.stamp t).writeLoop l v) :=
      (onCore_on on : execSkLoopWrite t req l v s = _).trans (congrArg _ write.access)
    refine ⟨_, run, ?_⟩
    rw [lanes, Vector.getElem_set_fin_self]
    exact ⟨st, fun m other => Vector.getElem_set_fin_ne (v := s.lane) other, regs, .app parts rfl
        (.app State.stamp_only rfl .refl)⟩
  · subst hy
    have run := (onCore_on on : execPrbsLock t l (.pattern bits) s = _).trans
      (congrArg _ (State.testLock_pattern (s := s.stamp t) test on' prbs))
    exact ⟨_, run, rfl, State.report_reads canon.regs rfl (if_pos rfl), State.report_regsOnly_of (fun _ h => h) rfl,
      .app State.report_parts rfl (.app State.setLane_parts rfl (.app State.stamp_only rfl .refl))⟩
  · have run := (onCore_on on : execPrbsLock t l (.blocks hdrs) s = _).trans
      (congrArg _ (State.testLock_blocks (s := s.stamp t) loop mode locked))
    exact ⟨_, run, rfl, .app State.setLane_parts rfl (.app State.stamp_only rfl .refl)⟩
  · have locks := checkBits_lock (n := 63) alive unlocked (by rw [start])
    simpa only [Nat.reduceAdd] using locks

end Sys2Proof.Machine
end

section
/-! Return lane lock and alerts. -/

namespace Sys2Proof.Machine

open Sys2Proof

/-! ### Skein lane numbers (05 R206) -/

section
variable {f : Nat → Word} {k : Nat} {l m : Fin 8}

theorem outLanes_sorted : outLanes.Pairwise (· < ·) := List.pairwise_lt_finRange 8

theorem mem_skeinLanes (h : l ∈ skeinLanes f k) : (laneAt f l).skein = k := by
  unfold skeinLanes at h
  exact beq_iff_eq.mp (Bool.and_eq_true_iff.mp (List.mem_filter.mp h).2).2

/-- The base of a skein is the least of its lanes. -/
theorem skeinBase_le (h : l ∈ skeinLanes f k) : skeinBase f k ≤ l.val := by
  have sorted : (skeinLanes f k).Pairwise (· < ·) := outLanes_sorted.filter _
  unfold skeinBase
  cases hl : skeinLanes f k with
  | nil => exact Nat.zero_le _
  | cons x r =>
    rw [hl] at h sorted
    rcases List.mem_cons.mp h with rfl | mem
    · exact Nat.le_refl _
    · exact Nat.le_of_lt ((List.pairwise_cons.mp sorted).1 l mem)

theorem skLane_inj (hl : l ∈ skeinLanes f k) (hm : m ∈ skeinLanes f k) (same : skLane f l = skLane f m) : l = m := by
  have bl := skeinBase_le hl
  have bm := skeinBase_le hm
  unfold skLane at same
  rw [mem_skeinLanes hl, mem_skeinLanes hm] at same
  exact Fin.ext (by omega)

theorem skLane_lt : skLane f l < 8 := Nat.lt_of_le_of_lt (Nat.sub_le _ _) l.isLt

end

/-! ### A lock report (04 R174, 05 R211) -/

section
variable {s u : State} {l m : Fin 8} {a : Fin 16} {mask c : Nat} {b : Bool}

/-- A lock report that is no retrain report leaves a lane that its mask names. -/
theorem State.laneReport_kept (alert : c ≠ 4) (up : Nat.testBit mask (s.laneNo l) = true ∨ b = false) :
    State.laneReport a mask b c s l = s := by
  have out : (!Nat.testBit mask (s.laneNo l) && b) = false := by
    rcases up with h | h <;> rw [h]
    · rfl
    · rw [Bool.and_false]
  unfold State.laneReport
  dsimp only
  rw [if_neg alert, out, Bool.false_and, Bool.false_and, State.when_false rfl, State.when_false rfl, ite_self]

theorem State.laneReport_loses (service : (s.lane[l]).st = .service) (down : Nat.testBit mask (s.laneNo l) = false)
    (masked : bit (s.skein[s.laneSkein l]).lmask (s.laneNo l) = true) :
    State.laneReport a mask true c s l = s.loseLane l c a.val := by
  unfold State.laneReport
  dsimp only
  rw [if_neg (by rw [service]; exact LaneState.noConfusion)]
  exact State.when_true (by rw [down, service, masked]; rfl)

/-- What an alert of another lane leaves: the lane itself, and its bit of LMASK. -/
theorem State.loseLane_other (other : l ≠ m) : (s.loseLane m c a.val).lane[l] = s.lane[l] ∧
    ∀ (k : Fin 4) (j : Nat), (k = s.laneSkein m → j ≠ s.laneNo m) →
      bit ((s.loseLane m c a.val).skein[k]).lmask j = bit (s.skein[k]).lmask j := by
  by_cases service : (s.lane[m]).st = .service
  · refine ⟨(State.loseLane_lanes service).2 l other, fun k j apart => ?_⟩
    obtain ⟨mask, rest⟩ := State.leaveMask_mask (s := s) (l := m)
    rw [State.loseLane_eq service]
    have skein : (((s.leaveMask m).report [.raise (Src.SK_LANEDOWN m), .tally (Reg.SK_DOWNCNT m.val) 1]).enterDown m
        (if (s.lane[m]).recent then 6 else c) a.val).skein = (s.leaveMask m).skein := State.enterDown_parts .skein rfl
    simp only [skein]
    by_cases same : k = s.laneSkein m
    · subst same
      rw [mask, bit_clearBit, decide_eq_true (apart rfl), Bool.and_true]
    · rw [rest k same]
  · rw [State.loseLane, if_pos service]
    exact ⟨rfl, fun _ _ _ => rfl⟩

theorem State.loseLane_live : LiveOnly [Reg.SK_DOWNCNT l] s (s.loseLane l c a.val) := by
  by_cases service : (s.lane[l]).st = .service
  · rw [State.loseLane_eq service]
    have told : LiveOnly [Reg.SK_DOWNCNT l] s
        ((s.leaveMask l).report [.raise (Src.SK_LANEDOWN l), .tally (Reg.SK_DOWNCNT l.val) 1]) :=
      State.report_liveOnly_of (fun _ h => h) (State.leaveMask_parts .live rfl)
    intro x hx
    exact (congrArg (lget · x) (State.enterDown_parts .live rfl)).trans (told x hx)
  · rw [State.loseLane, if_pos service]
    exact fun _ _ => rfl

/-- A lane of an alert: it is lost, or its confirmation ends, or it stays (04 R174). -/
theorem State.laneReport_cases (alert : c ≠ 4) : State.laneReport a mask b c s l = s ∨
    State.laneReport a mask b c s l = s.setLane l { s.lane[l] with conf := clearBit (s.lane[l]).conf a.val } ∨
    State.laneReport a mask b c s l = s.loseLane l c a.val := by
  unfold State.laneReport
  dsimp only
  rw [if_neg alert]
  split
  · exact State.when_cases (p := fun v => v = s ∨ v = s.setLane l _ ∨ v = s.loseLane l c a.val) (.inr (.inl rfl))
      (.inl rfl)
  · exact State.when_cases (p := fun v => v = s ∨ v = s.setLane l _ ∨ v = s.loseLane l c a.val) (.inr (.inr rfl))
      (.inl rfl)

theorem State.laneReport_other (alert : c ≠ 4) (other : l ≠ m) : (State.laneReport a mask b c s m).lane[l] = s.lane[l] ∧
    ∀ (k : Fin 4) (j : Nat), (k = s.laneSkein m → j ≠ s.laneNo m) →
      bit ((State.laneReport a mask b c s m).skein[k]).lmask j = bit (s.skein[k]).lmask j := by
  rcases State.laneReport_cases (s := s) (l := m) (a := a) (mask := mask) (b := b) alert with e | e | e <;> rw [e]
  · exact ⟨rfl, fun _ _ _ => rfl⟩
  · exact ⟨State.setLane_other other, fun _ _ _ => rfl⟩
  · exact State.loseLane_other other

theorem State.laneReport_live (alert : c ≠ 4) : LiveOnly [Reg.SK_DOWNCNT l] s (State.laneReport a mask b c s l) := by
  rcases State.laneReport_cases (s := s) (l := l) (a := a) (mask := mask) (b := b) alert with e | e | e <;> rw [e]
  · exact fun _ _ => rfl
  · exact fun _ _ => rfl
  · exact State.loseLane_live

variable {e : ArrEntry} {x : Nat}

theorem State.lockReport_live (alert : c ≠ 4) (apart : ∀ l : Fin 8, x ≠ Reg.SK_DOWNCNT l) :
    lget (s.lockReport e mask b c).live x = lget s.live x := by
  unfold State.lockReport
  exact List.foldlRecOn (motive := fun v : State => lget v.live x = lget s.live x) _ _ rfl (fun v h l _ =>
    (State.laneReport_live alert x (by rw [List.mem_singleton]; exact apart l)).trans h)

/-- A lock report whose mask names every lane leaves them all. -/
theorem State.lockReport_kept (alert : c ≠ 4) (all : (∀ j, j < 8 → Nat.testBit mask j = true) ∨ b = false) :
    s.lockReport e mask b c = s := by
  unfold State.lockReport
  refine List.foldlRecOn (motive := fun v => v = s) _ _ rfl (fun v h l _ => ?_)
  rw [h]
  exact State.laneReport_kept alert (all.imp (fun named => named _ skLane_lt) id)

/-- An alert takes a lane of its array's skein that it names unlocked out of service (05 R211, R224). -/
theorem State.lockReport_loses (alert : c ≠ 4) (canon : s.Canonical) (mem : l ∈ skeinLanes s.active e.skein)
    (down : Nat.testBit mask (s.laneNo l) = false) (service : (s.lane[l]).st = .service)
    (masked : bit (s.skein[s.laneSkein l]).lmask (s.laneNo l) = true) (few : (s.lane[l]).attempts.toNat < s.rtMax l) :
    ∃ now set, (s.lockReport e mask true c).lane[l] =
      (s.lane[l]).downed (if (s.lane[l]).recent then 6 else c) e.n.val now set := by
  obtain ⟨pre, post, split⟩ := List.append_of_mem mem
  have once : (skeinLanes s.active e.skein).Nodup := skeinLanes_nodup
  rw [split, List.nodup_append] at once
  obtain ⟨-, rest, apart⟩ := once
  unfold State.lockReport
  rw [split, List.foldl_append, List.foldl_cons]
  have before : ∀ v, v = pre.foldl (State.laneReport e.n mask true c) s → v.Canonical ∧ v.regs = s.regs ∧ v.lane[l] = s.lane[l] ∧
      bit (v.skein[s.laneSkein l]).lmask (s.laneNo l) = true := by
    rintro v rfl
    refine List.foldlRecOn (motive := fun v : State => v.Canonical ∧ v.regs = s.regs ∧ v.lane[l] = s.lane[l] ∧
      bit (v.skein[s.laneSkein l]).lmask (s.laneNo l) = true) _ _ ⟨canon, rfl, rfl, masked⟩ (fun v h m hm => ?_)
    obtain ⟨canon, regs, lane, masked⟩ := h
    have other : l ≠ m := fun same => apart m hm l (List.mem_cons_self ..) same.symm
    have mem' : m ∈ skeinLanes s.active e.skein := by
      rw [split]
      exact List.mem_append_left _ hm
    obtain ⟨lane', masked'⟩ := State.laneReport_other (s := v) (a := e.n) (mask := mask) (b := true) alert other
    refine ⟨State.laneReport_canon canon, (State.laneReport_parts .regs rfl).trans regs, lane'.trans lane,
      (masked' _ _ (fun _ same => ?_)).trans masked⟩
    rw [State.laneNo_of_regs regs] at same
    exact other (skLane_inj mem mem' same)
  generalize hv : pre.foldl (State.laneReport e.n mask true c) s = v at *
  obtain ⟨canon', regs, lane, masked'⟩ := before v rfl
  have lost : State.laneReport e.n mask true c v l = v.loseLane l c e.n.val := State.laneReport_loses (lane ▸ service)
    (by rw [State.laneNo_of_regs regs]; exact down) (by simpa only [State.laneSkein_of_regs regs, State.laneNo_of_regs regs] using masked')
  obtain ⟨lanes, -⟩ := State.loseLane_does (s := v) (l := l) (c := c) (a := e.n.val) canon' (lane ▸ service)
    (by rw [State.rtMax_of_regs regs, lane]; exact few)
  refine ⟨v.now, laneAt v.active l.val, ?_⟩
  rw [lost, ← lane]
  refine List.foldlRecOn (motive := fun w : State => w.lane[l] = _) _ _ ?_ (fun w h m hm => ?_)
  · rw [lanes, Vector.getElem_set_fin_self]
  · exact (State.laneReport_other alert (fun same => (List.nodup_cons.mp rest).1 (by rw [same]; exact hm))).1.trans h

end

/-! ### Block coding (05 R185–R189) -/

section
variable {r : BitVec 58} {l : List Bool}

/-- A receiver that holds the scrambler's last 58 bits gives back every payload bit. -/
theorem descrambleBits_scrambleBits : descrambleBits r (scrambleBits r l).1 = (l, (scrambleBits r l).2) := by
  induction l generalizing r with
  | nil => rfl
  | cons d l ih =>
    simp only [scrambleBits, descrambleBits]
    rw [ih, Bool.xor_assoc, Bool.xor_self, Bool.xor_false]

theorem wireBits_bit {h : BitVec 2} {d : Block} {i : Nat} :
    (wireBits h d).getLsbD i = if i < 2 then h.getLsbD i else d.getLsbD (i - 2) := BitVec.getLsbD_append

end

section
variable {s : State} {b : Fin 2} {blk : Block} {e : ArrEntry} {t : Nat}

/-- The block as an acceptable alert is taken up, before what it says of the lanes (04 R174). -/
def State.alerted (s : State) (b : Fin 2) (blk : Block) (e : ArrEntry) : State :=
  (s.setArr e.n { s.arr[e.n] with
    aseq := some (BitVec.ofNat 8 (fld blk 20 8)), alert := some (s.now / tick, BitVec.ofNat 8 (fld blk 12 8)) }).report
      [.tally (Reg.BL_ALERT b.val) 1]

theorem State.alert_none (none : s.alertArray b blk = none) : s.alert b blk = s.report retErr := by
  unfold State.alert
  rw [none]

theorem State.alert_some (found : s.alertArray b blk = some e) : s.alert b blk =
    (s.alerted b blk e).lockReport e (fld blk 12 8) (decide (fld blk 12 8 ≠ 0)) 3 := by
  have mask : (BitVec.ofNat 8 (fld blk 12 8)).toNat = fld blk 12 8 := by
    rw [BitVec.toNat_ofNat]
    exact Nat.mod_eq_of_lt fld_lt
  have named : (BitVec.ofNat 8 (fld blk 12 8) != 0) = decide (fld blk 12 8 ≠ 0) := by
    rw [Bool.eq_iff_iff, bne_iff_ne, decide_eq_true_eq, ne_eq, ne_eq, ← BitVec.toNat_inj, mask]
    rfl
  rw [← named]
  unfold State.alert
  rw [found]
  dsimp only
  rw [mask]
  rfl

theorem State.alerted_parts : Only [.arr, .live] s (s.alerted b blk e) :=
  .app State.report_parts rfl (.app State.setArr_only rfl .refl)

theorem alert_next (on : s.coreOn = true) (quiet : s.NoDecisionAt t) (surf : ((s.stamp t).alert b blk).surf = s.surf)
    (now : ((s.stamp t).alert b blk).now = max s.now t) :
    exec (.lalertReceived t b blk) s = .next ((s.stamp t).alert b blk) :=
  (onCore_on on : execLalertReceived t b blk s = _).trans (congrArg _ (quiet.redecide surf now))

end

/-- Settles O37. -/
theorem returnLaneLockAndAlerts : Obligations.ReturnLaneLockAndAlerts := by
  unfold Obligations.ReturnLaneLockAndAlerts
  refine ⟨fun t b s on canon => ⟨fun hdrs dark lock used lost => ?_, fun hdrs dark kept => ?_, fun hdrs used gain => ?_,
    fun hdrs kept => ?_, fun quiet blk none => ?_, fun quiet blk e found => ?_⟩, fun b d => ⟨?_, fun i => wireBits_bit⟩,
    fun r l => descrambleBits_scrambleBits, by decide, by decide⟩
  · have run : exec
      (.returnLaneLockLoss t b hdrs dark) s = .next (((s.stamp t).setRet b { s.ret[b] with lock := false }).report
        ([.tally (Reg.BL_LOCKLOSS b.val) 1] ++ noteIf true [.raise (Src.BL_LOCK b)])) := by
      refine (onCore_on on : execReturnLaneLockLoss t b hdrs dark s = _).trans (congrArg _ ?_)
      rw [← used]
      exact State.when_true (s := s.stamp t) (Bool.and_eq_true_iff.mpr ⟨lock, lost⟩)
    exact ⟨_, run, rfl, State.report_counts canon.live rfl (if_pos rfl), State.report_liveOnly_of (fun _ h => h) rfl,
      State.report_raised rfl rfl, .app State.report_parts rfl (.app State.setRet_only rfl
          (.app State.stamp_only rfl .refl))⟩
  · refine (onCore_on on : execReturnLaneLockLoss t b hdrs dark s = _).trans (congrArg _ (State.when_false (s := s.stamp t) ?_))
    rcases kept with h | h
    · exact Bool.and_eq_false_iff.mpr (.inl h)
    · exact Bool.and_eq_false_iff.mpr (.inr h)
  · have run : exec
      (.returnLaneLockGain t b hdrs) s = .next ((s.stamp t).setRet b { s.ret[b] with lock := true, fresh := true }) :=
      (onCore_on on : execReturnLaneLockGain t b hdrs s = _).trans (congrArg _
        (State.when_true (s := s.stamp t) (Bool.and_eq_true_iff.mpr ⟨used, gain⟩)))
    exact ⟨_, run, rfl, .app State.setRet_only rfl (.app State.stamp_only rfl .refl)⟩
  · refine (onCore_on on : execReturnLaneLockGain t b hdrs s = _).trans (congrArg _ (State.when_false (s := s.stamp t) ?_))
    rcases kept with h | h
    · exact Bool.and_eq_false_iff.mpr (.inl h)
    · exact Bool.and_eq_false_iff.mpr (.inr h)
  · have is : (s.stamp t).alert b blk = (s.stamp t).report retErr := State.alert_none (s := s.stamp t) none
    have run := alert_next on quiet (congrArg State.surf is :) (congrArg State.now is :)
    rw [is] at run
    exact ⟨_, run, State.report_counts canon.live rfl rfl, State.report_liveOnly_of (fun _ h => h) rfl,
      State.report_raised rfl rfl, .app State.report_parts rfl (.app State.stamp_only rfl .refl)⟩
  · have is := State.alert_some (s := s.stamp t) found
    have taken : Only [.arr, .live] (s.stamp t) ((s.stamp t).alerted b blk e) := State.alerted_parts
    have canon' : ((s.stamp t).alerted b blk e).Canonical :=
      State.report_canon (.only State.setArr_only rfl (.only State.stamp_only rfl canon))
    have arr : ((s.stamp t).alerted b blk e).arr = s.arr.set e.n { s.arr[e.n] with
      aseq := some (BitVec.ofNat 8 (fld blk 20 8)), alert := some (max s.now t / tick, BitVec.ofNat 8 (fld blk 12 8)) } := rfl
    have count : lget ((s.stamp t).alerted b blk e).live (Reg.BL_ALERT b) = satAdd (lget s.live (Reg.BL_ALERT b)) 1 :=
      State.report_counts canon.live rfl (if_pos rfl)
    have regs : ((s.stamp t).alerted b blk e).regs = s.regs := taken .regs rfl
    have lane : ((s.stamp t).alerted b blk e).lane = s.lane := taken .lane rfl
    have skein : ((s.stamp t).alerted b blk e).skein = s.skein := taken .skein rfl
    generalize (s.stamp t).alerted b blk e = u at *
    have parts : Only [.live, .skein, .lane, .stream, .flt, .out] u (u.lockReport e (fld blk 12 8) (decide (fld blk 12 8 ≠ 0)) 3) :=
      State.lockReport_parts
    have run := alert_next (b := b) (blk := blk) on quiet
      ((congrArg State.surf is :).trans ((parts .surf rfl).trans (taken .surf rfl)))
      ((congrArg State.now is :).trans ((parts .now rfl).1.trans (taken .now rfl).1))
    rw [is] at run
    have apart : ∀ l : Fin 8, Reg.BL_ALERT b ≠ Reg.SK_DOWNCNT l := by
      intro l
      unfold Reg.BL_ALERT Reg.SK_DOWNCNT
      omega
    refine ⟨_, run, (parts .arr rfl).trans arr, (State.lockReport_live (by decide) apart).trans count, fun whole => ?_,
      fun l some mem out service masked early few => ?_, .app parts rfl (.app taken rfl (.app State.stamp_only rfl
          .refl))⟩
    · rw [State.lockReport_kept (by decide) (whole.symm.imp (fun h j small => ?_)
        (fun h => decide_eq_false (not_not.mpr h)))]
      · exact ⟨lane, skein⟩
      · rw [h]
        interval_cases j <;> rfl
    · have active : u.active = s.active := funext fun a => congrArg (ract · a) regs
      have no : u.laneNo l = s.laneNo l := State.laneNo_of_regs regs
      have sk : u.laneSkein l = s.laneSkein l := State.laneSkein_of_regs regs
      have own : u.lane[l] = s.lane[l] := congrArg (·[l]) lane
      obtain ⟨now, set, lost⟩ := State.lockReport_loses (s := u) (c := 3) (by decide) canon' (by rw [active]; exact mem)
        (by rw [no]; exact out) (by rw [own]; exact service) (by simpa only [sk, no, skein] using masked)
        (by rw [own, State.rtMax_of_regs regs]; exact few)
      rw [decide_eq_true some, lost, own, early]
      exact ⟨rfl, rfl, rfl⟩
  · unfold syncHeader
    cases b.ctrl <;> rfl

end Sys2Proof.Machine
end

section
/-! Time-base boundaries and commits. -/

namespace Sys2Proof.Machine

open Sys2Proof

/-! ### Words in force (11 R412) -/

section
variable {s u v : State} {l : List Nat} {a : Nat}

/-- Where only words outside the active copies change, every setting stays in force. -/
theorem State.active_kept (h : RegsOnly l s u) (low : ∀ x ∈ l, x % 0x1000 < 0x800) (small : a % 0x1000 < 0x800) :
    u.active a = s.active a := by
  unfold State.active ract
  refine h _ (fun mem => ?_)
  have := low _ mem
  omega

theorem State.timing_kept (h : RegsOnly l s u) (low : ∀ x ∈ l, x % 0x1000 < 0x800) : u.timing = s.timing := by
  unfold State.timing timeSet
  simp only [State.active_kept h low (a := Reg.TM_PER) (by decide), State.active_kept h low (a := Reg.TM_GLCFG) (by decide),
    State.active_kept h low (a := Reg.TM_GLDLY) (by decide), State.active_kept h low (a := Reg.TM_HOLD) (by decide),
    State.active_kept h low (a := Reg.TM_MODE) (by decide)]

end

/-! ### The edges that a boundary's sample takes first (11 R406) -/

section
variable {s : State} {t held : Nat} {rise : Bool} {b : TimeBase} {c : TimeSet} {e : Nat}

/-- What an edge leaves of the time base. -/
def TimeBase.frame (b : TimeBase) : BitVec 64 × Nat × Nat × Nat × Vector Nat 2 × List Nat × Bool :=
  (b.fcnt, b.bn, b.per, b.next, b.ofsNext, b.darkAt, b.slewing)

theorem TimeBase.edge_frame : (b.edge c e).frame = b.frame := by
  unfold TimeBase.edge
  split
  · rfl
  · split
    · rfl
    · split
      · unfold TimeBase.good
        dsimp only
        split <;> rfl
      · rfl

theorem loseNotes_words : (loseNotes b).flatMap Note.words ⊆ [rawOf 0x01] := noteIf_words (fun _ h => h)

theorem glChange_words {x y : GlState} : (glChange x y).flatMap Note.words ⊆ [rawOf 0x01] := noteIf_words (fun _ h => h)

theorem edgeNotes_words : (edgeNotes b c e).flatMap Note.words ⊆ [rawOf 0x01] := by
  unfold edgeNotes
  split
  · exact glChange_words
  · split
    · exact fun _ h => h
    · split
      · exact glChange_words
      · rw [List.flatMap_append]
        exact List.append_subset.mpr ⟨noteIf_words (List.nil_subset _), loseNotes_words⟩

theorem edgeNotes_parts : ((edgeNotes b c e).flatMap Note.parts).all
    (fun p => [.now, .regs, .live, .flt].contains p) = true := by
  unfold edgeNotes
  split
  · exact noteIf_parts rfl
  · split
    · rfl
    · split
      · exact noteIf_parts rfl
      · exact parts_append (noteIf_parts rfl) (noteIf_parts rfl)

/-- What the edges of a sample leave of a block. -/
structure Edged (s n : State) : Prop where
  frame : n.tb.frame = s.tb.frame
  now : n.now = s.now
  regs : RegsOnly [rawOf 0x01] s n
  parts : Only [.now, .regs, .live, .tb, .flt] s n

theorem State.edgesFirst_edged : Edged s s.edgesFirst := by
  unfold State.edgesFirst
  refine State.takeFirst_induction (P := Edged s)
      (fun v y h => ⟨h.frame, h.now, h.regs, .app Only.set_sample rfl h.parts⟩)
    (fun k f found v h => ?_) ⟨rfl, rfl, .refl, .refl⟩
  split at found
  · cases found
    refine State.when_cases (p := Edged s) ⟨TimeBase.edge_frame.trans h.frame, h.now, ?_, ?_⟩ h
    · exact .app (State.report_regsOnly_of edgeNotes_words rfl) (fun _ h => h) h.regs
    · exact .app (State.report_parts.mono edgeNotes_parts) rfl (.app Only.set_tb rfl h.parts)
  · cases found

theorem Edged.timing {n : State} (h : Edged s n) : n.timing = s.timing :=
  State.timing_kept h.regs (fun x hx => by rw [List.mem_singleton.mp hx]; decide)

end

/-! ### The boundary itself (11 R396–R398, R424) -/

section
variable {s j : State} {t n per : Nat} {old b : TimeBase} {hard : Bool} {c : TimeSet} {ofs : Vector Nat 2}

/-- The counters that a boundary captures. -/
def timeCounts : List Nat := [Reg.TM_GLMISS, Reg.TM_GLBAD, Reg.TM_HOLDCNT]

/-- A block after its time base took a boundary, with the TIME page captured. -/
def State.bounded (j : State) (old b : TimeBase) : State :=
  ({ j with tb := b }.report (boundaryNotes old b)).capture 0x01 old.fcnt.toNat timeCounts

theorem State.tbBoundary_eq : s.tbBoundary t = s.edgesFirst.judge.bounded s.edgesFirst.tb
    (s.edgesFirst.judge.tb.boundary s.edgesFirst.judge.timing t (s.edgesFirst.tb.thisPer s.edgesFirst.timing)
      s.edgesFirst.hardNow s.edgesFirst.tb.ofsNext) := rfl

/-- The words that a boundary writes. -/
def boundaryWords : List Nat := [rawOf 0x01, 0x1030, Reg.TM_GLMISS, Reg.TM_GLBAD, Reg.TM_HOLDCNT]

theorem boundaryNotes_words : (boundaryNotes old b).flatMap Note.words ⊆ [rawOf 0x01] := by
  unfold boundaryNotes
  rw [List.flatMap_append, List.flatMap_append]
  exact List.append_subset.mpr ⟨List.append_subset.mpr ⟨fun _ h => h, glChange_words⟩, noteIf_words (fun _ h => h)⟩

theorem boundaryNotes_parts : ((boundaryNotes old b).flatMap Note.parts).all
    (fun p => [.now, .regs].contains p) = true := by
  unfold boundaryNotes
  exact parts_append (parts_append rfl (noteIf_parts rfl)) (noteIf_parts rfl)

/-- The event TBFRAME is set whatever else a boundary reports. -/
theorem boundaryNotes_frame {v : Word} : bit ((boundaryNotes old b).foldl (Note.onWord (rawOf 0x01)) v) 0 = true := by
  have first : bit ([Note.irq 0x01 0].foldl (Note.onWord (rawOf 0x01)) v) 0 = true := by
    show bit (v ||| BitVec.ofNat 32 1) 0 = true
    rw [bit, BitVec.getLsbD_or]
    exact Bool.or_true _
  have keep : ∀ {q : Bool} {i : Nat} {w : Word}, bit w 0 = true →
      bit ((noteIf q [.irq 0x01 i]).foldl (Note.onWord (rawOf 0x01)) w) 0 = true := by
    intro q i w h
    cases q
    · exact h
    · show bit (w ||| BitVec.ofNat 32 (2 ^ i)) 0 = true
      rw [bit, BitVec.getLsbD_or, show w.getLsbD 0 = true from h, Bool.true_or]
  unfold boundaryNotes glChange
  rw [List.foldl_append, List.foldl_append]
  exact keep (keep first)

theorem State.bounded_parts : Only [.now, .regs, .tb] j (j.bounded old b) :=
  .app Only.set_regs rfl (.app (State.report_parts.mono boundaryNotes_parts) rfl (.app Only.set_tb rfl .refl))

/-- What a boundary leaves in the words of the TIME page. -/
theorem State.bounded_regs (canon : j.Canonical) : bit (rget (j.bounded old b).regs (rawOf 0x01)) 0 = true ∧
    rget (j.bounded old b).regs 0x1030 = at32 0 (old.fcnt.toNat % 65536) ∧
    rget (j.bounded old b).regs Reg.TM_GLMISS = lget j.live Reg.TM_GLMISS ∧
    rget (j.bounded old b).regs Reg.TM_GLBAD = lget j.live Reg.TM_GLBAD ∧
    rget (j.bounded old b).regs Reg.TM_HOLDCNT = lget j.live Reg.TM_HOLDCNT ∧ RegsOnly boundaryWords j (j.bounded old b) := by
  have told : Only [.now, .regs] { j with tb := b } ({ j with tb := b }.report (boundaryNotes old b)) :=
    State.report_parts.mono boundaryNotes_parts
  have regs : RegsOnly [rawOf 0x01] j ({ j with tb := b }.report (boundaryNotes old b)) :=
    State.report_regsOnly_of boundaryNotes_words rfl
  have frame : bit (rget ({ j with tb := b }.report (boundaryNotes old b)).regs (rawOf 0x01)) 0 = true := by
    rw [State.rget_report (show smWf regReset { j with tb := b }.regs = true from canon.regs)]
    exact boundaryNotes_frame
  have live : ({ j with tb := b }.report (boundaryNotes old b)).live = j.live := told .live rfl
  have wf : smWf regReset ({ j with tb := b }.report (boundaryNotes old b)).regs = true :=
    (State.report_canon (.only Only.set_tb rfl canon)).regs
  unfold State.bounded State.capture timeCounts
  generalize { j with tb := b }.report (boundaryNotes old b) = u at *
  simp only [List.foldl_cons, List.foldl_nil, live]
  refine ⟨?_, rget_rset_self (rset_wf (rset_wf (rset_wf wf))), ?_, ?_, ?_, fun a ha => ?_⟩
  · rw [rget_rset_ne (by decide), rget_rset_ne (by decide), rget_rset_ne (by decide), rget_rset_ne (by decide)]
    exact frame
  · rw [rget_rset_ne (by decide), rget_rset_ne (by decide), rget_rset_ne (by decide), rget_rset_self wf]
  · rw [rget_rset_ne (by decide), rget_rset_ne (by decide), rget_rset_self (rset_wf wf)]
  · rw [rget_rset_ne (by decide), rget_rset_self (rset_wf (rset_wf wf))]
  · simp only [boundaryWords, List.mem_cons, List.not_mem_nil, or_false, not_or] at ha
    obtain ⟨raw, seq, miss, bad, hold⟩ := ha
    rw [rget_rset_ne seq, rget_rset_ne hold, rget_rset_ne bad, rget_rset_ne miss]
    exact regs a (fun mem => raw (List.mem_singleton.mp mem))

theorem State.judge_unarmed (h : s.cmt.st ≠ .armed) : s.judge = s := if_pos (.inl h)

theorem State.hardNow_unarmed (h : s.cmt.st ≠ .armed) : s.hardNow = false := by
  unfold State.hardNow
  rw [beq_eq_false_iff_ne.mpr h]
  rfl

theorem TimeBase.boundary_free (off : c.en = false) : (b.boundary c t per false ofs).gl = .free ∧
    (b.boundary c t per false ofs).next = slewed per c.nom c.slew := by
  have gate : b.gate c = b.free := if_neg (by rw [off]; exact Bool.false_ne_true)
  unfold TimeBase.boundary
  rw [gate]
  exact ⟨rfl, rfl⟩

theorem TimeBase.boundary_gl (on : c.en = true) : (b.boundary c t per hard ofs).gl = b.gl := by
  have gate : b.gate c = b := if_pos on
  unfold TimeBase.boundary
  rw [gate]

theorem TimeBase.gate_frame : (b.gate c).frame = b.frame := by
  unfold TimeBase.gate
  split <;> rfl

theorem TimeBase.boundary_counts : (b.boundary c t per hard ofs).fcnt = b.fcnt + 1 ∧
    (b.boundary c t per hard ofs).bn = b.nextBn t ∧ (b.boundary c t per hard ofs).per = per ∧
    (b.boundary c t per hard ofs).ofs = ofs ∧ (b.boundary c t per hard ofs).gloPulse = c.gloEn ∧
    (hard = false → (b.boundary c t per hard ofs).darkAt = b.darkAt) := by
  have kept := TimeBase.gate_frame (b := b) (c := c)
  simp only [TimeBase.frame, Prod.mk.injEq] at kept
  obtain ⟨fcnt, -, -, -, -, dark, -⟩ := kept
  unfold TimeBase.boundary
  dsimp only
  refine ⟨congrArg (· + 1) fcnt, rfl, rfl, rfl, rfl, fun soft => ?_⟩
  rw [if_neg (by rw [soft]; exact Bool.false_ne_true)]
  exact dark

end

/-! ### The settings of an accepted commit (11 R412, R416) -/

section
variable {α : Type} {l : List α} {k : α → Nat} {v : α → Word} {f : RegFile} {a x : Nat} {m : List Nat}

theorem rget_rsets_ne (h : ∀ i ∈ l, k i ≠ a) : rget (l.foldl (fun f i => rset (k i) (v i) f) f) a = rget f a :=
  List.foldlRecOn (motive := fun g => rget g a = rget f a) _ _ rfl
    (fun _ hg i hi => (rget_rset_ne (h i hi).symm).trans hg)

/-- Words written at addresses that all differ read what was written. -/
theorem rget_rsets (wf : smWf regReset f = true) (once : (l.map k).Nodup) {i : α} (h : i ∈ l) :
    rget (l.foldl (fun f i => rset (k i) (v i) f) f) (k i) = v i := by
  obtain ⟨pre, post, rfl⟩ := List.append_of_mem h
  rw [List.map_append, List.map_cons, List.nodup_append] at once
  obtain ⟨-, rest, -⟩ := once
  have apart : ∀ j ∈ post, k j ≠ k i := fun j hj same =>
    (List.nodup_cons.mp rest).1 (same ▸ List.mem_map_of_mem hj)
  rw [List.foldl_append, List.foldl_cons, rget_rsets_ne apart]
  exact rget_rset_self (rsets_wf (v := fun _ i => v i) wf)

theorem mem_insertNat_iff : a ∈ insertNat x m ↔ a = x ∨ a ∈ m := by
  induction m with
  | nil => simp [insertNat]
  | cons y r ih =>
    rw [insertNat]
    split
    · rw [List.mem_cons]
    · split
      next e => simp [e]
      · rw [List.mem_cons, ih, List.mem_cons]
        exact or_left_comm

theorem insertNat_sorted (h : m.Pairwise (· < ·)) : (insertNat x m).Pairwise (· < ·) := by
  induction m with
  | nil => exact List.pairwise_singleton _ _
  | cons y r ih =>
    obtain ⟨first, rest⟩ := List.pairwise_cons.mp h
    rw [insertNat]
    split
    next low =>
      refine List.pairwise_cons.mpr ⟨fun b hb => ?_, h⟩
      rcases List.mem_cons.mp hb with rfl | hb
      · exact low
      · exact Nat.lt_trans low (first b hb)
    next high =>
      split
      · exact h
      next other =>
        refine List.pairwise_cons.mpr ⟨fun b hb => ?_, ih rest⟩
        rcases mem_insertNat_iff.mp hb with rfl | hb
        · omega
        · exact first b hb

end

section
variable {s : State} {f : RegFile} {x : Nat × Word × BitVec 2} {m : BitVec 2}

/-- The addresses of a commit's settings all differ, and each is that of a shadow word. -/
theorem State.changes_keys : ((s.changes f).map (fun x => x.1)).Nodup ∧ ∀ x ∈ s.changes f, isShadow x.1 = true := by
  unfold State.changes
  dsimp only
  have keys := List.foldlRecOn
    (motive := fun l : List Nat => l.Pairwise (· < ·) ∧ ∀ a ∈ l, isShadow a = true)
    ((f ++ s.regs).map (fun x => x.1 - 0x800 * (x.1 % 0x1000 / 0x800)))
    (fun (l : List Nat) a => if isShadow a && rget f a != s.active a then insertNat a l else l)
    ⟨List.Pairwise.nil, nofun⟩ (fun l h a _ => by
      obtain ⟨sorted, shadow⟩ := h
      split
      next take =>
        refine ⟨insertNat_sorted sorted, fun b hb => ?_⟩
        rcases mem_insertNat_iff.mp hb with rfl | hb
        · exact (Bool.and_eq_true_iff.mp take).1
        · exact shadow b hb
      · exact ⟨sorted, shadow⟩)
  generalize ((f ++ s.regs).map (fun x => x.1 - 0x800 * (x.1 % 0x1000 / 0x800))).foldl
    (fun (l : List Nat) a => if isShadow a && rget f a != s.active a then insertNat a l else l) [] = l at *
  obtain ⟨sorted, shadow⟩ := keys
  refine ⟨?_, fun x hx => ?_⟩
  · rw [List.map_map]
    refine (congrArg List.Nodup (List.map_id' l)).mpr ?_
    exact sorted.imp (fun h => Nat.ne_of_lt h)
  · obtain ⟨a, ha, rfl⟩ := List.mem_map.mp hx
    exact shadow a ha

theorem isShadow_low {a : Nat} (h : isShadow a = true) : a % 0x1000 < 0x800 := by
  unfold isShadow at h
  rw [Bool.and_eq_true, Bool.and_eq_true, decide_eq_true_eq, decide_eq_true_eq] at h
  exact h.1.2

/-- The settings of a commit that belong to some surfaces become active. -/
theorem State.activate_reads (canon : smWf regReset s.regs = true) (once : (s.cmt.chg.map (fun x => x.1)).Nodup)
    (low : ∀ x ∈ s.cmt.chg, x.1 % 0x1000 < 0x800) (h : x ∈ s.cmt.chg) (own : x.2.2 = m) :
    rget (s.activate m).regs (x.1 + 0x800) = x.2.1 := by
  have mem : x ∈ s.cmt.chg.filter (fun x => x.2.2 == m) := List.mem_filter.mpr ⟨h, beq_iff_eq.mpr own⟩
  have once' : ((s.cmt.chg.filter (fun x => x.2.2 == m)).map (fun x => x.1 + 0x800)).Nodup := by
    have part : ((s.cmt.chg.filter (fun x => x.2.2 == m)).map
        (fun x => x.1)).Nodup := once.sublist (List.filter_sublist.map _)
    have e : (s.cmt.chg.filter (fun x => x.2.2 == m)).map (fun x => x.1 + 0x800) =
        ((s.cmt.chg.filter (fun x => x.2.2 == m)).map (fun x => x.1)).map (· + 0x800) := by
      rw [List.map_map]
      rfl
    rw [e]
    exact part.map (fun a b same => Nat.add_right_cancel same)
  have small := low x h
  unfold State.activate
  dsimp only
  rw [rget_rsets_ne (k := fun x : Nat × BitVec 2 => x.1 * 0x1000 + 0x028) (fun i _ => by omega)]
  exact rget_rsets (k := fun x : Nat × Word × BitVec 2 => x.1 + 0x800) (v := fun x => x.2.1) canon once' mem

end

/-! ### What follows new settings -/

section
variable {s : State} {l : Fin 8} {k : Fin 4} {m : BitVec 2} {kept : List (Fin 8)}

theorem State.clearMoved_parts {old new : Fin 8 → Word} : Only [.skein, .stream, .flt, .out] s (State.clearMoved old new s) := by
  unfold State.clearMoved
  exact .foldl .refl (fun _ _ h => Only.when (fun _ h => .app State.leaveMask_parts rfl h) h)

theorem State.renumberSkein_parts : Only [.skein, .stream, .flt, .out] s (State.renumberSkein kept s k) := by
  unfold State.renumberSkein
  exact Only.when (fun _ h => .app State.sendRow_parts rfl (.app State.setSkein_only rfl h)) .refl

theorem State.renumber_parts : Only [.skein, .stream, .flt, .out] s (State.renumber kept s) := by
  unfold State.renumber
  exact .foldl (.foldl .refl (fun _ _ h => .app State.setLine_only rfl h))
      (fun _ _ h => .app State.renumberSkein_parts rfl h)

theorem State.laneOff_parts : Only [.lane, .stream, .out] s (s.laneOff l) := by
  unfold State.laneOff
  exact .app State.setLane_parts rfl (Only.when (fun _ h => .app State.toIdle_parts rfl h) .refl)

theorem State.retrain_parts : Only [.lane, .stream, .flt, .out] s (s.retrain l) := by
  unfold State.retrain
  exact .ite (.app State.train_parts rfl (.app State.setLane_parts rfl .refl))
    (.app State.enterDown_parts rfl (.app State.setLane_parts rfl .refl))

theorem State.laneSet_parts {old : Word} : Only [.lane, .stream, .flt, .out] s (State.laneSet old s l) := by
  have tuned : Only [.lane] s (s.when ((s.lane[l]).st != .service) (fun s =>
      s.setLane l ((s.lane[l]).tune (laneOf (s.active (Reg.SK_LCFG l.val)))))) :=
    Only.when (fun _ h => .app State.setLane_parts rfl h) .refl
  unfold State.laneSet
  refine .ite (tuned.mono rfl) (.ite (.ite (tuned.mono rfl) (.app State.laneOff_parts rfl (tuned.mono rfl)))
    (.ite (.app State.offCheck_parts rfl (tuned.mono rfl)) (.ite (.app State.retrain_parts rfl (tuned.mono rfl))
      (.ite (.app State.enterDown_parts rfl (.app State.setLane_parts rfl (tuned.mono rfl)))
        (Only.when (fun _ h => .app State.fail_parts rfl h) (tuned.mono rfl))))))

theorem State.enterIdle_parts : Only [.skein, .lane, .stream, .out] s (s.enterIdle l) := by
  unfold State.enterIdle
  exact .app State.setLane_parts rfl (.app State.toIdle_parts rfl (.app State.dropMask_parts rfl .refl))

theorem State.idleSkein_parts : Only [.arr, .skein, .lane, .stream, .out] s (s.idleSkein k) := by
  unfold State.idleSkein State.idleLane
  exact .foldl (Only.when (fun _ h => .app State.unready_only rfl h) .refl)
    (fun _ _ h => .ite (.app State.enterIdle_parts rfl h) (.ite (.app State.train_parts rfl h) h))

theorem State.idleCheck_parts : Only [.arr, .skein, .lane, .stream, .out] s s.idleCheck := by
  unfold State.idleCheck
  exact .foldl .refl (fun _ _ h => .app State.idleSkein_parts rfl h)

theorem State.activate_same {u : State} (regs : u.regs = s.regs) (cmt : u.cmt = s.cmt) :
    (u.activate m).regs = (s.activate m).regs ∧ (u.activate m).cmt = (s.activate m).cmt := by
  unfold State.activate
  dsimp only
  rw [regs, cmt]
  exact ⟨rfl, rfl⟩

/-- New settings change the register words and the commit as `activate` says, and else lanes, links, tiles and streams. -/
theorem State.applySettings_does : (s.applySettings m).regs = (s.activate m).regs ∧ (s.applySettings m).cmt = (s.activate m).cmt ∧
    Only [.regs, .cmt, .skein, .arr, .ret, .lane, .stream, .fab, .tile, .flt, .out] s (s.applySettings m) := by
  have moved := State.clearMoved_parts (s := s) (old := fun l => s.active (Reg.SK_LCFG l.val))
    (new := fun l => (s.activate m).active (Reg.SK_LCFG l.val))
  unfold State.applySettings
  dsimp only
  generalize State.clearMoved _ _ s = u at *
  obtain ⟨regs, cmt⟩ := State.activate_same (m := m) (moved .regs rfl) (moved .cmt rfl)
  have active : Only [.regs, .cmt] u (u.activate m) := State.activate_only
  generalize u.activate m = v at *
  have rest : Only [.skein, .arr, .ret, .lane, .stream, .fab, .tile, .flt, .out] v
      ((movedArrays s.active (outLanes.foldl (fun (s' : State) l => State.laneSet (s.active (Reg.SK_LCFG l.val)) s' l)
        (State.renumber (outLanes.filter (fun l => u.inMask l)) v)).retLocks.active).foldl
            (fun (s : State) a => s.coolArray a)
        (outLanes.foldl (fun (s' : State) l => State.laneSet (s.active (Reg.SK_LCFG l.val)) s' l)
          (State.renumber (outLanes.filter (fun l => u.inMask l)) v)).retLocks).meter.idleCheck :=
    .app State.idleCheck_parts rfl (.app State.meter_only rfl (.foldl (.app State.retLocks_only rfl
      (.foldl (.app State.renumber_parts rfl .refl) (fun _ _ h => .app State.laneSet_parts rfl h)))
      (fun _ _ h => .app State.coolArray_only rfl h)))
  exact ⟨(rest .regs rfl).trans regs, (rest .cmt rfl).trans cmt, .app rest rfl (.app active rfl (.app moved rfl .refl))⟩

end

/-! ### The commit judged (11 R413–R416) -/

section
variable {s m : State} {l : List (Nat × Nat)} {t : Nat} {v : Word}

theorem State.coreOn_of (top : m.top = s.top) (pwr : m.pwr = s.pwr) : m.coreOn = s.coreOn := by
  unfold State.coreOn
  rw [top, pwr]

theorem State.judge_accepts (armed : s.cmt.st = .armed) (due : s.cmt.armedAt + 20 * usec ≤ s.now) (good : s.commitFails = []) :
    s.judge = s.acceptCommit :=
  (if_neg (not_or.mpr ⟨not_not.mpr armed, Nat.not_lt.mpr due⟩)).trans (if_pos (by rw [good]; rfl))

theorem State.judge_refuses (armed : s.cmt.st = .armed) (due : s.cmt.armedAt + 20 * usec ≤ s.now) (bad : s.commitFails ≠ []) :
    s.judge = s.refuseCommit s.commitFails :=
  (if_neg (not_or.mpr ⟨not_not.mpr armed, Nat.not_lt.mpr due⟩)).trans (if_neg (by rw [List.isEmpty_iff]; exact bad))

/-- A refused commit leaves every setting as it was (11 R414). -/
theorem State.refuseCommit_does (on : s.coreOn = true) (canon : s.Canonical) :
    (s.refuseCommit l).cmt.st = .idle ∧ (s.refuseCommit l).cmt.last = 2 ∧ (s.refuseCommit l).cmt.accepted = s.cmt.accepted ∧
      (s.refuseCommit l).cmt.seq = s.cmt.seq ∧ Src.CMT_REF ∈ (s.refuseCommit l).flt.raised ∧
      bit (rget (s.refuseCommit l).regs (rawOf 0x00)) 1 = true ∧ RegsOnly [rawOf 0x00] s (s.refuseCommit l) ∧
      (s.refuseCommit l).log.wr = s.log.wr + 1 ∧ Only [.now, .regs, .flt, .cmt, .log] s (s.refuseCommit l) := by
  unfold State.refuseCommit
  dsimp only
  generalize hc : ({ s.cmt with
    st := .idle, last := 2
    cause := BitVec.ofNat 4 ((l.map (fun x => x.1)).foldl min 15)
    page := BitVec.ofNat 8 (((l.filter (fun x => x.1 == (l.map (fun x => x.1)).foldl min 15)).map
        (fun x => x.2)).foldl min 255)
    causes := l.foldl (fun m x => setBit m x.1) 0, snap := [] } : Commit) = c
  have cmt : c.st = .idle ∧ c.last = 2 ∧ c.accepted = s.cmt.accepted ∧ c.seq = s.cmt.seq := by
    rw [← hc]
    exact ⟨rfl, rfl, rfl, rfl⟩
  have told : Only [.now, .regs, .flt, .cmt] s ({ s with cmt := c }.report [.irq 0x00 1, .raise Src.CMT_REF]) :=
    .app State.report_parts rfl (.app Only.set_cmt rfl .refl)
  have raised : Src.CMT_REF ∈ ({ s with cmt := c }.report [.irq 0x00 1, .raise Src.CMT_REF]).flt.raised :=
    List.mem_append_right _ (List.mem_singleton_self _)
  have regs : RegsOnly [rawOf 0x00] s ({ s with cmt := c }.report [.irq 0x00 1, .raise Src.CMT_REF]) :=
    State.report_regsOnly_of (fun _ h => h) rfl
  have word : rget ({ s with cmt := c }.report [.irq 0x00 1, .raise Src.CMT_REF]).regs (rawOf 0x00) =
      rget s.regs (rawOf 0x00) ||| BitVec.ofNat 32 2 := State.report_reads canon.regs rfl rfl
  have cmt' : ({ s with cmt := c }.report [.irq 0x00 1, .raise Src.CMT_REF]).cmt = c := rfl
  have on' : ({ s with cmt := c }.report [.irq 0x00 1, .raise Src.CMT_REF]).coreOn = true := on
  generalize { s with cmt := c }.report [.irq 0x00 1, .raise Src.CMT_REF] = u at *
  generalize c.word.toNat + (l.foldl (fun m x => setBit m x.1) 0 : BitVec 12).toNat * 2 ^ 32 = data
  have logged : Only [.flt, .log] u (u.logHw 0x0020 0xFF data) := State.logHw_parts
  rw [logged .cmt rfl, logged .regs rfl, cmt', word, State.logHw_wr on', show u.log = s.log from told .log rfl]
  refine ⟨cmt.1, cmt.2.1, cmt.2.2.1, cmt.2.2.2, State.logHw_raised raised, ?_, fun a ha => ?_, rfl, .app logged rfl
      (.app told rfl .refl)⟩
  · rw [bit, BitVec.getLsbD_or]
    exact Bool.or_true _
  · rw [logged .regs rfl]
    exact regs a ha

/-- The commit in progress as it is accepted. -/
def State.accepted (s : State) : Commit :=
  { s.cmt with
    st := .applying, toApply := s.cmt.smask, toRetire := 3, seq := s.cmt.seq + 1, accepted := true, cause := 0, page := 0
    causes := 0, chg := s.changes s.cmt.snap, reach := s.reached (rget s.cmt.snap), snap := [] }

/-- A block whose commit is accepted, before its settings become active. -/
def State.accepting (s : State) : State :=
  State.leaveSkeins (skeins.filter (fun k => (s.skeinSurf k.val).isSome))
    { s with
      cmt := s.accepted
      tb := { s.tb with ofsNext := #v[s.newOffset (rget s.cmt.snap) 0, s.newOffset (rget s.cmt.snap) 1] } }

theorem State.acceptCommit_eq : s.acceptCommit =
    (s.accepting.applySettings bothSurfaces).logHw 0x0021 0xFF s.accepted.seq.toNat := rfl

theorem State.accepting_parts : Only [.cmt, .tb, .skein] s s.accepting ∧ s.accepting.cmt = s.accepted ∧
    s.accepting.tb.fcnt = s.tb.fcnt := by
  have left : Only [.skein] { s with
      cmt := s.accepted
      tb := { s.tb with ofsNext := #v[s.newOffset (rget s.cmt.snap) 0, s.newOffset (rget s.cmt.snap) 1] } } s.accepting :=
    State.leaveSkeins_only
  exact ⟨.app left rfl (.app Only.set_tb_cmt rfl .refl), left .cmt rfl, (congrArg TimeBase.fcnt (left .tb rfl :) :)⟩

/-- An accepted commit: its settings of both surfaces are active at once (11 R416). -/
theorem State.acceptCommit_does (on : s.coreOn = true) (canon : s.Canonical) :
    s.acceptCommit.cmt.st = .applying ∧ s.acceptCommit.cmt.toApply = s.cmt.smask ∧ s.acceptCommit.cmt.accepted = true ∧
      s.acceptCommit.cmt.seq = s.cmt.seq + 1 ∧ s.acceptCommit.cmt.cause = 0 ∧ s.acceptCommit.cmt.last = s.cmt.last ∧
      s.acceptCommit.tb.fcnt = s.tb.fcnt ∧ s.acceptCommit.log.wr = s.log.wr + 1 ∧
      (∀ x ∈ s.changes s.cmt.snap, x.2.2 = 3 → rget s.acceptCommit.regs (x.1 + 0x800) = x.2.1) ∧
      s.acceptCommit.surf = s.surf := by
  obtain ⟨first, cmt, fcnt⟩ := State.accepting_parts (s := s)
  rw [State.acceptCommit_eq]
  have seq : s.accepted.seq = s.cmt.seq + 1 := rfl
  have chg : s.accepted.chg = s.changes s.cmt.snap := rfl
  have head : s.accepted.st = .applying ∧ s.accepted.toApply = s.cmt.smask ∧ s.accepted.accepted = true ∧
    s.accepted.cause = 0 ∧ s.accepted.last = s.cmt.last := ⟨rfl, rfl, rfl, rfl, rfl⟩
  generalize s.accepted = c at *
  generalize s.accepting = u at *
  obtain ⟨regs, cmt', parts⟩ := State.applySettings_does (s := u) (m := bothSurfaces)
  have active : (u.activate bothSurfaces).cmt = { u.cmt with
    chg := u.cmt.chg.filter (fun x => x.2.2 != bothSurfaces), reach := u.cmt.reach.filter
        (fun x => x.2 != bothSurfaces) } := rfl
  have wf : smWf regReset u.regs = true := (first .regs rfl : u.regs = s.regs) ▸ canon.regs
  have reads := fun x h own => State.activate_reads (s := u) (m := bothSurfaces) (x := x) wf
    (by rw [cmt, chg]; exact State.changes_keys.1) (by rw [cmt, chg]; exact fun x hx => isShadow_low (State.changes_keys.2 x hx)) h own
  rw [cmt, chg] at reads
  rw [cmt] at active
  generalize u.activate bothSurfaces = a at *
  have on' : (u.applySettings bothSurfaces).coreOn = true := (State.coreOn_of ((parts .top rfl).trans (first .top rfl))
    ((parts .pwr rfl).trans (first .pwr rfl))).trans on
  generalize u.applySettings bothSurfaces = w at *
  have logged : Only [.flt, .log] w (w.logHw 0x0021 0xFF c.seq.toNat) := State.logHw_parts
  rw [State.logHw_wr on', logged .cmt rfl, logged .tb rfl, logged .regs rfl, logged .surf rfl, cmt', active, parts .tb rfl,
    show w.log = s.log from (parts .log rfl).trans (first .log rfl), regs]
  obtain ⟨st, toApply, acc, cause, last⟩ := head
  exact ⟨st, toApply, acc, seq, cause, last, fcnt, rfl, fun x hx own => reads x hx own,
    (parts .surf rfl).trans (first .surf rfl)⟩

end

/-! ### A write of TOP_COMMIT (11 R411) -/

section
variable {s m : State} {t : Nat} {v : Word} {req : Req}

theorem State.writeCommit_wrong (key : fld v 16 16 ≠ 0x6B1D) : s.writeCommit v =
    ({ s with cmt := { s.cmt with keyErr := true } }).hit Reg.TOP_CMT_STAT 0x100 := if_pos key

theorem State.writeCommit_busy (key : fld v 16 16 = 0x6B1D) (busy : s.cmt.st ≠ .idle ∨ fld v 0 2 = 0) : s.writeCommit v =
    ({ s with cmt := { s.cmt with armErr := true } }).hit Reg.TOP_CMT_STAT 0x200 := (if_neg (not_not.mpr key)).trans (if_pos busy)

theorem State.writeCommit_arms (key : fld v 16 16 = 0x6B1D) (idle : s.cmt.st = .idle) (some : fld v 0 2 ≠ 0) :
    s.writeCommit v = { s with cmt := { s.cmt with
      st := .armed, smask := BitVec.ofNat 2 (fld v 0 2), armedAt := s.now, snap := shadowOnly s.regs } } :=
  (if_neg (not_not.mpr key)).trans (if_neg (not_or.mpr ⟨not_not.mpr idle, some⟩))

theorem topCommit_next (write : s.Writable t req 0x00) :
    exec (.topCommit t req v) s = .next ((s.stamp t).writeCommit v) :=
  (onCore_on write.1 : execTopCommit t req v s = _).trans (congrArg _ write.access)

theorem timeBaseBoundary_next (on : s.coreOn = true) (load : s.top.loadAt.isSome = true) :
    exec (.timeBaseBoundary t) s = .next ((s.stamp t).tbBoundary t) :=
  (onCore_on on : execTimeBaseBoundary t s = _).trans (congrArg _ (State.when_true (s := s.stamp t) load))

/-- Clause of `Obligations.TimeBaseBoundaryAndCommit`: a boundary with no commit armed (11 R396–R398, R404, R424). -/
theorem boundary_unarmed (on : s.coreOn = true) (canon : s.Canonical) (load : s.top.loadAt.isSome = true)
    (idle : s.cmt.st ≠ .armed) (first : m = (s.stamp t).edgesFirst) :
    ∃ n, exec (.timeBaseBoundary t) s = .next n ∧
      n.tb.fcnt = s.tb.fcnt + 1 ∧ n.tb.bn = (if s.tb.fcnt = 0 then t / 64 * 64 else s.tb.bn + s.tb.per) ∧
      n.tb.per = (if s.tb.fcnt = 0 then s.timing.nom else s.tb.next) ∧
      (s.timing.en = false → n.tb.gl = .free ∧ n.tb.next = clampNat (n.tb.per - n.tb.per * s.timing.slew / 10000)
        (n.tb.per + n.tb.per * s.timing.slew / 10000) s.timing.nom) ∧
      (s.timing.en = true → n.tb.gl = m.tb.gl) ∧ n.tb.ofs = s.tb.ofsNext ∧ n.tb.gloPulse = s.timing.gloEn ∧
      n.tb.darkAt = s.tb.darkAt ∧
      bit (rget n.regs (rawOf 0x01)) 0 = true ∧ rget n.regs 0x1030 = at32 0 (s.tb.fcnt.toNat % 65536) ∧
      rget n.regs Reg.TM_GLMISS = lget m.live Reg.TM_GLMISS ∧ rget n.regs Reg.TM_GLBAD = lget m.live Reg.TM_GLBAD ∧
      rget n.regs Reg.TM_HOLDCNT = lget m.live Reg.TM_HOLDCNT ∧
      RegsOnly [rawOf 0x01, 0x1030, Reg.TM_GLMISS, Reg.TM_GLBAD, Reg.TM_HOLDCNT] m n ∧ Only [.now, .regs, .tb] m n := by
  have edged : Edged (s.stamp t) m := first ▸ State.edgesFirst_edged
  have canon' : m.Canonical := first ▸ State.edgesFirst_canon (.only State.stamp_only rfl canon)
  have unarmed : m.cmt.st ≠ .armed := by
    rw [edged.parts .cmt rfl]
    exact idle
  have next := timeBaseBoundary_next (t := t) on load
  rw [State.tbBoundary_eq, ← first, State.judge_unarmed unarmed, State.hardNow_unarmed unarmed] at next
  have frame := edged.frame
  simp only [TimeBase.frame, Prod.mk.injEq] at frame
  obtain ⟨fcnt, bn, per, pnext, ofs, dark, -⟩ := frame
  have timing : m.timing = s.timing := edged.timing
  have base : m.tb.nextBn t = (if s.tb.fcnt = 0 then t / 64 * 64 else s.tb.bn + s.tb.per) := by
    rw [TimeBase.nextBn, fcnt, bn, per]
    rfl
  have this : m.tb.thisPer m.timing = (if s.tb.fcnt = 0 then s.timing.nom else s.tb.next) := by
    rw [TimeBase.thisPer, fcnt, pnext, timing]
    rfl
  obtain ⟨bfcnt, bbn, bper, bofs, bpulse, bdark⟩ := TimeBase.boundary_counts (b := m.tb) (c := m.timing) (t := t)
    (per := m.tb.thisPer m.timing) (hard := false) (ofs := m.tb.ofsNext)
  obtain ⟨raw, seq, miss, bad, hold, words⟩ := State.bounded_regs (old := m.tb)
    (b := m.tb.boundary m.timing t (m.tb.thisPer m.timing) false m.tb.ofsNext) canon'
  refine ⟨_, next, bfcnt.trans (congrArg (· + 1) fcnt), bbn.trans base, bper.trans this, fun off => ?_, fun en => ?_,
    bofs.trans ofs, bpulse.trans (congrArg _ timing), (bdark rfl).trans dark, raw, ?_, miss, bad, hold, words, State.bounded_parts⟩
  · have off' : m.timing.en = false := (congrArg _ timing).trans off
    have free := TimeBase.boundary_free (b := m.tb) (t := t) (per := m.tb.thisPer m.timing) (ofs := m.tb.ofsNext) off'
    refine ⟨free.1, free.2.trans ?_⟩
    rw [slewed, ← timing]
    exact congrArg
        (fun p => clampNat (p - p * m.timing.slew / 10000) (p + p * m.timing.slew / 10000) m.timing.nom) bper.symm
  · exact TimeBase.boundary_gl ((congrArg _ timing).trans en)
  · rw [seq, fcnt]
    rfl

theorem boundaryWords_low {a : Nat} (high : 0x800 ≤ a % 0x1000) : a ∉ boundaryWords := by
  intro mem
  have low : ∀ x ∈ boundaryWords, x % 0x1000 < 0x800 := by decide
  exact absurd (low a mem) (Nat.not_lt.mpr high)

theorem topWord_low {a : Nat} (high : 0x800 ≤ a % 0x1000) : a ∉ [rawOf 0x00] := by
  intro mem
  rw [List.mem_singleton.mp mem] at high
  exact absurd high (by decide)

end

/-- Settles O38. -/
theorem timeBaseBoundaryAndCommit : Obligations.TimeBaseBoundaryAndCommit := by
  unfold Obligations.TimeBaseBoundaryAndCommit
  refine ⟨fun t s on canon => ⟨fun load => ?_, fun load idle m first => boundary_unarmed on canon load idle first⟩,
    fun t s canon => ⟨fun req v write => ⟨fun key => ?_, fun key busy => ?_, fun key idle some => ?_⟩,
      fun on load armed due m first => ?_⟩⟩
  · exact (onCore_on on : execTimeBaseBoundary t s = _).trans (congrArg _ (State.when_false (s := s.stamp t) (by
      rw [show (s.stamp t).top.loadAt = none from load]
      rfl)))
  · exact ⟨_, (topCommit_next write).trans (congrArg _ (State.writeCommit_wrong key)), rfl,
      .app State.hit_only rfl (.app Only.set_cmt rfl (.app State.stamp_only rfl .refl))⟩
  · exact ⟨_, (topCommit_next write).trans (congrArg _ (State.writeCommit_busy (s := s.stamp t) key busy)), rfl,
      .app State.hit_only rfl (.app Only.set_cmt rfl (.app State.stamp_only rfl .refl))⟩
  · exact (topCommit_next write).trans (congrArg _ (State.writeCommit_arms (s := s.stamp t) key idle some))
  · have edged : Edged (s.stamp t) m := first ▸ State.edgesFirst_edged
    have canon' : m.Canonical := first ▸ State.edgesFirst_canon (.only State.stamp_only rfl canon)
    have on' : m.coreOn = true := (State.coreOn_of (edged.parts .top rfl) (edged.parts .pwr rfl)).trans on
    have cmt : m.cmt = s.cmt := edged.parts .cmt rfl
    have armed' : m.cmt.st = .armed := by rw [cmt]; exact armed
    have due' : m.cmt.armedAt + 20 * usec ≤ m.now := by rw [cmt, edged.now]; exact due
    have log : m.log = s.log := edged.parts .log rfl
    have frame := edged.frame
    simp only [TimeBase.frame, Prod.mk.injEq] at frame
    have fcnt : m.tb.fcnt = s.tb.fcnt := frame.1
    have next := timeBaseBoundary_next (t := t) on load
    rw [State.tbBoundary_eq, ← first] at next
    refine ⟨fun bad => ?_, fun good => ?_⟩
    · obtain ⟨st, last, acc, seq, raised, word, words, wr, parts⟩ :=
        State.refuseCommit_does (l := m.commitFails) on' canon'
      have judged : m.judge.Canonical := State.judge_canon canon'
      rw [State.judge_refuses armed' due' bad] at next judged
      generalize m.refuseCommit m.commitFails = j at *
      generalize hb : j.tb.boundary j.timing t (m.tb.thisPer m.timing) m.hardNow m.tb.ofsNext = b at *
      have count : b.fcnt = m.tb.fcnt + 1 := by
        rw [← hb, (TimeBase.boundary_counts).1, parts .tb rfl]
      obtain ⟨-, -, -, -, -, regs⟩ := State.bounded_regs (old := m.tb) (b := b) judged
      have bounded : Only [.now, .regs, .tb] j (j.bounded m.tb b) := State.bounded_parts
      refine ⟨_, next, ?_⟩
      rw [bounded .cmt rfl, bounded .flt rfl, bounded .log rfl]
      refine ⟨st, last, acc.trans (by rw [cmt]), seq.trans (by rw [cmt]), raised, ?_,
        fun a high => (regs a (boundaryWords_low high)).trans (words a (topWord_low high)), count.trans (by rw [fcnt]),
        wr.trans (by rw [log]), .app bounded rfl (.app parts rfl .refl)⟩
      rw [regs (rawOf 0x00) (by decide)]
      exact word
    · obtain ⟨st, apply, acc, seq, cause, last, tb, wr, reads, surf⟩ := State.acceptCommit_does on' canon'
      have judged : m.judge.Canonical := State.judge_canon canon'
      rw [State.judge_accepts armed' due' good] at next judged
      generalize m.acceptCommit = j at *
      generalize hb : j.tb.boundary j.timing t (m.tb.thisPer m.timing) m.hardNow m.tb.ofsNext = b at *
      have count : b.fcnt = m.tb.fcnt + 1 := by
        rw [← hb, (TimeBase.boundary_counts).1, tb]
      obtain ⟨-, -, -, -, -, regs⟩ := State.bounded_regs (old := m.tb) (b := b) judged
      have bounded : Only [.now, .regs, .tb] j (j.bounded m.tb b) := State.bounded_parts
      refine ⟨_, next, ?_⟩
      rw [bounded .cmt rfl, bounded .log rfl, bounded .surf rfl]
      rw [cmt] at apply seq last reads
      refine ⟨st, apply, acc, seq, cause, last, count.trans (by rw [fcnt]), wr.trans (by rw [log]), fun x hx both => ?_,
        surf.trans (edged.parts .surf rfl)⟩
      have low : x.1 % 0x1000 < 0x800 := isShadow_low (State.changes_keys.2 x hx)
      exact (regs _ (boundaryWords_low (by omega))).trans (reads x hx both)

end Sys2Proof.Machine
end

section
/-! What follows new settings: the raises that wait, and the two surfaces. -/

namespace Sys2Proof.Machine

open Sys2Proof

/-! ### What only adds to the raises that wait (16 R561) -/

section
variable {α : Type} {s u n : State} {xs : List α} {f : State → α → State} {l : List Part} {ns : List Note}

theorem Grows.only (h : Only l s n) (keeps : l.contains .flt = false) : Grows s n := .of_flt (h .flt keeps)

theorem Grows.app (k : Grows u n) (h : Grows s u) : Grows s n := h.trans k

theorem Grows.foldl (h : Grows s u) (hf : ∀ v x, Grows v (f v x)) : Grows s (xs.foldl f u) :=
  List.foldlRecOn (motive := Grows s) _ _ h (fun v hv x _ => hv.trans (hf v x))

theorem Grows.when {b : Bool} {g : State → State} (hf : Grows s (g s)) : Grows s (s.when b g) :=
  State.when_cases (p := Grows s) hf .refl

theorem Grows.ite {c : Prop} [Decidable c] {a b : State} (ha : Grows s a) (hb : Grows s b) : Grows s (if c then a else b) := by
  split <;> assumption

theorem Grows.report : Grows s (s.report ns) := State.report_grows

end

section
variable {s : State} {k : Fin 4} {l : Fin 8} {u : Fin 2} {m : BitVec 8} {r : Row} {a : Fin 16} {j : Nat}

theorem State.sendRow_grows : Grows s (s.sendRow k m r) := State.sendRow_used.grows

theorem State.sendTimed_grows {r : Nat → Row} : Grows s (s.sendTimed k m r) :=
  .app (.of_flt rfl) State.sendRow_grows

theorem State.sendRows_grows {xs : List (Fin 4 × Row)} : Grows s (s.sendRows xs) := .foldl .refl
    (fun _ _ => State.sendRow_grows)

theorem State.goStale_grows : Grows s (s.goStale u) := .ite .refl (.app .report (.of_flt rfl))

theorem State.clearHealth_grows : Grows s (s.clearHealth j) := .app (.of_flt rfl) (.app .report (.of_flt rfl))

theorem State.atemp_grows : Grows s (s.atemp a) := .app .report (.of_flt rfl)

theorem State.leaveMask_grows : Grows s (s.leaveMask l) := State.leaveMask_used.grows

theorem State.retrain_grows : Grows s (s.retrain l) := by
  unfold State.retrain
  exact .ite (.app (.only State.train_parts rfl) (.only State.setLane_parts rfl))
    (.app State.enterDown_grows (.only State.setLane_parts rfl))

theorem State.laneSet_grows {old : Word} : Grows s (State.laneSet old s l) := by
  have tuned : Grows s (s.when ((s.lane[l]).st != .service) (fun s =>
      s.setLane l ((s.lane[l]).tune (laneOf (s.active (Reg.SK_LCFG l.val)))))) := .when (.only State.setLane_parts rfl)
  unfold State.laneSet
  exact .ite tuned (.ite (.ite tuned (.app (.only State.laneOff_parts rfl) tuned)) (.ite (.app
      (.only State.offCheck_parts rfl) tuned)
    (.ite (.app State.retrain_grows tuned) (.ite (.app State.enterDown_grows (.app (.only State.setLane_parts rfl) tuned))
      (.app (.when State.fail_grows) tuned)))))

theorem State.applySettings_grows {v : BitVec 2} : Grows s (s.applySettings v) := by
  have moved : ∀ old new : Fin 8 → Word, Grows s (State.clearMoved old new s) := fun _ _ =>
    .foldl .refl (fun _ _ => .when State.leaveMask_grows)
  have renumber : ∀ (w : State) (kept : List (Fin 8)), Grows w (State.renumber kept w) := fun w kept =>
    .foldl (.foldl .refl (fun _ _ => .only State.setLine_only rfl))
      (fun _ _ => .when (.app State.sendRow_grows (.only State.setSkein_only rfl)))
  unfold State.applySettings
  dsimp only
  exact .app (.only State.idleCheck_parts rfl) (.app (.only State.meter_only rfl)
    (.foldl (.app (.only State.retLocks_only rfl) (.foldl (.app (renumber _ _) (.app
        (.only State.activate_only rfl) (moved _ _)))
      (fun _ _ => State.laneSet_grows))) (fun _ _ => .only State.coolArray_only rfl)))

theorem State.commitRanges_grows : Grows s (s.commitRanges u) := .foldl .refl (fun _ _ => State.sendRows_grows)

theorem State.phaseLit_grows : Grows s (s.phaseLit u) := .ite (.app .report (.of_flt rfl)) .refl

theorem State.commitDone_grows : Grows s s.commitDone := .ite (.app .report (.of_flt rfl)) .refl

theorem State.retire_grows : Grows s (s.retire u) := .ite .refl (.app .report (.of_flt rfl))

theorem State.applyClears_grows : Grows s (s.applyClears u) :=
  .app (.of_flt rfl) (.foldl .refl (fun _ _ => State.clearHealth_grows))

theorem State.shadeFrame_grows {v : FrameView} : Grows s (s.shadeFrame v) :=
  .app .report (.app (.of_flt rfl) (.when (.app (.when State.goStale_grows) (.of_flt rfl))))

/-! ### The correction chain and the composer at a boundary -/

theorem State.activateMap_grows {first : Bool} : Grows s (s.activateMap u first) := by
  unfold State.activateMap
  dsimp only
  split
  · exact .of_flt rfl
  · exact .ite (.of_flt rfl) (.app .report (.of_flt rfl))

theorem State.tileStep_grows {per : Nat} {sums : List (Nat × Nat)} {i : ArrEntry → Nat} : Grows s (s.tileStep u per sums i) :=
  .foldl .refl (fun _ _ => .app (.of_flt rfl) State.atemp_grows)

theorem State.tileBoundary_grows {v : FrameView} : Grows s (s.tileBoundary v) := .ite .refl State.tileStep_grows

theorem State.corrBoundary_grows {v : FrameView} {first lim tpar : Bool} : Grows s (s.corrBoundary v first lim tpar) :=
  .app .report (.app (.of_flt rfl) (.foldl (.app .report (.app (.of_flt rfl)
    (.app State.tileBoundary_grows State.activateMap_grows))) (fun _ _ => .app .report (.of_flt rfl))))

end

/-! ### What an event of a stream leaves of the two surfaces (06 R244–R246) -/

/-- But for the surface that a stream serves, the composers and the surfaces stay; of that one only its composer and whether its frame
is complete may change. -/
structure Composes (u : Fin 2) (s n : State) : Prop where
  surf : ∃ b, n.surf = s.surf.set u { s.surf[u] with complete := b }
  comp : ∃ x, n.comp = s.comp.set u x
  regs : n.regs = s.regs
  grows : Grows s n

section
variable {s n v : State} {u : Fin 2} {st : Fin 4} {w : Fin 2} {ns : List Note}

theorem vector_set_get {α : Type} {n : Nat} {v : Vector α n} {i : Fin n} : v.set i v[i] = v := by
  simp

theorem Composes.of_same (surf : n.surf = s.surf) (comp : n.comp = s.comp) (regs : n.regs = s.regs) (grows : Grows s n) :
    Composes u s n :=
  ⟨⟨(s.surf[u]).complete, surf.trans vector_set_get.symm⟩, ⟨s.comp[u], comp.trans vector_set_get.symm⟩, regs, grows⟩

theorem Composes.refl : Composes u s s := .of_same rfl rfl rfl .refl

theorem Composes.trans (k : Composes u v n) (h : Composes u s v) : Composes u s n := by
  obtain ⟨⟨b, surf⟩, ⟨x, comp⟩, regs, grows⟩ := h
  obtain ⟨⟨b', surf'⟩, ⟨x', comp'⟩, regs', grows'⟩ := k
  refine ⟨⟨b', ?_⟩, ⟨x', ?_⟩, regs'.trans regs, grows.trans grows'⟩
  · rw [surf', surf, Vector.getElem_set_fin_self, Vector.set_set]
  · rw [comp', comp, Vector.set_set]

theorem Composes.other (h : Composes u s n) (apart : w ≠ u) : n.surf[w] = s.surf[w] ∧ n.comp[w] = s.comp[w] := by
  obtain ⟨⟨b, surf⟩, ⟨x, comp⟩, -, -⟩ := h
  rw [surf, comp]
  exact ⟨Vector.getElem_set_fin_ne apart, Vector.getElem_set_fin_ne apart⟩

theorem Composes.regsOf (h : Composes u s n) : (n.surf[w]).compRegs = (s.surf[w]).compRegs := by
  obtain ⟨⟨b, surf⟩, -, -, -⟩ := h
  rw [surf]
  by_cases e : w = u
  · subst e
    rw [Vector.getElem_set_fin_self]
  · rw [Vector.getElem_set_fin_ne e]

/-- The settings of the streams stay. -/
theorem Composes.inSet (h : Composes u s n) : n.inSet st = s.inSet st := by
  have composed : n.composed = s.composed := by
    funext w
    unfold State.composed
    rw [h.regsOf]
  have active : n.active = s.active := funext fun a => congrArg (ract · a) h.regs
  unfold State.inSet
  rw [composed, active]

theorem Composes.foldl {α : Type} {xs : List α} {f : State → α → State} (h : Composes u s v)
    (hf : ∀ w x, Composes u s w → Composes u s (f w x)) : Composes u s (xs.foldl f v) :=
  List.foldlRecOn (motive := Composes u s) _ _ h (fun w hw x _ => hf w x hw)

theorem State.setStream_composes {x : Stream} : Composes u s (s.setStream st x) := .of_same rfl rfl rfl (.of_flt rfl)

theorem State.report_composes (words : ∀ v : State, (v.report ns).regs = v.regs) : Composes u s (s.report ns) :=
  .of_same rfl rfl (words s) .report

theorem State.stopComposing_composes : Composes u s (s.stopComposing u) := ⟨⟨_, rfl⟩, ⟨_, rfl⟩, rfl, .of_flt rfl⟩

/-- A list of notes of live counts and raises. -/
theorem report_regs_same (h : (ns.flatMap Note.parts).all (fun p => [.live, .flt].contains p) = true) :
    (s.report ns).regs = s.regs := (State.report_parts.mono h : Only [.live, .flt] s (s.report ns)) .regs rfl

/-- A frame of a stream of the surface fails. -/
theorem State.failFrame_composes {nx : Bool} (own : (s.inSet st).surf = u) : Composes u s (s.failFrame st nx) := by
  unfold State.failFrame
  dsimp only
  split
  · exact .refl
  · split
    · exact .refl
    · rw [own]
      refine .trans (State.report_composes (fun _ => report_regs_same rfl)) ?_
      exact State.when_cases (p := Composes u s) (State.stopComposing_composes.trans State.setStream_composes) State.setStream_composes

theorem missNotes_parts {ys : List Nat} :
    ((missNotes st ys).flatMap Note.parts).all (fun p => [.live, .flt].contains p) = true := by
  unfold missNotes
  rw [List.flatMap_assoc, List.all_eq_true]
  intro p hp
  obtain ⟨y, -, hp⟩ := List.mem_flatMap.mp hp
  exact List.all_eq_true.mp (show ([Note.tally (Reg.IN_LINEFIX st) 1, .raise (Src.IN_LINEFIX st)].flatMap Note.parts).all
    (fun p => [.live, .flt].contains p) = true from rfl) p hp

theorem State.settleFrame_composes {f : InFrame} {ys : List Nat} (own : (s.inSet st).surf = u) :
    Composes u s (s.settleFrame st f ys) := by
  have told : ∀ x : Stream, Composes u s ((s.setStream st x).report (missNotes st ys)) := fun x =>
    .trans (State.report_composes (fun _ => report_regs_same missNotes_parts)) State.setStream_composes
  unfold State.settleFrame
  dsimp only
  split
  · exact .trans (State.failFrame_composes ((congrArg InSet.surf (told _).inSet).trans own)) (told _)
  · split
    · exact .trans (State.report_composes (fun _ => report_regs_same rfl)) (.trans State.setStream_composes (told _))
    · exact told _

theorem State.takeLine_composes {f : InFrame} {y : InLine} {full : Bool} (own : (s.inSet st).surf = u) :
    Composes u s (s.takeLine st f y full) := by
  have raised : ∀ ns, (ns.flatMap Note.parts).all
      (fun p => [.live, .flt].contains p) = true → Composes u s (s.report ns) :=
    fun ns h => State.report_composes (fun _ => report_regs_same h)
  unfold State.takeLine
  dsimp only
  split
  · exact State.failFrame_composes own
  · split
    · exact raised _ rfl
    · split
      · have h := raised [.raise (Src.IN_OVF st)] rfl
        exact .trans (State.settleFrame_composes ((congrArg InSet.surf h.inSet).trans own)) h
      · exact State.settleFrame_composes own

theorem State.loseLine_composes {y : Nat} (own : (s.inSet st).surf = u) : Composes u s (s.loseLine st y) := by
  unfold State.loseLine
  split
  · exact State.when_cases (p := Composes u s) (State.settleFrame_composes own) .refl
  · exact .refl

theorem State.replay_composes {x : EarlyItem} (own : (s.inSet st).surf = u) : Composes u s (s.replay st x) := by
  unfold State.replay
  split
  · exact .refl
  · split
    · exact .refl
    · split
      · split
        · exact State.takeLine_composes own
        · exact State.report_composes (fun _ => report_regs_same rfl)
      · exact State.loseLine_composes own
      · exact State.settleFrame_composes own

theorem State.beginPeriod_composes (own : (s.inSet st).surf = u) : Composes u s (s.beginPeriod st) := by
  unfold State.beginPeriod
  dsimp only
  split
  · exact .refl
  · split
    · exact State.setStream_composes
    · split
      · refine .trans (State.failFrame_composes ?_) State.setStream_composes
        rw [(State.setStream_composes (u := u)).inSet]
        exact own
      · exact .foldl State.setStream_composes (fun v x h =>
          .trans (State.replay_composes ((congrArg InSet.surf h.inSet).trans own)) h)

theorem State.beginPeriods_composes : Composes u s (s.beginPeriods u) := by
  unfold State.beginPeriods
  refine .foldl .refl (fun v st h => ?_)
  cases hb : (v.inSet st).en && (v.inSet st).surf == u
  · exact h
  · exact .trans (State.beginPeriod_composes (beq_iff_eq.mp (Bool.and_eq_true_iff.mp hb).2)) h

theorem State.restartStreams_composes {old : RegFile} : Composes u s (s.restartStreams u old) := by
  have raised : ∀ v : State, ∀ ns, (ns.flatMap Note.parts).all
      (fun p => [.live, .flt].contains p) = true → Composes u v (v.report ns) :=
    fun v ns h => State.report_composes (fun _ => report_regs_same h)
  unfold State.restartStreams
  refine .foldl .refl (fun v st h => State.when_cases (p := Composes u s) ?_ h)
  unfold State.restartStream
  dsimp only
  refine .trans (raised _ _ ?_) (.trans State.setStream_composes h)
  rw [List.flatMap_map, List.all_eq_true]
  intro p hp
  obtain ⟨-, -, hp⟩ := List.mem_flatMap.mp hp
  exact List.all_eq_true.mp (show ([Note.tally (Reg.IN_DROPFR st) 1].flatMap Note.parts).all
    (fun p => [.live, .flt].contains p) = true from rfl) p (by simpa using hp)

theorem State.urgency_composes {n : Fin 16} : Composes u s (s.urgency n) := by
  unfold State.urgency
  refine .trans (State.report_composes (fun _ => report_regs_same (noteIf_parts rfl))) ?_
  exact .of_same rfl rfl rfl (.of_flt rfl)

theorem State.beginLayers_composes : Composes u s (s.beginLayers u) := by
  unfold State.beginLayers
  refine .foldl .refl (fun v n h => ?_)
  have put : ∀ (w : State) x, Composes u s w → Composes u s (w.setLayer n x) := fun w x h =>
    (.of_same rfl rfl rfl (.of_flt rfl) : Composes u w (w.setLayer n x)).trans h
  dsimp only
  split
  · exact .trans State.urgency_composes (put _ _ (put _ _ h))
  · exact put _ _ h

theorem State.releaseLines_composes : Composes w s (s.releaseLines u) :=
  .of_same (State.releaseLines_only .surf rfl) (State.releaseLines_only .comp rfl) (State.releaseLines_only .regs rfl)
    (.only State.releaseLines_only rfl)

end
end Sys2Proof.Machine
end

section
/-! Frame boundaries and decisions. -/

namespace Sys2Proof.Machine

open Sys2Proof

/-! ### The composition period that begins at a frame boundary (03 R74, 07 R275) -/

/-- What the compose side of a boundary leaves of the surfaces: the frame shown stays, and of the other surface all. -/
structure Shows (u : Fin 2) (s n : State) : Prop where
  surf : ∃ a b c d, n.surf = s.surf.set u { s.surf[u] with compCmt := a, compSeq := b, compRegs := c, complete := d }
  comp : ∃ x, n.comp = s.comp.set u x
  grows : Grows s n

section
variable {s n v : State} {u w : Fin 2}

theorem Shows.of_same (surf : n.surf = s.surf) (comp : n.comp = s.comp) (grows : Grows s n) : Shows u s n :=
  ⟨⟨(s.surf[u]).compCmt, (s.surf[u]).compSeq, (s.surf[u]).compRegs, (s.surf[u]).complete, surf.trans vector_set_get.symm⟩,
    ⟨s.comp[u], comp.trans vector_set_get.symm⟩, grows⟩

theorem Shows.refl : Shows u s s := .of_same rfl rfl .refl

theorem Shows.trans (k : Shows u v n) (h : Shows u s v) : Shows u s n := by
  obtain ⟨⟨a, b, c, d, surf⟩, ⟨x, comp⟩, grows⟩ := h
  obtain ⟨⟨a', b', c', d', surf'⟩, ⟨x', comp'⟩, grows'⟩ := k
  refine ⟨⟨a', b', c', d', ?_⟩, ⟨x', ?_⟩, grows.trans grows'⟩
  · rw [surf', surf, Vector.getElem_set_fin_self, Vector.set_set]
  · rw [comp', comp, Vector.set_set]

theorem Composes.shows (h : Composes u s n) : Shows u s n := by
  obtain ⟨⟨b, surf⟩, comp, -, grows⟩ := h
  exact ⟨⟨_, _, _, b, surf⟩, comp, grows⟩

/-- A change outside the surfaces and the composers. -/
theorem Shows.only {l : List Part} (h : Only l s n) (surf : l.contains .surf = false) (comp : l.contains .comp = false)
    (grows : Grows s n) : Shows u s n := .of_same (h .surf surf) (h .comp comp) grows

theorem Shows.other (h : Shows u s n) (apart : w ≠ u) : n.surf[w] = s.surf[w] ∧ n.comp[w] = s.comp[w] := by
  obtain ⟨⟨a, b, c, d, surf⟩, ⟨x, comp⟩, -⟩ := h
  rw [surf, comp]
  exact ⟨Vector.getElem_set_fin_ne apart, Vector.getElem_set_fin_ne apart⟩

theorem State.applyCommit_shows : Shows u s (s.applyCommit u) := by
  unfold State.applyCommit
  dsimp only
  split
  · exact .refl
  have set : Shows u s ((s.applySettings (oneSurface u)).commitRanges u) :=
    .trans (.only State.commitRanges_only rfl rfl State.commitRanges_grows)
      (.only State.applySettings_only rfl rfl State.applySettings_grows)
  generalize (s.applySettings (oneSurface u)).commitRanges u = v at *
  have cmt : Shows u s (State.setSurf u { v.surf[u] with compCmt := v.cmt.seq } v) :=
    .trans ⟨⟨_, _, _, _, rfl⟩, ⟨v.comp[u], vector_set_get.symm⟩, .of_flt rfl⟩ set
  generalize State.setSurf u { v.surf[u] with compCmt := v.cmt.seq } v = x at *
  have told : Shows u s (x.produceSettings v.cmt.seq) :=
    .trans (.only State.produceSettings_only rfl rfl (.only State.produceSettings_only rfl)) cmt
  generalize x.produceSettings v.cmt.seq = y at *
  have taken : Shows u y { y with cmt := { y.cmt with toApply := clearBit y.cmt.toApply u.val } } := .of_same rfl rfl
      (.of_flt rfl)
  exact .trans (.only State.commitDone_only rfl rfl State.commitDone_grows)
    (.trans (.only State.phaseLit_only rfl rfl State.phaseLit_grows) (.trans taken told))

theorem State.retire_shows : Shows u s (s.retire u) := by
  have comp : (s.retire u).comp = s.comp := State.retire_only .comp rfl
  refine ⟨?_, ⟨s.comp[u], comp.trans vector_set_get.symm⟩, State.retire_grows⟩
  unfold State.retire
  split
  · exact ⟨_, _, _, _, vector_set_get.symm⟩
  · exact ⟨_, _, _, _, rfl⟩

theorem State.beginCompose_shows : Shows u s (s.beginCompose u) := by
  unfold State.beginCompose
  dsimp only
  generalize (s.activeEntries u).isEmpty = bare
  generalize hx : ({ composing := (s.top.storesOk && !s.thm.stopped && (s.surfNow u).w != 0 && (s.surfNow u).h != 0)
                     doneAt := if bare then some (s.surf[u]).bk else none } : Composer) = x
  have started : Shows u s (State.setSurf u { s.surf[u] with compRegs := activeOnly s.regs, complete := bare }
      ({ s with fab := { s.fab with discard := false, turn := 0 } }.setComp u x)) :=
    ⟨⟨_, _, _, _, rfl⟩, ⟨x, rfl⟩, .of_flt rfl⟩
  refine .trans State.releaseLines_composes.shows (.trans State.beginLayers_composes.shows ?_)
  refine State.when_cases (p := Shows u s) (.trans State.stopComposing_composes.shows ?_) ?_
  · exact .trans State.beginPeriods_composes.shows (.trans State.restartStreams_composes.shows started)
  · exact .trans State.beginPeriods_composes.shows (.trans State.restartStreams_composes.shows started)

theorem State.beginPeriodOf_shows {v : FrameView} {first lim tpar : Bool} : Shows v.u s (s.beginPeriodOf v first lim tpar) := by
  unfold State.beginPeriodOf
  dsimp only
  have marked : ∀ (w : State) x, Shows v.u w { w with dma := x } := fun _ _ => .of_same rfl rfl (.of_flt rfl)
  refine .trans (marked _ _) (.trans State.beginCompose_shows ?_)
  exact .trans (.only State.corrBoundary_only rfl rfl State.corrBoundary_grows)
    (.trans (.only State.applyClears_only rfl rfl State.applyClears_grows)
        (.trans State.retire_shows State.applyCommit_shows))

theorem State.captureAll_shows : Shows w s (s.captureAll u) := by
  refine .only State.captureAll_only rfl rfl ?_
  unfold State.captureAll
  exact .foldl .report (fun _ _ => .only State.capture_only rfl)

theorem State.gladeSettle_grows : Grows s s.gladeSettle := by
  obtain ⟨l, hl⟩ := State.gladeSettle_raisesFlt (s := s)
  exact ⟨l, s.flt.inj, hl⟩

theorem State.gladeSettle_shows : Shows w s s.gladeSettle := .only State.gladeSettle_parts rfl rfl State.gladeSettle_grows

/-! ### The frame that begins -/

variable {f : FrameView} {d : Decision} {k per : Nat}

/-- What the show side of a boundary leaves of the surfaces. -/
theorem State.beginFrame_does : (s.beginFrame f d k per).surf = s.surf.set f.u ((s.surf[f.u]).next f d k per) ∧
    (s.beginFrame f d k per).comp = s.comp ∧
    (d.swap = false → (s.surf[f.u]).started = true → Src.FS_REPEAT ∈ (s.beginFrame f d k per).flt.raised) := by
  unfold State.beginFrame
  dsimp only
  have coming : Only [.now, .regs, .live, .stream, .flt, .out] s (s.when ((s.surf[f.u]).decided != some d) (State.comingRanges f d)) :=
    Only.when (fun _ h => .app State.comingRanges_only rfl h) .refl
  generalize s.when ((s.surf[f.u]).decided != some d) (State.comingRanges f d) = v at *
  have sums : Only [.now, .regs, .live, .corr, .flt, .fst, .out] (v.setSurf f.u ((s.surf[f.u]).next f d k per))
      ((v.setSurf f.u ((s.surf[f.u]).next f d k per)).when d.swap (State.takeSums f.u)) :=
    Only.when (fun _ h => .app State.takeSums_only rfl h) .refl
  have surf : (v.setSurf f.u ((s.surf[f.u]).next f d k per)).surf = s.surf.set f.u ((s.surf[f.u]).next f d k per) := by
    unfold State.setSurf
    rw [show v.surf = s.surf from coming .surf rfl]
  have comp : (v.setSurf f.u ((s.surf[f.u]).next f d k per)).comp = s.comp := coming .comp rfl
  generalize v.setSurf f.u ((s.surf[f.u]).next f d k per) = x at *
  generalize x.when d.swap (State.takeSums f.u) = y at *
  generalize s.decisionNotes (s.surf[f.u]) f d = more
  have repeat_ : d.swap = false → (s.surf[f.u]).started = true →
      Src.FS_REPEAT ∈ (y.report (swapNotes (s.surf[f.u]) f.u d.swap ++ more)).flt.raised := by
    intro stays started
    refine List.mem_append_right _ ?_
    rw [List.filterMap_append, swapNotes, if_neg (by rw [stays]; exact Bool.false_ne_true), started]
    exact List.mem_append_left _ (List.mem_singleton_self _)
  have told : Only [.now, .regs, .live, .flt, .out] y (y.report (swapNotes (s.surf[f.u]) f.u d.swap ++ more)) := State.report_only
  generalize y.report (swapNotes (s.surf[f.u]) f.u d.swap ++ more) = z at *
  have skeins : Only [.skein] z (z.beginSkeins f (s.skeinsOf f.u) (s.viewNow f.u).m.planes) := State.beginSkeins_only
  generalize z.beginSkeins f (s.skeinsOf f.u) (s.viewNow f.u).m.planes = q at *
  generalize (s.surf[f.u]).newSettings ((s.surf[f.u]).next f d k per) = apply
  have rows : Only [.now, .free, .regs, .live, .stream, .flt, .out] q (q.frameRows f.u apply) := State.frameRows_only
  have shade : Only [.now, .regs, .live, .shade, .flt, .out] (q.frameRows f.u apply) ((q.frameRows f.u apply).shadeFrame f) :=
    State.shadeFrame_only
  have grows : Grows z ((q.frameRows f.u apply).shadeFrame f) :=
    .app State.shadeFrame_grows (.app (.foldl .refl (fun _ _ => State.sendTimed_grows)) (.only skeins rfl))
  generalize q.frameRows f.u apply = r at *
  generalize r.shadeFrame f = o at *
  refine ⟨?_, ?_, fun stays started => grows.mem (repeat_ stays started)⟩
  · rw [← surf]
    exact (shade .surf rfl).trans ((rows .surf rfl).trans ((skeins .surf rfl).trans ((told .surf rfl).trans (sums .surf rfl))))
  · rw [← comp]
    exact (shade .comp rfl).trans ((rows .comp rfl).trans ((skeins .comp rfl).trans ((told .comp rfl).trans (sums .comp rfl))))

end

/-! ### The decision for the frame that begins (03 R109) -/

section
variable {s v : State} {u : Fin 2} {d : Decision} {prof fb swap : Bool} {l : Fin 8} {k : Fin 4} {t : Nat}

theorem State.decideFor_choice : (s.decideFor u prof fb swap).swap = swap ∧ (s.decideFor u prof fb swap).profile = prof := ⟨rfl, rfl⟩

theorem State.settled_swap : (s.settled u).swap = (s.surf[u]).complete := by
  unfold State.settled
  split
  · unfold State.standing
    dsimp only
    split
    · assumption
    · split
      · rfl
      · exact State.decideFor_choice.1
  · exact State.decideFor_choice.1

theorem State.settled_kept (decided : (s.surf[u]).decided = some d) (same : d.swap = (s.surf[u]).complete) : s.settled u = d := by
  unfold State.settled
  rw [decided]
  exact if_pos same

/-- A block in which the decision for the coming frame is taken. -/
def State.decides (s : State) (u : Fin 2) (d : Decision) : State := s.setSurf u { s.surf[u] with decided := some d }

theorem State.decides_surf : (s.decides u d).surf[u] = { s.surf[u] with decided := some d } := Vector.getElem_set_fin_self

theorem State.decides_next : (s.decides u d).nextStart u = s.nextStart u ∧ (s.decides u d).nextK u = s.nextK u := by
  have inStep : (s.decides u d).inStep u = s.inStep u := by
    unfold State.inStep
    rw [State.decides_surf]
    rfl
  unfold State.nextStart State.nextK
  rw [inStep, State.decides_surf]
  exact ⟨rfl, rfl⟩

theorem State.decides_decision : (s.decides u d).decision u = d := by
  unfold State.decision
  rw [State.decides_surf]
  rfl

/-- The view of the coming frame under the decision taken. -/
theorem State.viewNext_decides : ((s.decides u d).viewNext u).u = u ∧
    ((s.decides u d).viewNext u).bank = ((s.surf[u]).showBank != d.swap) ∧
    ((s.decides u d).viewNext u).bk = (s.nextStart u).1 ∧ ((s.decides u d).viewNext u).fn = BitVec.ofNat 8 (s.nextK u) := by
  obtain ⟨start, k⟩ := State.decides_next (s := s) (u := u) (d := d)
  refine ⟨rfl, ?_, congrArg Prod.fst start, (congrArg (BitVec.ofNat 8) k :)⟩
  show (((s.decides u d).surf[u]).showBank != ((s.decides u d).decision u).swap) = _
  rw [State.decides_decision, State.decides_surf]

/-! ### A frame boundary -/

/-- What a frame boundary leaves of a surface's frame shown, and of the other surface. -/
theorem State.frameBoundary_does : ∃ n, s.frameBoundary u = n ∧
    (n.surf[u]).showBank = ((s.surf[u]).showBank != (s.surf[u]).complete) ∧ (n.surf[u]).started = true ∧
    (n.surf[u]).showRegs = (if (s.surf[u]).complete then (s.surf[u]).compRegs else (s.surf[u]).showRegs) ∧
    (n.surf[u]).k = s.nextK u ∧ (n.surf[u]).fn = BitVec.ofNat 8 (s.nextK u) ∧ (n.surf[u]).bk = (s.nextStart u).1 ∧
    (n.surf[u]).per = (s.nextStart u).2 ∧ (n.surf[u]).nextShow = 0 ∧ (n.surf[u]).decided = none ∧
    (n.surf[u]).sEff = (s.settled u).sEff ∧ (n.surf[u]).fbProfile = (s.settled u).profile ∧
    ((s.surf[u]).complete = false → (s.surf[u]).started = true → Src.FS_REPEAT ∈ n.flt.raised) ∧
    (∀ w : Fin 2, w ≠ u → n.surf[w] = s.surf[w] ∧ n.comp[w] = s.comp[w]) := by
  refine ⟨_, rfl, ?_⟩
  obtain ⟨vu, bank, bk, fn⟩ := State.viewNext_decides (s := s) (u := u) (d := s.settled u)
  have swap := State.settled_swap (s := s) (u := u)
  unfold State.frameBoundary
  dsimp only
  change ((State.decides s u (s.settled u)).viewNext u).u = u at vu
  rw [show (s.setSurf u { s.surf[u] with decided := some (s.settled u) }) = s.decides u (s.settled u) from rfl]
  generalize hf : (s.decides u (s.settled u)).viewNext u = f at *
  generalize hd : s.settled u = d at *
  generalize noteIf (!!(s.surf[u]).started) _ = notes
  have ended : Only [.now, .regs, .live, .intake, .flt, .out] s ((s.report notes).endPeriods u) :=
    .app State.endPeriods_only rfl (.app State.report_only rfl .refl)
  generalize (s.report notes).endPeriods u = v at *
  have surf : v.surf = s.surf := ended .surf rfl
  have comp : v.comp = s.comp := ended .comp rfl
  obtain ⟨shown, kept, repeat_⟩ := State.beginFrame_does (s := v) (f := f) (d := d) (k := s.nextK u) (per := (s.nextStart u).2)
  generalize v.beginFrame f d (s.nextK u) (s.nextStart u).2 = w at *
  have rest : Shows f.u w ((w.beginPeriodOf f (!(s.surf[u]).started) (s.limitedNow u) (s.corr.surf[u]).tpar).captureAll u).gladeSettle :=
    .trans State.gladeSettle_shows (.trans State.captureAll_shows State.beginPeriodOf_shows)
  generalize ((w.beginPeriodOf f (!(s.surf[u]).started) (s.limitedNow u) (s.corr.surf[u]).tpar).captureAll u).gladeSettle = n at *
  subst vu
  have own : w.surf[f.u] = (s.surf[f.u]).next f d (s.nextK f.u) (s.nextStart f.u).2 := by
    rw [shown, surf, Vector.getElem_set_fin_self]
  have final : ∃ a b c e, n.surf[f.u] = { (s.surf[f.u]).next f d (s.nextK f.u) (s.nextStart f.u).2 with
      compCmt := a, compSeq := b, compRegs := c, complete := e } := by
    obtain ⟨a, b, c, e, h⟩ := rest.surf
    exact ⟨a, b, c, e, by rw [h, Vector.getElem_set_fin_self, own]⟩
  obtain ⟨a, b, c, e, final⟩ := final
  rw [final]
  refine ⟨bank.trans (by rw [swap]), rfl, ?_, rfl, fn, bk, rfl, rfl, rfl, rfl, rfl, fun stays started => rest.grows.mem (repeat_ ?_ ?_),
    fun o apart => ⟨(rest.other apart).1.trans ?_, (rest.other apart).2.trans ?_⟩⟩
  · show (if d.swap then (s.surf[f.u]).compRegs else (s.surf[f.u]).showRegs) = _
    rw [swap]
  · exact swap.trans stays
  · rw [surf]
    exact started
  · rw [shown, surf, Vector.getElem_set_fin_ne apart]
  · rw [kept, comp]

end

/-! ### The decision instant (05 R218) -/

section
variable {s v : State} {u : Fin 2} {l : Fin 8} {k j : Fin 4} {t : Nat} {m : BitVec 8}

theorem State.sendArw_now : s.sendArw.now = s.now := by
  unfold State.sendArw
  split
  · split
    · rfl
    · dsimp only
      split
      · rfl
      · exact (State.sendRow_parts .now rfl).1
  · rfl

theorem State.putMask_now : (s.putMask k m).now = s.now := by
  unfold State.putMask
  dsimp only
  have cleared : (if (s.skein[k]).lmask = 0 then s.clearMisses k else s).now = s.now := by
    split
    · exact (State.clearMisses_parts .now rfl).1
    · rfl
  rw [State.sendArw_now, (State.sendRow_parts .now rfl).1]
  exact cleared

/-- What the return of held lanes leaves of a block. -/
structure Returned (s n : State) : Prop where
  now : n.now = s.now
  buffer : ∀ k : Fin 4, (n.skein[k]).buffer = (s.skein[k]).buffer
  parts : Only [.now, .skein, .arr, .areq, .lane, .stream, .flt, .out] s n

theorem State.putMask_buffer : ((s.putMask k m).skein[j]).buffer = (s.skein[j]).buffer := by
  rw [State.putMask_does.1]
  by_cases e : j = k
  · subst e
    rw [Vector.getElem_set_fin_self]
  · rw [Vector.getElem_set_fin_ne e]

theorem State.returnLane_returned (h : Returned s v) : Returned s (State.returnLane v l) := by
  unfold State.returnLane
  split
  · dsimp only
    have line : Only [.lane, .stream, .out] v ((v.putLine l (v.laneSkein l) (v.laneNo l) [] .stream).setLane l
        { (v.putLine l (v.laneSkein l) (v.laneNo l) [] .stream).lane[l] with
          st := .service, recent := true, conf := 0, confirmed := false }) :=
      .app State.setLane_parts rfl (.app State.putLine_parts rfl .refl)
    generalize (v.putLine l (v.laneSkein l) (v.laneNo l) [] .stream).setLane l _ = w at *
    refine ⟨State.putMask_now.trans ((line .now rfl).1.trans h.now), fun k => State.putMask_buffer.trans ?_,
      .app State.putMask_does.2 rfl (.app line rfl h.parts)⟩
    rw [show w.skein = v.skein from line .skein rfl]
    exact h.buffer k
  · exact h

theorem State.returnLanes_returned : Returned s (s.returnLanes u) := by
  unfold State.returnLanes
  exact List.foldlRecOn (motive := Returned s) _ _ ⟨rfl, fun _ => rfl, .refl⟩ (fun v h k _ =>
    List.foldlRecOn (motive := Returned s) _ _ h (fun w h l _ => State.returnLane_returned h))

theorem State.reform_empty {f : FrameView} (empty : (s.skein[k]).buffer = none) : State.reform f s k = s := by
  unfold State.reform
  dsimp only
  rw [empty]

/-- A block in which the decision for the coming frame is taken now. -/
def State.decidedAt (v : State) (u : Fin 2) (d : Decision) : State :=
  v.setSurf u { v.surf[u] with decided := some d, decTick := v.now / tick }

theorem State.takeDecision_eq : s.takeDecision u =
    State.comingRanges (((s.returnLanes u).decidedAt u ((s.returnLanes u).decideNow u)).viewNext u) ((s.returnLanes u).decideNow u)
      (skeins.foldl (State.reform (((s.returnLanes u).decidedAt u ((s.returnLanes u).decideNow u)).viewNext u))
        ((s.returnLanes u).decidedAt u ((s.returnLanes u).decideNow u))) := rfl

/-- Clause of `Obligations.FrameBoundaryShowsTheCompleteFrame`: the decision instant. -/
theorem execDecisionInstant_decides (on : s.coreOn = true) (began : s.tb.fcnt ≠ 0) :
    ∃ n d, exec (.decisionInstant t u) s = .next n ∧
      n.surf = s.surf.set u { s.surf[u] with decided := some d, decTick := max s.now t / tick } ∧
      d.swap = (s.surf[u]).complete ∧
      d.profile = (if s.cmt.accepted then (s.surf[u]).fbSel else s.glade.hasGpr && gprEn s.glade.gpr u) ∧
      n.tb = s.tb ∧ n.comp = s.comp ∧
      ((∀ k : Fin 4, (s.skein[k]).buffer = none) → n.glade = s.glade ∧ n.corr = s.corr ∧ n.health = s.health) := by
  have run : exec (.decisionInstant t u) s = .next ((s.stamp t).takeDecision u) :=
    (onCore_on on : execDecisionInstant t u s = _).trans (congrArg _ (State.when_true (s := s.stamp t) (bne_iff_ne.mpr began)))
  have back : Returned (s.stamp t) ((s.stamp t).returnLanes u) := State.returnLanes_returned
  rw [State.takeDecision_eq] at run
  generalize (s.stamp t).returnLanes u = v at *
  have surf : v.surf = s.surf := back.parts .surf rfl
  have now : v.now = max s.now t := back.now
  have choice : (v.decideNow u).swap = (s.surf[u]).complete ∧
      (v.decideNow u).profile = (if s.cmt.accepted then (s.surf[u]).fbSel else s.glade.hasGpr && gprEn s.glade.gpr u) := by
    refine ⟨congrArg (fun x : Vector Surface 2 => (x[u]).complete) surf, ?_⟩
    show v.profileNext u = _
    unfold State.profileNext
    rw [surf, back.parts .cmt rfl, back.parts .glade rfl]
    rfl
  generalize v.decideNow u = d at *
  generalize hw : v.decidedAt u d = w at *
  have set : w.surf = s.surf.set u { s.surf[u] with decided := some d, decTick := max s.now t / tick } := by
    rw [← hw]
    unfold State.decidedAt State.setSurf
    dsimp only
    rw [surf, now]
  have put : Only [.surf] v w := hw ▸ State.setSurf_only
  generalize w.viewNext u = f at *
  have formed : Only [.now, .regs, .live, .bank0, .bank1, .health, .healthSeen, .clearQ, .calib, .skein, .corr, .shade, .pwr, .flt,
      .glade, .log, .out] w (skeins.foldl (State.reform f) w) := .foldl .refl (fun _ _ h => .app State.reform_only rfl h)
  have idle : (∀ k : Fin 4, (w.skein[k]).buffer = none) → skeins.foldl (State.reform f) w = w := fun empty =>
    List.foldlRecOn (motive := fun x => x = w) _ _ rfl (fun x h k _ => by rw [h]; exact State.reform_empty (empty k))
  have none_ : (∀ k : Fin 4, (s.skein[k]).buffer = none) → ∀ k : Fin 4, (w.skein[k]).buffer = none := fun empty k => by
    rw [show w.skein = v.skein from put .skein rfl]
    exact (back.buffer k).trans (empty k)
  generalize skeins.foldl (State.reform f) w = x at *
  have ranges : Only [.now, .regs, .live, .stream, .flt, .out] x (x.comingRanges f d) := State.comingRanges_only
  refine ⟨_, d, run, ?_, choice.1, choice.2, ?_, ?_, fun empty => ?_⟩
  · exact (ranges .surf rfl).trans ((formed .surf rfl).trans set)
  · exact (ranges .tb rfl).trans ((formed .tb rfl).trans ((put .tb rfl).trans (back.parts .tb rfl)))
  · exact (ranges .comp rfl).trans ((formed .comp rfl).trans ((put .comp rfl).trans (back.parts .comp rfl)))
  · have same := idle (none_ empty)
    rw [ranges .glade rfl, ranges .corr rfl, ranges .health rfl, same, put .glade rfl, put .corr rfl, put .health rfl,
      back.parts .glade rfl, back.parts .corr rfl, back.parts .health rfl]
    exact ⟨rfl, rfl, rfl⟩

end

/-- Settles O39. -/
theorem frameBoundaryShowsTheCompleteFrame : Obligations.FrameBoundaryShowsTheCompleteFrame := by
  unfold Obligations.FrameBoundaryShowsTheCompleteFrame
  refine fun t u s on canon => ⟨fun due m first => ?_, fun early => ?_, fun d decided same => State.settled_kept decided same,
    fun began => execDecisionInstant_decides on began, fun before => ?_⟩
  · have run : exec (.surfaceFrameBoundary t u) s = .next (State.frameBoundary u m) := by
      rw [first]
      exact (onCore_on on : execSurfaceFrameBoundary t u s = _).trans (congrArg _ (State.when_true (s := s.stamp t) due))
    have ended : Only [.now, .regs, .live, .surf, .intake, .comp, .corr, .flt, .out] s m :=
      first ▸ .app State.endingFirst_only rfl (.app State.stamp_only rfl .refl)
    obtain ⟨n, e, bank, started, regs, k, fn, bk, per, next, decided, sEff, profile, told, others⟩ :=
      State.frameBoundary_does (s := m) (u := u)
    have parts := State.frameBoundary_only (s := m) (u := u)
    rw [e] at run parts
    exact ⟨n, run, bank, started, regs, k, fn, bk, per, next, decided, sEff, profile, told, others,
      (parts .tb rfl).trans (ended .tb rfl), (parts .bank0 rfl).trans (ended .bank0 rfl), (parts .bank1 rfl).trans (ended .bank1 rfl)⟩
  · exact (onCore_on on : execSurfaceFrameBoundary t u s = _).trans (congrArg _ (State.when_false (s := s.stamp t) early))
  · exact (onCore_on on : execDecisionInstant t u s = _).trans (congrArg _ (State.when_false (s := s.stamp t) (by
      rw [show (s.stamp t).tb.fcnt = 0 from before]
      rfl)))

end Sys2Proof.Machine
end

section
/-! Planes formed and loaded. -/

namespace Sys2Proof.Machine

open Sys2Proof

/-! ### The cut-off of a plane (10 R383) -/

section
variable {s m w : State} {k l : Fin 4} {j : Nat} {v : FrameView} {ahead : Bool} {up : List Upset} {b : List (Fin 8 × Bundle)}

theorem State.cutoff_waits (h : (s.skein[k]).buffer ≠ none ∨ s.bufferedFor (s.skein[k]).busyTo = false) :
    s.cutoff k up b = s := by
  refine if_pos ?_
  rcases h with full | early
  · rw [Option.isSome_iff_ne_none.mpr full]
    rfl
  · rw [early]
    exact Bool.or_true _

theorem State.cutoff_none (h : ∀ v j ahead, s.target k = some (v, j, ahead) → (s.forms v k && s.mayStart v k j usec) = false) :
    s.cutoff k up b = s := by
  unfold State.cutoff
  split
  · rfl
  · split
    next found => exact if_neg (by rw [h _ _ _ found]; exact Bool.false_ne_true)
    · rfl

theorem State.cutoff_forms (empty : (s.skein[k]).buffer = none) (due : s.bufferedFor (s.skein[k]).busyTo = true)
    (target : s.target k = some (v, j, ahead)) (forms : s.forms v k = true) (start : s.mayStart v k j usec = true) :
    s.cutoff k up b = s.form v k j ahead up b := by
  unfold State.cutoff
  rw [if_neg (by rw [empty, due]; exact Bool.false_ne_true), target]
  exact if_pos (by rw [forms, start]; rfl)

theorem State.planeEntries_of (arr : w.arr = s.arr) : w.planeEntries v k = s.planeEntries v k := by
  unfold State.planeEntries
  rw [arr]

theorem State.formPlane_does {i : Nat} {seq : BitVec 8} {errs : List (Fin 8 × BundleError)} :
    (s.formPlane v k i seq errs).bits.map (fun x => x.1) = (s.planeEntries v k).map (fun e => e.n) := by
  have arr : (s.formState v).arr = s.arr := State.formState_only .arr rfl
  unfold State.formPlane
  dsimp only
  rw [List.map_map, State.planeEntries_of arr]
  rfl

/-- A plane is formed into the skein's buffer under its next SEQ. -/
theorem State.form_does (fresh : (s.skein[k]).tau = none) (once : (s.skein[k]).reseq = []) :
    ∃ p, ((s.form v k j ahead up b).skein[k]).buffer = some p ∧ p.idx = j ∧ p.fn = v.fn ∧ p.fb = v.fb ∧ p.seq = (s.skein[k]).seq ∧
      p.bits.map (fun x => x.1) = (s.planeEntries v k).map (fun e => e.n) ∧
      p.dead = (s.planeErrors v k b).any (fun x => x.2 == .code) ∧
      ((s.form v k j ahead up b).skein[k]).seq = (s.skein[k]).seq + 1 ∧
      ((s.form v k j ahead up b).skein[k]).nextForm = (s.skein[k]).nextForm + 1 ∧
      ((s.form v k j ahead up b).skein[k]).queued = (s.skein[k]).queued ∧
      (∀ l : Fin 4, l ≠ k → (s.form v k j ahead up b).skein[l] = s.skein[l]) := by
  unfold State.form
  dsimp only
  generalize s.planeErrors v k b = errs
  have read : Only [.now, .regs, .live, .bank0, .bank1, .health, .healthSeen, .calib, .fab, .corr, .shade, .pwr, .flt, .glade, .log,
      .out] s ((s.readPlane v k up errs).disarmShow v k) := .app State.disarmShow_only rfl
          (.app State.readPlane_only rfl .refl)
  generalize (s.readPlane v k up errs).disarmShow v k = u at *
  have skein : u.skein = s.skein := read .skein rfl
  have again : (u.skein[k]).reseqOf v.fn j = none := by
    simp only [skein]
    unfold SkeinTx.reseqOf
    rw [once]
    rfl
  have tau : (u.skein[k]).tau = none := by
    simp only [skein]
    exact fresh
  rw [again, tau]
  have checked : Only [.now, .regs, .live, .health, .healthSeen, .clearQ, .surf, .shade, .flt, .out] u
      ((u.checkList v).when (j == 0) (State.countHealth v k ahead)) :=
    Only.when (fun _ h => .app State.countHealth_only rfl h) (.app State.checkList_only rfl .refl)
  generalize (u.checkList v).when (j == 0) (State.countHealth v k ahead) = c at *
  have kept : c.skein = s.skein := (checked .skein rfl).trans skein
  rw [State.setSkein_skein, kept, Vector.getElem_set_fin_self]
  refine ⟨_, rfl, rfl, rfl, rfl, ?_, ?_, rfl, ?_, ?_, ?_, fun l other => Vector.getElem_set_fin_ne other⟩
  · show (u.skein[k]).seq = _
    simp only [skein]
  · exact State.formPlane_does.trans (by rw [State.planeEntries_of (read .arr rfl)])
  · show (u.skein[k]).seq + 1 = _
    simp only [skein]
  · show (u.skein[k]).nextForm + 1 = _
    simp only [skein]
  · show (u.skein[k]).queued = _
    simp only [skein]

end

/-! ### The load of a plane (03 R105) -/

section
variable {s n : State} {k l : Fin 4} {v : FrameView} {p : Plane} {idles : List Nat} {least : Nat} {t ticks : Nat}

theorem State.rateCode_of (regs : n.regs = s.regs) : n.rateCode = s.rateCode := by
  unfold State.rateCode State.active
  rw [regs]

/-- The slots that pass rest on the streams, the instant and the rate alone. -/
theorem State.advance_stream (stream : n.stream = s.stream) (now : n.now = s.now) (regs : n.regs = s.regs) :
    (n.advance k least).stream = (s.advance k least).stream := by
  have rate := State.rateCode_of regs
  unfold State.advance
  rw [stream]
  split
  · rw [rate, now]
    rfl
  · exact stream

/-- With the checker of packets not armed, shares leave the block as it is. -/
theorem State.sendShares_calm (calm : s.flt.inj.remain = 0) {seq : BitVec 8} {xs : List (Fin 16 × List Bool)} {dark : BitVec 16}
    {out : List Block66} : xs.foldl (State.sendShare seq) (s, dark, out) = (s, dark, out ++
      xs.flatMap (fun x => sharePackets (fld (s.active Reg.AL_POLL) 8 13) x.1 seq x.2 0)) := by
  induction xs generalizing out with
  | nil => rw [List.foldl_nil, List.flatMap_nil, List.append_nil]
  | cons x xs ih =>
    have plain : ∀ n, s.packetsFor x.1 n = (s, false) := fun n => if_neg (fun h => h.1 (State.injMode_off calm))
    have step : State.sendShare seq (s, dark, out) x =
        (s, dark, out ++ sharePackets (fld (s.active Reg.AL_POLL) 8 13) x.1 seq x.2 0) := by
      unfold State.sendShare
      dsimp only
      rw [plain]
      rfl
    rw [List.foldl_cons, step, ih, List.flatMap_cons, List.append_assoc]

/-- The packets of a plane take stream positions after those that wait, and the plane leaves (04 R143, R145). -/
theorem State.sendPlane_does (calm : s.flt.inj.remain = 0) {m : BitVec 8} :
    ((s.sendPlane k m p idles).stream.skein[k]).pkts = ((s.advance k 0).stream.skein[k]).pkts ++ withIdles idles
        (p.bits.flatMap (fun x => sharePackets (fld (s.active Reg.AL_POLL) 8 13) x.1 p.seq x.2 0)) ∧
      (s.sendPlane k m p idles).out.head? = some (.plane k m p 0) ∧ Only [.stream, .out] s (s.sendPlane k m p idles) := by
  unfold State.sendPlane
  dsimp only
  rw [State.sendShares_calm calm]
  dsimp only
  rw [List.nil_append]
  generalize withIdles idles (p.bits.flatMap
      (fun x => sharePackets (fld (s.active Reg.AL_POLL) 8 13) x.1 p.seq x.2 0)) = bs
  have queue : Only [.stream, .out] s (s.queuePackets k bs) := State.queuePackets_parts
  refine ⟨?_, rfl, .app State.report_parts rfl queue⟩
  show (((s.queuePackets k bs).stream).skein[k]).pkts = _
  unfold State.queuePackets State.setSkeinLine
  dsimp only
  rw [Vector.getElem_set_fin_self]

/-- The load that starts (08 R305). -/
theorem State.startLoad_does (fresh : (s.skein[k]).tau = none) (calm : s.flt.inj.remain = 0) :
    ∃ y, ((s.startLoad k p ticks idles).skein[k]).buffer = none ∧
      ((s.startLoad k p ticks idles).skein[k]).queued = (s.skein[k]).queued ++ [y] ∧ y.plane = p ∧ y.start = s.now ∧
      y.stop = s.now + ticks + positionTicks idles.length (laneCount (s.skein[k]).lmask) s.rateCode ∧
      y.lmask = (s.skein[k]).lmask ∧ y.dark = 0 ∧ ((s.startLoad k p ticks idles).skein[k]).busyTo = y.stop - 10240 ∧
      ((s.startLoad k p ticks idles).skein[k]).seq = (s.skein[k]).seq ∧
      (∀ l : Fin 4, l ≠ k → (s.startLoad k p ticks idles).skein[l] = s.skein[l]) ∧
      ((s.startLoad k p ticks idles).stream.skein[k]).pkts = ((s.advance k 0).stream.skein[k]).pkts ++ withIdles idles
        (p.bits.flatMap (fun x => sharePackets (fld (s.active Reg.AL_POLL) 8 13) x.1 p.seq x.2 0)) ∧
      (s.startLoad k p ticks idles).out.head? = some (.plane k (s.skein[k]).lmask p 0) ∧
      Only [.skein, .stream, .out] s (s.startLoad k p ticks idles) := by
  refine ⟨s.newLoad k p s.now ticks idles, ?_⟩
  unfold State.startLoad
  dsimp only
  rw [fresh]
  dsimp only
  generalize hx : ({ s.skein[k] with
    buffer := none, stalled := false, busyTo := (s.newLoad k p s.now ticks idles).stop - 10240
    tau := none, queued := (s.skein[k]).queued ++ [s.newLoad k p s.now ticks idles]
    reseq := dropPlane p.fn p.idx (s.skein[k]).reseq } : SkeinTx) = x
  have own : x.buffer = none ∧ x.queued = (s.skein[k]).queued ++ [s.newLoad k p s.now ticks idles] ∧
      x.busyTo = (s.newLoad k p s.now ticks idles).stop - 10240 ∧ x.seq = (s.skein[k]).seq ∧ x.lmask = (s.skein[k]).lmask := by
    rw [← hx]
    exact ⟨rfl, rfl, rfl, rfl, rfl⟩
  obtain ⟨buffer, queued, busy, seq, lmask⟩ := own
  obtain ⟨pkts, out, parts⟩ := State.sendPlane_does (s := s.setSkein k x) (k := k) (p := p) (idles := idles) calm (m := x.lmask)
  have passed : ((s.setSkein k x).advance k 0).stream = (s.advance k 0).stream := State.advance_stream rfl rfl rfl
  rw [passed, lmask] at pkts
  rw [lmask] at out parts
  rw [parts .skein rfl, State.setSkein_skein, Vector.getElem_set_fin_self, pkts, out]
  exact ⟨buffer, queued, rfl, rfl, rfl, rfl, rfl, busy, seq, fun l other => Vector.getElem_set_fin_ne other, rfl, rfl,
    .app parts rfl (.app State.setSkein_only rfl .refl)⟩

end

/-! ### A load that is due, or too late (03 R105, R108) -/

section
variable {s : State} {k : Fin 4} {v : FrameView} {p : Plane} {idles : List Nat} {t : Nat}

theorem State.loadDue_none (empty : (s.skein[k]).buffer = none) : s.loadDue k idles = s := by
  unfold State.loadDue
  dsimp only
  rw [empty]

theorem State.loadDue_waits (full : (s.skein[k]).buffer = some p) (frame : s.frameOf k p = some v)
    (h : 2 ≤ (s.skein[k]).queued.length + (s.skein[k]).extra.length ∨ s.now < (s.skein[k]).busyTo ∨
      s.mayStart v k p.idx 0 = false) : s.loadDue k idles = s := by
  unfold State.loadDue
  dsimp only
  rw [full]
  dsimp only
  rw [frame]
  refine if_pos ?_
  rcases h with many | busy | early
  · rw [decide_eq_true many]
    rfl
  · rw [decide_eq_true busy, Bool.or_true]
    rfl
  · rw [early]
    exact Bool.or_true _

/-- A load that is due starts where it can end in time, and is skipped where it cannot. -/
theorem State.loadDue_due (full : (s.skein[k]).buffer = some p) (frame : s.frameOf k p = some v)
    (few : (s.skein[k]).queued.length + (s.skein[k]).extra.length < 2) (free : (s.skein[k]).busyTo ≤ s.now)
    (start : s.mayStart v k p.idx 0 = true) (fresh : (s.skein[k]).tau = none) (sound : p.dead = false) :
    s.loadDue k idles =
      if ((s.skein[k]).lmask == 0 || decide (v.showAt p.idx < s.now + s.loadTicks v k)) = true then s.skipPlane v.u k p
      else s.startLoad k (s.healthyPlane v p) (s.loadTicks v k) idles := by
  unfold State.loadDue
  dsimp only
  rw [full]
  dsimp only
  rw [frame]
  dsimp only
  rw [if_neg (by rw [decide_eq_false (Nat.not_le.mpr few), decide_eq_false (Nat.not_lt.mpr free), start]; exact Bool.false_ne_true),
    fresh, sound, Bool.false_or]
  rfl

/-- A skein whose formed plane is not loaded. -/
def SkeinTx.skips (x : SkeinTx) (p : Plane) : SkeinTx :=
  { x with
    buffer := none, skipped := x.skipped ++ [(p.fn, p.idx, p.seq)], reseq := dropPlane p.fn p.idx x.reseq, stalled := false }

/-- A plane of a frame that cannot end its load in time is skipped, counted and raised (03 R108). -/
theorem State.skipPlane_does (canon : s.Canonical) (fresh : (s.skein[k]).tau = none) (sound : p.dead = false)
    (plain : p.entry = false) (kept : (s.skein[k]).early = false) (flows : (s.skein[k]).stalled = false) :
    ((s.skipPlane v.u k p).skein[k]).buffer = none ∧
      ((s.skipPlane v.u k p).skein[k]).skipped = (s.skein[k]).skipped ++ [(p.fn, p.idx, p.seq)] ∧
      ((s.skipPlane v.u k p).skein[k]).queued = (s.skein[k]).queued ∧
      (∀ l : Fin 4, l ≠ k → (s.skipPlane v.u k p).skein[l] = s.skein[l]) ∧
      lget (s.skipPlane v.u k p).live (Reg.ST_LATE v.u) = satAdd (lget s.live (Reg.ST_LATE v.u)) 1 ∧
      LiveOnly [Reg.ST_LATE v.u] s (s.skipPlane v.u k p) ∧ Raised [Src.ST_LATE] s (s.skipPlane v.u k p) ∧
      Only [.skein, .live, .flt] s (s.skipPlane v.u k p) := by
  have notes : skipNotes v.u ((s.skein[k]).early && p.fn == (s.surf[v.u]).fn) (s.skein[k]).stalled p =
      [.tally (Reg.ST_LATE v.u) 1, .raise Src.ST_LATE] := by
    unfold skipNotes
    rw [kept, flows, sound, plain]
    rfl
  have e : s.skipPlane v.u k p =
      (s.setSkein k ((s.skein[k]).skips p)).report [.tally (Reg.ST_LATE v.u) 1, .raise Src.ST_LATE] := by
    unfold State.skipPlane
    dsimp only
    rw [if_neg (by rw [fresh]; exact Bool.false_ne_true), notes]
    rfl
  have skein : ((s.setSkein k ((s.skein[k]).skips p)).report [.tally (Reg.ST_LATE v.u) 1, .raise Src.ST_LATE]).skein =
    s.skein.set k ((s.skein[k]).skips p) := rfl
  rw [e, skein, Vector.getElem_set_fin_self]
  exact ⟨rfl, rfl, rfl, fun l other => Vector.getElem_set_fin_ne other,
    State.report_counts canon.live rfl (if_pos rfl), State.report_liveOnly_of
        (fun _ h => h) rfl, State.report_raised rfl rfl,
    .app State.report_parts rfl (.app State.setSkein_only rfl .refl)⟩

theorem planeLoadStart_next (on : s.coreOn = true) : exec
    (.planeLoadStart t k idles) s = .next ((s.stamp t).loadDue k idles) :=
  (onCore_on on : execPlaneLoadStart t k idles s = _)

end

/-- Settles O40. -/
theorem planesAreFormedAndLoaded : Obligations.PlanesAreFormedAndLoaded := by
  unfold Obligations.PlanesAreFormedAndLoaded
  refine fun t k s on canon => ⟨fun up b m first => ?_, fun idles empty => ?_, fun idles p v full frame =>
    ⟨fun waits => ?_, fun few free start fresh sound => ⟨fun intime lanes calm => ?_, fun late plain kept flows => ?_⟩⟩⟩
  · have taken : Only [.now, .regs, .live, .shade, .flt, .out] s m :=
      first ▸ .app State.takeUpsFirst_only rfl (.app State.stamp_only rfl .refl)
    have skein : m.skein = s.skein := taken .skein rfl
    have run : exec (.planeCutoff t k up b) s = .next (m.cutoff k up b) := by
      rw [first]
      exact (onCore_on on : execPlaneCutoff t k up b s = _)
    refine ⟨fun waits => run.trans (congrArg _ (State.cutoff_waits (by simpa only [skein] using waits))),
      fun none => run.trans (congrArg _ (State.cutoff_none none)), fun v j ahead empty due target forms start fresh once => ?_⟩
    have e : m.cutoff k up b = m.form v k j ahead up b :=
      State.cutoff_forms (by simpa only [skein] using empty) (by simpa only [skein] using due) target forms start
    obtain ⟨p, buffer, idx, fn, fb, seq, bits, dead, next, form, queued, others⟩ := State.form_does (s := m) (k := k) (j := j) (v := v)
      (ahead := ahead) (up := up) (b := b) (by simpa only [skein] using fresh) (by simpa only [skein] using once)
    simp only [skein] at seq next form queued others
    have parts := State.form_only (v := v) (k := k) (j := j) (ahead := ahead) (upsets := up) (bundles := b) (s := m)
    rw [e] at run
    exact ⟨_, p, run, buffer, idx, fn, fb, seq, bits, dead, next, form, queued, others, (parts .arr rfl).trans (taken .arr rfl),
      (parts .tb rfl).trans (taken .tb rfl), (parts .comp rfl).trans (taken .comp rfl), (parts .stream rfl).trans (taken .stream rfl)⟩
  · exact (planeLoadStart_next on).trans (congrArg _ (State.loadDue_none (s := s.stamp t) empty))
  · exact (planeLoadStart_next on).trans (congrArg _ (State.loadDue_waits (s := s.stamp t) full frame waits))
  · have e := State.loadDue_due (s := s.stamp t) (idles := idles) full frame few free start fresh sound
    rw [if_neg (by
      rw [beq_eq_false_iff_ne.mpr (show ((s.stamp t).skein[k]).lmask ≠ 0 from lanes), decide_eq_false
        (show ¬v.showAt p.idx < (s.stamp t).now + (s.stamp t).loadTicks v k from Nat.not_lt.mpr intime)]
      exact Bool.false_ne_true)] at e
    obtain ⟨y, buffer, queued, plane, from', stop, lmask, dark, busy, seq, others, pkts, out, parts⟩ :=
      State.startLoad_does (s := s.stamp t) (k := k) (p := (s.stamp t).healthyPlane v p) (ticks := (s.stamp t).loadTicks v k)
        (idles := idles) fresh calm
    refine ⟨_, y, (planeLoadStart_next on).trans (congrArg _ e), buffer, queued, plane, from', stop, lmask, dark, busy, seq, others,
      ?_, ?_, .app parts rfl (.app State.stamp_only rfl .refl)⟩
    · rw [plane]
      exact pkts
    · rw [plane]
      exact out
  · have e := State.loadDue_due (s := s.stamp t) (idles := idles) full frame few free start fresh sound
    rw [if_pos (by rw [decide_eq_true (show v.showAt p.idx < (s.stamp t).now + (s.stamp t).loadTicks v k from late)]; exact Bool.or_true _)]
      at e
    obtain ⟨buffer, skipped, queued, others, count, counts, raised, parts⟩ := State.skipPlane_does (s := s.stamp t) (v := v) (k := k)
      (p := p) (.only State.stamp_only rfl canon) fresh sound plain kept flows
    exact ⟨_, (planeLoadStart_next on).trans (congrArg _ e), buffer, skipped, queued, others, count, counts, raised,
      .app parts rfl (.app State.stamp_only rfl .refl)⟩

end Sys2Proof.Machine
end

section
/-! Planes shown. -/

namespace Sys2Proof.Machine

open Sys2Proof

/-! ### Steps over a list, each with its own part of the state -/

section
variable {σ α : Type} {g : σ → α → σ} {I : σ → Prop} {P R : α → σ → Prop} {s : σ} {ls : List α}

/-- Where each step of a list brings about what is said of its own element, and leaves what is said of the others, the whole list
brings it about for each of its elements. -/
theorem foldl_each (once : ls.Nodup) (start : I s) (fresh : ∀ a, P a s) (keep : ∀ v a, I v → I (g v a))
    (others : ∀ v a b, I v → b ≠ a → P b v → P b (g v a)) (own : ∀ v a, I v → P a v → R a (g v a))
    (later : ∀ v a b, I v → b ≠ a → R b v → R b (g v a)) :
    I (ls.foldl g s) ∧ ∀ a, (a ∈ ls → R a (ls.foldl g s)) ∧ (a ∉ ls → P a (ls.foldl g s)) := by
  have inv : ∀ (xs : List α) v, I v → I (xs.foldl g v) := fun xs v h => List.foldlRecOn _ _ h
      (fun w hw a _ => keep w a hw)
  have untouched : ∀ (xs : List α) v b, b ∉ xs → I v → P b v → P b (xs.foldl g v) := by
    intro xs
    induction xs with
    | nil => exact fun v b _ _ h => h
    | cons x r ih =>
      intro v b out hv h
      rw [List.mem_cons, not_or] at out
      exact ih (g v x) b out.2 (keep v x hv) (others v x b hv out.1 h)
  have done : ∀ (xs : List α) v b, b ∉ xs → I v → R b v → R b (xs.foldl g v) := by
    intro xs
    induction xs with
    | nil => exact fun v b _ _ h => h
    | cons x r ih =>
      intro v b out hv h
      rw [List.mem_cons, not_or] at out
      exact ih (g v x) b out.2 (keep v x hv) (later v x b hv out.1 h)
  refine ⟨inv ls s start, fun a => ⟨fun mem => ?_, fun out => untouched ls s a out start (fresh a)⟩⟩
  obtain ⟨pre, post, rfl⟩ := List.append_of_mem mem
  obtain ⟨-, rest, apart⟩ := List.nodup_append.mp once
  have first : a ∉ pre := fun h => apart a h a (List.mem_cons_self ..) rfl
  rw [List.foldl_append, List.foldl_cons]
  exact done post _ a (List.nodup_cons.mp rest).1 (keep _ a (inv pre s start))
    (own _ a (inv pre s start) (untouched pre s a first start (fresh a)))

end

/-! ### What a skein shows (04 R137, 08 R305) -/

section
variable {s w : State} {v : FrameView} {k j : Fin 4} {y : Load} {i : Nat} {m : BitVec 8} {r : Nat → Row} {u : Fin 2}

theorem State.sendTimed_parts : Only [.free, .stream, .flt, .out] s (s.sendTimed k m r) := by
  unfold State.sendTimed
  exact .app State.spend_only rfl (.app State.sendRow_parts rfl .refl)

theorem State.showLoad_parts : Only [.free, .live, .stream, .flt, .out] s (s.showLoad v k y) := by
  unfold State.showLoad
  exact .ite (State.sendTimed_parts.mono rfl)
      (.app (State.report_parts.mono (noteIf_parts (f := fun p => [.live, .flt].contains p) rfl))
    rfl (.app State.sendTimed_parts rfl .refl))

theorem State.showLoad_grows : Grows s (s.showLoad v k y) := by
  unfold State.showLoad
  exact .ite State.sendTimed_grows (.app .report State.sendTimed_grows)

theorem State.showLoad_starved (late : y.ready s.now = false) (starved : y.cut = true ∨ 0 < y.idles) :
    Src.FB_STLATE ∈ (s.showLoad v k y).flt.raised := by
  have empty : (y.cut || decide (0 < y.idles)) = true := by
    rcases starved with h | h
    · rw [h, Bool.true_or]
    · rw [decide_eq_true h, Bool.or_true]
  unfold State.showLoad
  rw [if_neg (by rw [late]; exact Bool.false_ne_true), empty]
  exact List.mem_append_right _ (List.mem_singleton_self _)

/-- What shows on a skein changes of the skeins only its own. -/
structure Showing (s n : State) (k : Fin 4) : Prop where
  parts : Only [.free, .live, .skein, .stream, .flt, .out] s n
  others : ∀ j : Fin 4, j ≠ k → n.skein[j] = s.skein[j]
  grows : Grows s n

theorem Showing.refl : Showing s s k := ⟨.refl, fun _ _ => rfl, .refl⟩

theorem Showing.trans {n : State} (h : Showing w n k) (f : Showing s w k) : Showing s n k :=
  ⟨.app h.parts rfl f.parts, fun j other => (h.others j other).trans (f.others j other), f.grows.trans h.grows⟩

theorem State.setSkein_showing {x : SkeinTx} : Showing s (s.setSkein k x) k :=
  ⟨State.setSkein_only.mono rfl, fun j other => by rw [State.setSkein_skein, Vector.getElem_set_fin_ne other], .of_flt rfl⟩

theorem State.sendTimed_showing : Showing s (s.sendTimed k m r) j :=
  ⟨State.sendTimed_parts.mono rfl, fun j _ => congrArg (·[j]) (State.sendTimed_parts .skein rfl), State.sendTimed_grows⟩

theorem State.showLoad_showing : Showing s (s.showLoad v k y) j :=
  ⟨State.showLoad_parts.mono rfl, fun j _ => congrArg (·[j]) (State.showLoad_parts .skein rfl), State.showLoad_grows⟩

theorem State.showExtra_showing : Showing s (s.showExtra v k) k := by
  unfold State.showExtra
  exact List.foldlRecOn (motive := fun w => Showing s w k) _ _ State.setSkein_showing
    (fun w h y _ => .trans State.setSkein_showing (.trans State.showLoad_showing h))

theorem State.showExtra_none (none : (s.skein[k]).extra = []) : s.showExtra v k = s := by
  unfold State.showExtra
  dsimp only
  rw [none, List.filter_nil, List.filter_nil, List.foldl_nil, ← none]
  unfold State.setSkein
  rw [show ({ s.skein[k] with extra := (s.skein[k]).extra } : SkeinTx) = s.skein[k] from rfl, vector_set_get]

/-- The load on a skein of plane i of a frame. -/
def Load.isPlane (v : FrameView) (i : Nat) (y : Load) : Bool := y.plane.fn == v.fn && y.plane.idx == i

/-- What a show instant leaves of a skein (04 R137). -/
def Shown (v : FrameView) (i now : Nat) (x y : SkeinTx) : Prop :=
  y.lmask = x.lmask ∧ y.buffer = x.buffer ∧ y.queued = x.queued.filter (fun l => !l.isPlane v i) ∧
    y.shown = (x.queued.find? (fun l => l.isPlane v i)).bind (fun l => if l.ready now then some l.plane else none)

theorem State.showSkein_does : Showing s (s.showSkein v i k) k ∧ Shown v i s.now (s.skein[k]) ((s.showSkein v i k).skein[k]) ∧
    (∀ y, (s.skein[k]).queued.find?
        (fun l => l.isPlane v i) = some y → y.ready s.now = false → y.cut = true ∨ 0 < y.idles →
      Src.FB_STLATE ∈ (s.showSkein v i k).flt.raised) := by
  have e : s.showSkein v i k = match (s.skein[k]).queued.find? (fun l => l.isPlane v i) with
      | some y => (s.showLoad v k y).setSkein k { s.skein[k] with
          queued := (s.skein[k]).queued.filter (fun l => !l.isPlane v i), skipped := dropPlane v.fn i (s.skein[k]).skipped
          reseq := dropPlane v.fn i (s.skein[k]).reseq, shown := if y.ready s.now then some y.plane else none }
      | none => (s.darkRow v k ((s.skein[k]).darkSeq v.fn i)).setSkein k { s.skein[k] with
          queued := (s.skein[k]).queued.filter (fun l => !l.isPlane v i), skipped := dropPlane v.fn i (s.skein[k]).skipped
          reseq := dropPlane v.fn i (s.skein[k]).reseq, shown := none } := rfl
  rw [e]
  unfold Shown
  cases found : (s.skein[k]).queued.find? (fun l => l.isPlane v i) with
  | some y =>
    dsimp only
    rw [State.setSkein_skein, Vector.getElem_set_fin_self]
    refine ⟨.trans State.setSkein_showing State.showLoad_showing, ⟨rfl, rfl, rfl, rfl⟩, fun z same late starved => ?_⟩
    cases same
    exact State.showLoad_starved late starved
  | none =>
    dsimp only
    rw [State.setSkein_skein, Vector.getElem_set_fin_self]
    exact ⟨.trans State.setSkein_showing State.sendTimed_showing, ⟨rfl, rfl, rfl, rfl⟩, nofun⟩

end

/-! ### A surface's show instant -/

section
variable {s n w : State} {v : FrameView} {k : Fin 4} {u : Fin 2} {fill i t x : Nat}

theorem State.skeinsOf_nodup : (s.skeinsOf u).Nodup := (List.nodup_finRange 4).filter _

/-- The extras of a surface's skeins that are due show; a skein without one stays. -/
theorem State.showExtras_does {ls : List (Fin 4)} (once : ls.Nodup) :
    Only [.free, .live, .skein, .stream, .flt, .out] s (ls.foldl (State.showExtra v) s) ∧
      ∀ k : Fin 4, (k ∈ ls → (s.skein[k]).extra = [] → (ls.foldl (State.showExtra v) s).skein[k] = s.skein[k]) ∧
        (k ∉ ls → (ls.foldl (State.showExtra v) s).skein[k] = s.skein[k]) := by
  refine foldl_each (g := State.showExtra v) (I := fun w => Only [.free, .live, .skein, .stream, .flt, .out] s w)
    (P := fun k w => w.skein[k] = s.skein[k]) (R := fun k w => (s.skein[k]).extra = [] → w.skein[k] = s.skein[k]) once .refl
    (fun _ => rfl) (fun w k h => .app State.showExtra_showing.parts rfl h)
    (fun w k j _ other h => (State.showExtra_showing.others j other).trans h) (fun w k _ h none => ?_)
    (fun w k j _ other h none => (State.showExtra_showing.others j other).trans (h none))
  rw [State.showExtra_none (by rw [h]; exact none)]
  exact h

/-- The planes of a list of skeins show. -/
theorem State.showSkeins_does {ls : List (Fin 4)} (once : ls.Nodup) :
    Only [.free, .live, .skein, .stream, .flt, .out] s (ls.foldl (State.showSkein v i) s) ∧
      ∀ k : Fin 4, (k ∈ ls → Shown v i s.now (s.skein[k]) ((ls.foldl (State.showSkein v i) s).skein[k]) ∧
          (∀ y, (s.skein[k]).queued.find?
              (fun l => l.isPlane v i) = some y → y.ready s.now = false → y.cut = true ∨ 0 < y.idles →
            Src.FB_STLATE ∈ (ls.foldl (State.showSkein v i) s).flt.raised)) ∧
        (k ∉ ls → (ls.foldl (State.showSkein v i) s).skein[k] = s.skein[k]) := by
  refine foldl_each (g := State.showSkein v i) (I := fun w => Only [.free, .live, .skein, .stream, .flt, .out] s w)
    (P := fun k w => w.skein[k] = s.skein[k])
    (R := fun k w => Shown v i s.now (s.skein[k]) (w.skein[k]) ∧
      (∀ y, (s.skein[k]).queued.find?
          (fun l => l.isPlane v i) = some y → y.ready s.now = false → y.cut = true ∨ 0 < y.idles →
        Src.FB_STLATE ∈ w.flt.raised)) once .refl
    (fun _ => rfl) (fun w k h => .app State.showSkein_does.1.parts rfl h)
    (fun w k j _ other h => (State.showSkein_does.1.others j other).trans h) (fun w k parts h => ?_)
    (fun w k j _ other h => ?_)
  · obtain ⟨-, shown, starved⟩ := State.showSkein_does (s := w) (v := v) (i := i) (k := k)
    rw [h, (parts .now rfl).1] at shown starved
    exact ⟨shown, starved⟩
  · obtain ⟨shown, starved⟩ := h
    rw [State.showSkein_does.1.others j other]
    exact ⟨shown, fun y found late empty => State.showSkein_does.1.grows.mem (starved y found late empty)⟩

/-- What the rest of a plane's showing leaves: the request of the shade engine, the tile model's step, and the next plane. -/
theorem State.showRest_does {kind : PlaneKind} {b : Bool} :
    ((({ (s.shadeRequest v kind).when b (State.fallbackTiles v) with
        surf := ((s.shadeRequest v kind).when b (State.fallbackTiles v)).surf.set v.u
          { ((s.shadeRequest v kind).when b (State.fallbackTiles v)).surf[v.u] with nextShow := i + 1 } } : State).surf[v.u]).nextShow = i + 1) ∧
      Grows s { (s.shadeRequest v kind).when b (State.fallbackTiles v) with
        surf := ((s.shadeRequest v kind).when b (State.fallbackTiles v)).surf.set v.u
          { ((s.shadeRequest v kind).when b (State.fallbackTiles v)).surf[v.u] with nextShow := i + 1 } } := by
  have asked : Grows s (s.shadeRequest v kind) := .only State.shadeRequest_only rfl
  have stepped : ∀ w : State, Grows w (State.fallbackTiles v w) := fun w => .app (.of_flt rfl) State.tileStep_grows
  refine ⟨?_, .app (.of_flt rfl) (.app (.when (stepped _)) asked)⟩
  dsimp only
  rw [Vector.getElem_set_fin_self]

/-- The planes due of a surface's frame show (04 R137). -/
theorem State.showPlane_does : Only [.now, .free, .regs, .live, .surf, .skein, .stream, .shade, .tile, .flt, .out] s (s.showPlane v) ∧
    ((s.showPlane v).surf[v.u]).nextShow = (s.surf[v.u]).nextShow + 1 ∧
    ∀ k : Fin 4, (k ∈ s.skeinsOf v.u → Shown v (s.surf[v.u]).nextShow s.now (s.skein[k]) ((s.showPlane v).skein[k]) ∧
        (∀ y, (s.skein[k]).queued.find? (fun l => l.isPlane v (s.surf[v.u]).nextShow) = some y → y.ready s.now = false →
          y.cut = true ∨ 0 < y.idles → Src.FB_STLATE ∈ (s.showPlane v).flt.raised)) ∧
      (k ∉ s.skeinsOf v.u → (s.showPlane v).skein[k] = s.skein[k]) := by
  obtain ⟨parts, shown⟩ := State.showSkeins_does (s := s) (v := v) (i := (s.surf[v.u]).nextShow) (ls := s.skeinsOf v.u)
    State.skeinsOf_nodup
  refine ⟨State.showPlane_only, ?_⟩
  unfold State.showPlane
  dsimp only
  generalize (s.skeinsOf v.u).foldl (State.showSkein v (s.surf[v.u]).nextShow) s = w at *
  generalize hb : ((s.surf[v.u]).nextShow == 1 &&
    ((w.shadeRequest v (v.kindAt (s.surf[v.u]).nextShow).1).surf[v.u]).fbTile) = b
  obtain ⟨next, grows⟩ := State.showRest_does (s := w) (v := v) (i := (s.surf[v.u]).nextShow)
    (kind := (v.kindAt (s.surf[v.u]).nextShow).1) (b := b)
  have skein : ((w.shadeRequest v (v.kindAt (s.surf[v.u]).nextShow).1).when b (State.fallbackTiles v)).skein = w.skein :=
    State.when_cases (p := fun z : State => z.skein = w.skein) ((State.fallbackTiles_only .skein rfl).trans
      (State.shadeRequest_only .skein rfl)) (State.shadeRequest_only .skein rfl)
  refine ⟨next, fun k => ?_⟩
  simp only [skein]
  exact ⟨fun mem => ⟨((shown k).1 mem).1, fun y found late empty => grows.mem (((shown k).1 mem).2 y found late empty)⟩, (shown k).2⟩

end

section
variable {s n : State} {u : Fin 2} {fill t : Nat} {k : Fin 4}

theorem State.skeinsOf_of (surf : n.surf = s.surf) (glade : n.glade = s.glade) (cmt : n.cmt = s.cmt) :
    n.skeinsOf u = s.skeinsOf u := by
  unfold State.skeinsOf State.driving State.underProfile State.gladeDrives State.shown
  rw [surf, glade, cmt]

/-- The loads of a surface that a show instant shows beside those at instants of their own. -/
def State.dueLoad (s : State) (u : Fin 2) (due : Bool) (y : Load) : Bool :=
  due && y.plane.fn == (s.viewNow u).fn && y.plane.idx == (s.surf[u]).nextShow

/-- The slack noted and the extras shown, before the planes of the frame. -/
def State.showFirst (s : State) (u : Fin 2) (fill : Nat) (due : Bool) : State :=
  (s.skeinsOf u).foldl (State.showExtra (s.viewNow u)) (s.noteSlack u (s.stitchSlack u fill (s.dueLoad u due)))

/-- The next plane of surface u is due. -/
def State.planeDue (s : State) (u : Fin 2) : Bool :=
  (s.surf[u]).started && decide ((s.surf[u]).nextShow < (s.viewNow u).m.planes) &&
    decide ((s.viewNow u).showAt (s.surf[u]).nextShow ≤ s.now)

theorem State.showDue_eq : s.showDue u fill = (s.showFirst u fill (s.planeDue u)).when (s.planeDue u) (State.showPlane (s.viewNow u)) := rfl

theorem State.showFirst_does {due : Bool} :
    Only [.free, .live, .skein, .stream, .comp, .flt, .out] s (s.showFirst u fill due) ∧
      ((s.showFirst u fill due).comp[u] = { s.comp[u] with
        sslack := BitVec.ofNat 9 (min (s.comp[u]).sslack.toNat (s.stitchSlack u fill (s.dueLoad u due))) }) ∧
      ∀ k : Fin 4, (k ∈ s.skeinsOf u → (s.skein[k]).extra = [] → (s.showFirst u fill due).skein[k] = s.skein[k]) ∧
        (k ∉ s.skeinsOf u → (s.showFirst u fill due).skein[k] = s.skein[k]) := by
  unfold State.showFirst
  have noted : Only [.comp] s (s.noteSlack u (s.stitchSlack u fill (s.dueLoad u due))) := State.noteSlack_only
  have comp : (s.noteSlack u (s.stitchSlack u fill (s.dueLoad u due))).comp[u] = { s.comp[u] with
      sslack := BitVec.ofNat 9 (min (s.comp[u]).sslack.toNat (s.stitchSlack u fill (s.dueLoad u due))) } :=
    Vector.getElem_set_fin_self
  generalize s.stitchSlack u fill (s.dueLoad u due) = least at *
  generalize s.noteSlack u least = w at *
  obtain ⟨parts, shown⟩ := State.showExtras_does (s := w) (v := s.viewNow u) (State.skeinsOf_nodup (s := s) (u := u))
  have skein : w.skein = s.skein := noted .skein rfl
  simp only [skein] at shown
  refine ⟨.app parts rfl (.app noted rfl .refl), ?_, shown⟩
  rw [parts .comp rfl]
  exact comp

/-- Before the next plane is due, and with no extra, a show instant leaves the block (08 R306). -/
theorem State.showDue_early (none : ∀ k : Fin 4, (s.skein[k]).extra = []) (early : s.now < (s.viewNow u).showAt (s.surf[u]).nextShow)
    (slack : (s.comp[u]).sslack.toNat ≤ 256) : s.showDue u fill = s := by
  have idle : s.planeDue u = false := by
    unfold State.planeDue
    rw [decide_eq_false (Nat.not_le.mpr early), Bool.and_false]
  have empty : s.stitchSlack u fill (s.dueLoad u false) = 256 := by
    have loads : ((s.skeinsOf u).flatMap (fun k => (s.skein[k]).queued.filter (s.dueLoad u false) ++
        ((s.skein[k]).extra.filter (fun y => decide (y.2 ≤ s.now))).map (fun y => y.1))) = [] := by
      refine List.flatMap_eq_nil_iff.mpr (fun k _ => ?_)
      rw [none k]
      exact List.append_eq_nil_iff.mpr ⟨List.filter_eq_nil_iff.mpr (fun y _ => Bool.false_ne_true), rfl⟩
    unfold State.stitchSlack
    dsimp only
    rw [loads]
    rfl
  have noted : s.noteSlack u 256 = s := by
    unfold State.noteSlack
    dsimp only
    rw [Nat.min_eq_left slack, BitVec.ofNat_toNat, BitVec.setWidth_eq]
    exact congrArg (fun c => { s with comp := c }) vector_set_get
  rw [State.showDue_eq, idle, State.when_false rfl, State.showFirst, empty, noted]
  exact List.foldlRecOn (motive := fun w => w = s) _ _ rfl (fun w h k _ => by rw [h]; exact State.showExtra_none (none k))

end

/-- Settles O41. -/
theorem planesAreShown : Obligations.PlanesAreShown := by
  unfold Obligations.PlanesAreShown
  refine fun t u s on => ⟨fun fill started more due => ?_, fun fill none early slack => ?_, fun k calm => ?_⟩
  · have is : (s.stamp t).planeDue u = true := by
      unfold State.planeDue
      rw [show ((s.stamp t).surf[u]).started = true from started,
        decide_eq_true (show ((s.stamp t).surf[u]).nextShow < ((s.stamp t).viewNow u).m.planes from more),
        decide_eq_true (show ((s.stamp t).viewNow u).showAt ((s.stamp t).surf[u]).nextShow ≤ (s.stamp t).now from due)]
      rfl
    have run : exec
        (.planeShowInstant t u fill) s = .next (((s.stamp t).showFirst u fill true).showPlane (s.viewNow u)) := by
      refine (onCore_on on : execPlaneShowInstant t u fill s = _).trans (congrArg _ ?_)
      rw [State.showDue_eq, is]
      rfl
    obtain ⟨first, comp, before⟩ := State.showFirst_does (s := s.stamp t) (u := u) (fill := fill) (due := true)
    generalize (s.stamp t).showFirst u fill true = w at *
    have before : ∀ k : Fin 4, (k ∈ s.skeinsOf u → (s.skein[k]).extra = [] → w.skein[k] = s.skein[k]) ∧
      (k ∉ s.skeinsOf u → w.skein[k] = s.skein[k]) := before
    have surf : w.surf = s.surf := first .surf rfl
    have now : w.now = max s.now t := (first .now rfl).1
    obtain ⟨parts, next, shown⟩ := State.showPlane_does (s := w) (v := s.viewNow u)
    have sk : w.skeinsOf (s.viewNow u).u = s.skeinsOf u := State.skeinsOf_of surf (first .glade rfl) (first .cmt rfl)
    rw [sk] at shown
    generalize w.showPlane (s.viewNow u) = n at *
    refine ⟨n, run, ?_, ?_, fun k mem none => ?_, fun k out => ((shown k).2 out).trans ((before k).2 out),
      (parts .lane rfl).trans (first .lane rfl), (parts .arr rfl).trans (first .arr rfl), (parts .tb rfl).trans (first .tb rfl)⟩
    · exact next.trans (congrArg (fun x : Vector Surface 2 => (x[u]).nextShow + 1) surf)
    · rw [parts .comp rfl]
      exact comp
    · obtain ⟨is, starved⟩ := (shown k).1 mem
      rw [(before k).1 mem none, now] at is
      rw [(before k).1 mem none, now] at starved
      have index : (w.surf[(s.viewNow u).u]).nextShow = (s.surf[u]).nextShow :=
        congrArg (fun x : Vector Surface 2 => (x[u]).nextShow) surf
      rw [index] at is starved
      obtain ⟨lmask, buffer, queued, plane⟩ := is
      refine ⟨lmask, buffer, fun y found => ?_, fun none => ?_⟩
      · have mine : y.isPlane (s.viewNow u) (s.surf[u]).nextShow = true := List.find?_some found
        change (s.skein[k]).queued.find? (fun l => l.isPlane (s.viewNow u) (s.surf[u]).nextShow) = some y at found
        refine ⟨?_, ?_, fun late empty => starved y found late empty⟩
        · rw [plane, found]
          rfl
        · rw [queued, List.mem_filter, mine]
          exact fun h => Bool.false_ne_true h.2
      · change (s.skein[k]).queued.find? (fun l => l.isPlane (s.viewNow u) (s.surf[u]).nextShow) = _ at none
        rw [plane, none]
        rfl
  · exact (onCore_on on : execPlaneShowInstant t u fill s = _).trans (congrArg _ (State.showDue_early (s := s.stamp t) none early slack))
  · have run : exec (.tickRow t k) s = .next ((s.stamp t).sendRow k (s.skein[k]).lmask (.tick (s.skeinFn k))) :=
      (onCore_on on : execTickRow t k s = _)
    refine ⟨_, run, ?_, .app (State.sendRow_calm (s := s.stamp t) calm) rfl (.app State.stamp_only rfl .refl)⟩
    by_cases empty : (s.skein[k]).lmask = 0
    · rw [if_pos empty, State.sendRow, if_pos empty, empty]
      rfl
    · rw [if_neg empty, State.sendRow_out (s := s.stamp t) empty calm]

end Sys2Proof.Machine
end

section
/-! Fallback selection and splices. -/

namespace Sys2Proof.Machine

open Sys2Proof

/-! ### Skeins that go idle (05 R210) -/

/-- What the loss of lanes leaves of the planes of the skeins. -/
def PlanesStay (s n : State) : Prop := ∀ k : Fin 4, (n.skein[k]).seq = (s.skein[k]).seq ∧ (n.skein[k]).shown = (s.skein[k]).shown ∧
  (n.skein[k]).buffer = (s.skein[k]).buffer ∧ ((s.skein[k]).queued = [] → (n.skein[k]).queued = [])

section
variable {s u n : State} {k : Fin 4} {l : Fin 8}

theorem PlanesStay.of_skein (h : n.skein = s.skein) : PlanesStay s n := fun k => by
  rw [h]
  exact ⟨rfl, rfl, rfl, id⟩

theorem PlanesStay.trans (h : PlanesStay u n) (f : PlanesStay s u) : PlanesStay s n := fun k => by
  obtain ⟨seq, shown, buffer, queued⟩ := f k
  obtain ⟨seq', shown', buffer', queued'⟩ := h k
  exact ⟨seq'.trans seq, shown'.trans shown, buffer'.trans buffer, queued' ∘ queued⟩

theorem State.dropMask_planes : PlanesStay s (s.dropMask l) := by
  by_cases out : bit (s.skein[s.laneSkein l]).lmask (s.laneNo l) = true
  · generalize ho : (s.skein[s.laneSkein l]).lose s.now (fld (s.active Reg.AL_POLL) 8 13) s.rateCode (s.laneNo l)
      (s.shadeSkein (s.laneSkein l)) = y
    have e : s.dropMask l = (s.setSkein (s.laneSkein l) y).when (y.lmask == 0) (State.endStream (s.laneSkein l)) := by
      rw [← ho]
      exact if_neg (by rw [out]; exact Bool.false_ne_true)
    have skein : (s.dropMask l).skein = s.skein.set (s.laneSkein l) y := by
      rw [e]
      exact State.when_cases (p := fun v : State => v.skein = _) (State.endStream_parts .skein rfl) rfl
    have lost : y.seq = (s.skein[s.laneSkein l]).seq ∧ y.shown = (s.skein[s.laneSkein l]).shown ∧
        y.buffer = (s.skein[s.laneSkein l]).buffer ∧ ((s.skein[s.laneSkein l]).queued = [] → y.queued = []) := by
      rw [← ho]
      refine ⟨rfl, rfl, rfl, fun none => ?_⟩
      unfold SkeinTx.lose
      dsimp only
      rw [none]
      rfl
    intro k
    rw [skein]
    by_cases same : k = s.laneSkein l
    · subst same
      rw [Vector.getElem_set_fin_self]
      exact lost
    · rw [Vector.getElem_set_fin_ne same]
      exact ⟨rfl, rfl, rfl, id⟩
  · have e : s.dropMask l = s := if_pos (by simpa using out)
    rw [e]
    exact .of_skein rfl

theorem State.idleCheck_planes : PlanesStay s s.idleCheck := by
  have lane : ∀ (v : State) l b, PlanesStay v (State.idleLane b v l) := by
    intro v l b
    unfold State.idleLane
    split
    · unfold State.enterIdle
      exact .trans (.of_skein (State.toIdle_parts .skein rfl)) State.dropMask_planes
    · split
      · exact .of_skein (State.train_parts .skein rfl)
      · exact .of_skein rfl
  unfold State.idleCheck
  refine List.foldlRecOn (motive := PlanesStay s) _ _ (.of_skein rfl) (fun v h k _ => .trans ?_ h)
  unfold State.idleSkein
  refine List.foldlRecOn (motive := PlanesStay v) _ _ (.of_skein ?_) (fun w h l _ => .trans (lane w l _) h)
  exact State.when_cases (p := fun w : State => w.skein = v.skein) (State.unready_only .skein rfl) rfl

/-! ### Fallback entry (03 R100, 17 R609) -/

variable {f g : FrameView} {u : Fin 2}

theorem State.entrySkein_does : Only [.free, .skein, .stream, .flt, .out] s (s.entrySkein f g k) ∧
    ((s.entrySkein f g k).skein[k]).shown = none ∧ ((s.entrySkein f g k).skein[k]).buffer = none ∧
    ((s.entrySkein f g k).skein[k]).queued = [] ∧ ((s.entrySkein f g k).skein[k]).seq = (s.skein[k]).seq ∧
    ∀ j : Fin 4, j ≠ k → (s.entrySkein f g k).skein[j] = s.skein[j] := by
  have dark : ∀ q, Only [.free, .stream, .flt, .out] s ((s.stopPackets k).darkRow f k q) := fun q =>
    .app State.sendTimed_parts rfl (.app State.stopPackets_parts rfl .refl)
  unfold State.entrySkein
  dsimp only
  generalize hx : ({ s.skein[k] with
    buffer := none, shown := none, queued := []
    extra := _, skipped := _, reseq := _, tau := _, nextForm := _, busyTo := _ } : SkeinTx) = x
  have own : x.shown = none ∧ x.buffer = none ∧ x.queued = [] ∧ x.seq = (s.skein[k]).seq := by
    rw [← hx]
    exact ⟨rfl, rfl, rfl, rfl⟩
  obtain ⟨shown, buffer, queued, seq⟩ := own
  refine ⟨.app State.setSkein_only rfl ((dark _).mono rfl), ?_⟩
  rw [State.setSkein_skein, dark _ .skein rfl, Vector.getElem_set_fin_self]
  exact ⟨shown, buffer, queued, seq, fun j other => Vector.getElem_set_fin_ne other⟩

theorem FrameSet.skeins_nodup {f : FrameSet} : f.skeins.Nodup := (List.nodup_finRange 4).filter _

/-- Fallback entry drops what the surface's skeins show, hold and have formed. -/
theorem State.fallbackEntry_does : Only [.free, .skein, .stream, .flt, .out] s (s.fallbackEntry u) ∧
    ∀ k ∈ (s.viewNow u).set.skeins, (s.skein[k]).excl = false → (s.skein[k]).lmask ≠ 0 →
      ((s.fallbackEntry u).skein[k]).shown = none ∧ ((s.fallbackEntry u).skein[k]).buffer = none ∧
      ((s.fallbackEntry u).skein[k]).queued = [] ∧ ((s.fallbackEntry u).skein[k]).seq = (s.skein[k]).seq := by
  unfold State.fallbackEntry
  dsimp only
  obtain ⟨parts, each⟩ := foldl_each (g := State.entrySkein (s.viewNow u) (s.viewNext u)) (s := s)
    (ls := (s.viewNow u).set.skeins.filter (fun k => !(s.skein[k]).excl && (s.skein[k]).lmask != 0))
    (I := fun w => Only [.free, .skein, .stream, .flt, .out] s w) (P := fun k w => w.skein[k] = s.skein[k])
    (R := fun k w => (w.skein[k]).shown = none ∧ (w.skein[k]).buffer = none ∧ (w.skein[k]).queued = [] ∧
      (w.skein[k]).seq = (s.skein[k]).seq) (FrameSet.skeins_nodup.filter _) .refl (fun _ => rfl)
    (fun w k h => .app State.entrySkein_does.1 rfl h)
    (fun w k j _ other h => (State.entrySkein_does.2.2.2.2.2 j other).trans h)
    (fun w k _ h => by
      obtain ⟨-, shown, buffer, queued, seq, -⟩ := State.entrySkein_does (s := w) (f := s.viewNow u) (g := s.viewNext u) (k := k)
      exact ⟨shown, buffer, queued, seq.trans (congrArg SkeinTx.seq h)⟩)
    (fun w k j _ other h => by
      rw [State.entrySkein_does.2.2.2.2.2 j other]
      exact h)
  refine ⟨parts, fun k mem used lanes => (each k).1 (List.mem_filter.mpr ⟨mem, ?_⟩)⟩
  rw [used, bne_iff_ne.mpr lanes]
  rfl

theorem State.selectRise_registered (sel : (s.surf[u]).fbSel = true) : s.selectRise u = s := if_pos sel

theorem State.selectRise_alone (off : (s.surf[u]).fbSel = false) (alone : (s.surf[u]).fbShow = true ∨
    (s.cmt.accepted = false ∧ (s.surf[u]).fbBegun = false) ∨ (s.surf[u]).started = false) :
    s.selectRise u = State.idleCheck { s with surf := s.surf.set u { s.surf[u] with fbSel := true } } := by
  refine (if_neg (by rw [off]; exact Bool.false_ne_true)).trans (if_pos ?_)
  rcases alone with h | ⟨h, g⟩ | h
  · rw [h]
    rfl
  · rw [h, g]
    simp
  · rw [h]
    simp

/-- A surface that takes its frame from the fallback source. -/
def State.entering (s : State) (u : Fin 2) : State :=
  { s with surf := s.surf.set u { s.surf[u] with fbSel := true, fbShow := true, fbBegun := true } }

theorem State.selectRise_enters (off : (s.surf[u]).fbSel = false) (show_ : (s.surf[u]).fbShow = false)
    (commit : s.cmt.accepted = true) (started : (s.surf[u]).started = true) :
    s.selectRise u = State.idleCheck ((s.entering u).fallbackEntry u) := by
  refine (if_neg (by rw [off]; exact Bool.false_ne_true)).trans (if_neg ?_)
  rw [show_, commit, started]
  simp

theorem State.entering_skeins : ((s.entering u).viewNow u).set.skeins = (s.viewNow u).set.skeins := by
  have own : (s.entering u).surf[u] = { s.surf[u] with fbSel := true, fbShow := true, fbBegun := true } := Vector.getElem_set_fin_self
  have set : (s.entering u).setNow u = s.setNow u := by
    unfold State.setNow
    rw [own]
    rfl
  exact congrArg FrameSet.skeins set

end

/-! ### Splices (10 R384) -/

/-- What leaves the instant and one live count as they are. -/
structure Steady (a : Nat) (s n : State) : Prop where
  now : n.now = s.now
  count : lget n.live a = lget s.live a

section
variable {a : Nat} {s v n : State} {u : Fin 2} {k : Fin 4} {f : FrameView}

theorem Steady.refl : Steady a s s := ⟨rfl, rfl⟩

theorem Steady.app (h : Steady a v n) (g : Steady a s v) : Steady a s n := ⟨h.now.trans g.now, h.count.trans g.count⟩

theorem Steady.only {l : List Part} (h : Only l s n) (hn : l.contains .now = false) (hl : l.contains .live = false) :
    Steady a s n := ⟨(h .now hn).1, congrArg (lget · a) (h .live hl)⟩

theorem Steady.report {l : List Note} (counts : a ∉ l.flatMap Note.counts) : Steady a s (s.report l) :=
  ⟨rfl, State.report_liveOnly a counts⟩

theorem Steady.foldl {α : Type} {l : List α} {g : State → α → State} (h : ∀ w x, Steady a w (g w x)) :
    Steady a s (l.foldl g s) := List.foldlRecOn (motive := Steady a s) _ _ .refl (fun w hw x _ => (h w x).app hw)

theorem Steady.when {c : Bool} {g : State → State} (h : Steady a s (g s)) : Steady a s (s.when c g) :=
  State.when_cases (p := Steady a s) h .refl

/-- The count of splices is none of those that the read of a plane's sources counts. -/
theorem splice_apart : ∀ u : Fin 2, pairKey Reg.SH_SPLICE u ∉
    [Reg.ST_FS_CE, Reg.ST_FS_UE, Reg.FB_PARCNT 0, Reg.FB_CODECNT 0, Reg.FB_CANCNT 0] := by
  decide

theorem State.upset_steady {b : Bool} {x : Upset} : Steady a s (State.upset u b s x) := by
  cases x with
  | bank => exact .only (State.setBank_only) rfl rfl
  | derate =>
    unfold State.upset
    dsimp only
    split
    · exact ⟨rfl, rfl⟩
    · exact .refl
  | _ => exact ⟨rfl, rfl⟩

theorem State.readShare_steady {e : ArrEntry} : Steady (pairKey Reg.SH_SPLICE u) s (State.readShare f s e) := by
  have health : ∀ (w : State) lo hi, Steady (pairKey Reg.SH_SPLICE u) w (w.sweepHealth lo hi) := fun w lo hi => by
    unfold State.sweepHealth
    refine .app (.report ?_) ⟨rfl, rfl⟩
    unfold State.healthNotes
    simp [Note.counts]
  have bank : ∀ (w : State) b lo hi, Steady (pairKey Reg.SH_SPLICE u) w (w.sweepBank b lo hi) := fun w b lo hi => by
    unfold State.sweepBank
    refine .app (.report ?_) (.only State.setBank_only rfl rfl)
    have apart := splice_apart u
    obtain ⟨ce, ue⟩ : pairKey Reg.SH_SPLICE u ≠ Reg.ST_FS_CE ∧ pairKey Reg.SH_SPLICE u ≠ Reg.ST_FS_UE := by
      simp only [List.mem_cons, not_or] at apart
      exact ⟨apart.1, apart.2.1⟩
    unfold sweepNotes
    simp only [List.flatMap_append, List.flatMap_assoc, List.mem_append, List.mem_flatMap, not_or, not_exists, not_and]
    exact ⟨fun _ _ => by simp [Note.counts, ce], fun _ _ => by simp [Note.counts, ue]⟩
  unfold State.readShare
  dsimp only
  split
  · exact health ..
  · exact .app (health ..) (bank ..)

theorem State.fabricError_steady {w : Fin 2} {x : Fin 8 × BundleError} :
    Steady (pairKey Reg.SH_SPLICE u) s (State.fabricError w s x) := by
  unfold State.fabricError
  dsimp only
  refine .app (.report ?_) ?_
  · have apart := splice_apart u
    simp only [List.mem_cons, not_or] at apart
    cases x.2 <;> simp [fabricNotes, lastErr, Note.counts, apart]
  · split <;> exact ⟨rfl, rfl⟩

/-- The read of a plane's sources takes no time and counts no splice. -/
theorem State.readPlane_steady {up : List Upset} {errs : List (Fin 8 × BundleError)} :
    Steady (pairKey Reg.SH_SPLICE u) s (s.readPlane f k up errs) := by
  have upset : Steady (pairKey Reg.SH_SPLICE u) s (up.foldl (State.upset f.u f.bank) s) := .foldl fun _ _ => State.upset_steady
  unfold State.readPlane
  dsimp only
  generalize up.foldl (State.upset f.u f.bank) s = w at upset ⊢
  have all : Steady (pairKey Reg.SH_SPLICE u) s (errs.foldl (State.fabricError f.u)
      ((w.planeEntries f k).foldl (State.readShare f) w)) := .app (.foldl fun _ _ => State.fabricError_steady)
          (.app (.foldl fun _ _ => State.readShare_steady) upset)
  split
  · exact .app (.only State.gladeSettle_parts rfl rfl) ⟨all.now, all.count⟩
  · exact all

theorem State.checkList_steady : Steady a s (s.checkList f) := by
  have stale : ∀ w : State, Steady a w (w.goStale f.u) := fun w => by
    unfold State.goStale
    dsimp only
    split
    · exact .refl
    · exact .app (.report (by simp [Note.counts, Note.irq])) ⟨rfl, rfl⟩
  unfold State.checkList
  refine .when ?_
  unfold State.listParity
  dsimp only
  split
  · exact .app (stale _) (.app (.report (by simp [Note.counts])) ⟨rfl, rfl⟩)
  · exact .refl

/-- The packets of a plane change the streams and the checker alone. -/
theorem State.sendPlane_parts {m : BitVec 8} {p : Plane} {idles : List Nat} :
    Only [.stream, .flt, .out] s (s.sendPlane k m p idles) := by
  have shares : ∀ (xs : List (Fin 16 × List Bool)) (r : State × BitVec 16 × List Block66),
      Only [.stream, .flt, .out] s r.1 → Only [.stream, .flt, .out] s (xs.foldl (State.sendShare p.seq) r).1 := by
    intro xs
    induction xs with
    | nil => exact fun _ h => h
    | cons x xs ih =>
      refine fun r h => ih _ ?_
      show Only _ _ (r.1.packetsFor x.1 x.2.length).1
      unfold State.packetsFor
      split
      · exact .foldl h (fun _ _ g => .app State.useInj_only rfl g)
      · exact h
  unfold State.sendPlane
  dsimp only
  exact .app State.report_parts rfl (.app State.queuePackets_parts rfl (shares _ _ .refl))

/-- A splice that fits its place in the frame shows the plane shown again under the next SEQ. -/
theorem State.spliceNow_does {p : Plane} {idles : List Nat} {b : List (Fin 8 × Bundle)} (canon : s.Canonical)
    (fits : s.spliceFits f k p (s.loadTicks f k) = true) :
    ∃ y, ((s.spliceNow f k p idles b).skein[k]).extra = (s.skein[k]).extra ++ [y] ∧ y.1.plane.idx = p.idx ∧
      y.1.plane.seq = (s.skein[k]).seq ∧ y.1.start = s.now + usec ∧ y.2 = s.now + usec + s.loadTicks f k ∧
      ((s.spliceNow f k p idles b).skein[k]).seq = (s.skein[k]).seq + 1 ∧
      (∀ l : Fin 4, l ≠ k → (s.spliceNow f k p idles b).skein[l] = s.skein[l]) ∧
      (s.spliceNow f k p idles b).surf = s.surf ∧
      lget (s.spliceNow f k p idles b).live (pairKey Reg.SH_SPLICE f.u) =
        satAdd (lget s.live (pairKey Reg.SH_SPLICE f.u)) 1 ∧ (s.spliceNow f k p idles b).tb = s.tb := by
  have e : s.spliceNow f k p idles b = _ := if_neg (by rw [fits]; exact Bool.false_ne_true)
  rw [e]
  dsimp only
  generalize s.planeErrors f k b = errs
  have read : Only [.now, .regs, .live, .bank0, .bank1, .health, .healthSeen, .calib, .fab, .corr, .shade, .pwr, .flt, .glade, .log,
      .out] s ((s.readPlane f k [] errs).disarmShow f k) := .app State.disarmShow_only rfl
          (.app State.readPlane_only rfl .refl)
  have steady : Steady (pairKey Reg.SH_SPLICE f.u) s ((s.readPlane f k [] errs).disarmShow f k) :=
    .app (.only State.disarmShow_only rfl rfl) State.readPlane_steady
  have canonical : ((s.readPlane f k [] errs).disarmShow f k).Canonical := .only State.disarmShow_only rfl (State.readPlane_canon canon)
  generalize (s.readPlane f k [] errs).disarmShow f k = r at *
  have formed : (r.formPlane f k p.idx (r.skein[k]).seq errs).seq = (r.skein[k]).seq ∧
      (r.formPlane f k p.idx (r.skein[k]).seq errs).idx = p.idx := ⟨rfl, rfl⟩
  generalize r.formPlane f k p.idx (r.skein[k]).seq errs = q at *
  have checked : Only [.now, .regs, .live, .shade, .flt, .out] r (r.checkList f) := State.checkList_only
  have still : Steady (pairKey Reg.SH_SPLICE f.u) r (r.checkList f) := State.checkList_steady
  have kept : (r.checkList f).Canonical := State.checkList_canon canonical
  generalize r.checkList f = c at *
  have instant : c.now = s.now := still.now.trans steady.now
  have skein : c.skein = s.skein := (checked .skein rfl).trans (read .skein rfl)
  have own : r.skein = s.skein := read .skein rfl
  obtain ⟨seq, idx⟩ := formed
  rw [own] at seq
  generalize hy : c.newLoad k q (c.now + usec) (s.loadTicks f k) idles = y
  have load : y.plane = q ∧ y.start = s.now + usec := by
    rw [← hy, ← instant]
    exact ⟨rfl, rfl⟩
  obtain ⟨plane, start⟩ := load
  generalize hx : ({ r.skein[k] with
    seq := (r.skein[k]).seq + 1, extra := (r.skein[k]).extra ++ [(y, c.now + usec + s.loadTicks f k)]
    busyTo := y.stop - 10240 } : SkeinTx) = x
  have fields : x.seq = (s.skein[k]).seq + 1 ∧ x.extra = (s.skein[k]).extra ++ [(y, s.now + usec + s.loadTicks f k)] := by
    rw [← hx, ← instant, ← own]
    exact ⟨rfl, rfl⟩
  obtain ⟨next, extra⟩ := fields
  generalize (r.skein[k]).lmask = m
  have sent : Only [.stream, .flt, .out] (c.setSkein k x) ((c.setSkein k x).when (!q.dead) (State.sendPlane k m q idles)) :=
    Only.when (fun _ h => .app State.sendPlane_parts rfl h) .refl
  have last : ((c.setSkein k x).when (!q.dead) (State.sendPlane k m q idles)).Canonical :=
    .when (fun _ h => State.sendPlane_canon h) (.only State.setSkein_only rfl kept)
  generalize (c.setSkein k x).when (!q.dead) (State.sendPlane k m q idles) = z at *
  refine ⟨(y, s.now + usec + s.loadTicks f k), ?_⟩
  have streams : z.skein = s.skein.set k x := by
    rw [sent .skein rfl, State.setSkein_skein, skein]
  have live : lget z.live (pairKey Reg.SH_SPLICE f.u) = lget s.live (pairKey Reg.SH_SPLICE f.u) :=
    (congrArg (lget · (pairKey Reg.SH_SPLICE f.u)) ((sent .live rfl).trans rfl)).trans (still.count.trans steady.count)
  rw [State.report_skein, streams, Vector.getElem_set_fin_self, plane]
  refine ⟨extra, idx, seq, start, rfl, next, fun l other => Vector.getElem_set_fin_ne other, ?_, ?_, ?_⟩
  · exact (sent .surf rfl).trans ((checked .surf rfl).trans (read .surf rfl))
  · rw [State.lget_report last.live, ← live]
    simp [Note.onCount]
  · exact (sent .tb rfl).trans ((checked .tb rfl).trans (read .tb rfl))

end

/-! ### O42 -/

section
variable {t : Nat} {s : State} {u : Fin 2} {k : Fin 4}

theorem selectRise_rests (on : s.coreOn = true) (rest : s.glade.select u = false ∨ (s.surf[u]).fbSel = true) :
    exec (.fallbackSelectRise t u) s = .next (s.stamp t) := by
  refine (onCore_on on : execFallbackSelectRise t u s = _).trans (congrArg _ ?_)
  rcases rest with off | sel
  · exact State.when_false off
  · exact State.when_cases (p := fun n => n = s.stamp t) (State.selectRise_registered sel) rfl

theorem selectRise_alone (on : s.coreOn = true) (select : s.glade.select u = true) (off : (s.surf[u]).fbSel = false)
    (alone : (s.surf[u]).fbShow = true ∨ (s.cmt.accepted = false ∧ (s.surf[u]).fbBegun = false) ∨
      (s.surf[u]).started = false) :
    ∃ n, exec (.fallbackSelectRise t u) s = .next n ∧ n.surf = s.surf.set u { s.surf[u] with fbSel := true } ∧
      n.free = s.free ∧ n.regs = s.regs ∧ n.comp = s.comp := by
  have e : exec (.fallbackSelectRise t u) s = .next (State.idleCheck
      { s.stamp t with surf := s.surf.set u { s.surf[u] with fbSel := true } }) :=
    (onCore_on on : execFallbackSelectRise t u s = _).trans (congrArg _ ((State.when_true select).trans
      (State.selectRise_alone (s := s.stamp t) off alone)))
  generalize hv : ({ s.stamp t with surf := s.surf.set u { s.surf[u] with fbSel := true } } : State) = v at e
  have parts : Only [.arr, .skein, .lane, .stream, .out] v v.idleCheck := State.idleCheck_parts
  refine ⟨_, e, ?_⟩
  rw [parts .surf rfl, parts .free rfl, parts .regs rfl, parts .comp rfl, ← hv]
  exact ⟨rfl, rfl, rfl, rfl⟩

theorem selectRise_enters (on : s.coreOn = true) (select : s.glade.select u = true) (off : (s.surf[u]).fbSel = false)
    (show_ : (s.surf[u]).fbShow = false) (commit : s.cmt.accepted = true) (started : (s.surf[u]).started = true) :
    ∃ n, exec (.fallbackSelectRise t u) s = .next n ∧
      n.surf = s.surf.set u { s.surf[u] with fbSel := true, fbShow := true, fbBegun := true } ∧
      (∀ k : Fin 4, k ∈ (s.viewNow u).set.skeins → (s.skein[k]).excl = false → (s.skein[k]).lmask ≠ 0 →
        (n.skein[k]).shown = none ∧ (n.skein[k]).buffer = none ∧ (n.skein[k]).queued = [] ∧
        (n.skein[k]).seq = (s.skein[k]).seq) ∧ n.regs = s.regs ∧ n.comp = s.comp := by
  have e : exec (.fallbackSelectRise t u) s = .next (State.idleCheck (((s.stamp t).entering u).fallbackEntry u)) :=
    (onCore_on on : execFallbackSelectRise t u s = _).trans (congrArg _ ((State.when_true select).trans
      (State.selectRise_enters (s := s.stamp t) off show_ commit started)))
  have skeins : (((s.stamp t).entering u).viewNow u).set.skeins = (s.viewNow u).set.skeins := State.entering_skeins
  have surf : ((s.stamp t).entering u).surf = s.surf.set u { s.surf[u] with fbSel := true, fbShow := true, fbBegun := true } ∧
      ((s.stamp t).entering u).skein = s.skein ∧ ((s.stamp t).entering u).regs = s.regs ∧
      ((s.stamp t).entering u).comp = s.comp := ⟨rfl, rfl, rfl, rfl⟩
  generalize (s.stamp t).entering u = v at e skeins surf
  obtain ⟨surf, skein, regs, comp⟩ := surf
  obtain ⟨entry, drops⟩ := State.fallbackEntry_does (s := v) (u := u)
  have idle : Only [.arr, .skein, .lane, .stream, .out] (v.fallbackEntry u) (v.fallbackEntry u).idleCheck :=
    State.idleCheck_parts
  refine ⟨_, e, ?_, fun k mem used lanes => ?_, ?_, ?_⟩
  · exact (idle .surf rfl).trans ((entry .surf rfl).trans surf)
  · obtain ⟨shown, buffer, queued, seq⟩ := drops k (skeins ▸ mem) (by rw [skein]; exact used) (by rw [skein]; exact lanes)
    obtain ⟨seq', shown', buffer', queued'⟩ := State.idleCheck_planes (s := v.fallbackEntry u) k
    exact ⟨shown'.trans shown, buffer'.trans buffer, queued' queued,
      seq'.trans (seq.trans (congrArg (fun x : Vector SkeinTx 4 => (x[k]).seq) skein))⟩
  · exact (idle .regs rfl).trans ((entry .regs rfl).trans regs)
  · exact (idle .comp rfl).trans ((entry .comp rfl).trans comp)

theorem selectFall_rests (on : s.coreOn = true) (rest : s.glade.select u = true ∨ (s.surf[u]).fbSel = false) :
    exec (.fallbackSelectFall t u) s = .next (s.stamp t) := by
  refine (onCore_on on : execFallbackSelectFall t u s = _).trans (congrArg _ ?_)
  rcases rest with still | off
  · exact State.when_false (by rw [State.stamp_glade, still]; rfl)
  · refine State.when_cases (p := fun n => n = s.stamp t) (if_pos ?_) rfl
    rw [State.stamp_surf, off]
    rfl

theorem selectFall_holds (on : s.coreOn = true) (select : s.glade.select u = false) (sel : (s.surf[u]).fbSel = true) :
    ∃ n, exec (.fallbackSelectFall t u) s = .next n ∧
      n.surf = s.surf.set u { s.surf[u] with fbSel := false, fbHold := (s.surf[u]).decided.isSome } ∧ n.free = s.free ∧
      n.regs = s.regs ∧ n.comp = s.comp := by
  have fall : (s.stamp t).selectFall u = State.idleCheck
      { s.stamp t with surf := s.surf.set u { s.surf[u] with fbSel := false, fbHold := (s.surf[u]).decided.isSome } } :=
    if_neg (by rw [State.stamp_surf, sel]; exact Bool.false_ne_true)
  have e : exec (.fallbackSelectFall t u) s = .next _ :=
    (onCore_on on : execFallbackSelectFall t u s = _).trans (congrArg _ ((State.when_true
      (by rw [State.stamp_glade, select]; rfl)).trans fall))
  generalize hv : ({ s.stamp t with
    surf := s.surf.set u { s.surf[u] with fbSel := false, fbHold := (s.surf[u]).decided.isSome } } : State) = v at e
  have parts : Only [.arr, .skein, .lane, .stream, .out] v v.idleCheck := State.idleCheck_parts
  refine ⟨_, e, ?_⟩
  rw [parts .surf rfl, parts .free rfl, parts .regs rfl, parts .comp rfl, ← hv]
  exact ⟨rfl, rfl, rfl, rfl⟩

theorem splice_eq {idles : List Nat} {b : List (Fin 8 × Bundle)} {p : Plane} (on : s.coreOn = true)
    (surf : s.skeinSurf k.val = some u) (shown : (s.skein[k]).shown = some p) :
    exec (.splice t k idles b) s = .next ((s.stamp t).spliceNow (s.viewNow u) k p idles b) := by
  refine (onCore_on on : execSplice t k idles b s = _).trans (congrArg _ ?_)
  have which : (s.stamp t).skeinSurf k.val = some u := surf
  unfold State.splice
  rw [which, State.stamp_skein, shown]
  rfl

theorem splice_rests {idles : List Nat} {b : List (Fin 8 × Bundle)} (on : s.coreOn = true)
    (none_ : s.skeinSurf k.val = none ∨ (s.skein[k]).shown = none) : exec
        (.splice t k idles b) s = .next (s.stamp t) := by
  refine (onCore_on on : execSplice t k idles b s = _).trans (congrArg _ ?_)
  unfold State.splice
  rcases none_ with dark | dark
  · have which : (s.stamp t).skeinSurf k.val = none := dark
    rw [which]
  · rw [State.stamp_skein, dark]
    split
    · contradiction
    · rfl

/-- Settles O42: the rise drops the planes of the surface's skeins by a fold over distinct skeins, and a splice counts itself
past notes that count nothing of it. -/
theorem fallbackSelectionAndSplice : Obligations.FallbackSelectionAndSplice := by
  unfold Obligations.FallbackSelectionAndSplice
  intro t s on canon
  refine ⟨fun u rest => selectRise_rests on rest, fun u select off => ⟨selectRise_alone on select off,
    selectRise_enters on select off⟩, fun u rest => selectFall_rests on rest,
    fun u select sel => selectFall_holds on select sel, fun k u p idles b surf shown => ?_,
    fun k idles b dark => splice_rests on dark⟩
  have e := splice_eq (t := t) (idles := idles) (b := b) on surf shown
  refine ⟨fun out => e.trans (congrArg _ (if_pos ?_)), fun fits => ?_⟩
  · have ticks : (s.stamp t).loadTicks (s.viewNow u) k = s.loadTicks (s.viewNow u) k := rfl
    rw [ticks, out]
    rfl
  · obtain ⟨y, does⟩ := State.spliceNow_does (idles := idles) (b := b) (.only State.stamp_only rfl canon) fits
    exact ⟨_, y, e, does⟩

end
end Sys2Proof.Machine
end

section
/-! The frame store window and the health map. -/

namespace Sys2Proof.Machine

open Sys2Proof

/-! ### Stores with check bits (03 R79–R84) -/

section
variable {x : Store} {d : Nat → Byte} {dead b : Byte} {a j w n : Nat} {l : List Byte} {ws : List Nat}

theorem mem_wordsOf : w ∈ wordsOf a n ↔ n ≠ 0 ∧ a / 8 ≤ w ∧ w ≤ (a + n - 1) / 8 := by
  unfold wordsOf
  split
  · simp_all
  · simp only [List.mem_map, List.mem_range]
    constructor
    · rintro ⟨i, below, rfl⟩
      omega
    · rintro ⟨-, low, high⟩
      exact ⟨w - a / 8, by omega, by omega⟩

theorem mem_wordsOf_one : w ∈ wordsOf a 1 ↔ w = a / 8 := by
  rw [mem_wordsOf]
  omega

theorem contains_filter_not {l m : List Nat} : (l.filter (fun w => !m.contains w)).contains w =
    (l.contains w && !m.contains w) := by
  rw [Bool.eq_iff_iff]
  simp [List.mem_filter]

/-- A repaired word that was uncorrectable reads as `dead`; every other byte stays. -/
theorem Store.read_repair (h : x.wf d = true) : Memory.read d (x.repair dead d ws).cells j =
    if x.ue.contains (j / 8) && ws.contains (j / 8) then dead else Memory.read d x.cells j := by
  have each : ∀ (ws : List Nat) (m : List Host.Cell), Memory.wf d m = true →
      Memory.read d (ws.foldl
          (fun m w => if x.ue.contains w then Memory.writeL d m (8 * w) (List.replicate 8 dead) else m) m) j =
        if x.ue.contains (j / 8) && ws.contains (j / 8) then dead else Memory.read d m j := by
    intro ws
    induction ws with
    | nil =>
      intro m _
      rw [List.contains_nil, Bool.and_false]
      rfl
    | cons w ws ih =>
      intro m hm
      rw [List.foldl_cons, List.contains_cons]
      by_cases bad : x.ue.contains w = true
      · rw [if_pos bad, ih _ (Memory.writeL_wf hm), Memory.read_writeL hm, List.length_replicate]
        by_cases own : j / 8 = w
        · have inside : 8 * w ≤ j ∧ j < 8 * w + 8 := by omega
          rw [if_pos inside, own, bad, beq_self_eq_true, Bool.true_or, Bool.and_true, if_pos rfl,
            List.getD_eq_getElem _ _ (by rw [List.length_replicate]; omega), List.getElem_replicate, ite_self]
        · have outside : ¬ (8 * w ≤ j ∧ j < 8 * w + 8) := by omega
          rw [if_neg outside, beq_false_of_ne own, Bool.false_or]
      · rw [if_neg bad, ih _ hm]
        by_cases own : j / 8 = w
        · rw [own, Bool.eq_false_iff.mpr bad, Bool.false_and, Bool.false_and]
        · rw [beq_false_of_ne own, Bool.false_or]
  exact each ws x.cells h

/-- A write lands in its bytes; of the words it touches, an uncorrectable one is `dead` elsewhere. -/
theorem Store.read_write (h : x.wf d = true) : Memory.read d (x.write dead d a l).cells j =
    if a ≤ j ∧ j < a + l.length then l.getD (j - a) 0
    else if x.ue.contains (j / 8) && (wordsOf a l.length).contains (j / 8) then dead else Memory.read d x.cells j := by
  unfold Store.write
  dsimp only
  rw [Memory.read_writeL (Store.repair_wf h), Store.read_repair h]

theorem Store.write_ue : (x.write dead d a l).ue.contains w = (x.ue.contains w && !(wordsOf a l.length).contains w) :=
  contains_filter_not

theorem Store.read_writeByte (h : x.wf d = true) : Memory.read d (x.write dead d a [b]).cells j =
    if j = a then b else if x.ue.contains (j / 8) && decide (j / 8 = a / 8) then dead else Memory.read d x.cells j := by
  rw [Store.read_write h]
  have one : (wordsOf a [b].length).contains (j / 8) = decide (j / 8 = a / 8) := by
    rw [List.contains_eq_mem]
    exact decide_eq_decide.mpr mem_wordsOf_one
  by_cases own : j = a
  · subst own
    rw [if_pos ⟨le_rfl, by simp⟩, if_pos rfl, Nat.sub_self]
    rfl
  · rw [if_neg (by simp only [List.length_cons, List.length_nil]; omega), if_neg own, one]

theorem Store.writeByte_ue : (x.write dead d a [b]).ue.contains w = (x.ue.contains w && !decide (w = a / 8)) := by
  rw [Store.write_ue]
  congr 2
  rw [List.contains_eq_mem]
  exact decide_eq_decide.mpr mem_wordsOf_one

end

/-! ### The frame store window (03 R83, R84) -/

section
variable {s n : State} {c : Bool} {a x : Nat} {b : Byte} {l : List Byte}

theorem State.bank_setBank_self {y : Store} : (s.setBank c y).bank c = y := by
  cases c <;> rfl

theorem State.bank_setBank_ne {y : Store} {e : Bool} (h : e ≠ c) : (s.setBank c y).bank e = s.bank e := by
  cases c <;> cases e <;> first | rfl | exact absurd rfl h

theorem State.setBank_driven {y : Store} {m : Nat} : (s.setBank c y).emitterDriven m = s.emitterDriven m := by
  cases c <;> rfl

theorem State.Canonical.bank (h : s.Canonical) (c : Bool) : (s.bank c).wf zeroByte = true := by
  cases c
  · exact h.bank0
  · exact h.bank1

theorem bankAt_inj {i j : Nat} (hi : i < 0x1000000) (hj : j < 0x1000000) (h : bankAt i = bankAt j) : i = j := by
  unfold bankAt at h
  obtain ⟨half, rest⟩ := Prod.mk.inj h
  have same := decide_eq_decide.mp half
  omega

/-- The banks after some bytes of a write to the frame store: what is legible stays so. -/
structure FrameKept (s n : State) : Prop where
  driven : ∀ m, n.emitterDriven m = s.emitterDriven m
  legible : ∀ c w, (s.bank c).ue.contains w = false → (n.bank c).ue.contains w = false
  canon : s.Canonical → n.Canonical
  parts : Only [.bank0, .bank1] s n

theorem FrameKept.refl : FrameKept s s := ⟨fun _ => rfl, fun _ _ h => h, id, .refl⟩

theorem FrameKept.trans {v : State} (h : FrameKept v n) (g : FrameKept s v) : FrameKept s n :=
  ⟨fun m => (h.driven m).trans (g.driven m), fun c w k => h.legible c w (g.legible c w k), h.canon ∘ g.canon,
    .app h.parts rfl g.parts⟩

theorem State.putFrameByte_driven (dark : s.emitterDriven ((bankAt a).2 / 2) = true) : s.putFrameByte a b = s := if_pos dark

theorem State.putFrameByte_free (free : s.emitterDriven ((bankAt a).2 / 2) = false) :
    s.putFrameByte a b = s.setBank (bankAt a).1 ((s.bank (bankAt a).1).write 0 zeroByte (bankAt a).2 [b]) :=
  if_neg (by rw [free]; exact Bool.false_ne_true)

theorem State.putFrameByte_kept : FrameKept s (s.putFrameByte a b) := by
  by_cases dark : s.emitterDriven ((bankAt a).2 / 2) = true
  · rw [State.putFrameByte_driven dark]
    exact .refl
  · have e := State.putFrameByte_free (b := b) (Bool.eq_false_iff.mpr dark)
    refine ⟨fun m => by rw [e, State.setBank_driven], fun c w ok => ?_, State.putFrameByte_canon, ?_⟩
    · rw [e]
      by_cases own : c = (bankAt a).1
      · subst own
        rw [State.bank_setBank_self, Store.writeByte_ue, ok, Bool.false_and]
      · rw [State.bank_setBank_ne own]
        exact ok
    · rw [e]
      exact State.setBank_only

theorem State.putFrameByte_lands (canon : s.Canonical) (free : s.emitterDriven ((bankAt a).2 / 2) = false) :
    ((s.putFrameByte a b).bank (bankAt a).1).byte (bankAt a).2 = b ∧
      ((s.putFrameByte a b).bank (bankAt a).1).ue.contains ((bankAt a).2 / 8) = false := by
  rw [State.putFrameByte_free free, State.bank_setBank_self]
  refine ⟨(Store.read_writeByte (canon.bank _)).trans (if_pos rfl), ?_⟩
  rw [Store.writeByte_ue, decide_eq_true rfl, Bool.not_true, Bool.and_false]

theorem State.putFrameByte_else (canon : s.Canonical) (ok : (s.bank c).ue.contains (x / 8) = false)
    (h : bankAt a = (c, x) → s.emitterDriven (x / 2) = true) :
    ((s.putFrameByte a b).bank c).byte x = (s.bank c).byte x := by
  by_cases dark : s.emitterDriven ((bankAt a).2 / 2) = true
  · rw [State.putFrameByte_driven dark]
  · have free := Bool.eq_false_iff.mpr dark
    rw [State.putFrameByte_free free]
    by_cases own : c = (bankAt a).1
    · subst own
      have other : x ≠ (bankAt a).2 := fun e => dark (by rw [← e]; exact h (by rw [e]))
      rw [State.bank_setBank_self]
      refine (Store.read_writeByte (canon.bank _)).trans ?_
      rw [if_neg other, ok, Bool.false_and]
      rfl
    · rw [State.bank_setBank_ne own]

theorem State.putFrame_kept : FrameKept s (State.putFrame a l s) := by
  induction l generalizing s a with
  | nil => exact .refl
  | cons b r ih => exact ih.trans State.putFrameByte_kept

/-- Legible bytes that no byte of the write reaches, or that belong to a driven surface, stay. -/
theorem State.putFrame_else (canon : s.Canonical) (ok : (s.bank c).ue.contains (x / 8) = false)
    (h : ∀ i, i < l.length → bankAt (a + i) = (c, x) → s.emitterDriven (x / 2) = true) :
    ((State.putFrame a l s).bank c).byte x = (s.bank c).byte x := by
  induction l generalizing s a with
  | nil => rfl
  | cons b r ih =>
    have kept := State.putFrameByte_kept (s := s) (a := a) (b := b)
    have first := State.putFrameByte_else (b := b) canon ok (h 0 (by simp))
    refine (ih (s := s.putFrameByte a b) (kept.canon canon) (kept.legible _ _ ok) (fun i hi e => ?_)).trans first
    rw [kept.driven]
    exact h (i + 1) (Nat.succ_lt_succ hi) ((congrArg bankAt (by omega)).trans e)

/-- The bytes of a write whose emitters belong to no driven surface land. -/
theorem State.putFrame_lands (canon : s.Canonical) (room : a + l.length ≤ 0x1000000) {i : Nat} (hi : i < l.length)
    (free : s.emitterDriven ((bankAt (a + i)).2 / 2) = false) :
    ((State.putFrame a l s).bank (bankAt (a + i)).1).byte (bankAt (a + i)).2 = l.getD i 0 := by
  induction l generalizing s a i with
  | nil => exact absurd hi (Nat.not_lt_zero _)
  | cons b r ih =>
    rw [List.length_cons] at hi room
    have kept := State.putFrameByte_kept (s := s) (a := a) (b := b)
    cases i with
    | zero =>
      obtain ⟨lands, ok⟩ := State.putFrameByte_lands (b := b) canon free
      refine (State.putFrame_else (s := s.putFrameByte a b) (kept.canon canon) ok (fun i hi e => ?_)).trans lands
      have apart := bankAt_inj (by omega) (by omega) e
      omega
    | succ i =>
      have place : a + (i + 1) = a + 1 + i := by omega
      rw [place] at free ⊢
      exact ih (s := s.putFrameByte a b) (kept.canon canon) (by omega) (Nat.lt_of_succ_lt_succ hi) (by rw [kept.driven]; exact free)

/-- A byte of the two banks as the BAR2 window gives it (03 R83). -/
theorem State.bar2Byte_frame {req : Req} (h : a < 0x1000000) : s.bar2Byte req a =
    if (s.bank (bankAt a).1).ue.contains ((bankAt a).2 / 8) then none else some ((s.bank (bankAt a).1).byte (bankAt a).2) := by
  have inside : a % bar0Base = a := Nat.mod_eq_of_lt (by unfold bar0Base; omega)
  unfold State.bar2Byte
  dsimp only
  rw [inside, if_neg (by omega)]
  exact if_pos (by omega)

end

/-! ### The emitter health map (03 R92–R94) -/

section
variable {s n : State} {a m i lo hi : Nat} {b : Byte} {l : List Byte}

/-- The bits of a byte as the map gives them. -/
theorem State.bit_healthByte (own : m / 8 = a) : bit (s.healthByte a) (m % 8) = s.healthBit m := by
  subst own
  have word : m / 8 / 8 = m / 64 := by omega
  unfold State.healthByte State.healthBit
  rw [word]
  split
  case isTrue bad =>
    rw [bad, Bool.true_or]
    have below : m % 8 < 8 := Nat.mod_lt _ (by omega)
    generalize m % 8 = i at below
    interval_cases i <;> rfl
  case isFalse ok => rw [Bool.eq_false_iff.mpr ok, Bool.false_or]

/-- A health byte written gives its own bits; the word's others are as they were taken. -/
theorem State.putHealth_bit (h : s.Canonical) : (s.putHealth a b).healthBit m =
    if m / 8 = a then bit b (m % 8) else s.healthBit m := by
  unfold State.putHealth State.healthBit
  dsimp only
  unfold Store.byte
  rw [Store.writeByte_ue, Store.read_writeByte h.health]
  have word : m / 8 / 8 = m / 64 := by omega
  rw [word]
  by_cases own : m / 8 = a
  · have same : m / 64 = a / 8 := by omega
    rw [if_pos own, if_pos own, decide_eq_true same, Bool.not_true, Bool.and_false, Bool.false_or]
  · rw [if_neg own, if_neg own]
    by_cases touched : m / 64 = a / 8
    · rw [decide_eq_true touched, Bool.not_true, Bool.and_false, Bool.false_or, Bool.and_true]
      split
      case isTrue bad =>
        rw [bad, Bool.true_or]
        have below : m % 8 < 8 := Nat.mod_lt _ (by omega)
        generalize m % 8 = i at below
        interval_cases i <;> rfl
      case isFalse ok => rw [Bool.eq_false_iff.mpr ok, Bool.false_or]
    · rw [decide_eq_false touched, Bool.not_false, Bool.and_true, Bool.and_false, if_neg Bool.false_ne_true]

theorem State.healthBit_of (same : n.health.cells = s.health.cells) (ue : n.health.ue = s.health.ue) :
    n.healthBit m = s.healthBit m := by
  unfold State.healthBit Store.byte
  rw [same, ue]

theorem State.sweepHealth_bit : (s.sweepHealth lo hi).healthBit m = s.healthBit m := State.healthBit_of rfl rfl

theorem State.healthNotes_sends : ∀ x ∈ s.healthNotes lo hi, ∃ y, x = .raise y := by
  unfold State.healthNotes
  simp only [List.mem_append, List.mem_flatMap, List.mem_singleton]
  rintro x (⟨w, -, rfl⟩ | ⟨w, -, rfl⟩)
  · exact ⟨_, rfl⟩
  · exact ⟨_, rfl⟩

/-- A read of the map reports by sources alone. -/
theorem State.sweepHealth_parts : Only [.health, .healthSeen, .flt] s (s.sweepHealth lo hi) := by
  unfold State.sweepHealth
  refine .app (m := [.flt]) (State.report_parts.mono (List.all_eq_true.mpr fun p hp => ?_)) rfl
    (.app Only.set_health_healthSeen rfl .refl)
  obtain ⟨x, hx, own⟩ := List.mem_flatMap.mp hp
  obtain ⟨y, rfl⟩ := State.healthNotes_sends x hx
  rw [List.mem_singleton.mp own]
  rfl

theorem State.setHealth_parts : Only [.health, .healthSetAt, .healthSet, .healthSeen, .flt] s (s.setHealth m) :=
  .app State.noteSet_only rfl (.app State.putHealth_only rfl (.app State.sweepHealth_parts rfl .refl))

/-- A set gives one bit (03 R93). -/
theorem State.setHealth_bit (h : s.Canonical) : (s.setHealth i).healthBit m = (decide (m = i) || s.healthBit m) := by
  show ((s.sweepHealth (i / 8) (i / 8 + 1)).putHealth (i / 8) (setBit (s.healthByte (i / 8)) (i % 8))).healthBit m = _
  rw [State.putHealth_bit (State.sweepHealth_canon h), State.sweepHealth_bit, bit_setBit (Nat.mod_lt _ (by omega))]
  split
  case isTrue own =>
    rw [State.bit_healthByte own, Bool.or_comm]
    congr 1
    exact decide_eq_decide.mpr (by omega)
  case isFalse other => rw [decide_eq_false (by rintro rfl; exact other rfl), Bool.false_or]

theorem State.injWords_idle {target : Nat} {put : Nat → Bool → State → State} {ws : List Nat} (off : s.flt.inj.remain = 0) :
    State.injWords target put ws s = s := by
  induction ws with
  | nil => rfl
  | cons w r ih =>
    unfold State.injWords
    rw [if_pos (State.injMode_off off)]
    exact ih

theorem State.spoilHealth_idle {ws : List Nat} (off : s.flt.inj.remain = 0) : s.spoilHealth ws = s := State.injWords_idle off

/-- The health map after some bytes of a write to it. -/
structure MapKept (s n : State) : Prop where
  driven : ∀ m, n.emitterDriven m = s.emitterDriven m
  inj : n.flt.inj = s.flt.inj
  canon : s.Canonical → n.Canonical
  parts : Only [.health, .healthSetAt, .healthSet, .healthSeen, .flt] s n

theorem MapKept.refl : MapKept s s := ⟨fun _ => rfl, rfl, id, .refl⟩

theorem MapKept.trans {v : State} (h : MapKept v n) (g : MapKept s v) : MapKept s n :=
  ⟨fun m => (h.driven m).trans (g.driven m), h.inj.trans g.inj, h.canon ∘ g.canon, .app h.parts rfl g.parts⟩

/-- Which emitters are driven rests on the register words, the surfaces, the commit in force and Glade. -/
theorem State.emitterDriven_of (regs : n.regs = s.regs) (surf : n.surf = s.surf) (glade : n.glade = s.glade) (cmt : n.cmt = s.cmt) :
    n.emitterDriven m = s.emitterDriven m := by
  have active : n.active = s.active := by
    unfold State.active
    rw [regs]
  unfold State.emitterDriven State.driven State.entryHolds State.driving State.activeEntries State.surfShown State.surfNow
    State.underProfile State.gladeDrives State.shown
  rw [active, surf, glade, cmt]

theorem State.sweepHealth_kept : MapKept s (s.sweepHealth lo hi) :=
  ⟨fun _ => State.emitterDriven_of (State.sweepHealth_parts .regs rfl) (State.sweepHealth_parts .surf rfl)
    (State.sweepHealth_parts .glade rfl) (State.sweepHealth_parts .cmt rfl), rfl, State.sweepHealth_canon, State.sweepHealth_parts.mono rfl⟩

/-- What noting sets of health bits changes. -/
theorem State.noteSets_only {ls : List Nat} : Only [.healthSetAt, .healthSet] s (ls.foldl
    (fun (s : State) i => s.noteSet (8 * a + i)) s) :=
  .foldl .refl (fun _ _ h => .app State.noteSet_only rfl h)

theorem State.bit_drivenBits (h : i < 8) : bit (s.drivenBits a) i = s.emitterDriven (8 * a + i) := by
  have each : ∀ (ls : List Nat) (m : Byte), bit (ls.foldl
      (fun m i => if s.emitterDriven (8 * a + i) then setBit m i else m) m) i =
      (bit m i || ls.contains i && s.emitterDriven (8 * a + i)) ∨ ∃ j ∈ ls, 8 ≤ j := by
    intro ls
    induction ls with
    | nil => exact fun m => .inl (by simp)
    | cons j r ih =>
      intro m
      by_cases wide : 8 ≤ j
      · exact .inr ⟨j, List.mem_cons_self .., wide⟩
      · rcases ih (if s.emitterDriven (8 * a + j) then setBit m j else m) with e | ⟨k, mem, far⟩
        · refine .inl (e.trans ?_)
          rw [List.contains_cons]
          by_cases own : i = j
          · subst own
            rw [beq_self_eq_true, Bool.true_or, Bool.true_and]
            split
            case isTrue dark => rw [bit_setBit (by omega), decide_eq_true rfl, Bool.or_true, dark, Bool.true_or, Bool.or_true]
            case isFalse free => rw [Bool.eq_false_iff.mpr free, Bool.and_false]
          · rw [beq_false_of_ne own, Bool.false_or]
            congr 1
            split
            · rw [bit_setBit (by omega), decide_eq_false own, Bool.or_false]
            · rfl
        · exact .inr ⟨k, List.mem_cons_of_mem _ mem, far⟩
  unfold State.drivenBits
  rcases each (List.range 8) 0 with e | ⟨j, mem, far⟩
  · rw [e, List.contains_eq_mem, decide_eq_true (List.mem_range.mpr h), Bool.true_and]
    simp [bit]
  · exact absurd (List.mem_range.mp mem) (by omega)

theorem State.mergeHealth_kept : MapKept s (s.mergeHealth a b) := by
  unfold State.mergeHealth
  have noted := State.noteSets_only (s := s.putHealth a (b ||| (s.healthByte a &&& s.drivenBits a))) (a := a)
    (ls := (List.range 8).filter (fun i => bit b i))
  generalize hn : ((List.range 8).filter (fun i => bit b i)).foldl _ _ = n at noted ⊢
  refine ⟨fun m => ?_, congrArg Faults.inj (noted .flt rfl), fun h => ?_, .app noted rfl
      (.app State.putHealth_only rfl .refl)⟩
  · exact State.emitterDriven_of (noted .regs rfl) (noted .surf rfl) (noted .glade rfl) (noted .cmt rfl)
  · exact .only noted rfl (State.putHealth_canon h)

/-- A byte written to the map is as given, with the bits that were set of driven surfaces (03 R93). -/
theorem State.mergeHealth_bit (h : s.Canonical) : (s.mergeHealth a b).healthBit m =
    if m / 8 = a then bit b (m % 8) || (s.healthBit m && s.emitterDriven m) else s.healthBit m := by
  have noted := State.noteSets_only (s := s.putHealth a (b ||| (s.healthByte a &&& s.drivenBits a))) (a := a)
    (ls := (List.range 8).filter (fun i => bit b i))
  unfold State.mergeHealth
  refine (State.healthBit_of (congrArg Store.cells (noted .health rfl)) (congrArg Store.ue (noted .health rfl))).trans ?_
  rw [State.putHealth_bit h]
  refine ite_congr rfl (fun own => ?_) (fun _ => rfl)
  have place : 8 * a + m % 8 = m := by omega
  have bits : bit (b ||| (s.healthByte a &&& s.drivenBits a)) (m % 8) =
      (bit b (m % 8) || (bit (s.healthByte a) (m % 8) && bit (s.drivenBits a) (m % 8))) := by
    simp [bit]
  rw [bits, State.bit_healthByte own, State.bit_drivenBits (Nat.mod_lt _ (by omega)), place]

theorem State.mergeHealthL_kept : MapKept s (State.mergeHealthL a l s) := by
  induction l generalizing s a with
  | nil => exact .refl
  | cons b r ih => exact ih.trans State.mergeHealth_kept

theorem State.mergeHealthL_else (h : s.Canonical) (out : m / 8 < a ∨ a + l.length ≤ m / 8) :
    (State.mergeHealthL a l s).healthBit m = s.healthBit m := by
  induction l generalizing s a with
  | nil => rfl
  | cons b r ih =>
    rw [List.length_cons] at out
    refine (ih (s := s.mergeHealth a b) (State.mergeHealth_kept.canon h) (by omega)).trans ?_
    rw [State.mergeHealth_bit h, if_neg (by omega)]

theorem State.mergeHealthL_bit (h : s.Canonical) (low : a ≤ m / 8) (high : m / 8 < a + l.length) :
    (State.mergeHealthL a l s).healthBit m = (bit (l.getD (m / 8 - a) 0) (m % 8) || (s.healthBit m && s.emitterDriven m)) := by
  induction l generalizing s a with
  | nil => exact absurd high (by simp; omega)
  | cons b r ih =>
    rw [List.length_cons] at high
    have kept := State.mergeHealth_kept (s := s) (a := a) (b := b)
    by_cases own : m / 8 = a
    · refine (State.mergeHealthL_else (s := s.mergeHealth a b) (kept.canon h) (.inl (by omega))).trans ?_
      rw [State.mergeHealth_bit h, if_pos own, own, Nat.sub_self]
      rfl
    · refine (ih (s := s.mergeHealth a b) (kept.canon h) (by omega) (by omega)).trans ?_
      rw [kept.driven, State.mergeHealth_bit h, if_neg own, show m / 8 - a = (m / 8 - (a + 1)) + 1 by omega, List.getD_cons_succ]

/-- The words of the map that a write changes in part are read first (03 R92). -/
def State.readWords (ws : List Nat) (s : State) : State := ws.foldl
    (fun (s : State) w => s.sweepHealth (8 * w) (8 * w + 8)) s

theorem State.readWords_kept {ws : List Nat} : MapKept s (s.readWords ws) :=
  List.foldlRecOn (motive := MapKept s) _ _ .refl (fun _ h _ _ => .trans State.sweepHealth_kept h)

theorem State.readWords_bit {ws : List Nat} : (s.readWords ws).healthBit m = s.healthBit m :=
  List.foldlRecOn (motive := fun n : State => n.healthBit m = s.healthBit m) _ _ rfl
    (fun _ h _ _ => State.sweepHealth_bit.trans h)

theorem State.writeHealth_eq (off : s.flt.inj.remain = 0) : ∃ ws, s.writeHealth a l = (s.readWords ws).mergeHealthL a l :=
  ⟨_, State.spoilHealth_idle ((congrArg Injection.remain (State.mergeHealthL_kept.trans State.readWords_kept).inj).trans off)⟩

/-! ### O43 -/

variable {t : Nat} {req : Req} {len : Nat} {v : Word}

theorem frameWrite_lands (on : s.coreOn = true) (canon : s.Canonical) (room : a + l.length ≤ 0x1000000) :
    ∃ n, exec (.bar2FrameStoreWrite t req a l) s = .next n ∧
      (∀ i, i < l.length → s.emitterDriven ((bankAt (a + i)).2 / 2) = false →
        (n.bank (bankAt (a + i)).1).byte (bankAt (a + i)).2 = l.getD i 0) ∧
      (∀ b x, (s.bank b).ue.contains (x / 8) = false →
        (∀ i, i < l.length → bankAt (a + i) = (b, x) → s.emitterDriven (x / 2) = true) →
        (n.bank b).byte x = (s.bank b).byte x) ∧
      Raised (if s.hitsDriven a l then [Src.FS_HWR] else []) s n ∧ Only [.now, .bank0, .bank1, .flt] s n := by
  have stamped : (s.stamp t).Canonical := .only State.stamp_only rfl canon
  have e : exec (.bar2FrameStoreWrite t req a l) s =
      .next ((State.putFrame a l (s.stamp t)).report (noteIf (s.hitsDriven a l) [.raise Src.FS_HWR])) :=
    (onCore_on on : execBar2FrameStoreWrite t req a l s = _)
  have kept : FrameKept (s.stamp t) (State.putFrame a l (s.stamp t)) := State.putFrame_kept
  refine ⟨_, e, fun i hi free => State.putFrame_lands stamped room hi free,
    fun b x ok out => State.putFrame_else stamped ok out, ?_, ?_⟩
  · exact State.report_raised (kept.parts .flt rfl) noteIf_srcs
  · refine .app (m := [.flt]) (State.report_parts.mono (noteIf_parts rfl)) rfl (.app kept.parts rfl
      (.app State.stamp_only rfl .refl))

theorem State.stamp_bank {c : Bool} : (s.stamp t).bank c = s.bank c := rfl

theorem frameRead_eq (on : s.coreOn = true) : exec (.bar2FrameStoreRead t req a len) s =
    .next ((s.stamp t).report [.send ((s.stamp t).bar2Read req a len)]) := (onCore_on on : execBar2FrameStoreRead t req a len s = _)

theorem frameRead_data (on : s.coreOn = true) (room : a + len ≤ 0x1000000)
    (ok : ∀ i, i < len → (s.bank (bankAt (a + i)).1).ue.contains ((bankAt (a + i)).2 / 8) = false) :
    ∃ n, exec (.bar2FrameStoreRead t req a len) s = .next n ∧
      n.out = .data req ((List.range len).map (fun i => (s.bank (bankAt (a + i)).1).byte (bankAt (a + i)).2)) :: s.out ∧
      Only [.now, .out] s n := by
  have bytes : (List.range len).map (fun i => (s.stamp t).bar2Byte req (a + i)) =
      ((List.range len).map (fun i => (s.bank (bankAt (a + i)).1).byte (bankAt (a + i)).2)).map some := by
    rw [List.map_map]
    refine List.map_congr_left (fun i hi => ?_)
    have below := List.mem_range.mp hi
    exact (State.bar2Byte_frame (by omega)).trans (if_neg (by rw [State.stamp_bank, ok i below]; exact Bool.false_ne_true))
  have read : (s.stamp t).bar2Read req a len =
      .data req ((List.range len).map (fun i => (s.bank (bankAt (a + i)).1).byte (bankAt (a + i)).2)) := by
    unfold State.bar2Read
    dsimp only
    rw [bytes]
    simp
  refine ⟨_, frameRead_eq on, ?_, .app State.report_parts rfl (.app State.stamp_only rfl .refl)⟩
  rw [read]
  rfl

theorem frameRead_poisoned (on : s.coreOn = true) (room : a + len ≤ 0x1000000)
    (bad : ∃ i, i < len ∧ (s.bank (bankAt (a + i)).1).ue.contains ((bankAt (a + i)).2 / 8) = true) :
    ∃ n, exec (.bar2FrameStoreRead t req a len) s = .next n ∧ n.out = .poisoned req :: s.out ∧ Only [.now, .out] s n := by
  obtain ⟨i, hi, dead⟩ := bad
  have read : (s.stamp t).bar2Read req a len = .poisoned req := by
    refine if_pos (List.any_eq_true.mpr ⟨none, List.mem_map.mpr ⟨i, List.mem_range.mpr hi, ?_⟩, rfl⟩)
    exact (State.bar2Byte_frame (by omega)).trans (if_pos (by rw [State.stamp_bank, dead]))
  refine ⟨_, frameRead_eq on, ?_, .app State.report_parts rfl (.app State.stamp_only rfl .refl)⟩
  rw [read]
  rfl

theorem hmSet_sets (canon : s.Canonical) (write : s.Writable t req 0x2C) (off : s.flt.inj.remain = 0) :
    ∃ n, exec (.stHmSet t req v) s = .next n ∧ n.healthBit (fld v 0 22) = true ∧
      (∀ m, m ≠ fld v 0 22 → n.healthBit m = s.healthBit m) ∧
      Raised ((s.healthNotes (fld v 0 22 / 8) (fld v 0 22 / 8 + 1)).filterMap Note.src) s n ∧
      Only [.now, .health, .healthSetAt, .healthSet, .healthSeen, .flt] s n := by
  have stamped : (s.stamp t).Canonical := .only State.stamp_only rfl canon
  have idle : ((s.stamp t).setHealth (fld v 0 22)).spoilHealth [fld v 0 22 / 64] = (s.stamp t).setHealth (fld v 0 22) :=
    State.spoilHealth_idle off
  have e : exec (.stHmSet t req v) s = .next ((s.stamp t).setHealth (fld v 0 22)) :=
    (onCore_on write.1 : execStHmSet t req v s = _).trans (congrArg _ (write.access.trans idle))
  refine ⟨_, e, ?_, fun m other => ?_, rfl, .app State.setHealth_parts rfl (.app State.stamp_only rfl .refl)⟩
  · rw [State.setHealth_bit stamped, decide_eq_true rfl, Bool.true_or]
  · rw [State.setHealth_bit stamped, decide_eq_false other, Bool.false_or]
    rfl

theorem hmClr_queues (write : s.Writable t req 0x2C) (room : s.clearQ.length < 16) :
    ∃ n, exec (.stHmClr t req v) s = .next n ∧ n.clearQ = s.clearQ ++ [fld v 0 22] ∧ Only [.now, .clearQ] s n := by
  have e : exec (.stHmClr t req v) s = .next { s.stamp t with clearQ := s.clearQ ++ [fld v 0 22] } :=
    (onCore_on write.1 : execStHmClr t req v s = _).trans (congrArg _ (write.access.trans (if_pos room)))
  exact ⟨_, e, rfl, .app Only.set_clearQ rfl (.app State.stamp_only rfl .refl)⟩

theorem hmClr_discards (canon : s.Canonical) (write : s.Writable t req 0x2C) (full : 16 ≤ s.clearQ.length) :
    ∃ n, exec (.stHmClr t req v) s = .next n ∧ rget n.regs Reg.ST_HM_STAT = rget s.regs Reg.ST_HM_STAT ||| 0x100 ∧
      RegsOnly [Reg.ST_HM_STAT] s n ∧ Raised [Src.HM_CLROVF] s n ∧ Only [.now, .regs, .flt] s n := by
  have e : exec (.stHmClr t req v) s = .next ((s.stamp t).report [.bits Reg.ST_HM_STAT 0x100, .raise Src.HM_CLROVF]) :=
    (onCore_on write.1 : execStHmClr t req v s = _).trans (congrArg _ (write.access.trans (if_neg (Nat.not_lt.mpr full))))
  refine ⟨_, e, State.report_reads canon.regs rfl rfl, State.report_regsOnly_of
      (fun _ h => h) rfl, State.report_raised rfl rfl,
    .app State.report_parts rfl (.app State.stamp_only rfl .refl)⟩

theorem mapWrite_merges (canon : s.Canonical) (on : s.coreOn = true) (off : s.flt.inj.remain = 0)
    (room : a + l.length ≤ 0x80000) : ∃ n, exec (.bar2HealthMapWrite t req a l) s = .next n ∧
      (∀ m, a ≤ m / 8 → m / 8 < a + l.length →
        n.healthBit m = (bit (l.getD (m / 8 - a) 0) (m % 8) || (s.healthBit m && s.emitterDriven m))) ∧
      (∀ m, m / 8 < a ∨ a + l.length ≤ m / 8 → n.healthBit m = s.healthBit m) ∧
      Only [.now, .health, .healthSetAt, .healthSet, .healthSeen, .flt] s n := by
  have stamped : (s.stamp t).Canonical := .only State.stamp_only rfl canon
  obtain ⟨ws, writes⟩ := State.writeHealth_eq (s := s.stamp t) (a := a % 0x80000) (l := l) off
  have e : exec (.bar2HealthMapWrite t req a l) s = .next (((s.stamp t).readWords ws).mergeHealthL (a % 0x80000) l) :=
    (onCore_on on : execBar2HealthMapWrite t req a l s = _).trans (congrArg _ writes)
  have readKept := State.readWords_kept (s := s.stamp t) (ws := ws)
  have bits : ∀ m, ((s.stamp t).readWords ws).healthBit m = s.healthBit m := fun m => State.readWords_bit
  have driven : ∀ m, ((s.stamp t).readWords ws).emitterDriven m = s.emitterDriven m := fun m => readKept.driven m
  refine ⟨_, e, fun m low high => ?_, fun m out => ?_, .app (State.mergeHealthL_kept.trans readKept).parts rfl
    (.app State.stamp_only rfl .refl)⟩
  · have place : a % 0x80000 = a := Nat.mod_eq_of_lt (by omega)
    rw [place, State.mergeHealthL_bit (readKept.canon stamped) low high, bits, driven]
  · cases l with
    | nil => exact bits m
    | cons b r =>
      have place : a % 0x80000 = a := Nat.mod_eq_of_lt (by rw [List.length_cons] at room; omega)
      rw [place, State.mergeHealthL_else (readKept.canon stamped) out, bits]

/-- Settles O43: a byte at a time, a write to a bank or to the map lands in its own byte, and a word that could not be
corrected is whole from its first byte on. -/
theorem frameStoreAndHealthMap : Obligations.FrameStoreAndHealthMap := by
  unfold Obligations.FrameStoreAndHealthMap
  exact ⟨fun t req a s on canon => ⟨fun l room => frameWrite_lands on canon room, fun len room =>
      ⟨frameRead_data on room, frameRead_poisoned on room⟩⟩,
    fun t req s canon => ⟨fun v write off => hmSet_sets canon write off, fun v write room => hmClr_queues write room,
      fun v write full => hmClr_discards canon write full, fun a l on off room => mapWrite_merges canon on off room⟩⟩

end
end Sys2Proof.Machine
end

section
/-! The layer store and calibration windows. -/

namespace Sys2Proof.Machine

open Sys2Proof

section
variable {s : State} {a len x w t : Nat} {l : List Byte} {req : Req}

/-! ### The calibration store (09 R349, R350) -/

/-- A store whose uncorrectable words among `ws` start again from the default of calibration words. -/
def Store.restart (y : Store) (ws : List Nat) : Store :=
  ws.foldl (fun (x : Store) w =>
    { x with cells := if x.ue.contains w then
        Memory.writeL calibByte x.cells (8 * w) ((List.range 8).map (fun i => calibByte i)) else x.cells }) y

/-- Only uncorrectable words restart. -/
theorem Store.restart_does {y : Store} {ws : List Nat} (wf : y.wf calibByte = true) :
    (y.restart ws).wf calibByte = true ∧ (y.restart ws).ue = y.ue ∧ (y.restart ws).ce = y.ce ∧
      ∀ x, y.ue.contains (x / 8) = false → Memory.read calibByte (y.restart ws).cells x = Memory.read calibByte y.cells x := by
  unfold Store.restart
  refine List.foldlRecOn (motive := fun n : Store => n.wf calibByte = true ∧ n.ue = y.ue ∧ n.ce = y.ce ∧
    ∀ x, y.ue.contains (x / 8) = false → Memory.read calibByte n.cells x = Memory.read calibByte y.cells x) _ _
    ⟨wf, rfl, rfl, fun _ _ => rfl⟩ ?_
  rintro n ⟨canon, ue, ce, same⟩ w -
  by_cases bad : n.ue.contains w = true
  · dsimp only
    rw [if_pos bad]
    refine ⟨Memory.writeL_wf canon, ue, ce, fun x ok => ?_⟩
    rw [Memory.read_writeL canon, if_neg, same x ok]
    intro inside
    rw [List.length_map, List.length_range] at inside
    have own : x / 8 = w := by omega
    rw [own, ← ue, bad] at ok
    cases ok
  · dsimp only
    rw [if_neg bad]
    exact ⟨canon, ue, ce, same⟩

/-- The calibration store after a write. -/
def Store.calibrate (y : Store) (a : Nat) (l : List Byte) : Store :=
  { cells := Memory.writeL calibByte (y.restart (wordsOf a l.length)).cells a l
    ce := (y.restart (wordsOf a l.length)).ce.filter (fun w => !(wordsOf a l.length).contains w)
    ue := (y.restart (wordsOf a l.length)).ue.filter (fun w => !(wordsOf a l.length).contains w) }

theorem State.putCalib_eq (off : s.flt.inj.remain = 0) : s.putCalib a l = { s with calib := s.calib.calibrate a l } :=
  State.injWords_idle (s := { s with calib := s.calib.calibrate a l }) (target := 3) (ws := wordsOf a l.length)
    (put := fun w multi (s : State) => { s with calib := s.calib.upset w multi }) off

theorem Store.calibrate_sound {y : Store} (h : w ∈ wordsOf a l.length) :
    (y.calibrate a l).ue.contains w = false ∧ (y.calibrate a l).ce.contains w = false := by
  have own : (wordsOf a l.length).contains w = true := List.contains_iff_mem.mpr h
  unfold Store.calibrate
  dsimp only
  rw [contains_filter_not, contains_filter_not, own, Bool.not_true, Bool.and_false, Bool.and_false]
  exact ⟨rfl, rfl⟩

theorem Store.read_calibrate {y : Store} (wf : y.wf calibByte = true) : Memory.read calibByte (y.calibrate a l).cells x =
    if a ≤ x ∧ x < a + l.length then l.getD (x - a) 0
    else Memory.read calibByte (y.restart (wordsOf a l.length)).cells x := Memory.read_writeL (Store.restart_does wf).1

/-! ### O44 -/

theorem layerWrite_lands (on : s.coreOn = true) (canon : s.Canonical) (room : a + l.length ≤ 0x800000) :
    ∃ n, exec (.bar2LayerStoreWrite t req a l) s = .next n ∧ (∀ i, i < l.length → n.layers.byte (a + i) = l.getD i 0) ∧
      (∀ x, x < a ∨ a + l.length ≤ x → s.layers.ue.contains (x / 8) = false → n.layers.byte x = s.layers.byte x) ∧
      Only [.now, .layers] s n := by
  have e : exec (.bar2LayerStoreWrite t req a l) s =
      .next { s.stamp t with layers := s.layers.write 0 zeroByte (a % 0x800000) l } :=
    (onCore_on on : execBar2LayerStoreWrite t req a l s = _)
  refine ⟨_, e, fun i hi => ?_, fun x out ok => ?_, .app Only.set_layers rfl (.app State.stamp_only rfl .refl)⟩
  · have place : a % 0x800000 = a := Nat.mod_eq_of_lt (by omega)
    rw [place]
    refine (Store.read_write canon.layers).trans ?_
    rw [if_pos (by omega), Nat.add_sub_cancel_left]
  · refine (Store.read_write canon.layers).trans ?_
    rw [ok, Bool.false_and, if_neg Bool.false_ne_true]
    refine if_neg (fun inside => ?_)
    have place : a % 0x800000 = a := Nat.mod_eq_of_lt (by omega)
    omega

theorem calibWrite_lands (on : s.coreOn = true) (canon : s.Canonical) (room : a + l.length ≤ 0x800000)
    (off : s.flt.inj.remain = 0) : ∃ n, exec (.bar2CalibrationWrite t req a l) s = .next n ∧
      (∀ i, i < l.length → Memory.read calibByte n.calib.cells (a + i) = l.getD i 0) ∧
      (∀ x, x < a ∨ a + l.length ≤ x → s.calib.ue.contains (x / 8) = false →
        Memory.read calibByte n.calib.cells x = Memory.read calibByte s.calib.cells x) ∧
      (∀ w ∈ wordsOf a l.length, n.calib.ue.contains w = false ∧ n.calib.ce.contains w = false) ∧
      Only [.now, .calib] s n := by
  have e : exec (.bar2CalibrationWrite t req a l) s =
      .next { s.stamp t with calib := s.calib.calibrate (a % 0x800000) l } :=
    (onCore_on on : execBar2CalibrationWrite t req a l s = _).trans (congrArg _ (State.putCalib_eq off))
  have place : l.length ≠ 0 → a % 0x800000 = a := fun some_ => Nat.mod_eq_of_lt (by omega)
  refine ⟨_, e, fun i hi => ?_, fun x out ok => ?_, fun w mem => ?_, .app Only.set_calib rfl
      (.app State.stamp_only rfl .refl)⟩
  · rw [place (by omega)]
    refine (Store.read_calibrate canon.calib).trans ?_
    rw [if_pos (by omega), Nat.add_sub_cancel_left]
  · refine (Store.read_calibrate canon.calib).trans ?_
    rw [if_neg (fun inside => by
      have own := place (by omega)
      omega)]
    exact (Store.restart_does canon.calib).2.2.2 x ok
  · rw [place (mem_wordsOf.mp mem).1]
    exact Store.calibrate_sound mem

theorem calibRead_eq (on : s.coreOn = true) (room : a + len ≤ 0x800000) : exec (.bar2CalibrationRead t req a len) s =
    .next ((s.stamp t).report [.send (
      if s.calibDead a len then .poisoned req else .data req (Memory.readN calibByte s.calib.cells a len))]) := by
  have e : exec (.bar2CalibrationRead t req a len) s = .next ((s.stamp t).report [.send (
      if s.calibDead (a % 0x800000) len then .poisoned req
      else .data req (Memory.readN calibByte s.calib.cells (a % 0x800000) len))]) :=
    (onCore_on on : execBar2CalibrationRead t req a len s = _)
  rw [e]
  by_cases empty : len = 0
  · subst empty
    rfl
  · rw [Nat.mod_eq_of_lt (show a < 0x800000 by omega)]

/-- Settles O44: what a write leaves of a store is read byte by byte, an uncorrectable word apart. -/
theorem layerAndCalibrationWindows : Obligations.LayerAndCalibrationWindows := by
  unfold Obligations.LayerAndCalibrationWindows
  intro t req a s on canon
  refine ⟨fun l room => layerWrite_lands on canon room, fun l room off => calibWrite_lands on canon room off,
    fun len room => ⟨fun ok => ?_, fun dead => ?_⟩⟩
  · refine ⟨_, calibRead_eq on room, ?_, .app State.report_parts rfl (.app State.stamp_only rfl .refl)⟩
    rw [ok]
    rfl
  · refine ⟨_, calibRead_eq on room, ?_, .app State.report_parts rfl (.app State.stamp_only rfl .refl)⟩
    rw [dead]
    rfl

end
end Sys2Proof.Machine
end

section
/-! Curves, limits and derating. -/

namespace Sys2Proof.Machine

open Sys2Proof

/-! ### O45 -/

section
variable {s : State} {t : Nat} {req : Req} {v : Word} {u : Fin 2} {a : Fin 16}

theorem tdata_refused (write : s.Writable t req 0x24)
    (held : (s.stamp t).setHeld (fld (rget s.regs Reg.CR_TADDR) 13 1) = true) :
    ∃ n, exec (.crTdataWrite t req v) s = .next n ∧ n.corr = { s.corr with twerr := true } ∧ Raised [Src.CR_TWERR] s n ∧
      Only [.now, .corr, .flt] s n := by
  have e : exec (.crTdataWrite t req v) s = .next ({ s.stamp t with corr := { s.corr with twerr := true } }.report
      [.raise Src.CR_TWERR, Note.hit Reg.CR_TSTAT 1]) :=
    (onCore_on write.1 : execCrTdataWrite t req v s = _).trans (congrArg _ (write.access.trans (if_pos held)))
  exact ⟨_, e, rfl, State.report_raised rfl rfl, .app State.report_parts rfl (.app Only.set_corr rfl
    (.app State.stamp_only rfl .refl))⟩

theorem tdata_writes (canon : s.Canonical) (write : s.Writable t req 0x24)
    (free : (s.stamp t).setHeld (fld (rget s.regs Reg.CR_TADDR) 13 1) = false) (off : s.flt.inj.remain = 0) :
    ∃ n, exec (.crTdataWrite t req v) s = .next n ∧
      (∀ k, smGet (fun _ => (0 : BitVec 20)) n.corr.curve k =
        if k = curveKey (fld (rget s.regs Reg.CR_TADDR) 13 1) (fld (rget s.regs Reg.CR_TADDR) 11 2)
          (min 1024 (fld (rget s.regs Reg.CR_TADDR) 0 11)) then v.setWidth 20
        else smGet (fun _ => (0 : BitVec 20)) s.corr.curve k) ∧
      (fld (rget s.regs Reg.CR_TADDR) 0 11 < 1024 → rget n.regs Reg.CR_TADDR =
        at32 0 (fld (rget s.regs Reg.CR_TADDR) 0 11 + 1) ||| at32 11 (fld (rget s.regs Reg.CR_TADDR) 11 2) |||
          at32 13 (fld (rget s.regs Reg.CR_TADDR) 13 1)) ∧
      RegsOnly [Reg.CR_TADDR] s n ∧ Only [.now, .corr, .regs] s n := by
  have calm : (s.stamp t).useInj 4 = s.stamp t := if_pos (State.injMode_off off)
  have run : (s.stamp t).writeCurve v = _ := if_neg (by rw [State.stamp_regs, free]; exact Bool.false_ne_true)
  have e : exec (.crTdataWrite t req v) s = .next _ :=
    (onCore_on write.1 : execCrTdataWrite t req v s = _).trans (congrArg _ (write.access.trans run))
  rw [calm] at e
  dsimp only [State.stamp_regs, State.stamp_corr] at e
  refine ⟨_, e, fun k => ?_, fun below => ?_, State.report_regsOnly_of (fun _ h => h) rfl,
    .app State.report_parts rfl (.app Only.set_corr rfl (.app State.stamp_only rfl .refl))⟩
  · show smGet _ (smSet _ _ _ s.corr.curve) k = _
    split
    case isTrue own =>
      subst own
      exact smGet_smSet_self canon.curve
    case isFalse other => exact smGet_smSet_ne other
  · refine State.report_reads canon.regs rfl ?_
    have place : min 1024 (fld (rget s.regs Reg.CR_TADDR) 0 11) = fld (rget s.regs Reg.CR_TADDR) 0 11 :=
      Nat.min_eq_right below.le
    rw [List.foldl_cons, List.foldl_nil]
    unfold Note.onWord
    dsimp only
    rw [if_pos rfl]
    refine congrArg (· ||| at32 13 (fld (rget s.regs Reg.CR_TADDR) 13 1)) ((if_neg ?_).trans ?_)
    · omega
    · rw [place]

theorem mlim_lowers (canon : s.Canonical) (write : s.Writable t req 0x24)
    (low : fld v 0 16 < fld (rget s.regs Reg.CR_MLIM) 0 16) :
    ∃ n, exec (.crMlim t req 0 v) s = .next n ∧ rget n.regs Reg.CR_MLIM = at32 0 (fld v 0 16) ∧
      RegsOnly [Reg.CR_MLIM] s n ∧ Only [.now, .regs] s n := by
  have lowers : ((0 : Fin 2) == 0 && decide (fld v 0 16 < fld (rget s.regs Reg.CR_MLIM) 0 16)) = true := by
    rw [decide_eq_true low]
    rfl
  have e : exec (.crMlim t req 0 v) s = .next ((s.stamp t).report [.word Reg.CR_MLIM (at32 0 (fld v 0 16))]) :=
    (onCore_on write.1 : execCrMlim t req 0 v s = _).trans (congrArg _ (write.access.trans (State.when_true lowers)))
  exact ⟨_, e, State.report_reads canon.regs rfl rfl, State.report_regsOnly_of (fun _ h => h) rfl,
    .app State.report_parts rfl (.app State.stamp_only rfl .refl)⟩

theorem mlim_keeps (write : s.Writable t req 0x24) (high : fld (rget s.regs Reg.CR_MLIM) 0 16 ≤ fld v 0 16) :
    exec (.crMlim t req 0 v) s = .next (s.stamp t) := by
  have keeps : ((0 : Fin 2) == 0 && decide (fld v 0 16 < fld (rget s.regs Reg.CR_MLIM) 0 16)) = false := by
    rw [decide_eq_false (Nat.not_lt.mpr high)]
    rfl
  exact (onCore_on write.1 : execCrMlim t req 0 v s = _).trans (congrArg _ (write.access.trans (State.when_false keeps)))

theorem mlim_first (write : s.Writable t req 0x25) : exec (.crMlim t req 1 v) s = .next (s.stamp t) :=
  (onCore_on write.1 : execCrMlim t req 1 v s = _).trans (congrArg _ (write.access.trans (State.when_false rfl)))

theorem derating_waits (on : s.coreOn = true) (off : s.flt.inj.remain = 0) (fresh : s.Fresh (.deratingMapWritten t u)) :
    ∃ n, exec (.deratingMapWritten t u) s = .next n ∧
      (n.corr.surf[u]).mapNew = some ((s.surfTiles u).map (fun i =>
        (i, BitVec.ofNat 12 ((s.tileSet u).factor (tileGet s.tile.tt i))))) ∧
      n.corr = { s.corr with surf := n.corr.surf } ∧ (∀ w : Fin 2, w ≠ u → n.corr.surf[w] = s.corr.surf[w]) ∧
      Only [.now, .corr] s n := by
  generalize hx : ({ s.corr.surf[u] with
    mapNew := some ((s.surfTiles u).map (fun i => (i, BitVec.ofNat 12 ((s.tileSet u).factor (tileGet s.tile.tt i)))))
    mapNewBad := [] } : CorrSurf) = x
  have run : (s.stamp t).mapWritten u = { s.stamp t with corr := { s.corr with surf := s.corr.surf.set u x } } := by
    rw [← hx]
    exact State.injWords_idle off
  have e : exec
      (.deratingMapWritten t u) s = .next { s.stamp t with corr := { s.corr with surf := s.corr.surf.set u x } } :=
    (onCore_on on : execDeratingMapWritten t u s = _).trans (congrArg _ ((State.once_fresh fresh).trans run))
  refine ⟨_, e, ?_, rfl, fun w other => Vector.getElem_set_fin_ne other, .app Only.set_corr rfl
      (.app State.stamp_only rfl .refl)⟩
  show ((s.corr.surf.set u x)[u]).mapNew = _
  rw [Vector.getElem_set_fin_self, ← hx]

theorem tempStale_rests (on : s.coreOn = true) (rest : s.linkEntry a = none ∨
    (s.stamp t).hasCome (Awaited.status a).key = true ∨ (s.stamp t).answering a = true) :
    exec (.arrayTempStale t a) s = .next (s.stamp t) := by
  refine (onCore_on on : execArrayTempStale t a s = _).trans (congrArg _ (State.when_false ?_))
  rcases rest with none_ | come | answers
  · have link : (s.stamp t).linkEntry a = none := none_
    rw [link]
    rfl
  · rw [come, Bool.not_true, Bool.and_false, Bool.false_and]
  · rw [answers, Bool.not_true, Bool.and_false]

theorem tempStale_takes (on : s.coreOn = true) (link : s.linkEntry a ≠ none)
    (come : (s.stamp t).hasCome (Awaited.status a).key = false) (answers : (s.stamp t).answering a = false) :
    ∃ n, exec (.arrayTempStale t a) s = .next n ∧
      n.tile = { s.tile with
        fresh := clearBit s.tile.fresh a.val, tarr := s.tile.tarr.set a s.taHi
        atempDef := putBit s.tile.atempDef a.val true } ∧
      Raised (if bit s.tile.atempDef a.val then [] else [Src.THM_ATEMP]) s n ∧ Only [.now, .tile, .flt] s n := by
  have due : ((s.stamp t).linkEntry a).isSome && !(s.stamp t).hasCome (Awaited.status a).key && !(s.stamp t).answering a := by
    have linked : ((s.stamp t).linkEntry a).isSome = true := Option.isSome_iff_ne_none.mpr link
    rw [come, answers, linked]
    rfl
  generalize hv : ({ s.stamp t with tile := { s.tile with fresh := clearBit s.tile.fresh a.val } } : State) = v
  have hot : v.hotArray a = true := by
    have stale : bit v.tile.fresh a.val = false := by
      rw [← hv]
      exact (bit_clearBit ..).trans (by simp)
    unfold State.hotArray
    dsimp only
    rw [stale]
    simp
  have run : (s.stamp t).tempStale a = v.atemp a := by
    rw [← hv]
    rfl
  have e : exec (.arrayTempStale t a) s = .next (v.atemp a) :=
    (onCore_on on : execArrayTempStale t a s = _).trans (congrArg _ ((State.when_true due).trans run))
  unfold State.atemp at e
  dsimp only at e
  rw [hot, Bool.true_and] at e
  have parts : Only [.now, .tile] s v := by
    rw [← hv]
    exact .app Only.set_tile rfl (.app State.stamp_only rfl .refl)
  refine ⟨_, e, ?_, ?_, .app (m := [.flt]) (State.report_parts.mono (noteIf_parts rfl)) rfl
      (.app Only.set_tile rfl (parts.mono rfl))⟩
  · rw [← hv]
    rfl
  · have raised : (noteIf (!bit v.tile.atempDef a.val) [.raise Src.THM_ATEMP]).filterMap Note.src =
        if bit s.tile.atempDef a.val then [] else [Src.THM_ATEMP] := by
      rw [← hv, noteIf_srcs]
      show (if (!bit s.tile.atempDef a.val) = true then _ else _) = _
      cases bit s.tile.atempDef a.val <;> rfl
    exact State.report_raised (parts .flt rfl) raised

/-- Settles O45. -/
theorem curvesLimitsAndDerating : Obligations.CurvesLimitsAndDerating := by
  unfold Obligations.CurvesLimitsAndDerating
  intro t req s canon
  exact ⟨fun v write held => tdata_refused write held, fun v write free off => tdata_writes canon write free off,
    fun v write low => mlim_lowers canon write low, fun v write high => mlim_keeps write high, fun v write => mlim_first write,
    fun u on off fresh => derating_waits on off fresh, fun a on rest => tempStale_rests on rest,
    fun a on link come answers => tempStale_takes on link come answers⟩

end
end Sys2Proof.Machine
end

section
/-! Intake lanes and FRAME_START. -/

namespace Sys2Proof.Machine

open Sys2Proof

/-! ### Lanes (06 R229, R230) -/

section
variable {s n v : State} {l st : Fin 4} {nx : Bool} {f : InFrame} {x : Stream} {ams : List RxMarker} {y : IntakeLane} {a : Nat}

/-- BIP mismatches count, and nothing else does. -/
theorem bipNotes_onCount {w : Word} : (bipNotes l ams).foldl (Note.onCount a) w =
    if a = Reg.IN_BIPERR l then satAdd w (ams.filter (fun x => RxMarker.ok x && fld x.blk 16 8 != x.parity.toNat)).length
    else w := by
  unfold bipNotes
  dsimp only
  rw [noteIf_onCount]
  split
  · rfl
  case isFalse none_ =>
    have zero : (ams.filter (fun x => RxMarker.ok x && fld x.blk 16 8 != x.parity.toNat)).length = 0 := by
      simpa using none_
    rw [zero, satAdd_zero, ite_self]

/-- A lane's new state, with its BIP mismatches counted. -/
def State.lane' (s : State) (l : Fin 4) (y : IntakeLane) (ams : List RxMarker) : State :=
  (s.setIntake l y).report (bipNotes l ams)

theorem State.lane'_parts : Only [.intake, .live] s (s.lane' l y ams) :=
  .app (m := [.live]) (State.report_parts.mono (noteIf_parts rfl)) rfl (.app Only.set_intake rfl .refl)

theorem State.lane'_live : LiveOnly [Reg.IN_BIPERR l] s (s.lane' l y ams) :=
  State.report_liveOnly_of (noteIf_counts (fun _ h => h)) rfl

theorem State.lane'_intake : (s.lane' l y ams).intake = { s.intake with lanes := s.intake.lanes.set l y } := rfl

/-! ### Frames that fail (06 R245) -/

/-- A frame that has failed. -/
def InFrame.fail (f : InFrame) : InFrame := { f with failed := true, held := [], left := [], early := [] }

/-- A stream whose frame has failed. -/
def Stream.fail (x : Stream) (nx : Bool) (f : InFrame) : Stream :=
  { x.put nx f.fail with lastFn := f.fn, lastOk := false }

theorem Stream.put_frame : (x.put nx f).frame nx = some f := by
  cases nx <;> rfl

theorem Stream.put_other : (x.put nx f).frame (!nx) = x.frame (!nx) := by
  cases nx <;> rfl

theorem Stream.fail_frame : (x.fail nx f).frame nx = some f.fail := by
  cases nx <;> rfl

theorem Stream.fail_other : (x.fail nx f).frame (!nx) = x.frame (!nx) := by
  cases nx <;> rfl

/-- A frame that does not fail stays. -/
theorem State.failFrame_none (h : (s.intake.streams[st]).frame nx = none) : s.failFrame st nx = s := by
  unfold State.failFrame
  dsimp only
  rw [h]

theorem State.failFrame_over (h : (s.intake.streams[st]).frame nx = some f) (out : f.isOpen = false) : s.failFrame st nx = s := by
  unfold State.failFrame
  dsimp only
  rw [h]
  exact if_pos (by rw [out]; rfl)

theorem State.stopComposing_stops {u : Fin 2} : ((s.stopComposing u).comp[u]).composing = false :=
  congrArg Composer.composing Vector.getElem_set_fin_self

/-- An open frame fails: it is told, and the composer that needs it stops. -/
theorem State.failFrame_fails (h : (s.intake.streams[st]).frame nx = some f) (isOpen : f.isOpen = true) :
    (s.failFrame st nx).intake = { s.intake with streams := s.intake.streams.set st ((s.intake.streams[st]).fail nx f) } ∧
      (s.failFrame st nx).flt.raised = s.flt.raised ++ [Src.IN_FAIL st] ∧
      (nx = false → ((s.failFrame st nx).comp[(s.inSet st).surf]).composing = false) := by
  have e : s.failFrame st nx = ((s.setStream st ((s.intake.streams[st]).fail nx f)).when (!nx)
      (State.stopComposing (s.inSet st).surf)).report [.tally (Reg.IN_FAILFR st) 1, .raise (Src.IN_FAIL st)] := by
    unfold State.failFrame
    dsimp only
    rw [h]
    exact if_neg (by rw [isOpen]; exact Bool.false_ne_true)
  rw [e]
  refine ⟨?_, ?_, ?_⟩
  · exact State.when_cases (p := fun v : State => v.intake = _) rfl rfl
  · have flt := State.when_cases (b := !nx) (f := State.stopComposing (s.inSet st).surf)
      (s := s.setStream st ((s.intake.streams[st]).fail nx f)) (p := fun v : State => v.flt = s.flt) rfl rfl
    rw [State.report_flt, flt]
    rfl
  · rintro rfl
    rw [State.report_comp, State.when_true (c := !false) rfl]
    exact State.stopComposing_stops

/-- The open frames of a stream fail, each at its place. -/
theorem State.failOpen_fails (h : (s.intake.streams[st]).frame nx = some f) (isOpen : f.isOpen = true) :
    Src.IN_FAIL st ∈ (s.failOpen st).flt.raised ∧ ∃ f', ((s.failOpen st).intake.streams[st]).frame nx = some f' ∧
      f'.failed = true ∧ f'.fn = f.fn ∧ f'.held = [] := by
  have streams : ∀ v : State, ∀ mx g, (v.intake.streams[st]).frame mx = some g → g.isOpen = true →
      (v.failFrame st mx).intake.streams[st] = (v.intake.streams[st]).fail mx g := fun v mx g hg open' => by
    rw [(State.failFrame_fails hg open').1, Vector.getElem_set_fin_self]
  have other : ∀ v : State, ∀ mx, ((v.failFrame st mx).intake.streams[st]).frame (!mx) = (v.intake.streams[st]).frame (!mx) := by
    intro v mx
    rcases hv : (v.intake.streams[st]).frame mx with - | g
    · rw [State.failFrame_none hv]
    · rcases open' : g.isOpen with - | -
      · rw [State.failFrame_over hv open']
      · rw [streams v mx g hv open', Stream.fail_other]
  have raised : ∀ v : State, ∀ mx, ∀ i ∈ v.flt.raised, i ∈ (v.failFrame st mx).flt.raised := by
    intro v mx i hi
    rcases hv : (v.intake.streams[st]).frame mx with - | g
    · rw [State.failFrame_none hv]
      exact hi
    · rcases open' : g.isOpen with - | -
      · rw [State.failFrame_over hv open']
        exact hi
      · rw [(State.failFrame_fails hv open').2.1]
        exact List.mem_append_left _ hi
  unfold State.failOpen
  cases nx with
  | false =>
    have first := (State.failFrame_fails h isOpen).2.1
    refine ⟨raised _ _ _ (by rw [first]; exact List.mem_append_right _ (List.mem_singleton.mpr rfl)), f.fail,
      (other (s.failFrame st false) true).trans ?_, rfl, rfl, rfl⟩
    rw [streams s false f h isOpen]
    exact Stream.fail_frame
  | true =>
    have still : ((s.failFrame st false).intake.streams[st]).frame true = some f := (other s false).trans h
    refine ⟨?_, f.fail, ?_, rfl, rfl, rfl⟩
    · rw [(State.failFrame_fails still isOpen).2.1]
      exact List.mem_append_right _ (List.mem_singleton.mpr rfl)
    · rw [streams _ true f still isOpen]
      exact Stream.fail_frame

/-- Failing frames adds to the raises that wait, and leaves the lanes. -/
theorem State.failOpen_parts : (∀ i ∈ s.flt.raised, i ∈ (s.failOpen st).flt.raised) ∧
    (s.failOpen st).intake.lanes = s.intake.lanes := by
  have once : ∀ v : State, ∀ mx, (∀ i ∈ v.flt.raised, i ∈ (v.failFrame st mx).flt.raised) ∧
      (v.failFrame st mx).intake.lanes = v.intake.lanes := by
    intro v mx
    rcases hv : (v.intake.streams[st]).frame mx with - | g
    · rw [State.failFrame_none hv]
      exact ⟨fun _ h => h, rfl⟩
    · rcases open' : g.isOpen with - | -
      · rw [State.failFrame_over hv open']
        exact ⟨fun _ h => h, rfl⟩
      · rw [(State.failFrame_fails hv open').2.1, (State.failFrame_fails hv open').1]
        exact ⟨fun _ h => List.mem_append_left _ h, rfl⟩
  obtain ⟨raised, lanes⟩ := once s false
  obtain ⟨raised', lanes'⟩ := once (s.failFrame st false) true
  exact ⟨fun i h => raised' i (raised i h), lanes'.trans lanes⟩

theorem State.failFrame_live : LiveOnly [Reg.IN_FAILFR st] s (s.failFrame st nx) := by
  unfold State.failFrame
  dsimp only
  split
  · exact fun _ _ => rfl
  · split
    · exact fun _ _ => rfl
    · exact State.report_liveOnly_of (fun _ h => h) (State.when_cases (p := fun v : State => v.live = s.live) rfl rfl)

theorem State.failOpen_live : LiveOnly [Reg.IN_FAILFR st] s (s.failOpen st) :=
  .app State.failFrame_live (fun _ h => h) State.failFrame_live

end

/-! ### Locks gained and lost -/

section
variable {s n : State} {l st : Fin 4}

/-- The settings of the streams rest on the register words and those in force. -/
theorem State.inSet_of (surf : n.surf = s.surf) (regs : n.regs = s.regs) : n.inSet st = s.inSet st := by
  have composed : n.composed = s.composed := by
    unfold State.composed
    rw [surf]
  have active : n.active = s.active := by
    unfold State.active
    rw [regs]
  unfold State.inSet
  rw [composed, active]

theorem State.laneStream_of (surf : n.surf = s.surf) (regs : n.regs = s.regs) : n.laneStream l = s.laneStream l := by
  have same : n.inSet = s.inSet := funext fun _ => State.inSet_of surf regs
  unfold State.laneStream
  rw [same]

end

section
variable {s : State} {t : Nat} {l st : Fin 4} {w : LockLoss} {g : LockGain}

theorem lockGain_does (on : s.coreOn = true) (canon : s.Canonical) : ∃ n, exec (.intakeLaneLockGain t l g) s = .next n ∧
    (n.intake.lanes[l]).block = ((s.intake.lanes[l]).block || hdrsLock g.hdrs) ∧
    (n.intake.lanes[l]).marker = ((s.intake.lanes[l]).marker || amsLock g.ams || burstOf g.train == 3) ∧
    (n.intake.lanes[l]).deskew = ((s.intake.lanes[l]).deskew || g.aligned || burstOf g.train == 3) ∧
    (n.intake.lanes[l]).burst = burstOf g.train ∧ (n.intake.lanes[l]).eidle = false ∧
    (n.intake.lanes[l]).amlane = amsLane g.ams (s.intake.lanes[l]).amlane ∧
    (n.intake.lanes[l]).stale = ((s.intake.lanes[l]).stale && !(burstOf g.train == 1 || burstOf g.train == 2)) ∧
    (∀ k : Fin 4, k ≠ l → n.intake.lanes[k] = s.intake.lanes[k]) ∧ n.intake.streams = s.intake.streams ∧
    lget n.live (Reg.IN_BIPERR l) = satAdd (lget s.live (Reg.IN_BIPERR l))
      (g.ams.filter (fun x => RxMarker.ok x && fld x.blk 16 8 != x.parity.toNat)).length ∧
    LiveOnly [Reg.IN_BIPERR l] s n ∧ n.intake.drq = s.intake.drq ∧ Only [.now, .intake, .live] s n := by
  have e : exec (.intakeLaneLockGain t l g) s = .next ((s.stamp t).lane' l
      ((s.intake.lanes[l]).gain g (s.stamp t).now ((s.stamp t).intakeRate l)) g.ams) :=
    (onCore_on on : execIntakeLaneLockGain t l g s = _)
  generalize hy : (s.intake.lanes[l]).gain g (s.stamp t).now ((s.stamp t).intakeRate l) = y at e
  refine ⟨_, e, ?_⟩
  rw [State.lane'_intake]
  dsimp only
  rw [State.stamp_intake, Vector.getElem_set_fin_self, ← hy]
  exact ⟨rfl, rfl, rfl, rfl, rfl, rfl, rfl, fun k other => Vector.getElem_set_fin_ne other, rfl,
    State.report_counts canon.live rfl (bipNotes_onCount.trans (if_pos rfl)), State.lane'_live, rfl,
    .app State.lane'_parts rfl (.app State.stamp_only rfl .refl)⟩

theorem idleExpiry_stales (on : s.coreOn = true) : ∃ n, exec (.intakeIdleTimeExpiry t l) s = .next n ∧
    n.intake = { s.intake with lanes := s.intake.lanes.set l { s.intake.lanes[l] with stale := true } } ∧
    Only [.now, .intake] s n :=
  ⟨_, (onCore_on on : execIntakeIdleTimeExpiry t l s = _), rfl, .app Only.set_intake rfl
      (.app State.stamp_only rfl .refl)⟩

/-- A lane that is not locked, or stays so, loses what it loses and no more. -/
theorem lockLoss_quiet (on : s.coreOn = true) (quiet : (s.intake.lanes[l]).locked l.val = false ∨
    ((s.intake.lanes[l]).lose w).locked l.val = true) :
    ∃ n, exec (.intakeLaneLockLoss t l w) s = .next n ∧ n.intake.lanes[l] = (s.intake.lanes[l]).lose w ∧
      n.intake.streams = s.intake.streams ∧ LiveOnly [Reg.IN_BIPERR l] s n ∧ Only [.now, .intake, .live] s n := by
  have e : exec (.intakeLaneLockLoss t l w) s = .next ((s.stamp t).lane' l ((s.intake.lanes[l]).lose w) w.ams) := by
    refine (onCore_on on : execIntakeLaneLockLoss t l w s = _).trans (congrArg _ (if_pos ?_))
    rw [State.stamp_intake]
    rcases quiet with h | h
    · rw [h]
      rfl
    · rw [h, Bool.or_true]
  refine ⟨_, e, ?_, rfl, State.lane'_live, .app State.lane'_parts rfl (.app State.stamp_only rfl .refl)⟩
  rw [State.lane'_intake]
  exact Vector.getElem_set_fin_self

/-- The count of lock losses is none of those that follow one. -/
theorem lockLoss_apart : ∀ l st : Fin 4, Reg.IN_LOCKLOSS l ≠ Reg.IN_FAILFR st ∧ Reg.IN_LOCKLOSS l ≠ Reg.IN_BIPERR l := by
  decide

theorem IntakeLane.locked_iff {x : IntakeLane} {l : Nat} : x.locked l = true ↔
    x.block = true ∧ x.marker = true ∧ x.deskew = true ∧ x.amlane.toNat = l := by
  unfold IntakeLane.locked
  simp [and_assoc]

/-- The lane as it stands once its loss of lock has counted. -/
def State.unlocked (s : State) (t : Nat) (l : Fin 4) (w : LockLoss) : State :=
  ((s.stamp t).lane' l ((s.intake.lanes[l]).lose w) w.ams).report [.tally (Reg.IN_LOCKLOSS l) 1]

theorem State.unlocked_parts : Only [.now, .intake, .live] s (s.unlocked t l w) :=
  .app State.report_parts rfl (.app State.lane'_parts rfl (.app State.stamp_only rfl .refl))

theorem State.unlocked_count (canon : s.Canonical) :
    lget (s.unlocked t l w).live (Reg.IN_LOCKLOSS l) = satAdd (lget s.live (Reg.IN_LOCKLOSS l)) 1 ∧
      LiveOnly [Reg.IN_LOCKLOSS l, Reg.IN_BIPERR l] s (s.unlocked t l w) := by
  have bips : LiveOnly [Reg.IN_BIPERR l] s ((s.stamp t).lane' l ((s.intake.lanes[l]).lose w) w.ams) := State.lane'_live
  have wf : smWf (fun _ => (0 : Word)) ((s.stamp t).lane' l ((s.intake.lanes[l]).lose w) w.ams).live = true :=
    notes_live_wf canon.live
  refine ⟨?_, .app (State.report_liveOnly_of (fun _ h => h) rfl) (by simp [Note.counts]) (bips.mono (by simp))⟩
  refine (State.report_counts (l := [.tally (Reg.IN_LOCKLOSS l) 1]) wf rfl (if_pos rfl)).trans ?_
  rw [bips _ (by simpa using (lockLoss_apart l l).2)]

theorem lockLoss_loses (on : s.coreOn = true) (canon : s.Canonical) (locked : (s.intake.lanes[l]).locked l.val = true)
    (lost : lockLost w.hdrs w.dark = true ∨ 4 ≤ w.missed ∨ w.skewed = true) :
    ∃ n, exec (.intakeLaneLockLoss t l w) s = .next n ∧ (n.intake.lanes[l]).deskew = !w.skewed ∧
      (n.intake.lanes[l]).block = !lockLost w.hdrs w.dark ∧ (n.intake.lanes[l]).marker = decide (w.missed < 4) ∧
      (n.intake.lanes[l]).eidle = w.idle ∧ (∀ k : Fin 4, k ≠ l → n.intake.lanes[k] = s.intake.lanes[k]) ∧
      lget n.live (Reg.IN_LOCKLOSS l) = satAdd (lget s.live (Reg.IN_LOCKLOSS l)) 1 ∧
      (s.laneStream l = none → n.intake.streams = s.intake.streams ∧
        LiveOnly [Reg.IN_LOCKLOSS l, Reg.IN_BIPERR l] s n ∧ Only [.now, .intake, .live] s n) ∧
      (∀ st, s.laneStream l = some st → Src.IN_LOCK l ∈ n.flt.raised ∧
        ∀ nx f, (s.intake.streams[st]).frame nx = some f → f.isOpen = true →
          Src.IN_FAIL st ∈ n.flt.raised ∧ ∃ f', (n.intake.streams[st]).frame nx = some f' ∧ f'.failed = true ∧
            f'.fn = f.fn ∧ f'.held = []) := by
  obtain ⟨block, marker, deskew, -⟩ := IntakeLane.locked_iff.mp locked
  have own : ((s.intake.lanes[l]).lose w).deskew = !w.skewed ∧ ((s.intake.lanes[l]).lose w).block = !lockLost w.hdrs w.dark ∧
      ((s.intake.lanes[l]).lose w).marker = decide (w.missed < 4) ∧ ((s.intake.lanes[l]).lose w).eidle = w.idle := by
    unfold IntakeLane.lose
    dsimp only
    rw [block, marker, deskew]
    exact ⟨Bool.true_and _, Bool.true_and _, Bool.true_and _, rfl⟩
  have off : ((s.intake.lanes[l]).lose w).locked l.val = false := by
    obtain ⟨deskew', block', marker', -⟩ := own
    refine Bool.eq_false_iff.mpr (fun h => ?_)
    obtain ⟨b, m, d, -⟩ := IntakeLane.locked_iff.mp h
    rw [block'] at b
    rw [marker'] at m
    rw [deskew'] at d
    rcases lost with gone | many | skewed
    · rw [gone] at b
      cases b
    · exact absurd (of_decide_eq_true m) (by omega)
    · rw [skewed] at d
      cases d
  obtain ⟨count, counts⟩ := State.unlocked_count (t := t) (l := l) (w := w) canon
  have e : exec (.intakeLaneLockLoss t l w) s = .next (match s.laneStream l with
      | some st => ((s.unlocked t l w).report [.raise (Src.IN_LOCK l)]).failOpen st
      | none => s.unlocked t l w) := by
    refine (onCore_on on : execIntakeLaneLockLoss t l w s = _).trans (congrArg _ ((if_neg ?_).trans ?_))
    · rw [State.stamp_intake, locked, off]
      exact Bool.false_ne_true
    · have covers : (s.unlocked t l w).laneStream l = s.laneStream l :=
        State.laneStream_of (State.unlocked_parts .surf rfl) (State.unlocked_parts .regs rfl)
      rw [← covers]
      rfl
  have intake : (s.unlocked t l w).intake = { s.intake with
      lanes := s.intake.lanes.set l ((s.intake.lanes[l]).lose w) } := rfl
  have parts : Only [.now, .intake, .live] s (s.unlocked t l w) := State.unlocked_parts
  generalize s.unlocked t l w = v at e intake parts count counts
  have lanes : ∀ k : Fin 4, v.intake.lanes[k] = if k = l then (s.intake.lanes[l]).lose w else s.intake.lanes[k] := fun k => by
    rw [intake]
    split
    case isTrue same =>
      subst same
      exact Vector.getElem_set_fin_self
    case isFalse other => exact Vector.getElem_set_fin_ne other
  have others : ∀ k : Fin 4, k ≠ l → v.intake.lanes[k] = s.intake.lanes[k] := fun k other => (lanes k).trans (if_neg other)
  rcases hst : s.laneStream l with - | st <;> rw [hst] at e
  · refine ⟨v, e, ?_⟩
    rw [(lanes l).trans (if_pos rfl)]
    obtain ⟨d, b, m, i⟩ := own
    refine ⟨d, b, m, i, others, count, fun _ => ⟨?_, counts, parts⟩, fun st h => nomatch h⟩
    rw [intake]
  · have failed := State.failOpen_parts (s := v.report [.raise (Src.IN_LOCK l)]) (st := st)
    have laneSame : ((v.report [.raise (Src.IN_LOCK l)]).failOpen st).intake.lanes = v.intake.lanes := failed.2
    refine ⟨_, e, ?_⟩
    rw [laneSame, (lanes l).trans (if_pos rfl)]
    obtain ⟨d, b, m, i⟩ := own
    refine ⟨d, b, m, i, others, ?_, fun h => (nomatch h), fun st' h => ?_⟩
    · rw [State.failOpen_live _ (by simpa using (lockLoss_apart l st).1)]
      exact count
    · cases h
      refine ⟨failed.1 _ (List.mem_append_right _ (List.mem_singleton.mpr rfl)), fun nx f frame isOpen =>
        State.failOpen_fails (s := v.report [.raise (Src.IN_LOCK l)]) ?_ isOpen⟩
      rw [State.report_intake, intake]
      exact frame

/-! ### FRAME_START (06 R237–R239) -/

variable {blk : Block} {nx : Bool}

theorem frameStart_rests (on : s.coreOn = true) (rest : s.receives st = false ∨ fld blk 0 8 ≠ 0x30 ∨ Block.crcOk blk = false) :
    exec (.frameStart t st blk) s = .next (s.stamp t) := by
  refine (onCore_on on : execFrameStart t st blk s = _).trans (congrArg _ (State.when_false ?_))
  have same : (s.stamp t).receives st = s.receives st := rfl
  rw [same]
  rcases rest with h | h | h
  · rw [h]
    rfl
  · rw [beq_false_of_ne h, Bool.and_false, Bool.false_and]
  · rw [h, Bool.and_false]

/-- An FS as it is timestamped: what it drops no more. -/
def State.started (s : State) (st : Fin 4) (w : Word) : State :=
  (s.report [.word (Reg.IN_PHASE st) w]).setStream st { s.intake.streams[st] with drop := none }

theorem Stream.drop_frame {x : Stream} {d : Option (BitVec 8)} : ({ x with drop := d } : Stream).frame nx = x.frame nx := by
  cases nx <;> rfl

/-- An FS is bound to its period, or its frame dropped. -/
theorem State.frameStart_eq {fn : BitVec 8} {lines : Nat}
    (hn : nx = decide ((s.nextStart (s.inSet st).surf).1 ≤ s.now / tick * tick + (s.inSet st).adv)) : ∃ w,
    s.frameStart st fn lines =
      if (({ s.intake.streams[st] with drop := none } : Stream).frame nx).isSome then
        ((s.started st w).setStream st { s.intake.streams[st] with drop := some fn }).report
          [.tally (Reg.IN_DROPFR st) 1, .raise (Src.IN_DROP st)]
      else (s.started st w).openFrame st nx fn lines := by
  subst hn
  exact ⟨_, rfl⟩

theorem State.started_parts {w : Word} : Only [.regs, .intake] s (s.started st w) :=
  .app State.setStream_only rfl (.app State.report_parts rfl .refl)

theorem State.receives_en (h : s.receives st = true) : (s.inSet st).en = true := by
  unfold State.receives at h
  dsimp only at h
  rw [Bool.and_eq_true, Bool.and_eq_true] at h
  exact h.1.1

/-- The settings of an enabled stream are those of its surface's composition period. -/
theorem State.inSet_composed {n : State} (en : (s.inSet st).en = true) (surf : n.surf = s.surf) : n.inSet st = s.inSet st := by
  have composed : n.composed = s.composed := by
    unfold State.composed
    rw [surf]
  unfold State.inSet at en ⊢
  rw [composed]
  split
  · rfl
  case h_2 none_ =>
    rw [none_] at en
    cases en

theorem frameStart_eq (on : s.coreOn = true) (gets : s.receives st = true) (ty : fld blk 0 8 = 0x30)
    (crc : Block.crcOk blk = true) : exec (.frameStart t st blk) s =
      .next ((s.stamp t).frameStart st (BitVec.ofNat 8 (fld blk 8 8)) (fld blk 16 13)) := by
  refine (onCore_on on : execFrameStart t st blk s = _).trans (congrArg _ (State.when_true ?_))
  have same : (s.stamp t).receives st = s.receives st := rfl
  rw [same, gets, ty, crc]
  rfl

/-- The frame of an FS in a free period is open there, or has failed its height (06 R237, R239). -/
theorem State.openFrame_opens {fn : BitVec 8} {lines : Nat} {x : Stream} (hx : s.intake.streams[st] = x) :
    ∃ f, ((s.openFrame st nx fn lines).intake.streams[st]).frame nx = some f ∧ f.fn = fn ∧ f.lines = lines ∧
      f.failed = (!nx && decide (lines ≠ (s.inSet st).height)) ∧
      ((s.openFrame st nx fn lines).intake.streams[st]).frame (!nx) = x.frame (!nx) ∧
      (s.openFrame st nx fn lines).intake.drq = s.intake.drq := by
  have own : (s.setStream st (x.put nx { fn := fn, lines := lines })).intake.streams[st] =
      x.put nx { fn := fn, lines := lines } := Vector.getElem_set_fin_self
  have e : s.openFrame st nx fn lines = (s.setStream st (x.put nx { fn := fn, lines := lines })).when
      (!nx && lines != (s.inSet st).height) (State.failFrame st nx) := by
    rw [← hx]
    rfl
  rw [e]
  generalize hf : ({ fn := fn, lines := lines } : InFrame) = f at own
  have fields : f.fn = fn ∧ f.lines = lines ∧ f.failed = false ∧ f.isOpen = true := by
    rw [← hf]
    exact ⟨rfl, rfl, rfl, rfl⟩
  obtain ⟨is, size, ok, isOpen⟩ := fields
  have drq : (s.setStream st (x.put nx f)).intake.drq = s.intake.drq := rfl
  generalize s.setStream st (x.put nx f) = v at own drq ⊢
  have frame : (v.intake.streams[st]).frame nx = some f := by rw [own, Stream.put_frame]
  cases wrong : !nx && lines != (s.inSet st).height
  · rw [State.when_false rfl, own]
    refine ⟨f, Stream.put_frame, is, size, ?_, Stream.put_other, drq⟩
    rw [ok, ← wrong]
    simp [bne, beq_eq_decide]
  · rw [State.when_true rfl]
    obtain ⟨intake, -, -⟩ := State.failFrame_fails frame isOpen
    rw [intake]
    dsimp only
    rw [Vector.getElem_set_fin_self, own]
    refine ⟨f.fail, Stream.fail_frame, is, size, ?_, ?_, drq⟩
    · show true = _
      rw [← wrong]
      simp [bne, beq_eq_decide]
    · rw [Stream.fail_other, Stream.put_other]

theorem frameStart_opens (on : s.coreOn = true) (gets : s.receives st = true) (ty : fld blk 0 8 = 0x30)
    (crc : Block.crcOk blk = true)
    (hn : nx = decide ((s.nextStart (s.inSet st).surf).1 ≤ max s.now t / tick * tick + (s.inSet st).adv))
    (free : (s.intake.streams[st]).frame nx = none) : ∃ n f, exec (.frameStart t st blk) s = .next n ∧
      (n.intake.streams[st]).frame nx = some f ∧ f.fn = BitVec.ofNat 8 (fld blk 8 8) ∧ f.lines = fld blk 16 13 ∧
      f.failed = (!nx && decide (fld blk 16 13 ≠ (s.inSet st).height)) ∧
      (n.intake.streams[st]).frame (!nx) = (s.intake.streams[st]).frame (!nx) ∧ n.intake.drq = s.intake.drq := by
  obtain ⟨w, run⟩ := State.frameStart_eq (s := s.stamp t) (fn := BitVec.ofNat 8 (fld blk 8 8)) (lines := fld blk 16 13) hn
  have e := (frameStart_eq (t := t) on gets ty crc).trans (congrArg _ run)
  have settings : ((s.stamp t).started st w).inSet st = s.inSet st := State.inSet_composed (State.receives_en gets)
    (State.started_parts (s := s.stamp t) .surf rfl)
  rw [if_neg (by rw [Stream.drop_frame, State.stamp_intake, free]; exact Bool.false_ne_true)] at e
  have own : ((s.stamp t).started st w).intake.streams[st] = { s.intake.streams[st] with drop := none } :=
    Vector.getElem_set_fin_self
  obtain ⟨f, frame, fn, lines, failed, other, drq⟩ := State.openFrame_opens (nx := nx) (fn := BitVec.ofNat 8 (fld blk 8 8))
    (lines := fld blk 16 13) own
  rw [settings] at failed
  rw [Stream.drop_frame] at other
  exact ⟨_, f, e, frame, fn, lines, failed, other, drq⟩

theorem frameStart_drops (on : s.coreOn = true) (canon : s.Canonical) (gets : s.receives st = true) (ty : fld blk 0 8 = 0x30)
    (crc : Block.crcOk blk = true)
    (hn : nx = decide ((s.nextStart (s.inSet st).surf).1 ≤ max s.now t / tick * tick + (s.inSet st).adv))
    (taken : (s.intake.streams[st]).frame nx ≠ none) : ∃ n, exec (.frameStart t st blk) s = .next n ∧
      n.intake.streams = s.intake.streams.set st { s.intake.streams[st] with drop := some (BitVec.ofNat 8 (fld blk 8 8)) } ∧
      lget n.live (Reg.IN_DROPFR st) = satAdd (lget s.live (Reg.IN_DROPFR st)) 1 ∧ LiveOnly [Reg.IN_DROPFR st] s n ∧
      Raised [Src.IN_DROP st] s n ∧ RegsOnly [Reg.IN_PHASE st] s n ∧ Only [.now, .regs, .live, .intake, .flt] s n := by
  obtain ⟨w, run⟩ := State.frameStart_eq (s := s.stamp t) (fn := BitVec.ofNat 8 (fld blk 8 8)) (lines := fld blk 16 13) hn
  have e := (frameStart_eq (t := t) on gets ty crc).trans (congrArg _ run)
  rw [if_pos (by rw [Stream.drop_frame]; exact Option.isSome_iff_ne_none.mpr taken)] at e
  have words : RegsOnly [Reg.IN_PHASE st] s ((s.stamp t).started st w) := State.report_regsOnly_of (fun _ h => h) rfl
  refine ⟨_, e, ?_, State.report_counts canon.live rfl (if_pos rfl), State.report_liveOnly_of (fun _ h => h) rfl,
    State.report_raised (State.started_parts (s := s.stamp t) (st := st) (w := w) .flt rfl) rfl, words,
    .app State.report_parts rfl (.app State.setStream_only rfl (.app State.started_parts rfl
        (.app State.stamp_only rfl .refl)))⟩
  exact Vector.set_set ..

/-- Settles O46. -/
theorem intakeLanesAndFrameStart : Obligations.IntakeLanesAndFrameStart := by
  unfold Obligations.IntakeLanesAndFrameStart
  intro t s on canon
  exact ⟨fun l w => lockGain_does on canon, fun l => idleExpiry_stales on, fun l w quiet => lockLoss_quiet on quiet,
    fun l w locked lost => lockLoss_loses on canon locked lost, fun st blk nx gets ty crc hn =>
      ⟨frameStart_opens on gets ty crc hn, frameStart_drops on canon gets ty crc hn⟩,
    fun st blk rest => frameStart_rests on rest⟩

end
end Sys2Proof.Machine
end

section
/-! Line packets, FRAME_END and stray blocks. -/

namespace Sys2Proof.Machine

open Sys2Proof

/-! ### Lines that leave the buffer (06 R242) -/

/-- A frame some of whose lines have left the elastic buffer. -/
structure Thinned (f g : InFrame) : Prop where
  fn : g.fn = f.fn
  upto : g.upto = f.upto
  missing : g.missing = f.missing
  lastLine : g.lastLine = f.lastLine
  failed : g.failed = f.failed
  closed : g.closed = f.closed
  lines : ∀ y ∈ f.held ++ f.left, y ∈ g.held ++ g.left

theorem Thinned.refl {f : InFrame} : Thinned f f := ⟨rfl, rfl, rfl, rfl, rfl, rfl, fun _ h => h⟩

theorem Thinned.trans {f g k : InFrame} (h : Thinned g k) (e : Thinned f g) : Thinned f k :=
  ⟨h.fn.trans e.fn, h.upto.trans e.upto, h.missing.trans e.missing, h.lastLine.trans e.lastLine, h.failed.trans e.failed,
    h.closed.trans e.closed, fun y m => h.lines y (e.lines y m)⟩

theorem InFrame.release_thinned {f : InFrame} {need : List (Nat × Nat)} : Thinned f (f.release need) := by
  refine ⟨rfl, rfl, rfl, rfl, rfl, rfl, fun y h => ?_⟩
  unfold InFrame.release
  dsimp only
  simp only [List.mem_append, List.mem_filter] at h ⊢
  rcases h with held | left
  · cases need.any (fun r => decide (r.1 ≤ y.line) && decide (y.line ≤ r.2))
    · exact .inr (.inr ⟨held, rfl⟩)
    · exact .inl ⟨held, rfl⟩
  · exact .inr (.inl left)

/-- Streams whose running frames have been thinned. -/
structure Released (s n : State) : Prop where
  streams : ∀ q : Fin 4, n.intake.streams[q] = { s.intake.streams[q] with cur := (n.intake.streams[q]).cur }
  none_ : ∀ q : Fin 4, (s.intake.streams[q]).cur = none → (n.intake.streams[q]).cur = none
  frames : ∀ (q : Fin 4) f, (s.intake.streams[q]).cur = some f → ∃ g, (n.intake.streams[q]).cur = some g ∧ Thinned f g
  lanes : n.intake.lanes = s.intake.lanes
  drq : n.intake.drq = s.intake.drq
  parts : Only [.intake] s n

section
variable {s v n : State} {st q : Fin 4} {u : Fin 2}

theorem Released.refl : Released s s := ⟨fun _ => rfl, fun _ h => h, fun _ f h => ⟨f, h, .refl⟩, rfl, rfl, .refl⟩

theorem Released.trans (h : Released v n) (g : Released s v) : Released s n := by
  refine ⟨fun q => ?_, fun q e => h.none_ q (g.none_ q e), fun q f e => ?_, h.lanes.trans g.lanes, h.drq.trans g.drq,
    .app h.parts rfl g.parts⟩
  · rw [h.streams q, g.streams q]
  · obtain ⟨f', e', thin⟩ := g.frames q f e
    obtain ⟨f'', e'', thin'⟩ := h.frames q f' e'
    exact ⟨f'', e'', thin'.trans thin⟩

theorem Released.next (h : Released s n) : (n.intake.streams[q]).next = (s.intake.streams[q]).next := by
  rw [h.streams q]

theorem State.releaseLines_released : Released s (s.releaseLines u) := by
  unfold State.releaseLines
  refine List.foldlRecOn (motive := Released s) _ _ .refl (fun v h st _ => .trans ?_ h)
  dsimp only
  split
  · have own : (v.setStream st { v.intake.streams[st] with
        cur := (v.intake.streams[st]).cur.map (fun f => f.release (v.stillNeeds u st)) }).intake.streams[st] =
        { v.intake.streams[st] with cur := (v.intake.streams[st]).cur.map (fun f => f.release (v.stillNeeds u st)) } :=
      Vector.getElem_set_fin_self
    have other : ∀ q : Fin 4, q ≠ st → (v.setStream st { v.intake.streams[st] with
        cur := (v.intake.streams[st]).cur.map (fun f => f.release (v.stillNeeds u st)) }).intake.streams[q] =
        v.intake.streams[q] := fun q h => Vector.getElem_set_fin_ne h
    refine ⟨fun q => ?_, fun q none_ => ?_, fun q f some_ => ?_, rfl, rfl, State.setStream_only⟩
    all_goals by_cases e : q = st
    · subst e
      rw [own]
    · rw [other q e]
    · subst e
      rw [own]
      exact congrArg (Option.map _) none_
    · rw [other q e]
      exact none_
    · subst e
      rw [own]
      exact ⟨_, congrArg (Option.map _) some_, InFrame.release_thinned⟩
    · rw [other q e]
      exact ⟨f, some_, .refl⟩
  · exact .refl

end

/-! ### Line packets (06 R233, R239, R243) -/

section
variable {s n : State} {st q : Fin 4} {t : Nat} {h e : Block} {data : List Block} {nx : Bool} {f : InFrame} {fn : BitVec 8}
  {x : Stream} {y : InLine}

/-- The frame of an FN that has its place in one is open. -/
theorem Stream.place_open (place : x.place fn = .frame nx) (frame : x.frame nx = some f) : f.isOpen = true := by
  have openOf : ∀ {o : Option InFrame}, o.any
      (fun f => f.fn == fn && f.isOpen) = true → o = some f → f.isOpen = true := by
    rintro _ found rfl
    exact (Bool.and_eq_true_iff.mp found).2
  unfold Stream.place at place
  split at place
  case isTrue cur =>
    cases place
    exact openOf cur frame
  case isFalse =>
    split at place
    case isTrue next =>
      cases place
      exact openOf next frame
    case isFalse =>
      repeat' split at place
      all_goals cases place

theorem State.packetIn_eq (gets : s.receives st = true) : State.packetIn st (h :: data ++ [e]) s =
    (s.linePacket st h data e).releaseLines (s.inSet st).surf := by
  obtain ⟨d, r, hd⟩ : ∃ d r, data ++ [e] = d :: r := by
    cases data with
    | nil => exact ⟨e, [], rfl⟩
    | cons d r => exact ⟨d, r ++ [e], rfl⟩
  have last : (d :: r).dropLast = data ∧ (d :: r).getLast?.getD 0 = e := by
    rw [← hd]
    simp
  rw [List.cons_append, hd]
  unfold State.packetIn
  dsimp only
  rw [State.when_true gets, last.1, last.2]

theorem linePacket_eq (on : s.coreOn = true) (gets : s.receives st = true) (fresh : s.Fresh
    (.linePacket t st (h :: data ++ [e]))) :
    exec (.linePacket t st (h :: data ++ [e])) s =
      .next (((s.stamp t).linePacket st h data e).releaseLines ((s.stamp t).inSet st).surf) :=
  (onCore_on on : execLinePacket t st (h :: data ++ [e]) s = _).trans (congrArg _ ((State.once_fresh fresh).trans
    (State.packetIn_eq (s := s.stamp t) gets)))

/-- A whole packet that passes its CRCs goes to its frame (06 R233). -/
theorem State.linePacket_good (off : s.flt.inj.remain = 0) (ty : fld h 0 8 = 0x32) (crc : Block.crcOk h = true)
    (tail : fld e 0 8 = 0x33) (len : bitsPerPixel (fld h 28 4) ≠ 0 → data.length = lineBlocks (fld h 28 4) (fld h 32 13))
    (good : packetCrc (h :: data ++ [e]) = fld e 32 32) : s.linePacket st h data e = s.placeLine st h data := by
  have calm : s.useInj 9 = s := if_pos (State.injMode_off off)
  unfold State.linePacket
  dsimp only
  have header : ¬ (fld h 0 8 ≠ 0x32 ∨ Block.crcOk h = false) := by
    rw [ty, crc]
    decide
  have whole : ¬ (fld e 0 8 ≠ 0x33 ∨ (bitsPerPixel (fld h 28 4) ≠ 0 ∧
      data.length ≠ lineBlocks (fld h 28 4) (fld h 32 13))) := by
    rintro (ty' | ⟨known, other⟩)
    · exact ty' tail
    · exact other (len known)
  rw [if_neg header, if_neg whole, State.injMode_off off, good, beq_self_eq_true, calm]
  exact if_pos rfl

/-- A packet that fails a check is counted alone. -/
theorem State.linePacket_bad (bad : fld h 0 8 ≠ 0x32 ∨ Block.crcOk h = false ∨
    (fld e 0 8 = 0x33 ∧ bitsPerPixel (fld h 28 4) ≠ 0 ∧ data.length = lineBlocks (fld h 28 4) (fld h 32 13) ∧
      s.flt.inj.remain = 0 ∧ packetCrc (h :: data ++ [e]) ≠ fld e 32 32)) :
    s.linePacket st h data e = s.report [packetError st] := by
  by_cases header : fld h 0 8 ≠ 0x32 ∨ Block.crcOk h = false
  · exact if_pos header
  · obtain ⟨tail, -, len, off, crc⟩ := (or_assoc.mpr bad).resolve_left header
    have calm : s.useInj 9 = s := if_pos (State.injMode_off off)
    unfold State.linePacket
    dsimp only
    have whole : ¬ (fld e 0 8 ≠ 0x33 ∨ (bitsPerPixel (fld h 28 4) ≠ 0 ∧
        data.length ≠ lineBlocks (fld h 28 4) (fld h 32 13))) := by
      rintro (ty' | ⟨-, other⟩)
      · exact ty' tail
      · exact other len
    rw [if_neg header, if_neg whole, State.injMode_off off, beq_false_of_ne crc, calm]
    exact if_neg Bool.false_ne_true

theorem lineOf_fmt : (lineOf h data).fmt.toNat = fld h 28 4 :=
  (BitVec.toNat_ofNat ..).trans (Nat.mod_eq_of_lt fld_lt)

theorem State.setStream_twice {a b : Stream} : (s.setStream st a).setStream st b = s.setStream st b := by
  unfold State.setStream
  dsimp only
  rw [Vector.set_set]

/-- A frame put in place with nothing newly missing. -/
theorem State.settleFrame_quiet (ok : f.missing = []) (more : f.ended = false) :
    s.settleFrame st f [] = s.setStream st ((s.intake.streams[st]).put false f) := by
  have told : (s.setStream st ((s.intake.streams[st]).put false f)).report (missNotes st []) =
      s.setStream st ((s.intake.streams[st]).put false f) := State.report_nil
  unfold State.settleFrame
  dsimp only
  rw [show f.lose [] = f from rfl, told, ok, more]
  exact (if_neg (Nat.not_lt_zero _)).trans (if_neg Bool.false_ne_true)

/-- A frame closes with its FE when nothing of it is missing (06 R246). -/
theorem State.settleFrame_closes (ok : f.missing = []) (ended : f.ended = true) (isOpen : f.isOpen = true) :
    s.settleFrame st f [] = (s.setStream st { (s.intake.streams[st]).put false { f with closed := true } with
      lastFn := f.fn, lastOk := true, missRun := 0, lost := false }).report [.tally (Reg.IN_FRAMES st) 1] := by
  have told : (s.setStream st ((s.intake.streams[st]).put false f)).report (missNotes st []) =
      s.setStream st ((s.intake.streams[st]).put false f) := State.report_nil
  unfold State.settleFrame
  dsimp only
  rw [show f.lose [] = f from rfl, told, ok, ended, isOpen]
  refine (if_neg (Nat.not_lt_zero _)).trans ((if_pos rfl).trans ?_)
  rw [State.setStream_twice]

/-- The lines newly missing are told. -/
theorem missNotes_src {ys : List Nat} (some_ : ys ≠ []) : Src.IN_LINEFIX st ∈ (missNotes st ys).filterMap Note.src := by
  obtain ⟨y, mem⟩ := List.exists_mem_of_ne_nil ys some_
  exact List.mem_filterMap.mpr ⟨.raise (Src.IN_LINEFIX st), List.mem_flatMap.mpr ⟨y, mem, by simp⟩, rfl⟩

theorem InFrame.lose_missing {ys : List Nat} (once : ys.Nodup) : ys.length ≤ (f.lose ys).missing.length := by
  have within : ∀ (ys m : List Nat), ∀ a, a ∈ ys ∨ a ∈ m → a ∈ ys.foldl (fun m y => insertNat y m) m := by
    intro ys
    induction ys with
    | nil => exact fun m a h => h.resolve_left (by simp)
    | cons y r ih =>
      intro m a h
      refine ih _ a ?_
      rw [mem_insertNat_iff]
      rcases h with h | h
      · rcases List.mem_cons.mp h with rfl | h
        · exact .inr (.inl rfl)
        · exact .inl h
      · exact .inr (.inr h)
  exact (once.subperm (fun a h => within ys f.missing a (.inl h))).length_le

/-- More than LFIX_MAX missing lines fail the frame (06 R245). -/
theorem State.settleFrame_fails {ys : List Nat} (en : (s.inSet st).en = true) (isOpen : f.isOpen = true)
    (many : (s.inSet st).lfixMax < (f.lose ys).missing.length) (some_ : ys ≠ []) :
    (s.settleFrame st f ys).intake = { s.intake with
      streams := s.intake.streams.set st (((s.intake.streams[st]).put false (f.lose ys)).fail false (f.lose ys)) } ∧
      Src.IN_FAIL st ∈ (s.settleFrame st f ys).flt.raised ∧ Src.IN_LINEFIX st ∈ (s.settleFrame st f ys).flt.raised ∧
      ((s.settleFrame st f ys).comp[(s.inSet st).surf]).composing = false := by
  have parts : Only [.intake, .live, .flt] s ((s.setStream st ((s.intake.streams[st]).put false (f.lose ys))).report
      (missNotes st ys)) := .app (State.report_parts.mono missNotes_parts : Only [.live, .flt] _ _) rfl
        (.app State.setStream_only rfl .refl)
  have e : s.settleFrame st f ys = ((s.setStream st ((s.intake.streams[st]).put false (f.lose ys))).report
      (missNotes st ys)).failFrame st false := if_pos (by
    rw [State.inSet_composed en (parts .surf rfl)]
    exact many)
  have intake : ((s.setStream st ((s.intake.streams[st]).put false (f.lose ys))).report (missNotes st ys)).intake =
      { s.intake with streams := s.intake.streams.set st ((s.intake.streams[st]).put false (f.lose ys)) } := rfl
  have told : Src.IN_LINEFIX st ∈ ((s.setStream st ((s.intake.streams[st]).put false (f.lose ys))).report
      (missNotes st ys)).flt.raised := List.mem_append_right _ (missNotes_src some_)
  have settings := State.inSet_composed en (parts .surf rfl)
  have lost : (f.lose ys).isOpen = true := isOpen
  rw [e]
  generalize (s.setStream st ((s.intake.streams[st]).put false (f.lose ys))).report (missNotes st ys) = v at *
  have own : v.intake.streams[st] = (s.intake.streams[st]).put false (f.lose ys) := by
    rw [intake]
    exact Vector.getElem_set_fin_self
  obtain ⟨after, raised, stops⟩ := State.failFrame_fails (by rw [own]; exact Stream.put_frame) lost
  have stop := stops rfl
  simp only [settings] at stop
  rw [after, raised, own, intake]
  refine ⟨?_, List.mem_append_right _ (List.mem_singleton.mpr rfl), List.mem_append_left _ told, stop⟩
  dsimp only
  rw [Vector.set_set]

/-- A line that the running frame's checks refuse fails it (06 R239). -/
theorem State.takeLine_fails {full : Bool} (bad : y.fmt.toNat ≠ (s.inSet st).fmt ∨ y.width ≠ (s.inSet st).width) :
    s.takeLine st f y full = s.failFrame st false := by
  refine if_pos ?_
  rcases bad with h | h
  · rw [bne_iff_ne.mpr h, Bool.true_or]
  · rw [bne_iff_ne.mpr h, Bool.or_true]

/-- The next line of the running frame enters its buffer (06 R240). -/
theorem State.takeLine_next (fmt : y.fmt.toNat = (s.inSet st).fmt) (width : y.width = (s.inSet st).width) (ok : f.missing = [])
    (more : f.ended = false) (at_ : y.line = f.upto) (below : f.upto < f.lines) : s.takeLine st f y false =
      s.setStream st ((s.intake.streams[st]).put false { f with
        held := f.held ++ [y], upto := f.upto + 1, lastLine := some f.upto }) := by
  have gap : f.gap f.upto = [] := by
    unfold InFrame.gap
    rw [Nat.sub_self]
    rfl
  unfold State.takeLine
  dsimp only
  rw [fmt, width, at_, gap, bne_self_eq_false, bne_self_eq_false]
  refine (if_neg Bool.false_ne_true).trans ((if_neg ?_).trans ((if_neg Bool.false_ne_true).trans ?_))
  · rintro (h | h | h)
    · omega
    · omega
    · rw [ok] at h
      cases h
  · exact State.settleFrame_quiet (f := { f with held := f.held ++ [y], upto := f.upto + 1, lastLine := some f.upto }) ok more

/-- What waits for its checks in a frame of the next period. -/
theorem State.early_waits {z : EarlyItem} (frame : (s.intake.streams[st]).next = some f) (isOpen : f.isOpen = true) :
    s.early st z = s.setStream st { s.intake.streams[st] with next := some { f with early := f.early ++ [z] } } := by
  unfold State.early
  dsimp only
  rw [frame]
  exact if_pos isOpen

section
variable (on : s.coreOn = true) (gets : s.receives st = true) (fresh : s.Fresh (.linePacket t st (h :: data ++ [e])))
  (off : s.flt.inj.remain = 0) (ty : fld h 0 8 = 0x32) (crc : Block.crcOk h = true) (tail : fld e 0 8 = 0x33)
  (len : bitsPerPixel (fld h 28 4) ≠ 0 → data.length = lineBlocks (fld h 28 4) (fld h 32 13))
  (good : packetCrc (h :: data ++ [e]) = fld e 32 32)
include on gets fresh off ty crc tail len good

theorem linePacket_places : exec (.linePacket t st (h :: data ++ [e])) s =
    .next (((s.stamp t).placeLine st h data).releaseLines (s.inSet st).surf) := by
  refine (linePacket_eq on gets fresh).trans ?_
  rw [State.linePacket_good (s := s.stamp t) off ty crc tail len good]
  rfl

variable (room : (s.intake.streams[st]).occupied < (s.inSet st).elb)

include room in
theorem linePacket_takes (place : (s.intake.streams[st]).place (BitVec.ofNat 8 (fld h 8 8)) = .frame false)
    (frame : (s.intake.streams[st]).cur = some f) (fmt : fld h 28 4 = (s.inSet st).fmt)
    (width : fld h 32 13 = (s.inSet st).width) (ok : f.missing = []) (more : f.ended = false)
    (at_ : fld h 16 12 = f.upto) (below : f.upto < f.lines) :
    ∃ n f', exec (.linePacket t st (h :: data ++ [e])) s = .next n ∧ (n.intake.streams[st]).cur = some f' ∧
      f'.upto = f.upto + 1 ∧ f'.lastLine = some f.upto ∧ f'.missing = [] ∧ f'.failed = f.failed ∧
      (∀ x ∈ f.held ++ f.left ++ [lineOf h data], x ∈ f'.held ++ f'.left) ∧
      (n.intake.streams[st]).next = (s.intake.streams[st]).next ∧
      n.intake.lanes = s.intake.lanes ∧ n.intake.drq = s.intake.drq ∧ Only [.now, .intake] s n := by
  have put : (s.stamp t).placeLine st h data = (s.stamp t).setStream st ((s.intake.streams[st]).put false { f with
      held := f.held ++ [lineOf h data], upto := f.upto + 1, lastLine := some f.upto }) := by
    unfold State.placeLine
    dsimp only
    rw [State.stamp_intake, place]
    dsimp only
    rw [frame]
    have free : decide (((s.stamp t).inSet st).elb ≤ (s.intake.streams[st]).occupied) = false :=
      decide_eq_false (Nat.not_le.mpr room)
    rw [free]
    exact State.takeLine_next (s := s.stamp t) (lineOf_fmt.trans fmt) width ok more at_ below
  have run := linePacket_places on gets fresh off ty crc tail len good
  rw [put] at run
  generalize hg : ({ f with held := f.held ++ [lineOf h data], upto := f.upto + 1, lastLine := some f.upto } : InFrame) = g at run
  have fields : g.upto = f.upto + 1 ∧ g.lastLine = some f.upto ∧ g.missing = [] ∧ g.failed = f.failed ∧
      g.held = f.held ++ [lineOf h data] ∧ g.left = f.left := by
    rw [← hg, ← ok]
    exact ⟨rfl, rfl, rfl, rfl, rfl, rfl⟩
  obtain ⟨upto, last, missing, failed, held, left⟩ := fields
  have own : ((s.stamp t).setStream st ((s.intake.streams[st]).put false g)).intake.streams[st] =
      (s.intake.streams[st]).put false g := Vector.getElem_set_fin_self
  have freed : Released ((s.stamp t).setStream st ((s.intake.streams[st]).put false g)) _ :=
    State.releaseLines_released (u := (s.inSet st).surf)
  obtain ⟨f', cur, thin⟩ := freed.frames st g (by rw [own]; rfl)
  refine ⟨_, f', run, cur, thin.upto.trans upto, thin.lastLine.trans last, thin.missing.trans missing, thin.failed.trans failed,
    fun x hx => thin.lines x ?_, freed.next.trans (by rw [own]; rfl), freed.lanes, freed.drq,
    .app freed.parts rfl (.app State.setStream_only rfl (.app State.stamp_only rfl .refl))⟩
  rw [held, left]
  simp only [List.mem_append, List.mem_singleton] at hx ⊢
  tauto

theorem linePacket_fails (place : (s.intake.streams[st]).place (BitVec.ofNat 8 (fld h 8 8)) = .frame false)
    (frame : (s.intake.streams[st]).cur = some f)
    (bad : fld h 28 4 ≠ (s.inSet st).fmt ∨ fld h 32 13 ≠ (s.inSet st).width) :
    ∃ n f', exec (.linePacket t st (h :: data ++ [e])) s = .next n ∧ (n.intake.streams[st]).cur = some f' ∧
      f'.failed = true ∧ Src.IN_FAIL st ∈ n.flt.raised ∧ (n.comp[(s.inSet st).surf]).composing = false := by
  have put : (s.stamp t).placeLine st h data = (s.stamp t).failFrame st false := by
    unfold State.placeLine
    dsimp only
    rw [State.stamp_intake, place]
    dsimp only
    rw [frame]
    exact State.takeLine_fails (s := s.stamp t) (bad.imp (fun h => by rw [lineOf_fmt]; exact h) id)
  have run := linePacket_places on gets fresh off ty crc tail len good
  rw [put] at run
  have isOpen := Stream.place_open place (nx := false) frame
  obtain ⟨intake, raised, stops⟩ := State.failFrame_fails (s := s.stamp t) (nx := false) frame isOpen
  have own : ((s.stamp t).failFrame st false).intake.streams[st] = (s.intake.streams[st]).fail false f := by
    rw [intake]
    exact Vector.getElem_set_fin_self
  have freed : Released ((s.stamp t).failFrame st false) _ := State.releaseLines_released (u := (s.inSet st).surf)
  obtain ⟨f', cur, thin⟩ := freed.frames st f.fail (by rw [own]; rfl)
  refine ⟨_, f', run, cur, thin.failed, ?_, ?_⟩
  · rw [freed.parts .flt rfl, raised]
    exact List.mem_append_right _ (List.mem_singleton.mpr rfl)
  · rw [freed.parts .comp rfl]
    exact stops rfl

include room in
theorem linePacket_waits (place : (s.intake.streams[st]).place (BitVec.ofNat 8 (fld h 8 8)) = .frame true)
    (frame : (s.intake.streams[st]).next = some f) :
    ∃ n, exec (.linePacket t st (h :: data ++ [e])) s = .next n ∧ (n.intake.streams[st]).next =
        some { f with early := f.early ++ [.line (BitVec.ofNat 8 (fld h 8 8)) (lineOf h data)] } ∧
      n.intake.lanes = s.intake.lanes ∧ n.intake.drq = s.intake.drq ∧ Only [.now, .intake] s n := by
  have put : (s.stamp t).placeLine st h data = (s.stamp t).setStream st { s.intake.streams[st] with
      next := some { f with early := f.early ++ [.line (BitVec.ofNat 8 (fld h 8 8)) (lineOf h data)] } } := by
    unfold State.placeLine
    dsimp only
    rw [State.stamp_intake, place]
    have free : decide (((s.stamp t).inSet st).elb ≤ (s.intake.streams[st]).occupied) = false :=
      decide_eq_false (Nat.not_le.mpr room)
    rw [free]
    exact (if_neg Bool.false_ne_true).trans (State.early_waits (s := s.stamp t) frame (Stream.place_open place (nx := true) frame))
  have run := linePacket_places on gets fresh off ty crc tail len good
  rw [put] at run
  have freed := State.releaseLines_released (s := (s.stamp t).setStream st { s.intake.streams[st] with
    next := some { f with early := f.early ++ [.line (BitVec.ofNat 8 (fld h 8 8)) (lineOf h data)] } }) (u := (s.inSet st).surf)
  refine ⟨_, run, freed.next.trans ?_, freed.lanes, freed.drq,
    .app freed.parts rfl (.app State.setStream_only rfl (.app State.stamp_only rfl .refl))⟩
  exact congrArg Stream.next Vector.getElem_set_fin_self

end

theorem linePacket_counts (on : s.coreOn = true) (canon : s.Canonical) (gets : s.receives st = true)
    (fresh : s.Fresh (.linePacket t st (h :: data ++ [e]))) (bad : fld h 0 8 ≠ 0x32 ∨ Block.crcOk h = false ∨
      (fld e 0 8 = 0x33 ∧ bitsPerPixel (fld h 28 4) ≠ 0 ∧ data.length = lineBlocks (fld h 28 4) (fld h 32 13) ∧
        s.flt.inj.remain = 0 ∧ packetCrc (h :: data ++ [e]) ≠ fld e 32 32)) :
    ∃ n, exec (.linePacket t st (h :: data ++ [e])) s = .next n ∧
      lget n.live (Reg.IN_PKTERR st) = satAdd (lget s.live (Reg.IN_PKTERR st)) 1 ∧ LiveOnly [Reg.IN_PKTERR st] s n ∧
      (∀ q : Fin 4, (n.intake.streams[q]).next = (s.intake.streams[q]).next ∧
        ((n.intake.streams[q]).cur.map (fun f => (f.fn, f.upto, f.missing, f.failed, f.closed))) =
          ((s.intake.streams[q]).cur.map (fun f => (f.fn, f.upto, f.missing, f.failed, f.closed)))) ∧
      n.intake.lanes = s.intake.lanes ∧ n.intake.drq = s.intake.drq ∧ Only [.now, .intake, .live] s n := by
  have run := linePacket_eq on gets fresh
  rw [State.linePacket_bad (s := s.stamp t) bad] at run
  have freed := State.releaseLines_released (s := (s.stamp t).report [packetError st]) (u := ((s.stamp t).inSet st).surf)
  have live := freed.parts .live rfl
  refine ⟨_, run, ?_, fun a ha => ?_, fun q => ⟨freed.next, ?_⟩, freed.lanes, freed.drq,
    .app freed.parts rfl (.app State.report_parts rfl (.app State.stamp_only rfl .refl))⟩
  · rw [live]
    exact State.report_counts (s := s) canon.live rfl (if_pos rfl)
  · rw [live]
    exact State.report_liveOnly_of (s := s) (fun _ h => h) rfl a ha
  · rcases hc : (s.intake.streams[q]).cur with - | f
    · rw [freed.none_ q hc]
    · obtain ⟨f', cur, thin⟩ := freed.frames q f hc
      rw [cur]
      exact congrArg some (by dsimp only; rw [thin.fn, thin.upto, thin.missing, thin.failed, thin.closed])

/-! ### FRAME_END and stray blocks (06 R233, R243, R246) -/

variable {blk : Block}

theorem frameEnd_eq (on : s.coreOn = true) (gets : s.receives st = true) (ty : fld blk 0 8 = 0x31)
    (crc : Block.crcOk blk = true) :
    exec (.frameEnd t st blk) s = .next ((s.stamp t).frameEnd st (BitVec.ofNat 8 (fld blk 8 8))) := by
  refine (onCore_on on : execFrameEnd t st blk s = _).trans (congrArg _ (State.when_true ?_))
  have same : (s.stamp t).receives st = s.receives st := rfl
  rw [same, gets, ty, crc]
  rfl

/-- An FE of the running frame settles it with every line that has not come missing. -/
theorem State.frameEnd_settles (place : (s.intake.streams[st]).place fn = .frame false)
    (frame : (s.intake.streams[st]).cur = some f) :
    s.frameEnd st fn = s.settleFrame st { f with ended := true, upto := f.lines } (f.gap f.lines) := by
  unfold State.frameEnd
  dsimp only
  rw [place]
  dsimp only
  rw [frame]

theorem InFrame.gap_none (ok : f.missing = []) {hi : Nat} :
    f.gap hi = (List.range (hi - f.upto)).map (· + f.upto) := by
  unfold InFrame.gap
  rw [ok]
  exact List.filter_eq_self.mpr (fun _ _ => rfl)

theorem frameEnd_closes (on : s.coreOn = true) (canon : s.Canonical) (gets : s.receives st = true) (ty : fld blk 0 8 = 0x31)
    (crc : Block.crcOk blk = true) (place : (s.intake.streams[st]).place (BitVec.ofNat 8 (fld blk 8 8)) = .frame false)
    (frame : (s.intake.streams[st]).cur = some f) (ok : f.missing = []) (whole : f.upto = f.lines) :
    ∃ n f', exec (.frameEnd t st blk) s = .next n ∧
      (n.intake.streams[st]).cur = some f' ∧ f'.closed = true ∧ f'.ended = true ∧ f'.failed = false ∧ f'.held = f.held ∧
      (n.intake.streams[st]).missRun = 0 ∧ (n.intake.streams[st]).lastFn = f.fn ∧
      lget n.live (Reg.IN_FRAMES st) = satAdd (lget s.live (Reg.IN_FRAMES st)) 1 ∧
      (∀ q : Fin 4, q ≠ st → n.intake.streams[q] = s.intake.streams[q]) ∧ n.intake.lanes = s.intake.lanes ∧
      Only [.now, .intake, .live] s n := by
  have isOpen := Stream.place_open place (nx := false) frame
  have run := (frameEnd_eq (t := t) on gets ty crc).trans (congrArg _ (State.frameEnd_settles (s := s.stamp t) place frame))
  have gap : f.gap f.lines = [] := by
    rw [InFrame.gap_none ok, whole, Nat.sub_self]
    rfl
  rw [gap] at run
  generalize hg : ({ f with ended := true, upto := f.lines } : InFrame) = g at run
  have fields : g.missing = [] ∧ g.ended = true ∧ g.isOpen = true ∧ g.held = f.held ∧ g.fn = f.fn := by
    rw [← hg]
    exact ⟨ok, rfl, isOpen, rfl, rfl⟩
  obtain ⟨missing, ended, still, held, own⟩ := fields
  have unfailed : g.failed = false := by
    unfold InFrame.isOpen at still
    simpa using (Bool.and_eq_true_iff.mp still).2
  rw [State.settleFrame_closes missing ended still] at run
  generalize hx : ({ ((s.stamp t).intake.streams[st]).put false { g with closed := true } with
    lastFn := g.fn, lastOk := true, missRun := 0, lost := false } : Stream) = x at run
  have stream : x.cur = some { g with closed := true } ∧ x.missRun = 0 ∧ x.lastFn = f.fn := by
    rw [← hx, ← own]
    exact ⟨rfl, rfl, rfl⟩
  obtain ⟨cur, zero, last⟩ := stream
  have at_ : (((s.stamp t).setStream st x).report [.tally (Reg.IN_FRAMES st) 1]).intake.streams[st] = x :=
    Vector.getElem_set_fin_self
  refine ⟨_, _, run, (congrArg Stream.cur at_).trans cur, rfl, ended, unfailed, held, (congrArg Stream.missRun at_).trans zero,
    (congrArg Stream.lastFn at_).trans last, State.report_counts canon.live rfl (if_pos rfl),
    fun q other => Vector.getElem_set_fin_ne other, rfl,
    .app State.report_parts rfl (.app State.setStream_only rfl (.app State.stamp_only rfl .refl))⟩

theorem frameEnd_fails (on : s.coreOn = true) (gets : s.receives st = true) (ty : fld blk 0 8 = 0x31)
    (crc : Block.crcOk blk = true) (place : (s.intake.streams[st]).place (BitVec.ofNat 8 (fld blk 8 8)) = .frame false)
    (frame : (s.intake.streams[st]).cur = some f) (ok : f.missing = []) (many : (s.inSet st).lfixMax < f.lines - f.upto) :
    ∃ n f', exec (.frameEnd t st blk) s = .next n ∧
      (n.intake.streams[st]).cur = some f' ∧ f'.failed = true ∧ Src.IN_FAIL st ∈ n.flt.raised ∧
      Src.IN_LINEFIX st ∈ n.flt.raised ∧ (∀ q : Fin 4, q ≠ st → n.intake.streams[q] = s.intake.streams[q]) ∧
      (n.comp[(s.inSet st).surf]).composing = false := by
  have isOpen := Stream.place_open place (nx := false) frame
  have run := (frameEnd_eq (t := t) on gets ty crc).trans (congrArg _ (State.frameEnd_settles (s := s.stamp t) place frame))
  have gap := InFrame.gap_none (hi := f.lines) ok
  have size : (f.gap f.lines).length = f.lines - f.upto := by
    rw [gap, List.length_map, List.length_range]
  have once : (f.gap f.lines).Nodup := by
    rw [gap]
    exact List.nodup_range.map (fun a b h => Nat.add_right_cancel h)
  have some_ : f.gap f.lines ≠ [] := List.ne_nil_of_length_pos (by omega)
  generalize hg : ({ f with ended := true, upto := f.lines } : InFrame) = g at run
  have still : g.isOpen = true := by
    rw [← hg]
    exact isOpen
  have lost := InFrame.lose_missing (f := g) once
  obtain ⟨intake, fails, told, stops⟩ := State.settleFrame_fails (s := s.stamp t) (State.receives_en gets) still
    (ys := f.gap f.lines) (show (s.inSet st).lfixMax < _ by omega) some_
  generalize (s.stamp t).settleFrame st g (f.gap f.lines) = n at run intake fails told stops
  have own : n.intake.streams[st] = ((s.intake.streams[st]).put false (g.lose (f.gap f.lines))).fail false
      (g.lose (f.gap f.lines)) := by
    rw [intake]
    exact Vector.getElem_set_fin_self
  refine ⟨n, (g.lose (f.gap f.lines)).fail, run, (congrArg Stream.cur own).trans rfl, rfl, fails, told, fun q other => ?_, stops⟩
  rw [intake]
  exact Vector.getElem_set_fin_ne other

theorem frameEnd_waits (on : s.coreOn = true) (gets : s.receives st = true) (ty : fld blk 0 8 = 0x31)
    (crc : Block.crcOk blk = true) (place : (s.intake.streams[st]).place (BitVec.ofNat 8 (fld blk 8 8)) = .frame true)
    (frame : (s.intake.streams[st]).next = some f) : ∃ n, exec (.frameEnd t st blk) s = .next n ∧
      n.intake.streams = s.intake.streams.set st { s.intake.streams[st] with next := some { f with early := f.early ++ [.fe] } } ∧
      n.intake.lanes = s.intake.lanes ∧ n.intake.drq = s.intake.drq ∧ Only [.now, .intake] s n := by
  have waits : (s.stamp t).frameEnd st (BitVec.ofNat 8 (fld blk 8 8)) = (s.stamp t).setStream st { s.intake.streams[st] with
      next := some { f with early := f.early ++ [.fe] } } := by
    unfold State.frameEnd
    dsimp only
    rw [State.stamp_intake, place]
    exact State.early_waits (s := s.stamp t) frame (Stream.place_open place (nx := true) frame)
  exact ⟨_, (frameEnd_eq on gets ty crc).trans (congrArg _ waits), rfl, rfl, rfl,
    .app State.setStream_only rfl (.app State.stamp_only rfl .refl)⟩

theorem plyBlockError_counts (on : s.coreOn = true) (canon : s.Canonical) (gets : s.receives st = true) {z : PlyError}
    (stray : z = .strayType ∨ z = .strayData ∨ z = .inSide false) : ∃ n, exec (.plyBlockError t st z) s = .next n ∧
      lget n.live (Reg.IN_PKTERR st) = satAdd (lget s.live (Reg.IN_PKTERR st)) 1 ∧ LiveOnly [Reg.IN_PKTERR st] s n ∧
      Only [.now, .live] s n := by
  have counts : (s.stamp t).plyError st z = (s.stamp t).report [packetError st] := by
    rcases stray with rfl | rfl | rfl <;> rfl
  exact ⟨_, (onCore_on on : execPlyBlockError t st z s = _).trans (congrArg _ ((State.when_true (s := s.stamp t) gets).trans counts)),
    State.report_counts canon.live rfl (if_pos rfl), State.report_liveOnly_of (fun _ h => h) rfl,
    .app State.report_parts rfl (.app State.stamp_only rfl .refl)⟩

/-- Settles O47: the place of an FN names an open frame, and what leaves the buffer takes nothing from its checks. -/
theorem intakeLinesAndFrameEnd : Obligations.IntakeLinesAndFrameEnd := by
  unfold Obligations.IntakeLinesAndFrameEnd
  intro t st s on canon gets
  refine ⟨fun h e data nx f fresh off ty crc _ tail len good place frame => ⟨?_, ?_, ?_⟩,
    fun h e data fresh bad => linePacket_counts on canon gets fresh bad,
    fun blk nx f ty crc place frame => ⟨?_, ?_, ?_⟩, fun z stray => plyBlockError_counts on canon gets stray⟩
  · rintro rfl fmt width ok more at_ below room
    exact linePacket_takes on gets fresh off ty crc tail len good room place frame fmt width ok more at_ below
  · rintro rfl bad
    exact linePacket_fails on gets fresh off ty crc tail len good place frame bad
  · rintro rfl room
    exact linePacket_waits on gets fresh off ty crc tail len good room place frame
  · rintro rfl ok whole
    exact frameEnd_closes on canon gets ty crc place frame ok whole
  · rintro rfl ok many
    exact frameEnd_fails on gets ty crc place frame ok many
  · rintro rfl
    exact frameEnd_waits on gets ty crc place frame

end
end Sys2Proof.Machine
end

section
/-! Side packets. -/

namespace Sys2Proof.Machine

open Sys2Proof

section
variable {s m n : State} {st q : Fin 4} {ch : Fin 8} {t : Nat} {h e : Block} {data : List Block} {y : SideSlot}
  {r : List SideSlot}

/-! ### Apertures (06 R251) -/

theorem State.takeAperture_parts : Only [.intake, .dma, .out] s (s.takeAperture ch q) :=
  .app State.freeSide_only rfl (.app State.report_parts rfl (.app State.chanBuf_only rfl .refl))

/-- The slots that reads of the sample free. -/
theorem State.freesFirst_parts : Only [.now, .intake, .dma, .out] s (s.freesFirst st) := by
  unfold State.freesFirst
  refine Only.takeFirst rfl (fun c => ?_) .refl
  split
  · exact .ite (.some (fun _ h => .app State.takeAperture_parts rfl h)) .none
  · exact .none

/-- With one read of an aperture in the sample, the slot at its head is freed where it is the stream's. -/
theorem State.freesFirst_frees (ahead : (s.stamp t).sample.ahead = []) (queue : s.pending = [.sidePacketApertureRead t ch q])
    (head : s.intake.drq[q] = y :: r) : ((s.stamp t).freesFirst st).intake =
      { s.intake with drq := s.intake.drq.set q (if y.stream = st then r else y :: r) } := by
  have at_ : ((s.stamp t).sample.on ((s.stamp t).now / tick)).ahead = [] := by
    unfold Sample.on
    split
    · exact ahead
    · rfl
  have due : ((s.stamp t).pending.filter (s.stamp t).inSample) = [.sidePacketApertureRead t ch q] := by
    rw [State.stamp_pending, queue]
    refine List.filter_eq_self.mpr (fun c hc => ?_)
    rw [List.mem_singleton.mp hc]
    exact decide_eq_true (Nat.div_le_div_right (Nat.le_max_right ..))
  unfold State.freesFirst State.takeFirst
  have none_ : untaken [] [Instr.sidePacketApertureRead t ch q] = [.sidePacketApertureRead t ch q] := rfl
  rw [at_, due, none_]
  by_cases own : y.stream = st
  · have taken : ((s.intake.drq[q]).head?.any (fun y => y.stream == st)) = true := by
      rw [head]
      exact beq_iff_eq.mpr own
    rw [if_pos own]
    rw [List.foldl_cons, List.foldl_nil]
    dsimp only
    rw [State.stamp_intake, if_pos taken]
    show { s.intake with drq := s.intake.drq.set q (s.intake.drq[q]).tail } = _
    rw [head]
    rfl
  · have kept : ((s.intake.drq[q]).head?.any (fun y => y.stream == st)) = false := by
      rw [head]
      exact beq_false_of_ne own
    rw [if_neg own, ← head, vector_set_get]
    rw [List.foldl_cons, List.foldl_nil]
    dsimp only
    rw [State.stamp_intake, kept]
    rfl

theorem apertureRead_frees (on : s.coreOn = true) (fresh : s.Fresh (.sidePacketApertureRead t ch q)) :
    ∃ n, exec (.sidePacketApertureRead t ch q) s = .next n ∧
      n.intake = { s.intake with drq := s.intake.drq.set q (s.intake.drq[q]).tail } ∧
      n.out = .data (.dma ch) (s.intake.aperture q) :: s.out ∧ Only [.now, .intake, .dma, .out] s n :=
  ⟨_, (onCore_on on : execSidePacketApertureRead t ch q s = _).trans (congrArg _ (State.once_fresh fresh)), rfl, rfl,
    .app State.takeAperture_parts rfl (.app State.stamp_only rfl .refl)⟩

/-! ### Side packets (06 R249, R250) -/

theorem sidePacket_eq (on : s.coreOn = true) (gets : s.receives st = true) :
    exec (.sidePacket t st (h :: data ++ [e])) s = .next (((s.stamp t).freesFirst st).sidePacket st h data e) := by
  obtain ⟨d, r, hd⟩ : ∃ d r, data ++ [e] = d :: r := by
    cases data with
    | nil => exact ⟨e, [], rfl⟩
    | cons d r => exact ⟨d, r ++ [e], rfl⟩
  have last : (d :: r).dropLast = data ∧ (d :: r).getLast?.getD 0 = e := by
    rw [← hd]
    simp
  rw [List.cons_append, hd]
  refine (onCore_on on : execSidePacket t st (h :: d :: r) s = _).trans (congrArg _ ?_)
  dsimp only
  have stamped : (s.stamp t).receives st = true := gets
  rw [State.when_true stamped, last.1, last.2]

/-- A side packet that passes its checks is stored, or dropped (06 R249). -/
theorem State.sidePacket_good (ty : fld h 0 8 = 0x34) (crc : Block.crcOk h = true) (tail : fld e 0 8 = 0x35)
    (len : data.length = fld h 16 5 + 1) (good : packetCrc (h :: data ++ [e]) = fld e 32 32)
    (timely : (s.intake.streams[st]).sideLate (BitVec.ofNat 8 (fld h 24 8)) = false) : s.sidePacket st h data e =
      if !bit (s.inSet st).spen (fld h 8 4) then s.report [sideDropped st]
      else if 8 ≤ s.intake.slots st then
        (s.setStream st { s.intake.streams[st] with spovf := true }).report
          [sideDropped st, .raise (Src.IN_SPOVF st), Note.hit (Reg.IN_SPSTAT st) 0x100]
      else s.storeSide st h data := by
  unfold State.sidePacket
  dsimp only
  rw [if_neg (by rw [ty, crc]; decide), if_neg (by rw [tail, len]; simp), if_neg (by rw [good]; exact fun k => k rfl), timely]
  exact if_neg Bool.false_ne_true

section
variable (on : s.coreOn = true) (gets : s.receives st = true) (ty : fld h 0 8 = 0x34) (crc : Block.crcOk h = true)
  (tail : fld e 0 8 = 0x35) (len : data.length = fld h 16 5 + 1) (good : packetCrc (h :: data ++ [e]) = fld e 32 32)
  (hm : m = (s.stamp t).freesFirst st)
  (timely : (m.intake.streams[st]).sideLate (BitVec.ofNat 8 (fld h 24 8)) = false)
include on gets ty crc tail len good hm timely

theorem sidePacket_stores (canon : m.Canonical) (spen : bit (m.inSet st).spen (fld h 8 4) = true)
    (room : m.intake.slots st < 8) (hq : q = Fin.ofNat 4 (fld (m.inSet st).spmap (2 * fld h 8 4) 2)) :
    ∃ n y, exec (.sidePacket t st (h :: data ++ [e])) s = .next n ∧
      n.intake = { m.intake with drq := m.intake.drq.set q (m.intake.drq[q] ++ [y]) } ∧ y.data = data ∧ y.stream = st ∧
      y.spid = BitVec.ofNat 4 (fld h 8 4) ∧ y.fn = BitVec.ofNat 8 (fld h 24 8) ∧
      y.lineAfter = (m.intake.streams[st]).lineAfter ∧
      lget n.live (Reg.IN_SPCNT st) = satAdd (lget m.live (Reg.IN_SPCNT st)) 1 ∧ LiveOnly [Reg.IN_SPCNT st] m n ∧
      Only [.now, .intake, .live] m n ∧ Only [.now, .intake, .live, .dma, .out] s n := by
  have run : exec (.sidePacket t st (h :: data ++ [e])) s = .next (m.storeSide st h data) := by
    refine (sidePacket_eq on gets).trans ?_
    rw [← hm, State.sidePacket_good ty crc tail len good timely, spen]
    exact congrArg _ ((if_neg Bool.false_ne_true).trans (if_neg (by omega)))
  have stored : Only [.now, .intake, .live] m (m.storeSide st h data) := .app State.report_parts rfl
      (.app Only.set_intake rfl .refl)
  have before : Only [.now, .intake, .dma, .out] s m := by
    rw [hm]
    exact .app State.freesFirst_parts rfl (.app State.stamp_only rfl .refl)
  subst hq
  exact ⟨_, _, run, rfl, rfl, rfl, rfl, rfl, rfl, State.report_counts canon.live rfl (if_pos rfl),
    State.report_liveOnly_of (fun _ h => h) rfl, stored, .app stored rfl (before.mono rfl)⟩

theorem sidePacket_overflows (canon : m.Canonical) (spen : bit (m.inSet st).spen (fld h 8 4) = true)
    (full : 8 ≤ m.intake.slots st) : ∃ n, exec (.sidePacket t st (h :: data ++ [e])) s = .next n ∧
      n.intake.drq = m.intake.drq ∧ (n.intake.streams[st]).spovf = true ∧ Raised [Src.IN_SPOVF st] m n ∧
      lget n.live (Reg.IN_SPDROP st) = satAdd (lget m.live (Reg.IN_SPDROP st)) 1 ∧ LiveOnly [Reg.IN_SPDROP st] m n ∧
      Only [.now, .intake, .live, .flt] m n := by
  have run : exec (.sidePacket t st (h :: data ++ [e])) s =
      .next ((m.setStream st { m.intake.streams[st] with spovf := true }).report
        [sideDropped st, .raise (Src.IN_SPOVF st), Note.hit (Reg.IN_SPSTAT st) 0x100]) := by
    refine (sidePacket_eq on gets).trans ?_
    rw [← hm, State.sidePacket_good ty crc tail len good timely, spen]
    exact congrArg _ ((if_neg Bool.false_ne_true).trans (if_pos full))
  exact ⟨_, run, rfl, congrArg Stream.spovf Vector.getElem_set_fin_self, State.report_raised rfl rfl,
    State.report_counts canon.live rfl (if_pos rfl), State.report_liveOnly_of (fun _ h => h) rfl,
    .app State.report_parts rfl (.app State.setStream_only rfl .refl)⟩

theorem sidePacket_drops (canon : m.Canonical) (spen : bit (m.inSet st).spen (fld h 8 4) = false) :
    ∃ n, exec (.sidePacket t st (h :: data ++ [e])) s = .next n ∧
      lget n.live (Reg.IN_SPDROP st) = satAdd (lget m.live (Reg.IN_SPDROP st)) 1 ∧ LiveOnly [Reg.IN_SPDROP st] m n ∧
      Only [.now, .live] m n := by
  have run : exec (.sidePacket t st (h :: data ++ [e])) s = .next (m.report [sideDropped st]) := by
    refine (sidePacket_eq on gets).trans ?_
    rw [← hm, State.sidePacket_good ty crc tail len good timely, spen]
    exact congrArg _ (if_pos rfl)
  exact ⟨_, run, State.report_counts canon.live rfl (if_pos rfl), State.report_liveOnly_of (fun _ h => h) rfl,
    .app State.report_parts rfl .refl⟩

end

/-- Settles O48: the slots that the sample frees come first, and the packet is judged after them. -/
theorem sidePackets : Obligations.SidePackets := by
  unfold Obligations.SidePackets
  intro t s on canon
  refine ⟨fun st ch q y r ahead queue _ head => State.freesFirst_frees ahead queue head,
    fun st h e data m hm gets ty crc tail len good timely => ?_, fun ch q fresh => apertureRead_frees on fresh⟩
  have mid : m.Canonical := by
    rw [hm]
    exact State.freesFirst_canon (.only State.stamp_only rfl canon)
  exact ⟨fun spen room q hq => sidePacket_stores on gets ty crc tail len good hm timely mid spen room hq,
    fun spen full => sidePacket_overflows on gets ty crc tail len good hm timely mid spen full,
    fun spen => sidePacket_drops on gets ty crc tail len good hm timely mid spen⟩

end
end Sys2Proof.Machine
end

section
/-! Output lines and frames completed. -/

namespace Sys2Proof.Machine

open Sys2Proof

/-! ### What composing a line leaves (07 R277, 08 R296) -/

/-- A part of composing a line of surface u; `goes` where no error can end the period. -/
structure LineStep (goes : Prop) (u : Fin 2) (s n : State) : Prop where
  others : ∀ w : Fin 2, w ≠ u → n.comp[w] = s.comp[w] ∧ n.surf[w] = s.surf[w]
  shown : (n.surf[u]).showBank = (s.surf[u]).showBank
  bank : n.bank (s.surf[u]).showBank = s.bank (s.surf[u]).showBank
  line : (n.comp[u]).line = (s.comp[u]).line
  composing : goes → (n.comp[u]).composing = (s.comp[u]).composing
  turn : n.fab.turn = s.fab.turn
  active : ∀ x : Fin 16, (s.layer[x]).active = true → (n.layer[x]).active = true

section
variable {s v n : State} {u : Fin 2} {goes : Prop} {x : Fin 16} {y : Nat}

theorem LineStep.refl : LineStep goes u s s := ⟨fun _ _ => ⟨rfl, rfl⟩, rfl, rfl, rfl, fun _ => rfl, rfl, fun _ h => h⟩

theorem LineStep.app (h : LineStep goes u v n) (g : LineStep goes u s v) : LineStep goes u s n := by
  refine ⟨fun w hw => ⟨(h.others w hw).1.trans (g.others w hw).1, (h.others w hw).2.trans (g.others w hw).2⟩,
    h.shown.trans g.shown, ?_, h.line.trans g.line, fun p => (h.composing p).trans (g.composing p), h.turn.trans g.turn,
    fun x a => h.active x (g.active x a)⟩
  rw [← g.bank, ← g.shown]
  exact h.bank

theorem LineStep.mono (h : LineStep True u s n) : LineStep goes u s n :=
  ⟨h.others, h.shown, h.bank, h.line, fun _ => h.composing trivial, h.turn, h.active⟩

theorem LineStep.only {l : List Part} (h : Only l s n) (k : l.all (fun p =>
    !([.bank0, .bank1, .surf, .comp, .fab, .layer] : List Part).contains p) = true) : LineStep goes u s n := by
  have out : ∀ p ∈ ([.bank0, .bank1, .surf, .comp, .fab, .layer] : List Part), l.contains p = false := by
    intro p hp
    refine Bool.eq_false_iff.mpr (fun mem => ?_)
    have no := List.all_eq_true.mp k p (List.contains_iff_mem.mp mem)
    rw [List.contains_iff_mem.mpr hp] at no
    cases no
  have comp : n.comp = s.comp := h .comp (out _ (by simp))
  have surf : n.surf = s.surf := h .surf (out _ (by simp))
  have fab : n.fab = s.fab := h .fab (out _ (by simp))
  have layer : n.layer = s.layer := h .layer (out _ (by simp))
  have bank0 : n.bank0 = s.bank0 := h .bank0 (out _ (by simp))
  have bank1 : n.bank1 = s.bank1 := h .bank1 (out _ (by simp))
  refine ⟨fun w _ => ?_, ?_, ?_, ?_, fun _ => ?_, ?_, fun x a => ?_⟩
  · rw [comp, surf]
    exact ⟨rfl, rfl⟩
  · rw [surf]
  · unfold State.bank
    rw [bank0, bank1]
  · rw [comp]
  · rw [comp]
  · rw [fab]
  · rw [layer]
    exact a

theorem LineStep.report {l : List Note} : LineStep goes u s (s.report l) :=
  ⟨fun _ _ => ⟨rfl, rfl⟩, rfl, rfl, rfl, fun _ => rfl, rfl, fun _ h => h⟩

theorem LineStep.when {c : Bool} {f : State → State} (h : LineStep goes u s (f s)) : LineStep goes u s (s.when c f) :=
  State.when_cases (p := LineStep goes u s) h .refl

theorem LineStep.foldl {α : Type} {l : List α} {f : State → α → State} (h : ∀ v a, LineStep goes u v (f v a)) :
    LineStep goes u s (l.foldl f s) := List.foldlRecOn (motive := LineStep goes u s) _ _ .refl
        (fun v hv a _ => (h v a).app hv)

theorem State.withhold_line : LineStep goes u s (s.withhold u) := by
  unfold State.withhold
  refine ⟨fun w other => ⟨Vector.getElem_set_fin_ne other, Vector.getElem_set_fin_ne other⟩, ?_, rfl, ?_, fun _ => ?_, rfl,
    fun _ h => h⟩
  all_goals dsimp only
  all_goals rw [Vector.getElem_set_fin_self]

/-- A composer set to a state that keeps its place. -/
theorem State.setComp_line {c : Composer} (line : c.line = (s.comp[u]).line)
    (composing : goes → c.composing = (s.comp[u]).composing) : LineStep goes u s (s.setComp u c) := by
  unfold State.setComp
  refine ⟨fun w other => ⟨Vector.getElem_set_fin_ne other, rfl⟩, rfl, rfl, ?_, fun p => ?_, rfl, fun _ h => h⟩
  all_goals dsimp only
  all_goals rw [Vector.getElem_set_fin_self]
  · exact line
  · exact composing p

theorem State.checkMesh_line : LineStep goes u s (s.checkMesh u y) := by
  unfold State.checkMesh
  dsimp only
  split
  · exact .refl
  · exact .app .report (.app (State.setComp_line rfl (fun _ => rfl)) State.withhold_line)

/-- A layer slot set to a state that is active where it was. -/
theorem State.setLayer_line {a : Layer} (h : (s.layer[x]).active = true → a.active = true) :
    LineStep goes u s (s.setLayer x a) := by
  unfold State.setLayer
  refine ⟨fun _ _ => ⟨rfl, rfl⟩, rfl, rfl, rfl, fun _ => rfl, rfl, fun z was => ?_⟩
  dsimp only
  by_cases own : z = x
  · subst own
    rw [Vector.getElem_set_fin_self]
    exact h was
  · rw [Vector.getElem_set_fin_ne own]
    exact was

theorem State.markActive_line : LineStep goes u s (s.markActive x) := State.setLayer_line (fun _ => rfl)

/-- Slots that are used are marked. -/
theorem State.markActives_active {l : List (Fin 16)} (h : x ∈ l) : ((l.foldl State.markActive s).layer[x]).active = true := by
  obtain ⟨pre, post, rfl⟩ := List.append_of_mem h
  rw [List.foldl_append, List.foldl_cons]
  have step : LineStep True 0 ((pre.foldl State.markActive s).markActive x)
      (post.foldl State.markActive ((pre.foldl State.markActive s).markActive x)) := .foldl
          (fun _ _ => State.markActive_line)
  refine step.active x ?_
  exact congrArg Layer.active Vector.getElem_set_fin_self

theorem State.urgency_line : LineStep goes u s (s.urgency x) := by
  unfold State.urgency
  exact .app .report (State.setLayer_line id)

theorem State.moveWindows_line {w : Fin 2} : LineStep goes u s (s.moveWindows w y) := by
  refine .foldl (fun v a => .app State.urgency_line (State.setLayer_line (fun was => ?_)))
  unfold Layer.move
  split <;> exact was

theorem State.disarm_line {l : List (Fin 8)} : LineStep goes u s (s.disarm l) :=
  ⟨fun _ _ => ⟨rfl, rfl⟩, rfl, rfl, rfl, fun _ => rfl, rfl, fun _ h => h⟩

/-- An error of the compose side may end the period, and no more of the line. -/
theorem State.composeError_line {e : Fin 8 × BundleError} : LineStep False u s (s.composeError u e) := by
  have reported : LineStep False u s (State.fabricError u s e) := .only State.fabricError_only rfl
  unfold State.composeError
  dsimp only
  split
  · exact .app State.withhold_line reported
  · refine .app (State.setComp_line rfl False.elim) (.app (v := State.withhold u (State.fabricError u s e)) ?_
      (.app State.withhold_line reported))
    exact ⟨fun _ _ => ⟨rfl, rfl⟩, rfl, rfl, rfl, fun _ => rfl, rfl, fun _ h => h⟩
  · exact reported

theorem State.composeErrors_line {b : List (Fin 8 × Bundle)} : LineStep False u s (s.composeErrors u b) := by
  unfold State.composeErrors
  exact .app (.foldl (fun _ _ => State.composeError_line)) State.disarm_line

/-- With no error armed and none met, none ends the period. -/
theorem State.composeErrors_none (unarmed : s.fab.inj = Vector.replicate 8 0) : LineStep True u s (s.composeErrors u []) := by
  have none_ : s.armedErrors composeSegs 0 = [] := by
    unfold State.armedErrors
    rw [unarmed]
    rfl
  unfold State.composeErrors
  rw [none_]
  exact State.disarm_line

/-! ### The codes written (03 R75) -/

/-- A store of the other bank is changed alone. -/
theorem State.setBank_line {b : Bool} {a : Store} (other : b ≠ (s.surf[u]).showBank) : LineStep goes u s (s.setBank b a) := by
  have apart : (s.setBank b a).surf = s.surf ∧ (s.setBank b a).comp = s.comp ∧ (s.setBank b a).fab = s.fab ∧
      (s.setBank b a).layer = s.layer := by
    cases b <;> exact ⟨rfl, rfl, rfl, rfl⟩
  obtain ⟨surf, comp, fab, layer⟩ := apart
  refine ⟨fun w _ => ?_, ?_, State.bank_setBank_ne other.symm, ?_, fun _ => ?_, ?_, fun x a => ?_⟩
  · rw [comp, surf]
    exact ⟨rfl, rfl⟩
  · rw [surf]
  · rw [comp]
  · rw [comp]
  · rw [fab]
  · rw [layer]
    exact a

theorem State.writeCodes_line {b : Bool} {codes : List (Nat × Nat)} (other : b ≠ (s.surf[u]).showBank) :
    LineStep goes u s (s.writeCodes b codes) := by
  have words : ∀ (ws : List Nat) (v : State), b ≠ (v.surf[u]).showBank → LineStep goes u v (v.injWords 1
      (fun w multi (s : State) => s.setBank b ((s.bank b).upset w multi)) ws) := by
    intro ws
    induction ws with
    | nil => exact fun v _ => .refl
    | cons w ws ih =>
      intro v apart
      unfold State.injWords
      split
      · exact ih v apart
      · have used : LineStep goes u v (v.useInj 1) := .only State.useInj_only rfl
        have put : LineStep goes u (v.useInj 1) ((v.useInj 1).setBank b (((v.useInj 1).bank b).upset w
            (decide (v.injMode 1 = 2)))) := State.setBank_line (by rw [used.shown]; exact apart)
        exact .app (ih _ (by rw [(put.app used).shown]; exact apart)) (.app put used)
  unfold State.writeCodes
  dsimp only
  have put := State.setBank_line (goes := goes) (a := codes.foldl (fun (x : Store) y => x.write 0 zeroByte (2 * y.1)
    (toBytesLE 2 y.2)) (s.bank b)) other
  exact .app (words _ _ (by rw [put.shown]; exact other)) put

theorem State.tableParity_line {i : Nat} : LineStep goes u s (s.tableParity u i) := by
  unfold State.tableParity
  exact .app .report (.app State.withhold_line ⟨fun _ _ => ⟨rfl, rfl⟩, rfl, rfl, rfl, fun _ => rfl, rfl, fun _ h => h⟩)

/-- A line through the chain changes the bank that is not shown. -/
theorem State.correctLine_line {vals : List (Nat × List Nat)} : LineStep goes u s (s.correctLine u y vals) := by
  unfold State.correctLine
  dsimp only
  generalize hb : (vals.map (s.parityFails (s.chainSet u) y)).sum = bad
  have first : LineStep goes u s (s.when (bad != 0) (State.tableParity u bad)) := .when State.tableParity_line
  generalize s.when (bad != 0) (State.tableParity u bad) = v at first ⊢
  have read : LineStep goes u v (v.readCalib (s.chainSet u) y) := .only State.readCalib_only rfl
  generalize v.readCalib (s.chainSet u) y = w at read ⊢
  refine .app .report (.app (State.writeCodes_line ?_) (.app (.only Only.set_corr rfl) (.app read first)))
  dsimp only
  cases (w.surf[u]).showBank <;> exact Bool.noConfusion

/-! ### Lines that are done (07 R277) -/

/-- The composer goes on to the next line. -/
theorem State.lineDone_does : (s.lineDone u).comp = s.comp.set u { s.comp[u] with
      line := (s.comp[u]).line + 1, waitIntake := false } ∧
    ∀ x : Fin 16, (s.layer[x]).active = true → ((s.lineDone u).layer[x]).active = true := by
  unfold State.lineDone
  dsimp only
  generalize hc : s.setComp u { s.comp[u] with line := (s.comp[u]).line + 1, waitIntake := false } = v
  have comp : v.comp = s.comp.set u { s.comp[u] with line := (s.comp[u]).line + 1, waitIntake := false } ∧ v.layer = s.layer := by
    rw [← hc]
    exact ⟨rfl, rfl⟩
  obtain ⟨comp, layer⟩ := comp
  have moved : Only [.now, .regs, .live, .layer, .flt, .out] v (v.when (decide ((s.comp[u]).line + 1 < (v.surfComp u).h))
      (State.moveWindows u ((s.comp[u]).line + 1))) := Only.when (fun _ h => .app State.moveWindows_only rfl h) .refl
  have kept : LineStep True u v (v.when (decide ((s.comp[u]).line + 1 < (v.surfComp u).h))
      (State.moveWindows u ((s.comp[u]).line + 1))) := .when State.moveWindows_line
  generalize v.when (decide ((s.comp[u]).line + 1 < (v.surfComp u).h)) (State.moveWindows u ((s.comp[u]).line + 1)) = w at *
  have freed : Only [.intake] w (w.releaseLines u) := State.releaseLines_only
  rw [freed .comp rfl, moved .comp rfl, freed .layer rfl]
  exact ⟨comp, fun x a => kept.active x (by rw [layer]; exact a)⟩

/-- An output line whose inputs are there is composed. -/
theorem State.composeReady_does {vs : List (Fin 16 × LayerVerdict × Bool)} {b : List (Fin 8 × Bundle)} :
    ∃ v, LineStep (s.fab.inj = Vector.replicate 8 0 ∧ b = []) u s v ∧ s.composeReady u y vs b = v.lineDone u ∧
      ∀ x i, (x, .use, i) ∈ vs → (v.layer[x]).active = true := by
  unfold State.composeReady
  dsimp only
  have meshed : LineStep True u s ((s.checkMesh u y).report (vs.flatMap (fun v => verdictNotes v.1 v.2))) :=
    .app .report State.checkMesh_line
  have meshFab : ((s.checkMesh u y).report (vs.flatMap (fun v => verdictNotes v.1 v.2))).fab = s.fab :=
    State.checkMesh_only .fab rfl
  generalize (s.checkMesh u y).report (vs.flatMap (fun v => verdictNotes v.1 v.2)) = m at meshed meshFab ⊢
  generalize hu : (vs.filter (fun v => v.2.1 == .use)).map (fun v => v.1) = use
  have marked : LineStep True u m (use.foldl State.markActive m) := .foldl (fun _ _ => State.markActive_line)
  have markFab : Only [.layer] m (use.foldl State.markActive m) := .foldl .refl
      (fun _ _ h => .app State.markActive_only rfl h)
  have actives : ∀ x ∈ use, ((use.foldl State.markActive m).layer[x]).active = true := fun x h => State.markActives_active h
  generalize use.foldl State.markActive m = a at marked markFab actives ⊢
  generalize (List.range (m.surfComp u).w).map (fun x => (x, m.composePixel u use y x)) = vals
  have corrected : LineStep True u a (a.correctLine u y vals) := State.correctLine_line
  have corrFab : (a.correctLine u y vals).fab = a.fab := State.correctLine_only .fab rfl
  generalize a.correctLine u y vals = c at corrected corrFab ⊢
  have inj : c.fab.inj = s.fab.inj := by rw [corrFab, markFab .fab rfl, meshFab]
  have all : LineStep True u s c := .app corrected (.app marked meshed)
  have last : LineStep (s.fab.inj = Vector.replicate 8 0 ∧ b = []) u c (c.composeErrors u b) := by
    have errors := State.composeErrors_line (s := c) (u := u) (b := b)
    refine ⟨errors.others, errors.shown, errors.bank, errors.line, fun ⟨unarmed, none_⟩ => ?_, errors.turn, errors.active⟩
    rw [none_]
    exact (State.composeErrors_none (inj.trans unarmed)).composing trivial
  refine ⟨c.composeErrors u b, .app last all.mono, rfl, fun x i mem => last.active x (corrected.active x (actives x ?_))⟩
  rw [← hu]
  exact List.mem_map.mpr ⟨(x, .use, i), List.mem_filter.mpr ⟨mem, rfl⟩, rfl⟩

/-! ### O49 -/

variable {m : State} {t : Nat} {b : List (Fin 8 × Bundle)}

theorem composeLine_eq {up : List Upset} (on : s.coreOn = true) (hm : m = (s.stamp t).fetchesFirst u) :
    exec (.composeOutputLine t u up b) s = .next (m.composeLine u up b) := by
  subst hm
  exact (onCore_on on : execComposeOutputLine t u up b s = _)

theorem State.composeLine_rests {up : List Upset} (rest : (s.comp[u]).composing = false) : s.composeLine u up b = s := by
  refine if_pos ?_
  unfold State.lineLeft
  rw [rest]
  rfl

theorem State.lineLeft_of (composing : (s.comp[u]).composing = true) (left : (s.comp[u]).line < (s.surfComp u).h) :
    s.lineLeft u = true := by
  unfold State.lineLeft
  rw [composing, decide_eq_true left]
  rfl

theorem State.verdicts_wait : (s.verdicts u).any (fun v => v.2.1.waits) = true ↔
    ∃ x ∈ s.enabledSlots u, ∃ i, (s.verdict x (s.comp[u]).line).1 = .wait i := by
  unfold State.verdicts
  rw [List.any_map, List.any_eq_true]
  refine exists_congr (fun x => and_congr_right (fun _ => ?_))
  show (s.verdict x (s.comp[u]).line).1.waits = true ↔ _
  cases (s.verdict x (s.comp[u]).line).1 <;> simp [LayerVerdict.waits]

theorem State.composeLine_waits (left : s.lineLeft u = true)
    (waits : ∃ x ∈ s.enabledSlots u, ∃ i, (s.verdict x (s.comp[u]).line).1 = .wait i) :
    ∃ c, s.composeLine u [] b = s.setComp u { s.comp[u] with waitIntake := c } := by
  refine ⟨_, (if_neg ?_).trans ((if_pos (State.verdicts_wait.mpr waits)).trans rfl)⟩
  rw [left]
  exact Bool.false_ne_true

theorem State.composeLine_goes (left : s.lineLeft u = true)
    (ready : ∀ x ∈ s.enabledSlots u, ∀ i, (s.verdict x (s.comp[u]).line).1 ≠ .wait i) :
    s.composeLine u [] b = if s.otherFirst u then s
      else if s.fab.discard then State.lineDone u ((s.takeTurn u).setComp u { s.comp[u] with discard := true })
      else (s.takeTurn u).composeReady u (s.comp[u]).line (s.verdicts u) b := by
  refine (if_neg (by rw [left]; exact Bool.false_ne_true)).trans (if_neg ?_)
  rw [List.foldl_nil]
  intro h
  obtain ⟨x, mem, i, e⟩ := State.verdicts_wait.mp h
  exact ready x mem i e

theorem composeLine_waits (on : s.coreOn = true) (hm : m = (s.stamp t).fetchesFirst u) (left : m.lineLeft u = true)
    (composing : (m.comp[u]).composing = true)
    (waits : ∃ x ∈ m.enabledSlots u, ∃ i, (m.verdict x (m.comp[u]).line).1 = .wait i) :
    ∃ n, exec (.composeOutputLine t u [] b) s = .next n ∧ (n.comp[u]).line = (m.comp[u]).line ∧
      (n.comp[u]).composing = true ∧ (n.comp[u]).withheld = (m.comp[u]).withheld ∧
      (∀ w : Fin 2, w ≠ u → n.comp[w] = m.comp[w]) ∧ Only [.now, .comp] m n := by
  obtain ⟨c, run⟩ := State.composeLine_waits (b := b) left waits
  have own : (m.setComp u { m.comp[u] with waitIntake := c }).comp[u] = { m.comp[u] with waitIntake := c } :=
    Vector.getElem_set_fin_self
  refine ⟨_, (composeLine_eq on hm).trans (congrArg _ run), (congrArg Composer.line own :), (congrArg Composer.composing own).trans
    composing, (congrArg Composer.withheld own :), fun w other => Vector.getElem_set_fin_ne other, .app State.setComp_only rfl .refl⟩

theorem composeLine_goes (on : s.coreOn = true) (hm : m = (s.stamp t).fetchesFirst u) (left : m.lineLeft u = true)
    (composing : (m.comp[u]).composing = true) (first : m.otherFirst u = false)
    (ready : ∀ x ∈ m.enabledSlots u, ∀ i, (m.verdict x (m.comp[u]).line).1 ≠ .wait i) :
    ∃ n, exec (.composeOutputLine t u [] b) s = .next n ∧ (n.comp[u]).line = (m.comp[u]).line + 1 ∧
      (n.comp[u]).waitIntake = false ∧ n.fab.turn = 1 - u ∧
      n.bank (m.surf[u]).showBank = m.bank (m.surf[u]).showBank ∧ (n.surf[u]).showBank = (m.surf[u]).showBank ∧
      (m.fab.discard = true → (n.comp[u]).discard = true ∧ (n.comp[u]).composing = true ∧ n.bank0 = m.bank0 ∧
        n.bank1 = m.bank1 ∧ n.corr = m.corr) ∧
      (m.fab.discard = false → m.fab.inj = Vector.replicate 8 0 → b = [] → (n.comp[u]).composing = true ∧
        (∀ x ∈ m.enabledSlots u, (m.verdict x (m.comp[u]).line).1 = .use → (n.layer[x]).active = true)) ∧
      (∀ w : Fin 2, w ≠ u → n.comp[w] = m.comp[w] ∧ n.surf[w] = m.surf[w]) ∧ n.skein = m.skein ∧ n.tb = m.tb := by
  have run := (composeLine_eq (b := b) on hm).trans (congrArg _ (State.composeLine_goes left ready))
  rw [first] at run
  have turned : (m.takeTurn u).fab.turn = 1 - u ∧ (m.takeTurn u).comp = m.comp ∧ Only [.fab] m (m.takeTurn u) :=
    ⟨rfl, rfl, Only.set_fab⟩
  have turnLine : (m.takeTurn u).fab.inj = m.fab.inj ∧ (m.takeTurn u).layer = m.layer ∧ (m.takeTurn u).surf = m.surf ∧
      ∀ c, (m.takeTurn u).bank c = m.bank c := ⟨rfl, rfl, rfl, fun _ => rfl⟩
  generalize m.takeTurn u = v at run turned turnLine
  obtain ⟨turn, comp, parts⟩ := turned
  obtain ⟨inj, layer, surf, banks⟩ := turnLine
  cases discard : m.fab.discard
  · rw [discard] at run
    obtain ⟨w, step, done, actives⟩ := State.composeReady_does (s := v) (u := u) (y := (m.comp[u]).line) (vs := m.verdicts u) (b := b)
    have ready' : exec (.composeOutputLine t u [] b) s = .next (v.composeReady u (m.comp[u]).line (m.verdicts u) b) := run
    have all : Only [.now, .regs, .live, .bank0, .bank1, .calib, .surf, .intake, .layer, .comp, .fab, .corr, .pwr, .flt, .out]
        m (v.composeReady u (m.comp[u]).line (m.verdicts u) b) := .app State.composeReady_only rfl (parts.mono rfl)
    rw [done] at ready' all
    obtain ⟨next, active⟩ := State.lineDone_does (s := w) (u := u)
    have tail := State.lineDone_only (s := w) (u := u)
    have own : (w.lineDone u).comp[u] = { w.comp[u] with line := (w.comp[u]).line + 1, waitIntake := false } := by
      rw [next]
      exact Vector.getElem_set_fin_self
    have same : v.comp[u] = m.comp[u] := by rw [comp]
    refine ⟨_, ready', ?_, congrArg Composer.waitIntake own, ?_, ?_, ?_, fun h => (nomatch h), fun _ unarmed none_ => ⟨?_, ?_⟩,
      fun x other => ⟨?_, ?_⟩, all .skein rfl, all .tb rfl⟩
    · rw [own]
      show (w.comp[u]).line + 1 = _
      rw [step.line, same]
    · rw [tail .fab rfl, step.turn, turn]
    · have bank := step.bank
      rw [surf] at bank
      rw [← banks, ← bank]
      unfold State.bank
      rw [tail .bank0 rfl, tail .bank1 rfl]
    · rw [tail .surf rfl, step.shown, surf]
    · rw [own]
      show (w.comp[u]).composing = true
      rw [step.composing ⟨inj.trans unarmed, none_⟩, same]
      exact composing
    · intro x mem use
      refine active x (actives x (m.verdict x (m.comp[u]).line).2 ?_)
      exact List.mem_map.mpr ⟨x, mem, by rw [← use]⟩
    · rw [next, Vector.getElem_set_fin_ne other, (step.others x other).1, comp]
    · rw [tail .surf rfl, (step.others x other).2, surf]
  · rw [discard] at run
    have gone : exec
        (.composeOutputLine t u [] b) s = .next (State.lineDone u (v.setComp u { m.comp[u] with discard := true })) := run
    obtain ⟨next, -⟩ := State.lineDone_does (s := v.setComp u { m.comp[u] with discard := true }) (u := u)
    have tail := State.lineDone_only (s := v.setComp u { m.comp[u] with discard := true }) (u := u)
    have mark : (v.setComp u { m.comp[u] with discard := true }).comp = v.comp.set u { m.comp[u] with discard := true } := rfl
    have set : Only [.comp] v (v.setComp u { m.comp[u] with discard := true }) := State.setComp_only
    generalize v.setComp u { m.comp[u] with discard := true } = w at gone next tail mark set
    have at_ : w.comp[u] = { m.comp[u] with discard := true } := by
      rw [mark]
      exact Vector.getElem_set_fin_self
    have own : (w.lineDone u).comp[u] = { w.comp[u] with line := (w.comp[u]).line + 1, waitIntake := false } := by
      rw [next]
      exact Vector.getElem_set_fin_self
    rw [at_] at own
    have surfs : (w.lineDone u).surf = m.surf := (tail .surf rfl).trans ((set .surf rfl).trans surf)
    have bank0 : (w.lineDone u).bank0 = m.bank0 := (tail .bank0 rfl).trans ((set .bank0 rfl).trans (parts .bank0 rfl))
    have bank1 : (w.lineDone u).bank1 = m.bank1 := (tail .bank1 rfl).trans ((set .bank1 rfl).trans (parts .bank1 rfl))
    refine ⟨_, gone, congrArg Composer.line own, congrArg Composer.waitIntake own, ?_, ?_, by rw [surfs],
      fun _ => ⟨congrArg Composer.discard own, (congrArg Composer.composing own).trans composing, bank0, bank1, ?_⟩,
      fun h => (nomatch h), fun x other => ⟨?_, by rw [surfs]⟩, ?_, ?_⟩
    · rw [tail .fab rfl, set .fab rfl, turn]
    · unfold State.bank
      rw [bank0, bank1]
    · exact (tail .corr rfl).trans ((set .corr rfl).trans (parts .corr rfl))
    · rw [next, Vector.getElem_set_fin_ne other, mark, Vector.getElem_set_fin_ne other, comp]
    · exact (tail .skein rfl).trans ((set .skein rfl).trans (parts .skein rfl))
    · exact (tail .tb rfl).trans ((set .tb rfl).trans (parts .tb rfl))

theorem frameComplete_eq (on : s.coreOn = true) (fresh : s.Fresh (.frameComplete t u)) :
    exec (.frameComplete t u) s = .next ((s.stamp t).frameComplete u) :=
  (onCore_on on : execFrameComplete t u s = _).trans (congrArg _ (State.once_fresh fresh))

theorem frameComplete_rests (on : s.coreOn = true) (fresh : s.Fresh (.frameComplete t u))
    (rest : (s.comp[u]).composing = false ∨ (s.comp[u]).line < (s.surfComp u).h) :
    exec (.frameComplete t u) s = .next (s.stamp t) := by
  refine (frameComplete_eq on fresh).trans (congrArg _ (if_pos ?_))
  have high : ((s.stamp t).surfComp u).h = (s.surfComp u).h := rfl
  rw [State.stamp_comp, high]
  rcases rest with h | h
  · rw [h]
    rfl
  · rw [decide_eq_true h, Bool.or_true]

theorem frameComplete_completes (on : s.coreOn = true) (fresh : s.Fresh (.frameComplete t u))
    (composing : (s.comp[u]).composing = true) (done : (s.surfComp u).h ≤ (s.comp[u]).line) :
    ∃ n, exec (.frameComplete t u) s = .next n ∧
      n.surf = s.surf.set u { s.surf[u] with
        complete := (s.surf[u]).complete || !((s.comp[u]).withheld || (s.comp[u]).discard) } ∧
      (n.comp[u]).composing = false ∧ ((s.comp[u]).withheld = true ∨ (s.comp[u]).discard = true → (n.comp[u]).doneAt = none) ∧
      ((s.comp[u]).withheld = false → (s.comp[u]).discard = false → (s.comp[u]).doneAt = none →
        (n.comp[u]).doneAt = some (max s.now t)) ∧
      (∀ w : Fin 2, w ≠ u → n.comp[w] = s.comp[w]) ∧ Only [.now, .surf, .comp] s n := by
  generalize hc : ({ s.comp[u] with
    composing := false, waitIntake := false
    doneAt := if (s.comp[u]).withheld || (s.comp[u]).discard then none else (s.comp[u]).doneAt.or (some (max s.now t)) } :
    Composer) = c
  have run : (s.stamp t).frameComplete u = { s.stamp t with
      comp := s.comp.set u c
      surf := s.surf.set u { s.surf[u] with
        complete := (s.surf[u]).complete || !((s.comp[u]).withheld || (s.comp[u]).discard) } } := by
    rw [← hc]
    refine if_neg ?_
    have high : ((s.stamp t).surfComp u).h = (s.surfComp u).h := rfl
    rw [State.stamp_comp, high, composing, decide_eq_false (Nat.not_lt.mpr done)]
    exact Bool.false_ne_true
  refine ⟨_, (frameComplete_eq on fresh).trans (congrArg _ run), rfl, ?_, fun held => ?_, fun free free' none_ => ?_,
    fun w other => Vector.getElem_set_fin_ne other, .app Only.set_surf_comp rfl (.app State.stamp_only rfl .refl)⟩
  all_goals dsimp only
  all_goals rw [Vector.getElem_set_fin_self, ← hc]
  · rcases held with h | h
    · rw [h]
      rfl
    · rw [h, Bool.or_true]
      rfl
  · rw [free, free', none_]
    rfl

/-- Settles O49: the steps of a line keep what is shown, and only the composer's own counters move. -/
theorem linesAreComposedAndFramesCompleted : Obligations.LinesAreComposedAndFramesCompleted := by
  unfold Obligations.LinesAreComposedAndFramesCompleted
  intro t u s on canon
  refine ⟨fun m hm => ⟨fun up b rest => (composeLine_eq on hm).trans (congrArg _ (State.composeLine_rests rest)),
    fun b composing line => ?_⟩, fun fresh => ⟨frameComplete_completes on fresh, frameComplete_rests on fresh⟩⟩
  have left := State.lineLeft_of composing line
  refine ⟨fun waits => composeLine_waits on hm left composing waits, fun ready => ⟨fun first => ?_, fun first =>
    composeLine_goes on hm left composing first ready⟩⟩
  refine (composeLine_eq on hm).trans (congrArg _ ((State.composeLine_goes left ready).trans ?_))
  rw [first]
  rfl

end
end Sys2Proof.Machine
end

section
/-! Line fetches and grants. -/

namespace Sys2Proof.Machine

open Sys2Proof

/-! ### Grants of the register fabric (13 R496, 07 R279) -/

/-- Request a is no worse placed than b: urgent where b is, and as old where they are alike. -/
structure AsGood (a b : FabricReq) : Prop where
  urgent : b.urgent = true → a.urgent = true
  since : b.urgent = a.urgent → a.since ≤ b.since

section
variable {a b c r x : FabricReq} {l : List FabricReq} {last : FabricWho} {recent : List Bool}

theorem AsGood.refl : AsGood a a := ⟨id, fun _ => le_rfl⟩

theorem AsGood.trans (h : AsGood a b) (g : AsGood b c) : AsGood a c := by
  refine ⟨fun u => h.urgent (g.urgent u), fun e => ?_⟩
  cases hb : b.urgent
  · cases hc : c.urgent
    · exact (h.since (hb.trans (hc.symm.trans e))).trans (g.since (hc.trans hb.symm))
    · exact absurd (g.urgent hc) (by rw [hb]; exact Bool.false_ne_true)
  · have ha := h.urgent hb
    exact (h.since (hb.trans ha.symm)).trans (g.since (e.trans (ha.trans hb.symm)))

theorem asGood_of_before (h : grantedBefore last a b = true) : AsGood a b := by
  unfold grantedBefore at h
  split at h
  case isTrue other =>
    refine ⟨fun _ => h, fun e => ?_⟩
    rw [e] at other
    simp at other
  case isFalse same =>
    have alike : a.urgent = b.urgent := by simpa using same
    refine ⟨fun u => alike.trans u, fun _ => ?_⟩
    split at h
    · exact (of_decide_eq_true h).le
    case isFalse age => exact (not_not.mp age).le

theorem asGood_of_not_before (h : grantedBefore last b a = false) : AsGood a b := by
  unfold grantedBefore at h
  split at h
  case isTrue other =>
    refine ⟨fun u => ?_, fun e => ?_⟩
    · rw [h] at u
      cases u
    · rw [e] at other
      simp at other
  case isFalse same =>
    have alike : b.urgent = a.urgent := by simpa using same
    refine ⟨fun u => alike.symm.trans u, fun _ => ?_⟩
    split at h
    · exact Nat.not_lt.mp (of_decide_eq_false h)
    case isFalse age => exact (not_not.mp age).ge

/-- The first request of a list is one of it, and none is better placed. -/
theorem firstGrant_best (some_ : l ≠ []) : ∃ r ∈ l, firstGrant last l = some r ∧ ∀ x ∈ l, AsGood r x := by
  induction l with
  | nil => exact absurd rfl some_
  | cons a rest ih =>
    by_cases empty : rest = []
    · subst empty
      refine ⟨a, List.mem_cons_self .., rfl, fun x hx => ?_⟩
      rw [List.mem_singleton.mp hx]
      exact .refl
    · obtain ⟨b, mem, first, best⟩ := ih empty
      have e : firstGrant last (a :: rest) = some (if grantedBefore last b a then b else a) := by
        rw [firstGrant, first]
      cases before : grantedBefore last b a
      · rw [before] at e
        refine ⟨a, List.mem_cons_self .., e, fun x hx => ?_⟩
        rcases List.mem_cons.mp hx with rfl | hx
        · exact .refl
        · exact (asGood_of_not_before before).trans (best x hx)
      · rw [before] at e
        refine ⟨b, List.mem_cons_of_mem _ mem, e, fun x hx => ?_⟩
        rcases List.mem_cons.mp hx with rfl | hx
        · exact asGood_of_before before
        · exact best x hx

theorem nextGrant_fair (some_ : l ≠ []) : ∃ r ∈ l, nextGrant last recent l = some r ∧
    (∀ x ∈ l, x.urgent = r.urgent → r.since ≤ x.since) ∧
    (r.urgent = true → urgentAllowed recent = true ∨ ∀ x ∈ l, x.urgent = true) ∧
    (r.urgent = false → urgentAllowed recent = false ∨ ∀ x ∈ l, x.urgent = false) := by
  by_cases all : (urgentAllowed recent || (l.filter (fun r => !r.urgent)).isEmpty) = true
  · have e : nextGrant last recent l = firstGrant last l := if_pos all
    obtain ⟨r, mem, first, best⟩ := firstGrant_best (last := last) some_
    refine ⟨r, mem, e.trans first, fun x hx => (best x hx).since, fun _ => ?_, fun calm => .inr (fun x hx => ?_)⟩
    · refine (Bool.or_eq_true_iff.mp all).imp_right (fun empty x hx => ?_)
      simpa using List.filter_eq_nil_iff.mp (List.isEmpty_iff.mp empty) x hx
    · refine Bool.eq_false_iff.mpr (fun u => ?_)
      rw [(best x hx).urgent u] at calm
      cases calm
  · have e : nextGrant last recent l = firstGrant last (l.filter (fun r => !r.urgent)) := if_neg all
    rw [Bool.or_eq_true_iff, not_or] at all
    obtain ⟨refused, calm⟩ := all
    obtain ⟨r, mem, first, best⟩ := firstGrant_best (last := last) (fun h => calm (List.isEmpty_iff.mpr h))
    obtain ⟨mem, slow⟩ := List.mem_filter.mp mem
    have slow' : r.urgent = false := by simpa using slow
    refine ⟨r, mem, e.trans first, fun x hx same => (best x (List.mem_filter.mpr ⟨hx, ?_⟩)).since same, fun u => ?_,
      fun _ => .inl (Bool.eq_false_iff.mpr refused)⟩
    · rw [same, slow']
      rfl
    · rw [slow'] at u
      cases u

end

/-! ### Line fetches (07 R276–R278, R283) -/

section
variable {s v n : State} {x : Fin 16} {r t : Nat}

/-- The settings of a slot that takes no intake stream rest on its surface's period. -/
theorem State.layerSet_of (surf : n.surf = s.surf) (src : (s.layerSet x).src ≠ 0) : n.layerSet x = s.layerSet x := by
  have composed : n.composed = s.composed := by
    unfold State.composed
    rw [surf]
  have own : (layerOf (s.composed (slotSurf x)) x.val).src ≠ 0 := by
    intro zero
    apply src
    unfold State.layerSet
    dsimp only
    rw [if_pos zero]
    exact zero
  unfold State.layerSet
  dsimp only
  rw [composed, if_neg own, if_neg own]

theorem lineFetchIssue_rests (on : s.coreOn = true) (rest : (s.comp[slotSurf x]).composing = false ∨ (s.layerSet x).en = false ∨
    (s.layerSet x).src = 0 ∨ (s.layer[x]).dropped = true ∨ (s.layer[x]).torn = true ∨ s.nextFetch x = none) :
    exec (.lineFetchIssue t x) s = .next (s.stamp t) := by
  refine (onCore_on on : execLineFetchIssue t x s = _).trans (congrArg _ ?_)
  have set : (s.stamp t).layerSet x = s.layerSet x := rfl
  have next : (s.stamp t).nextFetch x = s.nextFetch x := rfl
  unfold State.issueFetch
  dsimp only
  rw [set, next, State.stamp_comp, State.stamp_layer]
  rcases rest with h | h | h | h | h | h
  · rw [h]
    rfl
  · rw [h]
    exact if_pos (by simp)
  · rw [h]
    exact if_pos (by simp)
  · rw [h]
    exact if_pos (by simp)
  · rw [h]
    exact if_pos (by simp)
  · rw [h]
    exact ite_self ..

/-- A slot that may fetch fetches the line it needs next. -/
theorem lineFetchIssue_eq (on : s.coreOn = true) (composing : (s.comp[slotSurf x]).composing = true)
    (en : (s.layerSet x).en = true) (src : (s.layerSet x).src ≠ 0) (dropped : (s.layer[x]).dropped = false)
    (torn : (s.layer[x]).torn = false) (next : s.nextFetch x = some r) : exec (.lineFetchIssue t x) s =
      .next (if (s.layerSet x).src = 1 then (s.stamp t).fetchStore x r else if s.upRoom then (s.stamp t).fetchLine x r else s.stamp t) := by
  refine (onCore_on on : execLineFetchIssue t x s = _).trans (congrArg _ ?_)
  have set : (s.stamp t).layerSet x = s.layerSet x := rfl
  have due : (s.stamp t).nextFetch x = some r := next
  unfold State.issueFetch
  dsimp only
  rw [set, due, State.stamp_comp, State.stamp_layer, composing, en, beq_false_of_ne src, dropped, torn]
  exact if_neg Bool.false_ne_true

theorem Layer.issue_flags {y : Layer} : (y.issue r).dropped = y.dropped ∧ (y.issue r).torn = y.torn := by
  unfold Layer.issue
  split <;> exact ⟨rfl, rfl⟩

/-- What a slot's urgency changes. -/
theorem State.urgency_does : (∃ u, (s.urgency x).layer = s.layer.set x { s.layer[x] with urgent := u }) ∧
    (s.urgency x).flt.raised = s.flt.raised ∧ (s.urgency x).host = s.host ∧ (s.urgency x).surf = s.surf ∧
    (s.urgency x).comp = s.comp ∧ (s.urgency x).regs = s.regs := by
  have parts : Only [.layer, .live] s (s.urgency x) := by
    unfold State.urgency
    exact .app (m := [.live]) (State.report_parts.mono (noteIf_parts rfl)) rfl (.app State.setLayer_only rfl .refl)
  exact ⟨⟨_, rfl⟩, congrArg Faults.raised (parts .flt rfl), parts .host rfl, parts .surf rfl, parts .comp rfl, parts .regs rfl⟩

/-- A tag that matches is noted. -/
theorem State.seeTag_matches {w : Word} (src : (s.layerSet x).src ≠ 0) (same : w = (s.layerSet x).tag)
    (torn : (s.layer[x]).torn = false) : s.seeTag x w =
      (s.setLayer x { s.layer[x] with tagged := true }).report [.word (Reg.LY_SEENTAG x) w] := by
  have see : (s.layer[x]).see (s.layerSet x).tag w = { s.layer[x] with tagged := true } := if_pos same
  unfold State.seeTag
  dsimp only
  rw [see]
  generalize hy : ({ s.layer[x] with tagged := true } : Layer) = y
  have whole : y.torn = false := by
    rw [← hy]
    exact torn
  have kept : ((s.setLayer x y).report [.word (Reg.LY_SEENTAG x) w]).layerSet x = s.layerSet x := State.layerSet_of rfl src
  rw [whole, torn, Bool.false_and, State.when_false rfl, kept, same, bne_self_eq_false]
  exact State.report_nil

/-- A layer-store line is read at once with its tag (07 R283). -/
theorem State.fetchStore_does (canon : s.Canonical) (dropped : (s.layer[x]).dropped = false) (torn : (s.layer[x]).torn = false)
    (src : (s.layerSet x).src = 1) (tag : BitVec.ofNat 32 (s.layers.le (s.layerSet x).base 4) = (s.layerSet x).tag) :
    ((s.fetchStore x r).layer[x]).tagged = true ∧ ((s.fetchStore x r).layer[x]).torn = false ∧
      ((s.fetchStore x r).layer[x]).dropped = false ∧
      ((s.fetchStore x r).layer[x]).fetched.getLast? = some (SrcLine.mk r
        (some (Memory.readN zeroByte s.layers.cells ((s.layerSet x).lineAt r) (s.layerSet x).lineLen))) ∧
      rget (s.fetchStore x r).regs (Reg.LY_SEENTAG x) = (s.layerSet x).tag ∧
      (∀ y : Fin 16, y ≠ x → (s.fetchStore x r).layer[y] = s.layer[y]) ∧
      (s.fetchStore x r).host = s.host ∧ (s.fetchStore x r).surf = s.surf ∧ (s.fetchStore x r).comp = s.comp := by
  have src' : (s.layerSet x).src ≠ 0 := by omega
  obtain ⟨keepDropped, keepTorn⟩ := Layer.issue_flags (r := r) (y := s.layer[x])
  unfold State.fetchStore
  dsimp only
  have issued : (s.setLayer x ((s.layer[x]).issue r)).layer[x] = (s.layer[x]).issue r := Vector.getElem_set_fin_self
  have kept : (s.setLayer x ((s.layer[x]).issue r)).layerSet x = s.layerSet x := State.layerSet_of rfl src'
  have fields : Only [.layer] s (s.setLayer x ((s.layer[x]).issue r)) ∧
      (s.setLayer x ((s.layer[x]).issue r)).layer = s.layer.set x ((s.layer[x]).issue r) := ⟨State.setLayer_only, rfl⟩
  generalize s.setLayer x ((s.layer[x]).issue r) = v at *
  obtain ⟨parts, layer⟩ := fields
  rw [State.seeTag_matches (s := v) (by rw [kept]; exact src') (tag.trans (by rw [kept])) (by rw [issued, keepTorn]; exact torn)]
  generalize hy : ({ v.layer[x] with tagged := true } : Layer) = y
  have flags : y.dropped = false ∧ y.torn = false ∧ y.tagged = true := by
    rw [← hy, issued]
    exact ⟨keepDropped.trans dropped, keepTorn.trans torn, rfl⟩
  obtain ⟨dropped', torn', tagged⟩ := flags
  have at_ : ((v.setLayer x y).report [.word (Reg.LY_SEENTAG x) (BitVec.ofNat 32 (s.layers.le (s.layerSet x).base 4))]).layer =
      v.layer.set x y := rfl
  have told : rget ((v.setLayer x y).report [.word (Reg.LY_SEENTAG x)
      (BitVec.ofNat 32 (s.layers.le (s.layerSet x).base 4))]).regs (Reg.LY_SEENTAG x) = (s.layerSet x).tag :=
    (State.report_reads (l := [.word (Reg.LY_SEENTAG x) _]) canon.regs (parts .regs rfl) (if_pos rfl)).trans tag
  have more : Only [.layer, .regs] s ((v.setLayer x y).report [.word (Reg.LY_SEENTAG x)
      (BitVec.ofNat 32 (s.layers.le (s.layerSet x).base 4))]) :=
    .app State.report_parts rfl (.app State.setLayer_only rfl (parts.mono rfl))
  generalize (v.setLayer x y).report [.word (Reg.LY_SEENTAG x) (BitVec.ofNat 32 (s.layers.le (s.layerSet x).base 4))] = w
    at at_ told more ⊢
  have own : w.layer[x] = y := by
    rw [at_]
    exact Vector.getElem_set_fin_self
  have whole : ¬ ((w.layer[x]).dropped || (w.layer[x]).torn) = true := by
    rw [own, dropped', torn']
    exact Bool.false_ne_true
  rw [if_neg whole, own, more .layers rfl]
  generalize hl : (SrcLine.mk r (some (Memory.readN zeroByte s.layers.cells ((s.layerSet x).lineAt r) (s.layerSet x).lineLen))) =
    line
  generalize hz : ({ y with fetched := y.fetched ++ [line] } : Layer) = z
  have keeps : z.tagged = true ∧ z.torn = false ∧ z.dropped = false ∧ z.fetched = y.fetched ++ [line] := by
    rw [← hz]
    exact ⟨tagged, torn', dropped', rfl⟩
  obtain ⟨tagged', torn'', dropped'', fetched⟩ := keeps
  obtain ⟨⟨u, urgent⟩, -, host, surf, comp, regs⟩ := State.urgency_does (s := w.setLayer x z) (x := x)
  have set : (w.setLayer x z).layer = w.layer.set x z := rfl
  have final : ((w.setLayer x z).urgency x).layer[x] = { z with urgent := u } := by
    rw [urgent, Vector.getElem_set_fin_self, set, Vector.getElem_set_fin_self]
  rw [final, host, surf, comp, regs]
  refine ⟨tagged', torn'', dropped'', ?_, told, fun i other => ?_, more .host rfl, more .surf rfl, more .comp rfl⟩
  · dsimp only
    rw [fetched]
    exact List.getLast?_concat
  · rw [urgent, Vector.getElem_set_fin_ne other, set, Vector.getElem_set_fin_ne other, at_, Vector.getElem_set_fin_ne other,
      layer, Vector.getElem_set_fin_ne other]

/-! ### Host-memory lines (07 R283) -/

/-- Upstream reads of one layer slot: those of before still stand, and other slots are left alone. -/
structure Reads (x : Fin 16) (s n : State) : Prop where
  up : ∀ q ∈ s.host.up, q ∈ n.host.up
  tags : s.host.nextTag ≤ n.host.nextTag
  layers : ∀ y : Fin 16, y ≠ x → n.layer[y] = s.layer[y]
  surf : n.surf = s.surf
  comp : n.comp = s.comp

theorem Reads.refl : Reads x s s := ⟨fun _ h => h, le_rfl, fun _ _ => rfl, rfl, rfl⟩

theorem Reads.app (h : Reads x v n) (g : Reads x s v) : Reads x s n :=
  ⟨fun q m => h.up q (g.up q m), g.tags.trans h.tags, fun y o => (h.layers y o).trans (g.layers y o), h.surf.trans g.surf,
    h.comp.trans g.comp⟩

theorem State.setLayer_reads {y : Layer} : Reads x s (s.setLayer x y) :=
  ⟨fun _ h => h, le_rfl, fun _ other => Vector.getElem_set_fin_ne other, rfl, rfl⟩

theorem State.upRead_reads {who : UpWho} {addr len : Nat} : Reads x s (s.upRead who addr len) ∧
    s.upReq who addr len ∈ (s.upRead who addr len).host.up ∧ s.host.nextTag < (s.upRead who addr len).host.nextTag :=
  ⟨⟨fun _ h => List.mem_append_left _ h, Nat.le_succ _, fun _ _ => rfl, rfl, rfl⟩,
    List.mem_append_right _ (List.mem_singleton.mpr rfl), Nat.lt_succ_self _⟩

theorem State.fetchHost_reads {o : Option Nat} : Reads x s (s.fetchHost x o) := by
  unfold State.fetchHost
  dsimp only
  split
  · exact .app State.upRead_reads.1 State.setLayer_reads
  · exact .app State.upRead_reads.1 State.setLayer_reads

/-- The read of a source line. -/
theorem State.fetchHost_line : (∃ q ∈ (s.fetchHost x (some r)).host.up, q.who = .line x r ∧ q.addr = (s.layerSet x).lineAt r ∧
    q.len = (s.layerSet x).lineLen) ∧ s.host.nextTag < (s.fetchHost x (some r)).host.nextTag := by
  unfold State.fetchHost
  dsimp only
  obtain ⟨-, mem, next⟩ := State.upRead_reads (s := s.setLayer x { s.layer[x] with
    inFlight := (s.layer[x]).inFlight ++ [(s.host.nextTag, some r)] }) (x := x) (who := .line x r)
    (addr := (s.layerSet x).lineAt r) (len := (s.layerSet x).lineLen)
  exact ⟨⟨_, mem, rfl, rfl, rfl⟩, next⟩

theorem State.fetchLine_does (src : (s.layerSet x).src ≠ 0) : (∃ q ∈ (s.fetchLine x r).host.up, q.who = .line x r ∧
      q.addr = (s.layerSet x).lineAt r ∧ q.len = (s.layerSet x).lineLen) ∧ s.host.nextTag < (s.fetchLine x r).host.nextTag ∧
    (∀ y : Fin 16, y ≠ x → (s.fetchLine x r).layer[y] = s.layer[y]) ∧ (s.fetchLine x r).surf = s.surf ∧
    (s.fetchLine x r).comp = s.comp := by
  unfold State.fetchLine
  dsimp only
  have before : Reads x s (s.when (!(s.layer[x]).tagFirst)
      (fun s => State.fetchHost x none (s.setLayer x { s.layer[x] with tagFirst := true }))) :=
    State.when_cases (p := Reads x s) (.app State.fetchHost_reads State.setLayer_reads) .refl
  generalize s.when (!(s.layer[x]).tagFirst)
    (fun s => State.fetchHost x none (s.setLayer x { s.layer[x] with tagFirst := true })) = v at before ⊢
  have issue : Reads x v (v.setLayer x ((v.layer[x]).issue r)) := State.setLayer_reads
  generalize v.setLayer x ((v.layer[x]).issue r) = w at issue ⊢
  have first : Reads x s w := issue.app before
  have kept : w.layerSet x = s.layerSet x := State.layerSet_of first.surf src
  obtain ⟨⟨q, mem, who, addr, len⟩, next⟩ := State.fetchHost_line (s := w) (x := x) (r := r)
  have read : Reads x w (w.fetchHost x (some r)) := State.fetchHost_reads
  generalize w.fetchHost x (some r) = f at mem next read ⊢
  have last : Reads x f (if !(f.layer[x]).tagLast && decide (r < f.lastFetch x) then f
      else State.fetchHost x none (f.setLayer x { f.layer[x] with tagLast := true })) := by
    split
    · exact .refl
    · exact .app State.fetchHost_reads State.setLayer_reads
  have all := last.app (read.app first)
  rw [kept] at addr len
  exact ⟨⟨q, last.up q mem, who, addr, len⟩, (first.tags.trans_lt next).trans_le last.tags, all.layers, all.surf, all.comp⟩

/-! ### Lines that arrive (07 R278) -/

theorem lineFetchComplete_eq (on : s.coreOn = true) (fresh : s.Fresh (.lineFetchComplete t x)) :
    exec (.lineFetchComplete t x) s = .next ((s.stamp t).fetchComplete x) :=
  (onCore_on on : execLineFetchComplete t x s = _).trans (congrArg _ (State.once_fresh fresh))

theorem lineFetchComplete_rests (on : s.coreOn = true) (fresh : s.Fresh (.lineFetchComplete t x))
    (waiting : ∀ q ∈ s.host.up, q.ofSlot x = true → q.res = .waiting) : exec
        (.lineFetchComplete t x) s = .next (s.stamp t) := by
  refine (lineFetchComplete_eq on fresh).trans (congrArg _ ?_)
  have none_ : s.host.up.find? (fun r => r.ofSlot x && !decide (r.res = .waiting)) = none := by
    refine List.find?_eq_none.mpr (fun q mem h => ?_)
    obtain ⟨own, ended⟩ := Bool.and_eq_true_iff.mp h
    rw [decide_eq_true (waiting q mem own)] at ended
    cases ended
  unfold State.fetchComplete
  rw [State.stamp_host, none_]

variable {q : UpReq}

/-- A read that has ended leaves the host port, and raises where it failed. -/
def State.fetchEnded (s : State) (x : Fin 16) (q : UpReq) : State :=
  ({ s with host := s.host.without q.tag } : State).report (noteIf q.bytes.isNone [.raise (Src.LY_FETCHERR (slotSurf x))])

theorem State.fetchEnded_does : (s.fetchEnded x q).host = s.host.without q.tag ∧
    Raised (if q.bytes.isNone then [Src.LY_FETCHERR (slotSurf x)] else []) s (s.fetchEnded x q) ∧
    Only [.host, .flt] s (s.fetchEnded x q) :=
  ⟨rfl, State.report_raised rfl noteIf_srcs, .app (m := [.flt]) (State.report_parts.mono (noteIf_parts rfl)) rfl
    (.app Only.set_host rfl .refl)⟩

theorem lineFetchComplete_drops (on : s.coreOn = true) (fresh : s.Fresh (.lineFetchComplete t x))
    (found : s.host.up.find? (fun q => q.ofSlot x && !decide (q.res = .waiting)) = some q)
    (gone : (s.layer[x]).inFlight.find? (fun y => y.1 == q.tag) = none) :
    ∃ n, exec (.lineFetchComplete t x) s = .next n ∧ n.host = s.host.without q.tag ∧
      Raised (if q.bytes.isNone then [Src.LY_FETCHERR (slotSurf x)] else []) s n ∧ Only [.now, .host, .flt] s n := by
  have run : (s.stamp t).fetchComplete x = (s.stamp t).fetchEnded x q := by
    unfold State.fetchComplete
    rw [State.stamp_host, found]
    unfold State.fetchEnds
    dsimp only
    rw [State.stamp_layer, gone]
    rfl
  obtain ⟨host, raised, parts⟩ := State.fetchEnded_does (s := s.stamp t) (x := x) (q := q)
  exact ⟨_, (lineFetchComplete_eq on fresh).trans (congrArg _ run), host, raised, .app parts rfl
      (.app State.stamp_only rfl .refl)⟩

theorem lineFetchComplete_arrives {z : Nat} (on : s.coreOn = true) (fresh : s.Fresh (.lineFetchComplete t x))
    (found : s.host.up.find? (fun q => q.ofSlot x && !decide (q.res = .waiting)) = some q)
    (flight : (s.layer[x]).inFlight.find? (fun y => y.1 == q.tag) = some (z, some r)) (ahead : (s.layer[x]).top ≤ r) :
    ∃ n, exec (.lineFetchComplete t x) s = .next n ∧ n.host = s.host.without q.tag ∧
      (n.layer[x]).fetched = (s.layer[x]).fetched ++ [{ line := r, data := q.bytes }] ∧
      (q.bytes = none → r ∉ (s.layer[x]).again → r ∈ (n.layer[x]).refetch) ∧
      Raised (if q.bytes.isNone then [Src.LY_FETCHERR (slotSurf x)] else []) s n ∧
      (∀ y : Fin 16, y ≠ x → n.layer[y] = s.layer[y]) ∧ n.surf = s.surf ∧ n.comp = s.comp := by
  obtain ⟨host, raised, parts⟩ := State.fetchEnded_does (s := s.stamp t) (x := x) (q := q)
  generalize hy : ({ s.layer[x] with
    inFlight := (s.layer[x]).inFlight.filter (fun z => z.1 != q.tag) } : Layer).arrive r q.bytes = y
  have run : (s.stamp t).fetchComplete x = (((s.stamp t).fetchEnded x q).setLayer x y).urgency x := by
    unfold State.fetchComplete
    rw [State.stamp_host, found]
    unfold State.fetchEnds
    dsimp only
    rw [State.stamp_layer, flight, ← hy]
    rfl
  have fields : y.fetched = (s.layer[x]).fetched ++ [{ line := r, data := q.bytes }] ∧
      (q.bytes = none → r ∉ (s.layer[x]).again → r ∈ y.refetch) := by
    rw [← hy]
    unfold Layer.arrive
    rw [if_neg (Nat.not_lt.mpr ahead)]
    refine ⟨rfl, fun none_ once => ?_⟩
    dsimp only
    rw [none_, List.contains_eq_mem, decide_eq_false once]
    exact List.mem_append_right _ (List.mem_singleton.mpr rfl)
  obtain ⟨fetched, refetch⟩ := fields
  generalize (s.stamp t).fetchEnded x q = v at run host raised parts
  have layers : v.layer = s.layer := parts .layer rfl
  have set : (v.setLayer x y).layer = s.layer.set x y := by
    rw [← layers]
    rfl
  obtain ⟨⟨u, urgent⟩, told, hostU, surfU, compU, -⟩ := State.urgency_does (s := v.setLayer x y) (x := x)
  have quiet : ((v.setLayer x y).urgency x).flt = v.flt := by
    have parts : Only [.layer, .live] (v.setLayer x y) ((v.setLayer x y).urgency x) := by
      unfold State.urgency
      exact .app (m := [.live]) (State.report_parts.mono (noteIf_parts rfl)) rfl (.app State.setLayer_only rfl .refl)
    exact parts .flt rfl
  have final : ((v.setLayer x y).urgency x).layer[x] = { y with urgent := u } := by
    rw [urgent, Vector.getElem_set_fin_self, set, Vector.getElem_set_fin_self]
  refine ⟨_, (lineFetchComplete_eq on fresh).trans (congrArg _ run), hostU.trans host, ?_, fun none_ once => ?_, quiet.trans raised,
    fun i other => ?_, surfU.trans (parts .surf rfl), compU.trans (parts .comp rfl)⟩
  · rw [final]
    exact fetched
  · rw [final]
    exact refetch none_ once
  · rw [urgent, Vector.getElem_set_fin_ne other, set, Vector.getElem_set_fin_ne other]

/-- Settles O50: a slot's reads change its own layer, and a fair order of requests has a best one. -/
theorem lineFetches : Obligations.LineFetches := by
  unfold Obligations.LineFetches
  refine ⟨fun t x s on canon => ⟨fun rest => lineFetchIssue_rests on rest, fun r composing en dropped torn next => ⟨?_, ?_, ?_⟩,
    fun waiting fresh => lineFetchComplete_rests on fresh waiting, fun q found fresh gone => lineFetchComplete_drops on fresh found gone,
    fun q r z found fresh flight ahead => lineFetchComplete_arrives on fresh found flight ahead⟩,
    fun last recent l some_ => nextGrant_fair some_⟩
  · intro src tag
    have run := (lineFetchIssue_eq (t := t) on composing en (by omega) dropped torn next).trans (congrArg _ (if_pos src))
    exact ⟨_, run, State.fetchStore_does (s := s.stamp t) (.only State.stamp_only rfl canon) dropped torn src tag⟩
  · intro src src' full
    refine (lineFetchIssue_eq (t := t) on composing en src dropped torn next).trans (congrArg _ ((if_neg src').trans ?_))
    rw [full]
    rfl
  · intro src src' room
    have run := (lineFetchIssue_eq (t := t) on composing en src dropped torn next).trans (congrArg _ (if_neg src'))
    rw [room] at run
    exact ⟨_, run, State.fetchLine_does (s := s.stamp t) src⟩

end
end Sys2Proof.Machine
end

section
/-! Fabric watchdog and registers. -/

namespace Sys2Proof.Machine

open Sys2Proof

/-! ### Segments that are reset (08 R311) -/

section
variable {s v n : State} {k : Fin 4} {u : Fin 2} {seg : Fin 8} {t : Nat}

theorem State.cutLoad_of (now : n.now = s.now) (regs : n.regs = s.regs) : n.cutLoad = s.cutLoad := by
  have rate := State.rateCode_of regs
  funext y
  unfold State.cutLoad State.bufferedFor
  rw [now, rate]

/-- A skein whose segments are reset holds its loads, those not in the lane buffers cut. -/
theorem State.resetSkein_does : Only [.skein, .stream, .out] s (s.resetSkein k) ∧
    ((s.resetSkein k).skein[k]).stalled = true ∧
    ((s.resetSkein k).skein[k]).queued = (s.skein[k]).queued.map s.cutLoad ∧
    ∀ j : Fin 4, j ≠ k → (s.resetSkein k).skein[j] = s.skein[j] := by
  have parts : Only [.stream, .out] s (s.bufferedOnly k) := State.bufferedOnly_parts
  unfold State.resetSkein
  dsimp only
  refine ⟨.app State.setSkein_only rfl (parts.mono rfl), ?_⟩
  rw [State.setSkein_skein, parts .skein rfl, Vector.getElem_set_fin_self]
  exact ⟨rfl, rfl, fun j other => Vector.getElem_set_fin_ne other⟩

/-- Every skein is reset with segments 5 to 7. -/
theorem State.resetShow_does : Only [.skein, .stream, .out] s s.resetShow ∧ ∀ k : Fin 4,
    (s.resetShow.skein[k]).stalled = true ∧ (s.resetShow.skein[k]).queued = (s.skein[k]).queued.map s.cutLoad := by
  obtain ⟨parts, each⟩ := foldl_each (g := State.resetSkein) (s := s) (ls := skeins)
    (I := fun w => Only [.skein, .stream, .out] s w) (P := fun k w => w.skein[k] = s.skein[k])
    (R := fun k w => (w.skein[k]).stalled = true ∧ (w.skein[k]).queued = (s.skein[k]).queued.map s.cutLoad)
    (List.nodup_finRange 4) .refl (fun _ => rfl) (fun w k h => .app State.resetSkein_does.1 rfl h)
    (fun w k j _ other h => (State.resetSkein_does.2.2.2 j other).trans h)
    (fun w k h same => by
      obtain ⟨-, stalled, queued, -⟩ := State.resetSkein_does (s := w) (k := k)
      refine ⟨stalled, queued.trans ?_⟩
      rw [same, State.cutLoad_of (h .now rfl).1 (h .regs rfl)])
    (fun w k j _ other h => by
      rw [State.resetSkein_does.2.2.2 j other]
      exact h)
  exact ⟨parts, fun k => (each k).1 (List.mem_finRange k)⟩

/-- One surface of the compose side is reset: its period is withheld. -/
def State.resetPeriod (s : State) (u : Fin 2) : State :=
  (s.withhold u).setComp u { (s.withhold u).comp[u] with composing := false, waitIntake := false, discard := true }

theorem State.resetPeriod_does : Only [.surf, .comp] s (s.resetPeriod u) ∧ ((s.resetPeriod u).comp[u]).composing = false ∧
    ((s.resetPeriod u).comp[u]).withheld = true ∧ ((s.resetPeriod u).comp[u]).discard = true ∧
    ((s.resetPeriod u).surf[u]).complete = false ∧
    ∀ w : Fin 2, w ≠ u → (s.resetPeriod u).comp[w] = s.comp[w] ∧ (s.resetPeriod u).surf[w] = s.surf[w] := by
  have held : (s.withhold u).comp = s.comp.set u { s.comp[u] with withheld := true, doneAt := none } ∧
      (s.withhold u).surf = s.surf.set u { s.surf[u] with complete := false } := ⟨rfl, rfl⟩
  have parts : Only [.surf, .comp] s (s.resetPeriod u) := .app State.setComp_only rfl State.withhold_only
  refine ⟨parts, ?_⟩
  unfold State.resetPeriod State.setComp
  generalize s.withhold u = w at held ⊢
  obtain ⟨comp, surf⟩ := held
  dsimp only
  rw [Vector.getElem_set_fin_self, surf, Vector.getElem_set_fin_self, comp]
  refine ⟨rfl, ?_, rfl, rfl, fun w other => ⟨?_, Vector.getElem_set_fin_ne other⟩⟩
  · exact congrArg Composer.withheld Vector.getElem_set_fin_self
  · rw [Vector.getElem_set_fin_ne other, Vector.getElem_set_fin_ne other]

/-- The periods being composed are withheld with segments 0 to 4. -/
theorem State.resetCompose_does : Only [.surf, .comp] s s.resetCompose ∧ ∀ u : Fin 2,
    ((s.comp[u]).composing = true → (s.resetCompose.comp[u]).composing = false ∧ (s.resetCompose.comp[u]).withheld = true ∧
      (s.resetCompose.comp[u]).discard = true ∧ (s.resetCompose.surf[u]).complete = false) ∧
    ((s.comp[u]).composing = false → s.resetCompose.comp[u] = s.comp[u] ∧ s.resetCompose.surf[u] = s.surf[u]) := by
  obtain ⟨parts, each⟩ := foldl_each (g := State.resetPeriod) (s := s) (ls := surfaces.filter
      (fun u => (s.comp[u]).composing))
    (I := fun w => Only [.surf, .comp] s w) (P := fun u w => w.comp[u] = s.comp[u] ∧ w.surf[u] = s.surf[u])
    (R := fun u w => (w.comp[u]).composing = false ∧ (w.comp[u]).withheld = true ∧ (w.comp[u]).discard = true ∧
      (w.surf[u]).complete = false) ((List.nodup_finRange 2).filter _) .refl (fun _ => ⟨rfl, rfl⟩)
    (fun w u h => .app State.resetPeriod_does.1 rfl h)
    (fun w u j _ other h => by
      obtain ⟨comp, surf⟩ := (State.resetPeriod_does (s := w) (u := u)).2.2.2.2.2 j other
      exact ⟨comp.trans h.1, surf.trans h.2⟩)
    (fun w u _ _ => by
      obtain ⟨-, composing, withheld, discard, complete, -⟩ := State.resetPeriod_does (s := w) (u := u)
      exact ⟨composing, withheld, discard, complete⟩)
    (fun w u j _ other h => by
      obtain ⟨comp, surf⟩ := (State.resetPeriod_does (s := w) (u := u)).2.2.2.2.2 j other
      rw [comp, surf]
      exact h)
  refine ⟨parts, fun u => ⟨fun composing => (each u).1 ?_, fun idle => (each u).2 ?_⟩⟩
  · exact List.mem_filter.mpr ⟨List.mem_finRange u, composing⟩
  · intro mem
    rw [(List.mem_filter.mp mem).2] at idle
    cases idle

/-- A segment that stalls, whichever side of the fabric it is on (08 R311). -/
theorem State.segmentStall_does (canon : s.Canonical) :
    (s.segmentStall seg).fab = { s.fab with stalls := s.fab.stalls.set seg ((s.now :: s.fab.stalls[seg]).take 2) } ∧
      lget (s.segmentStall seg).live (Reg.FB_STALLCNT 0) = satAdd (lget s.live (Reg.FB_STALLCNT 0)) 1 ∧
      LiveOnly [Reg.FB_STALLCNT 0] s (s.segmentStall seg) ∧
      Raised (Src.FB_STALL :: (if thirdStall (s.fab.stalls[seg]) s.now then [Src.FB_STALLP] else [])) s (s.segmentStall seg) ∧
      RegsOnly [Reg.FB_LASTERR 0] s (s.segmentStall seg) ∧
      Only [.regs, .live, .fab, .surf, .comp, .skein, .stream, .flt, .out] s (s.segmentStall seg) := by
  have words : (stallErrors seg s.stallSurf (thirdStall (s.fab.stalls[seg]) s.now)).flatMap Note.words ⊆ [Reg.FB_LASTERR 0] := by
    rw [stallErrors, List.flatMap_append]
    exact List.append_subset.mpr ⟨List.Subset.refl _, noteIf_words (List.nil_subset _)⟩
  have counts : (stallErrors seg s.stallSurf (thirdStall (s.fab.stalls[seg]) s.now)).flatMap Note.counts ⊆ [Reg.FB_STALLCNT 0] := by
    rw [stallErrors, List.flatMap_append]
    exact List.append_subset.mpr ⟨List.Subset.refl _, noteIf_counts (List.nil_subset _)⟩
  have srcs : (stallErrors seg s.stallSurf (thirdStall (s.fab.stalls[seg]) s.now)).filterMap Note.src =
      Src.FB_STALL :: (if thirdStall (s.fab.stalls[seg]) s.now then [Src.FB_STALLP] else []) := by
    rw [stallErrors, List.filterMap_append, noteIf_srcs]
    rfl
  have counted (v : Word) :
      (stallErrors seg s.stallSurf (thirdStall (s.fab.stalls[seg]) s.now)).foldl (Note.onCount (Reg.FB_STALLCNT 0)) v = satAdd v 1 := by
    rw [stallErrors, List.foldl_append, noteIf_onCount]
    exact ite_self _
  have noted : ((stallErrors seg s.stallSurf (thirdStall (s.fab.stalls[seg]) s.now)).flatMap Note.parts).all
      ([.regs, .live, .flt].contains ·) = true := by
    rw [stallErrors, List.flatMap_append, List.all_append, noteIf_parts rfl]
    rfl
  unfold State.segmentStall
  dsimp only
  generalize stallErrors seg s.stallSurf (thirdStall (s.fab.stalls[seg]) s.now) = notes at words counts srcs counted noted ⊢
  generalize hm : ({ s with fab := { s.fab with
    stalls := s.fab.stalls.set seg ((s.now :: s.fab.stalls[seg]).take 2) } } : State) = m
  have base : Only [.fab] s m := hm ▸ Only.set_fab
  have fab : m.fab = { s.fab with stalls := s.fab.stalls.set seg ((s.now :: s.fab.stalls[seg]).take 2) } := by rw [← hm]
  have reset : Only [.surf, .comp, .skein, .stream, .out] m (if seg.val < 5 then m.resetCompose else m.resetShow) :=
    .ite (State.resetCompose_does.1.mono rfl) (State.resetShow_does.1.mono rfl)
  generalize (if seg.val < 5 then m.resetCompose else m.resetShow) = w at reset ⊢
  have parts : Only [.fab, .surf, .comp, .skein, .stream, .out] s w := .app reset rfl (base.mono rfl)
  refine ⟨(State.report_only .fab rfl).trans ((reset .fab rfl).trans fab), State.report_counts canon.live (parts .live rfl) (counted _),
    State.report_liveOnly_of counts (parts .live rfl), State.report_raised (parts .flt rfl) srcs,
    State.report_regsOnly_of words (parts .regs rfl), .app (State.report_parts.mono noted) rfl (parts.mono rfl)⟩

end

/-! ### Commands of the fabric -/

section
variable {s : State} {t : Nat}

theorem segmentWatchdog_waits {seg : Fin 8} {w : SegWait} {ack : Option Nat} (on : s.coreOn = true)
    (held : (s.stamp t).watchdogHeld seg w = true ∨ (s.stamp t).acknowledged ack = true) :
    exec (.segmentWatchdog t seg w ack) s = .next (s.stamp t) :=
  (onCore_on on : execSegmentWatchdog t seg w ack s = _).trans (congrArg _ (if_pos (Bool.or_eq_true_iff.mpr held)))

theorem segmentWatchdog_trips {seg : Fin 8} {w : SegWait} {ack : Option Nat} (on : s.coreOn = true)
    (runs : (s.stamp t).watchdogHeld seg w = false) (late : (s.stamp t).acknowledged ack = false) (inside : ∀ d, w ≠ .crossing d) :
    exec (.segmentWatchdog t seg w ack) s = .next ((s.stamp t).segmentStall seg) := by
  refine (onCore_on on : execSegmentWatchdog t seg w ack s = _).trans (congrArg _ ?_)
  unfold State.watchdog
  rw [runs, late]
  cases w with
  | crossing d => exact absurd rfl (inside d)
  | handshake | line | token | laneBuffer => rfl

/-- Segments 5 to 7 that stall reset the skeins and leave what is composed. -/
theorem State.segmentStall_show {seg : Fin 8} (late : 5 ≤ seg.val) :
    (s.segmentStall seg).comp = s.comp ∧ (s.segmentStall seg).surf = s.surf ∧ ∀ k : Fin 4,
      ((s.segmentStall seg).skein[k]).stalled = true ∧ ((s.segmentStall seg).skein[k]).queued = (s.skein[k]).queued.map s.cutLoad := by
  unfold State.segmentStall
  dsimp only
  rw [if_neg (Nat.not_lt.mpr late)]
  generalize hm : ({ s with fab := { s.fab with
    stalls := s.fab.stalls.set seg ((s.now :: s.fab.stalls[seg]).take 2) } } : State) = m
  have base : Only [.fab] s m := hm ▸ Only.set_fab
  obtain ⟨parts, each⟩ := State.resetShow_does (s := m)
  refine ⟨(State.report_only .comp rfl).trans ((parts .comp rfl).trans (base .comp rfl)),
    (State.report_only .surf rfl).trans ((parts .surf rfl).trans (base .surf rfl)), fun k => ?_⟩
  obtain ⟨stalled, queued⟩ := each k
  rw [State.report_only .skein rfl, stalled, queued, base .skein rfl, State.cutLoad_of (base .now rfl).1 (base .regs rfl)]
  exact ⟨rfl, rfl⟩

/-- Segments 0 to 4 that stall withhold the periods being composed and leave the skeins. -/
theorem State.segmentStall_compose {seg : Fin 8} (early : seg.val < 5) :
    (s.segmentStall seg).skein = s.skein ∧ (s.segmentStall seg).stream = s.stream ∧ ∀ u : Fin 2,
      ((s.comp[u]).composing = true → ((s.segmentStall seg).comp[u]).composing = false ∧
        ((s.segmentStall seg).comp[u]).withheld = true ∧ ((s.segmentStall seg).comp[u]).discard = true ∧
        ((s.segmentStall seg).surf[u]).complete = false) ∧
      ((s.comp[u]).composing = false → (s.segmentStall seg).comp[u] = s.comp[u] ∧ (s.segmentStall seg).surf[u] = s.surf[u]) := by
  unfold State.segmentStall
  dsimp only
  rw [if_pos early]
  generalize hm : ({ s with fab := { s.fab with
    stalls := s.fab.stalls.set seg ((s.now :: s.fab.stalls[seg]).take 2) } } : State) = m
  have base : Only [.fab] s m := hm ▸ Only.set_fab
  obtain ⟨parts, each⟩ := State.resetCompose_does (s := m)
  refine ⟨(State.report_only .skein rfl).trans ((parts .skein rfl).trans (base .skein rfl)),
    (State.report_only .stream rfl).trans ((parts .stream rfl).trans (base .stream rfl)), fun u => ?_⟩
  have one := each u
  rw [base .comp rfl, base .surf rfl] at one
  rw [State.report_only .comp rfl, State.report_only .surf rfl]
  exact one

theorem segmentWatchdog_crossing {seg d : Fin 8} {ack : Option Nat} (on : s.coreOn = true) (canon : s.Canonical)
    (may : s.mayStall { live := 1, far := d, kind := .fifo } = true) (late : (s.stamp t).acknowledged ack = false) :
    ∃ n, exec (.segmentWatchdog t seg (.crossing d) ack) s = .next n ∧
      n.clk.stalled = s.clk.stalled ++ [{ live := 1, far := d, kind := .fifo }] ∧ n.fab = s.fab ∧ n.comp = s.comp ∧
      n.surf = s.surf := by
  have e : exec (.segmentWatchdog t seg (.crossing d) ack) s =
      .next ((s.stamp t).stallCrossing { live := 1, far := d, kind := .fifo } []) := by
    refine (onCore_on on : execSegmentWatchdog t seg (.crossing d) ack s = _).trans (congrArg _ ?_)
    rw [State.watchdog, late]
    exact State.when_true (s := s.stamp t) may
  obtain ⟨stalled, -, -, -, -, -, -, parts⟩ := State.stallCrossing_entry (c := { live := 1, far := d, kind := .fifo })
    (lost := []) (s := s.stamp t) (.only State.stamp_only rfl canon)
  exact ⟨_, e, stalled, parts .fab rfl, parts .comp rfl, parts .surf rfl⟩

/-- FB_INJ on the page of surface 0 (08 R315). -/
theorem State.writeFbInj_first {req : Req} {v : Word} : s.writeFbInj req 0 v =
    if !s.mayInject req then s.injError else if fld v 4 2 = 3 then s
    else { s with fab := { s.fab with inj := s.fab.inj.set (Fin.ofNat 8 (fld v 0 3)) (BitVec.ofNat 2 (fld v 4 2)) } } := by
  unfold State.writeFbInj
  exact if_neg (fun h => h rfl)

theorem State.writeFbInj_second {req : Req} {v : Word} : s.writeFbInj req 1 v = s := by
  unfold State.writeFbInj
  exact if_pos (by decide)

theorem fbInj_arms {req : Req} {v : Word} (write : s.Writable t req 0x20) (kind : fld v 4 2 ≠ 3) (may : s.mayInject req = true) :
    exec (.fbInj t req 0 v) s = .next { s.stamp t with
      fab := { s.fab with inj := s.fab.inj.set (Fin.ofNat 8 (fld v 0 3)) (BitVec.ofNat 2 (fld v 4 2)) } } := by
  refine (onCore_on write.1 : execFbInj t req 0 v s = _).trans (congrArg _ (write.access.trans ?_))
  rw [State.writeFbInj_first, show (s.stamp t).mayInject req = true from may, if_neg kind]
  rfl

theorem fbInj_reserved {req : Req} {v : Word} (write : s.Writable t req 0x20) (kind : fld v 4 2 = 3) (may : s.mayInject req = true) :
    exec (.fbInj t req 0 v) s = .next (s.stamp t) := by
  refine (onCore_on write.1 : execFbInj t req 0 v s = _).trans (congrArg _ (write.access.trans ?_))
  rw [State.writeFbInj_first, show (s.stamp t).mayInject req = true from may, if_pos kind]
  rfl

theorem fbInj_refused {req : Req} {v : Word} (write : s.Writable t req 0x20) (locked : s.mayInject req = false) :
    exec (.fbInj t req 0 v) s = .next (s.stamp t).injError := by
  refine (onCore_on write.1 : execFbInj t req 0 v s = _).trans (congrArg _ (write.access.trans ?_))
  rw [State.writeFbInj_first, show (s.stamp t).mayInject req = false from locked]
  rfl

theorem fbMreq_meters {req : Req} {v : Word} (write : s.Writable t req 0x20) (canon : s.Canonical) :
    ∃ n, exec (.fbMreq t req 0 v) s = .next n ∧
      rget n.regs (Reg.FB_MREQ 0) = at32 0 (min 12 (fld v 0 4)) ∧ RegsOnly [Reg.FB_MREQ 0] s n ∧
      n.fab = { s.fab with tokens := Vector.replicate 5 (16 - max s.mDroop (max s.fab.mTherm.toNat (min 12 (fld v 0 4)))) } ∧
      Only [.now, .regs, .fab] s n := by
  have e : exec (.fbMreq t req 0 v) s =
      .next ((s.stamp t).report [.word (Reg.FB_MREQ 0) (at32 0 (min 12 (fld v 0 4)))]).meter :=
    (onCore_on write.1 : execFbMreq t req 0 v s = _).trans (congrArg _ (write.access.trans (State.when_true (s := s.stamp t) rfl)))
  have words : RegsOnly [Reg.FB_MREQ 0] s ((s.stamp t).report [.word (Reg.FB_MREQ 0) (at32 0 (min 12 (fld v 0 4)))]) :=
    State.report_regsOnly_of (fun _ h => h) rfl
  have asked : rget ((s.stamp t).report [.word (Reg.FB_MREQ 0) (at32 0 (min 12 (fld v 0 4)))]).regs (Reg.FB_MREQ 0) =
      at32 0 (min 12 (fld v 0 4)) := State.report_reads canon.regs rfl (by simp [Note.onWord])
  have parts : Only [.now, .regs] s ((s.stamp t).report [.word (Reg.FB_MREQ 0) (at32 0 (min 12 (fld v 0 4)))]) :=
    .app State.report_parts rfl (State.stamp_only.mono rfl)
  generalize (s.stamp t).report [.word (Reg.FB_MREQ 0) (at32 0 (min 12 (fld v 0 4)))] = m at e words asked parts
  refine ⟨_, e, asked, words, ?_, .app (Only.set_fab (s := m)) rfl (parts.mono rfl)⟩
  have droop : m.mDroop = s.mDroop := by
    unfold State.mDroop
    rw [parts .pwr rfl]
    exact congrArg (fun x => if s.pwr.droop then fld x 0 4 else 0) (words (Reg.FB_MCFG 0 + 0x800) (by decide))
  have level : m.meterLevel m.mDroop = max s.mDroop (max s.fab.mTherm.toNat (min 12 (fld v 0 4))) := by
    rw [State.meterLevel, asked, droop, parts .fab rfl, fld_at32 (by decide), Nat.mod_eq_of_lt (by omega)]
  show ({ m.fab with tokens := Vector.replicate 5 (16 - m.meterLevel m.mDroop) } : Fabric) = _
  rw [level, parts .fab rfl]

theorem fbClr_restores {u : Fin 2} {req : Req} {v : Word} (write : s.Writable t req (0x20 + u.val)) (canon : s.Canonical) :
    ∃ n, exec (.fbClr t req u v) s = .next n ∧
      rget n.regs (Reg.FB_FSLACK_MIN u) = (if bit v 0 then 0xFFFFF else rget s.regs (Reg.FB_FSLACK_MIN u)) ∧
      rget n.regs (Reg.FB_SSLACK_MIN u) = (if bit v 1 then 0x100 else rget s.regs (Reg.FB_SSLACK_MIN u)) ∧
      RegsOnly [Reg.FB_FSLACK_MIN u, Reg.FB_SSLACK_MIN u] s n ∧ Only [.now, .regs] s n := by
  have apart : Reg.FB_FSLACK_MIN u ≠ Reg.FB_SSLACK_MIN u := (by decide : ∀ w : Fin 2, Reg.FB_FSLACK_MIN w ≠ Reg.FB_SSLACK_MIN w) u
  have e : exec
      (.fbClr t req u v) s = .next ((s.stamp t).report (noteIf (bit v 0) [.word (Reg.FB_FSLACK_MIN u) 0xFFFFF] ++
      noteIf (bit v 1) [.word (Reg.FB_SSLACK_MIN u) 0x100])) :=
    (onCore_on write.1 : execFbClr t req u v s = _).trans (congrArg _ write.access)
  refine ⟨_, e, State.report_reads canon.regs rfl ?_, State.report_reads canon.regs rfl ?_, State.report_regsOnly_of ?_ rfl,
    .app (m := [.regs]) (State.report_parts.mono ?_) rfl (State.stamp_only.mono rfl)⟩
  · rw [List.foldl_append, noteIf_onWord, noteIf_onWord]
    simp [Note.onWord, fun h => apart h]
  · rw [List.foldl_append, noteIf_onWord, noteIf_onWord]
    refine ite_congr rfl (fun _ => if_pos rfl) (fun _ => ?_)
    split
    · exact if_neg (fun h => apart h.symm)
    · rfl
  · rw [List.flatMap_append]
    exact List.append_subset.mpr ⟨noteIf_words (by simp [Note.words]), noteIf_words (by simp [Note.words])⟩
  · rw [List.flatMap_append, List.all_append, noteIf_parts rfl, noteIf_parts rfl]
    rfl

end

/-- Settles O51. -/
theorem fabricWatchdogAndRegisters : Obligations.FabricWatchdogAndRegisters := by
  unfold Obligations.FabricWatchdogAndRegisters
  intro t s canon
  have stamped : (s.stamp t).Canonical := .only State.stamp_only rfl canon
  refine ⟨fun seg w ack on held => segmentWatchdog_waits on held, fun seg w ack on runs late inside => ?_,
    fun seg d ack on may late => segmentWatchdog_crossing on canon may late,
    fun req v write kind may => ⟨_, fbInj_arms write kind may, rfl, .app (Only.set_fab (s := s.stamp t)) rfl (State.stamp_only.mono rfl)⟩,
    fun req v write kind may => fbInj_reserved write kind may,
    fun req v write => ⟨?_, ?_⟩, fun req v write locked => ?_, fun req v write => fbMreq_meters write canon,
    fun u req v write => fbClr_restores write canon⟩
  · obtain ⟨fab, count, counts, raised, words, parts⟩ := State.segmentStall_does (seg := seg) stamped
    exact ⟨_, segmentWatchdog_trips on runs late inside, fab, count, counts, raised, words, State.segmentStall_show,
      State.segmentStall_compose, .app parts rfl (State.stamp_only.mono rfl)⟩
  · exact (onCore_on write.1 : execFbInj t req 1 v s = _).trans (congrArg _ (write.access.trans State.writeFbInj_second))
  · exact (onCore_on write.1 : execFbMreq t req 1 v s = _).trans (congrArg _ (write.access.trans (State.when_false rfl)))
  · obtain ⟨flt, parts⟩ := State.injError_does (s := s.stamp t)
    exact ⟨_, fbInj_refused write locked, (congrArg Faults.inj flt :), (congrArg Faults.raised flt :),
      .app parts rfl (State.stamp_only.mono rfl)⟩

end Sys2Proof.Machine
end

section
/-! DMA control commands. -/

namespace Sys2Proof.Machine

open Sys2Proof

/-! ### Channels of the DMA engine -/

section
variable {s : State} {c d : Fin 8} {x : DmaCh} {t : Nat} {req : Req}

theorem State.setCh_self : (s.setCh c x).dma.ch[c] = x := Vector.getElem_set_fin_self

theorem State.setCh_other (other : d ≠ c) : (s.setCh c x).dma.ch[d] = s.dma.ch[d] := Vector.getElem_set_fin_ne other

/-- A channel's read of host memory keeps its tag and is one of the reads upstream. -/
theorem State.dmaUpRead_does {addr len : Nat} : (s.dmaUpRead c addr len).dma.ch[c] =
      { s.dma.ch[c] with upTag := some s.host.nextTag } ∧
    (∀ d : Fin 8, d ≠ c → (s.dmaUpRead c addr len).dma.ch[d] = s.dma.ch[d]) ∧
    (s.dmaUpRead c addr len).dma.lastGrant = s.dma.lastGrant ∧
    ∃ q ∈ (s.dmaUpRead c addr len).host.up, q.who = .dma c ∧ q.addr = addr ∧ q.len = len := by
  unfold State.dmaUpRead
  have same : (State.upRead
      (.dma c) addr len { s with host := s.host.forget c }).dma = s.dma := State.report_only .dma rfl
  dsimp only
  rw [State.setCh_self, same]
  refine ⟨rfl, fun d other => ?_, (congrArg Dma.lastGrant same :),
    ⟨_, List.mem_append_right _ (List.mem_singleton.mpr rfl), rfl, rfl, rfl⟩⟩
  rw [State.setCh_other other, same]

/-- The fetch of the descriptor at CUR, whichever space it is in. -/
theorem State.dmaFetch_does : ((s.dmaFetch c).dma.ch[c]).st = .fetch ∧ ((s.dmaFetch c).dma.ch[c]).owner = (s.dma.ch[c]).owner ∧
    ((s.dmaFetch c).dma.ch[c]).cur = (s.dma.ch[c]).cur ∧ ((s.dmaFetch c).dma.ch[c]).curSp = (s.dma.ch[c]).curSp ∧
    ((s.dma.ch[c]).curSp = false → ∃ q ∈ (s.dmaFetch c).host.up, q.who = .dma c ∧ q.addr = (s.dma.ch[c]).cur.toNat ∧ q.len = 32) ∧
    ((s.dma.ch[c]).curSp = true → Only [.dma] s (s.dmaFetch c)) ∧
    ∀ d : Fin 8, d ≠ c → (s.dmaFetch c).dma.ch[d] = s.dma.ch[d] := by
  unfold State.dmaFetch
  dsimp only
  generalize hm : s.setCh c { s.dma.ch[c] with
    st := .fetch, upTag := none, reread := false, moved := 0, burst := false, taken := false } = m
  have at_ : m.dma.ch[c] = { s.dma.ch[c] with
      st := .fetch, upTag := none, reread := false, moved := 0, burst := false, taken := false } := hm ▸ State.setCh_self
  have others : ∀ d : Fin 8, d ≠ c → m.dma.ch[d] = s.dma.ch[d] := fun d other => hm ▸ State.setCh_other other
  have parts : Only [.dma] s m := hm ▸ State.setCh_only
  rw [at_]
  dsimp only
  cases space : (s.dma.ch[c]).curSp
  · obtain ⟨self, away, -, read⟩ := State.dmaUpRead_does (s := m) (c := c) (addr := (s.dma.ch[c]).cur.toNat) (len := 32)
    rw [if_neg Bool.false_ne_true, self, at_]
    exact ⟨rfl, rfl, rfl, space, fun _ => read, fun h => (nomatch h), fun d other => (away d other).trans (others d other)⟩
  · rw [if_pos rfl, at_]
    exact ⟨rfl, rfl, rfl, space, fun h => (nomatch h), fun _ => parts, others⟩

/-- The re-read of a parked channel's descriptor. -/
theorem State.dmaReread_does : ((s.dmaReread c).dma.ch[c]).reread = true ∧ ((s.dmaReread c).dma.ch[c]).doorPend = false ∧
    ((s.dmaReread c).dma.ch[c]).st = (s.dma.ch[c]).st ∧ ((s.dmaReread c).dma.ch[c]).cur = (s.dma.ch[c]).cur ∧
    ∀ d : Fin 8, d ≠ c → (s.dmaReread c).dma.ch[d] = s.dma.ch[d] := by
  unfold State.dmaReread
  dsimp only
  generalize hm : s.setCh c { s.dma.ch[c] with doorPend := false, reread := true, upTag := none } = m
  have at_ : m.dma.ch[c] = { s.dma.ch[c] with doorPend := false, reread := true, upTag := none } := hm ▸ State.setCh_self
  have others : ∀ d : Fin 8, d ≠ c → m.dma.ch[d] = s.dma.ch[d] := fun d other => hm ▸ State.setCh_other other
  rw [at_]
  dsimp only
  cases space : (s.dma.ch[c]).curSp
  · obtain ⟨self, away, -⟩ := State.dmaUpRead_does (s := m) (c := c) (addr := (s.dma.ch[c]).cur.toNat + 0x10) (len := 8)
    rw [if_neg Bool.false_ne_true, self, at_]
    exact ⟨rfl, rfl, rfl, rfl, fun d other => (away d other).trans (others d other)⟩
  · rw [if_pos rfl, at_]
    exact ⟨rfl, rfl, rfl, rfl, others⟩

/-- A channel's descriptor ends in WB where a write-back is due. -/
theorem State.dmaEnd_writesBack {out : DmaOut} {cause residue : Nat} (back : out ≠ .done ∨ bit (s.dma.ch[c]).desc.ctl 6 = true) :
    s.dmaEnd c out cause residue = (s.setCh c { s.dma.ch[c] with
      st := .wb, lastOut := out, cause := if out = .bad then BitVec.ofNat 4 cause else (s.dma.ch[c]).cause
      residue := BitVec.ofNat 24 residue, doneCnt := (s.dma.ch[c]).doneCnt + 1, burst := false, upTag := none }).report
        (outcomeNotes c out (bit (s.dma.ch[c]).desc.ctl 5)) := by
  unfold State.dmaEnd
  exact if_pos (by simpa [DmaCh.writesBack] using back)

/-- An aborted descriptor reports nothing. -/
theorem State.dmaEnd_aborts {residue : Nat} : s.dmaEnd c .aborted 0 residue = s.setCh c { s.dma.ch[c] with
    st := .wb, lastOut := .aborted, residue := BitVec.ofNat 24 residue, doneCnt := (s.dma.ch[c]).doneCnt + 1
    burst := false, upTag := none } := by
  rw [State.dmaEnd_writesBack (out := .aborted) (.inl (by decide))]
  exact State.report_nil

/-- ABORT of a channel in WAIT and of one in MOVE. -/
theorem State.dmaAborted_waits (waits : (s.dma.ch[c]).st = .wait) :
    s.dmaAborted c = s.dmaEnd c .aborted 0 (s.dma.ch[c]).left := by
  unfold State.dmaAborted
  exact (if_neg (by rw [waits]; decide)).trans ((if_neg (by rw [waits]; decide)).trans (if_pos waits))

theorem State.dmaAborted_moves (moves : (s.dma.ch[c]).st = .move) :
    s.dmaAborted c = s.setCh c { s.dma.ch[c] with abortPend := true } := by
  unfold State.dmaAborted
  exact (if_neg (by rw [moves]; decide)).trans ((if_neg (by rw [moves]; decide)).trans (if_neg (by rw [moves]; decide)))

/-! ### Control commands (14 R510, R519–R524) -/

/-- What a command leaves that replaces its channel, and may set a bit by an event. -/
theorem State.setCh_stamp {y : DmaCh} : ((s.stamp t).setCh c y).dma = { s.dma with ch := s.dma.ch.set c y } ∧
    Only [.now, .dma] s ((s.stamp t).setCh c y) :=
  ⟨rfl, .app State.setCh_only rfl (State.stamp_only.mono rfl)⟩

theorem State.setCh_hit {a m : Nat} {y : DmaCh} : (State.hit a m ((s.stamp t).setCh c y)).dma = { s.dma with ch := s.dma.ch.set c y } ∧
    Only [.now, .dma] s (State.hit a m ((s.stamp t).setCh c y)) :=
  ⟨rfl, .app State.hit_only rfl State.setCh_stamp.2⟩

theorem exec_dmaStart_open (write : s.Writable t req 0x0A) : exec
    (.dmaStart t req c) s = .next (State.dmaStart req c (s.stamp t)) :=
  (onCore_on write.1 : execDmaStart t req c s = _).trans (congrArg _ write.access)

theorem exec_dmaDoor_open (write : s.Writable t req 0x0A) : exec
    (.dmaDoor t req c) s = .next (State.dmaDoor c (s.stamp t)) :=
  (onCore_on write.1 : execDmaDoor t req c s = _).trans (congrArg _ write.access)

theorem exec_dmaSwreq_open (write : s.Writable t req 0x0A) : exec
    (.dmaSwreq t req c) s = .next (State.dmaSwreq c (s.stamp t)) :=
  (onCore_on write.1 : execDmaSwreq t req c s = _).trans (congrArg _ write.access)

theorem exec_dmaStop_open (write : s.Writable t req 0x0A) (fresh : s.Fresh (.dmaStop t req c)) :
    exec (.dmaStop t req c) s = .next (State.dmaStop c (s.stamp t)) :=
  (onCore_on write.1 : execDmaStop t req c s = _).trans (congrArg _ ((State.once_fresh fresh).trans write.access))

theorem exec_dmaAbort_open (write : s.Writable t req 0x0A) (fresh : s.Fresh (.dmaAbort t req c)) :
    exec (.dmaAbort t req c) s = .next (State.dmaAbort c (s.stamp t)) :=
  (onCore_on write.1 : execDmaAbort t req c s = _).trans (congrArg _ ((State.once_fresh fresh).trans write.access))

/-- START of an idle channel takes DSC and fetches its descriptor. -/
theorem State.dmaStart_fetches (idle : (s.dma.ch[c]).st = .idle) (good : s.startRefused c = false) :
    s.dmaStart req c = (s.setCh c { s.dma.ch[c] with
      owner := s.ownerBit req == 1, cur := s.dmaDsc c, curSp := bit (rget s.regs (Reg.DMA_CFG c)) 4 }).dmaFetch c := by
  unfold State.dmaStart
  exact (if_neg (not_not_intro idle)).trans (if_neg (by rw [good]; exact Bool.false_ne_true))

end

/-- Settles O52. -/
theorem dmaControlCommands : Obligations.DmaControlCommands := by
  unfold Obligations.DmaControlCommands
  intro t req c s canon write
  refine ⟨fun busy => ?_, fun idle refused => ?_, fun idle good => ?_, fun k h idle fresh => ?_, fun parked fresh => ?_,
    fun busy running fresh => ?_, fun service fresh => ?_, fun late waits fresh => ?_, fun late moves fresh => ?_,
    fun running => ?_, fun parked idle => ?_, fun busy => ?_⟩
  · exact ⟨_, (exec_dmaStart_open write).trans (congrArg _ (if_pos (by exact busy))), State.setCh_hit⟩
  · exact ⟨_, (exec_dmaStart_open write).trans (congrArg _ ((if_neg (not_not_intro (by exact idle))).trans (if_pos (by exact refused)))),
      State.setCh_hit⟩
  · have e := (exec_dmaStart_open (c := c) write).trans (congrArg _ (State.dmaStart_fetches (s := s.stamp t) idle good))
    generalize hm : (s.stamp t).setCh c { (s.stamp t).dma.ch[c] with
      owner := (s.stamp t).ownerBit req == 1, cur := (s.stamp t).dmaDsc c
      curSp := bit (rget (s.stamp t).regs (Reg.DMA_CFG c)) 4 } = m at e
    have at_ : m.dma.ch[c] = { s.dma.ch[c] with
      owner := (s.stamp t).ownerBit req == 1, cur := (s.stamp t).dmaDsc c
      curSp := bit (rget (s.stamp t).regs (Reg.DMA_CFG c)) 4 } := hm ▸ State.setCh_self
    have others : ∀ d : Fin 8, d ≠ c → m.dma.ch[d] = s.dma.ch[d] := fun d other => hm ▸ State.setCh_other other
    have parts : Only [.now, .dma] s m := hm ▸ State.setCh_stamp.2
    obtain ⟨st, owner, cur, space, host, chip, away⟩ := State.dmaFetch_does (s := m) (c := c)
    rw [at_] at owner cur space host chip
    exact ⟨_, e, st, owner, cur, space, host, fun h => .app (chip h) rfl parts, fun d other => (away d other).trans (others d other)⟩
  · rcases h with rfl | rfl
    · exact (exec_dmaStop_open write fresh).trans (congrArg _ (if_pos (by exact idle)))
    · exact (exec_dmaSwreq_open write).trans (congrArg _ (if_pos (by exact idle)))
  · have busy : (s.dma.ch[c]).st ≠ .idle := by rw [parked]; decide
    exact ⟨_, (exec_dmaStop_open write fresh).trans (congrArg _ ((if_neg (by exact busy)).trans (if_pos (by exact parked)))),
      State.setCh_stamp⟩
  · exact ⟨_, (exec_dmaStop_open write fresh).trans (congrArg _ ((if_neg (by exact busy)).trans (if_neg (by exact running)))),
      State.setCh_stamp⟩
  · exact ⟨_, (exec_dmaAbort_open write fresh).trans (congrArg _ (if_pos (by exact service))), State.setCh_hit⟩
  · have e := (exec_dmaAbort_open (c := c) write fresh).trans (congrArg _ (if_neg (by rw [late]; exact Bool.false_ne_true)))
    rw [State.dmaAborted_waits (by exact waits), State.dmaEnd_aborts] at e
    refine ⟨_, e, ?_, ?_, ?_, ?_, fun d other => State.setCh_other other, State.setCh_stamp.2⟩ <;> rw [State.setCh_self] <;> rfl
  · have e := (exec_dmaAbort_open (c := c) write fresh).trans (congrArg _ (if_neg (by rw [late]; exact Bool.false_ne_true)))
    rw [State.dmaAborted_moves (by exact moves)] at e
    exact ⟨_, e, State.setCh_stamp⟩
  · exact ⟨_, (exec_dmaDoor_open write).trans (congrArg _ (if_neg (fun h => running h.1))), State.setCh_stamp⟩
  · obtain ⟨reread, door, st, cur, away⟩ := State.dmaReread_does (s := s.stamp t) (c := c)
    exact ⟨_, (exec_dmaDoor_open write).trans (congrArg _ (if_pos (by exact ⟨parked, idle⟩))), reread, door, st.trans parked, cur, away⟩
  · by_cases full : (s.dma.ch[c]).swPend = 255
    · rw [if_pos full]
      exact ⟨_, (exec_dmaSwreq_open write).trans (congrArg _ ((if_neg (by exact busy)).trans (if_pos (by exact full)))), State.setCh_hit⟩
    · rw [if_neg full]
      exact ⟨_, (exec_dmaSwreq_open write).trans (congrArg _ ((if_neg (by exact busy)).trans (if_neg (by exact full)))), State.setCh_stamp⟩

end Sys2Proof.Machine
end

section
/-! DMA descriptors, requests and grants. -/

namespace Sys2Proof.Machine

open Sys2Proof

section
variable {s m : State} {c d : Fin 8} {t : Nat} {b : List Byte}

/-! ### Descriptors that end BAD (14 R512, R514) -/

theorem Note.onWord_irq {p i : Nat} {v : Word} : Note.onWord (rawOf p) v (.irq p i) = v ||| BitVec.ofNat 32 (2 ^ i) := by
  unfold Note.irq Note.onWord
  exact if_pos rfl

/-- A descriptor that ends BAD counts, raises DMA_BAD and sets its event. -/
theorem State.dmaEnd_bad {cause residue : Nat} (canon : smWf regReset s.regs = true) :
    ((s.dmaEnd c .bad cause residue).dma.ch[c]).st = .wb ∧ ((s.dmaEnd c .bad cause residue).dma.ch[c]).lastOut = .bad ∧
      ((s.dmaEnd c .bad cause residue).dma.ch[c]).cause = BitVec.ofNat 4 cause ∧
      ((s.dmaEnd c .bad cause residue).dma.ch[c]).residue = BitVec.ofNat 24 residue ∧
      Raised [Src.DMA_BAD] s (s.dmaEnd c .bad cause residue) ∧
      rget (s.dmaEnd c .bad cause residue).regs (Reg.DMA_BADCNT c) = satAdd (rget s.regs (Reg.DMA_BADCNT c)) 1 ∧
      rget (s.dmaEnd c .bad cause residue).regs (rawOf 0x0A) = rget s.regs (rawOf 0x0A) ||| BitVec.ofNat 32 (2 ^ (8 + c.val)) ∧
      RegsOnly [rawOf 0x0A, Reg.DMA_BADCNT c] s (s.dmaEnd c .bad cause residue) ∧
      (∀ d : Fin 8, d ≠ c → (s.dmaEnd c .bad cause residue).dma.ch[d] = s.dma.ch[d]) ∧
      Only [.now, .regs, .flt, .dma] s (s.dmaEnd c .bad cause residue) := by
  have apart : Reg.DMA_BADCNT c ≠ rawOf 0x0A := (by decide : ∀ w : Fin 8, Reg.DMA_BADCNT w ≠ rawOf 0x0A) c
  rw [State.dmaEnd_writesBack (out := .bad) (.inl (by decide))]
  have notes : outcomeNotes c .bad (bit (s.dma.ch[c]).desc.ctl 5) =
      [.irq 0x0A (8 + c.val), .count (Reg.DMA_BADCNT c) 1, .raise Src.DMA_BAD] := rfl
  rw [notes]
  refine ⟨?_, ?_, ?_, ?_, State.report_raised rfl rfl, State.report_reads canon rfl ?_, State.report_reads canon rfl ?_,
    State.report_regsOnly_of
        (fun _ h => h) rfl, fun d other => State.setCh_other other, .app State.report_parts rfl (State.setCh_only.mono rfl)⟩
  · exact congrArg DmaCh.st State.setCh_self
  · exact congrArg DmaCh.lastOut State.setCh_self
  · exact congrArg DmaCh.cause State.setCh_self
  · exact congrArg DmaCh.residue State.setCh_self
  · exact (if_pos rfl).trans (congrArg (satAdd · 1) (if_neg apart))
  · exact (if_neg apart.symm).trans Note.onWord_irq

/-! ### Descriptors fetched (14 R511, R521, R522) -/

theorem State.fetchResult_host {a len : Nat} {q : UpReq} (space : (s.dma.ch[c]).curSp = false)
    (found : s.host.up.find? (fun r => some r.tag == (s.dma.ch[c]).upTag) = some q) (data : q.res = .data b) :
    s.fetchResult c a len = some (some b) := by
  unfold State.fetchResult
  dsimp only
  rw [space, if_neg Bool.false_ne_true, found]
  dsimp only
  rw [data]

/-- A read that has been taken leaves the channel without a tag. -/
theorem State.dmaTook_does : (s.dmaTook c).dma.ch[c] = { s.dma.ch[c] with upTag := none } ∧
    (∀ d : Fin 8, d ≠ c → (s.dmaTook c).dma.ch[d] = s.dma.ch[d]) ∧ Only [.host, .dma] s (s.dmaTook c) :=
  ⟨State.setCh_self, fun _ other => State.setCh_other other,
    .app (Only.set_host (v := s.host.forget c)) rfl (State.setCh_only.mono rfl)⟩

/-- A sound descriptor takes the channel to MOVE, or to WAIT with PACE. -/
theorem State.fetched_starts (kept : (s.dma.ch[c]).abortPend = false) (runs : (s.dma.ch[c]).stopPend = false)
    (sound : (descOf b).malformed = false) : s.fetched c b = s.setCh c { s.dma.ch[c] with
      desc := descOf b, moved := 0, st := if (descOf b).pace then .wait else .move, readyAt := s.now } := by
  unfold State.fetched
  dsimp only
  rw [kept, runs, sound, if_neg Bool.false_ne_true, if_neg Bool.false_ne_true, if_neg Bool.false_ne_true, State.setCh_setCh]
  rfl

theorem State.fetched_malformed (kept : (s.dma.ch[c]).abortPend = false) (runs : (s.dma.ch[c]).stopPend = false)
    (bad : (descOf b).malformed = true) : s.fetched c b =
      (s.setCh c { s.dma.ch[c] with desc := descOf b, moved := 0 }).dmaEnd c .bad 1 (descOf b).count := by
  unfold State.fetched
  dsimp only
  rw [kept, runs, bad, if_neg Bool.false_ne_true, if_neg Bool.false_ne_true, if_pos rfl]

/-- A descriptor read again whose END is clear sends the channel on to NEXT. -/
theorem State.refetched_advances (goes : Nat.testBit (leAt b 0 8) 1 = false) : ((s.refetched c b).dma.ch[c]).st = .fetch ∧
    ((s.refetched c b).dma.ch[c]).cur = BitVec.ofNat 64 (leAt b 0 8) &&& 0xFFFFFFFFFFFFFFC0#64 ∧
    ∀ d : Fin 8, d ≠ c → (s.refetched c b).dma.ch[d] = s.dma.ch[d] := by
  have clear : bit (BitVec.ofNat 64 (leAt b 0 8)) 1 = false := by
    rw [bit, BitVec.getLsbD, BitVec.toNat_ofNat, Nat.testBit_mod_two_pow, goes, Bool.and_false]
  unfold State.refetched
  dsimp only
  rw [clear, Bool.not_false, if_pos rfl, State.setCh_setCh]
  generalize hm : s.setCh c _ = m
  have self : (m.dma.ch[c]).cur = BitVec.ofNat 64 (leAt b 0 8) &&& 0xFFFFFFFFFFFFFFC0#64 := by
    rw [← hm, State.setCh_self]
    rfl
  have others : ∀ d : Fin 8, d ≠ c → m.dma.ch[d] = s.dma.ch[d] := fun d other => hm ▸ State.setCh_other other
  obtain ⟨st, -, cur, -, -, -, away⟩ := State.dmaFetch_does (s := m) (c := c)
  exact ⟨st, cur.trans self, fun d other => (away d other).trans (others d other)⟩

/-- The descriptor read under way has brought its bytes. -/
theorem descriptorFetched_fetches {q : UpReq} (on : s.coreOn = true) (space : (s.dma.ch[c]).curSp = false)
    (found : s.host.up.find? (fun r => some r.tag == (s.dma.ch[c]).upTag) = some q) (data : q.res = .data b)
    (fetch : (s.dma.ch[c]).st = .fetch) :
    exec (.descriptorFetched t c) s = .next (((s.stamp t).dmaTook c).fetched c b) := by
  refine (onCore_on on : execDescriptorFetched t c s = _).trans (congrArg _ ?_)
  unfold State.descriptorIn
  dsimp only
  rw [if_pos (by exact fetch), State.fetchResult_host (s := s.stamp t) space found data]

theorem descriptorFetched_rereads {q : UpReq} (on : s.coreOn = true) (space : (s.dma.ch[c]).curSp = false)
    (found : s.host.up.find? (fun r => some r.tag == (s.dma.ch[c]).upTag) = some q) (data : q.res = .data b)
    (parked : (s.dma.ch[c]).st = .parked) (again : (s.dma.ch[c]).reread = true) :
    exec (.descriptorFetched t c) s = .next (((s.stamp t).dmaTook c).refetched c b) := by
  have away : ((s.stamp t).dma.ch[c]).st ≠ .fetch := fun h => by
    rw [show ((s.stamp t).dma.ch[c]).st = .parked from parked] at h
    cases h
  refine (onCore_on on : execDescriptorFetched t c s = _).trans (congrArg _ ?_)
  unfold State.descriptorIn
  dsimp only
  rw [if_neg away, if_pos (by exact ⟨parked, again⟩), State.fetchResult_host (s := s.stamp t) space found data]

theorem descriptorFetched_sound {q : UpReq} (on : s.coreOn = true) (space : (s.dma.ch[c]).curSp = false)
    (found : s.host.up.find? (fun r => some r.tag == (s.dma.ch[c]).upTag) = some q) (data : q.res = .data b)
    (fetch : (s.dma.ch[c]).st = .fetch) (kept : (s.dma.ch[c]).abortPend = false) (runs : (s.dma.ch[c]).stopPend = false)
    (sound : (descOf b).malformed = false) : ∃ n, exec (.descriptorFetched t c) s = .next n ∧
      (n.dma.ch[c]).desc = descOf b ∧ (n.dma.ch[c]).moved = 0 ∧ (n.dma.ch[c]).st = (if (descOf b).pace then .wait else .move) ∧
      (∀ d : Fin 8, d ≠ c → n.dma.ch[d] = s.dma.ch[d]) ∧ Only [.now, .host, .dma] s n := by
  have e := descriptorFetched_fetches (t := t) on space found data fetch
  obtain ⟨self, others, parts⟩ := State.dmaTook_does (s := s.stamp t) (c := c)
  generalize (s.stamp t).dmaTook c = m at e self others parts
  rw [State.fetched_starts (by rw [self]; exact kept) (by rw [self]; exact runs) sound] at e
  refine ⟨_, e, ?_, ?_, ?_, fun d other => (State.setCh_other other).trans (others d other),
    .app State.setCh_only rfl (.app parts rfl (State.stamp_only.mono rfl))⟩
  · exact congrArg DmaCh.desc State.setCh_self
  · exact congrArg DmaCh.moved State.setCh_self
  · exact congrArg DmaCh.st State.setCh_self

theorem descriptorFetched_malformed {q : UpReq} (on : s.coreOn = true) (canon : s.Canonical) (space : (s.dma.ch[c]).curSp = false)
    (found : s.host.up.find? (fun r => some r.tag == (s.dma.ch[c]).upTag) = some q) (data : q.res = .data b)
    (fetch : (s.dma.ch[c]).st = .fetch) (kept : (s.dma.ch[c]).abortPend = false) (runs : (s.dma.ch[c]).stopPend = false)
    (bad : (descOf b).malformed = true) : ∃ n, exec (.descriptorFetched t c) s = .next n ∧
      (n.dma.ch[c]).st = .wb ∧ (n.dma.ch[c]).lastOut = .bad ∧ (n.dma.ch[c]).cause = 1 ∧
      (n.dma.ch[c]).residue = BitVec.ofNat 24 (descOf b).count ∧ Raised [Src.DMA_BAD] s n ∧
      rget n.regs (Reg.DMA_BADCNT c) = satAdd (rget s.regs (Reg.DMA_BADCNT c)) 1 ∧
      rget n.regs (rawOf 0x0A) = rget s.regs (rawOf 0x0A) ||| BitVec.ofNat 32 (2 ^ (8 + c.val)) ∧
      RegsOnly [rawOf 0x0A, Reg.DMA_BADCNT c] s n ∧ (∀ d : Fin 8, d ≠ c → n.dma.ch[d] = s.dma.ch[d]) ∧
      Only [.now, .regs, .flt, .host, .dma] s n := by
  have e := descriptorFetched_fetches (t := t) on space found data fetch
  obtain ⟨self, others, parts⟩ := State.dmaTook_does (s := s.stamp t) (c := c)
  generalize (s.stamp t).dmaTook c = m at e self others parts
  rw [State.fetched_malformed (by rw [self]; exact kept) (by rw [self]; exact runs) bad] at e
  have before : Only [.now, .host, .dma] s (m.setCh c { m.dma.ch[c] with desc := descOf b, moved := 0 }) :=
    .app State.setCh_only rfl (.app parts rfl (State.stamp_only.mono rfl))
  have away : ∀ d : Fin 8, d ≠ c → (m.setCh c { m.dma.ch[c] with desc := descOf b, moved := 0 }).dma.ch[d] = s.dma.ch[d] :=
    fun d other => (State.setCh_other other).trans (others d other)
  generalize m.setCh c { m.dma.ch[c] with desc := descOf b, moved := 0 } = w at e before away
  have regs : w.regs = s.regs := before .regs rfl
  obtain ⟨st, out, cause, residue, raised, count, event, words, apart, ended⟩ :=
    State.dmaEnd_bad (s := w) (c := c) (cause := 1) (residue := (descOf b).count) (regs ▸ canon.regs)
  rw [regs] at count event
  refine ⟨_, e, st, out, cause, residue, ?_, count, event, fun a h => (words a h).trans (congrArg (rget · a) regs),
    fun d other => (apart d other).trans (away d other), .app ended rfl (before.mono rfl)⟩
  rw [Raised, ← before .flt rfl]
  exact raised

/-! ### Requests taken (14 R509, R510, R526) -/

theorem exec_dmaRequestTaken_on (on : s.coreOn = true) :
    exec (.dmaRequestTaken t c) s = .next ((s.stamp t).requestIn c) :=
  (onCore_on on : execDmaRequestTaken t c s = _)

theorem State.requestIn_aborts (waits : ((s.haltFirst c).dma.ch[c]).st = .wait) (abort : ((s.haltFirst c).dma.ch[c]).abortPend = true) :
    s.requestIn c = (s.haltFirst c).dmaEnd c .aborted 0 ((s.haltFirst c).dma.ch[c]).left :=
  if_pos (by exact ⟨waits, abort⟩)

theorem State.requestIn_takes (h : ¬ (((s.haltFirst c).dma.ch[c]).st = .wait ∧ ((s.haltFirst c).dma.ch[c]).abortPend = true)) :
    s.requestIn c = (s.haltFirst c).takeRequest c :=
  if_neg (by exact h)

/-! ### Bursts granted (14 R513) -/

theorem State.grant_does : ((s.grant c).dma.ch[c]).burst = true ∧ ((s.grant c).dma.ch[c]).st = (s.dma.ch[c]).st ∧
    (s.grant c).dma.lastGrant = c ∧ ((s.dma.ch[c]).desc.srcChip = true → Only [.dma] s (s.grant c)) ∧
    ((s.dma.ch[c]).desc.srcChip = false → ∃ q ∈ (s.grant c).host.up, q.who = .dma c ∧ q.addr = (s.dma.ch[c]).burstSrc ∧
      q.len = (s.dma.ch[c]).burstLen) ∧ ∀ d : Fin 8, d ≠ c → (s.grant c).dma.ch[d] = s.dma.ch[d] := by
  unfold State.grant
  dsimp only
  generalize hm : s.setCh c { s.dma.ch[c] with burst := true, buf := [], upTag := none } = m
  have at_ : m.dma.ch[c] = { s.dma.ch[c] with burst := true, buf := [], upTag := none } := hm ▸ State.setCh_self
  have others : ∀ d : Fin 8, d ≠ c → m.dma.ch[d] = s.dma.ch[d] := fun d other => hm ▸ State.setCh_other other
  have parts : Only [.dma] s m := hm ▸ State.setCh_only
  generalize hw : ({ m with dma := { m.dma with lastGrant := c } } : State) = w
  have chans : w.dma.ch = m.dma.ch := by rw [← hw]
  have last : w.dma.lastGrant = c := by rw [← hw]
  have all : Only [.dma] s w := hw ▸ .app (Only.set_dma (s := m)) rfl parts
  cases chip : (s.dma.ch[c]).desc.srcChip
  · obtain ⟨self, away, grant, read⟩ := State.dmaUpRead_does (s := w) (c := c) (addr := (s.dma.ch[c]).burstSrc)
      (len := (s.dma.ch[c]).burstLen)
    simp only [chans, at_] at self away
    rw [if_neg Bool.false_ne_true, self]
    exact ⟨rfl, rfl, grant.trans last, fun h => (nomatch h), fun _ => read, fun d other => (away d other).trans (others d other)⟩
  · rw [if_pos rfl]
    simp only [chans, at_]
    exact ⟨trivial, trivial, last, fun _ => all, fun h => (nomatch h), others⟩

/-- A channel that may be granted a burst is in MOVE. -/
theorem State.mayGrant_moves (may : s.mayGrant c = true) : (s.dma.ch[c]).st = .move := by
  simp only [State.mayGrant, State.dmaReady, Bool.and_eq_true, beq_iff_eq] at may
  exact may.1.1.1.1.1

theorem exec_dmaBurstGrant_on (on : s.coreOn = true) :
    exec (.dmaBurstGrant t c) s = .next ((s.stamp t).when (s.mayGrant c) (State.grant c)) :=
  (onCore_on on : execDmaBurstGrant t c s = _)

end

/-- Settles O53. -/
theorem dmaDescriptorsRequestsAndGrants : Obligations.DmaDescriptorsRequestsAndGrants := by
  unfold Obligations.DmaDescriptorsRequestsAndGrants
  intro t c s on canon
  refine ⟨fun q b space found data => ⟨fun fetch kept runs => ⟨fun sound => ?_, fun bad => ?_⟩, fun parked again goes => ?_⟩,
    fun m hm => ⟨fun waits abort => ?_, fun waits kept asserted settled => ?_, fun h => ?_⟩, fun may => ?_, fun may => ?_⟩
  · exact descriptorFetched_sound on space found data fetch kept runs sound
  · exact descriptorFetched_malformed on canon space found data fetch kept runs bad
  · obtain ⟨st, cur, away⟩ := State.refetched_advances (s := (s.stamp t).dmaTook c) (c := c) goes
    exact ⟨_, descriptorFetched_rereads on space found data parked again, st, cur,
      fun d other => (away d other).trans (State.dmaTook_does.2.1 d other)⟩
  · subst hm
    have e := (exec_dmaRequestTaken_on (t := t) (c := c) on).trans (congrArg _ (State.requestIn_aborts waits abort))
    rw [State.dmaEnd_aborts] at e
    exact ⟨_, e, congrArg DmaCh.st State.setCh_self, congrArg DmaCh.lastOut State.setCh_self, State.setCh_only.mono rfl⟩
  · have now : m.now = max s.now t := hm ▸ State.haltFirst_now
    subst hm
    have e := (exec_dmaRequestTaken_on (t := t) (c := c) on).trans
      (congrArg _ (State.requestIn_takes (by rw [kept]; exact fun h => Bool.false_ne_true h.2)))
    generalize (s.stamp t).haltFirst c = m at e waits kept asserted settled now
    have takes : m.takeRequest c = m.setCh c { m.dma.ch[c] with
        st := .move, readyAt := m.now, taken := true
        swPend := if m.dmaReq c = 15 then (m.dma.ch[c]).swPend - 1 else (m.dma.ch[c]).swPend } :=
      if_pos (by exact ⟨waits, asserted, by rw [now]; exact settled⟩)
    rw [takes] at e
    exact ⟨_, e, congrArg DmaCh.st State.setCh_self, congrArg DmaCh.taken State.setCh_self, congrArg DmaCh.swPend State.setCh_self,
      fun d other => State.setCh_other other, State.setCh_only.mono rfl⟩
  · have now : m.now = max s.now t := hm ▸ State.haltFirst_now
    subst hm
    have e := (exec_dmaRequestTaken_on (t := t) (c := c) on).trans (congrArg _ (State.requestIn_takes (fun both => ?_)))
    · refine e.trans (congrArg _ (if_neg (fun all => ?_)))
      obtain ⟨waits, asserted, settled⟩ := all
      rw [now] at settled
      rcases h with idle | ⟨-, quiet | soon⟩
      · exact idle waits
      · exact Bool.false_ne_true (quiet.symm.trans asserted)
      · exact Bool.false_ne_true (soon.symm.trans settled)
    · rcases h with idle | ⟨kept, -⟩
      · exact idle both.1
      · exact Bool.false_ne_true (kept.symm.trans both.2)
  · obtain ⟨burst, st, last, chip, host, away⟩ := State.grant_does (s := s.stamp t) (c := c)
    exact ⟨_, (exec_dmaBurstGrant_on on).trans (congrArg _ (State.when_true may)), burst, st.trans (State.mayGrant_moves may), last,
      fun h => .app (chip h) rfl (State.stamp_only.mono rfl), host, away⟩
  · exact (exec_dmaBurstGrant_on on).trans (congrArg _ (State.when_false may))

end Sys2Proof.Machine
end

section
/-! DMA bursts and write-backs. -/

namespace Sys2Proof.Machine

open Sys2Proof

section
variable {s u n m : State} {c d : Fin 8} {t a : Nat} {x : DmaCh} {b : List Byte} {req : Req} {p : Instr → Option (State → State)}

/-! ### Events of the same sample that come first -/

theorem mem_untaken {k : Instr} {taken cs : List Instr} (h : k ∈ untaken taken cs) : k ∈ cs := by
  induction cs generalizing taken with
  | nil => exact h
  | cons x cs ih =>
    unfold untaken at h
    split at h
    · exact List.mem_cons_of_mem _ (ih h)
    · rcases List.mem_cons.mp h with rfl | rest
      · exact List.mem_cons_self ..
      · exact List.mem_cons_of_mem _ (ih rest)

/-- With nothing registered that comes first, nothing comes first. -/
theorem State.takeFirst_none (none_ : ∀ k ∈ s.pending, p k = none) : s.takeFirst p = s := by
  unfold State.takeFirst
  refine List.foldlRecOn (motive := (· = s)) _ _ rfl (fun v hv k mem => ?_)
  rw [none_ k (List.mem_of_mem_filter (mem_untaken mem))]
  exact hv

theorem State.haltFirst_none (none_ : ∀ k ∈ s.pending, ∀ w q, k ≠ .dmaStop w q c ∧ k ≠ .dmaAbort w q c) :
    s.haltFirst c = s := by
  refine State.takeFirst_none (fun k mem => ?_)
  have own := none_ k mem
  cases k with
  | dmaStop w q d =>
    show (if d = c then _ else none) = none
    exact if_neg (fun h => (own w q).1 (congrArg _ h))
  | dmaAbort w q d =>
    show (if d = c ∧ s.phaseService = false then _ else none) = none
    exact if_neg (fun h => (own w q).2 (congrArg _ h.1))
  | _ => rfl

/-- A STOP or an ABORT taken first clears no source and counts no write-back. -/
theorem State.haltFirst_keeps : Grows s (s.haltFirst c) ∧
    rget (s.haltFirst c).regs Reg.DMA_WBERR = rget s.regs Reg.DMA_WBERR := by
  have step {f : State → State} (hf : ∀ v, Only [.dma] v (f v)) (req : Req) (v : State)
      (h : Grows s v ∧ rget v.regs Reg.DMA_WBERR = rget s.regs Reg.DMA_WBERR) :
      Grows s (v.access req 0x0A f) ∧ rget (v.access req 0x0A f).regs Reg.DMA_WBERR = rget s.regs Reg.DMA_WBERR := by
    unfold State.access
    split
    · exact ⟨h.1.trans State.report_grows, (State.report_regsOnly (l := errorAccess req) Reg.DMA_WBERR
        (show Reg.DMA_WBERR ∉ [Reg.HOST_BADACC] by decide)).trans h.2⟩
    · split
      · exact ⟨h.1.trans (.of_flt (hf v .flt rfl)), (congrArg (rget · Reg.DMA_WBERR) (hf v .regs rfl)).trans h.2⟩
      · exact ⟨h.1.trans State.report_grows, (State.report_regsOnly Reg.DMA_WBERR (by decide)).trans h.2⟩
  exact State.haltFirst_induction (P := fun v => Grows s v ∧ rget v.regs Reg.DMA_WBERR = rget s.regs Reg.DMA_WBERR)
    (fun _ _ h => h) (fun req v h => step (fun _ => State.dmaStop_only) req v h)
    (fun req v h => step (fun _ => State.setCh_only) req v h) ⟨.refl, rfl⟩

/-! ### Descriptor boundaries (14 R521, R524, R526) -/

/-- What a descriptor boundary of a channel leaves alone. -/
structure Turns (c : Fin 8) (s n : State) : Prop where
  others : ∀ d : Fin 8, d ≠ c → n.dma.ch[d] = s.dma.ch[d]
  sent : ∃ l, n.out = l ++ s.out
  words : RegsOnly [rawOf 0x0A, Reg.HOST_CPLERR] s n
  parts : Only [.now, .regs, .host, .dma, .out] s n

theorem Turns.app (k : Turns c u n) (h : Turns c s u) : Turns c s n := by
  obtain ⟨l, hl⟩ := h.sent
  obtain ⟨r, hr⟩ := k.sent
  exact ⟨fun d other => (k.others d other).trans (h.others d other), ⟨r ++ l, by rw [hr, hl, List.append_assoc]⟩,
    .app k.words (fun _ h => h) h.words, .app k.parts rfl h.parts⟩

theorem State.setCh_turns : Turns c s (s.setCh c x) :=
  ⟨fun _ other => State.setCh_other other, ⟨[], rfl⟩, .refl, State.setCh_only.mono rfl⟩

theorem State.halt_turns : Turns c s (s.report [haltNote c]) :=
  ⟨fun _ _ => rfl, ⟨[], rfl⟩, State.report_regsOnly_of (fun _ h => List.mem_cons.mpr
      (.inl (List.mem_singleton.mp h))) rfl,
    State.report_parts.mono rfl⟩

theorem State.dmaUpRead_turns {addr len : Nat} : Turns c s (s.dmaUpRead c addr len) := by
  have upstream {w : State} : Turns c w (State.upRead (.dma c) addr len w) := by
    unfold State.upRead State.upNotes
    split
    · exact ⟨fun _ _ => rfl, ⟨_, rfl⟩, State.report_regsOnly_of (List.nil_subset _) rfl,
        .app (State.report_parts (l := [.send _])) rfl (Only.set_host.mono rfl)⟩
    · exact ⟨fun _ _ => rfl, ⟨[], rfl⟩, State.report_regsOnly_of (by decide) rfl,
        .app (State.report_parts (l := [.count Reg.HOST_CPLERR 1])) rfl (Only.set_host.mono rfl)⟩
  have forgets : Turns c s { s with host := s.host.forget c } :=
    ⟨fun _ _ => rfl, ⟨[], rfl⟩, .refl, Only.set_host.mono rfl⟩
  exact .app State.setCh_turns (.app upstream forgets)

theorem State.dmaFetch_turns : Turns c s (s.dmaFetch c) := by
  unfold State.dmaFetch
  dsimp only
  split
  · exact State.setCh_turns
  · exact .app State.dmaUpRead_turns State.setCh_turns

theorem State.dmaReread_turns : Turns c s (s.dmaReread c) := by
  unfold State.dmaReread
  dsimp only
  split
  · exact State.setCh_turns
  · exact .app State.dmaUpRead_turns State.setCh_turns

/-- A channel that parks, its pending doorbell served. -/
theorem State.dmaPark_does : Turns c s (s.dmaPark c) ∧ ((s.dmaPark c).dma.ch[c]).st = .parked ∧
    ((s.dmaPark c).dma.ch[c]).cur = (s.dma.ch[c]).cur := by
  unfold State.dmaPark
  dsimp only
  generalize hm : (s.setCh c { s.dma.ch[c] with st := .parked, reread := false, upTag := none }).report [haltNote c] = m
  have turns : Turns c s m := hm ▸ .app State.halt_turns State.setCh_turns
  have at_ : m.dma.ch[c] = { s.dma.ch[c] with st := .parked, reread := false, upTag := none } := by
    rw [← hm]
    exact State.setCh_self
  obtain ⟨-, -, st, cur, -⟩ := State.dmaReread_does (s := m) (c := c)
  rw [at_] at st cur
  split
  · exact ⟨.app State.dmaReread_turns turns, st, cur⟩
  · rw [at_]
    exact ⟨turns, rfl, rfl⟩

/-- A channel that halts at a boundary. -/
theorem State.halts : Turns c s ((s.setCh c x).report [haltNote c]) ∧ ((s.setCh c x).report [haltNote c]).dma.ch[c] = x :=
  ⟨.app State.halt_turns State.setCh_turns, State.setCh_self⟩

/-- A channel that goes on to NEXT. -/
theorem State.goesOn : Turns c s ((s.setCh c x).dmaFetch c) ∧ (((s.setCh c x).dmaFetch c).dma.ch[c]).st = .fetch ∧
    (((s.setCh c x).dmaFetch c).dma.ch[c]).cur = x.cur := by
  obtain ⟨st, -, cur, -⟩ := State.dmaFetch_does (s := s.setCh c x) (c := c)
  rw [State.setCh_self] at cur
  exact ⟨.app State.dmaFetch_turns State.setCh_turns, st, cur⟩

/-- What the boundary after a write-back leaves: a channel that has ended, parked or fetched NEXT. -/
def Ended (x y : DmaCh) : Prop :=
  y.st ≠ .wb ∧ (x.lastOut = .aborted → y.st = .idle ∧ y.cur = x.cur) ∧
    (x.lastOut ≠ .aborted → x.abortPend = false →
      (x.stopPend = true → y.st = .idle ∧ y.cur = x.desc.nextAddr) ∧
      (x.stopPend = false → bit x.desc.next 1 = true → y.st = .parked ∧ y.cur = x.cur) ∧
      (x.stopPend = false → bit x.desc.next 1 = false → y.st = .fetch ∧ y.cur = x.desc.nextAddr))

theorem State.dmaBoundary_does : Turns c (s.haltFirst c) (s.dmaBoundary c) ∧
    Ended ((s.haltFirst c).dma.ch[c]) ((s.dmaBoundary c).dma.ch[c]) := by
  unfold State.dmaBoundary
  dsimp only
  generalize s.haltFirst c = m
  split
  case isTrue aborted =>
    obtain ⟨turns, self⟩ := State.halts (s := m) (c := c) (x := (m.dma.ch[c]).toIdle)
    rw [self]
    exact ⟨turns, nofun, fun _ => ⟨rfl, rfl⟩, fun h => absurd aborted h⟩
  case isFalse normal =>
    split
    case isTrue abort =>
      obtain ⟨turns, self⟩ := State.halts (s := m) (c := c) (x := { (m.dma.ch[c]).toIdle with lastOut := .aborted, residue := 0 })
      rw [self]
      exact ⟨turns, nofun, fun h => absurd h normal, fun _ h => absurd (abort.symm.trans h) (by decide)⟩
    case isFalse kept =>
      split
      case isTrue stop =>
        obtain ⟨turns, self⟩ := State.halts (s := m) (c := c) (x := (m.dma.ch[c]).advance.toIdle)
        rw [self]
        exact ⟨turns, nofun, fun h => absurd h normal, fun _ _ => ⟨fun _ => ⟨rfl, rfl⟩,
          fun h => absurd (stop.symm.trans h) (by decide), fun h => absurd (stop.symm.trans h) (by decide)⟩⟩
      case isFalse runs =>
        split
        case isTrue end_ =>
          obtain ⟨turns, st, cur⟩ := State.dmaPark_does (s := m) (c := c)
          exact ⟨turns, by rw [st]; decide, fun h => absurd h normal, fun _ _ => ⟨fun h => absurd h runs, fun _ _ => ⟨st, cur⟩,
            fun _ h => absurd (end_.symm.trans h) (by decide)⟩⟩
        case isFalse more =>
          obtain ⟨turns, st, cur⟩ := State.goesOn (s := m) (c := c) (x := (m.dma.ch[c]).advance)
          exact ⟨turns, by rw [st]; decide, fun h => absurd h normal, fun _ _ => ⟨fun h => absurd h runs,
            fun _ h => absurd h more, fun _ _ => ⟨st, cur⟩⟩⟩


/-! ### Bytes written to the layer store (14 R513) -/

theorem sliceAt_away {lo hi : Nat} (away : hi ≤ a ∨ a + b.length ≤ lo) : (sliceAt lo hi a b).2 = [] := by
  unfold sliceAt
  rcases away with above | below
  · exact List.take_eq_nil_iff.mpr (.inl (by omega))
  · exact (congrArg (List.take _) (List.drop_eq_nil_of_le (by omega))).trans List.take_nil

theorem sliceAt_inside {lo hi : Nat} (low : lo ≤ a) (high : a + b.length ≤ hi) : sliceAt lo hi a b = (a, b) := by
  have start : max a lo = a := Nat.max_eq_left low
  unfold sliceAt
  dsimp only
  rw [start, Nat.sub_self, Nat.min_eq_left high, Nat.add_sub_cancel_left, List.drop_zero, List.take_length]

theorem State.putPart_away {lo hi : Nat} {f : Nat → List Byte → State → State} (away : hi ≤ a ∨ a + b.length ≤ lo) :
    s.putPart lo hi a b f = s :=
  if_pos (by rw [sliceAt_away away]; rfl)

/-- A write that falls into the layer store alone. -/
theorem State.chipWrite_layers (low : 0x01000000 ≤ a) (high : a + b.length ≤ 0x01800000) :
    s.chipWrite req a b = if b.isEmpty then s else { s with layers := s.layers.write 0 zeroByte (a - 0x01000000) b } := by
  have base : bar0Base = 0x04000000 := rfl
  have port : portBase 0 = 0x0F100000 ∧ portBase 1 = 0x0F101000 := ⟨rfl, rfl⟩
  have own : s.putPart 0x01000000 0x01800000 a b (fun x l s => { s with layers := s.layers.write 0 zeroByte x l }) =
      if b.isEmpty then s else { s with layers := s.layers.write 0 zeroByte (a - 0x01000000) b } := by
    unfold State.putPart
    rw [sliceAt_inside low high]
  unfold State.chipWrite
  dsimp only
  rw [State.putPart_away (.inl low), own, State.putPart_away (.inr high), State.putPart_away (.inr (by omega)),
    State.putPart_away (.inr (by omega)), State.putPart_away (.inr (by omega)), State.putPart_away (.inr (by omega))]

theorem State.writeStop_layers {k : Nat} (high : a + k ≤ 0x01800000) : s.writeStop req a k = none := by
  have base : bar0Base = 0x04000000 := rfl
  have none_ : ((List.range k).filterMap (fun i => if inBar0 (a + i) && (a + i) % 4 == 0 then
      (s.writeFate req (a + i - bar0Base)).map (fun c => (i, c)) else none)) = [] := by
    refine List.filterMap_eq_nil_iff.mpr (fun i mem => if_neg (fun h => ?_))
    have small := List.mem_range.mp mem
    simp only [inBar0, Bool.and_eq_true, decide_eq_true_eq] at h
    omega
  unfold State.writeStop
  rw [none_]
  rfl

/-- A burst that meets no Shade list port makes no list arrive. -/
theorem State.portArrivals_away {k : Nat} (high : a + k ≤ 0x01800000) : s.portArrivals a k = s := by
  have port : portBase 0 = 0x0F100000 ∧ portBase 1 = 0x0F101000 := ⟨rfl, rfl⟩
  refine List.foldlRecOn (motive := (· = s)) _ _ rfl (fun v hv u _ => ?_)
  refine (State.when_false ?_).trans hv
  have far : ¬ portBase u.val < a + k := by
    have all : ∀ w : Fin 2, 0x0F100000 ≤ portBase w.val := by decide
    have := all u
    omega
  rw [meets, decide_eq_false far, Bool.and_false]

/-! ### Ends of bursts (14 R509, R513) -/

/-- The end of a burst is signalled: the channel keeps all but its burst and the request that it answered. -/
theorem State.signalEnd_does : (∃ at_, (s.signalEnd c).dma.ch[c] =
      { s.dma.ch[c] with burst := false, taken := false, signalAt := at_ }) ∧
    Only [.dma, .shade] s (s.signalEnd c) := by
  refine ⟨?_, State.signalEnd_only.mono rfl⟩
  have settle {w : State} {r : Nat} : (w.settleLine r).dma.ch[c] = w.dma.ch[c] := by
    unfold State.settleLine
    dsimp only
    split
    · rfl
    · split <;> rfl
  unfold State.signalEnd
  dsimp only
  split
  · exact ⟨_, settle.trans State.setCh_self⟩
  case isFalse idle =>
    have own : (s.dma.ch[c]).taken = false := Bool.eq_false_iff.mpr idle
    refine ⟨(s.dma.ch[c]).signalAt, State.setCh_self.trans ?_⟩
    rw [← own]

/-- What follows the bytes of a burst: its end is signalled, and `moved` bytes of the descriptor have moved. -/
def State.settleBurst (c : Fin 8) (moved : Nat) (s : State) : State :=
  ((s.signalEnd c).setCh c { (s.signalEnd c).dma.ch[c] with moved := moved, buf := [] }).afterBurst c

/-- The channel before `afterBurst`. -/
theorem State.settleBurst_before {moved : Nat} : ∃ at_,
    ((s.signalEnd c).setCh c { (s.signalEnd c).dma.ch[c] with moved := moved, buf := [] }).dma.ch[c] =
      { s.dma.ch[c] with burst := false, taken := false, signalAt := at_, moved := moved, buf := [] } := by
  obtain ⟨⟨at_, self⟩, -⟩ := State.signalEnd_does (s := s) (c := c)
  exact ⟨at_, by rw [State.setCh_self, self]⟩

/-- A descriptor with bytes left goes on with its next burst, or waits with PACE. -/
theorem State.settleBurst_goesOn {moved : Nat} (short : moved < (s.dma.ch[c]).desc.count) (kept : (s.dma.ch[c]).abortPend = false) :
    ((s.settleBurst c moved).dma.ch[c]).moved = moved ∧ ((s.settleBurst c moved).dma.ch[c]).burst = false ∧
      ((s.settleBurst c moved).dma.ch[c]).st = (if (s.dma.ch[c]).desc.pace then .wait else .move) ∧
      Only [.dma, .shade] s (s.settleBurst c moved) := by
  have parts : Only [.dma, .shade] s ((s.signalEnd c).setCh c { (s.signalEnd c).dma.ch[c] with moved := moved, buf := [] }) :=
    .app State.setCh_only rfl State.signalEnd_does.2
  obtain ⟨at_, self⟩ := State.settleBurst_before (s := s) (c := c) (moved := moved)
  unfold State.settleBurst
  generalize (s.signalEnd c).setCh c { (s.signalEnd c).dma.ch[c] with moved := moved, buf := [] } = m at parts self ⊢
  have goes : m.afterBurst c = m.setCh c { m.dma.ch[c] with
      st := if (m.dma.ch[c]).desc.pace then .wait else .move, readyAt := m.now } := by
    refine (if_neg ?_).trans (if_neg ?_)
    · rw [self]
      exact Nat.sub_ne_zero_of_lt short
    · rw [self]
      exact ne_true_of_eq_false kept
  rw [goes, State.setCh_self, self]
  exact ⟨rfl, rfl, rfl, .app State.setCh_only rfl parts⟩

/-- A descriptor whose bytes have all moved ends DONE. -/
theorem State.settleBurst_ends {moved : Nat} (canon : smWf regReset s.regs = true) (all : (s.dma.ch[c]).desc.count ≤ moved)
    (back : bit (s.dma.ch[c]).desc.ctl 6 = true) :
    ((s.settleBurst c moved).dma.ch[c]).st = .wb ∧ ((s.settleBurst c moved).dma.ch[c]).lastOut = .done ∧
      ((s.settleBurst c moved).dma.ch[c]).residue = 0 ∧
      ((s.settleBurst c moved).dma.ch[c]).doneCnt = (s.dma.ch[c]).doneCnt + 1 ∧
      (bit (s.dma.ch[c]).desc.ctl 5 = true → bit (rget (s.settleBurst c moved).regs (rawOf 0x0A)) c.val = true) ∧
      RegsOnly [rawOf 0x0A] s (s.settleBurst c moved) ∧ Only [.now, .regs, .dma, .shade] s (s.settleBurst c moved) := by
  have parts : Only [.dma, .shade] s ((s.signalEnd c).setCh c { (s.signalEnd c).dma.ch[c] with moved := moved, buf := [] }) :=
    .app State.setCh_only rfl State.signalEnd_does.2
  obtain ⟨at_, self⟩ := State.settleBurst_before (s := s) (c := c) (moved := moved)
  unfold State.settleBurst
  generalize (s.signalEnd c).setCh c { (s.signalEnd c).dma.ch[c] with moved := moved, buf := [] } = m at parts self ⊢
  have ends : m.afterBurst c = m.dmaEnd c .done 0 0 := by
    refine if_pos ?_
    rw [self]
    exact Nat.sub_eq_zero_of_le all
  rw [ends, State.dmaEnd_writesBack (.inr (by rw [self]; exact back))]
  have notes : outcomeNotes c .done (bit (m.dma.ch[c]).desc.ctl 5) = noteIf (bit (s.dma.ch[c]).desc.ctl 5) [.irq 0x0A c.val] := by
    rw [self]
    exact List.append_nil _
  rw [notes]
  refine ⟨congrArg DmaCh.st State.setCh_self, congrArg DmaCh.lastOut State.setCh_self, congrArg DmaCh.residue State.setCh_self,
    (congrArg DmaCh.doneCnt State.setCh_self).trans ?_, fun irq => ?_, ?_,
    .app (m := [.now, .regs]) (State.report_parts.mono (noteIf_parts rfl)) rfl
        (.app State.setCh_only rfl (parts.mono rfl))⟩
  · rw [self]
  · rw [irq]
    refine (congrArg (bit · c.val) (State.report_reads (l := [.irq 0x0A c.val]) canon (parts .regs rfl) Note.onWord_irq)).trans ?_
    have top : c.val < 32 := by omega
    exact (bit_setBit top).trans (by rw [decide_eq_true rfl, Bool.or_true])
  · exact State.report_regsOnly_of (noteIf_words (fun _ h => h)) (parts .regs rfl)


/-! ### Bursts from host memory (14 R513, R514) -/

/-- The bytes that the upstream read of a burst has brought. -/
theorem State.burstData_host (space : (s.dma.ch[c]).desc.srcChip = false) (answer : s.burstAnswer c = some b)
    (whole : b.length = (s.dma.ch[c]).burstLen) : s.burstData c = (b.map some, s) := by
  unfold State.burstData
  dsimp only
  rw [space, if_neg Bool.false_ne_true, answer]
  dsimp only
  rw [← whole, Nat.sub_self, List.replicate_zero, List.append_nil, List.take_length]

theorem State.sourceCause_none (space : (s.dma.ch[c]).desc.srcChip = false) (answer : s.burstAnswer c = some b) :
    s.sourceCause c = none := by
  unfold State.sourceCause
  dsimp only
  rw [space, if_neg Bool.false_ne_true, answer]
  exact if_pos rfl

/-- A burst of host bytes ends: they are written, lists arrive, and the channel is settled. -/
theorem State.burstEnds_host (space : (s.dma.ch[c]).desc.srcChip = false) (answer : s.burstAnswer c = some b)
    (whole : b.length = (s.dma.ch[c]).burstLen) : s.burstEnds c =
      (((s.dmaTook c).burstWrite c (s.dma.ch[c]).burstDst b).when (s.dma.ch[c]).desc.dstChip
        (State.portArrivals (s.dma.ch[c]).burstDst (s.dma.ch[c]).burstLen)).settleBurst c
          ((s.dma.ch[c]).moved + (s.dma.ch[c]).burstLen) := by
  have bytes : (b.map some).map (fun b => b.getD 0) = b := by
    rw [List.map_map]
    exact List.map_id b
  unfold State.burstEnds
  dsimp only
  rw [State.burstData_host space answer whole]
  dsimp only
  rw [bytes]
  rfl

/-- The end of a burst that meets no error. -/
theorem dmaBurstEnd_ends (on : s.coreOn = true) (ready : s.burstReady c = true) (space : (s.dma.ch[c]).desc.srcChip = false)
    (answer : s.burstAnswer c = some b) (good : (s.stamp t).destCause c = none) :
    exec (.dmaBurstEnd t c) s = .next ((s.stamp t).burstEnds c) := by
  refine (onCore_on on : execDmaBurstEnd t c s = _).trans (congrArg _ (State.when_true ?_))
  rw [State.sourceCause_none (s := s.stamp t) space answer, good, show (s.stamp t).burstReady c = true from ready]
  rfl

theorem State.destCause_host (space : (s.dma.ch[c]).desc.dstChip = false) (link : s.linkReady = true) : s.destCause c = none := by
  unfold State.destCause
  dsimp only
  rw [space, if_neg Bool.false_ne_true, if_pos link]

theorem State.destCause_layers (space : (s.dma.ch[c]).desc.dstChip = true)
    (high : (s.dma.ch[c]).burstDst + (s.dma.ch[c]).burstLen ≤ 0x01800000) : s.destCause c = none := by
  unfold State.destCause
  dsimp only
  rw [space, if_pos rfl, State.writeStop_layers high]

/-- Bytes of a burst written upstream. -/
theorem State.burstWrite_host (space : (s.dma.ch[c]).desc.dstChip = false) (link : s.linkReady = true) :
    s.burstWrite c a b = { s with out := .upWrite a b :: s.out } := by
  unfold State.burstWrite State.upWriteNotes
  rw [space, if_neg Bool.false_ne_true, if_pos link]
  unfold State.report
  dsimp only [List.filterMap, Note.src, Note.sent, List.foldl]
  rw [List.append_nil]
  rfl

theorem dmaBurstEnd_upstream (on : s.coreOn = true) (ready : s.burstReady c = true) (space : (s.dma.ch[c]).desc.srcChip = false)
    (answer : s.burstAnswer c = some b) (whole : b.length = (s.dma.ch[c]).burstLen) (host : (s.dma.ch[c]).desc.dstChip = false)
    (link : s.linkReady = true) : exec (.dmaBurstEnd t c) s =
      .next (State.settleBurst c ((s.dma.ch[c]).moved + (s.dma.ch[c]).burstLen)
        { (s.stamp t).dmaTook c with out := .upWrite (s.dma.ch[c]).burstDst b :: s.out }) := by
  refine (dmaBurstEnd_ends on ready space answer (State.destCause_host (s := s.stamp t) host link)).trans (congrArg _ ?_)
  obtain ⟨self, -⟩ := State.dmaTook_does (s := s.stamp t) (c := c)
  have sent : ((s.stamp t).dmaTook c).burstWrite c (s.dma.ch[c]).burstDst b =
      { (s.stamp t).dmaTook c with out := .upWrite (s.dma.ch[c]).burstDst b :: s.out } :=
    State.burstWrite_host (by rw [self]; exact host) link
  rw [State.burstEnds_host (s := s.stamp t) space answer whole]
  exact congrArg _ ((State.when_false host).trans sent)

theorem dmaBurstEnd_layers (on : s.coreOn = true) (ready : s.burstReady c = true) (space : (s.dma.ch[c]).desc.srcChip = false)
    (answer : s.burstAnswer c = some b) (whole : b.length = (s.dma.ch[c]).burstLen) (chip : (s.dma.ch[c]).desc.dstChip = true)
    (low : 0x01000000 ≤ (s.dma.ch[c]).burstDst) (high : (s.dma.ch[c]).burstDst + (s.dma.ch[c]).burstLen ≤ 0x01800000) :
    exec (.dmaBurstEnd t c) s = .next (State.settleBurst c ((s.dma.ch[c]).moved + (s.dma.ch[c]).burstLen)
      (if b.isEmpty then (s.stamp t).dmaTook c else
        { (s.stamp t).dmaTook c with layers := s.layers.write 0 zeroByte ((s.dma.ch[c]).burstDst - 0x01000000) b })) := by
  refine (dmaBurstEnd_ends on ready space answer (State.destCause_layers (s := s.stamp t) chip high)).trans (congrArg _ ?_)
  obtain ⟨self, -⟩ := State.dmaTook_does (s := s.stamp t) (c := c)
  rw [State.burstEnds_host (s := s.stamp t) space answer whole]
  refine congrArg _ ((State.when_true chip).trans ((State.portArrivals_away high).trans ?_))
  refine (if_pos (by rw [self]; exact chip)).trans ?_
  exact State.chipWrite_layers low (by rw [whole]; exact high)

/-- A burst whose host source answers with an error (14 R514). -/
theorem State.partialWrites_none {mask stop i k : Nat} :
    s.partialWrites c mask stop a i (List.replicate k none) = s := by
  induction k generalizing a i with
  | zero => rfl
  | succ k ih => exact ih

theorem State.partialPages_none {mask : Nat} {fails : Option Nat} {i k : Nat} :
    s.partialPages c mask fails a i (List.replicate k none) = s := by
  induction k using Nat.strongRecOn generalizing a i with
  | ind k ih =>
    match k with
    | 0 | 1 | 2 | 3 => rfl
    | k + 4 =>
      have next : s.partialPages c mask fails a i (List.replicate (k + 4) none) =
          s.partialPages c mask fails (a + 4) (i + 4) (List.replicate k none) := by
        show s.partialPages c mask fails a i (none :: none :: none :: none :: List.replicate k none) = _
        rw [State.partialPages]
        simp
      exact next.trans (ih k (by omega))

theorem State.busError_host {cause : Nat} (space : (s.dma.ch[c]).desc.srcChip = false) (answer : s.burstAnswer c = none)
    (host : s.sourceCause c = some 2) :
    ∃ w, s.busError c cause = w.dmaEnd c .bad cause (s.dma.ch[c]).left ∧ Only [.free, .host, .dma, .shade] s w := by
  have data : s.burstData c = (List.replicate (s.dma.ch[c]).burstLen none, s) := by
    unfold State.burstData
    dsimp only
    rw [space, if_neg Bool.false_ne_true, answer]
  have notes : s.errorNotes c = [] := by
    unfold State.errorNotes
    rw [host]
    rfl
  unfold State.busError
  dsimp only
  rw [host, data, notes, State.report_nil]
  dsimp only
  rw [if_neg (by decide)]
  dsimp only
  rw [State.partialWrites_none]
  refine ⟨_, rfl, .app State.signalEnd_only rfl ?_⟩
  have took : Only [.free, .host, .dma, .shade] s ((s.dmaTook c).spend) := .app State.spend_only rfl (State.dmaTook_does.2.2.mono rfl)
  refine .when (fun _ h => .app State.portFailed_only rfl h) (.when (fun _ h => ?_) took)
  rw [State.partialPages_none]
  exact h

theorem State.sourceCause_host (space : (s.dma.ch[c]).desc.srcChip = false) (answer : s.burstAnswer c = none) :
    s.sourceCause c = some 2 := by
  unfold State.sourceCause
  dsimp only
  rw [space, if_neg Bool.false_ne_true, answer]
  rfl

theorem dmaBusError_source (on : s.coreOn = true) (canon : s.Canonical) (ready : s.burstReady c = true)
    (space : (s.dma.ch[c]).desc.srcChip = false) (answer : s.burstAnswer c = none) :
    ∃ n, exec (.dmaBusError t c) s = .next n ∧ (n.dma.ch[c]).st = .wb ∧ (n.dma.ch[c]).lastOut = .bad ∧
      (n.dma.ch[c]).cause = 2 ∧ (n.dma.ch[c]).residue = BitVec.ofNat 24 (s.dma.ch[c]).left ∧ Raised [Src.DMA_BAD] s n ∧
      rget n.regs (Reg.DMA_BADCNT c) = satAdd (rget s.regs (Reg.DMA_BADCNT c)) 1 ∧
      Only [.now, .free, .regs, .flt, .host, .dma, .shade] s n := by
  have source := State.sourceCause_host (s := s.stamp t) space answer
  have e : exec (.dmaBusError t c) s = .next ((s.stamp t).busError c 2) := by
    refine (onCore_on on : execDmaBusError t c s = _).trans (congrArg _ ?_)
    rw [if_pos (by exact ready), State.burstCause, source]
    rfl
  obtain ⟨w, same, parts⟩ := State.busError_host (s := s.stamp t) (cause := 2) space answer source
  rw [same] at e
  have all : Only [.now, .free, .host, .dma, .shade] s w := .app parts rfl (State.stamp_only.mono rfl)
  have regs : w.regs = s.regs := all .regs rfl
  obtain ⟨st, out, cause, residue, raised, count, -, -, -, ended⟩ :=
    State.dmaEnd_bad (s := w) (c := c) (cause := 2) (residue := (s.dma.ch[c]).left) (regs ▸ canon.regs)
  rw [regs] at count
  refine ⟨_, e, st, out, cause, residue, ?_, count, .app ended rfl (all.mono rfl)⟩
  rw [Raised, ← all .flt rfl]
  exact raised

/-! ### Write-backs (14 R515) -/

theorem exec_dmaWriteBackDone_on {ok : Bool} (on : s.coreOn = true) :
    exec (.dmaWriteBackDone t c ok) s = .next ((s.stamp t).writtenBack c ok) :=
  (onCore_on on : execDmaWriteBackDone t c ok s = _)

/-- A write-back to host memory that is performed. -/
theorem State.writtenBack_host (back : (s.dma.ch[c]).st = .wb) (space : (s.dma.ch[c]).curSp = false) (link : s.linkReady = true) :
    s.writtenBack c true = State.dmaBoundary c
      { s with out := .upWrite ((s.dma.ch[c]).cur.toNat + 0x20) (s.dma.ch[c]).wbBytes :: s.out } := by
  have good : s.wbGood c = true := by
    unfold State.wbGood
    dsimp only
    rw [space, if_neg Bool.false_ne_true, link]
  have sent : s.wbWrite c = { s with out := .upWrite ((s.dma.ch[c]).cur.toNat + 0x20) (s.dma.ch[c]).wbBytes :: s.out } := by
    unfold State.wbWrite State.upWriteNotes
    dsimp only
    rw [space, if_neg Bool.false_ne_true, if_pos link]
    unfold State.report
    dsimp only [List.filterMap, Note.src, Note.sent, List.foldl]
    rw [List.append_nil]
    rfl
  unfold State.writtenBack
  dsimp only
  rw [if_pos back, good, State.when_true rfl, sent]
  exact congrArg _ State.report_nil

/-- A write-back that the bus abandons. -/
theorem State.writtenBack_abandoned (back : (s.dma.ch[c]).st = .wb) : s.writtenBack c false =
    (s.report [.count Reg.DMA_WBERR 1, .raise Src.DMA_WBERR]).dmaBoundary c := by
  unfold State.writtenBack
  dsimp only
  rw [if_pos back, State.when_false rfl]
  rfl

end

/-- Settles O54. -/
theorem dmaBurstsAndWriteBacks : Obligations.DmaBurstsAndWriteBacks := by
  unfold Obligations.DmaBurstsAndWriteBacks
  intro t c s on canon
  obtain ⟨self, others, took⟩ := State.dmaTook_does (s := s.stamp t) (c := c)
  have taken : Only [.now, .host, .dma] s ((s.stamp t).dmaTook c) := .app took rfl (State.stamp_only.mono rfl)
  refine ⟨fun b ready space answer whole => ⟨fun host link => ⟨fun short kept => ?_, fun all back => ?_⟩,
    fun chip low high short kept => ?_⟩, fun ready space answer => dmaBusError_source on canon ready space answer,
    fun back space link none_ => ?_, fun back => ?_, fun away ok => ?_⟩
  · have e := dmaBurstEnd_upstream (t := t) on ready space answer whole host link
    generalize (s.stamp t).dmaTook c = w at self taken e
    obtain ⟨moved, burst, st, parts⟩ := State.settleBurst_goesOn (c := c)
      (s := { w with out := .upWrite (s.dma.ch[c]).burstDst b :: s.out }) (moved := (s.dma.ch[c]).moved + (s.dma.ch[c]).burstLen)
      (by rw [self]; exact Nat.add_lt_of_lt_sub' short) (by rw [self]; exact kept)
    rw [self] at st
    exact ⟨_, e, parts .out rfl, moved, burst, st, .app parts rfl (.app Only.set_out rfl (taken.mono rfl))⟩
  · have e := dmaBurstEnd_upstream (t := t) on ready space answer whole host link
    generalize (s.stamp t).dmaTook c = w at self taken e
    have regs : w.regs = s.regs := taken .regs rfl
    obtain ⟨st, out, residue, done, irq, words, parts⟩ := State.settleBurst_ends (c := c)
      (s := { w with out := .upWrite (s.dma.ch[c]).burstDst b :: s.out }) (moved := (s.dma.ch[c]).moved + (s.dma.ch[c]).burstLen)
      (regs ▸ canon.regs) (by rw [self, all, DmaCh.left]; exact le_add_tsub) (by rw [self]; exact back)
    rw [self] at done irq
    exact ⟨_, e, parts .out rfl, st, out, residue, done, irq, fun a h => (words a h).trans (congrArg (rget · a) regs),
      .app parts rfl (.app Only.set_out rfl (taken.mono rfl))⟩
  · have e := dmaBurstEnd_layers (t := t) on ready space answer whole chip low high
    generalize (s.stamp t).dmaTook c = w at self taken e
    generalize hv : (if b.isEmpty then w else
      { w with layers := s.layers.write 0 zeroByte ((s.dma.ch[c]).burstDst - 0x01000000) b }) = v at e
    have kept' : v.dma.ch[c] = w.dma.ch[c] := by rw [← hv]; split <;> rfl
    have all : Only [.now, .host, .dma, .layers] s v :=
      hv ▸ .ite (taken.mono rfl) (.app Only.set_layers rfl (taken.mono rfl))
    obtain ⟨moved, -, -, parts⟩ := State.settleBurst_goesOn (c := c) (s := v)
      (moved := (s.dma.ch[c]).moved + (s.dma.ch[c]).burstLen)
      (by rw [kept', self]; exact Nat.add_lt_of_lt_sub' short) (by rw [kept', self]; exact kept)
    refine ⟨_, e, fun i small => ?_, moved, .app parts rfl (all.mono rfl)⟩
    have full : ¬ b.isEmpty = true := fun h => by
      rw [List.isEmpty_iff.mp h] at small
      exact Nat.not_lt_zero _ small
    rw [if_neg full] at hv
    rw [parts .layers rfl, ← hv]
    refine (Store.read_write canon.layers).trans ?_
    rw [if_pos (by omega), Nat.add_sub_cancel_left]
  · have e := (exec_dmaWriteBackDone_on (t := t) on).trans (congrArg _ (State.writtenBack_host (s := s.stamp t) back space link))
    generalize hw : ({ s.stamp t with
      out := .upWrite (((s.stamp t).dma.ch[c]).cur.toNat + 0x20) ((s.stamp t).dma.ch[c]).wbBytes :: (s.stamp t).out } : State) = w at e
    have quiet : w.haltFirst c = w := State.haltFirst_none (by rw [← hw]; exact none_)
    obtain ⟨turns, ended⟩ := State.dmaBoundary_does (s := w) (c := c)
    have chans : w.dma = s.dma := (congrArg State.dma hw).symm
    rw [quiet] at turns ended
    rw [chans] at ended
    obtain ⟨-, aborted, normal⟩ := ended
    obtain ⟨l, sent⟩ := turns.sent
    refine ⟨_, e, ⟨l, sent.trans (congrArg (l ++ State.out ·) hw.symm)⟩, aborted, normal, fun d other => ?_, ?_, ?_⟩
    · rw [turns.others d other, chans]
    · exact (turns.parts .layers rfl).trans (congrArg State.layers hw).symm
    · exact (turns.parts .bank0 rfl).trans (congrArg State.bank0 hw).symm
  · have e := (exec_dmaWriteBackDone_on (t := t) on).trans (congrArg _ (State.writtenBack_abandoned (s := s.stamp t) back))
    have raised : Src.DMA_WBERR ∈ ((s.stamp t).report [.count Reg.DMA_WBERR 1, .raise Src.DMA_WBERR]).flt.raised :=
      List.mem_append_right _ (List.mem_singleton.mpr rfl)
    have count : rget ((s.stamp t).report [.count Reg.DMA_WBERR 1, .raise Src.DMA_WBERR]).regs Reg.DMA_WBERR =
        satAdd (rget s.regs Reg.DMA_WBERR) 1 := State.report_reads canon.regs rfl (by simp [Note.onWord])
    have parts : Only [.now, .regs, .flt] s ((s.stamp t).report [.count Reg.DMA_WBERR 1, .raise Src.DMA_WBERR]) :=
      .app State.report_parts rfl (State.stamp_only.mono rfl)
    generalize (s.stamp t).report [.count Reg.DMA_WBERR 1, .raise Src.DMA_WBERR] = w at e raised count parts
    obtain ⟨turns, away, -⟩ := State.dmaBoundary_does (s := w) (c := c)
    obtain ⟨grows, same⟩ := State.haltFirst_keeps (s := w) (c := c)
    have all : Only [.now, .regs, .live, .host, .dma, .flt, .out] s (w.dmaBoundary c) := .app State.dmaBoundary_only rfl (parts.mono rfl)
    refine ⟨_, e, ?_, (turns.words _ (by decide)).trans (same.trans count), away, all .layers rfl, all .bank0 rfl⟩
    rw [turns.parts .flt rfl]
    exact grows.mem raised
  · exact (exec_dmaWriteBackDone_on on).trans (congrArg _ (if_neg away))

end Sys2Proof.Machine
end

section
/-! The Shade mailbox and its lists. -/

namespace Sys2Proof.Machine

open Sys2Proof

section
variable {s m n : State} {u w : Fin 2} {t i : Nat} {req : Req} {v : Word} {l : ObjList} {cells : List Host.Cell}

/-! ### The Shade mailbox (10 R374, R375) -/

theorem shMbpubGo_on (write : s.Writable t req 0x28) :
    exec (.shMbpubGo t req v) s = .next ((s.stamp t).mailboxGo v) :=
  (onCore_on write.1 : execShMbpubGo t req v s = _).trans (congrArg _ write.access)

/-- Notes that set the bit of an event in PG_IRQ_RAW. -/
theorem State.report_event {r : List Note} {p : Nat} (canon : smWf regReset s.regs = true) (same : n.regs = s.regs)
    (sets : ∀ v, r.foldl (Note.onWord (rawOf p)) v = Note.onWord (rawOf p) v (.irq p i)) (small : i < 32) :
    bit (rget (n.report r).regs (rawOf p)) i = true := by
  rw [State.report_reads canon same ((sets _).trans Note.onWord_irq)]
  exact (bit_setBit small).trans (by rw [decide_eq_true rfl, Bool.or_true])

/-- GO of a mailbox whose surface's buffers or copy are in use is an overrun. -/
theorem shMbpubGo_refuses (write : s.Writable t req 0x28) (canon : s.Canonical) (go : bit v 0 = true)
    (refused : (s.stamp t).goRefused (mailboxSurf s.regs) = true) : ∃ n, exec (.shMbpubGo t req v) s = .next n ∧
      n.shade = { s.shade with mbErr := true } ∧ Raised [Src.SH_OVERRUN (mailboxSurf s.regs)] s n ∧
      bit (rget n.regs (rawOf 0x28)) 2 = true ∧ RegsOnly [rawOf 0x28] s n ∧
      lget n.live (rejKey (mailboxSurf s.regs) true) = satAdd (lget s.live (rejKey (mailboxSurf s.regs) true)) 1 ∧
      Only [.now, .regs, .live, .flt, .shade] s n := by
  have e : exec
      (.shMbpubGo t req v) s = .next (State.report (overrunNotes (mailboxSurf s.regs) ++ [Note.hit Reg.SH_MBSTAT 2])
      { s.stamp t with shade := { s.shade with mbErr := true } }) := by
    refine (shMbpubGo_on write).trans (congrArg _ ((if_neg ?_).trans (if_pos refused)))
    rw [go]
    exact Bool.false_ne_true
  refine ⟨_, e, rfl, State.report_raised rfl rfl, State.report_event canon.regs rfl (fun _ => rfl) (by decide),
    State.report_regsOnly_of (fun _ h => h) rfl, State.report_counts canon.live rfl (if_pos rfl),
    .app State.report_parts rfl (.app (Only.set_shade (s := s.stamp t)) rfl (State.stamp_only.mono rfl))⟩

/-- GO makes the mailbox's list arrive, and starts the copy. -/
theorem shMbpubGo_starts (write : s.Writable t req 0x28) (go : bit v 0 = true)
    (free : (s.stamp t).goRefused (mailboxSurf s.regs) = false) : ∃ n, exec (.shMbpubGo t req v) s = .next n ∧
      n.shade.mbBusy = some (mailboxSurf s.regs) ∧ n.shade.mbErr = s.shade.mbErr ∧
      (n.shade.surf[mailboxSurf s.regs]).taking = some (s.mailboxImage (mailboxSurf s.regs)) ∧
      (n.shade.surf[mailboxSurf s.regs]).takeNow = BitVec.ofNat 32 (s.stamp t).usecNow ∧
      (∀ u : Fin 2, (n.shade.surf[u]).active = (s.shade.surf[u]).active ∧
        (u ≠ mailboxSurf s.regs → n.shade.surf[u] = s.shade.surf[u])) ∧ Only [.now, .shade] s n := by
  have e : exec (.shMbpubGo t req v) s = .next { s.stamp t with shade := { s.shade with
        mbBusy := some (mailboxSurf s.regs)
        surf := s.shade.surf.set (mailboxSurf s.regs) { s.shade.surf[mailboxSurf s.regs] with
          taking := some (s.mailboxImage (mailboxSurf s.regs)), fill := [], takeNow := BitVec.ofNat 32 (s.stamp t).usecNow } } } := by
    refine (shMbpubGo_on write).trans (congrArg _ ((if_neg ?_).trans (if_neg ?_)))
    · rw [go]
      exact Bool.false_ne_true
    · exact ne_true_of_eq_false free
  refine ⟨_, e, rfl, rfl, congrArg ShadeSurf.taking Vector.getElem_set_fin_self, congrArg ShadeSurf.takeNow Vector.getElem_set_fin_self,
    fun u => ⟨?_, fun other => Vector.getElem_set_fin_ne other⟩, .app (Only.set_shade (s := s.stamp t)) rfl (State.stamp_only.mono rfl)⟩
  by_cases own : u = mailboxSurf s.regs
  · rw [own]
    refine (congrArg ShadeSurf.active Vector.getElem_set_fin_self).trans ?_
    rfl
  · exact congrArg ShadeSurf.active (Vector.getElem_set_fin_ne own)

theorem mailboxCopyDone_ends (on : s.coreOn = true) (off : s.flt.inj.remain = 0) (busy : s.shade.mbBusy = some u) :
    exec (.mailboxCopyDone t) s = .next { s.stamp t with shade := { s.shade with mbBusy := none } } := by
  refine (onCore_on on : execMailboxCopyDone t s = _).trans (congrArg _ ?_)
  unfold State.mailboxCopied
  rw [show (s.stamp t).shade.mbBusy = some u from busy]
  exact State.injWords_idle (s := { s.stamp t with shade := { s.shade with mbBusy := none } }) off

theorem mailboxCopyDone_idle (on : s.coreOn = true) (idle : s.shade.mbBusy = none) :
    exec (.mailboxCopyDone t) s = .next (s.stamp t) := by
  refine (onCore_on on : execMailboxCopyDone t s = _).trans (congrArg _ ?_)
  unfold State.mailboxCopied
  rw [show (s.stamp t).shade.mbBusy = none from idle]

/-! ### Take-ups (10 R368, R372) -/

theorem listTakeUp_on (on : s.coreOn = true) (fresh : s.Fresh (.listTakeUp t u)) :
    exec (.listTakeUp t u) s = .next ((s.stamp t).takeUp u) :=
  (onCore_on on : execListTakeUp t u s = _).trans (congrArg _ (State.once_fresh fresh))

theorem State.takeUp_waits (waits : (s.shade.surf[u]).taking = none ∨ s.shade.mbBusy = some u) : s.takeUp u = s := by
  unfold State.takeUp
  dsimp only
  split
  · rfl
  case h_2 found =>
    rcases waits with none_ | busy
    · rw [none_] at found
      cases found
    · exact if_pos busy

/-- The surface after its list has been taken up. -/
def ShadeSurf.took (x : ShadeSurf) (l : ObjList) : ShadeSurf :=
  { x with active := some l, taking := none, stale := x.stale && x.fillBad, parErr := x.fillBad,
           parSeen := false, fillBad := false, boxSet := x.boxSet + 1 }

theorem State.takeUp_takes (found : (s.shade.surf[u]).taking = some cells) (copied : s.shade.mbBusy ≠ some u)
    (good : listOf cells u (s.shade.surf[u]).takeNow.toNat = some l) (sound : (s.shade.surf[u]).fillBad = false) :
    s.takeUp u = (s.setShade u ((s.shade.surf[u]).took l)).report
      [.tally (pairKey Reg.SH_TAKES u) 1, .irq 0x28 u, Note.hit (Awaited.list u).key 1] := by
  have fine : ((s.shade.surf[u]).took l).parErr = false := sound
  unfold State.takeUp
  dsimp only
  rw [found]
  dsimp only
  rw [if_neg copied, good]
  dsimp only
  change State.listParity u ((s.setShade u ((s.shade.surf[u]).took l)).report _) = _
  generalize hn : (s.setShade u ((s.shade.surf[u]).took l)).report
    [.tally (pairKey Reg.SH_TAKES u) 1, .irq 0x28 u, Note.hit (Awaited.list u).key 1] = n
  have self : n.shade.surf[u] = (s.shade.surf[u]).took l := by
    rw [← hn]
    exact Vector.getElem_set_fin_self
  unfold State.listParity
  dsimp only
  refine if_neg ?_
  rw [self, fine]
  exact Bool.false_ne_true

theorem State.takeUp_rejects (found : (s.shade.surf[u]).taking = some cells) (copied : s.shade.mbBusy ≠ some u)
    (bad : listOf cells u (s.shade.surf[u]).takeNow.toNat = none) :
    s.takeUp u = (s.setShade u { s.shade.surf[u] with taking := none, fillBad := false }).report
        [.tally (rejKey u false) 1, .raise (Src.SH_BADLIST u), .irq 0x28 2] := by
  unfold State.takeUp
  dsimp only
  rw [found]
  dsimp only
  rw [if_neg copied, bad]

/-! ### Lifetimes (10 R379) -/

theorem listLifeExpiry_on (on : s.coreOn = true) : exec (.listLifeExpiry t u) s = .next ((s.stamp t).takeUpsFirst.when
    ((((s.stamp t).takeUpsFirst.shade.surf[u]).active.map (fun l => l.life != 0)).getD false &&
      !(s.stamp t).takeUpsFirst.hasCome (Awaited.list u).key) (State.goStale u)) :=
  (onCore_on on : execListLifeExpiry t u s = _)

theorem State.goStale_enters (fresh : (s.shade.surf[u]).stale = false) : s.goStale u = (s.setShade u { s.shade.surf[u] with
    stale := true, boxSet := (s.shade.surf[u]).boxSet + 1 }).report [.raise (Src.SH_STALE u), .irq 0x28 3] :=
  if_neg (ne_true_of_eq_false fresh)

end

/-- Settles O55. -/
theorem shadeMailboxAndLists : Obligations.ShadeMailboxAndLists := by
  unfold Obligations.ShadeMailboxAndLists
  intro t s canon
  refine ⟨fun req v write => ⟨fun idle => ?_, fun go refused => shMbpubGo_refuses write canon go refused,
      fun go free => shMbpubGo_starts write go free⟩, fun u on off busy => mailboxCopyDone_ends on off busy,
    fun on idle => mailboxCopyDone_idle on idle, fun u on fresh waits => ?_,
    fun u cells on fresh found copied => ⟨fun l good sound => ?_, fun bad => ?_⟩, fun u m l on hm active => ⟨fun life fresh first => ?_,
      fun h => ?_⟩⟩
  · refine (shMbpubGo_on write).trans (congrArg _ (if_pos ?_))
    rw [idle]
    rfl
  · exact (listTakeUp_on on fresh).trans (congrArg _ (State.takeUp_waits (s := s.stamp t) waits))
  · have e := (listTakeUp_on on fresh).trans (congrArg _ (State.takeUp_takes (s := s.stamp t) found copied good sound))
    have self : (s.shade.surf.set u ((s.shade.surf[u]).took l))[u] = (s.shade.surf[u]).took l := Vector.getElem_set_fin_self
    refine ⟨_, e, congrArg ShadeSurf.active self, congrArg ShadeSurf.taking self, (congrArg ShadeSurf.stale self).trans ?_,
      congrArg ShadeSurf.boxSet self, State.report_counts canon.live rfl (if_pos rfl),
      State.report_event canon.regs rfl (fun _ => rfl) (by omega), State.report_regsOnly_of
          (fun _ h => h) rfl, fun w other => Vector.getElem_set_fin_ne other, .app State.report_parts rfl
          (.app State.setShade_only rfl (State.stamp_only.mono rfl))⟩
    exact (congrArg (_ && ·) sound).trans (Bool.and_false _)
  · have e := (listTakeUp_on on fresh).trans (congrArg _ (State.takeUp_rejects (s := s.stamp t) found copied bad))
    have self : (s.shade.surf.set u { s.shade.surf[u] with taking := none, fillBad := false })[u] =
      { s.shade.surf[u] with taking := none, fillBad := false } := Vector.getElem_set_fin_self
    exact ⟨_, e, (congrArg ShadeSurf.active self :), (congrArg ShadeSurf.taking self :), (congrArg ShadeSurf.boxSet self :),
      State.report_raised rfl rfl, State.report_counts canon.live rfl (if_pos rfl),
      .app State.report_parts rfl (.app State.setShade_only rfl (State.stamp_only.mono rfl))⟩
  · have canon' : m.Canonical := hm ▸ State.takeUpsFirst_canon (.only State.stamp_only rfl canon)
    have e := listLifeExpiry_on (t := t) (u := u) on
    rw [← hm, active, first] at e
    have lives : ((some l).map (fun l => l.life != 0)).getD false = true := bne_iff_ne.mpr life
    rw [lives, State.when_true (c := true && !false) rfl, State.goStale_enters fresh] at e
    have self : (m.shade.surf.set u { m.shade.surf[u] with stale := true, boxSet := (m.shade.surf[u]).boxSet + 1 })[u] =
      { m.shade.surf[u] with stale := true, boxSet := (m.shade.surf[u]).boxSet + 1 } := Vector.getElem_set_fin_self
    exact ⟨_, e, congrArg ShadeSurf.stale self, (congrArg ShadeSurf.active self :).trans active, State.report_raised rfl rfl,
      State.report_event canon'.regs rfl (fun _ => rfl) (by decide), State.report_regsOnly_of (fun _ h => h) rfl,
      .app State.report_parts rfl (State.setShade_only.mono rfl)⟩
  · have e := listLifeExpiry_on (t := t) (u := u) on
    rw [← hm, active] at e
    refine e.trans (congrArg _ ?_)
    rcases h with forever | stale | come
    · refine State.when_false ?_
      rw [Option.map_some, forever]
      rfl
    · exact State.when_cases (p := (· = m)) (if_pos stale) rfl
    · refine State.when_false ?_
      rw [come, Bool.not_true, Bool.and_false]

end Sys2Proof.Machine
end

section
/-! Boot. -/

namespace Sys2Proof.Machine

open Sys2Proof

section
variable {s n : State} {t c : Nat} {z fell first : Bool} {img a b dir ja jb : List Byte} {x : Sec} {trial : Option Bool} {r : List Bool}

/-! ### Images that LOAD accepts or refuses (19 R676, R677) -/

/-- The code of a slot changes nothing that an image is judged by. -/
theorem Sec.result_judges : (x.result z c).otp = x.otp ∧ (x.result z c).otpBad = x.otpBad ∧ (x.result z c).selfTest = x.selfTest := by
  cases z <;> exact ⟨rfl, rfl, rfl⟩

section
variable {y : Sec} (otp : y.otp = x.otp) (bad : y.otpBad = x.otpBad)
include otp

theorem Sec.otpWord_of : y.otpWord = x.otpWord := by
  funext w
  rw [Sec.otpWord, Sec.otpWord, Sec.otpBytes, Sec.otpBytes, otp]

theorem Sec.cfg_of : y.cfg = x.cfg := by
  simp only [Sec.cfg, Sec.cfgCopy, Sec.otpBytes, otp]

theorem Sec.keyMatches_of : y.keyMatches = x.keyMatches := by
  funext key k
  rw [Sec.keyMatches, Sec.keyMatches, Sec.otpBytes, Sec.otpBytes, otp]

include bad

theorem Sec.blank_of : y.blank = x.blank := by
  funext w
  rw [Sec.blank, Sec.blank, Sec.otpWord_of otp, bad]

theorem Sec.wordsGood_of : y.wordsGood = x.wordsGood := by
  funext w n
  rw [Sec.wordsGood, Sec.wordsGood, Sec.blank_of otp bad, bad]

theorem Sec.usableImg_of : y.usableImg = x.usableImg := by
  funext c k
  rw [Sec.usableImg, Sec.usableImg, Sec.wordsGood_of otp bad]

theorem Sec.arb_of : y.arb = x.arb := by
  rw [Sec.arb, Sec.arb, Sec.records, Sec.records, Sec.blank_of otp bad, Sec.otpWord_of otp, bad]

theorem Sec.open_of : y.open_ = x.open_ := by
  funext b
  rw [Sec.open_, Sec.open_, Sec.imageKeyOk, Sec.imageKeyOk, Sec.wordsGood_of otp bad, Sec.otpBytes, Sec.otpBytes, otp]

theorem Sec.accepts_of (test : y.selfTest = x.selfTest) : y.accepts b dir = x.accepts b dir := by
  rw [Sec.accepts, Sec.accepts, Sec.verify, Sec.verify, Sec.open_of otp bad, Sec.usableImg_of otp bad, Sec.cfg_of otp,
    Sec.keyMatches_of otp, Sec.arb_of otp bad, test]

end

theorem Sec.accepts_result : (x.result z c).accepts b dir = x.accepts b dir :=
  Sec.accepts_of Sec.result_judges.1 Sec.result_judges.2.1 Sec.result_judges.2.2

/-- The codes of a verification. -/
theorem Sec.verify_small : x.verify b dir < 16 := by
  unfold Sec.verify
  dsimp only
  split_ifs <;> decide

theorem otpNotes_parts {bad : Bool} : ((otpNotes bad).flatMap Note.parts).all ([Part.flt].contains ·) = true := noteIf_parts rfl

theorem verifyNotes_parts : ((verifyNotes c).flatMap Note.parts).all ([Part.flt].contains ·) = true := by
  unfold verifyNotes
  split
  · rfl
  · split <;> rfl

theorem checkNotes_parts {bad : Bool} : ((verifyNotes c ++ otpNotes bad).flatMap Note.parts).all ([Part.flt].contains ·) = true := by
  rw [List.flatMap_append, List.all_append, verifyNotes_parts, otpNotes_parts]
  rfl

/-- An image that LOAD does not accept: its code stands in the result of its slot, and nothing runs. -/
theorem State.secLoad_refused (refused : s.sec.accepts img dir = false) :
    ∃ c, (s.secLoad z img dir).sec = s.sec.result z c ∧ BitVec.ofNat 4 c ≠ 1 ∧ (s.secLoad z img dir).fst.st = s.fst.st ∧
      Only [.fst, .sec, .flt] s (s.secLoad z img dir) := by
  unfold State.secLoad
  dsimp only
  by_cases good : s.sec.verify img dir = 1
  · rw [if_neg (not_not_intro good)]
    cases opened : s.sec.open_ img with
    | none =>
      exact ⟨8, rfl, by decide, rfl, .app (State.report_parts.mono checkNotes_parts) rfl
        (.app Only.set_sec rfl (.app (Only.set_fst (s := s)) rfl .refl))⟩
    | some p =>
      rw [Sec.accepts, good, opened] at refused
      cases refused
  · rw [if_pos good]
    refine ⟨s.sec.verify img dir, rfl, fun h => good ?_, rfl, .app (State.report_parts.mono checkNotes_parts) rfl
      (.app (Only.set_sec (s := s)) rfl .refl)⟩
    have value := congrArg BitVec.toNat h
    rw [BitVec.toNat_ofNat, Nat.mod_eq_of_lt Sec.verify_small] at value
    exact value

/-- A slot whose image LOAD accepts runs as firmware. -/
def State.starts (word : Word) (s : State) : State :=
  { s with regs := rset Reg.FP_BOOT word s.regs, fst := { s.fst with st := .firmware }, sec := { s.sec with romPhase := false } }

theorem State.secLoad_accepted {p : List Byte} (accepted : s.sec.accepts img dir = true) (opened : s.sec.open_ img = some p) :
    s.secLoad z img dir = ({ (s.putTcm p) with sec := (s.sec.result z 1).running img }.keepImg s.sec.imgCnt).report
      (otpNotes (s.sec.verifyBad img)) := by
  have good : s.sec.verify img dir = 1 := by
    rw [Sec.accepts, Bool.and_eq_true, beq_iff_eq] at accepted
    exact accepted.1
  unfold State.secLoad
  dsimp only
  rw [if_neg (not_not_intro good), opened]

/-- What the start of an accepted slot leaves. -/
theorem State.secLoad_starts {p : List Byte} {word : Word} (accepted : s.sec.accepts img dir = true) (opened : s.sec.open_ img = some p)
    (canon : s.Canonical) :
    ((s.secLoad z img dir).starts word).fst.st = .firmware ∧ rget ((s.secLoad z img dir).starts word).regs Reg.FP_BOOT = word ∧
      ((s.secLoad z img dir).starts word).sec = { (s.sec.result z 1).running img with romPhase := false } ∧
      (∀ i, i < p.length → ((s.secLoad z img dir).starts word).fst.tcm.byte i = p.getD i 0) ∧
      RegsOnly [Reg.FP_BOOT] s ((s.secLoad z img dir).starts word) ∧
      Only [.now, .regs, .fst, .sec, .flt] s ((s.secLoad z img dir).starts word) := by
  rw [State.secLoad_accepted accepted opened]
  generalize hm : ({ (s.putTcm p) with sec := (s.sec.result z 1).running img }.keepImg s.sec.imgCnt).report
    (otpNotes (s.sec.verifyBad img)) = m
  have loaded : Only [.now, .fst, .sec, .flt] s m := by
    rw [← hm]
    exact .app (State.report_parts.mono otpNotes_parts) rfl (.app State.keepImg_only rfl (.app Only.set_sec rfl
      (.app (Only.set_fst (s := s)) rfl .refl)))
  have sec : m.sec = (s.sec.result z 1).running img := by
    rw [← hm]
    rfl
  have tcm : m.fst.tcm = s.fst.tcm.write 0 zeroByte 0 p := by
    rw [← hm]
    rfl
  have canon' : smWf regReset m.regs = true := by
    rw [loaded .regs rfl]
    exact canon.regs
  unfold State.starts
  dsimp only
  refine ⟨rfl, rget_rset_self canon', by rw [sec], fun i small => ?_, fun a ha => ?_, ?_⟩
  · rw [tcm]
    refine (Store.read_write canon.tcm).trans ?_
    rw [if_pos (by omega), Nat.sub_zero]
  · exact (rget_rset_ne (fun h => ha (List.mem_singleton.mpr h))).trans (congrArg (rget · a) (loaded .regs rfl))
  · exact .app (Only.set_sec (s := { m with regs := rset Reg.FP_BOOT word m.regs, fst := { m.fst with st := .firmware } })) rfl
      (.app (Only.set_fst (s := { m with regs := rset Reg.FP_BOOT word m.regs })) rfl
        (.app (Only.set_regs (s := m)) rfl (loaded.mono rfl)))

/-! ### Candidates (18 R641) -/

theorem State.bootTry_accepts (accepted : s.sec.accepts (if z then b else a) dir = true) :
    s.bootTry a b dir trial fell (z :: r) first =
      (s.secLoad z (if z then b else a) dir).starts (bootWord z (trial == some z) (fell || !first)) := by
  unfold State.bootTry
  exact if_pos accepted

theorem State.bootTry_refuses (refused : s.sec.accepts (if z then b else a) dir = false) :
    s.bootTry a b dir trial fell (z :: r) first =
      (s.secLoad z (if z then b else a) dir).bootTry a b dir trial fell r false := by
  conv_lhs => unfold State.bootTry
  exact if_neg (ne_true_of_eq_false refused)

/-- Without a valid journal record the ROM tries slot A, then slot B. -/
theorem State.boot_noRecord (badA : journalOk ja = false) (badB : journalOk jb = false) : s.boot ja jb a b dir =
    State.bootTry a b dir none false [false, true] true
      { s with fst := { s.fst with rom := { record := none, inB := false } } } := by
  have inB : journalInB ja jb = false := by rw [journalInB, badB, Bool.false_and]
  have none_ : journalBest ja jb = none := by
    rw [journalBest, inB, if_neg Bool.false_ne_true, badA, if_neg Bool.false_ne_true]
  unfold State.boot
  dsimp only
  rw [none_, inB]
  rfl

theorem bootSelect_boots (on : s.coreOn = true) (rom : s.fst.st = .rom) (ended : s.loading = false) :
    exec (.bootSelect t ja jb a b dir) s = .next ((s.stamp t).boot ja jb a b dir) := by
  have awake : s.fst.st ≠ .reset := by rw [rom]; decide
  refine (onForester_on on awake : execBootSelect t ja jb a b dir s = _).trans (congrArg _ (State.when_true ?_))
  rw [show (s.stamp t).loading = s.loading from rfl, ended, show (s.stamp t).fst.st = s.fst.st from rfl, rom]
  rfl

theorem bootSelect_waits (on : s.coreOn = true) (h : s.fst.st ≠ .rom ∨ s.loading = true) :
    exec (.bootSelect t ja jb a b dir) s = .next (s.stamp t) := by
  have stays : ((s.stamp t).fst.st == .rom && !(s.stamp t).loading) = false := by
    rcases h with away | busy
    · rw [show ((s.stamp t).fst.st == .rom) = false from beq_false_of_ne away, Bool.false_and]
    · rw [show (s.stamp t).loading = true from busy, Bool.not_true, Bool.and_false]
  exact (onCore_on on : execBootSelect t ja jb a b dir s = _).trans
    (congrArg _ (State.when_cases (p := (· = s.stamp t)) (State.when_false stays) rfl))

/-! ### The recovery set (18 R642) -/

/-- The mailbox open, and Forester in the recovery set. -/
def State.recovered (s : State) : State :=
  { s with regs := rset Reg.FP_MB_CTRL 1 s.regs, fst := { s.fst with st := .recovery } }.report [.raise Src.FO_BOOT]

theorem State.recovered_does (canon : smWf regReset s.regs = true) : s.recovered.fst.st = .recovery ∧
    rget s.recovered.regs Reg.FP_MB_CTRL = 1 ∧ Src.FO_BOOT ∈ s.recovered.flt.raised ∧ s.recovered.sec = s.sec ∧
    RegsOnly [Reg.FP_MB_CTRL] s s.recovered ∧ Only [.regs, .fst, .flt] s s.recovered :=
  ⟨rfl, rget_rset_self canon, List.mem_append_right _ (List.mem_singleton.mpr rfl), rfl,
    fun _ ha => rget_rset_ne (fun h => ha (List.mem_singleton.mpr h)),
    .app State.report_parts rfl (.app (Only.set_fst (s := { s with regs := rset Reg.FP_MB_CTRL 1 s.regs })) rfl
      (.app (Only.set_regs (s := s)) rfl .refl))⟩

/-- A service in time keeps the register words and every source raised. -/
theorem State.fwdogService_keeps (timely : s.glade.wdSoon s.now = false) : s.fwdogService.regs = s.regs ∧ Grows s s.fwdogService := by
  have e : s.fwdogService = ({ s with glade := { s.glade with wdBoot := false, wdAt := s.now } }.gladeCond 11 false).gladeSettle :=
    if_neg (ne_true_of_eq_false timely)
  have before : Only [.glade] s ({ s with glade := { s.glade with wdBoot := false, wdAt := s.now } }.gladeCond 11 false) :=
    .app State.gladeCond_only rfl (Only.set_glade (s := s))
  rw [e]
  exact ⟨(State.gladeSettle_parts .regs rfl).trans (before .regs rfl), .trans
      (.of_flt (before .flt rfl)) State.gladeSettle_grows⟩

theorem State.recover_does (canon : smWf regReset s.regs = true)
    (timely : s.wdRuns = true → s.gladeOn = true → s.glade.wdSoon s.now = false) : s.recover.fst.st = .recovery ∧
    rget s.recover.regs Reg.FP_MB_CTRL = 1 ∧ Src.FO_BOOT ∈ s.recover.flt.raised ∧ s.recover.sec = s.sec ∧
    ((s.wdRuns && s.gladeOn) = false → RegsOnly [Reg.FP_MB_CTRL] s s.recover ∧ Only [.regs, .fst, .flt] s s.recover) := by
  obtain ⟨st, opened, raised, sec, words, parts⟩ := State.recovered_does canon
  have e : s.recover = s.recovered.when (s.wdRuns && s.gladeOn) State.fwdogService := by
    unfold State.recover State.recovered
    rfl
  cases runs : s.wdRuns && s.gladeOn
  · rw [e, State.when_false runs]
    exact ⟨st, opened, raised, sec, fun _ => ⟨words, parts⟩⟩
  · obtain ⟨wd, glade⟩ := (Bool.and_eq_true _ _).mp runs
    have timely' : s.recovered.glade.wdSoon s.recovered.now = false := timely wd glade
    obtain ⟨-, -, -, fst, sec'⟩ := State.fwdogService_does timely'
    obtain ⟨regs, grows⟩ := State.fwdogService_keeps timely'
    rw [e, State.when_true runs, fst, regs, sec']
    exact ⟨st, opened, grows.mem raised, sec, fun h => (nomatch h)⟩

end

/-- Settles O58. -/
theorem bootSelectsASlot : Obligations.BootSelectsASlot := by
  unfold Obligations.BootSelectsASlot
  intro t ja jb a b dir s on canon
  refine ⟨fun rom ended badA badB => ?_, fun h => bootSelect_waits on h⟩
  have e := (bootSelect_boots (t := t) (a := a) (b := b) (dir := dir) on rom ended).trans
    (congrArg _ (State.boot_noRecord badA badB))
  generalize hw : ({ s.stamp t with fst := { (s.stamp t).fst with rom := { record := none, inB := false } } } : State) = w at e
  have parts : Only [.now, .fst] s w := hw ▸ .app (Only.set_fst (s := s.stamp t)) rfl (State.stamp_only.mono rfl)
  have canon' : w.Canonical := hw ▸ .set_fst id (.only State.stamp_only rfl canon)
  have sec : w.sec = s.sec := parts .sec rfl
  have now : w.now = max s.now t := by rw [← hw]; rfl
  have runs : w.wdRuns = s.wdRuns := by rw [← hw]; rfl
  have glade : w.gladeOn = s.gladeOn := by rw [← hw]; rfl
  refine ⟨fun accepted => ?_, fun refusedA accepted => ?_, fun refusedA refusedB timely => ?_⟩
  · have accepted' : w.sec.accepts (if false then b else a) dir = true := sec ▸ accepted
    rw [State.bootTry_accepts accepted'] at e
    obtain ⟨p, opened⟩ := Option.isSome_iff_exists.mp (((Bool.and_eq_true _ _).mp accepted).2)
    obtain ⟨st, word, sec', tcm, words, all⟩ := State.secLoad_starts (z := false) (word := bootWord false (none == some false) (false || !true))
      accepted' (sec ▸ opened) canon'
    refine ⟨_, e, st, word, ?_, ?_, ?_, ?_, fun q hq i small => ?_, ?_, fun a ha => (words a ha).trans (congrArg (rget · a) (parts .regs rfl)),
      .app all rfl (parts.mono rfl)⟩
    · rw [sec']
    · rw [sec', sec]; rfl
    · rw [sec', sec]; rfl
    · rw [sec', sec]; rfl
    · obtain rfl := Option.some.inj (opened.symm.trans hq)
      exact tcm i small
    · rw [sec', sec]; rfl
  · have refused' : w.sec.accepts (if false then b else a) dir = false := sec ▸ refusedA
    rw [State.bootTry_refuses refused'] at e
    obtain ⟨c, secA, codeA, -, partsA⟩ := State.secLoad_refused (z := false) refused'
    have canonA : (w.secLoad false (if false then b else a) dir).Canonical := State.secLoad_canon canon'
    generalize w.secLoad false (if false then b else a) dir = v at e secA partsA canonA
    have accepted' : v.sec.accepts (if true then b else a) dir = true := by
      rw [secA, Sec.accepts_result, sec]
      exact accepted
    rw [State.bootTry_accepts accepted'] at e
    obtain ⟨p, opened⟩ := Option.isSome_iff_exists.mp (((Bool.and_eq_true _ _).mp accepted').2)
    obtain ⟨st, word, sec', -, words, all⟩ := State.secLoad_starts (z := true) (word := bootWord true (none == some true) (false || !false))
      accepted' opened canonA
    have before : Only [.now, .fst, .sec, .flt] s v := .app partsA rfl (parts.mono rfl)
    rw [secA, sec] at sec'
    refine ⟨_, e, st, word, ?_, ?_, ?_, ?_, fun a ha => (words a ha).trans (congrArg (rget · a) (before .regs rfl)),
      .app all rfl (before.mono rfl)⟩
    · rw [sec']
    · rw [sec']; rfl
    · rw [sec']; exact codeA
    · rw [sec']; rfl
  · have refused' : w.sec.accepts (if false then b else a) dir = false := sec ▸ refusedA
    rw [State.bootTry_refuses refused'] at e
    obtain ⟨c, secA, -, stA, partsA⟩ := State.secLoad_refused (z := false) refused'
    generalize w.secLoad false (if false then b else a) dir = v at e secA stA partsA
    have refusedB' : v.sec.accepts (if true then b else a) dir = false := by
      rw [secA, Sec.accepts_result, sec]
      exact refusedB
    rw [State.bootTry_refuses refusedB'] at e
    obtain ⟨d, secB, -, stB, partsB⟩ := State.secLoad_refused (z := true) refusedB'
    generalize v.secLoad true (if true then b else a) dir = m at e secB stB partsB
    change _ = Host.Outcome.next m.recover at e
    have before : Only [.now, .fst, .sec, .flt] s m := .app partsB rfl (.app partsA rfl (parts.mono rfl))
    have runs' : m.wdRuns = s.wdRuns := by
      rw [← runs]
      unfold State.wdRuns
      rw [stB, stA, partsB .glade rfl, partsA .glade rfl]
    have glade' : m.gladeOn = s.gladeOn := by
      unfold State.gladeOn
      rw [before .top rfl, before .glade rfl]
    have now' : m.now = max s.now t := ((partsB .now rfl).1.trans (partsA .now rfl).1).trans now
    obtain ⟨st, opened, raised, sec', quiet⟩ := State.recover_does (s := m) (before .regs rfl ▸ canon.regs)
        (fun wd on => by
      rw [before .glade rfl, now']
      exact timely (runs' ▸ wd) (glade' ▸ on))
    refine ⟨_, e, st, opened, raised, ?_, ?_, fun idle => ?_⟩
    · rw [sec', secB, secA, sec]; rfl
    · rw [sec', secB, secA, sec]; rfl
    · obtain ⟨words, all⟩ := quiet (by rw [runs', glade']; exact idle)
      exact ⟨fun a ha => (words a ha).trans (congrArg (rget · a) (before .regs rfl)), .app all rfl (before.mono rfl)⟩

end Sys2Proof.Machine
end

section
/-! SEC commands. -/

namespace Sys2Proof.Machine

open Sys2Proof

/-! ### Words of a memory -/

section
variable {d : Nat → Byte} {m : List Host.Cell} {a b k : Nat} {l : List Byte}

theorem Memory.readN_writeL_self (wf : Memory.wf d m = true) : Memory.readN d (Memory.writeL d m a l) a l.length = l := by
  refine List.ext_getElem (by rw [Memory.readN, List.length_map, List.length_range]) (fun i _ small => ?_)
  simp only [Memory.readN, List.getElem_map, List.getElem_range]
  rw [Memory.read_writeL wf, if_pos (by omega), Nat.add_sub_cancel_left,
    List.getD_eq_getElem _ _ small]

theorem Memory.readN_writeL_away (wf : Memory.wf d m = true) (away : b + k ≤ a ∨ a + l.length ≤ b) :
    Memory.readN d (Memory.writeL d m a l) b k = Memory.readN d m b k := by
  refine List.map_congr_left (fun i mem => ?_)
  have small := List.mem_range.mp mem
  rw [Memory.read_writeL wf, if_neg (by omega)]

/-! ### Words of the OTP key store (19 R669) -/

variable {x : Sec} {w v : Nat}

theorem Sec.otpWord_lt : x.otpWord w < 2 ^ 64 := by
  have h := ofBytesLE_lt (l := x.otpBytes (8 * w) 8)
  have size : (x.otpBytes (8 * w) 8).length = 8 := by rw [Sec.otpBytes, Memory.readN, List.length_map, List.length_range]
  rw [size] at h
  exact h

/-- A program sets the named bits of its word. -/
theorem Sec.otpWord_program_self (wf : Memory.wf otpByte0 x.otp = true) (small : v < 2 ^ 64) :
    (x.program w v).otpWord w = x.otpWord w ||| v := by
  have fits : x.otpWord w ||| v < 256 ^ 8 := Nat.or_lt_two_pow Sec.otpWord_lt small
  have bytes : (x.program w v).otpBytes (8 * w) 8 = toBytesLE 8 (x.otpWord w ||| v) := by
    have h := Memory.readN_writeL_self (a := 8 * w) (l := toBytesLE 8 (x.otpWord w ||| v)) wf
    rw [toBytesLE_length] at h
    exact h
  rw [Sec.otpWord, bytes, ofBytesLE_toBytesLE fits]

/-- A program leaves every other word. -/
theorem Sec.otpWord_program_ne {y : Nat} (wf : Memory.wf otpByte0 x.otp = true) (other : y ≠ w) :
    (x.program w v).otpWord y = x.otpWord y := by
  refine congrArg ofBytesLE (Memory.readN_writeL_away wf ?_)
  rw [toBytesLE_length]
  omega

end

/-! ### SEC commands that start or are refused (19 R674) -/

section
variable {s n : State} {t c op row addr y : Nat} {v w : Word} {z : Bool} {j : SecJob} {slot dir : List Byte} {k : Instr}

theorem State.secRefuse_does : (s.secRefuse c).sec = { s.sec with err := true, ecode := BitVec.ofNat 4 c } ∧
    Only [.now, .sec] s (s.secRefuse c) :=
  ⟨rfl, .app State.hit_only rfl (.app (Only.set_sec (s := s)) rfl .refl)⟩

theorem State.secStart_busy (busy : s.sec.job ≠ none) : s.secStart op row addr y w = s.secRefuse 1 :=
  if_pos (Option.isSome_iff_ne_none.mpr busy)

section
variable (idle : s.sec.job = none)
include idle

theorem State.secStart_key (key : fld w 16 16 ≠ 0x05EC) : s.secStart op row addr y w = s.secRefuse 2 :=
  (if_neg (by rw [idle]; exact Bool.false_ne_true)).trans (if_pos key)

variable (key : fld w 16 16 = 0x05EC)
include key

theorem State.secStart_row (own : row ≠ 0) : s.secStart op row addr y w = s.secRefuse row :=
  (if_neg (by rw [idle]; exact Bool.false_ne_true)).trans ((if_neg (not_not_intro key)).trans (if_pos own))

theorem State.secStart_window (shut : s.windowBefore = true ∨ bit s.pwr.railErr 6 = true) :
    s.secStart op 0 addr y w = s.secRefuse 7 :=
  (if_neg (by rw [idle]; exact Bool.false_ne_true)).trans ((if_neg (not_not_intro key)).trans
    ((if_neg (not_not_intro rfl)).trans (if_pos (Bool.or_eq_true_iff.mpr shut))))

theorem State.secStart_starts (shut : s.windowBefore = false) (rail : bit s.pwr.railErr 6 = false) :
    s.secStart op 0 addr y w = { s with sec := { s.sec with
      job := some { op := BitVec.ofNat 4 op, arg := bit w 4, addr := addr, v := BitVec.ofNat 64 y } } } :=
  (if_neg (by rw [idle]; exact Bool.false_ne_true)).trans ((if_neg (not_not_intro key)).trans
    ((if_neg (not_not_intro rfl)).trans (if_neg (by rw [shut, rail]; exact Bool.false_ne_true))))

end

/-- A command of Forester to the SEC page. -/
theorem onSec_on {f : State → State} (write : s.Writable t .forester 0x60) (awake : s.fst.st ≠ .reset) :
    onSec t s f = .next (f (s.stamp t)) :=
  (onForester_on write.1 awake : onSec t s f = _).trans (congrArg _ write.access)

/-- Each SEC command is a start, under the code of its own conditions. -/
theorem exec_secCommand (write : s.Writable t .forester 0x60) (awake : s.fst.st ≠ .reset)
    (h : k = .verify t v ∨ k = .load t v ∨ k = .arbRaise t v ∨ k = .otpProg t v ∨ k = .cfgSet t v) :
    ∃ op row addr y, exec k s = .next ((s.stamp t).secStart op row addr y v) := by
  rcases h with rfl | rfl | rfl | rfl | rfl
  · exact ⟨_, _, _, _, (onSec_on write awake : execVerify t v s = _)⟩
  · exact ⟨_, _, _, _, (onSec_on write awake : execLoad t v s = _)⟩
  · exact ⟨_, _, _, _, (onSec_on write awake : execArbRaise t v s = _)⟩
  · exact ⟨_, _, _, _, (onSec_on write awake : execOtpProg t v s = _)⟩
  · exact ⟨_, _, _, _, (onSec_on write awake : execCfgSet t v s = _)⟩

/-- What a refused command leaves. -/
theorem refused_of (e : exec k s = .next ((s.stamp t).secRefuse c)) :
    ∃ n, exec k s = .next n ∧ n.sec = { s.sec with err := true, ecode := BitVec.ofNat 4 c } ∧ Only [.now, .sec] s n :=
  ⟨_, e, rfl, .app State.secRefuse_does.2 rfl (State.stamp_only.mono rfl)⟩

/-- What a command that starts leaves. -/
theorem started_of (e : exec k s = .next { s.stamp t with sec := { s.sec with job := some j } }) :
    ∃ n, exec k s = .next n ∧ n.sec = { s.sec with job := some j } ∧ Only [.now, .sec] s n :=
  ⟨_, e, rfl, .app (Only.set_sec (s := s.stamp t)) rfl (State.stamp_only.mono rfl)⟩

/-! ### The ends of SEC commands (19 R674–R681) -/

theorem State.secVerify_does : (s.secVerify z slot dir).sec = s.sec.result z (s.sec.verify slot dir) ∧
    Only [.sec, .flt] s (s.secVerify z slot dir) :=
  ⟨rfl, .app (State.report_parts.mono checkNotes_parts) rfl (.app (Only.set_sec (s := s)) rfl .refl)⟩

/-- What a slot's result does not touch. -/
theorem Sec.result_keeps {x : Sec} : (x.result z c).imgCnt = x.imgCnt ∧ (x.result z c).dbgOpen = x.dbgOpen ∧
    (z = false → (x.result z c).resA = BitVec.ofNat 4 c ∧ (x.result z c).resB = x.resB) ∧
    (z = true → (x.result z c).resB = BitVec.ofNat 4 c ∧ (x.result z c).resA = x.resA) := by
  cases z
  · exact ⟨rfl, rfl, fun _ => ⟨rfl, rfl⟩, nofun⟩
  · exact ⟨rfl, rfl, nofun, fun _ => ⟨rfl, rfl⟩⟩

/-- LOAD programs nothing. -/
theorem State.secLoad_does : (s.secLoad z slot dir).sec.otp = s.sec.otp ∧
    (s.secLoad z slot dir).sec.dbgOpen = s.sec.dbgOpen ∧ Only [.now, .fst, .sec, .flt] s (s.secLoad z slot dir) := by
  cases accepted : s.sec.accepts slot dir
  · obtain ⟨c, sec, -, -, parts⟩ := State.secLoad_refused (z := z) accepted
    rw [sec]
    exact ⟨Sec.result_judges.1, Sec.result_keeps.2.1, parts.mono rfl⟩
  · obtain ⟨p, opened⟩ := Option.isSome_iff_exists.mp (((Bool.and_eq_true _ _).mp accepted).2)
    rw [State.secLoad_accepted accepted opened]
    refine ⟨Sec.result_judges.1, Sec.result_keeps.2.1, .app (State.report_parts.mono otpNotes_parts) rfl
        (.app State.keepImg_only rfl
      (.app (Only.set_sec (s := s.putTcm p)) rfl (.app (Only.set_fst (s := s)) rfl .refl)))⟩

theorem State.secLoad_loads {p : List Byte} (canon : s.Canonical) (good : s.sec.verify slot dir = 1) (opened : s.sec.open_ slot = some p) :
    (s.secLoad z slot dir).sec.imgCnt = BitVec.ofNat 64 (leAt slot 0x010 8) ∧
      ∀ i, i < p.length → (s.secLoad z slot dir).fst.tcm.byte i = p.getD i 0 := by
  have accepted : s.sec.accepts slot dir = true := by
    rw [Sec.accepts, good, opened]
    rfl
  obtain ⟨-, -, sec, tcm, -⟩ := State.secLoad_starts (z := z) (word := 0) accepted opened canon
  exact ⟨congrArg Sec.imgCnt sec, tcm⟩

/-- A raise to a new value programs one word, and keeps a log record. -/
theorem State.arbEnd_raises (new_ : j.v.toNat ≠ s.sec.arb) : (s.arbEnd j).sec = s.sec.program j.addr j.v.toNat ∧
    Only [.flt, .sec, .log] s (s.arbEnd j) := by
  have parts : Only [.flt] s (s.report (otpNotes s.sec.arbBad)) := State.report_parts.mono otpNotes_parts
  have e : s.arbEnd j = State.logHw 0x0052 0xFF j.v.toNat
      { s.report (otpNotes s.sec.arbBad) with sec := s.sec.program j.addr j.v.toNat } := if_neg new_
  rw [e]
  exact ⟨State.logHw_parts .sec rfl, .app State.logHw_parts rfl (.app Only.set_sec rfl (parts.mono rfl))⟩

theorem State.arbEnd_same (same : j.v.toNat = s.sec.arb) : s.arbEnd j = s.report (otpNotes s.sec.arbBad) := if_pos same

/-- The effect of a command at its end, case by case. -/
theorem State.secEnd_verify (op : j.op = 1) : s.secEnd j slot dir = s.secVerify j.arg slot dir := if_pos op

theorem State.secEnd_load (op : j.op = 2) : s.secEnd j slot dir = s.secLoad j.arg slot dir :=
  (if_neg (by rw [op]; decide)).trans (if_pos op)

theorem State.secEnd_arb (op : j.op = 3) : s.secEnd j slot dir = s.arbEnd j :=
  (if_neg (by rw [op]; decide)).trans ((if_neg (by rw [op]; decide)).trans (if_pos op))

theorem State.secEnd_prog (op : j.op = 4) : s.secEnd j slot dir = { s with sec := s.sec.program j.addr j.v.toNat } :=
  (if_neg (by rw [op]; decide)).trans ((if_neg (by rw [op]; decide)).trans ((if_neg (by rw [op]; decide)).trans (if_pos op)))

theorem State.secEnd_cfg (not1 : j.op ≠ 1) (not2 : j.op ≠ 2) (not3 : j.op ≠ 3) (not4 : j.op ≠ 4) : s.secEnd j slot dir =
    { s with sec := s.sec.setCfg j.v.toNat }.report (otpNotes s.sec.cfgSplit) :=
  (if_neg not1).trans ((if_neg not2).trans ((if_neg not3).trans (if_neg not4)))

theorem Sec.setCfg_dbgOpen {x : Sec} {y : Nat} : (x.setCfg y).dbgOpen = x.dbgOpen := by
  unfold Sec.setCfg Sec.program
  dsimp only

/-- No command's end touches the debug state, or a part but these. -/
theorem State.secEnd_does : (s.secEnd j slot dir).sec.dbgOpen = s.sec.dbgOpen ∧
    (s.secEnd j slot dir).fst.st = s.fst.st ∧ (s.secEnd j slot dir).fst.rom = s.fst.rom ∧
    Only [.now, .fst, .log, .sec, .flt] s (s.secEnd j slot dir) := by
  by_cases op1 : j.op = 1
  · rw [State.secEnd_verify op1]
    exact ⟨Sec.result_keeps.2.1, rfl, rfl, State.secVerify_does.2.mono rfl⟩
  by_cases op2 : j.op = 2
  · rw [State.secEnd_load op2]
    have tcm : (s.secLoad j.arg slot dir).fst.st = s.fst.st ∧ (s.secLoad j.arg slot dir).fst.rom = s.fst.rom := by
      unfold State.secLoad
      dsimp only
      split
      · exact ⟨rfl, rfl⟩
      · split <;> exact ⟨rfl, rfl⟩
    exact ⟨State.secLoad_does.2.1, tcm.1, tcm.2, State.secLoad_does.2.2.mono rfl⟩
  by_cases op3 : j.op = 3
  · rw [State.secEnd_arb op3]
    by_cases same : j.v.toNat = s.sec.arb
    · rw [State.arbEnd_same same]
      exact ⟨rfl, rfl, rfl, .app (State.report_parts.mono otpNotes_parts) rfl .refl⟩
    · obtain ⟨sec, parts⟩ := State.arbEnd_raises same
      rw [sec, parts .fst rfl]
      exact ⟨rfl, rfl, rfl, parts.mono rfl⟩
  by_cases op4 : j.op = 4
  · rw [State.secEnd_prog op4]
    exact ⟨rfl, rfl, rfl, .app (Only.set_sec (s := s)) rfl .refl⟩
  · rw [State.secEnd_cfg op1 op2 op3 op4]
    refine ⟨?_, rfl, rfl, .app (State.report_parts.mono otpNotes_parts) rfl (.app (Only.set_sec (s := s)) rfl .refl)⟩
    exact Sec.setCfg_dbgOpen (x := s.sec)

end

/-! ### What the recovery ROM leaves of the SEC page (18 R642, R664) -/

section
variable {s : State} {v : Word} {f : RegFile} {rc code : Nat} {a b : Nat}

/-- A word that a run of writes to other words leaves. -/
theorem rget_foldl_rset {α : Type} {key : α → Nat} {val : RegFile → α → Word} {l : List α} (apart : ∀ x ∈ l, a ≠ key x) :
    rget (l.foldl (fun f x => rset (key x) (val f x) f) f) a = rget f a :=
  List.foldlRecOn (motive := fun g => rget g a = rget f a) _ _ rfl
    (fun _ hg x mem => (rget_rset_ne (apart x mem)).trans hg)

theorem State.writeMbDone_sec : rget (s.writeMbDone v).regs (rawOf 0x60) = rget s.regs (rawOf 0x60) := by
  unfold State.writeMbDone
  split
  · refine (State.report_regsOnly (rawOf 0x60) (by decide)).trans (rget_foldl_rset (fun i mem => ?_))
    have small := List.mem_range.mp mem
    unfold rawOf Reg.MB_RSP
    omega
  · exact State.report_regsOnly (rawOf 0x60) List.not_mem_nil

theorem State.romAnswer_sec : rget (s.romAnswer rc).regs (rawOf 0x60) = rget s.regs (rawOf 0x60) := by
  unfold State.romAnswer
  split
  · refine State.writeMbDone_sec.trans (rget_foldl_rset (fun x mem => ?_))
    unfold rawOf Reg.FP_MB_RSP
    have small : x.2 = 0 := by
      rw [List.zipIdx_singleton, List.mem_singleton] at mem
      rw [mem]
    omega
  · rfl

theorem State.romFail_sec : rget (s.romFail rc).regs (rawOf 0x60) = rget s.regs (rawOf 0x60) := State.romAnswer_sec

theorem State.norStart_sec {a : BitVec 24} : rget (s.norStart v a).regs (rawOf 0x60) = rget s.regs (rawOf 0x60) := by
  unfold State.norStart
  split
  · unfold State.norRefuse
    refine State.report_regsOnly_of (m := []) ?_ rfl (rawOf 0x60) List.not_mem_nil
    rw [List.flatMap_append]
    exact List.append_subset.mpr ⟨noteIf_words (List.nil_subset _), List.nil_subset _⟩
  · exact State.report_regsOnly_of (m := []) (List.nil_subset _) rfl (rawOf 0x60) List.not_mem_nil

theorem State.writeNor_sec : rget (s.writeNor v).regs (rawOf 0x60) = rget s.regs (rawOf 0x60) := by
  unfold State.writeNor
  dsimp only
  split
  · rfl
  · split
    · rfl
    · exact State.norStart_sec

/-- A flash command of the ROM leaves the events of SEC. -/
theorem State.romIssue_sec {x : RomStep} {r : List RomStep} (steps : s.fst.rom.steps = x :: r) :
    rget s.romIssue.regs (rawOf 0x60) = rget s.regs (rawOf 0x60) := by
  have filled : rget (rset Reg.FP_SPI_ADDR (at32 0 x.addr) (norFill s.regs x.bytes)) (rawOf 0x60) = rget s.regs (rawOf 0x60) := by
    refine (rget_rset_ne (by decide)).trans (rget_foldl_rset (fun i mem => ?_))
    have small := List.mem_range.mp mem
    unfold rawOf Reg.FP_SPI_BUF
    omega
  unfold State.romIssue
  rw [steps]
  dsimp only
  generalize hw : ({ s with regs := rset Reg.FP_SPI_ADDR (at32 0 x.addr) (norFill s.regs x.bytes) } : State) = w
  have regs : w.regs = rset Reg.FP_SPI_ADDR (at32 0 x.addr) (norFill s.regs x.bytes) := by rw [← hw]
  have kept : rget w.regs (rawOf 0x60) = rget s.regs (rawOf 0x60) := by rw [regs, filled]
  split
  · exact State.romFail_sec
  · split
    · exact State.writeNor_sec.trans kept
    · exact State.romFail_sec.trans (State.writeNor_sec.trans kept)

theorem State.romVerified_sec : rget (s.romVerified code).regs (rawOf 0x60) = rget s.regs (rawOf 0x60) := by
  unfold State.romVerified
  dsimp only
  split
  · split
    · exact State.romFail_sec
    · split
      · exact State.romFail_sec
      · exact State.romIssue_sec rfl
  · rfl

theorem State.romVerified_waits (h : ∀ b, s.fst.rom.op ≠ .verify b) : s.romVerified code = s := by
  unfold State.romVerified
  dsimp only
  split
  case h_1 slotB op => exact absurd op (h slotB)
  · rfl

end

/-! ### SEC_COMMAND_END -/

section
variable {s m : State} {t : Nat} {j : SecJob} {slot dir : List Byte}

/-- The state after the effect of the command in progress: it is no longer in progress, and is done. -/
def State.secDone (s : State) : State :=
  { s with sec := { s.sec with job := none, done := true } }.report [.irq 0x60 0, Note.hit Reg.SEC_CMDSTAT 2]

theorem State.secFinish_ends (job : s.sec.job = some j) : s.secFinish slot dir = (s.secEnd j slot dir).secDone := by
  unfold State.secFinish
  rw [job]
  rfl

theorem State.secDone_does : RegsOnly [rawOf 0x60] s s.secDone ∧ s.secDone.sec = { s.sec with job := none, done := true } ∧
    s.secDone.fst = s.fst ∧ Only [.now, .regs, .sec] s s.secDone :=
  ⟨State.report_regsOnly_of (fun _ h => h) rfl, rfl, rfl, .app State.report_parts rfl
      (.app (Only.set_sec (s := s)) rfl .refl)⟩

theorem secCommandEnd_idle (on : s.coreOn = true) (idle : s.sec.job = none) :
    exec (.secCommandEnd t slot dir) s = .next (s.stamp t) := by
  refine (onCore_on on : execSecCommandEnd t slot dir s = _).trans (congrArg _ ?_)
  have same : (s.stamp t).secFinish slot dir = s.stamp t := by
    unfold State.secFinish
    rw [show (s.stamp t).sec.job = none from idle]
  unfold State.secOver
  rw [same]
  refine State.when_false ?_
  rw [show (s.stamp t).sec.job = none from idle]
  rfl

/-- The end of a command: its effect, then the ROM where it waits for it. -/
theorem secCommandEnd_on (on : s.coreOn = true) (job : s.sec.job = some j) :
    ∃ code, exec
        (.secCommandEnd t slot dir) s = .next (((s.stamp t).secEnd j slot dir).secDone.when (s.fst.st == .recovery)
      (State.romVerified code)) := by
  obtain ⟨-, st, -, -⟩ := State.secEnd_does (s := s.stamp t) (j := j) (slot := slot) (dir := dir)
  have e : exec (.secCommandEnd t slot dir) s = .next ((s.stamp t).secOver slot dir) := onCore_on on
  unfold State.secOver at e
  dsimp only at e
  rw [State.secFinish_ends (s := s.stamp t) job, show (s.stamp t).sec.job = some j from job,
    State.secDone_does.2.2.1, st] at e
  exact ⟨_, e⟩

theorem secCommandEnd_does (on : s.coreOn = true) (canon : s.Canonical) (job : s.sec.job = some j) :
    ∃ n, exec (.secCommandEnd t slot dir) s = .next n ∧ n.sec.job = none ∧ n.sec.done = true ∧
      bit (rget n.regs (rawOf 0x60)) 0 = true ∧ n.sec.dbgOpen = s.sec.dbgOpen := by
  obtain ⟨code, e⟩ := secCommandEnd_on (t := t) (slot := slot) (dir := dir) on job
  obtain ⟨debug, -, -, parts⟩ := State.secEnd_does (s := s.stamp t) (j := j) (slot := slot) (dir := dir)
  generalize (s.stamp t).secEnd j slot dir = m at e debug parts
  have event : bit (rget m.secDone.regs (rawOf 0x60)) 0 = true :=
    State.report_event canon.regs (parts .regs rfl) (fun _ => rfl) (by decide)
  have sec : (m.secDone.when (s.fst.st == .recovery) (State.romVerified code)).sec = m.secDone.sec :=
    State.when_cases (p := fun n => n.sec = m.secDone.sec) (State.romVerified_only .sec rfl) rfl
  have regs : rget (m.secDone.when (s.fst.st == .recovery) (State.romVerified code)).regs (rawOf 0x60) =
      rget m.secDone.regs (rawOf 0x60) :=
    State.when_cases (p := fun n => rget n.regs (rawOf 0x60) = rget m.secDone.regs (rawOf 0x60)) State.romVerified_sec rfl
  exact ⟨_, e, (congrArg Sec.job sec).trans rfl, (congrArg Sec.done sec).trans rfl, (congrArg (bit · 0) regs).trans event,
    (congrArg Sec.dbgOpen sec).trans debug⟩

/-- Where the ROM waits for no verification, the end is the command's effect alone. -/
theorem secCommandEnd_alone (on : s.coreOn = true) (job : s.sec.job = some j)
    (alone : s.fst.st ≠ .recovery ∨ (∀ b, s.fst.rom.op ≠ .verify b)) :
    exec (.secCommandEnd t slot dir) s = .next ((s.stamp t).secEnd j slot dir).secDone := by
  obtain ⟨code, e⟩ := secCommandEnd_on (t := t) (slot := slot) (dir := dir) on job
  obtain ⟨-, -, rom, -⟩ := State.secEnd_does (s := s.stamp t) (j := j) (slot := slot) (dir := dir)
  refine e.trans (congrArg _ ?_)
  rcases alone with away | idle
  · exact State.when_false (beq_false_of_ne away)
  · refine State.when_cases (p := (· = ((s.stamp t).secEnd j slot dir).secDone)) (State.romVerified_waits ?_) rfl
    rw [State.secDone_does.2.2.1, rom]
    exact idle

end

/-- Settles O59. -/
theorem securityCommands : Obligations.SecurityCommands := by
  unfold Obligations.SecurityCommands
  refine ⟨fun t v s awake write => ⟨fun k h => ?_, fun idle key => ⟨fun phase => ?_, fun low => ?_, fun full => ?_, fun bad => ?_,
    fun shut => ?_, fun shut rail => ⟨?_, fun phase => ?_, fun low high i blank => ?_, fun a ha low high blank open_ => ?_,
      fun good => ?_⟩⟩⟩, fun t slot dir s on canon => ⟨fun idle => secCommandEnd_idle on idle,
    fun j job => secCommandEnd_does on canon job, fun j job alone => ?_⟩⟩
  · obtain ⟨op, row, addr, y, e⟩ := exec_secCommand write awake h
    exact ⟨fun busy => refused_of (e.trans (congrArg _ (State.secStart_busy (s := s.stamp t) busy))),
      fun idle key => refused_of (e.trans (congrArg _ (State.secStart_key (s := s.stamp t) idle key)))⟩
  · have e : exec (.load t v) s = .next ((s.stamp t).cmdLoad v) := onSec_on write awake
    unfold State.cmdLoad at e
    rw [show (s.stamp t).sec.romPhase = false from phase] at e
    exact refused_of (e.trans (congrArg _ (State.secStart_row (s := s.stamp t) idle key (by decide))))
  · have e : exec (.arbRaise t v) s = .next ((s.stamp t).cmdArb v) := onSec_on write awake
    have row : (s.stamp t).sec.arbCode (s.stamp t).imgBefore (s.stamp t).arbReq = 5 := if_pos (.inl low)
    unfold State.cmdArb at e
    rw [row] at e
    exact refused_of (e.trans (congrArg _ (State.secStart_row (s := s.stamp t) idle key (by decide))))
  · have e : exec (.otpProg t v) s = .next ((s.stamp t).cmdProg v) := onSec_on write awake
    have row : (s.stamp t).sec.progCode (fld (rget (s.stamp t).regs Reg.SEC_OTPADDR) 0 9) = 4 :=
      if_pos (.inr
          (.inr (by rw [show (s.stamp t).sec.blank (fld (rget (s.stamp t).regs Reg.SEC_OTPADDR) 0 9) = false from full]; rfl)))
    unfold State.cmdProg at e
    dsimp only at e
    rw [row] at e
    exact refused_of (e.trans (congrArg _ (State.secStart_row (s := s.stamp t) idle key (by decide))))
  · have e : exec (.cfgSet t v) s = .next ((s.stamp t).cmdCfg v) := onSec_on write awake
    exact refused_of (e.trans (congrArg _ (State.secStart_row (s := s.stamp t) idle key bad)))
  · have e : exec (.verify t v) s = .next ((s.stamp t).cmdVerify v) := onSec_on write awake
    exact refused_of (e.trans (congrArg _ (State.secStart_window (s := s.stamp t) idle key shut)))
  · have e : exec (.verify t v) s = .next ((s.stamp t).cmdVerify v) := onSec_on write awake
    obtain ⟨n, e', sec, parts⟩ := started_of (e.trans (congrArg _ (State.secStart_starts (s := s.stamp t) idle key shut rail)))
    exact ⟨n, _, e', sec, rfl, rfl, parts⟩
  · have e : exec (.load t v) s = .next ((s.stamp t).cmdLoad v) := onSec_on write awake
    unfold State.cmdLoad at e
    rw [show (s.stamp t).sec.romPhase = true from phase] at e
    obtain ⟨n, e', sec, parts⟩ := started_of (e.trans (congrArg _ (State.secStart_starts (s := s.stamp t) idle key shut rail)))
    exact ⟨n, _, e', sec, rfl, rfl, parts⟩
  · have e : exec (.arbRaise t v) s = .next ((s.stamp t).cmdArb v) := onSec_on write awake
    have row : (s.stamp t).sec.arbCode (s.stamp t).imgBefore (s.stamp t).arbReq = 0 := by
      refine (if_neg ?_).trans (if_neg ?_)
      · rintro (below | ⟨-, above⟩)
        · exact absurd low (Nat.lt_asymm below)
        · exact absurd high (Nat.not_le_of_lt above)
      · rintro ⟨-, none_⟩
        rw [show (s.stamp t).sec.firstBlank = some i from blank] at none_
        exact Bool.false_ne_true none_
    unfold State.cmdArb at e
    rw [row, show (s.stamp t).sec.firstBlank = some i from blank] at e
    obtain ⟨n, e', sec, parts⟩ := started_of (e.trans (congrArg _ (State.secStart_starts (s := s.stamp t) idle key shut rail)))
    exact ⟨n, _, e', sec, rfl, rfl, rfl, parts⟩
  · have e : exec (.otpProg t v) s = .next ((s.stamp t).cmdProg v) := onSec_on write awake
    have row : (s.stamp t).sec.progCode (fld (rget (s.stamp t).regs Reg.SEC_OTPADDR) 0 9) = 0 := by
      refine (if_neg ?_).trans (if_neg open_)
      subst ha
      rintro (below | above | full)
      · exact absurd low (Nat.not_le_of_lt below)
      · exact absurd high (Nat.not_le_of_lt above)
      · rw [show (s.stamp t).sec.blank (fld (rget (s.stamp t).regs Reg.SEC_OTPADDR) 0 9) = true from blank] at full
        exact Bool.false_ne_true full
    unfold State.cmdProg at e
    dsimp only at e
    rw [row] at e
    obtain ⟨n, e', sec, parts⟩ := started_of (e.trans (congrArg _ (State.secStart_starts (s := s.stamp t) idle key shut rail)))
    exact ⟨n, _, e', sec, rfl, ha.symm, rfl, parts⟩
  · have e : exec (.cfgSet t v) s = .next ((s.stamp t).cmdCfg v) := onSec_on write awake
    unfold State.cmdCfg at e
    rw [show (s.stamp t).sec.cfgCode (s.stamp t).otpData = 0 from good] at e
    obtain ⟨n, e', sec, parts⟩ := started_of (e.trans (congrArg _ (State.secStart_starts (s := s.stamp t) idle key shut rail)))
    exact ⟨n, _, e', sec, rfl, rfl, parts⟩
  · have stamped : (s.stamp t).Canonical := .only State.stamp_only rfl canon
    have e := secCommandEnd_alone (t := t) (slot := slot) (dir := dir) on job alone
    obtain ⟨-, -, -, parts⟩ := State.secEnd_does (s := s.stamp t) (j := j) (slot := slot) (dir := dir)
    obtain ⟨words, sec, fst, done⟩ := State.secDone_does (s := (s.stamp t).secEnd j slot dir)
    have prog (op : j.op = 4 ∨ (j.op = 3 ∧ j.v.toNat ≠ s.sec.arb)) :
        ((s.stamp t).secEnd j slot dir).fst = s.fst ∧ ((s.stamp t).secEnd j slot dir).sec = s.sec.program j.addr j.v.toNat := by
      rcases op with op | ⟨op, new_⟩
      · rw [State.secEnd_prog op]
        exact ⟨rfl, rfl⟩
      · rw [State.secEnd_arb op]
        obtain ⟨sec, parts⟩ := State.arbEnd_raises (s := s.stamp t) new_
        exact ⟨parts .fst rfl, sec⟩
    refine ⟨_, e, fun a ha => (words a ha).trans (congrArg (rget · a) (parts .regs rfl)), fun op => ?_, fun op => ⟨?_, fun p good opened => ?_⟩,
      fun op => ⟨?_, ?_, fun w other => ?_⟩, fun op same => ?_, .app done rfl
          (.app parts rfl (State.stamp_only.mono rfl))⟩
    · rw [sec, fst, State.secEnd_verify op]
      obtain ⟨own, parts⟩ := State.secVerify_does (s := s.stamp t) (z := j.arg) (slot := slot) (dir := dir)
      rw [own]
      obtain ⟨img, -, first, second⟩ := Sec.result_keeps (x := s.sec) (z := j.arg) (c := s.sec.verify slot dir)
      exact ⟨Sec.result_judges.1, parts .fst rfl, img, first, second⟩
    · rw [sec, State.secEnd_load op]
      exact State.secLoad_does.1
    · rw [sec, fst, State.secEnd_load op]
      exact State.secLoad_loads stamped good opened
    · rw [fst]
      exact (prog op).1
    · rw [sec, (prog op).2]
      exact Sec.otpWord_program_self canon.otp j.v.isLt
    · rw [sec, (prog op).2]
      exact Sec.otpWord_program_ne canon.otp other
    · rw [sec, State.secEnd_arb op, State.arbEnd_same (s := s.stamp t) same]
      rfl

end Sys2Proof.Machine
end

section
/-! Authenticated debug access -/

namespace Sys2Proof.Machine

open Sys2Proof

section
variable {s m : State} {t k : Nat} {l : BitVec 2} {sig key : List Byte} {op : DebugOp}

/-! ### Challenges and responses (19 R683–R685, R689) -/

theorem State.logHw_grows {code src data : Nat} : Grows s (s.logHw code src data) := by
  unfold State.logHw State.logBy
  split
  · exact .trans (.of_flt rfl) State.report_grows
  · exact .refl

theorem State.debugOpen_does (on : s.coreOn = true) (canon : smWf regReset s.regs = true) :
    (s.debugOpen l k).sec = { s.sec with dbgOpen := true, dbgLevel := l, chalAt := none } ∧
      Src.SEC_DBGOPEN ∈ (s.debugOpen l k).flt.raised ∧ bit (rget (s.debugOpen l k).regs (rawOf 0x60)) 1 = true ∧
      RegsOnly [rawOf 0x60] s (s.debugOpen l k) ∧ (s.debugOpen l k).log.wr = s.log.wr + 1 ∧
      Only [.now, .regs, .flt, .sec, .log] s (s.debugOpen l k) := by
  unfold State.debugOpen
  generalize hm : State.report [.irq 0x60 1, .raise Src.SEC_DBGOPEN]
    { s with sec := { s.sec with dbgOpen := true, dbgLevel := l, chalAt := none } } = m
  have sec : m.sec = { s.sec with dbgOpen := true, dbgLevel := l, chalAt := none } := by rw [← hm]; rfl
  have raised : Src.SEC_DBGOPEN ∈ m.flt.raised := by
    rw [← hm]
    exact List.mem_append_right _ (List.mem_singleton.mpr rfl)
  have event : bit (rget m.regs (rawOf 0x60)) 1 = true := by
    rw [← hm]
    exact State.report_event canon rfl (fun _ => rfl) (by decide)
  have words : RegsOnly [rawOf 0x60] s m := hm ▸ State.report_regsOnly_of (fun _ h => h) rfl
  have parts : Only [.now, .regs, .flt, .sec] s m := by
    rw [← hm]
    exact .app State.report_parts rfl (.app (Only.set_sec (s := s)) rfl .refl)
  have on' : m.coreOn = true := by rw [← hm]; exact on
  have logged : Only [.flt, .log] m (m.logHw 0x0051 0xFF (l.toNat + k * 16)) := State.logHw_parts
  refine ⟨(logged .sec rfl).trans sec, State.logHw_grows.mem raised, ?_, fun a ha => ?_, ?_, .app logged rfl (parts.mono rfl)⟩
  · rw [logged .regs rfl]
    exact event
  · exact (congrArg (rget · a) (logged .regs rfl)).trans (words a ha)
  · rw [State.logHw_wr on', parts .log rfl]

theorem State.debugFail_does : s.debugFail.sec = { s.sec with chalAt := none, failAt := some s.now } ∧
    Src.SEC_DBGFAIL ∈ s.debugFail.flt.raised ∧ Only [.flt, .sec] s s.debugFail :=
  ⟨rfl, List.mem_append_right _ (List.mem_singleton.mpr rfl),
    .app State.report_parts rfl (.app (Only.set_sec (s := s)) rfl .refl)⟩

/-- Reads of OTP words that fail their check are reported, and nothing else. -/
theorem State.otpReport_parts {bad : Bool} : Only [.flt] s (s.report (otpNotes bad)) := State.report_parts.mono otpNotes_parts

theorem exec_secResp_on {j : BitVec 3} (on : s.coreOn = true) (fresh : s.Fresh (.secResp t l j sig key)) :
    exec (.secResp t l j sig key) s = .next ((s.stamp t).respond l j.toNat sig key) :=
  (onCore_on on : execSecResp t l j sig key s = _).trans (congrArg _ (State.once_fresh fresh))

theorem secResp_opens {j : BitVec 3} (on : s.coreOn = true) (canon : s.Canonical) (fresh : s.Fresh
    (.secResp t l j sig key))
    (opens : s.sec.opens (max s.now t) l j.toNat sig key = true) : ∃ n, exec (.secResp t l j sig key) s = .next n ∧
      n.sec = { s.sec with dbgOpen := true, dbgLevel := l, chalAt := none } ∧ Src.SEC_DBGOPEN ∈ n.flt.raised ∧
      bit (rget n.regs (rawOf 0x60)) 1 = true ∧ RegsOnly [rawOf 0x60] s n ∧ n.log.wr = s.log.wr + 1 ∧
      Only [.now, .regs, .flt, .sec, .log] s n := by
  obtain ⟨sec, raised, event, words, wr, parts⟩ := State.debugOpen_does (s := s.stamp t) (l := l) (k := j.toNat) on canon.regs
  have judged : (s.stamp t).respond l j.toNat sig key = ((s.stamp t).debugOpen l j.toNat).report
      (otpNotes (s.sec.cfgSplit || s.sec.wordsBad (slotWords j.toNat))) :=
    congrArg (State.report _) (if_pos opens)
  have e := (exec_secResp_on on fresh).trans (congrArg _ judged)
  generalize (s.stamp t).debugOpen l j.toNat = m at e sec raised event words wr parts
  have last : Only [.flt] m (m.report (otpNotes (s.sec.cfgSplit || s.sec.wordsBad (slotWords j.toNat)))) := State.otpReport_parts
  refine ⟨_, e, (last .sec rfl).trans sec, State.report_grows.mem raised, ?_, fun a ha => ?_, (congrArg Log.wr (last .log rfl)).trans wr,
    .app last rfl (.app parts rfl (State.stamp_only.mono rfl))⟩
  · rw [last .regs rfl]
    exact event
  · exact (congrArg (rget · a) (last .regs rfl)).trans (words a ha)

theorem secResp_fails {j : BitVec 3} (on : s.coreOn = true) (fresh : s.Fresh (.secResp t l j sig key))
    (shut : s.sec.opens (max s.now t) l j.toNat sig key = false) : ∃ n, exec (.secResp t l j sig key) s = .next n ∧
      n.sec = { s.sec with chalAt := none, failAt := some (max s.now t) } ∧ Src.SEC_DBGFAIL ∈ n.flt.raised ∧
      Only [.now, .flt, .sec] s n := by
  obtain ⟨sec, raised, parts⟩ := State.debugFail_does (s := s.stamp t)
  have judged : (s.stamp t).respond l j.toNat sig key = (s.stamp t).debugFail.report
      (otpNotes (s.sec.cfgSplit || s.sec.wordsBad (slotWords j.toNat))) :=
    congrArg (State.report _) (if_neg (ne_true_of_eq_false shut))
  have e := (exec_secResp_on on fresh).trans (congrArg _ judged)
  generalize (s.stamp t).debugFail = m at e sec raised parts
  exact ⟨_, e, (State.otpReport_parts .sec rfl).trans sec, State.report_grows.mem raised,
    .app State.otpReport_parts rfl (.app parts rfl (State.stamp_only.mono rfl))⟩

theorem State.debugOpen_now : (s.debugOpen l k).now = s.now := by
  unfold State.debugOpen
  rw [(State.logHw_parts .now rfl).1]
  rfl

theorem State.respond_now : (s.respond l k sig key).now = s.now := by
  unfold State.respond
  rw [State.report_now]
  split
  · exact State.debugOpen_now
  · rfl

/-- Responses judged first pass no time. -/
theorem State.respFirst_now : s.respFirst.now = s.now := by
  refine State.takeFirst_induction (P := fun v => v.now = s.now) (fun _ _ h => h) (fun k f found v hv => ?_) rfl
  split at found
  · obtain rfl := Option.some.inj found
    exact State.respond_now.trans hv
  · cases found

theorem exec_secChal_on (on : s.coreOn = true) : exec (.secChal t) s =
    .next ((s.stamp t).respFirst.when (!(s.stamp t).respFirst.chalBarred) State.challenge) :=
  (onCore_on on : execSecChal t s = _)

/-- A challenge given: its nonce, the die identifier and LCS are shifted out. -/
theorem State.challenge_does : s.challenge.sec = { s.sec with
      nonce := toBytesBE 32 (Config.entropy s.free).toNat, chalAt := some s.now } ∧
    s.challenge.out = .jtag (toBytesBE 32 (Config.entropy s.free).toNat ++ dieBytes ++ [BitVec.ofNat 8 s.sec.lcs]) :: s.out ∧
    Only [.free, .sec, .out] s s.challenge :=
  ⟨rfl, rfl, .app State.spend_only rfl (.app State.report_parts rfl (.app (Only.set_sec (s := s)) rfl .refl))⟩

/-! ### Debug actions (19 R682, R684) -/

theorem exec_debugAccess_on (on : s.coreOn = true) : exec (.debugAccess t op) s = .next ((s.stamp t).debug op) :=
  (onCore_on on : execDebugAccess t op s = _)

theorem State.debugAt_true {i : Nat} (opened : s.sec.dbgOpen = true) (level : i ≤ s.sec.dbgLevel.toNat) : s.debugAt i = true := by
  rw [State.debugAt, opened, decide_eq_true level]
  rfl

theorem State.debugAt_shut {i : Nat} (shut : s.sec.dbgOpen = false) : s.debugAt i = false := by
  rw [State.debugAt, shut, Bool.false_and]

/-- While debug is not open, no action but IDCODE has an effect. -/
theorem State.debug_shut (shut : s.sec.dbgOpen = false) (other : op ≠ .idcode) : s.debug op = s := by
  unfold State.debug
  cases op with
  | idcode => exact absurd rfl other
  | halt | step => exact State.when_false (by rw [State.debugAt_shut shut, Bool.false_and])
  | resume | reset | read | write | extest | sample => exact State.when_false (State.debugAt_shut shut)

/-- A word of the TCM written through the debug port. -/
theorem State.debugWrite_tcm {a : Nat} {v : Word} (canon : s.Canonical) (low : 0x10000000 ≤ a) (high : a < 0x10040000) (aligned : a % 4 = 0) :
    (s.debugWrite a v).fst.tcm.le (a - 0x10000000) 4 = v.toNat ∧ Only [.fst] s (s.debugWrite a v) := by
  have place : placeOf a = .tcm ((a - 0x10000000) / 4) := by
    unfold placeOf
    rw [if_neg (not_not_intro aligned), if_neg (by omega), if_pos ⟨low, high⟩]
  have word : 4 * ((a - 0x10000000) / 4) = a - 0x10000000 := by omega
  have e : s.debugWrite a v = s.debugTcmPut ((a - 0x10000000) / 4) v := by
    unfold State.debugWrite
    rw [place]
  rw [e]
  refine ⟨?_, Only.set_fst⟩
  show ofBytesLE (Memory.readN zeroByte (Memory.writeL zeroByte s.fst.tcm.cells (4 * ((a - 0x10000000) / 4)) (toBytesLE 4 v.toNat))
    (a - 0x10000000) 4) = v.toNat
  have back := Memory.readN_writeL_self (a := a - 0x10000000) (l := toBytesLE 4 v.toNat) canon.tcm
  rw [toBytesLE_length] at back
  rw [word, back, ofBytesLE_toBytesLE v.isLt]

end

/-- Settles O60. -/
theorem authenticatedDebug : Obligations.AuthenticatedDebug := by
  unfold Obligations.AuthenticatedDebug
  intro t s on canon
  refine ⟨fun m hm => ⟨fun free => ?_, fun f failed soon => ?_⟩, fun l k sig key fresh opens => secResp_opens on canon fresh opens,
    fun l k sig key fresh shut => secResp_fails on fresh shut, fun coming => ?_, fun none_ => ?_, ?_, fun shut op other => ?_,
    fun opened level => ⟨fun awake => ?_, fun a v low high aligned => ?_⟩, fun opened low l => ?_, fun opened level l => ?_⟩
  · have now := State.respFirst_now (s := s.stamp t)
    have entropy : (s.stamp t).respFirst.free = s.free := State.respFirst_only .free rfl
    have e := exec_secChal_on (t := t) on
    rw [← hm] at e now entropy
    have may : (!m.chalBarred) = true := by rw [State.chalBarred, free]; rfl
    rw [State.when_true may] at e
    obtain ⟨sec, out, parts⟩ := State.challenge_does (s := m)
    rw [entropy] at sec out
    refine ⟨_, e, ?_, ?_, ?_, ?_, parts.mono rfl⟩
    · rw [sec, now]; rfl
    · rw [sec]
    · rw [out, sec]
    · rw [sec]
  · have now := State.respFirst_now (s := s.stamp t)
    have e := exec_secChal_on (t := t) on
    rw [← hm] at e now
    have barred : m.chalBarred = true := by
      rw [State.chalBarred, failed, now]
      exact decide_eq_true soon
    rw [State.when_false (by rw [barred]; rfl)] at e
    exact e
  · exact (onCore_on on : execChallengeExpiry t s = _).trans (congrArg _ (State.when_false (by rw [coming]; rfl)))
  · exact ⟨_, (onCore_on on : execChallengeExpiry t s = _).trans (congrArg _ (State.when_true (by rw [none_]; rfl))), rfl,
      .app (Only.set_sec (s := s.stamp t)) rfl (State.stamp_only.mono rfl)⟩
  · exact ⟨_, exec_debugAccess_on on, rfl, .app (State.report_parts (l := jtagWord 0x14410B47)) rfl (State.stamp_only.mono rfl)⟩
  · exact (exec_debugAccess_on on).trans (congrArg _ (State.debug_shut (s := s.stamp t) shut other))
  · have at1 : (s.stamp t).debugAt 1 = true := State.debugAt_true opened level
    have may : ((s.stamp t).debugAt 1 && (s.stamp t).fst.st != .reset) = true := by
      rw [at1, show ((s.stamp t).fst.st != .reset) = true from bne_iff_ne.mpr awake]
      rfl
    have halts : (s.stamp t).debug .halt = { s.stamp t with fst := { s.fst with halted := true } } := by
      unfold State.debug
      exact State.when_true may
    exact ⟨_, (exec_debugAccess_on on).trans (congrArg _ halts), rfl,
      .app (Only.set_fst (s := s.stamp t)) rfl (State.stamp_only.mono rfl)⟩
  · have at1 : (s.stamp t).debugAt 1 = true := State.debugAt_true opened level
    obtain ⟨word, parts⟩ := State.debugWrite_tcm (s := s.stamp t) (v := v)
        (.only State.stamp_only rfl canon) low high aligned
    exact ⟨_, (exec_debugAccess_on on).trans (congrArg _ (State.when_true at1)), word, .app parts rfl (State.stamp_only.mono rfl)⟩
  · refine (exec_debugAccess_on on).trans (congrArg _ (State.when_false ?_))
    rw [State.debugAt, show (s.stamp t).sec.dbgLevel = s.sec.dbgLevel from rfl, decide_eq_false (Nat.not_le_of_lt low), Bool.and_false]
  · have at2 : (s.stamp t).debugAt 2 = true := State.debugAt_true opened level
    exact ⟨_, (exec_debugAccess_on on).trans (congrArg _ (State.when_true at2)), rfl,
      .app (State.report_parts (l := [.send (.extest l)])) rfl (State.stamp_only.mono rfl)⟩

end Sys2Proof.Machine
end
